-- ==== Sys2Proof/Word.lean ====
section
/-!
DEFINITION. The word and byte types, and the plainest arithmetic on integers that the rules of the spec use: rounding half away
from zero (rule R515), saturation (rule R13) and clamping.
-/
namespace Sys2Proof

/-- A register word: registers are 32-bit words (R10). -/
abbrev Word := BitVec 32

/-- One byte. -/
abbrev Byte := BitVec 8

/-- Rounding to the nearest integer, halves away from zero (R515), for a quotient of integers; 0 where the denominator is not positive. -/
def roundDivInt (a b : Int) : Int :=
  if b ≤ 0 then 0 else if 0 ≤ a then (2 * a + b) / (2 * b) else -((2 * (-a) + b) / (2 * b))

/-- The value held between two bounds. -/
def clampInt (lo hi v : Int) : Int := if v < lo then lo else if hi < v then hi else v

/-- The ceiling of a quotient of naturals. -/
def ceilDiv (a b : Nat) : Nat := (a + b - 1) / b

end Sys2Proof
end

