-- ==== Sys2Proof/Config.lean ====
section
/-!
DEFINITION. What an implementation fixes (the family member and its unit counts, rules R2 to R6) and the free values: values that
the spec leaves open are read from opaque constants, so that nothing can be proved about which value they are.
-/
namespace Sys2Proof

/-- The family members of rule R2. -/
inductive Member where
  | lv7240
  | lv7220
  | lv7210
deriving DecidableEq, Repr

/-- H of rule R2: how many of each group of 16 indexes a member provides. -/
def Member.h : Member → Nat
  | .lv7240 => 16
  | .lv7220 => 8
  | .lv7210 => 4

/-- Channel contexts of the member (R2). -/
def Member.contexts : Member → Nat
  | .lv7240 => 4096
  | .lv7220 => 2048
  | .lv7210 => 1024

/-- Fronthaul lanes of the member per side (R2). -/
def Member.lanesPerSide : Member → Nat
  | .lv7210 => 2
  | _ => 4

/-- The part code of SYS_DEVICE_ID (R4). -/
def Member.part : Member → Nat
  | .lv7240 => 0x7240
  | .lv7220 => 0x7220
  | .lv7210 => 0x7210

/-- An index of a kind that R2 splits into groups of 16 is present when its position in its group is below H. -/
def Member.present (m : Member) (i : Nat) : Bool := decide (i % 16 < m.h)

/-- The free values: the n-th value that the spec leaves open, of a width that the reader cuts to its need. No body: nothing is known of it. -/
opaque Config.freeValue : Nat → BitVec 64

/-- The TYPE of a HALF_SWITCH journal entry (R374), which the spec names and does not number (DESIGN CHOICE, log 243). -/
opaque Config.halfSwitchType : BitVec 16

/-- Word i of a key as it is stored, encrypted under the device storage key (R395): the cipher is not stated (DESIGN CHOICE, log 243). -/
opaque Config.storedKey : Nat → Nat → BitVec 32

end Sys2Proof
end

