-- ==== Sys2Proof/Syntax.lean ====
section
/-!
DEFINITION. The commands of the block: one constructor of `Instr` per row of the spec's opcode table, with the row's operands.
An operand of a register access is the initiator and the value; an operand of an event is the unit, and what the outside world
presents (a measured level, a received frame, a verdict of a cryptographic check).
-/
namespace Sys2Proof

/-- The identities of rule R46. -/
inductive Ident where
  | manufacturer
  | integrator
  | fieldService
  | device
  | domain (d : Fin 16)
deriving DecidableEq, Repr

/-- The four initiators (R23, R37); the packet engine serves an identity and keeps its state apart for each (R35). The debug port enters through
pair A's interface, under the identity of the slot that signed (R402). -/
inductive Init where
  | pcie
  | pairA
  | pairB
  | engine (id : Ident)
  | debug
deriving DecidableEq, Repr

/-- Code of an identity in the fields that hold one: domains 0x00 to 0x0F, integrator 0x10, manufacturer 0x11, field service 0x12. -/
def Ident.code : Ident → Nat
  | .domain d => d.val
  | .integrator => 0x10
  | .manufacturer => 0x11
  | .fieldService => 0x12
  | .device => 0x13

/-- The expert coefficient pairs (R54): those of the selected canceller instance (R121), and KI1, KI2, KP3 and KP4 of the context that the
writer's window selects (R166). -/
inductive CoefPair where
  | canMu
  | canLeak
  | canDelta
  | ctx (k : Fin 4)
deriving DecidableEq, Repr

/-- The place of the state that is kept per initiator: 0 to 2 for the first three, 3 plus the identity's code for the packet engine. -/
def Init.holder : Init → Nat
  | .pcie => 0
  | .pairA => 1
  | .pairB => 2
  | .engine id => 3 + id.code
  | .debug => 1

/-- The number of an initiator (R37). -/
def Init.number : Init → Nat
  | .pcie => 0
  | .pairA => 1
  | .pairB => 2
  | .engine _ => 3
  | .debug => 1

/-- The filtered limit input of a PWM channel takes a level (R428, R440), at a cycle of 5 ns counted from the start of the open period. -/
structure IlimEdge where
  high : Bool
  at_ : Nat
deriving DecidableEq, Repr

/-- How the burn of a lifecycle state's two fuse words ends (R391, R392): both are verified, or the first or the second fails. -/
inductive FuseEnd where
  | burned
  | firstFailed
  | secondFailed
deriving DecidableEq, Repr

/-- What the JTAG port is asked (R402, R405): an instruction, or an access of the debug port to a pair (`pairB` chooses pair B). -/
inductive JtagOp where
  | idcode
  | bypass
  | samplePreload
  | extest
  | dbgChal
  | dbgAuth
  | debugPort
  | halt (pairB : Bool)
  | resume (pairB : Bool)
  | step (pairB : Bool)
  | memRead (pairB : Bool) (addr : BitVec 32)
  | memWrite (pairB : Bool) (addr : BitVec 32) (value : Word)
  | other (code : Fin 64)
deriving DecidableEq, Repr

/-- The basic registers of a canceller instance other than CAN_CTRL (R137). -/
inductive CanReg where
  | ref (r : Fin 4)
  | clu (r : Fin 4)
  | adapt
  | probe
  | marginCfg
  | isoAssumed
deriving DecidableEq, Repr

/-- The line of the GNSS UART around a character (R212, R213), in cycles of CD43: how long it has been high, the lengths of its runs from its fall
on, low first, after which it stays high. -/
structure UartLine where
  idle : Nat
  runs : List Nat
deriving DecidableEq, Repr

/-- A pulse of the 1PPS input (R210): the level that its first edge goes to, and its width in nanoseconds. -/
structure PpsPulse where
  high : Bool
  widthNs : Nat
deriving DecidableEq, Repr

/-- A cell that the correlators detect at a predicted position (R204, R217): its PCI, the device time of the frame start that the SSB implies, and
the SFN of that frame. -/
structure SsbHit where
  pci : Fin 1024
  t : BitVec 64
  sfn : Fin 1024
deriving DecidableEq, Repr

/-- What starts a Foxglove shutdown (R238): oscillation of a transmit stream, noise of an uplink path, a timing group lost, the duty of an entry
at a stream, out-of-band emission of a stream, a remote mute of a domain. Streams are numbered from the first transmit stream. -/
inductive FoxCause where
  | osc (stream : Fin 32)
  | noise (path : Fin 32)
  | timing (group : Fin 8)
  | duty (stream : Fin 32) (entry : Fin 64)
  | oob (stream : Fin 32)
  | remote (domain : Fin 16)
deriving DecidableEq, Repr

/-- The power of a path's strip in a block of a transmit stream, in units of 2^-40 of full scale (R124). -/
structure StripOut where
  path : Fin 32
  strip : Fin 3456
  power : Nat
deriving DecidableEq, Repr

/-- What the matrix output sum delivers of a transmit stream in a block of 64 samples (R61, R124, R131, R235): whether the sum clipped, the mean
power in units of 2^-30 of full scale, the powers of the 64 bins in units of 2^-40, and those of the strips that paths write there. -/
structure TxBlock where
  stream : Fin 32
  clip : Bool
  power : Nat
  bins : List Nat
  strips : List StripOut
deriving DecidableEq, Repr

/-- The power of a context's carrier in one strip-symbol of a tick interval (R145), in units of 2^-40 of converter full scale. -/
structure StripLevel where
  row : Fin 280
  strip : Fin 3456
  power : Nat
deriving DecidableEq, Repr

/-- What reaches the canceller of a reference in a subband sample (R120, R125): its sample in units of 2^-15, and the amplitude of the probe symbol
in it. -/
structure RefIn where
  x : Int × Int
  amp : Nat
deriving DecidableEq, Repr

/-- A command packet as its transport delivers it (R313 to R316). -/
structure RawPkt where
  bytes : List (Fin 256)
deriving DecidableEq, Repr

/-- A management Ethernet frame (R326). `length` in bytes; addresses are IPv6 addresses of 128 bits; `source` stands for the sender's address
and port. -/
inductive MgeFrame where
  | solicit (length : Nat) (vlan : Option (Fin 4096)) (target : BitVec 128)
  | echo (length : Nat) (vlan : Option (Fin 4096)) (dest : BitVec 128) (data : Nat)
  | udp (length : Nat) (vlan : Option (Fin 4096)) (dest : BitVec 128) (port : Fin 65536) (fragment sumOk : Bool) (source : Nat) (pkt : RawPkt)
  | other (length : Nat) (vlan : Option (Fin 4096)) (fragment : Bool)
deriving DecidableEq, Repr

/-- What the receive lanes of a link group have locked (R288): 64 valid sync headers on each lane, or two extended-multiblock boundaries, with the
skew within 16 ns or not (R287). -/
inductive LaneSync where
  | headers
  | boundaries (skewOk : Bool)
deriving DecidableEq, Repr

/-- A PTP message (R305). `master` names the sender's port; times are in nanoseconds of PTP time, `corr` is the correctionField in units of
2^-16 ns with the path's asymmetry. Receive stamps are the device's own. -/
inductive PtpMsg where
  /-- Announce; `best` says that the alternate best master clock algorithm now chooses this master. -/
  | announce (domain : Fin 256) (master : Nat) (best : Bool)
  /-- Sync with its logSyncInterval and its receive stamp t2; a one-step Sync carries t1, a two-step Sync has it in its Follow_Up. -/
  | sync (domain : Fin 256) (master : Nat) (seq : Fin 65536) (interval : Int) (twoStep : Bool) (t1 : Nat) (t2 : Nat) (corr : Int)
  | followUp (domain : Fin 256) (master : Nat) (seq : Fin 65536) (t1 : Nat) (corr : Int)
  | delayReq (domain : Fin 256) (seq : Fin 65536) (corr : Int)
  /-- Delay_Resp; `mine` says that it is addressed to this port. -/
  | delayResp (domain : Fin 256) (mine : Bool) (seq : Fin 65536) (t4 : Nat) (corr : Int)
  | other
deriving DecidableEq, Repr

/-- A block of 16 samples in block floating point (R296): the exponent byte and 32 mantissas, I then Q. -/
structure IqBlock where
  exp : Fin 256
  mant : List Int
deriving DecidableEq, Repr

/-- A frame on a fronthaul lane (R295). -/
inductive FhFrame where
  /-- a frame that is relayed unread; `size` in bytes -/
  | other (size : Nat)
  /-- an eCPRI frame with C = 1 -/
  | concatenated
  /-- an eCPRI frame of a consumed type whose protocol revision is not 1 -/
  | badRevision
  /-- IQ data: PC_ID, SEQ_ID, blocks -/
  | iq (pcid seqId : Fin 65536) (blocks : List IqBlock)
  | ptp (m : PtpMsg)
  /-- one-way delay measurement (R307): identifier and stamp, in nanoseconds of the sender's PTP time -/
  | owdRequest (id : Fin 256) (stamp : Nat)
  | owdResponse (id : Fin 256) (stamp : Nat)
  /-- one-way delay measurement with another action type -/
  | owdOther (id action : Fin 256)
  /-- alignment (R308); `reserved` says that every reserved bit and byte is 0 -/
  | align (version group hop : Fin 256) (noPreempt reserved : Bool) (accOut : BitVec 32) (target : BitVec 16)
  /-- chain management (R310); `reserved` says that the reserved bytes are 0 -/
  | chain (dest src : Fin 65536) (hops : Fin 256) (reserved : Bool) (pkt : RawPkt)
  /-- an eCPRI frame of revision 1 with C = 0 as it stands on the wire: its message type and the bytes of its payload (R11) -/
  | ecpri (type : Fin 256) (payload : List (Fin 256))
deriving DecidableEq, Repr

/-- What arrives with a frame (R295 to R304): whether its FCS holds; when its first sample arrives at the pins, in ns; for an IQ frame whether its
samples missed their release where R298 leaves that open; the device's receive stamp; the residence of a PTP message; whether the relay buffer
of the other side has no room for it; and its IEEE 802.1Q tag. -/
structure FhArrival where
  fcsOk : Bool
  at_ : Nat
  late : Bool
  stamp : Nat
  residence : Int
  full : Bool
  tag : Option (Fin 65536) := none
deriving DecidableEq, Repr

/-- How the target of a two-wire transaction answered (R458 to R460): an address or a data byte not acknowledged, or everything
acknowledged, with the count byte of a counted block, the data bytes and the packet error check byte that were read, and for a write whether
its packet error check byte was acknowledged. -/
inductive TwbReply where
  | addrNack
  | dataNack (index : Fin 256)
  | complete (count : Fin 256) (data : List (Fin 256)) (pec : Fin 256)
deriving DecidableEq, Repr

/-- Bits 31 and 30 of a module's response (R255): a module calibration runs, and the module's PA protection has acted. -/
structure ModFlags where
  calBusy : Bool
  paFault : Bool
deriving DecidableEq, Repr

/-- Where a two-wire controller lost arbitration (R462): in an address or data bit, in the STOP (what had been read stands), in a repeated
start. -/
inductive ArbPoint where
  | bits
  | stop (count : Fin 256) (data : List (Fin 256)) (pec : Fin 256)
  | restart
deriving DecidableEq, Repr

/-- How an operation of the NV array ends (R376): a program or erase passes or fails its verification; a read finds a word that SECDED corrects, or
one that it cannot correct. -/
inductive NvEnd where
  | passed
  | failed
  | corrected (addr : Fin 0x1000000)
  | uncorrectable (addr : Fin 0x1000000)
deriving DecidableEq, Repr

/-- What the ROM finds when it verifies images at a boot, a wake or a pair reset (R96, R399, R400): whether the signatures of the firmware and of
the extension of each bank verify, whether that of the boot image does, whether the image's recount agrees, and whether the stored regulatory set as read fails its CRC
(R232). -/
structure BootVerdict where
  fw : BitVec 2
  ext : BitVec 2
  imgSig : Bool
  imgRecount : Bool
  regBad : Bool := false
deriving DecidableEq, Repr

/-- The commands. -/
inductive Instr where
  /-- REGISTER_WRITE (R35): A register write with no behaviour of its own passes the access-form, lifecycle, ownership, expert and lock checks and applies or is refused. -/
  | registerWrite (who : Init) (addr : BitVec 18) (value : Word) (sub : Bool)
  /-- STOPPED_BLOCK_ACCESS_DONE (R36): An access to a page whose clock is stopped or held in reset completes after 2 µs: the read returns 0, the write is discarded and the refusal is recorded in SYS. -/
  | stoppedBlockAccessDone (who : Init) (page : Fin 64) (write : Bool)
  /-- DEVTIME_LO_READ (R23): A read of CLK_DEVTIME_LO or another _LO register returns the low word and latches the upper word into the reading initiator's shadow. -/
  | devtimeLoRead (who : Init)
  /-- PLLA_FIRST_LOCK (R21): PLL-A locks for the first time after power-on reset, and device time is set to 0. -/
  | pllaFirstLock
  /-- US_STROBE (R24): The accumulator emits a microsecond strobe at device-time tick ceil(n × 6,144 / 25) and advances the strobe count. -/
  | usStrobe
  /-- MS_STROBE (R24): Every 1,000th microsecond strobe emits the millisecond strobe, which drives the millisecond timers. -/
  | msStrobe (upset : List (Fin 4096 × Fin 64 × Word))
  /-- SECOND_STROBE (R24): Every 1,000th millisecond strobe emits the second strobe, which drives the second timers, duty checks and Foxglove retries. -/
  | secondStrobe
  /-- CLOCK_SUPERVISION_WINDOW (R20): A 32-cycle CD41 window ends; each domain count is compared with its expected value, and two failing windows set CLK_DOMAIN_FAIL and raise the clock fault. -/
  | clockSupervisionWindow (deviates : BitVec 47) (refclkBad aonBad : Bool)
  /-- PLL_LOCK_LOSS (R20): A PLL loses lock; every domain it feeds is reported failed, and loss of PLL-A stops the sample plane. -/
  | pllLockLoss (pll : Fin 4)
  /-- XTS_REQ (R26): A write of CLK_XTS_CTRL.REQ starts a capture of device time and PTP time as one pair, unless a capture is already BUSY. -/
  | xtsReq (who : Init)
  /-- XTS_CAPTURE_DONE (R26): The cross-timestamp pair completes through XC16, is stored, and DONE is set. -/
  | xtsCaptureDone
  /-- SAT_CLR (R55): A write of PAGE_CTRL.SAT_CLR zeroes the page's SAT_COUNT. -/
  | satClr (who : Init) (page : Fin 64)
  /-- CFG_LOCK_SET (R39): A write of PAGE_CTRL.CFG_LOCK := 1 locks the page's counted configuration until chip reset. -/
  | cfgLockSet (who : Init) (page : Fin 64)
  /-- BLOCK_RESET (R479): A write of PAGE_CTRL.BLOCK_RESET, or a reaction 3, takes READY low, settles work in flight, clears the block state and releases the block within 10 µs. -/
  | blockReset (who : Init) (page : Fin 64)
  /-- CRC_PASS_COMPLETE (R38): A configuration check pass completes; a mismatch sets CRC_ERR, raises CRC_MISMATCH and drives the configuration fault source, and CRC_STALE clears. -/
  | crcPassComplete (page : Fin 64) (good : Bool)
  /-- CRC_STALE_TIMEOUT (R38): No check pass has completed for 16 ms, and CRC_STALE is set. -/
  | crcStaleTimeout (page : Fin 64)
  /-- SELFTEST_START (R40): A write of SELFTEST.START starts the block's self-test, and later writes to the page are held until it ends. -/
  | selftestStart (who : Init) (page : Fin 64)
  /-- EVT_STICKY_CLEAR (R42): A write of 1 to EVT_STICKY bit n clears that sticky bit and its count, unless a rise falls in the same cycle. -/
  | evtStickyClear (who : Init) (page : Fin 64) (bits : BitVec 32)
  /-- EVT_FORCE (R42): A write of 1 to EVT_FORCE bit n injects one rise, which sets sticky, counts and forwards if the bit is enabled. -/
  | evtForce (who : Init) (page : Fin 64) (bits : BitVec 32)
  /-- EVT_COUNT_SNAP (R43): A write of EVT_COUNT with SNAP = 1 copies the count of SEL into the initiator's shadow and zeroes the live count and the sticky bit. -/
  | evtCountSnap (who : Init) (page : Fin 64) (sel : Fin 32)
  /-- EVENT_RISE (R42): A raw page condition rises; sticky latches, the count advances and the event is forwarded if it is enabled. -/
  | eventRise (page : Fin 64) (bit : Fin 32)
  /-- EXPERT_UNLOCK_ARM (R47): A write of 0x0000_5A5A to EXPERT_UNLOCK sets the initiator's ARMED bit. -/
  | expertUnlockArm (who : Init) (page : Fin 64)
  /-- EXPERT_UNLOCK_OPEN (R47): A write of 0xA5A5_0000 plus the page number within 1 ms of arming opens expert writes for the initiator or identity, if it is admitted. -/
  | expertUnlockOpen (who : Init) (page : Fin 64)
  /-- EXPERT_CLOSE (R47): A write of 0x0000_0000 to EXPERT_UNLOCK closes the initiator's OPEN. -/
  | expertClose (who : Init) (page : Fin 64)
  /-- EXPERT_ARM_TIMEOUT (R47): The second unlock word has not arrived within 1 ms, and ARMED clears. -/
  | expertArmTimeout (who : Init) (page : Fin 64)
  /-- EXPERT_OPEN_TIMEOUT (R47): 1,000 ms pass without an expert write by the holder, and OPEN closes. -/
  | expertOpenTimeout (who : Init) (page : Fin 64)
  /-- OWNER_WRITE (R48): A write of OWNER.ID by the integrator or the manufacturer sets the page owner; the write is refused for other identities and for codes 0x11 to 0x1E. -/
  | ownerWrite (who : Init) (page : Fin 64) (id : Fin 32)
  /-- CTXW_SELECT (R51): A write of CTXW_SELn selects a context and mode and, in staged mode, requests a snapshot, after the bounds, busy and ownership checks. -/
  | ctxwSelect (who : Init) (ctx : BitVec 12) (mode : Bool)
  /-- CTXW_SNAPSHOT (R51): The snapshot of the selected context's 64 words is taken between its ticks, or within 2 µs when it has no tick, and SNAP_VALID is set. -/
  | ctxwSnapshot (who : Init)
  /-- CTXW_APERTURE_WRITE (R51): A write to a window aperture, after the ownership and expert checks, reaches the live word in direct mode or is staged in staged mode. -/
  | ctxwApertureWrite (who : Init) (word : Fin 64) (value : BitVec 32)
  /-- CTXW_APERTURE_READ (R52): A read through a window aperture, after the ownership check, returns the live word, or the snapshot once it is valid. -/
  | ctxwApertureRead (who : Init) (word : Fin 64)
  /-- CTXW_COMMIT (R51): A write with COMMIT = 1 and the selection unchanged in staged mode sets COMMIT_PENDING for the staged words. -/
  | ctxwCommit (who : Init)
  /-- CTXW_COMMIT_APPLY (R52): The staged words apply together at the context's tick, or within 2 µs in FREE or CONFIGURED, after the owner recheck, and COMMIT_DONE sets. -/
  | ctxwCommitApply (who : Init)
  /-- COEF_M_WRITE (R54): A write of a coefficient's m word is staged for the initiator. -/
  | coefMWrite (who : Init) (pair : CoefPair) (value : BitVec 32)
  /-- COEF_S_WRITE (R54): A write of a coefficient's s word commits the staged or current m together with s, after the range check. -/
  | coefSWrite (who : Init) (pair : CoefPair) (value : BitVec 32)
  /-- COEF_M_READ (R54): A read of a coefficient's m word latches s into the initiator's shadow. -/
  | coefMRead (who : Init) (pair : CoefPair)
  /-- STREAM_CONFIG_WRITE (R59): A write of CHN_STREAMs is refused while the stream is in use, and otherwise applies within 2 µs. -/
  | streamConfigWrite (who : Init) (stream : Fin 64) (value : BitVec 32)
  /-- SAMPLE_BLOCK (R66): A 64-sample block passes the scheduled path stages in order: cancellation, channelisers, gain, grid gate, synthesis, delay, sums and limit gate. -/
  | sampleBlock (streams : List TxBlock)
  /-- PATH_CFG_WRITE (R62): A write of CHN_PATH_CFGp changes TGROUP, DONOR and SVC_MASK only while the path is OFF; a change of TGROUP wipes and re-arms the grid. -/
  | pathCfgWrite (who : Init) (path : Fin 32) (value : BitVec 32)
  /-- PATH_ENABLE (R80): ENABLE := 1 schedules the path ON at the next frame boundary of its group, is held during a drain, and is rejected when the image does not place the path. -/
  | pathEnable (who : Init) (path : Fin 32)
  /-- PATH_DISABLE (R80): ENABLE := 0 takes the path to DRAINING and drains its running contexts, or cancels a pending turn-on. -/
  | pathDisable (who : Init) (path : Fin 32)
  /-- PATH_OFF (R80): Every context of a draining path has left DRAINING and L has elapsed; the path is OFF and PATH_OFF rises. -/
  | pathOff (path : Fin 32)
  /-- WIN_LO_WRITE (R64): A write of CHN_WIN_LO is staged for the initiator. -/
  | winLoWrite (who : Init) (value : BitVec 32)
  /-- WINDOW_COMMIT (R64): A write of CHN_WIN_HI commits the staged window after the lock, width, range, overlap, profile and tap-map checks. -/
  | windowCommit (who : Init) (hi : BitVec 32)
  /-- WINDOW_APPLY (R64): An accepted window applies at the channeliser at the path's next frame boundary, or within 2 µs when the path is OFF. -/
  | windowApply (path : Fin 32)
  /-- DELAY_WRITE (R69): A write of added delay applies at once when the path is OFF, slews when the change is at most ±8 samples, and otherwise pends. -/
  | delayWrite (who : Init) (path : Fin 32) (ns : BitVec 16)
  /-- DELAY_SLEW_DONE (R69): A delay slew reaches its target, and DELAY_APPLIED rises. -/
  | delaySlewDone (path : Fin 32)
  /-- CTX_CONFIGURE (R75): The CONFIGURE command runs the context checks at its tick or within 2 µs, and takes the context to CONFIGURED, reserving a tick slot. -/
  | ctxConfigure (ctx : Fin 4096)
  /-- CTX_START (R76): The START command checks the path and context and takes the context from CONFIGURED to RAMPING with a soft start, or to MUTED when cause 2 or 5 stands. -/
  | ctxStart (ctx : Fin 4096)
  /-- CTX_HOLD (R76): The HOLD command freezes the applied gain of a RAMPING or ACTIVE context in HELD. -/
  | ctxHold (ctx : Fin 4096)
  /-- CTX_RESUME (R76): The RESUME command takes HELD to RAMPING, or removes cause 1 from a MUTED context's set and soft-starts it when the set empties. -/
  | ctxResume (ctx : Fin 4096)
  /-- CTX_MUTE (R76): The MUTE command adds cause 1 and takes the context to MUTED with zero output. -/
  | ctxMute (ctx : Fin 4096)
  /-- CTX_STOP (R79): The STOP command takes a running context to DRAINING and ramps it to mute over DRAIN_US. -/
  | ctxStop (ctx : Fin 4096)
  /-- CTX_RELEASE (R76): The RELEASE command takes a CONFIGURED context to FREE and frees its tick slot. -/
  | ctxRelease (ctx : Fin 4096)
  /-- CTX_OWNER_WRITE (R73): A write of context word 6 sets OWNER and EXPERT_PRIV only for the integrator or the manufacturer, and only while the context is FREE. -/
  | ctxOwnerWrite (who : Init) (ctx : Fin 4096) (owner : Fin 32) (priv : Bool)
  /-- IMAGE_LOAD_BEGIN (R93): The BEGIN command puts a non-active slot into LOADING, zero-fills it and records the loader. -/
  | imageLoadBegin (who : Init) (slot : Fin 2)
  /-- IMAGE_SLOT_FILL_DONE (R93): The BEGIN zero-fill ends within 50 µs; BUSY clears and held load writes apply. -/
  | imageSlotFillDone
  /-- IMAGE_LOAD_DATA (R93): A write of SCH_LOAD_DATA by the loader stores four bytes at ADDR, advances ADDR and marks the load map. -/
  | imageLoadData (who : Init) (data : BitVec 32)
  /-- IMAGE_LOAD_END (R93): The END command takes the slot to VERIFYING with LENGTH and starts verification within 2 µs. -/
  | imageLoadEnd (who : Init) (slot : Fin 2) (length : BitVec 19)
  /-- IMAGE_LOAD_ABORT (R93): The ABORT command returns the loading slot to EMPTY. -/
  | imageLoadAbort (who : Init) (slot : Fin 2)
  /-- LOAD_TIMEOUT (R93): A LOADING slot has received no load write for 10 s; it returns to EMPTY and LOAD_TIMEOUT rises. -/
  | loadTimeout (slot : Fin 2)
  /-- VERIFY_DONE (R96): Image verification ends, and the slot reads VERIFIED, or REFUSED with the code of the first step that failed. -/
  | verifyDone (slot : Fin 2) (sigOk recountOk : Bool)
  /-- SWAP_ARM (R100): The ARM command arms the non-active slot, picks the frame boundary, sorts the paths into classes and starts the drains and evictions of the plan. -/
  | swapArm (who : Init) (drain fallback at_ : Bool) (group : Fin 8)
  /-- SWAP_DISARM (R109): The DISARM command ends an armed swap before the point of no return with reason 5; after it, the command is refused. -/
  | swapDisarm (who : Init)
  /-- SWAP_DRAINS_DONE (R103): Every drained path is OFF and every drained context is CONFIGURED, and the swap state becomes WAITING. -/
  | swapDrainsDone
  /-- SWAP_POINT_OF_NO_RETURN (R103): At B − 2 µs the swap strobe is staged in CD0 and CD1. -/
  | swapPointOfNoReturn
  /-- SWAP_BOUNDARY (R103): At B both tables switch, the classes of paths and evicted contexts are handled, and SCH_ACTIVE updates and SWAP_DONE rises. -/
  | swapBoundary (lostCaps : BitVec 16)
  /-- TABLE_ECC_ERROR (R110): A table word read has a single-bit error, which is corrected, or a double-bit error, which mutes every stream and drives the image table fault. -/
  | tableEccError (double : Bool)
  /-- TABLE_SCRUB (R110): Every 16 ms the scrub reads both slots, and an uncorrectable standby slot becomes REFUSED with code 0x0E. -/
  | tableScrub (slot : Fin 2) (bad : Bool)
  /-- CAN_ENABLE (R123): CAN_CTRL.EN := 1 takes an instance from OFF to its MODE's state within 2 µs. -/
  | canEnable (who : Init)
  /-- CAN_DISABLE (R123): CAN_CTRL.EN := 0 takes an instance to OFF with its estimate at zero and its taps kept. -/
  | canDisable (who : Init)
  /-- CAN_MODE_WRITE (R123): A write that changes MODE moves the instance to RUN, PROBE, PAUSED or FROZEN at the next datapath period, or is remembered during LINK_FROZEN or an isolation window. -/
  | canModeWrite (who : Init) (mode : Fin 4)
  /-- PAUSE_EXPIRED (R123): PAUSE_MS elapses, and the instance returns to the mode held before the pause. -/
  | pauseExpired (inst : Fin 32)
  /-- LINK_FROZEN_EXIT (R123): All links of a LINK_FROZEN instance have been up for 1 ms; its history refills and it returns to its state. -/
  | linkFrozenExit (inst : Fin 32)
  /-- CLEAR_TAPS (R137): CAN_CTRL.CLEAR_TAPS zeroes every tap of a FROZEN instance, and is refused in any other state. -/
  | clearTaps (who : Init)
  /-- CAN_BASIC_WRITE (R119): A basic CAN write re-derives the tap map, which applies at a datapath period boundary and raises MAP_CHANGED. -/
  | canBasicWrite (who : Init) (reg : CanReg) (value : BitVec 32)
  /-- CAN_MAP_WRITE (R119): An expert write of CAN_MAP changes a cluster after the history-bound check and applies within 2 µs. -/
  | canMapWrite (who : Init) (value : BitVec 32)
  /-- TAP_RE_WRITE (R138): A write of CAN_TAP_RE stages the real part of the selected tap. -/
  | tapReWrite (who : Init) (re : BitVec 20)
  /-- TAP_IM_WRITE (R138): A write of CAN_TAP_IM commits the staged real part and the imaginary part together, in FROZEN only. -/
  | tapImWrite (who : Init) (im : BitVec 20)
  /-- TAP_RE_READ (R138): A read of CAN_TAP_RE latches the imaginary part for the initiator. -/
  | tapReRead (who : Init)
  /-- SUBBAND_ADAPT (R120): At each subband sample the instance forms its estimate and error and adapts its taps by leaky NLMS in RUN or PROBE. -/
  | subbandAdapt (inst : Fin 32) (sb : Fin 64) (d : Int × Int) (refs : List RefIn) (mapBad : Bool)
  /-- MARGIN_UPDATE (R129): Every 64 subband samples the margin monitor recomputes each active subband's margin and raises MARGIN_WARN or MARGIN_NEG. -/
  | marginUpdate (inst : Fin 32)
  /-- ISO_REQ (R127): A write of ISO_REQ starts an isolation window, or holds it when a window or self-test is running. -/
  | isoReq (who : Init)
  /-- ISO_PERIOD_EXPIRED (R127): ISO_PERIOD_S seconds elapse, and an isolation window starts. -/
  | isoPeriodExpired (inst : Fin 32)
  /-- ISO_WINDOW_START (R126): An isolation window begins; the instance probes and correlates the probe for ISO_WIN_MS. -/
  | isoWindowStart (inst : Fin 32)
  /-- ISO_WINDOW_END (R126): An isolation window ends; the stored isolation and cancellation figures update, and ISO_DONE and PROBE_BOUND rise as they apply. -/
  | isoWindowEnd (inst : Fin 32) (mapBad : Bool)
  /-- CLAMP_HOLD_EXPIRED (R133): The clamp hold timer expires, and the clamp state moves to RELEASE. -/
  | clampHoldExpired (stream : Fin 32)
  /-- CLAMP_RELEASE_DONE (R133): The clamp depth reaches 0 dB in RELEASE, and the clamp state becomes IDLE. -/
  | clampReleaseDone (stream : Fin 32)
  /-- CAN_SELFTEST_END (R134): The 8 ms canceller self-test ends; RESULT and DETAIL are set, held writes apply and the instance returns to its state. -/
  | canSelftestEnd (code : Fin 256)
  /-- CONTEXT_TICK (R144): A context tick applies mutes, words and commands, measures, evaluates loops L1 to L5, selects the lowest, integrates and outputs the gain. -/
  | contextTick (ctx : Fin 4096) (inp : List StripLevel) (outp : List (Fin 32 × StripLevel)) (xcFull : Bool)
  /-- FE_ACK (R164): A write of FE_ACK removes cause 4 and zeroes the timer at the next tick, or gives result 2 when cause 4 is absent. -/
  | feAck (ctx : Fin 4096)
  /-- SUPPLY_CORR_TIMEOUT (R148): A watched port has had no supply correction for SUPPLY_TO_US; LOSS rises and its correction is taken as 0 dB. -/
  | supplyCorrTimeout (port : Fin 32)
  /-- TRACE_ARM (R170): CEN_TRC_CMD.ARM clears and restarts the masked trace channels in ARMED. -/
  | traceArm (who : Init) (mask : BitVec 16)
  /-- TRACE_TRIG_NOW (R170): CEN_TRC_CMD.TRIG_NOW requests a host trigger of the masked channels at the next tick. -/
  | traceTrigNow (who : Init) (mask : BitVec 16)
  /-- TRACE_STOP (R170): CEN_TRC_CMD.STOP takes the masked channels to DONE. -/
  | traceStop (who : Init) (mask : BitVec 16)
  /-- TRACE_READ_DATA (R171): A read of CEN_TRC_RD_DATA returns the sample at INDEX of a DONE channel and advances INDEX. -/
  | traceReadData (who : Init)
  /-- BUDGET_ALLOCATION (R246): At the end of each control engine period the port power budget is allocated for each port, and contexts are served, scaled, delayed or refused. -/
  | budgetAllocation
  /-- BUDGET_HOLD_EXPIRED (R247): BUDGET_HOLD_MS has passed since a delay, and the context becomes eligible for re-admission. -/
  | budgetHoldExpired (ctx : Fin 4096)
  /-- GRID_ROW_FREEZE (R184): Row r reaches T_freeze and admits only late mutes from then on. -/
  | gridRowFreeze (path : Fin 32) (row : Fin 280)
  /-- GRID_ROW_READ (R183): At T_read the gate reads row r and then wipes it to BASE and arms it for the next frame. -/
  | gridRowRead (path : Fin 32) (row : Fin 280)
  /-- GRID_ROW_APPLY (R187): A descriptor row reaches the write port and is tested and resolved cell by cell, ending with one row status. -/
  | gridRowApply (writer : Fin 4)
  /-- GRID_ECC_ERROR (R182): A grid memory word read has a single-bit error, which is corrected, or a double-bit error, which reads as MUTE and drives the grid fault. -/
  | gridEccError (path : Fin 32) (row : Fin 280) (word : Fin 216) (double : Bool)
  /-- GGR_WR_QUEUE (R197): A write of GGR_WR2 queues the initiator's staged host descriptor, unless one is pending. -/
  | ggrWrQueue (who : Init) (rows : BitVec 9)
  /-- SYMBOL_ROW_END (R236): A symbol row ends; uplink noise contributions are measured and the noise estimate updates. -/
  | symbolRowEnd (path : Fin 32) (row : Fin 280) (strips : List (Nat × Int × Int))
  /-- FRAME_BOUNDARY (R202): A timing group's frame boundary falls; SFN and ordinal advance, pending steps, path turn-ons, delay changes and the alignment servo act. -/
  | frameBoundary (group : Fin 8)
  /-- BOUNDARY_COMMIT (R207): B_n becomes committed 150 µs before it falls, and nothing moves it after that. -/
  | boundaryCommit (group : Fin 8)
  /-- TGROUP_ENABLE (R202): FTM_GCFG.EN := 1 takes the group from NONE to ACQUIRING. -/
  | tgroupEnable (who : Init)
  /-- TGROUP_DISABLE (R203): FTM_GCFG.EN := 0 returns the group to NONE, and is refused while a path of the group is not OFF. -/
  | tgroupDisable (who : Init)
  /-- TIMING_OBSERVATION (R206): An observation of a frame boundary from the source in use is accepted and disciplines P and c, or is rejected and may step the group. -/
  | timingObservation (group : Fin 8) (secondary : Bool) (t : BitVec 64) (index : BitVec 48)
  /-- FLYWHEEL_TIMEOUT (R202): No observation has been accepted for FLY_MS, and a LOCKED group enters FLYWHEEL. -/
  | flywheelTimeout (group : Fin 8)
  /-- HOLDOVER_TIMEOUT (R202): HOLDOVER_MS pass since the last accepted observation; the group enters LOST and GROUP_LOST rises. -/
  | holdoverTimeout (group : Fin 8)
  /-- TIMING_SOURCE_LOST (R208): The source in use is lost; the group takes its other source or enters FLYWHEEL at once. -/
  | timingSourceLost (group : Fin 8)
  /-- PRI_RETURN_TIMER (R209): PRI has been valid for 1 s again, and the group returns to it and raises SRC_SWITCH. -/
  | priReturnTimer (group : Fin 8)
  /-- PPS_EDGE (R211): A filtered 1PPS edge is stamped and accepted within its window, or counted as unexpected and added to the candidates. -/
  | ppsEdge (t : BitVec 64) (pulse : PpsPulse)
  /-- PPS_WINDOW_EXPIRED (R211): The 1PPS window closes with no edge accepted; MISSING counts and the expectation advances by I. -/
  | ppsWindowExpired
  /-- PPS_TIMEOUT (R211): No edge has been accepted for PPS_TO_S, and PPS_STATE becomes LOST and LOSS rises. -/
  | ppsTimeout
  /-- UART_CHARACTER (R213): The GNSS UART decides a character: accepts it into XC18, or counts a framing error, a false start or an overrun. -/
  | uartCharacter (line : UartLine)
  /-- NMEA_SENTENCE (R214): A complete NMEA sentence is checked and either discarded with a reason or used to label a 1PPS edge and update the fix. -/
  | nmeaSentence
  /-- NMEA_TIMEOUT (R215): NMEA_TO_S passes without an accepted time sentence; TIME_VALID falls and LOSS rises. -/
  | nmeaTimeout
  /-- CLS_ENABLE (R216): CLS_CCFG.EN := 1 takes a listener carrier from IDLE to SEARCH, and EN := 0 returns it to IDLE. -/
  | clsEnable (who : Init) (en : Bool)
  /-- SSB_DETECTION (R216): A searching or lost carrier detects a matching SSB or PSS/SSS with a good PBCH and enters TRACK. -/
  | ssbDetection (carrier : Fin 32) (pci : Fin 1024) (snr : Int) (pbchOk : Bool) (index : Fin 16)
  /-- SSB_POSITION (R217): A predicted SSB position of a tracked carrier yields a detection, which is an observation, or a miss, and MISS_MAX misses take it to LOST. -/
  | ssbPosition (carrier : Fin 32) (hit : Option SsbHit) (crcOk : Bool) (index : Fin 16)
  /-- SIB1_DECODED (R218): A SIB1 decode completes and sets DUPLEX and the decoded pattern, which applies at least two frames later. -/
  | sib1Decoded (carrier : Fin 32) (tdd : Bool) (pat1 pat2 : Word)
  /-- SIB1_TIMEOUT (R218): SIB1 is not decoded within 1,000 ms, and SIB1_FAIL rises. -/
  | sib1Timeout (carrier : Fin 32)
  /-- SIB1_PERIOD_EXPIRED (R218): SIB1_PERIOD_S elapses, and a new SIB1 decode starts. -/
  | sib1PeriodExpired (carrier : Fin 32)
  /-- PATTERN_APPLY (R219): CLS_PAT_CTRL.APPLY checks the staged host pattern and makes it the pattern in force under the timing rule. -/
  | patternApply (who : Init)
  /-- WHEEL_ROW_PLAN (R221): At T_freeze + 1 µs the timing wheel resolves a row and adds its interval to the transmit window of each port the path writes. -/
  | wheelRowPlan (path : Fin 32) (row : Fin 280)
  /-- PIN_EVENT (R222): A scheduled switch event moves the TRX, PA enable or REQUEST pin of a port at its planned time. -/
  | pinEvent (port : Fin 32) (pin : Fin 3)
  /-- PREFIRE_REVOKE (R223): A late mute reaches the wheel, which recomputes the window and cancels the row's prefire, or withdraws it once shown. -/
  | prefireRevoke (path : Fin 32) (row : Fin 280)
  /-- REG_COMMIT (R231): LIM_REG_CMD.COMMIT checks the staged regulatory set and writes it as a journal entry, or refuses it and records the bad entry. -/
  | regCommit (who : Init)
  /-- REG_RESTAGE (R251): LIM_REG_CMD.RESTAGE copies the set in force into staging. -/
  | regRestage (who : Init)
  /-- OSC_NEG_TIMEOUT (R238): A clamp not IDLE with MARGIN_NEG standing for OSC_NEG_MS starts a Foxglove shutdown of code 1. -/
  | oscNegTimeout (stream : Fin 32)
  /-- NOISE_TRIG_TIMEOUT (R238): NOISE_MEAS has been above its entry's NOISE_LIM for NOISE_TRIG_MS, and a Foxglove shutdown of code 2 starts. -/
  | noiseTrigTimeout (ctx : Fin 4096)
  /-- OOB_TIMEOUT (R238): A limiter bin outside every window has exceeded OOB_LIM for OOB_US, and a Foxglove shutdown of code 5 starts. -/
  | oobTimeout (stream : Fin 32)
  /-- FOXGLOVE_TRIGGER (R240): A Foxglove trigger takes or merges a slot, sets the mute bits, drops PA enable and switches the stopped ports to RX, then commands STANDBY. -/
  | foxgloveTrigger (cause : FoxCause)
  /-- FOX_STOPPED (R240): All stopped chains reach STANDBY, or 10 ms pass; the slot becomes STOPPED and its policy chooses BACKOFF or LATCHED. -/
  | foxStopped (slot : Fin 16)
  /-- FOX_BACKOFF_EXPIRED (R242): The backoff wait has elapsed and the retry condition holds at a second strobe; the slot enters RETRYING and RETRIES advances. -/
  | foxBackoffExpired (slot : Fin 16)
  /-- FOX_SLOT_CLEAR (R244): NPR_FOX_CMD.CLEAR takes the selected slot to RETRYING, or sets CLEAR_PENDING while the retry condition fails. -/
  | foxSlotClear (who : Init)
  /-- FOX_CHAINS_READY (R245): Every stopped chain of a retrying slot reports ready, and the mute bits clear at the next frame boundary of each group. -/
  | foxChainsReady (slot : Fin 16)
  /-- FOX_RETRY_GOOD (R242): RETRY_GOOD_S pass in RETRYING without a trigger; the slot returns to IDLE and FOX_IDLE rises. -/
  | foxRetryGood (slot : Fin 16)
  /-- NPR_REMOTE_MUTE (R238): NPR_REMOTE.MUTE starts a Foxglove shutdown of code 6 for DOMAIN. -/
  | nprRemoteMute (who : Init) (domain : Fin 16)
  /-- NPR_REMOTE_CLEAR (R244): NPR_REMOTE.CLEAR clears every code 6 slot raised for DOMAIN. -/
  | nprRemoteClear (who : Init) (domain : Fin 16)
  /-- FEL_FRAME_SLOT (R257): A front-end link frame slot opens and sends a timed frame, a chain command, an autopoll or the head of the plain queue. -/
  | felFrameSlot (port : Fin 32)
  /-- FEL_FRAME_RESPONSE (R258): A module response frame is checked, resends or fails the frame, updates link up and down, and delivers the result. -/
  | felFrameResponse (port : Fin 32) (crcOk : Bool) (ack : Fin 16) (seq : Fin 256) (data : Fin 65536) (ready : Bool) (state : Fin 8) (flags : ModFlags)
  /-- FEL_LINK_TIMEOUT (R258): No valid response has arrived for LINK_TO_US; the link goes down and the pins take their safe levels. -/
  | felLinkTimeout (port : Fin 32)
  /-- FEL_DESC_COMMIT (R260): FEL_DCMD.COMMIT checks and commits the staged module descriptor of a port in SLEEP. -/
  | felDescCommit (who : Init)
  /-- CHAIN_TARGET_WRITE (R262): A write of FEL_CHAIN.TARGET starts a move toward the new target, is held during an upward transition, or aborts when lower. -/
  | chainTargetWrite (who : Init) (target : Fin 4)
  /-- CHAIN_STATE_REACHED (R262): A chain transition completes at its stated time, and the device commands the next state or raises CHAIN_READY. -/
  | chainStateReached (port : Fin 32)
  /-- CHAIN_TRANSITION_TIMEOUT (R262): A chain transition is not confirmed in time; the command repeats once, and a second failure raises CHAIN_FAIL and commands STANDBY. -/
  | chainTransitionTimeout (port : Fin 32)
  /-- CAL_REQ_RXIQ (R265): FEL_CHAIN.CAL_REQ_RXIQ requests the receive IQ calibration, held while another runs. -/
  | calReqRxiq (who : Init)
  /-- CAL_REQ_RXGAIN (R265): FEL_CHAIN.CAL_REQ_RXGAIN requests the receive gain calibration, held while another runs. -/
  | calReqRxgain (who : Init)
  /-- CALIBRATION_DONE (R265): A chain calibration ends with a result, RXC_CAL may update, and CAL_DONE rises. -/
  | calibrationDone (port : Fin 32) (pass : Bool) (rxc : Int)
  /-- LO_WRITE (R267): A write of FEL_TUNE.LO_KHZ at or below SYNTH_ON sets the LO and starts SYNTH at once in SYNTH_ON. -/
  | loWrite (who : Init) (khz : BitVec 24)
  /-- FE_CLEAR (R274): FEL_CHAIN.FE_CLEAR returns a LATCHED port to UNPROVEN and zeroes its retries. -/
  | feClear (who : Init)
  /-- AUTOPOLL (R272): The autopoll timer queues reads of FWD, REF and DRAIN every 100 µs, and of TEMP every 10 ms. -/
  | autopoll (port : Fin 32) (temp : Bool)
  /-- DETECTOR_TIMEOUT (R272): No valid detector pair has come within DET_TO_US of PA-on time; LOSS rises and the port becomes UNPROVEN. -/
  | detectorTimeout (port : Fin 32)
  /-- MODULE_TEMP_TIMEOUT (R272): 100 ms pass without a valid module temperature; the last value stands and LOSS rises. -/
  | moduleTempTimeout (port : Fin 32)
  /-- MISMATCH_HOLD_EXPIRED (R274): MM_HOLD_MS elapses in SHORT; the port retries as UNPROVEN, or enters LATCHED at the retry limit. -/
  | mismatchHoldExpired (port : Fin 32)
  /-- MISMATCH_GOOD_TIMER (R274): A port has spent 60 s in GOOD, and its mismatch RETRIES returns to 0. -/
  | mismatchGoodTimer (port : Fin 32)
  /-- TUNER_STEP_TIMER (R277): TUNE_INT_MS elapses in WARN, and the tuner tries a neighbouring code. -/
  | tunerStepTimer (port : Fin 32)
  /-- TUNER_CODE_WRITE (R277): A host write of TUNER_CODE applies at once and restarts the search from that code. -/
  | tunerCodeWrite (who : Init) (code : Fin 256)
  /-- GRANT_SAMPLE (R280): GRANT is sampled at D for an interval, and a denial is counted or darkens the pair's ports in required mode. -/
  | grantSample (pair : Fin 8) (port : Fin 32) (grant : Bool)
  /-- GRANT_FALL (R280): GRANT falls during a granted interval; a revocation is counted, and in required mode the pins fall within 150 ns. -/
  | grantFall (pair : Fin 8)
  /-- JLK_RX_ENABLE (R288): JLK_CFG.RX_EN := 1 starts receive link bring-up at the lane PLL. -/
  | jlkRxEnable (who : Init) (group : Fin 32)
  /-- JLK_TX_ENABLE (R288): JLK_CFG.TX_EN := 1 starts the transmit PLL and sending from the next LEMC edge. -/
  | jlkTxEnable (who : Init) (group : Fin 32)
  /-- LANE_PLL_LOCKED (R288): A link group's lane PLL locks, and bring-up moves to clock recovery. -/
  | lanePllLocked (group : Fin 32)
  /-- LANE_SYNC_LOCKED (R288): Sync headers and extended multiblocks are locked within the skew limit, and the link waits for SYSREF. -/
  | laneSyncLocked (group : Fin 32) (lock : LaneSync)
  /-- SYSREF_EDGE (R286): A SYSREF edge sets the LEMC of waiting links, or is checked for phase and may realign under SYSREF_MODE. -/
  | sysrefEdge (off : BitVec 32)
  /-- SYSREF_TIMEOUT (R286): No SYSREF has arrived within 1 ms of WAIT_SYSREF, and LOSS rises. -/
  | sysrefTimeout (group : Fin 32)
  /-- JLK_RUN (R288): The first release takes place at the LEMC edge, RX_STATE becomes RUN and RX_UP rises. -/
  | jlkRun (group : Fin 32)
  /-- JLK_MULTIBLOCK (R287): A received multiblock is released at its fixed point, its arrival deviation and CRC-12 are checked and its losses are counted. -/
  | jlkMultiblock (group : Fin 32) (dev : Int) (crcErrs : Fin 3) (bitErrs : Nat)
  /-- JLK_RX_LINK_LOST (R289): A receive link is lost; the stream carries zeros, the fault source is driven and the link re-enters bring-up. -/
  | jlkRxLinkLost (group : Fin 32) (pll : Bool)
  /-- JLK_RELOCK_TIMEOUT (R289): Re-entry at clock recovery has failed for 1 ms, and the link restarts at the lane PLL. -/
  | jlkRelockTimeout (group : Fin 32)
  /-- JLK_TX_ALARM (R290): The converter alarm input goes active or inactive; TX_STATE and the fault and reference-loss states follow. -/
  | jlkTxAlarm (group : Fin 32) (active : Bool)
  /-- JLK_PATTERN_WRITE (R291): A write of JLK_TEST.PATTERN replaces samples with a PRBS and checks it, and is refused while the streams are in use. -/
  | jlkPatternWrite (who : Init) (group : Fin 32) (pattern : Fin 4)
  /-- EQUALISER_READAPT (R291): The band's interval elapses, and the receive equalisers re-adapt on the live lanes. -/
  | equaliserReadapt
  /-- FH_LANE_UP (R294): A fronthaul lane has held block lock without hi_ber for 1 ms and is up. -/
  | fhLaneUp (side : Fin 2) (lane : Fin 4)
  /-- FH_LANE_DOWN (R304): A fronthaul lane loses block lock or enters hi_ber; striping moves, and a side with no lane up goes down. -/
  | fhLaneDown (side : Fin 2) (lane : Fin 4) (hiber : Bool)
  /-- FH_PREEMPT_VERIFY (R294): The IEEE 802.3br verification exchange ends and sets PREEMPT_OK or falls back to no preemption. -/
  | fhPreemptVerify (side : Fin 2) (ok : Bool)
  /-- FH_FRAME_RECEIVED (R295): A fronthaul frame is received whole and is consumed by EtherType and message type, relayed to the other side, or dropped. -/
  | fhFrameReceived (side : Fin 2) (lane : Fin 4) (frame : FhFrame) (arrival : FhArrival)
  /-- FH_FLOW_ENABLE (R297): A write of FHL_FLOWf_CFG.EN starts or stops a flow after the capacity check. -/
  | fhFlowEnable (who : Init) (flow : Fin 16) (en : Bool)
  /-- FH_FLOW_TIMEOUT (R298): A receive flow has had no valid frame for FLOW_TO_US; it is LOST and carries zeros. -/
  | fhFlowTimeout (flow : Fin 16)
  /-- FH_FEED_SWITCH (R299): An AUTO feed switches its receive flows between sides A and B and re-anchors every flow. -/
  | fhFeedSwitch (feed : Fin 3)
  /-- FH_FEED_RETURN_TIMER (R299): All flows of a feed have been valid on side A for 1 s, and the feed switches back to A. -/
  | fhFeedReturnTimer (feed : Fin 3)
  /-- FH_TX_FRAME (R300): A transmit flow's first block is ready, and a frame is sent cut-through as express traffic. -/
  | fhTxFrame (flow : Fin 16) (blocks : List (List Int))
  /-- PTP_SYNC_TIMEOUT (R306): No Sync has been accepted for PTP_TO_MS; LOCK falls and PTP_UNLOCK rises. -/
  | ptpSyncTimeout
  /-- PTP_FREQ_WRITE (R306): A host write of FHL_PTP_FREQ changes the PTP addend, and is refused while SERVO = 1. -/
  | ptpFreqWrite (who : Init) (freq : BitVec 32)
  /-- PTP_STEP (R306): A host write of FHL_PTP_STEP steps PTP time, and is refused while SERVO = 1. -/
  | ptpStep (who : Init) (ns : BitVec 32)
  /-- HOP_MEAS_PERIOD (R307): MEAS_PERIOD_MS elapses, and a one-way delay Request is sent on each up side. -/
  | hopMeasPeriod
  /-- HOP_NS_TIMEOUT (R307): No valid hop delay has come for 10 × MEAS_PERIOD_MS, and HOP_NS becomes invalid. -/
  | hopNsTimeout
  /-- ALIGN_PERIOD (R308): ALIGN_PERIOD_MS elapses, and a node with an ACC sends its alignment message on side B. -/
  | alignPeriod
  /-- ALIGN_MESSAGE_TIMEOUT (R309): No valid alignment message has come for 3 × ALIGN_PERIOD_MS, and alignment becomes HELD. -/
  | alignMessageTimeout
  /-- PTP_TIME_READ (R311): A read of FHL_PTP_TIME_NS latches the PTP seconds for the initiator. -/
  | ptpTimeRead (who : Init)
  /-- PACKET_RECEIVED (R314): A Gheco packet arrives whole, passes the format, authentication and replay checks and enters its credited queue. -/
  | packetReceived (transport : Fin 3) (source : Nat) (pkt : RawPkt)
  /-- PCIE_RQ_PRODUCE (R325): A write of PCIE_RQ_PRODc offers new request slots of class c to the engine. -/
  | pcieRqProduce (who : Init) (cls : Fin 3) (index : BitVec 32)
  /-- PCIE_AN_CONSUME (R325): A write of PCIE_AN_CONSc frees answer-ring slots for further answers. -/
  | pcieAnConsume (who : Init) (cls : Fin 3) (index : BitVec 32)
  /-- PCIE_RING_ENABLE (R342): A write of PCIE_RINGc.EN enables class c's rings, or empties them and frees their buffers without answer. -/
  | pcieRingEnable (who : Init) (cls : Fin 3) (en : Bool)
  /-- PCIE_LINK_CHANGE (R325): The PCI Express link goes down or comes up; LOSS rises on a loss, and traffic resumes at link-up. -/
  | pcieLinkChange (up : Bool) (speed : Fin 4) (width : Fin 3)
  /-- MGE_FRAME (R326): A management Ethernet frame is answered for ND or ICMPv6, checked and delivered as a packet, or discarded. -/
  | mgeFrame (frame : MgeFrame)
  /-- MGE_LINK_TIMEOUT (R326): The management Ethernet link has been down for 10 ms, and LOSS rises. -/
  | mgeLinkTimeout
  /-- BUFFER_ALLOCATE (R329): The buffer arbiter grants a requester, which takes a buffer if can_alloc holds and otherwise follows its transport's no-buffer rule. -/
  | bufferAllocate (requester : Fin 4) (busy : Bool)
  /-- PACKET_EXECUTE (R328): An execution slot frees, and the next queued request starts by class and transport precedence. -/
  | packetExecute
  /-- QUEUE_TIMEOUT (R332): A request has waited Q_TIMEOUT_MS without starting, and is answered refused with 0x16. -/
  | queueTimeout (queue : Fin 9)
  /-- HOST_TIMEOUT (R332): HOST_TO_S pass without an authenticated request; LOSS rises and the host-loss fault source is driven. -/
  | hostTimeout
  /-- INFO (R319): An INFO request is answered untagged with the device ID, BOOT, SERIAL and node ID. -/
  | info (queue : Fin 9)
  /-- REG_READ (R321): A REG_READ packet reads N consecutive words as its identity and stops at the first refusal. -/
  | regRead (queue : Fin 9)
  /-- REG_WRITE (R321): A REG_WRITE packet applies its address and value pairs in order and stops at the first refusal. -/
  | regWrite (queue : Fin 9)
  /-- TIME_READ (R320): A TIME_READ packet returns all 64 bits of device time from one instant. -/
  | timeRead (queue : Fin 9)
  /-- IMAGE_SEG (R94): A load segment packet stores up to 1,024 bytes of image at its offset in the LOADING slot. -/
  | imageSeg (queue : Fin 9)
  /-- TAP_READ (R320): A TAP_READ packet returns up to 128 taps of a canceller instance. -/
  | tapRead (queue : Fin 9)
  /-- TAP_WRITE (R320): A TAP_WRITE packet writes up to 128 taps of a FROZEN instance. -/
  | tapWrite (queue : Fin 9)
  /-- CTX_READ (R322): A CTX_READ packet returns a staged snapshot of the context's 64 words. -/
  | ctxRead (queue : Fin 9)
  /-- CTX_WRITE (R322): A CTX_WRITE packet stages words in window 3, commits them and is answered when the commit ends. -/
  | ctxWrite (queue : Fin 9)
  /-- GRID_SC (R191): A side control packet is matched to contexts and turned into grid descriptors for the side control queue. -/
  | gridSc (queue : Fin 9)
  /-- GRID_WR (R197): A GRID_WR packet queues its host grid descriptors after the ownership and credit checks. -/
  | gridWr (queue : Fin 9)
  /-- BEAM (R323): A BEAM packet sends timed writes of beam indices to the named ports' modules. -/
  | beam (queue : Fin 9)
  /-- REMOTE_MUTE (R320): A REMOTE_MUTE packet with ARG16 0 starts a code 6 Foxglove shutdown for the sending domain. -/
  | remoteMute (queue : Fin 9)
  /-- REMOTE_MUTE_CLEAR (R244): A REMOTE_MUTE packet with ARG16 1 clears every code 6 slot raised for the sending domain. -/
  | remoteMuteClear (queue : Fin 9)
  /-- FOX_CLEAR (R244): A FOX_CLEAR packet clears the named Foxglove slot, if the identity is admitted to it. -/
  | foxClear (queue : Fin 9)
  /-- CAP_OPEN (R336): A CAP_OPEN packet checks the tap and resources and opens a capture session in WAITING. -/
  | capOpen (queue : Fin 9) (slotOk : Bool)
  /-- CAP_CLOSE (R338): A CAP_CLOSE packet from the session's owner ends or frees the session. -/
  | capClose (queue : Fin 9)
  /-- CAP_READ (R337): A CAP_READ packet returns one snapshot record at the given offset. -/
  | capRead (queue : Fin 9)
  /-- TRACE_READ (R171): A TRACE_READ packet returns up to 256 samples of a DONE trace channel. -/
  | traceRead (queue : Fin 9)
  /-- REC_READ (R371): A REC_READ packet returns up to 32 recorder records from a SEQ, and is refused to operator domains. -/
  | recRead (queue : Fin 9)
  /-- REPORT (R324): A queued report is sent in the urgent class to its identity's report transport, or is dropped. -/
  | report
  /-- CAP_DATA (R337): A stream session's record is sent as a CAP_DATA packet in the bulk class. -/
  | capData (session : Fin 16)
  /-- FN_DISABLE (R333): A write of 0 to a GCP_FN_EN bit takes the function to DRAINING and refuses its requests. -/
  | fnDisable (who : Init) (fn : Fin 8)
  /-- FN_ENABLE (R333): A write of 1 to a GCP_FN_EN bit turns the function ON, or is held until it reaches OFF. -/
  | fnEnable (who : Init) (fn : Fin 8)
  /-- FN_DRAINED (R333): No request of a draining function remains; it is OFF and FN_DRAINED rises. -/
  | fnDrained (fn : Fin 8)
  /-- CAP_SESSION_START (R336): A waiting capture session reaches its start time or frame boundary and is RUNNING. -/
  | capSessionStart (session : Fin 16)
  /-- CAPTURE_RECORD (R337): A capture tap completes a record, which is stored, streamed or dropped, and the session offset advances. -/
  | captureRecord (session : Fin 16) (first : BitVec 64) (samples : List (BitVec 32)) (queueFull : Bool)
  /-- CAP_SCMD_CLOSE (R344): CAP_SCMD.CLOSE by a privileged identity closes the selected session. -/
  | capScmdClose (who : Init)
  /-- CAP_DEST_TIMEOUT (R338): A stream session's destination has been lost for 1 s, and the session ends with reason 6. -/
  | capDestTimeout (session : Fin 16)
  /-- FAULT_RISE (R352): A fault source rises; the collector counts it in its window and, at N, makes it severe and reacts at the first rung. -/
  | faultRise (src : Fin 160)
  /-- DUAL_POLARITY_CONFIRMED (R348): A disagreement of a fault source's wires lasts 4 CD3 cycles; the source is taken as in fault and F159 is driven. -/
  | dualPolarityConfirmed (src : Fin 160) (stands : Bool)
  /-- FAULT_WINDOW_EXPIRED (R352): A source's counting window ends without N rises, and its count is cleared. -/
  | faultWindowExpired (src : Fin 160)
  /-- FAULT_ESCALATION (R352): A severe source's escalation time expires, and it climbs to its next applicable rung and reacts. -/
  | faultEscalation (src : Fin 160)
  /-- FAULT_ACK (R353): FLT_ACK clears a severe source's severity and count, stops its climb and applies held configuration. -/
  | faultAck (who : Init) (src : Fin 256)
  /-- FAULT_FORCE (R350): A write of FLT_FORCE injects one rise of a source, capped at interrupt while CAP = 1. -/
  | faultForce (who : Init) (group : Fin 5) (bits : Word)
  /-- FAULT_SPLIT (R350): FLT_TEST.SPLIT drives both wires of a source low for 1 µs to test disagreement detection. -/
  | faultSplit (who : Init) (cap : Bool) (src : Fin 256)
  /-- FAULT_CONFIG_WRITE (R354): A write of FLT_SCFG or FLT_SREACT applies, or is held while the source is severe. -/
  | faultConfigWrite (who : Init) (react : Bool) (value : Word)
  /-- COLLECTOR_SELFCHECK_FAIL (R359): A parity error or a copy disagreement in the fault collector enters the safe state directly with cause 3. -/
  | collectorSelfcheckFail
  /-- ERR_HEALTHY_WRITE (R357): The device identity writes FLT_ERR_CTRL.HEALTHY, and the error pair shows healthy unless it is refused. -/
  | errHealthyWrite (who : Init)
  /-- SAFE_CAUSE_CLEAR (R360): FLT_SAFE_CAUSE.CLR clears the stored safe-state cause and time. -/
  | safeCauseClear (who : Init)
  /-- RECORD_POST (R366): A source posts a record to the recorder intake, where it is dropped when the queue or log is full or closed. -/
  | recordPost (code p0 p1 p2 : Nat)
  /-- RECORD_INTAKE (R367): The recorder takes a record from the queue and merges it or stores it with the next SEQ in the open segment. -/
  | recordIntake
  /-- RECORDER_EPOCH_WRAP (R364): Recorder time wraps after 2^40 µs, and an epoch marker is written. -/
  | recorderEpochWrap
  /-- SEGMENT_COMMIT (R369): A full or flushed segment is queued and committed to the next log slot when the energy check admits it. -/
  | segmentCommit
  /-- EVR_FLUSH (R369): EVR_CMD.FLUSH commits the open segment early. -/
  | evrFlush (who : Init)
  /-- EVR_RD_DATA_READ (R371): A read of EVR_RD_DATA7 returns the record word and advances EVR_RD_SEQ. -/
  | evrRdDataRead (who : Init) (k : Fin 8)
  /-- EVR_CLEAR (R372): An EVR_CLEAR with the right CONFIRM discards the stage, commits a CLEAR journal entry and erases the log sectors. -/
  | evrClear (who : Init) (confirm : BitVec 16)
  /-- EVR_CLEAR_COMPLETE (R372): The log erase ends; SEQ restarts at 0 with a log-cleared record and CLEARED rises. -/
  | evrClearComplete
  /-- JOURNAL_WRITE (R373): A journal entry is written and then its commit word, compacting the journal into the other half when it does not fit. -/
  | journalWrite
  /-- NV_OPERATION_START (R377): The NV controller starts the highest-priority admitted program or erase, or suspends for a read. -/
  | nvOperationStart
  /-- NV_OPERATION_DONE (R376): An NV program or erase ends, passes or fails after retries, and fails raise NV_FAIL and F152. -/
  | nvOperationDone (outcome : NvEnd)
  /-- NVA_PROGRAM (R375): NVA_CMD PROGRAM queues a host word program to an image region. -/
  | nvaProgram (who : Init)
  /-- NVA_ERASE (R375): NVA_CMD ERASE queues a host sector erase of an image region. -/
  | nvaErase (who : Init)
  /-- NVA_ABORT (R388): NVA_CMD ABORT ends a host command still waiting. -/
  | nvaAbort (who : Init)
  /-- BOOTSEL_REQUEST (R401): NVA_BOOTSEL.REQ verifies the requested bank and commits the boot-bank entry, setting RESULT within 50 ms. -/
  | bootselRequest (who : Init) (bank : Fin 2) (fwSig extSig : Bool)
  /-- HOLDUP_VOLTAGE_SAMPLE (R379): A HUVSENSE conversion is filtered and range-checked, and a fall below VPF_MV decides power fail. -/
  | holdupVoltageSample (code : Fin 4096)
  /-- HOLDUP_CHARGE_READING (R379): The sense-resistor reading is integrated into Q every 1 ms. -/
  | holdupChargeReading (uv : Int)
  /-- HOLDUP_V_TIMEOUT (R379): No valid voltage sample has come for 100 µs; V_LOSS sets and E_V becomes 0. -/
  | holdupVTimeout
  /-- HOLDUP_Q_TIMEOUT (R379): No valid charge reading has come for 10 ms; Q_LOSS sets and E_Q becomes 0. -/
  | holdupQTimeout
  /-- HOLDUP_ESTIMATE_UPDATE (R380): Every 1 ms E_V, E_Q and E_LOW update, and C_EST updates after a charge. -/
  | holdupEstimateUpdate
  /-- HOLDUP_DISAGREE_TIMER (R381): The estimates have disagreed for 1 s; DISAGREE sets and HU_DISAGREE rises. -/
  | holdupDisagreeTimer
  /-- HOLDUP_REBASE (R381): A disagreement has lasted DIS_S with stable voltage and supply good, and Q is re-based to C × V. -/
  | holdupRebase
  /-- ENERGY_RETEST (R382): Every 1 ms a waiting NV write is re-tested against E_LOW. -/
  | energyRetest
  /-- ENERGY_BLOCK_TIMEOUT (R382): A write has waited 1 s for energy; BLOCKED sets, HU_BLOCKED rises and F153 is driven. -/
  | energyBlockTimeout
  /-- NV_HOST_ENERGY_TIMEOUT (R382): A host NV command has waited 10 s for energy, and ends with RESULT 2. -/
  | nvHostEnergyTimeout
  /-- HOLDUP_READY_TIMEOUT (R389): READY has stayed 0 for 60 s after EN with the supply good, and F153 is driven. -/
  | holdupReadyTimeout
  /-- POWER_FAIL (R384): PFAIL_N falls; the device mutes, makes the pads safe, sheds load, posts the power-fail record and commits its staged segments. -/
  | powerFail
  /-- POWER_FAIL_RECOVERY (R384): The supply has been good for 100 ms after the NV work, and the device chip-resets with cause power-fail recovery. -/
  | powerFailRecovery
  /-- LIFECYCLE_GO (R392): SEC_LC_CMD.GO with a valid target and CONFIRM starts a lifecycle transition and waits for energy to burn. -/
  | lifecycleGo (who : Init) (target : Fin 8) (confirm : BitVec 16)
  /-- FUSE_BURN_DONE (R392): The lifecycle fuse words are burned and verified, the entry effects are committed and the chip resets 10 ms later. -/
  | fuseBurnDone (outcome : FuseEnd)
  /-- KEY_INSTALL (R395): SEC_KEY_CMD.INSTALL unwraps the new key and commits it as a journal entry. -/
  | keyInstall (who : Init) (plain : Bool) (staged : Option (BitVec 320))
  /-- KEY_ERASE (R394): SEC_KEY_CMD.ERASE erases the key of the selected identity when admitted. -/
  | keyErase (who : Init)
  /-- PCIE_ROLE_WRITE (R396): A write of SEC_PCIE_ROLE in PROVISIONED commits the role for the next chip reset. -/
  | pcieRoleWrite (who : Init) (role : Fin 32)
  /-- ROOT_PROGRAM (R398): SEC_ROOT_CMD.PROGRAM burns a public key and usages into an unprogrammed root slot. -/
  | rootProgram (who : Init) (usage : Fin 16)
  /-- ROOT_REVOKE (R398): SEC_ROOT_CMD.REVOKE burns REVOKED for a slot, unless no firmware slot would remain. -/
  | rootRevoke (who : Init)
  /-- SVN_ADVANCE (R399): SEC_SVN.ADVANCE raises the security version counters to the running versions. -/
  | svnAdvance (who : Init)
  /-- DEBUG_AUTH (R403): The JTAG instruction DBG_AUTH checks a signed challenge and opens a debug level, or counts a failure. -/
  | debugAuth (level : Fin 3) (slot : Fin 8) (signed sigOk : Bool)
  /-- DEBUG_CHALLENGE_EXPIRED (R403): A debug challenge reaches 60 s of age and is renewed. -/
  | debugChallengeExpired
  /-- DEBUG_LOCKOUT_EXPIRED (R404): The DBG_AUTH lockout ends. -/
  | debugLockoutExpired
  /-- DEBUG_CLOSE (R404): A write of DBG_CLOSE returns the debug level to D0. -/
  | debugClose (who : Init)
  /-- DEBUG_IDLE_TIMEOUT (R404): IDLE_S seconds pass without a TCK edge above D0, and the level returns to D0. -/
  | debugIdleTimeout
  /-- JTAG_INSTRUCTION (R405): A JTAG instruction is loaded and selects its register, or BYPASS when it is not open at the level. -/
  | jtagInstruction (op : JtagOp)
  /-- POWER_TO_ACTIVE (R407): PWR_CTRL GO with TARGET ACTIVE leaves LEAN or STANDBY for ACTIVE. -/
  | powerToActive (who : Init) (drain : Bool) (keepFh : Fin 4)
  /-- POWER_TO_LEAN (R407): PWR_CTRL GO with TARGET LEAN enters LEAN if every stream in use is at RATE 2 to 4. -/
  | powerToLean (who : Init) (drain : Bool) (keepFh : Fin 4)
  /-- POWER_TO_STANDBY (R407): PWR_CTRL GO with TARGET STANDBY enters STANDBY when every path is OFF, draining them first with DRAIN = 1. -/
  | powerToStandby (who : Init) (drain : Bool) (keepFh : Fin 4)
  /-- POWER_TO_SNOWDROP (R408): PWR_CTRL GO with TARGET SNOWDROP checks the conditions and runs the SNOWDROP entry sequence from STANDBY. -/
  | powerToSnowdrop (who : Init) (drain : Bool) (keepFh : Fin 4)
  /-- POWER_TRANSITION_DONE (R407): A requested power transition completes; STATE changes and PENDING clears. -/
  | powerTransitionDone (cd41 : Word)
  /-- WAKE_PIN (R409): An enabled WAKE pin is active for 4 CD41 samples and starts a wake from SNOWDROP, or abandons an entry. -/
  | wakePin (pin : Fin 4) (level : Bool)
  /-- WAKE_TIMER_EXPIRED (R409): PWR_WAKE_TIMER CD41 cycles have elapsed in SNOWDROP, and a wake starts. -/
  | wakeTimerExpired
  /-- WAKE_PIN_STUCK (R409): A wake pin is still active 10 s after its wake; RANGE rises and the pin is ignored. -/
  | wakePinStuck (pin : Fin 4)
  /-- WAKE (R410): A decided wake powers the domains, restores device time and state, verifies firmware and the boot image and reaches STANDBY. -/
  | wake (cycles : Word) (v : BootVerdict)
  /-- TRACE_WORD (R415): An admitted trace word or marker is written into the TRC ring, or dropped when the ring is stopped. -/
  | traceWord (source : Fin 5) (aux : BitVec 24) (payload : BitVec 32)
  /-- TRC_RD_DATA_READ (R425): A read of TRC_RD_DATA returns ring bytes and advances ADDR by 4 with wrap. -/
  | trcRdDataRead (who : Init)
  /-- HKA_START (R430): HKA_CMD.START starts a host-triggered scan, or holds it one deep. -/
  | hkaStart (who : Init) (conv : Fin 2)
  /-- HKA_SCAN_TIMER (R430): PERIOD_MS elapses, and a timer-triggered scan starts or is held. -/
  | hkaScanTimer (conv : Fin 2)
  /-- HKA_CONVERSION_DONE (R431): A conversion's result is corrected, range-checked and stored, and the scan advances or ends. -/
  | hkaConversionDone (conv : Fin 2) (code : Int)
  /-- HKA_URGENT_REQUEST (R434): HKA_URG.REQ abandons the running conversion and converts the urgent channel, or is held or refused. -/
  | hkaUrgentRequest (who : Init) (ch : Fin 32) (div : Fin 8)
  /-- HKA_CAL (R435): HKA_CMD.CAL starts a 120 ms self-calibration once the reference has settled. -/
  | hkaCal (who : Init) (conv : Fin 2)
  /-- HKA_CAL_DONE (R435): A self-calibration ends, writing new factors or keeping the old ones, and held work resumes. -/
  | hkaCalDone (conv : Fin 2) (pass : Bool) (off : BitVec 24) (gain : Word)
  /-- HKA_ABORT (R436): HKA_CMD.ABORT ends the running scan or calibration. -/
  | hkaAbort (who : Init) (conv : Fin 2)
  /-- VREFEXT_CHECK (R432): The external reference fails its window three times, and the converter falls back to the internal reference. -/
  | vrefextCheck (mv : Nat)
  /-- REF_SETTLED (R432): The selected reference has settled, and conversions may start. -/
  | refSettled (conv : Fin 2)
  /-- PWM_PERIOD_START (R438): A PWM period starts; h is formed from DUTY and the soft-start ramp, with the clipping rules. -/
  | pwmPeriodStart (ch : Fin 8)
  /-- ILIM_ASSERT (R440): A current limit asserted after blanking ends the high pulse, counts a limited period and may trip the channel. -/
  | ilimAssert (ch : Fin 8) (level : IlimEdge)
  /-- ILIM_OFF_TIMEOUT (R428): ILIM has been asserted for 1 ms while the channel is OFF; RANGE rises and the input is ignored. -/
  | ilimOffTimeout (ch : Fin 8)
  /-- PWM_ENABLE (R441): PWM_CFG.EN := 1 starts a soft start from OFF. -/
  | pwmEnable (who : Init) (ch : Fin 8)
  /-- PWM_DISABLE (R441): PWM_CFG.EN := 0 takes the channel to OFF. -/
  | pwmDisable (who : Init) (ch : Fin 8)
  /-- PWM_HOLD_EXPIRED (R441): HOLD_MS elapses in TRIPPED; the channel retries a soft start or latches. -/
  | pwmHoldExpired (ch : Fin 8)
  /-- PWM_CLEAR (R441): PWM_CMD.CLEAR takes a LATCHED channel to OFF and soft-starts it again if it is enabled. -/
  | pwmClear (who : Init) (ch : Fin 8)
  /-- PWM_RUN_TIMER (R441): A channel has been in RUN for 10 s, and its RETRIES returns to 0. -/
  | pwmRunTimer (ch : Fin 8)
  /-- TACH_EDGE (R442): An accepted tachometer edge updates the fan's state, RPM and direction. -/
  | tachEdge (fan : Fin 8) (gap : Nat) (dir : Bool)
  /-- FAN_STALL_TIMEOUT (R442): STALL_MS pass without an edge, and the fan is STOPPED with RPM 0. -/
  | fanStallTimeout (fan : Fin 8)
  /-- FAN_FAIL_TIMEOUT (R444): A fan has been stopped, slow or reversed for FAIL_MS; FAN_FAIL rises and F157 is driven. -/
  | fanFailTimeout (fan : Fin 8)
  /-- SENSOR_READING (R445): A temperature sensor reading is filtered and checked; T_MAX, the levels and the band follow. -/
  | sensorReading (sensor : Fin 16) (t : Int)
  /-- SENSOR_TIMEOUT (R428): A sensor has had no valid reading for 10 ms and is lost. -/
  | sensorTimeout (sensor : Fin 16)
  /-- THERMAL_RATE_UPDATE (R445): Every 1 ms the rate of change of T_MAX is recomputed. -/
  | thermalRateUpdate
  /-- HARD_TEMP_COMPARATOR (R448): A sensor's +130 °C comparator sets and drives F154, or releases at +120 °C. -/
  | hardTempComparator (sensor : Fin 16) (on : Bool)
  /-- TWB_GO (R457): TWB_GO queues the initiator's staged transaction, or is refused while one is pending. -/
  | twbGo (who : Init) (bus : Fin 4)
  /-- TWB_TRANSACTION_START (R456): The bus is idle after the free time, and the controller starts the next queued transaction. -/
  | twbTransactionStart (bus : Fin 4)
  /-- TWB_TRANSACTION_END (R460): A transaction ends with a result, which is retried when allowed or written to the initiator's TWB_RES. -/
  | twbTransactionEnd (bus : Fin 4) (reply : TwbReply)
  /-- TWB_ARBITRATION_LOST (R462): The controller reads SDA low where it released it, stops driving and ends the attempt as ARB_LOST, ARB_STOP or ARB_RSTART. -/
  | twbArbitrationLost (bus : Fin 4) (at_ : ArbPoint)
  /-- TWB_TIMEOUT (R461): SCL is held low for TIMEOUT_MS, the transaction ends in TIMEOUT and bus recovery starts. -/
  | twbTimeout (bus : Fin 4)
  /-- TWB_BUS_RECOVERY_DONE (R461): Bus recovery ends with a STOP and the bus idle, or with the bus STUCK. -/
  | twbBusRecoveryDone (bus : Fin 4) (ok : Bool)
  /-- TWB_RECOVERY_RETRY (R461): Every 100 ms a STUCK bus tries recovery again. -/
  | twbRecoveryRetry (bus : Fin 4)
  /-- TWB_IDLE_DETECT (R456): SCL and SDA have been high for 50 µs, and the bus counts as idle. -/
  | twbIdleDetect (bus : Fin 4)
  /-- TWB_ATTENTION (R463): A target pulls SDA low on an idle bus, and the controller queues an alert response. -/
  | twbAttention (bus : Fin 4)
  /-- TWB_DISABLE (R467): TWB_CFG.EN := 0 ends the running and queued transactions with RESULT 10. -/
  | twbDisable (who : Init) (bus : Fin 4)
  /-- TWT_ADDRESS (R464): An address byte at the target port is acknowledged when it matches ADDR0 or ADDR1 and starts a read or write. -/
  | twtAddress (addr : Fin 128) (read : Bool)
  /-- TWT_BYTE_RECEIVED (R464): A written byte enters the receive FIFO, or is not acknowledged when the FIFO is full. -/
  | twtByteReceived (byte : Fin 256)
  /-- TWT_BYTE_REQUESTED (R464): The target sends the next transmit FIFO byte, or stretches while the FIFO is empty. -/
  | twtByteRequested
  /-- TWT_STOP (R465): A STOP or repeated start appends an END entry, with the PEC checked. -/
  | twtStop
  /-- TWT_STRETCH_TIMEOUT (R464): The stretch has lasted STRETCH_MS; SCL is released, 0xFF is sent and UNDERRUN rises. -/
  | twtStretchTimeout
  /-- TWT_STUCK (R464): A target bus line has been low for 35 ms; the target releases both lines and drives F126. -/
  | twtStuck
  /-- TWT_RX_POP (R468): A read of TWT_RX pops the receive FIFO entry. -/
  | twtRxPop (who : Init)
  /-- TWT_TX_PUSH (R468): A write of TWT_TX pushes a byte into the transmit FIFO, or is refused when it is full. -/
  | twtTxPush (who : Init) (last : Bool) (byte : Fin 256)
  /-- TWT_ATTN (R465): TWT_CMD.ATTN pulls SDA low for ATTN_US at the next idle bus, retrying up to three times. -/
  | twtAttn (who : Init) (us : BitVec 16) (cut : Fin 4)
  /-- TWT_FLUSH (R468): TWT_CMD.FLUSH empties both target FIFOs. -/
  | twtFlush (who : Init)
  /-- TWT_WAKE_MATCH (R466): In SNOWDROP a matching address signals a wake, holding SCL low for a write address. -/
  | twtWakeMatch (addr : Fin 128) (read : Bool)
  /-- TWT_WAKE_TIMEOUT (R466): A wake has not reached its step 4 within 20 ms, and the matcher releases SCL. -/
  | twtWakeTimeout
  /-- POWER_ON_RESET (R471): PORST_N low or loss of the always-on supply resets everything, and release starts Primrose with device time restarting. -/
  | powerOnReset (low : Bool)
  /-- RESET_PIN (R473): RESET_N falls and runs the chip reset sequence with cause 0x02. -/
  | resetPin (low : Bool)
  /-- RST_CHIP (R482): RST_CMD.CHIP with a valid CONFIRM runs a chip reset with cause 0x04. -/
  | rstChip (who : Init) (confirm : BitVec 16)
  /-- RST_PAIR_A (R482): RST_CMD.PAIR_A halts and restarts management pair A from verified firmware. -/
  | rstPairA (who : Init) (confirm : BitVec 16)
  /-- RST_PAIR_B (R482): RST_CMD.PAIR_B halts and restarts management pair B with its extension. -/
  | rstPairB (who : Init) (confirm : BitVec 16)
  /-- PRIMROSE_STEP (R475): A Primrose boot step completes after its wait, and the sequence proceeds to the next step up to HEALTHY. -/
  | primroseStep (v : BootVerdict)
  /-- WATCHDOG_KICK (R484): A write of the kick key to RST_WDA_KICK or RST_WDB_KICK is valid inside the window, or counts as an expiry. -/
  | watchdogKick (who : Init) (pair : Fin 2) (key : Word)
  /-- WATCHDOG_EXPIRED (R484): A pair watchdog's PERIOD_MS passes without a kick; EXPIRED sets and F151 is driven. -/
  | watchdogExpired (pair : Fin 2)
  /-- BOOT_WATCHDOG_EXPIRED (R485): BOOT_TO_S passes before Primrose finishes, and the chip resets with cause 0x05 and counts BOOT_FAILS. -/
  | bootWatchdogExpired
  /-- AON_WATCHDOG_KICK (R486): A write of the kick key to RST_AON_KICK restarts the always-on watchdog. -/
  | aonWatchdogKick (who : Init) (key : Word)
  /-- AON_WATCHDOG_EXPIRED (R486): The always-on watchdog expires, and the chip resets with cause 0x06 directly from CD41. -/
  | aonWatchdogExpired
  /-- PCIE_PERST (R505): PCIE_PERST_N holds the endpoint and the PCIE page in reset, and its release starts link training. -/
  | pciePerst (low : Bool)
  /-- GPIO_INPUT_CHANGE (R513): A general-purpose input level holds for FILT_US and updates GPIO_IN and its event. -/
  | gpioInputChange (pin : Fin 48) (level : Bool)
  /-- MGE_LINK_CHANGE (R326): The management Ethernet link loses or regains block lock; LINK_DOWN or LINK_UP rises and the 10 ms loss timer starts or stops. -/
  | mgeLinkChange (up : Bool)
  /-- NMEA_LABEL_TIMEOUT (R215): With LABEL = 1 a time sentence waits for the next accepted 1PPS edge, and if none arrives within 1 s it is discarded with reason 7 and RANGE rises. -/
  | nmeaLabelTimeout
  /-- GRANT_HIGH_TIMEOUT (R280): GRANT has stayed high for more than 1 ms while REQUEST is low; RANGE rises and the grant has no effect. -/
  | grantHighTimeout (pair : Fin 8)
  /-- IDLE_BUS_HELD_LOW (R461): On an idle controller bus SCL stays low for TIMEOUT_MS, or SDA stays low with SCL high beyond ATTN_MAX_MS, and bus recovery starts. -/
  | idleBusHeldLow (bus : Fin 4) (sda : Bool)
  /-- TWT_BUS_RELEASED (R464): After a stuck target bus, both lines have been high for 50 µs and F126 falls. -/
  | twtBusReleased
deriving DecidableEq, Repr

end Sys2Proof
end

