-- ==== Sys2Proof/Decode.lean ====
section
/-!
DEFINITION. The command that a word spells by the opcode table's bits. No row of the table gives bits (a command is an access of the
register bus, a received frame or an event), so no word spells one.
-/
namespace Sys2Proof

/-- The command of a word: none, since no row of the table gives bits. -/
def decodeTableWord (_nbits _w : Nat) : Option Instr := none

end Sys2Proof
end

