-- ==== Sys2Proof/Machine/Tbl.lean ====
section
/-!
DEFINITION. Sparse tables: a list of key and value pairs in one canonical form (keys strictly rising, no entry equal to what an
unlisted key reads as). Every memory of the model (registers, context words, image bytes, grid rows, NV bytes) is one of these.
-/
namespace Sys2Proof.Machine

/-- Reading a table; an unlisted key reads as `d` says. -/
def Tbl.get {α : Type} (d : Nat → α) : List (Nat × α) → Nat → α
  | [], k => d k
  | (k', v) :: t, k => if k' = k then v else Tbl.get d t k

/-- Listing a value under a key, keys rising. -/
def Tbl.put {α : Type} : List (Nat × α) → Nat → α → List (Nat × α)
  | [], k, v => [(k, v)]
  | (k', v') :: t, k, v =>
    if k < k' then (k, v) :: (k', v') :: t
    else if k = k' then (k, v) :: t
    else (k', v') :: Tbl.put t k v

/-- Unlisting a key. -/
def Tbl.del {α : Type} : List (Nat × α) → Nat → List (Nat × α)
  | [], _ => []
  | (k', v') :: t, k => if k' = k then Tbl.del t k else (k', v') :: Tbl.del t k

/-- Writing a table: a value equal to what an unlisted key reads as is unlisted. -/
def Tbl.set {α : Type} [DecidableEq α] (d : Nat → α) (t : List (Nat × α)) (k : Nat) (v : α) : List (Nat × α) :=
  if v = d k then Tbl.del t k else Tbl.put t k v

/-- Every key of the table is above a bound. -/
def Tbl.above {α : Type} (b : Nat) (t : List (Nat × α)) : Bool := t.all fun e => decide (b < e.1)

/-- The canonical form: keys strictly rising and no entry that reads as an unlisted key would. -/
def Tbl.wf {α : Type} [DecidableEq α] (d : Nat → α) : List (Nat × α) → Bool
  | [] => true
  | (k, v) :: t => Tbl.above k t && !decide (v = d k) && Tbl.wf d t

end Sys2Proof.Machine
end

