-- ==== Sys2Proof/Machine/Field.lean ====
section
/-!
DEFINITION. Bit fields of words, and the descriptions of registers and of context words by which the model names them.
-/
namespace Sys2Proof.Machine

/-- A field of a register: `base` the address for unit 0, `stride` the key step from one unit to the next, bits `hi` to `lo`. -/
structure Fld where
  base : Nat
  stride : Nat
  hi : Nat
  lo : Nat
deriving DecidableEq, Repr

/-- The key step of a register that stands behind a selection, or is held per initiator: past the whole address space (R32). -/
def Fld.unitStep : Nat := 0x40000

/-- The key of the field's register for a unit. -/
def Fld.key (f : Fld) (u : Nat) : Nat := f.base + f.stride * u

/-- The number of values of a field of bits `hi` to `lo`. -/
def fieldSize (hi lo : Nat) : Nat := 2 ^ (hi + 1 - lo)

/-- The value of bits `hi` to `lo` of a word. -/
def bitsOf (w : Word) (hi lo : Nat) : Nat := w.toNat / 2 ^ lo % fieldSize hi lo

/-- The word with bits `hi` to `lo` replaced by a value, cut to the field. -/
def putBits (w : Word) (hi lo v : Nat) : Word :=
  BitVec.ofNat 32 (w.toNat % 2 ^ lo + (v % fieldSize hi lo) * 2 ^ lo + w.toNat / 2 ^ (hi + 1) * 2 ^ (hi + 1))

/-- Reading a field value as two's complement. -/
def toSigned (v size : Nat) : Int := if 2 * v < size then (v : Int) else (v : Int) - (size : Int)

/-- The two's-complement code of an integer in a field of `size` values. -/
def ofSigned (i : Int) (size : Nat) : Nat := (i % (size : Int)).toNat

/-- x with bit n equal to b. -/
def setBitTo (x n : Nat) (b : Bool) : Nat := if b then x ||| 2 ^ n else x - (x &&& 2 ^ n)

/-- The word kept under a mask, and another word elsewhere. -/
def mergeWord (old new mask : Word) : Word := (old &&& ~~~mask) ||| (new &&& mask)

/-- A field of a channel context word. -/
structure CFld where
  word : Nat
  hi : Nat
  lo : Nat
deriving DecidableEq, Repr

/-- How the unit of a register is found: directly by its address, behind the page's selection, or one copy per initiator (R35). -/
inductive Sel where
  | plain
  | selected
  | init
deriving DecidableEq, Repr

/-- A register of a page: offset of index 0, step and number of the repeated register, how its unit is found, access masks, and
whether PAGE_CRC counts it. -/
structure RegD where
  off : Nat
  step : Nat
  count : Nat
  sel : Sel
  rw : Nat
  w1c : Nat
  wo : Nat
  counted : Bool
deriving DecidableEq, Repr

/-- The range of a writable field of a register. -/
structure RangeD where
  off : Nat
  step : Nat
  count : Nat
  hi : Nat
  lo : Nat
  least : Int
  most : Int
  signed : Bool
deriving DecidableEq, Repr

/-- An offset belongs to a repeated register of the page. -/
def offIn (off step count a : Nat) : Bool :=
  decide (off ≤ a ∧ (a - off) % step = 0 ∧ (a - off) / step < count)

end Sys2Proof.Machine
end

