-- ==== Sys2Proof/Machine/CtxRegs.lean ====
section
/-!
DEFINITION. The fields of the 64 words of a channel context, named as the spec names them (a word that the spec gives no name is
named CW and its number), with the reset word and the writable bits of each word.
-/
namespace Sys2Proof.Machine


/-! Word 0 CTX_CTRL: 03_signal_path.md -/
def CTX_CTRL.CMD : CFld := ⟨0, 31, 29⟩
def CTX_CTRL.STATE : CFld := ⟨0, 28, 26⟩
def CTX_CTRL.CMD_RESULT : CFld := ⟨0, 25, 22⟩
def CTX_CTRL.PRIO : CFld := ⟨0, 21, 20⟩
def CTX_CTRL.TICK : CFld := ⟨0, 19, 18⟩
def CTX_CTRL.WINDOW : CFld := ⟨0, 15, 12⟩
def CTX_CTRL.PATH : CFld := ⟨0, 4, 0⟩

/-! Word 1 CTX_FREQ: 03_signal_path.md -/
def CTX_FREQ.CENTRE_KHZ : CFld := ⟨1, 23, 0⟩

/-! Word 2 CTX_BW: 03_signal_path.md -/
def CTX_BW.BW_KHZ : CFld := ⟨2, 23, 0⟩

/-! Word 3 CTX_GAIN: 03_signal_path.md -/
def CTX_GAIN.TARGET_GAIN : CFld := ⟨3, 31, 16⟩
def CTX_GAIN.MAX_GAIN : CFld := ⟨3, 15, 0⟩

/-! Word 4 CTX_POWER: 03_signal_path.md -/
def CTX_POWER.MAX_POWER : CFld := ⟨4, 31, 16⟩
def CTX_POWER.SHARE_POWER : CFld := ⟨4, 15, 0⟩

/-! Word 5 CTX_RAMP: 03_signal_path.md -/
def CTX_RAMP.RAMP_RATE : CFld := ⟨5, 31, 16⟩
def CTX_RAMP.DRAIN_US : CFld := ⟨5, 15, 0⟩

/-! Word 6 CTX_OWNER: 03_signal_path.md -/
def CTX_OWNER.EXPERT_PRIV : CFld := ⟨6, 8, 8⟩
def CTX_OWNER.OWNER : CFld := ⟨6, 4, 0⟩

/-! Word 7 CW7: 03_signal_path.md -/

/-! Word 8 CTX_MEAS_GAIN: 03_signal_path.md -/
def CTX_MEAS_GAIN.MEAS_GAIN : CFld := ⟨8, 31, 16⟩
def CTX_MEAS_GAIN.APPLIED_GAIN : CFld := ⟨8, 15, 0⟩

/-! Word 9 CTX_MEAS_POWER: 03_signal_path.md -/
def CTX_MEAS_POWER.IN_POWER : CFld := ⟨9, 31, 16⟩
def CTX_MEAS_POWER.OUT_POWER : CFld := ⟨9, 15, 0⟩

/-! Word 10 CTX_STATUS: 03_signal_path.md -/
def CTX_STATUS.MUTE_CAUSE : CFld := ⟨10, 31, 28⟩
def CTX_STATUS.WIN_LOOP : CFld := ⟨10, 27, 24⟩
def CTX_STATUS.BUDGET : CFld := ⟨10, 23, 22⟩
def CTX_STATUS.MUTE_SET : CFld := ⟨10, 20, 16⟩
def CTX_STATUS.TRANSITIONS : CFld := ⟨10, 15, 0⟩

/-! Word 11 CTX_STATE_TIME: 03_signal_path.md -/
def CTX_STATE_TIME.DT : CFld := ⟨11, 31, 0⟩

/-! Word 12 CTX_LOOP_CTRL: 06_gain_loops.md -/
def CTX_LOOP_CTRL.L2_EN : CFld := ⟨12, 31, 31⟩
def CTX_LOOP_CTRL.SUPPLY_FF : CFld := ⟨12, 30, 30⟩
def CTX_LOOP_CTRL.FE_EN : CFld := ⟨12, 29, 29⟩
def CTX_LOOP_CTRL.FE_ACK : CFld := ⟨12, 28, 28⟩
def CTX_LOOP_CTRL.START_FLOOR : CFld := ⟨12, 15, 0⟩

/-! Word 13 CTX_LOOP_TC: 06_gain_loops.md -/
def CTX_LOOP_TC.L1_TC_MS : CFld := ⟨13, 31, 16⟩
def CTX_LOOP_TC.L2_TC_MS : CFld := ⟨13, 15, 0⟩

/-! Word 14 CTX_FE_LIM: 06_gain_loops.md -/
def CTX_FE_LIM.FE_GAIN_LIM : CFld := ⟨14, 31, 16⟩
def CTX_FE_LIM.FE_POWER_LIM : CFld := ⟨14, 15, 0⟩

/-! Word 15 CTX_FE_TIME: 06_gain_loops.md -/
def CTX_FE_TIME.FE_TIME_MS : CFld := ⟨15, 31, 16⟩
def CTX_FE_TIME.TRIM_MAX : CFld := ⟨15, 15, 0⟩

/-! Word 16 CTX_PROP_A: 06_gain_loops.md -/
def CTX_PROP_A.G1 : CFld := ⟨16, 31, 16⟩
def CTX_PROP_A.G2 : CFld := ⟨16, 15, 0⟩

/-! Word 17 CTX_PROP_B: 06_gain_loops.md -/
def CTX_PROP_B.G3 : CFld := ⟨17, 31, 16⟩
def CTX_PROP_B.G4 : CFld := ⟨17, 15, 0⟩

/-! Word 18 CTX_PROP_C: 06_gain_loops.md -/
def CTX_PROP_C.G5 : CFld := ⟨18, 31, 16⟩
def CTX_PROP_C.G_WIN : CFld := ⟨18, 15, 0⟩

/-! Word 19 CTX_FE_STAT: 06_gain_loops.md -/
def CTX_FE_STAT.E_GAIN : CFld := ⟨19, 31, 16⟩
def CTX_FE_STAT.E_POWER : CFld := ⟨19, 15, 0⟩

/-! Word 20 CTX_GRID: 07_gain_grid.md -/
def CTX_GRID.SCS : CFld := ⟨20, 31, 30⟩
def CTX_GRID.ECP : CFld := ⟨20, 29, 29⟩
def CTX_GRID.NG_EN : CFld := ⟨20, 28, 28⟩
def CTX_GRID.CL_EN : CFld := ⟨20, 27, 27⟩
def CTX_GRID.CL_CARRIER : CFld := ⟨20, 26, 22⟩
def CTX_GRID.SC_ID : CFld := ⟨20, 15, 0⟩

/-! Word 21 CTX_RB0: 07_gain_grid.md -/
def CTX_RB0.RB0_OFFSET_KHZ : CFld := ⟨21, 12, 0⟩

/-! Word 22 CTX_STRIPS: 07_gain_grid.md -/
def CTX_STRIPS.STRIP_FIRST : CFld := ⟨22, 27, 16⟩
def CTX_STRIPS.STRIP_COUNT : CFld := ⟨22, 11, 0⟩

/-! Word 23 CTX_GRID_STAT: 07_gain_grid.md -/
def CTX_GRID_STAT.REFUSED_ROWS : CFld := ⟨23, 31, 16⟩
def CTX_GRID_STAT.BOOST_DENIED : CFld := ⟨23, 15, 0⟩

/-! Word 24 CTX_NPR_CFG: 09_network_protection.md -/
def CTX_NPR_CFG.MIN_DROP_DB : CFld := ⟨24, 31, 16⟩
def CTX_NPR_CFG.NOISE_TARGET : CFld := ⟨24, 15, 0⟩

/-! Word 25 CTX_GRANT: 09_network_protection.md -/
def CTX_GRANT.DEMAND : CFld := ⟨25, 31, 16⟩
def CTX_GRANT.GRANT : CFld := ⟨25, 15, 0⟩

/-! Word 26 CTX_BUDGET_STAT: 09_network_protection.md -/
def CTX_BUDGET_STAT.REASON : CFld := ⟨26, 31, 28⟩
def CTX_BUDGET_STAT.PORT : CFld := ⟨26, 27, 23⟩
def CTX_BUDGET_STAT.ENTRY : CFld := ⟨26, 22, 16⟩
def CTX_BUDGET_STAT.REFUSALS : CFld := ⟨26, 15, 0⟩

/-! Word 27 CTX_FOX: 09_network_protection.md -/
def CTX_FOX.TRIGGER : CFld := ⟨27, 31, 28⟩
def CTX_FOX.SHUTDOWNS : CFld := ⟨27, 15, 0⟩

/-! Word 32 CW32: 06_gain_loops.md -/
def CW32.KI1_M : CFld := ⟨32, 31, 0⟩

/-! Word 33 CW33: 06_gain_loops.md -/
def CW33.KI1_S : CFld := ⟨33, 4, 0⟩

/-! Word 34 CW34: 06_gain_loops.md -/
def CW34.KI2_M : CFld := ⟨34, 31, 0⟩

/-! Word 35 CW35: 06_gain_loops.md -/
def CW35.KI2_S : CFld := ⟨35, 4, 0⟩

/-! Word 36 CW36: 06_gain_loops.md -/
def CW36.KP3_M : CFld := ⟨36, 31, 0⟩

/-! Word 37 CW37: 06_gain_loops.md -/
def CW37.KP3_S : CFld := ⟨37, 4, 0⟩

/-! Word 38 CW38: 06_gain_loops.md -/
def CW38.KP4_M : CFld := ⟨38, 31, 0⟩

/-! Word 39 CW39: 06_gain_loops.md -/
def CW39.KP4_S : CFld := ⟨39, 4, 0⟩

/-! Word 40 CW40: 06_gain_loops.md -/
def CW40.I1 : CFld := ⟨40, 31, 16⟩
def CW40.I2 : CFld := ⟨40, 15, 0⟩

/-! Word 41 CW41: 06_gain_loops.md -/
def CW41.I1_MAX : CFld := ⟨41, 31, 16⟩
def CW41.I2_MAX : CFld := ⟨41, 15, 0⟩

/-! Word 42 CW42: 06_gain_loops.md -/
def CW42.TX_CAL_NOM : CFld := ⟨42, 31, 16⟩
def CW42.SUPPLY_CORR : CFld := ⟨42, 15, 0⟩

/-! Word 43 CW43: 06_gain_loops.md -/
def CW43.HEADROOM : CFld := ⟨43, 31, 16⟩
def CW43.RISE_DEADBAND : CFld := ⟨43, 15, 0⟩

/-! Word 44 CW44: 06_gain_loops.md -/
def CW44.MEAS_SHIFT : CFld := ⟨44, 7, 4⟩

/-! Word 45 CW45: 06_gain_loops.md -/
def CW45.FE_TIMER : CFld := ⟨45, 31, 16⟩
def CW45.FE_POWER_OVER : CFld := ⟨45, 1, 1⟩
def CW45.FE_GAIN_OVER : CFld := ⟨45, 0, 0⟩

/-! Word 46 CW46: 06_gain_loops.md -/
def CW46.REG_GAIN : CFld := ⟨46, 31, 16⟩
def CW46.REG_POWER : CFld := ⟨46, 15, 0⟩

/-! Word 47 CW47: 06_gain_loops.md -/
def CW47.NOISE_MEAS : CFld := ⟨47, 31, 16⟩
def CW47.NOISE_LIM : CFld := ⟨47, 15, 0⟩

/-! Word 48 CW48: 05_feedback_cancellation.md -/
def CW48.MARGIN : CFld := ⟨48, 31, 16⟩
def CW48.GAIN_PERMIT : CFld := ⟨48, 15, 0⟩

/-! Word 49 CW49: 05_feedback_cancellation.md -/
def CW49.ISO : CFld := ⟨49, 31, 16⟩
def CW49.CANC : CFld := ⟨49, 15, 0⟩

/-! Word 50 CW50: 05_feedback_cancellation.md -/
def CW50.REQ_MARGIN : CFld := ⟨50, 31, 16⟩

/-! Word 51 CW51: 05_feedback_cancellation.md -/
def CW51.CLAMPS : CFld := ⟨51, 31, 16⟩
def CW51.ISO_SRC : CFld := ⟨51, 15, 14⟩
def CW51.WORST_REF : CFld := ⟨51, 9, 8⟩
def CW51.WORST_SB : CFld := ⟨51, 5, 0⟩

/-! Word 52 CW52:  -/

/-! Word 53 CW53:  -/

/-! Word 54 CW54: 09_network_protection.md R249 -/
def CW54.NOISE_ADJ : CFld := ⟨54, 31, 16⟩

/-! Word 60 CW60: 03_signal_path.md -/
def CW60.RX_CAL : CFld := ⟨60, 15, 0⟩

/-! Word 61 CW61: 03_signal_path.md -/
def CW61.TX_CAL : CFld := ⟨61, 15, 0⟩

/-! Word 62 CW62: 03_signal_path.md -/
def CW62.DIG_GAIN : CFld := ⟨62, 15, 0⟩

/-! Word 63 CW63: 03_signal_path.md -/
def CW63.STEP_LIMIT : CFld := ⟨63, 15, 0⟩

/-- The reset value of each context word (Reset columns of the word tables); words 32 to 35 and 41 as R167 derives them at 48 kHz. -/
def ctxResetWord (w : Nat) : Nat :=
  match w with
  | 0 => 0x00100000
  | 3 => 0x80000000
  | 5 => 0x00400014
  | 6 => 0x0000001F
  | 8 => 0x80008000
  | 9 => 0x80008000
  | 10 => 0x00C00000
  | 12 => 0xE0000000
  | 13 => 0x00640014
  | 14 => 0x00C00080
  | 15 => 0x001400C0
  | 16 => 0x80008000
  | 17 => 0x80008000
  | 18 => 0x80008000
  | 19 => 0x80008000
  | 20 => 0x4000FFFF
  | 24 => 0x02807FFF
  | 25 => 0x80008000
  | 26 => 0x007F0000
  | 32 => 447392
  | 33 => 0x0000001F
  | 34 => 0x00222222
  | 35 => 0x0000001F
  | 36 => 0x40000000
  | 37 => 0x0000001E
  | 38 => 0x40000000
  | 39 => 0x0000001F
  | 41 => 0x00C000C0
  | 43 => 0x00200004
  | 44 => 0x00000020
  | 46 => 0x80008000
  | 47 => 0x80008000
  | 48 => 0x7FFF7FFF
  | 49 => 0x80008000
  | 50 => 0x80000000
  | 51 => 0x00008000
  | 63 => 0x00000040
  | _ => 0

/-- The writable (RW) bits of each context word. -/
def ctxRwMask (w : Nat) : Nat :=
  match w with
  | 0 => 0x003CF01F
  | 1 => 0x00FFFFFF
  | 2 => 0x00FFFFFF
  | 3 => 0xFFFFFFFF
  | 4 => 0xFFFFFFFF
  | 5 => 0xFFFFFFFF
  | 6 => 0x0000011F
  | 12 => 0xE000FFFF
  | 13 => 0xFFFFFFFF
  | 14 => 0xFFFFFFFF
  | 15 => 0xFFFFFFFF
  | 20 => 0xFFC0FFFF
  | 21 => 0x00001FFF
  | 24 => 0xFFFFFFFF
  | 32 => 0xFFFFFFFF
  | 33 => 0x0000001F
  | 34 => 0xFFFFFFFF
  | 35 => 0x0000001F
  | 36 => 0xFFFFFFFF
  | 37 => 0x0000001F
  | 38 => 0xFFFFFFFF
  | 39 => 0x0000001F
  | 41 => 0xFFFFFFFF
  | 42 => 0xFFFF0000
  | 43 => 0xFFFFFFFF
  | 44 => 0x000000F0
  | 50 => 0xFFFF0000
  | 54 => 0xFFFF0000
  | 60 => 0x0000FFFF
  | 61 => 0x0000FFFF
  | 63 => 0x0000FFFF
  | _ => 0

end Sys2Proof.Machine
end

