-- ==== Sys2Proof/Machine/Regs.lean ====
section
/-!
DEFINITION. The register fields of the pages, one constant per field, named as the spec names them: the register's name, a dot,
the field's name.  `base` is the register's address (page number times 0x1000 plus the offset, rule R32) for index 0; `stride` is
the address step of an indexed register, or `Fld.unitStep` for a register that stands behind a selection or is held per initiator.
Registers of the link groups use the addresses of group 0 with `Fld.unitStep` per group.
-/
namespace Sys2Proof.Machine


/-! SYS_DEVICE_ID: 00_scope.md, offset 0x040 -/
def SYS_DEVICE_ID.PART : Fld := ⟨0x00040, 0, 31, 16⟩
def SYS_DEVICE_ID.STEPPING : Fld := ⟨0x00040, 0, 15, 8⟩

/-! SYS_UNIT_COUNT0: 00_scope.md, offset 0x044 -/
def SYS_UNIT_COUNT0.DONOR_PORTS : Fld := ⟨0x00044, 0, 31, 24⟩
def SYS_UNIT_COUNT0.SERVICE_PORTS : Fld := ⟨0x00044, 0, 23, 16⟩
def SYS_UNIT_COUNT0.PATHS : Fld := ⟨0x00044, 0, 15, 8⟩
def SYS_UNIT_COUNT0.CAN_INSTANCES : Fld := ⟨0x00044, 0, 7, 0⟩

/-! SYS_UNIT_COUNT1: 00_scope.md, offset 0x048 -/
def SYS_UNIT_COUNT1.CONTEXTS : Fld := ⟨0x00048, 0, 31, 16⟩
def SYS_UNIT_COUNT1.LINK_GROUPS : Fld := ⟨0x00048, 0, 15, 8⟩
def SYS_UNIT_COUNT1.FH_LANES : Fld := ⟨0x00048, 0, 7, 0⟩

/-! CLK_DEVTIME_LO: 01_architecture.md, offset 0x040 -/
def CLK_DEVTIME_LO.DT_LO : Fld := ⟨0x01040, 0, 31, 0⟩

/-! CLK_DEVTIME_HI: 01_architecture.md, offset 0x044 (per initiator) -/
def CLK_DEVTIME_HI.DT_HI : Fld := ⟨0x01044, Fld.unitStep, 31, 0⟩

/-! CLK_XTS_CTRL: 01_architecture.md, offset 0x048 -/
def CLK_XTS_CTRL.DONE : Fld := ⟨0x01048, 0, 2, 2⟩
def CLK_XTS_CTRL.BUSY : Fld := ⟨0x01048, 0, 1, 1⟩
def CLK_XTS_CTRL.REQ : Fld := ⟨0x01048, 0, 0, 0⟩

/-! CLK_XTS_DT_LO: 01_architecture.md, offset 0x04C -/
def CLK_XTS_DT_LO.DT_LO : Fld := ⟨0x0104C, 0, 31, 0⟩

/-! CLK_XTS_DT_HI: 01_architecture.md, offset 0x050 -/
def CLK_XTS_DT_HI.DT_HI : Fld := ⟨0x01050, 0, 31, 0⟩

/-! CLK_XTS_SEC_LO: 01_architecture.md, offset 0x054 -/
def CLK_XTS_SEC_LO.SEC_LO : Fld := ⟨0x01054, 0, 31, 0⟩

/-! CLK_XTS_SEC_HI: 01_architecture.md, offset 0x058 -/
def CLK_XTS_SEC_HI.SEC_HI : Fld := ⟨0x01058, 0, 15, 0⟩

/-! CLK_XTS_NS: 01_architecture.md, offset 0x05C -/
def CLK_XTS_NS.NS : Fld := ⟨0x0105C, 0, 31, 0⟩

/-! CLK_PLL_STAT: 01_architecture.md, offset 0x060 -/
def CLK_PLL_STAT.AON_OK : Fld := ⟨0x01060, 0, 9, 9⟩
def CLK_PLL_STAT.REFCLK_OK : Fld := ⟨0x01060, 0, 8, 8⟩
def CLK_PLL_STAT.PLLD_LOCK : Fld := ⟨0x01060, 0, 3, 3⟩
def CLK_PLL_STAT.PLLC_LOCK : Fld := ⟨0x01060, 0, 2, 2⟩
def CLK_PLL_STAT.PLLB_LOCK : Fld := ⟨0x01060, 0, 1, 1⟩
def CLK_PLL_STAT.PLLA_LOCK : Fld := ⟨0x01060, 0, 0, 0⟩

/-! CLK_DOMAIN_RUN0: 01_architecture.md, offset 0x064 -/
def CLK_DOMAIN_RUN0.RUN : Fld := ⟨0x01064, 0, 31, 0⟩

/-! CLK_DOMAIN_RUN1: 01_architecture.md, offset 0x068 -/
def CLK_DOMAIN_RUN1.RUN : Fld := ⟨0x01068, 0, 14, 0⟩

/-! CLK_DOMAIN_FAIL0: 01_architecture.md, offset 0x06C -/
def CLK_DOMAIN_FAIL0.FAIL : Fld := ⟨0x0106C, 0, 31, 0⟩

/-! CLK_DOMAIN_FAIL1: 01_architecture.md, offset 0x070 -/
def CLK_DOMAIN_FAIL1.FAIL : Fld := ⟨0x01070, 0, 14, 0⟩

/-! PAGE_ID: 02_register_pages.md, offset 0x000 step 4096, 64 of them -/
def PAGE_ID.VERSION : Fld := ⟨0x00000, 4096, 31, 28⟩
def PAGE_ID.PAGE : Fld := ⟨0x00000, 4096, 21, 16⟩
def PAGE_ID.INSTANCE : Fld := ⟨0x00000, 4096, 15, 8⟩
def PAGE_ID.BLOCK : Fld := ⟨0x00000, 4096, 7, 0⟩

/-! PAGE_CAP: 02_register_pages.md, offset 0x004 step 4096, 64 of them -/
def PAGE_CAP.PRESENT : Fld := ⟨0x00004, 4096, 31, 31⟩
def PAGE_CAP.HAS_EXPERT : Fld := ⟨0x00004, 4096, 30, 30⟩
def PAGE_CAP.HAS_OWNER : Fld := ⟨0x00004, 4096, 29, 29⟩
def PAGE_CAP.HAS_SELFTEST : Fld := ⟨0x00004, 4096, 28, 28⟩
def PAGE_CAP.UNITS : Fld := ⟨0x00004, 4096, 23, 16⟩
def PAGE_CAP.FEATURES : Fld := ⟨0x00004, 4096, 15, 0⟩

/-! PAGE_CTRL: 02_register_pages.md, offset 0x008 step 4096, 64 of them -/
def PAGE_CTRL.SAT_CLR : Fld := ⟨0x00008, 4096, 4, 4⟩
def PAGE_CTRL.CFG_LOCK : Fld := ⟨0x00008, 4096, 3, 3⟩
def PAGE_CTRL.CRC_CHECK_EN : Fld := ⟨0x00008, 4096, 2, 2⟩
def PAGE_CTRL.BLOCK_RESET : Fld := ⟨0x00008, 4096, 1, 1⟩
def PAGE_CTRL.ENABLE : Fld := ⟨0x00008, 4096, 0, 0⟩

/-! PAGE_STAT: 02_register_pages.md, offset 0x00C step 4096, 64 of them -/
def PAGE_STAT.LAST_REFUSE : Fld := ⟨0x0000C, 4096, 31, 28⟩
def PAGE_STAT.LAST_INIT : Fld := ⟨0x0000C, 4096, 27, 26⟩
def PAGE_STAT.CRC_STALE : Fld := ⟨0x0000C, 4096, 7, 7⟩
def PAGE_STAT.OVERRIDE : Fld := ⟨0x0000C, 4096, 6, 6⟩
def PAGE_STAT.CRC_ERR : Fld := ⟨0x0000C, 4096, 5, 5⟩
def PAGE_STAT.SELFTEST_ACTIVE : Fld := ⟨0x0000C, 4096, 4, 4⟩
def PAGE_STAT.BUSY : Fld := ⟨0x0000C, 4096, 1, 1⟩
def PAGE_STAT.READY : Fld := ⟨0x0000C, 4096, 0, 0⟩

/-! EVT_STICKY: 02_register_pages.md, offset 0x010 step 4096, 64 of them -/
def EVT_STICKY.STICKY : Fld := ⟨0x00010, 4096, 31, 0⟩

/-! EVT_ENABLE: 02_register_pages.md, offset 0x014 step 4096, 64 of them -/
def EVT_ENABLE.ENABLE : Fld := ⟨0x00014, 4096, 31, 0⟩

/-! EVT_FORCE: 02_register_pages.md, offset 0x018 step 4096, 64 of them -/
def EVT_FORCE.FORCE : Fld := ⟨0x00018, 4096, 31, 0⟩

/-! EVT_LEVEL: 02_register_pages.md, offset 0x01C step 4096, 64 of them -/
def EVT_LEVEL.LEVEL : Fld := ⟨0x0001C, 4096, 31, 0⟩

/-! EVT_COUNT: 02_register_pages.md, offset 0x020 step 4096, 64 of them -/
def EVT_COUNT.SEL : Fld := ⟨0x00020, 4096, 31, 27⟩
def EVT_COUNT.SNAP : Fld := ⟨0x00020, 4096, 26, 26⟩
def EVT_COUNT.COUNT : Fld := ⟨0x00020, 4096, 23, 0⟩

/-! EXPERT_UNLOCK: 02_register_pages.md, offset 0x024 step 4096, 64 of them -/
def EXPERT_UNLOCK.KEY : Fld := ⟨0x00024, 4096, 31, 0⟩
def EXPERT_UNLOCK.ARMED : Fld := ⟨0x00024, 4096, 7, 4⟩
def EXPERT_UNLOCK.OPEN : Fld := ⟨0x00024, 4096, 3, 0⟩

/-! OWNER: 02_register_pages.md, offset 0x028 step 4096, 64 of them -/
def OWNER.ID : Fld := ⟨0x00028, 4096, 4, 0⟩

/-! LOCK_STATE: 02_register_pages.md, offset 0x02C step 4096, 64 of them -/
def LOCK_STATE.DEBUG : Fld := ⟨0x0002C, 4096, 9, 8⟩
def LOCK_STATE.REG_LOCK : Fld := ⟨0x0002C, 4096, 5, 5⟩
def LOCK_STATE.CFG_LOCKED : Fld := ⟨0x0002C, 4096, 4, 4⟩
def LOCK_STATE.LIFECYCLE : Fld := ⟨0x0002C, 4096, 2, 0⟩

/-! PAGE_CRC: 02_register_pages.md, offset 0x030 step 4096, 64 of them -/
def PAGE_CRC.CRC : Fld := ⟨0x00030, 4096, 31, 0⟩

/-! SELFTEST: 02_register_pages.md, offset 0x034 step 4096, 64 of them -/
def SELFTEST.START : Fld := ⟨0x00034, 4096, 31, 31⟩
def SELFTEST.BUSY : Fld := ⟨0x00034, 4096, 30, 30⟩
def SELFTEST.RESULT : Fld := ⟨0x00034, 4096, 29, 28⟩
def SELFTEST.DETAIL : Fld := ⟨0x00034, 4096, 15, 0⟩

/-! CTXW_SEL: 02_register_pages.md, offset 0x040 step 4, 4 of them -/
def CTXW_SEL.COMMIT : Fld := ⟨0x27040, 4, 31, 31⟩
def CTXW_SEL.MODE : Fld := ⟨0x27040, 4, 16, 16⟩
def CTXW_SEL.CTX : Fld := ⟨0x27040, 4, 11, 0⟩

/-! CTXW_STAT: 02_register_pages.md, offset 0x050 step 4, 4 of them -/
def CTXW_STAT.SNAP_VALID : Fld := ⟨0x27050, 4, 31, 31⟩
def CTXW_STAT.COMMIT_PENDING : Fld := ⟨0x27050, 4, 30, 30⟩
def CTXW_STAT.COMMIT_DONE : Fld := ⟨0x27050, 4, 29, 29⟩
def CTXW_STAT.LAST_REFUSE : Fld := ⟨0x27050, 4, 27, 24⟩
def CTXW_STAT.CTX : Fld := ⟨0x27050, 4, 11, 0⟩

/-! CHN_PATH_CFG: 03_signal_path.md, offset 0x200 step 16, 32 of them -/
def CHN_PATH_CFG.ENABLE : Fld := ⟨0x13200, 16, 31, 31⟩
def CHN_PATH_CFG.TGROUP : Fld := ⟨0x13200, 16, 30, 28⟩
def CHN_PATH_CFG.DONOR : Fld := ⟨0x13200, 16, 20, 16⟩
def CHN_PATH_CFG.SVC_MASK : Fld := ⟨0x13200, 16, 15, 0⟩

/-! CHN_PATH_DLY: 03_signal_path.md, offset 0x204 step 16, 32 of them -/
def CHN_PATH_DLY.DELAY_NS : Fld := ⟨0x13204, 16, 15, 0⟩

/-! CHN_PATH_STAT: 03_signal_path.md, offset 0x208 step 16, 32 of them -/
def CHN_PATH_STAT.STATE : Fld := ⟨0x13208, 16, 31, 30⟩
def CHN_PATH_STAT.PROFILE : Fld := ⟨0x13208, 16, 29, 29⟩
def CHN_PATH_STAT.DELAY_PENDING : Fld := ⟨0x13208, 16, 28, 28⟩
def CHN_PATH_STAT.LATENCY : Fld := ⟨0x13208, 16, 27, 15⟩
def CHN_PATH_STAT.CTX_COUNT : Fld := ⟨0x13208, 16, 12, 0⟩

/-! CHN_WSEL: 03_signal_path.md, offset 0x040 (per initiator) -/
def CHN_WSEL.PATH : Fld := ⟨0x13040, Fld.unitStep, 12, 8⟩
def CHN_WSEL.WIN : Fld := ⟨0x13040, Fld.unitStep, 3, 0⟩

/-! CHN_WIN_LO: 03_signal_path.md, offset 0x044 (behind the selection) -/
def CHN_WIN_LO.EN : Fld := ⟨0x13044, Fld.unitStep, 31, 31⟩
def CHN_WIN_LO.EDGE : Fld := ⟨0x13044, Fld.unitStep, 30, 29⟩
def CHN_WIN_LO.F_LOW_KHZ : Fld := ⟨0x13044, Fld.unitStep, 23, 0⟩

/-! CHN_WIN_HI: 03_signal_path.md, offset 0x048 (behind the selection) -/
def CHN_WIN_HI.F_HIGH_KHZ : Fld := ⟨0x13048, Fld.unitStep, 23, 0⟩

/-! CHN_SUM_CLIP: 03_signal_path.md, offset 0x04C -/
def CHN_SUM_CLIP.STREAM : Fld := ⟨0x1304C, 0, 5, 0⟩

/-! SCH_ACTIVE: 04_schedule_images.md, offset 0x040 -/
def SCH_ACTIVE.GEN : Fld := ⟨0x12040, 0, 31, 16⟩
def SCH_ACTIVE.SLOT : Fld := ⟨0x12040, 0, 8, 8⟩
def SCH_ACTIVE.SWAPS : Fld := ⟨0x12040, 0, 7, 0⟩

/-! SCH_SLOTA_STAT: 04_schedule_images.md, offset 0x044 -/
def SCH_SLOTA_STAT.GEN : Fld := ⟨0x12044, 0, 31, 16⟩
def SCH_SLOTA_STAT.STATE : Fld := ⟨0x12044, 0, 15, 12⟩
def SCH_SLOTA_STAT.RESULT : Fld := ⟨0x12044, 0, 7, 0⟩

/-! SCH_SLOTB_STAT: 04_schedule_images.md, offset 0x048 -/
def SCH_SLOTB_STAT.GEN : Fld := ⟨0x12048, 0, 31, 16⟩
def SCH_SLOTB_STAT.STATE : Fld := ⟨0x12048, 0, 15, 12⟩
def SCH_SLOTB_STAT.RESULT : Fld := ⟨0x12048, 0, 7, 0⟩

/-! SCH_SLOTA_BUILD: 04_schedule_images.md, offset 0x04C -/
def SCH_SLOTA_BUILD.BUILD_ID : Fld := ⟨0x1204C, 0, 31, 0⟩

/-! SCH_SLOTB_BUILD: 04_schedule_images.md, offset 0x050 -/
def SCH_SLOTB_BUILD.BUILD_ID : Fld := ⟨0x12050, 0, 31, 0⟩

/-! SCH_LOAD_CTRL: 04_schedule_images.md, offset 0x060 -/
def SCH_LOAD_CTRL.CMD : Fld := ⟨0x12060, 0, 31, 30⟩
def SCH_LOAD_CTRL.SLOT : Fld := ⟨0x12060, 0, 29, 29⟩
def SCH_LOAD_CTRL.LENGTH : Fld := ⟨0x12060, 0, 18, 0⟩

/-! SCH_LOAD_ADDR: 04_schedule_images.md, offset 0x064 -/
def SCH_LOAD_ADDR.ADDR : Fld := ⟨0x12064, 0, 17, 0⟩

/-! SCH_LOAD_DATA: 04_schedule_images.md, offset 0x068 -/
def SCH_LOAD_DATA.DATA : Fld := ⟨0x12068, 0, 31, 0⟩

/-! SCH_LOAD_MAP: 04_schedule_images.md, offset 0x070 step 4, 8 of them -/
def SCH_LOAD_MAP.MAP : Fld := ⟨0x12070, 4, 31, 0⟩

/-! SCH_SWAP_CTRL: 04_schedule_images.md, offset 0x090 -/
def SCH_SWAP_CTRL.CMD : Fld := ⟨0x12090, 0, 31, 30⟩
def SCH_SWAP_CTRL.MODE : Fld := ⟨0x12090, 0, 29, 29⟩
def SCH_SWAP_CTRL.FALLBACK : Fld := ⟨0x12090, 0, 28, 28⟩
def SCH_SWAP_CTRL.AT : Fld := ⟨0x12090, 0, 27, 27⟩
def SCH_SWAP_CTRL.TGROUP : Fld := ⟨0x12090, 0, 26, 24⟩

/-! SCH_SWAP_AT: 04_schedule_images.md, offset 0x094 -/
def SCH_SWAP_AT.ORDINAL : Fld := ⟨0x12094, 0, 31, 0⟩

/-! SCH_SWAP_STAT: 04_schedule_images.md, offset 0x098 -/
def SCH_SWAP_STAT.STATE : Fld := ⟨0x12098, 0, 31, 28⟩
def SCH_SWAP_STAT.REASON : Fld := ⟨0x12098, 0, 27, 24⟩
def SCH_SWAP_STAT.EVICT : Fld := ⟨0x12098, 0, 12, 0⟩

/-! SCH_SWAP_DT_LO: 04_schedule_images.md, offset 0x09C -/
def SCH_SWAP_DT_LO.DT : Fld := ⟨0x1209C, 0, 31, 0⟩

/-! SCH_SWAP_DT_HI: 04_schedule_images.md, offset 0x0A0 -/
def SCH_SWAP_DT_HI.DT : Fld := ⟨0x120A0, 0, 31, 0⟩

/-! SCH_PLAN_KEPT: 04_schedule_images.md, offset 0x0A4 -/
def SCH_PLAN_KEPT.PATHS : Fld := ⟨0x120A4, 0, 31, 0⟩

/-! SCH_PLAN_MOVED: 04_schedule_images.md, offset 0x0A8 -/
def SCH_PLAN_MOVED.PATHS : Fld := ⟨0x120A8, 0, 31, 0⟩

/-! SCH_PLAN_REMOVED: 04_schedule_images.md, offset 0x0AC -/
def SCH_PLAN_REMOVED.PATHS : Fld := ⟨0x120AC, 0, 31, 0⟩

/-! SCH_PLAN_ADDED: 04_schedule_images.md, offset 0x0B0 -/
def SCH_PLAN_ADDED.PATHS : Fld := ⟨0x120B0, 0, 31, 0⟩

/-! SCH_POOL12: 04_schedule_images.md, offset 0x0C0 -/
def SCH_POOL12.TOTAL : Fld := ⟨0x120C0, 0, 31, 16⟩
def SCH_POOL12.FREE : Fld := ⟨0x120C0, 0, 15, 0⟩

/-! SCH_POOL24: 04_schedule_images.md, offset 0x0C4 -/
def SCH_POOL24.TOTAL : Fld := ⟨0x120C4, 0, 31, 16⟩
def SCH_POOL24.FREE : Fld := ⟨0x120C4, 0, 15, 0⟩

/-! SCH_POOL48: 04_schedule_images.md, offset 0x0C8 -/
def SCH_POOL48.TOTAL : Fld := ⟨0x120C8, 0, 31, 16⟩
def SCH_POOL48.FREE : Fld := ⟨0x120C8, 0, 15, 0⟩

/-! SCH_POOL96: 04_schedule_images.md, offset 0x0CC -/
def SCH_POOL96.TOTAL : Fld := ⟨0x120CC, 0, 31, 16⟩
def SCH_POOL96.FREE : Fld := ⟨0x120CC, 0, 15, 0⟩

/-! SCH_CE_LOAD: 04_schedule_images.md, offset 0x0D0 -/
def SCH_CE_LOAD.USED : Fld := ⟨0x120D0, 0, 31, 16⟩
def SCH_CE_LOAD.CAPACITY : Fld := ⟨0x120D0, 0, 15, 0⟩

/-! SCH_M2G: 04_schedule_images.md, offset 0x0D4 -/
def SCH_M2G.CYCLES : Fld := ⟨0x120D4, 0, 15, 0⟩

/-! SCH_TABLE_ECC: 04_schedule_images.md, offset 0x0D8 -/
def SCH_TABLE_ECC.CORR : Fld := ⟨0x120D8, 0, 15, 0⟩

/-! CAN_ISEL: 05_feedback_cancellation.md, offset 0x040 (per initiator) -/
def CAN_ISEL.SB : Fld := ⟨0x14040, Fld.unitStep, 21, 16⟩
def CAN_ISEL.INST : Fld := ⟨0x14040, Fld.unitStep, 4, 0⟩

/-! CAN_CTRL: 05_feedback_cancellation.md, offset 0x044 (behind the selection) -/
def CAN_CTRL.EN : Fld := ⟨0x14044, Fld.unitStep, 31, 31⟩
def CAN_CTRL.MODE : Fld := ⟨0x14044, Fld.unitStep, 30, 29⟩
def CAN_CTRL.ISO_REQ : Fld := ⟨0x14044, Fld.unitStep, 27, 27⟩
def CAN_CTRL.CLEAR_TAPS : Fld := ⟨0x14044, Fld.unitStep, 26, 26⟩
def CAN_CTRL.PAUSE_MS : Fld := ⟨0x14044, Fld.unitStep, 15, 0⟩

/-! CAN_REF: 05_feedback_cancellation.md, offset 0x048 step 4, 4 of them (behind the selection) -/
def CAN_REF.EN (i : Nat) : Fld := ⟨0x14048 + 4 * i, Fld.unitStep, 31, 31⟩
def CAN_REF.STREAM (i : Nat) : Fld := ⟨0x14048 + 4 * i, Fld.unitStep, 21, 16⟩

/-! CAN_CLU: 05_feedback_cancellation.md, offset 0x058 step 4, 4 of them (behind the selection) -/
def CAN_CLU.CL2_DELAY_NS (i : Nat) : Fld := ⟨0x14058 + 4 * i, Fld.unitStep, 31, 16⟩
def CAN_CLU.CL1_DELAY_NS (i : Nat) : Fld := ⟨0x14058 + 4 * i, Fld.unitStep, 15, 0⟩

/-! CAN_ADAPT: 05_feedback_cancellation.md, offset 0x068 (behind the selection) -/
def CAN_ADAPT.ADAPT_TC_US : Fld := ⟨0x14068, Fld.unitStep, 31, 16⟩
def CAN_ADAPT.LEAK_TC_MS : Fld := ⟨0x14068, Fld.unitStep, 15, 0⟩

/-! CAN_PROBE: 05_feedback_cancellation.md, offset 0x06C (behind the selection) -/
def CAN_PROBE.PROBE_REL : Fld := ⟨0x1406C, Fld.unitStep, 31, 16⟩
def CAN_PROBE.ISO_WIN_MS : Fld := ⟨0x1406C, Fld.unitStep, 15, 8⟩
def CAN_PROBE.ISO_PERIOD_S : Fld := ⟨0x1406C, Fld.unitStep, 7, 0⟩

/-! CAN_MARGIN_CFG: 05_feedback_cancellation.md, offset 0x070 (behind the selection) -/
def CAN_MARGIN_CFG.REQ_MARGIN : Fld := ⟨0x14070, Fld.unitStep, 31, 16⟩
def CAN_MARGIN_CFG.WARN_MARGIN : Fld := ⟨0x14070, Fld.unitStep, 15, 0⟩

/-! CAN_ISO_ASSUMED: 05_feedback_cancellation.md, offset 0x074 (behind the selection) -/
def CAN_ISO_ASSUMED.ISO_ASSUMED : Fld := ⟨0x14074, Fld.unitStep, 15, 0⟩

/-! CAN_STAT: 05_feedback_cancellation.md, offset 0x078 (behind the selection) -/
def CAN_STAT.STATE : Fld := ⟨0x14078, Fld.unitStep, 31, 28⟩
def CAN_STAT.REDUCED : Fld := ⟨0x14078, Fld.unitStep, 27, 27⟩
def CAN_STAT.ISO_BUSY : Fld := ⟨0x14078, Fld.unitStep, 26, 26⟩
def CAN_STAT.MON_STALE : Fld := ⟨0x14078, Fld.unitStep, 25, 25⟩
def CAN_STAT.TAPS_PER_CLUSTER : Fld := ⟨0x14078, Fld.unitStep, 14, 8⟩
def CAN_STAT.ACTIVE_SB : Fld := ⟨0x14078, Fld.unitStep, 6, 0⟩

/-! CAN_SB: 05_feedback_cancellation.md, offset 0x07C (behind the selection) -/
def CAN_SB.MARGIN : Fld := ⟨0x1407C, Fld.unitStep, 31, 16⟩
def CAN_SB.PERMIT : Fld := ⟨0x1407C, Fld.unitStep, 15, 0⟩

/-! CAN_SB_ISO: 05_feedback_cancellation.md, offset 0x080 (behind the selection) -/
def CAN_SB_ISO.ISO : Fld := ⟨0x14080, Fld.unitStep, 31, 16⟩
def CAN_SB_ISO.CANC : Fld := ⟨0x14080, Fld.unitStep, 15, 0⟩

/-! CAN_SB_FLAGS: 05_feedback_cancellation.md, offset 0x084 (behind the selection) -/
def CAN_SB_FLAGS.ACTIVE : Fld := ⟨0x14084, Fld.unitStep, 3, 3⟩
def CAN_SB_FLAGS.STARVED : Fld := ⟨0x14084, Fld.unitStep, 2, 2⟩
def CAN_SB_FLAGS.ISO_SRC : Fld := ⟨0x14084, Fld.unitStep, 1, 0⟩

/-! CAN_INST_MIN: 05_feedback_cancellation.md, offset 0x088 (behind the selection) -/
def CAN_INST_MIN.MARGIN_MIN : Fld := ⟨0x14088, Fld.unitStep, 31, 16⟩
def CAN_INST_MIN.PERMIT_MIN : Fld := ⟨0x14088, Fld.unitStep, 15, 0⟩

/-! CAN_ONSET_EN: 05_feedback_cancellation.md, offset 0x0A0 -/
def CAN_ONSET_EN.EN : Fld := ⟨0x140A0, 0, 31, 0⟩

/-! CAN_ONSET_CFG: 05_feedback_cancellation.md, offset 0x0A4 -/
def CAN_ONSET_CFG.RATE : Fld := ⟨0x140A4, 0, 31, 16⟩
def CAN_ONSET_CFG.FLOOR : Fld := ⟨0x140A4, 0, 15, 0⟩

/-! CAN_ONSET_LAST: 05_feedback_cancellation.md, offset 0x0A8 -/
def CAN_ONSET_LAST.STREAM : Fld := ⟨0x140A8, 0, 5, 0⟩

/-! CAN_ONSET_DT_LO: 05_feedback_cancellation.md, offset 0x0AC -/
def CAN_ONSET_DT_LO.DT : Fld := ⟨0x140AC, 0, 31, 0⟩

/-! CAN_PSEED: 05_feedback_cancellation.md, offset 0x0C0 step 4, 16 of them -/
def CAN_PSEED.SEED_ODD : Fld := ⟨0x140C0, 4, 31, 16⟩
def CAN_PSEED.SEED_EVEN : Fld := ⟨0x140C0, 4, 15, 0⟩

/-! CAN_MARGIN_MIN: 05_feedback_cancellation.md, offset 0x300 step 4, 16 of them -/
def CAN_MARGIN_MIN.ODD : Fld := ⟨0x14300, 4, 31, 16⟩
def CAN_MARGIN_MIN.EVEN : Fld := ⟨0x14300, 4, 15, 0⟩

/-! CAN_MU_M: 05_feedback_cancellation.md, offset 0x408 (behind the selection) -/
def CAN_MU_M.M : Fld := ⟨0x14408, Fld.unitStep, 31, 0⟩

/-! CAN_MU_S: 05_feedback_cancellation.md, offset 0x40C (behind the selection) -/
def CAN_MU_S.S : Fld := ⟨0x1440C, Fld.unitStep, 4, 0⟩

/-! CAN_LEAK_M: 05_feedback_cancellation.md, offset 0x410 (behind the selection) -/
def CAN_LEAK_M.M : Fld := ⟨0x14410, Fld.unitStep, 31, 0⟩

/-! CAN_LEAK_S: 05_feedback_cancellation.md, offset 0x414 (behind the selection) -/
def CAN_LEAK_S.S : Fld := ⟨0x14414, Fld.unitStep, 4, 0⟩

/-! CAN_DELTA_M: 05_feedback_cancellation.md, offset 0x418 (behind the selection) -/
def CAN_DELTA_M.M : Fld := ⟨0x14418, Fld.unitStep, 31, 0⟩

/-! CAN_DELTA_S: 05_feedback_cancellation.md, offset 0x41C (behind the selection) -/
def CAN_DELTA_S.S : Fld := ⟨0x1441C, Fld.unitStep, 4, 0⟩

/-! CAN_MON_X: 05_feedback_cancellation.md, offset 0x420 (behind the selection) -/
def CAN_MON_X.MON_SHIFT : Fld := ⟨0x14420, Fld.unitStep, 4, 0⟩

/-! CAN_ONSET_X: 05_feedback_cancellation.md, offset 0x424 -/
def CAN_ONSET_X.W : Fld := ⟨0x14424, 0, 19, 16⟩
def CAN_ONSET_X.RISE : Fld := ⟨0x14424, 0, 15, 0⟩

/-! CAN_MAP_SEL: 05_feedback_cancellation.md, offset 0x440 (per initiator) -/
def CAN_MAP_SEL.SB : Fld := ⟨0x14440, Fld.unitStep, 21, 16⟩
def CAN_MAP_SEL.REF : Fld := ⟨0x14440, Fld.unitStep, 9, 8⟩
def CAN_MAP_SEL.CLU : Fld := ⟨0x14440, Fld.unitStep, 1, 0⟩

/-! CAN_MAP: 05_feedback_cancellation.md, offset 0x444 (behind the selection) -/
def CAN_MAP.EN : Fld := ⟨0x14444, Fld.unitStep, 31, 31⟩
def CAN_MAP.START : Fld := ⟨0x14444, Fld.unitStep, 27, 16⟩
def CAN_MAP.LEN : Fld := ⟨0x14444, Fld.unitStep, 6, 0⟩

/-! CAN_TAP_SEL: 05_feedback_cancellation.md, offset 0x448 (per initiator) -/
def CAN_TAP_SEL.TAP : Fld := ⟨0x14448, Fld.unitStep, 5, 0⟩

/-! CAN_TAP_RE: 05_feedback_cancellation.md, offset 0x44C -/
def CAN_TAP_RE.RE : Fld := ⟨0x1444C, 0, 19, 0⟩

/-! CAN_TAP_IM: 05_feedback_cancellation.md, offset 0x450 -/
def CAN_TAP_IM.IM : Fld := ⟨0x14450, 0, 19, 0⟩

/-! LIM_CLAMP_CFG: 05_feedback_cancellation.md, offset 0x300 -/
def LIM_CLAMP_CFG.CLAMP_FLOOR : Fld := ⟨0x19300, 0, 31, 16⟩
def LIM_CLAMP_CFG.CLAMP_ATTEN : Fld := ⟨0x19300, 0, 15, 0⟩

/-! LIM_CLAMP_TIME: 05_feedback_cancellation.md, offset 0x304 -/
def LIM_CLAMP_TIME.HOLD_US : Fld := ⟨0x19304, 0, 31, 16⟩
def LIM_CLAMP_TIME.RELEASE_RATE : Fld := ⟨0x19304, 0, 15, 0⟩

/-! LIM_CLAMP_COUNT: 05_feedback_cancellation.md, offset 0x308 -/
def LIM_CLAMP_COUNT.COUNT : Fld := ⟨0x19308, 0, 23, 0⟩

/-! LIM_CLAMP_STAT: 05_feedback_cancellation.md, offset 0x340 step 4, 16 of them -/
def LIM_CLAMP_STAT.STATE_ODD : Fld := ⟨0x19340, 4, 31, 30⟩
def LIM_CLAMP_STAT.DEPTH_ODD : Fld := ⟨0x19340, 4, 28, 16⟩
def LIM_CLAMP_STAT.STATE_EVEN : Fld := ⟨0x19340, 4, 15, 14⟩
def LIM_CLAMP_STAT.DEPTH_EVEN : Fld := ⟨0x19340, 4, 12, 0⟩

/-! CEN_STAT: 06_gain_loops.md, offset 0x040 -/
def CEN_STAT.FE_FAULTS : Fld := ⟨0x17040, 0, 31, 16⟩
def CEN_STAT.RUNNING : Fld := ⟨0x17040, 0, 12, 0⟩

/-! CEN_THERM: 06_gain_loops.md, offset 0x044 -/
def CEN_THERM.THROTTLE : Fld := ⟨0x17044, 0, 31, 31⟩
def CEN_THERM.THERM_DERATE : Fld := ⟨0x17044, 0, 15, 0⟩

/-! CEN_FF_CFG: 06_gain_loops.md, offset 0x048 -/
def CEN_FF_CFG.SUPPLY_TO_US : Fld := ⟨0x17048, 0, 15, 0⟩

/-! CEN_INPUT_LAST: 06_gain_loops.md, offset 0x04C -/
def CEN_INPUT_LAST.KIND : Fld := ⟨0x1704C, 0, 9, 8⟩
def CEN_INPUT_LAST.PORT : Fld := ⟨0x1704C, 0, 4, 0⟩

/-! CEN_FE_LAST: 06_gain_loops.md, offset 0x050 -/
def CEN_FE_LAST.KIND : Fld := ⟨0x17050, 0, 13, 12⟩
def CEN_FE_LAST.CTX : Fld := ⟨0x17050, 0, 11, 0⟩

/-! CEN_SUPPLY: 06_gain_loops.md, offset 0x060 step 4, 16 of them -/
def CEN_SUPPLY.ODD : Fld := ⟨0x17060, 4, 31, 16⟩
def CEN_SUPPLY.EVEN : Fld := ⟨0x17060, 4, 15, 0⟩

/-! CEN_TRC_SEL: 06_gain_loops.md, offset 0x0C0 (per initiator) -/
def CEN_TRC_SEL.CH : Fld := ⟨0x170C0, Fld.unitStep, 3, 0⟩

/-! CEN_TRC_CFG: 06_gain_loops.md, offset 0x0C4 (behind the selection) -/
def CEN_TRC_CFG.EN : Fld := ⟨0x170C4, Fld.unitStep, 31, 31⟩
def CEN_TRC_CFG.MODE : Fld := ⟨0x170C4, Fld.unitStep, 30, 30⟩
def CEN_TRC_CFG.STREAM : Fld := ⟨0x170C4, Fld.unitStep, 29, 29⟩
def CEN_TRC_CFG.NODE : Fld := ⟨0x170C4, Fld.unitStep, 28, 24⟩
def CEN_TRC_CFG.DECIM : Fld := ⟨0x170C4, Fld.unitStep, 23, 16⟩
def CEN_TRC_CFG.CTX : Fld := ⟨0x170C4, Fld.unitStep, 11, 0⟩

/-! CEN_TRC_TRIG: 06_gain_loops.md, offset 0x0C8 (behind the selection) -/
def CEN_TRC_TRIG.SRC : Fld := ⟨0x170C8, Fld.unitStep, 31, 29⟩
def CEN_TRC_TRIG.TNODE : Fld := ⟨0x170C8, Fld.unitStep, 28, 24⟩
def CEN_TRC_TRIG.LEVEL : Fld := ⟨0x170C8, Fld.unitStep, 15, 0⟩

/-! CEN_TRC_PRE: 06_gain_loops.md, offset 0x0CC (behind the selection) -/
def CEN_TRC_PRE.TFROM : Fld := ⟨0x170CC, Fld.unitStep, 19, 16⟩
def CEN_TRC_PRE.PRE : Fld := ⟨0x170CC, Fld.unitStep, 12, 0⟩

/-! CEN_TRC_STAT: 06_gain_loops.md, offset 0x0D0 (behind the selection) -/
def CEN_TRC_STAT.STATE : Fld := ⟨0x170D0, Fld.unitStep, 31, 30⟩
def CEN_TRC_STAT.FILL : Fld := ⟨0x170D0, Fld.unitStep, 29, 16⟩
def CEN_TRC_STAT.TRIGD : Fld := ⟨0x170D0, Fld.unitStep, 15, 15⟩
def CEN_TRC_STAT.WRAPPED : Fld := ⟨0x170D0, Fld.unitStep, 14, 14⟩
def CEN_TRC_STAT.TRIG_INDEX : Fld := ⟨0x170D0, Fld.unitStep, 12, 0⟩

/-! CEN_TRC_TDT_LO: 06_gain_loops.md, offset 0x0D4 (behind the selection) -/
def CEN_TRC_TDT_LO.DT : Fld := ⟨0x170D4, Fld.unitStep, 31, 0⟩

/-! CEN_TRC_TDT_HI: 06_gain_loops.md, offset 0x0D8 (behind the selection) -/
def CEN_TRC_TDT_HI.DT : Fld := ⟨0x170D8, Fld.unitStep, 31, 0⟩

/-! CEN_TRC_CMD: 06_gain_loops.md, offset 0x0DC -/
def CEN_TRC_CMD.ARM : Fld := ⟨0x170DC, 0, 31, 31⟩
def CEN_TRC_CMD.TRIG_NOW : Fld := ⟨0x170DC, 0, 30, 30⟩
def CEN_TRC_CMD.STOP : Fld := ⟨0x170DC, 0, 29, 29⟩
def CEN_TRC_CMD.MASK : Fld := ⟨0x170DC, 0, 15, 0⟩

/-! CEN_TRC_RD_ADDR: 06_gain_loops.md, offset 0x0E0 (behind the selection) -/
def CEN_TRC_RD_ADDR.INDEX : Fld := ⟨0x170E0, Fld.unitStep, 12, 0⟩

/-! CEN_TRC_RD_DATA: 06_gain_loops.md, offset 0x0E4 (behind the selection) -/
def CEN_TRC_RD_DATA.SAMPLE : Fld := ⟨0x170E4, Fld.unitStep, 31, 0⟩

/-! CEN_TRC_DROP: 06_gain_loops.md, offset 0x0E8 -/
def CEN_TRC_DROP.DROP : Fld := ⟨0x170E8, 0, 31, 0⟩

/-! CEN_TRC_TRIG_DT_LO: 06_gain_loops.md, offset 0x0EC -/
def CEN_TRC_TRIG_DT_LO.DT : Fld := ⟨0x170EC, 0, 31, 0⟩

/-! CEN_TRC_TRIG_DT_HI: 06_gain_loops.md, offset 0x0F0 -/
def CEN_TRC_TRIG_DT_HI.DT : Fld := ⟨0x170F0, 0, 31, 0⟩

/-! CEN_MEAS_X: 06_gain_loops.md, offset 0x408 -/
def CEN_MEAS_X.MEAS_FLOOR : Fld := ⟨0x17408, 0, 15, 0⟩

/-! GGR_Q: 07_gain_grid.md, offset 0x060 step 4, 4 of them -/
def GGR_Q.DEPTH : Fld := ⟨0x15060, 4, 31, 23⟩
def GGR_Q.FILL : Fld := ⟨0x15060, 4, 22, 14⟩
def GGR_Q.HI_MARK : Fld := ⟨0x15060, 4, 13, 5⟩
def GGR_Q.HYST : Fld := ⟨0x15060, 4, 4, 0⟩

/-! GGR_REJ: 07_gain_grid.md, offset 0x070 step 4, 4 of them -/
def GGR_REJ.REFUSED : Fld := ⟨0x15070, 4, 31, 16⟩
def GGR_REJ.DROPPED : Fld := ⟨0x15070, 4, 15, 0⟩

/-! GGR_WR0: 07_gain_grid.md, offset 0x080 (per initiator) -/
def GGR_WR0.REL : Fld := ⟨0x15080, Fld.unitStep, 31, 31⟩
def GGR_WR0.REPLACE : Fld := ⟨0x15080, Fld.unitStep, 30, 30⟩
def GGR_WR0.LATE : Fld := ⟨0x15080, Fld.unitStep, 29, 29⟩
def GGR_WR0.PATH : Fld := ⟨0x15080, Fld.unitStep, 28, 24⟩
def GGR_WR0.CODE : Fld := ⟨0x15080, Fld.unitStep, 23, 20⟩
def GGR_WR0.SFN : Fld := ⟨0x15080, Fld.unitStep, 19, 10⟩
def GGR_WR0.ROW : Fld := ⟨0x15080, Fld.unitStep, 8, 0⟩

/-! GGR_WR1: 07_gain_grid.md, offset 0x084 (per initiator) -/
def GGR_WR1.STRIP_FIRST : Fld := ⟨0x15084, Fld.unitStep, 27, 16⟩
def GGR_WR1.STRIP_COUNT : Fld := ⟨0x15084, Fld.unitStep, 11, 0⟩

/-! GGR_WR2: 07_gain_grid.md, offset 0x088 (per initiator) -/
def GGR_WR2.ROWS : Fld := ⟨0x15088, Fld.unitStep, 8, 0⟩

/-! GGR_WR_STAT: 07_gain_grid.md, offset 0x08C (per initiator) -/
def GGR_WR_STAT.DONE : Fld := ⟨0x1508C, Fld.unitStep, 31, 31⟩
def GGR_WR_STAT.PENDING : Fld := ⟨0x1508C, Fld.unitStep, 30, 30⟩
def GGR_WR_STAT.STATUS : Fld := ⟨0x1508C, Fld.unitStep, 27, 24⟩
def GGR_WR_STAT.RETRY_US : Fld := ⟨0x1508C, Fld.unitStep, 23, 9⟩
def GGR_WR_STAT.FIRST_ROW : Fld := ⟨0x1508C, Fld.unitStep, 8, 0⟩

/-! GGR_RD_SEL: 07_gain_grid.md, offset 0x0A0 (per initiator) -/
def GGR_RD_SEL.PATH : Fld := ⟨0x150A0, Fld.unitStep, 28, 24⟩
def GGR_RD_SEL.ROW : Fld := ⟨0x150A0, Fld.unitStep, 20, 12⟩
def GGR_RD_SEL.GROUP : Fld := ⟨0x150A0, Fld.unitStep, 8, 0⟩

/-! GGR_RD_DATA: 07_gain_grid.md, offset 0x0A4 -/
def GGR_RD_DATA.CELLS : Fld := ⟨0x150A4, 0, 31, 0⟩

/-! GGR_RD_FRAME: 07_gain_grid.md, offset 0x0A8 -/
def GGR_RD_FRAME.ORDINAL : Fld := ⟨0x150A8, 0, 31, 0⟩

/-! GGR_ECC: 07_gain_grid.md, offset 0x0B0 -/
def GGR_ECC.CORR : Fld := ⟨0x150B0, 0, 31, 16⟩
def GGR_ECC.UNCORR : Fld := ⟨0x150B0, 0, 15, 0⟩

/-! GGR_PCFG: 07_gain_grid.md, offset 0x100 step 8, 32 of them -/
def GGR_PCFG.AUTH : Fld := ⟨0x15100, 8, 31, 30⟩
def GGR_PCFG.MIX : Fld := ⟨0x15100, 8, 29, 29⟩
def GGR_PCFG.LATE_MUTE_EN : Fld := ⟨0x15100, 8, 28, 28⟩
def GGR_PCFG.BASE : Fld := ⟨0x15100, 8, 27, 24⟩
def GGR_PCFG.WR_EN : Fld := ⟨0x15100, 8, 23, 20⟩
def GGR_PCFG.GRID_OFFSET_NS : Fld := ⟨0x15100, 8, 15, 0⟩

/-! GGR_PSTAT: 07_gain_grid.md, offset 0x104 step 8, 32 of them -/
def GGR_PSTAT.ROW : Fld := ⟨0x15104, 8, 24, 16⟩
def GGR_PSTAT.LAG_NS : Fld := ⟨0x15104, 8, 15, 0⟩

/-! GGR_CL: 07_gain_grid.md, offset 0x200 step 4, 32 of them -/
def GGR_CL.OPP : Fld := ⟨0x15200, 4, 31, 28⟩
def GGR_CL.FLEX : Fld := ⟨0x15200, 4, 27, 24⟩
def GGR_CL.UNKNOWN : Fld := ⟨0x15200, 4, 23, 20⟩

/-! GGR_NGA: 07_gain_grid.md, offset 0x280 step 8, 16 of them -/
def GGR_NGA.THR : Fld := ⟨0x15280, 8, 31, 16⟩
def GGR_NGA.HYST : Fld := ⟨0x15280, 8, 15, 0⟩

/-! GGR_NGB: 07_gain_grid.md, offset 0x284 step 8, 16 of them -/
def GGR_NGB.HOLD_ROWS : Fld := ⟨0x15284, 8, 24, 16⟩
def GGR_NGB.CLOSED : Fld := ⟨0x15284, 8, 15, 12⟩

/-! GGR_TRANS_X: 07_gain_grid.md, offset 0x408 -/
def GGR_TRANS_X.TRANS : Fld := ⟨0x15408, 0, 1, 0⟩

/-! FTM_GSEL: 08_frame_timing.md, offset 0x040 (per initiator) -/
def FTM_GSEL.GRP : Fld := ⟨0x1A040, Fld.unitStep, 2, 0⟩

/-! FTM_GCFG: 08_frame_timing.md, offset 0x044 (behind the selection) -/
def FTM_GCFG.EN : Fld := ⟨0x1A044, Fld.unitStep, 31, 31⟩
def FTM_GCFG.PRI : Fld := ⟨0x1A044, Fld.unitStep, 30, 28⟩
def FTM_GCFG.SEC : Fld := ⟨0x1A044, Fld.unitStep, 27, 25⟩
def FTM_GCFG.PRI_CARRIER : Fld := ⟨0x1A044, Fld.unitStep, 24, 20⟩
def FTM_GCFG.SEC_CARRIER : Fld := ⟨0x1A044, Fld.unitStep, 19, 15⟩
def FTM_GCFG.RELOCK_N : Fld := ⟨0x1A044, Fld.unitStep, 14, 12⟩

/-! FTM_GOFF: 08_frame_timing.md, offset 0x048 (behind the selection) -/
def FTM_GOFF.FRAME_OFFSET_NS : Fld := ⟨0x1A048, Fld.unitStep, 31, 0⟩

/-! FTM_GWIN: 08_frame_timing.md, offset 0x04C (behind the selection) -/
def FTM_GWIN.ACC_WIN_NS : Fld := ⟨0x1A04C, Fld.unitStep, 31, 16⟩
def FTM_GWIN.MAX_SLEW_NS : Fld := ⟨0x1A04C, Fld.unitStep, 15, 0⟩

/-! FTM_GTIME: 08_frame_timing.md, offset 0x050 (behind the selection) -/
def FTM_GTIME.FLY_MS : Fld := ⟨0x1A050, Fld.unitStep, 31, 16⟩
def FTM_GTIME.HOLDOVER_MS : Fld := ⟨0x1A050, Fld.unitStep, 15, 0⟩

/-! FTM_GSTAT: 08_frame_timing.md, offset 0x054 (behind the selection) -/
def FTM_GSTAT.STATE : Fld := ⟨0x1A054, Fld.unitStep, 31, 29⟩
def FTM_GSTAT.SRC : Fld := ⟨0x1A054, Fld.unitStep, 28, 26⟩
def FTM_GSTAT.SFN_VALID : Fld := ⟨0x1A054, Fld.unitStep, 25, 25⟩
def FTM_GSTAT.NEXT_COMMITTED : Fld := ⟨0x1A054, Fld.unitStep, 24, 24⟩
def FTM_GSTAT.SFN : Fld := ⟨0x1A054, Fld.unitStep, 19, 10⟩

/-! FTM_GORD: 08_frame_timing.md, offset 0x058 (behind the selection) -/
def FTM_GORD.ORDINAL : Fld := ⟨0x1A058, Fld.unitStep, 31, 0⟩

/-! FTM_GB_LO: 08_frame_timing.md, offset 0x05C (behind the selection) -/
def FTM_GB_LO.DT : Fld := ⟨0x1A05C, Fld.unitStep, 31, 0⟩

/-! FTM_GB_HI: 08_frame_timing.md, offset 0x060 (behind the selection) -/
def FTM_GB_HI.DT : Fld := ⟨0x1A060, Fld.unitStep, 31, 0⟩

/-! FTM_GN_LO: 08_frame_timing.md, offset 0x064 (behind the selection) -/
def FTM_GN_LO.DT : Fld := ⟨0x1A064, Fld.unitStep, 31, 0⟩

/-! FTM_GN_HI: 08_frame_timing.md, offset 0x068 (behind the selection) -/
def FTM_GN_HI.DT : Fld := ⟨0x1A068, Fld.unitStep, 31, 0⟩

/-! FTM_GERR: 08_frame_timing.md, offset 0x06C (behind the selection) -/
def FTM_GERR.LAST_ERR_NS : Fld := ⟨0x1A06C, Fld.unitStep, 31, 16⟩
def FTM_GERR.SEC_ERR_NS : Fld := ⟨0x1A06C, Fld.unitStep, 15, 0⟩

/-! FTM_GCNT: 08_frame_timing.md, offset 0x070 (behind the selection) -/
def FTM_GCNT.ACCEPTED : Fld := ⟨0x1A070, Fld.unitStep, 31, 16⟩
def FTM_GCNT.REJECTED : Fld := ⟨0x1A070, Fld.unitStep, 15, 0⟩

/-! FTM_GPER: 08_frame_timing.md, offset 0x074 (behind the selection) -/
def FTM_GPER.PERIOD_PPB : Fld := ⟨0x1A074, Fld.unitStep, 31, 0⟩

/-! FTM_WD: 08_frame_timing.md, offset 0x080 -/
def FTM_WD.PA_MIN_NS : Fld := ⟨0x1A080, 0, 31, 16⟩
def FTM_WD.CX_MIN_LOW_NS : Fld := ⟨0x1A080, 0, 15, 0⟩

/-! FTM_PCFG: 08_frame_timing.md, offset 0x100 step 8, 32 of them -/
def FTM_PCFG.TDD_EN : Fld := ⟨0x1A100, 8, 31, 31⟩
def FTM_PCFG.CX_EN : Fld := ⟨0x1A100, 8, 30, 30⟩
def FTM_PCFG.CX_PAIR : Fld := ⟨0x1A100, 8, 29, 27⟩
def FTM_PCFG.PA_LEAD_NS : Fld := ⟨0x1A100, 8, 23, 12⟩
def FTM_PCFG.CX_LEAD_NS : Fld := ⟨0x1A100, 8, 11, 0⟩

/-! FTM_PTIM: 08_frame_timing.md, offset 0x104 step 8, 32 of them -/
def FTM_PTIM.TRX_LEAD_NS : Fld := ⟨0x1A104, 8, 31, 20⟩
def FTM_PTIM.SKEW_NS : Fld := ⟨0x1A104, 8, 15, 0⟩

/-! FTM_PSTAT: 08_frame_timing.md, offset 0x200 step 4, 32 of them -/
def FTM_PSTAT.TX : Fld := ⟨0x1A200, 4, 31, 31⟩
def FTM_PSTAT.WITHDRAWN : Fld := ⟨0x1A200, 4, 15, 8⟩
def FTM_PSTAT.CANCELLED : Fld := ⟨0x1A200, 4, 7, 0⟩

/-! GNS_UART: 08_frame_timing.md, offset 0x040 -/
def GNS_UART.EN : Fld := ⟨0x11040, 0, 31, 31⟩
def GNS_UART.BAUD : Fld := ⟨0x11040, 0, 30, 28⟩

/-! GNS_PPS: 08_frame_timing.md, offset 0x044 -/
def GNS_PPS.EN : Fld := ⟨0x11044, 0, 31, 31⟩
def GNS_PPS.POL : Fld := ⟨0x11044, 0, 30, 30⟩
def GNS_PPS.MINW : Fld := ⟨0x11044, 0, 23, 16⟩
def GNS_PPS.WIN_NS : Fld := ⟨0x11044, 0, 15, 0⟩

/-! GNS_CFG: 08_frame_timing.md, offset 0x048 -/
def GNS_CFG.LEAP_S : Fld := ⟨0x11048, 0, 31, 24⟩
def GNS_CFG.LABEL : Fld := ⟨0x11048, 0, 23, 23⟩
def GNS_CFG.RELOCK_N : Fld := ⟨0x11048, 0, 22, 20⟩
def GNS_CFG.NMEA_TO_S : Fld := ⟨0x11048, 0, 15, 8⟩
def GNS_CFG.PPS_TO_S : Fld := ⟨0x11048, 0, 7, 0⟩

/-! GNS_STAT: 08_frame_timing.md, offset 0x04C -/
def GNS_STAT.PPS_STATE : Fld := ⟨0x1104C, 0, 31, 30⟩
def GNS_STAT.TIME_VALID : Fld := ⟨0x1104C, 0, 29, 29⟩
def GNS_STAT.FIX : Fld := ⟨0x1104C, 0, 28, 28⟩
def GNS_STAT.LAST_ACCEPTED : Fld := ⟨0x1104C, 0, 27, 27⟩
def GNS_STAT.SATS : Fld := ⟨0x1104C, 0, 23, 16⟩

/-! GNS_PPS_DT_LO: 08_frame_timing.md, offset 0x050 -/
def GNS_PPS_DT_LO.DT : Fld := ⟨0x11050, 0, 31, 0⟩

/-! GNS_PPS_DT_HI: 08_frame_timing.md, offset 0x054 -/
def GNS_PPS_DT_HI.DT : Fld := ⟨0x11054, 0, 31, 0⟩

/-! GNS_GPS_SEC_LO: 08_frame_timing.md, offset 0x058 -/
def GNS_GPS_SEC_LO.SEC_LO : Fld := ⟨0x11058, 0, 31, 0⟩

/-! GNS_GPS_SEC_HI: 08_frame_timing.md, offset 0x05C -/
def GNS_GPS_SEC_HI.SEC_HI : Fld := ⟨0x1105C, 0, 15, 0⟩

/-! GNS_ERR: 08_frame_timing.md, offset 0x060 -/
def GNS_ERR.FRAMING : Fld := ⟨0x11060, 0, 31, 24⟩
def GNS_ERR.FALSE_START : Fld := ⟨0x11060, 0, 23, 16⟩
def GNS_ERR.OVERRUN : Fld := ⟨0x11060, 0, 15, 8⟩
def GNS_ERR.NMEA_BAD : Fld := ⟨0x11060, 0, 7, 0⟩

/-! GNS_PPS_CNT: 08_frame_timing.md, offset 0x064 -/
def GNS_PPS_CNT.UNEXPECTED : Fld := ⟨0x11064, 0, 31, 16⟩
def GNS_PPS_CNT.MISSING : Fld := ⟨0x11064, 0, 15, 0⟩

/-! GNS_NMEA_LAST: 08_frame_timing.md, offset 0x068 -/
def GNS_NMEA_LAST.REASON : Fld := ⟨0x11068, 0, 31, 28⟩

/-! CLS_CSEL: 08_frame_timing.md, offset 0x040 (per initiator) -/
def CLS_CSEL.CAR : Fld := ⟨0x16040, Fld.unitStep, 4, 0⟩

/-! CLS_CCFG: 08_frame_timing.md, offset 0x044 (behind the selection) -/
def CLS_CCFG.EN : Fld := ⟨0x16044, Fld.unitStep, 31, 31⟩
def CLS_CCFG.RAT : Fld := ⟨0x16044, Fld.unitStep, 30, 30⟩
def CLS_CCFG.SSB_SCS : Fld := ⟨0x16044, Fld.unitStep, 29, 28⟩
def CLS_CCFG.SIB1_EN : Fld := ⟨0x16044, Fld.unitStep, 27, 27⟩
def CLS_CCFG.PAT_HOST : Fld := ⟨0x16044, Fld.unitStep, 26, 26⟩
def CLS_CCFG.STREAM : Fld := ⟨0x16044, Fld.unitStep, 23, 20⟩
def CLS_CCFG.PCI : Fld := ⟨0x16044, Fld.unitStep, 19, 10⟩

/-! CLS_CFREQ: 08_frame_timing.md, offset 0x048 (behind the selection) -/
def CLS_CFREQ.SSB_KHZ : Fld := ⟨0x16048, Fld.unitStep, 23, 0⟩

/-! CLS_CTHR: 08_frame_timing.md, offset 0x04C (behind the selection) -/
def CLS_CTHR.DET_THR : Fld := ⟨0x1604C, Fld.unitStep, 31, 16⟩
def CLS_CTHR.MISS_MAX : Fld := ⟨0x1604C, Fld.unitStep, 15, 8⟩
def CLS_CTHR.SIB1_PERIOD_S : Fld := ⟨0x1604C, Fld.unitStep, 7, 0⟩

/-! CLS_CSTAT: 08_frame_timing.md, offset 0x050 (behind the selection) -/
def CLS_CSTAT.STATE : Fld := ⟨0x16050, Fld.unitStep, 31, 30⟩
def CLS_CSTAT.DUPLEX : Fld := ⟨0x16050, Fld.unitStep, 29, 28⟩
def CLS_CSTAT.PAT_SRC : Fld := ⟨0x16050, Fld.unitStep, 27, 26⟩
def CLS_CSTAT.PCI : Fld := ⟨0x16050, Fld.unitStep, 25, 16⟩
def CLS_CSTAT.MISSES : Fld := ⟨0x16050, Fld.unitStep, 15, 8⟩
def CLS_CSTAT.SSB_INDEX : Fld := ⟨0x16050, Fld.unitStep, 7, 4⟩

/-! CLS_CCNT: 08_frame_timing.md, offset 0x054 (behind the selection) -/
def CLS_CCNT.DETECTIONS : Fld := ⟨0x16054, Fld.unitStep, 31, 16⟩
def CLS_CCNT.FOREIGN : Fld := ⟨0x16054, Fld.unitStep, 15, 0⟩

/-! CLS_PAT1: 08_frame_timing.md, offset 0x060 (behind the selection) -/
def CLS_PAT1.VALID : Fld := ⟨0x16060, Fld.unitStep, 31, 31⟩
def CLS_PAT1.REF_SCS : Fld := ⟨0x16060, Fld.unitStep, 30, 29⟩
def CLS_PAT1.PERIOD : Fld := ⟨0x16060, Fld.unitStep, 28, 25⟩
def CLS_PAT1.DL_SLOTS : Fld := ⟨0x16060, Fld.unitStep, 24, 17⟩
def CLS_PAT1.DL_SYMS : Fld := ⟨0x16060, Fld.unitStep, 16, 13⟩
def CLS_PAT1.UL_SLOTS : Fld := ⟨0x16060, Fld.unitStep, 12, 5⟩
def CLS_PAT1.UL_SYMS : Fld := ⟨0x16060, Fld.unitStep, 4, 1⟩

/-! CLS_PAT2: 08_frame_timing.md, offset 0x064 (behind the selection) -/
def CLS_PAT2.VALID : Fld := ⟨0x16064, Fld.unitStep, 31, 31⟩
def CLS_PAT2.REF_SCS : Fld := ⟨0x16064, Fld.unitStep, 30, 29⟩
def CLS_PAT2.PERIOD : Fld := ⟨0x16064, Fld.unitStep, 28, 25⟩
def CLS_PAT2.DL_SLOTS : Fld := ⟨0x16064, Fld.unitStep, 24, 17⟩
def CLS_PAT2.DL_SYMS : Fld := ⟨0x16064, Fld.unitStep, 16, 13⟩
def CLS_PAT2.UL_SLOTS : Fld := ⟨0x16064, Fld.unitStep, 12, 5⟩
def CLS_PAT2.UL_SYMS : Fld := ⟨0x16064, Fld.unitStep, 4, 1⟩

/-! CLS_PAT_CTRL: 08_frame_timing.md, offset 0x068 (behind the selection) -/
def CLS_PAT_CTRL.APPLY : Fld := ⟨0x16068, Fld.unitStep, 31, 31⟩

/-! NPR_OSC: 09_network_protection.md, offset 0x040 -/
def NPR_OSC.OSC_N : Fld := ⟨0x18040, 0, 31, 24⟩
def NPR_OSC.OSC_WIN_MS : Fld := ⟨0x18040, 0, 15, 0⟩

/-! NPR_OSC_NEG: 09_network_protection.md, offset 0x044 -/
def NPR_OSC_NEG.OSC_NEG_MS : Fld := ⟨0x18044, 0, 15, 0⟩

/-! NPR_NOISE: 09_network_protection.md, offset 0x048 -/
def NPR_NOISE.NOISE_MARGIN : Fld := ⟨0x18048, 0, 31, 16⟩
def NPR_NOISE.NOISE_TRIG_MS : Fld := ⟨0x18048, 0, 15, 0⟩

/-! NPR_OOB: 09_network_protection.md, offset 0x04C -/
def NPR_OOB.OOB_LIM : Fld := ⟨0x1804C, 0, 31, 16⟩
def NPR_OOB.OOB_US : Fld := ⟨0x1804C, 0, 15, 0⟩

/-! NPR_TIME: 09_network_protection.md, offset 0x050 -/
def NPR_TIME.BUDGET_HOLD_MS : Fld := ⟨0x18050, 0, 31, 16⟩
def NPR_TIME.RETRY_GOOD_S : Fld := ⟨0x18050, 0, 15, 0⟩

/-! NPR_REMOTE: 09_network_protection.md, offset 0x054 -/
def NPR_REMOTE.MUTE : Fld := ⟨0x18054, 0, 31, 31⟩
def NPR_REMOTE.CLEAR : Fld := ⟨0x18054, 0, 30, 30⟩
def NPR_REMOTE.DOMAIN : Fld := ⟨0x18054, 0, 4, 0⟩

/-! NPR_FOX_ACTIVE: 09_network_protection.md, offset 0x058 -/
def NPR_FOX_ACTIVE.LATCHED : Fld := ⟨0x18058, 0, 31, 16⟩
def NPR_FOX_ACTIVE.BUSY : Fld := ⟨0x18058, 0, 15, 0⟩

/-! NPR_FOX_SEL: 09_network_protection.md, offset 0x05C (per initiator) -/
def NPR_FOX_SEL.SLOT : Fld := ⟨0x1805C, Fld.unitStep, 3, 0⟩

/-! NPR_FOX_STAT: 09_network_protection.md, offset 0x060 (behind the selection) -/
def NPR_FOX_STAT.STATE : Fld := ⟨0x18060, Fld.unitStep, 31, 28⟩
def NPR_FOX_STAT.TRIGGER : Fld := ⟨0x18060, Fld.unitStep, 27, 24⟩
def NPR_FOX_STAT.CLEAR_PENDING : Fld := ⟨0x18060, Fld.unitStep, 23, 23⟩
def NPR_FOX_STAT.MODE : Fld := ⟨0x18060, Fld.unitStep, 22, 22⟩
def NPR_FOX_STAT.RETRIES : Fld := ⟨0x18060, Fld.unitStep, 15, 8⟩

/-! NPR_FOX_PATHS: 09_network_protection.md, offset 0x064 (behind the selection) -/
def NPR_FOX_PATHS.PATHS : Fld := ⟨0x18064, Fld.unitStep, 31, 0⟩

/-! NPR_FOX_STREAMS: 09_network_protection.md, offset 0x068 (behind the selection) -/
def NPR_FOX_STREAMS.STREAMS : Fld := ⟨0x18068, Fld.unitStep, 31, 0⟩

/-! NPR_FOX_PORTS: 09_network_protection.md, offset 0x06C (behind the selection) -/
def NPR_FOX_PORTS.PORTS : Fld := ⟨0x1806C, Fld.unitStep, 31, 0⟩

/-! NPR_FOX_DT_LO: 09_network_protection.md, offset 0x070 (behind the selection) -/
def NPR_FOX_DT_LO.DT : Fld := ⟨0x18070, Fld.unitStep, 31, 0⟩

/-! NPR_FOX_WAIT: 09_network_protection.md, offset 0x074 (behind the selection) -/
def NPR_FOX_WAIT.WAIT_S : Fld := ⟨0x18074, Fld.unitStep, 15, 0⟩

/-! NPR_FOX_CMD: 09_network_protection.md, offset 0x078 -/
def NPR_FOX_CMD.CLEAR : Fld := ⟨0x18078, 0, 31, 31⟩

/-! NPR_PORT: 09_network_protection.md, offset 0x100 step 4, 32 of them -/
def NPR_PORT.USED : Fld := ⟨0x18100, 4, 31, 16⟩
def NPR_PORT.PORT_MAX : Fld := ⟨0x18100, 4, 15, 0⟩

/-! NPR_POL: 09_network_protection.md, offset 0x200 step 4, 17 of them -/
def NPR_POL.MODE : Fld := ⟨0x18200, 4, 31, 31⟩
def NPR_POL.RETRY_LIMIT : Fld := ⟨0x18200, 4, 30, 24⟩
def NPR_POL.RETRY_BASE_S : Fld := ⟨0x18200, 4, 23, 12⟩
def NPR_POL.RETRY_MAX_S : Fld := ⟨0x18200, 4, 11, 0⟩

/-! NPR_DUTY: 09_network_protection.md, offset 0x300 step 4, 32 of them -/
def NPR_DUTY.ENTRY : Fld := ⟨0x18300, 4, 31, 25⟩
def NPR_DUTY.DUTY : Fld := ⟨0x18300, 4, 10, 0⟩

/-! NPR_NOISEQ: 09_network_protection.md, offset 0x380 step 4, 16 of them -/
def NPR_NOISEQ.MEAS : Fld := ⟨0x18380, 4, 31, 16⟩
def NPR_NOISEQ.LIMIT : Fld := ⟨0x18380, 4, 15, 0⟩

/-! NPR_NOISE_X: 09_network_protection.md, offset 0x408 -/
def NPR_NOISE_X.NOISE_SHIFT : Fld := ⟨0x18408, 0, 3, 0⟩

/-! LIM_MUTE_PATH: 09_network_protection.md, offset 0x040 -/
def LIM_MUTE_PATH.PATHS : Fld := ⟨0x19040, 0, 31, 0⟩

/-! LIM_MUTE_STREAM: 09_network_protection.md, offset 0x044 -/
def LIM_MUTE_STREAM.STREAMS : Fld := ⟨0x19044, 0, 31, 0⟩

/-! LIM_REG_STAT: 09_network_protection.md, offset 0x048 -/
def LIM_REG_STAT.VALID : Fld := ⟨0x19048, 0, 31, 31⟩
def LIM_REG_STAT.ENTRIES : Fld := ⟨0x19048, 0, 30, 24⟩
def LIM_REG_STAT.BAD_ENTRY : Fld := ⟨0x19048, 0, 23, 16⟩
def LIM_REG_STAT.CAPPED : Fld := ⟨0x19048, 0, 15, 0⟩

/-! LIM_REG_CRC: 09_network_protection.md, offset 0x04C -/
def LIM_REG_CRC.CRC : Fld := ⟨0x1904C, 0, 31, 0⟩

/-! LIM_LIMITER_COUNT: 09_network_protection.md, offset 0x050 -/
def LIM_LIMITER_COUNT.COUNT : Fld := ⟨0x19050, 0, 23, 0⟩

/-! LIM_ATTEN: 09_network_protection.md, offset 0x100 step 4, 32 of them -/
def LIM_ATTEN.ATTEN : Fld := ⟨0x19100, 4, 15, 0⟩

/-! LIM_LIMITER_X: 09_network_protection.md, offset 0x408 -/
def LIM_LIMITER_X.RELEASE : Fld := ⟨0x19408, 0, 15, 0⟩

/-! LIM_REG_SEL: 09_network_protection.md, offset 0x440 (per initiator) -/
def LIM_REG_SEL.ENTRY : Fld := ⟨0x19440, Fld.unitStep, 5, 0⟩

/-! LIM_REG_DATA: 09_network_protection.md, offset 0x480 step 4, 16 of them -/
def LIM_REG_DATA.DATA : Fld := ⟨0x19480, 4, 31, 0⟩

/-! LIM_REG_CMD: 09_network_protection.md, offset 0x4C0 -/
def LIM_REG_CMD.COMMIT : Fld := ⟨0x194C0, 0, 31, 31⟩
def LIM_REG_CMD.RESTAGE : Fld := ⟨0x194C0, 0, 30, 30⟩

/-! FEL_PSEL: 10_front_end.md, offset 0x040 (per initiator) -/
def FEL_PSEL.PORT : Fld := ⟨0x1B040, Fld.unitStep, 4, 0⟩

/-! FEL_CHAIN: 10_front_end.md, offset 0x044 (behind the selection) -/
def FEL_CHAIN.TARGET : Fld := ⟨0x1B044, Fld.unitStep, 31, 30⟩
def FEL_CHAIN.CAL_REQ_RXIQ : Fld := ⟨0x1B044, Fld.unitStep, 29, 29⟩
def FEL_CHAIN.CAL_REQ_RXGAIN : Fld := ⟨0x1B044, Fld.unitStep, 28, 28⟩
def FEL_CHAIN.FE_CLEAR : Fld := ⟨0x1B044, Fld.unitStep, 27, 27⟩
def FEL_CHAIN.LNA_HOLD : Fld := ⟨0x1B044, Fld.unitStep, 26, 26⟩
def FEL_CHAIN.STATE : Fld := ⟨0x1B044, Fld.unitStep, 25, 23⟩
def FEL_CHAIN.BUSY : Fld := ⟨0x1B044, Fld.unitStep, 22, 22⟩
def FEL_CHAIN.FOX_HOLD : Fld := ⟨0x1B044, Fld.unitStep, 21, 21⟩
def FEL_CHAIN.CAL_BUSY : Fld := ⟨0x1B044, Fld.unitStep, 20, 20⟩
def FEL_CHAIN.CAL_RESULT : Fld := ⟨0x1B044, Fld.unitStep, 19, 18⟩

/-! FEL_TUNE: 10_front_end.md, offset 0x048 (behind the selection) -/
def FEL_TUNE.LO_KHZ : Fld := ⟨0x1B048, Fld.unitStep, 23, 0⟩

/-! FEL_PIN: 10_front_end.md, offset 0x04C (behind the selection) -/
def FEL_PIN.TRX_POL : Fld := ⟨0x1B04C, Fld.unitStep, 5, 5⟩
def FEL_PIN.PA_POL : Fld := ⟨0x1B04C, Fld.unitStep, 4, 4⟩
def FEL_PIN.LNA_POL : Fld := ⟨0x1B04C, Fld.unitStep, 3, 3⟩
def FEL_PIN.TRX : Fld := ⟨0x1B04C, Fld.unitStep, 2, 2⟩
def FEL_PIN.PA : Fld := ⟨0x1B04C, Fld.unitStep, 1, 1⟩
def FEL_PIN.LNA : Fld := ⟨0x1B04C, Fld.unitStep, 0, 0⟩

/-! FEL_GAIN: 10_front_end.md, offset 0x050 (behind the selection) -/
def FEL_GAIN.RXC : Fld := ⟨0x1B050, Fld.unitStep, 31, 16⟩
def FEL_GAIN.TXC : Fld := ⟨0x1B050, Fld.unitStep, 15, 0⟩

/-! FEL_SUPPLY: 10_front_end.md, offset 0x054 (behind the selection) -/
def FEL_SUPPLY.V_MV : Fld := ⟨0x1B054, Fld.unitStep, 31, 16⟩
def FEL_SUPPLY.CORR : Fld := ⟨0x1B054, Fld.unitStep, 15, 0⟩

/-! FEL_DET: 10_front_end.md, offset 0x058 (behind the selection) -/
def FEL_DET.FWD : Fld := ⟨0x1B058, Fld.unitStep, 31, 16⟩
def FEL_DET.REF : Fld := ⟨0x1B058, Fld.unitStep, 15, 0⟩

/-! FEL_MM: 10_front_end.md, offset 0x05C (behind the selection) -/
def FEL_MM.STATE : Fld := ⟨0x1B05C, Fld.unitStep, 31, 29⟩
def FEL_MM.RETRIES : Fld := ⟨0x1B05C, Fld.unitStep, 28, 24⟩
def FEL_MM.FE_CAP : Fld := ⟨0x1B05C, Fld.unitStep, 15, 0⟩

/-! FEL_TUNER: 10_front_end.md, offset 0x060 (behind the selection) -/
def FEL_TUNER.TUNER_EN : Fld := ⟨0x1B060, Fld.unitStep, 31, 31⟩
def FEL_TUNER.TUNER_CODE : Fld := ⟨0x1B060, Fld.unitStep, 7, 0⟩

/-! FEL_TEMP: 10_front_end.md, offset 0x064 (behind the selection) -/
def FEL_TEMP.T_MOD : Fld := ⟨0x1B064, Fld.unitStep, 31, 16⟩
def FEL_TEMP.T_CAL : Fld := ⟨0x1B064, Fld.unitStep, 15, 0⟩

/-! FEL_LINK: 10_front_end.md, offset 0x068 (behind the selection) -/
def FEL_LINK.UP : Fld := ⟨0x1B068, Fld.unitStep, 31, 31⟩
def FEL_LINK.FRAME_FAIL : Fld := ⟨0x1B068, Fld.unitStep, 15, 0⟩

/-! FEL_Q: 10_front_end.md, offset 0x06C (behind the selection) -/
def FEL_Q.TIMED_FILL : Fld := ⟨0x1B06C, Fld.unitStep, 21, 16⟩
def FEL_Q.PLAIN_FILL : Fld := ⟨0x1B06C, Fld.unitStep, 6, 0⟩

/-! FEL_MMCFG0: 10_front_end.md, offset 0x080 -/
def FEL_MMCFG0.DET_MIN : Fld := ⟨0x1B080, 0, 31, 16⟩
def FEL_MMCFG0.PROVE_DB : Fld := ⟨0x1B080, 0, 15, 0⟩

/-! FEL_MMCFG1: 10_front_end.md, offset 0x084 -/
def FEL_MMCFG1.RL_WARN : Fld := ⟨0x1B084, 0, 31, 16⟩
def FEL_MMCFG1.RL_TRIP : Fld := ⟨0x1B084, 0, 15, 0⟩

/-! FEL_MMCFG2: 10_front_end.md, offset 0x088 -/
def FEL_MMCFG2.RL_SHORT : Fld := ⟨0x1B088, 0, 31, 16⟩
def FEL_MMCFG2.FOLD_DB : Fld := ⟨0x1B088, 0, 15, 0⟩

/-! FEL_MMCFG3: 10_front_end.md, offset 0x08C -/
def FEL_MMCFG3.REF_MAX : Fld := ⟨0x1B08C, 0, 31, 16⟩
def FEL_MMCFG3.MM_HOLD_MS : Fld := ⟨0x1B08C, 0, 15, 0⟩

/-! FEL_MMCFG4: 10_front_end.md, offset 0x090 -/
def FEL_MMCFG4.MM_RETRY_LIMIT : Fld := ⟨0x1B090, 0, 31, 24⟩
def FEL_MMCFG4.TUNE_INT_MS : Fld := ⟨0x1B090, 0, 23, 16⟩
def FEL_MMCFG4.DET_TO_US : Fld := ⟨0x1B090, 0, 15, 0⟩

/-! FEL_LINKCFG: 10_front_end.md, offset 0x094 -/
def FEL_LINKCFG.LINK_TO_US : Fld := ⟨0x1B094, 0, 15, 0⟩

/-! FEL_FH: 10_front_end.md, offset 0x0A0 step 4, 3 of them -/
def FEL_FH.RXFS : Fld := ⟨0x1B0A0, 4, 31, 16⟩
def FEL_FH.TXFS : Fld := ⟨0x1B0A0, 4, 15, 0⟩

/-! FEL_DSEL: 10_front_end.md, offset 0x0B0 (selected) -/
def FEL_DSEL.WORD : Fld := ⟨0x1B0B0, Fld.unitStep, 2, 0⟩

/-! FEL_DESC: 10_front_end.md, offset 0x0B4 (behind the selection) -/
def FEL_DESC.DATA : Fld := ⟨0x1B0B4, Fld.unitStep, 31, 0⟩

/-! FEL_DCMD: 10_front_end.md, offset 0x0B8 (behind the selection) -/
def FEL_DCMD.COMMIT : Fld := ⟨0x1B0B8, Fld.unitStep, 31, 31⟩

/-! FEL_TSLOPE: 10_front_end.md, offset 0x408 step 4, 5 of them (behind the selection) -/
def FEL_TSLOPE.RX_TSLOPE (i : Nat) : Fld := ⟨0x1B408 + 4 * i, Fld.unitStep, 31, 16⟩
def FEL_TSLOPE.TX_TSLOPE (i : Nat) : Fld := ⟨0x1B408 + 4 * i, Fld.unitStep, 15, 0⟩

/-! FEL_TRACK_X: 10_front_end.md, offset 0x420 -/
def FEL_TRACK_X.TX_TRACK_TC_MS : Fld := ⟨0x1B420, 0, 15, 0⟩

/-! CXW_CFG: 10_front_end.md, offset 0x040 step 4, 8 of them -/
def CXW_CFG.EN : Fld := ⟨0x1C040, 4, 31, 31⟩
def CXW_CFG.MODE : Fld := ⟨0x1C040, 4, 30, 30⟩
def CXW_CFG.PRI_MODE : Fld := ⟨0x1C040, 4, 29, 28⟩
def CXW_CFG.GNT_SETUP_NS : Fld := ⟨0x1C040, 4, 27, 16⟩
def CXW_CFG.GNT_FILT : Fld := ⟨0x1C040, 4, 15, 8⟩
def CXW_CFG.LOSS_N : Fld := ⟨0x1C040, 4, 7, 0⟩

/-! CXW_STAT: 10_front_end.md, offset 0x060 step 4, 8 of them -/
def CXW_STAT.REQ : Fld := ⟨0x1C060, 4, 31, 31⟩
def CXW_STAT.GNT : Fld := ⟨0x1C060, 4, 30, 30⟩
def CXW_STAT.PRI : Fld := ⟨0x1C060, 4, 29, 29⟩
def CXW_STAT.DENIED : Fld := ⟨0x1C060, 4, 15, 8⟩
def CXW_STAT.REVOKED : Fld := ⟨0x1C060, 4, 7, 0⟩

/-! JLK_CFG: 11_links.md, offset 0x040 (per link group) -/
def JLK_CFG.RX_EN : Fld := ⟨0x30040, Fld.unitStep, 31, 31⟩
def JLK_CFG.TX_EN : Fld := ⟨0x30040, Fld.unitStep, 30, 30⟩
def JLK_CFG.SYSREF_MODE : Fld := ⟨0x30040, Fld.unitStep, 29, 28⟩
def JLK_CFG.LANE_INV : Fld := ⟨0x30040, Fld.unitStep, 27, 24⟩
def JLK_CFG.SWAP_RX : Fld := ⟨0x30040, Fld.unitStep, 23, 23⟩
def JLK_CFG.SWAP_TX : Fld := ⟨0x30040, Fld.unitStep, 22, 22⟩
def JLK_CFG.ALARM_GPIO : Fld := ⟨0x30040, Fld.unitStep, 21, 16⟩

/-! JLK_STAT: 11_links.md, offset 0x044 (per link group) -/
def JLK_STAT.RX_STATE : Fld := ⟨0x30044, Fld.unitStep, 31, 29⟩
def JLK_STAT.TX_STATE : Fld := ⟨0x30044, Fld.unitStep, 28, 27⟩
def JLK_STAT.PLL_LOCK : Fld := ⟨0x30044, Fld.unitStep, 26, 26⟩
def JLK_STAT.LANE_LOCK : Fld := ⟨0x30044, Fld.unitStep, 25, 24⟩
def JLK_STAT.SYSREF_SEEN : Fld := ⟨0x30044, Fld.unitStep, 23, 23⟩
def JLK_STAT.ARR_DEV : Fld := ⟨0x30044, Fld.unitStep, 15, 0⟩

/-! JLK_ERR: 11_links.md, offset 0x048 (per link group) -/
def JLK_ERR.CRC_ERR : Fld := ⟨0x30048, Fld.unitStep, 31, 16⟩
def JLK_ERR.RELOCKS : Fld := ⟨0x30048, Fld.unitStep, 15, 8⟩
def JLK_ERR.SYSREF_PHASE : Fld := ⟨0x30048, Fld.unitStep, 7, 0⟩

/-! JLK_TEST: 11_links.md, offset 0x04C (per link group) -/
def JLK_TEST.PATTERN : Fld := ⟨0x3004C, Fld.unitStep, 31, 30⟩
def JLK_TEST.BIT_ERR : Fld := ⟨0x3004C, Fld.unitStep, 15, 0⟩

/-! JLK_X_LIM: 11_links.md, offset 0x408 (per link group) -/
def JLK_X_LIM.CRC_MAX : Fld := ⟨0x30408, Fld.unitStep, 31, 24⟩
def JLK_X_LIM.ARR_WARN : Fld := ⟨0x30408, Fld.unitStep, 23, 16⟩
def JLK_X_LIM.ARR_MAX : Fld := ⟨0x30408, Fld.unitStep, 15, 8⟩

/-! FHL_SIDEA_CFG: 11_links.md, offset 0x040 -/
def FHL_SIDEA_CFG.EN : Fld := ⟨0x10040, 0, 31, 31⟩
def FHL_SIDEA_CFG.RELAY_EN : Fld := ⟨0x10040, 0, 30, 30⟩
def FHL_SIDEA_CFG.PREEMPT_EN : Fld := ⟨0x10040, 0, 29, 29⟩
def FHL_SIDEA_CFG.LANE_EN : Fld := ⟨0x10040, 0, 3, 0⟩

/-! FHL_SIDEB_CFG: 11_links.md, offset 0x044 -/
def FHL_SIDEB_CFG.EN : Fld := ⟨0x10044, 0, 31, 31⟩
def FHL_SIDEB_CFG.RELAY_EN : Fld := ⟨0x10044, 0, 30, 30⟩
def FHL_SIDEB_CFG.PREEMPT_EN : Fld := ⟨0x10044, 0, 29, 29⟩
def FHL_SIDEB_CFG.LANE_EN : Fld := ⟨0x10044, 0, 3, 0⟩

/-! FHL_SIDEA_STAT: 11_links.md, offset 0x048 -/
def FHL_SIDEA_STAT.UP : Fld := ⟨0x10048, 0, 31, 31⟩
def FHL_SIDEA_STAT.PREEMPT_OK : Fld := ⟨0x10048, 0, 30, 30⟩
def FHL_SIDEA_STAT.HIBER : Fld := ⟨0x10048, 0, 7, 4⟩
def FHL_SIDEA_STAT.LANE_UP : Fld := ⟨0x10048, 0, 3, 0⟩

/-! FHL_SIDEB_STAT: 11_links.md, offset 0x04C -/
def FHL_SIDEB_STAT.UP : Fld := ⟨0x1004C, 0, 31, 31⟩
def FHL_SIDEB_STAT.PREEMPT_OK : Fld := ⟨0x1004C, 0, 30, 30⟩
def FHL_SIDEB_STAT.HIBER : Fld := ⟨0x1004C, 0, 7, 4⟩
def FHL_SIDEB_STAT.LANE_UP : Fld := ⟨0x1004C, 0, 3, 0⟩

/-! FHL_NODE: 11_links.md, offset 0x050 -/
def FHL_NODE.NODE_ID : Fld := ⟨0x10050, 0, 15, 0⟩

/-! FHL_TIMEOUT: 11_links.md, offset 0x054 -/
def FHL_TIMEOUT.FLOW_TO_US : Fld := ⟨0x10054, 0, 31, 16⟩

/-! FHL_FEED: 11_links.md, offset 0x060 step 4, 3 of them -/
def FHL_FEED.SIDE : Fld := ⟨0x10060, 4, 31, 30⟩
def FHL_FEED.IN_USE : Fld := ⟨0x10060, 4, 29, 29⟩
def FHL_FEED.RELEASE_NS : Fld := ⟨0x10060, 4, 10, 0⟩

/-! FHL_FLOW_CFG: 11_links.md, offset 0x100 step 8, 16 of them -/
def FHL_FLOW_CFG.EN : Fld := ⟨0x10100, 8, 31, 31⟩
def FHL_FLOW_CFG.DIR : Fld := ⟨0x10100, 8, 30, 30⟩
def FHL_FLOW_CFG.FEED : Fld := ⟨0x10100, 8, 29, 28⟩
def FHL_FLOW_CFG.DONOR : Fld := ⟨0x10100, 8, 27, 24⟩
def FHL_FLOW_CFG.BLOCKS_M1 : Fld := ⟨0x10100, 8, 20, 16⟩
def FHL_FLOW_CFG.PC_ID : Fld := ⟨0x10100, 8, 15, 0⟩

/-! FHL_FLOW_STAT: 11_links.md, offset 0x104 step 8, 16 of them -/
def FHL_FLOW_STAT.STATE : Fld := ⟨0x10104, 8, 31, 30⟩
def FHL_FLOW_STAT.LATE : Fld := ⟨0x10104, 8, 15, 8⟩
def FHL_FLOW_STAT.SLIPS : Fld := ⟨0x10104, 8, 7, 0⟩

/-! FHL_ALIGN_CFG: 11_links.md, offset 0x180 -/
def FHL_ALIGN_CFG.EN : Fld := ⟨0x10180, 0, 31, 31⟩
def FHL_ALIGN_CFG.FIRST : Fld := ⟨0x10180, 0, 30, 30⟩
def FHL_ALIGN_CFG.GROUP : Fld := ⟨0x10180, 0, 23, 16⟩
def FHL_ALIGN_CFG.BASE_NS : Fld := ⟨0x10180, 0, 15, 0⟩

/-! FHL_ALIGN_TARGET: 11_links.md, offset 0x184 -/
def FHL_ALIGN_TARGET.TARGET_NS : Fld := ⟨0x10184, 0, 15, 0⟩

/-! FHL_ALIGN_PATHS: 11_links.md, offset 0x188 -/
def FHL_ALIGN_PATHS.PATHS : Fld := ⟨0x10188, 0, 31, 0⟩

/-! FHL_ALIGN_STAT: 11_links.md, offset 0x18C -/
def FHL_ALIGN_STAT.STATE : Fld := ⟨0x1018C, 0, 31, 30⟩
def FHL_ALIGN_STAT.HOP : Fld := ⟨0x1018C, 0, 29, 27⟩
def FHL_ALIGN_STAT.SLEWING : Fld := ⟨0x1018C, 0, 26, 26⟩
def FHL_ALIGN_STAT.D_NS : Fld := ⟨0x1018C, 0, 15, 0⟩

/-! FHL_ALIGN_ACC: 11_links.md, offset 0x190 -/
def FHL_ALIGN_ACC.TARGET_IN : Fld := ⟨0x10190, 0, 31, 16⟩
def FHL_ALIGN_ACC.ACC_NS : Fld := ⟨0x10190, 0, 15, 0⟩

/-! FHL_HOP: 11_links.md, offset 0x194 -/
def FHL_HOP.HOP_NS : Fld := ⟨0x10194, 0, 15, 0⟩

/-! FHL_MEAS: 11_links.md, offset 0x198 -/
def FHL_MEAS.MEAS_PERIOD_MS : Fld := ⟨0x10198, 0, 31, 16⟩
def FHL_MEAS.ALIGN_PERIOD_MS : Fld := ⟨0x10198, 0, 15, 0⟩

/-! FHL_CHAIN_CNT: 11_links.md, offset 0x1A0 -/
def FHL_CHAIN_CNT.CONSUMED : Fld := ⟨0x101A0, 0, 31, 16⟩
def FHL_CHAIN_CNT.EXPIRED : Fld := ⟨0x101A0, 0, 15, 8⟩
def FHL_CHAIN_CNT.DROPPED : Fld := ⟨0x101A0, 0, 7, 0⟩

/-! FHL_FCS_CNT: 11_links.md, offset 0x1A4 -/
def FHL_FCS_CNT.SIDE_A : Fld := ⟨0x101A4, 0, 31, 16⟩
def FHL_FCS_CNT.SIDE_B : Fld := ⟨0x101A4, 0, 15, 0⟩

/-! FHL_DISC_CNT: 11_links.md, offset 0x1A8 -/
def FHL_DISC_CNT.SIDE_A : Fld := ⟨0x101A8, 0, 31, 16⟩
def FHL_DISC_CNT.SIDE_B : Fld := ⟨0x101A8, 0, 15, 0⟩

/-! FHL_PTP_CFG: 11_links.md, offset 0x200 -/
def FHL_PTP_CFG.EN : Fld := ⟨0x10200, 0, 31, 31⟩
def FHL_PTP_CFG.SIDE : Fld := ⟨0x10200, 0, 30, 30⟩
def FHL_PTP_CFG.SERVO : Fld := ⟨0x10200, 0, 29, 29⟩
def FHL_PTP_CFG.DOMAIN : Fld := ⟨0x10200, 0, 23, 16⟩
def FHL_PTP_CFG.LOCK_NS : Fld := ⟨0x10200, 0, 15, 0⟩

/-! FHL_PTP_CFG2: 11_links.md, offset 0x204 -/
def FHL_PTP_CFG2.UNLOCK_NS : Fld := ⟨0x10204, 0, 31, 16⟩
def FHL_PTP_CFG2.PTP_TO_MS : Fld := ⟨0x10204, 0, 15, 0⟩

/-! FHL_PTP_STAT: 11_links.md, offset 0x208 -/
def FHL_PTP_STAT.LOCK : Fld := ⟨0x10208, 0, 31, 31⟩
def FHL_PTP_STAT.PORT_STATE : Fld := ⟨0x10208, 0, 27, 24⟩

/-! FHL_PTP_OFFSET: 11_links.md, offset 0x20C -/
def FHL_PTP_OFFSET.OFFSET_NS : Fld := ⟨0x1020C, 0, 31, 0⟩

/-! FHL_PTP_MPD: 11_links.md, offset 0x210 -/
def FHL_PTP_MPD.MPD_NS : Fld := ⟨0x10210, 0, 31, 0⟩

/-! FHL_PTP_FREQ: 11_links.md, offset 0x214 -/
def FHL_PTP_FREQ.FREQ : Fld := ⟨0x10214, 0, 31, 0⟩

/-! FHL_PTP_STEP: 11_links.md, offset 0x218 -/
def FHL_PTP_STEP.STEP_NS : Fld := ⟨0x10218, 0, 31, 0⟩

/-! FHL_PTP_TIME_NS: 11_links.md, offset 0x21C -/
def FHL_PTP_TIME_NS.NS : Fld := ⟨0x1021C, 0, 31, 0⟩

/-! FHL_PTP_TIME_SEC_LO: 11_links.md, offset 0x220 -/
def FHL_PTP_TIME_SEC_LO.SEC_LO : Fld := ⟨0x10220, 0, 31, 0⟩

/-! FHL_PTP_TIME_SEC_HI: 11_links.md, offset 0x224 -/
def FHL_PTP_TIME_SEC_HI.SEC_HI : Fld := ⟨0x10224, 0, 15, 0⟩

/-! FHL_PTP_CNT: 11_links.md, offset 0x228 -/
def FHL_PTP_CNT.SYNC_RX : Fld := ⟨0x10228, 0, 31, 16⟩
def FHL_PTP_CNT.TC_RELAYED : Fld := ⟨0x10228, 0, 15, 0⟩

/-! GCP_FN_EN: 12_command_packets.md, offset 0x040 -/
def GCP_FN_EN.FN_EN : Fld := ⟨0x0B040, 0, 7, 0⟩

/-! GCP_FN_STAT: 12_command_packets.md, offset 0x044 -/
def GCP_FN_STAT.STATE : Fld := ⟨0x0B044, 0, 15, 0⟩

/-! GCP_TIME: 12_command_packets.md, offset 0x048 -/
def GCP_TIME.Q_TIMEOUT_MS : Fld := ⟨0x0B048, 0, 31, 16⟩
def GCP_TIME.RETRY_BASE_US : Fld := ⟨0x0B048, 0, 15, 0⟩

/-! GCP_HOST: 12_command_packets.md, offset 0x04C -/
def GCP_HOST.HOST_TO_S : Fld := ⟨0x0B04C, 0, 31, 16⟩

/-! GCP_BOOT: 12_command_packets.md, offset 0x050 -/
def GCP_BOOT.BOOT : Fld := ⟨0x0B050, 0, 31, 0⟩

/-! GCP_SERIAL_LO: 12_command_packets.md, offset 0x054 -/
def GCP_SERIAL_LO.SERIAL : Fld := ⟨0x0B054, 0, 31, 0⟩

/-! GCP_SERIAL_HI: 12_command_packets.md, offset 0x058 -/
def GCP_SERIAL_HI.SERIAL : Fld := ⟨0x0B058, 0, 31, 0⟩

/-! GCP_SEC_CNT: 12_command_packets.md, offset 0x05C -/
def GCP_SEC_CNT.AUTH_FAIL : Fld := ⟨0x0B05C, 0, 31, 16⟩
def GCP_SEC_CNT.REPLAY : Fld := ⟨0x0B05C, 0, 15, 0⟩

/-! GCP_ANS_CNT: 12_command_packets.md, offset 0x060 -/
def GCP_ANS_CNT.DELAYED : Fld := ⟨0x0B060, 0, 31, 16⟩
def GCP_ANS_CNT.REFUSED : Fld := ⟨0x0B060, 0, 15, 0⟩

/-! GCP_DROP_CNT: 12_command_packets.md, offset 0x064 -/
def GCP_DROP_CNT.ANSWER_DISCARD : Fld := ⟨0x0B064, 0, 31, 16⟩
def GCP_DROP_CNT.REPORT_DROP : Fld := ⟨0x0B064, 0, 15, 0⟩

/-! GCP_RT: 12_command_packets.md, offset 0x080 step 4, 19 of them -/
def GCP_RT.TRANSPORT : Fld := ⟨0x0B080, 4, 31, 30⟩

/-! BUF_STAT: 12_command_packets.md, offset 0x040 -/
def BUF_STAT.FREE : Fld := ⟨0x0C040, 0, 25, 16⟩
def BUF_STAT.FREE_MIN : Fld := ⟨0x0C040, 0, 9, 0⟩

/-! BUF_POOL: 12_command_packets.md, offset 0x044 -/
def BUF_POOL.POOL_HYST : Fld := ⟨0x0C044, 0, 14, 10⟩
def BUF_POOL.POOL_LOW_MARK : Fld := ⟨0x0C044, 0, 9, 0⟩

/-! BUF_QCFG: 12_command_packets.md, offset 0x080 step 12, 10 of them -/
def BUF_QCFG.RES : Fld := ⟨0x0C080, 12, 31, 22⟩
def BUF_QCFG.QMAX : Fld := ⟨0x0C080, 12, 21, 12⟩

/-! BUF_QMARK: 12_command_packets.md, offset 0x084 step 12, 10 of them -/
def BUF_QMARK.HI_MARK : Fld := ⟨0x0C084, 12, 31, 22⟩
def BUF_QMARK.HYST : Fld := ⟨0x0C084, 12, 21, 17⟩

/-! BUF_QSTAT: 12_command_packets.md, offset 0x088 step 12, 10 of them -/
def BUF_QSTAT.HELD : Fld := ⟨0x0C088, 12, 31, 22⟩
def BUF_QSTAT.PEAK : Fld := ⟨0x0C088, 12, 21, 12⟩

/-! PCIE_STAT: 12_command_packets.md, offset 0x040 -/
def PCIE_STAT.LINK_UP : Fld := ⟨0x0D040, 0, 31, 31⟩
def PCIE_STAT.SPEED : Fld := ⟨0x0D040, 0, 30, 28⟩
def PCIE_STAT.WIDTH : Fld := ⟨0x0D040, 0, 27, 24⟩

/-! PCIE_RING: 12_command_packets.md, offset 0x080 step 16, 3 of them -/
def PCIE_RING.EN : Fld := ⟨0x0D080, 16, 31, 31⟩

/-! PCIE_RQ_PROD: 12_command_packets.md, offset 0x084 step 16, 3 of them -/
def PCIE_RQ_PROD.PROD : Fld := ⟨0x0D084, 16, 5, 0⟩

/-! PCIE_IDX: 12_command_packets.md, offset 0x088 step 16, 3 of them -/
def PCIE_IDX.RQ_CONS : Fld := ⟨0x0D088, 16, 13, 8⟩
def PCIE_IDX.AN_PROD : Fld := ⟨0x0D088, 16, 5, 0⟩

/-! PCIE_AN_CONS: 12_command_packets.md, offset 0x08C step 16, 3 of them -/
def PCIE_AN_CONS.CONS : Fld := ⟨0x0D08C, 16, 5, 0⟩

/-! MGE_CFG: 12_command_packets.md, offset 0x040 -/
def MGE_CFG.EN : Fld := ⟨0x0E040, 0, 31, 31⟩
def MGE_CFG.VLAN_EN : Fld := ⟨0x0E040, 0, 30, 30⟩
def MGE_CFG.VID : Fld := ⟨0x0E040, 0, 27, 16⟩
def MGE_CFG.UDP_PORT : Fld := ⟨0x0E040, 0, 15, 0⟩

/-! MGE_STAT: 12_command_packets.md, offset 0x044 -/
def MGE_STAT.LINK_UP : Fld := ⟨0x0E044, 0, 31, 31⟩
def MGE_STAT.DISCARDED : Fld := ⟨0x0E044, 0, 15, 0⟩

/-! MGE_MAC_LO: 12_command_packets.md, offset 0x048 -/
def MGE_MAC_LO.MAC : Fld := ⟨0x0E048, 0, 31, 0⟩

/-! MGE_MAC_HI: 12_command_packets.md, offset 0x04C -/
def MGE_MAC_HI.MAC : Fld := ⟨0x0E04C, 0, 15, 0⟩

/-! MGE_ADDR: 12_command_packets.md, offset 0x050 step 4, 4 of them -/
def MGE_ADDR.ADDR : Fld := ⟨0x0E050, 4, 31, 0⟩

/-! CAP_FREE: 12_command_packets.md, offset 0x040 -/
def CAP_FREE.FREE_KIB : Fld := ⟨0x0F040, 0, 12, 0⟩

/-! CAP_SSEL: 12_command_packets.md, offset 0x044 (per initiator) -/
def CAP_SSEL.SESSION : Fld := ⟨0x0F044, Fld.unitStep, 3, 0⟩

/-! CAP_SSTAT: 12_command_packets.md, offset 0x048 (behind the selection) -/
def CAP_SSTAT.STATE : Fld := ⟨0x0F048, Fld.unitStep, 31, 29⟩
def CAP_SSTAT.END : Fld := ⟨0x0F048, Fld.unitStep, 28, 26⟩
def CAP_SSTAT.MODE : Fld := ⟨0x0F048, Fld.unitStep, 25, 25⟩
def CAP_SSTAT.OWNER : Fld := ⟨0x0F048, Fld.unitStep, 24, 20⟩
def CAP_SSTAT.TAP : Fld := ⟨0x0F048, Fld.unitStep, 19, 16⟩
def CAP_SSTAT.QUAL : Fld := ⟨0x0F048, Fld.unitStep, 15, 0⟩

/-! CAP_SOFF_LO: 12_command_packets.md, offset 0x04C (behind the selection) -/
def CAP_SOFF_LO.OFFSET : Fld := ⟨0x0F04C, Fld.unitStep, 31, 0⟩

/-! CAP_SOFF_HI: 12_command_packets.md, offset 0x050 (behind the selection) -/
def CAP_SOFF_HI.OFFSET : Fld := ⟨0x0F050, Fld.unitStep, 19, 0⟩

/-! CAP_SDROP: 12_command_packets.md, offset 0x054 (behind the selection) -/
def CAP_SDROP.DROP : Fld := ⟨0x0F054, Fld.unitStep, 31, 0⟩

/-! CAP_SRATE: 12_command_packets.md, offset 0x058 (behind the selection) -/
def CAP_SRATE.RATE_KHZ : Fld := ⟨0x0F058, Fld.unitStep, 23, 0⟩

/-! CAP_SCMD: 12_command_packets.md, offset 0x05C (behind the selection) -/
def CAP_SCMD.CLOSE : Fld := ⟨0x0F05C, Fld.unitStep, 31, 31⟩

/-! FLT_STAT: 13_faults.md, offset 0x040 -/
def FLT_STAT.SAFE : Fld := ⟨0x07040, 0, 31, 31⟩
def FLT_STAT.HEALTHY : Fld := ⟨0x07040, 0, 30, 30⟩
def FLT_STAT.SEVERE_ANY : Fld := ⟨0x07040, 0, 29, 29⟩
def FLT_STAT.RUNG_MAX : Fld := ⟨0x07040, 0, 28, 26⟩
def FLT_STAT.LAST_SRC : Fld := ⟨0x07040, 0, 7, 0⟩

/-! FLT_ERR_CTRL: 13_faults.md, offset 0x044 -/
def FLT_ERR_CTRL.HEALTHY : Fld := ⟨0x07044, 0, 31, 31⟩

/-! FLT_SEL: 13_faults.md, offset 0x048 (per initiator) -/
def FLT_SEL.SRC : Fld := ⟨0x07048, Fld.unitStep, 7, 0⟩

/-! FLT_SCFG: 13_faults.md, offset 0x04C (behind the selection) -/
def FLT_SCFG.N : Fld := ⟨0x0704C, Fld.unitStep, 31, 24⟩
def FLT_SCFG.WIN_MS : Fld := ⟨0x0704C, Fld.unitStep, 13, 0⟩

/-! FLT_SREACT: 13_faults.md, offset 0x050 (behind the selection) -/
def FLT_SREACT.FIRST : Fld := ⟨0x07050, Fld.unitStep, 31, 29⟩
def FLT_SREACT.LAST : Fld := ⟨0x07050, Fld.unitStep, 28, 26⟩
def FLT_SREACT.INFO_IRQ : Fld := ⟨0x07050, Fld.unitStep, 25, 25⟩
def FLT_SREACT.ESC_MS : Fld := ⟨0x07050, Fld.unitStep, 15, 0⟩

/-! FLT_SSTAT: 13_faults.md, offset 0x054 (behind the selection) -/
def FLT_SSTAT.SEVERE : Fld := ⟨0x07054, Fld.unitStep, 31, 31⟩
def FLT_SSTAT.RUNG : Fld := ⟨0x07054, Fld.unitStep, 30, 28⟩
def FLT_SSTAT.CNT : Fld := ⟨0x07054, Fld.unitStep, 23, 16⟩
def FLT_SSTAT.ESC_LEFT : Fld := ⟨0x07054, Fld.unitStep, 15, 0⟩

/-! FLT_ACK: 13_faults.md, offset 0x058 -/
def FLT_ACK.ACK : Fld := ⟨0x07058, 0, 31, 31⟩
def FLT_ACK.SRC : Fld := ⟨0x07058, 0, 7, 0⟩

/-! FLT_DUAL: 13_faults.md, offset 0x05C -/
def FLT_DUAL.COUNT : Fld := ⟨0x0705C, 0, 31, 16⟩
def FLT_DUAL.SRC : Fld := ⟨0x0705C, 0, 7, 0⟩

/-! FLT_SAFE_CAUSE: 13_faults.md, offset 0x060 -/
def FLT_SAFE_CAUSE.CLR : Fld := ⟨0x07060, 0, 31, 31⟩
def FLT_SAFE_CAUSE.CAUSE : Fld := ⟨0x07060, 0, 10, 8⟩
def FLT_SAFE_CAUSE.SRC : Fld := ⟨0x07060, 0, 7, 0⟩

/-! FLT_SAFE_DT_LO: 13_faults.md, offset 0x064 -/
def FLT_SAFE_DT_LO.DT : Fld := ⟨0x07064, 0, 31, 0⟩

/-! FLT_CRC_PAGE0: 13_faults.md, offset 0x068 -/
def FLT_CRC_PAGE0.PAGES : Fld := ⟨0x07068, 0, 31, 0⟩

/-! FLT_CRC_PAGE1: 13_faults.md, offset 0x06C -/
def FLT_CRC_PAGE1.PAGES : Fld := ⟨0x0706C, 0, 31, 0⟩

/-! FLT_STICKY: 13_faults.md, offset 0x080 step 4, 5 of them -/
def FLT_STICKY.STICKY : Fld := ⟨0x07080, 4, 31, 0⟩

/-! FLT_LEVEL: 13_faults.md, offset 0x0A0 step 4, 5 of them -/
def FLT_LEVEL.LEVEL : Fld := ⟨0x070A0, 4, 31, 0⟩

/-! FLT_SEVERE: 13_faults.md, offset 0x0C0 step 4, 5 of them -/
def FLT_SEVERE.SEVERE : Fld := ⟨0x070C0, 4, 31, 0⟩

/-! FLT_EVT_PEND: 13_faults.md, offset 0x0E0 step 4, 4 of them -/
def FLT_EVT_PEND.PEND : Fld := ⟨0x070E0, 4, 31, 0⟩

/-! FLT_EVT_EN: 13_faults.md, offset 0x0F0 step 4, 4 of them -/
def FLT_EVT_EN.EN : Fld := ⟨0x070F0, 4, 31, 0⟩

/-! FLT_FORCE: 13_faults.md, offset 0x408 step 4, 5 of them -/
def FLT_FORCE.FORCE : Fld := ⟨0x07408, 4, 31, 0⟩

/-! FLT_TEST: 13_faults.md, offset 0x420 -/
def FLT_TEST.CAP : Fld := ⟨0x07420, 0, 31, 31⟩
def FLT_TEST.SPLIT : Fld := ⟨0x07420, 0, 30, 30⟩
def FLT_TEST.SRC : Fld := ⟨0x07420, 0, 7, 0⟩

/-! EVR_STAT: 14_recorder_nv.md, offset 0x040 -/
def EVR_STAT.FULL : Fld := ⟨0x08040, 0, 31, 31⟩
def EVR_STAT.CLEARING : Fld := ⟨0x08040, 0, 30, 30⟩
def EVR_STAT.PF_CLOSED : Fld := ⟨0x08040, 0, 29, 29⟩
def EVR_STAT.STAGED : Fld := ⟨0x08040, 0, 27, 16⟩
def EVR_STAT.SLOTS_USED : Fld := ⟨0x08040, 0, 10, 0⟩

/-! EVR_SEQ: 14_recorder_nv.md, offset 0x044 -/
def EVR_SEQ.SEQ : Fld := ⟨0x08044, 0, 31, 0⟩

/-! EVR_LOGGED: 14_recorder_nv.md, offset 0x048 -/
def EVR_LOGGED.LOGGED : Fld := ⟨0x08048, 0, 16, 0⟩

/-! EVR_DROP: 14_recorder_nv.md, offset 0x04C -/
def EVR_DROP.DROPPED : Fld := ⟨0x0804C, 0, 31, 0⟩

/-! EVR_EPOCH: 14_recorder_nv.md, offset 0x050 -/
def EVR_EPOCH.E : Fld := ⟨0x08050, 0, 31, 0⟩

/-! EVR_CFG: 14_recorder_nv.md, offset 0x054 -/
def EVR_CFG.HI_MARK : Fld := ⟨0x08054, 0, 26, 16⟩
def EVR_CFG.HYST : Fld := ⟨0x08054, 0, 4, 0⟩

/-! EVR_CMD: 14_recorder_nv.md, offset 0x058 -/
def EVR_CMD.FLUSH : Fld := ⟨0x08058, 0, 31, 31⟩

/-! EVR_RD_SEQ: 14_recorder_nv.md, offset 0x060 -/
def EVR_RD_SEQ.SEQ : Fld := ⟨0x08060, 0, 31, 0⟩

/-! EVR_RD_DATA: 14_recorder_nv.md, offset 0x064 step 4, 8 of them -/
def EVR_RD_DATA.DATA : Fld := ⟨0x08064, 4, 31, 0⟩

/-! EVR_CLEAR: 14_recorder_nv.md, offset 0x408 -/
def EVR_CLEAR.CLEAR : Fld := ⟨0x08408, 0, 31, 31⟩
def EVR_CLEAR.CONFIRM : Fld := ⟨0x08408, 0, 15, 0⟩

/-! NVA_STAT: 14_recorder_nv.md, offset 0x040 -/
def NVA_STAT.EXEC1 : Fld := ⟨0x09040, 0, 31, 31⟩
def NVA_STAT.EXEC0 : Fld := ⟨0x09040, 0, 30, 30⟩
def NVA_STAT.BUSY : Fld := ⟨0x09040, 0, 29, 29⟩
def NVA_STAT.STATE : Fld := ⟨0x09040, 0, 28, 26⟩
def NVA_STAT.RESULT : Fld := ⟨0x09040, 0, 25, 24⟩
def NVA_STAT.BAND : Fld := ⟨0x09040, 0, 18, 16⟩

/-! NVA_ADDR: 14_recorder_nv.md, offset 0x044 -/
def NVA_ADDR.ADDR : Fld := ⟨0x09044, 0, 23, 4⟩

/-! NVA_DATA: 14_recorder_nv.md, offset 0x048 step 4, 4 of them -/
def NVA_DATA.DATA : Fld := ⟨0x09048, 4, 31, 0⟩

/-! NVA_CMD: 14_recorder_nv.md, offset 0x058 -/
def NVA_CMD.CMD : Fld := ⟨0x09058, 0, 31, 30⟩

/-! NVA_ECC: 14_recorder_nv.md, offset 0x05C -/
def NVA_ECC.CORR : Fld := ⟨0x0905C, 0, 31, 16⟩
def NVA_ECC.UNCORR : Fld := ⟨0x0905C, 0, 15, 0⟩

/-! NVA_JRNL: 14_recorder_nv.md, offset 0x060 -/
def NVA_JRNL.HALF : Fld := ⟨0x09060, 0, 31, 31⟩
def NVA_JRNL.FREE : Fld := ⟨0x09060, 0, 20, 0⟩

/-! NVA_JSEQ: 14_recorder_nv.md, offset 0x064 -/
def NVA_JSEQ.JSEQ : Fld := ⟨0x09064, 0, 31, 0⟩

/-! NVA_BOOTSEL: 14_recorder_nv.md, offset 0x068 -/
def NVA_BOOTSEL.NEXT : Fld := ⟨0x09068, 0, 31, 31⟩
def NVA_BOOTSEL.REQ : Fld := ⟨0x09068, 0, 30, 30⟩
def NVA_BOOTSEL.REQ_BANK : Fld := ⟨0x09068, 0, 29, 29⟩
def NVA_BOOTSEL.RESULT : Fld := ⟨0x09068, 0, 28, 27⟩

/-! HUP_CFG: 14_recorder_nv.md, offset 0x040 -/
def HUP_CFG.EN : Fld := ⟨0x0A040, 0, 31, 31⟩
def HUP_CFG.CQ_EN : Fld := ⟨0x0A040, 0, 30, 30⟩
def HUP_CFG.CAP_UF : Fld := ⟨0x0A040, 0, 15, 0⟩

/-! HUP_VOLT: 14_recorder_nv.md, offset 0x044 -/
def HUP_VOLT.VMIN_MV : Fld := ⟨0x0A044, 0, 31, 16⟩
def HUP_VOLT.VPF_MV : Fld := ⟨0x0A044, 0, 15, 0⟩

/-! HUP_SCALE: 14_recorder_nv.md, offset 0x048 -/
def HUP_SCALE.VNOM_MV : Fld := ⟨0x0A048, 0, 31, 16⟩
def HUP_SCALE.DIV : Fld := ⟨0x0A048, 0, 15, 0⟩

/-! HUP_SENSE: 14_recorder_nv.md, offset 0x04C -/
def HUP_SENSE.RSENSE : Fld := ⟨0x0A04C, 0, 31, 16⟩

/-! HUP_STAT: 14_recorder_nv.md, offset 0x050 -/
def HUP_STAT.READY : Fld := ⟨0x0A050, 0, 31, 31⟩
def HUP_STAT.PFAIL : Fld := ⟨0x0A050, 0, 30, 30⟩
def HUP_STAT.BLOCKED : Fld := ⟨0x0A050, 0, 29, 29⟩
def HUP_STAT.DISAGREE : Fld := ⟨0x0A050, 0, 28, 28⟩
def HUP_STAT.V_LOSS : Fld := ⟨0x0A050, 0, 27, 27⟩
def HUP_STAT.Q_LOSS : Fld := ⟨0x0A050, 0, 26, 26⟩

/-! HUP_V: 14_recorder_nv.md, offset 0x054 -/
def HUP_V.V_MV : Fld := ⟨0x0A054, 0, 31, 16⟩
def HUP_V.C_EST_UF : Fld := ⟨0x0A054, 0, 15, 0⟩

/-! HUP_E: 14_recorder_nv.md, offset 0x058 -/
def HUP_E.E_V : Fld := ⟨0x0A058, 0, 31, 16⟩
def HUP_E.E_Q : Fld := ⟨0x0A058, 0, 15, 0⟩

/-! HUP_E2: 14_recorder_nv.md, offset 0x05C -/
def HUP_E2.E_LOW : Fld := ⟨0x0A05C, 0, 31, 16⟩
def HUP_E2.E_RES : Fld := ⟨0x0A05C, 0, 15, 0⟩

/-! HUP_Q: 14_recorder_nv.md, offset 0x060 -/
def HUP_Q.Q_UC : Fld := ⟨0x0A060, 0, 31, 0⟩

/-! HUP_CNT: 14_recorder_nv.md, offset 0x064 -/
def HUP_CNT.REBASES : Fld := ⟨0x0A064, 0, 31, 16⟩
def HUP_CNT.REFUSALS : Fld := ⟨0x0A064, 0, 15, 0⟩

/-! HUP_X1: 14_recorder_nv.md, offset 0x408 -/
def HUP_X1.HOLD_MW : Fld := ⟨0x0A408, 0, 31, 16⟩
def HUP_X1.MARGIN_MJ : Fld := ⟨0x0A408, 0, 15, 0⟩

/-! HUP_X2: 14_recorder_nv.md, offset 0x40C -/
def HUP_X2.DIS_PCT : Fld := ⟨0x0A40C, 0, 31, 24⟩
def HUP_X2.DIS_S : Fld := ⟨0x0A40C, 0, 23, 16⟩
def HUP_X2.SHED_UJ : Fld := ⟨0x0A40C, 0, 15, 0⟩

/-! SEC_LC: 15_security_power.md, offset 0x040 -/
def SEC_LC.PCIE_ROLE : Fld := ⟨0x04040, 0, 12, 8⟩
def SEC_LC.LC_PENDING : Fld := ⟨0x04040, 0, 7, 7⟩
def SEC_LC.LC_RESULT : Fld := ⟨0x04040, 0, 6, 4⟩
def SEC_LC.REDEPLOY_LEFT : Fld := ⟨0x04040, 0, 3, 2⟩

/-! SEC_LC_CMD: 15_security_power.md, offset 0x044 -/
def SEC_LC_CMD.GO : Fld := ⟨0x04044, 0, 31, 31⟩
def SEC_LC_CMD.TARGET : Fld := ⟨0x04044, 0, 18, 16⟩
def SEC_LC_CMD.CONFIRM : Fld := ⟨0x04044, 0, 15, 0⟩

/-! SEC_PCIE_ROLE: 15_security_power.md, offset 0x048 -/
def SEC_PCIE_ROLE.ROLE : Fld := ⟨0x04048, 0, 4, 0⟩

/-! SEC_KEY_SEL: 15_security_power.md, offset 0x050 (per initiator) -/
def SEC_KEY_SEL.ID : Fld := ⟨0x04050, Fld.unitStep, 4, 0⟩

/-! SEC_KEY_WRAP: 15_security_power.md, offset 0x054 step 4, 10 of them -/
def SEC_KEY_WRAP.DATA : Fld := ⟨0x04054, 4, 31, 0⟩

/-! SEC_KEY_CMD: 15_security_power.md, offset 0x07C -/
def SEC_KEY_CMD.INSTALL : Fld := ⟨0x0407C, 0, 31, 31⟩
def SEC_KEY_CMD.ERASE : Fld := ⟨0x0407C, 0, 30, 30⟩
def SEC_KEY_CMD.PLAIN : Fld := ⟨0x0407C, 0, 29, 29⟩
def SEC_KEY_CMD.KEY_RESULT : Fld := ⟨0x0407C, 0, 1, 0⟩

/-! SEC_KEY_STAT: 15_security_power.md, offset 0x080 -/
def SEC_KEY_STAT.PRESENT : Fld := ⟨0x04080, 0, 18, 0⟩

/-! SEC_ROOT_SEL: 15_security_power.md, offset 0x090 (per initiator) -/
def SEC_ROOT_SEL.SLOT : Fld := ⟨0x04090, Fld.unitStep, 2, 0⟩

/-! SEC_ROOT: 15_security_power.md, offset 0x094 -/
def SEC_ROOT.PROGRAMMED : Fld := ⟨0x04094, 0, 31, 31⟩
def SEC_ROOT.REVOKED : Fld := ⟨0x04094, 0, 30, 30⟩
def SEC_ROOT.USAGE : Fld := ⟨0x04094, 0, 3, 0⟩

/-! SEC_ROOT_KEY: 15_security_power.md, offset 0x0A0 step 4, 24 of them -/
def SEC_ROOT_KEY.KEY : Fld := ⟨0x040A0, 4, 31, 0⟩

/-! SEC_ROOT_CMD: 15_security_power.md, offset 0x100 -/
def SEC_ROOT_CMD.PROGRAM : Fld := ⟨0x04100, 0, 31, 31⟩
def SEC_ROOT_CMD.REVOKE : Fld := ⟨0x04100, 0, 30, 30⟩
def SEC_ROOT_CMD.USAGE : Fld := ⟨0x04100, 0, 3, 0⟩

/-! SEC_SVN: 15_security_power.md, offset 0x104 -/
def SEC_SVN.ADVANCE : Fld := ⟨0x04104, 0, 31, 31⟩
def SEC_SVN.EXT_SVN : Fld := ⟨0x04104, 0, 13, 8⟩
def SEC_SVN.FW_SVN : Fld := ⟨0x04104, 0, 5, 0⟩

/-! SEC_BOOT: 15_security_power.md, offset 0x108 -/
def SEC_BOOT.BANK : Fld := ⟨0x04108, 0, 31, 31⟩
def SEC_BOOT.FALLBACK : Fld := ⟨0x04108, 0, 30, 30⟩
def SEC_BOOT.EXT_RESULT : Fld := ⟨0x04108, 0, 29, 28⟩
def SEC_BOOT.FW_RUN_SVN : Fld := ⟨0x04108, 0, 21, 16⟩

/-! DBG_STAT: 15_security_power.md, offset 0x040 -/
def DBG_STAT.LEVEL : Fld := ⟨0x05040, 0, 31, 30⟩
def DBG_STAT.SIGNER : Fld := ⟨0x05040, 0, 29, 27⟩
def DBG_STAT.FAILS : Fld := ⟨0x05040, 0, 23, 16⟩
def DBG_STAT.LOCKOUT_S : Fld := ⟨0x05040, 0, 11, 0⟩

/-! DBG_CFG: 15_security_power.md, offset 0x044 -/
def DBG_CFG.IDLE_S : Fld := ⟨0x05044, 0, 15, 0⟩

/-! DBG_CHAL: 15_security_power.md, offset 0x050 step 4, 8 of them -/
def DBG_CHAL.CHAL : Fld := ⟨0x05050, 4, 31, 0⟩

/-! DBG_CLOSE: 15_security_power.md, offset 0x070 -/
def DBG_CLOSE.CLOSE : Fld := ⟨0x05070, 0, 31, 31⟩

/-! TRC_CTRL: 15_security_power.md, offset 0x040 -/
def TRC_CTRL.EN : Fld := ⟨0x06040, 0, 31, 31⟩
def TRC_CTRL.STOP_FULL : Fld := ⟨0x06040, 0, 30, 30⟩
def TRC_CTRL.SRC_EN : Fld := ⟨0x06040, 0, 3, 0⟩

/-! TRC_STAT: 15_security_power.md, offset 0x044 -/
def TRC_STAT.WRAPPED : Fld := ⟨0x06044, 0, 31, 31⟩
def TRC_STAT.STOPPED : Fld := ⟨0x06044, 0, 30, 30⟩
def TRC_STAT.WR_PTR : Fld := ⟨0x06044, 0, 11, 0⟩

/-! TRC_RD_ADDR: 15_security_power.md, offset 0x048 -/
def TRC_RD_ADDR.ADDR : Fld := ⟨0x06048, 0, 15, 0⟩

/-! TRC_RD_DATA: 15_security_power.md, offset 0x04C -/
def TRC_RD_DATA.DATA : Fld := ⟨0x0604C, 0, 31, 0⟩

/-! TRC_DROP: 15_security_power.md, offset 0x050 -/
def TRC_DROP.DROP : Fld := ⟨0x06050, 0, 31, 0⟩

/-! PWR_CTRL: 15_security_power.md, offset 0x040 -/
def PWR_CTRL.GO : Fld := ⟨0x03040, 0, 31, 31⟩
def PWR_CTRL.DRAIN : Fld := ⟨0x03040, 0, 30, 30⟩
def PWR_CTRL.KEEP_FH : Fld := ⟨0x03040, 0, 29, 28⟩
def PWR_CTRL.TARGET : Fld := ⟨0x03040, 0, 1, 0⟩

/-! PWR_STAT: 15_security_power.md, offset 0x044 -/
def PWR_STAT.STATE : Fld := ⟨0x03044, 0, 31, 29⟩
def PWR_STAT.PENDING : Fld := ⟨0x03044, 0, 28, 28⟩
def PWR_STAT.REFUSE : Fld := ⟨0x03044, 0, 27, 24⟩
def PWR_STAT.LAST_WAKE : Fld := ⟨0x03044, 0, 18, 16⟩

/-! PWR_WAKE_EN: 15_security_power.md, offset 0x048 -/
def PWR_WAKE_EN.POL : Fld := ⟨0x03048, 0, 9, 6⟩
def PWR_WAKE_EN.EN : Fld := ⟨0x03048, 0, 5, 0⟩

/-! PWR_WAKE_TIMER: 15_security_power.md, offset 0x04C -/
def PWR_WAKE_TIMER.CYCLES : Fld := ⟨0x0304C, 0, 31, 0⟩

/-! PWR_SLEEP_CNT: 15_security_power.md, offset 0x050 -/
def PWR_SLEEP_CNT.CYCLES : Fld := ⟨0x03050, 0, 31, 0⟩

/-! HKA_CFG: 16_housekeeping.md, offset 0x040 step 32, 2 of them -/
def HKA_CFG.EN : Fld := ⟨0x1D040, 32, 31, 31⟩
def HKA_CFG.MAINS : Fld := ⟨0x1D040, 32, 30, 30⟩
def HKA_CFG.LP : Fld := ⟨0x1D040, 32, 29, 27⟩
def HKA_CFG.REF : Fld := ⟨0x1D040, 32, 26, 25⟩
def HKA_CFG.INTERLEAVE : Fld := ⟨0x1D040, 32, 24, 24⟩
def HKA_CFG.TRIG : Fld := ⟨0x1D040, 32, 23, 22⟩
def HKA_CFG.TRIG_PWM : Fld := ⟨0x1D040, 32, 21, 19⟩
def HKA_CFG.TRIG_EDGE : Fld := ⟨0x1D040, 32, 18, 18⟩

/-! HKA_SCAN: 16_housekeeping.md, offset 0x044 step 32, 2 of them -/
def HKA_SCAN.MASK : Fld := ⟨0x1D044, 32, 31, 0⟩

/-! HKA_TRIG: 16_housekeeping.md, offset 0x048 step 32, 2 of them -/
def HKA_TRIG.DELAY : Fld := ⟨0x1D048, 32, 31, 16⟩
def HKA_TRIG.PERIOD_MS : Fld := ⟨0x1D048, 32, 15, 0⟩

/-! HKA_CMD: 16_housekeeping.md, offset 0x04C step 32, 2 of them -/
def HKA_CMD.START : Fld := ⟨0x1D04C, 32, 31, 31⟩
def HKA_CMD.CAL : Fld := ⟨0x1D04C, 32, 30, 30⟩
def HKA_CMD.ABORT : Fld := ⟨0x1D04C, 32, 29, 29⟩

/-! HKA_STAT: 16_housekeeping.md, offset 0x050 step 32, 2 of them -/
def HKA_STAT.STATE : Fld := ⟨0x1D050, 32, 31, 29⟩
def HKA_STAT.REF_SETTLED : Fld := ⟨0x1D050, 32, 28, 28⟩
def HKA_STAT.REF_FALLBACK : Fld := ⟨0x1D050, 32, 27, 27⟩
def HKA_STAT.START_HELD : Fld := ⟨0x1D050, 32, 26, 26⟩
def HKA_STAT.CAL_RESULT : Fld := ⟨0x1D050, 32, 25, 24⟩
def HKA_STAT.CH : Fld := ⟨0x1D050, 32, 20, 16⟩
def HKA_STAT.TRIG_LOST : Fld := ⟨0x1D050, 32, 15, 8⟩
def HKA_STAT.ABORTS : Fld := ⟨0x1D050, 32, 7, 0⟩

/-! HKA_CAL_OFF: 16_housekeeping.md, offset 0x054 step 32, 2 of them -/
def HKA_CAL_OFF.CAL_OFF : Fld := ⟨0x1D054, 32, 23, 0⟩

/-! HKA_CAL_GAIN: 16_housekeeping.md, offset 0x058 step 32, 2 of them -/
def HKA_CAL_GAIN.CAL_GAIN : Fld := ⟨0x1D058, 32, 31, 0⟩

/-! HKA_REFEXT: 16_housekeeping.md, offset 0x05C step 32, 2 of them -/
def HKA_REFEXT.REFEXT_MV : Fld := ⟨0x1D05C, 32, 15, 0⟩

/-! HKA_URG: 16_housekeeping.md, offset 0x080 -/
def HKA_URG.REQ : Fld := ⟨0x1D080, 0, 31, 31⟩
def HKA_URG.DIV : Fld := ⟨0x1D080, 0, 26, 24⟩
def HKA_URG.CH : Fld := ⟨0x1D080, 0, 20, 16⟩

/-! HKA_URG_RES: 16_housekeeping.md, offset 0x084 -/
def HKA_URG_RES.VALID : Fld := ⟨0x1D084, 0, 31, 31⟩
def HKA_URG_RES.STALE : Fld := ⟨0x1D084, 0, 30, 30⟩
def HKA_URG_RES.SRC : Fld := ⟨0x1D084, 0, 29, 29⟩
def HKA_URG_RES.CH : Fld := ⟨0x1D084, 0, 28, 24⟩
def HKA_URG_RES.VALUE : Fld := ⟨0x1D084, 0, 23, 0⟩

/-! HKA_CHTO: 16_housekeeping.md, offset 0x088 -/
def HKA_CHTO.CH_TO : Fld := ⟨0x1D088, 0, 7, 0⟩

/-! HKA_COUNT: 16_housekeeping.md, offset 0x090 step 4, 2 of them -/
def HKA_COUNT.SCANS : Fld := ⟨0x1D090, 4, 31, 0⟩

/-! HKA_RES: 16_housekeeping.md, offset 0x100 step 4, 64 of them -/
def HKA_RES.VALID : Fld := ⟨0x1D100, 4, 31, 31⟩
def HKA_RES.STALE : Fld := ⟨0x1D100, 4, 30, 30⟩
def HKA_RES.SRC : Fld := ⟨0x1D100, 4, 29, 29⟩
def HKA_RES.CH : Fld := ⟨0x1D100, 4, 28, 24⟩
def HKA_RES.VALUE : Fld := ⟨0x1D100, 4, 23, 0⟩

/-! HKA_CM: 16_housekeeping.md, offset 0x408 step 16, 32 of them -/
def HKA_CM.M : Fld := ⟨0x1D408, 16, 31, 0⟩

/-! HKA_CS: 16_housekeeping.md, offset 0x40C step 16, 32 of them -/
def HKA_CS.S : Fld := ⟨0x1D40C, 16, 4, 0⟩

/-! HKA_CO: 16_housekeeping.md, offset 0x410 step 16, 32 of them -/
def HKA_CO.OFFSET : Fld := ⟨0x1D410, 16, 23, 0⟩

/-! PWM_CFG: 16_housekeeping.md, offset 0x040 step 32, 8 of them -/
def PWM_CFG.EN : Fld := ⟨0x1E040, 32, 31, 31⟩
def PWM_CFG.POL_H : Fld := ⟨0x1E040, 32, 30, 30⟩
def PWM_CFG.POL_L : Fld := ⟨0x1E040, 32, 29, 29⟩
def PWM_CFG.DT : Fld := ⟨0x1E040, 32, 27, 21⟩
def PWM_CFG.MINP : Fld := ⟨0x1E040, 32, 20, 14⟩
def PWM_CFG.FREQ_KHZ : Fld := ⟨0x1E040, 32, 10, 0⟩

/-! PWM_DUTY: 16_housekeeping.md, offset 0x044 step 32, 8 of them -/
def PWM_DUTY.DUTY : Fld := ⟨0x1E044, 32, 31, 16⟩
def PWM_DUTY.MAX_DUTY : Fld := ⟨0x1E044, 32, 15, 0⟩

/-! PWM_SS: 16_housekeeping.md, offset 0x048 step 32, 8 of them -/
def PWM_SS.ILIM_N : Fld := ⟨0x1E048, 32, 31, 24⟩
def PWM_SS.BLANK : Fld := ⟨0x1E048, 32, 23, 16⟩
def PWM_SS.SS_US : Fld := ⟨0x1E048, 32, 15, 0⟩

/-! PWM_ILIM: 16_housekeeping.md, offset 0x04C step 32, 8 of them -/
def PWM_ILIM.HOLD_MS : Fld := ⟨0x1E04C, 32, 31, 16⟩
def PWM_ILIM.RETRY_LIMIT : Fld := ⟨0x1E04C, 32, 15, 8⟩
def PWM_ILIM.ILIM_POL : Fld := ⟨0x1E04C, 32, 0, 0⟩

/-! PWM_STAT: 16_housekeeping.md, offset 0x050 step 32, 8 of them -/
def PWM_STAT.STATE : Fld := ⟨0x1E050, 32, 31, 29⟩
def PWM_STAT.ILIM : Fld := ⟨0x1E050, 32, 28, 28⟩
def PWM_STAT.RETRIES : Fld := ⟨0x1E050, 32, 27, 20⟩
def PWM_STAT.H_NOW : Fld := ⟨0x1E050, 32, 15, 0⟩

/-! PWM_CNT: 16_housekeeping.md, offset 0x054 step 32, 8 of them -/
def PWM_CNT.LIMITED : Fld := ⟨0x1E054, 32, 31, 16⟩
def PWM_CNT.CLIPPED : Fld := ⟨0x1E054, 32, 15, 0⟩

/-! PWM_CMD: 16_housekeeping.md, offset 0x058 step 32, 8 of them -/
def PWM_CMD.CLEAR : Fld := ⟨0x1E058, 32, 31, 31⟩

/-! FAN_CFG: 16_housekeeping.md, offset 0x040 step 16, 8 of them -/
def FAN_CFG.EN : Fld := ⟨0x1F040, 16, 31, 31⟩
def FAN_CFG.DIR_EN : Fld := ⟨0x1F040, 16, 30, 30⟩
def FAN_CFG.DIR_POL : Fld := ⟨0x1F040, 16, 29, 29⟩
def FAN_CFG.PPR : Fld := ⟨0x1F040, 16, 28, 27⟩
def FAN_CFG.PWM : Fld := ⟨0x1F040, 16, 26, 24⟩
def FAN_CFG.PWM_LINK : Fld := ⟨0x1F040, 16, 23, 23⟩
def FAN_CFG.FILT_US : Fld := ⟨0x1F040, 16, 22, 16⟩
def FAN_CFG.MIN_RPM : Fld := ⟨0x1F040, 16, 15, 0⟩

/-! FAN_TIME: 16_housekeeping.md, offset 0x044 step 16, 8 of them -/
def FAN_TIME.STALL_MS : Fld := ⟨0x1F044, 16, 31, 16⟩
def FAN_TIME.FAIL_MS : Fld := ⟨0x1F044, 16, 15, 0⟩

/-! FAN_SPEED: 16_housekeeping.md, offset 0x048 step 16, 8 of them -/
def FAN_SPEED.STATE : Fld := ⟨0x1F048, 16, 31, 29⟩
def FAN_SPEED.DIR : Fld := ⟨0x1F048, 16, 28, 28⟩
def FAN_SPEED.FAILED : Fld := ⟨0x1F048, 16, 27, 27⟩
def FAN_SPEED.RPM : Fld := ⟨0x1F048, 16, 15, 0⟩

/-! FAN_CNT: 16_housekeeping.md, offset 0x04C step 16, 8 of them -/
def FAN_CNT.REVERSALS : Fld := ⟨0x1F04C, 16, 31, 16⟩
def FAN_CNT.DISCARDED : Fld := ⟨0x1F04C, 16, 15, 0⟩

/-! FAN_MAX: 16_housekeeping.md, offset 0x0C0 -/
def FAN_MAX.MAX_RPM : Fld := ⟨0x1F0C0, 0, 15, 0⟩

/-! THM_CFG: 16_housekeeping.md, offset 0x040 -/
def THM_CFG.WARN : Fld := ⟨0x20040, 0, 31, 16⟩
def THM_CFG.THROTTLE : Fld := ⟨0x20040, 0, 15, 0⟩

/-! THM_CFG2: 16_housekeeping.md, offset 0x044 -/
def THM_CFG2.SHUTDOWN : Fld := ⟨0x20044, 0, 31, 16⟩
def THM_CFG2.HYST : Fld := ⟨0x20044, 0, 15, 0⟩

/-! THM_CFG3: 16_housekeeping.md, offset 0x048 -/
def THM_CFG3.ORDERLY_MS : Fld := ⟨0x20048, 0, 31, 16⟩

/-! THM_STAT: 16_housekeeping.md, offset 0x04C -/
def THM_STAT.WARN : Fld := ⟨0x2004C, 0, 31, 31⟩
def THM_STAT.THROTTLE : Fld := ⟨0x2004C, 0, 30, 30⟩
def THM_STAT.SHUTDOWN : Fld := ⟨0x2004C, 0, 29, 29⟩
def THM_STAT.HARD : Fld := ⟨0x2004C, 0, 28, 28⟩
def THM_STAT.BAND : Fld := ⟨0x2004C, 0, 27, 25⟩
def THM_STAT.ORDERLY : Fld := ⟨0x2004C, 0, 24, 24⟩
def THM_STAT.HOTTEST : Fld := ⟨0x2004C, 0, 23, 20⟩
def THM_STAT.T_MAX : Fld := ⟨0x2004C, 0, 15, 0⟩

/-! THM_RATE: 16_housekeeping.md, offset 0x050 -/
def THM_RATE.RATE : Fld := ⟨0x20050, 0, 31, 16⟩
def THM_RATE.LOST : Fld := ⟨0x20050, 0, 15, 0⟩

/-! THM_T: 16_housekeeping.md, offset 0x080 step 4, 16 of them -/
def THM_T.VALID : Fld := ⟨0x20080, 4, 31, 31⟩
def THM_T.T : Fld := ⟨0x20080, 4, 15, 0⟩

/-! TWB_CFG: 17_two_wire.md, offset 0x040 -/
def TWB_CFG.EN : Fld := ⟨0x21040, 4096, 31, 31⟩
def TWB_CFG.SPEED : Fld := ⟨0x21040, 4096, 30, 29⟩
def TWB_CFG.ATTN_EN : Fld := ⟨0x21040, 4096, 28, 28⟩
def TWB_CFG.FILT : Fld := ⟨0x21040, 4096, 20, 16⟩
def TWB_CFG.TIMEOUT_MS : Fld := ⟨0x21040, 4096, 15, 8⟩
def TWB_CFG.ATTN_MAX_MS : Fld := ⟨0x21040, 4096, 7, 4⟩
def TWB_CFG.RETRY : Fld := ⟨0x21040, 4096, 3, 0⟩

/-! TWB_TXN: 17_two_wire.md, offset 0x044 (per initiator) -/
def TWB_TXN.PROT (n : Nat) : Fld := ⟨0x21044 + 0x1000 * n, Fld.unitStep, 31, 28⟩
def TWB_TXN.PEC (n : Nat) : Fld := ⟨0x21044 + 0x1000 * n, Fld.unitStep, 27, 27⟩
def TWB_TXN.ADDR (n : Nat) : Fld := ⟨0x21044 + 0x1000 * n, Fld.unitStep, 22, 16⟩
def TWB_TXN.CMD (n : Nat) : Fld := ⟨0x21044 + 0x1000 * n, Fld.unitStep, 15, 8⟩
def TWB_TXN.LEN (n : Nat) : Fld := ⟨0x21044 + 0x1000 * n, Fld.unitStep, 7, 0⟩

/-! TWB_GO: 17_two_wire.md, offset 0x048 -/
def TWB_GO.GO : Fld := ⟨0x21048, 4096, 31, 31⟩

/-! TWB_RES: 17_two_wire.md, offset 0x04C (per initiator) -/
def TWB_RES.DONE (n : Nat) : Fld := ⟨0x2104C + 0x1000 * n, Fld.unitStep, 31, 31⟩
def TWB_RES.PENDING (n : Nat) : Fld := ⟨0x2104C + 0x1000 * n, Fld.unitStep, 30, 30⟩
def TWB_RES.RESULT (n : Nat) : Fld := ⟨0x2104C + 0x1000 * n, Fld.unitStep, 29, 24⟩
def TWB_RES.COUNT (n : Nat) : Fld := ⟨0x2104C + 0x1000 * n, Fld.unitStep, 23, 16⟩
def TWB_RES.ATTEMPTS (n : Nat) : Fld := ⟨0x2104C + 0x1000 * n, Fld.unitStep, 15, 12⟩
def TWB_RES.DETAIL (n : Nat) : Fld := ⟨0x2104C + 0x1000 * n, Fld.unitStep, 7, 0⟩

/-! TWB_WDATA: 17_two_wire.md, offset 0x050 step 4, 16 of them (per initiator) -/
def TWB_WDATA.DATA (n i : Nat) : Fld := ⟨0x21050 + 0x1000 * n + 4 * i, Fld.unitStep, 31, 0⟩

/-! TWB_RDATA: 17_two_wire.md, offset 0x090 step 4, 16 of them (per initiator) -/
def TWB_RDATA.DATA (n i : Nat) : Fld := ⟨0x21090 + 0x1000 * n + 4 * i, Fld.unitStep, 31, 0⟩

/-! TWB_STAT: 17_two_wire.md, offset 0x0D0 -/
def TWB_STAT.STATE : Fld := ⟨0x210D0, 4096, 31, 29⟩

/-! TWB_ATTN: 17_two_wire.md, offset 0x0D4 -/
def TWB_ATTN.NONE : Fld := ⟨0x210D4, 4096, 31, 31⟩
def TWB_ATTN.ADDR : Fld := ⟨0x210D4, 4096, 6, 0⟩

/-! TWB_CNT: 17_two_wire.md, offset 0x0D8 -/
def TWB_CNT.ARB_LOST : Fld := ⟨0x210D8, 4096, 31, 16⟩
def TWB_CNT.TIMEOUTS : Fld := ⟨0x210D8, 4096, 15, 0⟩

/-! TWT_CFG: 17_two_wire.md, offset 0x040 -/
def TWT_CFG.EN : Fld := ⟨0x25040, 0, 31, 31⟩
def TWT_CFG.PEC_EN : Fld := ⟨0x25040, 0, 30, 30⟩
def TWT_CFG.ARA_EN : Fld := ⟨0x25040, 0, 29, 29⟩
def TWT_CFG.WAKE0 : Fld := ⟨0x25040, 0, 28, 28⟩
def TWT_CFG.WAKE1 : Fld := ⟨0x25040, 0, 27, 27⟩
def TWT_CFG.ADDR0 : Fld := ⟨0x25040, 0, 26, 20⟩
def TWT_CFG.ADDR1 : Fld := ⟨0x25040, 0, 19, 13⟩
def TWT_CFG.FILT : Fld := ⟨0x25040, 0, 12, 8⟩
def TWT_CFG.STRETCH_MS : Fld := ⟨0x25040, 0, 7, 0⟩

/-! TWT_RX: 17_two_wire.md, offset 0x044 -/
def TWT_RX.VALID : Fld := ⟨0x25044, 0, 31, 31⟩
def TWT_RX.START : Fld := ⟨0x25044, 0, 30, 30⟩
def TWT_RX.END : Fld := ⟨0x25044, 0, 29, 29⟩
def TWT_RX.PEC_BAD : Fld := ⟨0x25044, 0, 28, 28⟩
def TWT_RX.ADDR_SEL : Fld := ⟨0x25044, 0, 27, 27⟩
def TWT_RX.DATA : Fld := ⟨0x25044, 0, 7, 0⟩

/-! TWT_TX: 17_two_wire.md, offset 0x048 -/
def TWT_TX.LAST : Fld := ⟨0x25048, 0, 31, 31⟩
def TWT_TX.DATA : Fld := ⟨0x25048, 0, 7, 0⟩

/-! TWT_STAT: 17_two_wire.md, offset 0x04C -/
def TWT_STAT.RX_FILL : Fld := ⟨0x2504C, 0, 31, 25⟩
def TWT_STAT.TX_FILL : Fld := ⟨0x2504C, 0, 24, 18⟩
def TWT_STAT.STRETCHING : Fld := ⟨0x2504C, 0, 17, 17⟩
def TWT_STAT.STUCK : Fld := ⟨0x2504C, 0, 16, 16⟩

/-! TWT_CMD: 17_two_wire.md, offset 0x050 -/
def TWT_CMD.ATTN : Fld := ⟨0x25050, 0, 31, 31⟩
def TWT_CMD.FLUSH : Fld := ⟨0x25050, 0, 30, 30⟩
def TWT_CMD.ATTN_US : Fld := ⟨0x25050, 0, 15, 0⟩

/-! RST_CAUSE: 18_reset_boot.md, offset 0x040 -/
def RST_CAUSE.SRC : Fld := ⟨0x02040, 0, 15, 8⟩
def RST_CAUSE.CAUSE : Fld := ⟨0x02040, 0, 7, 0⟩

/-! RST_STAT: 18_reset_boot.md, offset 0x044 -/
def RST_STAT.STEP : Fld := ⟨0x02044, 0, 31, 28⟩
def RST_STAT.DONE : Fld := ⟨0x02044, 0, 27, 27⟩
def RST_STAT.WAIT_READY : Fld := ⟨0x02044, 0, 26, 26⟩
def RST_STAT.IMAGE_REFUSED : Fld := ⟨0x02044, 0, 25, 25⟩

/-! RST_CMD: 18_reset_boot.md, offset 0x048 -/
def RST_CMD.CHIP : Fld := ⟨0x02048, 0, 31, 31⟩
def RST_CMD.PAIR_A : Fld := ⟨0x02048, 0, 30, 30⟩
def RST_CMD.PAIR_B : Fld := ⟨0x02048, 0, 29, 29⟩
def RST_CMD.CONFIRM : Fld := ⟨0x02048, 0, 15, 0⟩

/-! RST_WDA: 18_reset_boot.md, offset 0x050 -/
def RST_WDA.EN : Fld := ⟨0x02050, 0, 31, 31⟩
def RST_WDA.EXPIRED : Fld := ⟨0x02050, 0, 30, 30⟩
def RST_WDA.WIN_MS : Fld := ⟨0x02050, 0, 29, 16⟩
def RST_WDA.PERIOD_MS : Fld := ⟨0x02050, 0, 15, 0⟩

/-! RST_WDB: 18_reset_boot.md, offset 0x054 -/
def RST_WDB.EN : Fld := ⟨0x02054, 0, 31, 31⟩
def RST_WDB.EXPIRED : Fld := ⟨0x02054, 0, 30, 30⟩
def RST_WDB.WIN_MS : Fld := ⟨0x02054, 0, 29, 16⟩
def RST_WDB.PERIOD_MS : Fld := ⟨0x02054, 0, 15, 0⟩

/-! RST_WDA_KICK: 18_reset_boot.md, offset 0x058 -/
def RST_WDA_KICK.KEY : Fld := ⟨0x02058, 0, 31, 0⟩

/-! RST_WDB_KICK: 18_reset_boot.md, offset 0x05C -/
def RST_WDB_KICK.KEY : Fld := ⟨0x0205C, 0, 31, 0⟩

/-! RST_BOOT: 18_reset_boot.md, offset 0x060 -/
def RST_BOOT.BOOT_TO_S : Fld := ⟨0x02060, 0, 31, 16⟩
def RST_BOOT.BOOT_FAILS : Fld := ⟨0x02060, 0, 1, 0⟩

/-! RST_AON: 18_reset_boot.md, offset 0x064 -/
def RST_AON.AON_WD_S : Fld := ⟨0x02064, 0, 31, 16⟩
def RST_AON.AON_WAKE_MS : Fld := ⟨0x02064, 0, 15, 0⟩

/-! RST_AON_KICK: 18_reset_boot.md, offset 0x068 -/
def RST_AON_KICK.KEY : Fld := ⟨0x02068, 0, 31, 0⟩

/-! RST_BLK: 18_reset_boot.md, offset 0x06C -/
def RST_BLK.COUNT : Fld := ⟨0x0206C, 0, 31, 16⟩
def RST_BLK.PAGE : Fld := ⟨0x0206C, 0, 5, 0⟩

/-! GPIO_OE0: 19_electrical.md, offset 0x040 -/
def GPIO_OE0.OE : Fld := ⟨0x26040, 0, 31, 0⟩

/-! GPIO_OE1: 19_electrical.md, offset 0x044 -/
def GPIO_OE1.OE : Fld := ⟨0x26044, 0, 15, 0⟩

/-! GPIO_OUT0: 19_electrical.md, offset 0x048 -/
def GPIO_OUT0.OUT : Fld := ⟨0x26048, 0, 31, 0⟩

/-! GPIO_OUT1: 19_electrical.md, offset 0x04C -/
def GPIO_OUT1.OUT : Fld := ⟨0x2604C, 0, 15, 0⟩

/-! GPIO_IN0: 19_electrical.md, offset 0x050 -/
def GPIO_IN0.IN : Fld := ⟨0x26050, 0, 31, 0⟩

/-! GPIO_IN1: 19_electrical.md, offset 0x054 -/
def GPIO_IN1.IN : Fld := ⟨0x26054, 0, 15, 0⟩

/-! GPIO_POL: 19_electrical.md, offset 0x058 -/
def GPIO_POL.LOW : Fld := ⟨0x26058, 0, 15, 0⟩

/-! GPIO_FILT: 19_electrical.md, offset 0x05C -/
def GPIO_FILT.FILT_US : Fld := ⟨0x2605C, 0, 7, 0⟩

/-! CHN_STREAM: 03_signal_path.md, offset 0x100 step 4, 64 of them -/
def CHN_STREAM.RATE : Fld := ⟨0x13100, 4, 31, 29⟩
def CHN_STREAM.LINK : Fld := ⟨0x13100, 4, 28, 27⟩
def CHN_STREAM.FC_KHZ : Fld := ⟨0x13100, 4, 23, 0⟩

/-! CHN_PATH_DLY_SMP: 03_signal_path.md, offset 0x480 step 4, 32 of them -/
def CHN_PATH_DLY_SMP.SMP : Fld := ⟨0x13480, 4, 15, 0⟩

/-! SAT_COUNT: 02_register_pages.md, offset 0x400 step 4096, 64 of them -/
def SAT_COUNT.COUNT : Fld := ⟨0x00400, 4096, 31, 0⟩

end Sys2Proof.Machine
end

