-- ==== Sys2Proof/Machine/RegTable.lean ====
section
/-!
DEFINITION. The register tables of the spec as data: for every register its offset, repetition and access masks (`regsOf`), the words
that do not reset to zero (`resetRowsOf`), and the ranges of the writable fields (`rangesOf`).
-/
namespace Sys2Proof.Machine

/-- The reset words that are not zero, by page: address of index 0, step, number, word (the Reset columns of the register tables). -/
def resetRowsOf (page : Nat) : List (Nat × Nat × Nat × Nat) :=
  match page with
  | 0 => [
      (0x40, 4, 1, 0x7240A000),
      (0x44, 4, 1, 0x10102020),
      (0x48, 4, 1, 0x10002008)]
  | 2 => [
      (0x2040, 4, 1, 0x1),
      (0x2044, 4, 1, 0x10000000),
      (0x2050, 4, 1, 0x800003E8),
      (0x2054, 4, 1, 0x800003E8),
      (0x2060, 4, 1, 0xA0000),
      (0x2064, 4, 1, 0x3C01F4)]
  | 4 => [
      (0x4040, 4, 1, 0x110C),
      (0x4048, 4, 1, 0x10)]
  | 5 => [
      (0x5044, 4, 1, 0x258)]
  | 7 => [
      (0x7420, 4, 1, 0x80000000)]
  | 8 => [
      (0x8054, 4, 1, 0x39A0010)]
  | 9 => [
      (0x9048, 4, 4, 0xFFFFFFFF),
      (0x9060, 4, 1, 0x100000)]
  | 10 => [
      (0xA040, 4, 1, 0x40000CE4),
      (0xA044, 4, 1, 0x17702328),
      (0xA048, 4, 1, 0x2EE000A0),
      (0xA04C, 4, 1, 0x27100000),
      (0xA054, 4, 1, 0xCE4),
      (0xA408, 4, 1, 0x9C4000A),
      (0xA40C, 4, 1, 0x140A01F4)]
  | 11 => [
      (0xB040, 4, 1, 0xFF),
      (0xB044, 4, 1, 0x5555),
      (0xB048, 4, 1, 0x1F400C8)]
  | 12 => [
      (0xC040, 4, 1, 0x2000200),
      (0xC044, 4, 1, 0x1020),
      (0xC084, 12, 10, 0x80000)]
  | 14 => [
      (0xE040, 4, 1, 0xB888)]
  | 15 => [
      (0xF040, 4, 1, 0x1000)]
  | 16 => [
      (0x10040, 4, 1, 0x6000000F),
      (0x10044, 4, 1, 0x6000000F),
      (0x10050, 4, 1, 0xFFFE),
      (0x10054, 4, 1, 0x640000),
      (0x10060, 4, 3, 0x3E8),
      (0x10100, 8, 16, 0x1F0000),
      (0x10198, 4, 1, 0x640064),
      (0x10200, 4, 1, 0x20180064),
      (0x10204, 4, 1, 0x3E80BB8)]
  | 17 => [
      (0x11040, 4, 1, 0x10000000),
      (0x11044, 4, 1, 0xA03E8),
      (0x11048, 4, 1, 0x12300303)]
  | 18 => [
      (0x120D0, 4, 1, 0x5000)]
  | 20 => [
      (0x14044, 4, 1, 0x64),
      (0x14048, 4, 4, 0x200000),
      (0x14058, 4, 4, 0xFFFFFFFF),
      (0x14068, 4, 1, 0x1F403E8),
      (0x1406C, 4, 1, 0xF8800A3C),
      (0x14070, 4, 1, 0x2800180),
      (0x14074, 4, 1, 0x780),
      (0x1407C, 4, 1, 0x7FFF7FFF),
      (0x14080, 4, 1, 0x7800000),
      (0x14084, 4, 1, 0x2),
      (0x14088, 4, 1, 0x7FFF7FFF),
      (0x140A0, 4, 1, 0xFFFFFFFF),
      (0x140A4, 4, 1, 0x1800500),
      (0x14300, 4, 16, 0x7FFF7FFF),
      (0x14408, 4, 1, 0x800),
      (0x1440C, 4, 1, 0x1F),
      (0x14410, 4, 1, 0x43),
      (0x14414, 4, 1, 0x1F),
      (0x14418, 4, 1, 0x1),
      (0x1441C, 4, 1, 0x18),
      (0x14420, 4, 1, 0xB),
      (0x14424, 4, 1, 0x80080)]
  | 21 => [
      (0x15084, 4, 1, 0x1),
      (0x15088, 4, 1, 0x1),
      (0x15100, 8, 32, 0x4000000),
      (0x15280, 8, 16, 0xE70000C0),
      (0x15284, 8, 16, 0x1C0000),
      (0x15408, 4, 1, 0x1)]
  | 22 => [
      (0x16044, 4, 1, 0x80FFC00),
      (0x1604C, 4, 1, 0x180100A)]
  | 23 => [
      (0x17044, 4, 1, 0xFF40),
      (0x17048, 4, 1, 0x3E8),
      (0x17408, 4, 1, 0xEE80)]
  | 24 => [
      (0x18040, 4, 1, 0x3000064),
      (0x18044, 4, 1, 0x14),
      (0x18048, 4, 1, 0xC000C8),
      (0x1804C, 4, 1, 0xFCC00064),
      (0x18050, 4, 1, 0x64003C),
      (0x18100, 4, 32, 0x80000000),
      (0x18200, 4, 17, 0x8500A258),
      (0x18300, 4, 32, 0xFE000000),
      (0x18380, 4, 16, 0x80008000),
      (0x18408, 4, 1, 0x6)]
  | 25 => [
      (0x19300, 4, 1, 0xF700FB00),
      (0x19304, 4, 1, 0x320010),
      (0x19048, 4, 1, 0xFF0000)]
  | 26 => [
      (0x1A044, 4, 1, 0x3000),
      (0x1A04C, 4, 1, 0x3E80064),
      (0x1A050, 4, 1, 0x641388),
      (0x1A06C, 4, 1, 0x80008000),
      (0x1A080, 4, 1, 0x1F403E8),
      (0x1A100, 8, 32, 0x7D07D0),
      (0x1A104, 8, 32, 0x5DC00000)]
  | 27 => [
      (0x1B04C, 4, 1, 0x1),
      (0x1B054, 4, 1, 0x8000),
      (0x1B058, 4, 1, 0x80008000),
      (0x1B05C, 4, 1, 0x8000),
      (0x1B064, 4, 1, 0x80008000),
      (0x1B080, 4, 1, 0x2800180),
      (0x1B084, 4, 1, 0x3800200),
      (0x1B088, 4, 1, 0xC00180),
      (0x1B08C, 4, 1, 0xA0003E8),
      (0x1B090, 4, 1, 0x30A03E8),
      (0x1B094, 4, 1, 0x1F4),
      (0x1B420, 4, 1, 0x64)]
  | 28 => [
      (0x1C040, 4, 8, 0x1F40508)]
  | 29 => [
      (0x1D048, 32, 2, 0x3E8),
      (0x1D058, 32, 2, 0x40000000),
      (0x1D05C, 32, 2, 0x9C4),
      (0x1D088, 4, 1, 0x3),
      (0x1D408, 16, 32, 0x40000000),
      (0x1D40C, 16, 32, 0x1E)]
  | 30 => [
      (0x1E040, 32, 8, 0x8101F4),
      (0x1E044, 32, 8, 0xF333),
      (0x1E048, 32, 8, 0x81003E8),
      (0x1E04C, 32, 8, 0x640300)]
  | 31 => [
      (0x1F040, 16, 8, 0x80A01F4),
      (0x1F044, 16, 8, 0x3E81388),
      (0x1F0C0, 4, 1, 0x7530)]
  | 32 => [
      (0x20040, 4, 1, 0x19001B80),
      (0x20044, 4, 1, 0x1F400140),
      (0x20048, 4, 1, 0x140000),
      (0x2004C, 4, 1, 0x4008000),
      (0x20080, 4, 16, 0x8000)]
  | 33 => [
      (0x21040, 4, 1, 0x100A1E52),
      (0x21044, 4, 1, 0x1)]
  | 37 => [
      (0x25040, 4, 1, 0x58B2314),
      (0x25050, 4, 1, 0x64)]
  | 38 => [
      (0x2605C, 4, 1, 0xA)]
  | 48 => [
      (0x30040, 4, 1, 0x103F0000),
      (0x30408, 4, 1, 0x8103000)]
  | _ => []

/-- The registers of a page after the header: offset, step, number, how the unit is found, the RW, RW1C and WO masks, and whether PAGE_CRC counts the word (rule R517). -/
def regsOf (page : Nat) : List RegD :=
  match page with
  | 0 => [
      ⟨0x40, 4, 1, .plain, 0x0, 0x0, 0x0, false⟩,
      ⟨0x44, 4, 1, .plain, 0x0, 0x0, 0x0, false⟩,
      ⟨0x48, 4, 1, .plain, 0x0, 0x0, 0x0, false⟩]
  | 1 => [
      ⟨0x40, 4, 1, .plain, 0x0, 0x0, 0x0, false⟩,
      ⟨0x44, 4, 1, .init, 0x0, 0x0, 0x0, false⟩,
      ⟨0x48, 4, 1, .plain, 0x0, 0x4, 0x1, false⟩,
      ⟨0x4C, 4, 1, .plain, 0x0, 0x0, 0x0, false⟩,
      ⟨0x50, 4, 1, .plain, 0x0, 0x0, 0x0, false⟩,
      ⟨0x54, 4, 1, .plain, 0x0, 0x0, 0x0, false⟩,
      ⟨0x58, 4, 1, .plain, 0x0, 0x0, 0x0, false⟩,
      ⟨0x5C, 4, 1, .plain, 0x0, 0x0, 0x0, false⟩,
      ⟨0x60, 4, 1, .plain, 0x0, 0x0, 0x0, false⟩,
      ⟨0x64, 4, 1, .plain, 0x0, 0x0, 0x0, false⟩,
      ⟨0x68, 4, 1, .plain, 0x0, 0x0, 0x0, false⟩,
      ⟨0x6C, 4, 1, .plain, 0x0, 0xFFFFFFFF, 0x0, false⟩,
      ⟨0x70, 4, 1, .plain, 0x0, 0x7FFF, 0x0, false⟩]
  | 2 => [
      ⟨0x40, 4, 1, .plain, 0x0, 0x0, 0x0, false⟩,
      ⟨0x44, 4, 1, .plain, 0x0, 0x0, 0x0, false⟩,
      ⟨0x48, 4, 1, .plain, 0x0, 0x0, 0xE000FFFF, false⟩,
      ⟨0x50, 4, 1, .plain, 0xBFFFFFFF, 0x0, 0x0, true⟩,
      ⟨0x54, 4, 1, .plain, 0xBFFFFFFF, 0x0, 0x0, true⟩,
      ⟨0x58, 4, 1, .plain, 0x0, 0x0, 0xFFFFFFFF, false⟩,
      ⟨0x5C, 4, 1, .plain, 0x0, 0x0, 0xFFFFFFFF, false⟩,
      ⟨0x60, 4, 1, .plain, 0xFFFF0000, 0x0, 0x0, true⟩,
      ⟨0x64, 4, 1, .plain, 0xFFFFFFFF, 0x0, 0x0, true⟩,
      ⟨0x68, 4, 1, .plain, 0x0, 0x0, 0xFFFFFFFF, false⟩,
      ⟨0x6C, 4, 1, .plain, 0x0, 0x0, 0x0, false⟩]
  | 3 => [
      ⟨0x40, 4, 1, .plain, 0x70000003, 0x0, 0x80000000, true⟩,
      ⟨0x44, 4, 1, .plain, 0x0, 0x0, 0x0, false⟩,
      ⟨0x48, 4, 1, .plain, 0x3FF, 0x0, 0x0, true⟩,
      ⟨0x4C, 4, 1, .plain, 0xFFFFFFFF, 0x0, 0x0, true⟩,
      ⟨0x50, 4, 1, .plain, 0x0, 0x0, 0x0, false⟩]
  | 4 => [
      ⟨0x40, 4, 1, .plain, 0x0, 0x0, 0x0, false⟩,
      ⟨0x44, 4, 1, .plain, 0x7FFFF, 0x0, 0x80000000, true⟩,
      ⟨0x48, 4, 1, .plain, 0x1F, 0x0, 0x0, true⟩,
      ⟨0x50, 4, 1, .init, 0x1F, 0x0, 0x0, false⟩,
      ⟨0x54, 4, 10, .plain, 0x0, 0x0, 0xFFFFFFFF, false⟩,
      ⟨0x7C, 4, 1, .plain, 0x0, 0x0, 0xE0000000, false⟩,
      ⟨0x80, 4, 1, .plain, 0x0, 0x0, 0x0, false⟩,
      ⟨0x90, 4, 1, .init, 0x7, 0x0, 0x0, false⟩,
      ⟨0x94, 4, 1, .plain, 0x0, 0x0, 0x0, false⟩,
      ⟨0xA0, 4, 24, .plain, 0xFFFFFFFF, 0x0, 0x0, false⟩,
      ⟨0x100, 4, 1, .plain, 0x0, 0x0, 0xC000000F, false⟩,
      ⟨0x104, 4, 1, .plain, 0x0, 0x0, 0x80000000, false⟩,
      ⟨0x108, 4, 1, .plain, 0x0, 0x0, 0x0, false⟩]
  | 5 => [
      ⟨0x40, 4, 1, .plain, 0x0, 0x0, 0x0, false⟩,
      ⟨0x44, 4, 1, .plain, 0xFFFF, 0x0, 0x0, true⟩,
      ⟨0x50, 4, 8, .plain, 0x0, 0x0, 0x0, false⟩,
      ⟨0x70, 4, 1, .plain, 0x0, 0x0, 0x80000000, false⟩]
  | 6 => [
      ⟨0x40, 4, 1, .plain, 0xC000000F, 0x0, 0x0, true⟩,
      ⟨0x44, 4, 1, .plain, 0x0, 0x0, 0x0, false⟩,
      ⟨0x48, 4, 1, .plain, 0xFFFF, 0x0, 0x0, false⟩,
      ⟨0x4C, 4, 1, .plain, 0x0, 0x0, 0x0, false⟩,
      ⟨0x50, 4, 1, .plain, 0x0, 0x0, 0x0, false⟩]
  | 7 => [
      ⟨0x40, 4, 1, .plain, 0x0, 0x0, 0x0, false⟩,
      ⟨0x44, 4, 1, .plain, 0x0, 0x0, 0x80000000, false⟩,
      ⟨0x48, 4, 1, .init, 0xFF, 0x0, 0x0, false⟩,
      ⟨0x4C, 4, 1, .selected, 0xFF003FFF, 0x0, 0x0, true⟩,
      ⟨0x50, 4, 1, .selected, 0xFE00FFFF, 0x0, 0x0, true⟩,
      ⟨0x54, 4, 1, .selected, 0x0, 0x0, 0x0, false⟩,
      ⟨0x58, 4, 1, .plain, 0x0, 0x0, 0x800000FF, false⟩,
      ⟨0x5C, 4, 1, .plain, 0x0, 0x0, 0x0, false⟩,
      ⟨0x60, 4, 1, .plain, 0x0, 0x0, 0x80000000, false⟩,
      ⟨0x64, 4, 1, .plain, 0x0, 0x0, 0x0, false⟩,
      ⟨0x68, 4, 1, .plain, 0x0, 0x0, 0x0, false⟩,
      ⟨0x6C, 4, 1, .plain, 0x0, 0x0, 0x0, false⟩,
      ⟨0x80, 4, 5, .plain, 0x0, 0xFFFFFFFF, 0x0, false⟩,
      ⟨0xA0, 4, 5, .plain, 0x0, 0x0, 0x0, false⟩,
      ⟨0xC0, 4, 5, .plain, 0x0, 0x0, 0x0, false⟩,
      ⟨0xE0, 4, 4, .plain, 0x0, 0xFFFFFFFF, 0x0, false⟩,
      ⟨0xF0, 4, 4, .plain, 0xFFFFFFFF, 0x0, 0x0, true⟩,
      ⟨0x408, 4, 5, .plain, 0x0, 0x0, 0xFFFFFFFF, false⟩,
      ⟨0x420, 4, 1, .plain, 0x800000FF, 0x0, 0x40000000, true⟩]
  | 8 => [
      ⟨0x40, 4, 1, .plain, 0x0, 0x0, 0x0, false⟩,
      ⟨0x44, 4, 1, .plain, 0x0, 0x0, 0x0, false⟩,
      ⟨0x48, 4, 1, .plain, 0x0, 0x0, 0x0, false⟩,
      ⟨0x4C, 4, 1, .plain, 0x0, 0x0, 0x0, false⟩,
      ⟨0x50, 4, 1, .plain, 0x0, 0x0, 0x0, false⟩,
      ⟨0x54, 4, 1, .plain, 0x7FF001F, 0x0, 0x0, true⟩,
      ⟨0x58, 4, 1, .plain, 0x0, 0x0, 0x80000000, false⟩,
      ⟨0x60, 4, 1, .plain, 0xFFFFFFFF, 0x0, 0x0, false⟩,
      ⟨0x64, 4, 8, .plain, 0x0, 0x0, 0x0, false⟩,
      ⟨0x408, 4, 1, .plain, 0x0, 0x0, 0x8000FFFF, false⟩]
  | 9 => [
      ⟨0x40, 4, 1, .plain, 0x0, 0x0, 0x0, false⟩,
      ⟨0x44, 4, 1, .plain, 0xFFFFF0, 0x0, 0x0, false⟩,
      ⟨0x48, 4, 4, .plain, 0xFFFFFFFF, 0x0, 0x0, false⟩,
      ⟨0x58, 4, 1, .plain, 0x0, 0x0, 0xC0000000, false⟩,
      ⟨0x5C, 4, 1, .plain, 0x0, 0x0, 0x0, false⟩,
      ⟨0x60, 4, 1, .plain, 0x0, 0x0, 0x0, false⟩,
      ⟨0x64, 4, 1, .plain, 0x0, 0x0, 0x0, false⟩,
      ⟨0x68, 4, 1, .plain, 0x0, 0x0, 0x60000000, false⟩]
  | 10 => [
      ⟨0x40, 4, 1, .plain, 0xC000FFFF, 0x0, 0x0, true⟩,
      ⟨0x44, 4, 1, .plain, 0xFFFFFFFF, 0x0, 0x0, true⟩,
      ⟨0x48, 4, 1, .plain, 0xFFFFFFFF, 0x0, 0x0, true⟩,
      ⟨0x4C, 4, 1, .plain, 0xFFFF0000, 0x0, 0x0, true⟩,
      ⟨0x50, 4, 1, .plain, 0x0, 0x0, 0x0, false⟩,
      ⟨0x54, 4, 1, .plain, 0x0, 0x0, 0x0, false⟩,
      ⟨0x58, 4, 1, .plain, 0x0, 0x0, 0x0, false⟩,
      ⟨0x5C, 4, 1, .plain, 0x0, 0x0, 0x0, false⟩,
      ⟨0x60, 4, 1, .plain, 0x0, 0x0, 0x0, false⟩,
      ⟨0x64, 4, 1, .plain, 0x0, 0x0, 0x0, false⟩,
      ⟨0x408, 4, 1, .plain, 0xFFFFFFFF, 0x0, 0x0, true⟩,
      ⟨0x40C, 4, 1, .plain, 0xFFFFFFFF, 0x0, 0x0, true⟩]
  | 11 => [
      ⟨0x40, 4, 1, .plain, 0xFF, 0x0, 0x0, true⟩,
      ⟨0x44, 4, 1, .plain, 0x0, 0x0, 0x0, false⟩,
      ⟨0x48, 4, 1, .plain, 0xFFFFFFFF, 0x0, 0x0, true⟩,
      ⟨0x4C, 4, 1, .plain, 0xFFFF0000, 0x0, 0x0, true⟩,
      ⟨0x50, 4, 1, .plain, 0x0, 0x0, 0x0, false⟩,
      ⟨0x54, 4, 1, .plain, 0x0, 0x0, 0x0, false⟩,
      ⟨0x58, 4, 1, .plain, 0x0, 0x0, 0x0, false⟩,
      ⟨0x5C, 4, 1, .plain, 0x0, 0x0, 0x0, false⟩,
      ⟨0x60, 4, 1, .plain, 0x0, 0x0, 0x0, false⟩,
      ⟨0x64, 4, 1, .plain, 0x0, 0x0, 0x0, false⟩,
      ⟨0x80, 4, 19, .plain, 0xC0000000, 0x0, 0x0, true⟩]
  | 12 => [
      ⟨0x40, 4, 1, .plain, 0x0, 0x0, 0x0, false⟩,
      ⟨0x44, 4, 1, .plain, 0x7FFF, 0x0, 0x0, true⟩,
      ⟨0x80, 12, 10, .plain, 0xFFFFF000, 0x0, 0x0, true⟩,
      ⟨0x84, 12, 10, .plain, 0xFFFE0000, 0x0, 0x0, true⟩,
      ⟨0x88, 12, 10, .plain, 0x0, 0x0, 0x0, false⟩]
  | 13 => [
      ⟨0x40, 4, 1, .plain, 0x0, 0x0, 0x0, false⟩,
      ⟨0x80, 16, 3, .plain, 0x80000000, 0x0, 0x0, true⟩,
      ⟨0x84, 16, 3, .plain, 0x3F, 0x0, 0x0, false⟩,
      ⟨0x88, 16, 3, .plain, 0x0, 0x0, 0x0, false⟩,
      ⟨0x8C, 16, 3, .plain, 0x3F, 0x0, 0x0, false⟩]
  | 14 => [
      ⟨0x40, 4, 1, .plain, 0xCFFFFFFF, 0x0, 0x0, true⟩,
      ⟨0x44, 4, 1, .plain, 0x0, 0x0, 0x0, false⟩,
      ⟨0x48, 4, 1, .plain, 0x0, 0x0, 0x0, false⟩,
      ⟨0x4C, 4, 1, .plain, 0x0, 0x0, 0x0, false⟩,
      ⟨0x50, 4, 4, .plain, 0xFFFFFFFF, 0x0, 0x0, true⟩]
  | 15 => [
      ⟨0x40, 4, 1, .plain, 0x0, 0x0, 0x0, false⟩,
      ⟨0x44, 4, 1, .init, 0xF, 0x0, 0x0, false⟩,
      ⟨0x48, 4, 1, .selected, 0x0, 0x0, 0x0, false⟩,
      ⟨0x4C, 4, 1, .selected, 0x0, 0x0, 0x0, false⟩,
      ⟨0x50, 4, 1, .selected, 0x0, 0x0, 0x0, false⟩,
      ⟨0x54, 4, 1, .selected, 0x0, 0x0, 0x0, false⟩,
      ⟨0x58, 4, 1, .selected, 0x0, 0x0, 0x0, false⟩,
      ⟨0x5C, 4, 1, .selected, 0x0, 0x0, 0x80000000, false⟩]
  | 16 => [
      ⟨0x40, 4, 1, .plain, 0xE000000F, 0x0, 0x0, true⟩,
      ⟨0x44, 4, 1, .plain, 0xE000000F, 0x0, 0x0, true⟩,
      ⟨0x48, 4, 1, .plain, 0x0, 0x0, 0x0, false⟩,
      ⟨0x4C, 4, 1, .plain, 0x0, 0x0, 0x0, false⟩,
      ⟨0x50, 4, 1, .plain, 0xFFFF, 0x0, 0x0, true⟩,
      ⟨0x54, 4, 1, .plain, 0xFFFF0000, 0x0, 0x0, true⟩,
      ⟨0x60, 4, 3, .plain, 0xC00007FF, 0x0, 0x0, true⟩,
      ⟨0x100, 8, 16, .plain, 0xFF1FFFFF, 0x0, 0x0, true⟩,
      ⟨0x104, 8, 16, .plain, 0x0, 0x0, 0x0, false⟩,
      ⟨0x180, 4, 1, .plain, 0xC0FFFFFF, 0x0, 0x0, true⟩,
      ⟨0x184, 4, 1, .plain, 0xFFFF, 0x0, 0x0, true⟩,
      ⟨0x188, 4, 1, .plain, 0xFFFFFFFF, 0x0, 0x0, true⟩,
      ⟨0x18C, 4, 1, .plain, 0x0, 0x0, 0x0, false⟩,
      ⟨0x190, 4, 1, .plain, 0x0, 0x0, 0x0, false⟩,
      ⟨0x194, 4, 1, .plain, 0x0, 0x0, 0x0, false⟩,
      ⟨0x198, 4, 1, .plain, 0xFFFFFFFF, 0x0, 0x0, true⟩,
      ⟨0x1A0, 4, 1, .plain, 0x0, 0x0, 0x0, false⟩,
      ⟨0x1A4, 4, 1, .plain, 0x0, 0x0, 0x0, false⟩,
      ⟨0x1A8, 4, 1, .plain, 0x0, 0x0, 0x0, false⟩,
      ⟨0x200, 4, 1, .plain, 0xE0FFFFFF, 0x0, 0x0, true⟩,
      ⟨0x204, 4, 1, .plain, 0xFFFFFFFF, 0x0, 0x0, true⟩,
      ⟨0x208, 4, 1, .plain, 0x0, 0x0, 0x0, false⟩,
      ⟨0x20C, 4, 1, .plain, 0x0, 0x0, 0x0, false⟩,
      ⟨0x210, 4, 1, .plain, 0x0, 0x0, 0x0, false⟩,
      ⟨0x214, 4, 1, .plain, 0xFFFFFFFF, 0x0, 0x0, true⟩,
      ⟨0x218, 4, 1, .plain, 0x0, 0x0, 0xFFFFFFFF, false⟩,
      ⟨0x21C, 4, 1, .plain, 0x0, 0x0, 0x0, false⟩,
      ⟨0x220, 4, 1, .plain, 0x0, 0x0, 0x0, false⟩,
      ⟨0x224, 4, 1, .plain, 0x0, 0x0, 0x0, false⟩,
      ⟨0x228, 4, 1, .plain, 0x0, 0x0, 0x0, false⟩]
  | 17 => [
      ⟨0x40, 4, 1, .plain, 0xF0000000, 0x0, 0x0, true⟩,
      ⟨0x44, 4, 1, .plain, 0xC0FFFFFF, 0x0, 0x0, true⟩,
      ⟨0x48, 4, 1, .plain, 0xFFF0FFFF, 0x0, 0x0, true⟩,
      ⟨0x4C, 4, 1, .plain, 0x0, 0x0, 0x0, false⟩,
      ⟨0x50, 4, 1, .plain, 0x0, 0x0, 0x0, false⟩,
      ⟨0x54, 4, 1, .plain, 0x0, 0x0, 0x0, false⟩,
      ⟨0x58, 4, 1, .plain, 0x0, 0x0, 0x0, false⟩,
      ⟨0x5C, 4, 1, .plain, 0x0, 0x0, 0x0, false⟩,
      ⟨0x60, 4, 1, .plain, 0x0, 0x0, 0x0, false⟩,
      ⟨0x64, 4, 1, .plain, 0x0, 0x0, 0x0, false⟩,
      ⟨0x68, 4, 1, .plain, 0x0, 0x0, 0x0, false⟩]
  | 18 => [
      ⟨0x40, 4, 1, .plain, 0x0, 0x0, 0x0, false⟩,
      ⟨0x44, 4, 1, .plain, 0x0, 0x0, 0x0, false⟩,
      ⟨0x48, 4, 1, .plain, 0x0, 0x0, 0x0, false⟩,
      ⟨0x4C, 4, 1, .plain, 0x0, 0x0, 0x0, false⟩,
      ⟨0x50, 4, 1, .plain, 0x0, 0x0, 0x0, false⟩,
      ⟨0x60, 4, 1, .plain, 0x2007FFFF, 0x0, 0xC0000000, true⟩,
      ⟨0x64, 4, 1, .plain, 0x3FFFF, 0x0, 0x0, false⟩,
      ⟨0x68, 4, 1, .plain, 0x0, 0x0, 0xFFFFFFFF, false⟩,
      ⟨0x70, 4, 8, .plain, 0x0, 0x0, 0x0, false⟩,
      ⟨0x90, 4, 1, .plain, 0x3F000000, 0x0, 0xC0000000, true⟩,
      ⟨0x94, 4, 1, .plain, 0xFFFFFFFF, 0x0, 0x0, true⟩,
      ⟨0x98, 4, 1, .plain, 0x0, 0x0, 0x0, false⟩,
      ⟨0x9C, 4, 1, .plain, 0x0, 0x0, 0x0, false⟩,
      ⟨0xA0, 4, 1, .plain, 0x0, 0x0, 0x0, false⟩,
      ⟨0xA4, 4, 1, .plain, 0x0, 0x0, 0x0, false⟩,
      ⟨0xA8, 4, 1, .plain, 0x0, 0x0, 0x0, false⟩,
      ⟨0xAC, 4, 1, .plain, 0x0, 0x0, 0x0, false⟩,
      ⟨0xB0, 4, 1, .plain, 0x0, 0x0, 0x0, false⟩,
      ⟨0xC0, 4, 1, .plain, 0x0, 0x0, 0x0, false⟩,
      ⟨0xC4, 4, 1, .plain, 0x0, 0x0, 0x0, false⟩,
      ⟨0xC8, 4, 1, .plain, 0x0, 0x0, 0x0, false⟩,
      ⟨0xCC, 4, 1, .plain, 0x0, 0x0, 0x0, false⟩,
      ⟨0xD0, 4, 1, .plain, 0x0, 0x0, 0x0, false⟩,
      ⟨0xD4, 4, 1, .plain, 0x0, 0x0, 0x0, false⟩,
      ⟨0xD8, 4, 1, .plain, 0x0, 0x0, 0x0, false⟩]
  | 19 => [
      ⟨0x200, 16, 32, .plain, 0xF01FFFFF, 0x0, 0x0, true⟩,
      ⟨0x204, 16, 32, .plain, 0xFFFF, 0x0, 0x0, true⟩,
      ⟨0x208, 16, 32, .plain, 0x0, 0x0, 0x0, false⟩,
      ⟨0x40, 4, 1, .init, 0x1F0F, 0x0, 0x0, false⟩,
      ⟨0x44, 4, 1, .selected, 0xE0FFFFFF, 0x0, 0x0, true⟩,
      ⟨0x48, 4, 1, .selected, 0xFFFFFF, 0x0, 0x0, true⟩,
      ⟨0x4C, 4, 1, .plain, 0x0, 0x0, 0x0, false⟩,
      ⟨0x100, 4, 64, .plain, 0xF8FFFFFF, 0x0, 0x0, true⟩,
      ⟨0x480, 4, 32, .plain, 0xFFFF, 0x0, 0x0, true⟩]
  | 20 => [
      ⟨0x40, 4, 1, .init, 0x3F001F, 0x0, 0x0, false⟩,
      ⟨0x44, 4, 1, .selected, 0xE000FFFF, 0x0, 0xC000000, true⟩,
      ⟨0x48, 4, 4, .selected, 0x803F0000, 0x0, 0x0, true⟩,
      ⟨0x58, 4, 4, .selected, 0xFFFFFFFF, 0x0, 0x0, true⟩,
      ⟨0x68, 4, 1, .selected, 0xFFFFFFFF, 0x0, 0x0, true⟩,
      ⟨0x6C, 4, 1, .selected, 0xFFFFFFFF, 0x0, 0x0, true⟩,
      ⟨0x70, 4, 1, .selected, 0xFFFFFFFF, 0x0, 0x0, true⟩,
      ⟨0x74, 4, 1, .selected, 0xFFFF, 0x0, 0x0, true⟩,
      ⟨0x78, 4, 1, .selected, 0x0, 0x0, 0x0, false⟩,
      ⟨0x7C, 4, 1, .selected, 0x0, 0x0, 0x0, false⟩,
      ⟨0x80, 4, 1, .selected, 0x0, 0x0, 0x0, false⟩,
      ⟨0x84, 4, 1, .selected, 0x0, 0x0, 0x0, false⟩,
      ⟨0x88, 4, 1, .selected, 0x0, 0x0, 0x0, false⟩,
      ⟨0xA0, 4, 1, .plain, 0xFFFFFFFF, 0x0, 0x0, true⟩,
      ⟨0xA4, 4, 1, .plain, 0xFFFFFFFF, 0x0, 0x0, true⟩,
      ⟨0xA8, 4, 1, .plain, 0x0, 0x0, 0x0, false⟩,
      ⟨0xAC, 4, 1, .plain, 0x0, 0x0, 0x0, false⟩,
      ⟨0xC0, 4, 16, .plain, 0xFFFFFFFF, 0x0, 0x0, true⟩,
      ⟨0x300, 4, 16, .plain, 0x0, 0x0, 0x0, false⟩,
      ⟨0x408, 4, 1, .selected, 0xFFFFFFFF, 0x0, 0x0, true⟩,
      ⟨0x40C, 4, 1, .selected, 0x1F, 0x0, 0x0, true⟩,
      ⟨0x410, 4, 1, .selected, 0xFFFFFFFF, 0x0, 0x0, true⟩,
      ⟨0x414, 4, 1, .selected, 0x1F, 0x0, 0x0, true⟩,
      ⟨0x418, 4, 1, .selected, 0xFFFFFFFF, 0x0, 0x0, true⟩,
      ⟨0x41C, 4, 1, .selected, 0x1F, 0x0, 0x0, true⟩,
      ⟨0x420, 4, 1, .selected, 0x1F, 0x0, 0x0, true⟩,
      ⟨0x424, 4, 1, .plain, 0xFFFFF, 0x0, 0x0, true⟩,
      ⟨0x440, 4, 1, .init, 0x3F0303, 0x0, 0x0, false⟩,
      ⟨0x444, 4, 1, .selected, 0x8FFF007F, 0x0, 0x0, true⟩,
      ⟨0x448, 4, 1, .init, 0x3F, 0x0, 0x0, false⟩,
      ⟨0x44C, 4, 1, .plain, 0xFFFFF, 0x0, 0x0, false⟩,
      ⟨0x450, 4, 1, .plain, 0xFFFFF, 0x0, 0x0, false⟩]
  | 21 => [
      ⟨0x60, 4, 4, .plain, 0x3FFF, 0x0, 0x0, true⟩,
      ⟨0x70, 4, 4, .plain, 0x0, 0x0, 0x0, false⟩,
      ⟨0x80, 4, 1, .init, 0xFFFFFDFF, 0x0, 0x0, false⟩,
      ⟨0x84, 4, 1, .init, 0xFFF0FFF, 0x0, 0x0, false⟩,
      ⟨0x88, 4, 1, .init, 0x1FF, 0x0, 0x0, false⟩,
      ⟨0x8C, 4, 1, .init, 0x0, 0x80000000, 0x0, false⟩,
      ⟨0xA0, 4, 1, .init, 0x1F1FF1FF, 0x0, 0x0, false⟩,
      ⟨0xA4, 4, 1, .plain, 0x0, 0x0, 0x0, false⟩,
      ⟨0xA8, 4, 1, .plain, 0x0, 0x0, 0x0, false⟩,
      ⟨0xB0, 4, 1, .plain, 0x0, 0x0, 0x0, false⟩,
      ⟨0x100, 8, 32, .plain, 0xFFF0FFFF, 0x0, 0x0, true⟩,
      ⟨0x104, 8, 32, .plain, 0x0, 0x0, 0x0, false⟩,
      ⟨0x200, 4, 32, .plain, 0xFFF00000, 0x0, 0x0, true⟩,
      ⟨0x280, 8, 16, .plain, 0xFFFFFFFF, 0x0, 0x0, true⟩,
      ⟨0x284, 8, 16, .plain, 0x1FFF000, 0x0, 0x0, true⟩,
      ⟨0x408, 4, 1, .plain, 0x3, 0x0, 0x0, true⟩]
  | 22 => [
      ⟨0x40, 4, 1, .init, 0x1F, 0x0, 0x0, false⟩,
      ⟨0x44, 4, 1, .selected, 0xFCFFFC00, 0x0, 0x0, true⟩,
      ⟨0x48, 4, 1, .selected, 0xFFFFFF, 0x0, 0x0, true⟩,
      ⟨0x4C, 4, 1, .selected, 0xFFFFFFFF, 0x0, 0x0, true⟩,
      ⟨0x50, 4, 1, .selected, 0x0, 0x0, 0x0, false⟩,
      ⟨0x54, 4, 1, .selected, 0x0, 0x0, 0x0, false⟩,
      ⟨0x60, 4, 1, .selected, 0xFFFFFFFE, 0x0, 0x0, false⟩,
      ⟨0x64, 4, 1, .selected, 0xFFFFFFFE, 0x0, 0x0, false⟩,
      ⟨0x68, 4, 1, .selected, 0x0, 0x0, 0x80000000, false⟩]
  | 23 => [
      ⟨0x40, 4, 1, .plain, 0x0, 0x0, 0x0, false⟩,
      ⟨0x44, 4, 1, .plain, 0xFFFF, 0x0, 0x0, true⟩,
      ⟨0x48, 4, 1, .plain, 0xFFFF, 0x0, 0x0, true⟩,
      ⟨0x4C, 4, 1, .plain, 0x0, 0x0, 0x0, false⟩,
      ⟨0x50, 4, 1, .plain, 0x0, 0x0, 0x0, false⟩,
      ⟨0x60, 4, 16, .plain, 0x0, 0x0, 0x0, false⟩,
      ⟨0xC0, 4, 1, .init, 0xF, 0x0, 0x0, false⟩,
      ⟨0xC4, 4, 1, .selected, 0xFFFF0FFF, 0x0, 0x0, true⟩,
      ⟨0xC8, 4, 1, .selected, 0xFF00FFFF, 0x0, 0x0, true⟩,
      ⟨0xCC, 4, 1, .selected, 0xF1FFF, 0x0, 0x0, true⟩,
      ⟨0xD0, 4, 1, .selected, 0x0, 0x0, 0x0, false⟩,
      ⟨0xD4, 4, 1, .selected, 0x0, 0x0, 0x0, false⟩,
      ⟨0xD8, 4, 1, .selected, 0x0, 0x0, 0x0, false⟩,
      ⟨0xDC, 4, 1, .plain, 0x0, 0x0, 0xE000FFFF, false⟩,
      ⟨0xE0, 4, 1, .selected, 0x1FFF, 0x0, 0x0, false⟩,
      ⟨0xE4, 4, 1, .selected, 0x0, 0x0, 0x0, false⟩,
      ⟨0xE8, 4, 1, .plain, 0x0, 0x0, 0x0, false⟩,
      ⟨0xEC, 4, 1, .plain, 0xFFFFFFFF, 0x0, 0x0, true⟩,
      ⟨0xF0, 4, 1, .plain, 0xFFFFFFFF, 0x0, 0x0, true⟩,
      ⟨0x408, 4, 1, .plain, 0xFFFF, 0x0, 0x0, true⟩]
  | 24 => [
      ⟨0x40, 4, 1, .plain, 0xFF00FFFF, 0x0, 0x0, true⟩,
      ⟨0x44, 4, 1, .plain, 0xFFFF, 0x0, 0x0, true⟩,
      ⟨0x48, 4, 1, .plain, 0xFFFFFFFF, 0x0, 0x0, true⟩,
      ⟨0x4C, 4, 1, .plain, 0xFFFFFFFF, 0x0, 0x0, true⟩,
      ⟨0x50, 4, 1, .plain, 0xFFFFFFFF, 0x0, 0x0, true⟩,
      ⟨0x54, 4, 1, .plain, 0x1F, 0x0, 0xC0000000, true⟩,
      ⟨0x58, 4, 1, .plain, 0x0, 0x0, 0x0, false⟩,
      ⟨0x5C, 4, 1, .init, 0xF, 0x0, 0x0, false⟩,
      ⟨0x60, 4, 1, .selected, 0x0, 0x0, 0x0, false⟩,
      ⟨0x64, 4, 1, .selected, 0x0, 0x0, 0x0, false⟩,
      ⟨0x68, 4, 1, .selected, 0x0, 0x0, 0x0, false⟩,
      ⟨0x6C, 4, 1, .selected, 0x0, 0x0, 0x0, false⟩,
      ⟨0x70, 4, 1, .selected, 0x0, 0x0, 0x0, false⟩,
      ⟨0x74, 4, 1, .selected, 0x0, 0x0, 0x0, false⟩,
      ⟨0x78, 4, 1, .plain, 0x0, 0x0, 0x80000000, false⟩,
      ⟨0x100, 4, 32, .plain, 0xFFFF, 0x0, 0x0, true⟩,
      ⟨0x200, 4, 17, .plain, 0xFFFFFFFF, 0x0, 0x0, true⟩,
      ⟨0x300, 4, 32, .plain, 0x0, 0x0, 0x0, false⟩,
      ⟨0x380, 4, 16, .plain, 0x0, 0x0, 0x0, false⟩,
      ⟨0x408, 4, 1, .plain, 0xF, 0x0, 0x0, true⟩]
  | 25 => [
      ⟨0x300, 4, 1, .plain, 0xFFFFFFFF, 0x0, 0x0, true⟩,
      ⟨0x304, 4, 1, .plain, 0xFFFFFFFF, 0x0, 0x0, true⟩,
      ⟨0x308, 4, 1, .plain, 0x0, 0x0, 0x0, false⟩,
      ⟨0x340, 4, 16, .plain, 0x0, 0x0, 0x0, false⟩,
      ⟨0x40, 4, 1, .plain, 0x0, 0x0, 0x0, false⟩,
      ⟨0x44, 4, 1, .plain, 0x0, 0x0, 0x0, false⟩,
      ⟨0x48, 4, 1, .plain, 0x0, 0x0, 0x0, false⟩,
      ⟨0x4C, 4, 1, .plain, 0x0, 0x0, 0x0, false⟩,
      ⟨0x50, 4, 1, .plain, 0x0, 0x0, 0x0, false⟩,
      ⟨0x100, 4, 32, .plain, 0x0, 0x0, 0x0, false⟩,
      ⟨0x408, 4, 1, .plain, 0xFFFF, 0x0, 0x0, false⟩,
      ⟨0x440, 4, 1, .init, 0x3F, 0x0, 0x0, false⟩,
      ⟨0x480, 4, 16, .plain, 0xFFFFFFFF, 0x0, 0x0, false⟩,
      ⟨0x4C0, 4, 1, .plain, 0x0, 0x0, 0xC0000000, false⟩]
  | 26 => [
      ⟨0x40, 4, 1, .init, 0x7, 0x0, 0x0, false⟩,
      ⟨0x44, 4, 1, .selected, 0xFFFFF000, 0x0, 0x0, true⟩,
      ⟨0x48, 4, 1, .selected, 0xFFFFFFFF, 0x0, 0x0, true⟩,
      ⟨0x4C, 4, 1, .selected, 0xFFFFFFFF, 0x0, 0x0, true⟩,
      ⟨0x50, 4, 1, .selected, 0xFFFFFFFF, 0x0, 0x0, true⟩,
      ⟨0x54, 4, 1, .selected, 0x0, 0x0, 0x0, false⟩,
      ⟨0x58, 4, 1, .selected, 0x0, 0x0, 0x0, false⟩,
      ⟨0x5C, 4, 1, .selected, 0x0, 0x0, 0x0, false⟩,
      ⟨0x60, 4, 1, .selected, 0x0, 0x0, 0x0, false⟩,
      ⟨0x64, 4, 1, .selected, 0x0, 0x0, 0x0, false⟩,
      ⟨0x68, 4, 1, .selected, 0x0, 0x0, 0x0, false⟩,
      ⟨0x6C, 4, 1, .selected, 0x0, 0x0, 0x0, false⟩,
      ⟨0x70, 4, 1, .selected, 0x0, 0x0, 0x0, false⟩,
      ⟨0x74, 4, 1, .selected, 0x0, 0x0, 0x0, false⟩,
      ⟨0x80, 4, 1, .plain, 0xFFFFFFFF, 0x0, 0x0, true⟩,
      ⟨0x100, 8, 32, .plain, 0xF8FFFFFF, 0x0, 0x0, true⟩,
      ⟨0x104, 8, 32, .plain, 0xFFF0FFFF, 0x0, 0x0, true⟩,
      ⟨0x200, 4, 32, .plain, 0x0, 0x0, 0x0, false⟩]
  | 27 => [
      ⟨0x40, 4, 1, .init, 0x1F, 0x0, 0x0, false⟩,
      ⟨0x44, 4, 1, .selected, 0xC4000000, 0x0, 0x38000000, true⟩,
      ⟨0x48, 4, 1, .selected, 0xFFFFFF, 0x0, 0x0, true⟩,
      ⟨0x4C, 4, 1, .selected, 0x38, 0x0, 0x0, true⟩,
      ⟨0x50, 4, 1, .selected, 0x0, 0x0, 0x0, false⟩,
      ⟨0x54, 4, 1, .selected, 0x0, 0x0, 0x0, false⟩,
      ⟨0x58, 4, 1, .selected, 0x0, 0x0, 0x0, false⟩,
      ⟨0x5C, 4, 1, .selected, 0x0, 0x0, 0x0, false⟩,
      ⟨0x60, 4, 1, .selected, 0x800000FF, 0x0, 0x0, true⟩,
      ⟨0x64, 4, 1, .selected, 0x0, 0x0, 0x0, false⟩,
      ⟨0x68, 4, 1, .selected, 0x0, 0x0, 0x0, false⟩,
      ⟨0x6C, 4, 1, .selected, 0x0, 0x0, 0x0, false⟩,
      ⟨0x80, 4, 1, .plain, 0xFFFFFFFF, 0x0, 0x0, true⟩,
      ⟨0x84, 4, 1, .plain, 0xFFFFFFFF, 0x0, 0x0, true⟩,
      ⟨0x88, 4, 1, .plain, 0xFFFFFFFF, 0x0, 0x0, true⟩,
      ⟨0x8C, 4, 1, .plain, 0xFFFFFFFF, 0x0, 0x0, true⟩,
      ⟨0x90, 4, 1, .plain, 0xFFFFFFFF, 0x0, 0x0, true⟩,
      ⟨0x94, 4, 1, .plain, 0xFFFF, 0x0, 0x0, true⟩,
      ⟨0xA0, 4, 3, .plain, 0xFFFFFFFF, 0x0, 0x0, true⟩,
      ⟨0xB0, 4, 1, .selected, 0x7, 0x0, 0x0, false⟩,
      ⟨0xB4, 4, 1, .selected, 0xFFFFFFFF, 0x0, 0x0, false⟩,
      ⟨0xB8, 4, 1, .selected, 0x0, 0x0, 0x80000000, false⟩,
      ⟨0x408, 4, 5, .selected, 0xFFFFFFFF, 0x0, 0x0, true⟩,
      ⟨0x420, 4, 1, .plain, 0xFFFF, 0x0, 0x0, true⟩]
  | 28 => [
      ⟨0x40, 4, 8, .plain, 0xFFFFFFFF, 0x0, 0x0, true⟩,
      ⟨0x60, 4, 8, .plain, 0x0, 0x0, 0x0, false⟩]
  | 29 => [
      ⟨0x40, 32, 2, .plain, 0xFFFC0000, 0x0, 0x0, true⟩,
      ⟨0x44, 32, 2, .plain, 0xFFFFFFFF, 0x0, 0x0, true⟩,
      ⟨0x48, 32, 2, .plain, 0xFFFFFFFF, 0x0, 0x0, true⟩,
      ⟨0x4C, 32, 2, .plain, 0x0, 0x0, 0xE0000000, false⟩,
      ⟨0x50, 32, 2, .plain, 0x0, 0x0, 0x0, false⟩,
      ⟨0x54, 32, 2, .plain, 0x0, 0x0, 0x0, false⟩,
      ⟨0x58, 32, 2, .plain, 0x0, 0x0, 0x0, false⟩,
      ⟨0x5C, 32, 2, .plain, 0xFFFF, 0x0, 0x0, true⟩,
      ⟨0x80, 4, 1, .plain, 0x71F0000, 0x0, 0x80000000, true⟩,
      ⟨0x84, 4, 1, .plain, 0x0, 0x0, 0x0, false⟩,
      ⟨0x88, 4, 1, .plain, 0xFF, 0x0, 0x0, true⟩,
      ⟨0x90, 4, 2, .plain, 0x0, 0x0, 0x0, false⟩,
      ⟨0x100, 4, 64, .plain, 0x0, 0x0, 0x0, false⟩,
      ⟨0x408, 16, 32, .plain, 0xFFFFFFFF, 0x0, 0x0, true⟩,
      ⟨0x40C, 16, 32, .plain, 0x1F, 0x0, 0x0, true⟩,
      ⟨0x410, 16, 32, .plain, 0xFFFFFF, 0x0, 0x0, true⟩]
  | 30 => [
      ⟨0x40, 32, 8, .plain, 0xEFFFC7FF, 0x0, 0x0, true⟩,
      ⟨0x44, 32, 8, .plain, 0xFFFFFFFF, 0x0, 0x0, true⟩,
      ⟨0x48, 32, 8, .plain, 0xFFFFFFFF, 0x0, 0x0, true⟩,
      ⟨0x4C, 32, 8, .plain, 0xFFFFFF01, 0x0, 0x0, true⟩,
      ⟨0x50, 32, 8, .plain, 0x0, 0x0, 0x0, false⟩,
      ⟨0x54, 32, 8, .plain, 0x0, 0x0, 0x0, false⟩,
      ⟨0x58, 32, 8, .plain, 0x0, 0x0, 0x80000000, false⟩]
  | 31 => [
      ⟨0x40, 16, 8, .plain, 0xFFFFFFFF, 0x0, 0x0, true⟩,
      ⟨0x44, 16, 8, .plain, 0xFFFFFFFF, 0x0, 0x0, true⟩,
      ⟨0x48, 16, 8, .plain, 0x0, 0x0, 0x0, false⟩,
      ⟨0x4C, 16, 8, .plain, 0x0, 0x0, 0x0, false⟩,
      ⟨0xC0, 4, 1, .plain, 0xFFFF, 0x0, 0x0, true⟩]
  | 32 => [
      ⟨0x40, 4, 1, .plain, 0xFFFFFFFF, 0x0, 0x0, true⟩,
      ⟨0x44, 4, 1, .plain, 0xFFFFFFFF, 0x0, 0x0, true⟩,
      ⟨0x48, 4, 1, .plain, 0xFFFF0000, 0x0, 0x0, true⟩,
      ⟨0x4C, 4, 1, .plain, 0x0, 0x0, 0x0, false⟩,
      ⟨0x50, 4, 1, .plain, 0x0, 0x0, 0x0, false⟩,
      ⟨0x80, 4, 16, .plain, 0x0, 0x0, 0x0, false⟩]
  | 33 => [
      ⟨0x40, 4, 1, .plain, 0xF01FFFFF, 0x0, 0x0, true⟩,
      ⟨0x44, 4, 1, .init, 0xF87FFFFF, 0x0, 0x0, false⟩,
      ⟨0x48, 4, 1, .plain, 0x0, 0x0, 0x80000000, false⟩,
      ⟨0x4C, 4, 1, .init, 0x0, 0x80000000, 0x0, false⟩,
      ⟨0x50, 4, 16, .init, 0xFFFFFFFF, 0x0, 0x0, false⟩,
      ⟨0x90, 4, 16, .init, 0x0, 0x0, 0x0, false⟩,
      ⟨0xD0, 4, 1, .plain, 0x0, 0x0, 0x0, false⟩,
      ⟨0xD4, 4, 1, .plain, 0x0, 0x0, 0x0, false⟩,
      ⟨0xD8, 4, 1, .plain, 0x0, 0x0, 0x0, false⟩]
  | 37 => [
      ⟨0x40, 4, 1, .plain, 0xFFFFFFFF, 0x0, 0x0, true⟩,
      ⟨0x44, 4, 1, .plain, 0x0, 0x0, 0x0, false⟩,
      ⟨0x48, 4, 1, .plain, 0x0, 0x0, 0x800000FF, false⟩,
      ⟨0x4C, 4, 1, .plain, 0x0, 0x0, 0x0, false⟩,
      ⟨0x50, 4, 1, .plain, 0xFFFF, 0x0, 0xC0000000, true⟩]
  | 38 => [
      ⟨0x40, 4, 1, .plain, 0xFFFFFFFF, 0x0, 0x0, true⟩,
      ⟨0x44, 4, 1, .plain, 0xFFFF, 0x0, 0x0, true⟩,
      ⟨0x48, 4, 1, .plain, 0xFFFFFFFF, 0x0, 0x0, true⟩,
      ⟨0x4C, 4, 1, .plain, 0xFFFF, 0x0, 0x0, true⟩,
      ⟨0x50, 4, 1, .plain, 0x0, 0x0, 0x0, false⟩,
      ⟨0x54, 4, 1, .plain, 0x0, 0x0, 0x0, false⟩,
      ⟨0x58, 4, 1, .plain, 0xFFFF, 0x0, 0x0, true⟩,
      ⟨0x5C, 4, 1, .plain, 0xFF, 0x0, 0x0, true⟩]
  | 39 => [
      ⟨0x40, 4, 4, .plain, 0x10FFF, 0x0, 0x80000000, false⟩,
      ⟨0x50, 4, 4, .plain, 0x0, 0x20000000, 0x0, false⟩]
  | 48 => [
      ⟨0x40, 4, 1, .selected, 0xFFFF0000, 0x0, 0x0, true⟩,
      ⟨0x44, 4, 1, .selected, 0x0, 0x0, 0x0, false⟩,
      ⟨0x48, 4, 1, .selected, 0x0, 0x0, 0x0, false⟩,
      ⟨0x4C, 4, 1, .selected, 0xC0000000, 0x0, 0x0, true⟩,
      ⟨0x408, 4, 1, .selected, 0xFFFFFF00, 0x0, 0x0, true⟩]
  | _ => []

/-- The ranges that the spec gives to writable fields: offset, step, number, field bits, least and greatest value, and whether the field is signed. -/
def rangesOf (page : Nat) : List RangeD :=
  match page with
  | 2 => [
      ⟨0x50, 4, 1, 15, 0, 1, 10000, false⟩,
      ⟨0x54, 4, 1, 15, 0, 1, 10000, false⟩,
      ⟨0x60, 4, 1, 31, 16, 1, 600, false⟩,
      ⟨0x64, 4, 1, 31, 16, 10, 3600, false⟩,
      ⟨0x64, 4, 1, 15, 0, 100, 10000, false⟩]
  | 4 => [
      ⟨0x50, 4, 1, 4, 0, 0, 18, false⟩]
  | 5 => [
      ⟨0x44, 4, 1, 15, 0, 10, 65535, false⟩]
  | 6 => [
      ⟨0x48, 4, 1, 15, 0, 0, 65532, false⟩]
  | 7 => [
      ⟨0x48, 4, 1, 7, 0, 0, 159, false⟩,
      ⟨0x4C, 4, 1, 31, 24, 1, 255, false⟩,
      ⟨0x4C, 4, 1, 13, 0, 1, 16000, false⟩,
      ⟨0x50, 4, 1, 15, 0, 1, 65535, false⟩]
  | 8 => [
      ⟨0x54, 4, 1, 26, 16, 1, 1024, false⟩,
      ⟨0x54, 4, 1, 4, 0, 0, 31, false⟩]
  | 10 => [
      ⟨0x40, 4, 1, 15, 0, 1, 65535, false⟩,
      ⟨0x48, 4, 1, 15, 0, 16, 1600, false⟩,
      ⟨0x4C, 4, 1, 31, 16, 100, 65535, false⟩,
      ⟨0x408, 4, 1, 31, 16, 500, 10000, false⟩,
      ⟨0x408, 4, 1, 15, 0, 1, 1000, false⟩,
      ⟨0x40C, 4, 1, 31, 24, 5, 50, false⟩,
      ⟨0x40C, 4, 1, 23, 16, 2, 255, false⟩,
      ⟨0x40C, 4, 1, 15, 0, 100, 10000, false⟩]
  | 11 => [
      ⟨0x48, 4, 1, 31, 16, 1, 10000, false⟩,
      ⟨0x48, 4, 1, 15, 0, 10, 60000, false⟩]
  | 12 => [
      ⟨0x44, 4, 1, 14, 10, 0, 31, false⟩,
      ⟨0x44, 4, 1, 9, 0, 0, 511, false⟩,
      ⟨0x84, 12, 10, 21, 17, 0, 31, false⟩]
  | 14 => [
      ⟨0x40, 4, 1, 15, 0, 1024, 65535, false⟩]
  | 16 => [
      ⟨0x50, 4, 1, 15, 0, 1, 65532, false⟩,
      ⟨0x54, 4, 1, 31, 16, 10, 10000, false⟩,
      ⟨0x60, 4, 3, 31, 30, 0, 2, false⟩,
      ⟨0x60, 4, 3, 10, 0, 200, 2000, false⟩,
      ⟨0x100, 8, 16, 29, 28, 0, 2, false⟩,
      ⟨0x180, 4, 1, 15, 0, 0, 40000, false⟩,
      ⟨0x198, 4, 1, 31, 16, 10, 10000, false⟩,
      ⟨0x198, 4, 1, 15, 0, 10, 10000, false⟩,
      ⟨0x200, 4, 1, 23, 16, 24, 43, false⟩,
      ⟨0x200, 4, 1, 15, 0, 10, 10000, false⟩,
      ⟨0x204, 4, 1, 15, 0, 100, 60000, false⟩]
  | 17 => [
      ⟨0x44, 4, 1, 23, 16, 1, 255, false⟩,
      ⟨0x44, 4, 1, 15, 0, 100, 50000, false⟩,
      ⟨0x48, 4, 1, 22, 20, 2, 7, false⟩,
      ⟨0x48, 4, 1, 15, 8, 1, 255, false⟩,
      ⟨0x48, 4, 1, 7, 0, 1, 255, false⟩]
  | 18 => [
      ⟨0x60, 4, 1, 18, 0, 0, 262144, false⟩]
  | 19 => [
      ⟨0x100, 4, 64, 31, 29, 0, 4, false⟩,
      ⟨0x200, 16, 32, 20, 16, 0, 15, false⟩,
      ⟨0x204, 16, 32, 15, 0, 0, 40000, false⟩,
      ⟨0x40, 4, 1, 3, 0, 0, 11, false⟩,
      ⟨0x44, 4, 1, 30, 29, 0, 2, false⟩]
  | 20 => [
      ⟨0x44, 4, 1, 15, 0, 1, 65535, false⟩,
      ⟨0x48, 4, 4, 21, 16, 32, 63, false⟩,
      ⟨0x68, 4, 1, 31, 16, 1, 65535, false⟩,
      ⟨0x6C, 4, 1, 15, 8, 1, 255, false⟩,
      ⟨0xC0, 4, 16, 31, 16, 1, 65535, false⟩,
      ⟨0xC0, 4, 16, 15, 0, 1, 65535, false⟩,
      ⟨0x420, 4, 1, 4, 0, 6, 16, false⟩,
      ⟨0x424, 4, 1, 19, 16, 2, 15, false⟩,
      ⟨0x424, 4, 1, 15, 0, 1, 32767, false⟩,
      ⟨0xA4, 4, 1, 31, 16, 64, 4096, false⟩,
      ⟨0x440, 4, 1, 1, 0, 0, 2, false⟩]
  | 21 => [
      ⟨0x60, 4, 4, 4, 0, 0, 31, false⟩,
      ⟨0x80, 4, 1, 23, 20, 0, 6, false⟩,
      ⟨0x80, 4, 1, 8, 0, 0, 279, false⟩,
      ⟨0x84, 4, 1, 27, 16, 0, 3455, false⟩,
      ⟨0x84, 4, 1, 11, 0, 1, 3456, false⟩,
      ⟨0x88, 4, 1, 8, 0, 1, 280, false⟩,
      ⟨0xA0, 4, 1, 8, 0, 0, 431, false⟩,
      ⟨0xA0, 4, 1, 20, 12, 0, 279, false⟩,
      ⟨0x100, 8, 32, 31, 30, 0, 2, false⟩,
      ⟨0x200, 4, 32, 31, 28, 0, 5, false⟩,
      ⟨0x200, 4, 32, 27, 24, 0, 5, false⟩,
      ⟨0x200, 4, 32, 23, 20, 0, 5, false⟩,
      ⟨0x284, 8, 16, 24, 16, 1, 280, false⟩,
      ⟨0x284, 8, 16, 15, 12, 0, 3, false⟩]
  | 22 => [
      ⟨0x44, 4, 1, 29, 28, 0, 1, false⟩,
      ⟨0x44, 4, 1, 23, 20, 0, 15, false⟩,
      ⟨0x4C, 4, 1, 15, 8, 1, 255, false⟩,
      ⟨0x4C, 4, 1, 7, 0, 1, 255, false⟩]
  | 23 => [
      ⟨0x48, 4, 1, 15, 0, 10, 60000, false⟩]
  | 24 => [
      ⟨0x40, 4, 1, 31, 24, 1, 255, false⟩,
      ⟨0x40, 4, 1, 15, 0, 1, 10000, false⟩,
      ⟨0x44, 4, 1, 15, 0, 1, 10000, false⟩,
      ⟨0x48, 4, 1, 15, 0, 1, 10000, false⟩,
      ⟨0x4C, 4, 1, 15, 0, 2, 65535, false⟩,
      ⟨0x50, 4, 1, 31, 16, 10, 10000, false⟩,
      ⟨0x50, 4, 1, 15, 0, 1, 3600, false⟩,
      ⟨0x54, 4, 1, 4, 0, 0, 15, false⟩,
      ⟨0x200, 4, 17, 30, 24, 1, 127, false⟩,
      ⟨0x200, 4, 17, 23, 12, 1, 4095, false⟩,
      ⟨0x408, 4, 1, 3, 0, 2, 10, false⟩]
  | 25 => [
      ⟨0x304, 4, 1, 31, 16, 1, 65535, false⟩,
      ⟨0x304, 4, 1, 15, 0, 1, 65535, false⟩,
      ⟨0x408, 4, 1, 15, 0, 1, 4095, false⟩]
  | 26 => [
      ⟨0x44, 4, 1, 14, 12, 2, 7, false⟩,
      ⟨0x48, 4, 1, 31, 0, -5000000, 5000000, true⟩,
      ⟨0x4C, 4, 1, 31, 16, 50, 50000, false⟩,
      ⟨0x4C, 4, 1, 15, 0, 1, 1000, false⟩,
      ⟨0x50, 4, 1, 31, 16, 10, 10000, false⟩,
      ⟨0x50, 4, 1, 15, 0, 100, 60000, false⟩,
      ⟨0x80, 4, 1, 31, 16, 0, 4000, false⟩,
      ⟨0x80, 4, 1, 15, 0, 0, 10000, false⟩,
      ⟨0x100, 8, 32, 23, 12, 0, 4000, false⟩,
      ⟨0x100, 8, 32, 11, 0, 0, 4000, false⟩,
      ⟨0x104, 8, 32, 31, 20, 0, 4000, false⟩]
  | 27 => [
      ⟨0x80, 4, 1, 31, 16, -640, 2560, true⟩,
      ⟨0x80, 4, 1, 15, 0, 0, 1280, true⟩,
      ⟨0x88, 4, 1, 15, 0, 0, 1280, true⟩,
      ⟨0x8C, 4, 1, 31, 16, 0, 3840, true⟩,
      ⟨0x8C, 4, 1, 15, 0, 10, 60000, false⟩,
      ⟨0x90, 4, 1, 31, 24, 0, 31, false⟩,
      ⟨0x90, 4, 1, 23, 16, 1, 255, false⟩,
      ⟨0x90, 4, 1, 15, 0, 200, 60000, false⟩,
      ⟨0x94, 4, 1, 15, 0, 200, 10000, false⟩,
      ⟨0x420, 4, 1, 15, 0, 10, 60000, false⟩]
  | 28 => [
      ⟨0x40, 4, 8, 29, 28, 0, 2, false⟩,
      ⟨0x40, 4, 8, 27, 16, 0, 4000, false⟩,
      ⟨0x40, 4, 8, 15, 8, 1, 50, false⟩,
      ⟨0x40, 4, 8, 7, 0, 1, 255, false⟩]
  | 29 => [
      ⟨0x48, 32, 2, 15, 0, 1, 65535, false⟩,
      ⟨0x5C, 32, 2, 15, 0, 1000, 2600, false⟩,
      ⟨0x80, 4, 1, 26, 24, 0, 6, false⟩,
      ⟨0x88, 4, 1, 7, 0, 1, 255, false⟩]
  | 30 => [
      ⟨0x40, 32, 8, 27, 21, 1, 100, false⟩,
      ⟨0x40, 32, 8, 20, 14, 4, 100, false⟩,
      ⟨0x40, 32, 8, 10, 0, 200, 2000, false⟩,
      ⟨0x48, 32, 8, 31, 24, 1, 255, false⟩,
      ⟨0x48, 32, 8, 23, 16, 0, 40, false⟩,
      ⟨0x48, 32, 8, 15, 0, 10, 65535, false⟩,
      ⟨0x4C, 32, 8, 31, 16, 1, 60000, false⟩]
  | 31 => [
      ⟨0x40, 16, 8, 22, 16, 1, 127, false⟩,
      ⟨0x40, 16, 8, 15, 0, 0, 30000, false⟩,
      ⟨0x44, 16, 8, 31, 16, 10, 10000, false⟩,
      ⟨0x44, 16, 8, 15, 0, 100, 60000, false⟩,
      ⟨0xC0, 4, 1, 15, 0, 1000, 30000, false⟩]
  | 32 => [
      ⟨0x48, 4, 1, 31, 16, 1, 1000, false⟩]
  | 33 => [
      ⟨0x40, 4, 1, 30, 29, 0, 2, false⟩,
      ⟨0x40, 4, 1, 15, 8, 25, 35, false⟩,
      ⟨0x40, 4, 1, 7, 4, 1, 15, false⟩]
  | 37 => [
      ⟨0x40, 4, 1, 7, 0, 1, 24, false⟩,
      ⟨0x50, 4, 1, 15, 0, 60, 1000, false⟩]
  | 48 => [
      ⟨0x40, 4, 1, 29, 28, 0, 2, false⟩,
      ⟨0x408, 4, 1, 31, 24, 1, 255, false⟩]
  | _ => []

end Sys2Proof.Machine
end

