-- ==== Sys2Proof/Machine/State.lean ====
section
/-!
DEFINITION. The state of the device, as plain data: the registers, the context words, the timers, and for each block the state that
the spec gives it behind its registers; the queue of commands that wait; and the state right after power-on reset.
-/
namespace Sys2Proof.Machine

/-- The refusal reasons of rule R49. -/
inductive Reason where
  | expertLocked
  | notOwner
  | lifecycle
  | configLocked
  | outOfRange
  | unitAbsent
  | accessForm
  | windowBusy
  | notRunning
deriving DecidableEq, Repr

/-- The reason codes of rule R49. -/
def Reason.code : Reason → Nat
  | .expertLocked => 1
  | .notOwner => 2
  | .lifecycle => 3
  | .configLocked => 4
  | .outOfRange => 5
  | .unitAbsent => 6
  | .accessForm => 7
  | .windowBusy => 8
  | .notRunning => 9

/-- Why the machine stops with a fault. -/
inductive Fault where
  /-- Raised by `step` for a command whose operands are not well formed (`WellFormed`): no such command exists outside; safe. -/
  | illFormed
deriving DecidableEq, Repr

/-- Why a command has no meaning. -/
inductive Refusal where
  /-- Raised by an arm of `exec` whose command has no meaning yet; safe. -/
  | notModelled (mnemonic : String)
deriving DecidableEq, Repr

/-! Chapter 1 and 2: time, the register bus, the context windows. -/

/-- Time (R21 to R28): device time in ticks of 245.76 MHz, and the strobes counted so far. -/
structure TimeSt where
  devTime : Nat := 0
  usCount : Nat := 0
  msCount : Nat := 0
  sCount : Nat := 0
  /-- PLL-A has locked for the first time since power-on reset (R21). -/
  started : Bool := false
deriving DecidableEq, Repr

/-- A cross-timestamp capture in flight (R26): device time, PTP seconds and nanoseconds, taken before any step of PTP time. -/
structure XtsPair where
  dt : Nat
  sec : Nat
  ns : Nat
deriving DecidableEq, Repr

/-- The expert lock of one page for one initiator or identity (R47). -/
structure ExpertSt where
  armed : Bool := false
  opened : Bool := false
deriving DecidableEq, Repr

/-- One context table window (R50 to R52). -/
structure Window where
  ctx : Nat := 0
  staged : Bool := false
  /-- the words of the snapshot, once taken -/
  snap : Option (List Word) := none
  snapWanted : Bool := false
  words : List (Nat × Word) := []
  pending : Bool := false
  done : Bool := false
  lastRefuse : Nat := 0
  lastCtx : Nat := 0
deriving DecidableEq, Repr

/-- A write that waits for the end of a self-test (R40). -/
structure HeldWrite where
  page : Nat
  who : Init
  addr : Nat
  value : Word
deriving DecidableEq, Repr

/-! Chapter 3: paths and contexts. -/

/-- A path behind its registers (R68, R69, R80, R81). -/
structure PathRt where
  /-- a turn-on waits for the frame boundary -/
  turnOn : Bool := false
  /-- an ENABLE := 1 written during a drain is held -/
  heldOn : Bool := false
  /-- added delay reached, in 1/6,144 sample (a slew of 1 sample per µs moves 25 of them per tick) -/
  delayQ : Nat := 0
  /-- target of the slew in progress, in samples, and the device time of its start -/
  slewTo : Option Nat := none
  slewStart : Nat := 0
  /-- a change of at most ±8 samples waits for the frame boundary -/
  slewAt : Option Nat := none
  /-- a larger change is pending -/
  pendTo : Option Nat := none
  /-- device time of the last tick at which a context of the path radiated -/
  lastRad : Nat := 0
deriving DecidableEq, Repr

/-- The CHN page behind its registers: paths, and by 16 times the path plus the window the windows in force at the channeliser, LO word
and HI word; the staged LO of each holder with its window (R64). -/
structure ChnSt where
  paths : List (Nat × PathRt) := []
  winApplied : List (Nat × (Word × Word)) := []
  winStage : List (Nat × Option (Nat × Word)) := []
deriving DecidableEq, Repr

/-! Chapter 4: schedule images. -/

/-- A load write held while a slot is filled with zeros (R93): bytes at an address, END with its length, or ABORT. -/
inductive LoadOp where
  | bytes (addr : Nat) (data : List Nat)
  | finish (length : Nat)
  | abort
deriving DecidableEq, Repr

/-- The image slots and the swap behind the SCH registers (R93 to R110). -/
structure SchSt where
  /-- image bytes, by 262,144 times the slot plus the byte address -/
  img : List (Nat × Byte) := []
  active : Option Nat := none
  /-- the loader of each slot -/
  loader : List (Nat × Option Ident) := []
  /-- slots that are being filled with zeros, oldest first, and the load writes that wait for it, each with its slot (R93) -/
  filling : List Nat := []
  heldLoads : List (Nat × LoadOp) := []
  /-- LENGTH as slot A's END and slot B's END carried it (R96) -/
  endLenA : Nat := 0
  endLenB : Nat := 0
  /-- what the armed slot was before ARM -/
  armedFrom : Nat := 0
  /-- device time of ARM, and of the end of the plan's drains -/
  armDt : Nat := 0
  drainsDone : Nat := 0
  /-- what the ARM asked for: its timing group, and the requested ordinal with AT = 1 -/
  armGroup : Nat := 0
  armOrd : Option Nat := none
  /-- past the point of no return -/
  staged : Bool := false
  /-- the swap boundary B, once fixed -/
  boundary : Nat := 0
  /-- contexts that the plan evicts -/
  evicted : List Nat := []
  /-- paths that the plan drains, as a mask -/
  drained : Nat := 0
  /-- an SCH block reset waits for the end of the swap (R109) -/
  resetHeld : Bool := false
  /-- a table of the active slot has an uncorrectable error: the hard-wired mute input holds (R110) -/
  tableBad : Bool := false
deriving DecidableEq, Repr

/-! Chapter 5: the canceller. -/

/-- A canceller instance behind its registers (R123, R126, R134). -/
structure CanRt where
  /-- the mode held before a pause -/
  prePause : Nat := 0
  /-- the length of the pause in progress, in milliseconds -/
  pauseLen : Nat := 100
  /-- the state held before LINK_FROZEN, or that of the mode written since -/
  preLink : Nat := 0
  /-- the state held before an isolation window, and whether MODE was written in it -/
  preIso : Nat := 0
  isoModeWritten : Bool := false
  /-- an isolation window is requested and waits -/
  isoHeld : Bool := false
  /-- the map has been derived from the basic fields, not written (R136) -/
  derived : Bool := true
deriving DecidableEq, Repr

/-- The stored isolation of a reference in a subband (R126): iso and canc in 1/64 dB; source 0 MEASURED, 1 BOUND, 2 ASSUMED. -/
structure IsoEntry where
  iso : Int
  canc : Int
  src : Nat
deriving DecidableEq, Repr

/-- What an isolation window has gathered for a reference in a subband (R126): subband samples seen, correlated samples, sums of receive power and
of probe power over them in units of 2^-30, and the lowest probe power. -/
structure IsoAcc where
  seen : Nat := 0
  n : Nat := 0
  pd : Nat := 0
  pSum : Nat := 0
  pLow : Nat := 0
deriving DecidableEq, Repr

/-- The phase that a clamp is in (R133): its depth at the start in 1/64 dB, the device time of the start, and the HOLD_US or the RELEASE_RATE that
stood then. -/
structure ClampPhase where
  depth : Nat := 0
  start : Nat := 0
  param : Nat := 0
deriving DecidableEq, Repr

/-- A complex sample or tap. -/
structure Cplx where
  re : Int := 0
  im : Int := 0
deriving DecidableEq, Repr

/-- The canceller behind its registers. Tables are keyed by instance, subband, reference, cluster and tap as the accessors say. -/
structure CanSt where
  rt : List (Nat × CanRt) := []
  iso : List (Nat × Option IsoEntry) := []
  /-- taps, each part worth m × 2^-19 (R122) -/
  taps : List (Nat × Cplx) := []
  /-- monitor correlator of each tap, each part in units of 2^-49 -/
  gm : List (Nat × Cplx) := []
  /-- averaged regressor power of a reference in a subband, in units of 2^-30 -/
  pu : List (Nat × Int) := []
  /-- reference and probe histories, newest first, in units of 2^-15 -/
  hist : List (Nat × List Cplx) := []
  probe : List (Nat × List Cplx) := []
  /-- probe registers at the current symbol, by 64 times the seed plus the subband; 0 before the first symbol (R125) -/
  lfsr : List (Nat × Nat) := []
  /-- the window in progress: what it has gathered of each reference in a subband, and the raw correlator of each tap (R126) -/
  isoAcc : List (Nat × IsoAcc) := []
  raw : List (Nat × Cplx) := []
  starved : List (Nat × Bool) := []
  /-- margin of a subband in 1/64 dB, 0x7FFF for no loop -/
  margin : List (Nat × Int) := []
  /-- staged RE of each holder, and IM latched by its read -/
  stageRe : List (Nat × Nat) := []
  latchIm : List (Nat × Nat) := []
  /-- the instance under self-test and the state that it held (R134) -/
  selftest : Option (Nat × Nat) := none
  /-- permissions held during a self-test, by context -/
  heldPermit : List (Nat × Option Int) := []
  /-- block powers at TX_OUT of each transmit stream, newest first, in units of 2^-30; since the stream came into use (R131) -/
  blocks : List (Nat × List Nat) := []
  /-- the phase that each clamped stream is in (R133) -/
  phase : List (Nat × ClampPhase) := []
  /-- streams whose link is lost (R123) -/
  linkLost : List (Nat × Bool) := []
  /-- samples until the histories of a subband are refilled, by 64 times the instance plus the subband (R123) -/
  refill : List (Nat × Nat) := []
deriving DecidableEq, Repr

/-! Chapter 6: the gain control engine. -/

/-- A context behind its words (R74 to R79, R144 to R167). Gains are in units of 2^-16 dB. -/
structure CtxRt where
  /-- the CMD held for the next tick, 0 when none (R74) -/
  cmd : Nat := 0
  /-- words written in direct mode that wait for the next tick, oldest first (R15, R51) -/
  direct : List (Nat × Word) := []
  /-- the tick pool entry held: TICK code and entry (R92) -/
  slot : Option (Nat × Nat) := none
  /-- a drain ordered by the path or by a swap, taken at the next tick (R79, R102) -/
  drainReq : Bool := false
  /-- TARGET_GAIN or MAX_GAIN has changed since the last tick (R159) -/
  retarget : Bool := false
  /-- a mute has ended at this tick: the soft start follows at step 3 (R159) -/
  softDue : Bool := false
  feAck : Bool := false
  /-- causes raised, and causes cleared, since the last tick; bit k for cause k (R144 step 1) -/
  raised : Nat := 0
  cleared : Nat := 0
  /-- device time of the last tick, of the drain's start, and of the leaving of its last sample (R79) -/
  lastTick : Nat := 0
  drainStart : Nat := 0
  drainEnd : Nat := 0
  /-- the applied gain, and the applied gain before the last tick -/
  gain : Int := 0
  gainPrev : Int := 0
  i1 : Int := 0
  i2 : Int := 0
  lastG2 : Option Int := none
  lastG4 : Option Int := none
  /-- MEAS_GAIN behind its field, and the device times of the last valid values (R145, R146) -/
  meas : Option Int := none
  measDt : Nat := 0
  inDt : Nat := 0
  outDt : Nat := 0
  /-- the digital gain asked for before and after the last tick, and the device time of that tick (R67, R106) -/
  digFrom : Int := 0
  digTo : Int := 0
  digAt : Nat := 0
  /-- the following-error timer, in ticks (R163) -/
  feTimer : Nat := 0
  /-- the clamp flag, the following-error timer and the change limit of the last tick (R152, R169, R170) -/
  clamp : Bool := false
  bound : Bool := false
  /-- the noise estimate in units of 2^-80 mW per MHz, its qualifying rows since START, and the device time of the last (R236) -/
  noise : Nat := 0
  noiseRows : Nat := 0
  noiseDt : Nat := 0
  /-- since when NOISE_MEAS exceeds the entry's limit, plus one (R238) -/
  noiseOver : Nat := 0
  /-- refused by the budget until a write re-opens it (R247) -/
  refused : Bool := false
  /-- the budget delayed the context and the hold has passed (R247) -/
  held : Bool := false
  /-- a chain gain of its ports has changed: words 42, 60 and 61 are written at the next tick (R273) -/
  recal : Bool := false
  /-- word 20 as it stood before each recent write of its grid fields, newest first, and the rows armed since that write (R200) -/
  gridWas : List (Word × Nat) := []
deriving DecidableEq, Repr

/-- A trace channel behind its registers (R168 to R171): samples, newest first. -/
structure TraceCh where
  samples : List Word := []
  decim : Nat := 0
  left : Nat := 0
  hostTrig : Bool := false
  /-- the next sample recorded is the trigger sample -/
  stamp : Bool := false
  /-- the node, STATE, WIN_LOOP, timer and clamp flag of the last tick -/
  node : Option Int := none
  st : Nat := 0
  win : Nat := 0
  fe : Nat := 0
  clamp : Bool := false
deriving DecidableEq, Repr

/-- A port's supply correction at the engine (R148): watched since a first valid value, lost, the value, device time of the last one. -/
structure SupplyRt where
  watched : Bool := false
  lost : Bool := false
  corr : Int := 0
  last : Nat := 0
deriving DecidableEq, Repr

/-- The engine behind the CEN registers. -/
structure CenSt where
  ctxs : List (Nat × CtxRt) := []
  trace : List (Nat × TraceCh) := []
  supply : List (Nat × SupplyRt) := []
deriving DecidableEq, Repr

/-! Chapter 7: the gain grid. -/

/-- A row of a path's grid (R183): cells that differ from the code of the last wipe, frozen, words with an uncorrectable error; the frame
of its next read, counted from the path's, where a wipe has set it. -/
structure GridRow where
  base : Nat := 4
  cells : List (Nat × Nat) := []
  armed : Option Nat := none
  frozen : Bool := false
  bad : List Nat := []
deriving DecidableEq, Repr

/-- A row that the gate has read: the level of the cells not listed, and of those listed, and where it denied BOOST (R181). -/
structure PastRow where
  row : Nat
  base : Nat
  cells : List (Nat × Nat)
  denied : List (Nat × Nat)
deriving DecidableEq, Repr

/-- A path's grid beside its rows. -/
structure PathGrid where
  /-- what the rows' frames are counted from (R183) -/
  armBase : Nat := 0
  /-- the last row read (R185) -/
  last : Option Nat := none
  /-- the levels that the gate applied in the last row: of the cells listed, and of the others (R181) -/
  prevBase : Nat := 4
  prev : List (Nat × Nat) := []
  /-- the rows before that one, newest first -/
  past : List PastRow := []
  /-- the rows that the wheel planned last, newest first: row, level of the cells not listed, levels of those listed (R221) -/
  plans : List (Nat × Nat × List (Nat × Nat)) := []
  /-- the offset in force, in ns (R185) -/
  offset : Int := 0
  /-- T_gate less the row's start, in eighths of a nanosecond (R177) -/
  lag8 : Int := 0
  /-- rows armed since the last millisecond strobe, oldest first (R195) -/
  armedSince : List Nat := []
  /-- of each row, the number of the arming that it was armed by last; 0 before the first (R200) -/
  armedAt : List (Nat × Nat) := []
  /-- the noise gate's hold of each strip, plus one; 0 where no context's NG_EN has set it (R196) -/
  hold : List (Nat × Nat) := []
  /-- contexts whose last row had a known pattern (R195) -/
  known : List Nat := []
  /-- contexts and strips at which the gate applied NOMINAL for a BOOST that it denied (R181) -/
  denied : List (Nat × Nat) := []
deriving DecidableEq, Repr

/-- A fill descriptor in a writer's queue (R186). -/
structure GridDesc where
  path : Nat
  code : Nat
  row : Nat
  rows : Nat
  first : Nat
  count : Nat
  rel : Bool
  replace : Bool
  late : Bool
  sfn : Nat
  /-- rows dealt with, the highest status of a row so far, the frame of the first row once the port has reached it (R187) -/
  done : Nat := 0
  status : Nat := 0
  target : Option Int := none
  /-- the context that it was built for (R193, R195) -/
  ctx : Option Nat := none
  /-- the request that it belongs to: a queue of packets, or 16 plus the holder of a register write; its place in the request -/
  req : Option Nat := none
  entry : Nat := 0
deriving DecidableEq, Repr

/-- What the descriptors of a request have come to (R194). -/
structure GridSum where
  status : Nat := 0
  served : Nat := 0
  delayed : Nat := 0
  refused : Nat := 0
  firstRow : Nat := 0xFFFF
  firstEntry : Nat := 0xFFFF
  retry : Nat := 0
  /-- a descriptor outside its domain's contexts (R197) -/
  notOwner : Bool := false
  /-- descriptors that have not ended -/
  left : Nat := 0
  /-- descriptors that have ended -/
  ended : Nat := 0
  /-- the grid function drains: the descriptors that had not begun were dropped (R333) -/
  cut : Bool := false
deriving DecidableEq, Repr

/-- The grid behind the GGR registers. -/
structure GgrSt where
  /-- rows, by 280 times the path plus the row -/
  rows : List (Nat × GridRow) := []
  paths : List (Nat × PathGrid) := []
  /-- descriptors of each writer, oldest first: 0 host, 1 side control, 2 cell listener, 3 noise gate (R190) -/
  queues : List (Nat × List GridDesc) := []
  /-- descriptors of the cell listener that wait for credit (R190) -/
  clWait : List GridDesc := []
  sums : List (Nat × GridSum) := []
  /-- armings of rows so far (R200) -/
  arms : Nat := 0
deriving DecidableEq, Repr

/-! Chapter 8: frame timing, the GNSS receiver, the cell listener, the timing wheel. -/

/-- An observation of a frame boundary (R204): device time in 2^-16 tick with FRAME_OFFSET_NS added, and the frame index. -/
structure Obs where
  t : Int
  index : Nat
deriving DecidableEq, Repr

/-- A timing group behind its registers (R201 to R209). Boundaries are held to 2^-16 tick. -/
structure GroupRt where
  per : Nat := 161061273600
  bc : Nat := 0
  bn : Nat := 161061273600
  /-- the correction that waits for the first uncommitted boundary -/
  corr : Int := 0
  /-- candidates, newest first -/
  cand : List Obs := []
  /-- frames since the last accepted observation -/
  frames : Nat := 0
  /-- a step decided while the next boundary was committed, and the frame index of a next boundary that a step has placed -/
  step : Option Obs := none
  relabel : Option Nat := none
  /-- the primary and the secondary source in force, each with its carrier (R203), and the secondary one is in use (R209) -/
  pri : Nat × Nat := (0, 0)
  sec : Nat × Nat := (0, 0)
  useSec : Bool := false
  /-- the last multiple of 10 ms that fell as a boundary while the group had no clock, in ticks -/
  passed : Nat := 0
deriving DecidableEq, Repr

/-- A row that the wheel has planned at a port (R221): times in 1/3,125 tick. -/
structure PlanRow where
  path : Nat
  row : Nat
  start : Int
  stop : Int
deriving DecidableEq, Repr

/-- A port at the timing wheel (R221 to R223): the rows planned, the wheel's level of each output, when it last rose, and until when the
port stays dark after a denial (R280), in 1/3,125 tick. -/
structure WheelPort where
  plan : List PlanRow := []
  trx : Bool := false
  pa : Bool := false
  asks : Bool := false
  trxRose : Nat := 0
  paRose : Nat := 0
  /-- a time, in 1/3,125 tick, within the interval that is dark until its end (R280) -/
  dark : Option Int := none
  /-- the delay of a REQUEST rise has been reported (R223) -/
  delayed : Bool := false
deriving DecidableEq, Repr

/-- A listener carrier behind its registers (R216 to R219). -/
structure CarrierRt where
  /-- the pattern in force, and one that waits for a frame: CLS_PAT1 and CLS_PAT2 words, and its source -/
  pat1 : Word := 0
  pat2 : Word := 0
  next : Option (Word × Word × Nat) := none
  /-- the frame ordinals from which the waiting pattern applies, by timing group -/
  nextAt : List Nat := []
  /-- the host's staged pattern -/
  stage1 : Word := 0
  stage2 : Word := 0
  /-- the PCI last tracked, and the millisecond count when TRACK was left -/
  lastPci : Option Nat := none
  lostMs : Nat := 0
  /-- a SIB1 decode runs -/
  decoding : Bool := false
deriving DecidableEq, Repr

/-- The 1PPS and NMEA receiver behind the GNS registers (R210 to R215). -/
structure GnsSt where
  /-- accepted intervals, newest first: ticks and seconds -/
  intervals : List (Nat × Nat) := []
  /-- the last accepted edge, and the expected one in 2^-16 tick -/
  last : Option Nat := none
  expect : Nat := 0
  /-- seconds flywheeled since the last accepted edge, and seconds of edges and flywheeled windows so far -/
  missed : Nat := 0
  count : Nat := 0
  cand : List Nat := []
  /-- the GPS second of the edge labelled last, with the count at it, and its validity -/
  label : Option (Nat × Nat) := none
  labelled : Bool := false
  /-- discarded labels, newest first, each as the GPS second of the edge and the count at it -/
  badLabels : List (Nat × Nat) := []
  /-- a time sentence that waits for the next edge (LABEL = 1): its UTC second and the device time of its end -/
  waiting : Option (Nat × Nat) := none
  /-- no time sentence has been accepted for NMEA_TO_S -/
  nmeaLost : Bool := false
  /-- bytes of the sentence that is being received, oldest first, the device time of its "$", and a byte of it was lost -/
  line : List Nat := []
  lineDt : Nat := 0
  lost : Bool := false
  /-- a byte was lost in the address field, before the first comma -/
  lostAddr : Bool := false
  /-- bytes in XC18 that CD3 has not taken, each with whether a byte was lost before it, and whether one was lost since (R213) -/
  crossing : List (Bool × Nat) := []
  crossLost : Bool := false
  /-- the receiver waits for a full bit time of high line (R213) -/
  uartWait : Bool := false
deriving DecidableEq, Repr

/-- An observation that a source has yielded (R204): the device time and the index of the frame that begins there, and the groups that have not
taken it, a bit for each group's primary and secondary source. -/
structure SeenObs where
  t : Nat
  index : Nat
  left : Nat
deriving DecidableEq, Repr

/-- Chapter 8 behind the FTM, GNS and CLS registers. -/
structure FtmSt where
  /-- the last observation of each source -/
  seen : List (Nat × Option SeenObs) := []
  groups : List (Nat × GroupRt) := []
  ports : List (Nat × WheelPort) := []
  carriers : List (Nat × CarrierRt) := []
  gns : GnsSt := {}
deriving DecidableEq, Repr

/-! Chapter 9: regulatory set, limit gate, noise, Foxglove, budget. -/

/-- A Foxglove slot behind its registers (R241 to R245). -/
structure FoxRt where
  /-- domains whose contexts are in scope, as a mask (code 6) -/
  doms : Nat := 0
  /-- timing groups and stream and entry pairs whose condition a retry awaits (R238) -/
  groups : Nat := 0
  duties : List (Nat × Nat) := []
  /-- the policy fixed at the trigger (R243) -/
  limit : Nat := 0
  base : Nat := 0
  most : Nat := 0
  /-- the slot holds its mute bits -/
  muting : Bool := false
  /-- the chains are ready: only the paths still listed in `releasing` are muted (R245) -/
  lifting : Bool := false
  /-- paths whose mute waits for a frame boundary after the chains were ready (R245) -/
  releasing : Nat := 0
deriving DecidableEq, Repr

/-- On-time of an entry at a stream: blocks in the current second, and those of the seconds before, newest first (R238). -/
structure DutyRt where
  now : Nat := 0
  past : List Nat := []
deriving DecidableEq, Repr

/-- Chapter 9 behind the NPR and LIM registers. -/
structure NprSt where
  /-- the set in force and its release (R229, R251), by 16 times the entry plus the word -/
  regset : List (Nat × Word) := []
  release : Nat := 0x40
  /-- the staged set -/
  staged : List (Nat × Word) := []
  /-- corrected bin powers of the last 24 blocks of a transmit stream, newest first, in units of 2^-40 of full scale (R235) -/
  bins : List (Nat × List (List Nat)) := []
  /-- limiter attenuation of each transmit stream, in 1/96,000 of 1/64 dB (R235) -/
  attenQ : List (Nat × Nat) := []
  fox : List (Nat × FoxRt) := []
  /-- device times of onset triggers at the clamp floor, newest first (R238) -/
  oscHits : List (Nat × List Nat) := []
  /-- since when, plus one, a stream is clamped while MARGIN_NEG stands -/
  oscNeg : List (Nat × Nat) := []
  /-- since when, plus one, a bin of a stream exceeds OOB_LIM, by 64 times the stream plus the bin -/
  oob : List (Nat × Nat) := []
  /-- the 2.0 µs interval, plus one, in which the bins of a stream were last evaluated (R238) -/
  oobEval : List (Nat × Nat) := []
  /-- by 64 times the stream plus the entry -/
  duty : List (Nat × DutyRt) := []
  /-- ports at which each entry had eligible contexts in the last allocation (R246) -/
  eligPorts : List (Nat × Nat) := []
deriving DecidableEq, Repr

/-! Chapter 10: the front end. -/

/-- What a frame of the front-end link is sent for (R257, R272): 0 nothing, 1 a plain or timed write, 2 a chain command, 3 the class
register, 4 FWD, 5 REF, 6 DRAIN, 7 TEMP. -/
structure FelReq where
  op : Nat
  addr : Nat
  data : Nat
  /-- the time of the action of a timed request, in device ticks (R256) -/
  act : Option Nat := none
  use : Nat := 1
deriving DecidableEq, Repr

/-- A frame that awaits its response (R255, R258). -/
structure FelFrame where
  req : FelReq
  seq : Nat
  tries : Nat := 0
deriving DecidableEq, Repr

/-- A transition whose confirmation is awaited (R262): from and to, the device time of its timeout, and whether its command has been repeated. -/
structure ChainCheck where
  src : Nat
  dst : Nat
  due : Nat
  again : Bool := false
deriving DecidableEq, Repr

/-- A port's link, chain, calibrations and detectors behind the FEL registers. -/
structure FelPort where
  /-- the queues (R257): timed by action time, plain in arrival order, the chain command, the autopoll -/
  timed : List FelReq := []
  plain : List FelReq := []
  chainCmd : Option Nat := none
  poll : List Nat := []
  seq : Nat := 0
  /-- frames sent whose responses are awaited, oldest first, and frames to be sent again -/
  flight : List FelFrame := []
  again : List FelFrame := []
  /-- the frame sent last, as its 64 bits, and the device time at which it started -/
  sent : Nat := 0
  sentAt : Option Nat := none
  /-- the request whose frame failed last, and the ACK code that its requester sees (R258) -/
  lastFail : Option (FelReq × Nat) := none
  fails : Nat := 0
  valids : Nat := 0
  /-- CLASS_ID does not match: the chain is held in SLEEP (R260) -/
  mismatch : Bool := false
  /-- the transition in progress, from and to; its command has been repeated; a chain failure holds the chain (R262) -/
  moving : Option (Nat × Nat) := none
  repeated : Bool := false
  failed : Bool := false
  /-- device time from which the transition in progress counts, and since which the calibration runs (R262, R265) -/
  movedAt : Nat := 0
  calAt : Nat := 0
  /-- the transitions that responses have yet to confirm, oldest first -/
  checks : List ChainCheck := []
  /-- CHAIN_FAIL of a port that cannot receive during TX has been raised since its entry to RUN (R263) -/
  fddNoted : Bool := false
  /-- the calibration that runs, and those that wait: 0 SYNTH, 1 RXIQ, 2 RXGAIN (R265) -/
  cal : Option Nat := none
  calQueue : List Nat := []
  /-- RXIQ and RXGAIN are due at the next SYNTH_ON; the chain has not been in TX since SYNTH_ON -/
  calFirst : Bool := true
  unproved : Bool := true
  /-- LO_KHZ waits for the next STANDBY to SYNTH_ON (R267) -/
  loWaits : Bool := false
  /-- RXC_CAL in 1/64 dB, TXC_TRK in 2^-16 of that (R268, R270) -/
  rxcCal : Int := 0
  txcTrk : Int := 0
  /-- TX_OUT powers of the stream since the last detector pair, in units of 2^-30, and their number -/
  pow : Nat := 0
  powN : Nat := 0
  /-- a FWD reading that awaits its REF -/
  fwd : Option Int := none
  /-- device time of the last change of PA enable, ticks of PA-on time before it, and at the last valid pair (R272) -/
  paSince : Nat := 0
  paTicks : Nat := 0
  paMark : Nat := 0
  /-- consecutive readings: below RL_SHORT, RL_TRIP and RL_WARN, and good ones (R274) -/
  nShort : Nat := 0
  nTrip : Nat := 0
  nWarn : Nat := 0
  nGood : Nat := 0
  /-- PA enable is released to the wheel from this device time (R276) -/
  paFrom : Nat := 0
  /-- the last valid return losses, newest first; the tuner's trial: the code kept before it and the sum of its last two; its next direction -/
  rls : List Int := []
  trial : Option (Nat × Int) := none
  tuneUp : Bool := true
  /-- the device time at which the last timed write of the tuner's code acts (R277) -/
  tunedAt : Nat := 0
  /-- the module's calibration and PA fault bits in its last valid response (R255) -/
  calBusy : Bool := false
  paFault : Bool := false
  /-- the temperature band whose slopes the port's gains use (R268) -/
  band : Nat := 0
deriving DecidableEq, Repr

/-- A coexistence pair behind its registers (R280). -/
structure CxPair where
  rose : Nat := 0
  fell : Nat := 0
  /-- consecutive denials in required mode, LOSS, and PRIORITY high until the next granted burst -/
  denials : Nat := 0
  lost : Bool := false
  priHigh : Bool := false
  /-- the ports whose intervals in progress have been granted, each with a time within the interval, in 1/3,125 tick -/
  granted : List (Nat × Int) := []
deriving DecidableEq, Repr

/-- Chapter 10 behind the FEL and CXW registers. -/
structure FelSt where
  /-- committed descriptors, by 8 times the port plus the word, and the staged words (R260) -/
  desc : List (Nat × Word) := []
  stage : List (Nat × Word) := []
  ports : List (Nat × FelPort) := []
  pairs : List (Nat × CxPair) := []
deriving DecidableEq, Repr

/-! Chapter 11: converter links, fronthaul, PTP. -/

/-- A link group behind its JLK registers (R286 to R290). -/
structure JlkRt where
  /-- the receive link is lost and has not run again; the alarm of a transmit link that is not OFF is active; the lane PLL has lost its lock -/
  lost : Bool := false
  alarm : Bool := false
  unlocked : Bool := false
  /-- the filtered level of the input that ALARM_GPIO names (R290) -/
  alarmIn : Bool := false
  /-- the millisecond of the last CRC error, plus one, and the errors in it -/
  crcMs : Nat := 0
  crcN : Nat := 0
  /-- device time of the SYSREF edge that set the LEMC (R286) -/
  lemc : Nat := 0
deriving DecidableEq, Repr

/-- A flow behind its registers (R297 to R300). -/
structure FlowRt where
  /-- while the flow acquires, the frames that may be among its 16 in sequence, newest first: sequence number, blocks, arrival -/
  pend : List (Nat × List IqBlock × FhArrival) := []
  /-- the sequence number that follows -/
  next : Nat := 0
  /-- consecutive blocks late or dropped -/
  bad : Nat := 0
  /-- T_a, in ns; the sample index of the frame that follows; frames passed over, by the index of their first sample, with their blocks; and the
  blocks decoded into XC03 that wait for their release (R298) -/
  anchor : Nat := 0
  base : Nat := 0
  missing : List (Nat × Nat) := []
  fifo : List (Nat × List Int) := []
  /-- microsecond counts, plus one, of the last valid frame on side A and on side B, and since when A has been valid without a gap -/
  lastA : Nat := 0
  lastB : Nat := 0
  sinceA : Nat := 0
  /-- the sequence number of the next frame sent, and the lane from which striping goes on (R297) -/
  txSeq : Nat := 0
  txLane : Nat := 0
deriving DecidableEq, Repr

/-- A frame sent on a fronthaul side: side, lane, frame, finished with an inverted FCS. -/
structure FhSent where
  side : Nat
  lane : Nat
  frame : FhFrame
  bad : Bool := false
  /-- the bytes of its payload, of the messages that the spec lays out (R11, R296, R308, R310) -/
  payload : List Nat := []
  /-- its IEEE 802.1Q tag, kept on relay (R295) -/
  tag : Option (Fin 65536) := none
deriving DecidableEq, Repr

/-- A two-step Sync in transit (R305): the side it came from, domain, master, sequence number, residence in 2^-16 ns, millisecond count. -/
structure PtpTransit where
  side : Nat
  domain : Nat
  master : Nat
  seq : Nat
  residence : Int
  at_ : Nat
deriving DecidableEq, Repr

/-- The PTP time base and port (R26, R305, R306). Time is held in units of 1 ÷ (768 × 65,536 × 1,000,000) ns at a device time. -/
structure PtpRt where
  refDt : Nat := 0
  ref : Int := 0
  /-- the master chosen -/
  master : Option Nat := none
  /-- accepted Syncs in a row within LOCK_NS -/
  good : Nat := 0
  /-- LOCK fell only because the side went down, in this second, plus one -/
  sideLoss : Nat := 0
  /-- a two-step Sync that awaits its Follow_Up: sequence number, t2 in ns, correction -/
  sync : Option (Nat × Nat × Int) := none
  /-- t2 − t1 of the last accepted Sync less its correction, in 2^-16 ns -/
  fwd : Option Int := none
  /-- the last Delay_Req: sequence number and send stamp in ns -/
  req : Option (Nat × Nat) := none
  /-- two-step Syncs relayed within the last second, whose residence their Follow_Up takes (R305) -/
  transit : List PtpTransit := []
deriving DecidableEq, Repr

/-- Hop delay and alignment (R307 to R309). Delays in 2^-16 ns. -/
structure AlignRt where
  /-- the identifier of the next Request, and by side the last one sent: identifier and stamp -/
  owdId : Nat := 0
  owdSent : List (Nat × Option (Nat × Nat)) := []
  /-- d_in from the last Request received on side A, in ns -/
  dIn : Option Int := none
  hop : Option Int := none
  /-- values discarded in a row for their distance from h, newest first -/
  far : List Int := []
  hopValid : Bool := false
  /-- the last message: ACC_OUT in 1/16 ns, HOP, NOPREEMPT, TARGET_NS; and whether it is recent -/
  msg : Option (Nat × Nat × Bool × Nat) := none
  msgValid : Bool := false
  /-- ACC in 2^-16 ns, once formed -/
  acc : Option Int := none
  d : Int := 0
deriving DecidableEq, Repr

/-- Chapter 11 behind the JLK and FHL registers. -/
structure FhlSt where
  groups : List (Nat × JlkRt) := []
  flows : List (Nat × FlowRt) := []
  ptp : PtpRt := {}
  align : AlignRt := {}
  /-- frames sent, oldest first -/
  sent : List FhSent := []
  /-- the lanes that hold block lock: bit 4d + l for lane l of side d (R294, R503) -/
  blockLock : Nat := 0
deriving DecidableEq, Repr

/-! Chapter 12: command packets and capture. -/

/-- A report that waits to be sent (R324). -/
structure Report where
  kind : Nat
  ident : Nat
  page : Nat
  bit : Nat
  dt : Nat
  body : List Nat := []
deriving DecidableEq, Repr

/-- A request (R313, R314). -/
structure Pkt where
  cls : Nat
  typ : Nat
  ident : Nat
  /-- 0 PCI Express, 1 management Ethernet, 2 fronthaul, and the source address and port -/
  transport : Nat
  source : Nat
  seq : Nat
  arg16 : Nat
  arg32 : Nat
  payload : List Nat
  /-- the millisecond count at its arrival -/
  at_ : Nat
  /-- its action has begun, and waits for what it asked for (R194, R322) -/
  started : Bool := false
  /-- the lifecycle state at its acceptance (R334) -/
  lc : Nat := 0
deriving DecidableEq, Repr

/-- A packet that the device sends: an answer, a report or a capture record (R313, R315). -/
structure OutPkt where
  transport : Nat
  source : Nat
  cls : Nat
  kind : Nat
  typ : Nat
  ident : Nat
  status : Nat
  seq : Nat
  arg16 : Nat
  arg32 : Nat
  payload : List Nat
  /-- it holds a pool buffer until it has left (R328) -/
  buf : Bool := true
  /-- the identity whose key authenticates it (R317) -/
  keyId : Nat := 0
  /-- its bytes as they leave (R11, R313): header, payload, and the tag but for INFO -/
  wire : List Nat := []
deriving DecidableEq, Repr

/-- The replay state of an identity on a transport (R318): the highest SEQ accepted, the 64 below it that were seen, and the last four
requests with their answers. -/
structure Replay where
  high : Option Nat := none
  seen : Nat := 0
  cache : List (Nat × Option OutPkt) := []
deriving DecidableEq, Repr

/-- A capture record: its session offset, the flags of byte 0, the device time of its first sample, its data (R337). -/
structure CapRecord where
  off : Nat
  flags : Nat
  dt : Nat
  data : List Nat
deriving DecidableEq, Repr

/-- A capture session behind its registers (R336 to R339). -/
structure CapSession where
  bufKib : Nat := 0
  start : Nat := 0
  tgroup : Nat := 0
  startDt : Nat := 0
  length : Nat := 0
  /-- the transport and source of its CAP_OPEN -/
  transport : Nat := 0
  source : Nat := 0
  /-- records held, oldest first -/
  records : List CapRecord := []
  /-- data bytes that passed, those of dropped records included -/
  taken : Nat := 0
  /-- a record was kept; a record was dropped since; the offset has wrapped since -/
  kept : Bool := false
  gap : Bool := false
  wrapped : Bool := false
  /-- the millisecond count at which the destination was first seen lost -/
  lost : Option Nat := none
deriving DecidableEq, Repr

/-- An answer of the management Ethernet port itself (R326): to a Neighbor Solicitation for an address, or to an Echo Request. -/
inductive MgeAnswer where
  | advert (addr : Nat)
  | echo (addr data : Nat)
deriving DecidableEq, Repr

/-- The command packet engine and capture behind their registers. -/
structure GcpSt where
  /-- packets that wait for a buffer: those of a PCI Express ring by its class, of management Ethernet under 3, of the fronthaul under 4 (R330) -/
  arrived : List (Nat × List Pkt) := []
  /-- requests that wait in each queue, and the one that executes (R328) -/
  queues : List (Nat × List Pkt) := []
  running : List (Nat × Option Pkt) := []
  /-- packets sent, oldest first, and answers that wait for room in an answer ring, by class -/
  out : List OutPkt := []
  anWait : List (Nat × List OutPkt) := []
  /-- by 32 times the transport plus the identity -/
  replay : List (Nat × Replay) := []
  /-- no-buffer answers in a row (R331), by the same key -/
  noBuf : List (Nat × Nat) := []
  /-- the source of an identity's last authenticated management Ethernet request (R324) -/
  lastSource : List (Nat × Option Nat) := []
  /-- reports of each identity so far (R317) -/
  reportSeq : List (Nat × Nat) := []
  /-- functions with a 1 held for the end of a drain (R333) -/
  heldFn : Nat := 0
  /-- control starts in a row while bulk waits, and the transport whose turn comes next in each class (R328) -/
  controlRun : Nat := 0
  turn : List (Nat × Nat) := []
  /-- MSI-X vectors raised, by vector -/
  msix : List (Nat × Nat) := []
  caps : List (Nat × CapSession) := []
  /-- slots of the request and of the answer rings in BAR2, by 64 times the class plus the slot: length, two zero bytes, packet (R325) -/
  rqSlots : List (Nat × List Nat) := []
  anSlots : List (Nat × List Nat) := []
  /-- header-only answers of a transport that wait to leave (R331) -/
  staging : List (Nat × List OutPkt) := []
  /-- the requester at which the buffer arbiter's grant stands, and its allocations in a row (R330) -/
  bufOwner : Nat := 0
  bufRun : Nat := 0
  /-- answers of the management Ethernet port itself -/
  mgeOut : List MgeAnswer := []
deriving DecidableEq, Repr

/-! Chapter 13: the fault collector. -/

/-- The fault collector's state behind its registers (R348 to R360). -/
structure FltSt where
  /-- sources whose condition stands at the block that drives them -/
  drive : List (Nat × Bool) := []
  /-- sources that have risen, which the collector takes in turn (R352) -/
  risen : List (Nat × Bool) := []
  /-- sources with a confirmed disagreement of their two wires (R348) -/
  dual : List (Nat × Bool) := []
  /-- end of each source's counting window, in milliseconds (R352) -/
  winEnd : List (Nat × Nat) := []
  /-- writes of FLT_SCFG held for a severe source (R354) -/
  heldCfg : List (Nat × Option Word) := []
  /-- writes of FLT_SREACT held for a severe source (R354) -/
  heldReact : List (Nat × Option Word) := []
  /-- sources whose last rise was forced (R350) -/
  forced : List (Nat × Bool) := []
  /-- the fault interrupt of pair A and MSI-X vector 3 (R355) -/
  irqFault : Bool := false
  /-- the same interrupt, asserted for a page event (R346) -/
  irqEvent : Bool := false
  /-- pulses of the interrupt for rises below the threshold (R352, INFO_IRQ) -/
  infoIrqs : Nat := 0
  /-- non-maskable traps taken by both management pairs (R355) -/
  traps : Nat := 0
  /-- the limit gate's hard-wired mute input (R356, R358, R473): it holds from power-on until HEALTHY -/
  hardMute : Bool := true
  /-- the asynchronous pad override (R358): it holds from power-on until HEALTHY -/
  padOverride : Bool := true
  /-- the source of a chip reset reaction in progress (R356) -/
  resetSrc : Option Nat := none
deriving DecidableEq, Repr

/-! Chapter 14: the event recorder, the NV array and the hold-up supervisor. -/

/-- A record of the event recorder (R363 to R368). -/
structure Rec where
  code : Nat
  p0 : Nat
  p1 : Nat
  p2 : Nat
  /-- device time at the source -/
  dt : Nat
  gap : Bool := false
  reps : Nat := 0
  lastDt : Nat := 0
  seq : Nat := 0
  time : Nat := 0
  epoch : Nat := 0
deriving DecidableEq, Repr

/-- The event recorder (R363 to R372). The counts that a register shows live in that register. -/
structure EvrSt where
  /-- EPOCH_BASE, in the always-on domain; it has been lost at a power-on and is to be set anew (R365) -/
  epochBase : Nat := 0
  baseDue : Bool := true
  /-- the intake queue of 64 entries, oldest first (R366) -/
  intake : List Rec := []
  /-- the next accepted record carries GAP (R366) -/
  gapNext : Bool := false
  /-- the open segment, oldest record first (R369) -/
  openSeg : List Rec := []
  /-- full or flushed segments that wait for their commit, oldest first -/
  fullSegs : List (List Rec) := []
  /-- the segments committed to the log, by slot -/
  log : List (List Rec) := []
  /-- P0, P1 and P2 of the cleared record, held in the CLEAR journal entry while a clear runs (R372) -/
  clearRec : Option (Nat × Nat × Nat) := none
  /-- the last epoch for which a marker was written -/
  lastEpoch : Nat := 0
deriving DecidableEq, Repr

/-- An entry of the configuration journal (R373): type, key, sequence number, payload words, the CRC stored with it, and whether its commit word
is present. -/
structure JEntry where
  typ : Nat
  key : Nat
  jseq : Nat := 0
  payload : List Nat := []
  crc : Nat := 0
  committed : Bool := false
  /-- the half in which it lies; a word of it has become uncorrectable (R374, R376) -/
  half : Nat := 0
  lost : Bool := false
deriving DecidableEq, Repr

/-- A root key slot in OTP (R398). -/
structure RootSlot where
  key : List Word := []
  usage : Nat := 0
  programmed : Bool := false
  revoked : Bool := false
deriving DecidableEq, Repr

/-- A fuse burn of a root slot that waits for energy (R382, R398): the slot and what it becomes, whether it is a revocation, and the millisecond at
which it began to wait. -/
structure RootBurn where
  slot : Nat
  becomes : RootSlot
  revokes : Bool
  since : Nat
  blocked : Bool := false
deriving DecidableEq, Repr

/-- What an NV write does (R376, R377), in the controller's order of priority. -/
inductive NvJob where
  /-- the header and payload of a new journal entry, and then its commit word (R373) -/
  | journal (e : JEntry)
  | commit (e : JEntry)
  /-- the same whose commit word a reset has cut off (R374, R482) -/
  | bodyOnly (e : JEntry)
  /-- compaction: the copy of an entry in force, the HALF_SWITCH entry, the erase of the half that is not live (R374) -/
  | copy (e : JEntry)
  | halfSwitch
  | halfErase
  | segment (records : List Rec)
  | program (addr : Nat) (data : List Word)
  | erase (addr : Nat)
  /-- the erase of the log sectors during a clear (R372) -/
  | logErase
deriving DecidableEq, Repr

/-- An NV write that waits or runs. -/
structure NvReq where
  job : NvJob
  /-- the millisecond at which it began to wait for energy, when the check has refused it (R382) -/
  since : Option Nat := none
  blocked : Bool := false
  /-- band in force at its start (R376) -/
  band : Nat := 0
  /-- verify failures so far (R376) -/
  fails : Nat := 0
deriving DecidableEq, Repr

/-- The NV array and its controller (R373 to R378). -/
structure NvaSt where
  /-- bytes that differ from the erased byte 0xFF, by address (R375) -/
  bytes : List (Nat × Byte) := []
  /-- the journal entries of both halves, in the order in which they were written (R373) -/
  journal : List JEntry := []
  /-- the entries that a compaction in progress has yet to copy (R374) -/
  copying : Option (List JEntry) := none
  /-- the 16-byte words, by address divided by 16, that a read has found uncorrectable (R376) -/
  lost : List Nat := []
  waiting : List NvReq := []
  running : Option NvReq := none
  suspended : Option NvReq := none
  /-- a boot-bank request under verification: the bank and the identity that asked (R378, R401) -/
  bootReq : Option (Nat × Nat) := none
  /-- since when the oldest staged segment waits for energy, in milliseconds -/
  segSince : Option Nat := none
  /-- a fuse burn that waits for energy (R398) -/
  burn : Option RootBurn := none
deriving DecidableEq, Repr

/-- The hold-up supervisor (R379 to R389). -/
structure HupSt where
  /-- the last voltage samples at the pin, in 1/4096 of 1.25 V, newest first (R379) -/
  samples : List Nat := []
  /-- bank voltage in microvolts and charge in nanocoulombs, at the resolution of the estimates -/
  vUv : Nat := 0
  qNc : Int := 0
  /-- voltage and charge at the start of the charge in progress (R381) -/
  chargeFrom : Option (Nat × Int) := none
  /-- energies in microjoules (R380) -/
  eV : Nat := 0
  eQ : Nat := 0
  eLow : Nat := 0
  /-- PFAIL_N is high: the board's input supply is good -/
  supplyGood : Bool := true
  /-- V over the last 1 s, by microsecond and microvolts, oldest first: the samples below, and above, which none has come since; and the
  microsecond of the first sample (R381) -/
  vLows : List (Nat × Nat) := []
  vHighs : List (Nat × Nat) := []
  vSince : Option Nat := none
  /-- HUP_CFG changed and is committed once READY holds (R476) -/
  cfgDirty : Bool := false
  /-- F153 is driven by the 60 s limit on READY (R389) -/
  readyLate : Bool := false
deriving DecidableEq, Repr

/-! Chapter 15: lifecycle, debug, trace and power. -/

/-- A lifecycle transition in progress (R392): target, the identity that asked, whether the fuse words are burned, and whether step 4 is done, so
that the chip reset follows. -/
structure LcReq where
  target : Nat
  ident : Nat
  old : Nat
  burned : Bool := false
  entered : Bool := false
deriving DecidableEq, Repr

/-- A key change that waits for its journal commit (R395). -/
structure KeyReq where
  ident : Nat
  key : Option Nat
  who : Nat
deriving DecidableEq, Repr

/-- Lifecycle, keys and secure boot: what OTP and the journal hold (R391 to R401). -/
structure SecSt where
  /-- the lifecycle state in force, coded as in R37 -/
  lc : Nat := 0
  /-- the second fuse word of that state is burned (R391) -/
  secondWord : Bool := true
  redeploy : Nat := 3
  lcReq : Option LcReq := none
  /-- the packet key of each identity (R394) -/
  keys : List (Nat × Option Nat) := []
  keyReq : Option KeyReq := none
  roots : List (Nat × RootSlot) := [(0, { usage := 13, programmed := true })]
  fwSvn : Nat := 0
  extSvn : Nat := 0
  /-- the extension version that is running -/
  extRun : Nat := 0
  /-- SEC_PCIE_ROLE as last committed (R396) -/
  roleCommitted : Nat := 0x10
  /-- the boot bank that the journal names (R378) -/
  bootBank : Nat := 0
deriving DecidableEq, Repr

/-- Debug authentication (R402 to R405) behind the DBG registers. -/
structure DbgSt where
  /-- failures in a row (R404) -/
  row : Nat := 0
  /-- the lockout of the next failure, in seconds -/
  nextLock : Nat := 60
  /-- the length of the lockout in force, in seconds -/
  lockS : Nat := 0
  /-- the JTAG instruction in the instruction register, BYPASS being 0x3F (R405) -/
  jtag : Nat := 0x3F
  /-- pairs halted by the debugger at D2 (R402): bit 0 pair A, bit 1 pair B -/
  halted : Nat := 0
  /-- what the selected JTAG data register holds: IDCODE, 0 in BYPASS, or the last word that the debugger read (R402, R405) -/
  data : Word := 0
  /-- words of the pairs' memories that the debugger has written, by pair and address, until the pair runs again (R402) -/
  mem : List (Nat × Option Word) := []
deriving DecidableEq, Repr

/-- One word of the trace ring (R415). -/
structure TrcWord where
  source : Nat
  aux : Nat
  dt : Nat
  payload : Nat
deriving DecidableEq, Repr

/-- The trace ring (R415, R416). -/
structure TrcSt where
  ring : List (Nat × Option TrcWord) := []
deriving DecidableEq, Repr

/-- Power states (R406 to R416) behind the PWR registers. -/
structure PwrSt where
  /-- the target of the transition in progress -/
  target : Nat := 0
  /-- since when the SNOWDROP entry waits for an empty recorder stage, in milliseconds (R408 step 3) -/
  stageSince : Nat := 0
  /-- every chain is held at STANDBY (R407), and sleeps (R408 step 4); the microsecond at which it was commanded to -/
  hold : Bool := false
  asleep : Bool := false
  asleepUs : Nat := 0
  /-- device time latched at entry to SNOWDROP (R408 step 6) -/
  entryDt : Nat := 0
  /-- the CD41 count at entry (R409) -/
  entryCd41 : Nat := 0
  /-- the generation active at entry (R411) -/
  entryGen : Option Nat := none
  /-- a wake is decided and runs (R410) -/
  waking : Bool := false
  /-- wake pins that are high, as filtered (R409) -/
  level : List (Nat × Bool) := []
  /-- wake pins that are ignored until they go inactive (R409) -/
  stuck : List (Nat × Bool) := []
  /-- transports stopped for the entry (R408 step 2) -/
  transportsOff : Bool := false
deriving DecidableEq, Repr

/-! Chapter 16: housekeeping converters, supply PWM, fans, thermal. -/

/-- A housekeeping converter behind its registers (R429 to R436). -/
structure HkaRt where
  /-- the inputs of the scan in progress, in ascending order; empty when no scan runs -/
  chans : List Nat := []
  /-- the entry in progress -/
  entry : Nat := 0
  /-- the entry's conversion runs; otherwise it waits for its event, the reference or the end of an urgent conversion or calibration -/
  conv : Bool := false
  /-- HKA1 in interleave: the input of HKA0's scan that it converts (R433) -/
  twin : Option Nat := none
  /-- a calibration runs or waits for the reference -/
  cal : Bool := false
  /-- the external reference has passed its window; its failed comparisons in a row (R428, R432) -/
  extOk : Bool := false
  extFails : Nat := 0
  /-- scans in a row without a valid result, by entry (R431) -/
  miss : List (Nat × Nat) := []
  /-- writes held by a calibration: page offset and word (R436) -/
  held : List (Nat × Word) := []
deriving DecidableEq, Repr

/-- A PWM channel behind its registers (R438 to R441). -/
structure PwmRt where
  /-- a period is open, and has been limited -/
  running : Bool := false
  limited : Bool := false
  /-- limited periods in a row, and periods of the soft start that were not limited -/
  row : Nat := 0
  u : Nat := 0
  /-- h of the open period, in cycles -/
  h : Nat := 0
  /-- the limit input stands and the open period's sample is still to come (R440) -/
  pend : Bool := false
  /-- the microsecond at which the open period began -/
  openUs : Nat := 0
  /-- the cycle at which the open period was limited -/
  cut : Option Nat := none
  /-- the limit input is ignored until it releases (R428) -/
  ignored : Bool := false
deriving DecidableEq, Repr

/-- A fan behind its registers (R442 to R444). -/
structure FanRt where
  /-- accepted edges since standstill or the last reversal, held at 5 -/
  edges : Nat := 0
  /-- the intervals between the last of them in nanoseconds, newest first -/
  gaps : List Nat := []
  /-- the direction that the last edge showed -/
  last : Option Bool := none
deriving DecidableEq, Repr

/-- The housekeeping pages. -/
structure HkSt where
  hka : List (Nat × HkaRt) := []
  /-- urgent requests: input and fraction, the one served or pending first, then the one held (R434) -/
  urg : List (Nat × Nat) := []
  /-- the converter that serves the first of them -/
  urgOn : Option Nat := none
  pwm : List (Nat × PwmRt) := []
  fan : List (Nat × FanRt) := []
  /-- the last three readings of each sensor in 1/64 °C, newest first (R428) -/
  therm : List (Nat × List Int) := []
  /-- T_MAX at the last millisecond updates, newest first (R445) -/
  tHist : List Int := []
  /-- sensors whose comparator is set (R448) -/
  hard : List (Nat × Bool) := []
  /-- a thermal shutdown holds the mute input and the pad override (R447) -/
  thmMute : Bool := false
deriving DecidableEq, Repr

/-! Chapter 17: two-wire buses. -/

/-- A two-wire transaction (R457): its initiator's holder, none for an alert response; what was staged at its GO; the attempts made. -/
structure TwbTxn where
  holder : Option Nat
  prot : Nat
  pec : Bool
  addr : Nat
  cmd : Nat
  len : Nat
  data : List Nat
  attempts : Nat := 0
deriving DecidableEq, Repr

/-- A two-wire controller behind its registers. -/
structure TwbRt where
  queue : List TwbTxn := []
  running : Option TwbTxn := none
  /-- a recovery of the stuck bus runs -/
  retrying : Bool := false
deriving DecidableEq, Repr

/-- What the target port does (R464): nothing; a write to it, with the bytes since the START, address bytes among them, and whether a data byte is
still to come; a read from it, with the packet error check to follow, or past what it has; a read of the alert response address. -/
inductive TwtPhase where
  | idle
  | write (sel : Bool) (bytes : List Nat) (fresh : Bool)
  | read (bytes : List Nat) (pecNext pastEnd : Bool)
  | alert
deriving DecidableEq, Repr

/-- The target port behind its registers. -/
structure TwtSt where
  /-- receive entries as TWT_RX shows them, and transmit bytes with their LAST marks, oldest first -/
  rx : List Word := []
  tx : List (Nat × Bool) := []
  phase : TwtPhase := .idle
  /-- the last byte that the port sent -/
  sent : Nat := 0
  /-- it has called for attention since its last alert response (R465) -/
  called : Bool := false
  /-- in SNOWDROP: the address whose write woke the device, with SCL held low; the matcher has let go (R466) -/
  matched : Option Bool := none
  deaf : Bool := false
deriving DecidableEq, Repr

/-! Chapter 18: resets and the boot. -/

/-- Resets and the boot behind the RST registers (R470 to R486). -/
structure RstSt where
  /-- PORST_N, RESET_N and PCIE_PERST_N are low, as filtered -/
  porLow : Bool := false
  resetLow : Bool := false
  perst : Bool := false
  /-- fault sources of a block in reset that change when it is released: source and new level, by page (R479) -/
  held : List (Nat × List (Nat × Bool)) := []
  /-- an NVA block reset waits for the running operation (R481) -/
  nvaWaits : Bool := false
  /-- the pair watchdogs run, and the millisecond strobes since their last kick or expiry, by pair (R484) -/
  wdOn : List (Nat × Bool) := []
  wdMs : List (Nat × Nat) := []
  /-- the boot watchdog runs, and the second strobes that it has counted (R485) -/
  bootOn : Bool := false
  bootS : Nat := 0
  /-- CD41 cycles counted since power-on reset (R20, R22, R30) -/
  cd41 : Nat := 0
  /-- the always-on watchdog runs, the CD41 cycles since its last kick without those of a sleep, and those since a wake was decided (R486) -/
  aonOn : Bool := false
  aonCyc : Nat := 0
  wakeCyc : Nat := 0
  /-- pair A stays in ROM recovery (R400) -/
  recovery : Bool := false
deriving DecidableEq, Repr
/-- The state of the device. -/
structure State where
  /-- the family member (R2) -/
  member : Member := .lv7240
  /-- register words that differ from their reset value, by key (R32) -/
  regs : List (Nat × Word) := []
  /-- context words that differ from their reset value, by 64 times the context plus the word (R50) -/
  ctx : List (Nat × Word) := []
  /-- running timers: timer key to one more than the strobe count at the start (R25) -/
  timers : List (Nat × Nat) := []
  time : TimeSt := {}
  /-- rises of each event bit, by 32 times the page plus the bit (R42) -/
  evtCount : List (Nat × Nat) := []
  /-- count shadows, by 64 times the page plus the holder (R43) -/
  evtShadow : List (Nat × Option Nat) := []
  /-- expert locks, by 64 times the page plus the holder (R47) -/
  expert : List (Nat × ExpertSt) := []
  /-- shadows latched by a read of the first of two words, by the second word's address and holder (R23) -/
  shadow : List (Nat × Word) := []
  /-- the staged mantissa of each holder: the key of its word, and the value (R54) -/
  coefStage : List (Nat × Option (Nat × Word)) := []
  /-- the shift latched by a read of a mantissa, for each holder (R54) -/
  coefShadow : List (Nat × Option (Nat × Word)) := []
  /-- context table windows, by holder (R50) -/
  windows : List (Nat × Window) := []
  /-- writes that wait for a self-test to end (R40) -/
  heldWrites : List HeldWrite := []
  /-- the word that the last read of each holder returned -/
  rdata : List (Nat × Word) := []
  /-- the reason code of the last access of each holder, 0 when it was accepted (R49) -/
  busRefuse : List (Nat × Nat) := []
  /-- a capture in flight (R26) -/
  xts : Option XtsPair := none
  /-- failing supervision windows in a row of each clock domain, 2 once a PLL that feeds it is lost; 47 is REFCLK (R20) -/
  clockDev : List (Nat × Nat) := []
  /-- pages whose configuration check pass runs (R38) -/
  crcPass : List (Nat × Bool) := []
  /-- external inputs that are lost, by 0x10000 times the page plus the input's number in its page (R31) -/
  lostIn : List (Nat × Bool) := []
  /-- blocks that are out of reset (R37, R475) -/
  released : List (Nat × Bool) := []
  /-- clock domains gated by the power state (R516) -/
  gated : List (Nat × Bool) := []
  flt : FltSt := {}
  evr : EvrSt := {}
  nva : NvaSt := {}
  hup : HupSt := {}
  /-- reports that wait to be sent, oldest first (R324) -/
  reports : List Report := []
  sec : SecSt := {}
  dbg : DbgSt := {}
  trc : TrcSt := {}
  pwr : PwrSt := {}
  chn : ChnSt := {}
  sch : SchSt := {}
  can : CanSt := {}
  cen : CenSt := {}
  npr : NprSt := {}
  fel : FelSt := {}
  ggr : GgrSt := {}
  ftm : FtmSt := {}
  gcp : GcpSt := {}
  fhl : FhlSt := {}
  hk : HkSt := {}
  /-- the two-wire controllers behind their registers, by bus -/
  twb : List (Nat × TwbRt) := []
  twt : TwtSt := {}
  rst : RstSt := {}
  /-- the model's own: how many free values have been taken -/
  free : Nat := 0
  /-- the commands that wait, first in, first out -/
  pending : List Instr := []
deriving DecidableEq, Repr

/-- The state right after power-on reset: every register at its reset value, every clock stopped, no block ready (R474, R471). -/
def State.reset : State := {}

end Sys2Proof.Machine
end

