-- ==== Sys2Proof/Machine/Ops.lean ====
section
/-!
DEFINITION. The named operations that the meanings share: registers and context words, timers, page events, refusals, fault wires,
records, reports, free values, and the checks that admit a register access.
-/
namespace Sys2Proof.Machine

/-! Registers. -/

/-- The class of a fault source (R347, R351): N, WIN_MS, FIRST, LAST, ESC_MS, INFO_IRQ. -/
def faultClass (src : Nat) : Nat × Nat × Nat × Nat × Nat × Nat :=
  if src < 32 || (122 ≤ src && src ≤ 125) || src == 155 then (4, 1000, 1, 3, 1000, 1)
  else if src == 103 || src == 154 then (1, 1000, 5, 5, 1000, 0)
  else if [96, 98, 99, 101, 102, 128, 129, 130, 131, 140, 142, 143, 144, 145, 146, 147, 148, 149, 150, 151, 158, 159].contains src
  then (1, 1000, 2, 4, 100, 0)
  else (1, 1000, 1, 1, 1000, 0)

/-- RES, QMAX and HI_MARK of a buffer queue (R341): urgent, control and bulk by turns, then the internal source. -/
def bufReset (i : Nat) : Nat × Nat × Nat :=
  if i = 9 then (32, 128, 96) else if i % 3 = 0 then (8, 16, 12) else if i % 3 = 1 then (16, 64, 48) else (16, 128, 96)

/-- A word of the buffer queues, at an offset from the first (R341): BUF_QCFG, BUF_QMARK with HYST 4, BUF_QSTAT. -/
def bufResetWord (d : Nat) : Nat :=
  let (res, qmax, high) := bufReset (d / 12)
  if d % 12 = 0 then res * 0x400000 + qmax * 0x1000 else if d % 12 = 4 then high * 0x400000 + 4 * 0x20000 else 0

/-- GGR_Q of a writer (R190): depth, high mark, hysteresis. -/
def gridQueueReset (w : Nat) : Nat := if w < 2 then 256 * 0x800000 + 192 * 0x20 + 16 else 64 * 0x800000 + 48 * 0x20 + 4

/-- Reset words that differ from unit to unit, or that another rule gives: fault classes (R351), a trace channel's own TFROM (R173), the
limiter release while no set is committed (R251), probe seeds (R137), buffer queues (R341), grid writers (R190). -/
def regResetOdd (addr unit : Nat) : Option Nat :=
  if addr = 0x0704C then
    let (n, win, _, _, _, _) := faultClass unit
    some (n * 0x1000000 + win)
  else if addr = 0x07050 then
    let (_, _, first, last, esc, irq) := faultClass unit
    some (first * 0x20000000 + last * 0x4000000 + irq * 0x2000000 + esc)
  else if addr = 0x170CC then some (unit * 0x10000)
  else if addr = 0x19408 then some 0x40
  else if 0x140C0 ≤ addr ∧ addr ≤ 0x140FC then
    let n := (addr - 0x140C0) / 4
    some ((33 + 2 * n) * 0x10000 + (32 + 2 * n))
  else if 0x0C080 ≤ addr ∧ addr < 0x0C0F8 then some (bufResetWord (addr - 0x0C080))
  else if 0x15060 ≤ addr ∧ addr < 0x15070 then some (gridQueueReset ((addr - 0x15060) / 4))
  else none

/-- The header words that do not reset to zero (R37): PAGE_CTRL with CRC_CHECK_EN = 1 and ENABLE = 1, OWNER unowned. -/
def headerReset (off : Nat) : Nat :=
  if off = 0x008 then 0x5 else if off = 0x028 then 0x1F else 0

/-- The page whose register layout a page has: TWB0 for TWB0 to TWB3 (R467), JLK0 for the JLK pages (R33). -/
def regPage (page : Nat) : Nat := if 0x21 ≤ page ∧ page ≤ 0x24 then 0x21 else if 0x30 ≤ page then 0x30 else page

/-- The offset of a register in that layout: on a JLK page the registers of the odd group stand where the even group's do (R33, R292). -/
def regLocal (page off : Nat) : Nat :=
  if page < 0x30 then off else if 0x200 ≤ off ∧ off < 0x400 then off - 0x1C0 else if 0xA00 ≤ off then off - 0x5F8 else off

/-- The reset word of a register, by key. -/
def regReset (k : Nat) : Word :=
  let page := regPage (k % Fld.unitStep / 0x1000)
  let off := k % 0x1000
  let addr := page * 0x1000 + off
  if off < 0x40 then BitVec.ofNat 32 (headerReset off)
  else
    match regResetOdd addr (k / Fld.unitStep) with
    | some v => BitVec.ofNat 32 v
    | none =>
      match (resetRowsOf page).find? fun r => offIn r.1 r.2.1 r.2.2.1 addr with
      | some r => BitVec.ofNat 32 r.2.2.2
      | none => 0

/-- A register word, by key. -/
def State.word (s : State) (k : Nat) : Word := Tbl.get regReset s.regs k

/-- Writing a register word, by key. -/
def State.setWord (s : State) (k : Nat) (w : Word) : State := { s with regs := Tbl.set regReset s.regs k w }

/-- The value of a field for a unit. -/
def State.fget (s : State) (f : Fld) (u : Nat) : Nat := bitsOf (s.word (f.key u)) f.hi f.lo

/-- Writing a field for a unit; the value is cut to the field. -/
def State.fset (s : State) (f : Fld) (u v : Nat) : State := s.setWord (f.key u) (putBits (s.word (f.key u)) f.hi f.lo v)

/-- A field read as two's complement. -/
def State.fgetI (s : State) (f : Fld) (u : Nat) : Int := toSigned (s.fget f u) (fieldSize f.hi f.lo)

/-- Writing a field with a two's-complement value. -/
def State.fsetI (s : State) (f : Fld) (u : Nat) (v : Int) : State := s.fset f u (ofSigned v (fieldSize f.hi f.lo))

/-- A one-bit field read as a truth value. -/
def State.fon (s : State) (f : Fld) (u : Nat) : Bool := decide (s.fget f u = 1)

/-- Writing a one-bit field. -/
def State.fsetB (s : State) (f : Fld) (u : Nat) (b : Bool) : State := s.fset f u (if b then 1 else 0)

/-- Advancing a counter field that holds at its greatest value. -/
def State.fbump (s : State) (f : Fld) (u : Nat) : State :=
  s.fset f u (min (s.fget f u + 1) (fieldSize f.hi f.lo - 1))

/-- One bit of a field. -/
def State.fbit (s : State) (f : Fld) (u n : Nat) : Bool := (s.fget f u).testBit n

/-- Setting or clearing one bit of a field. -/
def State.fsetBit (s : State) (f : Fld) (u n : Nat) (b : Bool) : State :=
  s.fset f u (if b then s.fget f u ||| 2 ^ n else s.fget f u - (s.fget f u &&& 2 ^ n))

/-! Context words. -/

/-- The reset word of a context word, by key. -/
def ctxReset (k : Nat) : Word := BitVec.ofNat 32 (ctxResetWord (k % 64))

/-- Word w of context c. -/
def State.cword (s : State) (c w : Nat) : Word := Tbl.get ctxReset s.ctx (64 * c + w)

/-- Writing word w of context c. -/
def State.setCword (s : State) (c w : Nat) (v : Word) : State := { s with ctx := Tbl.set ctxReset s.ctx (64 * c + w) v }

/-- A field of a context. -/
def State.cget (s : State) (f : CFld) (c : Nat) : Nat := bitsOf (s.cword c f.word) f.hi f.lo

/-- Writing a field of a context. -/
def State.cset (s : State) (f : CFld) (c v : Nat) : State := s.setCword c f.word (putBits (s.cword c f.word) f.hi f.lo v)

/-- A field of a context read as two's complement. -/
def State.cgetI (s : State) (f : CFld) (c : Nat) : Int := toSigned (s.cget f c) (fieldSize f.hi f.lo)

/-- Writing a field of a context with a two's-complement value. -/
def State.csetI (s : State) (f : CFld) (c : Nat) (v : Int) : State := s.cset f c (ofSigned v (fieldSize f.hi f.lo))

/-- Advancing a counter field of a context that holds at its greatest value. -/
def State.cbump (s : State) (f : CFld) (c : Nat) : State :=
  s.cset f c (min (s.cget f c + 1) (fieldSize f.hi f.lo - 1))

/-! Timers (R25). A timer is named by a number and a unit; it remembers the strobe count at its start. -/

/-- The key of a timer. -/
def timerKey (tm u : Nat) : Nat := tm * 0x100000 + u

/-- Starting, or restarting, a timer at a strobe count. -/
def State.timerStart (s : State) (tm u count : Nat) : State :=
  { s with timers := Tbl.set (fun _ => 0) s.timers (timerKey tm u) (count + 1) }

/-- Stopping a timer. -/
def State.timerStop (s : State) (tm u : Nat) : State :=
  { s with timers := Tbl.set (fun _ => 0) s.timers (timerKey tm u) 0 }

/-- A timer runs. -/
def State.timerOn (s : State) (tm u : Nat) : Bool := decide (Tbl.get (fun _ => 0) s.timers (timerKey tm u) ≠ 0)

/-- A timer of n strobe periods has expired: n periods counted from the first strobe after its start (R25). -/
def State.timerDue (s : State) (tm u count n : Nat) : Bool :=
  let v := Tbl.get (fun _ => 0) s.timers (timerKey tm u)
  decide (v ≠ 0 ∧ v + n ≤ count)

/-- Strobe counts. -/
def State.us (s : State) : Nat := s.time.usCount
def State.ms (s : State) : Nat := s.time.msCount
def State.sec_ (s : State) : Nat := s.time.sCount

/-- Device time (R21). -/
def State.dt (s : State) : Nat := s.time.devTime

/-- PLL-A is locked: device time counts and the sample plane runs (R16, R20, R21). -/
def State.timeRuns (s : State) : Bool := s.fon CLK_PLL_STAT.PLLA_LOCK 0

/-- Moving device time forward to an instant at which a scheduled mechanism acts (R25, R27); it never moves back, and it stands while PLL-A,
which it counts (R16, R21), is not locked (R20). -/
def State.advanceTo (s : State) (t : Nat) : State :=
  if s.timeRuns then { s with time := { s.time with devTime := max s.time.devTime t } } else s

/-- Recorder time in microseconds (R28). -/
def recorderTime (dt : Nat) : Nat := dt * 25 / 6144

/-- Device time ticks of a number of nanoseconds, rounded up. -/
def ticksOfNs (ns : Nat) : Nat := ceilDiv (ns * 768) 3125

/-! Free values: values that the spec leaves open. -/

/-- The next free value. -/
def State.freeVal (s : State) : BitVec 64 := Config.freeValue s.free

/-- The state after a free value was taken. -/
def State.tookFree (s : State) : State := { s with free := s.free + 1 }

/-! Reports and records. -/

/-- Queueing a report (R324). -/
def State.report (s : State) (kind ident page bit : Nat) (body : List Nat) : State :=
  { s with reports := s.reports ++ [⟨kind, ident, page, bit, s.dt, body⟩] }

/-! Page events (R41 to R44, R346). -/

/-- The event bits common to all pages (R41). -/
def evtAccessRefused : Nat := 31
def evtCrcMismatch : Nat := 30
def evtRange : Nat := 29
def evtLoss : Nat := 28
def evtSaturation : Nat := 27

/-- Page numbers of the address map (R32). -/
def pgSYS : Nat := 0x00
def pgCLK : Nat := 0x01
def pgRST : Nat := 0x02
def pgPWR : Nat := 0x03
def pgSEC : Nat := 0x04
def pgDBG : Nat := 0x05
def pgTRC : Nat := 0x06
def pgFLT : Nat := 0x07
def pgEVR : Nat := 0x08
def pgNVA : Nat := 0x09
def pgHUP : Nat := 0x0A
def pgGCP : Nat := 0x0B
def pgBUF : Nat := 0x0C
def pgPCIE : Nat := 0x0D
def pgMGE : Nat := 0x0E
def pgCAP : Nat := 0x0F
def pgFHL : Nat := 0x10
def pgGNS : Nat := 0x11
def pgSCH : Nat := 0x12
def pgCHN : Nat := 0x13
def pgCAN : Nat := 0x14
def pgGGR : Nat := 0x15
def pgCLS : Nat := 0x16
def pgCEN : Nat := 0x17
def pgNPR : Nat := 0x18
def pgLIM : Nat := 0x19
def pgFTM : Nat := 0x1A
def pgFEL : Nat := 0x1B
def pgCXW : Nat := 0x1C
def pgHKA : Nat := 0x1D
def pgPWM : Nat := 0x1E
def pgFAN : Nat := 0x1F
def pgTHM : Nat := 0x20
def pgTWB : Nat := 0x21
def pgTWT : Nat := 0x25
def pgGPIO : Nat := 0x26
def pgCTXW : Nat := 0x27
def pgJLK : Nat := 0x30

/-- The live count of an event bit (R42). -/
def State.evtCountOf (s : State) (page n : Nat) : Nat := Tbl.get (fun _ => 0) s.evtCount (32 * page + n)

/-- Setting the live count of an event bit. -/
def State.setEvtCount (s : State) (page n v : Nat) : State :=
  { s with evtCount := Tbl.set (fun _ => 0) s.evtCount (32 * page + n) v }

/-- The page event source of a bit of a page (R346). -/
def eventSource (page n : Nat) : Nat := if n < 27 then 160 + 2 * page else 161 + 2 * page

/-- MSI-X vector v is raised (R325). -/
def State.raiseMsix (s : State) (v : Nat) : State :=
  { s with gcp := { s.gcp with msix := Tbl.set (fun _ => 0) s.gcp.msix v (Tbl.get (fun _ => 0) s.gcp.msix v + 1) } }

/-- A forwarded page event sets its pending bit and, when that bit is enabled, asserts the interrupt and sends the report of kind 3 (R346, R324). -/
def State.forward (s : State) (page n : Nat) : State :=
  let src := eventSource page n
  let k := src / 32 - 5
  let s := s.fsetBit FLT_EVT_PEND.PEND k (src % 32) true
  if s.fbit FLT_EVT_EN.EN k (src % 32) then
    let s := ({ s with flt := { s.flt with irqEvent := true } } : State).raiseMsix 3
    s.report 3 0x10 page n [s.fget EVT_LEVEL.LEVEL page]
  else s

/-- A rise of event bit n of a page (R42): sticky latches, the count advances and holds at 0xFFFFFF, an enabled bit forwards. -/
def State.riseHere (s : State) (page n : Nat) : State :=
  let s := s.fsetBit EVT_STICKY.STICKY page n true
  let s := s.setEvtCount page n (min (s.evtCountOf page n + 1) 0xFFFFFF)
  if s.fbit EVT_ENABLE.ENABLE page n then s.forward page n else s

/-! The trace ring (R415): page events are one of its sources. -/

/-- The ring holds a word where the next one goes: it is full. -/
def State.trcFull (s : State) : Bool := (Tbl.get (fun _ => none) s.trc.ring (s.fget TRC_STAT.WR_PTR 0)).isSome

/-- Writing stops while the ring is full under STOP_FULL (R415). -/
def State.trcStop (s : State) : State := s.fsetB TRC_STAT.STOPPED 0 (s.fon TRC_CTRL.STOP_FULL 0 && s.trcFull)

/-- An event of the ring's own writing (R427); it writes no trace word itself (DESIGN CHOICE, log 232). -/
def State.trcEvent (s : State) (n : Nat) : State := if s.fbit EVT_LEVEL.LEVEL pgTRC n then s else s.riseHere pgTRC n

/-- Writing a word into the ring: when it is full it stops or overwrites the oldest word (R415). -/
def State.trcWrite (s : State) (w : TrcWord) : State :=
  let p := s.fget TRC_STAT.WR_PTR 0
  if s.fon TRC_CTRL.STOP_FULL 0 && s.trcFull then (s.trcStop.fbump TRC_DROP.DROP 0).trcEvent 1
  else
    let t := if s.trcFull then s.fset TRC_STAT.WRAPPED 0 1 else s
    let t := { t with trc := { t.trc with ring := Tbl.set (fun _ => none) t.trc.ring p (some w) } }
    let t := (t.fset TRC_STAT.WR_PTR 0 ((p + 1) % 4096)).trcStop
    if p = 4095 then t.trcEvent 0 else t

/-- A source's word is admitted: the ring and the source are enabled and the debug level is D1 or above; markers always are (R415). -/
def State.trcAdmits (s : State) (source : Nat) : Bool :=
  decide (source = 0) ||
    (s.fon TRC_CTRL.EN 0 && decide (1 ≤ s.fget DBG_STAT.LEVEL 0) && (s.fget TRC_CTRL.SRC_EN 0).testBit (source - 1))

/-- The trace word of a page event (R415): page and bit in AUX, the page above the bit's eight bits (DESIGN CHOICE, log 232); the source data is a
free value. -/
def State.eventWord (s : State) (page n : Nat) : TrcWord :=
  { source := 4, aux := 256 * page + n, dt := s.dt, payload := (s.freeVal.setWidth 32).toNat }

/-- A rise of event bit n of a page (R42), which the trace ring takes as a word of its source 4 where that is admitted (R415). -/
def State.rise (s : State) (page n : Nat) : State :=
  let t := s.riseHere page n
  if t.trcAdmits 4 && t.fon PAGE_STAT.READY pgTRC then t.tookFree.trcWrite (t.eventWord page n) else t

/-- The raw condition of event bit n takes a level; a change from 0 to 1 is a rise (R42). -/
def State.cond (s : State) (page n : Nat) (b : Bool) : State :=
  let was := s.fbit EVT_LEVEL.LEVEL page n
  let s := s.fsetBit EVT_LEVEL.LEVEL page n b
  if b && !was then s.rise page n else s

/-- A raw condition that is high for one sample and falls again: one rise, unless the level already stood. -/
def State.pulse (s : State) (page n : Nat) : State :=
  if s.fbit EVT_LEVEL.LEVEL page n then s else s.rise page n

/-- A saturation (R13, R55): the page's SAT_COUNT advances, and SATURATION rises; a count held at its greatest value does not advance. -/
def State.saturate (s : State) (page : Nat) : State :=
  if s.fget SAT_COUNT.COUNT page + 1 < fieldSize SAT_COUNT.COUNT.hi SAT_COUNT.COUNT.lo then
    (s.fbump SAT_COUNT.COUNT page).pulse page evtSaturation
  else s

/-- n saturations of a page. -/
def State.saturateN (s : State) (page : Nat) : Nat → State
  | 0 => s
  | n + 1 => (s.saturate page).saturateN page n

/-! External inputs (R31). LOSS of a page stands while any of its inputs is lost. -/

/-- The key of an input of a page. -/
def inputKey (page k : Nat) : Nat := 0x10000 * page + k

/-- An input is lost. -/
def State.inputIsLost (s : State) (page k : Nat) : Bool := Tbl.get (fun _ => false) s.lostIn (inputKey page k)

/-- An input is lost, or valid again: the level of LOSS follows; its sticky bit stays until it is cleared (R31, R42). -/
def State.setInputLost (s : State) (page k : Nat) (b : Bool) : State :=
  let s := { s with lostIn := Tbl.set (fun _ => false) s.lostIn (inputKey page k) b }
  s.cond page evtLoss (s.lostIn.any fun e => decide (e.1 / 0x10000 = page) && e.2)

/-- An input's timeout expires: it is declared lost (R31). -/
def State.inputLost (s : State) (page k : Nat) : State := s.setInputLost page k true

/-- A valid value arrives at an input: a loss ends (R31). -/
def State.inputValid (s : State) (page k : Nat) : State := if s.inputIsLost page k then s.setInputLost page k false else s

/-- A watermark condition with hysteresis (R44): it rises at the mark and falls past the mark by the hysteresis. -/
def State.highMark (s : State) (page n fill mark hyst : Nat) : State :=
  if mark ≤ fill then s.cond page n true
  else if fill + hyst < mark then s.cond page n false
  else s

/-- A low watermark with hysteresis (R44). -/
def State.lowMark (s : State) (page n fill mark hyst : Nat) : State :=
  if fill ≤ mark then s.cond page n true
  else if mark + hyst < fill then s.cond page n false
  else s

/-- A record is dropped (R366): EVR_DROP counts it, RECORD_DROP rises, and the next record accepted carries GAP. -/
def State.dropRec (s : State) : State := (({ s with evr := { s.evr with gapNext := true } } : State).fbump EVR_DROP.DROPPED 0).pulse pgEVR 0

/-- A record enters the recorder's intake (R366): dropped when the queue is full, the log is full or the intake is closed; while a clear runs it
waits whatever the log holds (R372). -/
def State.enqueueRec (s : State) (r : Rec) : State :=
  if 64 ≤ s.evr.intake.length || (s.fon EVR_STAT.FULL 0 && !s.fon EVR_STAT.CLEARING 0) || s.fon EVR_STAT.PF_CLOSED 0 then s.dropRec
  else { s with evr := { s.evr with intake := s.evr.intake ++ [{ r with gap := s.evr.gapNext }], gapNext := false } }

/-- Posting a record to the recorder's intake, time-stamped at its source (R366). -/
def State.post (s : State) (code p0 p1 p2 : Nat) : State :=
  s.enqueueRec { code := code, p0 := p0 % 2 ^ 32, p1 := p1 % 2 ^ 32, p2 := p2 % 2 ^ 16, dt := s.dt }

/-- A fault source is driven by its block. -/
def State.driven (s : State) (src : Nat) : Bool := Tbl.get (fun _ => false) s.flt.drive src

/-- The level of a fault source at the collector (R348): its block drives it, or its wires disagree. -/
def State.faultLevel (s : State) (src : Nat) : Bool := s.driven src || Tbl.get (fun _ => false) s.flt.dual src

/-- FLT_LEVEL of a source follows the collector's level; a rise waits for the collector's step, FAULT_RISE (R348, R349, R352). -/
def State.noteLevel (s : State) (src : Nat) (was : Bool) : State :=
  let now := s.faultLevel src
  let s := s.fsetBit FLT_LEVEL.LEVEL (src / 32) (src % 32) now
  if now && !was then { s with flt := { s.flt with risen := Tbl.set (fun _ => false) s.flt.risen src true } } else s

/-- The block behind fault source i drives its wires (R346, R348). -/
def State.drive (s : State) (src : Nat) (b : Bool) : State :=
  ({ s with flt := { s.flt with drive := Tbl.set (fun _ => false) s.flt.drive src b } } : State).noteLevel src (s.faultLevel src)

/-! Pages and identities. -/

/-- A page is present (R32 to R34): not reserved, and not behind absent link groups. -/
def State.pagePresent (s : State) (page : Nat) : Bool :=
  decide (page < 0x28) || (decide (0x30 ≤ page ∧ page < 0x40) && s.member.present (2 * (page - 0x30)))

/-- A page's block is out of reset and its clock runs (R36, R37). -/
def State.running (s : State) (page : Nat) : Bool := s.fon PAGE_STAT.READY page

/-- The identity that a code names. -/
def identOfCode (c : Nat) : Option Ident :=
  if h : c < 16 then some (.domain ⟨c, h⟩)
  else if c = 0x10 then some .integrator
  else if c = 0x11 then some .manufacturer
  else if c = 0x12 then some .fieldService
  else if c = 0x13 then some .device
  else none

/-- The identity of an access (R46); none when no role is bound to PCI Express (R396). -/
def State.identOf (s : State) (i : Init) : Option Ident :=
  match i with
  | .pairA => some .device
  | .pairB => some .integrator
  | .engine id => some id
  | .pcie => identOfCode (s.fget SEC_LC.PCIE_ROLE 0)
  | .debug =>
    if s.fget DBG_STAT.LEVEL 0 = 0 then none else if s.fget DBG_STAT.SIGNER 0 < 4 then some .manufacturer else some .integrator

/-- Lifecycle codes (R37). -/
def lcBLANK : Nat := 0
def lcPROVISIONED : Nat := 1
def lcDEPLOYED : Nat := 2
def lcRETURNED : Nat := 3
def lcRETIRED : Nat := 4

/-- Identities admitted to basic writes in a lifecycle state (R46). -/
def basicAdmitted (lc : Nat) (id : Ident) : Bool :=
  match id with
  | .device => true
  | .manufacturer => decide (lc = lcBLANK ∨ lc = lcPROVISIONED ∨ lc = lcRETURNED)
  | .integrator => decide (lc = lcPROVISIONED ∨ lc = lcDEPLOYED)
  | .fieldService => decide (lc = lcRETURNED)
  | .domain _ => decide (lc = lcDEPLOYED)

/-- Identities admitted to expert writes of pages, after unlock, in a lifecycle state (R46). -/
def expertAdmitted (lc : Nat) (id : Ident) : Bool :=
  match id with
  | .domain _ => false
  | _ => basicAdmitted lc id

/-- The regulatory-set registers of the LIM page (R251). -/
def isRegSet (page off : Nat) : Bool :=
  decide (page = pgLIM) && (decide (off = 0x408) || decide (0x480 ≤ off ∧ off ≤ 0x4C0))

/-- The registers that host identities may write in RETIRED (R393). -/
def retiredWritable (page off : Nat) : Bool := decide (page = pgSEC ∧ (off = 0x050 ∨ off = 0x090))

/-- A page has an OWNER that can be written (R518 and the owning chapters: no page of this stepping has). -/
def hasOwner (_page : Nat) : Bool := false

/-- The expert lock of a page for an initiator or identity (R47). -/
def State.expertSt (s : State) (page : Nat) (i : Init) : ExpertSt := Tbl.get (fun _ => {}) s.expert (64 * page + i.holder)

/-- Writing an expert lock. -/
def State.setExpertSt (s : State) (page : Nat) (i : Init) (e : ExpertSt) : State :=
  { s with expert := Tbl.set (fun _ => {}) s.expert (64 * page + i.holder) e }

/-- The timers of the expert lock: the arming and the open period. -/
def tmExpertArm : Nat := 1
def tmExpertOpen : Nat := 2

/-- The unit of an expert lock's timers. -/
def expertUnit (page : Nat) (i : Init) : Nat := 64 * page + i.holder

/-- Check of a write against lifecycle, ownership and the expert lock (R46 to R48), for a page other than CTXW. -/
def State.admitWrite (s : State) (i : Init) (page off : Nat) : Option Reason :=
  match s.identOf i with
  | none => some .lifecycle
  | some id =>
    if s.sec.lc = lcRETIRED ∧ id ≠ .device then
      if (id = .manufacturer ∨ id = .fieldService) ∧ retiredWritable page off then none else some .lifecycle
    else if isRegSet page off then
      if s.sec.lc = lcPROVISIONED ∧ id = .manufacturer then
        if (s.expertSt page i).opened then none else some .expertLocked
      else some .lifecycle
    else if 0x400 ≤ off then
      if !expertAdmitted s.sec.lc id then some .lifecycle
      else if id = .device then none
      else if (s.expertSt page i).opened then none
      else some .expertLocked
    else if !basicAdmitted s.sec.lc id then some .lifecycle
    else
      match id with
      | .device => none
      | .domain d => if hasOwner page && decide (s.fget OWNER.ID page = d.val) then none else some .notOwner
      | _ =>
        if hasOwner page && decide (s.fget OWNER.ID page ≠ 0x1F) && decide (s.fget OWNER.ID page ≠ id.code) then some .notOwner else none

/-! The debug port and ROM recovery (R400, R402, R404). -/

def tmDbgIdle : Nat := 12

/-- TCK moves: above D0 the idle count restarts (R404). -/
def State.tckEdge (s : State) : State := if 0 < s.fget DBG_STAT.LEVEL 0 then s.timerStart tmDbgIdle 0 s.sec_ else s

/-- An access of an initiator is itself TCK edges where it comes through the debug port. -/
def State.portEdge (s : State) (i : Init) : State := if i = .debug then s.tckEdge else s

/-- An initiator reaches registers with a write: it has an identity, and the debug port stands at D2 (R396, R402). -/
def State.reaches (s : State) (i : Init) : Bool :=
  (s.identOf i).isSome && (decide (i ≠ .debug) || decide (2 ≤ s.fget DBG_STAT.LEVEL 0))

/-- A write that ROM recovery serves: NVA programming through BAR0 by the bound role, and the mailbox rings that carry INFO there (R400; the rings
DESIGN CHOICE, log 233). -/
def romServes (i : Init) (page off : Nat) : Bool :=
  decide (i = .pcie) && (decide (page = pgNVA ∧ 0x044 ≤ off ∧ off < 0x05C) || decide (page = pgPCIE ∧ 0x080 ≤ off ∧ off < 0x0B0))

/-- A page that ROM recovery serves to reads (R400; the mailbox's DESIGN CHOICE, log 233). -/
def romShows (page : Nat) : Bool := [pgSYS, pgSEC, pgNVA, pgEVR, pgPCIE].contains page

/-- The register of a page at an offset. -/
def regAt (page off : Nat) : Option RegD := (regsOf (regPage page)).find? fun r => offIn r.off r.step r.count (regLocal page off)

/-- A word is counted by PAGE_CRC (R38, R517), and so refused while CFG_LOCK is set (R39): OWNER where it holds an RW field (R37), and the
configuration words of the page. -/
def countedAt (page off : Nat) : Bool :=
  (hasOwner page && decide (off = 0x028)) || (match regAt page off with | some r => r.counted | none => false)

/-- The holder's last access was accepted. -/
def State.accepted (s : State) (i : Init) : State :=
  { s with busRefuse := Tbl.set (fun _ => 0) s.busRefuse i.holder 0 }

/-- A refused access (R49): reason and initiator are recorded in PAGE_STAT and ACCESS_REFUSED rises; a refusal for a block that does
not run is recorded in the SYS page (R36). -/
def State.refuse (s : State) (i : Init) (page : Nat) (r : Reason) : State :=
  let at_ := if r = .notRunning then pgSYS else page
  let s := { s with busRefuse := Tbl.set (fun _ => 0) s.busRefuse i.holder r.code }
  let s := (s.fset PAGE_STAT.LAST_REFUSE at_ r.code).fset PAGE_STAT.LAST_INIT at_ i.number
  s.pulse at_ evtAccessRefused

/-- Any write to a page other than the second unlock word disarms the writer's expert lock of that page (R47). -/
def State.disarm (s : State) (i : Init) (page : Nat) : State :=
  if (s.expertSt page i).armed then
    (s.setExpertSt page i { s.expertSt page i with armed := false }).timerStop tmExpertArm (expertUnit page i)
  else s

/-- An accepted expert write restarts the writer's open period (R47). -/
def State.keepOpen (s : State) (i : Init) (page off : Nat) : State :=
  if 0x400 ≤ off && (s.expertSt page i).opened then s.timerStart tmExpertOpen (expertUnit page i) s.ms else s

/-- An accepted write discards the configuration check pass that runs on its page (R38). -/
def State.dropCrcPass (s : State) (page : Nat) : State := { s with crcPass := Tbl.set (fun _ => false) s.crcPass page false }

/-- What a register write answers: the state after it, or the reason of its refusal. -/
abbrev WRes := Except Reason State

/-- A register write of initiator `i` at an offset of a page, admitted as `adm` says: the checks of the register bus in order (absent page
R6, stopped block R36, what ROM recovery does not serve R400, no role R396, debug level R402, admission, CFG_LOCK R39), a write held by a running
self-test (R40), then the register's own effect. What recovery does not serve is refused as of a block that does not run (DESIGN CHOICE, log 233);
a write to the SYS page without a role is refused by the admission (DEDUCED, log 234). -/
def State.accessBy (s : State) (adm : State → Option Reason) (i : Init) (page off : Nat) (v : Word) (f : State → WRes) : State :=
  let s := (s.portEdge i).disarm i page
  if !s.pagePresent page then { s with busRefuse := Tbl.set (fun _ => 0) s.busRefuse i.holder Reason.unitAbsent.code }
  else if !s.running page || s.rst.recovery && !romServes i page off then s.refuse i page .notRunning
  else if (s.identOf i).isNone && decide (page ≠ pgSYS ∨ i = .debug) then
    { s with busRefuse := Tbl.set (fun _ => 0) s.busRefuse i.holder Reason.lifecycle.code }
  else if (s.identOf i).isSome && !s.reaches i then s.refuse i page .lifecycle
  else
    match (if s.rst.recovery then none else adm s) with
    | some r => s.refuse i page r
    | none =>
      if s.fon PAGE_CTRL.CFG_LOCK page && countedAt page off then s.refuse i page .configLocked
      else if s.fon PAGE_STAT.SELFTEST_ACTIVE page then
        State.accepted { s with heldWrites := s.heldWrites ++ [HeldWrite.mk page i (page * 0x1000 + off) v] } i
      else
        match f s with
        | .error r => s.refuse i page r
        | .ok s' => ((s'.accepted i).keepOpen i page off).dropCrcPass page

/-- A register write under the admission of R46 to R48. -/
def State.access (s : State) (i : Init) (page off : Nat) (v : Word) (f : State → WRes) : State :=
  s.accessBy (fun s => s.admitWrite i page off) i page off v f

/-- The answer of a read: the word goes to the reader. -/
def State.answerRead (s : State) (i : Init) (w : Word) : State :=
  { s with rdata := Tbl.set (fun _ => 0) s.rdata i.holder w }

/-- The word of the reader's last read. -/
def State.readOf (s : State) (i : Init) : Word := Tbl.get (fun _ => 0) s.rdata i.holder

/-- A read is refused: it returns 0 and the refusal is recorded (R49). -/
def State.refuseRead (s : State) (i : Init) (page : Nat) (r : Reason) : State := (s.refuse i page r).answerRead i 0

/-- Check of a read (R36, R48): a stopped block, an unowned page for a domain and pages of other owners. -/
def State.admitRead (s : State) (i : Init) (page : Nat) : Option Reason :=
  if !s.running page then some .notRunning
  else
    match s.identOf i with
    | some (.domain d) =>
      if hasOwner page && decide (s.fget OWNER.ID page ≠ 0x1F) && decide (s.fget OWNER.ID page ≠ d.val) then some .notOwner else none
    | _ => none

/-- A read of initiator `i` at a page: the checks of the register bus, then the register's own answer. The debug port is closed at D0 (R402). -/
def State.accessRead (s : State) (i : Init) (page : Nat) (f : State → State) : State :=
  let s := s.portEdge i
  if !s.pagePresent page then s.answerRead i 0
  else if s.rst.recovery && !romShows page then s.refuseRead i page .notRunning
  else if (s.identOf i).isNone && decide (page ≠ pgSYS ∨ i = .debug) then s.answerRead i 0
  else
    match s.admitRead i page with
    | some r => s.refuseRead i page r
    | none => f (s.accepted i)

/-- A range of a writable field is kept by a word. -/
def RangeD.ok (r : RangeD) (w : Word) : Bool :=
  let v := bitsOf w r.hi r.lo
  let x : Int := if r.signed then toSigned v (fieldSize r.hi r.lo) else (v : Int)
  decide (r.least ≤ x ∧ x ≤ r.most)

/-- Every range of the register at an offset is kept by a word. -/
def rangesOk (page off : Nat) (w : Word) : Bool :=
  (rangesOf (regPage page)).all fun r => !offIn r.off r.step r.count (regLocal page off) || r.ok w

/-- The stored word after a write: RW bits take the new value, RW1C bits written 1 clear, every other bit stays (R35). -/
def RegD.merge (r : RegD) (old v : Word) : Word :=
  let rw : Word := BitVec.ofNat 32 r.rw
  let w1 : Word := BitVec.ofNat 32 r.w1c
  (old &&& ~~~rw &&& ~~~(w1 &&& v)) ||| (v &&& rw)

/-- A write of the RW and RW1C bits of a register under a key, after the range checks. -/
def State.mergeReg (s : State) (page off key : Nat) (v : Word) : WRes :=
  match regAt page off with
  | none => .ok s
  | some r =>
    let w := r.merge (s.word key) v
    if rangesOk page off w then .ok (s.setWord key w) else .error .outOfRange

/-- A truth value as a check of a write. -/
def orRefuse (ok : Bool) (r : Reason) (k : WRes) : WRes := if ok then k else .error r

end Sys2Proof.Machine
end

