-- ==== Sys2Proof/Machine/Codec.lean ====
section
/-!
DEFINITION. Byte orders and cyclic redundancy checks: most significant byte first (R11), CRC-32 of the configuration checks (R38),
CRC-16 of records (R363).
-/
namespace Sys2Proof.Machine

/-- The n bytes of a value, most significant first. -/
def beBytes : Nat → Nat → List Nat
  | 0, _ => []
  | n + 1, v => (v / 256 ^ n) % 256 :: beBytes n v

/-- The value of bytes, most significant first. -/
def beValue (l : List Nat) : Nat := l.foldl (fun a b => a * 256 + b % 256) 0

/-- Big-endian words of a list of bytes; a short last word is filled with zeros. -/
def wordsOfBytes : List Nat → List Nat
  | [] => []
  | [a] => [a * 2 ^ 24]
  | [a, b] => [a * 2 ^ 24 + b * 2 ^ 16]
  | [a, b, c] => [a * 2 ^ 24 + b * 2 ^ 16 + c * 2 ^ 8]
  | a :: b :: c :: d :: t => (a * 2 ^ 24 + b * 2 ^ 16 + c * 2 ^ 8 + d) :: wordsOfBytes t

/-- One byte of the CRC-32 of IEEE 802.3, bits reflected. -/
def crc32Step (crc : Nat) (b : Nat) : Nat :=
  (List.range 8).foldl (fun c _ => if c % 2 = 1 then (c / 2) ^^^ 0xEDB88320 else c / 2) (crc ^^^ (b % 256))

/-- CRC-32, initial value and final XOR 0xFFFFFFFF (R38). -/
def crc32 (l : List Nat) : Nat := (l.foldl crc32Step 0xFFFFFFFF) ^^^ 0xFFFFFFFF

/-- The bytes of a word, least significant first, as R38 feeds them. -/
def leBytes (w : Word) : List Nat := [w.toNat % 256, w.toNat / 256 % 256, w.toNat / 65536 % 256, w.toNat / 16777216 % 256]

/-- One byte of the CRC-16 x^16 + x^12 + x^5 + 1. -/
def crc16Step (crc : Nat) (b : Nat) : Nat :=
  (List.range 8).foldl (fun c _ => if c / 0x8000 % 2 = 1 then (c * 2 % 0x10000) ^^^ 0x1021 else c * 2 % 0x10000)
    (crc ^^^ (b % 256 * 256))

/-- CRC-16 with initial value 0xFFFF (R363). -/
def crc16 (l : List Nat) : Nat := l.foldl crc16Step 0xFFFF

/-- One byte of CRC-8 with the polynomial x^8 + x^2 + x + 1, as the two-wire packet error check uses it. -/
def crc8Step (crc : Nat) (b : Nat) : Nat :=
  (List.range 8).foldl (fun c _ => if c / 128 % 2 = 1 then (c * 2 % 256) ^^^ 7 else c * 2 % 256) (crc ^^^ (b % 256))

/-- The 30 bytes of a record before its CRC (R363); `staged` sets the read-out flag. -/
def Rec.bytes (r : Rec) (staged : Bool) : List Nat :=
  beBytes 2 r.code ++ beBytes 2 r.epoch ++ beBytes 5 r.time ++
    [(if r.gap then 128 else 0) + (if staged then 64 else 0)] ++
    beBytes 2 r.reps ++ beBytes 4 r.lastDt ++ beBytes 4 r.seq ++ beBytes 4 r.p0 ++ beBytes 4 r.p1 ++ beBytes 2 r.p2

/-- The 32 bytes of a record as it is read out; the CRC covers bytes 0 to 29 as they are stored, with STAGED 0. -/
def Rec.encode (r : Rec) (staged : Bool) : List Nat := r.bytes staged ++ beBytes 2 (crc16 (r.bytes false))

end Sys2Proof.Machine
end

