-- ==== Sys2Proof/Machine/Evr.lean ====
section
/-!
DEFINITION. Chapter 14: the event recorder, the configuration journal, the NV array controller and the hold-up supervisor.
-/
namespace Sys2Proof.Machine

/-! The recorder. -/

/-- The full epoch of a recorder time (R364). -/
def State.epochAt (s : State) (rt : Nat) : Nat := s.evr.epochBase + rt / 2 ^ 40

/-- Records in the RAM stage (EVR_STAT.STAGED). -/
def EvrSt.staged (e : EvrSt) : Nat := e.openSeg.length + (e.fullSegs.map List.length).sum

/-- Slots that committed and staged segments take (R370). -/
def EvrSt.slotsTaken (e : EvrSt) : Nat := e.log.length + e.fullSegs.length + (if e.openSeg.isEmpty then 0 else 1)

/-- Writing the recorder's state and the counts that EVR_STAT and EVR_LOGGED show. -/
def State.setEvr (s : State) (e : EvrSt) : State :=
  let s := { s with evr := e }
  let s := s.fset EVR_STAT.STAGED 0 e.staged
  let s := s.fset EVR_STAT.SLOTS_USED 0 e.log.length
  let s := s.fset EVR_LOGGED.LOGGED 0 (e.log.map List.length).sum
  s.highMark pgEVR 1 e.log.length (s.fget EVR_CFG.HI_MARK 0) (s.fget EVR_CFG.HYST 0)

/-- FULL and LOG_FULL follow the slots that remain (R370): none remains when a new segment would need a slot past the last. -/
def State.checkFull (s : State) : State :=
  if s.evr.openSeg.isEmpty && decide (1024 ≤ s.evr.slotsTaken) then (s.fset EVR_STAT.FULL 0 1).cond pgEVR 2 true else s

/-- Putting a record that is not merged into the stage: it takes the next SEQ, and a segment of 64 is queued (R367, R369). -/
def State.stageRec (s : State) (r : Rec) : State :=
  let seq := s.fget EVR_SEQ.SEQ 0
  let e := s.evr
  let open' := e.openSeg ++ [{ r with seq := seq }]
  let e := if 64 ≤ open'.length then { e with openSeg := [], fullSegs := e.fullSegs ++ [open'] } else { e with openSeg := open' }
  ((s.fset EVR_SEQ.SEQ 0 (seq + 1)).setEvr e).checkFull

/-- A record and the one before it merge (R367). -/
def Rec.mergesWith (last r : Rec) : Bool :=
  decide (last.code = r.code ∧ last.p0 = r.p0 ∧ last.p1 = r.p1 ∧ last.p2 = r.p2 ∧ 0x1000 ≤ r.code ∧
    recorderTime r.dt - recorderTime last.dt < 2 ^ 32)

/-- A record is accepted into the stage (R367, R370); an epoch marker has TIME 0 and is shown by EPOCH (R364, R390). A merge keeps the GAP of the
record that it takes in (DEDUCED, log 230). -/
def State.acceptRec (s : State) (r : Rec) : State :=
  let rt := recorderTime r.dt
  if r.code = 0x0002 then (s.stageRec { r with time := 0, epoch := r.p0 % 2 ^ 16 }).pulse pgEVR 3 else
  let r := { r with time := rt % 2 ^ 40, epoch := s.epochAt rt % 2 ^ 16 }
  match s.evr.openSeg.getLast? with
  | some last =>
    if last.mergesWith r then
      let m := { last with reps := min (last.reps + 1) 65535, lastDt := rt - recorderTime last.dt, gap := last.gap || r.gap }
      s.setEvr { s.evr with openSeg := s.evr.openSeg.dropLast ++ [m] }
    else s.stageRec r
  | none => s.stageRec r

/-- RECORD_POST: a source posts a record (R366, R368). -/
def execRecordPost (code p0 p1 p2 : Nat) (s : State) : Host.Outcome State Fault Refusal :=
  .next (s.post code p0 p1 p2)

/-- The stage takes one record more: of its 32 segments the open one, or one that can open (R369). -/
def EvrSt.stageRoom (e : EvrSt) : Bool := !e.openSeg.isEmpty || decide (e.fullSegs.length < 32)

/-- The recorder takes records: Primrose has started it (R475 step 9), no clear runs (R372), and the stage has room; otherwise they wait in the
intake (DEDUCED for a full stage, log 230). -/
def State.recorderTakes (s : State) : Bool := decide (9 ≤ s.fget RST_STAT.STEP 0) && !s.fon EVR_STAT.CLEARING 0 && s.evr.stageRoom

/-- The recorder takes the oldest record of the intake (R366, R367, R370). -/
def State.takeRec (s : State) : State :=
  if !s.recorderTakes then s
  else
    match s.evr.intake with
    | [] => s
    | r :: rest =>
      let s := { s with evr := { s.evr with intake := rest } }
      if s.fon EVR_STAT.FULL 0 then s.dropRec else s.acceptRec r

/-- RECORD_INTAKE (R366). -/
def execRecordIntake (s : State) : Host.Outcome State Fault Refusal := .next (if s.running pgEVR && s.fon PAGE_CTRL.ENABLE pgEVR then s.takeRec else s)

/-- Every record of the intake is taken. -/
def State.drainIntake (s : State) : State := s.evr.intake.foldl (fun s _ => s.takeRec) s

/-- An epoch marker for epoch `e` (R364): the recorder writes it itself, or, where it takes no records, lets it wait with them (R372); it is dropped
as any record is (R366, R370). -/
def State.epochMarker (s : State) (e : Nat) : State :=
  let s := { s with evr := { s.evr with lastEpoch := e } }
  let s := s.fset EVR_EPOCH.E 0 e
  let r : Rec := { code := 0x0002, p0 := e % 2 ^ 32, p1 := 0, p2 := 0, dt := s.dt, gap := s.evr.gapNext }
  if !s.recorderTakes then s.enqueueRec r
  else if s.fon EVR_STAT.FULL 0 || s.fon EVR_STAT.PF_CLOSED 0 then s.dropRec
  else ({ s with evr := { s.evr with gapNext := false } } : State).acceptRec r

/-- RECORDER_EPOCH_WRAP: recorder time reaches the next multiple of 2^40 µs, and the epoch marker is written (R364). -/
def execRecorderEpochWrap (s : State) : Host.Outcome State Fault Refusal :=
  .next (
    let e := s.epochAt (recorderTime s.dt)
    if s.evr.lastEpoch < e then s.epochMarker e
    else
      let k := recorderTime s.dt / 2 ^ 40 + 1
      let s := s.advanceTo (ceilDiv (k * 2 ^ 40 * 6144) 25)
      s.epochMarker (s.evr.epochBase + k))

/-- The open segment is queued for its commit, if it holds a record (R369). -/
def State.flushOpen (s : State) : State :=
  if s.evr.openSeg.isEmpty then s
  else (s.setEvr { s.evr with openSeg := [], fullSegs := s.evr.fullSegs ++ [s.evr.openSeg] }).checkFull

/-- EVR_FLUSH: a write of EVR_CMD.FLUSH = 1 (R369, R387). -/
def evrFlush (s : State) : WRes := .ok s.flushOpen

def execEvrFlush (who : Init) (s : State) : Host.Outcome State Fault Refusal :=
  .next (s.access who pgEVR 0x058 0x80000000 evrFlush)

/-! Energy (R376, R380 to R382). -/

/-- Row program time in microseconds of a band (R376). -/
def rowTime (band : Nat) : Nat :=
  match band with
  | 0 => 120
  | 1 => 100
  | 4 => 100
  | _ => 80

/-- Sector erase time in microseconds of a band (R376). -/
def eraseTime (band : Nat) : Nat :=
  match band with
  | 0 => 60000
  | 1 => 50000
  | 4 => 55000
  | _ => 40000

/-- Bytes that a journal entry takes: header, payload padded to 16 bytes, commit word (R373). -/
def JEntry.size (e : JEntry) : Nat := 32 + (4 * e.payload.length + 15) / 16 * 16 + 16

/-- Duration of an NV write in microseconds: rows programmed, or sectors erased (R376). A journal entry programs its rows and then its commit word. -/
def NvJob.duration (band : Nat) : NvJob → Nat
  | .journal e => rowTime band * (ceilDiv (e.size - 16) 256 + 1)
  | .commit _ => rowTime band
  | .bodyOnly e => rowTime band * ceilDiv (e.size - 16) 256
  | .copy e => rowTime band * (ceilDiv (e.size - 16) 256 + 1)
  | .halfSwitch => 2 * rowTime band
  | .halfErase => 16 * eraseTime band
  | .segment r => rowTime band * ceilDiv (32 * r.length) 256
  | .program _ _ => rowTime band
  | .erase _ => eraseTime band
  | .logErase => 16 * eraseTime band

/-- E(w) in nanojoules (R382). -/
def State.energyOf (s : State) (durationUs : Nat) : Nat := s.fget HUP_X1.HOLD_MW 0 * durationUs

/-- Staged segments that hold records, the open one included (R382). -/
def EvrSt.stagedSegs (e : EvrSt) : Nat := e.fullSegs.length + (if e.openSeg.isEmpty then 0 else 1)

/-- E_RES in nanojoules for S staged segments (R382). -/
def State.eRes (s : State) (segs : Nat) : Nat :=
  1000 * s.fget HUP_X2.SHED_UJ 0 + s.fget HUP_X1.HOLD_MW 0 * rowTime (s.fget THM_STAT.BAND 0) * (18 + 8 * segs)

/-- The margin in nanojoules. -/
def State.eMargin (s : State) : Nat := 1000000 * s.fget HUP_X1.MARGIN_MJ 0

/-- The energy check of R382 for a write of a duration, with S staged segments counted. -/
def State.energyOk (s : State) (durationUs segs : Nat) : Bool :=
  let low := 1000 * s.hup.eLow
  if s.fon HUP_STAT.PFAIL 0 then decide (s.energyOf durationUs + s.eMargin ≤ low)
  else decide (s.energyOf durationUs + s.eRes segs + s.eMargin ≤ low)

/-- The segments counted in the check of a job: a recorder segment's own commit is left out (R382). -/
def State.segsFor (s : State) : NvJob → Nat
  | .segment _ => s.evr.stagedSegs - 1
  | _ => s.evr.stagedSegs

/-- The check of R382 for a job. -/
def State.admits (s : State) (j : NvJob) : Bool :=
  s.energyOk (j.duration (s.fget THM_STAT.BAND 0)) (s.segsFor j)

/-! The log's commits. -/

/-- NVA_STAT.STATE while a job runs. -/
def NvJob.stateCode : NvJob → Nat
  | .erase _ => 3
  | .logErase => 3
  | _ => 2

/-- NVA_STAT.STATE of a controller (R388): what runs, an erase suspended, or a write that waits for energy. -/
def NvaSt.stateCode (n : NvaSt) : Nat :=
  match n.running with
  | some r => if n.suspended.isSome then 4 else r.job.stateCode
  | none => if n.segSince.isSome || n.burn.isSome || n.waiting.any (fun r => r.since.isSome) then 1 else 0

/-- NVA_STAT shows the controller's state. -/
def State.nvShow (s : State) : State := s.fset NVA_STAT.STATE 0 s.nva.stateCode

/-- The running operation ends; an erase that it had suspended resumes (R377). -/
def State.nvEnd (s : State) : State :=
  ({ s with nva := { s.nva with running := s.nva.suspended, suspended := none } } : State).nvShow

/-- The segment whose commit is running, admitted at its start (R377). -/
def NvaSt.runningSegment (n : NvaSt) : Option (List Rec) :=
  match n.running with
  | some ⟨.segment l, _, _, _, _⟩ => some l
  | _ => none

/-- F153 is driven while BLOCKED = 1, or while PFAIL_N is high and READY has been 0 for more than 60 s (R389). -/
def State.driveEnergy (s : State) : State := s.drive 153 (s.fon HUP_STAT.BLOCKED 0 || (s.hup.readyLate && s.hup.supplyGood))

/-- BLOCKED falls once no write that has waited 1 s for energy waits any more (R382, R389). -/
def State.refreshBlocked (s : State) : State :=
  let late := s.nva.waiting.any (fun q => q.blocked) || s.nva.burn.any (fun b => b.blocked) || (match s.nva.segSince with | some t => decide (t + 1001 ≤ s.ms) | none => false)
  if late then s else (s.fset HUP_STAT.BLOCKED 0 0).driveEnergy

/-- A segment is in the next log slot (R369). -/
def State.logSegment (s : State) (seg : List Rec) (rest : List (List Rec)) : State :=
  let s := { s with nva := { s.nva with segSince := none } }
  (s.setEvr { s.evr with fullSegs := rest, log := s.evr.log ++ [seg] }).refreshBlocked.nvShow

/-- The segment whose commit runs, or else the oldest queued one, is committed to the next log slot and leaves the stage; a clear may have emptied
the stage since (R369, R372). -/
def State.commitSegment (s : State) : State :=
  match s.nva.runningSegment, s.evr.fullSegs with
  | some seg, l => s.nvEnd.logSegment seg (if l.head? = some seg then l.drop 1 else l)
  | none, [] => s
  | none, seg :: rest => s.logSegment seg rest

/-- A staged segment that the check refuses begins to wait for energy (R382). -/
def State.segmentWaits (s : State) : State :=
  let s := s.fbump HUP_CNT.REFUSALS 0
  ({ s with nva := { s.nva with segSince := some (s.nva.segSince.getD s.ms) } } : State).nvShow

/-! Reading the log. -/

/-- The record of a SEQ, and whether it is staged (R371). -/
def EvrSt.find (e : EvrSt) (seq : Nat) : Option (Rec × Bool) :=
  match (e.log.flatten).find? fun r => decide (r.seq = seq) with
  | some r => some (r, false)
  | none =>
    match (e.fullSegs.flatten ++ e.openSeg).find? fun r => decide (r.seq = seq) with
    | some r => some (r, true)
    | none => none

/-- Word k of a record read through EVR_RD_DATA (R363, R371). -/
def Rec.wordAt (r : Rec) (staged : Bool) (k : Nat) : Word :=
  BitVec.ofNat 32 ((wordsOfBytes (r.encode staged)).getD k 0)

/-- The address of a log slot (R375). -/
def slotAddr (i : Nat) : Nat := i / 512 * 0x800000 + 0x480000 + i % 512 * 2048

/-- The address of the committed record of a SEQ (R371, R375). -/
def EvrSt.recAddr (e : EvrSt) (seq : Nat) : Option Nat :=
  e.log.zipIdx.findSome? fun x => x.1.zipIdx.findSome? fun y => if y.1.seq = seq then some (slotAddr x.2 + 32 * y.2) else none

/-- A word of the array at an address is known to be uncorrectable (R376). -/
def NvaSt.lostAt (n : NvaSt) (a : Nat) : Bool := n.lost.contains (a / 16)

/-- The address of a committed record that an uncorrectable word holds (R371). -/
def State.lostRec (s : State) (seq : Nat) : Option Nat :=
  (s.evr.recAddr seq).bind fun a => if s.nva.lostAt a then some a else if s.nva.lostAt (a + 16) then some (a + 16) else none

/-- An uncorrectable read of the array (R376, R390): UNCORR counts it, NV_FAIL rises, F152 is driven and a record is posted. -/
def State.nvUncorrectable (s : State) (a : Nat) : State :=
  let t := ((s.fbump NVA_ECC.UNCORR 0).pulse pgNVA 3).pulse pgNVA 1
  (t.drive 152 true).post 0x5001 a 1 (a / 0x800000)

/-- A read of EVR_RD_DATAk (R371): refused for an operator domain and for a SEQ that is not held; DATA7 advances EVR_RD_SEQ. -/
def State.readRecWord (s : State) (who : Init) (k : Nat) : State :=
  match s.identOf who with
  | some (.domain _) => s.refuseRead who pgEVR .notOwner
  | _ =>
    let seq := s.fget EVR_RD_SEQ.SEQ 0
    match s.evr.find seq with
    | none => s.refuseRead who pgEVR .outOfRange
    | some (r, st) =>
      let s := match (if st then none else s.lostRec seq) with
        | some a => (s.nvUncorrectable a).answerRead who 0
        | none => s.answerRead who (r.wordAt st k)
      if k = 7 then s.fset EVR_RD_SEQ.SEQ 0 (seq + 1) else s

/-- EVR_RD_DATA_READ: a read of EVR_RD_DATAk (R371). -/
def execEvrRdDataRead (who : Init) (k : Fin 8) (s : State) : Host.Outcome State Fault Refusal :=
  .next (s.accessRead who pgEVR fun s => s.readRecWord who k.val)

/-! The journal (R373, R374). -/

/-- The model's own number for HALF_SWITCH, whose TYPE the spec does not give. -/
def typHALF : Nat := 0x10000

/-- TYPE as it is stored. -/
def JEntry.typeCode (e : JEntry) : Nat := if e.typ = typHALF then Config.halfSwitchType.toNat else e.typ

/-- The payload as it is stored: a key is encrypted under the device storage key (R395). -/
def JEntry.stored (e : JEntry) : List Nat :=
  if e.typ = 5 then
    let k := e.payload.foldl (fun a w => a * 2 ^ 32 + w) 0
    (List.range e.payload.length).flatMap fun i => beBytes 4 (Config.storedKey k i).toNat
  else e.payload.flatMap (beBytes 4)

/-- Bytes 0 to 15 of an entry (R373). -/
def JEntry.head (e : JEntry) : List Nat :=
  beBytes 2 0x4A52 ++ beBytes 2 e.typeCode ++ beBytes 4 e.key ++ beBytes 4 e.jseq ++ beBytes 4 (4 * e.payload.length)

/-- The CRC of an entry: over bytes 0 to 15 and the payload (R373). -/
def JEntry.crcDue (e : JEntry) : Nat := crc32 (e.head ++ e.stored)

/-- The bytes of an entry in the array: header, payload padded with zeros (DESIGN CHOICE, log 231), commit word (R373). -/
def JEntry.bytes (e : JEntry) : List Nat :=
  e.head ++ beBytes 4 e.crc ++ List.replicate 12 0 ++ e.stored ++ List.replicate (e.size - 48 - 4 * e.payload.length) 0 ++
    (if e.committed then beBytes 4 0x434F4D54 ++ beBytes 4 e.jseq ++ List.replicate 8 0 else List.replicate 16 0xFF)

/-- An entry is valid: its commit word is present and its CRC matches (R374); one that holds an uncorrectable word does not read. -/
def JEntry.valid (e : JEntry) : Bool := e.committed && !e.lost && decide (e.crc = e.crcDue)

/-- The entry in force for a type and key: the valid one with the highest JSEQ. -/
def NvaSt.inForce (n : NvaSt) (typ key : Nat) : Option JEntry :=
  n.journal.foldl (fun best e =>
    if e.typ = typ ∧ e.key = key ∧ e.valid then
      match best with
      | some b => if b.jseq < e.jseq then some e else some b
      | none => some e
    else best) none

/-- The half that is live at a boot: that of the valid HALF_SWITCH of the higher JSEQ (R374). -/
def NvaSt.liveHalf (n : NvaSt) : Nat :=
  match n.inForce typHALF 0 with
  | some e => e.half
  | none => 0

/-- Bytes that the entries of a half take (R373, R374). -/
def NvaSt.used (n : NvaSt) (h : Nat) : Nat := ((n.journal.filter fun e => decide (e.half = h)).map JEntry.size).sum

/-- NVA_JRNL and NVA_JSEQ show the journal as a boot finds it (R374, R388). -/
def State.journalShow (s : State) : State :=
  let h := s.nva.liveHalf
  let t := (s.fset NVA_JRNL.HALF 0 h).fset NVA_JRNL.FREE 0 (0x100000 - s.nva.used h)
  t.fset NVA_JSEQ.JSEQ 0 (((s.nva.journal.filter JEntry.valid).map fun e => e.jseq).foldl max 0)

/-- The entries in force, as compaction copies them. -/
def NvaSt.compacted (n : NvaSt) : List JEntry :=
  n.journal.filter fun e => e.valid && decide (e.typ ≠ typHALF ∧ n.inForce e.typ e.key = some e)

/-- The half that is not live. -/
def State.otherHalf (s : State) : Nat := 1 - s.fget NVA_JRNL.HALF 0

/-- The operation of a compaction that is due before an entry of a size can be written (R374): the copies of the entries in force into the other half,
which was erased, the HALF_SWITCH entry, and the erase of the half that is no longer live. -/
def State.compactPiece (s : State) (need : Nat) : Option NvJob :=
  match s.nva.copying with
  | some (e :: _) => some (.copy e)
  | some [] => some .halfSwitch
  | none =>
    if s.nva.used s.otherHalf ≠ 0 then some .halfErase
    else if need ≤ s.fget NVA_JRNL.FREE 0 then none
    else match s.nva.compacted with | e :: _ => some (.copy e) | [] => some .halfSwitch

/-- The words of a part of the array are erased: none of them is uncorrectable any more. -/
def NvaSt.freshened (n : NvaSt) (from_ to_ : Nat) : NvaSt := { n with lost := n.lost.filter fun w => !(decide (from_ ≤ 16 * w ∧ 16 * w < to_)) }

/-- The start of a journal half (R375). -/
def halfAddr (h : Nat) : Nat := h * 0x800000 + 0x380000

/-- An operation of a compaction ends (R374). -/
def State.pieceDone (s : State) (j : NvJob) : State :=
  match j with
  | .copy e =>
    let rest := (s.nva.copying.getD s.nva.compacted).drop 1
    { s with nva := { s.nva with journal := s.nva.journal ++ [{ e with half := s.otherHalf }], copying := some rest } }
  | .halfSwitch =>
    let e : JEntry := { typ := typHALF, key := 0, jseq := s.fget NVA_JSEQ.JSEQ 0 + 1, committed := true, half := s.otherHalf }
    let t := { s with nva := { s.nva with journal := s.nva.journal ++ [{ e with crc := e.crcDue }], copying := none } }
    let t := (t.fset NVA_JSEQ.JSEQ 0 e.jseq).fset NVA_JRNL.HALF 0 e.half
    (t.fset NVA_JRNL.FREE 0 (0x100000 - t.nva.used e.half)).pulse pgNVA 4
  | .halfErase =>
    let h := s.otherHalf
    let n := s.nva.freshened (halfAddr h) (halfAddr h + 0x100000)
    { s with nva := { n with journal := s.nva.journal.filter fun e => decide (e.half ≠ h) } }
  | _ => s

/-- The header and payload of an entry are in the live half, its commit word to follow (R373). -/
def State.journalBody (s : State) (e : JEntry) : State :=
  let s := { s with nva := { s.nva with journal := s.nva.journal ++ [e] } }
  s.fset NVA_JRNL.FREE 0 (s.fget NVA_JRNL.FREE 0 - e.size)

/-- An entry as it is written next: it takes the next JSEQ (R373). -/
def State.numbered (s : State) (e : JEntry) : JEntry :=
  let e := { e with jseq := s.fget NVA_JSEQ.JSEQ 0 + 1, half := s.fget NVA_JRNL.HALF 0, committed := false }
  { e with crc := e.crcDue }

/-- The commit word of an entry of the journal is programmed. -/
def State.journalCommit (s : State) (e : JEntry) : State :=
  let s := { s with nva := { s.nva with journal := s.nva.journal.map fun x => if x = e then { x with committed := true } else x } }
  s.fset NVA_JSEQ.JSEQ 0 e.jseq

/-- A journal entry is written whole, commit word last (R373, R374). -/
def State.journalAppend (s : State) (e : JEntry) : State := (s.journalBody (s.numbered e)).journalCommit (s.numbered e)

/-- A journal entry is written at once with all that its place needs, if the check admits each operation (R374, R382); none if it does not. -/
def State.journalPath : Nat → State → JEntry → Option State
  | 0, _, _ => none
  | n + 1, s, e =>
    match s.compactPiece e.size with
    | none => if s.admits (.journal e) then some (s.journalAppend e) else none
    | some j => if s.admits j then (s.pieceDone j).journalPath n e else none

/-- A journal entry that firmware writes outside the controller's order, at a boot or a lifecycle entry. -/
def State.journalNow (s : State) (e : JEntry) : Option State := s.journalPath (s.nva.journal.length + 4) e

/-- Queueing a journal entry at the NV controller (R377). -/
def State.queueJournal (s : State) (typ key : Nat) (payload : List Nat) : State :=
  { s with nva := { s.nva with waiting := s.nva.waiting ++ [{ job := .journal { typ := typ, key := key, payload := payload } }] } }

/-! The NV controller (R375 to R378). -/

/-- Rank of a job in the controller's order: journal entries, recorder segments, host commands (R377). -/
def NvJob.rank : NvJob → Nat
  | .journal _ => 0
  | .commit _ => 0
  | .bodyOnly _ => 0
  | .copy _ => 0
  | .halfSwitch => 0
  | .halfErase => 0
  | .segment _ => 1
  | .logErase => 1
  | .program _ _ => 2
  | .erase _ => 2

/-- A host command. -/
def NvJob.isHost : NvJob → Bool
  | .program _ _ => true
  | .erase _ => true
  | _ => false

/-- The bank that a job writes: the live journal half, the bank of the next log slot, or bit 23 of the address (R374, R375). -/
def State.jobBank (s : State) : NvJob → Nat
  | .journal _ => s.fget NVA_JRNL.HALF 0
  | .commit _ => s.fget NVA_JRNL.HALF 0
  | .bodyOnly _ => s.fget NVA_JRNL.HALF 0
  | .copy _ => s.otherHalf
  | .halfSwitch => s.otherHalf
  | .halfErase => s.otherHalf
  | .segment _ => if s.evr.log.length < 512 then 0 else 1
  | .logErase => 0
  | .program a _ => a / 0x800000
  | .erase a => a / 0x800000

/-- The operation that a request comes to next: a journal entry waits for the compaction that its place needs (R374). -/
def State.pieceOf (s : State) : NvJob → NvJob
  | .journal e => (s.compactPiece e.size).getD (.journal e)
  | j => j

/-- The jobs that wait, in the controller's order: the queued requests, with the oldest full segment after the journal entries. -/
def State.nvCandidates (s : State) : List NvReq :=
  let w := s.nva.waiting
  let segs := match s.evr.fullSegs with
    | [] => []
    | seg :: _ => if s.nva.runningSegment.isSome then [] else [{ job := NvJob.segment seg : NvReq }]
  let w := if s.fon HUP_STAT.PFAIL 0 then [] else w
  ((w.filter fun r => r.job.rank = 0).map fun r => { r with job := s.pieceOf r.job }) ++ segs ++ w.filter (fun r => r.job.rank = 1) ++
    w.filter (fun r => r.job.rank = 2)

/-- The first candidate that the energy check admits. -/
def State.nvPick (s : State) : Option NvReq := s.nvCandidates.find? fun r => s.admits r.job

/-- The candidates that the check refuses before it admits one (R382). -/
def State.nvRefused (s : State) : List NvReq := s.nvCandidates.takeWhile fun r => !s.admits r.job

/-- The requests that the check refuses begin to wait for energy, and each refusal counts (R382, R389). -/
def State.markWaiting (s : State) : State :=
  let l := s.nvRefused
  let t := l.foldl (fun t _ => t.fbump HUP_CNT.REFUSALS 0) s
  let seg := match s.evr.fullSegs with
    | [] => none
    | x :: _ => if s.admits (.segment x) then none else if l.any fun r => decide (r.job = .segment x) then some (s.nva.segSince.getD s.ms) else s.nva.segSince
  let mark := fun (r : NvReq) => if l.contains { r with job := s.pieceOf r.job } && r.since.isNone then { r with since := some s.ms } else r
  ({ t with nva := { t.nva with waiting := t.nva.waiting.map mark, segSince := seg } } : State).nvShow

/-- A job starts: it leaves the waiting list and runs with the band in force (R376); an erase of a host in the same bank is suspended (R377). -/
def State.nvStart (s : State) (r : NvReq) : State :=
  let waiting := s.nva.waiting.erase r
  let n := { s.nva with waiting := waiting, suspended := s.nva.running, running := some { r with band := s.fget THM_STAT.BAND 0, since := none, blocked := false } }
  let n := if r.job.rank = 1 then { n with segSince := none } else n
  (({ s with nva := n } : State).nvShow).refreshBlocked.drive 152 false

/-- No write runs, or a host erase that a job of higher rank in the same bank suspends (R377); after a power fail a write in progress ends first
(R384 step 6). -/
def State.suspends (s : State) (r : NvReq) : Bool :=
  match s.nva.running with
  | none => true
  | some ⟨.erase a, _, _, _, _⟩ =>
    decide (r.job.rank < 2) && decide (s.jobBank r.job = a / 0x800000) && s.nva.suspended.isNone && !s.fon HUP_STAT.PFAIL 0
  | some _ => false

/-- The controller can start a job: none runs, or what runs gives way. -/
def State.nvFree (s : State) : Bool := s.nvCandidates.any fun r => s.suspends r

/-- Starting what may start. -/
def State.nvDispatch (s : State) : State :=
  if s.rst.nvaWaits || !s.nvFree then s
  else
    let t := s.markWaiting
    match t.nvPick with
    | none => t
    | some r => if t.suspends r then t.nvStart r else t

/-- SEGMENT_COMMIT: a full or flushed segment is committed to the next log slot, when the energy check admits it and no journal entry that it admits
waits (R369, R377, R382). -/
def execSegmentCommit (s : State) : Host.Outcome State Fault Refusal :=
  .next (
    match s.nva.runningSegment, s.evr.fullSegs with
    | some _, _ => s.commitSegment
    | none, [] => s
    | none, seg :: _ =>
      if s.nva.running.isSome then s
      else if s.nvPick.map (fun r => r.job) = some (.segment seg) then s.commitSegment
      else if !s.admits (.segment seg) then s.segmentWaits
      else s)

/-- NV_OPERATION_START: the controller starts the highest-priority admitted program or erase (R377, R382). -/
def execNvOperationStart (s : State) : Host.Outcome State Fault Refusal := .next s.nvDispatch

/-- The bytes of a journal half (R373, R375). -/
def NvaSt.halfBytes (n : NvaSt) (h : Nat) : List Nat := (n.journal.filter fun e => decide (e.half = h)).flatMap JEntry.bytes

/-- A byte of the log, by its slot and its offset in it (R363, R375). -/
def EvrSt.logByte (e : EvrSt) (slot off : Nat) : Nat :=
  match (e.log.getD slot [])[off / 32]? with
  | some r => (r.encode false).getD (off % 32) 0xFF
  | none => 0xFF

/-- Reading a byte of the array (R375): the journal halves hold their entries, the log region the records; an unlisted byte is erased. -/
def State.nvByte (s : State) (a : Nat) : Byte :=
  let off := a % 0x800000
  if off < 0x380000 ∨ 0x580000 ≤ off then Tbl.get (fun _ => 0xFF) s.nva.bytes a
  else if off < 0x480000 then BitVec.ofNat 8 ((s.nva.halfBytes (a / 0x800000)).getD (off - 0x380000) 0xFF)
  else BitVec.ofNat 8 (s.evr.logByte (a / 0x800000 * 512 + (off - 0x480000) / 2048) ((off - 0x480000) % 2048))

/-- Writing a byte of the array. -/
def State.setNvByte (s : State) (a : Nat) (b : Byte) : State :=
  { s with nva := { s.nva with bytes := Tbl.set (fun _ => 0xFF) s.nva.bytes a b } }

/-- The 16-byte word at an address is erased (R376). -/
def State.nvErased (s : State) (a : Nat) : Bool := (List.range 16).all fun i => decide (s.nvByte (a + i) = 0xFF)

/-- Programming a 16-byte word, most significant byte of each data word first. -/
def State.nvProgram (s : State) (a : Nat) (data : List Word) : State :=
  ((data.flatMap fun w => beBytes 4 w.toNat).zip (List.range 16)).foldl (fun s p => s.setNvByte (a + p.2) (BitVec.ofNat 8 p.1)) s

/-- Erasing the 64 KiB sector of an address. -/
def State.nvErase (s : State) (a : Nat) : State :=
  let base := a / 0x10000 * 0x10000
  let n := s.nva.freshened base (base + 0x10000)
  { s with nva := { n with bytes := s.nva.bytes.filter fun e => !(decide (base ≤ e.1 ∧ e.1 < base + 0x10000)) } }

/-- A host command ends (R388): RESULT is set, BUSY clears, CMD_DONE rises. -/
def State.hostDone (s : State) (result : Nat) : State :=
  (((s.fset NVA_STAT.RESULT 0 result).fset NVA_STAT.BUSY 0 0).nvShow).pulse pgNVA 0

/-- The region of an address lies in the three image regions of its bank (R375). -/
def imageRegion (a : Nat) : Bool := decide (a % 0x800000 < 0x380000)

/-- The EXEC bit of a bank (R378). -/
def State.execBit (s : State) (bank : Nat) : Bool :=
  if bank = 0 then s.fon NVA_STAT.EXEC0 0 else s.fon NVA_STAT.EXEC1 0

/-- The address of NVA_ADDR. -/
def State.nvAddr (s : State) : Nat := 16 * s.fget NVA_ADDR.ADDR 0

/-- A host command to an image region is queued (R375, R378, R388). -/
def nvaHost (job : State → NvJob) (s : State) : WRes :=
  if s.fon NVA_STAT.BUSY 0 then .error .windowBusy
  else if !imageRegion s.nvAddr || s.execBit (s.nvAddr / 0x800000) then .error .configLocked
  else
    let s := s.fset NVA_STAT.BUSY 0 1
    .ok { s with nva := { s.nva with waiting := s.nva.waiting ++ [{ job := job s }] } }

/-- The data words of NVA_DATA0 to NVA_DATA3. -/
def State.nvData (s : State) : List Word := (List.range 4).map fun k => s.word (NVA_DATA.DATA.key k)

/-- NVA_ABORT's effect: a host command that still waits ends with RESULT 3; one that runs cannot be ended (R377, R388). -/
def nvaAbort (s : State) : WRes :=
  if s.nva.waiting.any (fun r => r.job.isHost) then
    .ok ({ s with nva := { s.nva with waiting := s.nva.waiting.filter fun r => !r.job.isHost } }.hostDone 3)
  else if s.fon NVA_STAT.BUSY 0 then .error .windowBusy
  else .ok s

/-- A write of NVA_CMD (R388). -/
def nvaCmd (v : Word) (s : State) : WRes :=
  match bitsOf v 31 30 with
  | 1 => nvaHost (fun s => .program s.nvAddr s.nvData) s
  | 2 => nvaHost (fun s => .erase s.nvAddr) s
  | 3 => nvaAbort s
  | _ => .ok s

/-- NVA_PROGRAM: a write of NVA_CMD with CMD 1 (R375, R388). -/
def execNvaProgram (who : Init) (s : State) : Host.Outcome State Fault Refusal :=
  .next (s.access who pgNVA 0x058 0x40000000 (nvaCmd 0x40000000))

/-- NVA_ERASE: a write of NVA_CMD with CMD 2 (R375, R388). -/
def execNvaErase (who : Init) (s : State) : Host.Outcome State Fault Refusal :=
  .next (s.access who pgNVA 0x058 0x80000000 (nvaCmd 0x80000000))

/-- NVA_ABORT: a write of NVA_CMD with CMD 3 (R388). -/
def execNvaAbort (who : Init) (s : State) : Host.Outcome State Fault Refusal :=
  .next (s.access who pgNVA 0x058 0xC0000000 (nvaCmd 0xC0000000))

/-! The hold-up supervisor (R379 to R389). -/

def tmHupV : Nat := 3
def tmHupQ : Nat := 4
def tmHupDisagree : Nat := 5
def tmHupRebase : Nat := 6
def tmHupReady : Nat := 7
def tmHupStable : Nat := 8

/-- The median of up to three samples; with fewer than three, the newest (R379). -/
def median3 : List Nat → Nat
  | a :: b :: c :: _ => max (min a b) (min (max a b) c)
  | a :: _ => a
  | [] => 0

/-- A pin sample is at or above 1.23 V of the 1.25 V full scale of 12 bits (R379). -/
def hupOver (code : Nat) : Bool := decide (4096 * 123 ≤ code * 125)

/-- Bank voltage in microvolts of a 12-bit pin code, with DIV in sixteenths (R379, R380). -/
def hupUv (code div : Nat) : Nat := code * 1250000 * div / (16 * 4096)

/-- The capacitance in use, in µF (R380). -/
def State.hupC (s : State) : Nat := min (s.fget HUP_CFG.CAP_UF 0) (s.fget HUP_V.C_EST_UF 0)

/-- Energy in µJ between a voltage in mV and V_MIN (R380): half C times the difference of squares. -/
def State.hupEv (s : State) (vMv : Nat) : Nat :=
  let vmin := s.fget HUP_VOLT.VMIN_MV 0
  s.hupC * (vMv * vMv - vmin * vmin) / 2000000

/-- The charge estimate's energy in µJ (R380). -/
def State.hupEq (s : State) (qNc : Int) : Nat :=
  let c := s.hupC
  let vmin := s.fget HUP_VOLT.VMIN_MV 0
  if c = 0 then 0 else (qNc.natAbs * qNc.natAbs / c - c * vmin * vmin) / 2000000

/-- HOLDUP_CHARGE_READING: the sense-resistor voltage in µV, integrated over 1 ms (R379). -/
def execHoldupChargeReading (uv : Int) (s : State) : Host.Outcome State Fault Refusal :=
  .next (
    if 50000 < uv.natAbs then s.pulse pgHUP evtRange
    else
      let q := s.hup.qNc + roundDivInt (uv * 1000000) (s.fget HUP_SENSE.RSENSE 0)
      let bound : Int := 2147483647 * 1000
      let q' := clampInt (-bound - 1000) bound q
      let s := { s with hup := { s.hup with qNc := q' } }
      let s := if q = q' then s else s.saturate pgHUP
      let s := (s.fsetI HUP_Q.Q_UC 0 (q' / 1000)).fset HUP_STAT.Q_LOSS 0 0
      let s := s.cond pgHUP evtLoss (s.fon HUP_STAT.V_LOSS 0)
      s.timerStart tmHupQ 0 s.ms)

/-- HOLDUP_V_TIMEOUT: no valid voltage sample for 100 µs (R379). -/
def execHoldupVTimeout (s : State) : Host.Outcome State Fault Refusal :=
  .next (
    if s.timerDue tmHupV 0 s.us 100 then
      let s := (s.fset HUP_STAT.V_LOSS 0 1).cond pgHUP evtLoss true
      let s := { s with hup := { s.hup with eV := 0 } }
      (s.fset HUP_E.E_V 0 0).timerStop tmHupV 0
    else s)

/-- HOLDUP_Q_TIMEOUT: no valid charge reading for 10 ms (R379). -/
def execHoldupQTimeout (s : State) : Host.Outcome State Fault Refusal :=
  .next (
    if s.timerDue tmHupQ 0 s.ms 10 then
      let s := (s.fset HUP_STAT.Q_LOSS 0 1).cond pgHUP evtLoss true
      let s := { s with hup := { s.hup with eQ := 0 } }
      (s.fset HUP_E.E_Q 0 0).timerStop tmHupQ 0
    else s)

/-- Energy in mJ as a register shows it: held at 65,535 (R389). -/
def mjOf (uj : Nat) : Nat := min (uj / 1000) 65535

/-- C_EST after a charge in which V rose by at least 10 % of VNOM_MV while the supply was good (R381). -/
def State.hupCapacity (s : State) : State :=
  if !s.hup.supplyGood then { s with hup := { s.hup with chargeFrom := none } }
  else
    match s.hup.chargeFrom with
    | none => { s with hup := { s.hup with chargeFrom := some (s.hup.vUv, s.hup.qNc) } }
    | some (v0, q0) =>
      if s.hup.vUv < v0 then { s with hup := { s.hup with chargeFrom := some (s.hup.vUv, s.hup.qNc) } }
      else if s.fget HUP_SCALE.VNOM_MV 0 * 100 ≤ s.hup.vUv - v0 ∧ v0 < s.hup.vUv then
        let measured := roundDivInt ((s.hup.qNc - q0) * 1000) ((s.hup.vUv - v0 : Nat) : Int)
        let c : Int := s.fget HUP_V.C_EST_UF 0
        let c' := clampInt 0 65535 (c + roundDivInt (measured - c) 4)
        let s := s.fset HUP_V.C_EST_UF 0 c'.toNat
        let s := { s with hup := { s.hup with chargeFrom := some (s.hup.vUv, s.hup.qNc) } }
        s.cond pgHUP 5 (decide (c' * 100 < 80 * (s.fget HUP_CFG.CAP_UF 0 : Int)))
      else s

/-- The difference that counts as a disagreement, in µJ (R381). -/
def State.hupDisagreeLimit (s : State) : Nat :=
  s.fget HUP_X2.DIS_PCT 0 * s.hupEv (s.fget HUP_SCALE.VNOM_MV 0) / 100

/-- READY follows E_LOW against the reserve for 32 segments (R382). -/
def State.hupReady (s : State) : State :=
  let ready := decide (s.eRes 32 + s.eMargin ≤ 1000 * s.hup.eLow)
  let s := (s.fsetB HUP_STAT.READY 0 ready).cond pgHUP 0 ready
  if !ready then (if s.fon HUP_CFG.EN 0 && !s.timerOn tmHupReady 0 then s.timerStart tmHupReady 0 s.sec_ else s)
  else
    let s := { s with hup := { s.hup with readyLate := false } }
    let s := (s.timerStop tmHupReady 0).driveEnergy
    if s.hup.cfgDirty then
      let words := [HUP_CFG.EN.key 0, HUP_VOLT.VMIN_MV.key 0, HUP_SCALE.DIV.key 0, HUP_SENSE.RSENSE.key 0, HUP_X1.HOLD_MW.key 0, HUP_X2.DIS_S.key 0]
      { s.queueJournal 7 0 (words.map fun k => (s.word k).toNat) with hup := { s.hup with cfgDirty := false } }
    else s

/-- HOLDUP_ESTIMATE_UPDATE: the estimates, the reserve, READY and the disagreement, every 1 ms (R380 to R382, R476). -/
def execHoldupEstimateUpdate (s : State) : Host.Outcome State Fault Refusal :=
  .next (
    let s := s.hupCapacity
    let ev := if s.fon HUP_STAT.V_LOSS 0 then 0 else s.hupEv (s.hup.vUv / 1000)
    let cq := s.fon HUP_CFG.CQ_EN 0
    let eq := if !cq || s.fon HUP_STAT.Q_LOSS 0 then 0 else s.hupEq s.hup.qNc
    let low := if !s.fon HUP_CFG.EN 0 then 0 else if cq then min ev eq else ev / 2
    let s := { s with hup := { s.hup with eV := ev, eQ := eq, eLow := low } }
    let s := (s.fset HUP_E.E_V 0 (mjOf ev)).fset HUP_E.E_Q 0 (mjOf eq)
    let s := (s.fset HUP_E2.E_LOW 0 (mjOf low)).fset HUP_E2.E_RES 0 (mjOf (s.eRes s.evr.stagedSegs / 1000))
    let s := s.hupReady
    let dis := cq && decide (s.hupDisagreeLimit < max ev eq - min ev eq)
    if dis then
      let s := if s.timerOn tmHupDisagree 0 then s else s.timerStart tmHupDisagree 0 s.sec_
      if s.timerOn tmHupRebase 0 then s else s.timerStart tmHupRebase 0 s.sec_
    else
      let s := (s.timerStop tmHupDisagree 0).timerStop tmHupRebase 0
      (s.fset HUP_STAT.DISAGREE 0 0).cond pgHUP 3 false)

/-- HOLDUP_DISAGREE_TIMER: the estimates have disagreed for 1 s (R381). -/
def execHoldupDisagreeTimer (s : State) : Host.Outcome State Fault Refusal :=
  .next (
    if s.timerDue tmHupDisagree 0 s.sec_ 1 then (s.fset HUP_STAT.DISAGREE 0 1).cond pgHUP 3 true else s)

/-- V has stayed within ±1 % of its present value for the last 1 s (R381). -/
def State.hupStable (s : State) : Bool :=
  let v := s.hup.vUv
  let near (l : List (Nat × Nat)) : Bool := match l.head? with | some e => decide (100 * (max e.2 v - min e.2 v) ≤ v) | none => false
  near s.hup.vLows && near s.hup.vHighs && (match s.hup.vSince with | some t => decide (t + 1000000 ≤ s.us) | none => false)

/-- HOLDUP_REBASE: a disagreement of DIS_S seconds with good supply and stable voltage sets Q := C × V (R381). -/
def execHoldupRebase (s : State) : Host.Outcome State Fault Refusal :=
  .next (
    if s.timerDue tmHupRebase 0 s.sec_ (s.fget HUP_X2.DIS_S 0) && s.hup.supplyGood then
      if s.hupStable then
        let q : Int := (s.hupC * (s.hup.vUv / 1000) : Nat)
        let s := s.post 0x5003 (mjOf s.hup.eV) (mjOf s.hup.eQ) 0
        let s := { s with hup := { s.hup with qNc := q } }
        let s := (s.fsetI HUP_Q.Q_UC 0 (q / 1000)).fbump HUP_CNT.REBASES 0
        (s.pulse pgHUP 4).timerStop tmHupRebase 0
      else s
    else s)

/-- NV_HOST_ENERGY_TIMEOUT: a host command has waited 10 s for energy, and ends with RESULT 2 (R382). -/
def execNvHostEnergyTimeout (s : State) : Host.Outcome State Fault Refusal :=
  .next (
    let late := fun (r : NvReq) => r.job.isHost && (match r.since with | some t => decide (t + 10001 ≤ s.ms) | none => false)
    if s.nva.waiting.any late then
      (({ s with nva := { s.nva with waiting := s.nva.waiting.filter fun r => !late r } } : State).hostDone 2).refreshBlocked
    else s)

/-- HOLDUP_READY_TIMEOUT: READY has stayed 0 for 60 s after EN with the supply good; F153 is driven (R389). -/
def execHoldupReadyTimeout (s : State) : Host.Outcome State Fault Refusal :=
  .next (
    if s.timerDue tmHupReady 0 s.sec_ 60 && s.hup.supplyGood && !s.fon HUP_STAT.READY 0 then
      ({ s with hup := { s.hup with readyLate := true } } : State).driveEnergy
    else s)

/-- The supervisor starts (R379, R381, R389): C_EST at CAP_UF, the limit on READY, and the times without a valid sample or reading
(DEDUCED, log 245). -/
def State.hupStart (s : State) : State :=
  let t := (s.fset HUP_V.C_EST_UF 0 (s.fget HUP_CFG.CAP_UF 0)).timerStart tmHupReady 0 s.sec_
  (t.timerStart tmHupV 0 s.us).timerStart tmHupQ 0 s.ms

/-- A write to the HUP page (R389, R476): the ranges, VPF_MV between VMIN_MV and VNOM_MV, and what starts at EN := 1: C_EST at
CAP_UF (R381; DEDUCED, log 198) and the READY limit. -/
def hupWrite (off : Nat) (v : Word) (s : State) : WRes :=
  match s.mergeReg pgHUP off (pgHUP * 0x1000 + off) v with
  | .error r => .error r
  | .ok t =>
    let vpf := t.fget HUP_VOLT.VPF_MV 0
    if vpf < t.fget HUP_VOLT.VMIN_MV 0 ∨ t.fget HUP_SCALE.VNOM_MV 0 < vpf then .error .outOfRange
    else
      let t := if off = 0x040 && t.fon HUP_CFG.EN 0 && !s.fon HUP_CFG.EN 0 then
          t.hupStart
        else t
      let t := if off = 0x040 && !t.fon HUP_CFG.EN 0 then
          let t := { t with hup := { t.hup with eLow := 0 } }
          (t.fset HUP_E2.E_LOW 0 0).timerStop tmHupReady 0
        else t
      .ok (if t.fon HUP_CFG.EN 0 then { t with hup := { t.hup with cfgDirty := true } } else t)

end Sys2Proof.Machine
end

