-- ==== Sys2Proof/Machine/Pads.lean ====
section
/-!
DEFINITION. The outputs of the front-end ports and the coexistence pairs (R259, R279), and the asynchronous pad override that holds them at their
safe levels (R358).
-/
namespace Sys2Proof.Machine

/-! Ports (R253). -/

def State.felPort (s : State) (n : Nat) : FelPort := Tbl.get (fun _ => {}) s.fel.ports n

/-- The fill counts of a port's queues: requests hold a credit from their entry until their response (R257). -/
def FelPort.timedFill (r : FelPort) : Nat :=
  r.timed.length + ((r.flight ++ r.again).filter fun f => decide (f.req.act ≠ none)).length
def FelPort.plainFill (r : FelPort) : Nat :=
  r.plain.length + ((r.flight ++ r.again).filter fun f => decide (f.req.use = 1 ∧ f.req.act = none)).length

def State.setFelPort (s : State) (n : Nat) (r : FelPort) : State :=
  let t := { s with fel := { s.fel with ports := Tbl.set (fun _ => {}) s.fel.ports n r } }
  (t.fset FEL_Q.TIMED_FILL n r.timedFill).fset FEL_Q.PLAIN_FILL n r.plainFill

/-! Chain states (R261). -/

def chSLEEP : Nat := 0
def chSTANDBY : Nat := 1
def chSYNTH : Nat := 2
def chRX : Nat := 3
def chTX : Nat := 4

def State.chain (s : State) (n : Nat) : Nat := s.fget FEL_CHAIN.STATE n

/-! Pins (R259). -/

/-- The pins take levels; the time of PA enable is kept (R272). The pad override holds them at their safe levels (R358). -/
def State.setPins (s : State) (n : Nat) (trx pa safe : Bool) : State :=
  let held := s.flt.padOverride
  let trx := trx && !held
  let pa := pa && !held
  let was := s.fon FEL_PIN.PA n
  let r := s.felPort n
  let t := ((s.fsetB FEL_PIN.TRX n trx).fsetB FEL_PIN.PA n pa).fsetB FEL_PIN.LNA n (held || safe || trx || s.fon FEL_CHAIN.LNA_HOLD n)
  let t := t.fsetB FTM_PSTAT.TX n pa
  if was = pa then t
  else t.setFelPort n { r with paSince := s.dt, paTicks := if was then r.paTicks + (s.dt - r.paSince) else r.paTicks }

/-- The time of a transition and its timeout, in ns (R262); the way to STANDBY after a failure takes that of SYNTH_ON to STANDBY. -/
def chainTimes (a b : Nat) : Nat × Nat :=
  if a = chSLEEP ∧ b = chSTANDBY then (800000, 1600000)
  else if a = chSTANDBY ∧ b = chSYNTH then (120000, 740000)
  else if a = chSYNTH ∧ b = chRX then (8000, 116000)
  else if a = chSYNTH ∧ b = chTX then (12000, 124000)
  else if chRX ≤ a ∧ chRX ≤ b then (1500, 103000)
  else if chRX ≤ a ∧ b = chSYNTH then (2000, 104000)
  else (10000, 120000)

/-- A transition of the chain counts from now: its timeout is watched (R262). -/
def FelPort.watchMove (r : FelPort) (now a b : Nat) : FelPort :=
  let keep := if chRX ≤ b then r.checks.filter fun c => decide (c.dst < chRX) else r.checks
  { r with movedAt := now, checks := keep ++ [⟨a, b, now + ticksOfNs (chainTimes a b).2, r.repeated⟩] }

/-- A change of the TRX pin starts the chain's move between RX and TX (R262, R263). -/
def State.trxEdge (s : State) (n : Nat) (trx : Bool) : State :=
  let st := s.chain n
  let want := if trx then chTX else chRX
  if st < chRX then s
  else if st = want then
    let r := s.felPort n
    (s.setFelPort n { r with moving := none, checks := r.checks.filter fun c => decide (c.dst < chRX) }).fset FEL_CHAIN.BUSY n 0
  else
    (s.setFelPort n (({ s.felPort n with moving := some (st, want), repeated := false } : FelPort).watchMove s.dt st want)).fset FEL_CHAIN.BUSY n 1

/-! Pairs (R279). -/

/-- A port's pair. -/
def State.pairOf (s : State) (n : Nat) : Nat := s.fget FTM_PCFG.CX_PAIR n

def State.cxPair (s : State) (k : Nat) : CxPair := Tbl.get (fun _ => {}) s.fel.pairs k

def State.setCxPair (s : State) (k : Nat) (r : CxPair) : State := { s with fel := { s.fel with pairs := Tbl.set (fun _ => {}) s.fel.pairs k r } }

/-! The pad override (R358, R447). -/

/-- A port's pins under the pad override: TRX at RX, PA enable inactive, LNA bypass active; a chain in TX moves to RX with its pin. -/
def State.overridePort (s : State) (n : Nat) : State :=
  let t := s.setPins n false false true
  if s.fon FEL_PIN.TRX n then t.trxEdge n false else t

/-- CXREQ of a pair is low under the pad override. -/
def State.overridePair (s : State) (k : Nat) : State :=
  if s.fon CXW_STAT.REQ k then ((s.fset CXW_STAT.REQ k 0).fset CXW_STAT.PRI k 0).setCxPair k { s.cxPair k with fell := s.dt, granted := [] } else s

/-- The hard-wired mute input and the pad override act: every transmit stream is muted, and every port and pair takes its safe levels. -/
def State.muteAndPads (s : State) : State :=
  let t : State := { s with flt := { s.flt with hardMute := true, padOverride := true } }
  let t := ((List.range 32).filter fun n => t.member.present n).foldl (fun t n => t.overridePort n) t
  (List.range 8).foldl (fun t k => t.overridePair k) t

end Sys2Proof.Machine
end

