-- ==== Sys2Proof/Machine/Time.lean ====
section
/-!
DEFINITION. Chapter 1: clock domains, their supervision, PLLs, device time.
-/
namespace Sys2Proof.Machine

/-- The PLL that feeds a domain (R16): 0 PLL-A, 1 PLL-B, 2 PLL-C, 3 PLL-D; none for the link groups' lane PLLs, CD41 and CD42. -/
def pllOf (d : Nat) : Option Nat :=
  if d = 0 ∨ d = 1 ∨ d = 43 then some 0
  else if d = 2 ∨ d = 3 ∨ d = 44 ∨ d = 45 ∨ d = 46 then some 1
  else if d = 36 ∨ d = 37 ∨ d = 38 ∨ d = 40 then some 2
  else if d = 39 then some 3
  else none

/-- The bit of CLK_PLL_STAT that shows a PLL's lock. -/
def pllField (p : Nat) : Fld :=
  match p with
  | 0 => CLK_PLL_STAT.PLLA_LOCK
  | 1 => CLK_PLL_STAT.PLLB_LOCK
  | 2 => CLK_PLL_STAT.PLLC_LOCK
  | _ => CLK_PLL_STAT.PLLD_LOCK

/-- A domain's clock is delivered (CLK_DOMAIN_RUN0, CLK_DOMAIN_RUN1, R516). -/
def State.domainRuns (s : State) (d : Nat) : Bool :=
  if d < 32 then s.fbit CLK_DOMAIN_RUN0.RUN 0 d else s.fbit CLK_DOMAIN_RUN1.RUN 0 (d - 32)

/-- Showing whether a domain's clock is delivered. -/
def State.setDomainRuns (s : State) (d : Nat) (b : Bool) : State :=
  if d < 32 then s.fsetBit CLK_DOMAIN_RUN0.RUN 0 d b else s.fsetBit CLK_DOMAIN_RUN1.RUN 0 (d - 32) b

/-- The domain in which the block of a page does its run-time work (R14), where one domain of the page stands for the block. -/
def workDomain (page : Nat) : Nat :=
  if page = pgSYS ∨ page = pgSEC ∨ page = pgDBG ∨ page = pgSCH then 2
  else if page = pgTRC then 46
  else if page = pgNVA then 45
  else if page = pgHKA ∨ page = pgPWM ∨ page = pgFAN ∨ page = pgTHM ∨ page = pgHUP then 44
  else if 0x21 ≤ page ∧ page ≤ 0x24 then 44
  else if page = pgMGE then 38
  else if page = pgPCIE then 39
  else if page = pgFHL then 36
  else if page = pgGNS then 43
  else if page = pgCEN then 1
  else if [pgCHN, pgCAN, pgGGR, pgLIM, pgNPR, pgFTM, pgCXW].contains page then 0
  else 3

/-- The block of a page does run-time work (R14, R37): it is out of reset, enabled by PAGE_CTRL.ENABLE, and its domain's clock is delivered. -/
def State.works (s : State) (page : Nat) : Bool :=
  s.running page && s.fon PAGE_CTRL.ENABLE page && s.domainRuns (workDomain page)

/-- A domain has failed supervision (CLK_DOMAIN_FAIL0, CLK_DOMAIN_FAIL1). -/
def State.domainFailed (s : State) (d : Nat) : Bool :=
  if d < 32 then s.fbit CLK_DOMAIN_FAIL0.FAIL 0 d else s.fbit CLK_DOMAIN_FAIL1.FAIL 0 (d - 32)

/-- Recording that a domain failed supervision. -/
def State.setDomainFailed (s : State) (d : Nat) : State :=
  if d < 32 then s.fsetBit CLK_DOMAIN_FAIL0.FAIL 0 d true else s.fsetBit CLK_DOMAIN_FAIL1.FAIL 0 (d - 32) true

/-- The domain in which a page's registers are served (R14, R36). The blocks that bring up their own clocks (link groups, fronthaul, PTP)
serve their registers in CD3. -/
def pageDomain (page : Nat) : Nat :=
  if page = pgSYS ∨ page = pgSEC ∨ page = pgDBG ∨ page = pgSCH then 2
  else if page = pgTRC then 46
  else if page = pgNVA then 45
  else if page = pgHKA ∨ page = pgPWM ∨ page = pgFAN ∨ page = pgTHM ∨ page = pgHUP then 44
  else if 0x21 ≤ page ∧ page ≤ 0x24 then 44
  else if page = pgMGE then 38
  else if page = pgPCIE then 39
  else if page = pgCEN then 1
  else if [pgCHN, pgCAN, pgGGR, pgLIM, pgNPR, pgFTM, pgCXW].contains page then 0
  else 3

/-- A block is out of reset. -/
def State.outOfReset (s : State) (page : Nat) : Bool := Tbl.get (fun _ => false) s.released page

/-- Taking a block out of reset, or holding it there. -/
def State.release (s : State) (page : Nat) (b : Bool) : State := { s with released := Tbl.set (fun _ => false) s.released page b }

/-- PAGE_STAT.READY of every page follows the block's reset and its clock (R37). -/
def State.refreshReady (s : State) : State :=
  (List.range 64).foldl (fun s p => s.fsetB PAGE_STAT.READY p (s.outOfReset p && s.domainRuns (pageDomain p))) s

/-- The domain is gated by the power state. -/
def State.isGated (s : State) (d : Nat) : Bool := Tbl.get (fun _ => false) s.gated d

/-- Some side of the fronthaul is enabled (R516). -/
def State.fhEnabled (s : State) : Bool := s.fon FHL_SIDEA_CFG.EN 0 || s.fon FHL_SIDEB_CFG.EN 0

/-- CLK_DOMAIN_RUN of a domain that a PLL feeds (R516). -/
def State.refreshDomain (s : State) (d : Nat) : State :=
  match pllOf d with
  | none => s
  | some p =>
    s.setDomainRuns d (s.fon (pllField p) 0 && !s.isGated d && ((decide (d ≠ 36 ∧ d ≠ 37)) || s.fhEnabled))

/-- CLK_DOMAIN_RUN of a link group's domain: REFCLK feeds its lane PLL, whose lock its own page shows (R16, R516). -/
def State.refreshGroupDomain (s : State) (g : Nat) : State :=
  s.setDomainRuns (4 + g) (s.fon JLK_STAT.PLL_LOCK g && !s.isGated (4 + g))

/-- Every domain's bit and every page's READY. -/
def State.refreshClocks (s : State) : State :=
  let s := (List.range 47).foldl (fun s d => s.refreshDomain d) s
  let s := (List.range 32).foldl (fun s g => s.refreshGroupDomain g) s
  let s := s.setDomainRuns 41 true
  s.refreshReady

/-- The clock fault source of a domain (R347). -/
def clockSource (d : Nat) : Option Nat :=
  if d < 4 then some (128 + d)
  else if d < 36 then some (132 + (d - 4) / 8)
  else if d < 38 then some 136
  else if d < 41 then some (137 + (d - 38))
  else if d = 41 ∨ d = 42 then none
  else some 141

/-- The clock fault sources follow CLK_DOMAIN_FAIL, AON_OK, REFCLK_OK (R20, R347). -/
def State.driveClockFaults (s : State) : State :=
  let failed (src : Nat) := (List.range 47).any fun d => decide (clockSource d = some src) && s.domainFailed d
  (List.range 14).foldl (fun s k => if k = 12 then s else s.drive (128 + k) (failed (128 + k))) s

/-- The safe state is entered (R358): every stream muted, the error pair at fault, the pads overridden, the cause recorded. -/
def State.safeEntry (s : State) (cause src : Nat) : State :=
  let s := s.muteAndPads
  let s := (s.fset FLT_STAT.HEALTHY 0 0).fset FLT_STAT.SAFE 0 1
  ((s.fset FLT_SAFE_CAUSE.CAUSE 0 cause).fset FLT_SAFE_CAUSE.SRC 0 src).fset FLT_SAFE_DT_LO.DT 0 (s.dt % 2 ^ 32)

/-- PLLA_FIRST_LOCK: PLL-A locks for the first time since power-on reset, and device time is set to 0 (R21). -/
def execPllaFirstLock (s : State) : Host.Outcome State Fault Refusal :=
  .next (
    if s.time.started then s
    else ({ s with time := { started := true } }.fset CLK_PLL_STAT.PLLA_LOCK 0 1).refreshClocks)

/-- The failing windows in a row of a domain. -/
def State.devOf (s : State) (d : Nat) : Nat := Tbl.get (fun _ => 0) s.clockDev d

/-- Setting the failing windows in a row. -/
def State.setDev (s : State) (d n : Nat) : State := { s with clockDev := Tbl.set (fun _ => 0) s.clockDev d n }

/-- One domain at the end of a window (R20): its second failing window in a row fails it. CD41 and CD42 are not counted here. -/
def State.superviseDomain (s : State) (deviates : Bool) (d : Nat) : State :=
  if d = 41 ∨ d = 42 then s
  else if s.devOf d = 2 then (s.setDomainFailed d).setDev d 0
  else if !s.domainRuns d then s.setDev d 0
  else if !deviates then s.setDev d 0
  else if s.devOf d = 0 then s.setDev d 1
  else (s.setDomainFailed d).setDev d 1

/-- REFCLK at the end of a window: supervised in the same way. -/
def State.superviseRefclk (s : State) (bad : Bool) : State :=
  if !bad then (s.setDev 47 0).fset CLK_PLL_STAT.REFCLK_OK 0 1
  else if s.devOf 47 = 0 then s.setDev 47 1
  else s.fset CLK_PLL_STAT.REFCLK_OK 0 0

/-! CD41 (R30) and CD42 (R516). -/

/-- The timer of the two CD41 cycles, 61 µs, within which an edge of the target port's SCL keeps CD42 running. -/
def tmScl : Nat := 95

/-- An edge of the target port's SCL: CD42 runs (R16, R516). -/
def State.sclEdge (s : State) : State := (s.setDomainRuns 42 true).timerStart tmScl 0 s.us

/-- No edge for two CD41 cycles: CD42 does not run (R516). -/
def State.sclQuiet (s : State) : State := (s.setDomainRuns 42 false).timerStop tmScl 0

/-- At a microsecond strobe: CD42 stops 61 µs after the last edge. -/
def State.sclStrobe (s : State) : State := if s.timerDue tmScl 0 s.us 61 then s.sclQuiet else s

/-- The always-on watchdog over 32 CD41 cycles: in SNOWDROP it counts a wake, and not the sleep (R486; DEDUCED, log 206). -/
def RstSt.aonCount (r : RstSt) (asleep waking : Bool) : RstSt :=
  if !r.aonOn then r else if waking then { r with wakeCyc := r.wakeCyc + 32 } else if asleep then r else { r with aonCyc := r.aonCyc + 32 }

/-- 32 CD41 cycles pass: the count of CD41 and the always-on watchdog advance; without strobes, an edge before them lies more than two cycles
back. -/
def State.aonWindow (s : State) : State :=
  let r := { s.rst with cd41 := s.rst.cd41 + 32 }
  let s := { s with rst := r.aonCount (decide (s.fget PWR_STAT.STATE 0 = 3)) s.pwr.waking }
  if s.timeRuns then s else s.sclQuiet

/-- CLOCK_SUPERVISION_WINDOW: a window of 32 CD41 cycles ends (R20); bit d of `deviates` says that domain d was beyond ±2 %. A failure of
CD3 or CD41 enters the safe state from the supervisor itself (R358). -/
def execClockSupervisionWindow (deviates : BitVec 47) (refclkBad aonBad : Bool) (s : State) : Host.Outcome State Fault Refusal :=
  .next (
    let t := (List.range 47).foldl (fun t d => t.superviseDomain (deviates.toNat.testBit d) d) s.aonWindow
    let t := t.superviseRefclk refclkBad
    let t := t.fsetB CLK_PLL_STAT.AON_OK 0 (!aonBad)
    let t := (t.driveClockFaults.drive 140 aonBad).drive 142 (!t.fon CLK_PLL_STAT.REFCLK_OK 0)
    if (aonBad || (t.domainFailed 3 && !s.domainFailed 3)) && !s.fon FLT_STAT.SAFE 0 then t.safeEntry 4 0 else t)

/-- PLL_LOCK_LOSS: a PLL loses lock; every domain that it feeds stops and is reported in the next window (R20, R347). -/
def execPllLockLoss (pll : Fin 4) (s : State) : Host.Outcome State Fault Refusal :=
  .next (
    if !s.fon (pllField pll.val) 0 then s
    else
      let t := s.fset (pllField pll.val) 0 0
      let fed := (List.range 47).filter fun d => decide (pllOf d = some pll.val)
      let t := fed.foldl (fun t d => t.setDev d 2) t
      (t.refreshClocks).drive 143 true)

end Sys2Proof.Machine
end

