-- ==== Sys2Proof/Machine/Bus.lean ====
section
/-!
DEFINITION. Chapter 2: the common page header (events, expert unlock, ownership, configuration checks) as the register bus serves it.
-/
namespace Sys2Proof.Machine

/-! Header words that are written. -/

/-- Clearing one event bit: its sticky bit and its count (R42). -/
def State.clearEvent (s : State) (page n : Nat) : State := (s.fsetBit EVT_STICKY.STICKY page n false).setEvtCount page n 0

/-- A write to EVT_STICKY: every bit written 1 is cleared (R42). -/
def stickyWrite (page : Nat) (bits : Word) (s : State) : WRes :=
  .ok ((List.range 32).foldl (fun s n => if bits.toNat.testBit n then s.clearEvent page n else s) s)

/-- EVT_STICKY_CLEAR: a write of 1s to EVT_STICKY (R42). -/
def execEvtStickyClear (who : Init) (page : Fin 64) (bits : Word) (s : State) : Host.Outcome State Fault Refusal :=
  .next (s.access who page.val 0x010 bits (stickyWrite page.val bits))

/-- A write to EVT_FORCE: every bit written 1 injects one rise and leaves the level unchanged (R42). -/
def forceWrite (page : Nat) (bits : Word) (s : State) : WRes :=
  .ok ((List.range 32).foldl (fun s n => if bits.toNat.testBit n then s.rise page n else s) s)

/-- EVT_FORCE: a write of 1s to EVT_FORCE (R42). -/
def execEvtForce (who : Init) (page : Fin 64) (bits : Word) (s : State) : Host.Outcome State Fault Refusal :=
  .next (s.access who page.val 0x018 bits (forceWrite page.val bits))

/-- EVT_COUNT.SEL, held per initiator (R37). -/
def evtSelFld (page : Nat) : Fld := ⟨page * 0x1000 + 0x020, Fld.unitStep, 31, 27⟩

/-- The key of a count shadow. -/
def evtShadowKey (page : Nat) (i : Init) : Nat := 64 * page + i.holder

/-- A write to EVT_COUNT (R43): SEL is taken and the shadow dropped; with SNAP the count goes to the shadow and is cleared. -/
def evtCountWrite (i : Init) (page sel : Nat) (snap : Bool) (s : State) : WRes :=
  let n := s.evtCountOf page sel
  let t := s.fset (evtSelFld page) i.holder sel
  if snap then
    .ok ({ t with evtShadow := Tbl.set (fun _ => none) t.evtShadow (evtShadowKey page i) (some n) }.clearEvent page sel)
  else .ok { t with evtShadow := Tbl.set (fun _ => none) t.evtShadow (evtShadowKey page i) none }

/-- EVT_COUNT_SNAP: a write of EVT_COUNT with SNAP = 1 (R43). -/
def execEvtCountSnap (who : Init) (page : Fin 64) (sel : Fin 32) (s : State) : Host.Outcome State Fault Refusal :=
  .next (s.access who page.val 0x020 (BitVec.ofNat 32 (sel.val * 2 ^ 27 + 2 ^ 26)) (evtCountWrite who page.val sel.val true))

/-- The COUNT that a reader sees (R43): its shadow, or the live count of its SEL. -/
def State.evtCountSeen (s : State) (i : Init) (page : Nat) : Nat :=
  match Tbl.get (fun _ => none) s.evtShadow (evtShadowKey page i) with
  | some n => n
  | none => s.evtCountOf page (s.fget (evtSelFld page) i.holder)

/-- EVENT_RISE: the raw condition behind an event bit of a running page rises (R42). -/
def execEventRise (page : Fin 64) (bit : Fin 32) (s : State) : Host.Outcome State Fault Refusal :=
  .next (if s.pagePresent page.val && s.running page.val then s.cond page.val bit.val true else s)

/-! Stopped blocks. -/

/-- STOPPED_BLOCK_ACCESS_DONE: an access to a page whose block does not run completes after 2 µs (R36). -/
def execStoppedBlockAccessDone (who : Init) (page : Fin 64) (write : Bool) (s : State) : Host.Outcome State Fault Refusal :=
  .next (
    if s.pagePresent page.val && !s.running page.val then
      let t := (if write then s.disarm who page.val else s).refuse who page.val .notRunning
      if write then t else t.answerRead who 0
    else s)

/-! Expert unlock. -/

/-- The check of a write to EXPERT_UNLOCK: as any basic write; on the CTXW page operator domains are admitted too (R48). -/
def State.admitUnlock (s : State) (i : Init) (page : Nat) : Option Reason :=
  if page = pgCTXW then
    match s.identOf i with
    | some (.domain _) => if s.sec.lc = lcDEPLOYED then none else some .lifecycle
    | _ => s.admitWrite i page 0x024
  else s.admitWrite i page 0x024

/-- The identity may open expert writes on the page (R46, R52). -/
def State.mayOpen (s : State) (i : Init) (page : Nat) : Bool :=
  match s.identOf i with
  | none => false
  | some (.domain _) => decide (page = pgCTXW ∧ s.sec.lc = lcDEPLOYED)
  | some id => expertAdmitted s.sec.lc id || (decide (page = pgLIM ∧ s.sec.lc = lcPROVISIONED ∧ id = .manufacturer))

/-- The first unlock word (R47). DESIGN CHOICE: written again while ARMED, it arms anew and restarts the 1 ms; the rule does not say (log 167). -/
def unlockArm (i : Init) (page : Nat) (s : State) : WRes :=
  .ok ((s.setExpertSt page i { s.expertSt page i with armed := true }).timerStart tmExpertArm (expertUnit page i) s.ms)

/-- EXPERT_UNLOCK_ARM: a write of 0x0000_5A5A to EXPERT_UNLOCK (R47). -/
def execExpertUnlockArm (who : Init) (page : Fin 64) (s : State) : Host.Outcome State Fault Refusal :=
  .next (s.accessBy (fun s => s.admitUnlock who page.val) who page.val 0x024 0x5A5A (unlockArm who page.val))

/-- The second unlock word (R47): it opens when it follows the first within 1 ms; an identity that is not admitted is refused. -/
def unlockOpen (armed : Bool) (i : Init) (page : Nat) (s : State) : WRes :=
  if !s.mayOpen i page then .error .lifecycle
  else if armed then
    .ok ((s.setExpertSt page i { armed := false, opened := true }).timerStart tmExpertOpen (expertUnit page i) s.ms)
  else .ok s

/-- The first word of this initiator stands and its 1 ms has not passed (R47). -/
def State.armedInTime (s : State) (i : Init) (page : Nat) : Bool :=
  (s.expertSt page i).armed && !s.timerDue tmExpertArm (expertUnit page i) s.ms 1

/-- EXPERT_UNLOCK_OPEN: a write of 0xA5A5_0000 plus the page number (R47). -/
def execExpertUnlockOpen (who : Init) (page : Fin 64) (s : State) : Host.Outcome State Fault Refusal :=
  .next (s.accessBy (fun s => s.admitUnlock who page.val) who page.val 0x024 (BitVec.ofNat 32 (0xA5A50000 + page.val))
    (unlockOpen (s.armedInTime who page.val) who page.val))

/-- Closing the holder's expert lock. -/
def State.closeExpert (s : State) (i : Init) (page : Nat) : State :=
  (s.setExpertSt page i {}).timerStop tmExpertOpen (expertUnit page i)

/-- EXPERT_CLOSE: a write of 0 to EXPERT_UNLOCK (R47). -/
def execExpertClose (who : Init) (page : Fin 64) (s : State) : Host.Outcome State Fault Refusal :=
  .next (s.accessBy (fun s => s.admitUnlock who page.val) who page.val 0x024 0 fun s => .ok (s.closeExpert who page.val))

/-- A write to EXPERT_UNLOCK of any word (R47). -/
def unlockWrite (armed : Bool) (i : Init) (page : Nat) (v : Word) (s : State) : WRes :=
  if v = 0x5A5A then unlockArm i page s
  else if v = BitVec.ofNat 32 (0xA5A50000 + page) then unlockOpen armed i page s
  else if v = 0 then .ok (s.closeExpert i page)
  else .ok s

/-- EXPERT_ARM_TIMEOUT: the second word has not arrived within 1 ms (R47). -/
def execExpertArmTimeout (who : Init) (page : Fin 64) (s : State) : Host.Outcome State Fault Refusal :=
  .next (
    if (s.expertSt page.val who).armed && s.timerDue tmExpertArm (expertUnit page.val who) s.ms 1 then s.disarm who page.val else s)

/-- EXPERT_OPEN_TIMEOUT: 1,000 ms without an expert write by the holder (R47). -/
def execExpertOpenTimeout (who : Init) (page : Fin 64) (s : State) : Host.Outcome State Fault Refusal :=
  .next (
    if (s.expertSt page.val who).opened && s.timerDue tmExpertOpen (expertUnit page.val who) s.ms 1000 then s.closeExpert who page.val
    else s)

/-- The holders whose expert lock of a page is open, or armed: bit 3 for the packet engine's identities (R47). -/
def State.expertBits (s : State) (reader : Init) (page : Nat) (sel : ExpertSt → Bool) : Nat :=
  let of (h : Nat) : Bool := sel (Tbl.get (fun _ => {}) s.expert (64 * page + h))
  let three : Bool :=
    match reader with
    | .engine id => of (Init.engine id).holder
    | _ => (List.range 19).any fun k => of (3 + k)
  (if of 0 then 1 else 0) + (if of 1 then 2 else 0) + (if of 2 then 4 else 0) + (if three then 8 else 0)

/-! Ownership. -/

/-- A write of OWNER.ID (R48). On a page without HAS_OWNER the field is read-only, and the write changes nothing (R37, R35). -/
def ownerWrite (i : Init) (page id : Nat) (s : State) : WRes :=
  if !hasOwner page then .ok s
  else if s.identOf i ≠ some .integrator ∧ s.identOf i ≠ some .manufacturer then .error .notOwner
  else if 0x11 ≤ id ∧ id ≤ 0x1E then .error .outOfRange
  else .ok (s.fset OWNER.ID page id)

/-- The admission of a write of OWNER.ID: the lifecycle alone on a page with HAS_OWNER, as any basic write elsewhere (R48). -/
def State.admitOwner (s : State) (i : Init) (page : Nat) : Option Reason :=
  if hasOwner page then
    match s.identOf i with
    | none => some .lifecycle
    | some id => if basicAdmitted s.sec.lc id then none else some .lifecycle
  else s.admitWrite i page 0x028

/-- OWNER_WRITE: a write of OWNER.ID (R48). -/
def execOwnerWrite (who : Init) (page : Fin 64) (id : Fin 32) (s : State) : Host.Outcome State Fault Refusal :=
  .next (s.accessBy (fun s => s.admitOwner who page.val) who page.val 0x028 (BitVec.ofNat 32 id.val) (ownerWrite who page.val id.val))

/-! Configuration checks. -/

/-- The configuration fault source of a page's group (R347). -/
def configSource (page : Nat) : Nat :=
  if page ≤ 0x0A then 144 else if page ≤ 0x11 then 145 else if page ≤ 0x1C then 146 else if page ≤ 0x27 then 147 else 148

/-- The configuration fault sources follow CRC_ERR of their pages. -/
def State.driveConfig (s : State) (src : Nat) : State :=
  s.drive src ((List.range 64).any fun p => decide (configSource p = src) && s.fon PAGE_STAT.CRC_ERR p)

/-- CRC_ERR of a page takes a value; FLT_CRC_PAGE and the fault source of its group follow (R38, R361). -/
def State.setCrcErr (s : State) (page : Nat) (bad : Bool) : State :=
  let s := s.fsetB PAGE_STAT.CRC_ERR page bad
  let s := s.fsetBit (if page < 32 then FLT_CRC_PAGE0.PAGES else FLT_CRC_PAGE1.PAGES) 0 (page % 32) bad
  (s.cond page evtCrcMismatch bad).driveConfig (configSource page)

/-- The timer of the 16 ms without a completed pass. -/
def tmCrc : Nat := 13

/-- A configuration check pass of a page runs. -/
def State.crcRunning (s : State) (page : Nat) : Bool := Tbl.get (fun _ => false) s.crcPass page

/-- The start of a pass at a millisecond strobe (R38); the 16 ms without a completed pass count whether or not the check is enabled. -/
def State.crcPassStart (s : State) (page : Nat) : State :=
  if s.pagePresent page && s.running page then
    let s := if s.timerOn tmCrc page then s else s.timerStart tmCrc page s.ms
    if s.fon PAGE_CTRL.CRC_CHECK_EN page then { s with crcPass := Tbl.set (fun _ => false) s.crcPass page true } else s
  else s

/-- CRC_PASS_COMPLETE: the pass of a page ends; `good` says that the stored words give PAGE_CRC (R38). DESIGN CHOICE: a CRC_ERR that a context
set on the CTXW page (R517) clears with the next good pass of that page's own words; the rule does not say (log 168). -/
def execCrcPassComplete (page : Fin 64) (good : Bool) (s : State) : Host.Outcome State Fault Refusal :=
  .next (
    if s.crcRunning page.val then
      let t := s.dropCrcPass page.val
      let t := (t.fset PAGE_STAT.CRC_STALE page.val 0).timerStart tmCrc page.val t.ms
      t.setCrcErr page.val (!good)
    else s)

/-- CRC_STALE_TIMEOUT: no pass has completed for 16 ms (R38). -/
def execCrcStaleTimeout (page : Fin 64) (s : State) : Host.Outcome State Fault Refusal :=
  .next (if s.timerDue tmCrc page.val s.ms 16 then s.fset PAGE_STAT.CRC_STALE page.val 1 else s)

/-- The context check of a millisecond strobe found a mismatch (R517). -/
def State.ctxCrcMismatch (s : State) : State := (s.setCrcErr pgCTXW true)

end Sys2Proof.Machine
end

