-- ==== Sys2Proof/Machine/Db.lean ====
section
/-!
DEFINITION. Arithmetic of levels: rounding (R515), saturation (R13), decibels in steps of 1/64 dB (R8) and their power ratios.
-/
namespace Sys2Proof.Machine

/-- round(num / den) of R515: to the nearest integer, halves away from zero; den positive. -/
def roundDiv (num : Int) (den : Nat) : Int :=
  if 0 ≤ num then (2 * num + den) / (2 * (den : Int)) else -((2 * (-num) + den) / (2 * (den : Int)))

/-- round of a quotient of naturals (R515). -/
def roundDivN (num den : Nat) : Nat := if den = 0 then 0 else (2 * num + den) / (2 * den)

/-- A value held between two limits. -/
def clampI (lo hi x : Int) : Int := if x < lo then lo else if hi < x then hi else x

/-- The widest 64-bit accumulator values (R13). -/
def accMax : Int := 0x7FFFFFFFFFFFFFFF
def accMin : Int := -0x8000000000000000

/-- An accumulator value held at the ends of its range (R13). -/
def accClamp (x : Int) : Int := clampI accMin accMax x

/-- A term enters a 64-bit sum: the sum as held, and the number of holds so far (R13). -/
def accAdd (a : Int × Nat) (x : Int) : Int × Nat := (accClamp (a.1 + x), if accClamp (a.1 + x) = a.1 + x then a.2 else a.2 + 1)

/-- The 64-bit sum of a list, and the number of holds. -/
def accSum (l : List Int) : Int × Nat := l.foldl accAdd (0, 0)

/-- One step of the search for an integer root: bit `b` is kept when the power stays at or below the bound. -/
def rootStep (k n acc b : Nat) : Nat := if (acc + 2 ^ b) ^ k ≤ n then acc + 2 ^ b else acc

/-- The integer k-th root of n, for roots below 2^bits. -/
def iroot (k n : Nat) : Nat → Nat → Nat
  | 0, acc => acc
  | b + 1, acc => iroot k n b (rootStep k n acc b)

/-- Fixed point of power ratios: 2^40 stands for 1. -/
def linOne : Nat := 2 ^ 40

/-- 10^(n / 1280) in units of 2^-40, for n from 0 to 1279. -/
def pow10Frac (n : Nat) : Nat := iroot 1280 (10 ^ n * 2 ^ (40 * 1280)) 44 0

/-- 10^(n / 1280) in units of 2^-40: the power ratio of n steps of 1/128 dB. -/
def pow10Half (n : Int) : Nat :=
  let q := n / 1280
  let r := (n % 1280).toNat
  if 0 ≤ q then pow10Frac r * 10 ^ q.toNat else pow10Frac r / 10 ^ (-q).toNat

/-- The power ratio of a level in 1/64 dB, in units of 2^-40. -/
def dbToLin (db : Int) : Nat := pow10Half (2 * db)

/-- 10^(n / 1280) is at most num / den. -/
def ratioAtMost (n : Int) (num den : Nat) : Bool :=
  let q := n / 1280
  let f := pow10Frac (n % 1280).toNat
  if 0 ≤ q then decide (f * 10 ^ q.toNat * den ≤ num * linOne) else decide (f * den ≤ num * linOne * 10 ^ (-q).toNat)

/-- One step of the search for a level. -/
def levelStep (num den : Nat) (acc : Int) (b : Nat) : Int :=
  let t := acc + 2 ^ b
  if ratioAtMost (2 * t - 1) num den then t else acc

/-- The level nearest to num / den in 1/64 dB (R515), searched between −131,072 and +131,071 steps. -/
def levelSearch (num den : Nat) : Nat → Int → Int
  | 0, acc => acc
  | b + 1, acc => levelSearch num den b (levelStep num den acc b)

/-- 10 log10(num / den) rounded to 1/64 dB; none when the ratio is zero. -/
def linToDb (num den : Nat) : Option Int :=
  if num = 0 ∨ den = 0 then none else some (levelSearch num den 18 (-131072))

/-- The code of R9 for a field without a valid value. -/
def noValue : Int := -32768

/-- The code of R114 for no loop. -/
def noLoop : Int := 0x7FFF

/-- A value held to the range of a gain or power field (R8). -/
def dbField (x : Int) : Int := clampI (-32767) 32767 x

/-- A value whose last place the spec does not fix: the quotient rounded down, or up when the free bit says so and it is not exact. -/
def openRound (free : BitVec 64) (num : Int) (den : Nat) : Int :=
  if den = 0 then 0
  else if num % (den : Int) = 0 then num / (den : Int)
  else num / (den : Int) + (if free.getLsbD 0 then 1 else 0)

end Sys2Proof.Machine
end

