-- ==== Sys2Proof/Machine/Chn.lean ====
section
/-!
DEFINITION. Chapter 3: streams, the port matrix, band windows and added delay.
-/
namespace Sys2Proof.Machine

/-! Streams and the matrix (R56 to R62). -/

/-- Sample rate in kHz of a RATE code (R57). -/
def rateKhz (code : Nat) : Nat :=
  match code with
  | 0 => 1536000
  | 1 => 768000
  | 2 => 384000
  | 3 => 245760
  | _ => 122880

/-- Half the occupied range of a stream in kHz, 0.4 times its rate (R58). -/
def State.halfBand (s : State) (stream : Nat) : Nat := rateKhz (s.fget CHN_STREAM.RATE stream) * 2 / 5

/-- An index of a member's path is one of the uplink paths (R60). -/
def isUplink (p : Nat) : Bool := decide (16 ≤ p)

/-- Streams that a path reads (R60): one donor stream, or the service streams of its mask. -/
def State.readsOf (s : State) (p : Nat) : List Nat :=
  if isUplink p then ((List.range 16).filter fun k => s.fbit CHN_PATH_CFG.SVC_MASK p k).map (16 + ·)
  else [s.fget CHN_PATH_CFG.DONOR p]

/-- Streams that a path writes (R60). -/
def State.writesOf (s : State) (p : Nat) : List Nat :=
  if isUplink p then [32 + s.fget CHN_PATH_CFG.DONOR p]
  else ((List.range 16).filter fun k => s.fbit CHN_PATH_CFG.SVC_MASK p k).map (48 + ·)

/-- The present paths. -/
def State.paths (s : State) : List Nat := (List.range 32).filter fun p => s.member.present p

/-- Path states (R60). -/
def pathOFF : Nat := 0
def pathON : Nat := 1
def pathDRAINING : Nat := 2

/-- State of a path. -/
def State.pathState (s : State) (p : Nat) : Nat := s.fget CHN_PATH_STAT.STATE p

/-- A stream is in use while a path that reads or writes it is not OFF (R59). -/
def State.streamInUse (s : State) (stream : Nat) : Bool :=
  s.paths.any fun p => decide (s.pathState p ≠ pathOFF) && ((s.readsOf p).contains stream || (s.writesOf p).contains stream)

/-- Behind a path's registers. -/
def State.pathRt (s : State) (p : Nat) : PathRt := Tbl.get (fun _ => {}) s.chn.paths p

/-- Writing what stands behind a path's registers. -/
def State.setPathRt (s : State) (p : Nat) (r : PathRt) : State :=
  { s with chn := { s.chn with paths := Tbl.set (fun _ => {}) s.chn.paths p r } }

/-- A write of CHN_STREAMs (R57, R59). DESIGN CHOICE (log 170): R58 is tested at a window's commit only, so a stream write, or a path write,
that leaves a committed window outside an occupied range is accepted and the window stays. -/
def streamWrite (stream : Nat) (v : Word) (s : State) : WRes :=
  if !s.member.present stream then .error .unitAbsent
  else if s.streamInUse stream then .error .configLocked
  else if 4 < bitsOf v 31 29 then .error .outOfRange
  else if bitsOf v 28 27 ≠ 0 ∧ 16 ≤ stream % 32 then .error .outOfRange
  else s.mergeReg pgCHN (0x100 + 4 * stream) (0x13100 + 4 * stream) v

/-! Band windows (R63 to R65). -/

/-- The unit of a window's registers. -/
def winUnit (p w : Nat) : Nat := 16 * p + w

/-- A window: enabled, edge, bounds in kHz. -/
structure Win where
  en : Bool
  edge : Nat
  low : Nat
  high : Nat
deriving DecidableEq, Repr

/-- The window of a LO and a HI word (R63). -/
def Win.ofWords (lo hi : Word) : Win := ⟨decide (bitsOf lo 31 31 = 1), bitsOf lo 30 29, bitsOf lo 23 0, bitsOf hi 23 0⟩

/-- The committed window (R64). -/
def State.winOf (s : State) (p w : Nat) : Win :=
  Win.ofWords (s.word (CHN_WIN_LO.EN.key (winUnit p w))) (s.word (CHN_WIN_HI.F_HIGH_KHZ.key (winUnit p w)))

/-- The window in force at the channeliser (R64). -/
def State.winInForce (s : State) (p w : Nat) : Win :=
  let v := Tbl.get (fun _ => (0, 0)) s.chn.winApplied (winUnit p w)
  Win.ofWords v.1 v.2

/-- The enabled committed windows of a path. -/
def State.winsOf (s : State) (p : Nat) : List Win := ((List.range 12).map fun w => s.winOf p w).filter Win.en

/-- The enabled windows of a path in force. -/
def State.winsInForce (s : State) (p : Nat) : List Win := ((List.range 12).map fun w => s.winInForce p w).filter Win.en

/-- Putting the committed windows of a path in force (R64). -/
def State.applyWindows (s : State) (p : Nat) : State :=
  (List.range 12).foldl (fun s w =>
    let words := (s.word (CHN_WIN_LO.EN.key (winUnit p w)), s.word (CHN_WIN_HI.F_HIGH_KHZ.key (winUnit p w)))
    { s with chn := { s.chn with winApplied := Tbl.set (fun _ => (0, 0)) s.chn.winApplied (winUnit p w) words } }) s

/-- The stage of a holder's CHN_WIN_LO. -/
def State.winStageOf (s : State) (i : Init) : Option (Nat × Word) := Tbl.get (fun _ => none) s.chn.winStage i.holder

/-- Writing the stage. -/
def State.setWinStage (s : State) (i : Init) (v : Option (Nat × Word)) : State :=
  { s with chn := { s.chn with winStage := Tbl.set (fun _ => none) s.chn.winStage i.holder v } }

/-- A committed window uses up the LO that its holder staged for it; one staged for another window stays (R54, R64). -/
def State.dropWinStage (s : State) (i : Init) (u : Nat) : State :=
  match s.winStageOf i with
  | some (k, _) => if k = u then s.setWinStage i none else s
  | none => s

/-- The window unit that a holder selects in CHN_WSEL (R63). -/
def State.winSel (s : State) (i : Init) : Nat := winUnit (s.fget CHN_WSEL.PATH i.holder) (s.fget CHN_WSEL.WIN i.holder)

/-- A write of CHN_WIN_LO is staged for its initiator (R64); EDGE 3 is out of range (R63). -/
def winLoWrite (i : Init) (v : Word) (s : State) : WRes :=
  if !s.member.present (s.fget CHN_WSEL.PATH i.holder) then .error .unitAbsent
  else if bitsOf v 30 29 = 3 then .error .outOfRange
  else .ok (s.setWinStage i (some (s.winSel i, v &&& 0xE0FFFFFF)))

/-- WIN_LO_WRITE: a write of CHN_WIN_LO (R64). -/
def execWinLoWrite (who : Init) (value : Word) (s : State) : Host.Outcome State Fault Refusal :=
  .next (s.access who pgCHN 0x044 value (winLoWrite who value))

/-- The window lies within the occupied range of every stream of its path (R58). -/
def State.inOccupied (s : State) (p : Nat) (w : Win) : Bool :=
  (s.readsOf p ++ s.writesOf p).all fun t =>
    decide (s.fget CHN_STREAM.FC_KHZ t ≤ w.low + s.halfBand t ∧ w.high ≤ s.fget CHN_STREAM.FC_KHZ t + s.halfBand t)

/-- Two windows overlap when they share more than an edge (R64). -/
def Win.overlaps (a b : Win) : Bool := decide (a.low < b.high ∧ b.low < a.high)

/-! Added delay (R68, R69). -/

/-- Samples of an added delay (R68): round(DELAY_NS × 1.536). -/
def delaySamples (ns : Nat) : Nat := roundDivN (ns * 1536) 1000

/-- One sample in the units of `PathRt.delayQ`. -/
def smpQ : Nat := 6144

/-- The delay reached by a slew at a device time (R69): 1 sample per µs is 25 units per tick. -/
def PathRt.reached (r : PathRt) (dt : Nat) : Nat :=
  match r.slewTo with
  | none => r.delayQ
  | some n =>
    let d := (dt - r.slewStart) * 25
    if r.delayQ ≤ n * smpQ then min (r.delayQ + d) (n * smpQ) else max (r.delayQ - d) (n * smpQ)

/-- Two delays differ by at most 8 samples. -/
def within8 (a b : Nat) : Bool := decide (a ≤ b + 8 * smpQ ∧ b ≤ a + 8 * smpQ)

/-- A new target of the added delay, in samples (R69). DESIGN CHOICE (log 173): on an OFF path the change raises no DELAY_APPLIED, since R69
names the event in its rows of an ON or DRAINING path only. -/
def State.delayTarget (s : State) (p n : Nat) : State :=
  let r := s.pathRt p
  if s.pathState p = pathOFF then
    (s.setPathRt p { r with delayQ := n * smpQ, slewTo := none, slewAt := none, pendTo := none }).fset CHN_PATH_STAT.DELAY_PENDING p 0
  else if r.pendTo.isSome then s.setPathRt p { r with pendTo := some n }
  else
    let now := r.reached s.dt
    if within8 now (n * smpQ) then
      if r.slewTo.isSome then s.setPathRt p { r with delayQ := now, slewTo := some n, slewStart := s.dt }
      else s.setPathRt p { r with slewAt := some n }
    else
      (s.setPathRt p { r with delayQ := now, slewTo := none, slewAt := none, pendTo := some n }).fset CHN_PATH_STAT.DELAY_PENDING p 1

/-- DELAY_NS takes a value: the derived sample count is overwritten (R45, R68), and the change begins (R69). -/
def State.setDelayNs (s : State) (p ns : Nat) : State :=
  ((s.fset CHN_PATH_DLY.DELAY_NS p ns).fset CHN_PATH_DLY_SMP.SMP p (delaySamples ns)).delayTarget p (delaySamples ns)

/-- A write of CHN_PATH_DLYp (R60, R69); refused while the alignment servo owns the path's delay (R309). -/
def delayWrite (p ns : Nat) (s : State) : WRes :=
  if !s.member.present p then .error .unitAbsent
  else if s.fon FHL_ALIGN_CFG.EN 0 && s.fbit FHL_ALIGN_PATHS.PATHS 0 p then .error .configLocked
  else if 40000 < ns then .error .outOfRange
  else .ok (s.setDelayNs p ns)

/-- DELAY_WRITE: a write of added delay in ns (R69). -/
def execDelayWrite (who : Init) (path : Fin 32) (ns : BitVec 16) (s : State) : Host.Outcome State Fault Refusal :=
  .next (s.access who pgCHN (0x204 + 16 * path.val) (ns.setWidth 32) (delayWrite path.val ns.toNat))

/-- An expert write of CHN_PATH_DLY_SMPp (R68). -/
def delaySmpWrite (p n : Nat) (s : State) : WRes :=
  if !s.member.present p then .error .unitAbsent
  else if 61440 < n then .error .outOfRange
  else .ok ((s.fset CHN_PATH_DLY_SMP.SMP p n).delayTarget p n)

/-- The device time at which a slew reaches its target. -/
def PathRt.slewEnd (r : PathRt) (n : Nat) : Nat :=
  r.slewStart + ceilDiv (if r.delayQ ≤ n * smpQ then n * smpQ - r.delayQ else r.delayQ - n * smpQ) 25

/-- DELAY_SLEW_DONE: the slew of a path reaches its target (R69, R82). -/
def execDelaySlewDone (path : Fin 32) (s : State) : Host.Outcome State Fault Refusal :=
  .next (
    let r := s.pathRt path.val
    match r.slewTo with
    | none => s
    | some n =>
      let s := s.advanceTo (r.slewEnd n)
      (s.setPathRt path.val { r with delayQ := n * smpQ, slewTo := none }).pulse pgCHN 4)

/-- What a frame boundary does to a path's delay (R69); `quiet` says that no context of the path is RAMPING, ACTIVE, HELD or DRAINING.
DESIGN CHOICE (log 212): a change that pends or slews as the path comes to OFF goes on as it would on a path that is ON. -/
def State.delayAtBoundary (s : State) (p : Nat) (quiet : Bool) : State :=
  let r := s.pathRt p
  match r.slewAt with
  | some n => s.setPathRt p { r with slewAt := none, slewTo := some n, slewStart := s.dt }
  | none =>
    match r.pendTo with
    | some n =>
      if quiet then
        ((s.setPathRt p { r with pendTo := none, delayQ := n * smpQ }).fset CHN_PATH_STAT.DELAY_PENDING p 0).pulse pgCHN 4
      else s
    | none => s

end Sys2Proof.Machine
end

