-- ==== Sys2Proof/Machine/Crypt.lean ====
section
/-!
DEFINITION. The cryptography that the spec names for packets and keys: SHA-384 and its HMAC (R317), AES-256 with the GCM tag of authenticated data
(R317), and AES Key Wrap (R395). Words and blocks are numbers, most significant byte first.
-/
namespace Sys2Proof.Machine.Crypt

/-- The number of a list of bytes, most significant first. -/
def ofBytes (l : List Nat) : Nat := l.foldl (fun a b => a * 256 + b % 256) 0

/-- The n bytes of a number, most significant first. -/
def toBytes : Nat → Nat → List Nat
  | 0, _ => []
  | n + 1, v => v / 256 ^ n % 256 :: toBytes n v

/-- A list of bytes in groups of n, as numbers. -/
def groups (n : Nat) : Nat → List Nat → List Nat
  | 0, _ => []
  | k + 1, l => ofBytes (l.take n) :: groups n k (l.drop n)

/-! SHA-384. -/

/-- A word of 64 bits, rotated right. -/
def rotr (n x : Nat) : Nat := (x / 2 ^ n + x * 2 ^ (64 - n)) % 2 ^ 64

/-- The round constants. -/
def shaK : List Nat :=
  [0x428A2F98D728AE22, 0x7137449123EF65CD, 0xB5C0FBCFEC4D3B2F, 0xE9B5DBA58189DBBC, 0x3956C25BF348B538,
   0x59F111F1B605D019, 0x923F82A4AF194F9B, 0xAB1C5ED5DA6D8118, 0xD807AA98A3030242, 0x12835B0145706FBE,
   0x243185BE4EE4B28C, 0x550C7DC3D5FFB4E2, 0x72BE5D74F27B896F, 0x80DEB1FE3B1696B1, 0x9BDC06A725C71235,
   0xC19BF174CF692694, 0xE49B69C19EF14AD2, 0xEFBE4786384F25E3, 0x0FC19DC68B8CD5B5, 0x240CA1CC77AC9C65,
   0x2DE92C6F592B0275, 0x4A7484AA6EA6E483, 0x5CB0A9DCBD41FBD4, 0x76F988DA831153B5, 0x983E5152EE66DFAB,
   0xA831C66D2DB43210, 0xB00327C898FB213F, 0xBF597FC7BEEF0EE4, 0xC6E00BF33DA88FC2, 0xD5A79147930AA725,
   0x06CA6351E003826F, 0x142929670A0E6E70, 0x27B70A8546D22FFC, 0x2E1B21385C26C926, 0x4D2C6DFC5AC42AED,
   0x53380D139D95B3DF, 0x650A73548BAF63DE, 0x766A0ABB3C77B2A8, 0x81C2C92E47EDAEE6, 0x92722C851482353B] ++
  [0xA2BFE8A14CF10364, 0xA81A664BBC423001, 0xC24B8B70D0F89791, 0xC76C51A30654BE30, 0xD192E819D6EF5218,
   0xD69906245565A910, 0xF40E35855771202A, 0x106AA07032BBD1B8, 0x19A4C116B8D2D0C8, 0x1E376C085141AB53,
   0x2748774CDF8EEB99, 0x34B0BCB5E19B48A8, 0x391C0CB3C5C95A63, 0x4ED8AA4AE3418ACB, 0x5B9CCA4F7763E373,
   0x682E6FF3D6B2B8A3, 0x748F82EE5DEFB2FC, 0x78A5636F43172F60, 0x84C87814A1F0AB72, 0x8CC702081A6439EC,
   0x90BEFFFA23631E28, 0xA4506CEBDE82BDE9, 0xBEF9A3F7B2C67915, 0xC67178F2E372532B, 0xCA273ECEEA26619C,
   0xD186B8C721C0C207, 0xEADA7DD6CDE0EB1E, 0xF57D4F7FEE6ED178, 0x06F067AA72176FBA, 0x0A637DC5A2C898A6,
   0x113F9804BEF90DAE, 0x1B710B35131C471B, 0x28DB77F523047D84, 0x32CAAB7B40C72493, 0x3C9EBE0A15C9BEBC,
   0x431D67C49C100D4C, 0x4CC5D4BECB3E42B6, 0x597F299CFC657E2A, 0x5FCB6FAB3AD6FAEC, 0x6C44198C4A475817]

/-- The initial value of SHA-384. -/
def sha384Init : List Nat :=
  [0xCBBB9D5DC1059ED8, 0x629A292A367CD507, 0x9159015A3070DD17, 0x152FECD8F70E5939, 0x67332667FFC00B31,
   0x8EB44A8768581511, 0xDB0C2E0D64F98FA7, 0x47B5481DBEFA4FA4]

/-- The next word of a message schedule that is held newest first. -/
def shaNext (w : List Nat) : Nat :=
  let a := w.getD 1 0
  let b := w.getD 14 0
  ((rotr 19 a ^^^ rotr 61 a ^^^ a / 2 ^ 6) + w.getD 6 0 + (rotr 1 b ^^^ rotr 8 b ^^^ b / 2 ^ 7) + w.getD 15 0) % 2 ^ 64

/-- A schedule with n more words. -/
def shaSchedule : Nat → List Nat → List Nat
  | 0, w => w
  | n + 1, w => shaSchedule n (shaNext w :: w)

/-- The working variables. -/
structure ShaVars where
  a : Nat
  b : Nat
  c : Nat
  d : Nat
  e : Nat
  f : Nat
  g : Nat
  h : Nat

/-- A round, with the sum of its constant and its message word. -/
def ShaVars.round (v : ShaVars) (kw : Nat) : ShaVars :=
  let t1 := v.h + (rotr 14 v.e ^^^ rotr 18 v.e ^^^ rotr 41 v.e) + ((v.e &&& v.f) ^^^ ((2 ^ 64 - 1 - v.e) &&& v.g)) + kw
  let t2 := (rotr 28 v.a ^^^ rotr 34 v.a ^^^ rotr 39 v.a) + ((v.a &&& v.b) ^^^ (v.a &&& v.c) ^^^ (v.b &&& v.c))
  ⟨(t1 + t2) % 2 ^ 64, v.a, v.b, v.c, (v.d + t1) % 2 ^ 64, v.e, v.f, v.g⟩

/-- A block of 16 words enters the hash. -/
def shaBlock (hash block : List Nat) : List Nat :=
  let w := (shaSchedule 64 block.reverse).reverse
  let x (k : Nat) : Nat := hash.getD k 0
  let v := (List.zipWith (fun k m => k + m) shaK w).foldl ShaVars.round ⟨x 0, x 1, x 2, x 3, x 4, x 5, x 6, x 7⟩
  List.zipWith (fun p q => (p + q) % 2 ^ 64) hash [v.a, v.b, v.c, v.d, v.e, v.f, v.g, v.h]

/-- The blocks of a padded message enter the hash. -/
def shaBlocks : Nat → List Nat → List Nat → List Nat
  | 0, hash, _ => hash
  | n + 1, hash, l => shaBlocks n (shaBlock hash (groups 8 16 l)) (l.drop 128)

/-- SHA-384 of a message, as 48 bytes. -/
def sha384 (m : List Nat) : List Nat :=
  let zeros := (239 - m.length % 128) % 128
  let padded := m ++ 128 :: List.replicate zeros 0 ++ toBytes 16 (8 * m.length)
  ((shaBlocks (padded.length / 128) sha384Init padded).flatMap fun w => toBytes 8 w).take 48

/-- HMAC-SHA-384 under a key of at most 128 bytes. -/
def hmac384 (key m : List Nat) : List Nat :=
  let k := key ++ List.replicate (128 - key.length) 0
  sha384 ((k.map fun b => b ^^^ 0x5C) ++ sha384 ((k.map fun b => b ^^^ 0x36) ++ m))

/-! AES-256. -/

/-- The substitution box and its inverse, byte k at bits 8k + 7 to 8k. -/
def sboxBits : Nat :=
    0x16BB54B00F2D99416842E6BF0D89A18CDF2855CEE9871E9B948ED9691198F8E19E1DC186B95735610EF6034866B53E708A8BBD4B1F74DDE8C6B4A61C2E2578BA * 2 ^ 1536 +
    0x08AE7A65EAF4566CA94ED58D6D37C8E779E4959162ACD3C25C2406490A3A32E0DB0B5EDE14B8EE4688902A22DC4F816073195D643D7EA7C41744975FEC130CCD * 2 ^ 1024 +
    0xD2F3FF1021DAB6BCF5389D928F40A351A89F3C507F02F94585334D43FBAAEFD0CF584C4A39BECB6A5BB1FC20ED00D153842FE329B3D63B52A05A6E1B1A2C8309 * 2 ^ 512 +
    0x75B227EBE28012079A059618C323C7041531D871F1E5A534CCF73F362693FDB7C072A49CAFA2D4ADF04759FA7DC982CA76ABD7FE2B670130C56F6BF27B777C63
def sboxInvBits : Nat :=
    0x7D0C2155631469E126D677BA7E042B17619953833CBBEBC8B0F52AAE4D3BE0A0EF9CC9939F7AE52D0D4AB519A97F51605FEC8027591012B131C7078833A8DD1F * 2 ^ 1536 +
    0xF45ACD78FEC0DB9A2079D2C64B3E56FC1BBE18AA0E62B76F89C5291D711AF1476EDF751CE837F9E28535ADE72274AC9673E6B4F0CECFF297EADC674F4111913A * 2 ^ 1024 +
    0x6B8A130103BDAFC1020F3FCA8F1E2CD00645B3B80558E4F70AD3BC8C00ABD890849D8DA75746155EDAB9EDFD5048706C92B6655DCC5CA4D41698688664F6F872 * 2 ^ 512 +
    0x25D18B6D49A25B76B224D92866A12E084EC3FA420B954CEE3D23C2A632947B54CBE9DEC444438E3487FF2F9B8239E37CFBD7F3819EA340BF38A53630D56A0952

def sbox (x : Nat) : Nat := sboxBits / 2 ^ (8 * x) % 256
def sboxInv (x : Nat) : Nat := sboxInvBits / 2 ^ (8 * x) % 256

/-- A byte doubled in the field of AES. -/
def xtime (x : Nat) : Nat := if x < 128 then 2 * x else (2 * x % 256) ^^^ 0x1B

/-- The next word of the expanded key, whose words are held newest first; `i` is its number. -/
def keyNext (i : Nat) (w : List (List Nat)) : List Nat :=
  let last := w.getD 0 []
  let mixed :=
    if i % 8 = 0 then
      match last.map sbox with
      | [a, b, c, d] => [b ^^^ 2 ^ (i / 8 - 1), c, d, a]
      | l => l
    else if i % 8 = 4 then last.map sbox
    else last
  List.zipWith (fun p q => p ^^^ q) (w.getD 7 []) mixed

def keyWords : Nat → Nat → List (List Nat) → List (List Nat)
  | 0, _, w => w
  | n + 1, i, w => keyWords n (i + 1) (keyNext i w :: w)

/-- The first n groups of 4 words, as round keys of 16 bytes. -/
def roundKeys : Nat → List (List Nat) → List (List Nat)
  | 0, _ => []
  | n + 1, w => (w.take 4).flatten :: roundKeys n (w.drop 4)

/-- The 15 round keys of a key. -/
def expandKey (key : Nat) : List (List Nat) :=
  let b := toBytes 32 key
  roundKeys 15 (keyWords 52 8 ((List.range 8).map fun k => (b.drop (4 * k)).take 4).reverse).reverse

def xorBytes (a b : List Nat) : List Nat := List.zipWith (fun p q => p ^^^ q) a b

/-- The bytes of a state, whose columns follow each other, with row r moved r columns to the left. -/
def shiftRows (s : List Nat) : List Nat := (List.range 16).map fun i => s.getD ((i + 4 * (i % 4)) % 16) 0
def shiftRowsInv (s : List Nat) : List Nat := (List.range 16).map fun i => s.getD ((i + 12 * (i % 4)) % 16) 0

/-- A column times the circulant of four factors, each at most 14, in the field of AES. -/
def gmul (f x : Nat) : Nat :=
  let d := xtime x
  let q := xtime d
  (if f % 2 = 1 then x else 0) ^^^ (if f / 2 % 2 = 1 then d else 0) ^^^ (if f / 4 % 2 = 1 then q else 0) ^^^ (if f / 8 % 2 = 1 then xtime q else 0)

def mixWith (f0 f1 f2 f3 : Nat) : List Nat → List Nat
  | a :: b :: c :: d :: t =>
    (gmul f0 a ^^^ gmul f1 b ^^^ gmul f2 c ^^^ gmul f3 d) :: (gmul f3 a ^^^ gmul f0 b ^^^ gmul f1 c ^^^ gmul f2 d) ::
      (gmul f2 a ^^^ gmul f3 b ^^^ gmul f0 c ^^^ gmul f1 d) :: (gmul f1 a ^^^ gmul f2 b ^^^ gmul f3 c ^^^ gmul f0 d) :: mixWith f0 f1 f2 f3 t
  | _ => []

/-- The rounds of the cipher after the first round key. -/
def aesRounds : List (List Nat) → List Nat → List Nat
  | [], s => s
  | [k], s => xorBytes (shiftRows (s.map sbox)) k
  | k :: rest, s => aesRounds rest (xorBytes (mixWith 2 3 1 1 (shiftRows (s.map sbox))) k)

/-- AES-256 of a block. -/
def aesEncrypt (keys : List (List Nat)) (block : Nat) : Nat :=
  match keys with
  | [] => block
  | k :: rest => ofBytes (aesRounds rest (xorBytes (toBytes 16 block) k))

/-- The rounds of the inverse cipher, with the round keys newest first. -/
def aesRoundsInv : List (List Nat) → List Nat → List Nat
  | [], s => s
  | [k], s => xorBytes ((shiftRowsInv s).map sboxInv) k
  | k :: rest, s => aesRoundsInv rest (mixWith 14 11 13 9 (xorBytes ((shiftRowsInv s).map sboxInv) k))

/-- The inverse of AES-256 on a block. -/
def aesDecrypt (keys : List (List Nat)) (block : Nat) : Nat :=
  match keys.reverse with
  | [] => block
  | k :: rest => ofBytes (aesRoundsInv rest (xorBytes (toBytes 16 block) k))

/-! The tag of AES-256-GCM over authenticated data, without plaintext. -/

/-- The product in GHASH's field, n bits of the first factor being left. -/
def ghashMul (x : Nat) : Nat → Nat → Nat → Nat
  | 0, _, z => z
  | n + 1, v, z =>
    ghashMul x n (if v % 2 = 1 then v / 2 ^^^ 0xE1 * 2 ^ 120 else v / 2) (if x.testBit n then z ^^^ v else z)

/-- GHASH of blocks. -/
def ghash (h : Nat) (blocks : List Nat) : Nat := blocks.foldl (fun y b => ghashMul (y ^^^ b) 128 h 0) 0

/-- The 16 bytes of the tag of data under a key and a nonce of 12 bytes. -/
def gcmTag (key : Nat) (nonce data : List Nat) : List Nat :=
  let keys := expandKey key
  let padded := data ++ List.replicate ((16 - data.length % 16) % 16) 0
  let blocks := groups 16 (padded.length / 16) padded ++ [8 * data.length * 2 ^ 64]
  toBytes 16 (ghash (aesEncrypt keys 0) blocks ^^^ aesEncrypt keys (ofBytes (nonce ++ [0, 0, 0, 1])))

/-! AES Key Wrap. -/

/-- The steps of an unwrap from step t down, for a key of four 64-bit blocks: the integrity register and the blocks. -/
def unwrapSteps (keys : List (List Nat)) : Nat → Nat × List Nat → Nat × List Nat
  | 0, x => x
  | t + 1, (a, r) =>
    let i := t % 4
    let b := aesDecrypt keys ((a ^^^ (t + 1)) * 2 ^ 64 + r.getD i 0)
    unwrapSteps keys t (b / 2 ^ 64, (List.range 4).map fun k => if k = i then b % 2 ^ 64 else r.getD k 0)

/-- The 256-bit key that 40 bytes carry, wrapped under another; none when its integrity fails. -/
def unwrap (key : Nat) (wrapped : List Nat) : Option Nat :=
  match groups 8 5 wrapped with
  | a :: r =>
    let x := unwrapSteps (expandKey key) 24 (a, r)
    if x.1 = 0xA6A6A6A6A6A6A6A6 then some (x.2.foldl (fun n b => n * 2 ^ 64 + b) 0) else none
  | [] => none

end Sys2Proof.Machine.Crypt
end

