-- ==== Sys2Proof/Machine/Reset.lean ====
section
/-!
DEFINITION. Power-on reset and chip reset (R471 to R474): what each keeps and clears.
-/
namespace Sys2Proof.Machine

/-- Copying register words of another state. -/
def State.copyWords (s from_ : State) (keys : List Nat) : State := keys.foldl (fun a k => a.setWord k (from_.word k)) s

/-- The next SEQ after the last committed record. -/
def EvrSt.nextSeq (e : EvrSt) : Nat :=
  match e.log.flatten.getLast? with
  | some r => r.seq + 1
  | none => 0

/-- What the NV controller holds over a reset (R374, R377, R482): a program or erase that the check has admitted runs to its end; a journal entry whose
commit word has not begun stays without it; a compaction begins again. A loss of power ends the rest (DEDUCED, log 246). -/
def NvaSt.overReset (n : NvaSt) (power : Bool) (half : Nat) : NvaSt :=
  let junk (e : JEntry) : NvaSt := { bytes := n.bytes, journal := n.journal ++ [{ e with half := 1 - half, committed := false }], lost := n.lost }
  let rest : NvaSt := { bytes := n.bytes, journal := n.journal, lost := n.lost }
  match n.running with
  | none => rest
  | some r =>
    match r.job with
    | .journal e => { rest with running := some { r with job := .bodyOnly e }, suspended := n.suspended }
    | .commit _ => if power then { rest with running := n.suspended } else { rest with running := n.running, suspended := n.suspended }
    | .copy e => { junk e with running := n.suspended }
    | .halfSwitch => { junk { typ := typHALF, key := 0 } with running := n.suspended }
    | .segment _ => if power then { rest with running := n.suspended } else { rest with running := n.running, suspended := n.suspended }
    | .logErase => { rest with running := n.suspended }
    | _ => { rest with running := n.running, suspended := n.suspended }

/-- The state that OTP, the NV array, the journal and the log give back to a device whose state was lost (R474). -/
def State.fromNv (s : State) (power : Bool) : State :=
  let t : State := { member := s.member, free := s.free, pending := s.pending }
  let t := { t with rst := { perst := s.rst.perst, porLow := s.rst.porLow, resetLow := s.rst.resetLow } }
  let t := { t with evr := { log := s.evr.log, clearRec := if (s.nva.inForce 4 0).isSome then s.evr.clearRec else none, lastEpoch := s.evr.lastEpoch } }
  let t := { t with nva := s.nva.overReset power (s.fget NVA_JRNL.HALF 0) }
  let t := { t with sec := { lc := s.sec.lc, secondWord := s.sec.secondWord, redeploy := s.sec.redeploy, keys := s.sec.keys, roots := s.sec.roots, fwSvn := s.sec.fwSvn, extSvn := s.sec.extSvn, roleCommitted := s.sec.roleCommitted, bootBank := s.sec.bootBank } }
  let t := t.journalShow.copyWords s [GCP_BOOT.BOOT.key 0, GCP_SERIAL_LO.SERIAL.key 0, GCP_SERIAL_HI.SERIAL.key 0, MGE_MAC_LO.MAC.key 0, MGE_MAC_HI.MAC.key 0]
  let t := t.fset NVA_BOOTSEL.NEXT 0 s.sec.bootBank
  let t := t.fset EVR_SEQ.SEQ 0 s.evr.nextSeq
  (t.setEvr t.evr).checkFull

/-- The role bound to PCI Express at a chip reset (R396): none is 0x1F. -/
def boundRole (lc committed : Nat) : Nat :=
  match lc with
  | 0 => 0x11
  | 1 => 0x10
  | 2 => committed
  | 3 => 0x12
  | _ => 0x1F

/-- What every reset binds or shows anew: the role of PCI Express, the fuses that remain (R391, R396). -/
def State.bindRole (s : State) : State :=
  let s := s.fset SEC_LC.PCIE_ROLE 0 (boundRole s.sec.lc s.sec.roleCommitted)
  let s := s.fset SEC_PCIE_ROLE.ROLE 0 s.sec.roleCommitted
  s.fset SEC_LC.REDEPLOY_LEFT 0 s.sec.redeploy

def tmDbgChal : Nat := 10

/-- A new challenge (R403): its bytes are open, so each word is a free value. -/
def State.newChallenge (s : State) : State :=
  let s := (List.range 8).foldl (fun s k => (s.setWord (DBG_CHAL.CHAL.key k) (s.freeVal.setWidth 32)).tookFree) s
  s.timerStart tmDbgChal 0 s.sec_

/-- A transition whose fuse words are burned and whose step 4 is not done is completed by the next boot (R392). -/
def LcReq.unfinished (r : LcReq) : Bool := r.burned && !r.entered

/-- Power-on reset (R471, R474): everything but OTP, the NV array, the journal and the log is lost; cause 0x01. -/
def State.powerOnReset (s : State) : State :=
  let t := s.fromNv true
  let t := { t with sec := { t.sec with lcReq := s.sec.lcReq.filter LcReq.unfinished } }
  t.bindRole.fset RST_CAUSE.CAUSE 0 0x01

/-- Chip reset (R473, R474) with a cause and, for cause 0x03, its fault source: device time, the always-on domain, the trace ring and
what the NV array holds are kept; every other register and state returns to its reset value, the debug challenge is a new one (R403), and Primrose
starts at its step 1. -/
def State.chipReset (s : State) (cause src : Nat) : State :=
  let t := s.fromNv false
  let t := { t with time := s.time, evr := { t.evr with epochBase := s.evr.epochBase, baseDue := s.evr.baseDue }, trc := s.trc }
  let t := { t with hup := { t.hup with supplyGood := s.hup.supplyGood }, rst := { t.rst with cd41 := s.rst.cd41 } }
  let t := { t with pwr := { t.pwr with level := s.pwr.level, stuck := s.pwr.stuck } }
  let t := { t with sec := { t.sec with lcReq := s.sec.lcReq.filter LcReq.unfinished } }
  let t := t.copyWords s [CLK_PLL_STAT.PLLA_LOCK.key 0, FLT_SAFE_CAUSE.CAUSE.key 0, FLT_SAFE_DT_LO.DT.key 0, TRC_STAT.WR_PTR.key 0, TRC_RD_ADDR.ADDR.key 0, TRC_DROP.DROP.key 0, EVR_EPOCH.E.key 0]
  let t := t.fset RST_BOOT.BOOT_FAILS 0 (s.fget RST_BOOT.BOOT_FAILS 0)
  let t := t.bindRole
  ((t.fset RST_CAUSE.CAUSE 0 cause).fset RST_CAUSE.SRC 0 (if cause = 0x03 then src else 0)).refreshClocks.newChallenge

/-- Step 4 of R473 and R356: the open recorder segment is committed when the energy check admits the commit. -/
def State.commitOpenIfAdmitted (s : State) : State :=
  let s := s.flushOpen
  s.evr.fullSegs.foldl (fun s seg => if s.admits (.segment seg) then s.commitSegment else s) s

end Sys2Proof.Machine
end

