-- ==== Sys2Proof/Machine/Sec.lean ====
section
/-!
DEFINITION. Chapter 15, first part: lifecycle, keys, root slots, security versions, debug authentication and the trace ring.
-/
namespace Sys2Proof.Machine

/-! Lifecycle (R391 to R393). -/

/-- The device serial's low half word, which CONFIRM must carry (R392, R482). -/
def State.confirm (s : State) : Nat := s.fget GCP_SERIAL_LO.SERIAL 0 % 0x10000

/-- The packet key of an identity (R394). -/
def State.keyOf (s : State) (id : Nat) : Option Nat := Tbl.get (fun _ => none) s.sec.keys id

/-- The device serial, bytes 0 to 3 in GCP_SERIAL_HI (R317). -/
def State.serial (s : State) : List Nat := beBytes 4 (s.fget GCP_SERIAL_HI.SERIAL 0) ++ beBytes 4 (s.fget GCP_SERIAL_LO.SERIAL 0)

/-- The packet key K_p of an identity: the first 256 bits of HMAC-SHA-384 of the serial under its installed key (R317). -/
def State.packetKey (s : State) (id : Nat) : Option Nat :=
  (s.keyOf id).map fun k => Crypt.ofBytes ((Crypt.hmac384 (Crypt.toBytes 32 k) s.serial).take 32)

/-- A root slot (R398). -/
def State.rootOf (s : State) (slot : Nat) : RootSlot := Tbl.get (fun _ => {}) s.sec.roots slot

/-- The identities that R391 admits to a transition. -/
def lcAdmits (from_ target : Nat) (id : Ident) : Bool :=
  if from_ = 0 ∧ target = 1 then decide (id = .manufacturer)
  else if from_ = 1 ∧ target = 2 then decide (id = .integrator ∨ id = .manufacturer)
  else if from_ = 2 ∧ target = 3 then decide (id = .manufacturer ∨ id = .fieldService)
  else if from_ = 3 ∧ target = 2 then decide (id = .integrator)
  else if from_ < 4 ∧ target = 4 then decide (id = .manufacturer) || (decide (from_ = 3) && decide (id = .fieldService))
  else false

/-- The conditions of a transition (R391). -/
def State.lcCondition (s : State) (target : Nat) : Bool :=
  if target = 1 then (s.rootOf 0).programmed && (s.keyOf 0x11).isSome && (s.keyOf 0x10).isSome
  else if target = 2 then
    s.fon LIM_REG_STAT.VALID 0 && decide (s.fget DBG_STAT.LEVEL 0 = 0) && (decide (s.sec.lc ≠ 3) || decide (0 < s.sec.redeploy))
  else true

/-- Why a lifecycle request is turned away: the reason, and what LC_RESULT records (R392). -/
def State.lcVerdict (s : State) (id : Ident) (target confirm : Nat) : Option (Reason × Nat) :=
  if s.fon SEC_LC.LC_PENDING 0 then some (.windowBusy, s.fget SEC_LC.LC_RESULT 0)
  else if !lcAdmits s.sec.lc target id then some (.lifecycle, 1)
  else if !s.lcCondition target then some (.lifecycle, 2)
  else if confirm ≠ s.confirm then some (.outOfRange, 2)
  else none

/-- The word of SEC_LC_CMD with GO = 1. -/
def lcWord (target confirm : Nat) : Word := BitVec.ofNat 32 (0x80000000 + target % 8 * 0x10000 + confirm % 0x10000)

/-- The timer of a lifecycle request that waits for energy. -/
def tmLcWait : Nat := 15

/-- An accepted request (R392 step 1). -/
def State.lcAccept (s : State) (id : Ident) (target : Nat) : State :=
  let s := { s with sec := { s.sec with lcReq := some { target := target, ident := id.code, old := s.sec.lc } } }
  ((s.fset SEC_LC.LC_PENDING 0 1).fset SEC_LC.LC_RESULT 0 0).timerStart tmLcWait 0 s.ms

/-- A write of SEC_LC_CMD with GO = 1 (R392): the admission is that of R391. -/
def State.lifecycleGo (s : State) (who : Init) (target confirm : Nat) : State :=
  let verdict := (s.identOf who).bind fun id => s.lcVerdict id target confirm
  let t := s.accessBy (fun _ => verdict.map Prod.fst) who pgSEC 0x044 (lcWord target confirm) fun s =>
    let s := (s.fset SEC_LC_CMD.TARGET 0 target).fset SEC_LC_CMD.CONFIRM 0 confirm
    match s.identOf who with
    | some id => .ok (s.lcAccept id target)
    | none => .ok s
  match verdict with
  | some (_, code) => if s.running pgSEC && s.reaches who then t.fset SEC_LC.LC_RESULT 0 code else t
  | none => t

/-- LIFECYCLE_GO: a write of SEC_LC_CMD.GO with TARGET and CONFIRM (R392). -/
def execLifecycleGo (who : Init) (target : Fin 8) (confirm : BitVec 16) (s : State) : Host.Outcome State Fault Refusal :=
  .next (s.lifecycleGo who target.val confirm.toNat)

/-- The entry effects of a lifecycle state on the keys (R393). -/
def entryKeys (target : Nat) (keys : List (Nat × Option Nat)) : List (Nat × Option Nat) :=
  if target = 3 then keys.filter fun e => decide (16 ≤ e.1)
  else if target = 4 then keys.filter fun e => decide (0x10 < e.1)
  else keys

/-- The keys that a lifecycle state erases are erased as journal entries of TYPE 0x0005 without a payload (R392 step 4, R393); none while the check does
not admit them (R382). -/
def State.eraseKeys (s : State) (target : Nat) : Option State :=
  let kept := entryKeys target s.sec.keys
  let gone := s.sec.keys.filter fun e => !kept.contains e
  (gone.foldl (fun t e => t.bind fun t => t.journalNow { typ := 5, key := e.1, payload := [] }) (some s)).map fun t =>
    { t with sec := { t.sec with keys := kept } }

/-- The level returns to D0 (R404): no pair stays halted. -/
def State.debugClosed (s : State) : State :=
  let s := { s with dbg := { s.dbg with halted := 0, mem := [] } }
  (s.fset DBG_STAT.LEVEL 0 0).timerStop tmDbgIdle 0

/-- The timer from a lifecycle request's step 4 to its chip reset. -/
def tmLcReset : Nat := 16

/-- Step 4 of R392: the entry effects as journal entries once the check admits them and no other operation runs, the record, the flush; the chip
reset follows 10 ms later. -/
def State.lcEnter (s : State) (r : LcReq) : State :=
  match (if s.nva.running.isSome then none else s.eraseKeys r.target) with
  | none => s
  | some t =>
    let t := { t with sec := { t.sec with lcReq := some { r with entered := true } } }
    ((t.post 0x0006 r.old r.target r.ident).drainIntake.commitOpenIfAdmitted).timerStart tmLcReset 0 s.ms

/-- A lifecycle transition whose fuse words are burned waits for its step 4. -/
def State.lcDue (s : State) : Option LcReq :=
  match s.sec.lcReq with
  | some r => if r.unfinished && s.sec.secondWord && s.fon SEC_LC.LC_PENDING 0 then some r else none
  | none => none

/-- The first fuse word of the target is burned: the target is the state in force, which closes the debug level (R391, R404); a transition from
RETURNED to DEPLOYED burns a fuse of REDEPLOY_LEFT. -/
def State.fuseBurned (s : State) (r : LcReq) (both : Bool) : State :=
  let left := if r.old = 3 ∧ r.target = 2 then s.sec.redeploy - 1 else s.sec.redeploy
  let s := { s with sec := { s.sec with lc := r.target, secondWord := both, redeploy := left, lcReq := some { r with burned := true } } }
  (s.fset SEC_LC.REDEPLOY_LEFT 0 left).debugClosed

/-- What the burn of the two fuse words comes to (R391, R392). A second word that fails leaves the transition in progress: the next boot completes the
word and step 4 (DEDUCED, log 235). -/
def State.fuseEnd (s : State) (r : LcReq) (outcome : FuseEnd) : State :=
  match outcome with
  | .firstFailed =>
    let s := { s with sec := { s.sec with lcReq := none } }
    (s.fset SEC_LC.LC_RESULT 0 4).fset SEC_LC.LC_PENDING 0 0
  | .secondFailed => (s.fuseBurned r false).fset SEC_LC.LC_RESULT 0 4
  | .burned => (s.fuseBurned r true).lcEnter { r with burned := true }

/-! Keys (R394, R395) and the PCI Express role (R396). -/

/-- Who may install or erase the key of an identity, and in which lifecycle state (R394); a domain replaces the key that it has, and erases none. -/
def keyAdmits (lc key : Nat) (erase held : Bool) (id : Ident) : Bool :=
  if key = 0x11 then decide (id = .manufacturer) && decide (lc = 0 ∨ lc = 1 ∨ lc = 3)
  else if key = 0x10 then
    (decide (id = .manufacturer ∨ id = .integrator) && decide (lc = 0 ∨ lc = 1 ∨ lc = 3)) || (decide (id = .integrator) && decide (lc = 2))
  else if key = 0x12 then decide (id = .manufacturer) && decide (lc ≤ 3)
  else
    (decide (id = .integrator) && decide (lc = 1 ∨ lc = 2)) || (decide (id.code = key) && decide (lc = 2) && held && !erase)

/-- The identity that SEC_KEY_SEL names for an initiator. -/
def State.keySel (s : State) (who : Init) : Nat := s.fget SEC_KEY_SEL.ID who.holder

/-- Admission of a key command (R394, R395): PLAIN only to install the manufacturer key in BLANK through BAR0. -/
def State.keyVerdict (s : State) (who : Init) (erase plain : Bool) : Option Reason :=
  match s.identOf who with
  | none => some .lifecycle
  | some id =>
    if !keyAdmits s.sec.lc (s.keySel who) erase (s.keyOf (s.keySel who)).isSome id then some .lifecycle
    else if plain && (erase || !(decide (s.sec.lc = 0) && decide (s.keySel who = 0x11) && decide (who = .pcie))) then some .lifecycle
    else none

/-- Admission of the words that prepare a key command (R394): to whoever R46 admits, and to whoever may install some key (DEDUCED, log 236). -/
def State.keyPrepares (s : State) (who : Init) (off : Nat) : Option Reason :=
  match s.identOf who with
  | none => some .lifecycle
  | some id => if (List.range 19).any fun k => keyAdmits s.sec.lc k false (s.keyOf k).isSome id then none else s.admitWrite who pgSEC off

/-- The 256-bit key in SEC_KEY_WRAP0 to SEC_KEY_WRAP7, as PLAIN uses it. -/
def State.plainKey (s : State) : Nat :=
  (List.range 8).foldl (fun a k => a * 2 ^ 32 + (s.word (SEC_KEY_WRAP.DATA.key k)).toNat) 0

/-- The 8 words of a key. -/
def keyWords (k : Nat) : List Nat := (List.range 8).map fun i => k / 2 ^ (32 * (7 - i)) % 2 ^ 32

/-- A key change goes to the journal as an entry of TYPE 0x0005 (R395). -/
def State.keyChange (s : State) (id who : Nat) (key : Option Nat) : State :=
  let s := { s with sec := { s.sec with keyReq := some { ident := id, key := key, who := who } } }
  s.queueJournal 5 id (match key with | some k => keyWords k | none => [])

/-- The 40 bytes of SEC_KEY_WRAP0 to SEC_KEY_WRAP9 (R395). -/
def State.wrapBytes (s : State) : List Nat := (List.range 10).flatMap fun k => beBytes 4 (s.word (SEC_KEY_WRAP.DATA.key k)).toNat

/-- What SEC_KEY_WRAP0 to SEC_KEY_WRAP9 unwrap to under the packet key of the writer (R395); none where the integrity fails, or the writer has no
installed key to unwrap with (DEDUCED, log 236). -/
def State.unwrapped (s : State) (who : Init) : Option Nat :=
  ((s.identOf who).bind fun id => s.packetKey id.code).bind fun k => Crypt.unwrap k s.wrapBytes

/-- A key command turned away records KEY_RESULT = 2 (R394); one that does not reach the page records nothing. -/
def State.keyTurned (t s : State) (who : Init) (verdict : Option Reason) : State :=
  if verdict.isSome && s.running pgSEC && s.reaches who && !s.rst.recovery then t.fset SEC_KEY_CMD.KEY_RESULT 0 2 else t

/-- A write of SEC_KEY_CMD.INSTALL (R395). -/
def State.keyInstall (s : State) (who : Init) (plain : Bool) : State :=
  (s.accessBy (fun s => s.keyVerdict who false plain) who pgSEC 0x07C (if plain then 0xA0000000 else 0x80000000) fun s =>
    match (if plain then some s.plainKey else s.unwrapped who) with
    | none => .ok (s.fset SEC_KEY_CMD.KEY_RESULT 0 1)
    | some k => .ok (s.keyChange (s.keySel who) ((s.identOf who).map Ident.code |>.getD 0) (some k))).keyTurned s who (s.keyVerdict who false plain)

/-- A write of SEC_KEY_WRAPk (R394, R395). -/
def State.wrapWrite (s : State) (who : Init) (k : Nat) (v : Word) : State :=
  s.accessBy (fun s => s.keyPrepares who (0x054 + 4 * k)) who pgSEC (0x054 + 4 * k) v fun s => .ok (s.setWord (SEC_KEY_WRAP.DATA.key k) v)

/-- The ten words of a wrapped key are written, its first byte first. -/
def State.stageWrap (s : State) (who : Init) (w : BitVec 320) : State :=
  (List.range 10).foldl (fun s k => s.wrapWrite who k ((w >>> (32 * (9 - k))).setWidth 32)) s

/-- KEY_INSTALL (R395): `staged`, where it is given, is the wrapped key that the initiator writes first. -/
def execKeyInstall (who : Init) (plain : Bool) (staged : Option (BitVec 320)) (s : State) : Host.Outcome State Fault Refusal :=
  .next ((match staged with | some w => s.stageWrap who w | none => s).keyInstall who plain)

/-- A write of SEC_KEY_CMD.ERASE (R394); with PLAIN it is refused (R395). -/
def State.keyErase (s : State) (who : Init) (plain : Bool) : State :=
  (s.accessBy (fun s => s.keyVerdict who true plain) who pgSEC 0x07C (if plain then 0x60000000 else 0x40000000) fun s =>
    .ok (s.keyChange (s.keySel who) ((s.identOf who).map Ident.code |>.getD 0) none)).keyTurned s who (s.keyVerdict who true plain)

/-- KEY_ERASE (R394). -/
def execKeyErase (who : Init) (s : State) : Host.Outcome State Fault Refusal := .next (s.keyErase who false)

/-- The commit of a key's journal entry (R395): the key is in force, KEY_RESULT = 0, KEY_CHANGED rises. -/
def State.keyCommitted (s : State) (id : Nat) (key : Option Nat) : State :=
  let s := { s with sec := { s.sec with keys := Tbl.set (fun _ => none) s.sec.keys id key, keyReq := none } }
  (s.fset SEC_KEY_CMD.KEY_RESULT 0 0).pulse pgSEC 1

/-- Admission of a write of SEC_PCIE_ROLE (R396): in PROVISIONED, by the integrator or the manufacturer. -/
def State.roleVerdict (s : State) (who : Init) : Option Reason :=
  if s.sec.lc = lcPROVISIONED ∧ (s.identOf who = some .integrator ∨ s.identOf who = some .manufacturer) then none else some .lifecycle

/-- A write of SEC_PCIE_ROLE (R396): committed as a journal entry of TYPE 0x0006. -/
def pcieRoleWrite (role : Nat) (s : State) : WRes :=
  if 0x11 ≤ role ∧ role ≤ 0x1E then .error .outOfRange
  else .ok ((s.fset SEC_PCIE_ROLE.ROLE 0 role).queueJournal 6 0 [role])

/-- PCIE_ROLE_WRITE (R396). -/
def execPcieRoleWrite (who : Init) (role : Fin 32) (s : State) : Host.Outcome State Fault Refusal :=
  .next (s.accessBy (fun s => s.roleVerdict who) who pgSEC 0x048 (BitVec.ofNat 32 role.val) (pcieRoleWrite role.val))

/-! Root slots and security versions (R398, R399). -/

/-- The owner of a root slot (R398). -/
def slotOwner (slot : Nat) : Ident := if slot < 4 then .manufacturer else .integrator

/-- Admission of programming a slot: slots 1 to 3 by the manufacturer in BLANK, 4 to 7 by the integrator in PROVISIONED (R398). -/
def State.programVerdict (s : State) (who : Init) (slot : Nat) : Option Reason :=
  if s.identOf who = some (slotOwner slot) ∧ slot ≠ 0 ∧ s.sec.lc = (if slot < 4 then lcBLANK else lcPROVISIONED) then none else some .lifecycle

/-- The slot that SEC_ROOT_SEL names for an initiator. -/
def State.rootSel (s : State) (who : Init) : Nat := s.fget SEC_ROOT_SEL.SLOT who.holder

/-- The public key staged in SEC_ROOT_KEY0 to SEC_ROOT_KEY23. -/
def State.stagedRoot (s : State) : List Word := (List.range 24).map fun k => s.word (SEC_ROOT_KEY.KEY.key k)

/-- Writing a root slot. -/
def State.setRoot (s : State) (slot : Nat) (r : RootSlot) : State :=
  { s with sec := { s.sec with roots := Tbl.set (fun _ => {}) s.sec.roots slot r } }

/-- A fuse burn of a root slot is done; a revocation raises ROOT_REVOKED (R398, R427). -/
def State.rootBurned (s : State) (b : RootBurn) : State :=
  let t := s.setRoot b.slot b.becomes
  if b.revokes then t.pulse pgSEC 2 else t

/-- A fuse burn of a root slot: at once when the check admits it, else it waits (R382, R398). One waits at a time (DESIGN CHOICE, log 237). -/
def rootBurn (slot : Nat) (becomes : RootSlot) (revokes : Bool) (s : State) : WRes :=
  let b : RootBurn := { slot := slot, becomes := becomes, revokes := revokes, since := s.ms }
  if s.nva.burn.isSome then .error .windowBusy
  else if s.energyOk 4000 s.evr.stagedSegs then .ok (s.rootBurned b)
  else .ok (({ s with nva := { s.nva with burn := some b } } : State).fbump HUP_CNT.REFUSALS 0).nvShow

/-- The fuse burn that waits is tested again (R382). -/
def State.burnRetest (s : State) : State :=
  match s.nva.burn with
  | none => s
  | some b =>
    if s.energyOk 4000 s.evr.stagedSegs then (({ s with nva := { s.nva with burn := none } } : State).rootBurned b).refreshBlocked.nvShow
    else s.fbump HUP_CNT.REFUSALS 0

/-- Programming a slot (R398): refused when programmed; integrator slots take no FIRMWARE usage; the burn passes the energy check. -/
def rootProgram (slot usage : Nat) (s : State) : WRes :=
  if (s.rootOf slot).programmed then .error .configLocked
  else if 4 ≤ slot ∧ 8 ≤ usage % 16 then .error .outOfRange
  else rootBurn slot { key := s.stagedRoot, usage := usage % 16, programmed := true, revoked := false } false s

/-- ROOT_PROGRAM: a write of SEC_ROOT_CMD.PROGRAM with the usages (R398). -/
def execRootProgram (who : Init) (usage : Fin 16) (s : State) : Host.Outcome State Fault Refusal :=
  .next (s.accessBy (fun s => s.programVerdict who (s.rootSel who)) who pgSEC 0x100 (BitVec.ofNat 32 (0x80000000 + usage.val))
    fun s => rootProgram (s.rootSel who) usage.val s)

/-- Admission of a revocation: the slot's owner in PROVISIONED, DEPLOYED and RETURNED (R398). -/
def State.revokeVerdict (s : State) (who : Init) (slot : Nat) : Option Reason :=
  if s.identOf who = some (slotOwner slot) ∧ (s.sec.lc = lcPROVISIONED ∨ s.sec.lc = lcDEPLOYED ∨ s.sec.lc = lcRETURNED) then none else some .lifecycle

/-- Admission of SEC_ROOT_SEL (R398): to whoever R46 admits, and to the identities that own slots while they may revoke them (DEDUCED, log 236). -/
def State.rootSelects (s : State) (who : Init) : Option Reason :=
  if (s.revokeVerdict who 0).isNone || (s.revokeVerdict who 4).isNone then none else s.admitWrite who pgSEC 0x090

/-- A slot that firmware may still be verified with. -/
def RootSlot.firmware (r : RootSlot) : Bool := r.programmed && !r.revoked && decide (8 ≤ r.usage)

/-- Revoking a slot (R398): refused when no unrevoked FIRMWARE slot would remain; the burn passes the energy check. -/
def rootRevoke (slot : Nat) (s : State) : WRes :=
  if !((List.range 8).any fun i => decide (i ≠ slot) && (s.rootOf i).firmware) then .error .configLocked
  else rootBurn slot { s.rootOf slot with revoked := true } true s

/-- ROOT_REVOKE: a write of SEC_ROOT_CMD.REVOKE (R398). -/
def execRootRevoke (who : Init) (s : State) : Host.Outcome State Fault Refusal :=
  .next (s.accessBy (fun s => s.revokeVerdict who (s.rootSel who)) who pgSEC 0x100 0x40000000 fun s => rootRevoke (s.rootSel who) s)

/-- Admission of SEC_SVN.ADVANCE: the integrator and the manufacturer (R399), as R46 admits them. -/
def State.svnVerdict (s : State) (who : Init) : Option Reason :=
  match s.admitWrite who pgSEC 0x104 with
  | some r => some r
  | none => if s.identOf who = some .integrator ∨ s.identOf who = some .manufacturer then none else some .lifecycle

/-- Raising the version counters to the running versions, where those are higher (R399). -/
def svnAdvance (s : State) : WRes :=
  .ok { s with sec := { s.sec with fwSvn := max s.sec.fwSvn (s.fget SEC_BOOT.FW_RUN_SVN 0), extSvn := max s.sec.extSvn s.sec.extRun } }

/-- SVN_ADVANCE: a write of SEC_SVN.ADVANCE (R399). -/
def execSvnAdvance (who : Init) (s : State) : Host.Outcome State Fault Refusal :=
  .next (s.accessBy (fun s => s.svnVerdict who) who pgSEC 0x104 0x80000000 svnAdvance)

/-! Debug (R402 to R405). -/

def tmDbgLock : Nat := 11

/-- The highest level that a lifecycle state admits to a signing slot, or without a signature (R403). -/
def debugMax (lc : Nat) (signed : Bool) (slot : Nat) : Nat :=
  if !signed then (if lc = 0 then 2 else 0)
  else if slot < 4 then (if lc = 0 ∨ lc = 1 ∨ lc = 3 then 2 else if lc = 2 then 1 else 0)
  else (if lc = 1 then 2 else if lc = 2 then 1 else 0)

/-- An attempt is good: the signature verifies, the slot holds DEBUG usage and is not revoked, and the level is admitted (R403). -/
def State.debugGood (s : State) (level slot : Nat) (signed sigOk : Bool) : Bool :=
  decide (level ≤ debugMax s.sec.lc signed slot) &&
    (!signed || (sigOk && (s.rootOf slot).programmed && !(s.rootOf slot).revoked && decide ((s.rootOf slot).usage % 2 = 1)))

/-- The identity of a debug session: the role of the signing slot (R402), the manufacturer's without a signature (DEDUCED, log 200). -/
def debugIdent (slot : Nat) : Nat := if slot < 4 then 0x11 else 0x10

/-- A success (R403, R404). -/
def State.debugOpen (s : State) (level slot : Nat) : State :=
  let s := ((s.fset DBG_STAT.LEVEL 0 level).fset DBG_STAT.SIGNER 0 slot).fset DBG_STAT.FAILS 0 0
  let s := { s with dbg := { s.dbg with row := 0, nextLock := 60 } }
  let s := if level = 0 then s else s.pulse pgDBG 0
  (s.post 0x6002 level (debugIdent slot) 0).timerStart tmDbgIdle 0 s.sec_

/-- The debug state after one more failure in a row (R404). -/
def DbgSt.failed (d : DbgSt) : DbgSt := { d with row := d.row + 1 }

/-- The debug state after a lockout has begun: the next one lasts twice as long, up to 3,840 s (R404). -/
def DbgSt.locked (d : DbgSt) : DbgSt :=
  { d with lockS := d.nextLock, nextLock := if 1920 < d.nextLock then 3840 else 2 * d.nextLock }

/-- The lockout that the third failure in a row and each further one brings (R404). -/
def State.debugLock (s : State) : State :=
  let n := s.dbg.nextLock
  let t := (s.fset DBG_STAT.LOCKOUT_S 0 n).timerStart tmDbgLock 0 s.sec_
  State.pulse { t with dbg := t.dbg.locked } pgDBG 2

/-- The third failure in a row and each further one lock the port out (R404). -/
def State.debugLockAtThree (s : State) : State := if 2 < s.dbg.row then s.debugLock else s

/-- A failure (R404). -/
def State.debugFail (s : State) : State :=
  let t := (s.fbump DBG_STAT.FAILS 0).pulse pgDBG 1
  State.debugLockAtThree { t with dbg := t.dbg.failed }

/-- The device sleeps, or its entry to SNOWDROP is in progress: no level is opened there (R417, R420). -/
def State.snowBound (s : State) : Bool :=
  decide (s.fget PWR_STAT.STATE 0 = 3) || (s.fon PWR_STAT.PENDING 0 && decide (s.pwr.target = 3))

/-- DEBUG_AUTH: a signed challenge, or an attempt without a signature, whose session is the manufacturer's (R402 to R404). A locked-out attempt does
nothing, nor does one in SNOWDROP or on the way there (DEDUCED, log 238). -/
def execDebugAuth (level : Fin 3) (slot : Fin 8) (signed sigOk : Bool) (s : State) : Host.Outcome State Fault Refusal :=
  .next (
    let s := s.tckEdge
    if 0 < s.fget DBG_STAT.LOCKOUT_S 0 || s.snowBound then s
    else
      let t := if s.debugGood level.val slot.val signed sigOk then s.debugOpen level.val (if signed then slot.val else 0) else s.debugFail
      t.newChallenge)

/-- DEBUG_CHALLENGE_EXPIRED: the challenge is 60 s old (R403). -/
def execDebugChallengeExpired (s : State) : Host.Outcome State Fault Refusal :=
  .next (if s.timerDue tmDbgChal 0 s.sec_ 60 then s.newChallenge else s)

/-- DEBUG_LOCKOUT_EXPIRED: the lockout ends (R404). -/
def execDebugLockoutExpired (s : State) : Host.Outcome State Fault Refusal :=
  .next (
    if s.timerDue tmDbgLock 0 s.sec_ s.dbg.lockS then
      (s.fset DBG_STAT.LOCKOUT_S 0 0).timerStop tmDbgLock 0
    else s)

/-- DEBUG_CLOSE: a write of DBG_CLOSE (R404). -/
def execDebugClose (who : Init) (s : State) : Host.Outcome State Fault Refusal :=
  .next (s.access who pgDBG 0x070 0x80000000 fun s => .ok s.debugClosed)

/-- DEBUG_IDLE_TIMEOUT: IDLE_S seconds without a TCK edge above D0 (R404). -/
def execDebugIdleTimeout (s : State) : Host.Outcome State Fault Refusal :=
  .next (
    if decide (0 < s.fget DBG_STAT.LEVEL 0) && s.timerDue tmDbgIdle 0 s.sec_ (s.fget DBG_CFG.IDLE_S 0) then s.debugClosed else s)

/-- The level that a JTAG operation needs (R402, R405); none when the instruction is unimplemented. -/
def jtagNeeds (lc : Nat) : JtagOp → Option Nat
  | .idcode => some 0
  | .bypass => some 0
  | .samplePreload => some 0
  | .dbgChal => some 0
  | .dbgAuth => some 0
  | .debugPort => some 1
  | .halt _ => some 2
  | .resume _ => some 2
  | .step _ => some 2
  | .memRead _ _ => some 2
  | .memWrite _ _ _ => some 2
  | .extest => if lc = 0 ∨ lc = 3 then some 2 else none
  | .other _ => none

/-- The register that a JTAG instruction selects: a number of the model's own, BYPASS being 0x3F. -/
def jtagReg : JtagOp → Nat
  | .idcode => 1
  | .samplePreload => 2
  | .extest => 3
  | .dbgChal => 4
  | .dbgAuth => 5
  | .debugPort => 6
  | .halt _ => 6
  | .resume _ => 6
  | .step _ => 6
  | .memRead _ _ => 6
  | .memWrite _ _ _ => 6
  | _ => 0x3F

/-- The pairs halted after a debug port operation. -/
def haltedAfter (h : Nat) : JtagOp → Nat
  | .halt b => h ||| (if b then 2 else 1)
  | .resume b => h - (h &&& (if b then 2 else 1))
  | _ => h

/-- The IDCODE of a member: the part in bits 27 to 12, 0x17240A5F for the LV7240 (R405). -/
def idcode (m : Member) : Word := BitVec.ofNat 32 (0x10000A5F + 0x1000 * m.part)

/-- The key of a word of a pair's memory. -/
def memKey (pairB : Bool) (a : BitVec 32) : Nat := 2 * a.toNat + (if pairB then 1 else 0)

/-- Debug words of a pair that runs again are its own (R402). -/
def DbgSt.ranOn (d : DbgSt) (pairB : Bool) : DbgSt := { d with mem := d.mem.filter fun e => decide (e.1 % 2 ≠ if pairB then 1 else 0) }

/-- What the data register holds after an instruction that is open: IDCODE, 0 in BYPASS, a word of a pair's memory. Of a pair's memory only what the
debugger wrote since the pair last ran is known; any other word is a free value (DESIGN CHOICE, log 239). -/
def State.jtagData (s : State) (op : JtagOp) : State :=
  match op with
  | .idcode => { s with dbg := { s.dbg with data := idcode s.member } }
  | .bypass => { s with dbg := { s.dbg with data := 0 } }
  | .memRead b a =>
    match Tbl.get (fun _ => none) s.dbg.mem (memKey b a) with
    | some w => { s with dbg := { s.dbg with data := w } }
    | none => ({ s with dbg := { s.dbg with data := s.freeVal.setWidth 32 } } : State).tookFree
  | .memWrite b a v => { s with dbg := { s.dbg with mem := Tbl.set (fun _ => none) s.dbg.mem (memKey b a) (some v) } }
  | .resume b => { s with dbg := s.dbg.ranOn b }
  | .step b => { s with dbg := s.dbg.ranOn b }
  | _ => s

/-- JTAG_INSTRUCTION: an instruction selects its register, or BYPASS when it is unimplemented or not open (R405); TCK edges restart the idle count (R404). A
step leaves its pair halted. -/
def execJtagInstruction (op : JtagOp) (s : State) : Host.Outcome State Fault Refusal :=
  .next (
    let s := s.tckEdge
    match jtagNeeds s.sec.lc op with
    | some n =>
      if n ≤ s.fget DBG_STAT.LEVEL 0 then
        State.jtagData { s with dbg := { s.dbg with jtag := jtagReg op, halted := haltedAfter s.dbg.halted op } } op
      else { s with dbg := { s.dbg with jtag := 0x3F, data := 0 } }
    | none => { s with dbg := { s.dbg with jtag := 0x3F, data := 0 } })

/-! The trace ring (R415, R416, R425). -/

/-- TRACE_WORD: a source's word is written into the ring, or dropped and counted (R415). -/
def execTraceWord (source : Fin 5) (aux : BitVec 24) (payload : BitVec 32) (s : State) : Host.Outcome State Fault Refusal :=
  .next (
    if s.works pgTRC && s.trcAdmits source.val then s.trcWrite { source := source.val, aux := aux.toNat, dt := s.dt, payload := payload.toNat } else s)

/-- The 16 bytes of a trace word (R415). -/
def TrcWord.bytes (w : TrcWord) : List Nat := beBytes 1 w.source ++ beBytes 3 w.aux ++ beBytes 8 w.dt ++ beBytes 4 w.payload

/-- The ring's word at a byte address. -/
def State.trcRead (s : State) (a : Nat) : Word :=
  match Tbl.get (fun _ => none) s.trc.ring (a / 16) with
  | none => 0
  | some w => BitVec.ofNat 32 ((wordsOfBytes w.bytes).getD (a % 16 / 4) 0)

/-- A read of TRC_RD_DATA (R425): admitted to the manufacturer, the integrator and field service; ADDR advances by 4 and wraps. -/
def State.trcRdData (s : State) (who : Init) : State :=
  if s.identOf who = some .manufacturer ∨ s.identOf who = some .integrator ∨ s.identOf who = some .fieldService then
    let a := s.fget TRC_RD_ADDR.ADDR 0
    (s.answerRead who (s.trcRead a)).fset TRC_RD_ADDR.ADDR 0 ((a + 4) % 65536)
  else s.refuseRead who pgTRC .notOwner

/-- TRC_RD_DATA_READ (R425). -/
def execTrcRdDataRead (who : Init) (s : State) : Host.Outcome State Fault Refusal :=
  .next (s.accessRead who pgTRC fun s => s.trcRdData who)

/-! The recorder's clear (R372). -/

/-- A write of EVR_CLEAR (R372): who may, the CONFIRM, and steps 1 and 2. -/
def evrClear (who : Init) (confirm : Nat) (s : State) : WRes :=
  if s.fon EVR_STAT.CLEARING 0 then .error .windowBusy
  else if confirm ≠ s.fget EVR_SEQ.SEQ 0 % 0x10000 then .error .outOfRange
  else
    let id := ((s.identOf who).map Ident.code).getD 0
    let c := (s.fget EVR_DROP.DROPPED 0, s.fget EVR_LOGGED.LOGGED 0, id)
    let s := s.setEvr { s.evr with openSeg := [], fullSegs := [], clearRec := some c }
    let s := ({ s with nva := { s.nva with segSince := none } } : State).fset EVR_STAT.CLEARING 0 1
    .ok (s.queueJournal 4 0 [c.1, c.2.1, c.2.2])

/-- Admission of EVR_CLEAR: never the device identity, and not in DEPLOYED (R372). -/
def State.clearVerdict (s : State) (who : Init) : Option Reason :=
  if s.identOf who = some .device ∨ s.sec.lc = lcDEPLOYED then some .lifecycle else s.admitWrite who pgEVR 0x408

/-- EVR_CLEAR: a write of EVR_CLEAR with its CONFIRM (R372). -/
def execEvrClear (who : Init) (confirm : BitVec 16) (s : State) : Host.Outcome State Fault Refusal :=
  .next (s.accessBy (fun s => s.clearVerdict who) who pgEVR 0x408 (BitVec.ofNat 32 (0x80000000 + confirm.toNat)) (evrClear who confirm.toNat))

/-- An entry of a clear that is over: retired, it is in force no more (R372). -/
def retired (e : JEntry) : JEntry := if e.typ = 4 then { e with committed := false } else e

/-- Step 4 of a clear (R372): SEQ restarts, the log-cleared record takes SEQ 0, EVR_DROP returns to 0, the journal entry is retired: it is in force
no more and keeps its place (DEDUCED, log 240). -/
def State.clearComplete (s : State) (c : Nat × Nat × Nat) : State :=
  let s := { s with nva := { s.nva with journal := s.nva.journal.map retired } }
  let s := s.setEvr { s.evr with log := [], openSeg := [], fullSegs := [], clearRec := none }
  let s := ((s.fset EVR_SEQ.SEQ 0 0).fset EVR_DROP.DROPPED 0 0).fset EVR_STAT.FULL 0 0
  let s := s.cond pgEVR 2 false
  let s := s.acceptRec { code := 0x0001, p0 := c.1, p1 := c.2.1, p2 := c.2.2, dt := s.dt }
  let s := s.fset EVR_STAT.CLEARING 0 0
  s.pulse pgEVR 4

end Sys2Proof.Machine
end

