-- ==== Sys2Proof/Machine/Img.lean ====
section
/-!
DEFINITION. Chapter 4, first part: schedule images, as byte strings in the two slots; loading and verification (R85 to R99).
-/
namespace Sys2Proof.Machine

/-! Reading an image (R85 to R90). -/

/-- Bytes of a slot. -/
def slotBytes : Nat := 262144

/-- The key of a byte of a slot. -/
def imgKey (slot addr : Nat) : Nat := slot * slotBytes + addr

/-- A byte of a slot's image, as a number. -/
def State.imgByte (s : State) (slot addr : Nat) : Nat := (Tbl.get (fun _ => 0) s.sch.img (imgKey slot addr)).toNat

/-- A multi-byte field, most significant byte first (R85). -/
def State.imgBE (s : State) (slot addr : Nat) : Nat → Nat
  | 0 => 0
  | n + 1 => s.imgBE slot addr n * 256 + s.imgByte slot (addr + n)

/-- The bytes of a part of an image. -/
def State.imgList (s : State) (slot addr len : Nat) : List Nat := (List.range len).map fun i => s.imgByte slot (addr + i)

/-- Storing bytes in a slot. -/
def State.imgStore (s : State) (slot addr : Nat) (data : List Nat) : State :=
  let img := (data.zipIdx).foldl (fun t e => Tbl.set (fun _ => (0 : Byte)) t (imgKey slot (addr + e.2)) (BitVec.ofNat 8 e.1)) s.sch.img
  { s with sch := { s.sch with img := img } }

/-- Filling a slot with zeros (R93). -/
def State.imgClear (s : State) (slot : Nat) : State :=
  { s with sch := { s.sch with img := s.sch.img.filter fun e => decide (e.1 / slotBytes ≠ slot) } }

/-- An entry of the section table (R86). -/
structure Section where
  typ : Nat
  sver : Nat
  off : Nat
  len : Nat
  crc : Nat
deriving DecidableEq, Repr

/-- The section table of an image. -/
def State.sections (s : State) (slot : Nat) : List Section :=
  (List.range (s.imgBE slot 0x0E 2)).map fun i =>
    let a := 0x40 + 16 * i
    ⟨s.imgBE slot a 2, s.imgBE slot (a + 2) 2, s.imgBE slot (a + 4) 4, s.imgBE slot (a + 8) 4, s.imgBE slot (a + 12) 4⟩

/-- The section of a type. -/
def State.sectionOf (s : State) (slot typ : Nat) : Option Section := (s.sections slot).find? fun c => decide (c.typ = typ)

/-- The number of paths, and of canceller instances, of the member: an entry for each stands in PLACEMENT (R87, R88). -/
def unitCount (m : Member) : Nat := 2 * m.h

/-- The indexes present in the two groups of 16, in order (R2). -/
def unitsOf (m : Member) : List Nat := (List.range 32).filter fun p => m.present p

/-- The place in PLACEMENT of the entry that names a path (R87). -/
def State.pathEntry (s : State) (slot p : Nat) : Option Nat :=
  match s.sectionOf slot 0x0020 with
  | none => none
  | some c => ((List.range (unitCount s.member)).map fun i => c.off + 16 * i).find? fun a => decide (s.imgByte slot a = p)

/-- The place in PLACEMENT of the entry that names an instance (R88). -/
def State.canEntry (s : State) (slot n : Nat) : Option Nat :=
  match s.sectionOf slot 0x0020 with
  | none => none
  | some c =>
    ((List.range (unitCount s.member)).map fun i => c.off + 16 * unitCount s.member + 8 * i).find? fun a => decide (s.imgByte slot a = n)

/-- A path is placed by a slot's image. -/
def State.placedIn (s : State) (slot p : Nat) : Bool :=
  match s.pathEntry slot p with
  | some a => (s.imgByte slot (a + 1)).testBit 7
  | none => false

/-- A path is placed by the active image (R80). -/
def State.placed (s : State) (p : Nat) : Bool :=
  match s.sch.active with
  | some slot => s.placedIn slot p
  | none => false

/-- A flag of a path in the active image: 6 PROFILE, 5 FIBRE. -/
def State.pathFlag (s : State) (p bit : Nat) : Bool :=
  match s.sch.active with
  | none => false
  | some slot =>
    match s.pathEntry slot p with
    | some a => (s.imgByte slot (a + 1)).testBit bit
    | none => false

/-- Taps of an instance in the active image (R88, R117); none placed, none. -/
def State.canTaps (s : State) (n : Nat) : Nat :=
  match s.sch.active with
  | none => 0
  | some slot =>
    match s.canEntry slot n with
    | some a => if (s.imgByte slot (a + 1)).testBit 7 then s.imgBE slot (a + 2) 2 else 0
    | none => 0

/-- The active image gives an instance the reduced canceller (R88). -/
def State.canReduced (s : State) (n : Nat) : Bool :=
  match s.sch.active with
  | none => false
  | some slot =>
    match s.canEntry slot n with
    | some a => (s.imgByte slot (a + 1)).testBit 6
    | none => false

/-- A census entry (R89). -/
structure CensusEntry where
  code : Nat
  index : Nat
  used : Nat
deriving DecidableEq, Repr

/-- The census of a slot's image. -/
def State.census (s : State) (slot : Nat) : List CensusEntry :=
  match s.sectionOf slot 0x0021 with
  | none => []
  | some c => (List.range (c.len / 8)).map fun i => ⟨s.imgBE slot (c.off + 8 * i) 2, s.imgBE slot (c.off + 8 * i + 2) 2, s.imgBE slot (c.off + 8 * i + 4) 4⟩

/-- Use of a resource in a slot's image; none listed counts as zero (R89). -/
def State.censusUse (s : State) (slot code index : Nat) : Nat :=
  match (s.census slot).find? fun e => decide (e.code = code ∧ e.index = index) with
  | some e => e.used
  | none => 0

/-- Use of a resource of the whole device, whose INDEX is 0xFFFF (R89). -/
def State.deviceUse (s : State) (slot code : Nat) : Nat := s.censusUse slot code 0xFFFF

/-- A word of TICK_POOL (R90): 0 N12, 1 N24, 2 N48, 3 N96, 4 RESERVED, 5 M2G. -/
def State.tickPool (s : State) (slot i : Nat) : Nat :=
  match s.sectionOf slot 0x0022 with
  | none => 0
  | some c => s.imgBE slot (c.off + 2 * i) 2

/-- The place of a TICK code in the pools (R71, R90): 48, 12, 24, 96 kHz. -/
def poolOfTick (tick : Nat) : Nat :=
  match tick with
  | 0 => 2
  | 1 => 0
  | 2 => 1
  | _ => 3

/-- Entries of the pool of a TICK code in a slot's image. -/
def State.poolTotal (s : State) (slot tick : Nat) : Nat := s.tickPool slot (poolOfTick tick)

/-! Verification (R96). -/

/-- Generation a is older than b (R98). -/
def genOlder (a b : Nat) : Bool :=
  let d := (b + 65536 - a) % 65536
  decide (0 < d ∧ d < 32768)

/-- A device-wide capacity of the LV7240 on a member: half on the LV7220, a quarter on the LV7210 (R89). -/
def scaledCap (m : Member) (n : Nat) : Nat := n * m.h / 16

/-- Capacity of a resource, and what its entries are indexed by: 0 the device, 1 instance, 2 path, 3 transmit stream (R89). -/
def censusCap (m : Member) (code : Nat) : Option (Nat × Nat) :=
  match code with
  | 0x0001 => some (256, 0)
  | 0x0002 => some (scaledCap m 20480, 0)
  | 0x0010 => some (3072, 1)
  | 0x0011 => some (4, 1)
  | 0x0012 => some (3, 1)
  | 0x0013 => some (64, 1)
  | 0x0020 => some (12, 2)
  | 0x0021 => some (61440, 2)
  | 0x0022 => some (16, 3)
  | 0x0023 => some (3456, 2)
  | 0x0030 => some (scaledCap m 16, 0)
  | 0x0031 => some (16, 0)
  | 0x0032 => some (scaledCap m 32, 0)
  | _ => none

/-- A slot's canceller entry is reduced. -/
def State.reducedIn (s : State) (slot n : Nat) : Bool :=
  match s.canEntry slot n with
  | some a => (s.imgByte slot (a + 1)).testBit 6
  | none => false

/-- Step 1. -/
def State.vLength (s : State) (slot len : Nat) : Bool :=
  decide (len = s.imgBE slot 0x10 4 ∧ 64 + 16 * s.imgBE slot 0x0E 2 + 96 ≤ len ∧ len ≤ slotBytes)

/-- Step 2. -/
def State.vFormat (s : State) (slot : Nat) : Bool :=
  decide (s.imgBE slot 0 4 = 0x4C4B5350 ∧ s.imgBE slot 4 2 = 1 ∧ s.imgBE slot 6 2 = 64) && (s.imgList slot 0x18 40).all (· = 0)

/-- Step 3. -/
def State.vPart (s : State) (slot : Nat) : Bool :=
  decide (s.imgBE slot 8 2 = s.member.part ∧ s.imgByte slot 0x0A ≤ s.fget SYS_DEVICE_ID.STEPPING 0)

/-- Step 4: the key slot is programmed for Larkspur images and not revoked (R398). -/
def State.vKey (s : State) (slot : Nat) : Bool :=
  let k := s.imgByte slot 0x0B
  decide (k < 8) && (s.rootOf k).programmed && !(s.rootOf k).revoked && (s.rootOf k).usage.testBit 2

/-- Two byte ranges share no byte. -/
def rangesApart (a la b lb : Nat) : Bool := decide (a + la ≤ b ∨ b + lb ≤ a ∨ la = 0 ∨ lb = 0)

/-- The section types that are known, and whether each is required (R86). -/
def knownSections : List (Nat × Bool) := [(0x0010, true), (0x0011, true), (0x0020, true), (0x0021, true), (0x0022, true), (0x0023, false)]

/-- Step 6 (R86). -/
def State.vTable (s : State) (slot len : Nat) : Bool :=
  let cs := s.sections slot
  let hdr := 64 + 16 * cs.length
  let known (c : Section) := knownSections.any fun k => decide (k.1 = c.typ)
  decide (5 ≤ cs.length ∧ cs.length ≤ 16) &&
    cs.all (fun c => decide (c.off % 16 = 0 ∧ hdr ≤ c.off ∧ c.off + c.len + 96 ≤ len) && (known c && decide (c.sver = 1) || !known c && c.typ.testBit 15)) &&
    (cs.zipIdx).all (fun a => (cs.zipIdx).all fun b => decide (a.2 = b.2) || rangesApart a.1.off a.1.len b.1.off b.1.len) &&
    knownSections.all fun k =>
      let n := (cs.filter fun c => decide (c.typ = k.1)).length
      if k.2 then decide (n = 1) else decide (n ≤ 1)

/-- Step 7. -/
def State.vCrc (s : State) (slot : Nat) : Bool :=
  (s.sections slot).all fun c => decide (crc32 (s.imgList slot c.off c.len) = c.crc)

/-- Step 8: newer than the active image; skipped when none is active. -/
def State.vGeneration (s : State) (slot : Nat) : Bool :=
  match s.sch.active with
  | none => true
  | some a => genOlder (s.imgBE a 0x0C 2) (s.imgBE slot 0x0C 2)

/-- Step 9. -/
def State.vCensus (s : State) (slot : Nat) : Bool :=
  let l := s.census slot
  l.any (fun e => decide (e.code = 0x0001)) && l.any (fun e => decide (e.code = 0x0002)) &&
    l.all fun e =>
      match censusCap s.member e.code with
      | none => false
      | some (cap, _) =>
        if e.code = 0x0001 then decide (e.used = 256)
        else if e.code = 0x0013 ∧ s.reducedIn slot e.index then decide (e.used ≤ 16)
        else decide (e.used ≤ cap)

/-- Step 10. -/
def State.vAbsent (s : State) (slot : Nat) : Bool :=
  (match s.sectionOf slot 0x0020 with
    | none => true
    | some c =>
      ((List.range (unitCount s.member)).all fun i =>
        decide (s.imgByte slot (c.off + 16 * i) < 32) && s.member.present (s.imgByte slot (c.off + 16 * i))) &&
      (List.range (unitCount s.member)).all fun i =>
        let n := s.imgByte slot (c.off + 16 * unitCount s.member + 8 * i)
        decide (n < 32) && s.member.present n) &&
    (s.census slot).all fun e =>
      match censusCap s.member e.code with
      | none => true
      | some (_, 0) => true
      | some (_, 3) => decide (32 ≤ e.index ∧ e.index < 64) && s.member.present e.index
      | some (_, _) => decide (e.index < 32) && s.member.present e.index

/-- Step 11 (R87, R96). -/
def State.vLatency (s : State) (slot : Nat) : Bool :=
  (unitsOf s.member).all fun p =>
    match s.pathEntry slot p with
    | none => true
    | some a =>
      let n := s.imgBE slot (a + 2) 2
      let t := s.imgBE slot (a + 4) 2
      let h := s.imgBE slot (a + 6) 2
      if !(s.imgByte slot (a + 1)).testBit 7 then decide (n = 0 ∧ t = 0 ∧ h = 0)
      else if (s.imgByte slot (a + 1)).testBit 6 then decide (n = 0 ∧ t = 0 ∧ h ≤ 2400)
      else decide (n ≤ 4480 ∧ t ≤ 4480 ∧ h ≤ 4480)

/-- Step 12. -/
def State.vDelay (s : State) (slot : Nat) : Bool :=
  (unitsOf s.member).all fun p => !s.placedIn slot p || decide (s.censusUse slot 0x0021 p = 61440)

/-- Step 13 (R90). -/
def State.vPool (s : State) (slot : Nat) : Bool :=
  let p := s.tickPool slot
  let ce := (s.census slot).find? fun e => decide (e.code = 0x0002)
  decide (p 0 + p 1 + p 2 + p 3 ≤ s.member.contexts ∧ 1024 ≤ p 4) &&
    (match ce with
      | some e => decide (p 0 + 2 * p 1 + 4 * p 2 + 8 * p 3 + p 4 = e.used)
      | none => false)

/-- The verdict of verification (R96): 0, or the code of the first step that fails. Whether the signature verifies and whether the recount
of the slot words agrees come from outside: the words of the tables are no part of the contract (R86). -/
def State.verifyCode (s : State) (slot len : Nat) (sigOk recountOk : Bool) : Nat :=
  if !s.vLength slot len then 0x01
  else if !s.vFormat slot then 0x02
  else if !s.vPart slot then 0x03
  else if !s.vKey slot then 0x04
  else if !sigOk then 0x05
  else if !s.vTable slot len then 0x06
  else if !s.vCrc slot then 0x07
  else if !s.vGeneration slot then 0x08
  else if !s.vCensus slot then 0x09
  else if !s.vAbsent slot then 0x0A
  else if !s.vLatency slot then 0x0B
  else if !s.vDelay slot then 0x0C
  else if !s.vPool slot then 0x0D
  else if !recountOk then 0x0E
  else 0

/-! Slots (R99). -/

def slotEMPTY : Nat := 0
def slotLOADING : Nat := 1
def slotVERIFYING : Nat := 2
def slotVERIFIED : Nat := 3
def slotREFUSED : Nat := 4
def slotARMED : Nat := 5
def slotACTIVE : Nat := 6
def slotFORMER : Nat := 7

/-- The STATE field of a slot. -/
def slotStateFld (slot : Nat) : Fld := if slot = 0 then SCH_SLOTA_STAT.STATE else SCH_SLOTB_STAT.STATE
def slotResultFld (slot : Nat) : Fld := if slot = 0 then SCH_SLOTA_STAT.RESULT else SCH_SLOTB_STAT.RESULT
def slotGenFld (slot : Nat) : Fld := if slot = 0 then SCH_SLOTA_STAT.GEN else SCH_SLOTB_STAT.GEN
def slotBuildFld (slot : Nat) : Fld := if slot = 0 then SCH_SLOTA_BUILD.BUILD_ID else SCH_SLOTB_BUILD.BUILD_ID

/-- State of a slot. -/
def State.slotState (s : State) (slot : Nat) : Nat := s.fget (slotStateFld slot) 0

/-- A slot takes a state. -/
def State.setSlot (s : State) (slot st : Nat) : State := s.fset (slotStateFld slot) 0 st

/-- A slot becomes REFUSED with a code (R99, R112). -/
def State.refuseSlot (s : State) (slot code : Nat) : State :=
  ((s.setSlot slot slotREFUSED).fset (slotResultFld slot) 0 code).pulse pgSCH 1

/-- The loader of a slot. -/
def State.loaderOf (s : State) (slot : Nat) : Option Ident := Tbl.get (fun _ => none) s.sch.loader slot

def State.setLoader (s : State) (slot : Nat) (i : Option Ident) : State :=
  { s with sch := { s.sch with loader := Tbl.set (fun _ => none) s.sch.loader slot i } }

def tmLoad : Nat := 20

/-- The BEGIN command (R93): the fill with zeros begins and PAGE_STAT.BUSY shows it. -/
def loadBegin (i : Init) (slot : Nat) (s : State) : WRes :=
  if [slotEMPTY, slotVERIFIED, slotREFUSED, slotFORMER].contains (s.slotState slot) then
    let s := ((s.imgClear slot).setSlot slot slotLOADING).setLoader slot (s.identOf i)
    let s := ((s.fset (slotResultFld slot) 0 0).fset (slotGenFld slot) 0 0).fset (slotBuildFld slot) 0 0
    let s := (List.range 8).foldl (fun s k => s.fset SCH_LOAD_MAP.MAP k 0) s
    let s := { s with sch := { s.sch with filling := s.sch.filling ++ [slot] } }
    .ok ((s.fset PAGE_STAT.BUSY pgSCH 1).timerStart tmLoad slot s.sec_)
  else .error .configLocked

/-- The load bytes of a write reach the slot, and their blocks are marked (R93). -/
def State.loadStore (s : State) (slot addr : Nat) (data : List Nat) : State :=
  let s := s.imgStore slot addr data
  let s := (List.range (data.length / 1024 + 2)).foldl (fun s j =>
    let b := addr / 1024 + j
    if data.isEmpty || decide (addr + data.length ≤ b * 1024) || decide (256 ≤ b) then s else s.fsetBit SCH_LOAD_MAP.MAP (b / 32) (b % 32) true) s
  s.timerStart tmLoad slot s.sec_

/-- LENGTH as the END of a slot carried it (R96 step 1). -/
def State.endLen (s : State) (slot : Nat) : Nat := if slot = 0 then s.sch.endLenA else s.sch.endLenB

def State.setEndLen (s : State) (slot len : Nat) : State :=
  if slot = 0 then { s with sch := { s.sch with endLenA := len } } else { s with sch := { s.sch with endLenB := len } }

/-- END takes effect: the slot goes to VERIFYING (R93, R99). -/
def State.loadFinish (s : State) (slot len : Nat) : State := ((s.setEndLen slot len).setSlot slot slotVERIFYING).timerStop tmLoad slot

/-- ABORT takes effect: the slot is EMPTY again (R93, R99). -/
def State.loadAbort (s : State) (slot : Nat) : State := (s.setSlot slot slotEMPTY).timerStop tmLoad slot

/-- A load write of the loader: held while the slot is filled with zeros; either way it starts the idle period anew (R93). -/
def State.loadOp (s : State) (slot : Nat) (op : LoadOp) : State :=
  if s.sch.filling.contains slot then
    State.timerStart { s with sch := { s.sch with heldLoads := s.sch.heldLoads ++ [(slot, op)] } } tmLoad slot s.sec_
  else
    match op with
    | .bytes a d => s.loadStore slot a d
    | .finish n => s.loadFinish slot n
    | .abort => s.loadAbort slot

/-- The checks of a load write (R93, R99): the slot is loading, and the writer is its loader. -/
def State.loadCheck (s : State) (i : Init) (slot : Nat) (k : WRes) : WRes :=
  if s.slotState slot ≠ slotLOADING then .error .configLocked
  else if s.loaderOf slot ≠ s.identOf i then .error .windowBusy
  else k

/-- A write of SCH_LOAD_CTRL (R93, R111). -/
def loadCtrlWrite (i : Init) (v : Word) (s : State) : WRes :=
  let slot := bitsOf v 29 29
  let len := bitsOf v 18 0
  if slotBytes < len then .error .outOfRange
  else
    let t := (s.fset SCH_LOAD_CTRL.SLOT 0 slot).fset SCH_LOAD_CTRL.LENGTH 0 len
    match bitsOf v 31 30 with
    | 0 => .ok t
    | 1 => loadBegin i slot t
    | 2 => s.loadCheck i slot (.ok (t.loadOp slot (.finish len)))
    | _ => s.loadCheck i slot (.ok (t.loadOp slot .abort))

/-- IMAGE_LOAD_BEGIN: the BEGIN command (R93). -/
def execImageLoadBegin (who : Init) (slot : Fin 2) (s : State) : Host.Outcome State Fault Refusal :=
  let v := BitVec.ofNat 32 (2 ^ 30 + slot.val * 2 ^ 29)
  .next (s.access who pgSCH 0x060 v (loadCtrlWrite who v))

/-- The fill of a slot has ended, others go on: the load writes held for it apply, and BUSY clears with the last fill (R93). -/
def State.fillEnds (s : State) (slot : Nat) (others : List Nat) : State :=
  let mine := s.sch.heldLoads.filter fun e => decide (e.1 = slot)
  let t := { s with sch := { s.sch with filling := others, heldLoads := s.sch.heldLoads.filter fun e => decide (e.1 ≠ slot) } }
  let t := t.fsetB PAGE_STAT.BUSY pgSCH (!others.isEmpty)
  mine.foldl (fun t e => if t.slotState slot = slotLOADING then t.loadOp slot e.2 else t) t

/-- IMAGE_SLOT_FILL_DONE: the fill that began first ends (R93). -/
def execImageSlotFillDone (s : State) : Host.Outcome State Fault Refusal :=
  .next (
    match s.sch.filling with
    | [] => s
    | slot :: others => s.fillEnds slot others)

/-- A write of SCH_LOAD_ADDR (R93). -/
def loadAddrWrite (i : Init) (v : Word) (s : State) : WRes :=
  s.loadCheck i (s.fget SCH_LOAD_CTRL.SLOT 0)
    (if bitsOf v 1 0 ≠ 0 then .error .outOfRange
     else .ok ((s.fset SCH_LOAD_ADDR.ADDR 0 (bitsOf v 17 0)).timerStart tmLoad (s.fget SCH_LOAD_CTRL.SLOT 0) s.sec_))

/-- A write of SCH_LOAD_DATA (R93): four bytes at ADDR, most significant first, and ADDR advances by 4. DESIGN CHOICE (log 174): past the slot's
last word ADDR, a field of 18 bits, is 0. -/
def loadDataWrite (i : Init) (v : Word) (s : State) : WRes :=
  let slot := s.fget SCH_LOAD_CTRL.SLOT 0
  let a := s.fget SCH_LOAD_ADDR.ADDR 0
  s.loadCheck i slot (.ok ((s.loadOp slot (.bytes a (beBytes 4 v.toNat))).fset SCH_LOAD_ADDR.ADDR 0 (a + 4)))

/-- IMAGE_LOAD_DATA: a write of SCH_LOAD_DATA (R93). -/
def execImageLoadData (who : Init) (data : Word) (s : State) : Host.Outcome State Fault Refusal :=
  .next (s.access who pgSCH 0x068 data (loadDataWrite who data))

/-- IMAGE_LOAD_END: the END command with its LENGTH (R93). -/
def execImageLoadEnd (who : Init) (slot : Fin 2) (length : BitVec 19) (s : State) : Host.Outcome State Fault Refusal :=
  let v := BitVec.ofNat 32 (2 ^ 31 + slot.val * 2 ^ 29 + length.toNat)
  .next (s.access who pgSCH 0x060 v (loadCtrlWrite who v))

/-- IMAGE_LOAD_ABORT: the ABORT command (R93). -/
def execImageLoadAbort (who : Init) (slot : Fin 2) (s : State) : Host.Outcome State Fault Refusal :=
  let v := BitVec.ofNat 32 (3 * 2 ^ 30 + slot.val * 2 ^ 29)
  .next (s.access who pgSCH 0x060 v (loadCtrlWrite who v))

/-- LOAD_TIMEOUT: a LOADING slot has received no load write for 10 s (R93). -/
def execLoadTimeout (slot : Fin 2) (s : State) : Host.Outcome State Fault Refusal :=
  .next (
    if decide (s.slotState slot.val = slotLOADING) && s.timerDue tmLoad slot.val s.sec_ 10 then
      ((s.setSlot slot.val slotEMPTY).timerStop tmLoad slot.val).pulse pgSCH 7
    else s)

/-- VERIFY_DONE: verification of a slot ends (R96, R99). -/
def execVerifyDone (slot : Fin 2) (sigOk recountOk : Bool) (s : State) : Host.Outcome State Fault Refusal :=
  .next (
    if s.slotState slot.val ≠ slotVERIFYING then s
    else
      let code := s.verifyCode slot.val (s.endLen slot.val) sigOk recountOk
      let t := (s.fset (slotGenFld slot.val) 0 (s.imgBE slot.val 0x0C 2)).fset (slotBuildFld slot.val) 0 (s.imgBE slot.val 0x14 4)
      if code = 0 then (t.setSlot slot.val slotVERIFIED).pulse pgSCH 0 else t.refuseSlot slot.val code)

/-- A load segment of a command packet (R94). -/
def loadSegment (i : Init) (slot off : Nat) (data : List Nat) (s : State) : WRes :=
  if s.slotState slot ≠ slotLOADING then .error .configLocked
  else if s.loaderOf slot ≠ s.identOf i then .error .windowBusy
  else if off % 1024 ≠ 0 ∨ data.length = 0 ∨ 1024 < data.length ∨ slotBytes < off + data.length then .error .outOfRange
  else .ok (s.loadOp slot (.bytes off data))

end Sys2Proof.Machine
end

