-- ==== Sys2Proof/Machine/Can.lean ====
section
/-!
DEFINITION. Chapter 5, first part: canceller instances, tap maps, adaptation, isolation windows, the onset detector's clamp, self-test.
-/
namespace Sys2Proof.Machine

/-! Keys and accessors. -/

/-- A reference in a subband of an instance. -/
def rkKey (n k r : Nat) : Nat := (n * 64 + k) * 4 + r

/-- A cluster (R117): the unit of CAN_MAP. -/
def mapUnit (n k r c : Nat) : Nat := rkKey n k r * 4 + c

/-- A tap of a cluster. -/
def tapKey (n k r c j : Nat) : Nat := mapUnit n k r c * 64 + j

/-- Behind an instance's registers. -/
def State.canRt (s : State) (n : Nat) : CanRt := Tbl.get (fun _ => {}) s.can.rt n

def State.setCanRt (s : State) (n : Nat) (r : CanRt) : State := { s with can := { s.can with rt := Tbl.set (fun _ => {}) s.can.rt n r } }

/-- Instance states (R137). -/
def canOFF : Nat := 0
def canRUN : Nat := 1
def canPROBE : Nat := 2
def canPAUSED : Nat := 3
def canFROZEN : Nat := 4
def canLINKFROZEN : Nat := 5
def canSELFTEST : Nat := 6

def State.canState (s : State) (n : Nat) : Nat := s.fget CAN_STAT.STATE n
def State.setCanState (s : State) (n st : Nat) : State := s.fset CAN_STAT.STATE n st

/-- The state of a MODE (R123). -/
def modeState (mode : Nat) : Nat := mode + 1

/-- The instance that a holder selects. -/
def State.canSel (s : State) (i : Init) : Nat := s.fget CAN_ISEL.INST i.holder

def tmPause : Nat := 21
def tmIso : Nat := 22
def tmIsoPeriod : Nat := 23
def tmLinkUp : Nat := 24
def tmCanTest : Nat := 25

/-! Chain gains (R268, R269). -/

/-- RXC of a receive stream's port, or −RXFS for a stream on fronthaul. -/
def State.rxc (s : State) (stream : Nat) : Int :=
  let link := s.fget CHN_STREAM.LINK stream
  if link = 0 then s.fgetI FEL_GAIN.RXC (stream % 32) else -s.fgetI FEL_FH.RXFS (link - 1)

/-- TXC of a transmit stream's port, or +TXFS for a stream on fronthaul. -/
def State.txc (s : State) (stream : Nat) : Int :=
  let link := s.fget CHN_STREAM.LINK stream
  if link = 0 then s.fgetI FEL_GAIN.TXC (stream % 32) else s.fgetI FEL_FH.TXFS (link - 1)

/-! Geometry (R116). -/

/-- Subbands of an instance. -/
def State.subbands (s : State) (n : Nat) : Nat := if s.canReduced n then 16 else 64

/-- The decimation of an instance's subband rate: R ÷ 48, or R ÷ 12. -/
def State.sbDecim (s : State) (n : Nat) : Nat := if s.canReduced n then 12 else 48

/-- History depth D in subband samples. -/
def State.histDepth (s : State) (n : Nat) : Nat := if s.canReduced n then 2560 else 640

/-- The sample rate of an instance's receive stream, in kHz. -/
def State.canRate (s : State) (n : Nat) : Nat := rateKhz (s.fget CHN_STREAM.RATE n)

/-- Twice the lower and the upper edge of a subband, in kHz. -/
def State.sbEdges (s : State) (n k : Nat) : Int × Int :=
  let kk := s.subbands n
  let sp : Int := (s.canRate n / kk : Nat)
  let c : Int := 2 * (s.fget CHN_STREAM.FC_KHZ n : Int) + (2 * (k : Int) - kk) * sp
  (c - sp, c + sp)

/-- A band of `low` to `high` kHz overlaps a subband. -/
def State.sbOverlaps (s : State) (n k low high : Nat) : Bool :=
  let e := s.sbEdges n k
  decide (e.1 < 2 * (high : Int) ∧ 2 * (low : Int) < e.2)

/-- The paths that read a receive stream. -/
def State.pathsReading (s : State) (n : Nat) : List Nat := s.paths.filter fun p => (s.readsOf p).contains n

/-- A subband is active: it overlaps an enabled band window of a path that reads the stream (R118). -/
def State.sbActive (s : State) (n k : Nat) : Bool :=
  decide (k < s.subbands n) && (s.pathsReading n).any fun p => (s.winsOf p).any fun w => s.sbOverlaps n k w.low w.high

/-- The active subbands. -/
def State.activeSbs (s : State) (n : Nat) : List Nat := (List.range (s.subbands n)).filter fun k => s.sbActive n k

/-! Tap maps (R117 to R119). -/

/-- The START of a cluster at a delay in ns (R118). -/
def State.clusterStart (s : State) (n ns : Nat) : Nat := roundDivN (ns * s.canRate n) (s.sbDecim n * 1000000) - 4

/-- The clusters of a reference: cluster 0 at 0 ns, and 1 and 2 where their delay is not 0xFFFF; number and START. -/
def State.clustersOf (s : State) (n r : Nat) : List (Nat × Nat) :=
  let d1 := s.fget (CAN_CLU.CL1_DELAY_NS r) n
  let d2 := s.fget (CAN_CLU.CL2_DELAY_NS r) n
  (0, s.clusterStart n 0) :: ((if d1 = 0xFFFF then [] else [(1, s.clusterStart n d1)]) ++ (if d2 = 0xFFFF then [] else [(2, s.clusterStart n d2)]))

/-- The enabled references. -/
def State.enabledRefs (s : State) (n : Nat) : List Nat := (List.range 4).filter fun r => s.fon (CAN_REF.EN r) n

/-- The number of enabled reference and cluster pairs. -/
def State.pairCount (s : State) (n : Nat) : Nat := ((s.enabledRefs n).map fun r => (s.clustersOf n r).length).sum

/-- The history bound of R117 holds for every LEN equal to L. -/
def State.histFits (s : State) (n l : Nat) : Bool :=
  decide (((s.enabledRefs n).map fun r => ((s.clustersOf n r).map fun c => c.2 + l).foldl max 0).sum ≤ s.histDepth n)

/-- The largest LEN at or below l that keeps the history bound. -/
def State.fitLen (s : State) (n : Nat) : Nat → Nat
  | 0 => 0
  | l + 1 => if s.histFits n (l + 1) then l + 1 else s.fitLen n l

/-- L of the derivation (R118). -/
def State.deriveLen (s : State) (n : Nat) : Nat :=
  let a := (s.activeSbs n).length
  let c := s.pairCount n
  if a = 0 ∨ c = 0 then 0 else s.fitLen n (min 64 (s.canTaps n / (a * c)))

/-- The derivation reaches L = 0 although a reference is enabled: the basic write is refused (R118). -/
def State.deriveFails (s : State) (n : Nat) : Bool := decide (s.deriveLen n = 0 ∧ 0 < s.pairCount n)

/-- Zeroing the taps of a cluster from number `keep` on. -/
def State.zeroTaps (s : State) (u keep : Nat) : State :=
  let out (e : Nat × Cplx) : Bool := decide (e.1 / 64 = u ∧ keep ≤ e.1 % 64)
  { s with can := { s.can with taps := s.can.taps.filter fun e => !out e, gm := s.can.gm.filter fun e => !out e } }

/-- A cluster takes a map entry; taps that it keeps are those of an unchanged START (R119), and none where the entry is switched off (DESIGN
CHOICE, log 218). -/
def State.placeCluster (s : State) (n k r c : Nat) (en : Bool) (start len : Nat) : State :=
  let u := mapUnit n k r c
  let same := s.fon CAN_MAP.EN u && en && decide (s.fget CAN_MAP.START u = start)
  let s := s.zeroTaps u (if same then min (s.fget CAN_MAP.LEN u) len else 0)
  ((s.fsetB CAN_MAP.EN u en).fset CAN_MAP.START u start).fset CAN_MAP.LEN u len

/-- The stored words of a coefficient (R54, R167): m = round(value × 2^31) with s = 31; 1 itself takes s = 30. -/
def coefWords (num den : Nat) : Nat × Nat :=
  if den = 0 then (0, 31)
  else if den ≤ num then (2 ^ 30, 30)
  else
    let m := roundDivN (num * 2 ^ 31) den
    if 2 ^ 31 ≤ m then (2 ^ 30, 30) else (m, 31)

/-- mu of the basic fields (R121), held between 2^-20 and 1. -/
def State.muWords (s : State) (n l : Nat) : Nat × Nat :=
  let num := l * s.pairCount n * s.sbDecim n * 1000
  let den := s.fget CAN_ADAPT.ADAPT_TC_US n * s.canRate n
  if num * 2 ^ 20 ≤ den then coefWords 1 (2 ^ 20) else coefWords num den

/-- lambda of the basic fields (R121). -/
def State.leakWords (s : State) (n : Nat) : Nat × Nat :=
  let tc := s.fget CAN_ADAPT.LEAK_TC_MS n
  if tc = 0 then (0, 31) else coefWords (s.sbDecim n) (tc * s.canRate n)

/-- lambda is derived: at a write of CAN_ADAPT, and where the subband rate changes (R45, R121). -/
def State.deriveLeak (s : State) (n : Nat) : State := (s.fset CAN_LEAK_M.M n (s.leakWords n).1).fset CAN_LEAK_S.S n (s.leakWords n).2

/-- mu is derived from a tap count per cluster (R121). -/
def State.deriveMu (s : State) (n l : Nat) : State := (s.fset CAN_MU_M.M n (s.muWords n l).1).fset CAN_MU_S.S n (s.muWords n l).2

/-- The sample rate of a receive stream has changed, and the subband rate of its instance with it: mu and lambda follow (R45, R121). -/
def State.rateChanged (s : State) (n : Nat) : State := (s.deriveMu n (s.fget CAN_STAT.TAPS_PER_CLUSTER n)).deriveLeak n

/-- The map, L and mu are derived anew (R119, R121). -/
def State.deriveApply (s : State) (n : Nat) : State :=
  let l := s.deriveLen n
  let act := s.activeSbs n
  let refs := s.enabledRefs n
  let t := (List.range 64).foldl (fun t k =>
    (List.range 4).foldl (fun t r =>
      (List.range 3).foldl (fun t c =>
        match (s.clustersOf n r).find? fun e => decide (e.1 = c) with
        | some e => if act.contains k && refs.contains r && decide (0 < l) then t.placeCluster n k r c true e.2 l else t.placeCluster n k r c false 0 0
        | none => t.placeCluster n k r c false 0 0) t) t) s
  let t := (t.fset CAN_STAT.TAPS_PER_CLUSTER n l).fset CAN_STAT.ACTIVE_SB n act.length
  let t := t.deriveMu n l
  (t.setCanRt n { t.canRt n with derived := true }).pulse pgCAN 5

/-- Zeroing the taps, correlators and histories of a reference (R119). -/
def State.zeroRef (s : State) (n r : Nat) : State :=
  let isRk (key : Nat) : Bool := decide (key / 256 = n ∧ key % 4 = r)
  let s := { s with can := { s.can with taps := s.can.taps.filter fun e => !isRk (e.1 / 256), gm := s.can.gm.filter fun e => !isRk (e.1 / 256) } }
  { s with can := { s.can with hist := s.can.hist.filter fun e => !isRk e.1, probe := s.can.probe.filter fun e => !isRk e.1 } }

/-- A basic write of an instance that has been merged: refused when the derivation fails, else derived anew. -/
def State.canDerived (s : State) (n : Nat) : WRes := if s.deriveFails n then .error .outOfRange else .ok (s.deriveApply n)

/-- A delay field of CAN_CLU: 0 to 20,000 ns, or 0xFFFF (R137). -/
def clusterDelayOk (v : Nat) : Bool := decide (v ≤ 20000 ∨ v = 0xFFFF)

/-- Ranges of the basic registers that depend on a second field (R137). -/
def canRangeOk (reg : CanReg) (v : Word) : Bool :=
  match reg with
  | .clu _ => clusterDelayOk (bitsOf v 31 16) && clusterDelayOk (bitsOf v 15 0)
  | .probe => decide (-3200 ≤ toSigned (bitsOf v 31 16) 65536 ∧ toSigned (bitsOf v 31 16) 65536 ≤ -1280)
  | .marginCfg =>
    let r := toSigned (bitsOf v 31 16) 65536
    let w := toSigned (bitsOf v 15 0) 65536
    decide (192 ≤ r ∧ r ≤ 1920 ∧ 0 ≤ w ∧ w ≤ r)
  | .isoAssumed => decide (0 ≤ toSigned (bitsOf v 15 0) 65536 ∧ toSigned (bitsOf v 15 0) 65536 ≤ 3840)
  | _ => true

/-- Offset of a basic register (R137). -/
def canRegOff (reg : CanReg) : Nat :=
  match reg with
  | .ref r => 0x048 + 4 * r.val
  | .clu r => 0x058 + 4 * r.val
  | .adapt => 0x068
  | .probe => 0x06C
  | .marginCfg => 0x070
  | .isoAssumed => 0x074

/-- The key of a selected register of the CAN page for an instance. -/
def canKey (off n : Nat) : Nat := 0x14000 + off + Fld.unitStep * n

/-! States (R123). -/

/-- A pause begins, of the PAUSE_MS that stands (R123). -/
def State.beginPause (s : State) (n : Nat) : State :=
  (s.setCanRt n { s.canRt n with pauseLen := s.fget CAN_CTRL.PAUSE_MS n }).timerStart tmPause n s.ms

/-- An instance enters a state; PAUSED begins a pause, unless one that began earlier still runs (R123). -/
def State.enterCan (s : State) (n st : Nat) : State :=
  let s := s.setCanState n st
  if st = canPAUSED ∧ s.timerOn tmPause n = false then s.beginPause n else s

/-- MODE changes from `old`: the mode that a pause returns to is remembered, and a pause that runs has ended (R123). -/
def State.noteMode (s : State) (n old mode : Nat) : State :=
  let s := s.timerStop tmPause n
  if mode = 2 then s.setCanRt n { s.canRt n with prePause := old } else s

/-- An instance is LINK_FROZEN, or will be once the isolation window that began there ends (R123). -/
def State.linkFrozen (s : State) (n : Nat) : Bool :=
  decide (s.canState n = canLINKFROZEN) || (s.fon CAN_STAT.ISO_BUSY n && decide ((s.canRt n).preIso = canLINKFROZEN))

/-- A change of MODE reaches an enabled instance: at once, or remembered in LINK_FROZEN and in an isolation window. -/
def State.modeChanged (s : State) (n mode : Nat) : State :=
  if s.linkFrozen n then s.setCanRt n { s.canRt n with preLink := modeState mode }
  else if s.fon CAN_STAT.ISO_BUSY n then s.setCanRt n { s.canRt n with preIso := modeState mode, isoModeWritten := true }
  else s.enterCan n (modeState mode)

/-- An isolation window ends without a result. -/
def State.isoStop (s : State) (n : Nat) : State :=
  if s.fon CAN_STAT.ISO_BUSY n then ((s.fset CAN_STAT.ISO_BUSY n 0).timerStop tmIso n).enterCan n (s.canRt n).preIso else s

/-- EN takes a value (R123). -/
def State.enChanged (s : State) (n : Nat) (en : Bool) : State :=
  if en then (s.enterCan n (modeState (s.fget CAN_CTRL.MODE n))).timerStart tmIsoPeriod n s.sec_
  else
    let s := ((s.isoStop n).timerStop tmPause n).timerStop tmIsoPeriod n
    (s.setCanRt n { s.canRt n with isoHeld := false }).setCanState n canOFF

/-- A window may begin now: the instance is not OFF, and neither a window nor a self-test runs (R123, R127). -/
def State.isoReady (s : State) (n : Nat) : Bool :=
  !s.fon CAN_STAT.ISO_BUSY n && decide (s.canState n ≠ canOFF ∧ s.canState n ≠ canSELFTEST)

/-- What the last window gathered is forgotten as the next begins (R126). -/
def State.isoFresh (s : State) (n : Nat) : State :=
  { s with can := { s.can with isoAcc := s.can.isoAcc.filter fun e => decide (e.1 / 256 ≠ n)
                               raw := s.can.raw.filter fun e => decide (e.1 / 65536 ≠ n) } }

/-- An isolation window begins (R126, R123). DESIGN CHOICE (log 182): ISO_PERIOD_S counts from the start of the last window, whatever asked for
it. -/
def State.isoStart (s : State) (n : Nat) : State :=
  let s := (s.isoFresh n).setCanRt n { s.canRt n with preIso := s.canState n, isoModeWritten := false, isoHeld := false }
  ((s.fset CAN_STAT.ISO_BUSY n 1).setCanState n canPROBE).timerStart tmIso n s.ms |>.timerStart tmIsoPeriod n s.sec_

/-- A request for a window (R127): it starts at once, or is held. -/
def State.isoRequest (s : State) (n : Nat) : State :=
  if s.canState n = canOFF then s
  else if s.isoReady n then s.isoStart n
  else s.setCanRt n { s.canRt n with isoHeld := true }

/-- Zeroing every tap of an instance (R137). -/
def State.clearTaps (s : State) (n : Nat) : State :=
  { s with can := { s.can with taps := s.can.taps.filter fun e => decide (e.1 / 65536 ≠ n) } }

/-- A stream's link is lost. -/
def State.isLinkLost (s : State) (stream : Nat) : Bool := Tbl.get (fun _ => false) s.can.linkLost stream

/-- An instance depends on a stream's link: its receive stream, or an enabled reference. -/
def State.canUses (s : State) (n stream : Nat) : Bool :=
  decide (n = stream) || (s.enabledRefs n).any fun r => decide (s.fget (CAN_REF.STREAM r) n = stream)

/-- Every link of an instance is up. -/
def State.canLinksUp (s : State) (n : Nat) : Bool :=
  !s.isLinkLost n && (s.enabledRefs n).all fun r => !s.isLinkLost (s.fget (CAN_REF.STREAM r) n)

/-- An instance enters LINK_FROZEN (R123). -/
def State.linkFreeze (s : State) (n : Nat) : State :=
  let s := s.isoStop n
  let st := s.canState n
  if canOFF < st ∧ st < canLINKFROZEN then
    (((s.setCanRt n { s.canRt n with preLink := st }).setCanState n canLINKFROZEN).timerStop tmLinkUp n).pulse pgCAN 4
  else s.timerStop tmLinkUp n

/-- The links of an instance are looked at again: a lost one freezes it, and the millisecond of a frozen one runs while all are up (R123).
DEDUCED (log 185): also where a write makes a lost link count, or count no more. -/
def State.linkCheck (s : State) (n : Nat) : State :=
  if !s.canLinksUp n then (if s.linkFrozen n then s.timerStop tmLinkUp n else s.linkFreeze n)
  else if s.linkFrozen n && !s.timerOn tmLinkUp n then s.timerStart tmLinkUp n s.ms
  else s

/-- A basic write (R118, R119, R121, R137). -/
def canBasicWrite (i : Init) (reg : CanReg) (v : Word) (s : State) : WRes :=
  let n := s.canSel i
  if !s.member.present n then .error .unitAbsent
  else if !canRangeOk reg v then .error .outOfRange
  else
    match s.mergeReg pgCAN (canRegOff reg) (canKey (canRegOff reg) n) v with
    | .error r => .error r
    | .ok t =>
      let t :=
        match reg with
        | .ref r =>
          if s.fon (CAN_REF.EN r.val) n = t.fon (CAN_REF.EN r.val) n ∧ s.fget (CAN_REF.STREAM r.val) n = t.fget (CAN_REF.STREAM r.val) n then t
          else t.zeroRef n r.val
        | .adapt => t.deriveLeak n
        | _ => t
      match t.canDerived n with
      | .error r => .error r
      | .ok t => .ok (t.linkCheck n)

/-- CAN_BASIC_WRITE: a write of a basic register of the selected instance (R119). -/
def execCanBasicWrite (who : Init) (reg : CanReg) (value : Word) (s : State) : Host.Outcome State Fault Refusal :=
  .next (s.access who pgCAN (canRegOff reg) value (canBasicWrite who reg value))

/-- A write of CAN_CTRL (R123, R127, R137). -/
def canCtrlWrite (i : Init) (v : Word) (s : State) : WRes :=
  let n := s.canSel i
  if !s.member.present n then .error .unitAbsent
  else if bitsOf v 15 0 = 0 then .error .outOfRange
  else if bitsOf v 26 26 = 1 ∧ s.canState n ≠ canFROZEN then .error .configLocked
  else if s.deriveFails n then .error .outOfRange
  else
    let old := s.fget CAN_CTRL.MODE n
    let was := s.fon CAN_CTRL.EN n
    let en := decide (bitsOf v 31 31 = 1)
    let mode := bitsOf v 30 29
    let t := s.deriveApply n
    let t := ((t.fsetB CAN_CTRL.EN n en).fset CAN_CTRL.MODE n mode).fset CAN_CTRL.PAUSE_MS n (bitsOf v 15 0)
    let t := if bitsOf v 26 26 = 1 then t.clearTaps n else t
    let t := if mode = old then t else t.noteMode n old mode
    let t := if en ≠ was then t.enChanged n en else if en && decide (mode ≠ old) then t.modeChanged n mode else t
    let t := t.linkCheck n
    .ok (if bitsOf v 27 27 = 1 then t.isoRequest n else t)

/-- The word of CAN_CTRL as it stands. -/
def State.canCtrlWord (s : State) (i : Init) : Word := s.word (canKey 0x044 (s.canSel i))

/-- CAN_ENABLE: CAN_CTRL.EN := 1 on the selected instance (R123). -/
def execCanEnable (who : Init) (s : State) : Host.Outcome State Fault Refusal :=
  let v := putBits (s.canCtrlWord who) 31 31 1
  .next (s.access who pgCAN 0x044 v (canCtrlWrite who v))

/-- CAN_DISABLE: CAN_CTRL.EN := 0 (R123). -/
def execCanDisable (who : Init) (s : State) : Host.Outcome State Fault Refusal :=
  let v := putBits (s.canCtrlWord who) 31 31 0
  .next (s.access who pgCAN 0x044 v (canCtrlWrite who v))

/-- CAN_MODE_WRITE: a write of CAN_CTRL.MODE (R123). -/
def execCanModeWrite (who : Init) (mode : Fin 4) (s : State) : Host.Outcome State Fault Refusal :=
  let v := putBits (s.canCtrlWord who) 30 29 mode.val
  .next (s.access who pgCAN 0x044 v (canCtrlWrite who v))

/-- CLEAR_TAPS: a write of CAN_CTRL.CLEAR_TAPS, in FROZEN only (R137). -/
def execClearTaps (who : Init) (s : State) : Host.Outcome State Fault Refusal :=
  let v := putBits (s.canCtrlWord who) 26 26 1
  .next (s.access who pgCAN 0x044 v (canCtrlWrite who v))

/-- ISO_REQ: a write of CAN_CTRL.ISO_REQ (R127). -/
def execIsoReq (who : Init) (s : State) : Host.Outcome State Fault Refusal :=
  let v := putBits (s.canCtrlWord who) 27 27 1
  .next (s.access who pgCAN 0x044 v (canCtrlWrite who v))

/-- PAUSE_EXPIRED: the pause of an instance ends, and it returns to the mode held before (R123). -/
def execPauseExpired (inst : Fin 32) (s : State) : Host.Outcome State Fault Refusal :=
  .next (
    let n := inst.val
    let r := s.canRt n
    if s.timerDue tmPause n s.ms r.pauseLen then
      let t := (s.timerStop tmPause n).fset CAN_CTRL.MODE n r.prePause
      if t.can.selftest = some (n, canPAUSED) then { t with can := { t.can with selftest := some (n, modeState r.prePause) } }
      else if t.canState n = canPAUSED then t.setCanState n (modeState r.prePause)
      else if t.linkFrozen n ∧ r.preLink = canPAUSED then t.setCanRt n { r with preLink := modeState r.prePause }
      else if t.fon CAN_STAT.ISO_BUSY n ∧ r.preIso = canPAUSED then t.setCanRt n { r with preIso := modeState r.prePause }
      else t
    else s)

/-- The link of a stream is lost (R123). -/
def State.canLinkLoss (s : State) (stream : Nat) : State :=
  let s := { s with can := { s.can with linkLost := Tbl.set (fun _ => false) s.can.linkLost stream true } }
  (List.range 32).foldl (fun s n => if s.canUses n stream then s.linkFreeze n else s) s

/-- The link of a stream is back: instances whose links are all up begin their millisecond. -/
def State.canLinkBack (s : State) (stream : Nat) : State :=
  let s := { s with can := { s.can with linkLost := Tbl.set (fun _ => false) s.can.linkLost stream false } }
  (List.range 32).foldl (fun s n => if s.linkFrozen n && s.canUses n stream then s.linkCheck n else s) s

/-- The histories of an instance are refilled before its first update (R123). -/
def State.beginRefill (s : State) (n : Nat) : State :=
  let fill := (List.range (s.subbands n)).foldl (fun t k => Tbl.set (fun _ => 0) t (64 * n + k) (s.histDepth n)) s.can.refill
  { s with can := { s.can with refill := fill } }

/-- A sample of a subband counts toward its refill. -/
def State.refillStep (s : State) (n k : Nat) : State :=
  { s with can := { s.can with refill := Tbl.set (fun _ => 0) s.can.refill (64 * n + k) (Tbl.get (fun _ => 0) s.can.refill (64 * n + k) - 1) } }

/-- LINK_FROZEN_EXIT: all links of an instance have been up for 1 ms (R123). -/
def execLinkFrozenExit (inst : Fin 32) (s : State) : Host.Outcome State Fault Refusal :=
  .next (
    let n := inst.val
    if s.linkFrozen n && s.canLinksUp n && s.timerDue tmLinkUp n s.ms 1 then
      let t := (s.timerStop tmLinkUp n).beginRefill n
      if s.fon CAN_STAT.ISO_BUSY n then t.setCanRt n { t.canRt n with preIso := (t.canRt n).preLink } else t.enterCan n (s.canRt n).preLink
    else s)

/-! Expert map and taps (R117, R119, R122, R138). -/

/-- The cluster that a holder selects: instance, subband, reference, cluster. -/
def State.mapSel (s : State) (i : Init) : Nat :=
  mapUnit (s.canSel i) (s.fget CAN_MAP_SEL.SB i.holder) (s.fget CAN_MAP_SEL.REF i.holder) (s.fget CAN_MAP_SEL.CLU i.holder)

/-- The map of an instance keeps R117. -/
def State.mapFits (s : State) (n : Nat) : Bool :=
  let on (k r : Nat) := (List.range 3).filter fun c => s.fon CAN_MAP.EN (mapUnit n k r c)
  let total := ((List.range 64).map fun k => ((List.range 4).map fun r => ((on k r).map fun c => s.fget CAN_MAP.LEN (mapUnit n k r c)).sum).sum).sum
  decide (total ≤ s.canTaps n) &&
    (List.range 64).all fun k =>
      decide (((List.range 4).map fun r =>
        ((on k r).map fun c => s.fget CAN_MAP.START (mapUnit n k r c) + s.fget CAN_MAP.LEN (mapUnit n k r c)).foldl max 0).sum ≤ s.histDepth n)

/-- A write of CAN_MAP (R119, R138). DESIGN CHOICE: a LEN above 64 is out of range with EN = 0 too (log 215), and an entry of a subband that the
instance does not have is stored and counts among its taps (log 216). -/
def mapWrite (i : Init) (v : Word) (s : State) : WRes :=
  let n := s.canSel i
  let en := decide (bitsOf v 31 31 = 1)
  let len := bitsOf v 6 0
  if !s.member.present n then .error .unitAbsent
  else if 64 < len ∨ (en ∧ len = 0) then .error .outOfRange
  else
    let t := s.placeCluster n (s.fget CAN_MAP_SEL.SB i.holder) (s.fget CAN_MAP_SEL.REF i.holder) (s.fget CAN_MAP_SEL.CLU i.holder) en (bitsOf v 27 16) len
    if t.mapFits n then .ok (t.setCanRt n { t.canRt n with derived := false }) else .error .outOfRange

/-- CAN_MAP_WRITE: an expert write of CAN_MAP (R119). -/
def execCanMapWrite (who : Init) (value : Word) (s : State) : Host.Outcome State Fault Refusal :=
  .next (s.access who pgCAN 0x444 value (mapWrite who value))

/-- The key of the tap that a holder selects. -/
def State.tapSel (s : State) (i : Init) : Nat := s.mapSel i * 64 + s.fget CAN_TAP_SEL.TAP i.holder

/-- The admission of a tap write: as any expert write; refused during a self-test (R135). -/
def State.admitTap (s : State) (i : Init) (off : Nat) : Option Reason :=
  match s.admitWrite i pgCAN off with
  | some r => some r
  | none => if s.canState (s.canSel i) ≠ canFROZEN then some .configLocked else none

/-- A write of CAN_TAP_RE is staged (R138). -/
def tapReWrite (i : Init) (re : Nat) (s : State) : WRes :=
  .ok { s with can := { s.can with stageRe := Tbl.set (fun _ => 0) s.can.stageRe i.holder re } }

/-- A write of CAN_TAP_IM commits both parts (R138). -/
def tapImWrite (i : Init) (im : Nat) (s : State) : WRes :=
  let re := Tbl.get (fun _ => 0) s.can.stageRe i.holder
  let w : Cplx := ⟨toSigned re (2 ^ 20), toSigned im (2 ^ 20)⟩
  if s.fget CAN_MAP.LEN (s.mapSel i) ≤ s.fget CAN_TAP_SEL.TAP i.holder then .ok s
  else .ok { s with can := { s.can with taps := Tbl.set (fun _ => {}) s.can.taps (s.tapSel i) w } }

/-- TAP_RE_WRITE: a write of CAN_TAP_RE (R138). -/
def execTapReWrite (who : Init) (re : BitVec 20) (s : State) : Host.Outcome State Fault Refusal :=
  .next (s.accessBy (fun s => s.admitTap who 0x44C) who pgCAN 0x44C (re.setWidth 32) (tapReWrite who re.toNat))

/-- TAP_IM_WRITE: a write of CAN_TAP_IM (R138). -/
def execTapImWrite (who : Init) (im : BitVec 20) (s : State) : Host.Outcome State Fault Refusal :=
  .next (s.accessBy (fun s => s.admitTap who 0x450) who pgCAN 0x450 (im.setWidth 32) (tapImWrite who im.toNat))

/-- A read of CAN_TAP_RE: the real part is answered and the imaginary part latched (R138). -/
def tapReRead (i : Init) (s : State) : State :=
  let w := Tbl.get (fun _ => {}) s.can.taps (s.tapSel i)
  let s := { s with can := { s.can with latchIm := Tbl.set (fun _ => 0) s.can.latchIm i.holder (ofSigned w.im (2 ^ 20)) } }
  s.answerRead i (BitVec.ofNat 32 (ofSigned w.re (2 ^ 20)))

/-- TAP_RE_READ: a read of CAN_TAP_RE (R138). -/
def execTapReRead (who : Init) (s : State) : Host.Outcome State Fault Refusal :=
  .next (s.accessRead who pgCAN (tapReRead who))

/-! Adaptation (R120 to R122). -/

/-- Complex arithmetic. -/
def Cplx.add (a b : Cplx) : Cplx := ⟨a.re + b.re, a.im + b.im⟩
def Cplx.mul (a b : Cplx) : Cplx := ⟨a.re * b.re - a.im * b.im, a.re * b.im + a.im * b.re⟩
def Cplx.conj (a : Cplx) : Cplx := ⟨a.re, -a.im⟩
def Cplx.norm2 (a : Cplx) : Int := a.re * a.re + a.im * a.im
def Cplx.scale (k : Int) (a : Cplx) : Cplx := ⟨k * a.re, k * a.im⟩

/-- A tap position of a subband: reference, key of the tap, lag. -/
structure TapPos where
  ref : Nat
  key : Nat
  lag : Nat
deriving DecidableEq, Repr

/-- The taps of a subband under the map. -/
def State.tapsOf (s : State) (n k : Nat) : List TapPos :=
  (List.range 4).flatMap fun r =>
    if !s.fon (CAN_REF.EN r) n then [] else
    (List.range 3).flatMap fun c =>
      let u := mapUnit n k r c
      if s.fon CAN_MAP.EN u then (List.range (s.fget CAN_MAP.LEN u)).map fun j => ⟨r, tapKey n k r c j, s.fget CAN_MAP.START u + j⟩ else []

/-- A new sample of a history, kept to the depth of the instance. -/
def pushHist (t : List (Nat × List Cplx)) (key depth : Nat) (x : Cplx) : List (Nat × List Cplx) :=
  Tbl.set (fun _ => []) t key ((x :: Tbl.get (fun _ => []) t key).take depth)

/-- A history sample of a lag. -/
def lagOf (t : List (Nat × List Cplx)) (key lag : Nat) : Cplx := (Tbl.get (fun _ => []) t key).getD lag {}

/-! The probe (R124, R125). -/

/-- The probe seed of a transmit stream (R125, R137). -/
def State.probeSeed (s : State) (t : Nat) : Nat :=
  if t % 2 = 0 then s.fget CAN_PSEED.SEED_EVEN ((t - 32) / 2) else s.fget CAN_PSEED.SEED_ODD ((t - 32) / 2)

/-- The reference of an instance that covers a transmit stream: the first enabled one in its probe group (R115). -/
def State.coverRef (s : State) (n t : Nat) : Option Nat :=
  (s.enabledRefs n).find? fun r => decide (s.probeSeed (s.fget (CAN_REF.STREAM r) n) = s.probeSeed t)

/-- An instance covers a transmit stream (R115). -/
def State.covers (s : State) (n t : Nat) : Bool := (s.coverRef n t).isSome

/-- The instances that hold a stream, or a member of its probe group, as a reference and are in PROBE or in an isolation window. -/
def State.probers (s : State) (t : Nat) : List Nat := (unitsOf s.member).filter fun n => decide (s.canState n = canPROBE) && s.covers n t

/-- The probe is on for a transmit stream (R124). -/
def State.probeOn (s : State) (t : Nat) : Bool := !(s.probers t).isEmpty

/-- The seed of a probe register in a subband: 23 bits, 0 replaced by 1 (R125). -/
def probeStart (seed k : Nat) : Nat := if (seed * 128 + k) % 2 ^ 23 = 0 then 1 else (seed * 128 + k) % 2 ^ 23

/-- A step of the register x^23 + x^18 + 1 (R125). DESIGN CHOICE (log 183): it shifts up, and bit 0 takes the sum of bits 22 and 17. -/
def probeStep (x : Nat) : Nat := (2 * x + (x / 2 ^ 22 + x / 2 ^ 17) % 2) % 2 ^ 23

/-- A part of a probe symbol: the amplitude, its sign by the register's top bit (DESIGN CHOICE, log 183). -/
def probePart (x amp : Nat) : Int := if 2 ^ 22 ≤ x then -(amp : Int) else amp

/-- The register of a probe seed in a subband at the current symbol (R125). -/
def State.probeReg (s : State) (seed k : Nat) : Nat :=
  let x := Tbl.get (fun _ => 0) s.can.lfsr (64 * seed + k)
  if x = 0 then probeStart seed k else x

/-- The instance whose samples pace a transmit stream's probe in a subband: the first of those that ask for it (DESIGN CHOICE, log 183). -/
def State.probeLead (s : State) (t k : Nat) : Option Nat := (s.probers t).find? fun n => decide (k < s.subbands n)

/-- The registers of the probes that an instance's references carry, at a sample of a subband (R125): one register for every stream of a seed. It
starts at its seed, steps at the samples of the instance that paces it, and is forgotten while no probe of the seed is on. -/
def State.probeTick (s : State) (n k : Nat) : State :=
  (((s.enabledRefs n).map fun r => s.fget (CAN_REF.STREAM r) n).map fun t => (s.probeSeed t, t)).foldl (fun u x =>
    let key := 64 * x.1 + k
    let old := Tbl.get (fun _ => 0) s.can.lfsr key
    let new :=
      if !s.probeOn x.2 then 0
      else if s.probeLead x.2 k ≠ some n then old
      else if old = 0 then probeStart x.1 k
      else probeStep (probeStep old)
    { u with can := { u.can with lfsr := Tbl.set (fun _ => 0) u.can.lfsr key new } }) s

/-- The probe symbol of a reference in a subband; zero while the probe is off (R124, R125). -/
def State.probeSample (s : State) (n k r amp : Nat) : Cplx :=
  let t := s.fget (CAN_REF.STREAM r) n
  if !s.probeOn t then {} else
  let x := s.probeReg (s.probeSeed t) k
  ⟨probePart x amp, probePart (probeStep x) amp⟩

/-- The samples of a subband enter the histories, which LINK_FROZEN holds (R123): those of the references, and of the probes in them. -/
def State.pushSamples (s : State) (n k : Nat) (refs : List RefIn) : State :=
  if s.canState n = canLINKFROZEN then s else
  (List.range 4).foldl (fun s r =>
    let x := refs.getD r ⟨(0, 0), 0⟩
    let u := s.probeSample n k r x.amp
    { s with can := { s.can with hist := pushHist s.can.hist (rkKey n k r) (s.histDepth n) ⟨x.x.1, x.x.2⟩
                                 probe := pushHist s.can.probe (rkKey n k r) (s.histDepth n) u } }) s

/-- The regressor under a tap: the probe history in PROBE, otherwise the reference history (R120), in the states for which the rule names none as
in RUN (DESIGN CHOICE, log 217). -/
def State.regressor (s : State) (n k : Nat) (p : TapPos) : Cplx :=
  lagOf (if s.canState n = canPROBE then s.can.probe else s.can.hist) (rkKey n k p.ref) p.lag

/-- A complex term enters two 64-bit sums, which count their holds (R13). -/
def accCplx (a : Cplx × Nat) (z : Cplx) : Cplx × Nat :=
  let re := accAdd (a.1.re, a.2) z.re
  let im := accAdd (a.1.im, re.2) z.im
  (⟨re.1, im.1⟩, im.2)

/-- The error of a subband sample in units of 2^-34 and the holds of its sums: e = d − Σ w x (R120); the estimate is zero in OFF (R123). -/
def State.subbandError (s : State) (n k : Nat) (d : Int × Int) (ps : List TapPos) : Cplx × Nat :=
  let terms := (if s.canState n = canOFF then [] else ps).map fun p =>
    (Tbl.get (fun _ => {}) s.can.taps p.key).mul (lagOf s.can.hist (rkKey n k p.ref) p.lag)
  let y := terms.foldl accCplx ({}, 0)
  (⟨d.1 * 2 ^ 19 - y.1.re, d.2 * 2 ^ 19 - y.1.im⟩, y.2)

/-- The monitor correlator of a tap moves toward the gradient by 2^-sh (R120), and counts its holds; its last place is open. -/
def gmNext (f : Nat → BitVec 64) (sh : Nat) (g grad : Cplx) : Cplx × Nat :=
  accCplx (g, 0) ⟨openRound (f 0) (grad.re - g.re) (2 ^ sh), openRound (f 1) (grad.im - g.im) (2 ^ sh)⟩

/-- One part of a tap after an update (R120): (1 − lambda) w + (m / p) grad, in units of 2^-19; lambda is lm × 2^-ls, m is mm × 2^-ms, and p is
pn × 2^-(30 + ds). -/
def tapPart (f : BitVec 64) (w grad lm : Int) (ls : Nat) (mm : Int) (ms pn ds : Nat) : Int :=
  openRound f (w * (2 ^ ls - lm) * 2 ^ ms * pn + mm * grad * 2 ^ ds * 2 ^ ls) (2 ^ ls * 2 ^ ms * pn)

/-- A tap part held within ±1 (R122). -/
def tapHold (x : Int) : Int := clampI (-(2 ^ 19)) (2 ^ 19 - 1) x

/-- A tap of a subband under its regressor, with its gradient and its place in the subband's list. -/
structure TapGrad where
  pos : TapPos
  u : Cplx
  grad : Cplx
  ix : Nat
deriving DecidableEq, Repr

/-- The gradients of a subband sample of error e (R120). -/
def State.tapGrads (s : State) (n k : Nat) (e : Cplx) : List TapGrad :=
  (s.tapsOf n k).zipIdx.map fun x => ⟨x.1, s.regressor n k x.1, e.mul (s.regressor n k x.1).conj, x.2⟩

/-- The free value of a place in this sample's list. -/
def State.freeAt (s : State) (j : Nat) : BitVec 64 := Config.freeValue (s.free + j)

/-- The monitor correlators of a subband after a sample, and the holds of their sums (R120). -/
def State.gmUpdate (s : State) (sh : Nat) (l : List TapGrad) : List (Nat × Cplx) × Nat :=
  l.foldl (fun t x =>
    let g := gmNext (fun b => s.freeAt (4 * x.ix + b)) sh (Tbl.get (fun _ => {}) t.1 x.pos.key) x.grad
    (Tbl.set (fun _ => {}) t.1 x.pos.key g.1, t.2 + g.2)) (s.can.gm, 0)

/-- The mean regressor power per tap of each reference, averaged as gm is, and the holds of its sums (R129). -/
def State.puUpdate (s : State) (n k sh : Nat) (l : List TapGrad) : List (Nat × Int) × Nat :=
  (s.enabledRefs n).foldl (fun t r =>
    let mine := (l.filter fun x => decide (x.pos.ref = r)).map fun x => x.u.norm2
    if mine.isEmpty then t
    else
      let old := Tbl.get (fun _ => 0) t.1 (rkKey n k r)
      let sum := accSum mine
      let new := accAdd (old, sum.2) (openRound (s.freeAt (4 * l.length + r)) (sum.1 - old * mine.length) (mine.length * 2 ^ sh))
      (Tbl.set (fun _ => 0) t.1 (rkKey n k r) new.1, t.2 + new.2)) (s.can.pu, 0)

/-- The taps of a subband take their updates: (1 − lambda) w + (m / p) grad, p in units of 2^-(30 + S of delta) (R120, R122). -/
def State.tapUpdate (s : State) (n pn : Nat) (l : List TapGrad) : State :=
  let lm := s.fgetI CAN_LEAK_M.M n
  let ls := s.fget CAN_LEAK_S.S n
  let mm := s.fgetI CAN_MU_M.M n
  let ms := s.fget CAN_MU_S.S n + (if s.canState n = canPROBE then 4 else 0)
  let ds := s.fget CAN_DELTA_S.S n
  l.foldl (fun t x =>
    let w := Tbl.get (fun _ => {}) t.can.taps x.pos.key
    let re := tapPart (s.freeAt (4 * x.ix + 2)) w.re x.grad.re lm ls mm ms pn ds
    let im := tapPart (s.freeAt (4 * x.ix + 3)) w.im x.grad.im lm ls mm ms pn ds
    let t := { t with can := { t.can with taps := Tbl.set (fun _ => {}) t.can.taps x.pos.key ⟨tapHold re, tapHold im⟩ } }
    t.saturateN pgCAN ((if tapHold re = re then 0 else 1) + (if tapHold im = im then 0 else 1))) s

/-! What an isolation window gathers (R126). -/

/-- A correlated sample of a reference: its receive power and its probe power enter the 64-bit sums, whose holds are counted (R13). DEDUCED
(log 184): the probe's power is that of the sample at lag zero. -/
def IsoAcc.take (a : IsoAcc) (pd pp : Nat) : IsoAcc × Nat :=
  let d := accAdd (a.pd, 0) pd
  let p := accAdd (a.pSum, d.2) pp
  ({ a with n := a.n + 1, pd := d.1.toNat, pSum := p.1.toNat, pLow := if a.n = 0 then pp else min a.pLow pp }, p.2)

/-- A subband sample of an isolation window: on every fourth one, the uncancelled sample is correlated with the probe at every tap lag (R126). -/
def State.isoGather (s : State) (n k : Nat) (d : Cplx) (l : List TapGrad) : State :=
  if !s.fon CAN_STAT.ISO_BUSY n then s else
  let count (t : State) (r : Nat) : State :=
    let a := Tbl.get (fun _ => {}) t.can.isoAcc (rkKey n k r)
    let b := if a.seen % 4 = 0 then a.take d.norm2.toNat (lagOf t.can.probe (rkKey n k r) 0).norm2.toNat else (a, 0)
    ({ t with can := { t.can with isoAcc := Tbl.set (fun _ => {}) t.can.isoAcc (rkKey n k r) { b.1 with seen := a.seen + 1 } } }).saturateN pgCAN b.2
  let due (r : Nat) : Bool := decide ((Tbl.get (fun _ => ({} : IsoAcc)) s.can.isoAcc (rkKey n k r)).seen % 4 = 0)
  let raw := (l.filter fun x => due x.pos.ref).foldl (fun t x =>
    let c := accCplx (Tbl.get (fun _ => {}) t.1 x.pos.key, t.2) (d.mul x.u.conj)
    (Tbl.set (fun _ => {}) t.1 x.pos.key c.1, c.2)) (s.can.raw, 0)
  (s.enabledRefs n).foldl count (({ s with can := { s.can with raw := raw.1 } }).saturateN pgCAN raw.2)

/-- One subband sample of an instance: estimate, error, correlators, and in RUN and PROBE the taps (R120, R122). DESIGN CHOICE (log 208): the
rule of 64 bits (R13) names no unit, which decides when a sum holds; the estimate counts 2^-34, gm 2^-49, p and pu 2^-30. -/
def State.adapt (s : State) (n k : Nat) (d : Int × Int) (refs : List RefIn) : State :=
  let s := (s.probeTick n k).pushSamples n k refs
  let full := decide (Tbl.get (fun _ => 0) s.can.refill (64 * n + k) = 0)
  let s := s.refillStep n k
  let e := s.subbandError n k d (s.tapsOf n k)
  let l := s.tapGrads n k e.1
  let sh := s.fget CAN_MON_X.MON_SHIFT n
  let dm := s.fget CAN_DELTA_M.M n
  let p := accSum (l.map fun x => x.u.norm2)
  let pn := dm * 2 ^ 30 + 2 ^ s.fget CAN_DELTA_S.S n * p.1.toNat
  let gm := s.gmUpdate sh l
  let pu := s.puUpdate n k sh l
  let updates := full && decide (s.canState n = canRUN ∨ s.canState n = canPROBE) && decide (16 * (dm * 2 ^ 30) ≤ pn)
  let t := (s.isoGather n k ⟨d.1, d.2⟩ l).saturateN pgCAN (e.2 + p.2 + gm.2 + pu.2)
  let t := { t with can := { t.can with gm := gm.1, pu := pu.1, starved := Tbl.set (fun _ => false) t.can.starved (64 * n + k) (!updates) } }
  let t := if updates then t.tapUpdate n pn l else t
  { t with free := t.free + 4 * l.length + 4 }

/-- A parity error met as the tap map is read drives F98, the canceller's configuration fault source (R122). -/
def State.mapParity (s : State) (bad : Bool) : State := if bad then s.drive 98 true else s

/-- The canceller of a subband runs: the instance and the subband exist, and the block runs (R14, R37, R116). -/
def State.canSample (s : State) (n k : Nat) : Bool := s.works pgCAN && s.member.present n && decide (k < s.subbands n)

/-- SUBBAND_ADAPT: a subband sample of an instance; its monitor correlators run in every state (R120). `mapBad`: the map as it is read
has a parity error. -/
def execSubbandAdapt (inst : Fin 32) (sb : Fin 64) (d : Int × Int) (refs : List RefIn) (mapBad : Bool) (s : State) :
    Host.Outcome State Fault Refusal :=
  .next (if s.canSample inst.val sb.val then (s.adapt inst.val sb.val d refs).mapParity mapBad else s)

/-! Isolation windows (R126, R127). -/

/-- The stored isolation of a reference in a subband; ASSUMED until a window covers it (R126). -/
def State.isoOf (s : State) (n k r : Nat) : IsoEntry :=
  match Tbl.get (fun _ => none) s.can.iso (rkKey n k r) with
  | some e => e
  | none => ⟨s.fgetI CAN_ISO_ASSUMED.ISO_ASSUMED n, 0, 2⟩

/-- What a window measured of a reference in a subband (R126): c_raw and c_res in units of 2^-40, and the threshold as a quotient of powers. -/
structure IsoPair where
  cRaw : Nat
  cRes : Nat
  num : Nat
  den : Nat
deriving DecidableEq, Repr

/-- What a window says of a reference whose ports' chain gains sum to `base` (R126): the new entry. -/
def IsoPair.result (p : IsoPair) (base : Int) : IsoEntry :=
  let atLeast (c : Nat) : Bool := decide (p.num * linOne ≤ c * p.den)
  if atLeast p.cRaw then
    let iso := base - (linToDb p.cRaw linOne).getD 0
    let canc := if atLeast p.cRes then (linToDb p.cRaw p.cRes).getD 0 else (linToDb (p.cRaw * p.den) (p.num * linOne)).getD 0
    ⟨dbField iso, dbField canc, 0⟩
  else ⟨dbField (base - (linToDb p.num p.den).getD 0), 0, 1⟩

/-- The taps of a reference in a subband. -/
def State.refTaps (s : State) (n k r : Nat) : List TapPos := (s.tapsOf n k).filter fun p => decide (p.ref = r)

/-- The sum of |gm|^2 over the taps of a reference in a subband, in units of 2^-98. -/
def State.gmSum (s : State) (n k r : Nat) : Nat :=
  ((s.refTaps n k r).map fun p => ((Tbl.get (fun _ => ({} : Cplx)) s.can.gm p.key).norm2).toNat).sum

/-- The sum of the squares of the raw correlators of a reference in a subband, in units of 2^-60. -/
def State.rawSum (s : State) (n k r : Nat) : Nat :=
  ((s.refTaps n k r).map fun p => ((Tbl.get (fun _ => ({} : Cplx)) s.can.raw p.key).norm2).toNat).sum

/-- What the window that ends measured of a reference in a subband; none without receive power or probe power (R126). DEDUCED (log 184): a
coupling energy is the sum of the squared correlators of its taps over the squared regressor power, as R129 has it. -/
def State.isoPair (s : State) (n k r : Nat) : Option IsoPair :=
  let a : IsoAcc := Tbl.get (fun _ => {}) s.can.isoAcc (rkKey n k r)
  let pu := (Tbl.get (fun _ => 0) s.can.pu (rkKey n k r)).toNat
  if a.n = 0 ∨ a.pd = 0 ∨ a.pLow = 0 then none
  else some ⟨s.rawSum n k r * linOne / (a.pSum * a.pSum), if pu = 0 then 0 else 4 * s.gmSum n k r / (pu * pu), 16 * a.pd, a.n * a.n * a.pLow⟩

/-- The window's result for a reference in a subband (R126). -/
def State.isoResult (s : State) (n k r : Nat) : Option IsoEntry :=
  (s.isoPair n k r).map fun p => p.result (s.txc (s.fget (CAN_REF.STREAM r) n) + s.rxc n)

/-- A window's result for a reference in a subband replaces the stored one (R126): a measured value always, a bound when it raises it or it was
assumed. -/
def State.isoStore (s : State) (n k r : Nat) : State :=
  match s.isoResult n k r with
  | none => s
  | some e =>
    let old := s.isoOf n k r
    if e.src = 0 ∨ old.iso < e.iso ∨ old.src = 2 then
      { s with can := { s.can with iso := Tbl.set (fun _ => none) s.can.iso (rkKey n k r) (some e) } }
    else s

/-- The pairs that a window of an instance covers: its active subbands and its enabled references. -/
def State.isoCovered (s : State) (n : Nat) : List (Nat × Nat) :=
  (s.activeSbs n).flatMap fun k => (s.enabledRefs n).map fun r => (k, r)

/-- The results of a window are stored, and its events rise (R126). -/
def State.isoFinish (s : State) (n : Nat) : State :=
  let results := (s.isoCovered n).filterMap fun x => s.isoResult n x.1 x.2
  let t := (s.isoCovered n).foldl (fun t x => t.isoStore n x.1 x.2) s
  let t := if results.isEmpty then t else t.pulse pgCAN 0
  if results.any fun e => decide (e.src = 1) then t.pulse pgCAN 6 else t

/-- ISO_WINDOW_START: a held request starts its window when none runs (R127). Requests that need not wait start it where they are made. -/
def execIsoWindowStart (inst : Fin 32) (s : State) : Host.Outcome State Fault Refusal :=
  .next (if (s.canRt inst.val).isoHeld && s.isoReady inst.val then s.isoStart inst.val else s)

/-- ISO_PERIOD_EXPIRED: ISO_PERIOD_S seconds have passed (R127). -/
def execIsoPeriodExpired (inst : Fin 32) (s : State) : Host.Outcome State Fault Refusal :=
  .next (
    let n := inst.val
    let p := s.fget CAN_PROBE.ISO_PERIOD_S n
    if decide (0 < p) && s.timerDue tmIsoPeriod n s.sec_ p then (s.timerStart tmIsoPeriod n s.sec_).isoRequest n else s)

/-! The fast clamp (R131 to R133). -/

/-- The fields of a transmit stream's clamp. -/
def clampStateFld (t : Nat) : Fld := if t % 2 = 0 then LIM_CLAMP_STAT.STATE_EVEN else LIM_CLAMP_STAT.STATE_ODD
def clampDepthFld (t : Nat) : Fld := if t % 2 = 0 then LIM_CLAMP_STAT.DEPTH_EVEN else LIM_CLAMP_STAT.DEPTH_ODD

def State.clampState (s : State) (t : Nat) : Nat := s.fget (clampStateFld t) ((t - 32) / 2)

/-- Device time ticks of microseconds, rounded up. -/
def ticksOfUs (us : Nat) : Nat := ceilDiv (us * 6144) 25

/-- The phase of a clamp. -/
def State.clampPhase (s : State) (t : Nat) : ClampPhase := Tbl.get (fun _ => {}) s.can.phase t

/-- The depth of a clamp at a device time, as a magnitude in 1/64 dB (R133). -/
def State.clampDepth (s : State) (t : Nat) : Nat :=
  let d := s.fget (clampDepthFld t) ((t - 32) / 2)
  let p := s.clampPhase t
  if s.clampState t = 2 then d - (s.dt - p.start) * 25 * p.param / 6144 else d

/-- A clamp enters a state at a depth. Its timer is set to the HOLD_US of that moment; DESIGN CHOICE (log 220): so is RELEASE_RATE for a release. -/
def State.setClamp (s : State) (t st depth : Nat) : State :=
  let s := (s.fset (clampStateFld t) ((t - 32) / 2) st).fset (clampDepthFld t) ((t - 32) / 2) depth
  let param := if st = 1 then s.fget LIM_CLAMP_TIME.HOLD_US 0 else if st = 2 then s.fget LIM_CLAMP_TIME.RELEASE_RATE 0 else 0
  { s with can := { s.can with phase := Tbl.set (fun _ => {}) s.can.phase t (if st = 0 then {} else ⟨depth, s.dt, param⟩) } }

/-- The magnitudes of CLAMP_ATTEN and CLAMP_FLOOR. -/
def State.clampAtten (s : State) : Nat := (-s.fgetI LIM_CLAMP_CFG.CLAMP_ATTEN 0).toNat
def State.clampFloor (s : State) : Nat := (-s.fgetI LIM_CLAMP_CFG.CLAMP_FLOOR 0).toNat

/-- The clamp's answer to an onset trigger (R133). -/
def State.clampTrigger (s : State) (t : Nat) : State :=
  let depth := if s.clampState t = 0 then s.clampAtten else min (s.clampDepth t + s.clampAtten) s.clampFloor
  (s.fbump LIM_CLAMP_COUNT.COUNT 0).setClamp t 1 depth

/-- CLAMP_HOLD_EXPIRED: the hold of a transmit stream's clamp ends; the stream is 32 plus the operand (R133). -/
def execClampHoldExpired (stream : Fin 32) (s : State) : Host.Outcome State Fault Refusal :=
  .next (
    let t := 32 + stream.val
    if s.clampState t = 1 then
      let p := s.clampPhase t
      let s := s.advanceTo (p.start + ticksOfUs p.param)
      s.setClamp t 2 (s.fget (clampDepthFld t) ((t - 32) / 2))
    else s)

/-- CLAMP_RELEASE_DONE: the depth reaches 0 dB (R133). -/
def execClampReleaseDone (stream : Fin 32) (s : State) : Host.Outcome State Fault Refusal :=
  .next (
    let t := 32 + stream.val
    if s.clampState t = 2 then
      let p := s.clampPhase t
      let s := s.advanceTo (p.start + ceilDiv (p.depth * 6144) (25 * max 1 p.param))
      s.setClamp t 0 0
    else s)

/-! Self-test (R134, R135). -/

/-- DETAIL and RESULT of the CAN page's self-test. -/
def State.setSelftest (s : State) (inst result code : Nat) : State :=
  ((s.fset SELFTEST.RESULT pgCAN result).fset SELFTEST.DETAIL pgCAN (inst * 256 + code))

/-- The self-test of the CAN page ends with a result: the instance returns to its state (R134). -/
def State.selftestStop (s : State) (result code : Nat) : State :=
  match s.can.selftest with
  | none => s
  | some (n, st) =>
    let s := { s with can := { s.can with selftest := none, heldPermit := [] } }
    let s := (s.fset SELFTEST.BUSY pgCAN 0).fset PAGE_STAT.SELFTEST_ACTIVE pgCAN 0
    let s := ((s.enterCan n st).timerStop tmCanTest n).setSelftest n result code
    if s.canLinksUp n then s else s.linkFreeze n

/-- What an onset trigger on a transmit stream does in the canceller and the clamp (R132, R133, R135, R127). -/
def State.onsetClamp (s : State) (t : Nat) : State :=
  let s := (s.fset CAN_ONSET_LAST.STREAM 0 t).fset CAN_ONSET_DT_LO.DT 0 (s.dt % 2 ^ 32)
  let s := (s.pulse pgCAN 3).clampTrigger t
  let s :=
    match s.can.selftest with
    | some (n, _) => if s.covers n t then s.selftestStop 3 0x10 else s
    | none => s
  (List.range 32).foldl (fun s n => if s.covers n t then s.isoRequest n else s) s

end Sys2Proof.Machine
end

