-- ==== Sys2Proof/Machine/Reg.lean ====
section
/-!
DEFINITION. Chapter 9, first part: the regulatory set and its coverage (R229, R230), and which contexts a Foxglove slot holds (R238, R241).
-/
namespace Sys2Proof.Machine

/-! The regulatory set (R229). -/

/-- An entry of a regulatory set. -/
structure RegEntry where
  valid : Bool
  dl : Bool
  ul : Bool
  tdd : Bool
  boostOk : Bool
  chCount : Nat
  low : Nat
  high : Nat
  maxGain : Int
  portMax : Int
  aggMax : Int
  noiseLim : Int
  duty : Nat
  dutyWin : Nat
  /-- the listed channels: centre in kHz, width in kHz -/
  channels : List (Nat × Nat)
  /-- every reserved bit and byte is 0 -/
  reservedZero : Bool
deriving DecidableEq, Repr

/-- A byte of an entry, by its words (R251: most significant byte first). -/
def regByte (t : List (Nat × Word)) (e b : Nat) : Nat :=
  (Tbl.get (fun _ => (0 : Word)) t (16 * e + b / 4)).toNat / 256 ^ (3 - b % 4) % 256

/-- Bytes of an entry as one number. -/
def regBE (t : List (Nat × Word)) (e b : Nat) : Nat → Nat
  | 0 => 0
  | n + 1 => regBE t e b n * 256 + regByte t e (b + n)

/-- A power or gain field of an entry. -/
def regDb (t : List (Nat × Word)) (e b : Nat) : Int := toSigned (regBE t e b 2) 65536

/-- Entry e of a set (R229). -/
def regEntry (t : List (Nat × Word)) (e : Nat) : RegEntry :=
  let f := regByte t e 0
  { valid := f.testBit 7, dl := f.testBit 6, ul := f.testBit 5, tdd := f.testBit 4, boostOk := f.testBit 3
    chCount := regByte t e 1
    low := regBE t e 2 3
    high := regBE t e 5 3
    maxGain := regDb t e 8
    portMax := regDb t e 10
    aggMax := regDb t e 12
    noiseLim := regDb t e 14
    duty := regBE t e 16 2
    dutyWin := regBE t e 18 2
    channels := (List.range (min (regByte t e 1) 8)).map fun i => (regBE t e (24 + 5 * i) 3, 100 * regBE t e (27 + 5 * i) 2)
    reservedZero := decide (f % 8 = 0 ∧ regBE t e 20 4 = 0) }

/-- No limit in a power field of an entry. -/
def noLimit : Int := 0x7FFF

/-- A range of kHz holds a carrier of a centre and a width (R230), compared at half kHz. -/
def holdsCarrier (low2 high2 : Int) (centre bw : Nat) : Bool :=
  decide (low2 ≤ 2 * (centre : Int) - bw ∧ 2 * (centre : Int) + bw ≤ high2)

/-- An entry covers a carrier of a direction (R230). -/
def RegEntry.covers (r : RegEntry) (uplink : Bool) (centre bw : Nat) : Bool :=
  r.valid && (if uplink then r.ul else r.dl) && holdsCarrier (2 * r.low) (2 * r.high) centre bw &&
    (decide (r.chCount = 0) || r.channels.any fun c => holdsCarrier (2 * (c.1 : Int) - c.2) (2 * (c.1 : Int) + c.2) centre bw)

/-- An entry of the set in force. -/
def State.entryOf (s : State) (e : Nat) : RegEntry := regEntry s.npr.regset e

/-! Contexts. -/

def ctxFREE : Nat := 0
def ctxCONFIGURED : Nat := 1
def ctxRAMPING : Nat := 2
def ctxACTIVE : Nat := 3
def ctxHELD : Nat := 4
def ctxMUTED : Nat := 5
def ctxDRAINING : Nat := 6

/-- State of a context. -/
def State.ctxState (s : State) (c : Nat) : Nat := s.cget CTX_CTRL.STATE c

/-- The path of a context. -/
def State.ctxPath (s : State) (c : Nat) : Nat := s.cget CTX_CTRL.PATH c

/-- The contexts that are not FREE, ascending. -/
def State.liveCtxs (s : State) : List Nat :=
  s.ctx.filterMap fun e => if e.1 % 64 = 0 ∧ bitsOf e.2 28 26 ≠ ctxFREE then some (e.1 / 64) else none

/-- The contexts of a path that are not FREE. -/
def State.ctxsOfPath (s : State) (p : Nat) : List Nat := s.liveCtxs.filter fun c => decide (s.ctxPath c = p)

/-- The transmit streams that a context's path writes. -/
def State.ctxDests (s : State) (c : Nat) : List Nat := s.writesOf (s.ctxPath c)

/-- The entry that covers a context now: the lowest-indexed, when a set is in force (R230). -/
def State.coverNow (s : State) (c : Nat) : Option Nat :=
  if s.fon LIM_REG_STAT.VALID 0 then
    (List.range 64).find? fun e => (s.entryOf e).covers (isUplink (s.ctxPath c)) (s.cget CTX_FREQ.CENTRE_KHZ c) (s.cget CTX_BW.BW_KHZ c)
  else none

/-- The covering entry that word 26 shows. -/
def State.coverOf (s : State) (c : Nat) : Option Nat :=
  let e := s.cget CTX_BUDGET_STAT.ENTRY c
  if e < 64 then some e else none

/-- Word 26 takes the covering entry. -/
def State.setCover (s : State) (c : Nat) (e : Option Nat) : State := s.cset CTX_BUDGET_STAT.ENTRY c (e.getD 0x7F)

/-! What a Foxglove slot holds (R238, R241). -/

def foxIDLE : Nat := 0
def foxSTOPPING : Nat := 1
def foxSTOPPED : Nat := 2
def foxBACKOFF : Nat := 3
def foxRETRYING : Nat := 4
def foxLATCHED : Nat := 5

def State.foxState (s : State) (k : Nat) : Nat := s.fget NPR_FOX_STAT.STATE k

/-- Behind a slot's registers. -/
def State.foxRt (s : State) (k : Nat) : FoxRt := Tbl.get (fun _ => {}) s.npr.fox k

def State.setFoxRt (s : State) (k : Nat) (r : FoxRt) : State := { s with npr := { s.npr with fox := Tbl.set (fun _ => {}) s.npr.fox k r } }

/-- A slot's scope holds a path, itself or through a stream that the path writes. -/
def State.foxHoldsPath (s : State) (k p : Nat) : Bool :=
  s.fbit NPR_FOX_PATHS.PATHS k p || (s.writesOf p).any fun t => s.fbit NPR_FOX_STREAMS.STREAMS k (t - 32)

/-- A slot's scope holds a context: through its path, or because a domain of the scope owns it (code 6). -/
def State.foxHolds (s : State) (k c : Nat) : Bool :=
  s.foxHoldsPath k (s.ctxPath c) || (decide (s.cget CTX_OWNER.OWNER c < 16) && (s.foxRt k).doms.testBit (s.cget CTX_OWNER.OWNER c))

/-- Some slot that is not IDLE holds the context (R78). -/
def State.foxBusyOn (s : State) (c : Nat) : Bool :=
  (List.range 16).any fun k => decide (s.foxState k ≠ foxIDLE) && s.foxHolds k c

/-- A slot has lifted its mute of a path's contexts (R245). -/
def FoxRt.lifted (r : FoxRt) (p : Nat) : Bool := !r.muting || (r.lifting && !r.releasing.testBit p)

/-- Some slot still mutes the context: it holds it and has not lifted its mutes (R241, R245). -/
def State.foxMutes (s : State) (c : Nat) : Bool :=
  (List.range 16).any fun k => !(s.foxRt k).lifted (s.ctxPath c) && s.foxHolds k c

/-- A slot mutes a path as a whole. -/
def State.foxMutesPath (s : State) (k p : Nat) : Bool := !(s.foxRt k).lifted p && s.fbit NPR_FOX_PATHS.PATHS k p

/-- A slot mutes a transmit stream: until the mute of every path that writes it has lifted. -/
def State.foxMutesStream (s : State) (k n : Nat) : Bool :=
  (s.foxRt k).muting && s.fbit NPR_FOX_STREAMS.STREAMS k n &&
    (!(s.foxRt k).lifting || (s.paths.filter fun p => (s.writesOf p).contains (32 + n)).any fun p => (s.foxRt k).releasing.testBit p)

end Sys2Proof.Machine
end

