-- ==== Sys2Proof/Machine/Ctx.lean ====
section
/-!
DEFINITION. Chapters 3 and 6: the state machine of a channel context, its commands, soft start and draining (R73 to R79, R158 to R161).
-/
namespace Sys2Proof.Machine

/-! Behind a context. -/

/-- Behind a context's words. -/
def State.ctxRt (s : State) (c : Nat) : CtxRt := Tbl.get (fun _ => {}) s.cen.ctxs c

def State.setCtxRt (s : State) (c : Nat) (r : CtxRt) : State := { s with cen := { s.cen with ctxs := Tbl.set (fun _ => {}) s.cen.ctxs c r } }

/-- Units of 2^-16 dB in 1/64 dB. -/
def gainUnit : Int := 1024

/-- A gain shown in 1/64 dB: rounded (R515) and held to the range of the field (R8). -/
def shownGain (g : Int) : Int := dbField (roundDiv g 1024)

/-- The number of contexts that run (R173). -/
def ctxRuns (st : Nat) : Bool := decide (st = ctxRAMPING ∨ st = ctxACTIVE ∨ st = ctxHELD)

/-- CEN_STAT.RUNNING follows a change of state. -/
def State.countRunning (s : State) (old new : Nat) : State :=
  let n := s.fget CEN_STAT.RUNNING 0 + (if ctxRuns new then 1 else 0) - (if ctxRuns old then 1 else 0)
  s.fset CEN_STAT.RUNNING 0 n

/-- A context enters a state (R71, R76): the transition is counted and timed, MUTED and DRAINING drop the measured gain and the noise estimate (R146; DEDUCED, log 193), CONFIGURED
and FREE empty MUTE_SET (R78). -/
def State.setCtxState (s : State) (c st : Nat) : State :=
  let old := s.ctxState c
  let s := ((s.cset CTX_CTRL.STATE c st).cbump CTX_STATUS.TRANSITIONS c).cset CTX_STATE_TIME.DT c (s.dt % 2 ^ 32)
  let s := s.countRunning old st
  if st = ctxMUTED ∨ st = ctxDRAINING then
    let t := (s.csetI CTX_MEAS_GAIN.MEAS_GAIN c noValue).setCtxRt c { s.ctxRt c with meas := none, noise := 0, noiseRows := 0, noiseOver := 0 }
    if isUplink (s.ctxPath c) then t.csetI CW47.NOISE_MEAS c noValue else t
  else if st = ctxCONFIGURED ∨ st = ctxFREE then
    ((s.cset CTX_STATUS.MUTE_SET c 0).cset CTX_STATUS.MUTE_CAUSE c 0).setCtxRt c { s.ctxRt c with raised := 0, cleared := 0 }
  else s

/-- The lowest cause of a set of causes, bit k − 1 for cause k; 0 when it is empty (R78). -/
def lowestCause (set : Nat) : Nat := ((List.range 5).find? fun k => set.testBit k).elim 0 (· + 1)

/-- MUTE_SET takes a value, and MUTE_CAUSE follows (R78). -/
def State.setMutes (s : State) (c set : Nat) : State :=
  (s.cset CTX_STATUS.MUTE_SET c set).cset CTX_STATUS.MUTE_CAUSE c (lowestCause set)

/-- The set of a context's mute causes. -/
def State.muteSet (s : State) (c : Nat) : Nat := s.cget CTX_STATUS.MUTE_SET c

/-- A mute cause stands. -/
def State.mutedFor (s : State) (c cause : Nat) : Bool := (s.muteSet c).testBit (cause - 1)

/-- A state in which a mute cause enters the set (R78, R79). -/
def takesMute (st : Nat) : Bool := ctxRuns st || decide (st = ctxMUTED ∨ st = ctxDRAINING)

/-- A mute of a cause reaches a context (R76, R78): the cause enters the set, and a running context goes to MUTED. -/
def State.muteAdd (s : State) (c cause : Nat) : State :=
  if takesMute (s.ctxState c) then
    let t := s.setMutes c (s.muteSet c ||| 2 ^ (cause - 1))
    if ctxRuns (s.ctxState c) then t.setCtxState c ctxMUTED else t
  else s

/-- Where a soft start begins (R158): at the measured gain, or at START_FLOOR without one. -/
def State.softFrom (s : State) (c : Nat) : Int :=
  if s.cgetI CTX_MEAS_GAIN.MEAS_GAIN c = noValue then s.cgetI CTX_LOOP_CTRL.START_FLOOR c * gainUnit
  else (s.ctxRt c).meas.getD (s.cgetI CTX_MEAS_GAIN.MEAS_GAIN c * gainUnit)

/-- Soft start (R158): from the measured gain, or START_FLOOR; from RAMPING and ACTIVE never above the gain reached. -/
def State.softStart (s : State) (c : Nat) : State :=
  let r := s.ctxRt c
  let from_ := s.softFrom c
  let st := s.ctxState c
  let g := if st = ctxRAMPING ∨ st = ctxACTIVE then min from_ r.gain else from_
  let t := s.setCtxRt c { r with gain := g }
  if st = ctxRAMPING then t else t.setCtxState c ctxRAMPING

/-- A mute cause leaves a context's set; a MUTED context whose set is then empty starts softly (R76, R78). -/
def State.muteRemove (s : State) (c cause : Nat) : State :=
  if s.mutedFor c cause then
    let t := s.setMutes c (s.muteSet c - 2 ^ (cause - 1))
    if s.ctxState c = ctxMUTED ∧ s.muteSet c = 2 ^ (cause - 1) then t.softStart c else t
  else s

/-- A protection mute cause is raised for a context's next tick (R144 step 1). -/
def State.raiseMute (s : State) (c cause : Nat) : State :=
  let r := s.ctxRt c
  s.setCtxRt c { r with raised := r.raised ||| 2 ^ cause, cleared := r.cleared - (r.cleared &&& 2 ^ cause) }

/-- A protection mute cause is cleared at a context's next tick. -/
def State.clearMute (s : State) (c cause : Nat) : State :=
  let r := s.ctxRt c
  s.setCtxRt c { r with cleared := r.cleared ||| 2 ^ cause, raised := r.raised - (r.raised &&& 2 ^ cause) }

/-! Tick pool (R92). -/

/-- The FREE field of a rate's pool. -/
def poolFreeFld (tick : Nat) : Fld :=
  match tick with
  | 0 => SCH_POOL48.FREE
  | 1 => SCH_POOL12.FREE
  | 2 => SCH_POOL24.FREE
  | _ => SCH_POOL96.FREE

def poolTotalFld (tick : Nat) : Fld :=
  match tick with
  | 0 => SCH_POOL48.TOTAL
  | 1 => SCH_POOL12.TOTAL
  | 2 => SCH_POOL24.TOTAL
  | _ => SCH_POOL96.TOTAL

/-- Tick rate of a TICK code, in kHz (R71). -/
def tickKhz (tick : Nat) : Nat :=
  match tick with
  | 0 => 48
  | 1 => 12
  | 2 => 24
  | _ => 96

/-- Device time ticks between two ticks of a rate (R91). -/
def tickSpacing (tick : Nat) : Nat := 245760 / tickKhz tick

/-- The entries of a rate's pool that contexts hold. -/
def State.heldEntries (s : State) (tick : Nat) : List Nat :=
  s.cen.ctxs.filterMap fun e => match e.2.slot with | some (t, n) => if t = tick then some n else none | none => none

/-- The device time at which a datapath period begins, 51.2 ticks each (R86). -/
def periodStart (k : Nat) : Nat := k * 256 / 5

/-- The last tick before an instant of an entry whose evaluation slot lies `phase` datapath periods into each of its spacings (R91, R142). -/
def tickBefore (tick phase dt : Nat) : Nat :=
  let sp := tickSpacing tick
  let base := periodStart (phase % (sp * 5 / 256))
  base + (dt - 1 - base) / sp * sp

/-- A context is bound to an entry of a rate: its ticks fall on datapath period boundaries, one spacing apart, from now on (R91, R106, R142).
The slot words, and with them the entry's place in the period, are no part of the image's contract (R86): a free value (DESIGN CHOICE, log 179). -/
def State.bindEntry (s : State) (c tick e : Nat) : State :=
  (s.setCtxRt c { s.ctxRt c with slot := some (tick, e), lastTick := tickBefore tick s.freeVal.toNat s.dt }).tookFree

/-- Reserving the lowest free entry of a rate for a context (R92); none when the pool has no free entry. -/
def State.reserveSlot (s : State) (c tick : Nat) : Option State :=
  if s.fget (poolFreeFld tick) 0 = 0 then none
  else
    let held := s.heldEntries tick
    match (List.range (s.fget (poolTotalFld tick) 0)).find? fun e => !held.contains e with
    | none => none
    | some e =>
      let t := s.fset (poolFreeFld tick) 0 (s.fget (poolFreeFld tick) 0 - 1)
      some (t.bindEntry c tick e)

/-- Freeing a context's entry (R75, R92). -/
def State.freeSlot (s : State) (c : Nat) : State :=
  match (s.ctxRt c).slot with
  | none => s
  | some (tick, _) => (s.setCtxRt c { s.ctxRt c with slot := none }).fset (poolFreeFld tick) 0 (s.fget (poolFreeFld tick) 0 + 1)

/-! Checks (R75). -/

/-- Two carriers overlap: they share more than an edge. -/
def State.carriersOverlap (s : State) (a b : Nat) : Bool :=
  let ca : Int := s.cget CTX_FREQ.CENTRE_KHZ a
  let cb : Int := s.cget CTX_FREQ.CENTRE_KHZ b
  let w : Int := s.cget CTX_BW.BW_KHZ a + s.cget CTX_BW.BW_KHZ b
  decide (2 * (ca - cb) < w ∧ 2 * (cb - ca) < w)

/-- Two contexts share a path or a destination stream. -/
def State.sharesPath (s : State) (a b : Nat) : Bool :=
  decide (s.ctxPath a = s.ctxPath b) || (s.ctxDests a).any fun t => (s.ctxDests b).contains t

/-- The check of CONFIGURE and START (R75): the first failing code, or the state with the tick slot reserved. DESIGN CHOICE (log 213): the window
is the committed one, which a read shows (R64), not the one that the channeliser still applies. -/
def State.checkContext (s : State) (c : Nat) : Except Nat State :=
  let bw := s.cget CTX_BW.BW_KHZ c
  let centre := s.cget CTX_FREQ.CENTRE_KHZ c
  let w := s.winOf (s.ctxPath c) (s.cget CTX_CTRL.WINDOW c)
  let target := s.cgetI CTX_GAIN.TARGET_GAIN c
  if bw < 5000 then .error 5
  else if !w.en then .error 3
  else if !holdsCarrier (2 * w.low) (2 * w.high) centre bw then .error 3
  else if s.liveCtxs.any fun k => decide (k ≠ c) && s.sharesPath k c && s.carriersOverlap k c then .error 4
  else if target = noValue ∨ s.cgetI CTX_GAIN.MAX_GAIN c < target then .error 7
  else if (s.ctxRt c).slot.isSome then .ok s
  else
    match s.reserveSlot c (s.cget CTX_CTRL.TICK c) with
    | none => .error 6
    | some t => .ok t

/-! Derivations at CONFIGURE. -/

/-- KI1 and KI2 of word 13 (R167). -/
def State.deriveKi (s : State) (c : Nat) : State :=
  let f := tickKhz (s.cget CTX_CTRL.TICK c)
  let ki (tc : Nat) : Nat × Nat := if tc = 0 then (0, 31) else coefWords 1 (tc * f)
  let k1 := ki (s.cget CTX_LOOP_TC.L1_TC_MS c)
  let k2 := ki (s.cget CTX_LOOP_TC.L2_TC_MS c)
  (((s.cset CW32.KI1_M c k1.1).cset CW33.KI1_S c k1.2).cset CW34.KI2_M c k2.1).cset CW35.KI2_S c k2.2

/-- The bounds of i1 and i2 of word 15 (R167). -/
def State.deriveTrim (s : State) (c : Nat) : State :=
  (s.cset CW41.I1_MAX c (s.cget CTX_FE_TIME.TRIM_MAX c)).cset CW41.I2_MAX c (s.cget CTX_FE_TIME.TRIM_MAX c)

/-- Both derivations: CONFIGURE runs them together (R167). -/
def State.deriveLoops (s : State) (c : Nat) : State := (s.deriveKi c).deriveTrim c

/-- The grid origin of a path, in kHz (R175). -/
def State.gridOrigin (s : State) (p : Nat) : Int :=
  let donor := s.fget CHN_PATH_CFG.DONOR p
  (s.fget CHN_STREAM.FC_KHZ (if isUplink p then 32 + donor else donor) : Int) - 622080

/-- RB0 of a context, in half kHz, and the offset in use (R178). -/
def State.rb0 (s : State) (c : Nat) : Int × Nat :=
  let bw := s.cget CTX_BW.BW_KHZ c
  let o := s.cget CTX_RB0.RB0_OFFSET_KHZ c
  let off := if bw ≤ o + 360 then 0 else o
  (2 * (s.cget CTX_FREQ.CENTRE_KHZ c : Int) - bw + 2 * off, off)

/-- STRIP_FIRST of a context as a strip of the grid (R178): the grid has strips 0 to 3,455, and a code above them stands for a strip below the
grid's origin. -/
def State.stripFirst (s : State) (c : Nat) : Int :=
  let v := s.cget CTX_STRIPS.STRIP_FIRST c
  if v < 3456 then (v : Int) else (v : Int) - 4096

/-- The strips of a context (R178), shown in word 22. -/
def State.deriveStrips (s : State) (c : Nat) : State :=
  let r := s.rb0 c
  let first := (r.1 - 2 * s.gridOrigin (s.ctxPath c)) / 720
  (s.cset CTX_STRIPS.STRIP_FIRST c (ofSigned first 4096)).cset CTX_STRIPS.STRIP_COUNT c (ceilDiv (s.cget CTX_BW.BW_KHZ c - r.2) 360)

/-- hold[k] of every strip of a context becomes HOLD_ROWS (R196); only uplink paths have a noise gate. -/
def State.resetHolds (s : State) (c : Nat) : State :=
  let p := s.ctxPath c
  if !isUplink p then s else
  let g := Tbl.get (fun _ => {}) s.ggr.paths p
  let ks := ((List.range (s.cget CTX_STRIPS.STRIP_COUNT c)).map fun j : Nat => s.stripFirst c + (j : Int)).filter fun k => decide (0 ≤ k ∧ k < 3456)
  let hold := ks.foldl (fun t k => Tbl.set (fun _ => 0) t k.toNat (s.fget GGR_NGB.HOLD_ROWS (p - 16) + 1)) g.hold
  { s with ggr := { s.ggr with paths := Tbl.set (fun _ => {}) s.ggr.paths p { g with hold := hold } } }

/-- The strips of a context are derived (R178); DESIGN CHOICE (log 222): NG_EN that was set before starts their hold here (R196). -/
def State.configStrips (s : State) (c : Nat) : State :=
  let t := s.deriveStrips c
  if t.cget CTX_GRID.NG_EN c = 1 then t.resetHolds c else t

/-! Commands (R74, R76). -/

/-- CMD codes. -/
def cmdCONFIGURE : Nat := 1
def cmdSTART : Nat := 2
def cmdHOLD : Nat := 3
def cmdRESUME : Nat := 4
def cmdMUTE : Nat := 5
def cmdSTOP : Nat := 6
def cmdRELEASE : Nat := 7

/-- A command ends with a result; 2 and above raise CMD_REJECTED (R74). -/
def State.cmdResult (s : State) (c r : Nat) : State :=
  let t := s.cset CTX_CTRL.CMD_RESULT c r
  if 2 ≤ r then t.pulse pgCHN 0 else t

/-- CONFIGURE succeeds: derivations, counts since CONFIGURE, integrators (R75, R76, R161, R167, R178, R248). -/
def State.configured (s : State) (c : Nat) : State :=
  let t := if s.ctxState c = ctxCONFIGURED then s else s.setCtxState c ctxCONFIGURED
  let t := ((t.deriveLoops c).configStrips c).setCtxRt c { t.ctxRt c with i1 := 0, i2 := 0 }
  let t := (t.cset CW40.I1 c 0).cset CW40.I2 c 0
  let t := ((t.cset CTX_STATUS.TRANSITIONS c 0).cset CW51.CLAMPS c 0).cset CTX_FOX.SHUTDOWNS c 0
  (t.cset CTX_BUDGET_STAT.REFUSALS c 0).cmdResult c 0

/-- What a START that passes its checks does (R76, R78, R161, R230, R236): MUTED when cause 2 or 5 stands, else RAMPING with a soft start. -/
def State.started (s : State) (c : Nat) : State :=
  let cover := s.coverNow c
  let t := (s.setCover c cover).setCtxRt c { s.ctxRt c with i1 := 0, i2 := 0, lastG2 := none, lastG4 := none, noise := 0, noiseRows := 0,
                                                            noiseOver := 0, feTimer := 0, refused := false, held := false }
  let t := (t.cset CW40.I1 c 0).cset CW40.I2 c 0
  let set := (if s.foxBusyOn c then 2 else 0) + (if cover.isNone then 16 else 0)
  if set = 0 then (t.softStart c).cmdResult c 0
  else ((t.setCtxState c ctxMUTED).setMutes c set).cmdResult c 0

/-- L of R79, in device time ticks: the path's latency (in eighths of a nanosecond) and its added delay. -/
def State.pathLatency (s : State) (p : Nat) : Nat :=
  ceilDiv (s.fget CHN_PATH_STAT.LATENCY p * 96) 3125 + ceilDiv ((s.pathRt p).reached s.dt * 4) (25 * smpQ)

/-- A context enters DRAINING at its tick (R79). -/
def State.drain (s : State) (c : Nat) : State :=
  let t := s.setCtxState c ctxDRAINING
  t.setCtxRt c { t.ctxRt c with drainReq := false, drainStart := s.dt
                                drainEnd := s.dt + ticksOfUs (s.cget CTX_RAMP.DRAIN_US c) + s.pathLatency (s.ctxPath c) }

/-- RELEASE succeeds: the tick slot is freed and words 8 to 10 return to their reset values (R76). -/
def State.released_ (s : State) (c : Nat) : State :=
  let t := (s.freeSlot c).setCtxState c ctxFREE
  let t := (List.range 3).foldl (fun t w => t.setCword c (8 + w) (ctxReset (8 + w))) t
  t.cmdResult c 0

/-- A command acts on a context (R74 to R76). -/
def State.ctxCommand (s : State) (c cmd : Nat) : State :=
  let st := s.ctxState c
  let s := s.setCtxRt c { s.ctxRt c with cmd := 0 }
  if cmd = cmdCONFIGURE then
    if st = ctxFREE ∨ st = ctxCONFIGURED then
      match s.checkContext c with
      | .error r => s.cmdResult c r
      | .ok t => t.configured c
    else s.cmdResult c 2
  else if cmd = cmdSTART then
    if st ≠ ctxCONFIGURED then s.cmdResult c 2
    else if s.pathState (s.ctxPath c) ≠ pathON then s.cmdResult c 8
    else
      match s.checkContext c with
      | .error r => s.cmdResult c r
      | .ok t => t.started c
  else if cmd = cmdHOLD then
    if st = ctxRAMPING ∨ st = ctxACTIVE then (s.setCtxState c ctxHELD).cmdResult c 0 else s.cmdResult c 2
  else if cmd = cmdRESUME then
    if st = ctxHELD then (s.softStart c).cmdResult c 0
    else if st = ctxMUTED ∧ s.mutedFor c 1 then (s.muteRemove c 1).cmdResult c 0
    else s.cmdResult c 2
  else if cmd = cmdMUTE then
    if ctxRuns st ∨ st = ctxMUTED then (s.muteAdd c 1).cmdResult c 0 else s.cmdResult c 2
  else if cmd = cmdSTOP then
    if ctxRuns st ∨ st = ctxMUTED then (s.drain c).cmdResult c 0 else s.cmdResult c 2
  else
    if st = ctxCONFIGURED then s.released_ c else s.cmdResult c 2

/-- A CMD is written: it is held, and CMD_RESULT reads pending (R74). -/
def State.holdCmd (s : State) (c cmd : Nat) : State :=
  if cmd = 0 then s else (s.setCtxRt c { s.ctxRt c with cmd := cmd }).cset CTX_CTRL.CMD_RESULT c 1

/-- The command that a context holds acts, when it is the one named. -/
def State.actIfHeld (s : State) (c cmd : Nat) : State :=
  if c < s.member.contexts ∧ (s.ctxRt c).cmd = cmd then s.ctxCommand c cmd else s

/-- CTX_CONFIGURE: a held CONFIGURE acts (R75). -/
def execCtxConfigure (ctx : Fin 4096) (s : State) : Host.Outcome State Fault Refusal := .next (s.actIfHeld ctx.val cmdCONFIGURE)

/-- CTX_START: a held START acts (R75, R76, R78). -/
def execCtxStart (ctx : Fin 4096) (s : State) : Host.Outcome State Fault Refusal := .next (s.actIfHeld ctx.val cmdSTART)

/-- CTX_HOLD: a held HOLD acts (R76). -/
def execCtxHold (ctx : Fin 4096) (s : State) : Host.Outcome State Fault Refusal := .next (s.actIfHeld ctx.val cmdHOLD)

/-- CTX_RESUME: a held RESUME acts (R76). -/
def execCtxResume (ctx : Fin 4096) (s : State) : Host.Outcome State Fault Refusal := .next (s.actIfHeld ctx.val cmdRESUME)

/-- CTX_MUTE: a held MUTE acts (R76). -/
def execCtxMute (ctx : Fin 4096) (s : State) : Host.Outcome State Fault Refusal := .next (s.actIfHeld ctx.val cmdMUTE)

/-- CTX_STOP: a held STOP acts (R79). -/
def execCtxStop (ctx : Fin 4096) (s : State) : Host.Outcome State Fault Refusal := .next (s.actIfHeld ctx.val cmdSTOP)

/-- CTX_RELEASE: a held RELEASE acts (R76). -/
def execCtxRelease (ctx : Fin 4096) (s : State) : Host.Outcome State Fault Refusal := .next (s.actIfHeld ctx.val cmdRELEASE)

end Sys2Proof.Machine
end

