-- ==== Sys2Proof/Machine/FhOut.lean ====
section
/-!
DEFINITION. Chapter 11: the fronthaul sides and their lanes (R294), the bytes of the messages that the spec lays out (R11, R296, R308, R310), and a
frame that leaves. Side 0 is A and side 1 is B.
-/
namespace Sys2Proof.Machine

def sideEnFld (d : Nat) : Fld := if d = 0 then FHL_SIDEA_CFG.EN else FHL_SIDEB_CFG.EN
def sideRelayFld (d : Nat) : Fld := if d = 0 then FHL_SIDEA_CFG.RELAY_EN else FHL_SIDEB_CFG.RELAY_EN
def sidePreFld (d : Nat) : Fld := if d = 0 then FHL_SIDEA_CFG.PREEMPT_EN else FHL_SIDEB_CFG.PREEMPT_EN
def sideLanesFld (d : Nat) : Fld := if d = 0 then FHL_SIDEA_CFG.LANE_EN else FHL_SIDEB_CFG.LANE_EN
def sideUpFld (d : Nat) : Fld := if d = 0 then FHL_SIDEA_STAT.UP else FHL_SIDEB_STAT.UP
def sideOkFld (d : Nat) : Fld := if d = 0 then FHL_SIDEA_STAT.PREEMPT_OK else FHL_SIDEB_STAT.PREEMPT_OK
def sideHiberFld (d : Nat) : Fld := if d = 0 then FHL_SIDEA_STAT.HIBER else FHL_SIDEB_STAT.HIBER
def sideLaneUpFld (d : Nat) : Fld := if d = 0 then FHL_SIDEA_STAT.LANE_UP else FHL_SIDEB_STAT.LANE_UP
def sideFcsFld (d : Nat) : Fld := if d = 0 then FHL_FCS_CNT.SIDE_A else FHL_FCS_CNT.SIDE_B
def sideDiscFld (d : Nat) : Fld := if d = 0 then FHL_DISC_CNT.SIDE_A else FHL_DISC_CNT.SIDE_B

def State.sideUp (s : State) (d : Nat) : Bool := s.fon (sideUpFld d) 0

/-- The lanes of a side that are up, of those that the member has (R2). -/
def State.lanesUp (s : State) (d : Nat) : List Nat := (List.range s.member.lanesPerSide).filter fun l => s.fbit (sideLaneUpFld d) 0 l

/-! Payloads. -/

/-- Bits of a number from its most significant one. -/
def beBits : Nat → Nat → List Bool
  | 0, _ => []
  | n + 1, v => v.testBit n :: beBits n v

/-- The number of a list of bits, the most significant first. -/
def ofBits (b : List Bool) : Nat := b.foldl (fun a x => 2 * a + (if x then 1 else 0)) 0

/-- Bytes of a list of bits, the most significant first. -/
def bytesOfBits : Nat → List Bool → List Nat
  | 0, _ => []
  | n + 1, b => ofBits (b.take 8) :: bytesOfBits n (b.drop 8)

def byteOf (n : Nat) : Fin 256 := ⟨n % 256, Nat.mod_lt _ (by decide)⟩
def halfOf (n : Nat) : Fin 65536 := ⟨n % 65536, Nat.mod_lt _ (by decide)⟩

/-- The 37 bytes of a block (R296): the exponent, and the mantissas of 9 bits, most significant bit first. -/
def blockBytes (b : IqBlock) : List Nat := b.exp.val :: bytesOfBits 36 (b.mant.flatMap fun m => beBits 9 (ofSigned m 512))

/-- Mantissas of 9 bits. -/
def mantissas : Nat → List Bool → List Int
  | 0, _ => []
  | n + 1, b => toSigned (ofBits (b.take 9)) 512 :: mantissas n (b.drop 9)

/-- Blocks of 37 bytes. -/
def blocksOf : Nat → List Nat → List IqBlock
  | 0, _ => []
  | n + 1, l => ⟨byteOf (l.headD 0), mantissas 32 (((l.drop 1).take 36).flatMap fun b => beBits 8 b)⟩ :: blocksOf n (l.drop 37)

/-- A one-way delay measurement: identifier, action type, and a timestamp of seconds and nanoseconds with no compensation, as eCPRI lays it out
(PRESUMED, log 227). -/
def owdBytes (id action stamp : Nat) : List Nat :=
  [id, action] ++ beBytes 6 (stamp / 1000000000) ++ beBytes 4 (stamp % 1000000000) ++ List.replicate 8 0

/-- The payload of a message, multi-byte fields most significant byte first (R11): IQ data (R296), one-way delay measurement (R307), alignment
(R308), chain management (R310). PTP messages keep the layout of IEEE 1588, which the spec does not state. -/
def framePayload : FhFrame → List Nat
  | .iq pc q blocks => beBytes 2 pc.val ++ beBytes 2 q.val ++ blocks.flatMap blockBytes
  | .owdRequest id stamp => owdBytes id.val 0 stamp
  | .owdResponse id stamp => owdBytes id.val 2 stamp
  | .align v g h np _ acc target =>
    [v.val, g.val, h.val, if np then 128 else 0] ++ beBytes 4 acc.toNat ++ beBytes 2 target.toNat ++ List.replicate 6 0
  | .chain dest src hops _ pkt => beBytes 2 dest.val ++ beBytes 2 src.val ++ [hops.val, 0, 0, 0] ++ pkt.bytes.map fun x => x.val
  | .ecpri _ payload => payload.map fun x => x.val
  | .other _ | .concatenated | .badRevision | .ptp _ | .owdOther _ _ => []

/-- The message that the payload of an eCPRI message type carries; none where its length is none of that type's. -/
def decodeFrame (type : Nat) (b : List Nat) : Option FhFrame :=
  let at_ (i n : Nat) : Nat := beValue ((b.drop i).take n)
  if type = 0x00 then
    if b.length < 4 ∨ (b.length - 4) % 37 ≠ 0 then none
    else some (.iq (halfOf (at_ 0 2)) (halfOf (at_ 2 2)) (blocksOf ((b.length - 4) / 37) (b.drop 4)))
  else if type = 0x05 then
    let stamp := at_ 2 6 * 1000000000 + at_ 8 4
    if b.length < 20 then none
    else if at_ 1 1 = 0 then some (.owdRequest (byteOf (at_ 0 1)) stamp)
    else if at_ 1 1 = 2 then some (.owdResponse (byteOf (at_ 0 1)) stamp)
    else some (.owdOther (byteOf (at_ 0 1)) (byteOf (at_ 1 1)))
  else if type = 0xC0 then
    if b.length < 8 then none
    else some (.chain (halfOf (at_ 0 2)) (halfOf (at_ 2 2)) (byteOf (at_ 4 1)) (decide (at_ 5 3 = 0)) ⟨(b.drop 8).map byteOf⟩)
  else if type = 0xC1 then
    if b.length ≠ 16 then none
    else
      some (.align (byteOf (at_ 0 1)) (byteOf (at_ 1 1)) (byteOf (at_ 2 1)) (decide (128 ≤ at_ 3 1)) (decide (at_ 3 1 % 128 = 0 ∧ at_ 10 6 = 0))
        (BitVec.ofNat 32 (at_ 4 4)) (BitVec.ofNat 16 (at_ 8 2)))
  else none

/-- A frame leaves on a side: on the lane named, or the lowest up lane (R302). -/
def State.fhSend (s : State) (d lane : Nat) (f : FhFrame) (bad : Bool) (tag : Option (Fin 65536) := none) : State :=
  match s.lanesUp d with
  | [] => s
  | l :: t =>
    let use := if (l :: t).contains lane then lane else l
    { s with fhl := { s.fhl with sent := s.fhl.sent ++ [⟨d, use, f, bad, framePayload f, tag⟩] } }

end Sys2Proof.Machine
end

