-- ==== Sys2Proof/Machine/Tmg.lean ====
section
/-!
DEFINITION. Chapter 8, first part: timing groups, their boundaries, sources, acceptance and discipline (R201 to R209).
-/
namespace Sys2Proof.Machine

/-! Group states (R202). -/

def tgNONE : Nat := 0
def tgACQUIRING : Nat := 1
def tgLOCKED : Nat := 2
def tgFLYWHEEL : Nat := 3
def tgLOST : Nat := 4

def tmFly : Nat := 40
def tmHold : Nat := 41
def tmPriReturn : Nat := 42

/-- 10 ms in device ticks. -/
def frameTicks : Nat := 2457600

/-- One tick in units of 2^-16 tick. -/
def one16 : Nat := 65536

/-- The lead of a committed boundary, 150 µs (R207). -/
def commitLead : Nat := 36864

/-- Behind a group's registers. -/
def State.groupRt (s : State) (g : Nat) : GroupRt := Tbl.get (fun _ => {}) s.ftm.groups g

def State.setGroupRt (s : State) (g : Nat) (r : GroupRt) : State :=
  { s with ftm := { s.ftm with groups := Tbl.set (fun _ => {}) s.ftm.groups g r } }

def State.groupState (s : State) (g : Nat) : Nat := s.fget FTM_GSTAT.STATE g

/-- The group has a frame clock (R202). -/
def State.hasClock (s : State) (g : Nat) : Bool := decide (tgLOCKED ≤ s.groupState g)

/-- The current boundary of a group in ticks; multiples of 10 ms of device time without a frame clock (R202). -/
def State.groupB (s : State) (g : Nat) : Nat :=
  if s.hasClock g then (s.groupRt g).bc / one16 else s.dt / frameTicks * frameTicks

/-- The ordinal of the current boundary (R202). -/
def State.groupOrd (s : State) (g : Nat) : Nat :=
  if s.hasClock g then s.fget FTM_GORD.ORDINAL g else s.dt / frameTicks % 2 ^ 32

/-- The difference of two ordinals, mod 2^32 and signed (R205). -/
def ordDiff (a b : Nat) : Int :=
  let d := ((a : Int) - b) % 2 ^ 32
  if 2 ^ 31 < d then d - 2 ^ 32 else d

/-- The next multiple of 10 ms of device time, the present one among them, after the one that a clockless group has passed (R202). -/
def freeBoundary (dt passed : Nat) : Nat := max (ceilDiv dt frameTicks) (passed / frameTicks + 1) * frameTicks

/-- The next boundary of a group in 2^-16 tick: as the clock has it, or the next multiple of 10 ms. -/
def State.nextBoundary (s : State) (g : Nat) : Nat :=
  if s.hasClock g ∨ (s.groupRt g).relabel.isSome then (s.groupRt g).bn else freeBoundary s.dt (s.groupRt g).passed * one16

/-- The boundary at which the frame begins that lies d frames after the current one, in ticks. -/
def State.frameStart (s : State) (g : Nat) (d : Int) : Int :=
  let p := (s.groupRt g).per
  if d = 0 then s.groupB g
  else if 0 < d then ((s.nextBoundary g : Int) + (d - 1) * p) / (one16 : Int)
  else ((s.groupB g : Int) * one16 + d * p) / (one16 : Int)

/-- The registers that show a group's boundaries (R225). -/
def State.showGroup (s : State) (g : Nat) : State :=
  let b := s.groupB g
  let n := s.nextBoundary g / one16
  let s := ((s.fset FTM_GB_LO.DT g (b % 2 ^ 32)).fset FTM_GB_HI.DT g (b / 2 ^ 32)).fset FTM_GN_LO.DT g (n % 2 ^ 32)
  let s := (s.fset FTM_GN_HI.DT g (n / 2 ^ 32)).fset FTM_GORD.ORDINAL g (s.groupOrd g)
  let s := s.fsetI FTM_GPER.PERIOD_PPB g (roundDiv ((((s.groupRt g).per : Int) - 161061273600) * 1000000000) 161061273600)
  let s := s.fsetB FTM_GSTAT.SFN_VALID g (s.hasClock g)
  if s.hasClock g then s else s.fset FTM_GSTAT.SFN g 0

/-- A group enters a state; entries to LOCKED, FLYWHEEL and LOST raise their events, and F107 follows LOST (R202, R228, R347). -/
def State.setGroup (s : State) (g st : Nat) : State :=
  let t := s.fset FTM_GSTAT.STATE g st
  let t :=
    if st = s.groupState g then t
    else if st = tgLOCKED then t.pulse pgFTM 0
    else if st = tgFLYWHEEL then t.pulse pgFTM 1
    else if st = tgLOST then (t.pulse pgFTM 2).post 0x4001 g (t.fget FTM_GSTAT.SRC g) 0
    else t
  t.drive 107 ((List.range 8).any fun k => decide (t.groupState k = tgLOST))

/-! Sources (R204, R208, R209). -/

/-- The code of the primary or secondary source that a group's registers name, and its carrier. -/
def State.sourceCfg (s : State) (g : Nat) (sec : Bool) : Nat × Nat :=
  if sec then (s.fget FTM_GCFG.SEC g, s.fget FTM_GCFG.SEC_CARRIER g) else (s.fget FTM_GCFG.PRI g, s.fget FTM_GCFG.PRI_CARRIER g)

/-- The primary or secondary source of a group in force: a write takes effect at the next observation (R203). -/
def State.groupSource (s : State) (g : Nat) (sec : Bool) : Nat × Nat := if sec then (s.groupRt g).sec else (s.groupRt g).pri

/-- A source is valid (R204). -/
def State.sourceValid (s : State) (src : Nat × Nat) : Bool :=
  if src.1 = 1 then decide (s.fget CLS_CSTAT.STATE src.2 = 2)
  else if src.1 = 2 then s.fon FHL_PTP_STAT.LOCK 0
  else if src.1 = 3 then s.fon GNS_STAT.TIME_VALID 0
  else false

def State.priValid (s : State) (g : Nat) : Bool := s.sourceValid (s.groupSource g false)
def State.secValid (s : State) (g : Nat) : Bool := s.sourceValid (s.groupSource g true)

/-- The source in use is valid. -/
def State.inUseValid (s : State) (g : Nat) : Bool := s.sourceValid (s.groupSource g (s.groupRt g).useSec)

/-- The source in use of a group. -/
def State.inUse (s : State) (g : Nat) : Nat × Nat := s.groupSource g (s.groupRt g).useSec

/-- The group takes its primary or secondary source (R209). -/
def State.takeSource (s : State) (g : Nat) (sec : Bool) : State :=
  let t := (s.setGroupRt g { s.groupRt g with useSec := sec }).fset FTM_GSTAT.SRC g (s.groupSource g sec).1
  if (s.groupRt g).useSec = sec then t else (t.timerStop tmPriReturn g).pulse pgFTM 5

/-- The timer of the return to PRI runs while PRI is valid and SEC is in use (R209). -/
def State.notePri (s : State) : State :=
  (List.range 8).foldl (fun s g =>
    if decide (s.groupState g ≠ tgNONE) && (s.groupRt g).useSec && s.priValid g then
      if s.timerOn tmPriReturn g then s else s.timerStart tmPriReturn g s.ms
    else s.timerStop tmPriReturn g) s

/-- The sources that a group's registers name come into force (R203). A new primary source is in use if it is valid, and otherwise the
secondary one; SRC_SWITCH rises when another source than before is in use (R209). -/
def State.adoptSources (s : State) (g : Nat) : State :=
  let r := s.groupRt g
  let p := s.sourceCfg g false
  let q := s.sourceCfg g true
  let useSec := if r.pri = p then r.useSec else !s.sourceValid p
  let t := s.setGroupRt g { r with pri := p, sec := q, useSec := useSec }
  if t.inUse g = s.inUse g then t else ((t.fset FTM_GSTAT.SRC g (t.inUse g).1).timerStop tmPriReturn g).pulse pgFTM 5

/-- TIMING_SOURCE_LOST: the source in use has been lost (R208); the group takes its other source, SEC also where it is not valid (R209), and
enters FLYWHEEL at once if that one is not valid. -/
def execTimingSourceLost (group : Fin 8) (s : State) : Host.Outcome State Fault Refusal :=
  .next (
    let g := group.val
    let other := !(s.groupRt g).useSec
    if s.groupState g = tgNONE || s.inUseValid g then s
    else
      let t := s.inputLost pgFTM g
      let ok := s.sourceValid (s.groupSource g other)
      let t := if ok || other then t.takeSource g other else t
      (if !ok && decide (s.groupState g = tgLOCKED) then t.setGroup g tgFLYWHEEL else t).notePri)

/-- PRI_RETURN_TIMER: PRI has stayed valid for 1 s, and the group returns to it (R209). -/
def execPriReturnTimer (group : Fin 8) (s : State) : Host.Outcome State Fault Refusal :=
  .next (
    if (s.groupRt group.val).useSec && s.priValid group.val && s.timerDue tmPriReturn group.val s.ms 1000 then s.takeSource group.val false
    else s)

/-! Enabling (R202, R203). -/

/-- The shift of the ordinals of a group's frames is passed to the grid rows of its paths (R183, R206). -/
def State.shiftArmed (s : State) (g : Nat) (delta : Int) : State :=
  if delta = 0 then s
  else
    s.paths.foldl (fun s p =>
      if s.fget CHN_PATH_CFG.TGROUP p = g then
        let r := Tbl.get (fun _ => {}) s.ggr.paths p
        { s with ggr := { s.ggr with
            paths := Tbl.set (fun _ => {}) s.ggr.paths p { r with armBase := (((r.armBase : Int) + delta) % 2 ^ 32).toNat } } }
      else s) s

/-- A group leaves NONE (R202). -/
def State.groupOn (s : State) (g : Nat) : State :=
  let t := s.setGroupRt g {}
  let t := (t.fset FTM_GCNT.ACCEPTED g 0).fset FTM_GCNT.REJECTED g 0
  let t := t.setGroup g tgACQUIRING
  let t := t.setGroupRt g { t.groupRt g with pri := t.sourceCfg g false, sec := t.sourceCfg g true, useSec := !t.sourceValid (t.sourceCfg g false) }
  ((t.fset FTM_GSTAT.SRC g (t.inUse g).1).showGroup g).notePri

/-- A group returns to NONE (R202): its boundaries fall at multiples of 10 ms again. -/
def State.groupOff (s : State) (g : Nat) : State :=
  let old := s.groupOrd g
  let t := ((s.setGroupRt g {}).setGroup g tgNONE).fset FTM_GSTAT.SRC g 0
  let t := ((t.timerStop tmFly g).timerStop tmHold g).timerStop tmPriReturn g
  let t := (t.fset FTM_GSTAT.NEXT_COMMITTED g 0).inputValid pgFTM g
  (t.shiftArmed g (ordDiff (t.groupOrd g) old)).showGroup g

/-- A path of the group is not OFF (R203). -/
def State.groupBusy (s : State) (g : Nat) : Bool :=
  s.paths.any fun p => decide (s.fget CHN_PATH_CFG.TGROUP p = g ∧ s.pathState p ≠ pathOFF)

/-- A write of FTM_GCFG of the selected group (R202, R203, R225). -/
def gcfgWrite (i : Init) (v : Word) (s : State) : WRes :=
  let g := s.fget FTM_GSEL.GRP i.holder
  let was := s.fon FTM_GCFG.EN g
  let en := decide (bitsOf v 31 31 = 1)
  if 3 < bitsOf v 30 28 ∨ 3 < bitsOf v 27 25 ∨ bitsOf v 14 12 < 2 then .error .outOfRange
  else if was && !en && s.groupBusy g then .error .configLocked
  else
    match s.mergeReg pgFTM 0x044 (FTM_GCFG.EN.key g) v with
    | .error r => .error r
    | .ok t =>
      .ok (
        if en && !was then t.groupOn g
        else if !en && was then t.groupOff g
        else t)

/-- The word of FTM_GCFG of the selected group with EN replaced. -/
def State.gcfgEn (s : State) (i : Init) (en : Nat) : Word :=
  putBits (s.word (FTM_GCFG.EN.key (s.fget FTM_GSEL.GRP i.holder))) 31 31 en

/-- TGROUP_ENABLE: a write of FTM_GCFG.EN := 1 (R202). -/
def execTgroupEnable (who : Init) (s : State) : Host.Outcome State Fault Refusal :=
  .next (s.access who pgFTM 0x044 (s.gcfgEn who 1) (gcfgWrite who (s.gcfgEn who 1)))

/-- TGROUP_DISABLE: a write of FTM_GCFG.EN := 0 (R203). -/
def execTgroupDisable (who : Init) (s : State) : Host.Outcome State Fault Refusal :=
  .next (s.access who pgFTM 0x044 (s.gcfgEn who 0) (gcfgWrite who (s.gcfgEn who 0)))

/-! Observations (R204 to R206). -/

/-- The key of a source: of a listener carrier, of PTP, of GNSS. -/
def sourceKey (src : Nat × Nat) : Nat := if src.1 = 1 then 16 + src.2 else src.1

/-- The last observation of a source. -/
def State.seenObs (s : State) (key : Nat) : Option SeenObs := Tbl.get (fun _ => none) s.ftm.seen key

def State.setSeen (s : State) (key : Nat) (o : Option SeenObs) : State := { s with ftm := { s.ftm with seen := Tbl.set (fun _ => none) s.ftm.seen key o } }

/-- A source yields an observation (R204): it waits for every group that names the source. -/
def State.yieldObs (s : State) (key t index : Nat) : State := s.setSeen key (some ⟨t, index, 0xFFFF⟩)

/-- The bit of a group's primary or secondary source. -/
def takerBit (g : Nat) (sec : Bool) : Nat := 2 * g + (if sec then 1 else 0)

/-- An observation of a source waits for a group. -/
def State.obsWaits (s : State) (g : Nat) (sec : Bool) (t index : Nat) : Bool :=
  match s.seenObs (sourceKey (s.sourceCfg g sec)) with
  | some o => decide (o.t = t ∧ o.index = index) && o.left.testBit (takerBit g sec)
  | none => false

/-- A group takes the observation that waits for it. -/
def State.takeObs (s : State) (g : Nat) (sec : Bool) : State :=
  let key := sourceKey (s.sourceCfg g sec)
  match s.seenObs key with
  | some o => s.setSeen key (some { o with left := o.left - 2 ^ takerBit g sec })
  | none => s

/-- A time in ns, in 2^-16 tick (R515). -/
def ns16 (ns : Int) : Int := roundDiv (ns * 768 * 65536) 3125

/-- A span in 2^-16 tick, in whole ns held to a signed 16-bit field. -/
def errField (e : Int) : Int := clampI (-32767) 32767 (roundDiv (e * 3125) (768 * 65536))

/-- A span lies within a window of ns. -/
def withinNs (e : Int) (ns : Nat) : Bool := decide ((e.natAbs : Nat) * 3125 ≤ ns * 768 * 65536)

/-- d of R206: the frames from a group's current boundary to an observation's, by their SFNs. -/
def sfnDistance (sfn cur : Nat) : Int := ((sfn : Int) - cur + 512) % 1024 - 512

/-- The SFN of the current boundary: of the clock, or of the device-time frame. -/
def State.groupSfn (s : State) (g : Nat) : Nat := if s.hasClock g then s.fget FTM_GSTAT.SFN g else s.groupOrd g % 1024

/-- e of R206, in 2^-16 tick. -/
def State.obsError (s : State) (g : Nat) (o : Obs) : Int :=
  let r := s.groupRt g
  let bc : Int := if s.hasClock g then r.bc else (s.groupB g * one16 : Nat)
  o.t - (bc + sfnDistance (o.index % 1024) (s.groupSfn g) * r.per)

/-- Two candidates imply the same boundary phase (R206). -/
def obsAgree (per : Nat) (win : Nat) (a b : Obs) : Bool :=
  let d := a.t - b.t
  withinNs (d - roundDiv d per * per) win

/-- The newest candidates agree, every pair of them (R206). -/
def candAgree (per win n : Nat) (cand : List Obs) : Bool :=
  let l := cand.take n
  decide (l.length = n) && l.all fun a => l.all fun b => obsAgree per win a b

/-- A step replaces the next boundary by the one that the candidate implies: the nearest that lies at least 150 µs ahead (R206). -/
def State.placeStep (s : State) (g : Nat) (o : Obs) : State :=
  let r := s.groupRt g
  let lim : Int := (s.dt + commitLead) * one16
  let k := roundDiv ((s.nextBoundary g : Int) - o.t) r.per
  let k := if o.t + k * r.per < lim then -((o.t - lim) / (r.per : Int)) else k
  (s.setGroupRt g { r with bn := (o.t + k * r.per).toNat, relabel := some ((o.index : Int) + k).toNat, step := none, corr := 0 }).showGroup g

/-- The size of a step as the record of R368 gives it: the error of the observation that brings it, in ns, as a signed word. -/
def State.stepNs (s : State) (g : Nat) (o : Obs) : Nat := ofSigned (roundDiv (s.obsError g o * 3125) (768 * 65536)) (2 ^ 32)

/-- A step is decided (R206): it acts at the first boundary at least 150 µs ahead. -/
def State.decideStep (s : State) (g : Nat) (o : Obs) : State :=
  let t := (s.pulse pgFTM 3).post 0x4002 g (s.stepNs g o) 0
  if t.fon FTM_GSTAT.NEXT_COMMITTED g then t.setGroupRt g { t.groupRt g with step := some o } else t.placeStep g o

/-- An observation is rejected (R206). -/
def State.rejectObs (s : State) (g : Nat) (o : Obs) : State :=
  let cand := (o :: (s.groupRt g).cand).take 7
  let t := ((s.setGroupRt g { s.groupRt g with cand := cand }).fbump FTM_GCNT.REJECTED g).pulse pgFTM 4
  if candAgree (t.groupRt g).per (t.fget FTM_GWIN.ACC_WIN_NS g) (t.fget FTM_GCFG.RELOCK_N g) cand then t.decideStep g o else t

/-- P held within ±50 ppm (R201). -/
def holdPeriod (p : Int) : Int := clampI ((2457600 - 123) * 65536) ((2457600 + 123) * 65536) p

/-- The correction reaches the next boundary while it is uncommitted (R206, R207). -/
def State.applyCorr (s : State) (g : Nat) : State :=
  let r := s.groupRt g
  if s.fon FTM_GSTAT.NEXT_COMMITTED g then s.showGroup g
  else (s.setGroupRt g { r with bn := ((r.bn : Int) + r.corr).toNat, corr := 0 }).showGroup g

/-- An observation is accepted and disciplines P and c (R202, R206). -/
def State.acceptObs (s : State) (g : Nat) (e : Int) : State :=
  let r := s.groupRt g
  let p := (r.per : Int) + roundDiv e (8 * max 1 r.frames)
  let slew := ns16 (s.fget FTM_GWIN.MAX_SLEW_NS g)
  let c := clampI (-slew) slew (r.corr + roundDiv e 4)
  let t := s.setGroupRt g { r with per := (holdPeriod p).toNat, corr := c, cand := [], frames := 0 }
  let t := if holdPeriod p = p then t else t.saturate pgFTM
  let t := (t.fbump FTM_GCNT.ACCEPTED g).setGroup g tgLOCKED
  ((t.timerStart tmFly g t.ms).timerStart tmHold g t.ms).applyCorr g

/-- An observation from the source in use (R206). -/
def State.observe (s : State) (g : Nat) (o : Obs) : State :=
  let e := s.obsError g o
  let t := s.fsetI FTM_GERR.LAST_ERR_NS g (errField e)
  if s.groupState g = tgACQUIRING ∨ !withinNs e (s.fget FTM_GWIN.ACC_WIN_NS g) then t.rejectObs g o else t.acceptObs g e

/-- TIMING_OBSERVATION: the observation that the primary or secondary source of a group has yielded, of device time t and a frame index, reaches
the group (R204, R206). Sources and offset that have been written take effect with it (R203); the observation of a source that is not in use only
shows its error (R209). -/
def execTimingObservation (group : Fin 8) (secondary : Bool) (t : BitVec 64) (index : BitVec 48) (s : State) :
    Host.Outcome State Fault Refusal :=
  .next (
    let g := group.val
    let src := s.sourceCfg g secondary
    if !s.works pgFTM || s.groupState g = tgNONE || !s.sourceValid src || !s.obsWaits g secondary t.toNat index.toNat then s
    else
      let s := ((s.takeObs g secondary).adoptSources g).notePri
      let o : Obs := ⟨(t.toNat : Int) * 65536 + ns16 (s.fgetI FTM_GOFF.FRAME_OFFSET_NS g), if src.1 = 1 then index.toNat % 1024 else index.toNat⟩
      if (s.groupRt g).useSec = secondary then (s.inputValid pgFTM g).observe g o
      else s.fsetI FTM_GERR.SEC_ERR_NS g (errField (s.obsError g o)))

/-- FLYWHEEL_TIMEOUT: no observation accepted for FLY_MS (R202). -/
def execFlywheelTimeout (group : Fin 8) (s : State) : Host.Outcome State Fault Refusal :=
  .next (
    if s.groupState group.val = tgLOCKED && s.timerDue tmFly group.val s.ms (s.fget FTM_GTIME.FLY_MS group.val) then
      s.setGroup group.val tgFLYWHEEL
    else s)

/-! Boundaries (R201, R205, R207). -/

/-- BOUNDARY_COMMIT: the next boundary becomes committed 150 µs before it falls (R207). -/
def execBoundaryCommit (group : Fin 8) (s : State) : Host.Outcome State Fault Refusal :=
  .next (
    if s.fon FTM_GSTAT.NEXT_COMMITTED group.val then s
    else (s.advanceTo (s.nextBoundary group.val / one16 - commitLead)).fset FTM_GSTAT.NEXT_COMMITTED group.val 1)

/-- The ordinal at a stepped boundary (R205, R206): set at first lock, moved within (−512, +512] later. -/
def steppedOrdinal (first : Bool) (src index expected : Nat) : Nat :=
  if first then (if src = 1 then index % 1024 else index % 2 ^ 32)
  else (((expected : Int) + ((((index : Int) - expected) + 511) % 1024 - 511)) % 2 ^ 32).toNat

/-- A boundary falls on a clocked group, or is the stepped one of a first lock: ordinal, SFN, the next boundary, a step that waited. DESIGN CHOICE
(log 221): the frames since an accepted observation count from the boundary of first lock where none has been accepted yet (R206). -/
def State.clockBoundary (s : State) (g : Nat) : State :=
  let r := s.groupRt g
  let expected := (s.groupOrd g + 1) % 2 ^ 32
  let first := decide (s.groupState g = tgACQUIRING)
  let ord := match r.relabel with | some i => steppedOrdinal first (s.fget FTM_GSTAT.SRC g) i expected | none => expected
  let t := s.advanceTo (r.bn / one16)
  let t := t.setGroupRt g { r with bc := r.bn, bn := ((r.bn : Int) + r.per + r.corr).toNat, corr := 0, relabel := none
                                   frames := if first then 0 else r.frames + 1 }
  let t := if r.relabel.isSome then ((t.setGroup g tgLOCKED).timerStart tmFly g t.ms).timerStart tmHold g t.ms else t
  let t := ((t.fset FTM_GORD.ORDINAL g ord).fset FTM_GSTAT.SFN g (ord % 1024)).fset FTM_GSTAT.NEXT_COMMITTED g 0
  let t := (t.shiftArmed g (ordDiff ord expected)).showGroup g
  match r.step with
  | some o => t.placeStep g o
  | none => t

/-- A boundary of a group falls (R202): a multiple of 10 ms where it has no clock. -/
def State.passBoundary (s : State) (g : Nat) : State :=
  if s.hasClock g || (s.groupRt g).relabel.isSome then s.clockBoundary g
  else
    let b := s.nextBoundary g / one16
    let t := (s.advanceTo b).fset FTM_GSTAT.NEXT_COMMITTED g 0
    let t := (t.setGroupRt g { t.groupRt g with passed := b }).showGroup g
    match (s.groupRt g).step with
    | some o => t.placeStep g o
    | none => t

end Sys2Proof.Machine
end

