-- ==== Sys2Proof/Machine/Pkt.lean ====
section
/-!
DEFINITION. Chapter 12, first part: the buffer pool, the queues, authentication, and the sending of answers (R313 to R317, R325, R328, R329, R341).
-/
namespace Sys2Proof.Machine

/-! Buffers (R328, R329). -/

/-- Requests that wait in a queue. -/
def State.queueOf (s : State) (i : Nat) : List Pkt := Tbl.get (fun _ => []) s.gcp.queues i

def State.setQueue (s : State) (i : Nat) (l : List Pkt) : State := { s with gcp := { s.gcp with queues := Tbl.set (fun _ => []) s.gcp.queues i l } }

/-- The request that a queue executes. -/
def State.runningOf (s : State) (i : Nat) : Option Pkt := Tbl.get (fun _ => none) s.gcp.running i

def State.setRunning (s : State) (i : Nat) (p : Option Pkt) : State :=
  { s with gcp := { s.gcp with running := Tbl.set (fun _ => none) s.gcp.running i p } }

/-- The queue of a request (R328). -/
def Pkt.queue (p : Pkt) : Nat := 3 * p.transport + p.cls

/-- The watermark events of a queue and of the pool follow HELD and FREE (R44, R328, R329). -/
def State.poolMarks (s : State) (i : Nat) : State :=
  let t := s.highMark pgBUF i (s.fget BUF_QSTAT.HELD i) (s.fget BUF_QMARK.HI_MARK i) (s.fget BUF_QMARK.HYST i)
  t.lowMark pgBUF 10 (t.fget BUF_STAT.FREE 0) (t.fget BUF_POOL.POOL_LOW_MARK 0) (t.fget BUF_POOL.POOL_HYST 0)

/-- A queue takes a buffer. -/
def State.takeBuf (s : State) (i : Nat) : State :=
  let h := s.fget BUF_QSTAT.HELD i + 1
  let f := s.fget BUF_STAT.FREE 0 - 1
  let t := (s.fset BUF_QSTAT.HELD i h).fset BUF_QSTAT.PEAK i (max h (s.fget BUF_QSTAT.PEAK i))
  ((t.fset BUF_STAT.FREE 0 f).fset BUF_STAT.FREE_MIN 0 (min f (s.fget BUF_STAT.FREE_MIN 0))).poolMarks i

/-- A queue frees a buffer. -/
def State.freeBuf (s : State) (i : Nat) : State :=
  if s.fget BUF_QSTAT.HELD i = 0 then s
  else ((s.fset BUF_QSTAT.HELD i (s.fget BUF_QSTAT.HELD i - 1)).fset BUF_STAT.FREE 0 (s.fget BUF_STAT.FREE 0 + 1)).poolMarks i

/-- can_alloc of R329. -/
def State.canAlloc (s : State) (i : Nat) : Bool :=
  let held (j : Nat) := s.fget BUF_QSTAT.HELD j
  let free := s.fget BUF_STAT.FREE 0
  if s.fget BUF_QCFG.QMAX i ≤ held i then false
  else if held i < s.fget BUF_QCFG.RES i then decide (0 < free)
  else decide ((((List.range 10).filter fun j => decide (j ≠ i)).map fun j => s.fget BUF_QCFG.RES j - held j).sum < free)

/-! Sending (R325). -/

/-- Answers that wait for room in the answer ring of a class. -/
def State.anWaiting (s : State) (c : Nat) : List OutPkt := Tbl.get (fun _ => []) s.gcp.anWait c

def State.setAnWaiting (s : State) (c : Nat) (l : List OutPkt) : State :=
  { s with gcp := { s.gcp with anWait := Tbl.set (fun _ => []) s.gcp.anWait c l } }

/-- The mailbox rings serve: a role is bound to the endpoint (R396). -/
def State.ringsServe (s : State) : Bool := (s.identOf .pcie).isSome

/-- The answer ring of a class has room, its link is up, and the rings serve (R325, R396). -/
def State.ringRoom (s : State) (c : Nat) : Bool :=
  s.ringsServe && s.fon PCIE_STAT.LINK_UP 0 && s.fon PCIE_RING.EN c && decide ((s.fget PCIE_IDX.AN_PROD c + 1) % 64 ≠ s.fget PCIE_AN_CONS.CONS c)

/-! Authentication (R317). -/

/-- The nonce of a packet on a transport, from its header: BOOT, IDENT, KIND, the transport code, 0 and SEQ. -/
def State.nonce (s : State) (transport : Nat) (b : List Nat) : List Nat :=
  beBytes 4 (s.fget GCP_BOOT.BOOT 0) ++ [b.getD 2 0, b.getD 0 0 % 4, transport + 1, 0] ++ (b.drop 4).take 4

/-- The tag of a header and payload on a transport under a packet key. -/
def State.tagUnder (s : State) (key transport : Nat) (b : List Nat) : List Nat := Crypt.gcmTag key (s.nonce transport b) b

/-- The last 16 bytes of a packet are its tag under the key of an identity; none verifies for an identity without a key (R397). -/
def State.tagGood (s : State) (id transport : Nat) (b : List Nat) : Bool :=
  match s.packetKey id with
  | some k => decide (b.drop (b.length - 16) = s.tagUnder k transport (b.take (b.length - 16)))
  | none => false

/-- The bytes of a packet without its tag: the header of R313, each field most significant byte first (R11), and the payload. -/
def OutPkt.bytes (o : OutPkt) : List Nat :=
  [16 + 4 * o.cls + o.kind, o.typ, o.ident, o.status] ++ beBytes 4 o.seq ++ beBytes 2 o.payload.length ++ beBytes 2 o.arg16 ++ beBytes 4 o.arg32 ++
    o.payload

/-- A packet leaves with its tag; the tag under a key that has been erased meanwhile is open (DESIGN CHOICE, log 228). -/
def State.tagged (s : State) (o : OutPkt) : State × List Nat :=
  if o.typ = 0x01 then (s, o.bytes)
  else
    match s.packetKey o.keyId with
    | some k => (s, o.bytes ++ s.tagUnder k o.transport o.bytes)
    | none => (s.tookFree.tookFree, o.bytes ++ beBytes 8 s.freeVal.toNat ++ beBytes 8 s.tookFree.freeVal.toNat)

/-- The bytes of a packet leave the device. -/
def State.emitBytes (s : State) (o : OutPkt) (b : List Nat) : State := { s with gcp := { s.gcp with out := s.gcp.out ++ [{ o with wire := b }] } }

/-- A packet leaves the device; on the fronthaul as a chain message from this node to the address that `source` holds, on the side that it holds
(R310, R327). -/
def State.emit (s : State) (o : OutPkt) : State :=
  let x := s.tagged o
  let t := x.1.emitBytes o x.2
  if o.transport = 2 then
    t.fhSend (o.source / 65536 % 2) 0 (.chain (halfOf o.source) (halfOf (t.fget FHL_NODE.NODE_ID 0)) 16 true ⟨x.2.map byteOf⟩) false
  else t

/-- What a slot holds: the length of the packet, two zero bytes, the packet (R325). -/
def ringSlot (b : List Nat) : List Nat := beBytes 2 b.length ++ [0, 0] ++ b

/-- A slot of the answer ring of a class is written. -/
def State.setAnSlot (s : State) (c slot : Nat) (b : List Nat) : State :=
  { s with gcp := { s.gcp with anSlots := Tbl.set (fun _ => []) s.gcp.anSlots (64 * c + slot) b } }

/-- A packet is written to the answer ring of its class (R325). -/
def State.toRing (s : State) (o : OutPkt) : State :=
  let x := s.tagged o
  let slot := s.fget PCIE_IDX.AN_PROD o.cls
  (((x.1.emitBytes o x.2).setAnSlot o.cls slot (ringSlot x.2)).fset PCIE_IDX.AN_PROD o.cls ((slot + 1) % 64)).raiseMsix o.cls

/-- The queue whose buffer a packet holds: that of its request, or the internal one (R328). -/
def OutPkt.queue (o : OutPkt) : Nat := if o.kind = 1 then 3 * o.transport + o.cls else 9

/-- A packet has left, and its buffer is free. -/
def State.freeOf (s : State) (o : OutPkt) : State := if o.buf then s.freeBuf o.queue else s

/-- A packet is sent and its buffer freed; on PCI Express it waits in its buffer while the ring is full (R325, R328). -/
def State.sendOut (s : State) (o : OutPkt) : State :=
  if o.transport ≠ 0 then (s.emit o).freeOf o
  else if (s.anWaiting o.cls).isEmpty && s.ringRoom o.cls then (s.toRing o).freeOf o
  else s.setAnWaiting o.cls (s.anWaiting o.cls ++ [o])

/-- Answers that wait for an answer ring are sent while it has room. -/
def State.flushRing (s : State) (c : Nat) : Nat → State
  | 0 => s
  | n + 1 =>
    match s.anWaiting c with
    | [] => s
    | o :: rest => if s.ringRoom c then State.flushRing (((s.setAnWaiting c rest).toRing o).freeOf o) c n else s

/-! Answers (R315, R316, R318). -/

/-- What a request comes to. -/
inductive Verdict where
  | served
  | delayed (reason : Nat)
  | refused (reason : Nat)
deriving DecidableEq, Repr

/-- STATUS of an answer (R315). -/
def Verdict.status : Verdict → Nat
  | .served => 0
  | .delayed r => 0x40 + r % 64
  | .refused r => 0x80 + r % 64

/-- The key of an identity on a transport. -/
def replayKey (transport ident : Nat) : Nat := 32 * transport + ident

def State.replayOf (s : State) (k : Nat) : Replay := Tbl.get (fun _ => {}) s.gcp.replay k

def State.setReplay (s : State) (k : Nat) (r : Replay) : State := { s with gcp := { s.gcp with replay := Tbl.set (fun _ => {}) s.gcp.replay k r } }

/-- The answer is kept with its request when its payload has at most 64 bytes (R318). -/
def State.keepAnswer (s : State) (k : Nat) (o : OutPkt) : State :=
  let r := s.replayOf k
  if o.payload.length ≤ 64 then s.setReplay k { r with cache := r.cache.map fun e => if e.1 = o.seq then (e.1, some o) else e } else s

/-- Counts and events of an answer (R340, R345). -/
def State.countAnswer (s : State) (v : Verdict) : State :=
  match v with
  | .served => s
  | .delayed _ => (s.fbump GCP_ANS_CNT.DELAYED 0).pulse pgGCP 2
  | .refused _ => (s.fbump GCP_ANS_CNT.REFUSED 0).pulse pgGCP 3

/-- The answer to a request (R313, R315). -/
def Pkt.answer (p : Pkt) (v : Verdict) (detail retry : Nat) (payload : List Nat) : OutPkt :=
  { transport := p.transport, source := p.source, cls := p.cls, kind := 1, typ := p.typ, ident := p.ident, status := v.status
    seq := p.seq, arg16 := detail % 65536, arg32 := retry, payload := payload, keyId := p.ident }

/-- A request is answered: the answer is counted, kept for a resend unless the request is INFO, and sent (R315, R318, R319). -/
def State.answerPkt (s : State) (p : Pkt) (v : Verdict) (detail retry : Nat) (payload : List Nat) (buf : Bool) : State :=
  let o := { p.answer v detail retry payload with buf := buf }
  let t := s.countAnswer v
  (if p.typ = 1 then t else t.keepAnswer (replayKey p.transport p.ident) o).sendOut o

/-- The request that a queue executes ends with an answer. -/
def State.finish (s : State) (q : Nat) (v : Verdict) (detail retry : Nat) (payload : List Nat) : State :=
  match s.runningOf q with
  | none => s
  | some p => (s.setRunning q none).answerPkt p v detail retry payload true

/-- The request that a queue executes is served without a payload. -/
def State.served (s : State) (q : Nat) : State := s.finish q .served 0 0 []

/-- The request that a queue executes is refused. -/
def State.refused (s : State) (q r detail : Nat) : State := s.finish q (.refused r) detail 0 []

/-- The request that a queue executes has begun, and waits. -/
def State.begun (s : State) (q : Nat) : State :=
  match s.runningOf q with
  | none => s
  | some p => s.setRunning q (some { p with started := true })

/-- A lifecycle request has come to its step 4, or has ended: the packet that carried GO is answered served (R392; at an end without step 4
DESIGN CHOICE, log 241). -/
def State.goAnswered (s : State) : State :=
  (List.range 9).foldl (fun s q =>
    match s.runningOf q with
    | none => s
    | some p => if p.typ = 0x03 ∧ p.started then s.served q else s) s

/-- The packet that carried GO waits only while step 4 of its request is due (R392). -/
def State.goEnds (s : State) : State := if s.lcDue.isSome then s else s.goAnswered

/-- The commit of a CTX_WRITE has ended with a reason, 0 for none: the request that waits for it is answered (R322). -/
def State.commitAnswered (s : State) (ident reason : Nat) : State :=
  (List.range 9).foldl (fun s q =>
    match s.runningOf q with
    | none => s
    | some p => if p.typ = 0x14 ∧ p.started ∧ p.ident = ident then (if reason = 0 then s.served q else s.refused q reason 0) else s) s

/-- The identity of a request; the reports' device identity is no requester (R314). -/
def Pkt.who (p : Pkt) : Option Ident := if p.ident = 0x13 then none else identOfCode p.ident

end Sys2Proof.Machine
end

