-- ==== Sys2Proof/Machine/Cen.lean ====
section
/-!
DEFINITION. Chapter 6: the gain control engine: one tick of a context, its loops, the following-error supervisor (R142 to R167), and the
permission of loop L3 (R128).
-/
namespace Sys2Proof.Machine

/-! Windows that commit at a tick (R51, R52). -/

/-- A holder's context window. -/
def State.window (s : State) (h : Nat) : Window := Tbl.get (fun _ => {}) s.windows h

def State.setWindow (s : State) (h : Nat) (w : Window) : State := { s with windows := Tbl.set (fun _ => {}) s.windows h w }

/-- A write of the grid fields of word 20 (R200): the old word stays in force on the rows of the path that are armed. A layer that every row was
armed after is of no more use. -/
def State.keepGridWord (s : State) (c : Nat) (old : Word) : State :=
  let armed := (Tbl.get (fun _ => ({} : PathGrid)) s.ggr.paths (s.ctxPath c)).armedAt
  let live := (s.ctxRt c).gridWas.filter fun x => (List.range 280).any fun r => decide (Tbl.get (fun _ => 0) armed r ≤ x.2)
  s.setCtxRt c { s.ctxRt c with gridWas := (old, s.ggr.arms) :: live }

/-- What a merged context word changes beside itself: derivations (R167), a new set-point (R159), a budget retry (R247), a following-error
supervisor switched off (R164), a command (R74), an acknowledgement (R164), the noise gate switched on (R196), grid fields that act on rows armed from now on (R200). -/
def State.ctxWordEffects (s : State) (c w : Nat) (old v : Word) : State :=
  if w = 0 then
    let s := if bitsOf old 21 20 ≠ bitsOf v 21 20 then s.setCtxRt c { s.ctxRt c with refused := false } else s
    s.holdCmd c (bitsOf v 31 29)
  else if w = 3 then s.setCtxRt c { s.ctxRt c with retarget := (s.ctxRt c).retarget || decide (old ≠ v) }
  else if w = 4 ∨ w = 24 then s.setCtxRt c { s.ctxRt c with refused := false }
  else if w = 12 then
    let s := if bitsOf v 29 29 = 0 then s.setCtxRt c { s.ctxRt c with feTimer := 0 } else s
    if bitsOf v 28 28 = 1 then s.setCtxRt c { s.ctxRt c with feAck := true } else s
  else if w = 13 then s.deriveKi c
  else if w = 15 then s.deriveTrim c
  else if w = 20 then
    let s := if bitsOf old 28 28 = 0 ∧ bitsOf v 28 28 = 1 then s.resetHolds c else s
    if (old ^^^ v) &&& 0x1FC0FFFF = 0 then s else s.keepGridWord c old
  else s

/-- The fields of words 0, 1, 2, 20 and 21 that are written in FREE and CONFIGURED only (R75, R200). -/
def ctxPlacementMask (w : Nat) : Word := if w = 0 then 0x000CF01F else if w = 1 ∨ w = 2 then 0x00FFFFFF else if w = 20 then 0xE0000000 else if w = 21 then 0x00001FFF else 0

/-- An admitted write of a context word takes effect (R73, R75): the writable bits take the value; a placement field in another state than
FREE and CONFIGURED, and an owner in another state than FREE, keep theirs and give result 2. DESIGN CHOICE: a write that leaves such a field
at its value is no write of that field; outside FREE a word 6 as it stands gives no result 2 (log 171), and a word 0 that leaves TICK at
its value keeps the reserved slot (log 172). -/
def State.ctxWordApply (s : State) (c w : Nat) (v : Word) : State :=
  let old := s.cword c w
  let st := s.ctxState c
  let rw : Word := BitVec.ofNat 32 (ctxRwMask w)
  let want := mergeWord old v rw
  let fixed : Word :=
    if w = 6 then (if st = ctxFREE then 0 else 0xFFFFFFFF)
    else if st = ctxFREE ∨ st = ctxCONFIGURED then 0 else ctxPlacementMask w
  let new := mergeWord want old fixed
  let s := if decide (w = 0) && decide (bitsOf old 19 18 ≠ bitsOf new 19 18) then s.freeSlot c else s
  let s := (s.setCword c w new).ctxWordEffects c w old (mergeWord new v (if w = 0 then 0xE0000000 else if w = 12 then 0x10000000 else 0))
  if new = want then s else s.cmdResult c 2

/-- Staged words apply together (R51, R52); after a change of owner they are discarded. -/
def State.windowApply (s : State) (h : Nat) (i : Option Ident) : State :=
  let w := s.window h
  let lost : Bool :=
    match i with
    | some (.domain d) => decide (s.cget CTX_OWNER.OWNER w.ctx ≠ d.val)
    | _ => false
  let t := if lost then s else w.words.foldl (fun t e => t.ctxWordApply w.ctx e.1 e.2) s
  let r := if lost then Reason.notOwner.code else 0
  let t := t.setWindow h { w with pending := false, done := true, words := [], lastRefuse := r, lastCtx := w.ctx }
  if 3 ≤ h then t.commitAnswered (h - 3) r else t

/-- The identity of a holder's window. -/
def State.holderIdent (s : State) (h : Nat) : Option Ident :=
  if h = 0 then s.identOf .pcie else if h = 1 then some .device else if h = 2 then some .integrator else identOfCode (h - 3)

/-- The words written in direct mode since the last tick apply, oldest first (R15, R51). -/
def State.applyDirect (s : State) (c : Nat) : State :=
  (s.ctxRt c).direct.foldl (fun t e => t.ctxWordApply c e.1 e.2) (s.setCtxRt c { s.ctxRt c with direct := [] })

/-- The commits and the direct writes that wait for a context apply (R51). -/
def State.applyCommits (s : State) (c : Nat) : State :=
  let s := s.applyDirect c
  (List.range 23).foldl (fun s h => if (s.window h).pending && decide ((s.window h).ctx = c) then s.windowApply h (s.holderIdent h) else s) s

/-! Chain gains (R273). -/

/-- The mean of values, rounded (R515). -/
def meanOf (l : List Int) : Int := if l.isEmpty then 0 else roundDiv (l.foldl (· + ·) 0) l.length

/-- The chain gains of a context's ports are written to words 42, 60 and 61 at its tick after a change (R273). -/
def State.calStep (s : State) (c : Nat) : State :=
  if (s.ctxRt c).recal then
    let tx := (s.ctxDests c).map fun t => s.txc t
    let s := s.setCtxRt c { s.ctxRt c with recal := false }
    let s := s.csetI CW60.RX_CAL c (dbField (meanOf ((s.readsOf (s.ctxPath c)).map fun r => s.rxc r)))
    let s := (s.csetI CW42.TX_CAL_NOM c (dbField (meanOf tx))).csetI CW61.TX_CAL c (dbField (meanOf tx))
    if tx.any fun a => tx.any fun b => decide (b + 128 < a) then s.pulse pgFEL 11 else s
  else s

/-! Inputs of the loops. -/

/-- A coefficient's value applied to an integer (R12): m × 2^-s × x. The last place of the engine's carry is open (R515). -/
def coefMul (free : BitVec 64) (m s : Nat) (x : Int) : Int := openRound free (toSigned m (2 ^ 32) * x) (2 ^ s)

/-- The coupling loops of a context: receive stream and transmit stream, both with aerials (R114). -/
def State.loopsOf (s : State) (c : Nat) : List (Nat × Nat) :=
  let p := s.ctxPath c
  let air (t : Nat) : Bool := decide (s.fget CHN_STREAM.LINK t = 0)
  ((s.readsOf p).filter air).flatMap fun n => ((s.writesOf p).filter air).map fun t => (n, t)

/-- The subbands of an instance that a context's carrier overlaps (R128). -/
def State.carrierSbs (s : State) (n c : Nat) : List Nat :=
  let centre : Int := s.cget CTX_FREQ.CENTRE_KHZ c
  let bw : Int := s.cget CTX_BW.BW_KHZ c
  (List.range (s.subbands n)).filter fun k =>
    let e := s.sbEdges n k
    decide (e.1 < 2 * centre + bw ∧ 2 * centre - bw < e.2)

/-- req(c, n) of R128. -/
def State.reqMargin (s : State) (c n : Nat) : Int :=
  let own := s.cgetI CW50.REQ_MARGIN c
  let inst := s.fgetI CAN_MARGIN_CFG.REQ_MARGIN n
  if own = noValue then inst else max own inst

/-- A pair that bounds the permission: instance, reference, subband, iso, canc, source. -/
structure PermitPair where
  value : Int
  ref : Nat
  sb : Nat
  iso : Int
  canc : Int
  src : Nat
deriving DecidableEq, Repr

/-- What a loop in a subband permits (R128). -/
def State.permitPair (s : State) (c n t k : Nat) : PermitPair :=
  let req := s.reqMargin c n
  match s.coverRef n t with
  | some r =>
    let e := s.isoOf n k r
    ⟨dbField (e.iso + e.canc - req), r, k, e.iso, e.canc, e.src⟩
  | none =>
    let a := s.fgetI CAN_ISO_ASSUMED.ISO_ASSUMED n
    ⟨dbField (a - req), 0, k, a, 0, 2⟩

/-- The pairs of a context's loops. -/
def State.permitPairs (s : State) (c : Nat) : List PermitPair :=
  (s.loopsOf c).flatMap fun l => (s.carrierSbs l.1 c).map fun k => s.permitPair c l.1 l.2 k

/-- The lowest pair. -/
def lowestPair : List PermitPair → Option PermitPair
  | [] => none
  | p :: t =>
    match lowestPair t with
    | none => some p
    | some q => if q.value < p.value then some q else some p

/-- The permission of a context (R128), held while an instance that covers it is under self-test (R135); words 48, 49 and 51 show it. -/
def State.updatePermit (s : State) (c : Nat) : State :=
  match Tbl.get (fun _ => none) s.can.heldPermit c with
  | some p => s.csetI CW48.GAIN_PERMIT c p
  | none =>
    match lowestPair (s.permitPairs c) with
    | none => ((((s.csetI CW48.GAIN_PERMIT c noLoop).csetI CW49.ISO c noValue).csetI CW49.CANC c noValue).cset CW51.ISO_SRC c 2)
    | some p =>
      let t := (s.csetI CW48.GAIN_PERMIT c p.value).csetI CW49.ISO c p.iso
      (((t.csetI CW49.CANC c p.canc).cset CW51.ISO_SRC c p.src).cset CW51.WORST_REF c p.ref).cset CW51.WORST_SB c p.sb

/-- The margin of a subband of an instance, 0x7FFF for no loop (R129). -/
def State.marginOf (s : State) (n k : Nat) : Int := Tbl.get (fun _ => noLoop) s.can.margin (64 * n + k)

/-- The margins of a context's loops, each with its excess over req(c, n) (R129, R150). -/
def State.loopMargins (s : State) (c : Nat) : List (Int × Int) :=
  (((s.loopsOf c).map fun l => l.1).eraseDups).flatMap fun n =>
    ((s.carrierSbs n c).filter fun k => s.sbActive n k).filterMap fun k =>
      if s.marginOf n k = noLoop then none else some (s.marginOf n k, s.marginOf n k - s.reqMargin c n)

/-- The lowest of a list of integers. -/
def lowest : List Int → Option Int
  | [] => none
  | x :: t => some (t.foldl min x)

/-- The greatest of a list of integers. -/
def highest : List Int → Option Int
  | [] => none
  | x :: t => some (t.foldl max x)

/-- The clamp flag of a context (R152). -/
def State.clampFlag (s : State) (c : Nat) : Bool := (s.ctxDests c).any fun t => decide (s.clampState t ≠ 0)

/-- ecap(e, n) of R246. -/
def State.entryCap (s : State) (e : Nat) : Int :=
  let r := s.entryOf e
  let n := Tbl.get (fun _ => 0) s.npr.eligPorts e
  let ports := ((s.liveCtxs.filter fun c => decide (s.coverOf c = some e)).flatMap fun c => s.ctxDests c).eraseDups.length
  let k := if 0 < n then n else max 1 ports
  let agg := if r.aggMax = noLimit then noLimit else r.aggMax - (linToDb k 1).getD 0
  min r.portMax agg

/-- The regulatory gain and power ceilings of a context (R247), shown in word 46; none without a covering entry. -/
def State.updateReg (s : State) (c : Nat) : State :=
  match s.coverOf c with
  | none => (s.csetI CW46.REG_GAIN c noValue).csetI CW46.REG_POWER c noValue
  | some e =>
    let ports := (s.ctxDests c).map fun t => min (s.entryCap e) (s.fgetI NPR_PORT.PORT_MAX (t - 32))
    (s.csetI CW46.REG_GAIN c (s.entryOf e).maxGain).csetI CW46.REG_POWER c ((lowest ports).getD noLimit)

/-- NOISE_MEAS and NOISE_LIM of an uplink context (R236, R237), shown in word 47. -/
def State.updateNoise (s : State) (c : Nat) : State :=
  if !isUplink (s.ctxPath c) then (s.csetI CW47.NOISE_MEAS c noLoop).csetI CW47.NOISE_LIM c noLoop
  else
    let r := s.ctxRt c
    let meas : Int :=
      if 2 ^ s.fget NPR_NOISE_X.NOISE_SHIFT 0 ≤ r.noiseRows ∧ s.dt < r.noiseDt + 245760000 then
        dbField ((linToDb r.noise (2 ^ 80)).getD (-32767))
      else noValue
    let target := s.cgetI CTX_NPR_CFG.NOISE_TARGET c
    let limit := (s.coverOf c).map fun e => (s.entryOf e).noiseLim
    let lim := match limit with | some l => min (l - s.fgetI NPR_NOISE.NOISE_MARGIN 0) target | none => target
    let above := match limit with | some l => decide (meas ≠ noValue ∧ l < meas) | none => false
    let t := (s.csetI CW47.NOISE_MEAS c meas).csetI CW47.NOISE_LIM c (dbField lim)
    t.setCtxRt c { r with noiseOver := if above then (if r.noiseOver = 0 then s.dt + 1 else r.noiseOver) else 0 }

/-- Some uplink context's noise exceeds its limit (R237). -/
def State.noiseHigh (s : State) : Bool :=
  s.liveCtxs.any fun c =>
    isUplink (s.ctxPath c) && decide (s.cgetI CW47.NOISE_MEAS c ≠ noValue ∧ s.cgetI CW47.NOISE_LIM c < s.cgetI CW47.NOISE_MEAS c)

/-- NPR_NOISEq of an uplink path (R237): the highest NOISE_MEAS over its contexts, and the entry limit of that context. -/
def State.showNoise (s : State) (p : Nat) : State :=
  if !isUplink p then s
  else
    let l := (s.ctxsOfPath p).filter fun c => decide (s.cgetI CW47.NOISE_MEAS c ≠ noValue)
    match highest (l.map fun c => s.cgetI CW47.NOISE_MEAS c) with
    | none => (s.fsetI NPR_NOISEQ.MEAS (p - 16) noValue).fsetI NPR_NOISEQ.LIMIT (p - 16) noValue
    | some m =>
      let lim : Option Int := (l.find? fun c => decide (s.cgetI CW47.NOISE_MEAS c = m)).bind fun c => (s.coverOf c).map fun e => (s.entryOf e).noiseLim
      (s.fsetI NPR_NOISEQ.MEAS (p - 16) m).fsetI NPR_NOISEQ.LIMIT (p - 16) (lim.getD noValue)

/-! Supply feed-forward (R147, R148). -/

/-- A port's correction at the engine. -/
def State.supplyRt (s : State) (port : Nat) : SupplyRt := Tbl.get (fun _ => {}) s.cen.supply port

def State.setSupplyRt (s : State) (port : Nat) (r : SupplyRt) : State :=
  { s with cen := { s.cen with supply := Tbl.set (fun _ => {}) s.cen.supply port r } }

/-- The committed descriptor of a port says that a module is fitted (R260). -/
def State.descValid (s : State) (port : Nat) : Bool := decide (bitsOf (Tbl.get (fun _ => 0) s.fel.desc (8 * port)) 31 31 = 1)

/-- A port takes part in the supply feed-forward (R147). -/
def State.supplyPart (s : State) (port : Nat) : Bool := decide (s.fget CHN_STREAM.LINK (32 + port) = 0) && s.descValid port

/-- The CEN_SUPPLY field of a port. -/
def supplyFld (port : Nat) : Fld := if port % 2 = 0 then CEN_SUPPLY.EVEN else CEN_SUPPLY.ODD

/-- The level of LOSS follows the ports that are lost (R148, R31). -/
def State.supplyLoss (s : State) : State := s.cond pgCEN evtLoss ((List.range 32).any fun p => (s.supplyRt p).lost)

/-- A port's supply correction is published to the engine, in 1/64 dB (R148, R271). -/
def State.publishSupply (s : State) (port : Nat) (corr : Int) : State :=
  if corr < -384 ∨ 384 < corr then
    ((s.fset CEN_INPUT_LAST.KIND 0 1).fset CEN_INPUT_LAST.PORT 0 port).pulse pgCEN evtRange
  else
    ((s.setSupplyRt port { watched := true, lost := false, corr := corr, last := s.dt }).fsetI (supplyFld port) (port / 2) corr).supplyLoss

/-- SUPPLY_CORR_TIMEOUT: a watched port has had no update for SUPPLY_TO_US (R148). -/
def execSupplyCorrTimeout (port : Fin 32) (s : State) : Host.Outcome State Fault Refusal :=
  .next (
    let r := s.supplyRt port.val
    if r.watched && !r.lost && s.supplyPart port.val then
      let s := s.advanceTo (r.last + ticksOfUs (s.fget CEN_FF_CFG.SUPPLY_TO_US 0))
      let s := (s.setSupplyRt port.val { r with lost := true, corr := 0 }).fsetI (supplyFld port.val) (port.val / 2) noValue
      ((s.fset CEN_INPUT_LAST.KIND 0 2).fset CEN_INPUT_LAST.PORT 0 port.val).supplyLoss
    else s)

/-- The supply correction of a context: the mean over its participating destination ports (R147). -/
def State.supplyCorr (s : State) (c : Nat) : Int :=
  let l := ((s.ctxDests c).filter fun t => s.supplyPart (t - 32)).map fun t => (s.supplyRt (t - 32)).corr
  if l.isEmpty then 0 else roundDiv (l.foldl (· + ·) 0) l.length

/-- Word 61 and SUPPLY_CORR at a tick (R147). -/
def State.supplyStep (s : State) (c : Nat) : State :=
  if s.cget CTX_LOOP_CTRL.SUPPLY_FF c = 1 then
    let corr := s.supplyCorr c
    (s.csetI CW42.SUPPLY_CORR c corr).csetI CW61.TX_CAL c (dbField (s.cgetI CW42.TX_CAL_NOM c + corr))
  else s

/-! Measurements (R145, R146). -/

/-- One second of device time. -/
def secondTicks : Nat := 245760000

/-- A level of the datapath, in 1/64 dB of converter full scale, is valid at or above the measurement floor (R146). -/
def State.levelOk (s : State) (x : Option Int) : Option Int := x.filter fun v => decide (s.fgetI CEN_MEAS_X.MEAS_FLOOR 0 ≤ v)

/-- The field of a level after a tick: the value, or the last one while the context runs and no second has passed. -/
def levelField (runs : Bool) (v : Option Int) (old : Int) (age dt : Nat) : Int :=
  match v with
  | some x => dbField x
  | none => if runs && decide (dt < age + secondTicks) then old else noValue

/-- Step 4: the levels of the tick enter words 8 and 9. -/
def State.measure (s : State) (c : Nat) (inp outp : Option Int) : State :=
  let runs := ctxRuns (s.ctxState c)
  let i := (s.levelOk inp).map fun v => v - s.cgetI CW60.RX_CAL c
  let o := (s.levelOk outp).map fun v => v + s.cgetI CW61.TX_CAL c
  let r := s.ctxRt c
  let r := { r with inDt := if i.isSome then s.dt else r.inDt, outDt := if o.isSome then s.dt else r.outDt }
  let t := (s.csetI CTX_MEAS_POWER.IN_POWER c (levelField runs i (s.cgetI CTX_MEAS_POWER.IN_POWER c) r.inDt s.dt)).csetI
    CTX_MEAS_POWER.OUT_POWER c (levelField runs o (s.cgetI CTX_MEAS_POWER.OUT_POWER c) r.outDt s.dt)
  if !runs then t.setCtxRt c r
  else
    match i, o with
    | some a, some b =>
      let raw := (b - a) * gainUnit
      let m := match r.meas with
        | none => raw
        | some m => m + openRound s.freeVal (raw - m) (2 ^ s.cget CW44.MEAS_SHIFT c)
      (t.csetI CTX_MEAS_GAIN.MEAS_GAIN c (shownGain m)).tookFree.setCtxRt c { r with meas := some m, measDt := s.dt }
    | _, _ =>
      if r.meas.isSome ∧ r.measDt + secondTicks ≤ s.dt then
        (t.csetI CTX_MEAS_GAIN.MEAS_GAIN c noValue).setCtxRt c { r with meas := none }
      else t.setCtxRt c r

/-! Proposals (R149 to R153). -/

/-- NOLIMIT in units of 2^-16 dB. -/
def gNoLimit : Int := 0x7FFF * 1024

/-- The proposals of a tick. -/
structure Props where
  g1 : Int
  g2 : Int
  g3 : Int
  g4 : Int
  g5 : Int
  target : Int
deriving DecidableEq, Repr

/-- A proposal held to its range (R149). -/
def propHold (g : Int) : Int := if g = gNoLimit then g else clampI (-32767 * 1024) (32766 * 1024) g

/-- A proposal that did not bind stays so; a held one counts. -/
def propSat (g : Int) : Nat := if propHold g = g then 0 else 1

/-- A field's value in units of 2^-16 dB. -/
def up (x : Int) : Int := x * gainUnit

/-- p_tgt of R150, in 1/64 dB. -/
def State.targetPower (s : State) (c : Nat) : Int :=
  let p := min (s.cgetI CTX_POWER.SHARE_POWER c) (s.cgetI CTX_POWER.MAX_POWER c)
  let g := s.cgetI CTX_GRANT.GRANT c
  if g = noValue then p else min p g

/-- FE_CAP of a port (R275): a fronthaul stream has none, and none counts as no limit. -/
def State.feCap (s : State) (n : Nat) : Int :=
  if s.fget CHN_STREAM.LINK (32 + n) ≠ 0 ∨ s.fgetI FEL_MM.FE_CAP n = noValue then noLimit else s.fgetI FEL_MM.FE_CAP n

/-- C of R275: none is no limit. -/
def State.frontCap (s : State) (c : Nat) : Option Int :=
  let ports := (s.ctxDests c).map (· - 32)
  let inn := ports.filter fun n => !(decide (s.fget CHN_STREAM.LINK (32 + n) = 0) && decide (4 ≤ s.fget FEL_MM.STATE n))
  (highest (inn.map s.feCap)).filter fun x => decide (x ≠ noLimit)

/-- head of R150, R151 and R275, in 1/64 dB; none is no limit. -/
def State.headroom (s : State) (c : Nat) : Option Int :=
  let h := s.cgetI CW43.HEADROOM c
  let reg := s.cgetI CW46.REG_POWER c
  let base : Option Int := if reg = noValue then none else
    some (reg - h + (if s.fon CEN_THERM.THROTTLE 0 then s.fgetI CEN_THERM.THERM_DERATE 0 else 0))
  let grant := s.cgetI CTX_GRANT.GRANT c
  let l2 : Option Int := if s.cget CTX_LOOP_CTRL.L2_EN c = 0 ∧ grant ≠ noValue then some (grant - h) else none
  let cap : Option Int := (s.frontCap c).map fun x => x - h
  lowest ([base, l2, cap].filterMap id)

/-- Step 5: the proposals (R150); `i` and `o` say whether IN_POWER and OUT_POWER are valid this tick. -/
def State.propose (s : State) (c : Nat) (i o : Bool) : Props :=
  let r := s.ctxRt c
  let target := s.targetPower c
  let g1 := min (up (s.cgetI CTX_GAIN.MAX_GAIN c)) (up (s.cgetI CTX_GAIN.TARGET_GAIN c) + r.i1)
  let g2 :=
    if s.cget CTX_LOOP_CTRL.L2_EN c = 0 then gNoLimit
    else if i then up (target - s.cgetI CTX_MEAS_POWER.IN_POWER c) + r.i2
    else r.lastG2.getD gNoLimit
  let permit := s.cgetI CW48.GAIN_PERMIT c
  let p := if permit = noLoop then gNoLimit else up permit
  let g3 :=
    match lowest ((s.loopMargins c).map fun m => m.2) with
    | none => p
    | some x => min p (r.gain + coefMul (Config.freeValue s.free) (s.cget CW36.KP3_M c) (s.cget CW37.KP3_S c) (up x))
  let noise := s.cgetI CW47.NOISE_MEAS c
  let g4 :=
    if !isUplink (s.ctxPath c) then gNoLimit
    else if noise ≠ noValue then r.gain + coefMul (Config.freeValue (s.free + 1)) (s.cget CW38.KP4_M c) (s.cget CW39.KP4_S c) (up (s.cgetI CW47.NOISE_LIM c - noise))
    else r.lastG4.getD (up (s.cgetI CTX_LOOP_CTRL.START_FLOOR c))
  let regGain := s.cgetI CW46.REG_GAIN c
  let g5a := if regGain = noValue then gNoLimit else up regGain
  let g5 :=
    match s.headroom c with
    | some h => if o then min g5a (r.gain + up (h - s.cgetI CTX_MEAS_POWER.OUT_POWER c)) else g5a
    | none => g5a
  ⟨g1, g2, g3, g4, g5, target⟩

/-- The proposals held to their range. -/
def Props.hold (p : Props) : Props := ⟨propHold p.g1, propHold p.g2, propHold p.g3, propHold p.g4, propHold p.g5, p.target⟩

/-- The number of proposals that were held. -/
def Props.sats (p : Props) : Nat := propSat p.g1 + propSat p.g2 + propSat p.g3 + propSat p.g4 + propSat p.g5

/-- The lowest candidate, on a tie the higher loop number (R155): loop and gain. -/
def lowestLoop : List (Nat × Int) → Nat × Int
  | [] => (5, gNoLimit)
  | [x] => x
  | x :: t => if x.2 < (lowestLoop t).2 then x else lowestLoop t

/-- The winning loop of a tick (R155): in HELD only L3, L4 and L5 take part. -/
def Props.winner (p : Props) (held : Bool) : Nat × Int :=
  let high := [(3, p.g3), (4, p.g4), (5, p.g5)]
  lowestLoop (if held then high else (1, p.g1) :: (2, p.g2) :: high)

/-- The result of step 6: gain, state, change limited, hand-over. -/
structure Move where
  gain : Int
  st : Nat
  bound : Bool
  handover : Bool
deriving DecidableEq, Repr

/-- Step 6 (R155, R156): from a gain and a state toward the winning gain. DESIGN CHOICE (log 219): CLAMP_HANDOVER rises only where a context takes
the fall (R174), not in a state in which step 6 moves no gain. -/
def moveGain (st : Nat) (g gw step ramp : Int) (clamp : Bool) (win : Nat) : Move :=
  let handover := clamp && decide (win = 3) && decide (gw < g)
  let fall := if handover then gw else max gw (g - step)
  let rise := min gw (g + min ramp step)
  if st = ctxRAMPING then
    let n := if gw < g then fall else rise
    ⟨n, if n = gw then ctxACTIVE else ctxRAMPING, decide (n ≠ gw) || handover, handover⟩
  else if st = ctxHELD then
    if gw < g then ⟨fall, st, decide (fall ≠ gw) || handover, handover⟩ else ⟨g, st, false, false⟩
  else ⟨g, st, false, false⟩

/-- Step 6 in ACTIVE, where a rise beyond the deadband makes the context RAMPING (R155). -/
def moveActive (g gw step ramp dead : Int) (clamp : Bool) (win : Nat) : Move :=
  let handover := clamp && decide (win = 3) && decide (gw < g)
  if g + dead < gw then
    let n := min gw (g + min ramp step)
    ⟨n, ctxRAMPING, decide (n ≠ gw), false⟩
  else
    let n := if handover then gw else max gw (g - step)
    ⟨n, ctxACTIVE, decide (n ≠ gw) || handover, handover⟩

/-- The move of a context at a tick. -/
def State.move (s : State) (c : Nat) (win : Nat × Int) (clamp : Bool) : Move :=
  let r := s.ctxRt c
  let step := up (s.cgetI CW63.STEP_LIMIT c)
  let ramp := openRound (Config.freeValue (s.free + 2)) (up (s.cget CTX_RAMP.RAMP_RATE c)) (tickKhz (s.cget CTX_CTRL.TICK c))
  if s.ctxState c = ctxACTIVE then moveActive r.gain win.2 step ramp (up (s.cgetI CW43.RISE_DEADBAND c)) clamp win.1
  else moveGain (s.ctxState c) r.gain win.2 step ramp clamp win.1

/-- The digital gain limits of R67, in units of 2^-16 dB. -/
def digLow : Int := -70 * 65536
def digHigh : Int := 40 * 65536

/-- The gain stage held the digital gain at a limit in the last interval. -/
def CtxRt.clipped (r : CtxRt) : Bool := decide (r.digFrom < digLow ∨ digHigh < r.digFrom ∨ r.digTo < digLow ∨ digHigh < r.digTo)

/-- Step 7: the winning loop's integrator (R160); `fresh` says that the tick itself has measured both levels, since a value that only stands
(R146) is no clean tick. -/
def State.integrate (s : State) (c : Nat) (p : Props) (win : Nat × Int) (clamp fresh : Bool) : State :=
  let r := s.ctxRt c
  let meas := s.cgetI CTX_MEAS_GAIN.MEAS_GAIN c
  let out := s.cgetI CTX_MEAS_POWER.OUT_POWER c
  let clean := fresh && decide (meas ≠ noValue ∧ out ≠ noValue) && !clamp && !r.clipped && decide (r.gain = win.2)
  let st := s.ctxState c
  if !(clean && decide (st = ctxRAMPING ∨ st = ctxACTIVE)) then s
  else
    let b1 := up (s.cgetI CW41.I1_MAX c)
    let b2 := up (s.cgetI CW41.I2_MAX c)
    let i1 := clampI (-b1) b1 (r.i1 + coefMul (Config.freeValue (s.free + 3)) (s.cget CW32.KI1_M c) (s.cget CW33.KI1_S c) (up (s.cgetI CTX_GAIN.TARGET_GAIN c - meas)))
    let i2 := clampI (-b2) b2 (r.i2 + coefMul (Config.freeValue (s.free + 4)) (s.cget CW34.KI2_M c) (s.cget CW35.KI2_S c) (up (p.target - out)))
    if win.1 = 1 then (s.setCtxRt c { r with i1 := i1 }).csetI CW40.I1 c (shownGain i1)
    else if win.1 = 2 then (s.setCtxRt c { r with i2 := i2 }).csetI CW40.I2 c (shownGain i2)
    else s

/-- The digital gain that the applied gain asks for (R67). -/
def State.digWanted (s : State) (c : Nat) : Int :=
  (s.ctxRt c).gain - up (s.cgetI CW60.RX_CAL c) - up (s.cgetI CW61.TX_CAL c)

/-- Out of a mute, or at START, the gain stage begins at the soft start's own gain: of the interval before it has applied none. DESIGN CHOICE
(log 177): the spec states no gain of an output of zero from which R67 could move. -/
def State.stageRestart (s : State) (c : Nat) : State := s.setCtxRt c { s.ctxRt c with digTo := s.digWanted c }

/-- Step 8: words 8, 10 and 16 to 18, and the digital gain asked for (R67, R143); word 62 follows at the sample blocks. -/
def State.output (s : State) (c : Nat) (p : Props) (win : Nat × Int) : State :=
  let r := s.ctxRt c
  let t := (s.csetI CTX_PROP_A.G1 c (shownGain p.g1)).csetI CTX_PROP_A.G2 c (shownGain p.g2)
  let t := ((t.csetI CTX_PROP_B.G3 c (shownGain p.g3)).csetI CTX_PROP_B.G4 c (shownGain p.g4)).csetI CTX_PROP_C.G5 c (shownGain p.g5)
  let t := (t.csetI CTX_PROP_C.G_WIN c (shownGain win.2)).cset CTX_STATUS.WIN_LOOP c win.1
  let t := t.csetI CTX_MEAS_GAIN.APPLIED_GAIN c (shownGain r.gain)
  t.setCtxRt c { r with digFrom := r.digTo, digTo := s.digWanted c, digAt := r.lastTick }

/-! The following-error supervisor (R163, R164). -/

/-- A following error of a context: kind 1 gain, 2 power, 3 both (R164). -/
def State.followingError (s : State) (c kind : Nat) : State :=
  let t := (s.raiseMute c 4).pulse pgCEN 0
  let t := (t.fset CEN_FE_LAST.KIND 0 kind).fset CEN_FE_LAST.CTX 0 c
  ((t.fbump CEN_STAT.FE_FAULTS 0).drive 100 true).post 0x3001 c kind 0

/-- The supervisor's timer takes a value, shown in whole milliseconds. -/
def State.setFeTimer (s : State) (c n : Nat) : State :=
  (s.setCtxRt c { s.ctxRt c with feTimer := n }).cset CW45.FE_TIMER c (n / tickKhz (s.cget CTX_CTRL.TICK c))

/-- What the supervisor does after a tick (R163); `before` is the gain at the start of the tick and `prev` the one before it. Without a
measurement of this tick's own (`fresh`) the timer holds (R146). -/
def State.supervise (s : State) (c : Nat) (p : Props) (win : Nat) (clamp fresh : Bool) (prev before : Int) : State :=
  let meas := s.cgetI CTX_MEAS_GAIN.MEAS_GAIN c
  let out := s.cgetI CTX_MEAS_POWER.OUT_POWER c
  if s.cget CTX_LOOP_CTRL.FE_EN c = 0 ∨ ctxRuns (s.ctxState c) = false then s.setFeTimer c 0
  else if clamp || !fresh || decide (meas = noValue) then s
  else
    let eg := dbField (roundDiv (2 * up meas - prev - before) 2048)
    let ep : Option Int := if win = 2 ∧ out ≠ noValue then some (dbField (out - p.target)) else none
    let gl := s.cgetI CTX_FE_LIM.FE_GAIN_LIM c
    let pl := s.cgetI CTX_FE_LIM.FE_POWER_LIM c
    let gOver := decide (gl < (eg.natAbs : Int))
    let pOver := ep.any fun e => decide (pl < (e.natAbs : Int))
    let under := decide (2 * (eg.natAbs : Int) ≤ gl) && !(ep.any fun e => decide (pl < 2 * (e.natAbs : Int)))
    let n := (s.ctxRt c).feTimer
    let n := if gOver || pOver then n + 1 else if under then 0 else n
    let t := ((s.csetI CTX_FE_STAT.E_GAIN c eg).csetI CTX_FE_STAT.E_POWER c (ep.getD noValue)).setFeTimer c n
    let t := (t.cset CW45.FE_GAIN_OVER c (if gOver then 1 else 0)).cset CW45.FE_POWER_OVER c (if pOver then 1 else 0)
    if s.cget CTX_FE_TIME.FE_TIME_MS c * tickKhz (s.cget CTX_CTRL.TICK c) ≤ n ∧ 0 < n then
      t.followingError c ((if gOver then 1 else 0) + (if pOver then 2 else 0))
    else t

/-- The following-error fault source falls once no context is muted for it (R164). -/
def State.driveFollowing (s : State) : State :=
  if s.driven 100 && !(s.liveCtxs.any fun c => s.mutedFor c 4 || (s.ctxRt c).raised.testBit 4) then s.drive 100 false else s

/-- An FE_ACK taken at a tick (R164, R161). -/
def State.feAckStep (s : State) (c : Nat) : State :=
  if !(s.ctxRt c).feAck then s
  else
    let t := s.setCtxRt c { s.ctxRt c with feAck := false }
    if t.mutedFor c 4 then
      let t := (t.setCtxRt c { t.ctxRt c with i1 := 0, i2 := 0 }).setFeTimer c 0
      let t := (t.cset CW40.I1 c 0).cset CW40.I2 c 0
      (t.muteRemove c 4).driveFollowing
    else t.cmdResult c 2

/-- FE_ACK: the acknowledgement that a context holds acts (R164). -/
def execFeAck (ctx : Fin 4096) (s : State) : Host.Outcome State Fault Refusal := .next (s.feAckStep ctx.val)

/-! One tick (R144). -/

/-- A cause that its owning chapter has cleared leaves the set at step 1; a MUTED context whose set is then empty is RAMPING, and its soft start
waits for step 3, behind the words that are written at step 2 (R76, R144, R159). -/
def State.muteLift (s : State) (c cause : Nat) : State :=
  if s.mutedFor c cause then
    let t := s.setMutes c (s.muteSet c - 2 ^ (cause - 1))
    if s.ctxState c = ctxMUTED ∧ s.muteSet c = 2 ^ (cause - 1) then
      let t := t.setCtxState c ctxRAMPING
      t.setCtxRt c { t.ctxRt c with softDue := true }
    else t
  else s

/-- Step 1: the protection mutes raised and cleared since the last tick (R78). -/
def State.muteStep (s : State) (c : Nat) : State :=
  let r := s.ctxRt c
  let s := s.setCtxRt c { r with raised := 0, cleared := 0 }
  let s := [2, 3, 4, 5].foldl (fun s k => if r.raised.testBit k then s.muteAdd c k else s) s
  ([2, 3, 4, 5].foldl (fun s k => if r.cleared.testBit k then s.muteLift c k else s) s).driveFollowing

/-- The soft start of a mute that ended at step 1 (R158, R159). -/
def State.softStep (s : State) (c : Nat) : State :=
  if !(s.ctxRt c).softDue then s
  else
    let s := s.setCtxRt c { s.ctxRt c with softDue := false }
    if s.ctxState c = ctxRAMPING then s.setCtxRt c { s.ctxRt c with gain := s.softFrom c } else s

/-- Step 3: the soft start of an ended mute, a drain ordered by the path or a swap, the held command, and the soft start of a new set-point
(R74, R79, R159). -/
def State.commandStep (s : State) (c : Nat) : State :=
  let s := s.softStep c
  let st := s.ctxState c
  let s := if (s.ctxRt c).drainReq && (ctxRuns st || decide (st = ctxMUTED)) then s.drain c else s.setCtxRt c { s.ctxRt c with drainReq := false }
  let cmd := (s.ctxRt c).cmd
  let s := if cmd = 0 then s else s.ctxCommand c cmd
  let again := (s.ctxRt c).retarget
  let s := s.setCtxRt c { s.ctxRt c with retarget := false }
  if again && decide (s.ctxState c = ctxRAMPING ∨ s.ctxState c = ctxACTIVE) then s.softStart c else s

/-- The drain of a context completes at this tick (R79). -/
def State.drainStep (s : State) (c : Nat) : State :=
  if decide (s.ctxState c = ctxDRAINING) && decide ((s.ctxRt c).drainEnd ≤ s.dt) then
    ((s.setCtxState c ctxCONFIGURED).setCtxRt c { s.ctxRt c with drainReq := false, raised := 0, cleared := 0 }).pulse pgCHN 1
  else s

/-- The engine evaluates the context (R142): it holds a pool entry and is in RAMPING, ACTIVE, HELD, MUTED or DRAINING. -/
def State.evaluates (s : State) (c : Nat) : Bool := (s.ctxRt c).slot.isSome && decide (ctxRAMPING ≤ s.ctxState c)

/-- Steps 5 to 8 and the supervisor; `i` and `o` say whether the tick's levels are valid. -/
def State.loopStep (s : State) (c : Nat) (i o : Bool) (prev before : Int) : State :=
  let raw := s.propose c i o
  let p := raw.hold
  let clamp := s.clampFlag c
  let win := p.winner (decide (s.ctxState c = ctxHELD))
  let m := s.move c win clamp
  let t := s.saturateN pgCEN raw.sats
  let t := if m.handover then t.pulse pgCEN 4 else t
  let t := if m.st = s.ctxState c then t else t.setCtxState c m.st
  let g4 := if s.cgetI CW47.NOISE_MEAS c = noValue then (s.ctxRt c).lastG4 else some p.g4
  let t := t.setCtxRt c { t.ctxRt c with gain := m.gain, gainPrev := before, bound := m.bound, lastG2 := some p.g2, lastG4 := g4 }
  let t := { (t.integrate c p win clamp (i && o)).output c p win with free := s.free + 5 }
  t.supervise c p win.1 clamp (i && o) prev before

/-- The inputs of a tick: supply, levels, margin, permission, noise and regulatory ceilings (steps 1, 2 and 4). -/
def State.inputStep (s : State) (c : Nat) (inp outp : Option Int) : State :=
  let s := (s.supplyStep c).measure c inp outp
  let s := (s.updatePermit c).csetI CW48.MARGIN c ((lowest ((s.loopMargins c).map fun m => m.1)).getD noLoop)
  let s := ((s.updateReg c).updateNoise c).showNoise (s.ctxPath c)
  s.cond pgNPR 7 s.noiseHigh

/-! Isolation windows, back to back (R127). -/

/-- An instance covers a context: one of its loops runs from the instance's stream to a stream that the instance covers (R115). -/
def State.coversCtx (s : State) (n c : Nat) : Bool := (s.loopsOf c).any fun l => decide (l.1 = n) && s.covers n l.2

/-- A radiating context reads WIN_LOOP = 3 with its gain at GAIN_PERMIT (R127). -/
def State.atPermit (s : State) (c : Nat) : Bool :=
  ctxRuns (s.ctxState c) && decide (s.cget CTX_STATUS.WIN_LOOP c = 3 ∧ s.cgetI CTX_MEAS_GAIN.APPLIED_GAIN c = s.cgetI CW48.GAIN_PERMIT c)

/-- Such a context is covered by the instance. -/
def State.isoPressed (s : State) (n : Nat) : Bool := s.liveCtxs.any fun c => s.atPermit c && s.coversCtx n c

/-- At a tick of such a context, an instance that covers it and runs no window begins one. -/
def State.isoPress (s : State) (c : Nat) : State :=
  if s.atPermit c then
    (List.range 32).foldl (fun s n => if s.isoReady n && s.coversCtx n c then s.isoStart n else s) s
  else s

/-! The digital gain of a block and its bound (R67, R79, R234). -/

/-- The sine of n ÷ d of a quarter turn in units of 2^-40, by its series. -/
def quarterSine (n d : Nat) : Nat :=
  let z := 1727108826180 * n / d
  let zz := z * z / linOne
  [210, 156, 110, 72, 42, 20, 6].foldl (fun acc k => linOne - zz * acc / (linOne * k)) linOne * z / linOne

/-- What a drain takes from the digital gain, n of its d ticks after its start, in 2^-16 dB (R79): the amplitude falls as (1 + cos πn÷d) ÷ 2,
the square of the sine of what is left of the quarter turn; to the nearest 1/64 dB. -/
def drainLoss (n d : Nat) : Int :=
  let q := quarterSine (d - n) d
  match linToDb (q * q / linOne * (q * q / linOne)) (linOne * linOne) with
  | some db => db * gainUnit
  | none => digLow

/-- The digital gain of a context at this block, before the bound, in 2^-16 dB (R67, R106); in DRAINING, what the ramp to mute leaves of it (R79). -/
def State.digNow (s : State) (c : Nat) : Int :=
  let r := s.ctxRt c
  let sp := tickSpacing (s.cget CTX_CTRL.TICK c)
  let dig := clampI digLow digHigh (r.digFrom + (r.digTo - r.digFrom) * (min (s.dt - r.digAt) sp : Nat) / (sp : Int))
  if s.ctxState c = ctxDRAINING then dig + drainLoss (s.dt - r.drainStart) (ticksOfUs (s.cget CTX_RAMP.DRAIN_US c)) else dig

/-- The highest digital gain that the covering entry's MAX_GAIN leaves a context, in 2^-16 dB; none without an entry. -/
def State.digBound (s : State) (c : Nat) : Option Int :=
  match s.coverOf c with
  | none => none
  | some e =>
    lowest ((s.readsOf (s.ctxPath c)).flatMap fun n => (s.ctxDests c).map fun t => ((s.entryOf e).maxGain - s.rxc n - s.txc t) * gainUnit)

end Sys2Proof.Machine
end

