-- ==== Sys2Proof/Machine/Ggr.lean ====
section
/-!
DEFINITION. Chapter 7: the gain grid: row times, the grid gate's reads, the write port, the writers' queues, the noise gate.
-/
namespace Sys2Proof.Machine

/-! Row times (R175 to R177, R183, R184). Times in 1/3,125 tick: 768 of them are 1 ns. -/

/-- The rows of a frame. -/
def gridRows : Nat := 280

/-- start(r) less the frame's boundary, in ticks (R176). -/
def rowOffset (r : Nat) : Nat := 122880 * (r / 14) + (if r % 14 = 0 then 0 else 128 + 8768 * (r % 14))

/-- 1 µs and 1 tick in 1/3,125 tick. -/
def qUs : Int := 768000
def qTick : Int := 3125

def State.pathGrid (s : State) (p : Nat) : PathGrid := Tbl.get (fun _ => {}) s.ggr.paths p

def State.setPathGrid (s : State) (p : Nat) (r : PathGrid) : State := { s with ggr := { s.ggr with paths := Tbl.set (fun _ => {}) s.ggr.paths p r } }

/-- The timing group of a path. -/
def State.groupOf (s : State) (p : Nat) : Nat := s.fget CHN_PATH_CFG.TGROUP p

/-- From the grid gate to the transmit lane in eighths of a nanosecond, by the table of R70: 203.5 ns, and on a low-latency path 125.3 ns (to
the nearest eighth, in which images state latencies, R87). -/
def State.gateToLane8 (s : State) (p : Nat) : Int := if s.fon CHN_PATH_STAT.PROFILE p then 1002 else 1628

/-- T_gate less the row's start, in eighths of a nanosecond (R177): the reference point is the donor transmit lane on an uplink path, the
donor receive lane on a downlink path. On a fibre-fed uplink path the reference is the write into XC04, 57.0 ns before that lane (R301); on a
fibre-fed downlink path LATENCY itself counts from the reference. -/
def State.gateLag8 (s : State) (p : Nat) (offset : Int) : Int :=
  if !s.placed p then 8 * offset
  else if !isUplink p then 8 * offset - s.gateToLane8 p + (s.fget CHN_PATH_STAT.LATENCY p : Int)
  else if s.fget CHN_STREAM.LINK (32 + s.fget CHN_PATH_CFG.DONOR p) = 0 then 8 * offset - s.gateToLane8 p
  else 8 * offset - s.gateToLane8 p + 456

/-- The gate times of a path are placed, and the lag is shown (R177, R185): at an image swap and where the offset changes, and where a
change of the donor or of its link moves the reference point (DEDUCED, log 187). A window that commits moves none. -/
def State.refreshLag (s : State) (p : Nat) (offset : Int) : State :=
  let l := s.gateLag8 p offset
  (s.setPathGrid p { s.pathGrid p with offset := offset, lag8 := l }).fsetI GGR_PSTAT.LAG_NS p (clampI (-32768) 32767 (roundDiv l 8))

/-- T_read of a row in the frame d frames after the current one (R183). -/
def State.tRead (s : State) (p r : Nat) (d : Int) : Int :=
  qTick * (s.frameStart (s.groupOf p) d + rowOffset r) + 96 * (s.pathGrid p).lag8 - qUs

/-- T_freeze (R184). -/
def State.tFreeze (s : State) (p r : Nat) (d : Int) : Int := s.tRead p r d - 17536 * qTick

/-- Device time in 1/3,125 tick. -/
def State.nowQ (s : State) : Int := qTick * s.dt

/-- A time in 1/3,125 tick as the first tick at or after it. -/
def tickOfQ (q : Int) : Nat := (-((-q) / qTick)).toNat

/-- The frame, from the current one, whose read of the row comes next by the row's times (R183). -/
def State.nextRead (s : State) (p r : Nat) : Int :=
  if s.nowQ < s.tRead p r (-1) then -1
  else if s.nowQ < s.tRead p r 0 then 0
  else if s.nowQ < s.tRead p r 1 then 1
  else 2

/-! Rows. -/

/-- The code that a wipe leaves (R183). -/
def State.baseOf (s : State) (p : Nat) : Nat := s.fget GGR_PCFG.BASE p

/-- A(r) of a row as its last wipe set it. -/
def State.storedArm (s : State) (p : Nat) (row : GridRow) : Option Nat := row.armed.map fun a => (a + (s.pathGrid p).armBase) % 2 ^ 32

/-- The row as it stands, with A(r), in frames from the current one: a row whose read has passed unread is wiped and armed (R185). -/
def State.rowAt (s : State) (p r : Nat) : GridRow × Int :=
  let row := Tbl.get (fun _ => {}) s.ggr.rows (gridRows * p + r)
  let byTime := s.nextRead p r
  match s.storedArm p row with
  | some a =>
    let d := ordDiff a (s.groupOrd (s.groupOf p))
    if byTime ≤ d then (row, d) else ({ base := s.baseOf p }, byTime)
  | none => ({ row with base := s.baseOf p }, byTime)

/-- The ordinal of the frame d frames after the current one. -/
def State.ordAt (s : State) (p : Nat) (d : Int) : Nat := (((s.groupOrd (s.groupOf p) : Int) + d) % 2 ^ 32).toNat

/-- Writing a row that is armed for the frame d frames after the current one. -/
def State.setRow (s : State) (p r : Nat) (row : GridRow) (d : Int) : State :=
  let a := ((s.ordAt p d : Int) - (s.pathGrid p).armBase) % 2 ^ 32
  { s with ggr := { s.ggr with rows := Tbl.set (fun _ => {}) s.ggr.rows (gridRows * p + r) { row with armed := some a.toNat } } }

/-- Every row of a path written out as it stands: a BASE that changes is in force from each row's next wipe only (R188). -/
def State.holdRows (s : State) (p : Nat) : State :=
  (List.range gridRows).foldl (fun t r => t.setRow p r (s.rowAt p r).1 (s.rowAt p r).2) s

/-- A row's code at a strip. -/
def GridRow.code (row : GridRow) (k : Nat) : Nat := Tbl.get (fun _ => row.base) row.cells k

/-- Writing a row's code at a strip. -/
def GridRow.setCode (row : GridRow) (k c : Nat) : GridRow := { row with cells := Tbl.set (fun _ => row.base) row.cells k c }

/-! The grid fields of word 20, which act from the next row armed after their write (R200). -/

/-- Word 20 for a row that was armed by the arming of a number: the word as it stood then. -/
def wordForRow (live : Word) (arm : Nat) : List (Word × Nat) → Word
  | [] => live
  | (old, n) :: rest => if n < arm then live else wordForRow old arm rest

/-- Word 20 of a context as it acts on a row of its path. -/
def State.gridWordAt (s : State) (c r : Nat) : Word :=
  wordForRow (s.cword c 20) (Tbl.get (fun _ => 0) (s.pathGrid (s.ctxPath c)).armedAt r) (s.ctxRt c).gridWas

/-- Rows of a path are armed: the grid fields written before act on them from here (R200), and the cell listener deals with them next (R195). -/
def State.rowsArmed (s : State) (p : Nat) (rows : List Nat) : State :=
  let g := s.pathGrid p
  let n := s.ggr.arms + 1
  let at_ := rows.foldl (fun t r => Tbl.set (fun _ => 0) t r n) g.armedAt
  ({ s with ggr := { s.ggr with arms := n } }).setPathGrid p
    { g with armedAt := at_, armedSince := (g.armedSince.filter fun r => !rows.contains r) ++ rows }

/-- Wiping and arming every row of a path: a change of TGROUP (R185). -/
def State.rearmGrid (s : State) (p : Nat) : State :=
  let t := { s with ggr := { s.ggr with rows := s.ggr.rows.filter fun e => decide (e.1 / gridRows ≠ p) } }
  (t.setPathGrid p { t.pathGrid p with last := none, armBase := 0 }).rowsArmed p (List.range gridRows)

/-- A(r) of GGR_RD_FRAME (R198). -/
def State.gridOrdinal (s : State) (p r : Nat) : Nat := s.ordAt p (s.rowAt p r).2

/-- The cells of GGR_RD_DATA (R198): eight strips from 8 times the group. -/
def State.gridWord (s : State) (p r group : Nat) : Nat :=
  ((List.range 8).map fun i => ((s.rowAt p r).1.code (8 * group + i) % 16) * 16 ^ i).sum

/-! The grid gate (R181, R182). -/

/-- The level of a cell for the gate: a reserved code and a cell of a bad word read as MUTE, HOLD takes the previous level. -/
def levelOf (code prev : Nat) : Nat :=
  if code % 8 = 7 then 0 else if code % 8 = 6 then prev else code % 8

/-- The level that the gate takes at a strip in the row read last. -/
def PathGrid.level (g : PathGrid) (k : Nat) : Nat := Tbl.get (fun _ => g.prevBase) g.prev k

/-- The row read last, as one of the rows before the next. -/
def PathGrid.asPast (g : PathGrid) : List PastRow := match g.last with | some r => [⟨r, g.prevBase, g.prev, g.denied⟩] | none => []

/-- A row as the gate applied it: one of the last rows read, and the row read last where none of that number has been (R185: HOLD). -/
def PathGrid.rowOf (g : PathGrid) (r : Nat) : PastRow :=
  match (g.asPast ++ g.past).find? fun x => decide (x.row = r) with
  | some x => x
  | none => ⟨r, g.prevBase, g.prev, g.denied⟩

/-- The level that the gate applied to a context's strip in a row: NOMINAL for a BOOST that it denied (R181). -/
def PastRow.applied (x : PastRow) (c k : Nat) : Nat := if x.denied.contains (c, k) then 4 else Tbl.get (fun _ => x.base) x.cells k

/-- The strips of which a row or the row before it lists anything. -/
def GridRow.listed (row : GridRow) (g : PathGrid) : List Nat :=
  row.cells.map (fun e => e.1) ++ g.prev.map (fun e => e.1) ++ (row.bad.map fun w => (List.range 16).map fun i => 16 * w + i).flatten

/-- The level of a strip of a row that is read (R181, R182). -/
def GridRow.resolved (row : GridRow) (g : PathGrid) (k : Nat) : Nat :=
  if row.bad.contains (k / 16) then 0 else levelOf (row.code k) (g.level k)

/-- The gate reads a row. -/
def PathGrid.take (g : PathGrid) (row : GridRow) (r : Nat) : PathGrid :=
  let base := levelOf row.base g.prevBase
  let cells := (row.listed g).foldl (fun t k => Tbl.set (fun _ => base) t k (row.resolved g k)) []
  { g with past := (g.asPast ++ g.past).take 4, prevBase := base, prev := cells, last := some r }

/-- The strips of a context (R178). -/
def State.stripsOf (s : State) (c : Nat) : List Nat :=
  let first := s.stripFirst c
  ((List.range (s.cget CTX_STRIPS.STRIP_COUNT c)).filter fun j : Nat => decide (0 ≤ first + (j : Int) ∧ first + (j : Int) < 3456)).map
    fun j : Nat => (first + (j : Int)).toNat

/-- A context's carrier admits boost (R181, R234): its covering entry permits it, and 3 dB above the applied gain lie within its MAX_GAIN. -/
def State.boostOk (s : State) (c : Nat) : Bool :=
  (match s.coverOf c with | some e => (s.entryOf e).boostOk | none => false) &&
    (match s.digBound c with | some b => decide (s.digNow c + 192 * gainUnit ≤ b) | none => true)

/-- A context takes part in the sample plane of its path: a state from RAMPING on. -/
def State.inPlane (s : State) (c : Nat) : Bool := decide (ctxRAMPING ≤ s.ctxState c)

/-- The context strips of a path at which a row just read applies NOMINAL for BOOST (R181): a BOOST cell where boost is not permitted, a HOLD
cell where the row before did. -/
def State.deniedIn (s : State) (p : Nat) (row : GridRow) : List (Nat × Nat) :=
  let g := s.pathGrid p
  (s.ctxsOfPath p).flatMap fun c =>
    ((s.stripsOf c).filter fun k =>
      decide (g.level k = 5) && (if row.code k % 8 = 6 then g.denied.contains (c, k) else !s.boostOk c)).map fun k => (c, k)

/-- The gate applies BOOST to a strip of a context in the row read last (R181). -/
def State.boosts (s : State) (c k : Nat) : Bool :=
  let g := s.pathGrid (s.ctxPath c)
  decide (g.level k = 5) && !g.denied.contains (c, k)

/-- Boost cells of a row that a context's entry does not permit are counted and raise BOOST_DENIED (R181). -/
def State.denyBoost (s : State) (p : Nat) (row : GridRow) : State :=
  let l := s.deniedIn p row
  let t := s.setPathGrid p { s.pathGrid p with denied := l }
  (s.ctxsOfPath p).foldl (fun t c =>
    if s.inPlane c && l.any (fun x => decide (x.1 = c ∧ row.code x.2 % 8 ≠ 6)) then (t.cbump CTX_GRID_STAT.BOOST_DENIED c).pulse pgGGR 4 else t) t

/-- The row's time lies before the group's next boundary. -/
def State.beforeNext (s : State) (p : Nat) (q : Int) : Bool := decide (q < qTick * s.frameStart (s.groupOf p) 1)

/-- GRID_ROW_FREEZE: a row reaches T_freeze (R184). -/
def execGridRowFreeze (path : Fin 32) (row : Fin 280) (s : State) : Host.Outcome State Fault Refusal :=
  .next (
    let r := s.rowAt path.val row.val
    if s.member.present path.val && s.beforeNext path.val (s.tFreeze path.val row.val r.2) then
      (s.advanceTo (tickOfQ (s.tFreeze path.val row.val r.2))).setRow path.val row.val { r.1 with frozen := true } r.2
    else s)

/-- The gate reads a row, which is wiped and armed for the next frame (R183, R185). -/
def State.readRow (s : State) (p r : Nat) (row : GridRow) (d : Int) : State :=
  let g := s.pathGrid p
  let skip := match g.last with | some l => decide ((l + 1) % gridRows ≠ r) | none => false
  let t := s.advanceTo (tickOfQ (s.tRead p r d))
  let t := (t.setPathGrid p (g.take row r)).fset GGR_PSTAT.ROW p r
  let t := t.denyBoost p row
  let t := if skip then t.pulse pgGGR 3 else t
  let t := if row.bad.isEmpty then t else t.drive 97 false
  let armed := match g.last with | some l => (List.range ((r + gridRows - l - 1) % gridRows + 1)).map fun j => (l + 1 + j) % gridRows | none => [r]
  (t.setRow p r { base := t.baseOf p } (d + 1)).rowsArmed p armed

/-- GRID_ROW_READ: the gate reads a row at T_read, wipes it and arms it (R183). -/
def execGridRowRead (path : Fin 32) (row : Fin 280) (s : State) : Host.Outcome State Fault Refusal :=
  .next (
    let r := s.rowAt path.val row.val
    if s.works pgGGR && s.member.present path.val && s.beforeNext path.val (s.tRead path.val row.val r.2) then s.readRow path.val row.val r.1 r.2 else s)

/-- GRID_ECC_ERROR: a word of 16 cells of a row has an error as it is read (R182). -/
def execGridEccError (path : Fin 32) (row : Fin 280) (word : Fin 216) (double : Bool) (s : State) : Host.Outcome State Fault Refusal :=
  .next (
    if !s.member.present path.val then s
    else if double then
      let r := s.rowAt path.val row.val
      let t := s.setRow path.val row.val { r.1 with bad := (r.1.bad.filter fun w => decide (w ≠ word.val)) ++ [word.val] } r.2
      ((t.fbump GGR_ECC.UNCORR 0).pulse pgGGR 6).drive 97 true
    else (s.fbump GGR_ECC.CORR 0).pulse pgGGR 5)

/-! Writers and queues (R186 to R190). -/

def wrHOST : Nat := 0
def wrSIDE : Nat := 1
def wrLISTENER : Nat := 2
def wrNOISE : Nat := 3

/-- Descriptors that a writer's queue holds. -/
def State.gridQueue (s : State) (w : Nat) : List GridDesc := Tbl.get (fun _ => []) s.ggr.queues w

/-- A writer's queue takes a value; FILL and Q_HIGH follow (R190). -/
def State.setGridQueue (s : State) (w : Nat) (l : List GridDesc) : State :=
  let t := { s with ggr := { s.ggr with queues := Tbl.set (fun _ => []) s.ggr.queues w l } }
  (t.fset GGR_Q.FILL w l.length).highMark pgGGR (8 + w) l.length (s.fget GGR_Q.HI_MARK w) (s.fget GGR_Q.HYST w)

/-- Free credits of a writer's queue. -/
def State.gridCredits (s : State) (w : Nat) : Nat := s.fget GGR_Q.DEPTH w - (s.gridQueue w).length

/-- A descriptor enters a queue. -/
def State.pushGrid (s : State) (w : Nat) (d : GridDesc) : State := s.setGridQueue w (s.gridQueue w ++ [d])

/-- The listener's descriptors that wait enter as credit returns (R190). -/
def State.feedListener (s : State) : State :=
  let n := s.gridCredits wrLISTENER
  let t := { s with ggr := { s.ggr with clWait := s.ggr.clWait.drop n } }
  if s.ggr.clWait.isEmpty then s else t.setGridQueue wrLISTENER (t.gridQueue wrLISTENER ++ s.ggr.clWait.take n)

/-- A writer is enabled for a path (R198): host, side control, listener, and on uplink paths the noise gate. -/
def State.writerOn (s : State) (w p : Nat) : Bool := s.fbit GGR_PCFG.WR_EN p (3 - w) && (decide (w ≠ wrNOISE) || isUplink p)

/-- The writer is the path's authority (R188). -/
def State.isAuthority (s : State) (w p : Nat) : Bool :=
  let a := s.fget GGR_PCFG.AUTH p
  decide ((a = 1 ∧ w = wrSIDE) ∨ (a = 2 ∧ w = wrHOST))

/-- The tests of a descriptor before any row (R187): RANGE, NOT_WRITER, NO_TIMING. -/
def State.descRefused (s : State) (w : Nat) (d : GridDesc) : Option Nat :=
  if 6 < d.code ∨ d.rows = 0 ∨ 280 < d.rows ∨ 279 < d.row ∨ d.count = 0 ∨ 3456 < d.first + d.count ∨ 1023 < d.sfn ∨ (d.late ∧ d.code ≠ 0) then some 5
  else if !(decide (d.path < 32) && s.member.present d.path) then some 5
  else if !s.writerOn w d.path then some 6
  else if d.late && !(s.isAuthority w d.path && s.fon GGR_PCFG.LATE_MUTE_EN d.path) then some 6
  else if !d.rel && !s.hasClock (s.groupOf d.path) then some 8
  else none

/-- lower and higher of R188: HOLD gives way to the other level. -/
def lowerLevel (a b : Nat) : Nat := if a = 6 then b else if b = 6 then a else min a b
def higherLevel (a b : Nat) : Nat := if a = 6 then b else if b = 6 then a else max a b

/-- resolve of R188: the new code of a cell. -/
def resolveCell (auth mixHigh replace late : Bool) (old new : Nat) : Nat :=
  if late then 8
  else if auth then
    if decide (8 ≤ old) && !replace then 8 + (if mixHigh then higherLevel (old % 8) new else lowerLevel (old % 8) new) else 8 + new
  else if 8 ≤ old then old
  else lowerLevel old new

/-- A descriptor's strips of a row take their new codes. -/
def GridRow.fill (row : GridRow) (auth mixHigh : Bool) (d : GridDesc) : GridRow :=
  (List.range d.count).foldl (fun row j =>
    row.setCode (d.first + j) (resolveCell auth mixHigh d.replace d.late (row.code (d.first + j)) d.code)) row

/-- A FIXED cell stands in the descriptor's strips. -/
def GridRow.anyFixed (row : GridRow) (d : GridDesc) : Bool := (List.range d.count).any fun j => decide (8 ≤ row.code (d.first + j))

/-- The target frame of a descriptor's next row, from the current one (R186). -/
def State.rowTarget (s : State) (d : GridDesc) (r : Nat) : Int :=
  if d.rel then (s.rowAt d.path r).2
  else
    let cur := s.groupOrd (s.groupOf d.path)
    let first : Int := match d.target with | some t => ordDiff t.toNat cur | none => (((d.sfn : Int) - cur) + 511) % 1024 - 511
    first + ((d.row + d.done) / gridRows : Nat)

/-- A late mute is admitted now (R184): until 1 µs before the row's read. -/
def State.lateAdmitted (s : State) (d : GridDesc) (r : Nat) (f : Int) : Bool := d.late && decide (s.nowQ < s.tRead d.path r f - qUs)

/-- The row is frozen. -/
def State.rowFrozen (s : State) (p r : Nat) (row : GridRow) (f : Int) : Bool := row.frozen || decide (s.tFreeze p r f ≤ s.nowQ)

/-- The status of a row that reaches the port (R187). -/
def State.rowStatus (s : State) (w : Nat) (d : GridDesc) (r : Nat) : Nat :=
  let a := s.rowAt d.path r
  let t := s.rowTarget d r
  if t < a.2 then 4
  else if a.2 < t then 2
  else if s.rowFrozen d.path r a.1 a.2 && !s.lateAdmitted d r a.2 then 3
  else if !d.late && !s.isAuthority w d.path && a.1.anyFixed d then 1
  else 0

/-- RETRY_US of an EARLY row (R187): until the row is armed for its target, rounded up. -/
def State.retryOf (s : State) (d : GridDesc) (r : Nat) : Nat :=
  let q := s.tRead d.path r (s.rowTarget d r - 1) + qUs - s.nowQ
  (-((-q) / qUs)).toNat

/-- What a row that ends does to the sum of its request (R194). -/
def GridSum.row (g : GridSum) (st r entry retry n : Nat) : GridSum :=
  let g := { g with status := max g.status st, retry := max g.retry retry }
  let g := if 2 ≤ st ∧ g.firstRow = 0xFFFF then { g with firstRow := r, firstEntry := entry } else g
  if st < 2 then { g with served := g.served + n }
  else if st = 2 then { g with delayed := g.delayed + n }
  else { g with refused := g.refused + n }

def State.gridSum (s : State) (k : Nat) : GridSum := Tbl.get (fun _ => {}) s.ggr.sums k

def State.setGridSum (s : State) (k : Nat) (g : GridSum) : State := { s with ggr := { s.ggr with sums := Tbl.set (fun _ => {}) s.ggr.sums k g } }

/-- A row of a descriptor is entered in the sum of its request. -/
def State.sumRow (s : State) (d : GridDesc) (st r retry n : Nat) : State :=
  match d.req with
  | none => s
  | some k => s.setGridSum k ((s.gridSum k).row st r d.entry retry n)

/-- The payload of a grid answer (R194). -/
def GridSum.payload (g : GridSum) : List Nat :=
  [g.status % 256, 0] ++ beBytes 2 g.served ++ beBytes 2 g.delayed ++ beBytes 2 g.refused ++ beBytes 2 g.firstRow ++ beBytes 2 g.firstEntry ++ beBytes 4 g.retry

/-- The answer to a grid request (R194, R316): aborted if the function was disabled under it, refused if any row was refused, delayed if any
was early. -/
def GridSum.verdict (g : GridSum) : Verdict :=
  if g.cut then .refused 0x15
  else if 0 < g.refused ∨ 3 ≤ g.status then .refused (if g.notOwner ∧ g.status < 3 then 2 else 0x20 + g.status)
  else if 0 < g.delayed then .delayed 0x22
  else .served

/-- Every descriptor of a request has ended: the packet is answered, or the register write is done (R194, R198). -/
def State.gridEnd (s : State) (k : Nat) : State :=
  let g := s.gridSum k
  let t := s.setGridSum k {}
  if k < 16 then t.finish k g.verdict (if g.cut then g.ended else 0) (if g.verdict = .delayed 0x22 then g.retry else 0) g.payload
  else
    let h := k - 16
    let t := ((t.fset GGR_WR_STAT.PENDING h 0).fset GGR_WR_STAT.DONE h 1).fset GGR_WR_STAT.STATUS h g.status
    (t.fset GGR_WR_STAT.RETRY_US h (min g.retry 32767)).fset GGR_WR_STAT.FIRST_ROW h (g.firstRow % 512)

/-- A descriptor of a request ends. -/
def State.descEnded (s : State) (d : GridDesc) : State :=
  match d.req with
  | none => s
  | some k =>
    let t := s.setGridSum k { s.gridSum k with left := (s.gridSum k).left - 1, ended := (s.gridSum k).ended + 1 }
    if (s.gridSum k).left ≤ 1 then t.gridEnd k else t

/-- The writer's first descriptor leaves its queue and returns its credit (R190). -/
def State.popGrid (s : State) (w : Nat) (d : GridDesc) : State :=
  let t := s.setGridQueue w ((s.gridQueue w).drop 1)
  (if w = wrLISTENER then t.feedListener else t).descEnded d

/-- Counts and events of a row that ends FROZEN or LATE (R187, R199, R200). -/
def State.rowRejected (s : State) (w : Nat) (d : GridDesc) : State :=
  let t := (s.fbump GGR_REJ.REFUSED w).pulse pgGGR 0
  match d.ctx with
  | some c => t.cbump CTX_GRID_STAT.REFUSED_ROWS c
  | none => t

/-- An admitted row is written; a late mute raises LATE_MUTE (R184, R188). -/
def State.applyRow (s : State) (w : Nat) (d : GridDesc) (r : Nat) : State :=
  let a := s.rowAt d.path r
  let t := s.setRow d.path r (a.1.fill (s.isAuthority w d.path) (s.fon GGR_PCFG.MIX d.path) d) a.2
  if d.late then t.pulse pgGGR 2 else t

/-- The next row of the writer's first descriptor is tested and applied (R187). -/
def State.portRow (s : State) (w : Nat) (d : GridDesc) : State :=
  let r := (d.row + d.done) % gridRows
  let st := s.rowStatus w d r
  let target := match d.target with | some t => t | none => (s.ordAt d.path (s.rowTarget d d.row) : Int)
  let t := if st < 2 then s.applyRow w d r else s
  let t := if st = 1 then t.pulse pgGGR 1 else t
  let t := if st = 3 ∨ st = 4 then t.rowRejected w d else t
  let t := t.sumRow d st r (if st = 2 then s.retryOf d r else 0) 1
  let d' := { d with done := d.done + 1, status := max d.status st, target := some target }
  if d.rows ≤ d.done + 1 then t.popGrid w d' else t.setGridQueue w (d' :: (t.gridQueue w).drop 1)

/-- GRID_ROW_APPLY: the next row of a writer's first descriptor reaches the write port (R187, R188). -/
def execGridRowApply (writer : Fin 4) (s : State) : Host.Outcome State Fault Refusal :=
  .next (
    match (if s.works pgGGR then s.gridQueue writer.val else []) with
    | [] => s
    | d :: _ =>
      if d.done = 0 then
        match s.descRefused writer.val d with
        | some st => (s.sumRow d st d.row 0 d.rows).popGrid writer.val d
        | none => s.portRow writer.val d
      else s.portRow writer.val d)

/-! Host writes by register (R197, R198). -/

/-- The staged descriptor of an initiator. -/
def State.stagedDesc (s : State) (h rows : Nat) : GridDesc :=
  { path := s.fget GGR_WR0.PATH h, code := s.fget GGR_WR0.CODE h, row := s.fget GGR_WR0.ROW h, rows := rows
    first := s.fget GGR_WR1.STRIP_FIRST h, count := s.fget GGR_WR1.STRIP_COUNT h, rel := s.fon GGR_WR0.REL h
    replace := s.fon GGR_WR0.REPLACE h, late := s.fon GGR_WR0.LATE h, sfn := s.fget GGR_WR0.SFN h, req := some (16 + h) }

/-- A write of GGR_WR2 (R198): it queues the staged descriptor. -/
def wr2Write (i : Init) (v : Word) (s : State) : WRes :=
  let h := i.holder
  if s.fon GGR_WR_STAT.PENDING h || decide (s.gridCredits wrHOST = 0) then .error .windowBusy
  else
    match s.mergeReg pgGGR 0x088 (GGR_WR2.ROWS.key h) v with
    | .error r => .error r
    | .ok t =>
      let t := ((t.fset GGR_WR_STAT.PENDING h 1).setGridSum (16 + h) { left := 1 })
      .ok (t.pushGrid wrHOST (t.stagedDesc h (bitsOf v 8 0)))

/-- GGR_WR_QUEUE: a write of GGR_WR2 (R197). -/
def execGgrWrQueue (who : Init) (rows : BitVec 9) (s : State) : Host.Outcome State Fault Refusal :=
  .next (s.access who pgGGR 0x088 (rows.setWidth 32) (wr2Write who (rows.setWidth 32)))

/-! The noise gate and the noise estimate (R196, R236). -/

/-- A power in 1/64 dBm, in units of 2^-80 mW. -/
def dbmTo80 (db : Int) : Nat :=
  let q := (2 * db) / 1280
  let f := pow10Frac ((2 * db) % 1280).toNat * 2 ^ 40
  if 0 ≤ q then f * 10 ^ q.toNat else f / 10 ^ (-q).toNat

/-- What a row's end measured in a strip: the power at the grid gate's input and that at the donor transmit stream, in 1/64 dB of converter full
scale. -/
structure StripPower where
  inp : Int
  outp : Int
deriving DecidableEq, Repr

/-- The measurement of a strip; a strip that is not listed carried nothing. -/
def stripOf (l : List (Nat × Int × Int)) (k : Nat) : StripPower :=
  match l.find? fun e => decide (e.1 = k) with
  | some e => ⟨e.2.1, e.2.2⟩
  | none => ⟨-32767, -32767⟩

/-- The hold of a strip after a row (R196). -/
def nextHold (rows hold : Nat) (thr hyst e : Int) : Nat :=
  if thr ≤ e ∨ (0 < hold ∧ thr - hyst ≤ e) then rows else hold - 1

/-- hold[k] of a path: HOLD_ROWS where nothing has set it. -/
def State.holdOf (s : State) (p k : Nat) : Nat :=
  let v := Tbl.get (fun _ => 0) (s.pathGrid p).hold k
  if v = 0 then s.fget GGR_NGB.HOLD_ROWS (p - 16) else v - 1

/-- Writing hold[k]. -/
def State.setHold (s : State) (p k v : Nat) : State :=
  let g := s.pathGrid p
  s.setPathGrid p { g with hold := Tbl.set (fun _ => 0) g.hold k (v + 1) }

/-- Runs of adjacent strips, as first strip and count, of a rising list. -/
def stripRuns : List Nat → List (Nat × Nat)
  | [] => []
  | k :: t =>
    match stripRuns t with
    | (f, n) :: rest => if f = k + 1 then (k, n + 1) :: rest else (k, 1) :: (f, n) :: rest
    | [] => [(k, 1)]

/-- A closing decision of the noise gate: dropped when it finds no credit (R190, R196). -/
def State.closeStrips (s : State) (p r code : Nat) (run : Nat × Nat) : State :=
  if s.gridCredits wrNOISE = 0 then (s.fbump GGR_REJ.DROPPED wrNOISE).pulse pgGGR 7
  else
    s.pushGrid wrNOISE { path := p, code := code, row := (r + 4) % gridRows, rows := 1, first := run.1, count := run.2, rel := true
                         replace := false, late := false, sfn := 0 }

/-- The power of a strip of a row referred to the service aerial, through a context's RX_CAL (R196). -/
def State.aerialPower (s : State) (c : Nat) (x : StripPower) : Int := dbField (x.inp - s.cgetI CW60.RX_CAL c)

/-- The strips of a path that the noise gate watches for the row that it may close, and their powers. DESIGN CHOICE (log 188): of two contexts
that share a strip, the higher power. -/
def State.gatedStrips (s : State) (p r : Nat) (l : List (Nat × Int × Int)) : List (Nat × Int) :=
  let cs := (s.ctxsOfPath p).filter fun c => decide (bitsOf (s.gridWordAt c r) 28 28 = 1)
  let on := cs.map fun c => (c, s.stripsOf c)
  (List.range 3456).filterMap fun k =>
    (highest ((on.filter fun x => x.2.contains k).map fun x => s.aerialPower x.1 (stripOf l k))).map fun e => (k, e)

/-- Strip energies beyond their accumulators are held and counted (R13, R196). -/
def State.countHeld (s : State) (l : List (Nat × Int × Int)) : State :=
  s.saturateN pgGGR (l.filter fun e => decide (0x7FFF < e.2.1)).length

/-- The noise gate at the end of a row (R196): it decides on the fourth row after it. -/
def State.noiseGate (s : State) (p r : Nat) (l : List (Nat × Int × Int)) : State :=
  if !s.writerOn wrNOISE p then s
  else
    let q := p - 16
    let strips := s.gatedStrips p ((r + 4) % gridRows) l
    let t := strips.foldl (fun t x =>
      t.setHold p x.1 (nextHold (s.fget GGR_NGB.HOLD_ROWS q) (s.holdOf p x.1) (s.fgetI GGR_NGA.THR q) (s.fget GGR_NGA.HYST q) x.2)) (s.countHeld l)
    (stripRuns ((strips.map fun x => x.1).filter fun k => decide (t.holdOf p k = 0))).foldl (fun t run => t.closeStrips p r (s.fget GGR_NGB.CLOSED q) run) t

/-- The noise contribution x of a context in a row, in units of 2^-80 mW per MHz: the mean over its qualifying strips (R236). -/
def State.noiseOf (s : State) (c r : Nat) (l : List (Nat × Int × Int)) : Option Nat :=
  let p := s.ctxPath c
  let thr := s.fgetI GGR_NGA.THR (p - 16)
  let ks := (s.stripsOf c).filter fun k => decide (((s.pathGrid p).rowOf r).applied c k ≠ 0) && decide (s.aerialPower c (stripOf l k) < thr)
  let adj := s.cgetI CW61.TX_CAL c + s.cgetI CW54.NOISE_ADJ c
  if ks.isEmpty then none else some ((ks.map fun k => dbmTo80 ((stripOf l k).outp + adj)).sum * 25 / (9 * ks.length))

/-- The noise estimate of a context after a row (R236). -/
def State.noiseRow (s : State) (c r : Nat) (l : List (Nat × Int × Int)) : State :=
  match s.noiseOf c r l with
  | none => s
  | some x =>
    let rt := s.ctxRt c
    let n := (rt.noise : Int) + roundDiv ((x : Int) - rt.noise) (2 ^ s.fget NPR_NOISE_X.NOISE_SHIFT 0)
    s.setCtxRt c { rt with noise := n.toNat, noiseRows := rt.noiseRows + 1, noiseDt := s.dt }

/-- SYMBOL_ROW_END: a row of an uplink path ends, with the powers measured in its strips: strip, grid gate input, donor transmit
stream, in 1/64 dB of converter full scale (R196, R236). -/
def execSymbolRowEnd (path : Fin 32) (row : Fin 280) (strips : List (Nat × Int × Int)) (s : State) : Host.Outcome State Fault Refusal :=
  .next (
    let p := path.val
    if !s.works pgGGR || !isUplink p || !s.member.present p then s
    else
      let t := s.noiseGate p row.val strips
      ((t.ctxsOfPath p).filter fun c => ctxRuns (t.ctxState c)).foldl (fun t c => t.noiseRow c row.val strips) t)

end Sys2Proof.Machine
end

