-- ==== Sys2Proof/Machine/Fel.lean ====
section
/-!
DEFINITION. Chapter 10: the front-end links, module descriptors, chain states, calibrations, chain gains, detectors, aerial match, tuner.
-/
namespace Sys2Proof.Machine

/-! Ports (R253). -/

/-- The port that an initiator has selected (R281). -/
def State.felSel (s : State) (i : Init) : Nat := s.fget FEL_PSEL.PORT i.holder

/-- Word w of a port's committed descriptor (R260). -/
def State.descWord (s : State) (n w : Nat) : Word := Tbl.get (fun _ => 0) s.fel.desc (8 * n + w)

/-- DUPLEX of a port's descriptor. -/
def State.duplex (s : State) (n : Nat) : Bool := decide (bitsOf (s.descWord n 0) 30 30 = 1)

/-- A module register that word 5 or 6 of the descriptor names, most significant byte 0. -/
def State.modReg (s : State) (n w byte : Nat) : Nat := bitsOf (s.descWord n w) (31 - 8 * byte) (24 - 8 * byte)

def tmFelLink : Nat := 50
def tmMmHold : Nat := 51
def tmMmGood : Nat := 52
def tmTune : Nat := 53
def tmModTemp : Nat := 54

/-- The paths that write a port (R221). -/
def State.pathsWriting (s : State) (n : Nat) : List Nat := s.paths.filter fun p => (s.writesOf p).contains (32 + n)

/-! Mismatch states (R274). -/

def mmUNPROVEN : Nat := 0
def mmGOOD : Nat := 1
def mmWARN : Nat := 2
def mmFOLDBACK : Nat := 3
def mmSHORT : Nat := 4
def mmLATCHED : Nat := 5

def State.mm (s : State) (n : Nat) : Nat := s.fget FEL_MM.STATE n

/-- The port is excluded: its PA enable is held inactive (R276). -/
def State.mmDark (s : State) (n : Nat) : Bool := decide (mmSHORT ≤ s.mm n)

/-! Pins (R259). -/

/-- PA-on time of a port so far, in ticks. -/
def State.paOnTicks (s : State) (n : Nat) : Nat :=
  let r := s.felPort n
  r.paTicks + if s.fon FEL_PIN.PA n then s.dt - r.paSince else 0

/-- The pins take their safe levels (R259). -/
def State.safePins (s : State) (n : Nat) : State := s.setPins n false false true

/-- The chain is held at STANDBY: by a Foxglove shutdown, or by the power state (R264, R407). -/
def State.chainHeld (s : State) (n : Nat) : Bool := s.fon FEL_CHAIN.FOX_HOLD n || s.pwr.hold

/-- The levels at the pins TRXn, PAENn and LNABn of a port, each with its polarity bit (R253, R259). -/
def State.trxPin (s : State) (n : Nat) : Bool := xor (s.fon FEL_PIN.TRX n) (s.fon FEL_PIN.TRX_POL n)
def State.paPin (s : State) (n : Nat) : Bool := xor (s.fon FEL_PIN.PA n) (s.fon FEL_PIN.PA_POL n)
def State.lnaPin (s : State) (n : Nat) : Bool := xor (s.fon FEL_PIN.LNA n) (s.fon FEL_PIN.LNA_POL n)

/-- The chain is on its way out of RX and TX. -/
def FelPort.leaves (r : FelPort) : Bool := match r.moving with | some (_, b) => decide (b < chRX) | none => false

/-- The wheel, or the rule of R263, may drive the pins (R224, R259): the chain is in RX or TX, and nothing holds the port. -/
def State.pinsFree (s : State) (n : Nat) : Bool :=
  decide (chRX ≤ s.chain n) && !(s.felPort n).leaves && !s.chainHeld n && s.fon FEL_LINK.UP n && s.descValid n

/-- The pins take the levels that are asked for, as far as the match allows (R276). -/
def State.askPins (s : State) (n : Nat) (trx pa : Bool) : State :=
  let dark := s.mmDark n
  let trx := trx && !dark
  let pa := pa && !dark && decide ((s.felPort n).paFrom ≤ s.dt)
  let was := s.fon FEL_PIN.TRX n
  let t := s.setPins n trx pa false
  if was = t.fon FEL_PIN.TRX n then t else t.trxEdge n trx

/-- A port of TDD_EN = 0 in RUN whose module cannot receive during TX raises CHAIN_FAIL once (R263). -/
def State.noteSimplex (s : State) (n : Nat) : State :=
  if s.duplex n || decide (s.fget FEL_CHAIN.TARGET n ≠ 3) || (s.felPort n).fddNoted then s
  else (s.setFelPort n { s.felPort n with fddNoted := true }).pulse pgFEL 1

/-- The pins of a port that the wheel does not drive (R263): TX while a path that writes it is not OFF, with DUPLEX = 1. -/
def State.fddPins (s : State) (n : Nat) : State :=
  if s.fon FTM_PCFG.TDD_EN n || !s.pinsFree n then s
  else
    let s := s.noteSimplex n
    let want := s.duplex n && (s.pathsWriting n).any fun p => decide (s.pathState p ≠ pathOFF)
    s.askPins n want (want && decide (s.chain n = chTX))

/-! Aerial match (R274 to R276). -/

/-- The mismatch fault source of a port follows its state (R347). -/
def State.driveMm (s : State) (n : Nat) : State := s.drive (64 + n) (s.mmDark n)

/-- A mismatch state is entered; counts of consecutive readings start again, and entry to WARN starts the tuner's timer (R274, R277). -/
def State.setMm (s : State) (n st : Nat) (cap : Int) : State :=
  let was := s.mm n
  let t := ((s.fset FEL_MM.STATE n st).fsetI FEL_MM.FE_CAP n (dbField cap))
  let t := t.setFelPort n { t.felPort n with nShort := 0, nTrip := 0, nWarn := 0, nGood := 0, trial := none, rls := [] }
  let t := if st = mmGOOD then (if was = mmGOOD then t else t.timerStart tmMmGood n t.sec_) else t.timerStop tmMmGood n
  let t := if st = mmWARN then t.timerStart tmTune n t.ms else t.timerStop tmTune n
  let t :=
    if st = was then t
    else if st = mmWARN then t.pulse pgFEL 5
    else if st = mmFOLDBACK then t.pulse pgFEL 6
    else if st = mmSHORT then (t.pulse pgFEL 7).timerStart tmMmHold n t.ms
    else if st = mmLATCHED then t.pulse pgFEL 8
    else t
  let t := t.driveMm n
  if st = mmSHORT ∨ st = mmLATCHED then
    let trx := t.fon FEL_PIN.TRX n
    let t := t.setPins n false false (!t.pinsFree n)
    if trx then t.trxEdge n false else t
  else t

/-- A port becomes UNPROVEN, unless it is LATCHED (R274). -/
def State.unprove (s : State) (n : Nat) : State :=
  if s.mm n = mmLATCHED then s else s.setMm n mmUNPROVEN (s.fgetI FEL_MMCFG0.DET_MIN 0 + s.fget FEL_MMCFG0.PROVE_DB 0)

/-- The counts of consecutive readings after one of return loss rl (R274). -/
def FelPort.count (r : FelPort) (short trip warn : Int) (good : Bool) (rl : Int) : FelPort :=
  { r with nShort := if rl < short then r.nShort + 1 else 0
           nTrip := if rl < trip then r.nTrip + 1 else 0
           nWarn := if rl < warn then r.nWarn + 1 else 0
           nGood := if good then r.nGood + 1 else 0 }

/-- The mismatch state after a reading, the lower one first (R274). -/
def State.matchReading (s : State) (n : Nat) (fwd ref : Int) : State :=
  let st := s.mm n
  let rl := fwd - ref
  let warn : Int := s.fget FEL_MMCFG1.RL_WARN 0
  let trip : Int := s.fget FEL_MMCFG1.RL_TRIP 0
  let good := decide ((if st = mmWARN then warn + 64 else warn) ≤ rl)
  let r := (s.felPort n).count (s.fget FEL_MMCFG2.RL_SHORT 0) trip warn good rl
  let t := s.setFelPort n r
  if st = mmSHORT ∨ st = mmLATCHED then t
  else if s.fgetI FEL_MMCFG3.REF_MAX 0 < ref ∨ 2 ≤ r.nShort then t.setMm n mmSHORT noLoop
  else if st ≤ mmWARN ∧ 2 ≤ r.nTrip then t.setMm n mmFOLDBACK (fwd - s.fget FEL_MMCFG2.FOLD_DB 0)
  else if st = mmGOOD ∧ 2 ≤ r.nWarn then t.setMm n mmWARN noLoop
  else if st = mmUNPROVEN ∧ trip ≤ rl then t.setMm n mmGOOD noLoop
  else if (st = mmWARN ∨ st = mmFOLDBACK) ∧ 10 ≤ r.nGood then t.setMm n mmGOOD noLoop
  else t

/-- A port that has become UNPROVEN radiates again (R276): PA enable goes to the wheel, or to the rule of R263, 2 µs later. -/
def State.reradiate (s : State) (n : Nat) : State :=
  let t := s.setFelPort n { s.felPort n with paFrom := s.dt + ticksOfUs 2 }
  if t.fon FTM_PCFG.TDD_EN n then t else (t.advanceTo (t.dt + ticksOfUs 2)).fddPins n

/-- MISMATCH_HOLD_EXPIRED: MM_HOLD_MS elapses in SHORT (R274, R276). -/
def execMismatchHoldExpired (port : Fin 32) (s : State) : Host.Outcome State Fault Refusal :=
  .next (
    let n := port.val
    if s.mm n = mmSHORT && s.timerDue tmMmHold n s.ms (s.fget FEL_MMCFG3.MM_HOLD_MS 0) then
      if s.fget FEL_MM.RETRIES n < s.fget FEL_MMCFG4.MM_RETRY_LIMIT 0 then
        ((s.fbump FEL_MM.RETRIES n).unprove n).reradiate n
      else s.setMm n mmLATCHED noLoop
    else s)

/-- MISMATCH_GOOD_TIMER: 60 s in GOOD (R274). -/
def execMismatchGoodTimer (port : Fin 32) (s : State) : Host.Outcome State Fault Refusal :=
  .next (
    if s.mm port.val = mmGOOD && s.timerDue tmMmGood port.val s.sec_ 60 then (s.fset FEL_MM.RETRIES port.val 0).timerStop tmMmGood port.val
    else s)

/-- FE_CLEAR of a port (R274, R276). -/
def State.feClear (s : State) (n : Nat) : State :=
  if s.mm n = mmLATCHED then
    ((s.fset FEL_MM.RETRIES n 0).setMm n mmUNPROVEN (s.fgetI FEL_MMCFG0.DET_MIN 0 + s.fget FEL_MMCFG0.PROVE_DB 0)).reradiate n
  else s

/-! Chain gains (R268, R273). -/

/-- Contexts whose path reads or writes a port take its gains at their next tick (R273). -/
def State.markRecal (s : State) (n : Nat) : State :=
  s.liveCtxs.foldl (fun s c =>
    if (s.readsOf (s.ctxPath c)).contains n || (s.ctxDests c).contains (32 + n) then s.setCtxRt c { s.ctxRt c with recal := true } else s) s

/-- Contexts take their gains after a change at the streams' links or their full scales (R269, R273): those of the ports whose RXC or TXC moved. -/
def State.recalSince (t s : State) : State :=
  (List.range 32).foldl (fun t n => if t.rxc n = s.rxc n ∧ t.txc (32 + n) = s.txc (32 + n) then t else t.markRecal n) t

/-- RXC and TXC of a port (R268): the temperature term counts once both temperatures are known, with the slopes of the band of the last reading. -/
def State.refreshGains (s : State) (n : Nat) : State :=
  let r := s.felPort n
  let b := r.band
  let known := decide (s.fgetI FEL_TEMP.T_MOD n ≠ noValue ∧ s.fgetI FEL_TEMP.T_CAL n ≠ noValue)
  let dT : Int := if known then s.fgetI FEL_TEMP.T_MOD n - s.fgetI FEL_TEMP.T_CAL n else 0
  let rxc := dbField (roundDiv (r.rxcCal * 1024 + s.fgetI (FEL_TSLOPE.RX_TSLOPE b) n * dT) 1024)
  let txc := dbField (roundDiv (r.txcTrk + s.fgetI (FEL_TSLOPE.TX_TSLOPE b) n * dT * 64) 65536)
  let t := (s.fsetI FEL_GAIN.RXC n rxc).fsetI FEL_GAIN.TXC n txc
  if rxc = s.fgetI FEL_GAIN.RXC n ∧ txc = s.fgetI FEL_GAIN.TXC n then t else t.markRecal n

/-! The link's requests (R254 to R257). -/

/-- The bytes of a frame, without its CRC: op, address, data, delay, SEQ. -/
def frameBytes (q : FelReq) (delay seq : Nat) : List Nat := beBytes 7 (((((q.op * 256 + q.addr) * 65536 + q.data) * 4096 + delay) * 256 + seq) * 256)

/-- A frame as its 64 bits (R254). -/
def frameWord (q : FelReq) (delay seq : Nat) : Nat :=
  let b := frameBytes q delay seq
  beValue b * 256 + b.foldl crc8Step 0xFF

/-- DELAY of a timed frame that is sent now: bit times of 20 ns from its last bit to the action (R256). -/
def frameDelay (now act : Nat) : Nat := min 4095 ((act - (now + ticksOfNs 1280)) * 3125 / (768 * 20))

/-- A request enters the plain queue of a port. -/
def State.felPlain (s : State) (n : Nat) (q : FelReq) : State := s.setFelPort n { s.felPort n with plain := (s.felPort n).plain ++ [q] }

/-- The plain queue of a port has room for k requests (R257). -/
def State.felRoom (s : State) (n k : Nat) : Bool := decide ((s.felPort n).plainFill + k ≤ 64)

/-- Requests in order of their action times. -/
def insertTimed (q : FelReq) : List FelReq → List FelReq
  | [] => [q]
  | h :: t => if q.act.getD 0 < h.act.getD 0 then q :: h :: t else h :: insertTimed q t

/-- What becomes of a timed request. -/
inductive TimedRes where
  | queued (s : State)
  | late (s : State)
  | full

/-- The earliest moment at which a frame of the link can start: 1.36 µs after the start of the last (R254). -/
def State.felFree (s : State) (n : Nat) : Nat :=
  match (s.felPort n).sentAt with | some a => max s.dt (a + ticksOfNs 1360) | none => s.dt

/-- When a timed frame can start, from the moment the link is free: not before its send window opens (R256). -/
def frameStartOf (free act : Nat) : Nat := max free (act - ticksOfNs 81900)

/-- The earliest start of the frame of a timed request (R256): after the frame in progress, those to be sent again, and the timed ones whose
actions come before. -/
def State.timedStart (s : State) (n act : Nat) : Nat :=
  let r := s.felPort n
  let first := s.felFree n + r.again.length * ticksOfNs 1360
  let free := (r.timed.filter fun x => decide (x.act.getD 0 ≤ act)).foldl (fun a x => frameStartOf a (x.act.getD 0) + ticksOfNs 1360) first
  frameStartOf free act

/-- A timed request (R256, R257): late when its action lies less than 1.40 µs after the earliest start of its frame. -/
def State.felTimed (s : State) (n : Nat) (q : FelReq) : TimedRes :=
  if q.act.getD 0 < s.timedStart n (q.act.getD 0) + ticksOfNs 1400 then .late (s.pulse pgFEL 10)
  else if 32 ≤ (s.felPort n).timedFill then .full
  else .queued (s.setFelPort n { s.felPort n with timed := insertTimed q (s.felPort n).timed })

/-- A write of a module register. -/
def plainWrite (addr data : Nat) : FelReq := { op := 1, addr := addr, data := data % 65536 }

/-- The two writes of a port's LO (R260). -/
def State.sendLo (s : State) (n : Nat) : State :=
  let a := s.modReg n 6 0
  let lo := s.fget FEL_TUNE.LO_KHZ n
  let t := (s.felPlain n (plainWrite a (lo / 65536))).felPlain n (plainWrite ((a + 1) % 256) (lo % 65536))
  t.setFelPort n { t.felPort n with loWaits := false }

/-! The chain (R262 to R267). -/

/-- The state that the chain's target requires, RX for RUN (R261, R264). -/
def State.chainAim (s : State) (n : Nat) : Nat :=
  let target := s.fget FEL_CHAIN.TARGET n
  if (s.felPort n).mismatch || s.pwr.asleep then chSLEEP
  else if s.chainHeld n then chSTANDBY
  else if (s.felPort n).failed then min target chSTANDBY
  else target

/-- The state that the chain is to reach now: SYNTH_ON while a calibration waits (R265). -/
def State.chainGoal (s : State) (n : Nat) : Nat :=
  if s.chainAim n = chRX ∧ !(s.felPort n).calQueue.isEmpty then chSYNTH else s.chainAim n

/-- The next state on the way (R262). -/
def nextChain (st goal : Nat) : Option Nat :=
  if chRX ≤ st then (if goal < chRX then some chSYNTH else none)
  else if st < goal then some (st + 1)
  else if goal < st then some (st - 1)
  else none

/-- A calibration starts in SYNTH_ON (R265). -/
def State.startCal (s : State) (n k : Nat) : State := (s.setFelPort n { s.felPort n with cal := some k, calAt := s.dt }).fset FEL_CHAIN.CAL_BUSY n 1

/-- A STATE command to the next state is given (R262); outside RX and TX the pins are at their safe levels (R259). -/
def State.commandChain (s : State) (n goal : Nat) : State :=
  let st := s.chain n
  let t := s.setFelPort n { s.felPort n with moving := some (st, goal), chainCmd := some goal, repeated := false }
  let t := t.fset FEL_CHAIN.BUSY n 1
  let t := if chRX ≤ st then t.safePins n else t
  if st = chSTANDBY ∧ goal = chSYNTH ∧ (s.felPort n).loWaits then t.sendLo n else t

/-- The chain goes on toward its target (R262, R265). DESIGN CHOICE (log 191): the way to SYNTH_ON with a new LO waits for room in the plain
queue for its two writes. -/
def State.driveChain (s : State) (n : Nat) : State :=
  let r := s.felPort n
  if !s.fon FEL_LINK.UP n || r.moving.isSome || r.cal.isSome then s
  else
    match nextChain (s.chain n) (s.chainGoal n) with
    | some goal => if r.loWaits && decide (s.chain n = chSTANDBY ∧ goal = chSYNTH) && !s.felRoom n 2 then s else s.commandChain n goal
    | none =>
      match r.calQueue with
      | k :: rest => if s.chain n = chSYNTH then (s.setFelPort n { r with calQueue := rest }).startCal n k else s
      | [] => s

/-- A running calibration is aborted (R266). -/
def State.abortCal (s : State) (n : Nat) : State :=
  if (s.felPort n).cal.isSome then
    (((s.setFelPort n { s.felPort n with cal := none }).fset FEL_CHAIN.CAL_BUSY n 0).fset FEL_CHAIN.CAL_RESULT n 2).pulse pgFEL 4
  else s

/-- A transition in progress is abandoned, and its timeout with it. -/
def State.abandon (s : State) (n : Nat) : State :=
  let r := s.felPort n
  let left := match r.moving with | some (_, b) => r.checks.filter fun c => decide (c.dst ≠ b) | none => r.checks
  (s.setFelPort n { r with moving := none, chainCmd := none, checks := left, repeated := false }).fset FEL_CHAIN.BUSY n 0

/-- The state that the target requires, a hold's for the host's (R264, R283). -/
def State.chainWant (s : State) (n : Nat) : Nat :=
  if s.pwr.asleep then chSLEEP else if s.chainHeld n then chSTANDBY else s.fget FEL_CHAIN.TARGET n

/-- The chain reaches a state (R262, R263, R265, R274). -/
def State.arrive (s : State) (n goal : Nat) : State :=
  let r := s.felPort n
  let from_ := s.chain n
  let t := ((s.fset FEL_CHAIN.STATE n goal).fset FEL_CHAIN.BUSY n 0)
  let t := t.setFelPort n { r with moving := none, repeated := false
                                   fddNoted := r.fddNoted && decide (chSTANDBY < goal)
                                   unproved := if goal = chSYNTH then true else if goal = chTX then false else r.unproved
                                   calQueue := if goal = chSYNTH ∧ r.calFirst then (r.calQueue.filter fun x => decide (x = 0)) ++ [1, 2] else r.calQueue
                                   calFirst := if goal = chSYNTH then false else r.calFirst }
  let t := if goal = chTX ∧ r.unproved then t.unprove n else t
  let t := if goal = t.chainWant n ∧ (from_ < chRX ∨ goal < chRX) then t.pulse pgFEL 0 else t
  let t := if goal ≤ chSTANDBY then t.drive (32 + n) (!t.fon FEL_LINK.UP n) else t
  (t.fddPins n).driveChain n

/-- The chain fails (R262): CHAIN_FAIL, and STANDBY is commanded. -/
def State.chainFail (s : State) (n : Nat) : State :=
  let t := (s.abandon n).pulse pgFEL 1
  let t := t.setFelPort n { t.felPort n with failed := true, checks := [] }
  t.commandChain n chSTANDBY

/-- CHAIN_STATE_REACHED: the chain's transition reaches its stated time (R262); the move to SYNTH_ON then calibrates the synthesiser. -/
def execChainStateReached (port : Fin 32) (s : State) : Host.Outcome State Fault Refusal :=
  .next (
    let r := s.felPort port.val
    match r.moving with
    | none => s
    | some (a, b) =>
      if r.chainCmd.isSome || r.cal.isSome then s
      else
        let t := s.advanceTo (r.movedAt + ticksOfNs (chainTimes a b).1)
        if a = chSTANDBY ∧ b = chSYNTH then t.startCal port.val 0 else t.arrive port.val b)

/-- A calibration ends with a result (R265, R266). -/
def State.calEnd (s : State) (n k : Nat) (pass : Bool) (rxc : Int) : State :=
  let t := ((s.setFelPort n { s.felPort n with cal := none }).fset FEL_CHAIN.CAL_BUSY n 0).fset FEL_CHAIN.CAL_RESULT n (if pass then 0 else 1)
  let t := t.pulse pgFEL 4
  if k = 0 then
    if pass then (if (t.felPort n).moving.isSome then t.arrive n chSYNTH else t.driveChain n)
    else
      let t := ((t.abandon n).fset FEL_CHAIN.STATE n chSTANDBY).pulse pgFEL 1
      t.setFelPort n { t.felPort n with failed := true }
  else if k = 2 ∧ pass then
    let t := t.setFelPort n { t.felPort n with rxcCal := dbField rxc }
    ((t.fset FEL_TEMP.T_CAL n (t.fget FEL_TEMP.T_MOD n)).refreshGains n).driveChain n
  else t.driveChain n

/-- The duration of a calibration in µs (R265). -/
def calUs (k : Nat) : Nat := if k = 0 then 250 else if k = 1 then 2000 else 1000

/-- CALIBRATION_DONE: the running calibration of a chain ends; `rxc` is what RXGAIN measured, in 1/64 dB (R265). -/
def execCalibrationDone (port : Fin 32) (pass : Bool) (rxc : Int) (s : State) : Host.Outcome State Fault Refusal :=
  .next (
    match (s.felPort port.val).cal with
    | none => s
    | some k => (s.advanceTo ((s.felPort port.val).calAt + ticksOfUs (calUs k))).calEnd port.val k pass rxc)

/-- The target takes a value (R262, R266): one below the present state acts at once and abandons what goes upward. -/
def State.setTarget (s : State) (n target : Nat) : State :=
  let t := s.fset FEL_CHAIN.TARGET n target
  let t := t.setFelPort n { t.felPort n with failed := false, fddNoted := (t.felPort n).fddNoted && decide (target = 3) }
  let below := decide (target < min (s.chain n) 3)
  let t :=
    if below && !s.chainHeld n then
      let t := t.abortCal n
      match (t.felPort n).moving with
      | some (a, b) => if a < b ∨ (chRX ≤ a ∧ chRX ≤ b) then t.abandon n else t
      | none => t
    else t
  t.driveChain n

/-- A calibration is requested (R265): it waits while another runs, and RXGAIN follows RXIQ. -/
def State.requestCal (s : State) (n k : Nat) : State :=
  let r := s.felPort n
  let ks := if k = 1 then [1, 2] else [k]
  (s.setFelPort n { r with calQueue := (r.calQueue.filter fun x => !ks.contains x) ++ ks }).driveChain n

/-- A write of FEL_CHAIN of the selected port (R261 to R265, R274). -/
def chainWrite (i : Init) (v : Word) (s : State) : WRes :=
  let n := s.felSel i
  if !s.member.present n then .error .unitAbsent
  else
    let t := s.fset FEL_CHAIN.LNA_HOLD n (bitsOf v 26 26)
    let t := t.fsetB FEL_PIN.LNA n (decide (bitsOf v 26 26 = 1) || t.fon FEL_PIN.TRX n || !t.pinsFree n || t.flt.padOverride)
    let t := if bitsOf v 31 30 ≠ s.fget FEL_CHAIN.TARGET n then t.setTarget n (bitsOf v 31 30) else t
    let t := if bitsOf v 29 29 = 1 then t.requestCal n 1 else t
    let t := if bitsOf v 28 28 = 1 then t.requestCal n 2 else t
    .ok (if bitsOf v 27 27 = 1 then t.feClear n else t)

/-- The stored part of FEL_CHAIN of the selected port: TARGET and LNA_HOLD, with another field set. -/
def State.chainWord (s : State) (i : Init) (hi lo v : Nat) : Word :=
  let n := s.felSel i
  putBits (putBits (putBits 0 31 30 (s.fget FEL_CHAIN.TARGET n)) 26 26 (s.fget FEL_CHAIN.LNA_HOLD n)) hi lo v

/-- A write of one field of FEL_CHAIN, the other stored fields kept. -/
def State.chainAccess (s : State) (i : Init) (hi lo v : Nat) : State :=
  s.access i pgFEL 0x044 (s.chainWord i hi lo v) (chainWrite i (s.chainWord i hi lo v))

/-- CHAIN_TARGET_WRITE: a write of FEL_CHAIN.TARGET (R262). -/
def execChainTargetWrite (who : Init) (target : Fin 4) (s : State) : Host.Outcome State Fault Refusal := .next (s.chainAccess who 31 30 target.val)

/-- CAL_REQ_RXIQ: a write of FEL_CHAIN.CAL_REQ_RXIQ (R265). -/
def execCalReqRxiq (who : Init) (s : State) : Host.Outcome State Fault Refusal := .next (s.chainAccess who 29 29 1)

/-- CAL_REQ_RXGAIN: a write of FEL_CHAIN.CAL_REQ_RXGAIN (R265). -/
def execCalReqRxgain (who : Init) (s : State) : Host.Outcome State Fault Refusal := .next (s.chainAccess who 28 28 1)

/-- FE_CLEAR: a write of FEL_CHAIN.FE_CLEAR (R274). -/
def execFeClear (who : Init) (s : State) : Host.Outcome State Fault Refusal := .next (s.chainAccess who 27 27 1)

/-- A write of FEL_TUNE of the selected port (R267). -/
def loWrite (i : Init) (v : Word) (s : State) : WRes :=
  let n := s.felSel i
  let khz := bitsOf v 23 0
  if !s.member.present n then .error .unitAbsent
  else if 2 < s.fget FEL_CHAIN.TARGET n ∨ chSYNTH < s.chain n then .error .configLocked
  else if khz < bitsOf (s.descWord n 0) 23 0 ∨ bitsOf (s.descWord n 1) 23 0 < khz then .error .outOfRange
  else if s.chain n = chSYNTH ∧ !s.felRoom n 2 then .error .windowBusy
  else
    let t := s.fset FEL_TUNE.LO_KHZ n khz
    if s.chain n = chSYNTH then
      let t := t.sendLo n
      .ok (if (t.felPort n).cal.isSome ∨ (t.felPort n).moving.isSome then t.requestCal n 0 else t.startCal n 0)
    else .ok (t.setFelPort n { t.felPort n with loWaits := true })

/-- LO_WRITE: a write of FEL_TUNE.LO_KHZ (R267). -/
def execLoWrite (who : Init) (khz : BitVec 24) (s : State) : Host.Outcome State Fault Refusal :=
  .next (s.access who pgFEL 0x048 (khz.setWidth 32) (loWrite who (khz.setWidth 32)))

/-! A Foxglove hold (R259, R264). -/

/-- A port under a hold: pins at their safe levels, the chain on its way to STANDBY (R240, R264, R266). -/
def State.holdPort (s : State) (n : Nat) : State :=
  let t := (s.safePins n).abortCal n
  let t := match (t.felPort n).moving with | some (a, b) => (if a < b ∨ chRX ≤ a then t.abandon n else t) | none => t
  t.driveChain n

/-- A Foxglove shutdown stops a port (R264). -/
def State.foxHoldPort (s : State) (n : Nat) : State := (s.fset FEL_CHAIN.FOX_HOLD n 1).holdPort n

/-- The hold ends and the chain returns toward its target (R264). -/
def State.foxReleasePort (s : State) (n : Nat) : State := (s.fset FEL_CHAIN.FOX_HOLD n 0).driveChain n

/-! Link up and down (R258). -/

/-- The link goes down (R258). -/
def State.felLinkDown (s : State) (n : Nat) : State :=
  let t := (((s.fset FEL_LINK.UP n 0).pulse pgFEL 2).inputLost pgFEL n).drive (32 + n) true
  let t := (t.abortCal n).abandon n
  let t := t.setFelPort n { t.felPort n with valids := 0, fails := 0, flight := [], again := [], poll := [], calFirst := true, calQueue := [], fwd := none, failed := false,
                                             checks := [] }
  ((t.safePins n).unprove n).timerStop tmFelLink n

/-- The link comes up: the class register is read, and the module's chain state adopted (R258), with what follows from it (R263, R265); the lost
input is valid again (R31; DEDUCED, log 194). -/
def State.felLinkUp (s : State) (n state : Nat) : State :=
  let t := ((((s.fset FEL_LINK.UP n 1).pulse pgFEL 3).inputValid pgFEL n).drive (32 + n) false).fset FEL_CHAIN.STATE n state
  let t := t.setFelPort n { t.felPort n with poll := [3], calFirst := decide (state ≠ chSYNTH), calQueue := if state = chSYNTH then [1, 2] else [] }
  (t.timerStart tmModTemp n t.ms).fddPins n

/-- FEL_LINK_TIMEOUT: no valid response for LINK_TO_US (R258). -/
def execFelLinkTimeout (port : Fin 32) (s : State) : Host.Outcome State Fault Refusal :=
  .next (
    if s.fon FEL_LINK.UP port.val && s.timerDue tmFelLink port.val s.us (s.fget FEL_LINKCFG.LINK_TO_US 0) then s.felLinkDown port.val
    else s)

/-- The command of a transition is repeated (R262): the chain is in that transition again; a calibration that ran waits for it
(DESIGN CHOICE, log 195). -/
def State.moveAgain (s : State) (n : Nat) (c : ChainCheck) : State :=
  let r := s.felPort n
  let queue := match r.cal with | some k => (if k = 0 then r.calQueue else k :: r.calQueue) | none => r.calQueue
  let t := s.setFelPort n { r with moving := some (c.src, c.dst), chainCmd := some c.dst, repeated := true, checks := [], cal := none, calQueue := queue }
  let t := ((t.fset FEL_CHAIN.STATE n c.src).fset FEL_CHAIN.BUSY n 1).fset FEL_CHAIN.CAL_BUSY n 0
  if c.src < chRX ∨ c.dst < chRX then t.safePins n else t

/-- CHAIN_TRANSITION_TIMEOUT: the first response after a transition's timeout does not confirm it (R262): the command is repeated once; a
second failure fails the chain, and a STANDBY that is not confirmed then takes the link down. -/
def execChainTransitionTimeout (port : Fin 32) (s : State) : Host.Outcome State Fault Refusal :=
  .next (
    let n := port.val
    match (s.felPort n).checks with
    | [] => s
    | c :: _ =>
      let t := s.advanceTo c.due
      if (s.felPort n).failed ∧ c.dst = chSTANDBY then t.felLinkDown n
      else if c.again then t.chainFail n
      else t.moveAgain n c)

/-! Frames (R255, R257, R258). -/

/-- The request of an autopoll read (R272). -/
def State.pollReq (s : State) (n use : Nat) : FelReq :=
  { op := 2, addr := if use = 3 then 0 else s.modReg n 5 (use - 4), data := 0, use := use }

/-- The choice among the requests that are not timed (R257). -/
def State.untimed (s : State) (n : Nat) (r : FelPort) (fresh : FelReq → FelPort → FelFrame × FelPort) : FelFrame × FelPort :=
  match r.chainCmd, r.poll, r.plain with
  | some t, _, _ => fresh { op := 4, addr := 0, data := t, use := 2 } { r with chainCmd := none }
  | none, u :: rest, _ => fresh (s.pollReq n u) { r with poll := rest }
  | none, [], q :: rest => fresh q { r with plain := rest }
  | none, [], [] => fresh { op := 0, addr := 0, data := 0, use := 0 } r

/-- The next frame of a port and the port's queues after it (R257, R258): resends, which are NOPs while the link is down, an open timed frame, a chain command, the autopoll, the plain
queue; NOP otherwise and while the link is down. -/
def State.nextFrame (s : State) (n : Nat) : FelFrame × FelPort :=
  let r := s.felPort n
  let fresh (q : FelReq) (r : FelPort) : FelFrame × FelPort := (⟨q, r.seq, 0⟩, { r with seq := (r.seq + 1) % 256 })
  match r.again with
  | f :: rest => (f, { r with again := rest })
  | [] =>
    if !s.fon FEL_LINK.UP n then fresh { op := 0, addr := 0, data := 0, use := 0 } r
    else
      match r.timed with
      | q :: rest =>
        if q.act.getD 0 ≤ s.dt + ticksOfNs 81900 then fresh q { r with timed := rest } else s.untimed n r fresh
      | [] => s.untimed n r fresh

/-- The frame of a chain command starts its transition's time (R262). -/
def FelPort.noteMove (r : FelPort) (now : Nat) (f : FelFrame) : FelPort :=
  match r.moving with
  | some (a, b) => if f.req.use = 2 ∧ f.tries = 0 ∧ f.req.data = b then r.watchMove now a b else r
  | none => r

/-- FEL_FRAME_SLOT: a frame slot of a port's link opens (R254, R257). -/
def execFelFrameSlot (port : Fin 32) (s : State) : Host.Outcome State Fault Refusal :=
  .next (
    let n := port.val
    if !s.works pgFEL || !s.descValid n || decide (2 ≤ (s.felPort n).flight.length) then s
    else
      let s := s.advanceTo (s.felFree n)
      let (f, r) := s.nextFrame n
      let r := r.noteMove s.dt f
      let delay := match f.req.act with | some a => frameDelay s.dt a | none => 0
      s.setFelPort n { r with flight := r.flight ++ [f], sent := frameWord f.req delay f.seq, sentAt := some s.dt })

/-! Readings (R270 to R272). -/

/-- The limit gate limits or clamps a port's stream (R270). -/
def State.streamHeld (s : State) (n : Nat) : Bool := decide (s.fget LIM_ATTEN.ATTEN n ≠ 0) || decide (s.clampState (32 + n) ≠ 0)

/-- TXC_TRK tracks the measured chain (R270). -/
def State.trackTx (s : State) (n : Nat) (fwd : Int) : State :=
  let r := s.felPort n
  let corr := s.fgetI FEL_SUPPLY.CORR n
  match linToDb r.pow (r.powN * 2 ^ 30) with
  | none => s
  | some dig =>
    if decide (s.chain n = chTX) && !s.streamHeld n && !s.fon FEL_CHAIN.FOX_HOLD n then
      let err := fwd - (dig + s.fgetI FEL_GAIN.TXC n + (if corr = noValue then 0 else corr))
      (s.setFelPort n { r with txcTrk := r.txcTrk + roundDiv (err * 65536) (10 * s.fget FEL_TRACK_X.TX_TRACK_TC_MS 0) }).refreshGains n
    else s

/-! The wheel's plan of a port (R221). Times in 1/3,125 tick: 768 of them are 1 ns. -/

def State.wheelPort (s : State) (n : Nat) : WheelPort := Tbl.get (fun _ => {}) s.ftm.ports n

def State.setWheelPort (s : State) (n : Nat) (r : WheelPort) : State :=
  { s with ftm := { s.ftm with ports := Tbl.set (fun _ => {}) s.ftm.ports n r } }

/-- SKEW_NS of a port. -/
def State.skewQ (s : State) (n : Nat) : Int := 768 * s.fgetI FTM_PTIM.SKEW_NS n

/-- The lead of an output of a port: 0 TRX, 1 PA enable, 2 REQUEST (R222). -/
def State.leadQ (s : State) (n pin : Nat) : Int :=
  768 * (match pin with
    | 0 => s.fget FTM_PTIM.TRX_LEAD_NS n
    | 1 => s.fget FTM_PCFG.PA_LEAD_NS n
    | _ => s.fget FTM_PCFG.CX_LEAD_NS n)

/-- The largest enabled lead of a port (R221, R223). -/
def State.maxLead (s : State) (n : Nat) : Int :=
  max (max (s.leadQ n 0) (s.leadQ n 1)) (if s.fon FTM_PCFG.CX_EN n then s.leadQ n 2 else 0)

/-- A row enters a list of intervals that rise by their starts. -/
def insertPlan (r : PlanRow) : List PlanRow → List PlanRow
  | [] => [r]
  | h :: t => if r.start < h.start then r :: h :: t else h :: insertPlan r t

/-- W(n): the union of the planned rows, gaps shorter than the lead filled. -/
def mergePlan (lead : Int) : List PlanRow → List (Int × Int)
  | [] => []
  | r :: t =>
    match mergePlan lead t with
    | (a, b) :: rest => if a - r.stop < lead ∨ a ≤ r.stop then (r.start, max b r.stop) :: rest else (r.start, r.stop) :: (a, b) :: rest
    | [] => [(r.start, r.stop)]

/-- The transmit window of a port. -/
def State.windowOf (s : State) (n : Nat) : List (Int × Int) := mergePlan (s.maxLead n) (s.wheelPort n).plan

/-! The tuner (R277). -/

/-- The tuner's code is written to the module: by TWRITE at the start of the port's next wheel interval, by WRITE otherwise (R277); the code stands
only when its request is taken, and whether it was is answered. -/
def State.sendTuner (s : State) (n code : Nat) : State × Bool :=
  let q := plainWrite (s.modReg n 6 1) code
  match s.fon FTM_PCFG.TDD_EN n, ((s.windowOf n).map fun iv => tickOfQ iv.1).find? fun x => decide (s.dt < x) with
  | true, some x =>
    match s.felTimed n { q with op := 3, act := some x } with
    | .queued t => ((t.fset FEL_TUNER.TUNER_CODE n code).setFelPort n { t.felPort n with tunedAt := x }, true)
    | .late t => (t, false)
    | .full => (s, false)
  | _, _ => if s.felRoom n 1 then ((s.felPlain n q).fset FEL_TUNER.TUNER_CODE n code, true) else (s, false)

/-- The tuner's code is still on its way to the module: its write waits, is in flight, or has not acted (R277). -/
def State.tunerMoves (s : State) (n : Nat) : Bool :=
  let r := s.felPort n
  let mine (q : FelReq) : Bool := decide ((q.op = 1 ∨ q.op = 3) ∧ q.addr = s.modReg n 6 1)
  decide (s.dt < r.tunedAt) || (r.timed ++ r.plain).any mine || (r.flight ++ r.again).any fun f => mine f.req

/-- A return loss of a valid reading counts for the tuner once its code acts (R277). -/
def State.noteRl (s : State) (n : Nat) (rl : Int) : State :=
  if (s.felPort n).trial.isSome && s.tunerMoves n then s
  else s.setFelPort n { s.felPort n with rls := (rl :: (s.felPort n).rls).take 2 }

/-- The tuner judges its trial on two valid readings (R277). DESIGN CHOICE (log 192): a code that cannot be restored for want of room or of time is
judged again at the next reading. -/
def State.judgeTuner (s : State) (n : Nat) : State :=
  match (s.felPort n).trial, (s.felPort n).rls with
  | some (code, base), a :: b :: _ =>
    let t := s.setFelPort n { s.felPort n with trial := none }
    if base + 32 ≤ a + b then t.pulse pgFEL 12
    else
      let (u, sent) := s.sendTuner n code
      if sent then u.setFelPort n { u.felPort n with trial := none } else u
  | _, _ => s

/-- What a FWD and REF pair brings, in 1/64 dBm (R270, R272, R274). -/
def State.detectorPair (s : State) (n : Nat) (fwd ref : Int) : State :=
  if !s.fon FEL_PIN.PA n then s
  else if fwd < -2560 ∨ 3840 < fwd ∨ ref < -2560 ∨ 3840 < ref ∨ fwd + 192 < ref then s.pulse pgFEL evtRange
  else if s.dt < (s.felPort n).paSince + 24576 then s
  else
    let t := (s.fsetI FEL_DET.FWD n fwd).fsetI FEL_DET.REF n ref
    let t := (t.setFelPort n { t.felPort n with paMark := t.paOnTicks n }).inputValid pgFEL (32 + n)
    let min_ := t.fgetI FEL_MMCFG0.DET_MIN 0
    let t := if min_ ≤ fwd then t.trackTx n fwd else t
    let t := if min_ ≤ fwd then t.noteRl n (fwd - ref) else t
    let t := if min_ ≤ fwd ∨ t.fgetI FEL_MMCFG3.REF_MAX 0 < ref then t.matchReading n fwd ref else t
    if min_ ≤ fwd then t.judgeTuner n else t

/-- DETECTOR_READING: a FWD and REF pair ends a detector interval (R270). -/
def State.detectorReading (s : State) (n : Nat) (fwd ref : Int) : State :=
  let t := s.detectorPair n fwd ref
  t.setFelPort n { t.felPort n with pow := 0, powN := 0 }

/-- A drain reading, in mV (R271): the supply correction is published to the engine. -/
def State.drainReading (s : State) (n mv : Nat) : State :=
  if mv < bitsOf (s.descWord n 4) 31 16 ∨ bitsOf (s.descWord n 4) 15 0 < mv then s.pulse pgFEL evtRange
  else
    let slope := toSigned (bitsOf (s.descWord n 3) 15 0) 65536
    let corr := dbField (roundDiv (slope * ((mv : Int) - bitsOf (s.descWord n 3) 31 16)) 1000)
    ((s.fset FEL_SUPPLY.V_MV n mv).fsetI FEL_SUPPLY.CORR n corr).publishSupply n corr

/-- A module temperature, in 1/64 °C (R268, R272). -/
def State.modTemp (s : State) (n : Nat) (t64 : Int) : State :=
  if t64 < -3520 ∨ 9600 < t64 then s.pulse pgFEL evtRange
  else
    let t := ((s.fsetI FEL_TEMP.T_MOD n t64).timerStart tmModTemp n s.ms).inputValid pgFEL (64 + n)
    (t.setFelPort n { t.felPort n with band := t.fget THM_STAT.BAND 0 }).refreshGains n

/-- CLASS_ID is checked after a link-up (R258, R260). -/
def State.classRead (s : State) (n data : Nat) : State :=
  let bad := decide (data / 256 ≠ bitsOf (s.descWord n 1) 31 24)
  let t := s.setFelPort n { s.felPort n with mismatch := bad }
  (if bad then t.pulse pgFEL 9 else t).driveChain n

/-- The result of a read reaches its requester. -/
def State.felResult (s : State) (n use data : Nat) : State :=
  if use = 3 then s.classRead n data
  else if use = 4 then s.setFelPort n { s.felPort n with fwd := some (toSigned data 65536) }
  else if use = 5 then
    match (s.felPort n).fwd with
    | some f => (s.setFelPort n { s.felPort n with fwd := none }).detectorReading n f (toSigned data 65536)
    | none => s
  else if use = 6 then s.drainReading n data
  else if use = 7 then s.modTemp n (toSigned data 65536)
  else s

/-- A frame has failed (R258): its requester sees the ACK code, and the eighth in a row takes the link down. -/
def State.frameFailed (s : State) (n : Nat) (q : FelReq) (ack : Nat) : State :=
  let k := (s.felPort n).fails + 1
  let t := (s.setFelPort n { s.felPort n with fails := k, lastFail := some (q, ack) }).fbump FEL_LINK.FRAME_FAIL n
  if 8 ≤ k ∧ t.fon FEL_LINK.UP n then t.felLinkDown n else t

/-- The transitions still to be confirmed after a response (R262): a state that the module holds confirms its own transition and those before it,
the last one only with READY. -/
def leftChecks (state : Nat) (ready : Bool) : List ChainCheck → List ChainCheck
  | [] => []
  | c :: rest =>
    let left := leftChecks state ready rest
    if left.length < rest.length then left else if decide (c.dst = state) && (ready || !rest.isEmpty) then rest else c :: rest

/-- A valid response (R255, R258, R262): the link timeout starts again, a reached state is confirmed, the sixteenth in a row brings the link up. -/
def State.validResponse (s : State) (n state : Nat) (ready : Bool) (flags : ModFlags) : State :=
  let r := s.felPort n
  let t := s.setFelPort n { r with valids := r.valids + 1, paFault := flags.paFault, calBusy := flags.calBusy, checks := leftChecks state ready r.checks }
  let t := t.timerStart tmFelLink n t.us
  if 16 ≤ r.valids + 1 ∧ !t.fon FEL_LINK.UP n then t.felLinkUp n state else t

/-- A bad response (R258): the frame is sent again up to three times, a timed one while its action can still be met. -/
def State.badResponse (s : State) (n : Nat) (f : FelFrame) (ack : Nat) : State :=
  let t := s.setFelPort n { s.felPort n with valids := 0 }
  let meets : Bool := match f.req.act with | some a => decide (t.felFree n + ticksOfNs 1400 ≤ a) | none => true
  if decide (f.tries < 3) && meets then t.setFelPort n { t.felPort n with again := (t.felPort n).again ++ [{ f with tries := f.tries + 1 }] }
  else t.frameFailed n f.req ack

/-- FEL_FRAME_RESPONSE: the response to the oldest frame that awaits one (R255, R258). -/
def execFelFrameResponse (port : Fin 32) (crcOk : Bool) (ack : Fin 16) (seq : Fin 256) (data : Fin 65536) (ready : Bool) (state : Fin 8)
    (flags : ModFlags) (s : State) : Host.Outcome State Fault Refusal :=
  .next (
    let n := port.val
    match (s.felPort n).flight with
    | [] => s
    | f :: rest =>
      let t := s.setFelPort n { s.felPort n with flight := rest }
      let malformed := crcOk && decide (6 ≤ ack.val ∨ 5 ≤ state.val)
      let t :=
        if malformed then (t.pulse pgFEL evtRange).badResponse n f ack.val
        else if !crcOk || decide (seq.val ≠ f.seq) || decide (ack.val = 1 ∨ ack.val = 4) then t.badResponse n f ack.val
        else
          let t := t.validResponse n state.val ready flags
          if ack.val = 0 then (t.setFelPort n { t.felPort n with fails := 0 }).felResult n f.req.use data.val
          else t.frameFailed n f.req ack.val
      if (t.felPort n).loWaits then t.driveChain n else t)

/-- AUTOPOLL: the autopoll timer queues its reads (R272): FWD, REF and DRAIN, or TEMP. -/
def execAutopoll (port : Fin 32) (temp : Bool) (s : State) : Host.Outcome State Fault Refusal :=
  .next (
    if s.fon FEL_LINK.UP port.val then
      s.setFelPort port.val { s.felPort port.val with poll := (s.felPort port.val).poll ++ (if temp then [7] else [4, 5, 6]) }
    else s)

/-- DETECTOR_TIMEOUT: no valid pair within DET_TO_US of PA-on time (R272). -/
def execDetectorTimeout (port : Fin 32) (s : State) : Host.Outcome State Fault Refusal :=
  .next (
    let n := port.val
    if s.fon FEL_LINK.UP n && s.fon FEL_PIN.PA n then
      let t := s.advanceTo (s.dt + (ticksOfUs (s.fget FEL_MMCFG4.DET_TO_US 0) - (s.paOnTicks n - (s.felPort n).paMark)))
      let t := t.setFelPort n { t.felPort n with paMark := t.paOnTicks n }
      (t.inputLost pgFEL (32 + n)).unprove n
    else s)

/-- MODULE_TEMP_TIMEOUT: 100 ms without a valid module temperature (R272). -/
def execModuleTempTimeout (port : Fin 32) (s : State) : Host.Outcome State Fault Refusal :=
  .next (
    if s.fon FEL_LINK.UP port.val && s.timerDue tmModTemp port.val s.ms 100 then (s.timerStop tmModTemp port.val).inputLost pgFEL (64 + port.val)
    else s)

/-- The code of the tuner's next trial: one above or below, within 0 to TUNER_MAX. -/
def nextTune (code most : Nat) (up : Bool) : Option Nat :=
  if up then (if code < most then some (code + 1) else if 0 < code then some (code - 1) else none)
  else (if 0 < code then some (code - 1) else if code < most then some (code + 1) else none)

/-- TUNER_STEP_TIMER: TUNE_INT_MS elapses in WARN (R277). -/
def execTunerStepTimer (port : Fin 32) (s : State) : Host.Outcome State Fault Refusal :=
  .next (
    let n := port.val
    let r := s.felPort n
    if s.mm n = mmWARN && s.fon FEL_TUNER.TUNER_EN n && s.timerDue tmTune n s.ms (s.fget FEL_MMCFG4.TUNE_INT_MS 0) then
      let t := s.timerStart tmTune n s.ms
      match r.trial, r.rls, nextTune (s.fget FEL_TUNER.TUNER_CODE n) (s.modReg n 6 3) r.tuneUp with
      | none, a :: b :: _, some c =>
        let (u, sent) := t.sendTuner n c
        if sent then u.setFelPort n { u.felPort n with trial := some (s.fget FEL_TUNER.TUNER_CODE n, a + b), rls := [], tuneUp := !r.tuneUp } else u
      | _, _, _ => t
    else s)

/-- A write of FEL_TUNER of the selected port (R277). -/
def tunerWrite (i : Init) (v : Word) (s : State) : WRes :=
  let n := s.felSel i
  let code := bitsOf v 7 0
  if !s.member.present n then .error .unitAbsent
  else if s.modReg n 6 3 < code then .error .outOfRange
  else
    let t := s.fset FEL_TUNER.TUNER_EN n (bitsOf v 31 31)
    if !t.felRoom n 1 then .error .windowBusy
    else
      let t := t.setFelPort n { t.felPort n with trial := none, rls := [] }
      .ok ((t.fset FEL_TUNER.TUNER_CODE n code).felPlain n (plainWrite (t.modReg n 6 1) code))

/-- TUNER_CODE_WRITE: a host write of FEL_TUNER.TUNER_CODE (R277). -/
def execTunerCodeWrite (who : Init) (code : Fin 256) (s : State) : Host.Outcome State Fault Refusal :=
  let v := putBits (s.word (FEL_TUNER.TUNER_EN.key (s.felSel who))) 7 0 code.val
  .next (s.access who pgFEL 0x060 v (tunerWrite who v))

/-! Descriptors (R260). -/

/-- Word w of a port's staged descriptor. -/
def State.stagedDescWord (s : State) (n w : Nat) : Word := Tbl.get (fun _ => 0) s.fel.stage (8 * n + w)

/-- A write of FEL_DESC stages the word that FEL_DSEL names. -/
def descStage (i : Init) (v : Word) (s : State) : WRes :=
  let n := s.felSel i
  if !s.member.present n then .error .unitAbsent
  else .ok { s with fel := { s.fel with stage := Tbl.set (fun _ => 0) s.fel.stage (8 * n + s.fget FEL_DSEL.WORD n) v } }

/-- The checks of a staged descriptor (R260). -/
def State.descOk (s : State) (n : Nat) : Bool :=
  let w (k : Nat) := s.stagedDescWord n k
  let sg (x : Nat) : Int := toSigned x 65536
  let a (b : Nat) := bitsOf (w 5) (31 - 8 * b) (24 - 8 * b)
  decide (bitsOf (w 0) 29 24 = 0 ∧ bitsOf (w 7) 31 16 = 0 ∧ bitsOf (w 0) 23 0 < bitsOf (w 1) 23 0) &&
    decide (-5120 ≤ sg (bitsOf (w 2) 31 16) ∧ sg (bitsOf (w 2) 31 16) ≤ 0 ∧ -640 ≤ sg (bitsOf (w 2) 15 0) ∧ sg (bitsOf (w 2) 15 0) ≤ 3840) &&
    decide (bitsOf (w 4) 31 16 < bitsOf (w 4) 15 0 ∧ bitsOf (w 4) 31 16 ≤ bitsOf (w 3) 31 16 ∧ bitsOf (w 3) 31 16 ≤ bitsOf (w 4) 15 0) &&
    decide (bitsOf (w 7) 15 0 ≤ 10000) &&
    decide (a 0 ≠ a 1 ∧ a 0 ≠ a 2 ∧ a 0 ≠ a 3 ∧ a 1 ≠ a 2 ∧ a 1 ≠ a 3 ∧ a 2 ≠ a 3) && decide (s.chain n = chSLEEP)

/-- RXC_CAL and TXC_TRK of a port start at its descriptor's factory gains (R268). -/
def State.factoryGains (s : State) (n : Nat) : State :=
  s.setFelPort n { s.felPort n with rxcCal := -(toSigned (bitsOf (s.descWord n 2) 31 16) 65536)
                                    txcTrk := toSigned (bitsOf (s.descWord n 2) 15 0) 65536 * 65536 }

/-- A write of FEL_DCMD (R260, R268): a mismatch stands until the class register has been read against the new descriptor. -/
def descCommit (i : Init) (v : Word) (s : State) : WRes :=
  let n := s.felSel i
  if !s.member.present n then .error .unitAbsent
  else if bitsOf v 31 31 = 0 then .ok s
  else if !s.descOk n then .error .outOfRange
  else
    let desc := (List.range 8).foldl (fun d w => Tbl.set (fun _ => 0) d (8 * n + w) (s.stagedDescWord n w)) s.fel.desc
    let t := { s with fel := { s.fel with desc := desc } }
    let t := t.factoryGains n
    let t := (((t.refreshGains n).setSupplyRt n {}).fset (supplyFld n) (n / 2) 0).supplyLoss
    .ok (if t.descValid n then (if t.fon FEL_LINK.UP n then t.setFelPort n { t.felPort n with poll := (t.felPort n).poll ++ [3] } else t) else t.safePins n)

/-- FEL_DESC_COMMIT: a write of FEL_DCMD.COMMIT (R260). -/
def execFelDescCommit (who : Init) (s : State) : Host.Outcome State Fault Refusal :=
  .next (s.access who pgFEL 0x0B8 0x80000000 (descCommit who 0x80000000))

end Sys2Proof.Machine
end

