-- ==== Sys2Proof/Machine/Wheel.lean ====
section
/-!
DEFINITION. The timing wheel and coexistence (R221 to R224, R279, R280). Times in 1/3,125 tick: 768 of them are 1 ns.
-/
namespace Sys2Proof.Machine

/-! Rows and their plan (R221). -/

/-- λ of a path: the latency and the added delay of a downlink path (R221). -/
def State.pathLambda (s : State) (p : Nat) : Int :=
  if isUplink p then 0 else 96 * s.fget CHN_PATH_STAT.LATENCY p + roundDiv ((s.pathRt p).reached s.dt * 500) smpQ

/-- L(p, r) of a row in the frame d frames after the current one. -/
def State.rowL (s : State) (p r : Nat) (d : Int) : Int :=
  qTick * (s.frameStart (s.groupOf p) d + rowOffset r) + 768 * (s.pathGrid p).offset + s.pathLambda p

/-- The levels of a row as the wheel resolves them: of the cells not listed, and of those listed (R181, R221). -/
def planLevels (row : GridRow) (prev : Nat × List (Nat × Nat)) : Nat × List (Nat × Nat) :=
  let base := levelOf row.base prev.1
  let keys := row.cells.map (fun e => e.1) ++ prev.2.map (fun e => e.1) ++ (row.bad.map fun w => (List.range 16).map fun i => 16 * w + i).flatten
  let level (k : Nat) : Nat := if row.bad.contains (k / 16) then 0 else levelOf (row.code k) (Tbl.get (fun _ => prev.1) prev.2 k)
  (base, keys.foldl (fun t k => Tbl.set (fun _ => base) t k (level k)) [])

/-- The levels before a row: of the row planned before it, or of the last row read. -/
def PathGrid.before (g : PathGrid) (r : Nat) : Nat × List (Nat × Nat) :=
  match g.plans.find? fun e => decide ((e.1 + 1) % gridRows = r) with
  | some e => (e.2.1, e.2.2)
  | none => (g.prevBase, g.prev)

/-- Some strip of a context of the path transmits at these levels. -/
def State.transmits (s : State) (p : Nat) (l : Nat × List (Nat × Nat)) : Bool :=
  (s.ctxsOfPath p).any fun c => (s.stripsOf c).any fun k => decide (Tbl.get (fun _ => l.1) l.2 k ≠ 0)

/-- The ports of a path that the wheel drives. -/
def State.wheelPorts (s : State) (p : Nat) : List Nat := ((s.writesOf p).map fun t => t - 32).filter fun n => s.fon FTM_PCFG.TDD_EN n

/-- An interval of a port, its leads included, holds a time. -/
def State.ivHolds (s : State) (n : Nat) (iv : Int × Int) (q : Int) : Bool :=
  decide (iv.1 + s.skewQ n - s.maxLead n ≤ q ∧ q < iv.2 + s.skewQ n)

/-- A time within the interval of a port that is in progress moves on to the present, so that it stays within the interval as rows leave its plan. -/
def State.moveMark (s : State) (n : Nat) (q : Int) : Int :=
  if (s.windowOf n).any fun iv => s.ivHolds n iv q && s.ivHolds n iv s.nowQ then max q s.nowQ else q

/-- What is dark or granted stays so to the end of its interval, however the plan grows (R280). -/
def State.moveMarks (s : State) (n : Nat) : State :=
  let w := s.wheelPort n
  let k := s.fget FTM_PCFG.CX_PAIR n
  let c : CxPair := Tbl.get (fun _ => {}) s.fel.pairs k
  let c := { c with granted := c.granted.map fun x => if x.1 = n then (n, s.moveMark n x.2) else x }
  { s.setWheelPort n { w with dark := w.dark.map fun q => s.moveMark n q } with fel := { s.fel with pairs := Tbl.set (fun _ => {}) s.fel.pairs k c } }

/-- A row's interval enters the plan of a port; intervals long past leave it. -/
def State.addPlan (s : State) (n : Nat) (r : PlanRow) : State :=
  let s := s.moveMarks n
  let w := s.wheelPort n
  let keep := w.plan.filter fun x => decide (s.nowQ < x.stop + 1000 * qUs ∧ ¬(x.path = r.path ∧ x.row = r.row ∧ x.start = r.start))
  s.setWheelPort n { w with plan := insertPlan r keep }

/-- WHEEL_ROW_PLAN: at T_freeze + 1 µs the wheel resolves a row of a path that is ON or DRAINING (R221). -/
def execWheelRowPlan (path : Fin 32) (row : Fin 280) (s : State) : Host.Outcome State Fault Refusal :=
  .next (
    let p := path.val
    let r := row.val
    let a := s.rowAt p r
    if !s.works pgFTM || !s.member.present p || decide (s.pathState p = pathOFF) then s
    else
      let t := s.advanceTo (tickOfQ (s.tFreeze p r a.2 + qUs))
      let g := t.pathGrid p
      let l := planLevels a.1 (g.before r)
      let t := t.setPathGrid p { g with plans := ((r, l.1, l.2) :: g.plans.filter fun e => decide (e.1 ≠ r)).take 4 }
      if t.transmits p l then
        let stop := if r + 1 < gridRows then s.rowL p (r + 1) a.2 else s.rowL p 0 (a.2 + 1)
        (t.wheelPorts p).foldl (fun t n => t.addPlan n ⟨p, r, s.rowL p r a.2, stop⟩) t
      else t)

/-! Pins (R222, R223). -/

/-- The wheel's level of an output. -/
def WheelPort.level (w : WheelPort) (pin : Nat) : Bool := match pin with | 0 => w.trx | 1 => w.pa | _ => w.asks

/-- A port belongs to a pair and drives its REQUEST. -/
def State.inPair (s : State) (k n : Nat) : Bool :=
  s.fon FTM_PCFG.TDD_EN n && s.fon FTM_PCFG.CX_EN n && decide (s.pairOf n = k)

/-- The ports of a pair. -/
def State.pairPorts (s : State) (k : Nat) : List Nat := (List.range 32).filter fun n => s.inPair k n

/-- When an output may rise for an interval: REQUEST not before CX_MIN_LOW_NS after its fall (R223). -/
def State.riseTime (s : State) (n pin : Nat) (iv : Int × Int) : Int :=
  let t := iv.1 + s.skewQ n - s.leadQ n pin
  if pin = 2 ∧ !s.fon CXW_STAT.REQ (s.pairOf n) ∧ (s.cxPair (s.pairOf n)).fell ≠ 0 then
    max t (qTick * (s.cxPair (s.pairOf n)).fell + 768 * s.fget FTM_WD.CX_MIN_LOW_NS 0)
  else t

/-- When an output falls for an interval: PA enable and TRX not before PA_MIN_NS after their rise (R222, R223). -/
def State.fallTime (s : State) (pin : Nat) (w : WheelPort) (t : Int) : Int :=
  if pin = 2 then t
  else max t (qTick * (if pin = 0 then w.trxRose else w.paRose) + 768 * s.fget FTM_WD.PA_MIN_NS 0)

/-- The interval for which a low output of a port rises next: one that is not dark. -/
def State.riseIv (s : State) (n : Nat) : Option (Int × Int) :=
  (s.windowOf n).find? fun iv => decide (s.nowQ < iv.2 + s.skewQ n) && !((s.wheelPort n).dark.any fun q => s.ivHolds n iv q)

/-- The next event of an output of a port: its time and its new level (R222). -/
def State.nextPin (s : State) (n pin : Nat) : Option (Int × Bool) :=
  let w := s.wheelPort n
  let now := s.nowQ
  let ivs := s.windowOf n
  if w.level pin then
    match ivs.find? fun iv => decide (iv.1 + s.skewQ n - s.leadQ n pin ≤ now ∧ now ≤ iv.2 + s.skewQ n) with
    | some iv => some (s.fallTime pin w (iv.2 + s.skewQ n), false)
    | none => some (s.fallTime pin w now, false)
  else
    match s.riseIv n with
    | some iv => if s.riseTime n pin iv < iv.2 + s.skewQ n then some (max now (s.riseTime n pin iv), true) else none
    | none => none

/-- The REQUEST of a pair follows its ports; PRIORITY is set as it rises (R222, R279). -/
def State.refreshReq (s : State) (k : Nat) : State :=
  let want := s.fon CXW_CFG.EN k && !s.flt.padOverride && (s.pairPorts k).any fun n => (s.wheelPort n).asks
  let was := s.fon CXW_STAT.REQ k
  if want = was then s
  else if want then
    let pri := decide (s.fget CXW_CFG.PRI_MODE k = 1) || (decide (s.fget CXW_CFG.PRI_MODE k = 2) && (s.cxPair k).priHigh)
    ((s.fset CXW_STAT.REQ k 1).fsetB CXW_STAT.PRI k pri).setCxPair k { s.cxPair k with rose := s.dt }
  else ((s.fset CXW_STAT.REQ k 0).fset CXW_STAT.PRI k 0).setCxPair k { s.cxPair k with fell := s.dt, granted := [] }

/-- The pad override takes a level; with its end the pins that the wheel does not drive, and the REQUESTs, take their levels again, while pin events
fall to the wheel at the next one (R259, R358). -/
def State.setPads (s : State) (held : Bool) : State :=
  let t : State := { s with flt := { s.flt with padOverride := held } }
  if held then t
  else
    let t := ((List.range 32).filter fun n => t.member.present n).foldl (fun t n => t.fddPins n) t
    (List.range 8).foldl (fun t k => t.refreshReq k) t

/-- The wheel's level of an output changes. -/
def State.setLevel (s : State) (n pin : Nat) (b : Bool) : State :=
  let w := s.wheelPort n
  match pin with
  | 0 => s.setWheelPort n { w with trx := b, trxRose := if b then s.dt else w.trxRose }
  | 1 => s.setWheelPort n { w with pa := b, paRose := if b then s.dt else w.paRose }
  | _ => (s.setWheelPort n { w with asks := b, delayed := false }).refreshReq (s.pairOf n)

/-- The pins follow the wheel after an event, unless they are overridden (R224, R259). -/
def State.wheelPins (s : State) (n pin : Nat) : State :=
  let w := s.wheelPort n
  if s.pinsFree n then s.askPins n w.trx (w.pa && (decide (pin = 1) || s.fon FEL_PIN.PA n)) else s

/-- A REQUEST rise that waits for CX_MIN_LOW_NS is reported once (R223). -/
def State.noteDelay (s : State) (n pin : Nat) : State :=
  let w := s.wheelPort n
  match s.riseIv n with
  | some iv =>
    if pin = 2 ∧ !w.asks ∧ !w.delayed ∧ iv.1 + s.skewQ n - s.leadQ n 2 < s.riseTime n 2 iv then
      (s.setWheelPort n { w with delayed := true }).pulse pgFTM 8
    else s
  | none => s

/-- PIN_EVENT: the next event of an output of a port (0 TRX, 1 PA enable, 2 REQUEST) falls at its planned time (R222). -/
def execPinEvent (port : Fin 32) (pin : Fin 3) (s : State) : Host.Outcome State Fault Refusal :=
  .next (
    let n := port.val
    if !s.works pgFTM || !s.fon FTM_PCFG.TDD_EN n || (decide (pin.val = 2) && !s.fon FTM_PCFG.CX_EN n) then s
    else
      match s.nextPin n pin.val with
      | none => s
      | some (q, b) =>
        let t := s.noteDelay n pin.val
        let t := (t.advanceTo (tickOfQ q)).setLevel n pin.val b
        if pin.val = 2 then t else t.wheelPins n pin.val)

/-- A port's planned row is withdrawn or cancelled (R223). -/
def State.dropPlan (s : State) (n p r : Nat) : State :=
  let w := s.wheelPort n
  match w.plan.find? fun x => decide (x.path = p ∧ x.row = r ∧ s.nowQ < x.stop + s.skewQ n) with
  | none => s
  | some x =>
    let shown := decide (x.start + s.skewQ n - s.maxLead n ≤ s.nowQ)
    let t := s.setWheelPort n { w with plan := w.plan.filter fun y => decide (y ≠ x) }
    if shown then (t.fbump FTM_PSTAT.WITHDRAWN n).pulse pgFTM 6 else (t.fbump FTM_PSTAT.CANCELLED n).pulse pgFTM 7

/-- A planned row of a path is resolved again; one that no longer transmits leaves the plan of the path's ports (R223). -/
def State.replanRow (s : State) (p r : Nat) : State :=
  let g := s.pathGrid p
  let l := planLevels (s.rowAt p r).1 (g.before r)
  let t := s.setPathGrid p { g with plans := g.plans.map fun e => if e.1 = r then (r, l.1, l.2) else e }
  if t.transmits p l then t else (t.wheelPorts p).foldl (fun t n => t.dropPlan n p r) t

/-- PREFIRE_REVOKE: a late mute reaches the wheel, which recomputes the windows of the path's ports (R223): the row, and those planned after it,
whose HOLD cells follow it. -/
def execPrefireRevoke (path : Fin 32) (row : Fin 280) (s : State) : Host.Outcome State Fault Refusal :=
  .next (
    let p := path.val
    let r := row.val
    let planned := if s.works pgFTM then ((s.pathGrid p).plans.map fun e => e.1).reverse else []
    (planned.dropWhile fun k => decide (k ≠ r)).foldl (fun t k => t.replanRow p k) s)

/-! Coexistence (R279, R280). -/

/-- The pair's LOSS level and its fault source (R280, R347). -/
def State.pairLoss (s : State) (k : Nat) : State :=
  (s.drive (114 + k) (s.cxPair k).lost).cond pgCXW evtLoss ((List.range 8).any fun j => (s.cxPair j).lost)

/-- The interval of a port that is in progress or comes next. -/
def State.currentIv (s : State) (n : Nat) : Option (Int × Int) := (s.windowOf n).find? fun iv => decide (s.nowQ < iv.2 + s.skewQ n)

/-- A time within an interval of a port: the present, or the interval's first lead where that lies ahead. -/
def State.ivMark (s : State) (n : Nat) (iv : Int × Int) : Int := max s.nowQ (iv.1 + s.skewQ n - s.maxLead n)

/-- A port's interval that contains the present time, or whose own GRANT was sampled, goes dark until its end (R280). -/
def State.darken (s : State) (n : Nat) (own : Bool) : State :=
  match s.currentIv n with
  | none => s
  | some iv =>
    if !own && !s.ivHolds n iv s.nowQ then s
    else
      let w := s.wheelPort n
      let t := s.setWheelPort n { w with trx := false, pa := false, asks := false, dark := some (s.ivMark n iv) }
      if t.pinsFree n then t.askPins n false false else t

/-- The burst of a pair goes dark: its ports' pins fall, and REQUEST falls (R280); `ports` are those whose own GRANT it was. -/
def State.darkPair (s : State) (k : Nat) (ports : List Nat) : State :=
  ((s.pairPorts k).foldl (fun s n => s.darken n (ports.contains n)) s).refreshReq k

/-- The grants of a pair without that of a port. -/
def CxPair.without (r : CxPair) (n : Nat) : List (Nat × Int) := r.granted.filter fun x => decide (x.1 ≠ n)

/-- GRANT low at D of an interval of a port (R280). -/
def State.cxDenied (s : State) (k n : Nat) : State :=
  let t := (s.fbump CXW_STAT.DENIED k).pulse pgCXW 0
  let r := t.cxPair k
  if t.fon CXW_CFG.MODE k then
    let t := t.setCxPair k { r with denials := r.denials + 1, lost := r.lost || decide (t.fget CXW_CFG.LOSS_N k ≤ r.denials + 1), priHigh := true, granted := r.without n }
    (t.pairLoss k).darkPair k [n]
  else t.setCxPair k { r with priHigh := true, granted := r.without n }

/-- GRANT_SAMPLE: GRANT is sampled at D for the interval of a port of the pair (R280). -/
def execGrantSample (pair : Fin 8) (port : Fin 32) (grant : Bool) (s : State) : Host.Outcome State Fault Refusal :=
  .next (
    let k := pair.val
    let n := port.val
    if !s.works pgCXW || !s.fon CXW_CFG.EN k || !s.inPair k n then s
    else
      match s.currentIv n with
      | none => s
      | some iv =>
        let d := max (iv.1 + s.skewQ n - 768 * s.fget CXW_CFG.GNT_SETUP_NS k) (qTick * (s.cxPair k).rose + 768 * (40 * s.fget CXW_CFG.GNT_FILT k))
        let t := (s.advanceTo (tickOfQ d)).fsetB CXW_STAT.GNT k grant
        if grant then (t.setCxPair k { t.cxPair k with denials := 0, lost := false, priHigh := false, granted := (t.cxPair k).without n ++ [(n, t.ivMark n iv)] }).pairLoss k
        else t.cxDenied k n)

/-- The granted intervals of a pair that are in progress. -/
def State.liveGrants (s : State) (k : Nat) : List (Nat × Int) :=
  (s.cxPair k).granted.filter fun x => (s.windowOf x.1).any fun iv => s.ivHolds x.1 iv x.2 && decide (s.nowQ < iv.2 + s.skewQ x.1)

/-- GRANT_FALL: the filtered GRANT of a pair falls (R280): a revocation of each granted interval that is in progress. -/
def execGrantFall (pair : Fin 8) (s : State) : Host.Outcome State Fault Refusal :=
  .next (
    let k := pair.val
    if !s.works pgCXW || !s.fon CXW_CFG.EN k then s
    else
      let t := s.fset CXW_STAT.GNT k 0
      let t := t.setCxPair k { t.cxPair k with granted := [] }
      if (s.liveGrants k).isEmpty then t
      else
        let t := (s.liveGrants k).foldl (fun t _ => t.fbump CXW_STAT.REVOKED k) t
        if t.fon CXW_CFG.MODE k then (t.pulse pgCXW 1).darkPair k ((s.liveGrants k).map fun x => x.1) else t)

/-- GRANT_HIGH_TIMEOUT: GRANT has been high for more than 1 ms while REQUEST is low (R280). -/
def execGrantHighTimeout (pair : Fin 8) (s : State) : Host.Outcome State Fault Refusal :=
  .next (
    if s.works pgCXW && s.fon CXW_CFG.EN pair.val && !s.fon CXW_STAT.REQ pair.val then (s.fset CXW_STAT.GNT pair.val 1).pulse pgCXW evtRange else s)

end Sys2Proof.Machine
end

