-- ==== Sys2Proof/Machine/Fox.lean ====
section
/-!
DEFINITION. Chapter 9, second part: the Foxglove protective shutdown: triggers, slots, the sequence, retry and clear (R238 to R245).
-/
namespace Sys2Proof.Machine

/-! Timers of a slot. -/

def tmFoxWait : Nat := 31
def tmFoxGood : Nat := 32
def tmFoxStop : Nat := 33

/-- A set of small numbers as a mask. -/
def maskOf (l : List Nat) : Nat := l.foldl (fun m k => m ||| 2 ^ k) 0

/-! Scopes (R238, R239). -/

/-- The scope of a trigger, and what its retry awaits. -/
structure FoxScope where
  paths : Nat := 0
  /-- transmit streams, from the first one -/
  streams : Nat := 0
  doms : Nat := 0
  groups : Nat := 0
  duties : List (Nat × Nat) := []
deriving DecidableEq, Repr

/-- The paths that hold a context of a covering entry that satisfies a condition. -/
def State.pathsCovered (s : State) (f : Nat → Nat → Bool) : List Nat :=
  s.paths.filter fun p => (s.ctxsOfPath p).any fun c => match s.coverOf c with | some e => f p e | none => false

/-- The scope of a cause (R238). -/
def State.foxScope (s : State) : FoxCause → FoxScope
  | .osc t => { streams := 2 ^ t.val, paths := maskOf (s.pathsWriting t.val) }
  | .noise p => { paths := 2 ^ p.val }
  | .timing g => { paths := maskOf (s.pathsCovered fun p e => decide (s.groupOf p = g.val) && (s.entryOf e).tdd), groups := 2 ^ g.val }
  | .duty t e => { paths := maskOf (s.pathsCovered fun p k => (s.pathsWriting t.val).contains p && decide (k = e.val)), duties := [(t.val, e.val)] }
  | .oob t => { streams := 2 ^ t.val, paths := maskOf (s.pathsWriting t.val) }
  | .remote d => { doms := 2 ^ d.val }

/-- The code of a cause (R238). -/
def foxCode : FoxCause → Nat
  | .osc _ => 1
  | .noise _ => 2
  | .timing _ => 3
  | .duty _ _ => 4
  | .oob _ => 5
  | .remote _ => 6

/-- A transmit stream is muted by a slot. -/
def State.streamMuted (s : State) (n : Nat) : Bool := (List.range 16).any fun k => s.foxMutesStream k n

/-- A path is muted as a whole, by itself or through a stream that it writes. -/
def State.pathMuted (s : State) (p : Nat) : Bool :=
  (List.range 16).any fun k => !(s.foxRt k).lifted p && s.foxHoldsPath k p

/-- A trigger of code 1, 2, 4 or 5 whose whole scope is muted is not taken (R241); an empty scope of paths starts nothing. -/
def State.foxTaken (s : State) (code : Nat) (x : FoxScope) : Bool :=
  if code = 6 then true
  else if x.paths = 0 ∧ x.streams = 0 then false
  else if code = 3 then true
  else
    !((s.paths.all fun p => !x.paths.testBit p || s.pathMuted p) && (List.range 32).all fun n => !x.streams.testBit n || s.streamMuted n)

/-- A scope lies within a slot's. -/
def State.foxWithin (s : State) (k : Nat) (x : FoxScope) : Bool :=
  (s.paths.all fun p => !x.paths.testBit p || s.foxHoldsPath k p) &&
    ((List.range 32).all fun n => !x.streams.testBit n || s.fbit NPR_FOX_STREAMS.STREAMS k n) &&
    ((List.range 16).all fun d => !x.doms.testBit d || (s.foxRt k).doms.testBit d)

/-- A path lies in a slot's scope for the stop of its ports (R239): as a path, through its stream, or because every context of it is owned. -/
def State.foxCovers (s : State) (k p : Nat) : Bool :=
  let cs := s.ctxsOfPath p
  s.foxHoldsPath k p || (decide ((s.foxRt k).doms ≠ 0) && !cs.isEmpty && cs.all fun c => s.foxHolds k c)

/-- The stopped ports of a slot's scope (R239): converter streams, every writing path of which lies in the scope. -/
def State.foxPorts (s : State) (k : Nat) : List Nat :=
  (List.range 32).filter fun n =>
    s.member.present n && decide (s.fget CHN_STREAM.LINK (32 + n) = 0) &&
      (let w := s.pathsWriting n
       if w.isEmpty then s.fbit NPR_FOX_STREAMS.STREAMS k n else w.all fun p => s.foxCovers k p)

/-- Contexts that a slot's scope holds. -/
def State.foxCtxs (s : State) (k : Nat) : List Nat := s.liveCtxs.filter fun c => s.foxHolds k c

/-! The slots' registers. -/

/-- The mute bits, the busy and latched slots and F106 follow the slots (R233, R241, R250, R347). -/
def State.foxRefresh (s : State) : State :=
  let t := s.fset LIM_MUTE_PATH.PATHS 0 (maskOf (s.paths.filter fun p => (List.range 16).any fun k => s.foxMutesPath k p))
  let t := t.fset LIM_MUTE_STREAM.STREAMS 0 (maskOf ((List.range 32).filter fun n => s.streamMuted n))
  let latched := (List.range 16).filter fun k => decide (s.foxState k = foxLATCHED)
  let t := (t.fset NPR_FOX_ACTIVE.BUSY 0 (maskOf ((List.range 16).filter fun k => decide (s.foxState k ≠ foxIDLE)))).fset NPR_FOX_ACTIVE.LATCHED 0 (maskOf latched)
  t.drive 106 (!latched.isEmpty)

/-- A slot takes a state; outside BACKOFF nothing waits (R250). -/
def State.setFox (s : State) (k st : Nat) : State :=
  let t := if st = foxBACKOFF then s else (s.fset NPR_FOX_WAIT.WAIT_S k 0).timerStop tmFoxWait k
  (t.fset NPR_FOX_STAT.STATE k st).foxRefresh

/-- Cause 2 leaves the contexts that a slot holds and no slot mutes any longer, at their next ticks (R245). -/
def State.foxLift (s : State) (k : Nat) : State :=
  (s.foxCtxs k).foldl (fun s c => if s.foxMutes c then s else s.clearMute c 2) s

/-- Some slot keeps a port stopped. -/
def State.foxStops (s : State) (n : Nat) : Bool :=
  (List.range 16).any fun k =>
    decide (s.foxState k ≠ foxIDLE ∧ s.foxState k ≠ foxRETRYING) && s.fbit NPR_FOX_PORTS.PORTS k n

/-- Ports of a slot that no slot stops any longer return toward their targets (R245, R264). -/
def State.foxFree (s : State) (k : Nat) : State :=
  (List.range 32).foldl (fun s n =>
    if s.fbit NPR_FOX_PORTS.PORTS k n && s.fon FEL_CHAIN.FOX_HOLD n && !s.foxStops n then
      (s.foxReleasePort n).drive (32 + n) (!s.fon FEL_LINK.UP n)
    else s) s

/-! The sequence (R240, R243). -/

/-- A slot's scope is widened by a scope. -/
def State.foxWiden (s : State) (k : Nat) (x : FoxScope) : State :=
  let r := s.foxRt k
  let t := s.setFoxRt k { r with doms := r.doms ||| x.doms, groups := r.groups ||| x.groups, duties := r.duties ++ x.duties }
  (t.fset NPR_FOX_PATHS.PATHS k (t.fget NPR_FOX_PATHS.PATHS k ||| x.paths)).fset NPR_FOX_STREAMS.STREAMS k
    (t.fget NPR_FOX_STREAMS.STREAMS k ||| x.streams)

/-- The policy registers of the owners of a slot's contexts: NPR_POL16 for contexts of the integrator and unowned ones (R243). -/
def State.foxPolicies (s : State) (k : Nat) : List Nat :=
  let l := ((s.foxCtxs k).map fun c => min 16 (s.cget CTX_OWNER.OWNER c)).eraseDups
  if l.isEmpty then [16] else l

/-- The policy of a slot is fixed at its trigger (R243). -/
def State.foxPolicy (s : State) (k code : Nat) : State :=
  let l := s.foxPolicies k
  let most (f : Fld) : Nat := (l.map fun d => s.fget f d).foldl max 0
  let least : Nat := (l.map fun d => s.fget NPR_POL.RETRY_LIMIT d).foldl min 127
  let t := s.setFoxRt k { s.foxRt k with limit := least, base := most NPR_POL.RETRY_BASE_S, most := most NPR_POL.RETRY_MAX_S }
  t.fsetB NPR_FOX_STAT.MODE k (decide (code = 6) || l.any fun d => s.fon NPR_POL.MODE d)

/-- The ports in a slot's scope are stopped: pins at their safe levels, chains to STANDBY (R240 steps 4, 5, 7). -/
def State.foxStopPorts (s : State) (k : Nat) : State :=
  let ports := s.foxPorts k
  let t := s.fset NPR_FOX_PORTS.PORTS k (maskOf ports)
  ports.foldl (fun t n => if t.fon FEL_CHAIN.FOX_HOLD n then t else t.foxHoldPort n) t

/-- Step 6: protection mutes of cause 2 of some contexts. -/
def State.foxMuteCtxs (s : State) (cs : List Nat) : State :=
  cs.foldl (fun s c => if ctxRuns (s.ctxState c) || decide (s.ctxState c = ctxMUTED) then s.raiseMute c 2 else s) s

/-- Step 6: word 27 of the contexts that the scope of a trigger holds (R248). -/
def State.foxNote (s : State) (code : Nat) (cs : List Nat) : State :=
  cs.foldl (fun s c => (s.cset CTX_FOX.TRIGGER c code).cbump CTX_FOX.SHUTDOWNS c) s

/-- A scope holds a context: its path, a stream that the path writes, or its owner. -/
def State.scopeHolds (s : State) (x : FoxScope) (c : Nat) : Bool :=
  x.paths.testBit (s.ctxPath c) || (s.ctxDests c).any (fun t => x.streams.testBit (t - 32)) ||
    (decide (s.cget CTX_OWNER.OWNER c < 16) && x.doms.testBit (s.cget CTX_OWNER.OWNER c))

/-- The report of a shutdown (R240 step 8, R324): to the integrator and to every domain that owns a context in scope. -/
def State.foxReport (s : State) (k : Nat) : State :=
  let doms := (((s.foxCtxs k).map fun c => s.cget CTX_OWNER.OWNER c).filter fun d => decide (d < 16)).eraseDups
  let body := [k, s.fget NPR_FOX_STAT.TRIGGER k, s.foxState k, 0] ++ beBytes 4 (s.fget NPR_FOX_PATHS.PATHS k) ++
    beBytes 4 (s.fget NPR_FOX_STREAMS.STREAMS k) ++ beBytes 4 (s.fget NPR_FOX_PORTS.PORTS k)
  (0x10 :: doms).foldl (fun s d => s.report 1 d pgNPR 0 body) s

/-- A slot goes to STOPPING and runs the sequence (R240). -/
def State.foxStart (s : State) (k code : Nat) : State :=
  let t := (s.fset NPR_FOX_STAT.TRIGGER k code).fset NPR_FOX_STAT.CLEAR_PENDING k 0
  let t := t.fset NPR_FOX_DT_LO.DT k (t.dt % 2 ^ 32)
  let t := t.setFoxRt k { t.foxRt k with muting := true, lifting := false, releasing := 0 }
  let t := ((t.timerStop tmFoxGood k).timerStart tmFoxStop k t.ms).setFox k foxSTOPPING
  let t := ((t.foxStopPorts k).foxMuteCtxs (t.foxCtxs k)).foxNote code (t.foxCtxs k)
  let t := (t.pulse pgNPR 0).post 0x2001 (k * 256 + code) (t.fget NPR_FOX_PATHS.PATHS k) (t.fget NPR_FOX_PORTS.PORTS k)
  t.foxReport k

/-- A slot goes to LATCHED (R242). -/
def State.foxLatch (s : State) (k : Nat) : State :=
  if s.foxState k = foxLATCHED then s
  else ((s.setFox k foxLATCHED).pulse pgNPR 2).post 0x2002 k (s.fget NPR_FOX_STAT.RETRIES k) 0

/-- A trigger that finds no IDLE slot merges into a slot (R241). -/
def State.foxMerge (s : State) (k code : Nat) (x : FoxScope) : State :=
  let same := decide (s.fget NPR_FOX_STAT.TRIGGER k = code)
  let t := s.foxWiden k x
  if same ∧ t.foxState k = foxRETRYING then (t.foxStart k code).pulse pgNPR 4
  else
    let t := t.setFoxRt k { t.foxRt k with muting := true, lifting := false, releasing := 0 }
    let t := ((t.foxRefresh.foxStopPorts k).foxMuteCtxs (t.foxCtxs k)).foxNote code (t.liveCtxs.filter fun c => t.scopeHolds x c)
    let t := if same then t else ((t.timerStop tmFoxStop k).timerStop tmFoxGood k).foxLatch k
    t.pulse pgNPR 4

/-- A trigger is decided (R240, R241, R242). -/
def State.foxTrigger (s : State) (cause : FoxCause) : State :=
  let code := foxCode cause
  let x := s.foxScope cause
  if !s.foxTaken code x then s
  else
    let own (k : Nat) : Bool := decide (s.fget NPR_FOX_STAT.TRIGGER k = code)
    match (List.range 16).find? fun k => decide (s.foxState k = foxRETRYING) && own k && s.foxWithin k x with
    | some k => s.foxStart k code
    | none =>
      match (List.range 16).find? fun k => decide (s.foxState k = foxIDLE) with
      | some k => ((s.foxWiden k x).foxPolicy k code).foxStart k code
      | none => s.foxMerge (((List.range 16).find? own).getD 15) code x

/-! Conditions of the triggers (R238). -/

/-- OSC_N onset triggers at the clamp floor lie within OSC_WIN_MS. -/
def State.oscMany (s : State) (n : Nat) : Bool :=
  let l := Tbl.get (fun _ => []) s.npr.oscHits (32 + n)
  decide (s.fget NPR_OSC.OSC_N 0 ≤ (l.filter fun x => decide (s.dt < x + 245760 * s.fget NPR_OSC.OSC_WIN_MS 0)).length)

/-- MARGIN_NEG stands on an instance (R129). -/
def State.marginNeg (s : State) (n : Nat) : Bool := (s.activeSbs n).any fun k => decide (s.marginOf n k < 0)

/-- The clamp of a stream is not IDLE while MARGIN_NEG stands on an instance that covers it. -/
def State.oscStands (s : State) (n : Nat) : Bool :=
  decide (s.clampState (32 + n) ≠ 0) && (List.range 32).any fun i => s.covers i (32 + n) && s.marginNeg i

/-- Since when that has stood follows it. -/
def State.noteOsc (s : State) : State :=
  (List.range 32).foldl (fun s n =>
    let v := Tbl.get (fun _ => 0) s.npr.oscNeg (32 + n)
    let v' := if s.oscStands n then (if v = 0 then s.dt + 1 else v) else 0
    if v = v' then s else { s with npr := { s.npr with oscNeg := Tbl.set (fun _ => 0) s.npr.oscNeg (32 + n) v' } }) s

/-- Excess noise of an uplink path stands at one of its contexts since a device time, plus one. -/
def State.noiseSince (s : State) (c : Nat) : Nat := if isUplink (s.ctxPath c) then (s.ctxRt c).noiseOver else 0

/-- The bins of a stream that exceed OOB_LIM, with since when. -/
def State.oobSince (s : State) (n : Nat) : List Nat :=
  (s.npr.oob.filter fun e => decide (e.1 / 64 = 32 + n)).map fun e => e.2

/-- Blocks in which an entry was on at a stream, over the last DUTY_WIN_S. -/
def State.dutyBlocks (s : State) (n e : Nat) : Nat :=
  ((Tbl.get (fun _ => {}) s.npr.duty (64 * (32 + n) + e) : DutyRt).past.take (s.entryOf e).dutyWin).sum

/-- A duty in 1/1,024 compared with a bound of 1/8,192: on-time of blocks of 64 samples over the window. -/
def State.dutyAbove (s : State) (n e bound8 : Nat) : Bool :=
  decide (bound8 * (rateKhz (s.fget CHN_STREAM.RATE (32 + n)) * 1000 * (s.entryOf e).dutyWin) < s.dutyBlocks n e * 64 * 8192)

/-- The duty violation of an entry at a stream (R238). -/
def State.dutyOver (s : State) (n e : Nat) : Bool :=
  (s.entryOf e).valid && decide ((s.entryOf e).duty < 1024) && s.dutyAbove n e (8 * (s.entryOf e).duty)

/-- The condition of a cause holds now. -/
def State.foxCondition (s : State) : FoxCause → Bool
  | .osc t => s.oscMany t.val ||
      (decide (Tbl.get (fun _ => 0) s.npr.oscNeg (32 + t.val) ≠ 0 ∧
        Tbl.get (fun _ => 0) s.npr.oscNeg (32 + t.val) + 245760 * s.fget NPR_OSC_NEG.OSC_NEG_MS 0 ≤ s.dt + 1) && s.oscStands t.val)
  | .noise p => (s.ctxsOfPath p.val).any fun c =>
      decide (s.noiseSince c ≠ 0 ∧ s.noiseSince c + 245760 * s.fget NPR_NOISE.NOISE_TRIG_MS 0 ≤ s.dt + 1)
  | .timing g => decide (s.groupState g.val = tgLOST)
  | .duty t e => s.dutyOver t.val e.val
  | .oob t => (s.oobSince t.val).any fun x => decide (x + ticksOfUs (s.fget NPR_OOB.OOB_US 0) ≤ s.dt + 1)
  | .remote _ => true

/-- The counts that led to a trigger start again. -/
def State.foxRestart (s : State) : FoxCause → State
  | .osc t => { s with npr := { s.npr with oscHits := Tbl.set (fun _ => []) s.npr.oscHits (32 + t.val) []
                                           oscNeg := Tbl.set (fun _ => 0) s.npr.oscNeg (32 + t.val) 0 } }
  | .noise p => (s.ctxsOfPath p.val).foldl (fun s c => s.setCtxRt c { s.ctxRt c with noiseOver := 0 }) s
  | .oob t => { s with npr := { s.npr with oob := s.npr.oob.filter fun e => decide (e.1 / 64 ≠ 32 + t.val) } }
  | _ => s

/-- A cause whose condition holds starts its shutdown. -/
def State.foxCheck (s : State) (cause : FoxCause) : State :=
  if s.foxCondition cause then (s.foxTrigger cause).foxRestart cause else s

/-- FOXGLOVE_TRIGGER: a trigger is decided, its condition holding (R238 to R241). -/
def execFoxgloveTrigger (cause : FoxCause) (s : State) : Host.Outcome State Fault Refusal := .next (s.foxCheck cause)

/-- OSC_NEG_TIMEOUT: the clamp of a stream has not been IDLE while MARGIN_NEG stood, for OSC_NEG_MS (R238). -/
def execOscNegTimeout (stream : Fin 32) (s : State) : Host.Outcome State Fault Refusal :=
  .next (
    let v := Tbl.get (fun _ => 0) s.npr.oscNeg (32 + stream.val)
    if v = 0 then s else (s.advanceTo (v - 1 + 245760 * s.fget NPR_OSC_NEG.OSC_NEG_MS 0)).foxCheck (.osc stream))

/-- NOISE_TRIG_TIMEOUT: NOISE_MEAS of a context has exceeded its entry's NOISE_LIM for NOISE_TRIG_MS (R238). -/
def execNoiseTrigTimeout (ctx : Fin 4096) (s : State) : Host.Outcome State Fault Refusal :=
  .next (
    let v := s.noiseSince ctx.val
    let p := s.ctxPath ctx.val
    if h : p < 32 then
      if v = 0 then s else (s.advanceTo (v - 1 + 245760 * s.fget NPR_NOISE.NOISE_TRIG_MS 0)).foxCheck (.noise ⟨p, h⟩)
    else s)

/-- OOB_TIMEOUT: a limiter bin outside every window of a stream has exceeded OOB_LIM for OOB_US (R238). -/
def execOobTimeout (stream : Fin 32) (s : State) : Host.Outcome State Fault Refusal :=
  .next (
    match s.oobSince stream.val with
    | [] => s
    | x :: rest => (s.advanceTo (rest.foldl min x - 1 + ticksOfUs (s.fget NPR_OOB.OOB_US 0))).foxCheck (.oob stream))

/-! Stopped, retry, clear (R242, R244, R245). -/

/-- The retry condition of a slot (R238). -/
def State.foxRetryOk (s : State) (k : Nat) : Bool :=
  let r := s.foxRt k
  ((List.range 8).all fun g => !r.groups.testBit g || decide (s.groupState g = tgLOCKED)) &&
    r.duties.all fun d => !s.dutyAbove d.1 d.2 (7 * (s.entryOf d.2).duty)

/-- A stopped chain is in STANDBY, or below. -/
def State.foxChainDown (s : State) (n : Nat) : Bool := decide (s.chain n ≤ chSTANDBY) && (s.felPort n).moving.isNone

/-- A slot has stopped, and its policy takes it on (R242). -/
def State.foxStopped (s : State) (k : Nat) : State :=
  let r := s.foxRt k
  let n := s.fget NPR_FOX_STAT.RETRIES k
  let t := s.timerStop tmFoxStop k
  if s.fon NPR_FOX_STAT.MODE k || decide (r.limit ≤ n) then t.foxLatch k
  else ((t.fset NPR_FOX_WAIT.WAIT_S k (min (r.base * 2 ^ n) r.most)).timerStart tmFoxWait k t.sec_).setFox k foxBACKOFF

/-- FOX_STOPPED: every stopped chain of a slot is in STANDBY, or 10 ms have passed, which is a chain stop failure (R240, R347). -/
def execFoxStopped (slot : Fin 16) (s : State) : Host.Outcome State Fault Refusal :=
  .next (
    let k := slot.val
    if s.foxState k ≠ foxSTOPPING then s
    else if (List.range 32).all fun n => !s.fbit NPR_FOX_PORTS.PORTS k n || s.foxChainDown n then s.foxStopped k
    else if s.timerDue tmFoxStop k s.ms 10 then
      let late := (List.range 32).filter fun n => s.fbit NPR_FOX_PORTS.PORTS k n && !s.foxChainDown n
      let t := late.foldl (fun t n => t.drive (32 + n) true) (s.drive 105 true)
      t.foxStopped k
    else s)

/-- A slot enters RETRYING (R242, R245): its chains return. -/
def State.foxRetry (s : State) (k : Nat) : State :=
  let t := (s.fset NPR_FOX_STAT.CLEAR_PENDING k 0).fset NPR_FOX_WAIT.WAIT_S k 0
  let t := ((t.timerStop tmFoxWait k).timerStart tmFoxGood k t.sec_).setFox k foxRETRYING
  (t.drive 105 false).foxFree k

/-- FOX_BACKOFF_EXPIRED: the wait has elapsed and the retry condition holds (R242). -/
def execFoxBackoffExpired (slot : Fin 16) (s : State) : Host.Outcome State Fault Refusal :=
  .next (
    let k := slot.val
    let wait := min ((s.foxRt k).base * 2 ^ s.fget NPR_FOX_STAT.RETRIES k) (s.foxRt k).most
    if s.foxState k = foxBACKOFF ∧ s.timerDue tmFoxWait k s.sec_ wait ∧ s.foxRetryOk k then
      ((s.fbump NPR_FOX_STAT.RETRIES k).foxRetry k).pulse pgNPR 1
    else s)

/-- A CLEAR of a slot (R242): a slot that stands STOPPED, in BACKOFF or LATCHED retries, or waits for its condition. -/
def State.foxClear (s : State) (k : Nat) : State :=
  if s.foxState k = foxSTOPPED ∨ s.foxState k = foxBACKOFF ∨ s.foxState k = foxLATCHED then
    if s.foxRetryOk k then s.foxRetry k else s.fset NPR_FOX_STAT.CLEAR_PENDING k 1
  else s

/-- A write of NPR_FOX_CMD (R244): admitted from the integrator, the manufacturer and field service. -/
def foxCmdWrite (i : Init) (v : Word) (s : State) : WRes :=
  match s.identOf i with
  | some .device => .error .notOwner
  | some (.domain _) => .error .notOwner
  | none => .error .lifecycle
  | some _ => .ok (if bitsOf v 31 31 = 1 then s.foxClear (s.fget NPR_FOX_SEL.SLOT i.holder) else s)

/-- FOX_SLOT_CLEAR: a write of NPR_FOX_CMD.CLEAR (R244). -/
def execFoxSlotClear (who : Init) (s : State) : Host.Outcome State Fault Refusal :=
  .next (s.access who pgNPR 0x078 0x80000000 (foxCmdWrite who 0x80000000))

/-- The paths whose mutes by a slot wait for a frame boundary (R245): those of its scope. -/
def State.foxWaiting (s : State) (k : Nat) : Nat :=
  maskOf (s.paths.filter fun p => s.foxHoldsPath k p || (s.ctxsOfPath p).any fun c => s.foxHolds k c)

/-- Mutes of a slot lift on the paths of a mask; after the last one the slot mutes nothing (R245). -/
def State.foxLiftPaths (s : State) (k mask : Nat) : State :=
  let r := s.foxRt k
  let left := r.releasing - (r.releasing &&& mask)
  let t := s.setFoxRt k (if left = 0 then { r with muting := false, lifting := false, releasing := 0 } else { r with releasing := left })
  t.foxRefresh.foxLift k

/-- A stopped chain is back at the state that it is to reach, and a response has confirmed it (R245 step 2, R264). -/
def State.foxChainBack (s : State) (n : Nat) : Bool :=
  !s.fon FEL_CHAIN.FOX_HOLD n && s.fon FEL_LINK.UP n && (s.felPort n).moving.isNone && (s.felPort n).cal.isNone && (s.felPort n).checks.isEmpty &&
    (decide (s.chain n = s.chainGoal n) || decide (chRX ≤ s.chain n ∧ chRX ≤ s.chainGoal n))

/-- FOX_CHAINS_READY: every stopped chain of a retrying slot reports ready (R245): the mutes of paths without a frame clock lift at once,
the others at the next frame boundary of their groups. -/
def execFoxChainsReady (slot : Fin 16) (s : State) : Host.Outcome State Fault Refusal :=
  .next (
    let k := slot.val
    let r := s.foxRt k
    if s.foxState k = foxRETRYING && r.muting && !r.lifting &&
        (List.range 32).all (fun n => !s.fbit NPR_FOX_PORTS.PORTS k n || s.foxChainBack n) then
      let t := s.setFoxRt k { r with lifting := true, releasing := s.foxWaiting k }
      t.foxLiftPaths k (maskOf (t.paths.filter fun p => !t.hasClock (t.groupOf p)))
    else s)

/-- What a frame boundary of a group does to the slots that lift their mutes (R245). -/
def State.foxBoundary (s : State) (g : Nat) : State :=
  (List.range 16).foldl (fun s k =>
    if (s.foxRt k).lifting then s.foxLiftPaths k (maskOf (s.paths.filter fun p => decide (s.groupOf p = g))) else s) s

/-- A slot returns to IDLE (R242). -/
def State.foxIdle (s : State) (k : Nat) : State :=
  let cs := s.foxCtxs k
  let t := (((s.fset NPR_FOX_PATHS.PATHS k 0).fset NPR_FOX_STREAMS.STREAMS k 0).fset NPR_FOX_PORTS.PORTS k 0).fset NPR_FOX_STAT.RETRIES k 0
  let t := ((t.setFoxRt k {}).timerStop tmFoxGood k).setFox k foxIDLE
  let t := cs.foldl (fun t c => if t.foxMutes c then t else t.clearMute c 2) t
  (t.pulse pgNPR 3).post 0x2003 k 0 0

/-- FOX_RETRY_GOOD: RETRY_GOOD_S pass in RETRYING (R242). -/
def execFoxRetryGood (slot : Fin 16) (s : State) : Host.Outcome State Fault Refusal :=
  .next (
    let k := slot.val
    if s.foxState k = foxRETRYING ∧ s.timerDue tmFoxGood k s.sec_ (s.fget NPR_TIME.RETRY_GOOD_S 0) then s.foxIdle k else s)

/-- What a second strobe does to the slots (R242, R250): the wait shown runs down, and a pending CLEAR acts once its condition holds. -/
def State.foxSecond (s : State) : State :=
  (List.range 16).foldl (fun s k =>
    let t := if s.foxState k = foxBACKOFF then s.fset NPR_FOX_WAIT.WAIT_S k (s.fget NPR_FOX_WAIT.WAIT_S k - 1) else s
    if t.fon NPR_FOX_STAT.CLEAR_PENDING k && t.foxRetryOk k then t.foxClear k else t) s

/-! Remote mute (R238, R244). -/

/-- A remote clear: of every slot of code 6 that was raised for a domain. -/
def State.remoteClear (s : State) (d : Nat) : State :=
  (List.range 16).foldl (fun s k =>
    if decide (s.fget NPR_FOX_STAT.TRIGGER k = 6) && (s.foxRt k).doms.testBit d then s.foxClear k else s) s

/-- A write of NPR_REMOTE (R244, R250). -/
def remoteWrite (v : Word) (s : State) : WRes :=
  let d := bitsOf v 4 0
  if h : d < 16 then
    let t := s.fset NPR_REMOTE.DOMAIN 0 d
    let t := if bitsOf v 31 31 = 1 then t.foxTrigger (.remote ⟨d, h⟩) else t
    .ok (if bitsOf v 30 30 = 1 then t.remoteClear d else t)
  else .error .outOfRange

/-- Admission of a write of NPR_REMOTE (R244): an operator domain with its own DOMAIN, and otherwise as any basic write. -/
def State.admitRemote (s : State) (i : Init) (v : Word) : Option Reason :=
  match s.identOf i with
  | some (.domain d) =>
    if !basicAdmitted s.sec.lc (.domain d) then some .lifecycle else if bitsOf v 4 0 = d.val then none else some .notOwner
  | _ => s.admitWrite i pgNPR 0x054

/-- A write of NPR_REMOTE. -/
def State.remoteAccess (s : State) (i : Init) (v : Word) : State :=
  s.accessBy (fun s => s.admitRemote i v) i pgNPR 0x054 v (remoteWrite v)

/-- NPR_REMOTE_MUTE: a write of NPR_REMOTE.MUTE with a domain (R238). -/
def execNprRemoteMute (who : Init) (domain : Fin 16) (s : State) : Host.Outcome State Fault Refusal :=
  .next (s.remoteAccess who (BitVec.ofNat 32 (0x80000000 + domain.val)))

/-- NPR_REMOTE_CLEAR: a write of NPR_REMOTE.CLEAR with a domain (R244). -/
def execNprRemoteClear (who : Init) (domain : Fin 16) (s : State) : Host.Outcome State Fault Refusal :=
  .next (s.remoteAccess who (BitVec.ofNat 32 (0x40000000 + domain.val)))

end Sys2Proof.Machine
end

