-- ==== Sys2Proof/Machine/CanMon.lean ====
section
/-!
DEFINITION. Chapter 5, second part: the margin monitor (R129, R130), the end of an isolation window, self-test (R134, R135), and what a canceller
keeps across an image swap (R136).
-/
namespace Sys2Proof.Machine

/-! Isolation windows, back to back (R127). -/

/-- ISO_WINDOW_END: the window of an instance ends after ISO_WIN_MS (R126). The next one follows at once while R127 calls for windows back to
back. `mapBad`: the map, as it is read for the sums over the taps, has a parity error. -/
def execIsoWindowEnd (inst : Fin 32) (mapBad : Bool) (s : State) : Host.Outcome State Fault Refusal :=
  .next (
    let n := inst.val
    if s.fon CAN_STAT.ISO_BUSY n && s.timerDue tmIso n s.ms (s.fget CAN_PROBE.ISO_WIN_MS n) then
      let t := ((s.isoFinish n).mapParity mapBad).isoStop n
      if t.isoPressed n then t.isoRequest n else t
    else s)

/-! The margin monitor (R129, R130). -/

/-- A boost cell of a path is in force in a subband in the current symbol row, for a context whose entry permits boost (R129, R181). -/
def State.boostIn (s : State) (p n k : Nat) : Bool :=
  (s.ctxsOfPath p).any fun c => s.inPlane c &&
    (s.stripsOf c).any fun j =>
      s.boosts c j &&
        s.sbOverlaps n k (s.gridOrigin p + 360 * (j : Int)).toNat (s.gridOrigin p + 360 * (j : Int) + 360).toNat

/-- The highest digital gain of a path's contexts in a subband, in 1/64 dB (R129). -/
def State.digGainMax (s : State) (p n k : Nat) : Option Int :=
  highest (((s.ctxsOfPath p).filter fun c => (s.carrierSbs n c).contains k).map fun c => s.cgetI CW62.DIG_GAIN c)

/-- The paths that close a loop through a reference (R129): they read the stream and write the reference's stream or a member of its probe group. -/
def State.loopPaths (s : State) (n r : Nat) : List Nat :=
  let seed := s.probeSeed (s.fget (CAN_REF.STREAM r) n)
  (s.pathsReading n).filter fun p => (s.writesOf p).any fun t => decide (s.probeSeed t = seed)

/-- g of R129 in units of 2^-40. -/
def State.loopGain (s : State) (n k r : Nat) : Nat :=
  ((s.loopPaths n r).map fun p =>
    match s.digGainMax p n k with
    | none => 0
    | some g => dbToLin (g + (if s.boostIn p n k then 192 else 0))).foldl max 0

/-- One reference's part of the loop in units of 2^-278; none where the regressor power is zero and a path closes the loop (no value is stated). -/
def State.loopPart (s : State) (n k r : Nat) : Option Nat :=
  let g := s.loopGain n k r
  let pu := (Tbl.get (fun _ => 0) s.can.pu (rkKey n k r)).toNat
  if g = 0 then some 0
  else if pu = 0 then none
  else some (s.gmSum n k r * g * 2 ^ 200 / (pu * pu))

/-- The margin of a loop in units of 2^-278 (R129): −10 log10, rounded and held. -/
def marginValue (loop : Nat) : Int :=
  match linToDb loop (2 ^ 278) with
  | none => noLoop
  | some d => clampI (-32767) 32766 (-d)

/-- The margin of a subband takes a value. -/
def State.setMargin (s : State) (n k : Nat) (v : Int) : State :=
  { s with can := { s.can with margin := Tbl.set (fun _ => noLoop) s.can.margin (64 * n + k) v } }

/-- One subband of the monitor (R129). -/
def State.marginSb (s : State) (n k : Nat) : State :=
  if !s.sbActive n k then s.setMargin n k noLoop
  else
    let parts := (s.enabledRefs n).map fun r => s.loopPart n k r
    if parts.contains none then s.tookFree.setMargin n k (clampI (-32767) 32766 (toSigned (s.freeVal.toNat % 65536) 65536))
    else s.setMargin n k (marginValue ((parts.map fun x => x.getD 0).sum))

/-- The lowest margin of an instance over its active subbands (R130). -/
def State.lowestMargin (s : State) (n : Nat) : Int := (lowest ((s.activeSbs n).map fun k => s.marginOf n k)).getD noLoop

/-- MARGIN_WARN and MARGIN_NEG stand while they stand for some instance (R130). -/
def State.marginEvents (s : State) : State :=
  let low := (unitsOf s.member).map fun n => (s.lowestMargin n, s.fgetI CAN_MARGIN_CFG.WARN_MARGIN n)
  (s.cond pgCAN 1 (low.any fun x => decide (x.1 < x.2))).cond pgCAN 2 (low.any fun x => decide (x.1 < 0))

/-- The monitor of an instance (R129): held during a self-test (R134). -/
def State.marginUpdate (s : State) (n : Nat) : State :=
  if s.canState n = canSELFTEST then s
  else
    let t := (List.range (s.subbands n)).foldl (fun t k => t.marginSb n k) s
    ((t.fset CAN_STAT.MON_STALE n 0).marginEvents).noteOsc

/-- MARGIN_UPDATE: the margin monitor of an instance, every 64 subband samples (R129). -/
def execMarginUpdate (inst : Fin 32) (s : State) : Host.Outcome State Fault Refusal :=
  .next (if s.member.present inst.val && s.works pgCAN then s.marginUpdate inst.val else s)

/-! Self-test (R40, R134, R135). -/

/-- The permissions that stand while an instance is under self-test (R135). -/
def State.holdPermits (s : State) (n : Nat) : State :=
  let held := (s.liveCtxs.filter fun c => s.coversCtx n c).foldl
    (fun t c => Tbl.set (fun _ => none) t c (some (s.cgetI CW48.GAIN_PERMIT c))) []
  { s with can := { s.can with heldPermit := held } }

/-- A START is refused (R135): the lowest margin is below REQ_MARGIN, or a covered stream is clamped; also outside the states of R123 that
take a SELFTEST. -/
def State.testRefused (s : State) (n : Nat) : Bool :=
  decide (s.lowestMargin n < s.fgetI CAN_MARGIN_CFG.REQ_MARGIN n) ||
  ((List.range 32).any fun t => s.covers n (32 + t) && decide (s.clampState (32 + t) ≠ 0)) ||
  !decide (canOFF < s.canState n ∧ s.canState n < canLINKFROZEN)

/-- A self-test of an instance begins (R134): a running isolation window ends without a result. -/
def State.testStart (s : State) (n : Nat) : State :=
  let s := s.isoStop n
  let st := s.canState n
  let s := s.holdPermits n
  let s := { s with can := { s.can with selftest := some (n, st) } }
  let s := ((s.setCanState n canSELFTEST).fset CAN_STAT.MON_STALE n 1).timerStart tmCanTest n s.ms
  (s.fset SELFTEST.BUSY pgCAN 1).fset PAGE_STAT.SELFTEST_ACTIVE pgCAN 1

/-- A write of SELFTEST (R40, R134). Only the CAN page implements it (R518). -/
def selftestWrite (i : Init) (page : Nat) (v : Word) (s : State) : WRes :=
  let n := s.canSel i
  if page ≠ pgCAN ∨ bitsOf v 31 31 = 0 then .ok s
  else if !s.member.present n then .error .unitAbsent
  else if s.testRefused n then .ok (s.setSelftest n 3 0x11)
  else .ok (s.testStart n)

/-- A START while BUSY = 1 passes the checks and has no effect; it is not held (R40). -/
def State.busyStart (s : State) (i : Init) (page : Nat) : State :=
  let s := s.disarm i page
  match s.admitWrite i page 0x034 with
  | some r => s.refuse i page r
  | none => s.accepted i

/-- An access to SELFTEST. -/
def State.selftestAccess (s : State) (i : Init) (page : Nat) (v : Word) : State :=
  if s.fon SELFTEST.BUSY page && s.running page && decide (bitsOf v 31 31 = 1) then s.busyStart i page
  else s.access i page 0x034 v (selftestWrite i page v)

/-- SELFTEST_START: a write of SELFTEST.START (R40). -/
def execSelftestStart (who : Init) (page : Fin 64) (s : State) : Host.Outcome State Fault Refusal :=
  .next (s.selftestAccess who page.val 0x80000000)

/-! Across an image swap (R136). -/

/-- The number of taps that an instance's map holds (R117). -/
def State.mapTaps (s : State) (n : Nat) : Nat :=
  (((List.range 1024).filter fun j => s.fon CAN_MAP.EN (1024 * n + j)).map fun j => s.fget CAN_MAP.LEN (1024 * n + j)).sum

/-- An expert map is cut in the order subband, reference, cluster, ascending, until it fits (R136): clusters are disabled from the first on. -/
def State.cutMap (s : State) (n : Nat) : State :=
  let cut (t : State) (u : Nat) : State := if t.fon CAN_MAP.EN u && decide (t.canTaps n < t.mapTaps n) then (t.zeroTaps u 0).fset CAN_MAP.EN u 0 else t
  ((List.range 1024).foldl (fun t j => cut t (1024 * n + j)) s).pulse pgCAN 5

/-- Every tap, correlator and history of an instance is zeroed, and every pair returns to ASSUMED (R136). -/
def State.wipeCan (s : State) (n : Nat) : State :=
  let mine (rk : Nat) : Bool := decide (rk / 256 = n)
  let s := { s with can := { s.can with taps := s.can.taps.filter fun e => !mine (e.1 / 256), gm := s.can.gm.filter fun e => !mine (e.1 / 256) } }
  let s := { s with can := { s.can with hist := s.can.hist.filter fun e => !mine e.1, probe := s.can.probe.filter fun e => !mine e.1 } }
  { s with can := { s.can with iso := s.can.iso.filter fun e => !mine e.1, pu := s.can.pu.filter fun e => !mine e.1 } }

/-- What an instance's change of geometry or of taps at the swap boundary does (R136); `reduced` is REDUCED before it. -/
def State.canSwap (s : State) (n : Nat) (reduced : Bool) : State :=
  let t := s.fsetB CAN_STAT.REDUCED n (s.canReduced n)
  if s.canReduced n != reduced then ((t.wipeCan n).deriveApply n).deriveLeak n
  else if t.mapTaps n ≤ t.canTaps n then t
  else if (t.canRt n).derived then t.deriveApply n
  else t.cutMap n

end Sys2Proof.Machine
end

