-- ==== Sys2Proof/Machine/Trace.lean ====
section
/-!
DEFINITION. Chapter 6: the trace channels (R168 to R172), and the whole tick of a context.
-/
namespace Sys2Proof.Machine

def trIDLE : Nat := 0
def trARMED : Nat := 1
def trTRIGGERED : Nat := 2
def trDONE : Nat := 3

/-- Behind a channel's registers. -/
def State.traceCh (s : State) (ch : Nat) : TraceCh := Tbl.get (fun _ => {}) s.cen.trace ch

def State.setTraceCh (s : State) (ch : Nat) (r : TraceCh) : State :=
  { s with cen := { s.cen with trace := Tbl.set (fun _ => {}) s.cen.trace ch r } }

/-- Samples of a buffer (R168). -/
def traceDepth : Nat := 8192

/-- The channels that the active image provides (R172). -/
def State.traceNodes (s : State) : Nat :=
  match s.sch.active with
  | none => 0
  | some slot => if (s.sectionOf slot 0x0023).isSome then min 16 (s.deviceUse slot 0x0031) else 0

/-- The value of a node of a context (R169). -/
def State.nodeValue (s : State) (c node : Nat) : Int :=
  match node with
  | 0x00 => s.cgetI CTX_PROP_A.G1 c
  | 0x01 => s.cgetI CTX_PROP_A.G2 c
  | 0x02 => s.cgetI CTX_PROP_B.G3 c
  | 0x03 => s.cgetI CTX_PROP_B.G4 c
  | 0x04 => s.cgetI CTX_PROP_C.G5 c
  | 0x05 => s.cgetI CTX_PROP_C.G_WIN c
  | 0x06 => s.cgetI CTX_MEAS_GAIN.APPLIED_GAIN c
  | 0x07 => s.cgetI CTX_MEAS_GAIN.MEAS_GAIN c
  | 0x08 => s.cgetI CTX_MEAS_POWER.IN_POWER c
  | 0x09 => s.cgetI CTX_MEAS_POWER.OUT_POWER c
  | 0x0A => s.cgetI CW48.MARGIN c
  | 0x0B => s.cgetI CW48.GAIN_PERMIT c
  | 0x0C => s.cgetI CW40.I1 c
  | 0x0D => s.cgetI CW40.I2 c
  | 0x0E => s.cgetI CTX_FE_STAT.E_GAIN c
  | 0x0F => s.cgetI CTX_FE_STAT.E_POWER c
  | 0x10 => s.cgetI CW62.DIG_GAIN c
  | 0x11 => s.cgetI CW42.SUPPLY_CORR c
  | 0x12 => s.cgetI CW47.NOISE_MEAS c
  | _ => s.cgetI CTX_GRANT.GRANT c

/-- The sample word of a node (R169). -/
def State.sampleWord (s : State) (c node : Nat) : Word :=
  let r := s.ctxRt c
  BitVec.ofNat 32 (s.ctxState c * 2 ^ 29 + s.cget CTX_STATUS.WIN_LOOP c % 8 * 2 ^ 26 + (if s.clampFlag c then 2 ^ 25 else 0) +
    (if r.bound then 2 ^ 24 else 0) + ofSigned (s.nodeValue c node) 65536)

/-- The trigger of a channel fires at a tick of its context (R170); `fe` says that a following error was raised. -/
def State.ownTrigger (s : State) (ch c : Nat) (fe : Bool) : Bool :=
  let t := s.traceCh ch
  let v := s.nodeValue c (s.fget CEN_TRC_TRIG.TNODE ch)
  let level := s.fgetI CEN_TRC_TRIG.LEVEL ch
  match s.fget CEN_TRC_TRIG.SRC ch with
  | 0 => t.hostTrig
  | 1 => t.node.any fun o => decide (o ≤ level ∧ level < v)
  | 2 => t.node.any fun o => decide (level ≤ o ∧ v < level)
  | 3 => decide (t.st ≠ s.ctxState c)
  | 4 => decide (t.win ≠ s.cget CTX_STATUS.WIN_LOOP c)
  | 5 => fe || decide (t.fe = 0 ∧ 0 < (s.ctxRt c).feTimer)
  | 6 => !t.clamp && s.clampFlag c
  | _ => !s.fon CEN_TRC_STAT.TRIGD ch && decide (s.fget CEN_TRC_TRIG_DT_HI.DT 0 * 2 ^ 32 + s.fget CEN_TRC_TRIG_DT_LO.DT 0 ≤ s.dt)

/-- A channel sees a trigger (R170). -/
def State.traceTrigger (s : State) (ch : Nat) : State :=
  let t := s.traceCh ch
  if s.fget CEN_TRC_STAT.STATE ch ≠ trARMED then s
  else
    let s := (s.fset CEN_TRC_STAT.TRIGD ch 1).pulse pgCEN 1
    if s.fon CEN_TRC_CFG.MODE ch then
      (s.fset CEN_TRC_STAT.TRIG_INDEX ch (min t.samples.length (traceDepth - 1))).setTraceCh ch { t with stamp := true }
    else
      let pre := s.fget CEN_TRC_PRE.PRE ch
      let n := min t.samples.length pre
      let s := ((s.fset CEN_TRC_STAT.STATE ch trTRIGGERED).fset CEN_TRC_STAT.TRIG_INDEX ch n).fset CEN_TRC_STAT.FILL ch n
      s.setTraceCh ch { t with samples := t.samples.take n, left := traceDepth - pre, stamp := true }

/-- A channel can trigger: it is enabled and ARMED (R170). -/
def State.triggerable (s : State) (ch : Nat) : Bool := s.fon CEN_TRC_CFG.EN ch && decide (s.fget CEN_TRC_STAT.STATE ch = trARMED)

/-- The channels that trigger because one of a set triggers, added to it (R170). -/
def State.withFollowers (s : State) (set : List Nat) : List Nat :=
  (List.range 16).filter fun ch =>
    set.contains ch || (s.triggerable ch && decide (s.fget CEN_TRC_PRE.TFROM ch ≠ ch) && set.contains (s.fget CEN_TRC_PRE.TFROM ch))

/-- Adding followers n times. -/
def State.followers (s : State) : Nat → List Nat → List Nat
  | 0, set => set
  | n + 1, set => s.followers n (s.withFollowers set)

/-- A channel reaches DONE (R170). -/
def State.traceDone (s : State) (ch : Nat) : State :=
  if s.fget CEN_TRC_STAT.STATE ch = trDONE then s else (s.fset CEN_TRC_STAT.STATE ch trDONE).pulse pgCEN 2

/-- A sample leaves for the debug trace (R171): dropped when XC10 is full. -/
def State.traceStream (s : State) (ch : Nat) (w : Word) (full : Bool) : State :=
  if !s.fon CEN_TRC_CFG.STREAM ch then s
  else if full then (s.fbump CEN_TRC_DROP.DROP 0).pulse pgCEN 3
  else if s.trcAdmits 3 then s.trcWrite { source := 3, aux := ch, dt := s.dt, payload := w.toNat }
  else s

/-- A full ring drops its oldest sample (R170): the index of a trigger sample seen before falls with it, so that it still names that sample
(R168); one that has left the ring stays at 0 (DESIGN CHOICE, log 180). `now` says that the sample that enters is the trigger sample. -/
def State.traceWrap (s : State) (ch : Nat) (now : Bool) : State :=
  let s := s.fset CEN_TRC_STAT.WRAPPED ch 1
  if s.fon CEN_TRC_STAT.TRIGD ch && !now then s.fset CEN_TRC_STAT.TRIG_INDEX ch (s.fget CEN_TRC_STAT.TRIG_INDEX ch - 1) else s

/-- A channel records a sample (R168, R170). -/
def State.traceRecord (s : State) (ch c : Nat) (full : Bool) : State :=
  let t := s.traceCh ch
  let w := s.sampleWord c (s.fget CEN_TRC_CFG.NODE ch)
  let st := s.fget CEN_TRC_STAT.STATE ch
  let s := if t.stamp then (s.fset CEN_TRC_TDT_LO.DT ch (s.dt % 2 ^ 32)).fset CEN_TRC_TDT_HI.DT ch (s.dt / 2 ^ 32) else s
  let s := if traceDepth ≤ t.samples.length then s.traceWrap ch t.stamp else s
  let l := (w :: t.samples).take traceDepth
  let s := (s.fset CEN_TRC_STAT.FILL ch l.length).setTraceCh ch
    { t with samples := l, decim := s.fget CEN_TRC_CFG.DECIM ch, left := t.left - 1, stamp := false }
  let s := if st = trTRIGGERED ∧ t.left ≤ 1 then s.traceDone ch else s
  s.traceStream ch w full

/-- A channel records: it is enabled and ARMED or TRIGGERED. -/
def State.tracing (s : State) (ch : Nat) : Bool :=
  s.fon CEN_TRC_CFG.EN ch && decide (s.fget CEN_TRC_STAT.STATE ch = trARMED ∨ s.fget CEN_TRC_STAT.STATE ch = trTRIGGERED)

/-- A channel's part of a tick after its triggers: one sample every DECIM + 1 ticks, and what the next tick compares with. -/
def State.traceSample (s : State) (ch c : Nat) (full : Bool) : State :=
  let t := s.traceCh ch
  let s := if t.decim = 0 then s.traceRecord ch c full else s.setTraceCh ch { t with decim := t.decim - 1 }
  let t := s.traceCh ch
  s.setTraceCh ch { t with hostTrig := false, node := some (s.nodeValue c (s.fget CEN_TRC_TRIG.TNODE ch)), st := s.ctxState c,
                           win := s.cget CTX_STATUS.WIN_LOOP c, fe := (s.ctxRt c).feTimer, clamp := s.clampFlag c }

/-- The trace channels of a context at its tick (R168, R170). -/
def State.traceStep (s : State) (c : Nat) (fe full : Bool) : State :=
  let mine := (List.range 16).filter fun ch => decide (s.fget CEN_TRC_CFG.CTX ch = c) && s.tracing ch
  let own := mine.filter fun ch => s.triggerable ch && decide (s.fget CEN_TRC_PRE.TFROM ch = ch) && s.ownTrigger ch c fe
  let s := if own.isEmpty then s else (s.followers 16 own).foldl State.traceTrigger s
  mine.foldl (fun s ch => s.traceSample ch c full) s

/-! Commands of the trace channels. -/

/-- ARM of a channel (R170). -/
def State.traceArm (s : State) (ch : Nat) : State :=
  let c := s.fget CEN_TRC_CFG.CTX ch
  let s := s.setTraceCh ch { st := s.ctxState c, win := s.cget CTX_STATUS.WIN_LOOP c, fe := (s.ctxRt c).feTimer, clamp := s.clampFlag c }
  let s := ((s.fset CEN_TRC_STAT.STATE ch trARMED).fset CEN_TRC_STAT.FILL ch 0).fset CEN_TRC_STAT.TRIGD ch 0
  ((s.fset CEN_TRC_STAT.WRAPPED ch 0).fset CEN_TRC_STAT.TRIG_INDEX ch 0).fset CEN_TRC_RD_ADDR.INDEX ch 0

/-- The channels of a mask. -/
def maskChannels (m : Nat) : List Nat := (List.range 16).filter fun ch => m.testBit ch

/-- A write of CEN_TRC_CMD (R170, R172). -/
def trcCmdWrite (v : Word) (s : State) : WRes :=
  let l := maskChannels (bitsOf v 15 0)
  if decide (bitsOf v 31 31 = 1) && l.any fun ch => decide (s.traceNodes ≤ ch) then .error .unitAbsent
  else
    let s := if bitsOf v 31 31 = 1 then l.foldl State.traceArm s else s
    let s := if bitsOf v 30 30 = 1 then l.foldl (fun s ch => s.setTraceCh ch { s.traceCh ch with hostTrig := true }) s else s
    .ok (if bitsOf v 29 29 = 1 then l.foldl State.traceDone s else s)

/-- TRACE_ARM: CEN_TRC_CMD.ARM on a mask of channels (R170). -/
def execTraceArm (who : Init) (mask : BitVec 16) (s : State) : Host.Outcome State Fault Refusal :=
  let v := BitVec.ofNat 32 (2 ^ 31 + mask.toNat)
  .next (s.access who pgCEN 0x0DC v (trcCmdWrite v))

/-- TRACE_TRIG_NOW: CEN_TRC_CMD.TRIG_NOW on a mask of channels (R170). -/
def execTraceTrigNow (who : Init) (mask : BitVec 16) (s : State) : Host.Outcome State Fault Refusal :=
  let v := BitVec.ofNat 32 (2 ^ 30 + mask.toNat)
  .next (s.access who pgCEN 0x0DC v (trcCmdWrite v))

/-- TRACE_STOP: CEN_TRC_CMD.STOP on a mask of channels (R170). -/
def execTraceStop (who : Init) (mask : BitVec 16) (s : State) : Host.Outcome State Fault Refusal :=
  let v := BitVec.ofNat 32 (2 ^ 29 + mask.toNat)
  .next (s.access who pgCEN 0x0DC v (trcCmdWrite v))

/-- The sample of a channel at an index, 0 being the oldest (R171). -/
def State.traceAt (s : State) (ch i : Nat) : Word :=
  let l := (s.traceCh ch).samples
  if i < l.length then l.getD (l.length - 1 - i) 0 else 0

/-- A read of CEN_TRC_RD_DATA (R171). -/
def traceRead (who : Init) (s : State) : State :=
  let ch := s.fget CEN_TRC_SEL.CH who.holder
  if s.fget CEN_TRC_STAT.STATE ch = trARMED ∨ s.fget CEN_TRC_STAT.STATE ch = trTRIGGERED then s.refuseRead who pgCEN .windowBusy
  else
    let i := s.fget CEN_TRC_RD_ADDR.INDEX ch
    (s.answerRead who (s.traceAt ch i)).fset CEN_TRC_RD_ADDR.INDEX ch (i + 1)

/-- TRACE_READ_DATA: a read of CEN_TRC_RD_DATA (R171). -/
def execTraceReadData (who : Init) (s : State) : Host.Outcome State Fault Refusal := .next (s.accessRead who pgCEN (traceRead who))

/-! The tick of a context (R143, R144). -/

/-- The tick of a context with no evaluation: what waits for the tick acts within 2 µs (R51, R74). -/
def State.idleTick (s : State) (c : Nat) : State := (((s.applyCommits c).calStep c).feAckStep c).commandStep c

/-- The context radiates at this tick (R80): it runs, or its drain still ramps to mute and no mute has cut the ramp short (R79). -/
def State.radiates (s : State) (c : Nat) : Bool :=
  ctxRuns (s.ctxState c) ||
    (decide (s.ctxState c = ctxDRAINING ∧ s.muteSet c = 0) &&
      decide (s.dt < (s.ctxRt c).drainStart + ticksOfUs (s.cget CTX_RAMP.DRAIN_US c)))

/-- The path remembers the last tick at which a context of it radiated (R80). -/
def State.noteRad (s : State) (c : Nat) : State :=
  if s.radiates c then s.setPathRt (s.ctxPath c) { s.pathRt (s.ctxPath c) with lastRad := s.dt } else s

/-! What the datapath measures of a carrier in a tick interval (R145). -/

/-- The strip-symbols of a tick that count: strips of the context whose resolved cell is nominal. -/
def State.nominalCells (s : State) (c : Nat) (l : List StripLevel) : List StripLevel :=
  l.filter fun x => (s.stripsOf c).contains x.strip.val && decide (((s.pathGrid (s.ctxPath c)).rowOf x.row.val).applied c x.strip.val = 4)

/-- The power of the whole carrier, of `total` strips, from the powers of some strip-symbols, in 1/64 dB of converter full scale. DEDUCED (log
176): their mean, taken for every strip, so that cells left out read as no error. -/
def carrierLevel (total : Nat) (l : List Nat) : Option Int := linToDb (l.sum * total) (l.length * linOne)

/-- The input level of a tick: at the channeliser output. -/
def State.tickIn (s : State) (c : Nat) (l : List StripLevel) : Option Int :=
  carrierLevel (s.cget CTX_STRIPS.STRIP_COUNT c) ((s.nominalCells c l).map fun x => x.power)

/-- The power at TX_OUT of a transmit stream in a strip-symbol. -/
def outAt (outp : List (Fin 32 × StripLevel)) (n : Nat) (x : StripLevel) : Nat :=
  match outp.find? fun e => decide (e.1.val = n ∧ e.2.row = x.row ∧ e.2.strip = x.strip) with
  | some e => e.2.power
  | none => 0

/-- The output level of a tick: the highest over the destination streams, over the same strip-symbols as the input level. -/
def State.tickOut (s : State) (c : Nat) (inp : List StripLevel) (outp : List (Fin 32 × StripLevel)) : Option Int :=
  highest ((s.ctxDests c).filterMap fun t =>
    carrierLevel (s.cget CTX_STRIPS.STRIP_COUNT c) ((s.nominalCells c inp).map fun x => outAt outp (t - 32) x))

/-- The tick of a context that holds a pool entry: it is evaluated when its state then says so. A context that begins to run at this tick has
no gain of an earlier interval (R163). -/
def State.fullTick (s : State) (c : Nat) (inp outp : Option Int) (full : Bool) : State :=
  let ran := ctxRuns (s.ctxState c)
  let was := (s.ctxRt c).gain
  let old := (s.ctxRt c).gainPrev
  let s := s.noteRad c
  let s := s.drainStep c
  let s := ((((s.muteStep c).applyCommits c).calStep c).feAckStep c).commandStep c
  if s.evaluates c then
    let fresh := !ran && ctxRuns (s.ctxState c)
    let s := if fresh then s.stageRestart c else s
    let before := if fresh then (s.ctxRt c).gain else was
    let prev := if fresh then (s.ctxRt c).gain else old
    let s := s.inputStep c inp outp
    let s := s.loopStep c (s.levelOk inp).isSome (s.levelOk outp).isSome prev before
    (s.traceStep c ((s.ctxRt c).raised.testBit 4) full).isoPress c
  else s

/-- A context's next tick (R91, R142): a whole number of spacings after its last one, the first that device time has not passed. -/
def State.nextTick (s : State) (c : Nat) : Nat :=
  let last := (s.ctxRt c).lastTick
  let sp := tickSpacing (s.cget CTX_CTRL.TICK c)
  last + max 1 (ceilDiv (s.dt - last) sp) * sp

/-- Device time reaches a context's next tick, which is marked. -/
def State.toTick (s : State) (c : Nat) : State :=
  let t := s.nextTick c
  let s := s.advanceTo t
  s.setCtxRt c { s.ctxRt c with lastTick := t }

/-- CONTEXT_TICK: a tick of a context (R142 to R172). `inp` and `outp` are the powers of strip-symbols of the interval that ends, at the
channeliser output and at TX_OUT of transmit streams, numbered from the first; `xcFull` says that XC10 is full. A context without a pool entry has
no tick; what waits for one then acts (R51, R74). -/
def execContextTick (ctx : Fin 4096) (inp : List StripLevel) (outp : List (Fin 32 × StripLevel)) (xcFull : Bool) (s : State) : Host.Outcome State Fault Refusal :=
  .next (
    let c := ctx.val
    if c < s.member.contexts && s.running pgCEN then
      if (s.ctxRt c).slot.isNone then s.idleTick c
      else if s.works pgCEN then (s.toTick c).fullTick c (s.tickIn c inp) (s.tickOut c inp outp) xcFull
      else s
    else s)

end Sys2Proof.Machine
end

