-- ==== Sys2Proof/Machine/Ctxw.lean ====
section
/-!
DEFINITION. Chapter 2: the context table windows (R50 to R52), writes of context words (R71 to R73, R165, R166, R200, R248, R249), and
coefficient pairs (R54).
-/
namespace Sys2Proof.Machine

/-! Coefficient pairs (R54). -/

/-- A coefficient's value m × 2^-s lies between num1 / 2^d1 and num2 / 2^d2, not below zero. -/
def coefIn (m s lo hi d : Nat) : Bool :=
  let x := toSigned m (2 ^ 32) * 2 ^ d
  decide ((lo : Int) * 2 ^ s ≤ x ∧ x ≤ (hi : Int) * 2 ^ s)

/-- The range of a pair (R121, R166), in units of 2^-40. -/
def coefRange (p : CoefPair) : Nat × Nat :=
  match p with
  | .canMu => (2 ^ 20, 2 ^ 40)
  | .canLeak => (0, 2 ^ 32)
  | .canDelta => (1, 2 ^ 32)
  | .ctx 0 => (0, 2 ^ 38)
  | .ctx 1 => (0, 2 ^ 38)
  | .ctx 2 => (2 ^ 38, 2 ^ 40)
  | .ctx 3 => (2 ^ 32, 2 ^ 40)

/-- A pair's value is in its range. -/
def coefOk (p : CoefPair) (m s : Nat) : Bool := coefIn m s (coefRange p).1 (coefRange p).2 40

/-- The pair whose mantissa is word w of a context. -/
def ctxCoef (w : Nat) : Option CoefPair :=
  match w with
  | 32 => some (.ctx 0)
  | 34 => some (.ctx 1)
  | 36 => some (.ctx 2)
  | 38 => some (.ctx 3)
  | _ => none

/-- The staged mantissa of a holder. -/
def State.coefStaged (s : State) (i : Init) : Option (Nat × Word) := Tbl.get (fun _ => none) s.coefStage i.holder

def State.setCoefStage (s : State) (i : Init) (v : Option (Nat × Word)) : State :=
  { s with coefStage := Tbl.set (fun _ => none) s.coefStage i.holder v }

/-- The mantissa that a write of s commits: the staged one of that coefficient, or the current one. -/
def State.coefM (s : State) (i : Init) (key : Nat) (cur : Word) : Word :=
  match s.coefStaged i with
  | some (k, v) => if k = key then v else cur
  | none => cur

/-- The key of a context word among the staged mantissas and shadows. -/
def ctxCoefKey (c w : Nat) : Nat := 0x10000000 + 64 * c + w

/-! Context words: checks of a write. -/

/-- A 16-bit field lies in a range. -/
def hi16 (v : Word) : Int := toSigned (bitsOf v 31 16) 65536
def lo16 (v : Word) : Int := toSigned (bitsOf v 15 0) 65536
def inI (lo x hi : Int) : Bool := decide (lo ≤ x ∧ x ≤ hi)

/-- REQ_MARGIN of a context is not below the highest of the instances that its path reads (R141). -/
def State.reqMarginOk (s : State) (c : Nat) (v : Int) : Bool :=
  decide (v = noValue) || (s.readsOf (s.ctxPath c)).all fun n => decide (s.fgetI CAN_MARGIN_CFG.REQ_MARGIN n ≤ v)

/-- No gain or power field of a written word holds the code that is not a value (R9). -/
def hiValue (v : Word) : Bool := decide (hi16 v ≠ noValue)
def loValue (v : Word) : Bool := decide (lo16 v ≠ noValue)

/-- The range checks of a context word (R9, R71, R72, R141, R165, R166, R200, R248, R249); placement of the path (R6). -/
def State.ctxWordCheck (s : State) (c w : Nat) (v : Word) : Option Reason :=
  let oor (ok : Bool) : Option Reason := if ok then none else some .outOfRange
  match w with
  | 0 =>
    if bitsOf v 21 20 = 3 ∨ 12 ≤ bitsOf v 15 12 then some .outOfRange
    else if !s.member.present (bitsOf v 4 0) then some .unitAbsent
    else none
  | 3 => oor (hiValue v && loValue v)
  | 4 => oor (hiValue v && loValue v)
  | 5 => oor (decide (bitsOf v 31 16 ≠ 0 ∧ 1 ≤ bitsOf v 15 0 ∧ bitsOf v 15 0 ≤ 1000))
  | 6 => oor (decide (bitsOf v 4 0 ≤ 0x10 ∨ bitsOf v 4 0 = 0x1F))
  | 12 => oor (inI (-2560) (lo16 v) (s.cgetI CTX_GAIN.MAX_GAIN c))
  | 13 => oor (decide (bitsOf v 31 16 ≤ 10000 ∧ bitsOf v 15 0 ≤ 10000))
  | 14 => oor (inI 32 (hi16 v) 1280 && inI 32 (lo16 v) 1280)
  | 15 => oor (decide (1 ≤ bitsOf v 31 16 ∧ bitsOf v 31 16 ≤ 10000) && inI 0 (lo16 v) 768)
  | 20 => oor (decide (bitsOf v 29 29 = 0 ∨ bitsOf v 31 30 = 2))
  | 24 => oor (inI 0 (hi16 v) 2560 && loValue v)
  | 41 => oor (inI 0 (hi16 v) 768 && inI 0 (lo16 v) 768)
  | 42 => oor (hiValue v)
  | 43 => oor (inI 0 (hi16 v) 384 && inI 0 (lo16 v) 64)
  | 44 => oor (decide (bitsOf v 7 4 ≤ 8))
  | 50 => oor (s.reqMarginOk c (hi16 v))
  | 54 => oor (inI (-384) (hi16 v) 384)
  | 60 => oor (loValue v)
  | 61 => oor (loValue v)
  | 63 => oor (inI 1 (lo16 v) 32767)
  | _ => none

/-- Only the integrator and the manufacturer change word 6; other identities may write it unchanged (R73). -/
def State.ownerWordCheck (s : State) (i : Option Ident) (c : Nat) (v : Word) : Option Reason :=
  if i = some .integrator ∨ i = some .manufacturer then none
  else if bitsOf v 8 8 = s.cget CTX_OWNER.EXPERT_PRIV c ∧ bitsOf v 4 0 = s.cget CTX_OWNER.OWNER c then none
  else some .notOwner

/-- The checks of a word by an identity: who may change it, then its range. -/
def State.ctxCheck (s : State) (i : Option Ident) (c w : Nat) (v : Word) : Option Reason :=
  match (if w = 6 then s.ownerWordCheck i c v else none) with
  | some r => some r
  | none => s.ctxWordCheck c w v

/-- The mantissa that goes with a written s word of a context. -/
def coefOfS (w : Nat) : Option CoefPair := if 33 ≤ w then ctxCoef (w - 1) else none

/-- A context has ticks: it is neither FREE nor CONFIGURED, and holds an entry of a tick pool (R51). -/
def State.hasTick (s : State) (c : Nat) : Bool :=
  decide (s.ctxState c ≠ ctxFREE ∧ s.ctxState c ≠ ctxCONFIGURED) && (s.ctxRt c).slot.isSome

/-- Words written in direct mode (R15, R51): they apply at the context's next tick, at once where it has none. A CMD is held for that tick
whatever the mode, and CMD_RESULT reads pending from the write on (R74). -/
def State.directWords (s : State) (c : Nat) (l : List (Nat × Word)) : State :=
  if s.hasTick c then
    let t := s.setCtxRt c { s.ctxRt c with direct := (s.ctxRt c).direct ++ l.map fun e => (e.1, if e.1 = 0 then e.2 &&& 0x1FFFFFFF else e.2) }
    l.foldl (fun t e => if e.1 = 0 then t.holdCmd c (bitsOf e.2 31 29) else t) t
  else l.foldl (fun t e => t.ctxWordApply c e.1 e.2) s

/-- A word of the live table as a reader sees it: with the words that direct mode wrote there and that wait for the tick (R51). -/
def State.liveWord (s : State) (c w : Nat) : Word :=
  (s.ctxRt c).direct.foldl (fun v e => if e.1 = w then mergeWord v e.2 (BitVec.ofNat 32 (ctxRwMask w)) else v) (s.cword c w)

/-- A write of a context word in direct mode (R51, R54, R73): a mantissa is staged, its s word commits the pair, any other word is written. -/
def State.ctxDirect (s : State) (i : Init) (c w : Nat) (v : Word) : WRes :=
  match s.ctxCheck (s.identOf i) c w v with
  | some r => .error r
  | none =>
    match ctxCoef w with
    | some _ => .ok (s.setCoefStage i (some (ctxCoefKey c w, v)))
    | none =>
      match coefOfS w with
      | some p =>
        let m := s.coefM i (ctxCoefKey c (w - 1)) (s.liveWord c (w - 1))
        if coefOk p m.toNat (bitsOf v 4 0) then .ok ((s.directWords c [(w - 1, m), (w, v &&& 0x1F)]).setCoefStage i none)
        else .error .outOfRange
      | none => .ok (s.directWords c [(w, v)])

/-! Windows (R50 to R52). -/

/-- Offset of CTXW_SELn of an initiator. -/
def selOff (i : Init) : Nat := 0x040 + 4 * i.number

/-- Offset of a word in an initiator's apertures (R50). -/
def apertureOff (i : Init) (w : Nat) : Nat := (if w < 32 then 0x100 + 4 * w else 0x500 + 4 * (w - 32)) + 0x80 * i.number

/-- The admission of an access through a window (R46, R52): the lifecycle, for a domain its ownership of the context, and for an expert
write the expert lock of the CTXW page, for a domain with the context's privilege. -/
def State.admitWindow (s : State) (i : Init) (c : Nat) (expertWrite : Bool) : Option Reason :=
  match s.identOf i with
  | none => some .lifecycle
  | some id =>
    if !basicAdmitted s.sec.lc id then some .lifecycle
    else
      match id with
      | .device => none
      | .domain d =>
        if s.cget CTX_OWNER.OWNER c ≠ d.val then some .notOwner
        else if expertWrite && (decide (s.cget CTX_OWNER.EXPERT_PRIV c = 0) || !(s.expertSt pgCTXW i).opened) then some .expertLocked
        else none
      | _ => if expertWrite && !(s.expertSt pgCTXW i).opened then some .expertLocked else none

/-- LAST_REFUSE of the window records the reason of a refused access (R50). -/
def State.noteRefuse (s : State) (i : Init) : State :=
  let r := Tbl.get (fun _ => 0) s.busRefuse i.holder
  if r = 0 then s else s.setWindow i.holder { s.window i.holder with lastRefuse := r }

/-- A write of CTXW_SELn without COMMIT (R51, R52). DESIGN CHOICE (log 210): it empties the staging of the selection before it. -/
def ctxwSelect (i : Init) (c : Nat) (staged : Bool) (s : State) : WRes :=
  let w := s.window i.holder
  if w.pending then .error .windowBusy
  else if s.member.contexts ≤ c then .error .unitAbsent
  else
    match s.admitWindow i c false with
    | some r => .error r
    | none => .ok (s.setWindow i.holder { w with ctx := c, staged := staged, snap := none, snapWanted := staged, words := [] })

/-- The lifecycle alone, for an access whose other checks are the window's. -/
def State.admitLifecycle (s : State) (i : Init) : Option Reason :=
  match s.identOf i with
  | none => some .lifecycle
  | some id => if basicAdmitted s.sec.lc id then none else some .lifecycle

/-- The word of CTXW_SELn. -/
def selWord (commit staged : Bool) (c : Nat) : Word := BitVec.ofNat 32 ((if commit then 2 ^ 31 else 0) + (if staged then 2 ^ 16 else 0) + c)

/-- A write of CTXW_SELn that selects a context and a mode. -/
def State.selectCtx (s : State) (who : Init) (c : Nat) (mode : Bool) : State :=
  (s.accessBy (fun s => s.admitLifecycle who) who pgCTXW (selOff who) (selWord false mode c) (ctxwSelect who c mode)).noteRefuse who

/-- CTXW_SELECT: a write of CTXW_SELn selects a context and a mode (R51). -/
def execCtxwSelect (who : Init) (ctx : BitVec 12) (mode : Bool) (s : State) : Host.Outcome State Fault Refusal :=
  .next (s.selectCtx who ctx.toNat mode)

/-- The snapshot of a window is taken (R51). -/
def State.takeSnapshot (s : State) (h : Nat) : State :=
  let w := s.window h
  if w.snapWanted then s.setWindow h { w with snap := some ((List.range 64).map fun k => s.cword w.ctx k), snapWanted := false } else s

/-- CTXW_SNAPSHOT: the snapshot of the selected context is taken, and SNAP_VALID is set (R51). -/
def execCtxwSnapshot (who : Init) (s : State) : Host.Outcome State Fault Refusal := .next (s.takeSnapshot who.holder)

/-- A staged word replaces an earlier one of the same number. -/
def stageWord (l : List (Nat × Word)) (w : Nat) (v : Word) : List (Nat × Word) := l.filter (fun e => decide (e.1 ≠ w)) ++ [(w, v)]

/-- The value that a staged window holds for a word. -/
def State.stagedOr (s : State) (win : Window) (w : Nat) : Word :=
  match win.words.find? fun e => decide (e.1 = w) with
  | some e => e.2
  | none => s.cword win.ctx w

/-- A write through a window's aperture (R51): to the live word, or to the staging. In staging too a mantissa waits for its s word, whose write
stages the pair (R54). -/
def apertureWrite (i : Init) (w : Nat) (v : Word) (s : State) : WRes :=
  let win := s.window i.holder
  if !win.staged then s.ctxDirect i win.ctx w v
  else
    match s.ctxCheck (s.identOf i) win.ctx w v with
    | some r => .error r
    | none =>
      match ctxCoef w with
      | some _ => .ok (s.setCoefStage i (some (ctxCoefKey win.ctx w, v)))
      | none =>
        match coefOfS w with
        | some p =>
          let m := s.coefM i (ctxCoefKey win.ctx (w - 1)) (s.stagedOr win (w - 1))
          if coefOk p m.toNat (bitsOf v 4 0) then
            .ok ((s.setWindow i.holder { win with words := stageWord (stageWord win.words (w - 1) m) w (v &&& 0x1F) }).setCoefStage i none)
          else .error .outOfRange
        | none => .ok (s.setWindow i.holder { win with words := stageWord win.words w v })

/-- A write of an initiator to its window's aperture. -/
def State.writeAperture (s : State) (who : Init) (w : Nat) (v : Word) : State :=
  (s.accessBy (fun s => s.admitWindow who (s.window who.holder).ctx (decide (32 ≤ w))) who pgCTXW (apertureOff who w) v
    (apertureWrite who w v)).noteRefuse who

/-- CTXW_APERTURE_WRITE: a write to a window's aperture (R51, R52). -/
def execCtxwApertureWrite (who : Init) (word : Fin 64) (value : Word) (s : State) : Host.Outcome State Fault Refusal :=
  .next (s.writeAperture who word.val value)

/-- The shadow of a coefficient's s, latched by a read of its m (R54). -/
def State.setCoefShadow (s : State) (i : Init) (v : Option (Nat × Word)) : State :=
  { s with coefShadow := Tbl.set (fun _ => none) s.coefShadow i.holder v }

/-- A read of a pair's s: the shadow of the last read of its m, else the live word; the shadow is used once. -/
def State.readCoefS (s : State) (i : Init) (key : Nat) (live : Word) : State :=
  match Tbl.get (fun _ => none) s.coefShadow i.holder with
  | some (k, v) => if k = key then (s.answerRead i v).setCoefShadow i none else s.answerRead i live
  | none => s.answerRead i live

/-- A read of a context word by value: reads of a mantissa latch its s, reads of an s answer the shadow (R54). -/
def State.ctxReadWord (s : State) (i : Init) (c w : Nat) : State :=
  if (ctxCoef w).isSome then (s.setCoefShadow i (some (ctxCoefKey c w, s.liveWord c (w + 1)))).answerRead i (s.liveWord c w)
  else if (coefOfS w).isSome then s.readCoefS i (ctxCoefKey c (w - 1)) (s.liveWord c w)
  else s.answerRead i (s.liveWord c w)

/-- A read through a window's aperture (R51, R52). -/
def apertureRead (i : Init) (w : Nat) (s : State) : State :=
  let win := s.window i.holder
  let owned : Bool :=
    match s.identOf i with
    | some (.domain d) => decide (s.cget CTX_OWNER.OWNER win.ctx = d.val)
    | _ => true
  if !owned then (s.refuseRead i pgCTXW .notOwner).noteRefuse i
  else if win.staged then
    match win.snap with
    | some l => s.answerRead i (l.getD w 0)
    | none => (s.refuseRead i pgCTXW .windowBusy).noteRefuse i
  else s.ctxReadWord i win.ctx w

/-- CTXW_APERTURE_READ: a read through a window's aperture (R52). -/
def execCtxwApertureRead (who : Init) (word : Fin 64) (s : State) : Host.Outcome State Fault Refusal :=
  .next (s.accessRead who pgCTXW (apertureRead who word.val))

/-- Admission of a commit (R46, R52): a domain that no longer owns the context is admitted, and its commit discarded. -/
def State.admitCommit (s : State) (i : Init) (c : Nat) : Option Reason :=
  match s.admitWindow i c false with
  | some .notOwner => none
  | r => r

/-- A commit is accepted, or discarded where the domain has lost the context since its selection (R52). -/
def State.acceptCommit (s : State) (i : Init) (w : Window) : State :=
  if s.admitWindow i w.ctx false = some .notOwner then
    s.setWindow i.holder { w with words := [], done := true, lastRefuse := Reason.notOwner.code, lastCtx := w.ctx }
  else s.setWindow i.holder { w with pending := true, done := false }

/-- A write of CTXW_SELn with COMMIT = 1, context c and mode `staged` (R51, R52). -/
def ctxwCommit (i : Init) (c : Nat) (staged : Bool) (s : State) : WRes :=
  let w := s.window i.holder
  if w.pending then .error .windowBusy
  else if !w.staged || !staged || decide (w.ctx ≠ c) then .error .accessForm
  else
    match s.admitCommit i w.ctx with
    | some r => .error r
    | none => .ok (s.acceptCommit i w)

/-- A write of CTXW_SELn with COMMIT = 1 and the selection unchanged. -/
def State.commitWindow (s : State) (who : Init) : State :=
  let w := s.window who.holder
  (s.accessBy (fun s => s.admitLifecycle who) who pgCTXW (selOff who) (selWord true w.staged w.ctx) (ctxwCommit who w.ctx w.staged)).noteRefuse who

/-- CTXW_COMMIT: a write of CTXW_SELn with COMMIT = 1 and the selection unchanged (R51). -/
def execCtxwCommit (who : Init) (s : State) : Host.Outcome State Fault Refusal := .next (s.commitWindow who)

/-- CTXW_COMMIT_APPLY: at its context's next tick the staged words of a pending commit apply together, after what direct mode wrote there
before (R51, R52; DEDUCED, log 207). -/
def execCtxwCommitApply (who : Init) (s : State) : Host.Outcome State Fault Refusal :=
  .next (if (s.window who.holder).pending then (s.applyDirect (s.window who.holder).ctx).windowApply who.holder (s.identOf who) else s)

/-- CTX_OWNER_WRITE: a write of context word 6 (R73). -/
def execCtxOwnerWrite (who : Init) (ctx : Fin 4096) (owner : Fin 32) (priv : Bool) (s : State) : Host.Outcome State Fault Refusal :=
  let v := BitVec.ofNat 32 ((if priv then 256 else 0) + owner.val)
  .next ((s.accessBy (fun s => if ctx.val < s.member.contexts then s.admitWindow who ctx.val false else some .unitAbsent) who pgCTXW
    (apertureOff who 6) v (fun s => s.ctxDirect who ctx.val 6 v)).noteRefuse who)

/-! Coefficient pairs of the canceller, and the three commands (R54). -/

/-- Offset of the mantissa of a canceller pair. -/
def canCoefOff (p : CoefPair) : Nat :=
  match p with
  | .canMu => 0x408
  | .canLeak => 0x410
  | _ => 0x418

/-- A write of a canceller pair's m is staged (R54). -/
def canCoefM (i : Init) (off : Nat) (v : Word) (s : State) : WRes :=
  if !s.member.present (s.canSel i) then .error .unitAbsent else .ok (s.setCoefStage i (some (canKey off (s.canSel i), v)))

/-- A write of a canceller pair's s commits the pair (R54, R121). DESIGN CHOICE: a staged m survives an s write that is refused as out of range;
the rule does not say (log 169). -/
def canCoefS (i : Init) (p : CoefPair) (v : Word) (s : State) : WRes :=
  let key := canKey (canCoefOff p) (s.canSel i)
  let m := s.coefM i key (s.word key)
  if !s.member.present (s.canSel i) then .error .unitAbsent
  else if coefOk p m.toNat (bitsOf v 4 0) then .ok (((s.setWord key m).setWord (key + 4) (v &&& 0x1F)).setCoefStage i none)
  else .error .outOfRange

/-- A read of a canceller pair's m latches its s (R54). -/
def canCoefRead (i : Init) (off : Nat) (s : State) : State :=
  let key := canKey off (s.canSel i)
  (s.setCoefShadow i (some (key, s.word (key + 4)))).answerRead i (s.word key)

/-- COEF_M_WRITE: a write of a coefficient's m word (R54). -/
def execCoefMWrite (who : Init) (pair : CoefPair) (value : Word) (s : State) : Host.Outcome State Fault Refusal :=
  match pair with
  | .ctx k => execCtxwApertureWrite who ⟨32 + 2 * k.val, by omega⟩ value s
  | p => .next (s.access who pgCAN (canCoefOff p) value (canCoefM who (canCoefOff p) value))

/-- COEF_S_WRITE: a write of a coefficient's s word (R54). -/
def execCoefSWrite (who : Init) (pair : CoefPair) (value : Word) (s : State) : Host.Outcome State Fault Refusal :=
  match pair with
  | .ctx k => execCtxwApertureWrite who ⟨33 + 2 * k.val, by omega⟩ value s
  | p => .next (s.access who pgCAN (canCoefOff p + 4) value (canCoefS who p value))

/-- COEF_M_READ: a read of a coefficient's m word (R54). -/
def execCoefMRead (who : Init) (pair : CoefPair) (s : State) : Host.Outcome State Fault Refusal :=
  match pair with
  | .ctx k => execCtxwApertureRead who ⟨32 + 2 * k.val, by omega⟩ s
  | p => .next (s.accessRead who pgCAN (canCoefRead who (canCoefOff p)))

end Sys2Proof.Machine
end

