-- ==== Sys2Proof/Machine/Budget.lean ====
section
/-!
DEFINITION. Chapter 9, third part: the regulatory set's commit (R231, R251) and the port power budget (R246, R247).
-/
namespace Sys2Proof.Machine

/-! The regulatory set (R229 to R232, R251). -/

/-- The checks of a VALID entry at COMMIT (R231). -/
def RegEntry.checked (r : RegEntry) : Bool :=
  decide (r.chCount ≤ 8 ∧ r.low < r.high ∧ r.duty ≤ 1024 ∧ 1 ≤ r.dutyWin ∧ r.dutyWin ≤ 3600) && (r.dl || r.ul) &&
    (!r.ul || decide (r.noiseLim ≠ noLimit)) && r.reservedZero &&
    r.channels.all fun c => decide (5000 ≤ c.2) && holdsCarrier (2 * r.low) (2 * r.high) c.1 c.2

/-- The first staged entry that fails the checks; an entry that is not VALID is not checked. -/
def State.badEntry (s : State) : Option Nat :=
  (List.range 64).find? fun e => (regEntry s.npr.staged e).valid && !(regEntry s.npr.staged e).checked

/-- The words of a set, and the release after them. -/
def setWords (t : List (Nat × Word)) (release : Nat) : List Nat :=
  ((List.range 1024).map fun i => (Tbl.get (fun _ => (0 : Word)) t i).toNat) ++ [release]

/-- COMMIT of a staged set that passes its checks (R231): one journal entry. -/
def State.regCommit (s : State) : State := (s.fset LIM_REG_STAT.BAD_ENTRY 0 0xFF).queueJournal 1 0 (setWords s.npr.staged (s.fget LIM_LIMITER_X.RELEASE 0))

/-- The staging equals the set in force (R251). -/
def State.regRestage (s : State) : State :=
  { s with npr := { s.npr with staged := s.npr.regset } }.fset LIM_LIMITER_X.RELEASE 0 s.npr.release

/-- A write of LIM_REG_CMD (R231, R251). -/
def regCmdWrite (v : Word) (s : State) : WRes :=
  if bitsOf v 31 31 = 1 then (if s.badEntry.isSome then .error .outOfRange else .ok s.regCommit)
  else if bitsOf v 30 30 = 1 then .ok s.regRestage
  else .ok s

/-- A write of LIM_REG_CMD; a COMMIT that its checks refuse records the entry (R231). -/
def State.regCmdAccess (s : State) (i : Init) (v : Word) : State :=
  let t := s.access i pgLIM 0x4C0 v (regCmdWrite v)
  match s.badEntry with
  | some e =>
    if bitsOf v 31 31 = 1 ∧ Tbl.get (fun _ => 0) t.busRefuse i.holder = Reason.outOfRange.code then t.fset LIM_REG_STAT.BAD_ENTRY 0 e else t
  | none => t

/-- REG_COMMIT: a write of LIM_REG_CMD.COMMIT (R231). -/
def execRegCommit (who : Init) (s : State) : Host.Outcome State Fault Refusal := .next (s.regCmdAccess who 0x80000000)

/-- REG_RESTAGE: a write of LIM_REG_CMD.RESTAGE (R251). -/
def execRegRestage (who : Init) (s : State) : Host.Outcome State Fault Refusal := .next (s.regCmdAccess who 0x40000000)

/-- The coverage of a context is evaluated again (R230): cause 5 for its next tick. -/
def State.recover (s : State) (c : Nat) : State :=
  let e := s.coverNow c
  let t := s.setCover c e
  if e.isSome then (if t.mutedFor c 5 || (t.ctxRt c).raised.testBit 5 then t.clearMute c 5 else t)
  else if ctxRuns (t.ctxState c) || decide (t.ctxState c = ctxMUTED) then t.raiseMute c 5
  else t

/-- The bytes of a set, for its CRC-32. -/
def setBytes (l : List Nat) : List Nat := (l.take 1024).flatMap fun w => beBytes 4 w

/-- REG_SET_IN_FORCE: the journal entry of a set has been committed, and the set is in force (R231, R232). -/
def State.regLoad (s : State) (payload : List Nat) : State :=
  let set := (List.range 1024).foldl (fun t i => Tbl.set (fun _ => (0 : Word)) t i (BitVec.ofNat 32 (payload.getD i 0))) []
  let t := { s with npr := { s.npr with regset := set, staged := set, release := payload.getD 1024 0x40 } }
  let t := (t.fset LIM_LIMITER_X.RELEASE 0 t.npr.release).fset LIM_REG_STAT.VALID 0 1
  let t := t.fset LIM_REG_STAT.ENTRIES 0 ((List.range 64).filter fun e => (t.entryOf e).valid).length
  let t := ((t.fset LIM_REG_CRC.CRC 0 (crc32 (setBytes payload))).cond pgLIM 2 false).drive 104 false
  t.liveCtxs.foldl (fun t c => t.recover c) t

/-- A committed set comes into force, and REG_COMMIT rises (R231). -/
def State.regInForce (s : State) (payload : List Nat) : State := (s.regLoad payload).pulse pgLIM 1

/-! The budget (R246, R247). -/

def tmBudget : Nat := 30

/-- The demand of a context (R246), in 1/64 dBm. -/
def State.demand (s : State) (c : Nat) : Int :=
  let m := s.cgetI CTX_POWER.MAX_POWER c
  if s.cget CTX_LOOP_CTRL.L2_EN c = 0 then m else min (s.cgetI CTX_POWER.SHARE_POWER c) m

/-- A context takes part in the allocation (R246): it runs, or it is muted for cause 3 only and no hold of a delay runs; a context whose
refusal stands, or whose mute waits for its tick, does not. -/
def State.eligible (s : State) (c : Nat) : Bool :=
  let r := s.ctxRt c
  !r.refused && !r.raised.testBit 3 &&
    (ctxRuns (s.ctxState c) || (decide (s.ctxState c = ctxMUTED ∧ s.muteSet c = 4) && (r.held || !s.timerOn tmBudget c)))

/-- A share in a port's allocation: context, class, entry, want and floor in units of 2^-40 mW, and the status so far:
0 served, 1 cut by the entry cap, 2 cut with its class, 3 delayed, 4 refused (the REASON codes of R247). -/
structure Share where
  ctx : Nat
  cls : Nat
  entry : Nat
  want : Nat
  floor : Nat
  status : Nat := 0
  grant : Nat := 0
deriving DecidableEq, Repr

/-- The shares of a port, contexts ascending. -/
def State.shares (s : State) (n : Nat) : List Share :=
  (s.liveCtxs.filter fun c => (s.ctxDests c).contains (32 + n) && s.eligible c).filterMap fun c =>
    (s.coverOf c).map fun e =>
      { ctx := c, cls := s.cget CTX_CTRL.PRIO c, entry := e, want := dbToLin (s.demand c)
        floor := dbToLin (s.demand c - s.cgetI CTX_NPR_CFG.MIN_DROP_DB c) }

/-- Contexts whose floor exceeds the port's budget are refused. -/
def refuseShares (budget : Nat) (l : List Share) : List Share := l.map fun x => if budget < x.floor then { x with status := 4 } else x

/-- The shares of an entry are cut to its cap. -/
def capShares (cap e : Nat) (l : List Share) : List Share :=
  let sum := ((l.filter fun x => decide (x.entry = e ∧ x.status ≠ 4)).map fun x => x.want).sum
  if cap < sum then l.map fun x => if x.entry = e ∧ x.status ≠ 4 then { x with want := x.want * cap / sum, status := 1 } else x else l

/-- What remains and the shares after a class is served (R246): full, cut together, or with its last context below its floor delayed. -/
def serveClass : Nat → Nat → Nat → List Share → Nat × List Share
  | 0, _, rem, l => (rem, l)
  | fuel + 1, k, rem, l =>
    let inn (x : Share) : Bool := decide (x.cls = k ∧ x.status < 3)
    let t := ((l.filter inn).map fun x => x.want).sum
    if t ≤ rem then (rem - t, l.map fun x => if inn x then { x with grant := x.want } else x)
    else
      match ((l.filter inn).filter fun x => decide (x.want * rem < x.floor * t)).getLast? with
      | none => (0, l.map fun x => if inn x then { x with grant := x.want * rem / t, status := 2 } else x)
      | some d => serveClass fuel k rem (l.map fun x => if x.ctx = d.ctx then { x with status := 3 } else x)

/-- Power in 2^-40 mW of a level; nothing for a field without a valid value. -/
def levelMw (db : Int) : Nat := if db = noValue then 0 else dbToLin db

/-- The allocation of a port (R246). -/
def State.allocate (s : State) (n : Nat) : List Share :=
  let budget := dbToLin (s.fgetI NPR_PORT.PORT_MAX n)
  let draining := ((s.liveCtxs.filter fun c => decide (s.ctxState c = ctxDRAINING) && (s.ctxDests c).contains (32 + n)).map
    fun c => levelMw (s.cgetI CTX_MEAS_POWER.OUT_POWER c)).sum
  let l := refuseShares budget (s.shares n)
  let l := ((l.map fun x => x.entry).eraseDups).foldl (fun l e =>
    if s.entryCap e = noLimit then l else capShares (dbToLin (s.entryCap e)) e l) l
  let serve (a : Nat × List Share) (k : Nat) : Nat × List Share := serveClass (l.length + 1) k a.1 a.2
  (serve (serve (serve (budget - draining, l) 0) 1) 2).2

/-- The outcome of a context over its ports: the worst status, the lowest grant, and the port that set the status. -/
structure Allot where
  status : Nat := 0
  grant : Nat := 0
  port : Nat := 0
deriving DecidableEq, Repr

/-- Ranks of the statuses (R247): served, ramped down, delayed, refused. -/
def statusRank (st : Nat) : Nat := if st = 0 then 0 else if st ≤ 2 then 1 else st - 1

/-- One port more in a context's outcome. -/
def Allot.add (a : Option Allot) (n : Nat) (x : Share) : Allot :=
  match a with
  | none => ⟨x.status, x.grant, n⟩
  | some a =>
    let worse := decide (statusRank a.status < statusRank x.status ∨ (statusRank a.status = statusRank x.status ∧ x.grant < a.grant))
    ⟨if worse then x.status else a.status, min a.grant x.grant, if worse then n else a.port⟩

/-- The outcome of a context. -/
def allotOf (l : List (Nat × List Share)) (c : Nat) : Option Allot :=
  l.foldl (fun a p => match p.2.find? fun x => decide (x.ctx = c) with | some x => some (Allot.add a p.1 x) | none => a) none

/-- A level in the power field; 0x8000 for nothing. -/
def mwField (x : Nat) : Int := match linToDb x linOne with | some d => dbField d | none => noValue

/-- A context takes its outcome (R247). -/
def State.takeAllot (s : State) (c : Nat) (a : Allot) : State :=
  let served := decide (a.status < 3)
  let t := (s.cset CTX_STATUS.BUDGET c (if a.status = 0 then 0 else if served then 1 else 2)).cset CTX_BUDGET_STAT.REASON c a.status
  let t := (t.cset CTX_BUDGET_STAT.PORT c a.port).csetI CTX_GRANT.DEMAND c (t.demand c)
  let t := t.csetI CTX_GRANT.GRANT c (if served then mwField a.grant else noValue)
  if served then
    let t := t.setCtxRt c { t.ctxRt c with held := false }
    if t.mutedFor c 3 then t.clearMute c 3 else t
  else
    let t := ((t.raiseMute c 3).cbump CTX_BUDGET_STAT.REFUSALS c).pulse pgNPR 6
    if a.status = 4 then t.setCtxRt c { t.ctxRt c with refused := true, held := false }
    else (t.setCtxRt c { t.ctxRt c with held := false }).timerStart tmBudget c t.ms

/-- A context that takes no share has no grant; while its hold runs its status says so (R247). -/
def State.noShare (s : State) (c : Nat) : State :=
  let t := s.csetI CTX_GRANT.GRANT c noValue
  if s.timerOn tmBudget c && s.mutedFor c 3 then t.cset CTX_BUDGET_STAT.REASON c 5 else t

/-- The number of ports at which each entry has eligible contexts (R246). -/
def eligCount (l : List (Nat × List Share)) (e : Nat) : Nat :=
  (l.filter fun p => p.2.any fun x => decide (x.entry = e)).length

/-- The port power budget is allocated for the next control engine period (R246, R247). -/
def State.budgetAllocation (s : State) : State :=
  let l := ((List.range 32).filter fun n => s.member.present n).map fun n => (n, s.allocate n)
  let entries := (List.range 64).foldl (fun t e => Tbl.set (fun _ => 0) t e (eligCount l e)) ([] : List (Nat × Nat))
  let t := { s with npr := { s.npr with eligPorts := entries } }
  let t := l.foldl (fun t p => t.fsetI NPR_PORT.USED p.1 (mwField (p.2.map fun x => x.grant).sum)) t
  let t := if l.any fun p => p.2.any fun x => decide (x.status ≠ 0) then t.pulse pgNPR 5 else t
  t.liveCtxs.foldl (fun t c => match allotOf l c with | some a => t.takeAllot c a | none => t.noShare c) t

/-- BUDGET_ALLOCATION: the allocation before a control engine period, while that engine has its clock (R14, R246). -/
def execBudgetAllocation (s : State) : Host.Outcome State Fault Refusal := .next (if s.domainRuns 1 then s.budgetAllocation else s)

/-- BUDGET_HOLD_EXPIRED: BUDGET_HOLD_MS has passed since a context's delay (R247). -/
def execBudgetHoldExpired (ctx : Fin 4096) (s : State) : Host.Outcome State Fault Refusal :=
  .next (
    if s.timerDue tmBudget ctx.val s.ms (s.fget NPR_TIME.BUDGET_HOLD_MS 0) then
      (s.timerStop tmBudget ctx.val).setCtxRt ctx.val { s.ctxRt ctx.val with held := true }
    else s)

end Sys2Proof.Machine
end

