-- ==== Sys2Proof/Machine/Gns.lean ====
section
/-!
DEFINITION. Chapter 8, second part: loss of a timing group, the 1PPS input, the GNSS UART and the NMEA parser (R202, R210 to R215).
-/
namespace Sys2Proof.Machine

/-- HOLDOVER_TIMEOUT: HOLDOVER_MS pass since the last accepted observation (R202); the loss of timing may start a Foxglove shutdown (R238). -/
def execHoldoverTimeout (group : Fin 8) (s : State) : Host.Outcome State Fault Refusal :=
  .next (
    if s.groupState group.val = tgFLYWHEEL && s.timerDue tmHold group.val s.ms (s.fget FTM_GTIME.HOLDOVER_MS group.val) then
      (s.setGroup group.val tgLOST).foxCheck (.timing group)
    else s)

/-! State of the receiver. -/

def ppsNONE : Nat := 0
def ppsACQUIRING : Nat := 1
def ppsVALID : Nat := 2
def ppsLOST : Nat := 3

def tmPps : Nat := 60
def tmNmea : Nat := 61
def tmGga : Nat := 62

def State.setGns (s : State) (g : GnsSt) : State := { s with ftm := { s.ftm with gns := g } }

def State.ppsState (s : State) : Nat := s.fget GNS_STAT.PPS_STATE 0

/-- TIME_VALID follows its conditions (R215), LOSS and F108 the two losses (R228, R347), and the groups their sources (R209). -/
def State.gnsRefresh (s : State) : State :=
  let g := s.ftm.gns
  let valid := decide (s.ppsState = ppsVALID) && g.labelled && !g.nmeaLost && s.fon GNS_STAT.FIX 0
  let was := s.fon GNS_STAT.TIME_VALID 0
  let lost := decide (s.ppsState = ppsLOST) || g.nmeaLost
  let t := s.fsetB GNS_STAT.TIME_VALID 0 valid
  let t := if valid && !was then t.pulse pgGNS 5 else t
  ((t.cond pgGNS evtLoss lost).drive 108 lost).notePri

/-- PPS_STATE takes a value. -/
def State.setPps (s : State) (st : Nat) : State := (s.fset GNS_STAT.PPS_STATE 0 st).gnsRefresh

/-- A write of GNS_PPS (R210, R211): EN takes the receiver out of NONE and back. -/
def gnsPpsWrite (v : Word) (s : State) : WRes :=
  let was := s.fon GNS_PPS.EN 0
  match s.mergeReg pgGNS 0x044 (GNS_PPS.EN.key 0) v with
  | .error r => .error r
  | .ok t =>
    let en := t.fon GNS_PPS.EN 0
    .ok (
      if en && !was then ((t.setGns { t.ftm.gns with intervals := [], last := none, missed := 0, cand := [] }).timerStart tmPps 0 t.sec_).setPps ppsACQUIRING
      else if was && !en then (t.timerStop tmPps 0).setPps ppsNONE
      else t)

/-- A write of GNS_UART (R212, R215): the wait for a time sentence begins with EN. DESIGN CHOICE (log 223): EN := 0 ends what the sentences gave, the
fix, the label and its loss. -/
def gnsUartWrite (v : Word) (s : State) : WRes :=
  let was := s.fon GNS_UART.EN 0
  match s.mergeReg pgGNS 0x040 (GNS_UART.EN.key 0) v with
  | .error r => .error r
  | .ok t =>
    let en := t.fon GNS_UART.EN 0
    .ok (
      if en && !was then t.timerStart tmNmea 0 t.sec_
      else if was && !en then
        ((((t.timerStop tmNmea 0).timerStop tmGga 0).fset GNS_STAT.FIX 0 0).setGns { t.ftm.gns with line := [], lost := false, lostAddr := false, crossing := [], crossLost := false, waiting := none, labelled := false, nmeaLost := false, uartWait := false }).gnsRefresh
      else t)

/-! 1PPS (R210, R211). -/

/-- One second in ticks, and 50 ppm of it. -/
def ppsTicks : Nat := 245760000
def ppsPpm : Nat := 12288

/-- The second estimate I, in 2^-16 tick (R211). -/
def GnsSt.estimate (g : GnsSt) : Nat :=
  let l := g.intervals.take 8
  if l.isEmpty then ppsTicks * one16
  else
    let mean := roundDiv ((l.map fun x => ((x.1 * one16 / max 1 x.2 : Nat) : Int)).foldl (· + ·) 0) l.length
    (clampI ((ppsTicks - ppsPpm) * one16) ((ppsTicks + ppsPpm) * one16) mean).toNat

/-- A device time lies within WIN_NS of the expected one. -/
def State.inPpsWindow (s : State) (t : Nat) : Bool :=
  withinNs ((t : Int) * one16 - s.ftm.gns.expect) (s.fget GNS_PPS.WIN_NS 0)

/-- The spacings of candidates, newest first. -/
def spacings : List Nat → List Int
  | a :: b :: t => ((a : Int) - b) :: spacings (b :: t)
  | _ => []

/-- The last n candidates are spaced one second within 50 ppm, and agree with each other within WIN_NS (R211). -/
def ppsAgree (win n : Nat) (cand : List Nat) : Bool :=
  let d := spacings (cand.take n)
  decide (n ≤ cand.length) && (d.all fun x => decide ((ppsTicks : Int) - ppsPpm ≤ x ∧ x ≤ ppsTicks + ppsPpm)) &&
    d.all fun x => d.all fun y => withinNs ((x - y) * one16) win

/-- The last accepted edge, once it has a label, is an observation (R204, R205): its frame index counts the frames since the GPS epoch. -/
def State.gnsYield (s : State) : State :=
  let g := s.ftm.gns
  match g.label, g.last with
  | some (gps, c), some e => if g.labelled then s.yieldObs 3 e ((gps + (g.count - g.missed) - c) * 100) else s
  | _, _ => s

/-- A label is accepted: the edge of a count has a GPS second (R215). -/
def State.labelEdge (s : State) (gps count : Nat) : State :=
  let first := !s.ftm.gns.labelled
  let t := s.setGns { s.ftm.gns with label := some (gps, count), labelled := true, badLabels := [], nmeaLost := false }
  let t := (t.fset GNS_GPS_SEC_LO.SEC_LO 0 (gps % 2 ^ 32)).fset GNS_GPS_SEC_HI.SEC_HI 0 (gps / 2 ^ 32)
  let t := (t.timerStart tmNmea 0 t.sec_).gnsRefresh
  if first then t.gnsYield else t

/-- A sentence is discarded with a reason (R214). -/
def State.nmeaBad (s : State) (reason : Nat) : State :=
  (((s.fbump GNS_ERR.NMEA_BAD 0).fset GNS_NMEA_LAST.REASON 0 reason).pulse pgGNS 3).pulse pgGNS evtRange

/-- Discarded labels agree: their GPS seconds and counts advance together. -/
def labelsAgree (n : Nat) (l : List (Nat × Nat)) : Bool :=
  let l := l.take n
  decide (l.length = n) && l.all fun a => l.all fun b => decide ((a.1 : Int) - b.1 = (a.2 : Int) - b.2)

/-- A time of a sentence, as a UTC second, labels the edge of a count (R215): it must agree with the label before. -/
def State.labelTime (s : State) (utc count : Nat) : State :=
  let gps := utc + s.fget GNS_CFG.LEAP_S 0
  let g := s.ftm.gns
  let agrees := match g.label with | some (l, c) => decide ((gps : Int) - l = (count : Int) - c) | none => true
  if agrees then s.labelEdge gps count
  else
    let bad := ((gps, count) :: g.badLabels).take 7
    let t := (s.setGns { g with badLabels := bad }).nmeaBad 6
    if labelsAgree (s.fget GNS_CFG.RELOCK_N 0) bad then t.labelEdge gps count else t

/-- A sentence that waits for the next edge labels it, when the edge arrives within 1 s (R215). -/
def State.labelWaiting (s : State) (t : Nat) : State :=
  match s.ftm.gns.waiting with
  | none => s
  | some (utc, from_) =>
    let u := s.setGns { s.ftm.gns with waiting := none }
    if t ≤ from_ + ppsTicks then u.labelTime utc u.ftm.gns.count else u.nmeaBad 7

/-- An edge is accepted (R211). -/
def State.ppsAccept (s : State) (t : Nat) : State :=
  let g := s.ftm.gns
  let secs := g.missed + 1
  let ivs := match g.last with | some l => (((t - l), secs) :: g.intervals).take 8 | none => g.intervals
  let g := { g with intervals := ivs, last := some t, missed := 0, count := g.count + 1, cand := [] }
  let u := s.setGns { g with expect := t * one16 + g.estimate }
  (((u.fset GNS_STAT.LAST_ACCEPTED 0 1).timerStart tmPps 0 u.sec_).gnsYield).labelWaiting t

/-- The phase is acquired, or steps, at the newest candidate (R211): the label is not valid until a sentence agrees again. -/
def State.ppsStep (s : State) (t : Nat) : State :=
  let g := s.ftm.gns
  let secs := match g.last with | some l => (roundDiv (((t - l) * one16 : Nat) : Int) (max 1 g.estimate)).toNat | none => 1
  let g := { g with last := some t, expect := t * one16 + g.estimate, count := g.count + (secs - g.missed), missed := 0, labelled := false }
  ((((s.setGns g).fset GNS_STAT.LAST_ACCEPTED 0 1).timerStart tmPps 0 s.sec_).setPps ppsVALID).pulse pgGNS 2

/-- An edge outside its window (R211). -/
def State.ppsUnexpected (s : State) (t : Nat) : State :=
  let cand := (t :: s.ftm.gns.cand).take 7
  let u := (((s.setGns { s.ftm.gns with cand := cand }).fbump GNS_PPS_CNT.UNEXPECTED 0).pulse pgGNS 0).pulse pgGNS evtRange
  let u := u.fset GNS_STAT.LAST_ACCEPTED 0 0
  if ppsAgree (s.fget GNS_PPS.WIN_NS 0) (s.fget GNS_CFG.RELOCK_N 0) cand then u.ppsStep t else u

/-- The first edge of a pulse is an edge of the 1PPS input (R210): the pulse has the active polarity and is not too short. -/
def State.ppsCounts (s : State) (pulse : PpsPulse) : Bool :=
  s.works pgGNS && s.fon GNS_PPS.EN 0 && (pulse.high != s.fon GNS_PPS.POL 0) && decide (10 * s.fget GNS_PPS.MINW 0 ≤ pulse.widthNs)

/-- PPS_EDGE: an edge of the 1PPS input at a device time, the first of a pulse (R210, R211). -/
def execPpsEdge (t : BitVec 64) (pulse : PpsPulse) (s : State) : Host.Outcome State Fault Refusal :=
  .next (
    if !s.ppsCounts pulse then s
    else
      let u := (s.fset GNS_PPS_DT_LO.DT 0 (t.toNat % 2 ^ 32)).fset GNS_PPS_DT_HI.DT 0 (t.toNat / 2 ^ 32)
      if decide (u.ppsState = ppsVALID) && u.inPpsWindow t.toNat then u.ppsAccept t.toNat else u.ppsUnexpected t.toNat)

/-- PPS_WINDOW_EXPIRED: the window closes with no edge accepted (R211). -/
def execPpsWindowExpired (s : State) : Host.Outcome State Fault Refusal :=
  .next (
    let g := s.ftm.gns
    if s.ppsState ≠ ppsVALID then s
    else
      let t := s.advanceTo ((g.expect + (ns16 (s.fget GNS_PPS.WIN_NS 0)).toNat) / one16)
      let t := t.setGns { g with expect := g.expect + g.estimate, missed := g.missed + 1, count := g.count + 1 }
      (t.fbump GNS_PPS_CNT.MISSING 0).pulse pgGNS 1)

/-- PPS_TIMEOUT: no accepted edge for PPS_TO_S (R211). -/
def execPpsTimeout (s : State) : Host.Outcome State Fault Refusal :=
  .next (
    if s.fon GNS_PPS.EN 0 && s.timerDue tmPps 0 s.sec_ (s.fget GNS_CFG.PPS_TO_S 0) then (s.timerStop tmPps 0).setPps ppsLOST else s)

/-! NMEA (R214, R215). -/

/-- The value of decimal digits; none for an empty field or another character. -/
def decimal : List Nat → Option Nat
  | [] => none
  | l => l.foldl (fun a b => a.bind fun x => if 48 ≤ b ∧ b ≤ 57 then some (10 * x + (b - 48)) else none) (some 0)

/-- A list split at commas. -/
def splitFields : List Nat → List (List Nat)
  | [] => [[]]
  | b :: t =>
    match splitFields t with
    | f :: rest => if b = 0x2C then [] :: f :: rest else (b :: f) :: rest
    | [] => [[b]]

/-- The value of a hexadecimal digit. -/
def hexDigit (b : Nat) : Option Nat :=
  if 48 ≤ b ∧ b ≤ 57 then some (b - 48) else if 65 ≤ b ∧ b ≤ 70 then some (b - 55) else if 97 ≤ b ∧ b ≤ 102 then some (b - 87) else none

/-- What follows "*" in a sentence's characters after "$" is the XOR of those before it. -/
def checksumOk (l : List Nat) : Bool :=
  let body := l.takeWhile fun b => decide (b ≠ 0x2A)
  match (l.dropWhile fun b => decide (b ≠ 0x2A)).drop 1 with
  | [a, b] =>
    (match hexDigit a, hexDigit b with
     | some x, some y => decide (16 * x + y = body.foldl (fun c d => c ^^^ d) 0)
     | _, _ => false)
  | _ => false

/-- hhmmss with an optional fraction that is zero: the second of the day; none out of range. -/
def timeOfDay (f : List Nat) : Option Nat :=
  match decimal (f.take 2), decimal ((f.drop 2).take 2), decimal ((f.drop 4).take 2) with
  | some h, some m, some s =>
    let fracOk := (f.drop 6).isEmpty || (decide ((f.drop 6).head? = some 0x2E) && (f.drop 7).all fun b => decide (b = 48))
    if decide (h ≤ 23 ∧ m ≤ 59 ∧ s ≤ 60) && fracOk then some (3600 * h + 60 * m + s) else none
  | _, _, _ => none

/-- Days of a month of a year from 2000 to 2099. -/
def daysIn (y m : Nat) : Nat := if m = 2 then (if y % 4 = 0 then 29 else 28) else if m = 4 ∨ m = 6 ∨ m = 9 ∨ m = 11 then 30 else 31

/-- Days from 1980-01-06 to a date; none for an invalid one or a year outside 2000 to 2099 (R214, R215). -/
def dayNumber (y m d : Nat) : Option Nat :=
  if 2000 ≤ y ∧ y ≤ 2099 ∧ 1 ≤ m ∧ m ≤ 12 ∧ 1 ≤ d ∧ d ≤ daysIn y m then
    some (7300 + 365 * (y - 2000) + (y - 2000 + 3) / 4 + ((List.range (m - 1)).map fun k => daysIn y (k + 1)).sum + (d - 1))
  else none

/-- What a sentence of a used type says, once its fields are in range. -/
inductive Sentence where
  /-- a UTC second since 1980-01-06 -/
  | time (utc : Nat)
  /-- GGA: quality and satellites -/
  | fix (quality sats : Nat)
  | bad (reason : Nat)
  | ignored
deriving DecidableEq, Repr

/-- A time of day and a date as a UTC second. -/
def utcSecond (tod day : Option Nat) : Sentence :=
  match tod, day with
  | some t, some d => .time (86400 * d + t)
  | _, _ => .bad 4

/-- A field is empty, or has a value. -/
def emptyOr (f : List Nat) (v : Option Nat) : Bool := f.isEmpty || v.isSome

/-- GGA: the quality must be in range, and a time that is given (R214); SATS of an empty field is 0. -/
def readGga (time quality sats : List Nat) : Sentence :=
  match decimal quality with
  | some q => if q ≤ 8 ∧ emptyOr time (timeOfDay time) then .fix q ((decimal sats).getD 0) else .bad 4
  | none => .bad 4

/-- The fields of a sentence with a good checksum. -/
def readFields (f : List (List Nat)) : Sentence :=
  let at_ (n : Nat) : List Nat := f.getD n []
  let typ := (at_ 0).drop 2
  if typ = [0x52, 0x4D, 0x43] then
    let d := at_ 9
    let day := match decimal (d.take 2), decimal ((d.drop 2).take 2), decimal (d.drop 4) with
      | some a, some b, some y => dayNumber (2000 + y) b a
      | _, _, _ => none
    if at_ 2 = [0x56] then (if emptyOr (at_ 1) (timeOfDay (at_ 1)) && emptyOr (at_ 9) day then .bad 5 else .bad 4)
    else utcSecond (timeOfDay (at_ 1)) day
  else if typ = [0x5A, 0x44, 0x41] then
    let day := match decimal (at_ 2), decimal (at_ 3), decimal (at_ 4) with
      | some a, some b, some y => dayNumber y b a
      | _, _, _ => none
    utcSecond (timeOfDay (at_ 1)) day
  else
    readGga (at_ 1) (at_ 6) (at_ 7)

/-- The address field of a sentence names a type that the parser uses. -/
def usedType (l : List Nat) : Bool :=
  let a := (l.drop 1).takeWhile fun b => decide (b ≠ 0x2C)
  decide (a.length = 5) && [[0x52, 0x4D, 0x43], [0x5A, 0x44, 0x41], [0x47, 0x47, 0x41]].contains (a.drop 2)

/-- A complete sentence, "$" to its end; `lost` says that a byte of it was lost (R214), and `lostAddr` that one of its address was. A sentence that
lost a byte has reason 2 (R213), also one whose type the loss hides; else the lowest reason that applies is taken. -/
def readSentence (l : List Nat) (lost lostAddr : Bool) : Sentence :=
  let ends := decide (2 ≤ l.length) && decide (l.drop (l.length - 2) = [13, 10])
  let inner := (l.drop 1).take (l.length - 3)
  if !usedType l && !lostAddr then .ignored
  else if lost then .bad 2
  else if ends && !checksumOk inner then .bad 1
  else if !ends || decide (82 < l.length) then .bad 2
  else if inner.any fun b => decide (b < 0x20 ∨ 0x7E < b) then .bad 3
  else readFields (splitFields (inner.takeWhile fun b => decide (b ≠ 0x2A)))

/-- A time sentence labels an edge (R215): the last accepted one before its "$" within 1 s, or the next one. -/
def State.timeSentence (s : State) (utc : Nat) : State :=
  let g := s.ftm.gns
  if s.fon GNS_CFG.LABEL 0 then s.setGns { g with waiting := some (utc, s.dt) }
  else
    let edge : Option (Nat × Nat) :=
      match g.last, g.intervals with
      | some l, iv :: _ => if l ≤ g.lineDt then some (l, g.count - g.missed) else some (l - iv.1, g.count - g.missed - iv.2)
      | some l, [] => if l ≤ g.lineDt then some (l, g.count - g.missed) else none
      | none, _ => none
    match edge with
    | some (t, n) => if t ≤ g.lineDt ∧ g.lineDt ≤ t + ppsTicks then s.labelTime utc n else s.nmeaBad 7
    | none => s.nmeaBad 7

/-- A sentence acts (R214, R215). -/
def State.sentence (s : State) (x : Sentence) : State :=
  match x with
  | .ignored => s
  | .bad r => s.nmeaBad r
  | .fix q n => (((s.fsetB GNS_STAT.FIX 0 (decide (1 ≤ q))).fset GNS_STAT.SATS 0 (min n 255)).timerStart tmGga 0 s.sec_).gnsRefresh
  | .time u => s.timeSentence u

/-- The sentence received so far ends and is read. -/
def State.endLine (s : State) : State :=
  let g := s.ftm.gns
  let t := s.sentence (readSentence g.line g.lost g.lostAddr)
  t.setGns { t.ftm.gns with line := [], lost := false, lostAddr := false }

/-- A sentence is complete: it has ended with a line feed, or is longer than any sentence may be. -/
def GnsSt.complete (g : GnsSt) : Bool := decide (g.line.getLast? = some 10) || decide (82 < g.line.length)

/-- NMEA_SENTENCE: a complete sentence is checked and acts (R214, R215). -/
def execNmeaSentence (s : State) : Host.Outcome State Fault Refusal := .next (if s.ftm.gns.complete then s.endLine else s)

/-- A sentence in progress that a "$" cuts is of a type that the parser ignores. -/
def GnsSt.cutIgnored (g : GnsSt) : Bool := g.line.contains 0x2C && !usedType g.line && !g.lostAddr

/-- A byte reaches the parser: a "$" starts a sentence, and discards one that it interrupts (R214). -/
def State.nmeaByte (s : State) (b : Nat) : State :=
  let t := if s.ftm.gns.complete then s.endLine else s
  let g := t.ftm.gns
  if b = 0x24 then
    let t := if g.line.isEmpty || g.cutIgnored then t else t.nmeaBad (if g.lost then 2 else 3)
    t.setGns { t.ftm.gns with line := [b], lineDt := t.dt, lost := false, lostAddr := false }
  else if g.line.isEmpty then t
  else t.setGns { g with line := g.line ++ [b] }

/-! The UART (R212, R213). Times in cycles of CD43, 30.72 MHz. -/

/-- The bit rate of a BAUD code. -/
def baudOf (code : Nat) : Nat := [4800, 9600, 19200, 38400, 57600, 115200, 460800, 921600].getD code 9600

/-- The level of a line at a cycle, given by the lengths of its runs: the first of level b, then alternating, then high. -/
def lineAt : List Nat → Bool → Nat → Bool
  | [], _, _ => true
  | n :: t, b, c => if c < n then b else lineAt t (!b) (c - n)

/-- The majority of three. -/
def major (a b c : Bool) : Bool := (a && b) || (a && c) || (b && c)

/-- The filtered level at a cycle from the line's fall: the majority of three samples (R212). -/
def lineLevel (l : UartLine) (c : Nat) : Bool :=
  let raw (k : Nat) : Bool := decide (c < k) || lineAt l.runs false (c - k)
  major (raw 0) (raw 1) (raw 2)

/-- The cycle of the n-th of 16 samples per bit, from the filtered start edge at cycle 1: the divider is fractional (R212). -/
def sampleAt (baud n : Nat) : Nat := 1 + n * 1920000 / baud

/-- The value of a bit: the majority of its samples 7, 8 and 9. -/
def lineBit (l : UartLine) (baud k : Nat) : Bool :=
  let s (j : Nat) : Bool := lineLevel l (sampleAt baud (16 * k + j))
  major (s 7) (s 8) (s 9)

/-- The line is high from one cycle to another, both included. -/
def lineHigh (l : UartLine) (a b : Nat) : Bool := (List.range (b + 1 - a)).all fun j => lineLevel l (a + j)

/-- The stop bit (R213): samples 7, 8 and 9 as taken, where a sample after a new start edge reads 0. -/
def stopBit (l : UartLine) (baud : Nat) : Bool :=
  let t (j : Nat) : Nat := sampleAt baud (144 + j)
  major (lineLevel l (t 7)) (lineHigh l (t 7) (t 8)) (lineHigh l (t 7) (t 9))

/-- What the receiver makes of a character. -/
inductive UartResult where
  | accepted (byte : Nat)
  | framing (wait : Bool)
  | falseStart
deriving DecidableEq, Repr

/-- The character on a line (R212, R213): eight data bits, least significant first. DEDUCED (log 189): a line "low before sample 7" of the stop
bit is one that is low in the cycle before that sample. -/
def readChar (l : UartLine) (baud : Nat) : UartResult :=
  if lineLevel l (sampleAt baud 8) then .falseStart
  else if !lineLevel l (sampleAt baud 151 - 1) then .framing true
  else if stopBit l baud then .accepted (((List.range 8).map fun k => if lineBit l baud (k + 1) then 2 ^ k else 0).sum)
  else .framing false

/-- A byte of the sentence in progress is lost (R213, R214). -/
def State.loseByte (s : State) : State :=
  s.setGns { s.ftm.gns with lost := true, lostAddr := s.ftm.gns.lostAddr || !s.ftm.gns.line.contains 0x2C }

/-! Accepted bytes pass through XC18, which holds 64 (R18, R213). The parser works in CD3 and takes them while that domain has its clock. -/

/-- A byte that has crossed, and a loss before it, reach the parser. -/
def State.crossed (s : State) (x : Bool × Nat) : State := (if x.1 then s.loseByte else s).nmeaByte x.2

/-- The parser takes what waits in XC18. -/
def State.drainCrossing (s : State) : State :=
  let g := s.ftm.gns
  let t := g.crossing.foldl (fun t x => t.crossed x) (s.setGns { g with crossing := [], crossLost := false })
  if g.crossLost then t.loseByte else t

/-- A byte is lost: a sentence that waits behind XC18 learns it in its turn. -/
def State.dropByte (s : State) : State :=
  if s.domainRuns 3 then s.drainCrossing.loseByte else s.setGns { s.ftm.gns with crossLost := true }

/-- An accepted byte. -/
def State.crossByte (s : State) (b : Nat) : State :=
  let g := s.ftm.gns
  if s.domainRuns 3 then s.drainCrossing.nmeaByte b
  else if g.crossing.length < 64 then s.setGns { g with crossing := g.crossing ++ [(g.crossLost, b)], crossLost := false }
  else (s.dropByte.fbump GNS_ERR.OVERRUN 0).pulse pgGNS 4

/-- The receiver hunts for a start edge: it is enabled and clocked, and has seen the bit time of high line that it waits for (R14, R213). -/
def State.uartHunts (s : State) (line : UartLine) : Bool :=
  s.fon GNS_UART.EN 0 && s.running pgGNS && s.domainRuns 43 &&
    (!s.ftm.gns.uartWait || decide (30720000 / baudOf (s.fget GNS_UART.BAUD 0) ≤ line.idle))

/-- A character is decided (R213). -/
def State.uartDecide (s : State) (r : UartResult) : State :=
  match r with
  | .accepted b => s.crossByte b
  | .framing wait => ((s.dropByte.setGns { s.dropByte.ftm.gns with uartWait := wait }).fbump GNS_ERR.FRAMING 0).pulse pgGNS 4
  | .falseStart => (s.fbump GNS_ERR.FALSE_START 0).pulse pgGNS 4

/-- UART_CHARACTER: the GNSS UART decides the character that begins as the line falls (R212, R213). The filter lets no fall of one cycle
through. -/
def execUartCharacter (line : UartLine) (s : State) : Host.Outcome State Fault Refusal :=
  .next (
    if s.uartHunts line && decide (2 ≤ line.runs.headD 0) then
      (s.setGns { s.ftm.gns with uartWait := false }).uartDecide (readChar line (baudOf (s.fget GNS_UART.BAUD 0)))
    else s)

/-- NMEA_TIMEOUT: NMEA_TO_S passes without an accepted time sentence, or without a GGA (R215). -/
def execNmeaTimeout (s : State) : Host.Outcome State Fault Refusal :=
  .next (
    let n := s.fget GNS_CFG.NMEA_TO_S 0
    let t := if s.timerDue tmGga 0 s.sec_ n then (s.timerStop tmGga 0).fset GNS_STAT.FIX 0 0 else s
    let t := if t.timerDue tmNmea 0 t.sec_ n then (t.timerStop tmNmea 0).setGns { t.ftm.gns with nmeaLost := true } else t
    t.gnsRefresh)

/-- NMEA_LABEL_TIMEOUT: with LABEL = 1 no edge has arrived within 1 s of a time sentence (R214, R215). -/
def execNmeaLabelTimeout (s : State) : Host.Outcome State Fault Refusal :=
  .next (
    match s.ftm.gns.waiting with
    | none => s
    | some (_, from_) => ((s.advanceTo (from_ + ppsTicks)).setGns { s.ftm.gns with waiting := none }).nmeaBad 7)

end Sys2Proof.Machine
end

