-- ==== Sys2Proof/Machine/Cls.lean ====
section
/-!
DEFINITION. Chapter 8, third part: the cell listener's carriers and patterns (R216 to R219), and its writes into the grid (R195).
-/
namespace Sys2Proof.Machine

def clIDLE : Nat := 0
def clSEARCH : Nat := 1
def clTRACK : Nat := 2
def clLOST : Nat := 3

def tmSib1 : Nat := 65
def tmSib1Period : Nat := 66

def State.carrier (s : State) (k : Nat) : CarrierRt := Tbl.get (fun _ => {}) s.ftm.carriers k

def State.setCarrier (s : State) (k : Nat) (r : CarrierRt) : State :=
  { s with ftm := { s.ftm with carriers := Tbl.set (fun _ => {}) s.ftm.carriers k r } }

def State.clState (s : State) (k : Nat) : Nat := s.fget CLS_CSTAT.STATE k

/-- CLS_CARRIERS of the active image (R89, R216). -/
def State.clsCarriers (s : State) : Nat := match s.sch.active with | some slot => s.deviceUse slot 0x0032 | none => 0

/-- A carrier takes a state; LOSS and F113 follow the carriers that are LOST (R228, R347), and the groups their sources. -/
def State.setClState (s : State) (k st : Nat) : State :=
  let t := s.fset CLS_CSTAT.STATE k st
  let lost := (List.range 32).any fun i => decide (t.clState i = clLOST)
  ((t.cond pgCLS evtLoss lost).drive 113 lost).notePri

/-- A carrier returns to IDLE (R216). -/
def State.carrierOff (s : State) (k : Nat) : State :=
  let r := s.carrier k
  let t := s.setCarrier k { stage1 := r.stage1, stage2 := r.stage2 }
  let t := (((t.fset CLS_CSTAT.DUPLEX k 0).fset CLS_CSTAT.PAT_SRC k 0).fset CLS_CSTAT.PCI k 0).fset CLS_CSTAT.MISSES k 0
  ((t.timerStop tmSib1 k).timerStop tmSib1Period k).setClState k clIDLE

/-- Carriers at or above the image's CLS_CARRIERS return to IDLE (R108, R216). -/
def State.carriersCut (s : State) : State :=
  (List.range 32).foldl (fun s k => if s.clsCarriers ≤ k ∧ s.clState k ≠ clIDLE then s.carrierOff k else s) s

/-- The fields of CLS_CCFG that EN = 1 locks: RAT, SSB_SCS, STREAM and PCI (R216). -/
def ccfgLocked : Word := 0x70FFFC00

/-- SSB_KHZ lies within the occupied range of a stream (R58, R216). -/
def State.inStream (s : State) (stream khz : Nat) : Bool :=
  decide (s.fget CHN_STREAM.FC_KHZ stream ≤ khz + s.halfBand stream ∧ khz ≤ s.fget CHN_STREAM.FC_KHZ stream + s.halfBand stream)

/-- A write of CLS_CCFG of the selected carrier (R216, R227). -/
def ccfgWrite (i : Init) (v : Word) (s : State) : WRes :=
  let k := s.fget CLS_CSEL.CAR i.holder
  let key := CLS_CCFG.EN.key k
  let was := s.fon CLS_CCFG.EN k
  let en := decide (bitsOf v 31 31 = 1)
  if s.clsCarriers ≤ k ∧ en then .error .unitAbsent
  else if 1 < bitsOf v 29 28 ∨ (1008 ≤ bitsOf v 19 10 ∧ bitsOf v 19 10 ≤ 1022) then .error .outOfRange
  else if was ∧ (v &&& ccfgLocked) ≠ (s.word key &&& ccfgLocked) then .error .configLocked
  else
    match s.mergeReg pgCLS 0x044 key v with
    | .error r => .error r
    | .ok t => .ok (if en && !was then t.setClState k clSEARCH else if was && !en then t.carrierOff k else t)

/-- A write of CLS_CFREQ of the selected carrier (R216). -/
def cfreqWrite (i : Init) (v : Word) (s : State) : WRes :=
  let k := s.fget CLS_CSEL.CAR i.holder
  if s.fon CLS_CCFG.EN k then .error .configLocked
  else if !s.inStream (s.fget CLS_CCFG.STREAM k) (bitsOf v 23 0) then .error .outOfRange
  else s.mergeReg pgCLS 0x048 (CLS_CFREQ.SSB_KHZ.key k) v

/-- CLS_ENABLE: a write of CLS_CCFG.EN of the selected carrier (R216). -/
def execClsEnable (who : Init) (en : Bool) (s : State) : Host.Outcome State Fault Refusal :=
  let v := putBits (s.word (CLS_CCFG.EN.key (s.fget CLS_CSEL.CAR who.holder))) 31 31 (if en then 1 else 0)
  .next (s.access who pgCLS 0x044 v (ccfgWrite who v))

/-! Tracking (R216 to R218). -/

/-- A SIB1 decode starts, where SIB1_EN = 1 (R218). -/
def State.sib1Start (s : State) (k : Nat) : State :=
  if s.fon CLS_CCFG.SIB1_EN k && !s.fon CLS_CCFG.RAT k then
    (s.setCarrier k { s.carrier k with decoding := true }).timerStart tmSib1 k s.ms
  else s

/-- The pattern at an entry to TRACK (R218): the host's stays, one kept from the same PCI within 60 s stays, no other does. -/
def State.keepPattern (s : State) (k pci : Nat) : State :=
  let r := s.carrier k
  let src := s.fget CLS_CSTAT.PAT_SRC k
  if src = 2 ∨ src = 0 then s
  else if r.lastPci = some pci ∧ s.ms < r.lostMs + 60000 then s.fset CLS_CSTAT.PAT_SRC k 3
  else
    ((s.setCarrier k { r with pat1 := 0, pat2 := 0, next := none, nextAt := [] }).fset CLS_CSTAT.PAT_SRC k 0).fset CLS_CSTAT.DUPLEX k 0

/-- A carrier enters TRACK (R216, R218). -/
def State.enterTrack (s : State) (k pci index : Nat) : State :=
  let t := s.keepPattern k pci
  let t := ((t.fset CLS_CSTAT.PCI k pci).fset CLS_CSTAT.MISSES k 0).fset CLS_CSTAT.SSB_INDEX k index
  let t := (t.fbump CLS_CCNT.DETECTIONS k).setCarrier k { t.carrier k with lastPci := some pci }
  (((t.setClState k clTRACK).pulse pgCLS 0).timerStart tmSib1Period k t.sec_).sib1Start k

/-- SSB_DETECTION: a searching or lost carrier detects an SSB, or PSS, SSS and PBCH, of a PCI, at an SNR in 1/64 dB (R216). -/
def execSsbDetection (carrier : Fin 32) (pci : Fin 1024) (snr : Int) (pbchOk : Bool) (index : Fin 16) (s : State) :
    Host.Outcome State Fault Refusal :=
  .next (
    let k := carrier.val
    let want := s.fget CLS_CCFG.PCI k
    if s.works pgCLS && (decide (s.clState k = clSEARCH) || decide (s.clState k = clLOST)) && pbchOk && decide (s.fgetI CLS_CTHR.DET_THR k ≤ snr) &&
        (decide (want = 0x3FF) || decide (want = pci.val)) then
      s.enterTrack k pci.val index.val
    else s)

/-- A miss at a predicted position (R216, R217). -/
def State.ssbMiss (s : State) (k : Nat) : State :=
  let t := s.fbump CLS_CSTAT.MISSES k
  if t.fget CLS_CSTAT.MISSES k < t.fget CLS_CTHR.MISS_MAX k then t
  else
    let t := t.setCarrier k { t.carrier k with lostMs := t.ms, decoding := false }
    (((t.timerStop tmSib1 k).timerStop tmSib1Period k).setClState k clLOST).pulse pgCLS 1

/-- SSB_POSITION: a predicted SSB position of a tracked carrier: the cell detected there, if any, and its PBCH CRC (R217). A detection is an
observation (R204). -/
def execSsbPosition (carrier : Fin 32) (hit : Option SsbHit) (crcOk : Bool) (index : Fin 16) (s : State) :
    Host.Outcome State Fault Refusal :=
  .next (
    let k := carrier.val
    if !s.works pgCLS || decide (s.clState k ≠ clTRACK) then s
    else
      match hit with
      | none => s.ssbMiss k
      | some h =>
        if h.pci.val ≠ s.fget CLS_CSTAT.PCI k then (s.fbump CLS_CCNT.FOREIGN k).ssbMiss k
        else if !crcOk then s.ssbMiss k
        else
          (((s.fset CLS_CSTAT.MISSES k 0).fset CLS_CSTAT.SSB_INDEX k index.val).fbump CLS_CCNT.DETECTIONS k).yieldObs (sourceKey (1, k)) h.t.toNat
            h.sfn.val)

/-! Patterns (R218, R219). -/

/-- The fields of a pattern word (R227). -/
structure Pat where
  valid : Bool
  scs : Nat
  period : Nat
  dlSlots : Nat
  dlSyms : Nat
  ulSlots : Nat
  ulSyms : Nat
deriving DecidableEq, Repr

def Pat.ofWord (w : Word) : Pat :=
  ⟨decide (bitsOf w 31 31 = 1), bitsOf w 30 29, bitsOf w 28 25, bitsOf w 24 17, bitsOf w 16 13, bitsOf w 12 5, bitsOf w 4 1⟩

/-- The period of a code, in µs. -/
def patUs (code : Nat) : Nat := [500, 625, 1000, 1250, 2000, 2500, 3000, 4000, 5000, 10000].getD code 0

/-- Slots of a pattern's period at its REF_SCS. -/
def Pat.slots (p : Pat) : Nat := patUs p.period * 2 ^ p.scs / 1000

/-- The checks of R219 on one pattern. -/
def Pat.ok (p : Pat) : Bool :=
  !p.valid ||
    (decide (p.scs ≤ 2 ∧ p.period ≤ 9 ∧ patUs p.period * 2 ^ p.scs % 1000 = 0 ∧ p.period ≠ 1) &&
      (decide (p.period ≠ 3) || decide (p.scs = 2)) && (decide (p.period ≠ 5) || decide (p.scs ≠ 0)) &&
      decide (p.dlSlots + p.ulSlots ≤ p.slots ∧ p.dlSyms + p.ulSyms ≤ 14) &&
      (decide (p.dlSlots + p.ulSlots < p.slots) || decide (p.dlSyms = 0 ∧ p.ulSyms = 0)))

/-- The checks of R219 on a pair of patterns. -/
def patPairOk (w1 w2 : Word) : Bool :=
  let a := Pat.ofWord w1
  let b := Pat.ofWord w2
  a.ok && b.ok && (!b.valid || (decide (a.scs = b.scs) && decide (20000 % (patUs a.period + patUs b.period) = 0)))

/-- A pattern becomes the pattern in force (R218, R219): at once when it is the same, else from the first frame whose ordinal is at least
2 above the ordinal of a path's timing group now. -/
def State.newPattern (s : State) (k : Nat) (w1 w2 : Word) (src : Nat) : State :=
  let r := s.carrier k
  let duplex := if bitsOf w1 31 31 = 1 then 2 else 1
  let have_ := decide (s.fget CLS_CSTAT.PAT_SRC k ≠ 0)
  if have_ && decide (r.pat1 = w1 ∧ r.pat2 = w2) then
    ((s.setCarrier k { r with next := none, nextAt := [] }).fset CLS_CSTAT.PAT_SRC k src).fset CLS_CSTAT.DUPLEX k duplex
  else
    s.setCarrier k { r with next := some (w1, w2, src), nextAt := (List.range 8).map fun g => (s.groupOrd g + 2) % 2 ^ 32 }

/-- The words of a pattern without their reserved bit; a pattern that is not valid is nothing. -/
def patWord (w : Word) : Word := if bitsOf w 31 31 = 1 then w &&& 0xFFFFFFFE else 0

/-- SIB1_DECODED: a SIB1 decode ends with a configuration, in the form of CLS_PAT1 and CLS_PAT2, or with none: FDD (R218). -/
def execSib1Decoded (carrier : Fin 32) (tdd : Bool) (pat1 pat2 : Word) (s : State) : Host.Outcome State Fault Refusal :=
  .next (
    let k := carrier.val
    if s.clState k ≠ clTRACK || !(s.carrier k).decoding then s
    else
      let t := (s.setCarrier k { s.carrier k with decoding := false }).timerStop tmSib1 k
      let w1 : Word := if tdd then patWord (pat1 ||| 0x80000000) else 0
      let w2 : Word := if tdd then patWord pat2 else 0
      if !patPairOk w1 w2 then t.pulse pgCLS evtRange
      else if t.fon CLS_CCFG.PAT_HOST k then
        if t.fget CLS_CSTAT.PAT_SRC k = 2 ∧ ((t.carrier k).pat1 ≠ w1 ∨ (t.carrier k).pat2 ≠ w2) then t.pulse pgCLS 3 else t
      else t.newPattern k w1 w2 1)

/-- SIB1_TIMEOUT: SIB1 is not decoded within 1,000 ms (R218). -/
def execSib1Timeout (carrier : Fin 32) (s : State) : Host.Outcome State Fault Refusal :=
  .next (
    let k := carrier.val
    if (s.carrier k).decoding && s.timerDue tmSib1 k s.ms 1000 then
      ((s.setCarrier k { s.carrier k with decoding := false }).timerStop tmSib1 k).pulse pgCLS 4
    else s)

/-- SIB1_PERIOD_EXPIRED: SIB1_PERIOD_S elapses in TRACK, and a new decode starts while SIB1_EN = 1 (R218). -/
def execSib1PeriodExpired (carrier : Fin 32) (s : State) : Host.Outcome State Fault Refusal :=
  .next (
    let k := carrier.val
    if s.clState k = clTRACK ∧ s.timerDue tmSib1Period k s.sec_ (s.fget CLS_CTHR.SIB1_PERIOD_S k) then
      (s.timerStart tmSib1Period k s.sec_).sib1Start k
    else s)

/-- A write of CLS_PAT1 or CLS_PAT2 of the selected carrier stages it (R227). -/
def patStage (i : Init) (second : Bool) (v : Word) (s : State) : WRes :=
  let k := s.fget CLS_CSEL.CAR i.holder
  let w := v &&& 0xFFFFFFFE
  if 2 < bitsOf v 30 29 ∨ 9 < bitsOf v 28 25 then .error .outOfRange
  else .ok (s.setCarrier k (if second then { s.carrier k with stage2 := w } else { s.carrier k with stage1 := w }))

/-- A write of CLS_PAT_CTRL of the selected carrier (R219). -/
def patApply (i : Init) (v : Word) (s : State) : WRes :=
  let k := s.fget CLS_CSEL.CAR i.holder
  let r := s.carrier k
  if bitsOf v 31 31 = 0 then .ok s
  else if !patPairOk r.stage1 r.stage2 then .error .outOfRange
  else .ok (if s.fon CLS_CCFG.PAT_HOST k then s.newPattern k (patWord r.stage1) (if bitsOf r.stage1 31 31 = 1 then patWord r.stage2 else 0) 2 else s)

/-- PATTERN_APPLY: a write of CLS_PAT_CTRL.APPLY (R219). -/
def execPatternApply (who : Init) (s : State) : Host.Outcome State Fault Refusal :=
  .next (s.access who pgCLS 0x068 0x80000000 (patApply who 0x80000000))

/-- The waiting pattern of a carrier has reached its frame in every timing group. -/
def State.patternDue (s : State) (k : Nat) : Bool :=
  (List.range 8).all fun g => decide (0 ≤ ordDiff (s.groupOrd g) ((s.carrier k).nextAt.getD g 0))

/-- What a frame boundary does to the waiting patterns (R218): one that has reached its frame everywhere is in force. -/
def State.patternsAtBoundary (s : State) : State :=
  (List.range 32).foldl (fun s k =>
    match (s.carrier k).next with
    | none => s
    | some (w1, w2, src) =>
      if s.patternDue k then
        let t := s.setCarrier k { s.carrier k with pat1 := w1, pat2 := w2, next := none, nextAt := [] }
        ((t.fset CLS_CSTAT.PAT_SRC k src).fset CLS_CSTAT.DUPLEX k (if bitsOf w1 31 31 = 1 then 2 else 1)).pulse pgCLS 2
      else s) s

/-! The listener's writes (R195). -/

/-- The pattern words of a carrier for a frame of a group: none while none is known. -/
def State.patternFor (s : State) (k g ord : Nat) : Option (Word × Word) :=
  let r := s.carrier k
  if s.clState k ≠ clTRACK ∨ s.clsCarriers ≤ k then none
  else
    match r.next with
    | some (w1, w2, _) =>
      if 0 ≤ ordDiff ord (r.nextAt.getD g 0) then some (w1, w2)
      else if s.fget CLS_CSTAT.PAT_SRC k = 0 then none else some (r.pat1, r.pat2)
    | none => if s.fget CLS_CSTAT.PAT_SRC k = 0 then none else some (r.pat1, r.pat2)

/-- A symbol's use: 0 downlink, 1 uplink, 2 flexible. -/
def Pat.use (p : Pat) (x : Nat) : Nat :=
  let n := 14 * p.slots
  if x < 14 * p.dlSlots + p.dlSyms then 0 else if n ≤ x + 14 * p.ulSlots + p.ulSyms then 1 else 2

/-- The use of symbol j of a frame, at REF_SCS, under a pair of patterns; frames of even ordinal begin the patterns. -/
def patUse (a b : Pat) (ord j : Nat) : Nat :=
  let na := 14 * a.slots
  let nb := if b.valid then 14 * b.slots else 0
  let x := (140 * 2 ^ a.scs * (ord % 2) + j) % max 1 (na + nb)
  if x < na then a.use x else b.use (x - na)

/-- The symbols of a frame, at a REF_SCS, that overlap a row (R179). -/
def symsOfRow (scs r : Nat) : List Nat := if scs = 0 then [r / 2] else if scs = 1 then [r] else [2 * r, 2 * r + 1]

/-- The code that the listener writes into a row of a path (R195). -/
def State.clCode (s : State) (p car r ord : Nat) : Option Nat × Bool :=
  match s.patternFor car (s.groupOf p) ord with
  | none => (some (s.fget GGR_CL.UNKNOWN p), true)
  | some (w1, w2) =>
    let a := Pat.ofWord w1
    let own := if isUplink p then 1 else 0
    let code (u : Nat) : Option Nat :=
      if u = 2 then some (s.fget GGR_CL.FLEX p) else if u = own then none else some (s.fget GGR_CL.OPP p)
    if !a.valid then (none, false)
    else
      (((symsOfRow a.scs r).map fun j => code (patUse a (Pat.ofWord w2) ord j)).foldl (fun c k =>
        match c, k with
        | some x, some y => some (min x y)
        | some x, none => some x
        | none, k => k) none, false)

/-- Rows with their codes as runs of consecutive rows of one code: first row, number, code. -/
def rowRuns : List (Nat × Option Nat) → List (Nat × Nat × Nat)
  | [] => []
  | (r, c) :: t =>
    match c, rowRuns t with
    | none, rest => rest
    | some x, (f, n, y) :: rest => if f = (r + 1) % gridRows ∧ y = x ∧ n < gridRows then (r, n + 1, x) :: rest else (r, 1, x) :: (f, n, y) :: rest
    | some x, [] => [(r, 1, x)]

/-- What the listener makes of a row for a context: nothing where CL_EN is 0, else the code, and whether the pattern is unknown (R195, R200). -/
def State.clRow (s : State) (c r : Nat) : Option (Option Nat × Bool) :=
  let p := s.ctxPath c
  let w := s.gridWordAt c r
  if bitsOf w 27 27 = 0 then none else some (s.clCode p (bitsOf w 26 22) r (s.gridOrdinal p r))

/-- The listener's descriptors of a context for the rows armed since the last strobe. -/
def State.clDescs (s : State) (c : Nat) : List GridDesc :=
  let p := s.ctxPath c
  let strips := s.stripsOf c
  let rows := (s.pathGrid p).armedSince.map fun r => (r, (s.clRow c r).bind fun x => x.1)
  if strips.isEmpty then []
  else
    (rowRuns rows).map fun x =>
      { path := p, code := x.2.2, row := x.1, rows := x.2.1, first := strips.headD 0, count := strips.length, rel := true, replace := false
        late := false, sfn := 0, ctx := some c }

/-- A row in a context's order: whether the last row was known, and whether an UNKNOWN row has followed a known one (R195). -/
def unknownStep (a : Bool × Bool) : Option (Option Nat × Bool) → Bool × Bool
  | none => a
  | some x => (!x.2, a.2 || (x.2 && a.1))

/-- The rows armed since the last strobe, for a context. -/
def State.clUnknown (s : State) (c : Nat) : Bool × Bool :=
  let g := s.pathGrid (s.ctxPath c)
  (g.armedSince.map fun r => s.clRow c r).foldl unknownStep (g.known.contains c, false)

/-- The listener's writes into a path at a millisecond strobe (R195). -/
def State.clPath (s : State) (p : Nat) : State :=
  let g := s.pathGrid p
  let cs := s.ctxsOfPath p
  if g.armedSince.isEmpty then s
  else if !s.writerOn wrLISTENER p then s.setPathGrid p { g with armedSince := [] }
  else
    let t := { s with ggr := { s.ggr with clWait := s.ggr.clWait ++ cs.flatMap fun c => s.clDescs c } }
    let t := t.setPathGrid p { g with armedSince := [], known := cs.filter fun c => (s.clUnknown c).1 }
    if cs.any fun c => (s.clUnknown c).2 then t.pulse pgGGR 12 else t

/-- CELL_LISTENER_WRITE: the listener acts at a millisecond strobe (R195). -/
def State.cellListener (s : State) : State := (s.paths.foldl (fun s p => s.clPath p) s).feedListener

end Sys2Proof.Machine
end

