-- ==== Sys2Proof/Machine/Jlk.lean ====
section
/-!
DEFINITION. Chapter 11, first part: the converter links (R284 to R293). A link group is named by its port; its half toward the device carries
receive stream g, the other half transmit stream 32 + g.
-/
namespace Sys2Proof.Machine

/-- The JLK page of a group, and an event bit of it (R293). -/
def jlkPage (g : Nat) : Nat := pgJLK + g / 2
def jlkBit (g b : Nat) : Nat := 8 * (g % 2) + b

/-- RX_STATE and TX_STATE (R292). -/
def rxOFF : Nat := 0
def rxPLL : Nat := 1
def rxCDR : Nat := 2
def rxSHLOCK : Nat := 3
def rxEMBLOCK : Nat := 4
def rxWAIT : Nat := 5
def rxRUN : Nat := 6
def txOFF : Nat := 0
def txSTARTING : Nat := 1
def txRUN : Nat := 2
def txALARM : Nat := 3

def tmSysref : Nat := 70
def tmRelock : Nat := 71

/-- Behind a group's registers. -/
def State.jlk (s : State) (g : Nat) : JlkRt := Tbl.get (fun _ => {}) s.fhl.groups g

def State.setJlk (s : State) (g : Nat) (r : JlkRt) : State := { s with fhl := { s.fhl with groups := Tbl.set (fun _ => {}) s.fhl.groups g r } }

def State.rxSt (s : State) (g : Nat) : Nat := s.fget JLK_STAT.RX_STATE g
def State.setRx (s : State) (g st : Nat) : State := s.fset JLK_STAT.RX_STATE g st
def State.txSt (s : State) (g : Nat) : Nat := s.fget JLK_STAT.TX_STATE g
def State.setTx (s : State) (g st : Nat) : State := s.fset JLK_STAT.TX_STATE g st

/-- The converter-link fault source follows its conditions (R347). -/
def State.driveJlk (s : State) (g : Nat) : State := s.drive g ((s.jlk g).lost || (s.jlk g).alarm || (s.jlk g).unlocked)

/-- Both links of a group answer to the JLK page of their port: it is out of reset and enabled (R37). -/
def State.jlkRuns (s : State) (g : Nat) : Bool := s.running (jlkPage g) && s.fon PAGE_CTRL.ENABLE (jlkPage g)

/-- A stream is carried on fronthaul: its half of the group is held OFF (R284). -/
def State.onFibre (s : State) (stream : Nat) : Bool := decide (s.fget CHN_STREAM.LINK stream ≠ 0)

/-- The inputs of a group whose loss is watched (R31): 0 SYSREF, 1 the receive link, 2 the converter's alarm. -/
def jlkInput (g k : Nat) : Nat := 4 * (g % 2) + k

/-- The group's LEMC is set, and its PLL is locked: a transmitter that waits sends (R288), and its link is no longer lost (R123, R413). -/
def State.txGo (s : State) (g : Nat) : State :=
  if decide (s.txSt g = txSTARTING) && s.fon JLK_STAT.PLL_LOCK g && s.fon JLK_STAT.SYSREF_SEEN g then (s.setTx g txRUN).canLinkBack (32 + g) else s

/-- The alarm of a converter is active while its transmit link is not OFF (R290). -/
def State.txAlarm (s : State) (g : Nat) : State :=
  let s := ((s.setTx g txALARM).pulse (jlkPage g) (jlkBit g 2)).inputLost (jlkPage g) (jlkInput g 2)
  ((s.setJlk g { s.jlk g with alarm := true }).driveJlk g).canLinkLoss (32 + g)

/-- It no longer is. -/
def State.txAlarmOff (s : State) (g : Nat) : State :=
  let s := (if s.txSt g = txALARM then (s.setTx g txSTARTING).txGo g else s).inputValid (jlkPage g) (jlkInput g 2)
  ((s.setJlk g { s.jlk g with alarm := false }).driveJlk g).canLinkBack (32 + g)

/-- TX_STATE, the event, the fault source and the canceller follow the alarm input and the transmit half (R290). -/
def State.alarmRefresh (s : State) (g : Nat) : State :=
  let on := (s.jlk g).alarmIn && decide (s.txSt g ≠ txOFF)
  if on && !(s.jlk g).alarm then s.txAlarm g
  else if !on && (s.jlk g).alarm then s.txAlarmOff g
  else if on then s.setTx g txALARM
  else s

/-- The power state runs converter links: ACTIVE or LEAN (R407). -/
def State.linksPowered (s : State) : Bool := decide (s.fget PWR_STAT.STATE 0 < 2)

/-- Bring-up of the receive half from its first step (R288): the lane PLL starts, or is locked already. -/
def State.rxStart (s : State) (g : Nat) : State :=
  let s := (s.timerStop tmSysref g).timerStop tmRelock g
  if s.fon JLK_CFG.RX_EN g && !s.onFibre g && s.linksPowered then (s.setRx g rxPLL).fset JLK_STAT.LANE_LOCK g 0
  else ((s.setRx g rxOFF).fset JLK_STAT.LANE_LOCK g 0).setJlk g { s.jlk g with lost := false } |>.driveJlk g

/-- Bring-up of the transmit half (R288). -/
def State.txStart (s : State) (g : Nat) : State :=
  (if s.fon JLK_CFG.TX_EN g && !s.onFibre (32 + g) && s.linksPowered then (s.setTx g txSTARTING).txGo g else s.setTx g txOFF).alarmRefresh g

/-- With both halves OFF the lane PLL stops (R288, R516). -/
def State.pllStops (s : State) (g : Nat) : State :=
  if decide (s.rxSt g = rxOFF ∧ s.txSt g = txOFF) then
    let s := (s.fset JLK_STAT.PLL_LOCK g 0).fset JLK_STAT.SYSREF_SEEN g 0
    ((s.setJlk g { s.jlk g with unlocked := false }).driveJlk g).refreshGroupDomain g |>.refreshReady
  else s

/-- The half of a group that carries a stream restarts from step 1 (R288). -/
def State.restartHalf (s : State) (stream : Nat) : State :=
  if stream < 32 then (s.rxStart stream).pllStops stream else (s.txStart (stream - 32)).pllStops (stream - 32)

/-- The filtered level of a general-purpose input (R513); an alarm input that is not named is inactive. -/
def State.alarmLevel (s : State) (pin : Nat) : Bool :=
  if pin < 32 then s.fbit GPIO_IN0.IN 0 pin else decide (pin < 48) && s.fbit GPIO_IN1.IN 0 (pin - 32)

/-- A group whose ALARM_GPIO changes takes the level at the newly named pin (DEDUCED, log 225). -/
def State.alarmNamed (s : State) (g : Nat) : State :=
  (s.setJlk g { s.jlk g with alarmIn := s.alarmLevel (s.fget JLK_CFG.ALARM_GPIO g) }).alarmRefresh g

/-- A write of JLK_CFG (R288, R290, R292). -/
def jlkCfgWrite (g : Nat) (v : Word) (s : State) : WRes :=
  let alarm := bitsOf v 21 16
  if bitsOf v 29 28 = 3 ∨ (47 < alarm ∧ alarm ≠ 0x3F) then .error .outOfRange
  else
    let rx := s.fget JLK_CFG.RX_EN g
    let tx := s.fget JLK_CFG.TX_EN g
    let t := s.setWord (JLK_CFG.RX_EN.key g) (v &&& 0xFFFF0000)
    let t := if rx = bitsOf v 31 31 then t else t.rxStart g
    let t := if tx = bitsOf v 30 30 then t else t.txStart g
    let t := if s.fget JLK_CFG.ALARM_GPIO g = alarm then t else t.alarmNamed g
    .ok (t.pllStops g)

/-- The word of JLK_CFG as it stands. -/
def State.jlkCfgWord (s : State) (g : Nat) : Word := s.word (JLK_CFG.RX_EN.key g)

/-- Offset of the registers of a group in its page (R292). -/
def jlkOff (g : Nat) : Nat := if g % 2 = 0 then 0x040 else 0x200

/-- JLK_RX_ENABLE: JLK_CFG.RX_EN := 1, the other fields as they stand (R288). -/
def execJlkRxEnable (who : Init) (group : Fin 32) (s : State) : Host.Outcome State Fault Refusal :=
  let v := putBits (s.jlkCfgWord group.val) 31 31 1
  .next (s.access who (jlkPage group.val) (jlkOff group.val) v (jlkCfgWrite group.val v))

/-- JLK_TX_ENABLE: JLK_CFG.TX_EN := 1, the other fields as they stand (R288). -/
def execJlkTxEnable (who : Init) (group : Fin 32) (s : State) : Host.Outcome State Fault Refusal :=
  let v := putBits (s.jlkCfgWord group.val) 30 30 1
  .next (s.access who (jlkPage group.val) (jlkOff group.val) v (jlkCfgWrite group.val v))

/-- The lane PLL of a group locks (R288 step 2). -/
def State.pllLocked (s : State) (g : Nat) : State :=
  let s := s.fset JLK_STAT.PLL_LOCK g 1
  let s := (s.setJlk g { s.jlk g with unlocked := false }).driveJlk g
  let s := if s.rxSt g = rxPLL then s.setRx g rxCDR else s
  ((s.txGo g).refreshGroupDomain g).refreshReady

/-- LANE_PLL_LOCKED: the lane PLL of a group that starts has locked (R288). -/
def execLanePllLocked (group : Fin 32) (s : State) : Host.Outcome State Fault Refusal :=
  .next (if s.jlkRuns group.val && decide (s.rxSt group.val = rxPLL ∨ s.txSt group.val = txSTARTING) then s.pllLocked group.val else s)

/-- A mode of R285: lanes in a direction, S, N', F, lane rate in Mbit/s, and the multiblock period in ps. -/
structure JlkMode where
  lanes : Nat
  samples : Nat
  bits : Nat
  octets : Nat
  mbps : Nat
  period : Nat
deriving DecidableEq, Repr

/-- The mode that a RATE selects (R285). -/
def jlkMode (rate : Nat) : JlkMode :=
  match rate with
  | 0 => ⟨2, 2, 16, 4, 25344, 83333⟩
  | 1 => ⟨2, 1, 16, 2, 12672, 166667⟩
  | 2 => ⟨1, 1, 16, 4, 12672, 166667⟩
  | 3 => ⟨1, 1, 16, 4, 8110, 260417⟩
  | _ => ⟨1, 1, 32, 8, 8110, 260417⟩

/-- The mode of a group's receive stream. -/
def State.rxMode (s : State) (g : Nat) : JlkMode := jlkMode (s.fget CHN_STREAM.RATE g)

/-- The receive lanes in use, as a mask: the lower lanes of the pair (R284, R285). -/
def State.lanesInUse (s : State) (g : Nat) : Nat := 2 ^ (s.rxMode g).lanes - 1

/-- A link waits for SYSREF (R286, R288). -/
def State.waitSysref (s : State) (g : Nat) : State :=
  ((s.setRx g rxWAIT).fset JLK_STAT.SYSREF_SEEN g 0).timerStart tmSysref g s.ms

/-- Sync headers or extended multiblocks are locked (R287, R288); a skew above 16 ns keeps the link in EMB_LOCK. -/
def State.laneSync (s : State) (g : Nat) (lock : LaneSync) : State :=
  let t := (s.fset JLK_STAT.LANE_LOCK g (s.lanesInUse g)).timerStop tmRelock g
  match lock with
  | .headers => if s.rxSt g = rxCDR then t.setRx g rxSHLOCK else t
  | .boundaries true => (t.cond (jlkPage g) (jlkBit g 6) false).waitSysref g
  | .boundaries false => (t.setRx g rxEMBLOCK).cond (jlkPage g) (jlkBit g 6) true

/-- LANE_SYNC_LOCKED: the lanes of a receive link lock (R288). -/
def execLaneSyncLocked (group : Fin 32) (lock : LaneSync) (s : State) : Host.Outcome State Fault Refusal :=
  .next (
    let g := group.val
    if s.jlkRuns g && decide (rxCDR ≤ s.rxSt g ∧ s.rxSt g ≤ rxEMBLOCK) then s.laneSync g lock else s)

/-- A group's LEMC waits for a SYSREF edge. -/
def State.awaitsSysref (s : State) (g : Nat) : Bool :=
  !s.fon JLK_STAT.SYSREF_SEEN g && (decide (s.rxSt g = rxWAIT) || (decide (s.txSt g = txSTARTING) && s.fon JLK_STAT.PLL_LOCK g))

/-- An edge off the expected cycle at a group (R286). -/
def State.offPhase (s : State) (g : Nat) : State :=
  let s := ((s.fbump JLK_ERR.SYSREF_PHASE g).pulse (jlkPage g) (jlkBit g 4)).pulse (jlkPage g) evtRange
  if s.fget JLK_CFG.SYSREF_MODE g = 2 then
    let s := if s.rxSt g = rxRUN then s.waitSysref g else s.fset JLK_STAT.SYSREF_SEEN g 0
    if s.txSt g = txRUN then s.setTx g txSTARTING else s
  else s

/-- A SYSREF edge at a group. -/
def State.sysrefAt (s : State) (off : Bool) (g : Nat) : State :=
  if s.awaitsSysref g then
    let s := ((s.fset JLK_STAT.SYSREF_SEEN g 1).setJlk g { s.jlk g with lemc := s.dt }).timerStop tmSysref g
    (s.inputValid (jlkPage g) (jlkInput g 0)).txGo g
  else if s.fon JLK_STAT.SYSREF_SEEN g && off && decide (s.fget JLK_CFG.SYSREF_MODE g ≠ 0) then s.offPhase g
  else s

/-- SYSREF_EDGE: an edge of SYSREF; bit g of `off` says that it lies off the REFCLK cycle that group g expects (R286). -/
def execSysrefEdge (off : BitVec 32) (s : State) : Host.Outcome State Fault Refusal :=
  .next ((List.range 32).foldl (fun s g => s.sysrefAt (off.toNat.testBit g) g) s)

/-- SYSREF_TIMEOUT: no edge within 1 ms of WAIT_SYSREF; the link waits on (R286). -/
def execSysrefTimeout (group : Fin 32) (s : State) : Host.Outcome State Fault Refusal :=
  .next (
    let g := group.val
    if decide (s.rxSt g = rxWAIT) && s.timerDue tmSysref g s.ms 1 then (s.timerStop tmSysref g).inputLost (jlkPage g) (jlkInput g 0) else s)

/-- JLK_RUN: the first release, 13.0 ns after the LEMC edge that follows; the arrival phase is recorded (R287, R288). -/
def execJlkRun (group : Fin 32) (s : State) : Host.Outcome State Fault Refusal :=
  .next (
    let g := group.val
    if s.jlkRuns g && decide (s.rxSt g = rxWAIT) && s.fon JLK_STAT.SYSREF_SEEN g then
      let edge := (s.jlk g).lemc + ceilDiv (((s.rxMode g).period + 13000) * 768) 3125000
      let t := ((s.advanceTo edge).setRx g rxRUN).fset JLK_STAT.ARR_DEV g 0
      let t := t.inputValid (jlkPage g) (jlkInput g 1)
      let t := (t.setJlk g { t.jlk g with lost := false }).driveJlk g
      (t.pulse (jlkPage g) (jlkBit g 0)).canLinkBack g
    else s)

/-- A lane PLL loses its lock (R20, R290): both halves start at it again, and the group's domain is reported as failed at the next window. -/
def State.pllLost (s : State) (g : Nat) : State :=
  let s := (s.setJlk g { s.jlk g with unlocked := true }).driveJlk g
  let s := ((s.fset JLK_STAT.PLL_LOCK g 0).pulse (jlkPage g) (jlkBit g 7)).setDev (4 + g) 2
  let s := if s.rxSt g = rxOFF then s else s.setRx g rxPLL
  let s := if s.txSt g = txRUN then s.setTx g txSTARTING else s
  (s.refreshGroupDomain g).refreshReady

/-- A receive link is lost (R289): it re-enters bring-up at clock recovery, or at the lane PLL when that has lost its lock. -/
def State.rxLost (s : State) (g : Nat) (pll : Bool) : State :=
  let s := ((s.pulse (jlkPage g) (jlkBit g 1)).inputLost (jlkPage g) (jlkInput g 1)).fbump JLK_ERR.RELOCKS g
  let s := (s.fset JLK_STAT.LANE_LOCK g 0).timerStop tmSysref g
  let s := s.setJlk g { s.jlk g with lost := true }
  let s := (s.driveJlk g).canLinkLoss g
  if pll then s.pllLost g else (s.setRx g rxCDR).timerStart tmRelock g s.ms

/-- JLK_RX_LINK_LOST: sync headers or extended multiblocks of a receive link are lost (R289), or the lane PLL of its group is. -/
def execJlkRxLinkLost (group : Fin 32) (pll : Bool) (s : State) : Host.Outcome State Fault Refusal :=
  .next (
    if decide (rxSHLOCK ≤ s.rxSt group.val) then s.rxLost group.val pll
    else if pll && s.fon JLK_STAT.PLL_LOCK group.val then s.pllLost group.val
    else s)

/-- CRC-12 errors of a multiblock (R289). -/
def State.crcErrors (s : State) (g n : Nat) : State :=
  if n = 0 then s
  else
    let s := (List.range n).foldl (fun s _ => s.fbump JLK_ERR.CRC_ERR g) s
    let r := s.jlk g
    let r := { r with crcN := (if r.crcMs = s.ms + 1 then r.crcN else 0) + n, crcMs := s.ms + 1 }
    let s := (s.setJlk g r).pulse (jlkPage g) (jlkBit g 3)
    if s.fget JLK_X_LIM.CRC_MAX g ≤ r.crcN then s.rxLost g false else s

/-- Bit errors of a checked pattern (R291). -/
def State.bitErrors (s : State) (g n : Nat) : State :=
  if s.fget JLK_TEST.PATTERN g = 0 then s else s.fset JLK_TEST.BIT_ERR g (min 0xFFFF (s.fget JLK_TEST.BIT_ERR g + n))

/-- The arrival deviation of a multiblock, in 1/8 ns (R287). -/
def State.arrival (s : State) (g : Nat) (dev : Int) : State :=
  let warn := decide (s.fget JLK_X_LIM.ARR_WARN g < dev.natAbs)
  let rises := warn && !s.fbit EVT_LEVEL.LEVEL (jlkPage g) (jlkBit g 5)
  let s := (s.fsetI JLK_STAT.ARR_DEV g (clampI (-32768) 32767 dev)).cond (jlkPage g) (jlkBit g 5) warn
  let s := if rises then s.pulse (jlkPage g) evtRange else s
  if s.fget JLK_X_LIM.ARR_MAX g < dev.natAbs then s.waitSysref g else s

/-- JLK_MULTIBLOCK: a multiblock of a running receive link: its arrival deviation, the CRC-12 errors of its lanes, and the bit errors of a
pattern (R287, R289, R291). -/
def execJlkMultiblock (group : Fin 32) (dev : Int) (crcErrs : Fin 3) (bitErrs : Nat) (s : State) : Host.Outcome State Fault Refusal :=
  .next (
    let g := group.val
    if s.jlkRuns g && decide (s.rxSt g = rxRUN) then ((s.arrival g dev).bitErrors g bitErrs).crcErrors g crcErrs.val else s)

/-- JLK_RELOCK_TIMEOUT: clock recovery has failed for 1 ms, and bring-up starts at the lane PLL (R289). -/
def execJlkRelockTimeout (group : Fin 32) (s : State) : Host.Outcome State Fault Refusal :=
  .next (
    let g := group.val
    if decide (rxCDR ≤ s.rxSt g ∧ s.rxSt g ≤ rxEMBLOCK) && s.timerDue tmRelock g s.ms 1 then (s.timerStop tmRelock g).setRx g rxPLL else s)

/-- JLK_TX_ALARM: the filtered alarm input of a group's converter changes (R290). -/
def execJlkTxAlarm (group : Fin 32) (active : Bool) (s : State) : Host.Outcome State Fault Refusal :=
  .next (
    let g := group.val
    if s.fget JLK_CFG.ALARM_GPIO g = 0x3F then s else (s.setJlk g { s.jlk g with alarmIn := active }).alarmRefresh g)

/-- A write of JLK_TEST (R291). -/
def jlkTestWrite (g : Nat) (v : Word) (s : State) : WRes :=
  if s.streamInUse g || s.streamInUse (32 + g) then .error .configLocked else .ok (s.fset JLK_TEST.PATTERN g (bitsOf v 31 30))

/-- JLK_PATTERN_WRITE: a write of JLK_TEST.PATTERN (R291). -/
def execJlkPatternWrite (who : Init) (group : Fin 32) (pattern : Fin 4) (s : State) : Host.Outcome State Fault Refusal :=
  let v := BitVec.ofNat 32 (pattern.val * 2 ^ 30)
  .next (s.access who (jlkPage group.val) (jlkOff group.val + 0x0C) v (jlkTestWrite group.val v))

end Sys2Proof.Machine
end

