-- ==== Sys2Proof/Machine/Path.lean ====
section
/-!
DEFINITION. Chapter 3: paths off, on and draining (R60, R62, R80, R81), and the commit of a band window (R64).
-/
namespace Sys2Proof.Machine

/-! What a path shows of the active image (R87). -/

/-- The latency that the active image states for a path: that of the slowest edge of its windows in force, LAT_SHORT without one (R65, R87). -/
def State.imageLatency (s : State) (p : Nat) : Nat :=
  match s.sch.active with
  | none => 0
  | some slot =>
    match s.pathEntry slot p with
    | none => 0
    | some a =>
      let edges := (((List.range 12).map fun w => s.winInForce p w).filter Win.en).map Win.edge
      if edges.contains 1 then s.imgBE slot (a + 4) 2
      else if edges.contains 0 then s.imgBE slot (a + 2) 2
      else s.imgBE slot (a + 6) 2

/-- The latency of a path in 1/8 ns (R87, R301): of a path whose donor stream is on fronthaul, from its release at XC03, or to its last bit at
the side's transmit pins, the packer's 80.8 ns + 16 ÷ R included. -/
def State.latencyNow (s : State) (p : Nat) : Nat :=
  let image := s.imageLatency p
  let donor := s.fget CHN_PATH_CFG.DONOR p
  if !s.placed p then 0
  else if isUplink p then
    if s.fget CHN_STREAM.LINK (32 + donor) = 0 then image
    else
      let rate := rateKhz (s.fget CHN_STREAM.RATE (32 + donor))
      image - 456 + roundDivN (6464 * rate + 1280000000) (10 * rate)
  else if s.fget CHN_STREAM.LINK donor = 0 then image
  else image - 440

/-- PROFILE and LATENCY of a path (R87). -/
def State.refreshPath (s : State) (p : Nat) : State :=
  (s.fsetB CHN_PATH_STAT.PROFILE p (s.pathFlag p 6)).fset CHN_PATH_STAT.LATENCY p (s.latencyNow p)

/-- PROFILE, LATENCY and the gate times of a path (R87, R177). -/
def State.placePath (s : State) (p : Nat) : State := (s.refreshPath p).refreshLag p (s.pathGrid p).offset

/-- The committed windows of a path come into force. -/
def State.windowsInForce (s : State) (p : Nat) : State := (s.applyWindows p).refreshPath p

/-- WINDOW_APPLY: the accepted windows of a path that is OFF apply within 2 µs (R64). Those of other paths apply at FRAME_BOUNDARY. -/
def execWindowApply (path : Fin 32) (s : State) : Host.Outcome State Fault Refusal :=
  .next (if s.member.present path.val && decide (s.pathState path.val = pathOFF) then s.windowsInForce path.val else s)

/-! Streams that come into use and leave it (R59, R131, R133). -/

/-- A transmit stream that has left use: its clamp is IDLE and its level history is empty. -/
def State.streamIdle (s : State) (t : Nat) : State :=
  if s.streamInUse t then s
  else
    let s := if s.clampState t = 0 then s else s.setClamp t 0 0
    { s with can := { s.can with blocks := Tbl.set (fun _ => []) s.can.blocks t [] } }

/-- The pins of every port that a path writes. -/
def State.pathPins (s : State) (p : Nat) : State := (s.writesOf p).foldl (fun s t => s.fddPins (t - 32)) s

/-- A path is ON: its gate has held the level of BASE, and its strips hold nothing (R80, R181, R196). -/
def State.turnOn (s : State) (p : Nat) : State :=
  let s := (s.fset CHN_PATH_STAT.STATE p pathON).setPathRt p { s.pathRt p with turnOn := false }
  let base := levelOf (s.baseOf p) 0
  let s := s.setPathGrid p { s.pathGrid p with prevBase := base, prev := [], past := [], denied := [] }
  let s := ((s.ctxsOfPath p).filter fun c => decide (s.cget CTX_GRID.NG_EN c = 1)).foldl (fun t c => t.resetHolds c) s
  s.pathPins p

/-- A path is OFF: streams that no path uses any more are idle. -/
def State.turnOff (s : State) (p : Nat) : State :=
  let s := s.fset CHN_PATH_STAT.STATE p pathOFF
  ((s.writesOf p).foldl (fun s t => s.streamIdle t) s).pathPins p

/-- A path drains (R80): its contexts that radiate or are muted enter DRAINING at their next ticks. -/
def State.drainPath (s : State) (p : Nat) : State :=
  let s := (s.fset CHN_PATH_CFG.ENABLE p 0).fset CHN_PATH_STAT.STATE p pathDRAINING
  (s.ctxsOfPath p).foldl (fun s c =>
    if ctxRuns (s.ctxState c) || decide (s.ctxState c = ctxMUTED) then s.setCtxRt c { s.ctxRt c with drainReq := true } else s) s

/-- ENABLE takes a value (R80, R81). -/
def State.setEnable (s : State) (p : Nat) (en : Bool) : State :=
  let st := s.pathState p
  let r := s.pathRt p
  if st = pathOFF then
    if !en then (s.fset CHN_PATH_CFG.ENABLE p 0).setPathRt p { r with turnOn := false }
    else if s.placed p then (s.fset CHN_PATH_CFG.ENABLE p 1).setPathRt p { r with turnOn := true }
    else ((s.fset CHN_PATH_CFG.ENABLE p 0).setPathRt p { r with turnOn := false }).pulse pgCHN 0
  else if st = pathON then if en then s else s.drainPath p
  else (s.fsetB CHN_PATH_CFG.ENABLE p en).setPathRt p { r with heldOn := en }

/-- Ports that a service mask names are present (R62). -/
def maskPresent (m : Member) (mask : Nat) : Bool := (List.range 16).all fun k => !mask.testBit k || m.present k

/-- A write changes TGROUP, DONOR or SVC_MASK of a path. -/
def State.pathMoves (s : State) (p : Nat) (v : Word) : Bool :=
  decide (bitsOf v 30 28 ≠ s.fget CHN_PATH_CFG.TGROUP p ∨ bitsOf v 20 16 ≠ s.fget CHN_PATH_CFG.DONOR p ∨ bitsOf v 15 0 ≠ s.fget CHN_PATH_CFG.SVC_MASK p)

/-- TGROUP, DONOR and SVC_MASK take their values; a change of timing group re-arms the grid (R183). -/
def State.setPathFields (s : State) (p : Nat) (v : Word) : State :=
  let moved := decide (s.fget CHN_PATH_CFG.TGROUP p ≠ bitsOf v 30 28)
  let donor := decide (s.fget CHN_PATH_CFG.DONOR p ≠ bitsOf v 20 16)
  let s := ((s.fset CHN_PATH_CFG.TGROUP p (bitsOf v 30 28)).fset CHN_PATH_CFG.DONOR p (bitsOf v 20 16)).fset CHN_PATH_CFG.SVC_MASK p (bitsOf v 15 0)
  let s := if moved then s.rearmGrid p else s
  if donor then s.placePath p else s.refreshPath p

/-- In LEAN, turning a path on would bring a stream into use at RATE 0 or 1 (R407). -/
def State.leanBars (s : State) (p : Nat) : Bool :=
  decide (s.fget PWR_STAT.STATE 0 = 1) && (s.readsOf p ++ s.writesOf p).any fun t => decide (s.fget CHN_STREAM.RATE t ≤ 1)

/-- A write of CHN_PATH_CFGp (R60, R62, R80, R81, R358, R393, R407, R446). DESIGN CHOICE (log 18): of several reasons, the lock of a path that
is not OFF comes before the ranges. -/
def pathCfgWrite (p : Nat) (v : Word) (s : State) : WRes :=
  if decide (s.sec.lc = lcRETIRED) && decide (bitsOf v 31 31 = 1) then .error .lifecycle
  else if !s.member.present p then .error .unitAbsent
  else if decide (s.pathState p ≠ pathOFF) && s.pathMoves p v then .error .configLocked
  else if 15 < bitsOf v 20 16 then .error .outOfRange
  else if !s.member.present (bitsOf v 20 16) || !maskPresent s.member (bitsOf v 15 0) then .error .unitAbsent
  else if (s.fon FLT_STAT.SAFE 0 || s.fon THM_STAT.SHUTDOWN 0) && decide (bitsOf v 31 31 = 1) then .error .configLocked
  else
    let t := if s.pathMoves p v then s.setPathFields p v else s
    if decide (bitsOf v 31 31 = 1) && t.leanBars p then .error .configLocked else .ok (t.setEnable p (decide (bitsOf v 31 31 = 1)))

/-- The word of CHN_PATH_CFGp as it stands. -/
def State.pathCfgWord (s : State) (p : Nat) : Word := s.word (CHN_PATH_CFG.ENABLE.key p)

/-- An access to CHN_PATH_CFGp. -/
def State.pathAccess (s : State) (i : Init) (p : Nat) (v : Word) : State := s.access i pgCHN (0x200 + 16 * p) v (pathCfgWrite p v)

/-- PATH_CFG_WRITE: a write of CHN_PATH_CFGp (R62). -/
def execPathCfgWrite (who : Init) (path : Fin 32) (value : Word) (s : State) : Host.Outcome State Fault Refusal :=
  .next (s.pathAccess who path.val value)

/-- PATH_ENABLE: CHN_PATH_CFGp.ENABLE := 1, the other fields as they stand (R80, R81). -/
def execPathEnable (who : Init) (path : Fin 32) (s : State) : Host.Outcome State Fault Refusal :=
  .next (s.pathAccess who path.val (putBits (s.pathCfgWord path.val) 31 31 1))

/-- PATH_DISABLE: CHN_PATH_CFGp.ENABLE := 0, the other fields as they stand (R80, R81). -/
def execPathDisable (who : Init) (path : Fin 32) (s : State) : Host.Outcome State Fault Refusal :=
  .next (s.pathAccess who path.val (putBits (s.pathCfgWord path.val) 31 31 0))

/-- Every context of a path is FREE or CONFIGURED. -/
def State.pathEmpty (s : State) (p : Nat) : Bool := (s.ctxsOfPath p).all fun c => decide (s.ctxState c = ctxCONFIGURED)

/-- A drained path reaches OFF (R80, R81): an ENABLE := 1 held during the drain waits for the frame boundary. -/
def State.pathOff (s : State) (p : Nat) : State :=
  let s := s.advanceTo ((s.pathRt p).lastRad + s.pathLatency p)
  let held := (s.pathRt p).heldOn
  let s := (s.turnOff p).setPathRt p { s.pathRt p with heldOn := false, turnOn := held && s.placed p }
  (s.fsetB CHN_PATH_CFG.ENABLE p (held && s.placed p)).pulse pgCHN 2

/-- PATH_OFF: all contexts of a draining path have left DRAINING and the latency has elapsed (R80). -/
def execPathOff (path : Fin 32) (s : State) : Host.Outcome State Fault Refusal :=
  .next (if decide (s.pathState path.val = pathDRAINING) && s.pathEmpty path.val then s.pathOff path.val else s)

/-! Band windows (R64). -/

/-- A window holds a context other than FREE. -/
def State.winBusy (s : State) (p w : Nat) : Bool := (s.ctxsOfPath p).any fun c => decide (s.cget CTX_CTRL.WINDOW c = w)

/-- The window overlaps another enabled window of its path (R64). -/
def State.winOverlaps (s : State) (p w : Nat) (x : Win) : Bool :=
  (List.range 12).any fun j => decide (j ≠ w) && (s.winOf p j).en && x.overlaps (s.winOf p j)

/-- The instances that serve a stream that a path reads. -/
def State.instancesOf (s : State) (p : Nat) : List Nat := (s.readsOf p).filter fun n => s.member.present n

/-- The derivation fails on an enabled instance with an enabled reference (R64, R119). -/
def State.winBreaksCan (s : State) (p : Nat) : Bool := (s.instancesOf p).any fun n => s.fon CAN_CTRL.EN n && s.deriveFails n

/-- The committed words of a window. -/
def State.setWin (s : State) (p w : Nat) (lo hi : Word) : State :=
  (s.setWord (CHN_WIN_LO.EN.key (winUnit p w)) lo).setWord (CHN_WIN_HI.F_HIGH_KHZ.key (winUnit p w)) (hi &&& 0x00FFFFFF)

/-- The LO word that a commit takes: that staged for the selection, else the committed one (R54, R64). -/
def State.winLoFor (s : State) (i : Init) : Word :=
  match s.winStageOf i with
  | some (u, w) => if u = s.winSel i then w else s.word (CHN_WIN_LO.EN.key (s.winSel i))
  | none => s.word (CHN_WIN_LO.EN.key (s.winSel i))

/-- A write of CHN_WIN_HI commits the window (R64, R119). DESIGN CHOICE (log 211): a staged LO survives a HI that is refused. -/
def winHiWrite (i : Init) (v : Word) (s : State) : WRes :=
  let p := s.fget CHN_WSEL.PATH i.holder
  let w := s.fget CHN_WSEL.WIN i.holder
  let lo := s.winLoFor i
  let x := Win.ofWords lo v
  if !s.member.present p then .error .unitAbsent
  else if s.winBusy p w then .error .configLocked
  else if x.high < x.low + 5000 ∨ !s.inOccupied p x then .error .outOfRange
  else if x.en && s.winOverlaps p w x then .error .outOfRange
  else if s.pathFlag p 6 && decide (x.edge < 2) then .error .outOfRange
  else
    let t := (s.setWin p w lo v).dropWinStage i (winUnit p w)
    if t.winBreaksCan p then .error .outOfRange
    else .ok ((t.instancesOf p).foldl (fun t n => t.deriveApply n) t)

/-- WINDOW_COMMIT: a write of CHN_WIN_HI (R64). -/
def execWindowCommit (who : Init) (hi : Word) (s : State) : Host.Outcome State Fault Refusal :=
  .next (s.access who pgCHN 0x048 hi (winHiWrite who hi))

end Sys2Proof.Machine
end

