-- ==== Sys2Proof/Machine/Ptp.lean ====
section
/-!
DEFINITION. The PTP time base and cross-timestamps (R26, R311), and the PTP port (R305, R306).
-/
namespace Sys2Proof.Machine

/-- Units of PTP time in a nanosecond. -/
def ptpUnit : Int := 768 * 65536 * 1000000

/-- The rate of PTP time against device time, in those units for a tick: 3,125/768 ns adjusted by FREQ (R311). -/
def State.ptpRate (s : State) : Int := 3125 * (65536 * 1000000 + s.fgetI FHL_PTP_FREQ.FREQ 0)

/-- PTP time now. -/
def State.ptpNow (s : State) : Int := s.fhl.ptp.ref + ((s.dt : Int) - s.fhl.ptp.refDt) * s.ptpRate

/-- Nanoseconds of PTP time, over the 48-bit seconds. -/
def State.ptpNs (s : State) : Nat := (s.ptpNow / ptpUnit % (2 ^ 48 * 1000000000)).toNat

def State.setPtp (s : State) (p : PtpRt) : State := { s with fhl := { s.fhl with ptp := p } }

/-- PTP time is counted from now on. -/
def State.ptpRebase (s : State) : State := s.setPtp { s.fhl.ptp with ref := s.ptpNow, refDt := s.dt }

/-- A step of PTP time by nanoseconds. -/
def State.ptpStepBy (s : State) (ns : Int) : State := s.setPtp { s.fhl.ptp with ref := s.ptpNow + ns * ptpUnit, refDt := s.dt }

/-- FREQ takes a value: PTP time goes on from now at the new rate. -/
def State.setFreq (s : State) (f : Int) : State := s.ptpRebase.fsetI FHL_PTP_FREQ.FREQ 0 f

/-! Cross-timestamps (R26). -/

/-- A write of CLK_XTS_CTRL: DONE is cleared by a 1; REQ captures a pair unless one is in flight. -/
def xtsWrite (v : Word) (s : State) : WRes :=
  let s := if bitsOf v 2 2 = 1 then s.fset CLK_XTS_CTRL.DONE 0 0 else s
  if bitsOf v 0 0 = 1 ∧ s.xts.isNone then
    .ok ({ s with xts := some ⟨s.dt, s.ptpNs / 1000000000, s.ptpNs % 1000000000⟩ }.fset CLK_XTS_CTRL.BUSY 0 1)
  else .ok s

/-- XTS_REQ: a write of CLK_XTS_CTRL.REQ (R26). -/
def execXtsReq (who : Init) (s : State) : Host.Outcome State Fault Refusal := .next (s.access who pgCLK 0x048 1 (xtsWrite 1))

/-- The pair of a capture is stored. -/
def State.xtsStore (s : State) (x : XtsPair) : State :=
  let s := { s with xts := none }
  let s := (s.fset CLK_XTS_DT_LO.DT_LO 0 (x.dt % 2 ^ 32)).fset CLK_XTS_DT_HI.DT_HI 0 (x.dt / 2 ^ 32)
  let s := (s.fset CLK_XTS_SEC_LO.SEC_LO 0 (x.sec % 2 ^ 32)).fset CLK_XTS_SEC_HI.SEC_HI 0 (x.sec / 2 ^ 32)
  ((s.fset CLK_XTS_NS.NS 0 x.ns).fset CLK_XTS_CTRL.BUSY 0 0).fset CLK_XTS_CTRL.DONE 0 1

/-- XTS_CAPTURE_DONE: the capture in flight completes through XC16 (R26). -/
def execXtsCaptureDone (s : State) : Host.Outcome State Fault Refusal :=
  .next (match s.xts with | some x => s.xtsStore x | none => s)

/-- A read of FHL_PTP_TIME_NS latches the seconds for the reader (R311). -/
def ptpTimeRead (i : Init) (s : State) : State :=
  let sec := s.ptpNs / 1000000000
  let s := { s with shadow := Tbl.set (fun _ => 0) s.shadow (0x10220 * 64 + i.holder) (BitVec.ofNat 32 (sec % 2 ^ 32)) }
  let s := { s with shadow := Tbl.set (fun _ => 0) s.shadow (0x10224 * 64 + i.holder) (BitVec.ofNat 32 (sec / 2 ^ 32)) }
  s.answerRead i (BitVec.ofNat 32 (s.ptpNs % 1000000000))

/-- PTP_TIME_READ: a read of FHL_PTP_TIME_NS (R311). -/
def execPtpTimeRead (who : Init) (s : State) : Host.Outcome State Fault Refusal := .next (s.accessRead who pgFHL (ptpTimeRead who))

/-- A read of CLK_DEVTIME_LO latches the upper word for the reader (R23). -/
def devtimeLoRead (i : Init) (s : State) : State :=
  let s := { s with shadow := Tbl.set (fun _ => 0) s.shadow (0x01044 * 64 + i.holder) (BitVec.ofNat 32 (s.dt / 2 ^ 32)) }
  s.answerRead i (BitVec.ofNat 32 (s.dt % 2 ^ 32))

/-- DEVTIME_LO_READ: a read of CLK_DEVTIME_LO (R23). -/
def execDevtimeLoRead (who : Init) (s : State) : Host.Outcome State Fault Refusal := .next (s.accessRead who pgCLK (devtimeLoRead who))

/-! The port (R305, R306). -/

/-- PORT_STATE (R311). -/
def ptpDISABLED : Nat := 0
def ptpLISTENING : Nat := 1
def ptpUNCALIBRATED : Nat := 2
def ptpSLAVE : Nat := 3

def tmPtp : Nat := 72

def State.setPort (s : State) (st : Nat) : State := s.fset FHL_PTP_STAT.PORT_STATE 0 st

/-- F109 is driven while PTP is enabled and not locked (R347). -/
def State.drivePtp (s : State) : State := s.drive 109 (s.fon FHL_PTP_CFG.EN 0 && !s.fon FHL_PTP_STAT.LOCK 0)

/-- LOCK rises (R306). -/
def State.ptpLock (s : State) : State :=
  (((s.fset FHL_PTP_STAT.LOCK 0 1).setPort ptpSLAVE).setPtp { s.fhl.ptp with sideLoss := 0 } |>.pulse pgFHL 8).inputValid pgFHL 64 |>.drivePtp |>.notePri

/-- LOCK falls (R306); `side` says that the side going down is the only cause. A lock that has fallen before keeps its cause. -/
def State.ptpUnlock (s : State) (side : Bool) : State :=
  let s := s.setPtp { s.fhl.ptp with good := 0 }
  if s.fon FHL_PTP_STAT.LOCK 0 then
    ((((s.setPtp { s.fhl.ptp with sideLoss := if side then s.sec_ + 1 else 0 }).fset FHL_PTP_STAT.LOCK 0 0).setPort ptpUNCALIBRATED).pulse pgFHL 9).inputLost pgFHL 64 |>.drivePtp |>.notePri
  else s

/-- Within 60 s of a loss caused only by the side (R306). -/
def State.ptpQuick (s : State) : Bool := decide (0 < s.fhl.ptp.sideLoss ∧ s.sec_ + 1 ≤ s.fhl.ptp.sideLoss + 60)

/-- The servo of firmware (R306): it steps the time base while unlocked and off by more than 1 µs; the law by which it steers FREQ is not
stated, so FREQ becomes a free value within ±100 ppm. -/
def State.ptpServo (s : State) (offset16 : Int) : State :=
  if !s.fon FHL_PTP_CFG.SERVO 0 then s
  else if !s.fon FHL_PTP_STAT.LOCK 0 && decide (1000 * 65536 < offset16.natAbs) then s.ptpStepBy (-(roundDiv offset16 65536))
  else s.tookFree.setFreq ((s.freeVal.toNat % 13107201 : Nat) - 6553600)

/-- An accepted Sync with its offset in 2^-16 ns (R306). -/
def State.ptpSync (s : State) (offset16 : Int) : State :=
  let lockNs : Nat := s.fget FHL_PTP_CFG.LOCK_NS 0 * 65536
  let s := ((s.fbump FHL_PTP_CNT.SYNC_RX 0).timerStart tmPtp 0 s.ms).fsetI FHL_PTP_OFFSET.OFFSET_NS 0 (clampI (-0x80000000) 0x7FFFFFFF (roundDiv offset16 65536))
  let good := decide (offset16.natAbs ≤ lockNs)
  let s := s.setPtp { s.fhl.ptp with good := if good then s.fhl.ptp.good + 1 else 0 }
  let s :=
    if s.fon FHL_PTP_STAT.LOCK 0 then
      if s.fget FHL_PTP_CFG2.UNLOCK_NS 0 * 65536 < offset16.natAbs then s.ptpUnlock false else s
    else if 16 ≤ s.fhl.ptp.good ∨ (good = true ∧ s.ptpQuick = true) then s.ptpLock
    else s
  s.ptpServo offset16

/-- An accepted pair of Sync stamps (R305): the offset is t2 − t1 − correction − mean path delay; a Delay_Req goes out. -/
def State.ptpStamps (s : State) (t1 t2 : Nat) (corr : Int) (seq : Nat) : State :=
  let fwd : Int := ((t2 : Int) - t1) * 65536 - corr
  let s := s.setPtp { s.fhl.ptp with fwd := some fwd, sync := none, req := some (seq, s.ptpNs) }
  s.ptpSync (fwd - s.fgetI FHL_PTP_MPD.MPD_NS 0 * 65536)

/-- The port takes a message of its domain and side. -/
def State.ptpPort (s : State) (domain : Nat) : Bool := s.fon FHL_PTP_CFG.EN 0 && decide (domain = s.fget FHL_PTP_CFG.DOMAIN 0)

/-- The mean path delay of a Delay_Resp (R305), in ns; none until both directions have been stamped. -/
def State.meanDelay (s : State) (seq t4 : Nat) (corr : Int) : Option Int :=
  match s.fhl.ptp.req, s.fhl.ptp.fwd with
  | some (q, t3), some fwd => if q = seq then some (roundDiv (fwd + ((t4 : Int) - t3) * 65536 - corr) (2 * 65536)) else none
  | _, _ => none

/-- A PTP message on the port's side (R305). -/
def State.ptpMessage (s : State) (m : PtpMsg) : State :=
  match m with
  | .announce d master best =>
    if s.ptpPort d.val && best then
      let s := if s.fhl.ptp.master = some master then s else s.setPtp { s.fhl.ptp with master := some master, good := 0, sync := none }
      if s.fget FHL_PTP_STAT.PORT_STATE 0 = ptpLISTENING then s.setPort ptpUNCALIBRATED else s
    else s
  | .sync d master seq int two t1 t2 corr =>
    if s.ptpPort d.val && decide (s.fhl.ptp.master = some master ∧ -7 ≤ int ∧ int ≤ 0) then
      if two then s.setPtp { s.fhl.ptp with sync := some (seq.val, t2, corr) } else s.ptpStamps t1 t2 corr seq.val
    else s
  | .followUp d master seq t1 corr =>
    if s.ptpPort d.val && decide (s.fhl.ptp.master = some master) then
      match s.fhl.ptp.sync with
      | some (q, t2, c) => if q = seq.val then s.ptpStamps t1 t2 (c + corr) seq.val else s
      | none => s
    else s
  | .delayResp d mine seq t4 corr =>
    if s.ptpPort d.val && mine then
      match s.meanDelay seq.val t4 corr with
      | some x => if 0 ≤ x ∧ x ≤ 1000000 then s.fsetI FHL_PTP_MPD.MPD_NS 0 x else s.pulse pgFHL evtRange
      | none => s
    else s
  | .delayReq _ _ _ => s
  | .other => s

/-- PTP_SYNC_TIMEOUT: no Sync has been accepted for PTP_TO_MS (R306). -/
def execPtpSyncTimeout (s : State) : Host.Outcome State Fault Refusal :=
  .next (if s.timerDue tmPtp 0 s.ms (s.fget FHL_PTP_CFG2.PTP_TO_MS 0) then (s.timerStop tmPtp 0).ptpUnlock false else s)

/-- A write of FHL_PTP_FREQ (R306, R311). -/
def ptpFreqWrite (v : Word) (s : State) : WRes :=
  let f := toSigned v.toNat (2 ^ 32)
  if s.fon FHL_PTP_CFG.SERVO 0 then .error .configLocked
  else if f < -6553600 ∨ 6553600 < f then .error .outOfRange
  else .ok (s.setFreq f)

/-- PTP_FREQ_WRITE: a write of FHL_PTP_FREQ (R306). -/
def execPtpFreqWrite (who : Init) (freq : Word) (s : State) : Host.Outcome State Fault Refusal :=
  .next (s.access who pgFHL 0x214 freq (ptpFreqWrite freq))

/-- A write of FHL_PTP_STEP (R306). -/
def ptpStepWrite (v : Word) (s : State) : WRes :=
  if s.fon FHL_PTP_CFG.SERVO 0 then .error .configLocked else .ok (s.ptpStepBy (toSigned v.toNat (2 ^ 32)))

/-- PTP_STEP: a write of FHL_PTP_STEP (R306). -/
def execPtpStep (who : Init) (ns : Word) (s : State) : Host.Outcome State Fault Refusal :=
  .next (s.access who pgFHL 0x218 ns (ptpStepWrite ns))

/-- A write of FHL_PTP_CFG (R306, R311): the port starts listening, or is disabled and unlocked. -/
def ptpCfgWrite (v : Word) (s : State) : WRes :=
  match s.mergeReg pgFHL 0x200 (FHL_PTP_CFG.EN.key 0) v with
  | .error r => .error r
  | .ok t =>
    let en := t.fon FHL_PTP_CFG.EN 0
    if en = s.fon FHL_PTP_CFG.EN 0 ∧ t.fget FHL_PTP_CFG.SIDE 0 = s.fget FHL_PTP_CFG.SIDE 0 then .ok t
    else
      let t := (t.setPtp { t.fhl.ptp with master := none, good := 0, sync := none, fwd := none, req := none, sideLoss := 0 }).timerStop tmPtp 0
      .ok (((t.fset FHL_PTP_STAT.LOCK 0 0).setPort (if en then ptpLISTENING else ptpDISABLED)).drivePtp.notePri)

end Sys2Proof.Machine
end

