-- ==== Sys2Proof/Machine/Fhl.lean ====
section
/-!
DEFINITION. Chapter 11, second part: fronthaul sides and lanes (R294), flows and feeds (R297 to R300), the relay (R302 to R304), hop delay and
simulcast alignment (R307 to R309). Side 0 is A and side 1 is B.
-/
namespace Sys2Proof.Machine

/-! Sides and lanes (R294, R304). -/

/-- RCLK runs (R503): lane 0 of the PTP side holds block lock; it is low otherwise. -/
def State.rclkRuns (s : State) : Bool := s.fhl.blockLock.testBit (4 * s.fget FHL_PTP_CFG.SIDE 0)

/-- A lane of a side holds block lock, or does not. -/
def State.setBlockLock (s : State) (d l : Nat) (b : Bool) : State :=
  { s with fhl := { s.fhl with blockLock := setBitTo s.fhl.blockLock (4 * d + l) b } }

/-- F110 and F111 (R347). -/
def State.driveSides (s : State) : State :=
  [0, 1].foldl (fun s d => s.drive (110 + d) (s.fon (sideEnFld d) 0 && !s.sideUp d)) s

/-! Flows (R297 to R300). -/

/-- STATE of a flow (R311); SHED of a transmit flow has the code of LOST. -/
def flOFF : Nat := 0
def flACQ : Nat := 1
def flRUN : Nat := 2
def flLOST : Nat := 3

def tmFlow : Nat := 73

def State.flow (s : State) (f : Nat) : FlowRt := Tbl.get (fun _ => {}) s.fhl.flows f
def State.setFlow (s : State) (f : Nat) (r : FlowRt) : State := { s with fhl := { s.fhl with flows := Tbl.set (fun _ => {}) s.fhl.flows f r } }
def State.flowSt (s : State) (f : Nat) : Nat := s.fget FHL_FLOW_STAT.STATE f
def State.setFlowSt (s : State) (f st : Nat) : State := s.fset FHL_FLOW_STAT.STATE f st

def State.flowTx (s : State) (f : Nat) : Bool := s.fon FHL_FLOW_CFG.DIR f

/-- The stream of a flow (R297). -/
def State.flowStream (s : State) (f : Nat) : Nat := s.fget FHL_FLOW_CFG.DONOR f + (if s.flowTx f then 32 else 0)

/-- The flow may run: it is enabled, and its stream names its feed. -/
def State.flowOn (s : State) (f : Nat) : Bool :=
  s.fon FHL_FLOW_CFG.EN f && decide (s.fget CHN_STREAM.LINK (s.flowStream f) = s.fget FHL_FLOW_CFG.FEED f + 1)

/-- The side in use of a feed, and of a flow. -/
def State.feedSide (s : State) (k : Nat) : Nat := s.fget FHL_FEED.IN_USE k
def State.flowSide (s : State) (f : Nat) : Nat := s.feedSide (s.fget FHL_FLOW_CFG.FEED f)

/-- Half-Msps of a flow's stream, ten times: 1,536 Msps are 1,536,000. -/
def State.flowRate (s : State) (f : Nat) : Nat := rateKhz (s.fget CHN_STREAM.RATE (s.flowStream f))

/-- The receive flows of a feed that may run. -/
def State.feedFlows (s : State) (k : Nat) : List Nat :=
  (List.range 16).filter fun f => s.flowOn f && !s.flowTx f && decide (s.fget FHL_FLOW_CFG.FEED f = k)

/-- F112 (R347): an enabled receive flow is LOST. -/
def State.driveFlows (s : State) : State :=
  s.drive 112 ((List.range 16).any fun f => s.fon FHL_FLOW_CFG.EN f && !s.flowTx f && decide (s.flowSt f = flLOST))

/-- A receive flow anchors anew (R298). -/
def State.reanchor (s : State) (f : Nat) : State :=
  ((s.setFlowSt f flACQ).setFlow f { s.flow f with pend := [], bad := 0, missing := [], fifo := [] }).timerStart tmFlow f s.us

/-- The transmit flows that a side has to carry, ascending. -/
def State.txFlows (s : State) (d : Nat) : List Nat := (List.range 16).filter fun f => s.flowOn f && s.flowTx f && decide (s.flowSide f = d)

/-- The flows that fit the up lanes of a side: flows are shed in descending index until the rest fit (R300). -/
def keepFlows (rate : Nat → Nat) (cap : Nat) : List Nat → List Nat
  | [] => []
  | f :: t => if rate f ≤ cap then f :: keepFlows rate (cap - rate f) t else []

/-- What a side's transmit flows show: RUN, or SHED (R300). -/
def State.shedSide (s : State) (d : Nat) : State :=
  let fs := s.txFlows d
  let keep := keepFlows s.flowRate ((s.lanesUp d).length * 1152000) fs
  fs.foldl (fun s f =>
    if keep.contains f then s.setFlowSt f flRUN
    else if s.flowSt f = flLOST then s
    else (s.setFlowSt f flLOST).pulse pgFHL 6) s

/-- Transmit flows follow the capacity of the sides. -/
def State.shed (s : State) : State := (s.shedSide 0).shedSide 1

/-- A flow starts, or stops, as its configuration and its stream's LINK say (R297). -/
def State.flowRefresh (s : State) (f : Nat) : State :=
  if !s.flowOn f then
    if s.flowSt f = flOFF then s else (s.setFlowSt f flOFF).timerStop tmFlow f
  else if s.flowTx f then s
  else if s.flowSt f = flOFF then s.reanchor f
  else s

/-- Every flow follows the configuration. -/
def State.flowsRefresh (s : State) : State := (((List.range 16).foldl (fun s f => s.flowRefresh f) s).shed).driveFlows

/-- The rate of the enabled flows of a direction on a side, without one of them. -/
def State.sideLoad (s : State) (tx : Bool) (d f : Nat) : Nat :=
  (((List.range 16).filter fun j => decide (j ≠ f) && s.fon FHL_FLOW_CFG.EN j && (s.flowTx j == tx) && decide (s.flowSide j = d)).map fun j => s.flowRate j).sum

/-- A write of FHL_FLOWf_CFG (R297, R311). -/
def flowWrite (f : Nat) (v : Word) (s : State) : WRes :=
  if bitsOf v 29 28 = 3 then .error .outOfRange
  else if !s.member.present (bitsOf v 27 24) then .error .unitAbsent
  else
    let t := s.setWord (FHL_FLOW_CFG.EN.key f) (v &&& 0xFF1FFFFF)
    if t.fon FHL_FLOW_CFG.EN f && !s.fon FHL_FLOW_CFG.EN f && decide (4608000 < t.sideLoad (t.flowTx f) (t.flowSide f) f + t.flowRate f) then .error .outOfRange
    else
      -- a changed flow starts anew
      let t := (t.setFlowSt f flOFF).setFlow f {}
      .ok t.flowsRefresh

/-- FH_FLOW_ENABLE: a write of FHL_FLOWf_CFG.EN, the other fields as they stand (R297). -/
def execFhFlowEnable (who : Init) (flow : Fin 16) (en : Bool) (s : State) : Host.Outcome State Fault Refusal :=
  let v := putBits (s.word (FHL_FLOW_CFG.EN.key flow.val)) 31 31 (if en then 1 else 0)
  .next (s.access who pgFHL (0x100 + 8 * flow.val) v (flowWrite flow.val v))

/-! Links of the streams on fronthaul (R123, R413). -/

/-- The link of a stream on fronthaul is lost: the side of its feed is down, or its receive flow is LOST; it is back once its flow runs, or the side
is up for a transmit stream (DEDUCED, log 226). -/
def State.fibreLost (s : State) (t : Nat) : Option Bool :=
  if !s.onFibre t then none
  else if !s.sideUp (s.feedSide (s.fget CHN_STREAM.LINK t - 1)) then some true
  else if 32 ≤ t then some false
  else
    let fs := (List.range 16).filter fun f => s.flowOn f && !s.flowTx f && decide (s.flowStream f = t)
    if fs.any fun f => decide (s.flowSt f = flLOST) then some true
    else if fs.any fun f => decide (s.flowSt f = flRUN) then some false
    else none

/-- The canceller follows the links of the streams on fronthaul. -/
def State.fibreRefresh (s : State) : State :=
  (List.range 64).foldl (fun s t =>
    match s.fibreLost t with
    | some true => if s.isLinkLost t then s else s.canLinkLoss t
    | some false => if s.isLinkLost t then s.canLinkBack t else s
    | none => s) s

/-- FH_FLOW_TIMEOUT: a receive flow has had no valid frame for FLOW_TO_US (R298). -/
def execFhFlowTimeout (flow : Fin 16) (s : State) : Host.Outcome State Fault Refusal :=
  .next (
    let f := flow.val
    if !s.flowTx f && decide (s.flowSt f = flACQ ∨ s.flowSt f = flRUN) && s.timerDue tmFlow f s.us (s.fget FHL_TIMEOUT.FLOW_TO_US 0) then
      ((((s.setFlowSt f flLOST).timerStop tmFlow f).pulse pgFHL 3).inputLost pgFHL f).driveFlows.fibreRefresh
    else s)

/-! Feeds (R299). -/

/-- A flow has had a valid frame on a side within FLOW_TO_US. -/
def State.flowValid (s : State) (f d : Nat) : Bool :=
  let last := if d = 0 then (s.flow f).lastA else (s.flow f).lastB
  decide (0 < last ∧ s.us + 1 ≤ last + s.fget FHL_TIMEOUT.FLOW_TO_US 0)

/-- A side is up or down: PTP, transmit flows and the fault sources follow (R300, R304, R306). -/
def State.sideChanged (s : State) (d : Nat) : State :=
  let s := ((s.driveSides).shed).fibreRefresh
  if !s.sideUp d && s.fon FHL_PTP_CFG.EN 0 && decide (s.fget FHL_PTP_CFG.SIDE 0 = d) && s.fon FHL_PTP_STAT.LOCK 0 then s.ptpUnlock true else s

/-- A lane is down (R304). -/
def State.laneDown (s : State) (d l : Nat) : State :=
  let s := (s.fsetBit (sideLaneUpFld d) 0 l false).pulse pgFHL 0
  if (s.lanesUp d).isEmpty then
    (((s.fset (sideUpFld d) 0 0).fset (sideOkFld d) 0 0).pulse pgFHL 1).inputLost pgFHL (32 + d) |>.sideChanged d
  else s.sideChanged d

/-- A lane of a side is present and enabled (R2, R311). -/
def State.laneUsed (s : State) (d l : Nat) : Bool :=
  decide (l < s.member.lanesPerSide) && s.fon (sideEnFld d) 0 && s.fbit (sideLanesFld d) 0 l

/-- FH_LANE_UP: a lane has held block lock without hi_ber for 1 ms (R294). -/
def execFhLaneUp (side : Fin 2) (lane : Fin 4) (s : State) : Host.Outcome State Fault Refusal :=
  .next (
    let d := side.val
    if s.laneUsed d lane.val && !s.fbit (sideLaneUpFld d) 0 lane.val then
      let t := (s.fsetBit (sideLaneUpFld d) 0 lane.val true).fsetBit (sideHiberFld d) 0 lane.val false
      (((t.setBlockLock d lane.val true).fset (sideUpFld d) 0 1).inputValid pgFHL (32 + d)).sideChanged d
    else s)

/-- FH_LANE_DOWN: a lane loses block lock, or enters hi_ber, in which it keeps the lock (R294, R304, R503). -/
def execFhLaneDown (side : Fin 2) (lane : Fin 4) (hiber : Bool) (s : State) : Host.Outcome State Fault Refusal :=
  .next (
    let d := side.val
    let s := if s.laneUsed d lane.val then s.fsetBit (sideHiberFld d) 0 lane.val hiber else s
    let s := if hiber then s else s.setBlockLock d lane.val false
    if s.fbit (sideLaneUpFld d) 0 lane.val then s.laneDown d lane.val else s)

/-- A write of FHL_SIDEA_CFG or FHL_SIDEB_CFG (R311): the bits of lanes that the member lacks read 0 (R2), lanes that are no longer enabled go down,
and the fronthaul clocks follow (R516). -/
def sideWrite (d : Nat) (v : Word) (s : State) : WRes :=
  let t := s.setWord ((sideEnFld d).key 0) (v &&& (0xE0000000 + BitVec.ofNat 32 (2 ^ s.member.lanesPerSide - 1)))
  let keep := if t.fon (sideEnFld d) 0 then t.fget (sideLanesFld d) 0 else 0
  let t := (List.range 4).foldl (fun t l => if keep.testBit l then t else t.setBlockLock d l false) t
  let t := if t.fon (sidePreFld d) 0 then t else t.fset (sideOkFld d) 0 0
  let t := (t.lanesUp d).foldl (fun t l => if keep.testBit l then t else t.laneDown d l) t
  .ok ((t.refreshClocks).sideChanged d)

/-! Sending and relaying (R302 to R304). -/

/-- A frame is dropped by the relay. -/
def State.relayDrop (s : State) : State := s.fbump FHL_CHAIN_CNT.DROPPED 0

/-- A frame that arrived on a lane of a side is relayed to the other side with its tag (R295, R302); the buffer may have no room for a preemptable
one. -/
def State.relay (s : State) (d lane : Nat) (f : FhFrame) (a : FhArrival) (express bad : Bool) : State :=
  let o := 1 - d
  if !s.sideUp o || !s.fon (sideRelayFld o) 0 || (!express && a.full) then s.relayDrop else s.fhSend o lane f bad a.tag

/-- A consumed frame is discarded and counted (R295). -/
def State.fhDiscard (s : State) (d : Nat) : State := (s.fbump (sideDiscFld d) 0).pulse pgFHL evtRange

/-! IQ frames (R296, R298). -/

/-- A valid frame of a flow on a side is remembered (R299). -/
def State.noteValid (s : State) (f d : Nat) : State :=
  let r := s.flow f
  let r := if d = 0 then { r with sinceA := if s.flowValid f 0 then r.sinceA else s.us + 1, lastA := s.us + 1 } else { r with lastB := s.us + 1 }
  s.setFlow f r

/-- Blocks of a flow that were late or dropped (R298): 16 in a row are a slip. -/
def State.badBlocks (s : State) (f n : Nat) : State :=
  if n = 0 then s
  else
    let s := s.fset FHL_FLOW_STAT.LATE f (min 0xFF (s.fget FHL_FLOW_STAT.LATE f + n))
    let r := s.flow f
    if 16 ≤ r.bad + n then ((s.fbump FHL_FLOW_STAT.SLIPS f).pulse pgFHL 4).reanchor f
    else s.setFlow f { r with bad := r.bad + n }

/-- By how much an arrival at a time in ns is later than the anchor predicts for a sample (R298), in ns times the stream's rate in kHz. -/
def State.flowDev (s : State) (f i at_ : Nat) : Int :=
  ((at_ : Int) - (s.flow f).anchor) * s.flowRate f - (i : Int) * 1000000

/-- RELEASE_NS of a flow's feed, in the same unit. -/
def State.flowRel (s : State) (f : Nat) (ns : Int) : Int :=
  ((s.fget FHL_FEED.RELEASE_NS (s.fget FHL_FLOW_CFG.FEED f) : Int) + ns) * s.flowRate f

/-- The blocks of a frame that starts at a sample are late, or find no room (R298). -/
def State.frameBad (s : State) (f i : Nat) (a : FhArrival) : Bool :=
  let dev := s.flowDev f i a.at_
  decide (s.flowRel f 0 < dev) || (a.late && decide (s.flowRel f (-200) < dev)) || decide (dev < s.flowRel f (-2200))

/-- The samples of a received block: m × 2^e, and zeros for an exponent above 7 (R296). -/
def unpackBlock (b : IqBlock) : List Int := b.mant.map fun m => if 7 < b.exp.val then 0 else m * 2 ^ b.exp.val

/-- Frames passed over whose first samples have been released by a time are LATE, and released blocks leave XC03 (R298). -/
def State.flowExpire (s : State) (f at_ : Nat) : State :=
  let r := s.flow f
  let gone (x : Nat) : Bool := decide (s.flowRel f 0 < s.flowDev f x at_)
  let s := s.setFlow f { r with missing := r.missing.filter fun x => !gone x.1, fifo := r.fifo.filter fun x => !gone x.1 }
  s.badBlocks f ((r.missing.filter fun x => gone x.1).map fun x => x.2).sum

/-- The blocks of a frame that starts at a sample are decoded in time, or not (R298). -/
def State.flowTake (s : State) (f i : Nat) (blocks : List IqBlock) (a : FhArrival) : State :=
  if s.frameBad f i a then s.badBlocks f blocks.length
  else
    let new := (List.range blocks.length).map fun k => (i + 16 * k, ((blocks.drop k).take 1).flatMap unpackBlock)
    s.setFlow f { s.flow f with bad := 0, fifo := (s.flow f).fifo ++ new }

/-- A valid frame of a running flow (R298): its index follows from its sequence number; frames that it passes over are missing until they come. -/
def State.flowData (s : State) (f seq : Nat) (blocks : List IqBlock) (a : FhArrival) : State :=
  let s := s.flowExpire f a.at_
  if s.flowSt f ≠ flRUN then s
  else
    let r := s.flow f
    let n := blocks.length
    let ahead := (seq + 256 - r.next) % 256
    if ahead < 128 then
      let skipped := (List.range ahead).map fun k => (r.base + 16 * n * k, n)
      let s := s.setFlow f { r with next := (seq + 1) % 256, base := r.base + 16 * n * (ahead + 1), missing := r.missing ++ skipped }
      s.flowTake f (r.base + 16 * n * ahead) blocks a
    else
      let i := r.base - 16 * n * (256 - ahead)
      if r.missing.any fun x => decide (x.1 = i) then
        (s.setFlow f { r with missing := r.missing.filter fun x => decide (x.1 ≠ i) }).flowTake f i blocks a
      else s

/-- How many frames before the newest one 16 frames in sequence begin that are all there. -/
def FlowRt.inSequence (r : FlowRt) (seq : Nat) : Option Nat :=
  (List.range 16).find? fun j => (List.range 16).all fun k => r.pend.any fun x => decide (x.1 = (seq + 256 - j + k) % 256)

/-- The flow runs from the 16th frame in sequence (R298): its arrival is the anchor of sample index 0. -/
def State.flowAnchor (s : State) (f seq : Nat) (blocks : List IqBlock) (a : FhArrival) : State :=
  let r := s.flow f
  let s := s.setFlow f { r with pend := [], next := (seq + 1) % 256, base := 16 * blocks.length, anchor := a.at_ }
  ((s.setFlowSt f flRUN).pulse pgFHL 2).flowTake f 0 blocks a

/-- A valid frame while the flow is acquiring (R297, R298). Striped frames pass each other; SEQ_ID restores their order within the last 19 frames
(DESIGN CHOICE, log 224), and what came before the 16th in sequence but follows it is taken after it. -/
def State.flowAcquire (s : State) (f seq : Nat) (blocks : List IqBlock) (a : FhArrival) : State :=
  let r := s.flow f
  let r := { r with pend := ((seq, blocks, a) :: r.pend).take 19, bad := 0, missing := [], fifo := [] }
  let last := r.inSequence seq |>.map fun j => (seq + 256 - j + 15) % 256
  match last, last.bind fun n => r.pend.find? fun x => decide (x.1 = n) with
  | some n, some x =>
    let next := (List.range 3).filterMap fun k => r.pend.find? fun y => decide (y.1 = (n + 1 + k) % 256)
    next.foldl (fun t y => t.flowData f y.1 y.2.1 y.2.2) ((s.setFlow f r).flowAnchor f n x.2.1 x.2.2) |>.fibreRefresh
  | _, _ => s.setFlow f r

/-- A valid IQ frame on a receive flow (R298). -/
def State.flowFrame (s : State) (f d seq : Nat) (blocks : List IqBlock) (a : FhArrival) : State :=
  let s := s.noteValid f d
  if s.flowSide f ≠ d then s
  else
    let s := (s.timerStart tmFlow f s.us).inputValid pgFHL f
    if s.flowSt f = flRUN then s.flowData f seq blocks a
    else if s.flowSt f = flLOST then ((s.setFlowSt f flACQ).setFlow f { s.flow f with pend := [] }).driveFlows.flowAcquire f seq blocks a
    else if s.flowSt f = flACQ then s.flowAcquire f seq blocks a
    else s

/-- The receive flow of a PC_ID. -/
def State.flowOfPc (s : State) (pc : Nat) : Option Nat :=
  (List.range 16).find? fun f => s.flowOn f && !s.flowTx f && decide (s.fget FHL_FLOW_CFG.PC_ID f = pc)

/-- The payload of an IQ frame is as R296 says. -/
def iqOk (seqId : Nat) (blocks : List IqBlock) : Bool :=
  decide (seqId % 256 = 128) && decide (1 ≤ blocks.length ∧ blocks.length ≤ 32) && blocks.all fun b => decide (b.exp.val < 16)

/-- An IQ frame (R295, R296, R298). -/
def State.iqFrame (s : State) (d pc seqId : Nat) (blocks : List IqBlock) (a : FhArrival) : State :=
  match s.flowOfPc pc with
  | none => s
  | some f =>
    if !iqOk seqId blocks then s.fhDiscard d
    else
      let s := if blocks.any fun b => decide (7 < b.exp.val) then s.pulse pgFHL evtRange else s
      s.flowFrame f d (seqId / 256) blocks a

/-! Packing (R296, R300). -/

/-- A sample part shifted right by e, rounded to nearest with ties away from zero. -/
def shiftRound (e : Nat) (x : Int) : Int := roundDiv x (2 ^ e)

/-- Every part of a block fits in 9 bits after a shift. -/
def blockFits (e : Nat) (l : List Int) : Bool := l.all fun x => decide (-256 ≤ shiftRound e x ∧ shiftRound e x ≤ 255)

/-- The exponent of a block: the smallest from 0 to 7 at which it fits (R296). -/
def blockExp (l : List Int) : Nat := ((List.range 7).find? fun e => blockFits e l).getD 7

/-- A block as it is sent, and the number of its parts that saturate. -/
def packBlock (l : List Int) : IqBlock × Nat :=
  let e := blockExp l
  let parts := l.map fun x => shiftRound e x
  (⟨byteOf e, parts.map fun x => clampI (-256) 255 x⟩, (parts.filter fun x => decide (x < -256 ∨ 255 < x)).length)

/-- The up lane of a side that follows in turn from a lane (R297, R304). -/
def State.stripeLane (s : State) (d from_ : Nat) : Nat :=
  let up := s.lanesUp d
  ((up.find? fun l => decide (from_ ≤ l)).orElse fun _ => up.head?).getD 0

/-- FH_TX_FRAME: a frame of a transmit flow is sent cut-through (R300), on the side's up lanes in turn (R297); `blocks` are the samples of its
blocks, I then Q. -/
def execFhTxFrame (flow : Fin 16) (blocks : List (List Int)) (s : State) : Host.Outcome State Fault Refusal :=
  .next (
    let f := flow.val
    if s.flowTx f && decide (s.flowSt f = flRUN) && s.sideUp (s.flowSide f) && decide (blocks.length = s.fget FHL_FLOW_CFG.BLOCKS_M1 f + 1) then
      let packed := blocks.map packBlock
      let t := (List.range (packed.map fun b => b.2).sum).foldl (fun t _ => t.saturate pgFHL) s
      let r := t.flow f
      let pc := t.fget FHL_FLOW_CFG.PC_ID f
      let frame := FhFrame.iq (halfOf pc) (halfOf (r.txSeq % 256 * 256 + 128)) (packed.map fun b => b.1)
      let lane := t.stripeLane (t.flowSide f) r.txLane
      (t.setFlow f { r with txSeq := (r.txSeq + 1) % 256, txLane := (lane + 1) % 4 }).fhSend (t.flowSide f) lane frame false
    else s)

/-! Hop delay (R307). -/

def tmHopPeriod : Nat := 74
def tmHopValid : Nat := 75
def tmAlignPeriod : Nat := 76
def tmAlignMsg : Nat := 77

def State.setAlign (s : State) (a : AlignRt) : State := { s with fhl := { s.fhl with align := a } }

/-- STATE of the alignment (R311). -/
def alOFF : Nat := 0
def alWAITING : Nat := 1
def alALIGNED : Nat := 2
def alHELD : Nat := 3

def State.firstNode (s : State) : Bool := s.fon FHL_ALIGN_CFG.FIRST 0

/-- Feeds of the streams that the aligned paths read or write are in use on side A (R309). -/
def State.alignFeedsOk (s : State) : Bool :=
  (s.paths.filter fun p => s.fbit FHL_ALIGN_PATHS.PATHS 0 p).all fun p =>
    (s.readsOf p ++ s.writesOf p).all fun t =>
      let link := s.fget CHN_STREAM.LINK t
      decide (link = 0) || decide (s.feedSide (link - 1) = 0)

/-- The hop index of this node, and whether a hop up to here lacks PREEMPT_OK (R308). -/
def State.alignHop (s : State) : Nat := if s.firstNode then 0 else match s.fhl.align.msg with | some m => m.2.1 + 1 | none => 0
def State.alignNoPreempt (s : State) : Bool :=
  !s.fon FHL_SIDEB_STAT.PREEMPT_OK 0 || (!s.firstNode && match s.fhl.align.msg with | some m => m.2.2.1 | none => false)

/-- The node is outside the group's limits (R308). -/
def State.alignOutside (s : State) (d : Int) : Bool :=
  decide (7 < s.alignHop) || (decide (3 < s.alignHop) && s.alignNoPreempt) || decide (d < 0 ∨ 40000 < d)

/-- ACC in 2^-16 ns, once it can be formed (R308). -/
def State.alignAcc (s : State) : Option Int :=
  if s.firstNode then some (s.fget FHL_ALIGN_CFG.BASE_NS 0 * 65536)
  else
    match s.fhl.align.msg, s.fhl.align.hop with
    | some m, some h => some ((m.1 : Int) * 4096 + h)
    | _, _ => s.fhl.align.acc

/-- TARGET_NS in force. -/
def State.alignTarget (s : State) : Nat :=
  if s.firstNode then s.fget FHL_ALIGN_TARGET.TARGET_NS 0 else match s.fhl.align.msg with | some m => m.2.2.2 | none => 0

/-- The state that the conditions of R309 give. -/
def State.alignStateOf (s : State) (acc : Option Int) (d : Int) : Nat :=
  if !s.fon FHL_ALIGN_CFG.EN 0 then alOFF
  else if acc.isNone then alWAITING
  else if (s.firstNode || (s.fhl.align.msgValid && s.fhl.align.hopValid)) && decide (0 ≤ d ∧ d ≤ 40000) && s.alignFeedsOk then alALIGNED
  else alHELD

/-- The alignment is computed again (R308, R309). -/
def State.alignRefresh (s : State) : State :=
  let acc := if s.fon FHL_ALIGN_CFG.EN 0 then s.alignAcc else none
  let ns := roundDiv (acc.getD 0) 65536
  let d := (s.alignTarget : Int) - ns
  let old := s.fget FHL_ALIGN_STAT.STATE 0
  let new := s.alignStateOf acc d
  let s := s.setAlign { s.fhl.align with acc := acc, d := d }
  let s := ((s.fset FHL_ALIGN_STAT.STATE 0 new).fset FHL_ALIGN_STAT.HOP 0 (min 7 s.alignHop)).fset FHL_ALIGN_STAT.D_NS 0 (clampI 0 65535 d).toNat
  let s := (s.fset FHL_ALIGN_ACC.ACC_NS 0 (clampI 0 65535 ns).toNat).fset FHL_ALIGN_ACC.TARGET_IN 0 s.alignTarget
  let s := s.cond pgFHL 12 (acc.isSome && s.alignOutside d)
  let s := if new = alALIGNED ∧ old ≠ alALIGNED then s.pulse pgFHL 10 else s
  if new = alHELD ∧ old ≠ alHELD then s.pulse pgFHL 11 else s

/-- A feed changes its side: every receive flow of it anchors anew, and its transmit flows and the alignment follow. -/
def State.feedTo (s : State) (k d : Nat) : State :=
  let s := s.fset FHL_FEED.IN_USE k d
  let s := (s.feedFlows k).foldl (fun s f => s.reanchor f) s
  (((s.pulse pgFHL 5).shed).driveFlows.fibreRefresh).alignRefresh

/-- An AUTO feed on side A has cause to switch, and B can take it (R299). -/
def State.feedSwitches (s : State) (k : Nat) : Bool :=
  decide (s.fget FHL_FEED.SIDE k = 2 ∧ s.feedSide k = 0) &&
    (!s.sideUp 0 || (s.feedFlows k).any fun f => decide (s.flowSt f = flLOST)) && (s.feedFlows k).all fun f => s.flowValid f 1

/-- FH_FEED_SWITCH: an AUTO feed switches to side B (R299). -/
def execFhFeedSwitch (feed : Fin 3) (s : State) : Host.Outcome State Fault Refusal :=
  .next (if s.feedSwitches feed.val then s.feedTo feed.val 1 else s)

/-- FH_FEED_RETURN_TIMER: all flows of a feed have been valid on side A for 1 s (R299). -/
def execFhFeedReturnTimer (feed : Fin 3) (s : State) : Host.Outcome State Fault Refusal :=
  .next (
    let k := feed.val
    if decide (s.fget FHL_FEED.SIDE k = 2 ∧ s.feedSide k = 1) && (s.feedFlows k).all fun f => s.flowValid f 0 && decide ((s.flow f).sinceA + 1000000 ≤ s.us + 1)
    then s.feedTo k 0
    else s)

/-- A write of FHL_FEEDk (R299, R311): a feed on one side uses it; an AUTO feed keeps the side in use. -/
def feedWrite (k : Nat) (v : Word) (s : State) : WRes :=
  let side := bitsOf v 31 30
  let rel := bitsOf v 10 0
  if side = 3 ∨ rel < 200 ∨ 2000 < rel then .error .outOfRange
  else
    let t := (s.fset FHL_FEED.SIDE k side).fset FHL_FEED.RELEASE_NS k rel
    if side < 2 ∧ t.feedSide k ≠ side then .ok (t.feedTo k side) else .ok t

/-- FH_PREEMPT_VERIFY: the verification exchange of a side ends (R294). -/
def execFhPreemptVerify (side : Fin 2) (ok : Bool) (s : State) : Host.Outcome State Fault Refusal :=
  .next (if s.sideUp side.val && s.fon (sidePreFld side.val) 0 then (s.fsetB (sideOkFld side.val) 0 ok).alignRefresh else s)

/-- A valid fibre delay is filtered into HOP_NS (R307). -/
def State.hopTake (s : State) (h : Int) : State :=
  let s := (s.setAlign { s.fhl.align with hop := some h, hopValid := true, far := [] }).timerStart tmHopValid 0 s.ms
  (s.fset FHL_HOP.HOP_NS 0 (clampI 0 65535 (roundDiv h 65536)).toNat).alignRefresh

/-- Values that agree: within 100 ns of each other. -/
def hopsAgree (l : List Int) : Bool := l.all fun x => l.all fun y => decide ((x - y).natAbs ≤ 100 * 65536)

/-- A fibre delay in 2^-16 ns (R307). -/
def State.hopValue (s : State) (x : Int) : State :=
  if x < 0 ∨ 60000 * 65536 < x then s.pulse pgFHL evtRange
  else
    match s.fhl.align.hop with
    | none => s.hopTake x
    | some h =>
      if (x - h).natAbs ≤ 100 * 65536 then (s.tookFree).hopTake (h + openRound s.freeVal (x - h) 8)
      else
        let far := (x :: s.fhl.align.far).take 3
        if far.length = 3 ∧ hopsAgree far then s.hopTake x else s.setAlign { s.fhl.align with far := far }

/-- A Request arrives: it is answered with its receive stamp, and on side A gives d_in (R307). -/
def State.owdRequested (s : State) (d lane : Nat) (id : Fin 256) (stamp rx : Nat) : State :=
  let s := if d = 0 then s.setAlign { s.fhl.align with dIn := some ((rx : Int) - stamp) } else s
  s.fhSend d lane (.owdResponse id rx) false

/-- A Response arrives (R307). -/
def State.owdAnswered (s : State) (d : Nat) (id stamp : Nat) : State :=
  match (Tbl.get (fun _ => none) s.fhl.align.owdSent d : Option (Nat × Nat)), s.fhl.align.dIn with
  | some (q, t), some dIn =>
    if d = 0 ∧ q = id then s.hopValue ((((stamp : Int) - t) + dIn) * 32768) else s
  | _, _ => s

/-- A Request leaves on a side. -/
def State.owdSend (s : State) (d : Nat) : State :=
  if s.sideUp d then
    let id := s.fhl.align.owdId % 256
    let s := s.setAlign { s.fhl.align with owdSent := Tbl.set (fun _ => none) s.fhl.align.owdSent d (some (id, s.ptpNs)) }
    s.fhSend d 0 (.owdRequest (byteOf id) s.ptpNs) false
  else s

/-- HOP_MEAS_PERIOD: MEAS_PERIOD_MS elapses; a Request leaves on each up side (R307). -/
def execHopMeasPeriod (s : State) : Host.Outcome State Fault Refusal :=
  .next (
    let t := ((s.owdSend 0).owdSend 1).timerStart tmHopPeriod 0 s.ms
    t.setAlign { t.fhl.align with owdId := t.fhl.align.owdId + 1 })

/-- HOP_NS_TIMEOUT: no valid value for 10 × MEAS_PERIOD_MS (R307). -/
def execHopNsTimeout (s : State) : Host.Outcome State Fault Refusal :=
  .next (
    if s.timerDue tmHopValid 0 s.ms (10 * s.fget FHL_MEAS.MEAS_PERIOD_MS 0) then
      ((s.timerStop tmHopValid 0).setAlign { s.fhl.align with hopValid := false }).alignRefresh
    else s)

/-! Alignment messages (R308, R309). -/

/-- An alignment message (R308): one of this group that arrives on side A at a node that is not the first. -/
def State.alignMessage (s : State) (d version group hop : Nat) (noPreempt reserved : Bool) (accOut target : Nat) : State :=
  if version ≠ 1 ∨ !reserved then s.fhDiscard d
  else if !s.fon FHL_ALIGN_CFG.EN 0 || decide (group ≠ s.fget FHL_ALIGN_CFG.GROUP 0) || s.firstNode || decide (d ≠ 0) then s
  else
    ((s.setAlign { s.fhl.align with msg := some (accOut, hop, noPreempt, target), msgValid := true }).timerStart tmAlignMsg 0 s.ms).alignRefresh

/-- ALIGN_PERIOD: a node with an ACC sends its message on side B (R308); RES is 128 ns (R303). -/
def execAlignPeriod (s : State) : Host.Outcome State Fault Refusal :=
  .next (
    let s := (s.timerStart tmAlignPeriod 0 s.ms).alignRefresh
    match s.fhl.align.acc with
    | none => s
    | some acc =>
      let out := BitVec.ofInt 32 (roundDiv acc 4096 + 2048)
      let group := s.fget FHL_ALIGN_CFG.GROUP 0
      let frame := FhFrame.align 1 (byteOf group) (byteOf s.alignHop) s.alignNoPreempt true out
        (BitVec.ofNat 16 s.alignTarget)
      if s.fon FHL_ALIGN_CFG.EN 0 && s.sideUp 1 then s.fhSend 1 0 frame false else s)

/-- ALIGN_MESSAGE_TIMEOUT: no valid message for 3 × ALIGN_PERIOD_MS (R309). -/
def execAlignMessageTimeout (s : State) : Host.Outcome State Fault Refusal :=
  .next (
    if s.timerDue tmAlignMsg 0 s.ms (3 * s.fget FHL_MEAS.ALIGN_PERIOD_MS 0) then
      ((s.timerStop tmAlignMsg 0).setAlign { s.fhl.align with msgValid := false }).alignRefresh
    else s)

/-- The step of the servo for a path at a frame boundary (R309). -/
def State.alignPath (s : State) (p : Nat) : State :=
  let have_ : Int := s.fget CHN_PATH_DLY.DELAY_NS p
  let step := s.fhl.align.d - have_
  if step.natAbs ≤ 1 then s
  else if s.pathState p = pathOFF then s.setDelayNs p s.fhl.align.d.toNat
  else s.setDelayNs p (have_ + clampI (-5) 5 step).toNat

/-- The alignment servo at a frame boundary of a path's timing group (R309). -/
def State.alignServo (s : State) (p : Nat) : State :=
  if s.fbit FHL_ALIGN_PATHS.PATHS 0 p then
    let s := s.alignRefresh
    if s.fget FHL_ALIGN_STAT.STATE 0 = alALIGNED then s.alignPath p else s
  else s

/-- A write of FHL_ALIGN_CFG, FHL_ALIGN_TARGET or FHL_ALIGN_PATHS (R308, R311): the alignment follows; one that is switched on or off, or moved to
another group or place, forgets what it had received. -/
def alignWrite (off : Nat) (v : Word) (s : State) : WRes :=
  match s.mergeReg pgFHL off (0x10000 + off) v with
  | .error r => .error r
  | .ok t =>
    let key := FHL_ALIGN_CFG.EN.key 0
    let t := if t.word key = s.word key then t else t.setAlign { t.fhl.align with msg := none, msgValid := false, acc := none }
    .ok t.alignRefresh

/-! Streams (R57, R59, R288, R297). -/

/-- A write of CHN_STREAMs: the coefficients of its instance follow RATE (R121), its half of the link group restarts, flows follow LINK, and the
latencies of its paths and the chain gains follow (R269, R273). -/
def streamAccess (stream : Nat) (v : Word) (s : State) : WRes :=
  match streamWrite stream v s with
  | .error r => .error r
  | .ok t =>
    let t := if decide (stream < 32) && decide (t.fget CHN_STREAM.RATE stream ≠ s.fget CHN_STREAM.RATE stream) then t.rateChanged stream else t
    let t := (t.restartHalf stream).flowsRefresh.fibreRefresh
    let moved := decide (t.fget CHN_STREAM.LINK stream ≠ s.fget CHN_STREAM.LINK stream)
    let refresh (t : State) (p : Nat) : State :=
      if (t.readsOf p ++ t.writesOf p).contains stream then (if moved then t.placePath p else t.refreshPath p) else t
    .ok ((t.paths.foldl refresh t).recalSince s)

/-- STREAM_CONFIG_WRITE: a write of CHN_STREAMs (R59). -/
def execStreamConfigWrite (who : Init) (stream : Fin 64) (value : Word) (s : State) : Host.Outcome State Fault Refusal :=
  .next (s.access who pgCHN (0x100 + 4 * stream.val) value (streamAccess stream.val value))

end Sys2Proof.Machine
end

