-- ==== Sys2Proof/Machine/Frame.lean ====
section
/-!
DEFINITION. What a frame boundary of a timing group does (R27, R64, R69, R80, R185, R202, R217, R245, R309).
-/
namespace Sys2Proof.Machine

/-- No context of a path is RAMPING, ACTIVE, HELD or DRAINING (R69). -/
def State.pathQuiet (s : State) (p : Nat) : Bool :=
  (s.ctxsOfPath p).all fun c => !ctxRuns (s.ctxState c) && decide (s.ctxState c ≠ ctxDRAINING)

/-- A turn-on that waits for the boundary (R80): the path is ON if the active image places it. -/
def State.turnOnAt (s : State) (p : Nat) : State :=
  if (s.pathRt p).turnOn && decide (s.pathState p = pathOFF) && decide (s.fget PWR_STAT.STATE 0 < 2) then
    if s.placed p then s.turnOn p else s.setEnable p true
  else s

/-- A new GRID_OFFSET_NS takes effect (R185). -/
def State.offsetAtBoundary (s : State) (p : Nat) : State :=
  let new := s.fgetI GGR_PCFG.GRID_OFFSET_NS p
  if (s.pathGrid p).offset = new then s else s.refreshLag p new

/-- A frame boundary at a path of the group. -/
def State.pathBoundary (s : State) (p : Nat) : State :=
  let s := if s.pathState p = pathOFF then s else s.windowsInForce p
  let s := s.offsetAtBoundary p
  let s := s.alignServo p
  let s := s.delayAtBoundary p (s.pathQuiet p)
  s.turnOnAt p

/-- A frame boundary of a group falls. -/
def State.frameBoundary (s : State) (g : Nat) : State :=
  let s := s.passBoundary g
  let s := (s.paths.filter fun p => decide (s.groupOf p = g)).foldl (fun s p => s.pathBoundary p) s
  (s.foxBoundary g).patternsAtBoundary

/-- FRAME_BOUNDARY: a frame boundary of a timing group falls (R202), while CD0 runs (R14, R20). -/
def execFrameBoundary (group : Fin 8) (s : State) : Host.Outcome State Fault Refusal :=
  .next (if s.works pgFTM then s.frameBoundary group.val else s)

end Sys2Proof.Machine
end

