-- ==== Sys2Proof/Machine/Swap.lean ====
section
/-!
DEFINITION. Chapter 4: the swap of schedule images (R98 to R109) up to the point of no return, its effects at the boundary, and table
integrity (R110).
-/
namespace Sys2Proof.Machine

/-- States of SCH_SWAP_STAT (R111). -/
def swIDLE : Nat := 0
def swPLANNING : Nat := 1
def swDRAINING : Nat := 2
def swWAITING : Nat := 3
def swDONE : Nat := 4
def swREFUSED : Nat := 5

def State.swapState (s : State) : Nat := s.fget SCH_SWAP_STAT.STATE 0

/-- A swap is in progress: a slot is ARMED. -/
def State.armedSlot (s : State) : Option Nat := [0, 1].find? fun k => decide (s.slotState k = slotARMED)

/-- The slot that an ARM names: the non-active one; with no active slot, the first that is VERIFIED (R99). -/
def State.armTarget (s : State) : Nat :=
  match s.sch.active with
  | some a => 1 - a
  | none => if s.slotState 0 = slotVERIFIED then 0 else 1

/-! The plan (R101, R102). -/

/-- A path's entry, and an instance's entry, in a slot. -/
def State.pathBytes (s : State) (slot p : Nat) : Option (List Nat) := (s.pathEntry slot p).map fun a => s.imgList slot a 16
def State.canBytes (s : State) (slot n : Nat) : Option (List Nat) := (s.canEntry slot n).map fun a => s.imgList slot a 8

/-- A path is placed in the active image. -/
def State.placedNow (s : State) (p : Nat) : Bool := s.placed p

/-- A path placed in both images is KEPT (R101). -/
def State.pathKept (s : State) (slot p : Nat) : Bool :=
  match s.sch.active with
  | none => false
  | some a =>
    decide (s.pathBytes a p = s.pathBytes slot p) &&
      ((s.readsOf p).filter fun n => s.member.present n).all fun n => decide (s.canBytes a n = s.canBytes slot n)

/-- The classes of R101 as masks: KEPT, MOVED, REMOVED, ADDED. -/
structure Plan where
  kept : List Nat
  moved : List Nat
  removed : List Nat
  added : List Nat
deriving DecidableEq, Repr

def State.planOf (s : State) (slot : Nat) : Plan :=
  let both := s.paths.filter fun p => s.placedNow p && s.placedIn slot p
  { kept := both.filter fun p => s.pathKept slot p
    moved := both.filter fun p => !s.pathKept slot p
    removed := s.paths.filter fun p => s.placedNow p && !s.placedIn slot p
    added := s.paths.filter fun p => !s.placedNow p && s.placedIn slot p }

/-- The contexts that hold an entry of a rate. -/
def State.slotHolders (s : State) (tick : Nat) : List Nat :=
  s.liveCtxs.filter fun c => match (s.ctxRt c).slot with | some (t, _) => decide (t = tick) | none => false

/-- The order in which contexts keep entries (R102): those past CONFIGURED first, then class, then index. -/
def State.keepRank (s : State) (c : Nat) : Nat := (if s.ctxState c = ctxCONFIGURED then 4 else 0) + s.cget CTX_CTRL.PRIO c

/-- The holders of a rate in that order. -/
def State.keepOrder (s : State) (tick : Nat) : List Nat :=
  (List.range 8).flatMap fun k => (s.slotHolders tick).filter fun c => decide (s.keepRank c = k)

/-- The contexts that find no entry in a slot's pools (R102). -/
def State.evictions (s : State) (slot : Nat) : List Nat :=
  (List.range 4).flatMap fun tick => (s.keepOrder tick).drop (s.poolTotal slot tick)

/-- Paths that the plan drains: MOVED or REMOVED and not OFF. -/
def State.planDrains (s : State) (x : Plan) : List Nat := (x.moved ++ x.removed).filter fun p => decide (s.pathState p ≠ pathOFF)

/-- An arming is refused, or an armed swap ends, with a reason (R109). -/
def State.swapRefused (s : State) (reason : Nat) : State :=
  ((s.fset SCH_SWAP_STAT.STATE 0 swREFUSED).fset SCH_SWAP_STAT.REASON 0 reason).pulse pgSCH 3

/-- The plan registers and EVICT. -/
def State.showPlan (s : State) (x : Plan) (evicted : List Nat) : State :=
  let s := ((s.fset SCH_PLAN_KEPT.PATHS 0 (maskOf x.kept)).fset SCH_PLAN_MOVED.PATHS 0 (maskOf x.moved)).fset SCH_PLAN_REMOVED.PATHS 0 (maskOf x.removed)
  (s.fset SCH_PLAN_ADDED.PATHS 0 (maskOf x.added)).fset SCH_SWAP_STAT.EVICT 0 evicted.length

/-- The drains and STOPs of a plan begin (R101, R102). -/
def State.startDrains (s : State) (drains evicted : List Nat) : State :=
  let s := drains.foldl (fun s p => s.setEnable p false) s
  evicted.foldl (fun s c =>
    if ctxRuns (s.ctxState c) || decide (s.ctxState c = ctxMUTED) then s.setCtxRt c { s.ctxRt c with drainReq := true } else s) s

/-- A strict arming whose plan needs a drain or a running eviction (R101, R102). -/
def State.strictFails (s : State) (drains evicted : List Nat) : Bool :=
  !drains.isEmpty || evicted.any fun c => decide (s.ctxState c ≠ ctxCONFIGURED)

/-- Why an arming is refused before the plan (R99, R100): its reason code. -/
def State.armRefused (s : State) (slot : Nat) (fallback : Bool) (at_ : Option Nat) (g : Nat) : Option Nat :=
  let st := s.slotState slot
  if st ≠ slotVERIFIED ∧ st ≠ slotFORMER then some 1
  else if fallback && decide (st ≠ slotFORMER) then some 7
  else if !fallback && !s.vGeneration slot then some 2
  else
    match at_ with
    | none => none
    | some ord => if 2 ≤ ordDiff ord (s.groupOrd g) ∧ ordDiff ord (s.groupOrd g) ≤ 65535 then none else some 4

/-- An accepted arming with its plan (R100 to R103, steps 1 and 2). -/
def State.armed (s : State) (slot : Nat) (drain : Bool) (at_ : Option Nat) (g : Nat) : State :=
  let x := s.planOf slot
  let ev := s.evictions slot
  let dr := s.planDrains x
  let s := s.showPlan x ev
  if !drain && s.strictFails dr ev then s.swapRefused 3
  else
    let s := { s with sch := { s.sch with armedFrom := s.slotState slot, armDt := s.dt, drainsDone := s.dt, armGroup := g, armOrd := at_ } }
    let s := { s with sch := { s.sch with staged := false, evicted := ev, drained := maskOf dr } }
    let s := ((s.setSlot slot slotARMED).fset SCH_SWAP_STAT.STATE 0 swDRAINING).fset SCH_SWAP_STAT.REASON 0 0
    s.startDrains dr ev

/-- An ARM (R99, R100). -/
def State.arm (s : State) (drain fallback : Bool) (at_ : Option Nat) (g : Nat) : State :=
  match s.armRefused s.armTarget fallback at_ g with
  | some r => s.swapRefused r
  | none => s.armed s.armTarget drain at_ g

/-- An armed swap ends before the point of no return: the slot is again what it was (R99, R109). -/
def State.swapEnds (s : State) (slot reason : Nat) : State := (s.setSlot slot s.sch.armedFrom).swapRefused reason

/-- A write of SCH_SWAP_CTRL (R99, R109, R111). CMD 3 is no command. -/
def swapCtrlWrite (v : Word) (s : State) : WRes :=
  let cmd := bitsOf v 31 30
  let put (s : State) : State :=
    ((s.fset SCH_SWAP_CTRL.MODE 0 (bitsOf v 29 29)).fset SCH_SWAP_CTRL.FALLBACK 0 (bitsOf v 28 28)).fset SCH_SWAP_CTRL.AT 0 (bitsOf v 27 27)
      |>.fset SCH_SWAP_CTRL.TGROUP 0 (bitsOf v 26 24)
  if cmd = 0 then .ok (put s)
  else if cmd = 3 then .error .outOfRange
  else
    match s.armedSlot with
    | some slot =>
      if cmd = 1 then .error .configLocked
      else if s.sch.staged then .error .windowBusy
      else .ok ((put s).swapEnds slot 5)
    | none =>
      if cmd = 2 then .error .configLocked
      else
        let at_ := if bitsOf v 27 27 = 1 then some (s.fget SCH_SWAP_AT.ORDINAL 0) else none
        .ok ((put s).arm (decide (bitsOf v 29 29 = 1)) (decide (bitsOf v 28 28 = 1)) at_ (bitsOf v 26 24))

/-- SWAP_ARM: a write of SCH_SWAP_CTRL with CMD = 1 (R100). -/
def execSwapArm (who : Init) (drain fallback at_ : Bool) (group : Fin 8) (s : State) : Host.Outcome State Fault Refusal :=
  let v := BitVec.ofNat 32 (2 ^ 30 + (if drain then 2 ^ 29 else 0) + (if fallback then 2 ^ 28 else 0) + (if at_ then 2 ^ 27 else 0) + group.val * 2 ^ 24)
  .next (s.access who pgSCH 0x090 v (swapCtrlWrite v))

/-- SWAP_DISARM: a write of SCH_SWAP_CTRL with CMD = 2, the other fields as they stand (R109). -/
def execSwapDisarm (who : Init) (s : State) : Host.Outcome State Fault Refusal :=
  let v := putBits (s.word (SCH_SWAP_CTRL.MODE.key 0)) 31 30 2
  .next (s.access who pgSCH 0x090 v (swapCtrlWrite v))

/-- Every drained path is OFF, and every evicted context is CONFIGURED (R103 step 3). -/
def State.drainsEnded (s : State) : Bool :=
  (s.paths.all fun p => !s.sch.drained.testBit p || decide (s.pathState p = pathOFF)) &&
    s.sch.evicted.all fun c => decide (s.ctxState c ≤ ctxCONFIGURED)

/-- SWAP_DRAINS_DONE: the plan's drains have ended (R103 step 3). -/
def execSwapDrainsDone (s : State) : Host.Outcome State Fault Refusal :=
  .next (
    if decide (s.swapState = swDRAINING) && s.armedSlot.isSome && s.drainsEnded then
      ({ s with sch := { s.sch with drainsDone := s.dt } }).fset SCH_SWAP_STAT.STATE 0 swWAITING
    else s)

/-- A frame boundary of the swap's group satisfies R100: its time and its ordinal. -/
def State.boundaryFits (s : State) (t ord : Nat) : Bool :=
  decide (s.sch.drainsDone + ticksOfUs 2 ≤ t ∧ s.sch.armDt + ticksOfUs 22 ≤ t) &&
    match s.sch.armOrd with
    | none => true
    | some o => decide (0 ≤ ordDiff ord o)

/-- The frame boundary F of R100, when it is the current boundary of the group or the next one. -/
def State.swapFrame (s : State) : Option Nat :=
  let g := s.sch.armGroup
  let now := s.groupB g
  let next := (s.frameStart g 1).toNat
  if s.boundaryFits now (s.groupOrd g) then some now
  else if s.boundaryFits next ((s.groupOrd g + 1) % 2 ^ 32) then some next
  else none

/-- The swap boundary B: the first control engine period boundary at or after F (R86, R100). -/
def periodAt (f : Nat) : Nat := ceilDiv f 20480 * 20480

/-- SWAP_POINT_OF_NO_RETURN: 2 µs before B the swap strobe is staged (R103 step 4). -/
def execSwapPointOfNoReturn (s : State) : Host.Outcome State Fault Refusal :=
  .next (
    if decide (s.swapState = swWAITING) && s.armedSlot.isSome && !s.sch.staged then
      match s.swapFrame with
      | none => s
      | some f =>
        let s := s.advanceTo (periodAt f - ticksOfUs 2)
        { s with sch := { s.sch with staged := true, boundary := periodAt f } }
    else s)

/-! At the boundary (R103 to R108). -/

/-- Entries that contexts keep take places in the pool of the new image (R102), whose ticks begin at B (R106). -/
def State.rebind (s : State) (tick : Nat) : State :=
  (s.slotHolders tick).zipIdx.foldl (fun s x => s.bindEntry x.1 tick x.2) s

/-- The totals and free counts of the pools, and the load figures of the active image (R111). -/
def State.showImage (s : State) (slot : Nat) : State :=
  let s := (List.range 4).foldl (fun s tick =>
    let total := s.poolTotal slot tick
    (s.fset (poolTotalFld tick) 0 total).fset (poolFreeFld tick) 0 (total - (s.slotHolders tick).length)) s
  let m2g := match s.sectionOf slot 0x0022 with | some c => s.imgBE slot (c.off + 10) 2 | none => 0
  (s.fset SCH_CE_LOAD.USED 0 (s.deviceUse slot 0x0002)).fset SCH_M2G.CYCLES 0 m2g

/-- A slot becomes ACTIVE, and the one before it FORMER (R99, R103): pools, paths and canceller instances follow (R105, R136). A table error was one of
the slot before. -/
def State.activate (s : State) (slot : Nat) : State :=
  let before := (unitsOf s.member).map fun n => (n, s.canReduced n)
  let s := match s.sch.active with | some a => s.setSlot a slotFORMER | none => s
  let s := { s with sch := { s.sch with active := some slot, tableBad := false } }.drive 96 false
  let s := (s.setSlot slot slotACTIVE).fset SCH_ACTIVE.GEN 0 (s.fget (slotGenFld slot) 0)
  let s := ((s.fset SCH_ACTIVE.SLOT 0 slot).showImage slot)
  let s := (List.range 4).foldl (fun s tick => s.rebind tick) s
  let s := s.paths.foldl (fun s p => s.placePath p) s
  before.foldl (fun s x => s.canSwap x.1 x.2) s

/-- A context evicted at B loses its entry and reads CMD_RESULT = 6 (R102). DESIGN CHOICE (log 175): so does one of the plan that has been
released or started again since its drain; one that is past CONFIGURED at B is CONFIGURED from B. -/
def State.evictCtx (s : State) (c : Nat) : State :=
  let s := if ctxCONFIGURED < s.ctxState c then s.setCtxState c ctxCONFIGURED else s
  (s.freeSlot c).cmdResult c 6

/-- Evicted contexts lose their entries (R102). -/
def State.evict (s : State) (cs : List Nat) : State :=
  let s := cs.foldl State.evictCtx s
  if cs.isEmpty then s else s.pulse pgSCH 4

/-- The contexts evicted at B: those of the plan, and those that have taken an entry since and find no place in the new pools, which never
carry more than the image states (R84, R102). -/
def State.evictedAt (s : State) (slot : Nat) : List Nat :=
  let planned := s.sch.evicted
  let later := (List.range 4).flatMap fun tick => ((s.keepOrder tick).filter fun c => !planned.contains c).drop (s.poolTotal slot tick)
  planned ++ later

/-- MOVED paths that the plan drained are ON from B (R105). -/
def State.movedOn (s : State) : State :=
  s.paths.foldl (fun s p =>
    if s.sch.drained.testBit p && s.fbit SCH_PLAN_MOVED.PATHS 0 p && !s.fon FLT_STAT.SAFE 0 then (s.fset CHN_PATH_CFG.ENABLE p 1).turnOn p else s) s

/-- A trace channel without a node slot in the new image ends (R108). -/
def State.tracesCut (s : State) : State :=
  (List.range 16).foldl (fun s ch => if s.tracing ch && decide (s.traceNodes ≤ ch) then s.traceDone ch else s) s

/-- What the boundary does but for capture sessions (R103 steps 5 and 6). DESIGN CHOICE (log 214): a REMOVED path that the host has enabled again
between the end of its drain and B stays ON. -/
def State.swapAt (s : State) (slot : Nat) : State :=
  let s := s.advanceTo s.sch.boundary
  let s := ((s.evict (s.evictedAt slot)).activate slot).movedOn
  let s := (s.tracesCut).carriersCut
  let s := s.fbump SCH_ACTIVE.SWAPS 0
  let s := (s.fset SCH_SWAP_DT_LO.DT 0 (s.sch.boundary % 2 ^ 32)).fset SCH_SWAP_DT_HI.DT 0 (s.sch.boundary / 2 ^ 32)
  let s := { s with sch := { s.sch with staged := false, evicted := [], drained := 0 } }
  (s.fset SCH_SWAP_STAT.STATE 0 swDONE).pulse pgSCH 2

/-! Table integrity (R110). -/

/-- TABLE_ECC_ERROR: a table word of the active slot is read with one wrong bit, which is corrected, or with two (R110). -/
def execTableEccError (double : Bool) (s : State) : Host.Outcome State Fault Refusal :=
  .next (
    if s.sch.active.isNone then s
    else if double then
      let s := { s with sch := { s.sch with tableBad := true } }
      (s.pulse pgSCH 6).drive 96 true
    else (s.fbump SCH_TABLE_ECC.CORR 0).pulse pgSCH 5)

/-- TABLE_SCRUB: the scrub of 16 ms finds an uncorrectable error in a slot (R110). -/
def execTableScrub (slot : Fin 2) (bad : Bool) (s : State) : Host.Outcome State Fault Refusal :=
  .next (
    if bad && decide (s.slotState slot.val = slotVERIFIED ∨ s.slotState slot.val = slotFORMER) then s.refuseSlot slot.val 0x0E else s)

end Sys2Proof.Machine
end

