-- ==== Sys2Proof/Machine/Gcp.lean ====
section
/-!
DEFINITION. Chapter 12, second part: packets arrive, take buffers, wait in queues, execute and are answered (R313 to R335), but for the
register accesses and capture.
-/
namespace Sys2Proof.Machine

/-! Arrival (R313, R314, R317, R318). -/

def tmHost : Nat := 80
def tmMgeLink : Nat := 81

/-- The page of a transport. -/
def transportPage (t : Nat) : Nat := if t = 0 then pgPCIE else if t = 1 then pgMGE else pgFHL

/-- The type code of INFO. -/
def typINFO : Nat := 0x01

/-- LENGTH of a packet's header (R313). -/
def lengthOf (b : List Nat) : Nat := beValue ((b.drop 8).take 2)

/-- The format of a request is kept (R314). INFO is accepted whatever its IDENT, without a tag (R319). -/
def pktOk (b : List Nat) : Bool :=
  let info := decide (b.getD 1 0 = typINFO)
  decide (16 ≤ b.length) && decide (b.getD 0 0 / 16 = 1) && decide (b.getD 0 0 / 4 % 4 ≠ 3) && decide (b.getD 0 0 % 4 = 0) &&
    (if info then decide (b.getD 2 0 < 32) else decide (b.getD 2 0 ≤ 0x12)) &&
    decide (b.length = 16 + lengthOf b + (if info then 0 else 16))

/-- The request that a packet carries (R313). -/
def parsePkt (transport source : Nat) (b : List Nat) : Pkt :=
  { cls := b.getD 0 0 / 4 % 4, typ := b.getD 1 0, ident := b.getD 2 0 % 32, transport := transport, source := source
    seq := beValue ((b.drop 4).take 4), arg16 := beValue ((b.drop 10).take 2), arg32 := beValue ((b.drop 12).take 4)
    payload := (b.drop 16).take (lengthOf b), at_ := 0 }

/-- The distance of a SEQ above the highest accepted, mod 2^32 (R318). -/
def seqAbove (seq high : Nat) : Nat := (seq + 2 ^ 32 - high) % 2 ^ 32

/-- A SEQ that lies 2^31 from the highest accepted is unordered (R318). -/
def Replay.unordered (r : Replay) (seq : Nat) : Bool :=
  match r.high with
  | some h => decide (seqAbove seq h = 2 ^ 31)
  | none => false

/-- The window after a SEQ that it accepts (R318); none for one that was seen, is older or is unordered. -/
def Replay.see (r : Replay) (seq : Nat) : Option Replay :=
  match r.high with
  | none => some { r with high := some seq, seen := 0 }
  | some h =>
    let d := seqAbove seq h
    if d = 0 then none
    else if d < 2 ^ 31 then some { r with high := some seq, seen := if d ≤ 64 then (r.seen * 2 ^ d + 2 ^ (d - 1)) % 2 ^ 64 else 0 }
    else if d = 2 ^ 31 then none
    else
      let b := 2 ^ 32 - d
      if 64 < b || r.seen.testBit (b - 1) then none else some { r with seen := r.seen + 2 ^ (b - 1) }

/-- The last four requests take in a new one. -/
def Replay.note (r : Replay) (seq : Nat) : Replay :=
  let l := r.cache ++ [(seq, none)]
  { r with cache := l.drop (l.length - 4) }

/-- The answer that is kept for a SEQ. -/
def Replay.kept (r : Replay) (seq : Nat) : Option OutPkt :=
  match r.cache.find? fun e => decide (e.1 = seq) with
  | some (_, some o) => some o
  | _ => none

/-- An authenticated request restarts the host's period and ends its loss (R332); management Ethernet remembers its source (R324). -/
def State.hostSeen (s : State) (p : Pkt) : State :=
  let t := if s.fget GCP_HOST.HOST_TO_S 0 = 0 then s.timerStop tmHost 0 else s.timerStart tmHost 0 s.sec_
  let t := (if t.driven 156 then t.drive 156 false else t).inputValid pgGCP 0
  if p.transport = 1 then { t with gcp := { t.gcp with lastSource := Tbl.set (fun _ => none) t.gcp.lastSource p.ident (some p.source) } } else t

/-- A replayed request: its kept answer is sent again, or it is discarded and counted (R318). -/
def State.replayed (s : State) (r : Replay) (p : Pkt) : State :=
  match (if r.unordered p.seq then none else r.kept p.seq) with
  | some o => (s.hostSeen p).sendOut { o with buf := false }
  | none => (s.fbump GCP_SEC_CNT.REPLAY 0).pulse pgGCP 1

/-- The checks of a packet that arrives (R314, R317, R318): the request, when it is to be executed. ROM recovery serves INFO alone (R400). -/
def State.checkPkt (s : State) (transport source : Nat) (raw : RawPkt) : State × Option Pkt :=
  let b := raw.bytes.map fun x => x.val
  let p := parsePkt transport source b
  if !pktOk b then (s.pulse (transportPage transport) evtRange, none)
  else if p.typ = typINFO then (s, some p)
  else if s.rst.recovery then (s, none)
  else if !s.tagGood p.ident transport b then (((s.fbump GCP_SEC_CNT.AUTH_FAIL 0).pulse pgGCP 0).post 0x6001 p.ident transport 0, none)
  else
    let k := replayKey transport p.ident
    match (s.replayOf k).see p.seq with
    | some r => ((s.setReplay k (r.note p.seq)).hostSeen p, some p)
    | none => (s.replayed (s.replayOf k) p, none)

/-- Packets that wait for a buffer. -/
def State.arrivedAt (s : State) (k : Nat) : List Pkt := Tbl.get (fun _ => []) s.gcp.arrived k

def State.setArrived (s : State) (k : Nat) (l : List Pkt) : State := { s with gcp := { s.gcp with arrived := Tbl.set (fun _ => []) s.gcp.arrived k l } }

/-- The ring index that consumes a slot advances (R325). -/
def State.consume (s : State) (c : Nat) : State := s.fset PCIE_IDX.RQ_CONS c ((s.fget PCIE_IDX.RQ_CONS c + 1) % 64)

/-- A packet arrives on management Ethernet (1) or on the fronthaul (2). -/
def State.pktIn (s : State) (transport source : Nat) (raw : RawPkt) : State :=
  if !s.works pgGCP || !s.works (transportPage transport) || s.pwr.transportsOff then s
  else
    match s.checkPkt transport source raw with
    | (t, some p) => t.setArrived (2 + transport) (t.arrivedAt (2 + transport) ++ [p])
    | (t, none) => t

/-- The host has filled a slot of the request ring of a class (R325). -/
def State.setRqSlot (s : State) (c : Nat) (b : List Nat) : State :=
  { s with gcp := { s.gcp with rqSlots := Tbl.set (fun _ => []) s.gcp.rqSlots (64 * c + s.fget PCIE_IDX.RQ_CONS c) (ringSlot b) } }

/-- A slot of the request ring of class c is read, when the host has filled one (R325). -/
def State.ringIn (s : State) (c : Nat) (raw : RawPkt) : State :=
  if !s.works pgGCP || !s.works pgPCIE || !s.ringsServe || s.pwr.transportsOff || !s.fon PCIE_STAT.LINK_UP 0 || !s.fon PCIE_RING.EN c || !(s.arrivedAt c).isEmpty ||
      decide (s.fget PCIE_RQ_PROD.PROD c = s.fget PCIE_IDX.RQ_CONS c) then s
  else
    match (s.setRqSlot c (raw.bytes.map fun x => x.val)).checkPkt 0 c raw with
    | (t, some p) => t.setArrived c [p]
    | (t, none) => t.consume c

/-- PACKET_RECEIVED: a packet arrives whole and is checked (R314, R317, R318). On PCI Express it is the content of the next slot of the request ring
`source`; elsewhere `source` is its sender. -/
def execPacketReceived (transport : Fin 3) (source : Nat) (pkt : RawPkt) (s : State) : Host.Outcome State Fault Refusal :=
  .next (
    if transport.val = 0 then s.ringIn (source % 3) pkt
    else if transport.val = 1 then (if s.fon MGE_CFG.EN 0 && s.fon MGE_STAT.LINK_UP 0 then s.pktIn 1 source pkt else s)
    else if s.sideUp (source / 65536 % 2) then s.pktIn 2 source pkt else s)

/-! PCI Express (R325, R342). -/

/-- A write of PCIE_RQ_PRODc: an index outside 0 to 63 is discarded and raises RANGE. -/
def rqProdWrite (c : Nat) (v : Word) (s : State) : WRes :=
  .ok (if 63 < v.toNat then s.pulse pgPCIE evtRange else s.fset PCIE_RQ_PROD.PROD c v.toNat)

/-- PCIE_RQ_PRODUCE: a write of PCIE_RQ_PRODc. -/
def execPcieRqProduce (who : Init) (cls : Fin 3) (index : Word) (s : State) : Host.Outcome State Fault Refusal :=
  .next (s.access who pgPCIE (0x084 + 16 * cls.val) index (rqProdWrite cls.val index))

/-- A write of PCIE_AN_CONSc: slots are free, and answers that wait are sent. -/
def anConsWrite (c : Nat) (v : Word) (s : State) : WRes :=
  .ok (if 63 < v.toNat then s.pulse pgPCIE evtRange else (s.fset PCIE_AN_CONS.CONS c v.toNat).flushRing c 512)

/-- PCIE_AN_CONSUME: a write of PCIE_AN_CONSc. -/
def execPcieAnConsume (who : Init) (cls : Fin 3) (index : Word) (s : State) : Host.Outcome State Fault Refusal :=
  .next (s.access who pgPCIE (0x08C + 16 * cls.val) index (anConsWrite cls.val index))

/-- The rings of a class are emptied, and their buffers freed without answer (R342). -/
def State.emptyRings (s : State) (c : Nat) : State :=
  let keep (l : List (Nat × List Nat)) : List (Nat × List Nat) := l.filter fun e => decide (e.1 / 64 ≠ c)
  let s := { s with gcp := { s.gcp with rqSlots := keep s.gcp.rqSlots, anSlots := keep s.gcp.anSlots } }
  let t := (s.queueOf c).foldl (fun s _ => s.freeBuf c) s
  let t := (t.anWaiting c).foldl (fun s o => s.freeOf o) t
  let t := ((t.setQueue c []).setAnWaiting c []).setArrived c []
  (t.fset PCIE_IDX.RQ_CONS c (t.fget PCIE_RQ_PROD.PROD c)).fset PCIE_IDX.AN_PROD c (t.fget PCIE_AN_CONS.CONS c)

/-- A write of PCIE_RINGc. -/
def ringWrite (c : Nat) (v : Word) (s : State) : WRes :=
  let t := s.fset PCIE_RING.EN c (bitsOf v 31 31)
  .ok (if bitsOf v 31 31 = 0 then t.emptyRings c else t.flushRing c 512)

/-- PCIE_RING_ENABLE: a write of PCIE_RINGc.EN. -/
def execPcieRingEnable (who : Init) (cls : Fin 3) (en : Bool) (s : State) : Host.Outcome State Fault Refusal :=
  let v : Word := if en then 0x80000000 else 0
  .next (s.access who pgPCIE (0x080 + 16 * cls.val) v (ringWrite cls.val v))

/-- The lanes of a link: 1, 2 or 4 (R342). -/
def lanesOf (w : Fin 3) : Nat := 2 ^ w.val

/-- The PCI Express link goes down (R325). -/
def State.pcieDown (s : State) : State :=
  let t := ((s.fset PCIE_STAT.LINK_UP 0 0).fset PCIE_STAT.SPEED 0 0).fset PCIE_STAT.WIDTH 0 0
  (t.pulse pgPCIE 1).inputLost pgPCIE 0

/-- PCIE_LINK_CHANGE: the link comes up, at a generation less 1 and a width, or goes down (R325). -/
def execPcieLinkChange (up : Bool) (speed : Fin 4) (width : Fin 3) (s : State) : Host.Outcome State Fault Refusal :=
  .next (
    if up = s.fon PCIE_STAT.LINK_UP 0 || !s.running pgPCIE then s
    else if up then
      let t := ((s.fset PCIE_STAT.LINK_UP 0 1).fset PCIE_STAT.SPEED 0 (speed.val + 1)).fset PCIE_STAT.WIDTH 0 (lanesOf width)
      ((((t.pulse pgPCIE 0).inputValid pgPCIE 0).flushRing 0 512).flushRing 1 512).flushRing 2 512
    else s.pcieDown)

/-! Management Ethernet (R326). -/

/-- The link-local address that EUI-64 forms from the MAC. -/
def State.linkLocal (s : State) : Nat :=
  let mac := s.fget MGE_MAC_HI.MAC 0 * 2 ^ 32 + s.fget MGE_MAC_LO.MAC 0
  let hi := mac / 2 ^ 24
  let flipped := if hi.testBit 17 then hi - 2 ^ 17 else hi + 2 ^ 17
  0xFE80 * 2 ^ 112 + flipped * 2 ^ 40 + 0xFFFE * 2 ^ 24 + mac % 2 ^ 24

/-- The global address; 0 stands for none. -/
def State.globalAddr (s : State) : Nat := (List.range 4).foldl (fun a k => a * 2 ^ 32 + s.fget MGE_ADDR.ADDR k) 0

/-- An address of the port. -/
def State.mgeMine (s : State) (a : Nat) : Bool := decide (a = s.linkLocal ∨ (s.globalAddr ≠ 0 ∧ a = s.globalAddr))

/-- A frame is too long, or its tag is not accepted (R326). -/
def State.mgeBad (s : State) (length : Nat) (vlan : Option (Fin 4096)) : Bool :=
  match vlan with
  | none => decide (1518 < length)
  | some v => decide (1522 < length) || !s.fon MGE_CFG.VLAN_EN 0 || decide (v.val ≠ s.fget MGE_CFG.VID 0)

/-- A frame is discarded and raises RANGE. -/
def State.mgeRange (s : State) : State := s.pulse pgMGE evtRange

/-- A frame is discarded and counted without an event. -/
def State.mgeDrop (s : State) : State := s.fbump MGE_STAT.DISCARDED 0

/-- A frame that arrives on management Ethernet. -/
def State.mgeFrame (s : State) (f : MgeFrame) : State :=
  match f with
  | .solicit n vlan a =>
    if s.mgeBad n vlan then s.mgeRange
    else if s.mgeMine a.toNat then { s with gcp := { s.gcp with mgeOut := s.gcp.mgeOut ++ [.advert a.toNat] } } else s.mgeDrop
  | .echo n vlan a data =>
    if s.mgeBad n vlan then s.mgeRange
    else if s.mgeMine a.toNat then { s with gcp := { s.gcp with mgeOut := s.gcp.mgeOut ++ [.echo a.toNat data] } } else s.mgeDrop
  | .udp n vlan a port fragment sumOk source pkt =>
    if s.mgeBad n vlan || fragment || !sumOk then s.mgeRange
    else if s.mgeMine a.toNat && decide (port.val = s.fget MGE_CFG.UDP_PORT 0) then s.pktIn 1 source pkt else s.mgeDrop
  | .other n vlan fragment => if s.mgeBad n vlan || fragment then s.mgeRange else s.mgeDrop

/-- MGE_FRAME: a frame arrives on management Ethernet, while the port is enabled and holds block lock (R326). -/
def execMgeFrame (frame : MgeFrame) (s : State) : Host.Outcome State Fault Refusal :=
  .next (if s.works pgMGE && s.fon MGE_CFG.EN 0 && s.fon MGE_STAT.LINK_UP 0 then s.mgeFrame frame else s)

/-- The port loses its block lock (R326). -/
def State.mgeDown (s : State) : State := ((s.fset MGE_STAT.LINK_UP 0 0).timerStart tmMgeLink 0 s.ms).pulse pgMGE 1

/-- MGE_LINK_CHANGE: the port gains or loses its block lock (R326, R343). -/
def execMgeLinkChange (up : Bool) (s : State) : Host.Outcome State Fault Refusal :=
  .next (
    if up = s.fon MGE_STAT.LINK_UP 0 || !s.running pgMGE then s
    else if up then (((s.fset MGE_STAT.LINK_UP 0 1).timerStop tmMgeLink 0).inputValid pgMGE 0).pulse pgMGE 0
    else s.mgeDown)

/-- MGE_LINK_TIMEOUT: the link has been down for 10 ms (R326). -/
def execMgeLinkTimeout (s : State) : Host.Outcome State Fault Refusal :=
  .next (if s.timerDue tmMgeLink 0 s.ms 10 then (s.timerStop tmMgeLink 0).inputLost pgMGE 0 else s)

/-! Buffers and queues (R328 to R332). -/

def State.noBufOf (s : State) (k : Nat) : Nat := Tbl.get (fun _ => 0) s.gcp.noBuf k

def State.setNoBuf (s : State) (k n : Nat) : State := { s with gcp := { s.gcp with noBuf := Tbl.set (fun _ => 0) s.gcp.noBuf k n } }

/-- A request takes a buffer and enters its queue (R328); its identity's run of no-buffer answers ends (R331). -/
def State.enqueue (s : State) (p : Pkt) : State :=
  let t := (s.takeBuf p.queue).setNoBuf (replayKey p.transport p.ident) 0
  t.setQueue p.queue (t.queueOf p.queue ++ [{ p with at_ := s.ms, lc := s.sec.lc }])

/-- Header-only answers of a transport that wait to leave (R331). -/
def State.stagingOf (s : State) (transport : Nat) : List OutPkt := Tbl.get (fun _ => []) s.gcp.staging transport

def State.setStaging (s : State) (transport : Nat) (l : List OutPkt) : State :=
  { s with gcp := { s.gcp with staging := Tbl.set (fun _ => []) s.gcp.staging transport l } }

/-- They leave, once the transport is free to send. -/
def State.flushStaging (s : State) (transport : Nat) : State := (s.stagingOf transport).foldl (fun t o => t.sendOut o) (s.setStaging transport [])

/-- A request without a buffer on management Ethernet or the fronthaul (R331): its header-only answer, delayed, enters the staging of its transport,
or it is discarded when the staging is full. -/
def State.noBuffer (s : State) (p : Pkt) : State :=
  let k := replayKey p.transport p.ident
  let l := s.stagingOf p.transport
  if 4 ≤ l.length then (s.fbump GCP_DROP_CNT.ANSWER_DISCARD 0).pulse pgGCP 7
  else
    let o := { p.answer (.delayed 2) 0 (s.fget GCP_TIME.RETRY_BASE_US 0 * 2 ^ min (s.noBufOf k) 6) [] with buf := false }
    (((s.setNoBuf k (s.noBufOf k + 1)).countAnswer (.delayed 2)).keepAnswer k o).setStaging p.transport (l ++ [o])

/-- The next PCI Express packet that can have a buffer takes it; a packet that cannot stays in its ring slot (R331). -/
def State.allocPcie (s : State) : State :=
  match [0, 1, 2].find? fun c => match s.arrivedAt c with | p :: _ => s.canAlloc p.queue | [] => false with
  | none => s
  | some c =>
    match s.arrivedAt c with
    | [] => s
    | p :: rest => ((s.setArrived c rest).enqueue p).consume c

/-- The next packet of management Ethernet (1) or of the fronthaul (2). -/
def State.allocFrame (s : State) (transport : Nat) : State :=
  match s.arrivedAt (2 + transport) with
  | [] => s
  | p :: rest =>
    let t := s.setArrived (2 + transport) rest
    if t.canAlloc p.queue then t.enqueue p else t.noBuffer p

/-! Functions (R333). -/

/-- The classes and the function of a type (R320, R333). -/
def pktType (typ : Nat) : Option (List Nat × Option Nat) :=
  match typ with
  | 0x01 => some ([0, 1, 2], none)
  | 0x02 => some ([0, 1], some 0)
  | 0x03 => some ([0, 1], some 0)
  | 0x04 => some ([0, 1], some 0)
  | 0x10 => some ([2], some 1)
  | 0x11 => some ([2], some 2)
  | 0x12 => some ([2], some 2)
  | 0x13 => some ([1, 2], some 3)
  | 0x14 => some ([1, 2], some 3)
  | 0x20 => some ([1], some 4)
  | 0x21 => some ([1, 2], some 4)
  | 0x22 => some ([1], some 5)
  | 0x30 => some ([0], none)
  | 0x31 => some ([0, 1], none)
  | 0x40 => some ([1], some 6)
  | 0x41 => some ([1], some 6)
  | 0x42 => some ([2], some 6)
  | 0x50 => some ([2], some 7)
  | 0x51 => some ([2], some 7)
  | _ => none

def fnOFF : Nat := 0
def fnON : Nat := 1
def fnDRAINING : Nat := 2

/-- The state of a function (R340). -/
def State.fnState (s : State) (f : Nat) : Nat := s.fget GCP_FN_STAT.STATE 0 / 4 ^ f % 4

def State.setFn (s : State) (f st : Nat) : State :=
  let v := s.fget GCP_FN_STAT.STATE 0
  s.fset GCP_FN_STAT.STATE 0 (v - (v / 4 ^ f % 4) * 4 ^ f + st * 4 ^ f)

/-- The function of a request. -/
def Pkt.fn (p : Pkt) : Option Nat := match pktType p.typ with | some (_, f) => f | none => none

/-- Units of a request that may still run: with its function draining, the current one (R333). -/
def State.unitsOf (s : State) (p : Pkt) (n : Nat) : Nat :=
  match p.fn with
  | some f => if s.fnState f = fnON then n else min n 1
  | none => n

/-- An identity may write a register of a page, by R46 and R48, its expert lock aside. -/
def State.mayWrite (s : State) (id : Ident) (page off : Nat) : Bool :=
  match s.admitWrite (.engine id) page off with
  | some .lifecycle => false
  | some .notOwner => false
  | _ => true

def isDomain : Ident → Bool
  | .domain _ => true
  | _ => false

/-- The identities admitted to a type (R320): those of the equivalent register access, and what the table states otherwise. -/
def State.admitType (s : State) (p : Pkt) : Bool :=
  match p.who with
  | none => decide (p.typ = typINFO)
  | some id =>
    match p.typ with
    | 0x10 => s.mayWrite id pgSCH 0x040
    | 0x12 => s.mayWrite id pgCAN 0x44C
    | 0x13 => basicAdmitted s.sec.lc id
    | 0x14 => basicAdmitted s.sec.lc id
    | 0x20 => basicAdmitted s.sec.lc id
    | 0x21 => basicAdmitted s.sec.lc id
    | 0x22 => s.mayWrite id pgFEL 0x044
    | 0x30 => isDomain id && basicAdmitted s.sec.lc id
    | 0x31 => basicAdmitted s.sec.lc id
    | 0x40 => basicAdmitted s.sec.lc id
    | 0x41 => basicAdmitted s.sec.lc id
    | 0x51 => !isDomain id
    | _ => true

/-- A request is as R46 admitted it, or is admitted still: the lifecycle has not changed to its loss since it was accepted (R334). -/
def State.lcStands (s : State) (p : Pkt) : Bool := decide (p.lc = s.sec.lc) || s.admitType p

/-- The code for a request that is not admitted (R316, R334): the type's, or that of a lifecycle change since its acceptance. -/
def State.notAdmitted (s : State) (p : Pkt) : Nat :=
  let was : State := { s with sec := { s.sec with lc := p.lc } }
  if !s.lcStands p && was.admitType p then Reason.lifecycle.code else 0x13

/-- The refusal of a request as it starts (R316, R320, R333), in the order of the codes. -/
def State.startRefusal (s : State) (p : Pkt) : Option Nat :=
  match pktType p.typ with
  | none => some 0x10
  | some (classes, f) =>
    if !classes.contains p.cls then some 0x12
    else if !s.admitType p then some (s.notAdmitted p)
    else
      match f with
      | some f => if s.fnState f = fnON then none else some 0x14
      | none => none

/-- A queue can start a request: one waits and none executes. -/
def State.queueReady (s : State) (q : Nat) : Bool := !(s.queueOf q).isEmpty && (s.runningOf q).isNone

/-- The transport whose turn it is in a class, among those that are ready (R328). -/
def State.nextTransport (s : State) (c : Nat) : Option Nat :=
  let t := Tbl.get (fun _ => 0) s.gcp.turn c
  ((List.range 3).map fun k => (t + k) % 3).find? fun t => s.queueReady (3 * t + c)

/-- A class starts its next request. -/
def State.startClass (s : State) (c : Nat) : State :=
  match s.nextTransport c with
  | none => s
  | some t =>
    let q := 3 * t + c
    let s := { s with gcp := { s.gcp with turn := Tbl.set (fun _ => 0) s.gcp.turn c ((t + 1) % 3) } }
    match s.queueOf q with
    | [] => s
    | p :: rest =>
      let s := (s.setQueue q rest).setRunning q (some p)
      match s.startRefusal p with
      | some r => s.refused q r 0
      | none => s

def State.setControlRun (s : State) (n : Nat) : State := { s with gcp := { s.gcp with controlRun := n } }

/-- PACKET_EXECUTE: the next queued request starts (R328): urgent first; control and bulk take turns 3 to 1 while both wait; at most 8 execute. -/
def execPacketExecute (s : State) : Host.Outcome State Fault Refusal :=
  .next (
    if !s.works pgGCP || decide (8 ≤ ((List.range 9).filter fun q => (s.runningOf q).isSome).length) then s
    else if (s.nextTransport 0).isSome then s.startClass 0
    else if (s.nextTransport 1).isSome && (s.nextTransport 2).isSome then
      if s.gcp.controlRun < 3 then (s.setControlRun (s.gcp.controlRun + 1)).startClass 1 else (s.setControlRun 0).startClass 2
    else if (s.nextTransport 1).isSome then (s.setControlRun 0).startClass 1
    else (s.setControlRun 0).startClass 2)

/-- QUEUE_TIMEOUT: the oldest request of a queue has waited Q_TIMEOUT_MS (R332). -/
def execQueueTimeout (queue : Fin 9) (s : State) : Host.Outcome State Fault Refusal :=
  .next (
    match s.queueOf queue.val with
    | [] => s
    | p :: rest =>
      if p.at_ + 1 + s.fget GCP_TIME.Q_TIMEOUT_MS 0 ≤ s.ms then
        ((s.setQueue queue.val rest).pulse pgGCP 4).answerPkt p (.refused 0x16) 0 0 [] true
      else s)

/-- HOST_TIMEOUT: HOST_TO_S without an authenticated request (R332). -/
def execHostTimeout (s : State) : Host.Outcome State Fault Refusal :=
  .next (
    if s.fget GCP_HOST.HOST_TO_S 0 ≠ 0 ∧ s.timerDue tmHost 0 s.sec_ (s.fget GCP_HOST.HOST_TO_S 0) then
      ((s.timerStop tmHost 0).inputLost pgGCP 0).drive 156 true
    else s)

/-- A write of GCP_HOST: the host's period starts anew, or ends (R332). -/
def hostWrite (v : Word) (s : State) : WRes :=
  let t := s.fset GCP_HOST.HOST_TO_S 0 (bitsOf v 31 16)
  .ok (if bitsOf v 31 16 = 0 then ((t.timerStop tmHost 0).drive 156 false).inputValid pgGCP 0 else t.timerStart tmHost 0 t.sec_)

/-- A descriptor that outlives its request belongs to none. -/
def GridDesc.orphan (d : GridDesc) : GridDesc :=
  match d.req with
  | some k => if k < 16 then { d with req := none } else d
  | none => d

/-- The packets of an answer ring that are no answers. -/
def unanswered (e : Nat × List OutPkt) : Option (Nat × List OutPkt) :=
  match e.2.filter fun o => decide (o.kind ≠ 1) with
  | [] => none
  | l => some (e.1, l)

/-- A GCP block reset (R335): a packet that waits in its ring slot has not been taken, and stays there (DEDUCED, log
202). -/
def State.gcpReset (s : State) : State :=
  let g := { s.gcp with arrived := s.gcp.arrived.filter fun e => decide (e.1 < 3), staging := [], queues := [], running := [], noBuf := [], controlRun := 0, turn := [], anWait := s.gcp.anWait.filterMap unanswered }
  let q := s.ggr.queues.map fun e => (e.1, e.2.map GridDesc.orphan)
  let t := { s with gcp := g, ggr := { s.ggr with queues := q } }
  let t := (List.range 9).foldl (fun s i => (s.fset BUF_QSTAT.HELD i 0).setGridSum i {}) t
  let t := t.fset BUF_STAT.FREE 0 (512 - t.fget BUF_QSTAT.HELD 9)
  (List.range 9).foldl (fun s i => s.poolMarks i) t

/-! Execution of a type. -/

/-- A request of a type that a queue executes and that has not begun; a lifecycle change since its acceptance may refuse it (R334). -/
def State.serve (s : State) (q typ : Nat) (f : Pkt → State) : State :=
  match s.runningOf q with
  | some p => if p.typ = typ ∧ !p.started then (if s.lcStands p then f p else s.refused q Reason.lifecycle.code 0) else s
  | none => s

/-- INFO: the answer that carries what a host needs for R317 (R319). -/
def execInfo (queue : Fin 9) (s : State) : Host.Outcome State Fault Refusal :=
  .next (s.serve queue.val typINFO fun p =>
    if p.payload ≠ [] then s.refused queue.val 0x11 0
    else s.finish queue.val .served (s.fget FHL_NODE.NODE_ID 0) 0
      (beBytes 4 (s.member.part * 0x10000 + s.fget SYS_DEVICE_ID.STEPPING 0 * 256) ++ beBytes 4 (s.fget GCP_BOOT.BOOT 0) ++
        beBytes 4 (s.fget GCP_SERIAL_HI.SERIAL 0) ++ beBytes 4 (s.fget GCP_SERIAL_LO.SERIAL 0)))

/-- TIME_READ: device time from one instant (R320). -/
def execTimeRead (queue : Fin 9) (s : State) : Host.Outcome State Fault Refusal :=
  .next (s.serve queue.val 0x04 fun p => if p.payload ≠ [] then s.refused queue.val 0x11 0 else s.finish queue.val .served 0 0 (beBytes 8 s.dt))

/-- IMAGE_SEG: a load segment (R94). -/
def execImageSeg (queue : Fin 9) (s : State) : Host.Outcome State Fault Refusal :=
  .next (s.serve queue.val 0x10 fun p =>
    if p.payload = [] ∨ 1024 < p.payload.length then s.refused queue.val 0x11 0
    else if !s.running pgSCH then s.refused queue.val Reason.notRunning.code 0
    else
      match p.who with
      | none => s
      | some id =>
        match loadSegment (.engine id) (p.arg16 % 2) p.arg32 p.payload s with
        | .error r => s.refused queue.val r.code 0
        | .ok t => t.served queue.val)

/-! Taps (R320). -/

/-- The taps of an instance over its enabled clusters, in ascending subband, reference, cluster and tap order, by key. -/
def State.tapList (s : State) (n : Nat) : List Nat :=
  (List.range (s.subbands n)).flatMap fun k => (List.range 4).flatMap fun r => (List.range 3).flatMap fun c =>
    if s.fon CAN_MAP.EN (mapUnit n k r c) then (List.range (s.fget CAN_MAP.LEN (mapUnit n k r c))).map fun j => tapKey n k r c j else []

/-- The refusal of a tap packet before its first tap. -/
def State.tapRefusal (s : State) (n : Nat) : Option Reason :=
  if 32 ≤ n then some .outOfRange
  else if !s.member.present n then some .unitAbsent
  else if !s.running pgCAN then some .notRunning
  else none

/-- The 8 bytes of a tap: RE then IM, sign-extended. -/
def Cplx.tapBytes (w : Cplx) : List Nat := beBytes 4 (ofSigned w.re (2 ^ 32)) ++ beBytes 4 (ofSigned w.im (2 ^ 32))

/-- TAP_READ: up to 128 taps of an instance (R320). -/
def execTapRead (queue : Fin 9) (s : State) : Host.Outcome State Fault Refusal :=
  .next (s.serve queue.val 0x11 fun p =>
    let keys := (s.tapList p.arg16).drop p.arg32
    let n := min 128 keys.length
    let u := s.unitsOf p n
    let bytes := (keys.take u).flatMap fun k => (Tbl.get (fun _ => {}) s.can.taps k : Cplx).tapBytes
    match s.tapRefusal p.arg16 with
    | some r => s.refused queue.val r.code 0
    | none =>
      if p.payload ≠ [] then s.refused queue.val 0x11 0
      else if n = 0 then s.refused queue.val Reason.outOfRange.code 0
      else if u < n then s.finish queue.val (.refused 0x15) u 0 bytes
      else s.finish queue.val .served 0 0 bytes)

/-- A part of a tap as a packet carries it: 20 bits, sign-extended to 32 (R122, R320). -/
def tapPartOf (b : List Nat) : Option Int :=
  let x := toSigned (beValue (b.take 4)) (2 ^ 32)
  if -(2 ^ 19) ≤ x ∧ x < 2 ^ 19 then some x else none

/-- Taps are written in order: how many, and the reason that stopped them. -/
def State.writeTaps (s : State) (b : List Nat) (i : Nat) : List Nat → State × Nat × Option Reason
  | [] => (s, i, none)
  | k :: rest =>
    match tapPartOf b, tapPartOf (b.drop 4) with
    | some re, some im => State.writeTaps { s with can := { s.can with taps := Tbl.set (fun _ => {}) s.can.taps k (⟨re, im⟩ : Cplx) } } (b.drop 8) (i + 1) rest
    | _, _ => (s, i, some .outOfRange)

/-- TAP_WRITE: up to 128 taps of a FROZEN instance (R123, R320). -/
def execTapWrite (queue : Fin 9) (s : State) : Host.Outcome State Fault Refusal :=
  .next (s.serve queue.val 0x12 fun p =>
    let q := queue.val
    let n := p.payload.length / 8
    let keys := (s.tapList p.arg16).drop p.arg32
    if p.payload.length % 8 ≠ 0 ∨ n = 0 ∨ 128 < n then s.refused q 0x11 0
    else
      match s.tapRefusal p.arg16, p.who with
      | some r, _ => s.refused q r.code 0
      | none, none => s
      | none, some id =>
        match s.admitWrite (.engine id) pgCAN 0x44C with
        | some r => s.refused q r.code 0
        | none =>
          if s.canState p.arg16 ≠ canFROZEN then s.refused q Reason.configLocked.code 0
          else
            let u := s.unitsOf p n
            match s.writeTaps p.payload 0 (keys.take u) with
            | (t, i, some r) => t.refused q r.code i
            | (t, i, none) =>
              if i < u then t.refused q Reason.outOfRange.code i
              else if u < n then t.refused q 0x15 u
              else t.served q)

/-! Contexts (R322). -/

/-- The reason of an initiator's last access, 0 if it was accepted. -/
def State.lastReason (s : State) (i : Init) : Nat := Tbl.get (fun _ => 0) s.busRefuse i.holder

/-- CTX_READ: a staged snapshot of a context's 64 words, through window 3 of the identity (R322). -/
def execCtxRead (queue : Fin 9) (s : State) : Host.Outcome State Fault Refusal :=
  .next (s.serve queue.val 0x13 fun p =>
    match p.who with
    | none => s
    | some id =>
      let i := Init.engine id
      let t := s.selectCtx i p.arg16 true
      if p.payload ≠ [] then s.refused queue.val 0x11 0
      else if t.lastReason i ≠ 0 then t.refused queue.val (t.lastReason i) 0
      else
        let t := t.takeSnapshot i.holder
        t.finish queue.val .served 0 0 (((t.window i.holder).snap.getD []).flatMap fun w => beBytes 4 w.toNat))

/-- The words of a CTX_WRITE go through the aperture in order: the index of the one that is refused. -/
def State.writeCtxWords (s : State) (i : Init) (first : Nat) (b : List Nat) (k : Nat) : Nat → State × Option Nat
  | 0 => (s, none)
  | n + 1 =>
    let t := s.writeAperture i (first + k) (BitVec.ofNat 32 (beValue (b.take 4)))
    if t.lastReason i ≠ 0 then (t, some k) else t.writeCtxWords i first (b.drop 4) (k + 1) n

/-- The staged words of a window are discarded. -/
def State.dropStaged (s : State) (h : Nat) : State := s.setWindow h { s.window h with words := [] }

/-- CTX_WRITE: words are staged in window 3 and committed; the answer is sent when the commit ends (R322). -/
def execCtxWrite (queue : Fin 9) (s : State) : Host.Outcome State Fault Refusal :=
  .next (s.serve queue.val 0x14 fun p =>
    let q := queue.val
    let n := p.payload.length / 4
    match p.who with
    | none => s
    | some id =>
      let i := Init.engine id
      if p.payload.length % 4 ≠ 0 ∨ n = 0 ∨ 64 < p.arg32 + n then s.refused q 0x11 0
      else
        let t := s.selectCtx i p.arg16 true
        if t.lastReason i ≠ 0 then t.refused q (t.lastReason i) 0
        else
          let t := t.takeSnapshot i.holder
          match t.writeCtxWords i p.arg32 p.payload 0 n with
          | (t, some k) => (t.dropStaged i.holder).refused q (t.lastReason i) k
          | (t, none) =>
            let t := t.commitWindow i
            if t.lastReason i ≠ 0 then (t.dropStaged i.holder).refused q (t.lastReason i) 0 else t.begun q)

/-! The grid (R191 to R197). -/

/-- The rows that symbols of a slot overlap (R179): the first row and their number. -/
def symRows (scs : Nat) (ecp : Bool) (slot sym n : Nat) : Nat × Nat :=
  if scs = 0 then (28 * slot + 2 * sym, 2 * n)
  else if scs = 1 then (14 * slot + sym, n)
  else if ecp then
    let a := 61440 * slot + 5120 * sym
    let b := a + 5120 * n
    let hit := (List.range gridRows).filter fun r => decide (rowOffset r < b ∧ a < rowOffset (r + 1))
    (hit.headD 0, hit.length)
  else
    let k := if scs = 2 then 2 else 4
    let i := 14 * (slot % k) + sym
    (14 * (slot / k) + i / k, (i + n - 1) / k - i / k + 1)

/-- Slots of a frame (R192). -/
def slotsOf (scs : Nat) : Nat := 10 * 2 ^ scs

/-- The strips of a range of resource blocks of a context, clipped to it (R193): the first and their number. -/
def State.rbStrips (s : State) (c first count : Nat) : Option (Nat × Nat) :=
  let sf := s.stripFirst c
  let sc : Int := s.cget CTX_STRIPS.STRIP_COUNT c
  let w := 180 * 2 ^ s.cget CTX_GRID.SCS c
  let a : Int := if first = 0xFFFF then sf else sf + (first * w / 360 : Nat)
  let b : Int := if first = 0xFFFF then sf + sc else sf + (ceilDiv ((first + count) * w) 360 : Nat)
  let a := max (max a sf) 0
  let b := min (min b (sf + sc)) 3456
  if a < b then some (a.toNat, (b - a).toNat) else none

/-- The contexts that a GRID_SC packet may act on (R191): SC_ID is held to each row (R200). -/
def State.scTargets (s : State) (ident dir : Nat) : List Nat :=
  s.liveCtxs.filter fun c =>
    decide (s.cget CTX_OWNER.OWNER c = ident) &&
      dir.testBit (if isUplink (s.ctxPath c) then 1 else 0) && s.writerOn wrSIDE (s.ctxPath c)

/-- What a packet yields for a writer: descriptors, and what whole refusals have come to. -/
structure GridYield where
  descs : List GridDesc := []
  sum : GridSum := {}

/-- An entry that is refused whole (R187, R194). -/
def GridYield.refuse (y : GridYield) (st row rows entry : Nat) : GridYield :=
  { y with sum := { y.sum.row st row entry 0 rows with status := max y.sum.status st } }

/-- The rows of a range on which a context bears an SC_ID (R191, R200), as runs: first and number, counted from the range's first row. -/
def State.scRuns (s : State) (c scId first n : Nat) : List (Nat × Nat) :=
  stripRuns ((List.range n).filter fun j => decide (bitsOf (s.gridWordAt c ((first + j) % gridRows)) 15 0 = scId))

/-- An entry of a GRID_SC packet for a context (R193). -/
def State.scEntry (s : State) (q scs scId : Nat) (ecp : Bool) (sfn slot : Nat) (e : List Nat) (entry : Nat) (y : GridYield) (c : Nat) : GridYield :=
  let b (k : Nat) := e.getD k 0
  let sym := b 1 / 16
  let n := b 1 % 16 + 1
  let first := beValue ((e.drop 4).take 2)
  let count := beValue ((e.drop 6).take 2)
  let abs := slot + b 0
  let rows := symRows scs ecp (abs % slotsOf scs) sym n
  let inSlot := decide (sym + n ≤ if ecp then 12 else 14)
  let bad := !inSlot || decide (b 2 % 4 ≠ 0 ∨ b 3 ≠ 0) || (decide (first ≠ 0xFFFF) && decide (count = 0 ∨ 3300 < count))
  let runs := s.scRuns c scId rows.1 rows.2
  if runs.isEmpty then y
  else
    match (if bad then none else s.rbStrips c first count) with
    | none => y.refuse 5 (if inSlot then rows.1 else 0) (if inSlot then rows.2 else 0) entry
    | some (k, m) =>
      let desc (x : Nat × Nat) : GridDesc :=
        { path := s.ctxPath c, code := b 2 / 16, row := (rows.1 + x.1) % gridRows, rows := x.2, first := k, count := m, rel := false
          replace := (b 2).testBit 3, late := (b 2).testBit 2, sfn := (sfn + abs / slotsOf scs + (rows.1 + x.1) / gridRows) % 1024
          ctx := some c, req := some q, entry := entry }
      { y with descs := y.descs ++ runs.map desc }

/-- A request's descriptors enter a writer's queue, if it has credits for all of them (R190); a request without any is answered at once. -/
def State.admitGrid (s : State) (q w : Nat) (y : GridYield) : State :=
  if s.gridCredits w < y.descs.length then s.finish q (.delayed 1) 0 (s.fget GCP_TIME.RETRY_BASE_US 0) []
  else
    let u := match s.runningOf q with | some p => s.unitsOf p y.descs.length | none => y.descs.length
    let t := (s.setGridSum q { y.sum with left := u, cut := decide (u < y.descs.length) }).begun q
    if u = 0 then t.gridEnd q else (y.descs.take u).foldl (fun s d => s.pushGrid w d) t

/-- Entries of a payload from its start, each of n bytes. -/
def entriesOf (n : Nat) (b : List Nat) : Nat → List (List Nat)
  | 0 => []
  | k + 1 => b.take n :: entriesOf n (b.drop n) k

/-- Folding over a list with the place of each element. -/
def foldIdx {α β : Type} (f : β → Nat → α → β) (b : β) (i : Nat) : List α → β
  | [] => b
  | a :: rest => foldIdx f (f b i a) (i + 1) rest

/-- What the entries of a GRID_SC packet come to for the contexts that it acts on (R193). -/
def State.scYield (s : State) (q : Nat) (p : Pkt) : GridYield :=
  let b (k : Nat) := p.payload.getD k 0
  let scId := beValue ((p.payload.drop 2).take 2)
  let sfn := beValue ((p.payload.drop 6).take 2)
  let cs := s.scTargets p.ident (b 1)
  foldIdx (fun y i e => cs.foldl (s.scEntry q (b 4 % 4) scId ((b 4).testBit 2) sfn (b 8) e i) y) {} 0 (entriesOf 8 (p.payload.drop 16) (b 5))

/-- GRID_SC: side control becomes descriptors for the side control queue (R191 to R194). -/
def execGridSc (queue : Fin 9) (s : State) : Host.Outcome State Fault Refusal :=
  .next (s.serve queue.val 0x20 fun p =>
    let q := queue.val
    let b (k : Nat) := p.payload.getD k 0
    let scs := b 4 % 4
    let ecp := (b 4).testBit 2
    let scId := beValue ((p.payload.drop 2).take 2)
    let sfn := beValue ((p.payload.drop 6).take 2)
    if p.payload.length < 16 ∨ b 0 ≠ 1 ∨ b 5 = 0 ∨ 126 < b 5 ∨ p.payload.length ≠ 16 + 8 * b 5 then s.refused q 0x11 0
    else if 3 < b 1 ∨ 7 < b 4 ∨ (ecp ∧ scs ≠ 2) ∨ 1023 < sfn ∨ slotsOf scs ≤ b 8 ∨ scId = 0xFFFF ∨ (p.payload.drop 9).take 7 ≠ List.replicate 7 0 then
      s.finish q (.refused 0x25) 0 0 ({ status := 5 } : GridSum).payload
    else
      let y := s.scYield q p
      if y.descs.isEmpty && decide (y.sum.status = 0) then s.finish q (.refused 0x27) 0 0 ({ status := 7 } : GridSum).payload
      else s.admitGrid q wrSIDE y)

/-- The strips of a descriptor lie within contexts that a domain owns on its path (R197). -/
def State.ownsStrips (s : State) (d path first count : Nat) : Bool :=
  let mine := (s.liveCtxs.filter fun c => decide (s.ctxPath c = path ∧ s.cget CTX_OWNER.OWNER c = d)).flatMap fun c => s.stripsOf c
  (List.range count).all fun j => mine.contains (first + j)

/-- A descriptor of a GRID_WR packet (R197). -/
def State.wrEntry (s : State) (q ident : Nat) (y : GridYield) (i : Nat) (e : List Nat) : GridYield :=
  let b (k : Nat) := e.getD k 0
  let w (k : Nat) := beValue ((e.drop k).take 2)
  let reserved := decide (b 0 % 32 ≠ 0 ∨ 15 < b 2 ∨ b 3 ≠ 0 ∨ w 14 ≠ 0)
  if reserved then y.refuse 5 (w 6) (w 8) i
  else if ident < 16 ∧ !s.ownsStrips ident (b 1) (w 10) (w 12) then
    { y with sum := { y.sum.row 3 (w 6) i 0 (w 8) with status := y.sum.status, notOwner := true } }
  else
    { y with descs := y.descs ++ [{ path := b 1, code := b 2, row := w 6, rows := w 8, first := w 10, count := w 12, rel := (b 0).testBit 7
                                    replace := (b 0).testBit 6, late := (b 0).testBit 5, sfn := w 4, req := some q, entry := i }] }

/-- GRID_WR: host descriptors enter the host queue (R197); a path that the member does not have refuses the packet (R6). -/
def execGridWr (queue : Fin 9) (s : State) : Host.Outcome State Fault Refusal :=
  .next (s.serve queue.val 0x21 fun p =>
    let b (k : Nat) := p.payload.getD k 0
    if p.payload.length < 4 ∨ b 0 ≠ 1 ∨ b 1 = 0 ∨ 63 < b 1 ∨ b 2 ≠ 0 ∨ b 3 ≠ 0 ∨ p.payload.length ≠ 4 + 16 * b 1 then s.refused queue.val 0x11 0
    else if (entriesOf 16 (p.payload.drop 4) (b 1)).any fun e => decide (e.getD 1 0 < 32) && !s.member.present (e.getD 1 0) then
      s.refused queue.val Reason.unitAbsent.code 0
    else s.admitGrid queue.val wrHOST (foldIdx (s.wrEntry queue.val p.ident) {} 0 (entriesOf 16 (p.payload.drop 4) (b 1))))

/-! Beams (R278, R323). -/

/-- What the entries of a BEAM packet have come to: the state, the first refusal with its entry, a full queue. -/
structure BeamRun where
  s : State
  bad : Option (Nat × Nat) := none
  full : Bool := false

def BeamRun.refuse (r : BeamRun) (entry code : Nat) : BeamRun := { r with bad := match r.bad with | some x => some x | none => some (entry, code) }

/-- The frame of an SFN that lies nearest, from the current one (R186). -/
def State.frameOfSfn (s : State) (g sfn : Nat) : Int := (((sfn : Int) - s.groupOrd g) + 511) % 1024 - 511

/-- A beam index for a port: a TWRITE that acts BEAM_LEAD_NS before the row (R278). -/
def BeamRun.port (r : BeamRun) (entry sfn row beam n : Nat) : BeamRun :=
  let s := r.s
  if !s.member.present n then r.refuse entry Reason.unitAbsent.code else
  match (s.pathsWriting n).find? fun p => decide (s.pathState p = pathON) with
  | none => r.refuse entry 0x27
  | some p =>
    if s.modReg n 6 2 = 0 then r.refuse entry 0x27
    else
      let act := s.rowL p row (s.frameOfSfn (s.groupOf p) sfn) - 768 * (bitsOf (s.descWord n 7) 15 0 : Int)
      match s.felTimed n { plainWrite (s.modReg n 6 2) beam with op := 3, act := some (tickOfQ act) } with
      | .queued t => { r with s := t }
      | .late t => ({ r with s := t }).refuse entry 0x24
      | .full => { r with full := true }

/-- An entry of a BEAM packet (R323). -/
def BeamRun.entry (r : BeamRun) (i : Nat) (e : List Nat) : BeamRun :=
  let b (k : Nat) := e.getD k 0
  let ports := beValue (e.take 4)
  let sfn := beValue ((e.drop 4).take 2)
  let scs := b 7 % 4
  if 1023 < sfn ∨ slotsOf scs ≤ b 6 ∨ 13 < b 7 / 16 ∨ b 7 / 4 % 4 ≠ 0 ∨ beValue (e.drop 9) ≠ 0 then r.refuse i Reason.outOfRange.code
  else
    ((List.range 32).filter fun n => ports.testBit n).foldl (fun r n => r.port i sfn (symRows scs false (b 6) (b 7 / 16) 1).1 (b 8) n) r

/-- BEAM: timed writes of beam indices to the named ports (R323). -/
def execBeam (queue : Fin 9) (s : State) : Host.Outcome State Fault Refusal :=
  .next (s.serve queue.val 0x22 fun p =>
    let q := queue.val
    let n := p.payload.headD 0
    if p.payload.length < 4 ∨ n = 0 ∨ 84 < n ∨ p.payload.length ≠ 4 + 12 * n ∨ beValue ((p.payload.drop 1).take 3) ≠ 0 then s.refused q 0x11 0
    else if !s.running pgFEL then s.refused q Reason.notRunning.code 0
    else
      let u := s.unitsOf p n
      let r := foldIdx BeamRun.entry { s := s } 0 (entriesOf 12 (p.payload.drop 4) u)
      if r.full then s.finish q (.delayed 1) 0 (s.fget GCP_TIME.RETRY_BASE_US 0) []
      else
        match r.bad with
        | some (i, code) => r.s.refused q code i
        | none => if u < n then r.s.refused q 0x15 u else r.s.served q)

/-! Mutes (R238, R244). -/

/-- A remote mute packet: of the sending domain. -/
def State.remotePkt (s : State) (q : Nat) (p : Pkt) (f : Fin 16 → State) : State :=
  if p.payload ≠ [] then s.refused q 0x11 0
  else if !s.running pgNPR then s.refused q Reason.notRunning.code 0
  else if h : p.ident < 16 then (f ⟨p.ident, h⟩).served q
  else s.refused q 0x13 0

/-- REMOTE_MUTE: ARG16 0 starts a code 6 shutdown for the sending domain; an ARG16 above 1 is out of range (R238, R320). -/
def execRemoteMute (queue : Fin 9) (s : State) : Host.Outcome State Fault Refusal :=
  .next (s.serve queue.val 0x30 fun p =>
    if p.arg16 = 1 then s
    else if p.arg16 ≠ 0 then s.refused queue.val Reason.outOfRange.code 0
    else s.remotePkt queue.val p fun d => s.foxTrigger (.remote d))

/-- REMOTE_MUTE_CLEAR: ARG16 1 clears every code 6 slot raised for the sending domain (R244). -/
def execRemoteMuteClear (queue : Fin 9) (s : State) : Host.Outcome State Fault Refusal :=
  .next (s.serve queue.val 0x30 fun p => if p.arg16 = 1 then s.remotePkt queue.val p fun d => s.remoteClear d.val else s)

/-- An identity is admitted to clear a slot (R244). -/
def State.mayClear (s : State) (k : Nat) : Ident → Bool
  | .device => false
  | .domain d =>
    ((s.foxCtxs k).all fun c => decide (s.cget CTX_OWNER.OWNER c = d.val ∨ 16 ≤ s.cget CTX_OWNER.OWNER c)) &&
      (decide (s.fget NPR_FOX_STAT.TRIGGER k ≠ 6) || (s.foxRt k).doms.testBit d.val)
  | _ => true

/-- FOX_CLEAR: a CLEAR of a Foxglove slot (R244). -/
def execFoxClear (queue : Fin 9) (s : State) : Host.Outcome State Fault Refusal :=
  .next (s.serve queue.val 0x31 fun p =>
    let q := queue.val
    match p.who with
    | none => s
    | some id =>
      if p.payload ≠ [] then s.refused q 0x11 0
      else if 15 < p.arg16 then s.refused q Reason.outOfRange.code 0
      else if !s.running pgNPR then s.refused q Reason.notRunning.code 0
      else if s.mayClear p.arg16 id then (s.foxClear p.arg16).served q
      else s.refused q 0x13 0)

/-! Read-out (R171, R371). -/

/-- TRACE_READ: up to 256 samples of a trace channel (R171). -/
def execTraceRead (queue : Fin 9) (s : State) : Host.Outcome State Fault Refusal :=
  .next (s.serve queue.val 0x50 fun p =>
    let q := queue.val
    let l := (s.traceCh p.arg16).samples
    if p.payload ≠ [] then s.refused q 0x11 0
    else if 15 < p.arg16 then s.refused q Reason.outOfRange.code 0
    else if !s.running pgCEN then s.refused q Reason.notRunning.code 0
    else if s.fget CEN_TRC_STAT.STATE p.arg16 = trARMED ∨ s.fget CEN_TRC_STAT.STATE p.arg16 = trTRIGGERED then s.refused q Reason.windowBusy.code 0
    else s.finish q .served 0 0 (((List.range (min 256 (l.length - p.arg32))).map fun i => s.traceAt p.arg16 (p.arg32 + i)).flatMap fun w => beBytes 4 w.toNat))

/-- The records that the recorder holds, each with whether it is staged, in SEQ order. -/
def EvrSt.held (e : EvrSt) : List (Rec × Bool) :=
  (e.log.flatten.map fun r => (r, false)) ++ ((e.fullSegs.flatten ++ e.openSeg).map fun r => (r, true))

/-- REC_READ: up to 32 records from a SEQ onward (R371). -/
def execRecRead (queue : Fin 9) (s : State) : Host.Outcome State Fault Refusal :=
  .next (s.serve queue.val 0x51 fun p =>
    let q := queue.val
    let l := s.evr.held.filter fun e => decide (p.arg32 ≤ e.1.seq)
    if p.payload ≠ [] then s.refused q 0x11 0
    else if !s.running pgEVR then s.refused q Reason.notRunning.code 0
    else if l.isEmpty then s.refused q Reason.outOfRange.code 0
    else
      let at_ (e : Rec × Bool) : Option Nat := if e.2 then none else s.lostRec e.1.seq
      let t := (l.take 32).foldl (fun t e => match at_ e with | some a => t.nvUncorrectable a | none => t) s
      t.finish q .served 0 0 ((l.take 32).flatMap fun e => if (at_ e).isSome then List.replicate 32 0 else e.1.encode e.2))

end Sys2Proof.Machine
end

