-- ==== Sys2Proof/Machine/Cap.lean ====
section
/-!
DEFINITION. Chapter 12, third part: capture sessions (R83, R336 to R339, R344), reports (R324), the internal requester of buffers, and the
functions in flight (R333).
-/
namespace Sys2Proof.Machine

/-! Sessions (R336, R338). -/

def capFREE : Nat := 0
def capWAITING : Nat := 1
def capRUNNING : Nat := 2
def capENDED : Nat := 3

def State.capSt (s : State) (n : Nat) : Nat := s.fget CAP_SSTAT.STATE n

def State.cap (s : State) (n : Nat) : CapSession := Tbl.get (fun _ => {}) s.gcp.caps n

def State.setCap (s : State) (n : Nat) (r : CapSession) : State := { s with gcp := { s.gcp with caps := Tbl.set (fun _ => {}) s.gcp.caps n r } }

/-- A session streams. -/
def State.capStream (s : State) (n : Nat) : Bool := s.fon CAP_SSTAT.MODE n

/-- Data bytes of a whole record (R337). -/
def recordBytes : Nat := 1008

/-- Records that a session's share of the capture buffer holds (R337). -/
def CapSession.room (r : CapSession) : Nat := r.bufKib * 1024 / recordBytes

/-- What a tap's qualifier names (R83): its fields in range, whether the member has it, and a context. -/
structure TapQual where
  ok : Bool
  present : Bool
  ctx : Option Nat := none
  stream : Option Nat := none
  path : Option Nat := none

/-- The reading of a qualifier (R83, R336): receive streams are 0 to 31, transmit streams 32 to 63. -/
def State.tapQual (s : State) (tap qual : Nat) : TapQual :=
  if tap < 3 then { ok := decide (qual < 32), present := s.member.present qual, stream := some qual }
  else if tap = 3 then
    { ok := decide (qual < 8192 ∧ qual / 16 % 16 = 0 ∧ qual % 16 < 12), present := s.member.present (qual / 256), path := some (qual / 256) }
  else if tap < 6 then { ok := decide (qual < 4096), present := decide (qual < s.member.contexts), ctx := some qual }
  else if tap < 8 then { ok := decide (qual % 256 = 0 ∧ qual < 8192), present := s.member.present (qual / 256), path := some (qual / 256) }
  else { ok := decide (32 ≤ qual ∧ qual < 64), present := s.member.present (qual - 32), stream := some qual }

/-- The tap point is in use (R338). -/
def State.tapInUse (s : State) (tap qual : Nat) : Bool :=
  let x := s.tapQual tap qual
  match x.stream, x.path, x.ctx with
  | some n, _, _ => s.streamInUse n
  | none, some p, _ => decide (s.pathState p ≠ pathOFF)
  | none, none, some c => decide (s.ctxState c ≠ ctxFREE)
  | none, none, none => false

/-- The last record of a session carries LAST (R337). -/
def markLast : List CapRecord → List CapRecord
  | [] => []
  | [r] => [{ r with flags := r.flags ||| 4 }]
  | r :: t => r :: markLast t

/-- The capture-end report (R324). -/
def State.capReport (s : State) (n : Nat) : State :=
  let off := s.fget CAP_SOFF_HI.OFFSET n * 2 ^ 32 + s.fget CAP_SOFF_LO.OFFSET n
  s.report 2 (s.fget CAP_SSTAT.OWNER n) pgCAP 0 ([n, s.fget CAP_SSTAT.END n, 0, 0] ++ beBytes 8 off)

/-- A session is freed with its buffer (R338); END keeps the reason. -/
def State.capFree (s : State) (n : Nat) : State :=
  let t := s.fset CAP_FREE.FREE_KIB 0 (s.fget CAP_FREE.FREE_KIB 0 + (s.cap n).bufKib)
  (t.fset CAP_SSTAT.STATE n capFREE).setCap n {}

/-- A stream session that has ended and sent its records reports its end, and is free (R338). -/
def State.capDrained (s : State) (n : Nat) : State :=
  if s.capSt n = capENDED ∧ s.capStream n ∧ (s.cap n).records.isEmpty then (s.capReport n).capFree n else s

/-- A session ends (R338). -/
def State.capEnd (s : State) (n reason : Nat) : State :=
  if s.capSt n = capWAITING ∨ s.capSt n = capRUNNING then
    let t := (s.fset CAP_SSTAT.STATE n capENDED).fset CAP_SSTAT.END n reason
    let t := t.setCap n { t.cap n with records := markLast (t.cap n).records }
    (t.pulse pgCAP 0).capDrained n
  else s

/-- CAP_CLOSE and CAP_SCMD.CLOSE: a session that runs ends; a snapshot session that has ended is freed (R338). -/
def State.capClose (s : State) (n : Nat) : State :=
  if s.capSt n = capENDED ∧ !s.capStream n then s.capFree n else s.capEnd n 1

/-- Capture taps that sessions use. -/
def State.capsInUse (s : State) : Nat := ((List.range 16).filter fun n => decide (s.capSt n = capWAITING ∨ s.capSt n = capRUNNING)).length

/-- CAP_TAPS of the active image; none without a TAPS section (R86). -/
def State.capTaps (s : State) : Nat :=
  match s.sch.active with
  | none => 0
  | some slot => if (s.sectionOf slot 0x0023).isSome then s.deviceUse slot 0x0030 else 0

/-- The fields of a CAP_OPEN payload (R336). -/
def capField (p : Pkt) (i n : Nat) : Nat := beValue ((p.payload.drop i).take n)

/-- The checks of a CAP_OPEN, in order (R336). -/
def State.capRefusal (s : State) (p : Pkt) (id : Ident) (slotOk : Bool) : Option Nat :=
  let f := capField p
  let x := s.tapQual (f 0 1) (f 2 2)
  let kib := f 4 2
  let mine : Bool :=
    match id, x.ctx with
    | .domain d, some c => decide (s.cget CTX_OWNER.OWNER c = d.val)
    | .domain _, none => false
    | _, _ => true
  if 9 < f 0 1 ∨ 1 < f 1 1 ∨ kib < 64 ∨ 4096 < kib ∨ kib % 64 ≠ 0 ∨ 2 < f 6 1 ∨ 7 < f 7 1 ∨ !x.ok then some Reason.outOfRange.code
  else if !x.present then some Reason.unitAbsent.code
  else if !mine then some Reason.notOwner.code
  else if !slotOk || decide (s.capTaps ≤ s.capsInUse) then some 0x30
  else if ((List.range 16).find? fun n => decide (s.capSt n = capFREE)).isNone ∨ s.fget CAP_FREE.FREE_KIB 0 < kib then some 0x31
  else none

/-- The sample rate that CAP_SRATE shows: a stream's, and of any other tap point a value that the spec leaves open. -/
def State.capRate (s : State) (n tap qual : Nat) : State :=
  match (s.tapQual tap qual).stream with
  | some t => s.fset CAP_SRATE.RATE_KHZ n (rateKhz (s.fget CHN_STREAM.RATE t))
  | none => (s.fset CAP_SRATE.RATE_KHZ n (s.freeVal.toNat % 2 ^ 24)).tookFree

/-- A session is opened in WAITING (R336). -/
def State.capOpen (s : State) (n : Nat) (p : Pkt) (id : Ident) : State :=
  let f := capField p
  let t := s.setCap n { bufKib := f 4 2, start := f 6 1, tgroup := f 7 1, startDt := f 8 8, length := f 16 8, transport := p.transport, source := p.source }
  let t := t.fset CAP_FREE.FREE_KIB 0 (t.fget CAP_FREE.FREE_KIB 0 - f 4 2)
  let t := ((t.fset CAP_SSTAT.STATE n capWAITING).fset CAP_SSTAT.END n 0).fset CAP_SSTAT.MODE n (f 1 1)
  let t := ((t.fset CAP_SSTAT.OWNER n id.code).fset CAP_SSTAT.TAP n (f 0 1)).fset CAP_SSTAT.QUAL n (f 2 2)
  let t := ((t.fset CAP_SOFF_LO.OFFSET n 0).fset CAP_SOFF_HI.OFFSET n 0).fset CAP_SDROP.DROP n 0
  t.capRate n (f 0 1) (f 2 2)

/-- CAP_OPEN (R336). `slotOk` says that the active image's TAPS section has a slot for the tap and qualifier, which the spec's section table
does not lay out. -/
def execCapOpen (queue : Fin 9) (slotOk : Bool) (s : State) : Host.Outcome State Fault Refusal :=
  .next (s.serve queue.val 0x40 fun p =>
    let q := queue.val
    match p.who with
    | none => s
    | some id =>
      if p.payload.length ≠ 24 then s.refused q 0x11 0
      else if !s.running pgCAP then s.refused q Reason.notRunning.code 0
      else
        match s.capRefusal p id slotOk, (List.range 16).find? fun n => decide (s.capSt n = capFREE) with
        | some r, _ => s.refused q r 0
        | none, none => s
        | none, some n => (s.capOpen n p id).finish q .served n 0 [])

/-- The refusal of a packet about a session: of another identity (R336). -/
def State.capOther (s : State) (p : Pkt) : Option Reason :=
  if 15 < p.arg16 then some .outOfRange
  else if !s.running pgCAP then some .notRunning
  else if s.capSt p.arg16 = capFREE ∨ s.fget CAP_SSTAT.OWNER p.arg16 ≠ p.ident then some .notOwner
  else none

/-- CAP_CLOSE (R338). -/
def execCapClose (queue : Fin 9) (s : State) : Host.Outcome State Fault Refusal :=
  .next (s.serve queue.val 0x41 fun p =>
    if p.payload ≠ [] then s.refused queue.val 0x11 0
    else
      match s.capOther p with
      | some r => s.refused queue.val r.code 0
      | none => (s.capClose p.arg16).served queue.val)

/-- The bytes of a record (R337). -/
def CapRecord.bytes (r : CapRecord) (n : Nat) : List Nat := (16 * n + r.flags) :: beBytes 7 (r.off % 2 ^ 52) ++ beBytes 8 r.dt ++ r.data

/-- CAP_READ: a snapshot record by its offset (R337). -/
def execCapRead (queue : Fin 9) (s : State) : Host.Outcome State Fault Refusal :=
  .next (s.serve queue.val 0x42 fun p =>
    let q := queue.val
    if p.payload ≠ [] then s.refused q 0x11 0
    else
      match s.capOther p with
      | some r => s.refused q r.code 0
      | none =>
        match (s.cap p.arg16).records.find? fun r => decide (r.off = p.arg32) with
        | some r => if s.capStream p.arg16 then s.refused q Reason.outOfRange.code 0 else s.finish q .served 0 0 (r.bytes p.arg16)
        | none => s.refused q Reason.outOfRange.code 0)

/-- A write of CAP_SCMD (R336, R344): the integrator, the manufacturer and field service close any session. -/
def scmdWrite (i : Init) (v : Word) (s : State) : WRes :=
  match s.identOf i with
  | none => .error .lifecycle
  | some .device => .error .notOwner
  | some (.domain _) => .error .notOwner
  | some _ => .ok (if bitsOf v 31 31 = 1 then s.capClose (s.fget CAP_SSEL.SESSION i.holder) else s)

/-- CAP_SCMD_CLOSE: a write of CAP_SCMD.CLOSE. -/
def execCapScmdClose (who : Init) (s : State) : Host.Outcome State Fault Refusal :=
  .next (s.access who pgCAP 0x05C 0x80000000 (scmdWrite who 0x80000000))

/-- The time at which a waiting session starts (R336). -/
def State.capStart (s : State) (n : Nat) : Nat :=
  let r := s.cap n
  if r.start = 0 then s.dt else if r.start = 1 then r.startDt else ceilDiv (s.nextBoundary r.tgroup) one16

/-- CAP_SESSION_START: a waiting session reaches its start (R336). -/
def execCapSessionStart (session : Fin 16) (s : State) : Host.Outcome State Fault Refusal :=
  .next (if s.capSt session.val = capWAITING ∧ s.works pgCAP then (s.advanceTo (s.capStart session.val)).fset CAP_SSTAT.STATE session.val capRUNNING else s)

/-! Records (R337, R339). -/

/-- The offset of a session advances by a record's data; past 2^52 it wraps (R337). -/
def State.capAdvance (s : State) (n bytes : Nat) : State :=
  let off := s.fget CAP_SOFF_HI.OFFSET n * 2 ^ 32 + s.fget CAP_SOFF_LO.OFFSET n + bytes
  let t := (s.fset CAP_SOFF_LO.OFFSET n (off % 2 ^ 32)).fset CAP_SOFF_HI.OFFSET n (off / 2 ^ 32 % 2 ^ 20)
  let t := t.setCap n { t.cap n with taken := (t.cap n).taken + bytes }
  if 2 ^ 52 ≤ off then (t.setCap n { t.cap n with wrapped := true }).pulse pgCAP 2 else t

/-- A record is dropped (R339). -/
def State.capDrop (s : State) (n : Nat) : State :=
  ((s.fbump CAP_SDROP.DROP n).setCap n { s.cap n with gap := true }).pulse pgCAP 1

/-- The flags of a session's next record (R337): FIRST, WRAPPED, GAP. -/
def CapSession.flags (r : CapSession) : Nat := (if r.kept then 0 else 8) + (if r.wrapped then 2 else 0) + (if r.gap then 1 else 0)

/-- A record is stored. -/
def State.capStore (s : State) (n first : Nat) (data : List Nat) : State :=
  let r := s.cap n
  let off := s.fget CAP_SOFF_HI.OFFSET n * 2 ^ 32 + s.fget CAP_SOFF_LO.OFFSET n
  s.setCap n { r with records := r.records ++ [⟨off, r.flags, first, data⟩], kept := true, gap := false, wrapped := false }

/-- The data bytes that a session still takes. -/
def CapSession.left (r : CapSession) : Nat := if r.length = 0 then recordBytes else min recordBytes (r.length - r.taken)

/-- LENGTH is reached, or a snapshot's buffer is full (R338). -/
def State.capDone (s : State) (n : Nat) : Bool :=
  let r := s.cap n
  (decide (r.length ≠ 0) && decide (r.length ≤ r.taken)) || (!s.capStream n && decide (r.room ≤ r.records.length))

/-- CAPTURE_RECORD: a tap completes a record of 252 samples, or of what LENGTH leaves as the session's last (fewer complete none), whose first sample lies at device time `first`; `queueFull` says that XC08 has no room (R337, R339). -/
def execCaptureRecord (session : Fin 16) (first : BitVec 64) (samples : List Word) (queueFull : Bool) (s : State) : Host.Outcome State Fault Refusal :=
  .next (
    let n := session.val
    let r := s.cap n
    let data := ((samples.take 252).flatMap fun w => beBytes 4 w.toNat).take r.left
    if s.capSt n ≠ capRUNNING ∨ data = [] ∨ data.length < r.left ∨ !s.works pgCAP then s
    else if !s.tapInUse (s.fget CAP_SSTAT.TAP n) (s.fget CAP_SSTAT.QUAL n) then s.capEnd n 4
    else
      let t := if queueFull || decide (r.room ≤ r.records.length) then s.capDrop n else s.capStore n first.toNat data
      let t := t.capAdvance n data.length
      if t.capDone n then t.capEnd n 2 else t)

/-- Sessions whose tap point left use end (R338). -/
def State.capCheck (s : State) : State :=
  (List.range 16).foldl (fun s n =>
    if s.capSt n = capRUNNING ∧ !s.tapInUse (s.fget CAP_SSTAT.TAP n) (s.fget CAP_SSTAT.QUAL n) then s.capEnd n 4 else s) s

/-- The destination of a stream session is lost: its transport is down (R338). -/
def State.capLost (s : State) (n : Nat) : Bool :=
  let r := s.cap n
  if r.transport = 0 then !s.fon PCIE_STAT.LINK_UP 0 || !s.fon PCIE_RING.EN 2
  else if r.transport = 1 then !s.fon MGE_STAT.LINK_UP 0
  else !s.sideUp (r.source / 65536 % 2)

/-- At a millisecond strobe the loss of a stream's destination is noted (R338). -/
def State.capLossTick (s : State) : State :=
  (List.range 16).foldl (fun s n =>
    if s.capSt n = capFREE ∨ !s.capStream n then s
    else if s.capLost n then (if (s.cap n).lost.isNone then s.setCap n { s.cap n with lost := some s.ms } else s)
    else if (s.cap n).lost.isSome then s.setCap n { s.cap n with lost := none } else s) s

/-- CAP_DEST_TIMEOUT: a stream's destination has been lost for 1 s (R338). -/
def execCapDestTimeout (session : Fin 16) (s : State) : Host.Outcome State Fault Refusal :=
  .next (
    match (s.cap session.val).lost with
    | some m => if s.capLost session.val ∧ m + 1000 ≤ s.ms then s.capEnd session.val 6 else s
    | none => s)

/-- A CAP block reset, or SNOWDROP, frees every session and its data; END of those that it ended reads 7 (R338, R414, R481). -/
def State.capReset (s : State) : State :=
  (List.range 16).foldl (fun s n =>
    if s.capSt n = capFREE then s.setWord (CAP_SSTAT.END.key n) (regReset (CAP_SSTAT.END.key n))
    else (((s.pulse pgCAP 0).capFree n).setWord (CAP_SSTAT.END.key n) (regReset (CAP_SSTAT.END.key n))).fset CAP_SSTAT.END n 7) s

/-! Reports and capture records: the internal requester (R324, R328, R331). -/

/-- A packet of the device's own, in the bulk or the urgent class; its SEQ counts the packets of the identity concerned (R317). -/
def State.ownPacket (s : State) (ident transport source cls typ arg16 : Nat) (payload : List Nat) : State :=
  let seq := Tbl.get (fun _ => 0) s.gcp.reportSeq ident
  let t := { s with gcp := { s.gcp with reportSeq := Tbl.set (fun _ => 0) s.gcp.reportSeq ident ((seq + 1) % 2 ^ 32) } }
  (t.takeBuf 9).sendOut { transport := transport, source := source, cls := cls, kind := 2, typ := typ, ident := 0x13, status := 0, seq := seq
                          arg16 := arg16, arg32 := 0, payload := payload, keyId := ident }

/-- Where the reports of an identity go (R324): transport and destination. -/
def State.reportTo (s : State) (d : Nat) : Option (Nat × Nat) :=
  match s.fget GCP_RT.TRANSPORT d with
  | 1 => some (0, 0)
  | 2 => (Tbl.get (fun _ => none) s.gcp.lastSource d).map fun x => (1, x)
  | 3 => some (2, if s.sideUp 0 then 0 else 65536)
  | _ => none

/-- The payload of a report (R324). -/
def Report.payload (r : Report) : List Nat :=
  [r.page, r.bit, 0, 0] ++ beBytes 8 r.dt ++ (if r.kind = 3 then beBytes 4 (r.body.headD 0) else r.body)

/-- The oldest report is sent, or dropped (R324, R331). -/
def State.sendReport (s : State) : State :=
  match s.reports with
  | [] => s
  | r :: rest =>
    let t := { s with reports := rest }
    match (if t.canAlloc 9 then t.reportTo r.ident else none) with
    | some (tr, src) => t.ownPacket r.ident tr src 0 0x60 r.kind r.payload
    | none => (t.fbump GCP_DROP_CNT.REPORT_DROP 0).pulse pgGCP 6

/-- REPORT: a queued report is sent in the urgent class, or dropped (R324). -/
def execReport (s : State) : Host.Outcome State Fault Refusal := .next (if s.works pgGCP then s.sendReport else s)

/-- A stored record is dropped (R339): GAP, and what the record marked (FIRST, WRAPPED), pass to the next one kept (DEDUCED,
log 201). -/
def State.recordDrop (s : State) (n : Nat) (r : CapRecord) (rest : List CapRecord) : State :=
  let t := (s.fbump CAP_SDROP.DROP n).pulse pgCAP 1
  let c := t.cap n
  match rest with
  | [] => t.setCap n { c with records := [], gap := true, kept := c.kept && !r.flags.testBit 3, wrapped := c.wrapped || r.flags.testBit 1 }
  | x :: l => t.setCap n { c with records := { x with flags := x.flags ||| 1 ||| (r.flags &&& 10) } :: l }

/-- The oldest record of a stream session is sent in the bulk class, or dropped for want of a buffer (R331, R337). -/
def State.sendRecord (s : State) (n : Nat) : State :=
  match (s.cap n).records with
  | [] => s
  | r :: rest =>
    if !s.capStream n then s
    else
      let t :=
        if s.canAlloc 9 then
          (s.setCap n { s.cap n with records := rest }).ownPacket (s.fget CAP_SSTAT.OWNER n) (s.cap n).transport (s.cap n).source 2 0x43 n (r.bytes n)
        else s.recordDrop n r rest
      t.capDrained n

/-- CAP_DATA: a stream session's record is sent (R337). -/
def execCapData (session : Fin 16) (s : State) : Host.Outcome State Fault Refusal := .next (if s.works pgCAP then s.sendRecord session.val else s)

/-- The internal requester: reports first, then the records of the stream sessions. -/
def State.allocInternal (s : State) : State :=
  if !s.reports.isEmpty then s.sendReport
  else
    match (List.range 16).find? fun n => s.capStream n && !(s.cap n).records.isEmpty with
    | some n => s.sendRecord n
    | none => s

/-- A requester of the buffer arbiter asks (R330): PCI Express, management Ethernet, fronthaul, internal. -/
def State.asksBuffer (s : State) (r : Nat) : Bool :=
  if r = 0 then [0, 1, 2].any fun c => !(s.arrivedAt c).isEmpty
  else if r < 3 then !(s.arrivedAt (2 + r)).isEmpty
  else !s.reports.isEmpty || (List.range 16).any fun n => s.capStream n && !(s.cap n).records.isEmpty

/-- The requester that the arbiter grants (R330): the one at which the grant stands, for up to 16 allocations; otherwise the next one in rotation. -/
def State.bufTurn (s : State) : Option Nat :=
  if s.asksBuffer s.gcp.bufOwner && decide (s.gcp.bufRun < 16) then some s.gcp.bufOwner
  else ([1, 2, 3, 4].map fun k => (s.gcp.bufOwner + k) % 4).find? fun r => s.asksBuffer r

/-- A grant is noted. -/
def State.bufGranted (s : State) (r : Nat) : State :=
  let run := if r = s.gcp.bufOwner ∧ s.gcp.bufRun < 16 then s.gcp.bufRun + 1 else 1
  { s with gcp := { s.gcp with bufOwner := r, bufRun := run } }

/-- A grant to a requester (R329, R331). -/
def State.bufServe (s : State) (r : Nat) : State :=
  if r = 0 then s.allocPcie else if r = 3 then s.allocInternal else s.allocFrame r

/-- BUFFER_ALLOCATE: a requester asks for a buffer, and takes it when it is the one that the arbiter grants (R329 to R331). `busy` says that its
transport is still sending: the staged header-only answers leave once it is not (DESIGN CHOICE, log 229). -/
def execBufferAllocate (requester : Fin 4) (busy : Bool) (s : State) : Host.Outcome State Fault Refusal :=
  .next (
    let r := requester.val
    if !s.works pgBUF then s
    else
      let t := if s.bufTurn = some r then (s.bufGranted r).bufServe r else s
      if busy then t else t.flushStaging r)

/-! Functions in flight (R333). -/

/-- A grid request under a disabled function: its current descriptor finishes, those that remain are dropped. -/
def State.gridCut (s : State) (q : Nat) : State :=
  if 1 < (s.gridSum q).left then
    let mine (d : GridDesc) : Bool := decide (d.req = some q)
    let keep (l : List GridDesc) : List GridDesc :=
      match l.find? mine with
      | none => l
      | some d => (l.takeWhile fun x => !mine x) ++ d :: ((l.dropWhile fun x => !mine x).drop 1).filter fun x => !mine x
    let t := s.setGridSum q { s.gridSum q with left := 1, cut := true }
    (t.setGridQueue wrHOST (keep (t.gridQueue wrHOST))).setGridQueue wrSIDE (keep (t.gridQueue wrSIDE))
  else s

/-- A 0 is written to a function's bit: ON becomes DRAINING (R333). -/
def State.fnOff (s : State) (f : Nat) : State :=
  if s.fnState f = fnON then
    let t := s.setFn f fnDRAINING
    if f = 4 then (List.range 9).foldl (fun s q => s.gridCut q) t
    else if f = 6 then (List.range 16).foldl (fun s n => s.capEnd n 5) t
    else t
  else if s.gcp.heldFn.testBit f then { s with gcp := { s.gcp with heldFn := s.gcp.heldFn - 2 ^ f } } else s

/-- A 1 is written to a function's bit: OFF becomes ON; while it drains, the 1 is held (R333). -/
def State.fnOn (s : State) (f : Nat) : State :=
  if s.fnState f = fnOFF then s.setFn f fnON
  else if s.fnState f = fnDRAINING then { s with gcp := { s.gcp with heldFn := s.gcp.heldFn ||| 2 ^ f } }
  else s

/-- A write of GCP_FN_EN (R333). -/
def fnEnWrite (v : Word) (s : State) : WRes :=
  .ok ((List.range 8).foldl (fun s f => if v.getLsbD f then s.fnOn f else s.fnOff f) (s.fset GCP_FN_EN.FN_EN 0 (bitsOf v 7 0)))

/-- GCP_FN_EN with one bit set or cleared. -/
def State.fnWord (s : State) (f : Nat) (b : Bool) : Word := putBits (s.word (GCP_FN_EN.FN_EN.key 0)) f f (if b then 1 else 0)

/-- FN_DISABLE: a write of 0 to a bit of GCP_FN_EN. -/
def execFnDisable (who : Init) (fn : Fin 8) (s : State) : Host.Outcome State Fault Refusal :=
  .next (s.access who pgGCP 0x040 (s.fnWord fn.val false) (fnEnWrite (s.fnWord fn.val false)))

/-- FN_ENABLE: a write of 1 to a bit of GCP_FN_EN. -/
def execFnEnable (who : Init) (fn : Fin 8) (s : State) : Host.Outcome State Fault Refusal :=
  .next (s.access who pgGCP 0x040 (s.fnWord fn.val true) (fnEnWrite (s.fnWord fn.val true)))

/-- A request of a function waits or executes. -/
def State.fnBusy (s : State) (f : Nat) : Bool :=
  (List.range 9).any fun q =>
    (s.queueOf q).any (fun p => decide (p.fn = some f)) || (match s.runningOf q with | some p => decide (p.fn = some f) | none => false)

/-- FN_DRAINED: no request of a draining function remains; a 1 held meanwhile returns it to ON (R333). -/
def execFnDrained (fn : Fin 8) (s : State) : Host.Outcome State Fault Refusal :=
  .next (
    let f := fn.val
    if s.fnState f = fnDRAINING ∧ !s.fnBusy f then
      let t := (s.setFn f fnOFF).pulse pgGCP 5
      if t.gcp.heldFn.testBit f then ({ t with gcp := { t.gcp with heldFn := t.gcp.heldFn - 2 ^ f } } : State).setFn f fnON else t
    else s)

/-! The boundary of an image swap (R104 to R108). -/

/-- Sessions that the new image gives no slot end (R108); `lost` has a bit for each. -/
def State.capSwap (s : State) (lost : Nat) : State :=
  (List.range 16).foldl (fun s n => if lost.testBit n || decide (s.capTaps = 0) then s.capEnd n 3 else s) s

end Sys2Proof.Machine
end

