-- ==== Sys2Proof/Machine/Hka.lean ====
section
/-!
DEFINITION. Chapter 16, first part: the integrating converters (R429 to R436).
-/
namespace Sys2Proof.Machine

def State.hka (s : State) (c : Nat) : HkaRt := Tbl.get (fun _ => {}) s.hk.hka c

def State.setHka (s : State) (c : Nat) (r : HkaRt) : State := { s with hk := { s.hk with hka := Tbl.set (fun _ => {}) s.hk.hka c r } }

/-! Timers: the scan timer, the settling of the reference, the self-calibration. -/

def tmHkaScan : Nat := 82
def tmHkaRef : Nat := 83
def tmHkaCal : Nat := 84

/-- HKA1 converts HKA0's input (R433). -/
def State.interleaved (s : State) : Bool := s.fon HKA_CFG.INTERLEAVE 0

/-- A converter is on: enabled, or driven by HKA0 in interleave. -/
def State.hkaOn (s : State) (c : Nat) : Bool := if c = 1 && s.interleaved then s.fon HKA_CFG.EN 0 else s.fon HKA_CFG.EN c

/-- The codes of STATE (R450). -/
def State.hkaCode (s : State) (c : Nat) : Nat :=
  if !s.hkaOn c then 0
  else if (s.hka c).cal then 5
  else if !s.fon HKA_STAT.REF_SETTLED c then 1
  else if s.hk.urgOn = some c then 4
  else if (s.hka c).conv || (s.hka c).twin.isSome then 3
  else 2

/-- The input that a converter converts. -/
def State.hkaCh (s : State) (c : Nat) : Nat :=
  if s.hk.urgOn = some c then (s.hk.urg.headD (0, 0)).1
  else
    match (s.hka c).twin with
    | some n => n
    | none => if (s.hka c).conv then (s.hka c).chans.getD (s.hka c).entry 0 else s.fget HKA_STAT.CH c

/-- HKA_STATc shows what the converter does. -/
def State.hkaShow (s : State) (c : Nat) : State := (s.fset HKA_STAT.STATE c (s.hkaCode c)).fset HKA_STAT.CH c (s.hkaCh c)

/-- Both converters' status. -/
def State.hkaShowAll (s : State) : State := (s.hkaShow 0).hkaShow 1

/-- The inputs set in a scan mask, ascending (R430). -/
def maskList (m : Nat) : List Nat := (List.range 32).filter fun n => m.testBit n

/-- LOSS stands while a converter has fallen back or an entry has had no valid result for CH_TO scans (R431, R432). -/
def State.hkaLoss (s : State) : State :=
  let limit := s.fget HKA_CHTO.CH_TO 0
  s.cond pgHKA evtLoss ([0, 1].any fun c => s.fon HKA_STAT.REF_FALLBACK c || (s.hka c).miss.any fun m => decide (limit ≤ m.2))

/-- HKA1 in interleave converts the single input of HKA0's scan, half an integration later (R433). -/
def State.twinRuns (s : State) : State :=
  match (s.hka 0).chans with
  | n :: _ =>
    if s.interleaved && s.hkaOn 1 && s.fon HKA_STAT.REF_SETTLED 1 && !(s.hka 1).cal && decide (s.hk.urgOn ≠ some 1) then
      s.setHka 1 { s.hka 1 with twin := some n }
    else s
  | [] => s

/-- The conversion of a scan's entry runs, and in interleave HKA1's with it (R431, R433). -/
def State.converts (s : State) (c : Nat) : State :=
  let t := s.setHka c { s.hka c with conv := true }
  if c = 0 then t.twinRuns else t

/-- A scan begins: the mask is taken, results beyond its number of bits read VALID = 0 (R430). An empty mask starts nothing. -/
def State.scanBegins (s : State) (c : Nat) : State :=
  let l := maskList (s.fget HKA_SCAN.MASK c)
  let r := s.hka c
  let s := s.setHka c { r with chans := l, entry := 0, conv := false, miss := r.miss.filter fun m => decide (m.1 < l.length) }
  let s := if l.isEmpty then s else s.converts c
  (List.range 32).foldl (fun s k => if l.length ≤ k then s.fset HKA_RES.VALID (32 * c + k) 0 else s) s

/-- A scan may start now: the converter is on, its reference has settled, and it neither calibrates nor serves an urgent request (R432, R436). -/
def State.scanReady (s : State) (c : Nat) : Bool :=
  s.hkaOn c && s.fon HKA_STAT.REF_SETTLED c && !(s.hka c).cal && decide (s.hk.urgOn ≠ some c) && (s.hka c).chans.isEmpty

/-- HKA1 in interleave runs no scan of its own (R433). -/
def State.scansItself (s : State) (c : Nat) : Bool := !(decide (c = 1) && s.interleaved) && s.fon HKA_CFG.EN c

/-- A start of a scan: at once, held one deep, or lost and counted (R430). -/
def State.scanStart (s : State) (c : Nat) : State :=
  if !s.scansItself c then s
  else if s.scanReady c then (s.scanBegins c).hkaShowAll
  else if s.fon HKA_STAT.START_HELD c then (s.fbump HKA_STAT.TRIG_LOST c).pulse pgHKA 1
  else s.fset HKA_STAT.START_HELD c 1

/-- The converter has come free: a held start begins, and so does the next scan of TRIG 3 (R430). -/
def State.scanNext (s : State) (c : Nat) : State :=
  if !s.scansItself c || !s.scanReady c then s
  else if s.fon HKA_STAT.START_HELD c then (s.fset HKA_STAT.START_HELD c 0).scanBegins c
  else if s.fget HKA_CFG.TRIG c = 3 then s.scanBegins c
  else s

/-- The entry in progress starts again, unless it waits for a PWM event (R434, R435). -/
def State.entryAgain (s : State) (c : Nat) : State :=
  let r := s.hka c
  if c = 1 && s.interleaved then s.twinRuns
  else if r.chans.isEmpty || s.fget HKA_CFG.TRIG c = 2 then s
  else s.converts c

/-- The running conversion of this converter is abandoned: ABORTS is counted, ABORTED rises (R434, R435). -/
def State.hkaAbandon (s : State) (c : Nat) : State :=
  let r := s.hka c
  if r.conv || r.twin.isSome then ((s.setHka c { r with conv := false, twin := none }).fbump HKA_STAT.ABORTS c).pulse pgHKA 2 else s

/-- A converter can take an urgent request: neither off nor calibrating (R434, R436). -/
def State.takesUrgent (s : State) (c : Nat) : Bool := s.hkaOn c && !(s.hka c).cal

/-- The urgent request that waits is begun by HKA0, or by HKA1 when HKA0 is off or calibrating (R434). -/
def State.urgentNext (s : State) : State :=
  if s.hk.urg.isEmpty || s.hk.urgOn.isSome then s
  else
    let pick := if s.takesUrgent 0 then some 0 else if s.takesUrgent 1 then some 1 else none
    match pick with
    | none => s
    | some c =>
      if s.fon HKA_STAT.REF_SETTLED c then
        let t := s.hkaAbandon c
        { t with hk := { t.hk with urgOn := some c } }
      else s

/-- What may begin on a converter, in order: the urgent request, the abandoned entry, a held start (R434, R436). -/
def State.hkaResume (s : State) (c : Nat) : State :=
  let s := s.urgentNext
  let s := if s.hk.urgOn = some c || (s.hka c).cal || !s.fon HKA_STAT.REF_SETTLED c then s else s.entryAgain c
  (s.scanNext c).hkaShowAll

/-! Commands (R430, R434 to R436). -/

/-- HKA_CMD.START: a scan of TRIG 0 (R430). -/
def State.hkaStart (s : State) (c : Nat) : State := if s.fget HKA_CFG.TRIG c = 0 then s.scanStart c else s

/-- A calibration of one converter begins (R435). -/
def State.calOne (s : State) (c : Nat) : State :=
  if !s.hkaOn c || (s.hka c).cal then s
  else
    let s := s.hkaAbandon c
    let s := if s.hk.urgOn = some c then ({ s with hk := { s.hk with urgOn := none } }.fbump HKA_STAT.ABORTS c).pulse pgHKA 2 else s
    let s := s.setHka c { s.hka c with cal := true }
    let s := if s.fon HKA_STAT.REF_SETTLED c then s.timerStart tmHkaCal c s.ms else s
    s.urgentNext

/-- HKA_CMD.CAL: one converter, or both together in interleave (R435). -/
def State.hkaCal (s : State) (c : Nat) : State := (if s.interleaved then (s.calOne 0).calOne 1 else s.calOne c).hkaShowAll

/-- The converter whose REF a converter uses: HKA1 uses HKA0's in interleave (R433). -/
def State.refOf (s : State) (c : Nat) : Nat := if c = 1 && s.interleaved then 0 else c

/-- The VREF in mV of a converter (R432). -/
def State.vref (s : State) (c : Nat) : Nat :=
  let d := s.refOf c
  if s.fon HKA_STAT.REF_FALLBACK d then 2500
  else
    match s.fget HKA_CFG.REF d with
    | 0 => 2500
    | 1 => s.fget HKA_REFEXT.REFEXT_MV d
    | _ => 3300

/-- The settling time in microseconds of a converter's reference (R432). -/
def State.refSettling (s : State) (c : Nat) : Nat :=
  if s.fon HKA_STAT.REF_FALLBACK (s.refOf c) then 5000
  else
    match s.fget HKA_CFG.REF (s.refOf c) with
    | 0 => 5000
    | 1 => 1000
    | _ => 100

/-- The reference of a converter begins to settle; an external one does so once it has passed its window. The conversion in flight is discarded; an
urgent one waits and starts again (R432). -/
def State.refStart (s : State) (c : Nat) : State :=
  let s := (s.fset HKA_STAT.REF_SETTLED c 0).setHka c { s.hka c with extOk := false, extFails := 0, conv := false, twin := none }
  let s := if s.hk.urgOn = some c then { s with hk := { s.hk with urgOn := none } } else s
  if s.fget HKA_CFG.REF (s.refOf c) = 1 && !s.fon HKA_STAT.REF_FALLBACK (s.refOf c) then s.timerStop tmHkaRef c else s.timerStart tmHkaRef c s.us

/-- The converter goes off: scans, held starts and conversions end. -/
def State.hkaOff (s : State) (c : Nat) : State :=
  let s := s.setHka c { miss := (s.hka c).miss }
  let s := if s.hk.urgOn = some c then { s with hk := { s.hk with urgOn := none } } else s
  let s := (s.fset HKA_STAT.START_HELD c 0).fset HKA_STAT.REF_SETTLED c 0
  ((s.timerStop tmHkaRef c).timerStop tmHkaScan c).urgentNext

/-- Exactly one bit of a mask is set. -/
def oneBit (m : Nat) : Bool := decide ((maskList m).length = 1)

/-- The checks of a word of HKA_CFGc or HKA_SCANc (R429, R432, R433). -/
def State.hkaCfgOk (s : State) (c : Nat) (w : Word) : Bool :=
  decide (bitsOf w 29 27 ≠ 7 ∧ bitsOf w 26 25 ≠ 3) && (decide (c = 1 ∨ bitsOf w 24 24 = 0) || oneBit (s.fget HKA_SCAN.MASK 0))

/-- HKA_CFGc takes a word: the converter goes on or off, a new write of REF settles anew, the timer of TRIG 1 runs. -/
def State.hkaCfgApply (s : State) (c : Nat) (w : Word) : State :=
  let was := s.hkaOn c
  let was1 := s.hkaOn 1
  let ref := s.fget HKA_CFG.REF c
  let fell := s.fon HKA_STAT.REF_FALLBACK c
  let mask : Word := if c = 0 then 0xFFFC0000 else 0xFEFC0000
  let key := HKA_CFG.EN.key c
  let s := s.setWord key (mergeWord (s.word key) w mask)
  let s := if s.interleaved then s.setHka 1 { s.hka 1 with chans := [], entry := 0, conv := false } else s.setHka 1 { s.hka 1 with twin := none }
  let s := if c = 0 && was1 && !s.hkaOn 1 then s.hkaOff 1 else if c = 0 && !was1 && s.hkaOn 1 then s.refStart 1 else s
  if !s.hkaOn c then (s.hkaOff c).hkaShowAll
  else
    let s := if !was || fell || decide (ref ≠ s.fget HKA_CFG.REF c) then
        let t := (s.fset HKA_STAT.REF_FALLBACK c 0).refStart c
        if c = 0 && t.interleaved then t.refStart 1 else t
      else s
    let s := if s.fget HKA_CFG.TRIG c = 1 then (if s.timerOn tmHkaScan c then s else s.timerStart tmHkaScan c s.ms) else s.timerStop tmHkaScan c
    s.hkaLoss.hkaShowAll

/-- A word of the four configuration registers of a converter is applied (R436). -/
def State.hkaApply (s : State) (off : Nat) (w : Word) : State :=
  let c := (off - 0x40) / 0x20
  if (off - 0x40) % 0x20 = 0 then s.hkaCfgApply c w
  else
    match s.mergeReg pgHKA off (pgHKA * 0x1000 + off) w with
    | .ok t => t
    | .error _ => s

/-- A write of HKA_CFGc, HKA_SCANc, HKA_TRIGc or HKA_REFEXTc: checked, then held while the converter calibrates (R436). -/
def hkaCfgWrite (off : Nat) (v : Word) (s : State) : WRes :=
  let c := (off - 0x40) / 0x20
  let k := (off - 0x40) % 0x20
  if k = 0 && !s.hkaCfgOk c v then .error .outOfRange
  else if k = 4 && decide (c = 0) && s.interleaved && !oneBit v.toNat then .error .outOfRange
  else if !rangesOk pgHKA off v then .error .outOfRange
  else if (s.hka c).cal then .ok (s.setHka c { s.hka c with held := (s.hka c).held ++ [(off, v)] })
  else
    let t := s.hkaApply off v
    .ok (if k = 0 && t.hkaOn c then (t.scanNext c).hkaShowAll else t)

/-- A calibration ends: held writes apply first, all of them, then the urgent request, then the entry or a held start (R435, R436). -/
def State.calEnds (s : State) (c : Nat) : State :=
  let r := s.hka c
  let s := (s.setHka c { r with cal := false, held := [] }).timerStop tmHkaCal c
  let s := r.held.foldl (fun s e => s.hkaApply e.1 e.2) s
  s.hkaResume c

/-- HKA_CMD.ABORT: the calibration ends with CAL_RESULT = 2, or the scan ends (R436). -/
def State.hkaAbort (s : State) (c : Nat) : State :=
  if (s.hka c).cal then (s.fset HKA_STAT.CAL_RESULT c 2).calEnds c
  else
    let s := s.hkaAbandon c
    let s := s.setHka c { s.hka c with chans := [], entry := 0 }
    (s.scanNext c).hkaShowAll

/-- A write of HKA_CMDc: ABORT, then CAL, then START. -/
def hkaCmdWrite (c : Nat) (v : Word) (s : State) : WRes :=
  let s := if bitsOf v 29 29 = 1 then s.hkaAbort c else s
  let s := if bitsOf v 30 30 = 1 then s.hkaCal c else s
  .ok (if bitsOf v 31 31 = 1 then s.hkaStart c else s)

/-- The offset of HKA_CMDc. -/
def hkaCmdOff (c : Nat) : Nat := 0x4C + 0x20 * c

/-- HKA_START: a write of HKA_CMDc.START (R430). -/
def execHkaStart (who : Init) (conv : Fin 2) (s : State) : Host.Outcome State Fault Refusal :=
  .next (s.access who pgHKA (hkaCmdOff conv.val) 0x80000000 (hkaCmdWrite conv.val 0x80000000))

/-- HKA_CAL: a write of HKA_CMDc.CAL (R435). -/
def execHkaCal (who : Init) (conv : Fin 2) (s : State) : Host.Outcome State Fault Refusal :=
  .next (s.access who pgHKA (hkaCmdOff conv.val) 0x40000000 (hkaCmdWrite conv.val 0x40000000))

/-- HKA_ABORT: a write of HKA_CMDc.ABORT (R436). -/
def execHkaAbort (who : Init) (conv : Fin 2) (s : State) : Host.Outcome State Fault Refusal :=
  .next (s.access who pgHKA (hkaCmdOff conv.val) 0x20000000 (hkaCmdWrite conv.val 0x20000000))

/-- A write of HKA_URG (R434): with REQ it is a request; one runs or waits and one is held, a further one is refused. -/
def hkaUrgWrite (v : Word) (s : State) : WRes :=
  let div := bitsOf v 26 24
  if div = 7 then .error .outOfRange
  else
    let t := (s.fset HKA_URG.DIV 0 div).fset HKA_URG.CH 0 (bitsOf v 20 16)
    if bitsOf v 31 31 = 0 then .ok t
    else if 2 ≤ s.hk.urg.length then .error .windowBusy
    else .ok (({ t with hk := { t.hk with urg := t.hk.urg ++ [(bitsOf v 20 16, div)] } } : State).urgentNext).hkaShowAll

/-- HKA_URGENT_REQUEST: a write of HKA_URG.REQ with an input and a fraction (R434). -/
def execHkaUrgentRequest (who : Init) (ch : Fin 32) (div : Fin 8) (s : State) : Host.Outcome State Fault Refusal :=
  let v : Word := BitVec.ofNat 32 (0x80000000 + div.val * 0x1000000 + ch.val * 0x10000)
  .next (s.access who pgHKA 0x080 v (hkaUrgWrite v))

/-- HKA_SCAN_TIMER: PERIOD_MS elapses under TRIG 1 (R430). -/
def execHkaScanTimer (conv : Fin 2) (s : State) : Host.Outcome State Fault Refusal :=
  .next (
    if s.works pgHKA && s.timerDue tmHkaScan conv.val s.ms (s.fget HKA_TRIG.PERIOD_MS conv.val) then
      (s.timerStart tmHkaScan conv.val s.ms).scanStart conv.val
    else s)

/-- An event of a PWM channel reaches the converters that it triggers: a scan starts, or the entry that waits for it does (R430). -/
def State.pwmEvent (s : State) (k : Nat) (centre : Bool) : State :=
  [0, 1].foldl (fun s c =>
    if s.fget HKA_CFG.TRIG c = 2 && decide (s.fget HKA_CFG.TRIG_PWM c = k) && s.fon HKA_CFG.TRIG_EDGE c == centre then
      if (s.hka c).chans.isEmpty then s.scanStart c
      else if s.hkaOn c && s.fon HKA_STAT.REF_SETTLED c && !(s.hka c).cal && decide (s.hk.urgOn ≠ some c) then
        (s.converts c).hkaShowAll
      else s
    else s) s

/-! Results (R431). -/

/-- The pin voltage of a raw code: a numerator over 2^53, in µV (R431). -/
def State.vpin (s : State) (c : Nat) (code : Int) : Int :=
  (code - s.fgetI HKA_CAL_OFF.CAL_OFF c) * s.fget HKA_CAL_GAIN.CAL_GAIN c * (1000 * s.vref c)

/-- The pin voltage exceeds 1.02 × VREF (R431). -/
def State.overRange (s : State) (c : Nat) (v : Int) : Bool := decide (102 * (1000 * s.vref c) * 2 ^ 53 < 100 * v.natAbs)

/-- VALUE in µV before saturation: the channel's correction (R431). -/
def State.corrected (s : State) (ch : Nat) (v : Int) : Int :=
  let m := toSigned (s.fget HKA_CM.M ch) (2 ^ 32)
  let k : Nat := 2 ^ (s.fget HKA_CS.S ch + 53)
  roundDiv (m * v + s.fgetI HKA_CO.OFFSET ch * (k : Int)) k

/-- VALUE, held at the ends of 24 bits with SATURATION (R13, R431). -/
def State.hkaValue (s : State) (ch : Nat) (v : Int) : State × Int :=
  let x := s.corrected ch v
  let y := clampInt (-8388608) 8388607 x
  (if x = y then s else s.saturate pgHKA, y)

/-- Scans without a valid result of an entry. -/
def missOf (l : List (Nat × Nat)) (k : Nat) : Nat := Tbl.get (fun _ => 0) l k

/-- A result of entry k of converter d, converted by converter c (R431). -/
def State.hkaStore (s : State) (d k c ch : Nat) (code : Int) : State :=
  let u := 32 * d + k
  let v := s.vpin c code
  let r := s.hka d
  if s.overRange c v then
    let n := missOf r.miss k + 1
    let s := (s.fset HKA_RES.STALE u 1).pulse pgHKA evtRange
    let s := s.setHka d { r with miss := Tbl.set (fun _ => 0) r.miss k n }
    (if s.fget HKA_CHTO.CH_TO 0 ≤ n then s.fset HKA_RES.VALID u 0 else s).hkaLoss
  else
    let (s, y) := s.hkaValue ch v
    let s := s.setHka d { r with miss := Tbl.set (fun _ => 0) r.miss k 0 }
    let s := ((s.fset HKA_RES.VALID u 1).fset HKA_RES.STALE u 0).fset HKA_RES.SRC u c
    ((s.fset HKA_RES.CH u ch).fsetI HKA_RES.VALUE u y).hkaLoss

/-- The result of an urgent conversion (R434). -/
def State.urgentDone (s : State) (c : Nat) (code : Int) : State :=
  let ch := (s.hk.urg.headD (0, 0)).1
  let v := s.vpin c code
  let s := if s.overRange c v then (s.fset HKA_URG_RES.STALE 0 1).pulse pgHKA evtRange
    else
      let (s, y) := s.hkaValue ch v
      let s := ((s.fset HKA_URG_RES.VALID 0 1).fset HKA_URG_RES.STALE 0 0).fset HKA_URG_RES.SRC 0 c
      (s.fset HKA_URG_RES.CH 0 ch).fsetI HKA_URG_RES.VALUE 0 y
  let s := { s with hk := { s.hk with urg := s.hk.urg.drop 1, urgOn := none } }
  (s.pulse pgHKA 3).hkaResume c

/-- The scan advances to its next entry, or ends (R430). -/
def State.scanAdvance (s : State) (c : Nat) : State :=
  let r := s.hka c
  if r.entry + 1 < r.chans.length then
    let s := s.setHka c { r with entry := r.entry + 1, conv := false }
    (if s.fget HKA_CFG.TRIG c = 2 then s else s.converts c).hkaShowAll
  else
    let s := s.setHka c { r with chans := [], entry := 0, conv := false }
    let s := s.fset HKA_COUNT.SCANS c (s.fget HKA_COUNT.SCANS c + 1)
    ((s.pulse pgHKA 0).scanNext c).hkaShowAll

/-- HKA_CONVERSION_DONE: a conversion ends with a raw code (R431): that of the urgent request, of the scan's entry, or HKA1's in interleave, which
goes on while HKA0's scan runs (R433, R434). -/
def execHkaConversionDone (conv : Fin 2) (code : Int) (s : State) : Host.Outcome State Fault Refusal :=
  .next (
    let c := conv.val
    if !s.works pgHKA then s
    else if s.hk.urgOn = some c then s.urgentDone c code
    else if c = 1 && s.interleaved then
      match (s.hka 1).twin with
      | some n => ((s.setHka 1 { s.hka 1 with twin := none }).hkaStore 0 0 1 n code).twinRuns.hkaShowAll
      | none => s
    else if (s.hka c).conv then (s.hkaStore c (s.hka c).entry c ((s.hka c).chans.getD (s.hka c).entry 0) code).scanAdvance c
    else s)

/-- HKA_CAL_DONE: 120 ms of a calibration have passed; on a pass the factors are written (R435). -/
def execHkaCalDone (conv : Fin 2) (pass : Bool) (off : BitVec 24) (gain : Word) (s : State) : Host.Outcome State Fault Refusal :=
  .next (
    let c := conv.val
    if (s.hka c).cal && s.timerDue tmHkaCal c s.ms 120 then
      let s := if pass then ((s.fset HKA_CAL_OFF.CAL_OFF c off.toNat).fset HKA_CAL_GAIN.CAL_GAIN c gain.toNat).fset HKA_STAT.CAL_RESULT c 0
        else s.fset HKA_STAT.CAL_RESULT c 1
      (s.pulse pgHKA 5).calEnds c
    else s)

/-! The reference (R428, R432). -/

/-- VREFEXT lies within ±5 % of REFEXT_MV. -/
def inWindow (mv ref : Nat) : Bool := decide (95 * ref ≤ 100 * mv ∧ 100 * mv ≤ 105 * ref)

/-- A converter falls back to the internal reference (R432). -/
def State.refFallback (s : State) (c : Nat) : State :=
  let s := ((s.fset HKA_STAT.REF_FALLBACK c 1).pulse pgHKA 4).refStart c
  let s := if c = 0 && s.interleaved && s.hkaOn 1 then s.refStart 1 else s
  s.hkaLoss.hkaShowAll

/-- The comparison of one converter that uses the external reference; one that fails raises RANGE (R31, R428). -/
def State.vrefOne (s : State) (mv c : Nat) : State :=
  if !s.hkaOn c || decide (s.fget HKA_CFG.REF (s.refOf c) ≠ 1) || s.fon HKA_STAT.REF_FALLBACK (s.refOf c) then s
  else
    let r := s.hka c
    if inWindow mv (s.fget HKA_REFEXT.REFEXT_MV (s.refOf c)) then
      let t := s.setHka c { r with extOk := true, extFails := 0 }
      if r.extOk then t else t.timerStart tmHkaRef c t.us
    else if 2 ≤ r.extFails then (s.pulse pgHKA evtRange).refFallback (s.refOf c)
    else (s.setHka c { r with extFails := r.extFails + 1 }).pulse pgHKA evtRange

/-- VREFEXT_CHECK: the window comparison of every 100 µs (R428, R432); three failures in a row fall back. -/
def execVrefextCheck (mv : Nat) (s : State) : Host.Outcome State Fault Refusal := .next ((s.vrefOne mv 0).vrefOne mv 1)

/-- REF_SETTLED: the settling time of the selected reference has passed (R432); a calibration that waits begins its 120 ms. -/
def execRefSettled (conv : Fin 2) (s : State) : Host.Outcome State Fault Refusal :=
  .next (
    let c := conv.val
    if s.hkaOn c && !s.fon HKA_STAT.REF_SETTLED c && s.timerDue tmHkaRef c s.us (s.refSettling c) then
      let s := (s.fset HKA_STAT.REF_SETTLED c 1).timerStop tmHkaRef c
      let s := if (s.hka c).cal then s.timerStart tmHkaCal c s.ms else s
      s.hkaResume c
    else s)

/-! The gain of an input (R450, R54). -/

/-- A write of HKA_CM_n is staged; a write of HKA_CS_n commits the pair when its value lies within 0.5 to 2. -/
def hkaCoefWrite (i : Init) (off : Nat) (v : Word) (s : State) : WRes :=
  let key := pgHKA * 0x1000 + off
  if (off - 0x408) % 16 = 0 then .ok (s.setCoefStage i (some (key, v)))
  else
    let m := s.coefM i (key - 4) (s.word (key - 4))
    if coefIn m.toNat (bitsOf v 4 0) 1 4 1 then .ok (((s.setWord (key - 4) m).setWord key (v &&& 0x1F)).setCoefStage i none)
    else .error .outOfRange

/-- The factors of a block reset (R436): a running calibration ends as by ABORT, and the factors return to their reset values. -/
def State.hkaReset (s : State) : State :=
  [0, 1].foldl (fun s c =>
    let aborted := (s.hka c).cal
    let s := if aborted then s.calEnds c else s
    let s := s.fset HKA_STAT.CAL_RESULT c (if aborted then 2 else 0)
    let s := (s.fset HKA_CAL_OFF.CAL_OFF c 0).fset HKA_CAL_GAIN.CAL_GAIN c 0x40000000
    s.setHka c {}) { s with hk := { s.hk with urg := [], urgOn := none } }

end Sys2Proof.Machine
end

