-- ==== Sys2Proof/Machine/Fan.lean ====
section
/-!
DEFINITION. Chapter 16, second part: the fan tachometers (R442 to R444) and the supply PWM channels (R437 to R441).
-/
namespace Sys2Proof.Machine

/-! Fans. -/

def State.fan (s : State) (j : Nat) : FanRt := Tbl.get (fun _ => {}) s.hk.fan j

def State.setFan (s : State) (j : Nat) (r : FanRt) : State := { s with hk := { s.hk with fan := Tbl.set (fun _ => {}) s.hk.fan j r } }

def tmFanStall : Nat := 88
def tmFanFail : Nat := 89

def fanOFF : Nat := 0
def fanSTOPPED : Nat := 1
def fanSTARTING : Nat := 2
def fanRUNNING : Nat := 3
def fanREVERSING : Nat := 4

def State.fanState (s : State) (j : Nat) : Nat := s.fget FAN_SPEED.STATE j

/-- Pulses per revolution. -/
def State.fanPpr (s : State) (j : Nat) : Nat := s.fget FAN_CFG.PPR j + 1

/-- The failure test runs: the fan is enabled and, with PWM_LINK, its channel is in RUN with h > 0 (R444). -/
def State.fanTested (s : State) (j : Nat) : Bool :=
  s.fon FAN_CFG.EN j &&
    (!s.fon FAN_CFG.PWM_LINK j ||
      (decide (s.fget PWM_STAT.STATE (s.fget FAN_CFG.PWM j) = 2) && decide (0 < s.fget PWM_STAT.H_NOW (s.fget FAN_CFG.PWM j))))

/-- The fan is stopped, slow or reversed (R444). -/
def State.fanBad (s : State) (j : Nat) : Bool :=
  decide (s.fanState j ≠ fanRUNNING) || decide ((s.fgetI FAN_SPEED.RPM j).natAbs < s.fget FAN_CFG.MIN_RPM j) ||
    (s.fon FAN_CFG.DIR_EN j && s.fon FAN_SPEED.DIR j)

/-- F157 is driven while any fan has failed (R444). -/
def State.driveFans (s : State) : State := s.drive 157 ((List.range 8).any fun j => s.fon FAN_SPEED.FAILED j)

/-- The failure test of a fan goes on or starts again; a fan that is well again has not failed. -/
def State.fanCheck (s : State) (j : Nat) : State :=
  if s.fanTested j && s.fanBad j then (if s.timerOn tmFanFail j then s else s.timerStart tmFanFail j s.ms)
  else (((s.timerStop tmFanFail j).fset FAN_SPEED.FAILED j 0).cond pgFAN j false).driveFans

/-- Every fan's failure test. -/
def State.fanCheckAll (s : State) : State := (List.range 8).foldl (fun s j => s.fanCheck j) s

/-- A fan at standstill (R442). -/
def State.fanStop (s : State) (j : Nat) : State :=
  ((s.setFan j {}).fset FAN_SPEED.STATE j fanSTOPPED).fset FAN_SPEED.RPM j 0

/-- A write of FAN_CFGj: EN takes the fan to standstill or off. -/
def fanCfgWrite (j : Nat) (v : Word) (s : State) : WRes :=
  match s.mergeReg pgFAN (0x40 + 16 * j) (FAN_CFG.EN.key j) v with
  | .error r => .error r
  | .ok t =>
    let was := s.fon FAN_CFG.EN j
    let t := if t.fon FAN_CFG.EN j && !was then (t.fanStop j).timerStart tmFanStall j t.ms
      else if !t.fon FAN_CFG.EN j && was then (((t.fanStop j).fset FAN_SPEED.STATE j fanOFF).timerStop tmFanStall j).inputValid pgFAN j
      else t
    .ok (t.fanCheck j)

/-- An interval is too short: below 60 s ÷ (MAX_RPM × PPR) (R428). -/
def State.gapShort (s : State) (j gap : Nat) : Bool := decide (gap * s.fget FAN_MAX.MAX_RPM 0 * s.fanPpr j < 60000000000)

/-- RPM after an accepted edge (R442): once PPR + 1 edges have been accepted the fan runs, and its speed spans one revolution. The last
place of the quotient is open. -/
def State.fanSpeed (s : State) (j : Nat) : State :=
  let r := s.fan j
  if r.edges < s.fanPpr j + 1 then s
  else
    let x := openRound s.freeVal 60000000000 (r.gaps.take (s.fanPpr j)).sum
    let rpm := if s.fon FAN_CFG.DIR_EN j && s.fon FAN_SPEED.DIR j then -x else x
    (((s.fset FAN_SPEED.STATE j fanRUNNING).fsetI FAN_SPEED.RPM j rpm).tookFree)

/-- The fan reverses (R443): counted, its history cleared, RPM 0. -/
def State.fanReverse (s : State) (j : Nat) (rev : Bool) : State :=
  let s := (s.fbump FAN_CNT.REVERSALS j).pulse pgFAN (8 + j)
  let s := (s.setFan j { last := some rev }).fsetB FAN_SPEED.DIR j rev
  (s.fset FAN_SPEED.STATE j fanREVERSING).fset FAN_SPEED.RPM j 0

/-- The direction that an accepted edge shows, when two edges in a row agree and it differs from the one that stands (R443). While the fan
starts the direction is taken without a reversal. -/
def State.fanTurns (s : State) (j : Nat) (was : Option Bool) (rev : Bool) : Bool :=
  s.fon FAN_CFG.DIR_EN j && decide (was = some rev) && decide (s.fon FAN_SPEED.DIR j ≠ rev)

/-- An accepted edge (R442, R443). -/
def State.fanEdge (s : State) (j gap : Nat) (rev : Bool) : State :=
  let r := s.fan j
  let s := (s.timerStart tmFanStall j s.ms).inputValid pgFAN j
  if s.fanState j = fanSTOPPED then
    (s.setFan j { edges := 1, gaps := [], last := some rev }).fset FAN_SPEED.STATE j fanSTARTING
  else if s.fanTurns j r.last rev && decide (s.fanState j ≠ fanSTARTING) then s.fanReverse j rev
  else
    let s := if s.fanTurns j r.last rev then s.fsetB FAN_SPEED.DIR j rev else s
    (s.setFan j { edges := min (r.edges + 1) 5, gaps := if r.edges = 0 then [] else (gap :: r.gaps).take 4, last := some rev }).fanSpeed j

/-- TACH_EDGE: a tachometer edge `gap` ns after the fan's last accepted one, with the level of DIRj (R428, R442, R443). -/
def execTachEdge (fan : Fin 8) (gap : Nat) (dir : Bool) (s : State) : Host.Outcome State Fault Refusal :=
  .next (
    let j := fan.val
    if !s.fon FAN_CFG.EN j || !s.works pgFAN then s
    else if decide (s.fanState j ≠ fanSTOPPED) && s.gapShort j gap then (s.fbump FAN_CNT.DISCARDED j).pulse pgFAN evtRange
    else (s.fanEdge j gap (dir != s.fon FAN_CFG.DIR_POL j)).fanCheck j)

/-- FAN_STALL_TIMEOUT: STALL_MS without an edge: the fan is at standstill, and the input is lost (R31, R428, R442). -/
def execFanStallTimeout (fan : Fin 8) (s : State) : Host.Outcome State Fault Refusal :=
  .next (
    let j := fan.val
    if s.fon FAN_CFG.EN j && s.timerDue tmFanStall j s.ms (s.fget FAN_TIME.STALL_MS j) then
      (((s.fanStop j).timerStop tmFanStall j).inputLost pgFAN j).fanCheck j
    else s)

/-- FAN_FAIL_TIMEOUT: the fan has been stopped, slow or reversed for FAIL_MS (R444). -/
def execFanFailTimeout (fan : Fin 8) (s : State) : Host.Outcome State Fault Refusal :=
  .next (
    let j := fan.val
    if s.fanTested j && s.fanBad j && s.timerDue tmFanFail j s.ms (s.fget FAN_TIME.FAIL_MS j) then
      ((s.fset FAN_SPEED.FAILED j 1).cond pgFAN j true).driveFans
    else s)

/-! Supply PWM. -/

def State.pwm (s : State) (k : Nat) : PwmRt := Tbl.get (fun _ => {}) s.hk.pwm k

def State.setPwm (s : State) (k : Nat) (r : PwmRt) : State := { s with hk := { s.hk with pwm := Tbl.set (fun _ => {}) s.hk.pwm k r } }

def tmPwmHold : Nat := 85
def tmPwmRun : Nat := 86
def tmIlimOff : Nat := 87

def pwmOFF : Nat := 0
def pwmSOFT : Nat := 1
def pwmRUN : Nat := 2
def pwmTRIPPED : Nat := 3
def pwmLATCHED : Nat := 4

def State.pwmState (s : State) (k : Nat) : Nat := s.fget PWM_STAT.STATE k

/-- F155 is driven while any channel is TRIPPED or LATCHED (R441). -/
def State.drivePwm (s : State) : State := s.drive 155 ((List.range 8).any fun k => decide (pwmTRIPPED ≤ s.pwmState k))

/-- A channel changes its state; F155 and the linked fans follow. -/
def State.setPwmState (s : State) (k st : Nat) : State := ((s.fset PWM_STAT.STATE k st).drivePwm).fanCheckAll

/-- The period in cycles of 5 ns (R437). -/
def pwmPeriod (khz : Nat) : Nat := roundDivN 200000 khz

/-- The smallest pulse emitted (R438). -/
def State.pwmMin (s : State) (k : Nat) : Nat := max (s.fget PWM_CFG.MINP k) (s.fget PWM_CFG.DT k)

/-- The width that R438 forms from DUTY, before and after the pulse rule. -/
def pulseWidth (h t dt m : Nat) : Nat :=
  let h := if h < m then (if 2 * h < m then 0 else m) else h
  if (t : Int) - h - 2 * dt < m then t - 2 * dt - m else h

/-- h before the pulse rule. -/
def State.pwmAsked (s : State) (k : Nat) : Nat :=
  let t := pwmPeriod (s.fget PWM_CFG.FREQ_KHZ k)
  min (roundDivN (s.fget PWM_DUTY.DUTY k * t) 65536) (roundDivN (s.fget PWM_DUTY.MAX_DUTY k * t) 65536)

/-- h of R438. -/
def State.pwmTarget (s : State) (k : Nat) : Nat :=
  pulseWidth (s.pwmAsked k) (pwmPeriod (s.fget PWM_CFG.FREQ_KHZ k)) (s.fget PWM_CFG.DT k) (s.pwmMin k)

/-- P_SS of a channel (R441). -/
def State.pwmSs (s : State) (k : Nat) : Nat := max 1 (roundDivN (s.fget PWM_SS.SS_US k * 200) (pwmPeriod (s.fget PWM_CFG.FREQ_KHZ k)))

/-- h of a period of the soft start (R441): no pulse shorter than the smallest is emitted there either (R438). -/
def State.pwmRamp (s : State) (k : Nat) : Nat :=
  let m : Int := s.pwmMin k
  let h := (roundDiv (m * s.pwmSs k + (s.pwmTarget k - m) * (s.pwm k).u) (s.pwmSs k)).toNat
  pulseWidth h (pwmPeriod (s.fget PWM_CFG.FREQ_KHZ k)) (s.fget PWM_CFG.DT k) (s.pwmMin k)

/-- A soft start begins (R441). -/
def State.softBegin (s : State) (k : Nat) : State :=
  (s.setPwm k { s.pwm k with running := false, limited := false, row := 0, u := 0, pend := false }).setPwmState k pwmSOFT

/-- The channel goes OFF (R441); a limit input that is asserted already is watched from now on (R428). -/
def State.pwmOff (s : State) (k : Nat) : State :=
  let s := ((s.timerStop tmPwmHold k).timerStop tmPwmRun k).setPwm k { s.pwm k with running := false, limited := false, row := 0, u := 0, h := 0, pend := false }
  let s := if s.fon PWM_STAT.ILIM k && !(s.pwm k).ignored then s.timerStart tmIlimOff k s.ms else s
  (s.fset PWM_STAT.H_NOW k 0).setPwmState k pwmOFF

/-- The cycle of a period at which ILIM is sampled: PWMH has risen at DT, and BLANK cycles have passed (R437, R440). -/
def State.pwmSample (s : State) (k : Nat) : Nat := s.fget PWM_CFG.DT k + s.fget PWM_SS.BLANK k

/-- A period of the channel is limited at a cycle (R440): counted once; ILIM_N in a row trip the channel (R441). -/
def State.pwmLimit (s : State) (k at_ : Nat) : State :=
  let r := s.pwm k
  if !r.running || r.limited || r.h = 0 then s
  else
    let s := (s.setPwm k { r with limited := true, row := r.row + 1, cut := some at_ }).fbump PWM_CNT.LIMITED k
    if s.fget PWM_SS.ILIM_N k ≤ r.row + 1 then
      let s := (s.setPwm k { s.pwm k with running := false }).pulse pgPWM (8 + k)
      ((s.setPwmState k pwmTRIPPED).timerStart tmPwmHold k s.ms).timerStop tmPwmRun k
    else s

/-- The sample at the end of the blanking is passed: an assertion that stands at it limits the period (R440). -/
def State.pwmSampled (s : State) (k : Nat) : State :=
  if (s.pwm k).pend then (s.setPwm k { s.pwm k with pend := false }).pwmLimit k (s.pwmSample k) else s

/-- At a microsecond strobe: the samples of the periods that opened more than 2 µs ago are past, BLANK and DT being shorter (R440; DEDUCED, log
244). -/
def State.pwmStrobe (s : State) : State :=
  (List.range 8).foldl (fun s k => if (s.pwm k).pend && decide ((s.pwm k).openUs + 3 ≤ s.us) then s.pwmSampled k else s) s

/-- The open period ends: without a limit it ends the run of limited periods and moves the soft start on (R440, R441). -/
def State.pwmClose (s : State) (k : Nat) : State :=
  let s := s.pwmSampled k
  let r := s.pwm k
  if !r.running then s
  else if r.limited then s.setPwm k { r with running := false, limited := false }
  else
    let soft := decide (s.pwmState k = pwmSOFT)
    let s := s.setPwm k { r with running := false, row := 0, u := if soft then r.u + 1 else r.u }
    if soft && decide (s.pwmSs k ≤ r.u + 1) then (s.setPwmState k pwmRUN).timerStart tmPwmRun k s.sec_ else s

/-- A period opens (R438, R439): h is formed, a changed h counts as clipped, a limit that stands waits for the sample, and the events reach the
converters. -/
def State.pwmOpen (s : State) (k : Nat) : State :=
  let h := if s.pwmState k = pwmSOFT then s.pwmRamp k else s.pwmTarget k
  let s := if s.pwmTarget k = s.pwmAsked k then s else (s.fbump PWM_CNT.CLIPPED k).pulse pgPWM k
  let pend := s.fon PWM_STAT.ILIM k && !(s.pwm k).ignored && decide (0 < h)
  let s := (s.setPwm k { s.pwm k with running := true, limited := false, h := h, pend := pend, openUs := s.us, cut := none }).fset PWM_STAT.H_NOW k h
  let s := s.fanCheckAll.pwmEvent k false
  if h = 0 then s else s.pwmEvent k true

/-- A limit input that stands at the blanking sample limits the period there, and may trip the channel, as the pins show at once (R440). -/
def State.pwmAt (s : State) (k c : Nat) : State := if s.pwmSample k ≤ c then s.pwmSampled k else s

/-- PWMHk and PWMLk active at a cycle of the open period (R437 to R440): never both, and neither outside SOFT_START and RUN. With h = 0 PWML
stays active; a limit makes PWMH fall at the cycle of the limit (DEDUCED, log 204). -/
def State.pwmDrive (s : State) (k c : Nat) : Bool × Bool :=
  let s := s.pwmAt k c
  let r := s.pwm k
  let dt := s.fget PWM_CFG.DT k
  if !r.running || !(s.pwmState k = pwmSOFT || s.pwmState k = pwmRUN) then (false, false)
  else if r.h = 0 then (false, true)
  else
    let fall := match r.cut with | some x => min (dt + r.h) (max dt x) | none => dt + r.h
    (decide (dt ≤ c ∧ c < fall), decide (fall + dt ≤ c))

/-- The levels of PWMHk and PWMLk at a cycle: POL_H and POL_L invert them (R451). -/
def State.pwmPins (s : State) (k c : Nat) : Bool × Bool :=
  let d := s.pwmDrive k c
  (d.1 != s.fon PWM_CFG.POL_H k, d.2 != s.fon PWM_CFG.POL_L k)

/-- PWM_PERIOD_START: a period of a channel starts (R438, R441). -/
def execPwmPeriodStart (ch : Fin 8) (s : State) : Host.Outcome State Fault Refusal :=
  .next (
    let k := ch.val
    if !s.works pgPWM then s
    else
      let t := s.pwmClose k
      if s.pwmState k = pwmSOFT ∨ s.pwmState k = pwmRUN then (if t.pwmState k = pwmTRIPPED then t else t.pwmOpen k) else s)

/-- The limit input of a channel is asserted: its level is the one of ILIM_POL (R451). -/
def ilimOn (s : State) (k : Nat) (e : IlimEdge) : Bool := e.high == s.fon PWM_ILIM.ILIM_POL k

/-- The limit input is asserted at a cycle of the open period (R440): before the sample it waits for it; later in the high pulse it limits. -/
def State.ilimRises (s : State) (k at_ : Nat) : State :=
  let r := s.pwm k
  if !r.running || r.h = 0 then s
  else if at_ < s.pwmSample k then s.setPwm k { r with pend := true }
  else if at_ = s.pwmSample k ∨ at_ < s.fget PWM_CFG.DT k + r.h then s.pwmLimit k at_
  else s

/-- The limit input releases at a cycle of the open period: one that stood at the sample has limited the period (R440). -/
def State.ilimFalls (s : State) (k at_ : Nat) : State :=
  let s := if s.pwmSample k ≤ at_ then s.pwmSampled k else s.setPwm k { s.pwm k with pend := false }
  (s.setPwm k { s.pwm k with ignored := false }).timerStop tmIlimOff k

/-- ILIM_ASSERT: the filtered limit input of a channel takes a level, at a cycle of the open period (R428, R440). -/
def execIlimAssert (ch : Fin 8) (level : IlimEdge) (s : State) : Host.Outcome State Fault Refusal :=
  .next (
    let k := ch.val
    let on := ilimOn s k level
    let t := s.fsetB PWM_STAT.ILIM k on
    if !on then t.ilimFalls k level.at_
    else if (t.pwm k).ignored then t
    else if t.pwmState k = pwmOFF then (if t.timerOn tmIlimOff k then t else t.timerStart tmIlimOff k t.ms)
    else t.ilimRises k level.at_)

/-- ILIM_OFF_TIMEOUT: the limit input has been asserted for 1 ms while the channel is OFF (R428). -/
def execIlimOffTimeout (ch : Fin 8) (s : State) : Host.Outcome State Fault Refusal :=
  .next (
    let k := ch.val
    if decide (s.pwmState k = pwmOFF) && s.fon PWM_STAT.ILIM k && s.timerDue tmIlimOff k s.ms 1 then
      ((s.setPwm k { s.pwm k with ignored := true }).timerStop tmIlimOff k).pulse pgPWM evtRange
    else s)

/-- The period is long enough for both dead times and both pulses (R437). -/
def pwmFits (w : Word) : Bool :=
  let dt := bitsOf w 27 21
  decide (2 * dt + 2 * max (bitsOf w 20 14) dt ≤ pwmPeriod (bitsOf w 10 0))

/-- A write of PWM_CFGk (R437, R441). -/
def pwmCfgWrite (k : Nat) (v : Word) (s : State) : WRes :=
  let key := PWM_CFG.EN.key k
  let old := s.word key
  let held := decide (bitsOf old 27 14 ≠ bitsOf v 27 14 ∨ bitsOf old 10 0 ≠ bitsOf v 10 0)
  match s.mergeReg pgPWM (0x40 + 32 * k) key v with
  | .error r => .error r
  | .ok t =>
    if !pwmFits v then .error .outOfRange
    else if held && decide (s.pwmState k ≠ pwmOFF) then .error .configLocked
    else if bitsOf v 31 31 = 1 && bitsOf old 31 31 = 0 && decide (s.pwmState k = pwmOFF) then .ok (t.softBegin k)
    else if bitsOf v 31 31 = 0 && bitsOf old 31 31 = 1 then .ok (t.pwmOff k)
    else .ok t

/-- The word of PWM_CFGk as it stands, with EN at a value. -/
def State.pwmCfgWord (s : State) (k en : Nat) : Word := putBits (s.word (PWM_CFG.EN.key k)) 31 31 en

/-- PWM_ENABLE: PWM_CFGk.EN := 1 (R441). -/
def execPwmEnable (who : Init) (ch : Fin 8) (s : State) : Host.Outcome State Fault Refusal :=
  .next (s.access who pgPWM (0x40 + 32 * ch.val) (s.pwmCfgWord ch.val 1) (pwmCfgWrite ch.val (s.pwmCfgWord ch.val 1)))

/-- PWM_DISABLE: PWM_CFGk.EN := 0 (R441). -/
def execPwmDisable (who : Init) (ch : Fin 8) (s : State) : Host.Outcome State Fault Refusal :=
  .next (s.access who pgPWM (0x40 + 32 * ch.val) (s.pwmCfgWord ch.val 0) (pwmCfgWrite ch.val (s.pwmCfgWord ch.val 0)))

/-- PWM_HOLD_EXPIRED: HOLD_MS has passed in TRIPPED (R441). -/
def execPwmHoldExpired (ch : Fin 8) (s : State) : Host.Outcome State Fault Refusal :=
  .next (
    let k := ch.val
    if decide (s.pwmState k = pwmTRIPPED) && s.timerDue tmPwmHold k s.ms (s.fget PWM_ILIM.HOLD_MS k) then
      let t := s.timerStop tmPwmHold k
      if t.fget PWM_STAT.RETRIES k < t.fget PWM_ILIM.RETRY_LIMIT k then
        (t.fset PWM_STAT.RETRIES k (t.fget PWM_STAT.RETRIES k + 1)).softBegin k
      else (t.setPwmState k pwmLATCHED).pulse pgPWM (16 + k)
    else s)

/-- A write of PWM_CMDk (R441): CLEAR takes a LATCHED channel to OFF, and to a soft start when it is enabled. -/
def pwmCmdWrite (k : Nat) (v : Word) (s : State) : WRes :=
  if bitsOf v 31 31 = 1 && decide (s.pwmState k = pwmLATCHED) then
    let t := (s.fset PWM_STAT.RETRIES k 0).pwmOff k
    .ok (if t.fon PWM_CFG.EN k then t.softBegin k else t)
  else .ok s

/-- PWM_CLEAR: a write of PWM_CMDk.CLEAR (R441). -/
def execPwmClear (who : Init) (ch : Fin 8) (s : State) : Host.Outcome State Fault Refusal :=
  .next (s.access who pgPWM (0x58 + 32 * ch.val) 0x80000000 (pwmCmdWrite ch.val 0x80000000))

/-- PWM_RUN_TIMER: 10 s in RUN (R441). -/
def execPwmRunTimer (ch : Fin 8) (s : State) : Host.Outcome State Fault Refusal :=
  .next (
    if decide (s.pwmState ch.val = pwmRUN) && s.timerDue tmPwmRun ch.val s.sec_ 10 then
      (s.fset PWM_STAT.RETRIES ch.val 0).timerStop tmPwmRun ch.val
    else s)

end Sys2Proof.Machine
end

