-- ==== Sys2Proof/Machine/FhRx.lean ====
section
/-!
DEFINITION. Chapter 11, third part: a frame that arrives on a fronthaul lane is consumed, relayed or discarded (R295, R302, R305, R307, R308, R310).
-/
namespace Sys2Proof.Machine

/-! PTP in transit (R305). -/

def State.transits (s : State) : List PtpTransit := s.fhl.ptp.transit.filter fun x => decide (s.ms ≤ x.at_ + 1000)

/-- A message is corrected in transit. -/
def State.tcCount (s : State) : State := s.fbump FHL_PTP_CNT.TC_RELAYED 0

/-- A PTP message as the relay sends it on from a side, and the state after it: the residence enters a one-step Sync, a Delay_Req, or the Follow_Up of
a two-step Sync. -/
def State.ptpTransit (s : State) (d : Nat) (m : PtpMsg) (residence : Int) : State × PtpMsg :=
  match m with
  | .sync dom master seq int two t1 t2 corr =>
    if two then
      (s.setPtp { s.fhl.ptp with transit := ⟨d, dom.val, master, seq.val, residence, s.ms⟩ :: (s.transits.filter fun x =>
        decide (¬(x.side = d ∧ x.domain = dom.val ∧ x.master = master ∧ x.seq = seq.val))) }, m)
    else (s.tcCount, .sync dom master seq int two t1 t2 (corr + residence))
  | .followUp dom master seq t1 corr =>
    match s.transits.find? fun x => decide (x.side = d ∧ x.domain = dom.val ∧ x.master = master ∧ x.seq = seq.val) with
    | some x => (s.tcCount, .followUp dom master seq t1 (corr + x.residence))
    | none => (s, m)
  | .delayReq dom seq corr => (s.tcCount, .delayReq dom seq (corr + residence))
  | _ => (s, m)

/-- A frame from a side can be sent on (R302). -/
def State.relays (s : State) (d : Nat) : Bool := s.sideUp (1 - d) && s.fon (sideRelayFld (1 - d)) 0

/-- The port's Delay_Req leaves on its side once a Sync has been accepted (R305). -/
def State.ptpAsk (t s : State) (d : Nat) : State :=
  match t.fhl.ptp.req with
  | some (q, _) =>
    if t.fhl.ptp.req = s.fhl.ptp.req then t
    else t.fhSend d 0 (.ptp (.delayReq (byteOf (t.fget FHL_PTP_CFG.DOMAIN 0)) (halfOf q) 0)) false
  | none => t

/-- A PTP frame is taken by the port of its side, and relayed (R305). -/
def State.ptpArrives (s : State) (d lane : Nat) (m : PtpMsg) (a : FhArrival) : State :=
  let t := if d = s.fget FHL_PTP_CFG.SIDE 0 then (s.ptpMessage m).ptpAsk s d else s
  if t.relays d then
    let x := t.ptpTransit d m a.residence
    x.1.relay d lane (.ptp x.2) a true false
  else t.relayDrop

/-! Chain messages (R310). -/

/-- A chain message is consumed: its packet enters the fronthaul's queues. -/
def State.chainTake (s : State) (d src : Nat) (pkt : RawPkt) : State := (s.fbump FHL_CHAIN_CNT.CONSUMED 0).pktIn 2 (65536 * d + src) pkt

/-- A chain message is relayed with one hop less, or expires. -/
def State.chainPass (s : State) (d lane : Nat) (dest src : Fin 65536) (hops : Fin 256) (pkt : RawPkt) (a : FhArrival) : State :=
  if hops.val = 1 then (s.fbump FHL_CHAIN_CNT.EXPIRED 0).pulse pgFHL 7
  else s.relay d lane (.chain dest src (byteOf (hops.val - 1)) true pkt) a false false

/-- A chain message for this node alone. -/
def State.chainMine (s : State) (dest : Nat) : Bool := decide (dest = 0xFFFD ∨ dest = s.fget FHL_NODE.NODE_ID 0)

/-- A chain message on a side. -/
def State.chainArrives (s : State) (d lane : Nat) (dest src : Fin 65536) (hops : Fin 256) (reserved : Bool) (pkt : RawPkt) (a : FhArrival) : State :=
  if hops.val = 0 ∨ !reserved then s.fhDiscard d
  else if s.chainMine dest.val then s.chainTake d src.val pkt
  else if dest.val = 0xFFFF then (s.chainTake d src.val pkt).chainPass d lane dest src hops pkt a
  else s.chainPass d lane dest src hops pkt a

/-- A payload that its message type does not lay out (R295): a consumed frame is discarded, and one that is always relayed is relayed. -/
def State.fhMalformed (s : State) (d lane type : Nat) (payload : List (Fin 256)) (f : FhFrame) (a : FhArrival) : State :=
  if type = 0x00 then
    let pc := beValue ((payload.take 2).map fun x => x.val)
    (if 2 ≤ payload.length ∧ (s.flowOfPc pc).isSome then s.fhDiscard d else s).relay d lane f a true false
  else if type = 0x05 ∨ type = 0xC0 ∨ type = 0xC1 then s.fhDiscard d
  else s.relay d lane f a false false

/-- A frame as its message type reads it; its bytes, where they are given as they stand on the wire. -/
def readFrame (f : FhFrame) : FhFrame :=
  match f with
  | .ecpri type payload => (decodeFrame type.val (payload.map fun x => x.val)).getD f
  | _ => f

/-- A frame with a good FCS (R295). -/
def State.fhFrame (s : State) (d lane : Nat) (f : FhFrame) (a : FhArrival) : State :=
  match readFrame f with
  | .other _ => s.relay d lane f a false false
  | .concatenated => (s.fbump (sideDiscFld d) 0).relay d lane f a false false
  | .badRevision => s.fhDiscard d
  | .iq pc q blocks => (s.iqFrame d pc.val q.val blocks a).relay d lane f a true false
  | .ptp m => s.ptpArrives d lane m a
  | .owdRequest id stamp => s.owdRequested d lane id stamp a.stamp
  | .owdResponse id stamp => s.owdAnswered d id.val stamp
  | .owdOther _ _ => s
  | .align v g h np res acc target => s.alignMessage d v.val g.val h.val np res acc.toNat target.toNat
  | .chain dest src hops res pkt => s.chainArrives d lane dest src hops res pkt a
  | .ecpri type payload => s.fhMalformed d lane type.val payload f a

/-- A frame of a class that is relayed whatever it holds, and whether as express traffic. -/
def passesRelay : FhFrame → Option Bool
  | .other _ => some false
  | .concatenated => some false
  | .iq _ _ _ => some true
  | .ptp _ => some true
  | .ecpri type _ => if type.val = 0x05 ∨ type.val = 0xC0 ∨ type.val = 0xC1 then none else some (decide (type.val = 0x00))
  | _ => none

/-- A frame whose FCS fails is counted and not consumed; the relay, which is cut-through, sends it on with its bad FCS (R295, R302, R304), a chain
message as its address says (R310). -/
def State.fhBad (s : State) (d lane : Nat) (f : FhFrame) (a : FhArrival) : State :=
  let t := s.fbump (sideFcsFld d) 0
  match readFrame f with
  | .chain dest src hops res pkt =>
    if hops.val ≤ 1 ∨ !res ∨ s.chainMine dest.val then t else t.relay d lane (.chain dest src (byteOf (hops.val - 1)) true pkt) a false true
  | g =>
    match passesRelay g with
    | some express => t.relay d lane f a express true
    | none => t

/-- FH_FRAME_RECEIVED: a frame arrives on a lane that is up, in its side's domain (R14, R295). -/
def execFhFrameReceived (side : Fin 2) (lane : Fin 4) (frame : FhFrame) (arrival : FhArrival) (s : State) : Host.Outcome State Fault Refusal :=
  .next (
    if !s.works pgFHL || !s.domainRuns (36 + side.val) || !s.sideUp side.val || !(s.lanesUp side.val).contains lane.val then s
    else if arrival.fcsOk then s.fhFrame side.val lane.val frame arrival
    else s.fhBad side.val lane.val frame arrival)

end Sys2Proof.Machine
end

