-- ==== Sys2Proof/Machine/Fw.lean ====
section
/-!
DEFINITION. Firmware images and integrator extensions in the NV array, and their verification (R375, R399, R400).
-/
namespace Sys2Proof.Machine

/-- A multi-byte field in the NV array, most significant byte first. -/
def State.nvBE (s : State) (addr : Nat) : Nat → Nat
  | 0 => 0
  | n + 1 => s.nvBE addr n * 256 + (s.nvByte (addr + n)).toNat

/-- The bytes of a part of the NV array. -/
def State.nvList (s : State) (addr len : Nat) : List Nat := (List.range len).map fun i => (s.nvByte (addr + i)).toNat

/-- Where the images of a bank start (R375). -/
def fwBase (bank : Nat) : Nat := bank * 0x800000
def bootImageBase (bank : Nat) : Nat := bank * 0x800000 + 0x300000
def extBase (bank : Nat) : Nat := bank * 0x800000 + 0x340000

/-- What R399 lays down for a kind of image: MAGIC, the greatest LENGTH, the bit of the usage that its key slot needs. -/
structure FwKind where
  magic : Nat
  most : Nat
  usage : Nat
deriving DecidableEq, Repr

def fwFirmware : FwKind := ⟨0x4C4B4657, 3145728, 3⟩
def fwExtension : FwKind := ⟨0x4C4B4558, 262144, 1⟩

/-- The section table of an image in the NV array. -/
def State.nvSections (s : State) (a : Nat) : List Section :=
  (List.range (s.nvBE (a + 0x0E) 2)).map fun i =>
    let e := a + 0x40 + 16 * i
    ⟨s.nvBE e 2, s.nvBE (e + 2) 2, s.nvBE (e + 4) 4, s.nvBE (e + 8) 4, s.nvBE (e + 12) 4⟩

/-- Steps 1 to 3 of R96 with the values of R399: length, format, part and stepping. -/
def State.fwHeaderOk (s : State) (k : FwKind) (a : Nat) : Bool :=
  decide (s.nvBE a 4 = k.magic ∧ s.nvBE (a + 4) 2 = 1 ∧ s.nvBE (a + 6) 2 = 64 ∧ s.nvBE (a + 0x0E) 2 ≤ 16) &&
    decide (64 + 16 * s.nvBE (a + 0x0E) 2 + 96 ≤ s.nvBE (a + 0x10) 4 ∧ s.nvBE (a + 0x10) 4 ≤ k.most) &&
    (s.nvList (a + 0x18) 40).all (· = 0) &&
    decide (s.nvBE (a + 8) 2 = s.member.part ∧ s.nvBE (a + 0x0A) 1 ≤ s.fget SYS_DEVICE_ID.STEPPING 0)

/-- Step 4: the key slot holds the usage and is not revoked (R398). -/
def State.fwKeyOk (s : State) (k : FwKind) (a : Nat) : Bool :=
  let r := s.rootOf (s.nvBE (a + 0x0B) 1)
  decide (s.nvBE (a + 0x0B) 1 < 8) && r.programmed && !r.revoked && r.usage.testBit k.usage

/-- Steps 6 and 7: the section table, CODE once, and the section CRCs. -/
def State.fwSectionsOk (s : State) (a : Nat) : Bool :=
  let cs := s.nvSections a
  let hdr := 64 + 16 * cs.length
  let len := s.nvBE (a + 0x10) 4
  cs.all (fun c => decide (c.off % 16 = 0 ∧ hdr ≤ c.off ∧ c.off + c.len + 96 ≤ len) && (decide (c.typ = 1 ∧ c.sver = 1) || decide (c.typ ≠ 1) && c.typ.testBit 15)) &&
    (cs.zipIdx).all (fun x => (cs.zipIdx).all fun y => decide (x.2 = y.2) || rangesApart x.1.off x.1.len y.1.off y.1.len) &&
    decide ((cs.filter fun c => decide (c.typ = 1)).length = 1) &&
    cs.all fun c => decide (crc32 (s.nvList (a + c.off) c.len) = c.crc)

/-- The security version of an image: its GENERATION field (R399). -/
def State.fwSvnOf (s : State) (a : Nat) : Nat := s.nvBE (a + 0x0C) 2

/-- Verification of an image (R399): steps 1 to 7 of R96, then the security version. Whether the signature verifies comes from outside. -/
def State.fwVerify (s : State) (k : FwKind) (a svn : Nat) (sigOk : Bool) : Bool :=
  s.fwHeaderOk k a && s.fwKeyOk k a && sigOk && s.fwSectionsOk a && decide (svn ≤ s.fwSvnOf a ∧ s.fwSvnOf a ≤ 63)

/-- The firmware of a bank verifies. -/
def State.bankFwOk (s : State) (bank : Nat) (sigOk : Bool) : Bool := s.fwVerify fwFirmware (fwBase bank) s.sec.fwSvn sigOk

/-- An extension is present in a bank: its region does not begin with erased bytes. -/
def State.extPresent (s : State) (bank : Nat) : Bool := decide (s.nvBE (extBase bank) 4 ≠ 0xFFFFFFFF)

/-- The extension of a bank verifies. -/
def State.bankExtOk (s : State) (bank : Nat) (sigOk : Bool) : Bool := s.fwVerify fwExtension (extBase bank) s.sec.extSvn sigOk

/-- A boot-bank request may proceed (R401): the firmware verifies, and the extension if one is present. -/
def State.bankOk (s : State) (bank : Nat) (fwSig extSig : Bool) : Bool :=
  s.bankFwOk bank fwSig && (!s.extPresent bank || s.bankExtOk bank extSig)

end Sys2Proof.Machine
end

