-- ==== Sys2Proof/Machine/Nv.lean ====
section
/-!
DEFINITION. Chapter 14, second part: the end of NV operations and what their commit brings (R373 to R378), waits for energy (R382), boot-bank
requests (R401) and power failure (R384).
-/
namespace Sys2Proof.Machine

/-! Power failure (R384). -/

/-- The power-fail record enters the intake (R384 step 5); its P1 counts the records of the stage, those before it taken. -/
def State.powerFailRecord (s : State) : State :=
  s.post 0x0004 (s.hup.eLow / 1000) s.evr.staged (s.fget THM_STAT.BAND 0)

/-- The SerDes stop (R384 step 4): converter links, fronthaul lanes, PCI Express and management Ethernet. -/
def State.serdesStop (s : State) : State :=
  let t := ((List.range 32).filter fun g => s.fon JLK_STAT.PLL_LOCK g).foldl (fun t g => if rxSHLOCK ≤ t.rxSt g then t.rxLost g true else t.pllLost g) s
  let t := [0, 1].foldl (fun t d => (t.lanesUp d).foldl (fun t l => (t.setBlockLock d l false).laneDown d l) t) t
  let t := if t.fon PCIE_STAT.LINK_UP 0 then t.pcieDown else t
  if t.fon MGE_STAT.LINK_UP 0 then t.mgeDown else t

/-- What happens at once when power fail is decided (R384, steps 1 to 5): mute, error pair, pads, the SerDes and the PLLs stop, the recorder takes what
waits and the power-fail record, and the intake closes; the open segment is queued for step 6. -/
def State.powerFailNow (s : State) : State :=
  if s.fon HUP_STAT.PFAIL 0 then s
  else
    let s := (s.fset HUP_STAT.PFAIL 0 1).pulse pgHUP 1
    let s := s.muteAndPads
    let s := s.fset FLT_STAT.HEALTHY 0 0
    let s := s.serdesStop
    let s := (s.fset CLK_PLL_STAT.PLLA_LOCK 0 0).fset CLK_PLL_STAT.PLLC_LOCK 0 0
    let s := (s.fset CLK_PLL_STAT.PLLD_LOCK 0 0).refreshClocks.drive 143 true
    let s := s.drainIntake.powerFailRecord.drainIntake
    (s.fset EVR_STAT.PF_CLOSED 0 1).flushOpen

/-- One sample more among those of the last 1 s below which, or above which, none has come since (R381). -/
def slideIn (keep : Nat → Bool) (us uv : Nat) (l : List (Nat × Nat)) : List (Nat × Nat) :=
  (l.filter fun e => decide (us ≤ e.1 + 1000000) && keep e.2) ++ [(us, uv)]

/-- The supervisor's record of V over the last 1 s takes a value. -/
def HupSt.voltage (h : HupSt) (us uv : Nat) : HupSt :=
  { h with vUv := uv, vLows := slideIn (fun v => decide (v < uv)) us uv h.vLows, vHighs := slideIn (fun v => decide (uv < v)) us uv h.vHighs
           vSince := some (h.vSince.getD us) }

/-- HOLDUP_VOLTAGE_SAMPLE: a conversion of HUVSENSE (R379); a fall of V below VPF_MV decides power fail (R384). -/
def execHoldupVoltageSample (code : Fin 4096) (s : State) : Host.Outcome State Fault Refusal :=
  .next (
    if hupOver code.val then s.pulse pgHUP evtRange
    else
      let samples := (code.val :: s.hup.samples).take 3
      let was := s.hup.vUv / 1000
      let uv := hupUv (median3 samples) (s.fget HUP_SCALE.DIV 0)
      let s := { s with hup := { s.hup with samples := samples }.voltage s.us uv }
      let s := (s.fset HUP_V.V_MV 0 (uv / 1000)).fset HUP_STAT.V_LOSS 0 0
      let s := s.cond pgHUP evtLoss (s.fon HUP_STAT.Q_LOSS 0)
      let s := s.timerStart tmHupV 0 s.us
      if s.fon HUP_CFG.EN 0 && decide (s.fget HUP_VOLT.VPF_MV 0 ≤ was) && decide (uv / 1000 < s.fget HUP_VOLT.VPF_MV 0)
      then s.powerFailNow else s)

/-- POWER_FAIL: PFAIL_N falls and the filter passes it (R379, R384). -/
def execPowerFail (s : State) : Host.Outcome State Fault Refusal :=
  .next ({ s with hup := { s.hup with supplyGood := false } } : State).powerFailNow.driveEnergy

/-- The NV work of a power failure is done (R384 step 7): nothing runs, and what is staged is refused by the check. -/
def State.pfIdle (s : State) : Bool :=
  s.nva.running.isNone && (match s.evr.fullSegs with | [] => true | seg :: _ => !s.admits (.segment seg))

/-- POWER_FAIL_RECOVERY: PFAIL_N has been high and V at or above VPF_MV for 100 ms once the NV work is done; chip reset with cause 0x08 (R384,
R472). -/
def execPowerFailRecovery (s : State) : Host.Outcome State Fault Refusal :=
  .next (
    if s.fon HUP_STAT.PFAIL 0 && s.pfIdle && decide (s.fget HUP_VOLT.VPF_MV 0 ≤ s.hup.vUv / 1000) then
      ({ s with hup := { s.hup with supplyGood := true } } : State).commitOpenIfAdmitted.chipReset 0x08 0
    else s)

/-! The end of an operation (R373 to R377). -/

/-- A boot-bank entry has been committed (R378, R401): the bank runs from the next chip reset. -/
def State.bootBankCommitted (s : State) (bank : Nat) : State :=
  let id := match s.nva.bootReq with | some (_, i) => i | none => 0
  let s := { s with sec := { s.sec with bootBank := bank }, nva := { s.nva with bootReq := none } }
  let s := (s.fset NVA_BOOTSEL.NEXT 0 bank).fset NVA_BOOTSEL.RESULT 0 1
  (s.post 0x0007 bank 0 id).pulse pgNVA 5

/-- What the commit of a journal entry brings: by TYPE, the regulatory set (R231), the boot bank (R378), the clear's erase (R372), a key (R395),
the PCI Express role (R396), BOOT (R475); EPOCH and hold-up entries bring nothing more. -/
def State.journalEffect (s : State) (e : JEntry) : State :=
  match e.typ with
  | 1 => let t := s.regInForce e.payload; t.post 0x0009 (t.fget LIM_REG_CRC.CRC 0) (t.fget LIM_REG_STAT.ENTRIES 0) 0x11
  | 2 => s.bootBankCommitted (e.payload.headD 0)
  | 4 => { s with nva := { s.nva with waiting := s.nva.waiting ++ [{ job := .logErase }] } }
  | 5 => s.keyCommitted e.key (if e.payload.isEmpty then none else some (e.payload.foldl (fun a w => a * 2 ^ 32 + w) 0))
  | 6 => { s with sec := { s.sec with roleCommitted := e.payload.headD 0x1F } }
  | 8 => s.fset GCP_BOOT.BOOT 0 (e.payload.headD 0)
  | _ => s

/-- The address of a job: the next bytes of the live journal half, the next log slot, or the host's address (R374, R375). -/
def State.jobAddr (s : State) : NvJob → Nat
  | .journal _ => halfAddr (s.fget NVA_JRNL.HALF 0) + (0x100000 - s.fget NVA_JRNL.FREE 0)
  | .commit _ => halfAddr (s.fget NVA_JRNL.HALF 0) + (0x100000 - s.fget NVA_JRNL.FREE 0) - 16
  | .bodyOnly _ => halfAddr (s.fget NVA_JRNL.HALF 0) + (0x100000 - s.fget NVA_JRNL.FREE 0)
  | .copy _ => halfAddr s.otherHalf + s.nva.used s.otherHalf
  | .halfSwitch => halfAddr s.otherHalf + s.nva.used s.otherHalf
  | .halfErase => halfAddr s.otherHalf
  | .segment _ => slotAddr s.evr.log.length
  | .logErase => 0x480000
  | .program a _ => a
  | .erase a => a

/-- P1 of a record of code 0x5001 (R368). -/
def NvJob.failKind : NvJob → Nat
  | .erase _ => 3
  | .logErase => 3
  | .halfErase => 3
  | _ => 2

/-- A journal entry that failed ends what waits for it: a key change with KEY_RESULT = 3, a clear, a boot-bank request. -/
def State.entryFailed (s : State) (e : JEntry) : State :=
    if e.typ = 5 then { s with sec := { s.sec with keyReq := none } }.fset SEC_KEY_CMD.KEY_RESULT 0 3
    else if e.typ = 4 then { s with evr := { s.evr with clearRec := none } }.fset EVR_STAT.CLEARING 0 0
    else if e.typ = 2 then { s with nva := { s.nva with bootReq := none } }
    else s

/-- What a failed operation leaves behind it: an entry without its commit word, whose place is written past (R374); a compaction begins again with the
erase of the other half; a segment stays staged, a clear goes on; a host command ends with RESULT = 1. -/
def State.failEffect (s : State) (j : NvJob) : State :=
  match j with
  | .journal e => (s.journalBody (s.numbered e)).entryFailed e
  | .commit e => s.entryFailed e
  | .bodyOnly e => s.journalBody (s.numbered e)
  | .copy e => { s with nva := { s.nva with journal := s.nva.journal ++ [{ e with half := s.otherHalf, committed := false }], copying := none } }
  | .halfSwitch => { s with nva := { s.nva with journal := s.nva.journal ++ [{ typ := typHALF, key := 0, half := s.otherHalf }], copying := none } }
  | .halfErase => s
  | .segment _ => s
  | .logErase => { s with nva := { s.nva with waiting := s.nva.waiting ++ [{ job := .logErase }] } }
  | _ => s.hostDone 1

/-- A third verify failure (R376): the operation ends, NV_FAIL rises, F152 is driven and a record is posted. -/
def State.nvFailed (s : State) (j : NvJob) : State :=
  let a := s.jobAddr j
  let s := s.nvEnd.failEffect j
  ((s.pulse pgNVA 1).drive 152 true).post 0x5001 a j.failKind (s.jobBank j)

/-- The commit word of an entry is programmed, and the entry has its effect (R373). -/
def State.commitDone (s : State) (e : JEntry) : State := (s.nvEnd.journalCommit e).journalEffect { e with committed := true }

/-- The header and payload of an entry are programmed: its commit word is programmed next, in its own operation (R373). -/
def State.bodyDone (s : State) (e : JEntry) : State :=
  let t := s.journalBody (s.numbered e)
  { t with nva := { t.nva with running := t.nva.running.map fun r => { r with job := .commit (s.numbered e), fails := 0 } } }

/-- A clear's step 3 ends: the log sectors are erased (R372). -/
def State.logErased (s : State) : State :=
  let n := (s.nva.freshened 0x480000 0x580000).freshened 0xC80000 0xD80000
  ({ s with nva := n } : State).setEvr { s.evr with log := [] }

/-- An operation passes (R376, R388). -/
def State.nvPassed (s : State) (j : NvJob) : State :=
  match j with
  | .journal e => s.bodyDone e
  | .commit e => s.commitDone e
  | .bodyOnly e => s.nvEnd.journalBody (s.numbered e)
  | .copy e => s.nvEnd.pieceDone (.copy e)
  | .halfSwitch => s.nvEnd.pieceDone .halfSwitch
  | .halfErase => s.nvEnd.pieceDone .halfErase
  | .segment _ => s.commitSegment
  | .logErase => match s.evr.clearRec with | some c => s.nvEnd.logErased.clearComplete c | none => s.nvEnd.logErased
  | .program a d => (s.nvEnd.nvProgram a d).hostDone 0
  | .erase a => (s.nvEnd.nvErase a).hostDone 0

/-- An operation programs only erased words (R376). -/
def State.programmable (s : State) : NvJob → Bool
  | .program a _ => s.nvErased a
  | _ => true

/-- The running program or erase ends; a verify failure is retried twice (R376). -/
def State.nvOpEnds (s : State) (ok : Bool) : State :=
  match s.nva.running with
  | none => s
  | some r =>
    if ok && s.programmable r.job then s.nvPassed r.job
    else if r.fails < 2 then { s with nva := { s.nva with running := some { r with fails := r.fails + 1 } } }
    else s.nvFailed r.job

/-- The entries of a half with the one at an offset marked as holding an uncorrectable word. -/
def loseEntry (h off : Nat) : Nat → List JEntry → List JEntry
  | _, [] => []
  | at_, e :: l =>
    if e.half ≠ h then e :: loseEntry h off at_ l
    else (if at_ ≤ off ∧ off < at_ + e.size then { e with lost := true } else e) :: loseEntry h off (at_ + e.size) l

/-- A read finds a word uncorrectable (R376): it stays so until its sector is erased (DEDUCED, log 199). -/
def State.wordLost (s : State) (a : Nat) : State :=
  let off := a % 0x800000
  let n := if s.nva.lostAt a then s.nva else { s.nva with lost := s.nva.lost ++ [a / 16] }
  let n := if 0x380000 ≤ off ∧ off < 0x480000 then { n with journal := loseEntry (a / 0x800000) (off - 0x380000) 0 n.journal } else n
  ({ s with nva := n } : State).nvUncorrectable a

/-- NV_OPERATION_DONE: the running program or erase passes or fails (R376), or a read of the array finds a word that SECDED corrects, or cannot. -/
def execNvOperationDone (outcome : NvEnd) (s : State) : Host.Outcome State Fault Refusal :=
  .next (
    match outcome with
    | .passed => s.nvOpEnds true
    | .failed => s.nvOpEnds false
    | .corrected _ => (s.fbump NVA_ECC.CORR 0).pulse pgNVA 2
    | .uncorrectable a => s.wordLost a.val)

/-- The oldest journal entry that waits; none starts after a power fail (R384). -/
def State.nextJournal (s : State) : Option NvReq :=
  if s.fon HUP_STAT.PFAIL 0 then none else s.nva.waiting.find? fun r => decide (r.job.rank = 0)

/-- A journal entry is written and committed (R373, R374). -/
def State.journalDone (s : State) (e : JEntry) : State := (s.bodyDone e).commitDone (s.numbered e)

/-- The journal operation that runs is completed with its entry, and the oldest entry that waits is written whole, the journal compacted first where
it does not fit; each operation is admitted by the check (R373, R374, R377, R382). -/
def State.journalWork : Nat → State → State
  | 0, s => s
  | n + 1, s =>
    match (s.nva.running.map NvReq.job : Option NvJob) with
    | some (.journal e) => s.journalDone e
    | some (.commit e) => s.commitDone e
    | running =>
      let s := match running with | some j => (if j.rank = 0 then s.nvPassed j else s) | none => s
      match s.nextJournal with
      | none => s
      | some r =>
        let j := s.pieceOf r.job
        if !s.admits j then s.markWaiting
        else if s.suspends { r with job := j } then journalWork n (s.nvStart { r with job := j })
        else s

/-- JOURNAL_WRITE: a journal entry is written and then its commit word (R373, R374). -/
def execJournalWrite (s : State) : Host.Outcome State Fault Refusal := .next (s.journalWork (s.nva.journal.length + 6))

/-- EVR_CLEAR_COMPLETE: the log sectors are erased, and the clear's last step runs (R372). The erase is that of the clear's journal entry. -/
def execEvrClearComplete (s : State) : Host.Outcome State Fault Refusal :=
  .next (
    match s.nva.running with
    | some ⟨.logErase, _, _, _, _⟩ => s.nvPassed .logErase
    | _ => s)

/-! Boot-bank requests (R378, R401). -/

/-- NVA_BOOTSEL.RESULT is set (R390). -/
def State.bootResult (s : State) (r : Nat) : State := (s.fset NVA_BOOTSEL.RESULT 0 r).pulse pgNVA 5

/-- A boot-bank entry, with the bank. -/
def bootEntry (bank : Nat) : JEntry := { typ := 2, key := 0, payload := [bank] }

/-- A boot-bank request that its checks have passed is committed as a journal entry; the energy check may refuse it (R378, R401). -/
def State.bootCommit (s : State) (bank : Nat) : State :=
  if !s.admits (.journal (bootEntry bank)) then ({ s with nva := { s.nva with bootReq := none } } : State).bootResult 3
  else (s.fset NVA_BOOTSEL.RESULT 0 0).queueJournal 2 0 [bank]

/-- The verification of a bank fails (R401): RESULT = 2, and EXT_REFUSED rises where it is the extension that fails (R427). -/
def State.bootRefused (s : State) (bank : Nat) (fwSig extSig : Bool) : State :=
  let t := if s.bankFwOk bank fwSig && s.extPresent bank && !s.bankExtOk bank extSig then s.pulse pgSEC 0 else s
  ({ t with nva := { t.nva with bootReq := none } } : State).bootResult 2

/-- A write of NVA_BOOTSEL with REQ = 1 (R378, R401): a bank that runs needs no verification and, with the controller idle, is done at once; another
is verified first. -/
def bootselWrite (id bank : Nat) (fwSig extSig : Bool) (s : State) : WRes :=
  let s := { s with nva := { s.nva with bootReq := some (bank, id) } }
  if s.execBit bank then
    let t := s.bootCommit bank
    .ok (if s.nva.running.isNone && s.nva.waiting.isEmpty then t.journalWork (t.nva.journal.length + 6) else t)
  else if !s.bankOk bank fwSig extSig then .ok (s.bootRefused bank fwSig extSig)
  else .ok (s.bootCommit bank)

/-- BOOTSEL_REQUEST: a write of NVA_BOOTSEL.REQ for a bank; `fwSig` and `extSig` say whether the signatures of its firmware and of its extension
verify (R399, R401). -/
def execBootselRequest (who : Init) (bank : Fin 2) (fwSig extSig : Bool) (s : State) : Host.Outcome State Fault Refusal :=
  .next (s.access who pgNVA 0x068 (BitVec.ofNat 32 (0x40000000 + bank.val * 0x20000000))
    (bootselWrite (((s.identOf who).map Ident.code).getD 0) bank.val fwSig extSig))

/-! Waits for energy (R382, R389). -/

/-- A wait that began at a millisecond has lasted 1 s. -/
def State.waited1s (s : State) (since : Option Nat) : Bool := match since with | some t => decide (t + 1001 ≤ s.ms) | none => false

/-- ENERGY_RETEST: every 1 ms the writes that wait for energy are tested again (R382), a fuse burn and a lifecycle request's step 4 among them (R392,
R398). -/
def execEnergyRetest (s : State) : Host.Outcome State Fault Refusal :=
  .next (
    let t := s.burnRetest
    let t := match t.lcDue with | some r => (t.lcEnter r).goEnds | none => t
    if t.nva.waiting.any (fun r => r.since.isSome) || !t.evr.fullSegs.isEmpty then t.nvDispatch else t)

/-- A write waits since 1 s and is not marked yet: a queued one, the oldest staged segment, a fuse burn. -/
def State.lateWrite (s : State) : Option Nat :=
  let band := s.fget THM_STAT.BAND 0
  match s.nva.waiting.find? fun r => !r.blocked && s.waited1s r.since with
  | some r => some (s.energyOf ((s.pieceOf r.job).duration band))
  | none =>
    if s.nva.burn.any fun b => !b.blocked && s.waited1s (some b.since) then some (s.energyOf 4000)
    else if s.waited1s s.nva.segSince && !s.fon HUP_STAT.BLOCKED 0 then
      (s.evr.fullSegs.head?).map fun x => s.energyOf ((NvJob.segment x).duration band)
    else none

/-- BLOCKED = 1, HU_BLOCKED rises, a record is posted and F153 is driven (R382, R389). -/
def State.energyBlocked (s : State) : State :=
  match s.lateWrite with
  | none => s
  | some nj =>
    let mark := fun (r : NvReq) => if s.waited1s r.since then { r with blocked := true } else r
    let burn := fun (b : RootBurn) => if s.waited1s (some b.since) then { b with blocked := true } else b
    let t := { s with nva := { s.nva with waiting := s.nva.waiting.map mark, burn := s.nva.burn.map burn } }
    let t := (t.fset HUP_STAT.BLOCKED 0 1).pulse pgHUP 2
    (t.post 0x5002 (t.hup.eLow / 1000) (nj / 1000000) 0).driveEnergy

/-! The end of a lifecycle request (R392). -/

/-- A lifecycle request that the check has not admitted for 1 s ends with LC_RESULT = 3 and nothing burned (R392). -/
def State.lcEnergyEnd (s : State) : State :=
  if s.sec.lcReq.any (fun r => !r.burned) && s.timerDue tmLcWait 0 s.ms 1000 && !s.energyOk 4000 s.evr.stagedSegs then
    let s := { s with sec := { s.sec with lcReq := none } }
    (((s.fset SEC_LC.LC_RESULT 0 3).fset SEC_LC.LC_PENDING 0 0).timerStop tmLcWait 0).goAnswered
  else s

/-- FUSE_BURN_DONE: the burn of a pending transition's two fuse words ends (R391 to R393); it starts only once the energy check admits its 4 ms. -/
def execFuseBurnDone (outcome : FuseEnd) (s : State) : Host.Outcome State Fault Refusal :=
  .next (
    match s.sec.lcReq with
    | none => s
    | some r => if r.burned || !s.energyOk 4000 s.evr.stagedSegs then s else ((s.fuseEnd r outcome).timerStop tmLcWait 0).goEnds)

end Sys2Proof.Machine
end

