-- ==== Sys2Proof/Machine/Sample.lean ====
section
/-!
DEFINITION. What a 64-sample block of the transmit streams does: sum clips (R61), the onset detector (R131, R132), the limiter (R234, R235), the
bins and on-time that Foxglove watches (R238); and the duty check of the second strobe.
-/
namespace Sys2Proof.Machine

/-- The output of a transmit stream is zero: its mute bit, or the hard-wired mute input, which acts through a reset of the LIM block too (R233, R110,
R133, R358, R481). -/
def State.outMuted (s : State) (n : Nat) : Bool := s.streamMuted n || s.flt.hardMute || s.sch.tableBad || !s.running pgLIM

/-- Twice the edges of a limiter bin of a transmit stream, in kHz: 64 bins of R ÷ 64, bin 32 centred on the stream, as the subbands of R116. -/
def State.binEdges (s : State) (n k : Nat) : Int × Int :=
  let w : Int := (rateKhz (s.fget CHN_STREAM.RATE (32 + n)) / 64 : Nat)
  let c : Int := 2 * (s.fget CHN_STREAM.FC_KHZ (32 + n) : Int) + (2 * (k : Int) - 64) * w
  (c - w, c + w)

/-! The probe (R124). -/

/-- PROBE_REL for a transmit stream, in 1/64 dB. DESIGN CHOICE (log 186): the highest of the instances that ask for its probe. -/
def State.probeRel (s : State) (t : Nat) : Option Int := highest ((s.probers t).map fun n => s.fgetI CAN_PROBE.PROBE_REL n)

/-- A strip of a path that writes a transmit stream carries a probe while the stream's probe is on: a context that runs has it, and its cell is not
mute. -/
def State.probedStrip (s : State) (n : Nat) (x : StripOut) : Bool :=
  (s.pathsWriting n).contains x.path.val && decide ((s.pathGrid x.path.val).level x.strip.val ≠ 0) &&
    (s.ctxsOfPath x.path.val).any fun c => ctxRuns (s.ctxState c) && (s.stripsOf c).contains x.strip.val

/-- The limiter bin of a transmit stream that holds the centre of a path's strip. -/
def State.stripBin (s : State) (n : Nat) (x : StripOut) : Option Nat :=
  let f := 2 * (s.gridOrigin x.path.val + 360 * (x.strip.val : Int) + 180)
  (List.range 64).find? fun k => decide ((s.binEdges n k).1 ≤ f ∧ f < (s.binEdges n k).2)

/-- The probe in a block of a stream: the power of each probed strip, PROBE_REL from the output power there, in units of 2^-40. -/
def State.probeIn (s : State) (b : TxBlock) : List (StripOut × Nat) :=
  match s.probeRel (32 + b.stream.val) with
  | none => []
  | some rel => (b.strips.filter fun x => s.probedStrip b.stream.val x).map fun x => (x, x.power * dbToLin rel / linOne)

/-- The attenuation of the limiter in force, in 1/64 dB (R235). -/
def State.atten (s : State) (n : Nat) : Nat := Tbl.get (fun _ => 0) s.npr.attenQ n / 96000

/-- The attenuation of the limit gate on a transmit stream, in 1/64 dB: the clamp's depth and the limiter's attenuation add (R233). -/
def State.gateAtten (s : State) (n : Nat) : Nat := s.clampDepth (32 + n) + s.atten n

/-- A power at the sum's output, as the limit gate radiates it (R233): zero where the output is muted, and attenuated otherwise. -/
def State.throughGate (s : State) (n p : Nat) : Nat := if s.outMuted n then 0 else p * linOne / dbToLin (s.gateAtten n)

/-- The bins and the power of a block at TX_OUT: the sum's output with the probe added (R124), through the limit gate (R233). -/
def State.binsOf (s : State) (b : TxBlock) : List Nat :=
  let probe := (s.probeIn b).map fun x => (s.stripBin b.stream.val x.1, x.2)
  (List.range 64).map fun k =>
    s.throughGate b.stream.val (b.bins.getD k 0 + ((probe.filter fun x => decide (x.1 = some k)).map fun x => x.2).sum)

def State.powerOf (s : State) (b : TxBlock) : Nat :=
  s.throughGate b.stream.val (b.power + ((s.probeIn b).map fun x => x.2).sum / 2 ^ 10)

/-! Sum clips (R61). -/

/-- A block in which the rounding of a sum clips. -/
def State.sumClip (s : State) (n : Nat) : State := ((s.saturate pgCHN).fset CHN_SUM_CLIP.STREAM 0 (32 + n)).pulse pgCHN 3

/-! The onset detector (R131, R132). -/

/-- The sum of a window of W blocks that ended `back` blocks ago. -/
def windowSum (l : List Nat) (w back : Nat) : Nat := ((l.drop back).take w).sum

/-- A window is above another by RISE, in 1/64 dB; a window without power has no level to rise from. -/
def rises (rise : Int) (new old : Nat) : Bool := decide (0 < old) && ratioAtMost (2 * rise) new old

/-- The condition of R131 at the end of a block. DESIGN CHOICE (log 181): blocks before the history began count as zero power. -/
def State.onsetAt (s : State) (n : Nat) (l : List Nat) : Bool :=
  let w := s.fget CAN_ONSET_X.W 0
  let rise : Int := s.fgetI CAN_ONSET_X.RISE 0
  let floor := s.fgetI CAN_ONSET_CFG.FLOOR 0 - s.txc (32 + n)
  let now := windowSum l w 0
  decide (2 * w < l.length) && decide (0 < now) && ratioAtMost (2 * floor) now (w * 2 ^ 30) &&
    rises rise (windowSum l w w) (windowSum l w (2 * w)) && rises rise now (windowSum l w w)

/-- Contexts whose path writes a transmit stream. -/
def State.ctxsWriting (s : State) (n : Nat) : List Nat := s.liveCtxs.filter fun c => (s.ctxDests c).contains (32 + n)

/-- A trigger that finds the clamp at its floor is remembered, newest first (R133, R238). -/
def State.noteFloorHit (s : State) (n : Nat) : State :=
  let l := (s.dt :: Tbl.get (fun _ => []) s.npr.oscHits (32 + n)).take 256
  { s with npr := { s.npr with oscHits := Tbl.set (fun _ => []) s.npr.oscHits (32 + n) l } }

/-- An onset trigger on a transmit stream (R132, R133, R238). -/
def State.onsetTrigger (s : State) (n : Fin 32) : State :=
  let atFloor := decide (s.clampState (32 + n.val) ≠ 0) && decide (s.clampFloor ≤ s.clampDepth (32 + n.val))
  let s := s.onsetClamp (32 + n.val)
  let s := (s.ctxsWriting n.val).foldl (fun s c => s.cbump CW51.CLAMPS c) s
  if atFloor then (s.noteFloorHit n.val).foxCheck (.osc n) else s

/-- The detector at the end of a block of a stream in use (R131). -/
def State.onsetStep (s : State) (n : Fin 32) (pw : Nat) : State :=
  let l := (pw :: Tbl.get (fun _ => []) s.can.blocks (32 + n.val)).take 64
  let s := { s with can := { s.can with blocks := Tbl.set (fun _ => []) s.can.blocks (32 + n.val) l } }
  if s.fbit CAN_ONSET_EN.EN 0 n.val && s.onsetAt n.val l then s.onsetTrigger n else s

/-! The limiter (R235). -/

/-- The bins that overlap a range of kHz. -/
def State.binsIn (s : State) (n low high : Nat) : List Nat :=
  (List.range 64).filter fun k => decide ((s.binEdges n k).1 < 2 * (high : Int) ∧ 2 * (low : Int) < (s.binEdges n k).2)

/-- The power of some bins, averaged over the last 24 blocks, times 24. -/
def binPower (hist : List (List Nat)) (bins : List Nat) : Nat := ((hist.map fun b => (bins.map fun k => b.getD k 0).sum)).sum

/-- The entries with a context on a stream (R235). -/
def State.entriesOn (s : State) (n : Nat) : List Nat := ((s.ctxsWriting n).filterMap fun c => s.coverOf c).eraseDups

/-- By how much a power (24 times, in units of 2^-40 of full scale) exceeds a cap at the aerial, in 1/64 dB. -/
def State.excess (s : State) (n p : Nat) (cap : Int) : Option Int := (linToDb p (24 * linOne)).map fun d => d + s.txc (32 + n) - cap

/-- x of R235 with the budget and FE_CAP of R275; none without power. -/
def State.limiterX (s : State) (n : Nat) (hist : List (List Nat)) : Option Int :=
  let ofEntry (e : Nat) : Option Int :=
    if s.entryCap e = noLimit then none
    else s.excess n (binPower hist (s.binsIn n (s.entryOf e).low (s.entryOf e).high)) (s.entryCap e)
  highest ((s.entriesOn n).filterMap ofEntry ++ (s.excess n (binPower hist (List.range 64)) (min (s.fgetI NPR_PORT.PORT_MAX n) (s.feCap n))).toList)

/-- What the attenuation loses in a block (R235): RELEASE × t_block ÷ 1 ms, in 1/96,000 of 1/64 dB. -/
def State.releaseQ (s : State) (n : Nat) : Nat := s.npr.release * (96000 * 64 / rateKhz (s.fget CHN_STREAM.RATE (32 + n)))

/-- The limiter after a block (R235), of which it takes the bins at TX_OUT and adds its own attenuation back. -/
def State.limiterStep (s : State) (n : Nat) (bins : List Nat) : State :=
  let back := dbToLin (s.atten n)
  let hist := ((bins.map fun b => b * back / linOne) :: Tbl.get (fun _ => []) s.npr.bins n).take 24
  let x := (s.limiterX n hist).getD 0
  let old := Tbl.get (fun _ => 0) s.npr.attenQ n
  let new := max (x.toNat * 96000) (if old < x.toNat * 96000 then 0 else old - s.releaseQ n)
  let s := { s with npr := { s.npr with bins := Tbl.set (fun _ => []) s.npr.bins n hist, attenQ := Tbl.set (fun _ => 0) s.npr.attenQ n new } }
  let s := s.fset LIM_ATTEN.ATTEN n (min 0x7FFF (new / 96000))
  if 0 < x then (s.fbump LIM_LIMITER_COUNT.COUNT 0).pulse pgLIM 0 else s

/-! The gain bound (R234). -/

/-- The bound holds a context's gain. -/
def State.gainHeld (s : State) (c : Nat) : Bool := match s.digBound c with | some b => decide (b < s.digNow c) | none => false

/-- The gain stage of a context in a block: word 62 shows the digital gain applied (R67, R234). -/
def State.gainStage (s : State) (c : Nat) : State :=
  s.csetI CW62.DIG_GAIN c (shownGain (match s.digBound c with | some b => min b (s.digNow c) | none => s.digNow c))

/-- The gain stage of the contexts that write the streams of a block. -/
def State.gainBlock (s : State) (ns : List Nat) : State :=
  let cs := (ns.flatMap fun n => (s.ctxsWriting n).filter fun c => s.radiates c).eraseDups
  let t := cs.foldl (fun t c => t.gainStage c) s
  if cs.any fun c => s.gainHeld c then (t.fbump LIM_REG_STAT.CAPPED 0).pulse pgLIM 3 else t

/-! What Foxglove watches (R238). -/

/-- A power of a bin of a stream per MHz: the bin is R ÷ 64 wide (R235, R238). -/
def State.perMHz (s : State) (n p : Nat) : Nat := p * 64000 / max 1 (rateKhz (s.fget CHN_STREAM.RATE (32 + n)))

/-- The 2.0 µs interval of a device time, at whose ends the bins are evaluated (R238). -/
def oobInterval (dt : Nat) : Nat := dt * 25 / 12288

/-- A level at the aerial, in 1/64 dB, is below a power of a block. -/
def State.above (s : State) (n p : Nat) (level : Int) : Bool :=
  match linToDb p linOne with
  | some d => decide (level < d + s.txc (32 + n))
  | none => false

/-- A bin lies wholly outside every enabled window of every path that writes the stream. -/
def State.binOutside (s : State) (n k : Nat) : Bool :=
  (s.pathsWriting n).all fun p => (s.winsInForce p).all fun w => decide ((s.binEdges n k).2 ≤ 2 * (w.low : Int) ∨ 2 * (w.high : Int) ≤ (s.binEdges n k).1)

/-- Since when each bin of a stream exceeds OOB_LIM (code 5). DEDUCED (log 190): the bins of the first block that ends in an interval of 2.0 µs
are evaluated. -/
def State.oobStep (s : State) (n : Nat) (bins : List Nat) : State :=
  if Tbl.get (fun _ => 0) s.npr.oobEval (32 + n) = oobInterval s.dt + 1 then s
  else
  let lim := s.fgetI NPR_OOB.OOB_LIM 0
  let t := (List.range 64).foldl (fun t k =>
    let key := 64 * (32 + n) + k
    let old := Tbl.get (fun _ => 0) s.npr.oob key
    Tbl.set (fun _ => 0) t key (if s.binOutside n k && s.above n (s.perMHz n (bins.getD k 0)) lim then (if old = 0 then s.dt + 1 else old) else 0)) s.npr.oob
  { s with npr := { s.npr with oob := t, oobEval := Tbl.set (fun _ => 0) s.npr.oobEval (32 + n) (oobInterval s.dt + 1) } }

/-- The level above which a block of an entry counts as on (code 4). -/
def State.onLevel (s : State) (n e : Nat) : Int :=
  if (s.entryOf e).portMax = noLimit then s.fgetI CEN_MEAS_X.MEAS_FLOOR 0 + s.txc (32 + n) else (s.entryOf e).portMax - 1920

/-- On-time of the entries at a stream. -/
def State.dutyStep (s : State) (n : Nat) (bins : List Nat) : State :=
  (s.entriesOn n).foldl (fun s e =>
    let p := ((s.binsIn n (s.entryOf e).low (s.entryOf e).high).map fun k => bins.getD k 0).sum
    let key := 64 * (32 + n) + e
    let r : DutyRt := Tbl.get (fun _ => {}) s.npr.duty key
    if s.above n p (s.onLevel n e) then { s with npr := { s.npr with duty := Tbl.set (fun _ => {}) s.npr.duty key { r with now := r.now + 1 } } } else s) s

/-- The power at TX_OUT since the last detector pair of the port (R270). -/
def State.powStep (s : State) (n pw : Nat) : State :=
  let r := s.felPort n
  s.setFelPort n { r with pow := r.pow + pw, powN := r.powN + 1 }

/-- A block of a transmit stream in use. -/
def State.blockOf (s : State) (b : TxBlock) : State :=
  let n := b.stream.val
  if !s.streamInUse (32 + n) then s
  else
    let bins := s.binsOf b
    let pw := s.powerOf b
    let s := if b.clip then s.sumClip n else s
    let s := s.limiterStep n bins
    let s := ((s.oobStep n bins).dutyStep n bins).powStep n pw
    s.onsetStep b.stream pw

/-- A block of 64 samples ends on some transmit streams. -/
def State.sampleBlock (s : State) (l : List TxBlock) : State :=
  let s := s.gainBlock (l.map fun b => b.stream.val)
  (l.foldl (fun s b => s.blockOf b) s).noteOsc

/-! The duty check (R238 code 4, R250). -/

/-- A second of on-time ends. -/
def DutyRt.second (r : DutyRt) (win : Nat) : DutyRt := { now := 0, past := (r.now :: r.past).take (max 1 win) }

/-- The pairs of stream and entry with on-time in their windows. -/
def State.dutyPairs (s : State) : List (Nat × Nat) := s.npr.duty.map fun e => (e.1 / 64 - 32, e.1 % 64)

/-- A duty in 1/1,024. -/
def State.dutyValue (s : State) (n e : Nat) : Nat :=
  let den := rateKhz (s.fget CHN_STREAM.RATE (32 + n)) * 1000 * (s.entryOf e).dutyWin
  if den = 0 then 0 else min 1024 (s.dutyBlocks n e * 64 * 1024 / den)

/-- NPR_DUTYn: the entry with the highest duty at a port, the lowest of equals. -/
def State.showDuty (s : State) (n : Nat) : State :=
  let l := (List.range 64).filter fun e => s.dutyPairs.contains (n, e)
  let best := l.foldl (fun (b : Nat × Nat) e => if b.1 = 0x7F ∨ b.2 < s.dutyValue n e then (e, s.dutyValue n e) else b) (0x7F, 0)
  (s.fset NPR_DUTY.ENTRY n best.1).fset NPR_DUTY.DUTY n best.2

/-- The pairs as causes of a shutdown. -/
def dutyCause (x : Nat × Nat) : Option FoxCause :=
  if h : x.1 < 32 ∧ x.2 < 64 then some (.duty ⟨x.1, h.1⟩ ⟨x.2, h.2⟩) else none

/-- The duty check of a second strobe (R238): on-times move on, NPR_DUTY shows the highest, DUTY_HIGH stands above 7/8, and an excess starts a
Foxglove shutdown. -/
def State.dutyCheck (s : State) : State :=
  let t := s.npr.duty.foldl (fun t e => Tbl.set (fun _ => ({} : DutyRt)) t e.1 (e.2.second (s.entryOf (e.1 % 64)).dutyWin)) ([] : List (Nat × DutyRt))
  let s := { s with npr := { s.npr with duty := t } }
  let s := (List.range 32).foldl (fun s n => s.showDuty n) s
  let limited := s.dutyPairs.filter fun x => (s.entryOf x.2).valid && decide ((s.entryOf x.2).duty < 1024)
  let s := s.cond pgNPR 8 (limited.any fun x => s.dutyAbove x.1 x.2 (7 * (s.entryOf x.2).duty))
  (limited.filterMap dutyCause).foldl (fun s c => s.foxCheck c) s

end Sys2Proof.Machine
end

