-- ==== Sys2Proof/Machine/Thm.lean ====
section
/-!
DEFINITION. Chapter 16, last part: on-die temperature sensors, levels, bands and thermal shutdown (R445 to R449); equaliser re-adaptation (R291).
-/
namespace Sys2Proof.Machine

def tmSensor : Nat := 91
def tmEqual : Nat := 92

/-- The T_MAX that stands for none. -/
def noTemp : Int := -32768

def State.tMax (s : State) : Int := s.fgetI THM_STAT.T_MAX 0

/-! T_MAX (R445). -/

/-- The sensors whose reading is valid and that are not lost. -/
def State.sensorsValid (s : State) : List Nat := (List.range 16).filter fun n => s.fon THM_T.VALID n && !s.fbit THM_RATE.LOST 0 n

/-- The hottest of some sensors, with its reading. -/
def State.hottest (s : State) : List Nat → Option (Nat × Int)
  | [] => none
  | n :: l =>
    match s.hottest l with
    | none => some (n, s.fgetI THM_T.T n)
    | some (m, t) => if t ≤ s.fgetI THM_T.T n then some (n, s.fgetI THM_T.T n) else some (m, t)

/-! Bands (R449). -/

/-- The lower bound of a band above the lowest, in 1/64 °C. -/
def bandBound (b : Nat) : Int := match b with | 1 => -640 | 2 => 1600 | 3 => 4480 | _ => 6080

/-- The band of a temperature, coming from a band: it rises at a lower bound and falls 3 °C below it. -/
def bandAt (old : Nat) (t : Int) : Nat :=
  let up := ([4, 3, 2, 1].find? fun b => decide (bandBound b ≤ t)).getD 0
  let down := ([4, 3, 2, 1].find? fun b => decide (bandBound b - 192 ≤ t)).getD 0
  if old < up then up else if down < old then down else old

/-- The band changes: the NV waveform and re-adaptation follow; the front-end slopes from each port's next temperature reading (R268). -/
def State.setBand (s : State) (b : Nat) : State :=
  if b = s.fget THM_STAT.BAND 0 then s
  else
    let s := ((s.fset THM_STAT.BAND 0 b).fset NVA_STAT.BAND 0 b).pulse pgTHM 4
    s.timerStart tmEqual 0 s.sec_

/-! Shutdown (R447). -/

/-- The shutdown is orderly: the hard limit lies ORDERLY_MS or more ahead, or the temperature does not rise. -/
def State.orderly (s : State) : Bool :=
  let rate := s.fgetI THM_RATE.RATE 0
  decide (rate ≤ 0) || decide (s.fget THM_CFG3.ORDERLY_MS 0 * rate ≤ (8320 - s.tMax) * 1000)

/-- The device is to enter STANDBY as by PWR_CTRL, whatever transition was in progress. -/
def State.toStandby (s : State) : State :=
  if 2 ≤ s.fget PWR_STAT.STATE 0 then s
  else { s with pwr := { s.pwr with target := 2 } }.fset PWR_STAT.PENDING 0 1

/-- SHUTDOWN rises (R447). In STANDBY every path is OFF and every chain held, so steps 2i and 3i would release at once. -/
def State.thermalShutdown (s : State) : State :=
  let ok := s.orderly
  let s := s.fsetB THM_STAT.ORDERLY 0 ok
  let s := if ok || decide (2 ≤ s.fget PWR_STAT.STATE 0) then s else ({ s with hk := { s.hk with thmMute := true } } : State).muteAndPads
  let s := s.paths.foldl (fun s p => s.setEnable p false) s
  s.flushOpen.toStandby

/-! Levels (R446). -/

/-- A level after a T_MAX: set at its value, cleared below the value less HYST, unless it holds. -/
def levelAfter (was hold : Bool) (value hyst t : Int) : Bool :=
  if value ≤ t then true else if t < value - hyst && !hold then false else was

/-- The levels follow T_MAX. -/
def State.thermalLevels (s : State) (t : Int) : State :=
  let hyst := s.fgetI THM_CFG2.HYST 0
  let lost := decide (s.fget THM_RATE.LOST 0 ≠ 0)
  let warn := levelAfter (s.fon THM_STAT.WARN 0) false (s.fgetI THM_CFG.WARN 0) hyst t
  let thr := levelAfter (s.fon THM_STAT.THROTTLE 0) lost (s.fgetI THM_CFG.THROTTLE 0) hyst t
  let was := s.fon THM_STAT.SHUTDOWN 0
  let down := levelAfter was false (s.fgetI THM_CFG2.SHUTDOWN 0) hyst t
  let s := (s.fsetB THM_STAT.WARN 0 warn).cond pgTHM 0 warn
  let s := ((s.fsetB THM_STAT.THROTTLE 0 thr).fsetB CEN_THERM.THROTTLE 0 thr).cond pgTHM 1 thr
  let s := (s.fsetB THM_STAT.SHUTDOWN 0 down).cond pgTHM 2 down
  if down && !was then s.thermalShutdown else s

/-- T_MAX is formed anew; with every sensor lost, band and levels keep their values. -/
def State.thermalUpdate (s : State) : State :=
  let s := s.cond pgTHM evtLoss (decide (s.fget THM_RATE.LOST 0 ≠ 0))
  match s.hottest s.sensorsValid with
  | none => s.fsetI THM_STAT.T_MAX 0 noTemp
  | some (n, t) => (((s.fsetI THM_STAT.T_MAX 0 t).fset THM_STAT.HOTTEST 0 n).setBand (bandAt (s.fget THM_STAT.BAND 0) t)).thermalLevels t

/-! Commands. -/

/-- The last readings of a sensor. -/
def State.readings (s : State) (n : Nat) : List Int := Tbl.get (fun _ => []) s.hk.therm n

/-- The median of three values. -/
def medianI (a b c : Int) : Int := max (min a b) (min (max a b) c)

/-- The filtered reading: the median of the last three, the newest while there are fewer (R428). -/
def filtered : List Int → Int
  | [a, b, c] => medianI a b c
  | a :: _ => a
  | [] => noTemp

/-- SENSOR_READING: a reading in 1/64 °C; one outside −55 °C to +150 °C is discarded (R428, R445). -/
def execSensorReading (sensor : Fin 16) (t : Int) (s : State) : Host.Outcome State Fault Refusal :=
  .next (
    let n := sensor.val
    if !s.works pgTHM then s
    else if t < -3520 ∨ 9600 < t then s.pulse pgTHM evtRange
    else
      let l := (t :: s.readings n).take 3
      let s := { s with hk := { s.hk with therm := Tbl.set (fun _ => []) s.hk.therm n l } }
      let s := ((s.fset THM_T.VALID n 1).fsetI THM_T.T n (filtered l)).fsetBit THM_RATE.LOST 0 n false
      (s.timerStart tmSensor n s.ms).thermalUpdate)

/-- SENSOR_TIMEOUT: a sensor has had no valid reading for 10 ms (R428). -/
def execSensorTimeout (sensor : Fin 16) (s : State) : Host.Outcome State Fault Refusal :=
  .next (
    let n := sensor.val
    if s.timerDue tmSensor n s.ms 10 then
      let s := { s with hk := { s.hk with therm := Tbl.set (fun _ => []) s.hk.therm n [] } }
      ((s.fset THM_T.VALID n 0).fsetBit THM_RATE.LOST 0 n true).thermalUpdate
    else s)

/-- RATE in 1/64 °C per second from T_MAX now and 10 ms ago, held to its field. -/
def rateOf (now before : Int) : Int := max (-32768) (min 32767 ((now - before) * 100))

/-- THERMAL_RATE_UPDATE: every millisecond (R445). Without 10 ms of values RATE is 0. -/
def execThermalRateUpdate (s : State) : Host.Outcome State Fault Refusal :=
  .next (
    if !s.works pgTHM then s
    else if s.tMax = noTemp then ({ s with hk := { s.hk with tHist := [] } } : State).fset THM_RATE.RATE 0 0
    else
      let rate := match s.hk.tHist[9]? with | some t => rateOf s.tMax t | none => 0
      ({ s with hk := { s.hk with tHist := (s.tMax :: s.hk.tHist).take 10 } } : State).fsetI THM_RATE.RATE 0 rate)

/-- HARD_TEMP_COMPARATOR: a sensor's comparator sets at +130 °C, or releases at +120 °C (R448). It needs no clock. -/
def execHardTempComparator (sensor : Fin 16) (on : Bool) (s : State) : Host.Outcome State Fault Refusal :=
  .next (
    let s := { s with hk := { s.hk with hard := Tbl.set (fun _ => false) s.hk.hard sensor.val on } }
    let any := (List.range 16).any fun n => Tbl.get (fun _ => false) s.hk.hard n
    ((s.fsetB THM_STAT.HARD 0 any).cond pgTHM 3 any).drive 154 any)

/-- The re-adaptation interval of a band, in seconds (R449). -/
def equalInterval (band : Nat) : Nat := match band with | 0 => 1 | 1 => 10 | 2 => 30 | 3 => 10 | _ => 2

/-- EQUALISER_READAPT: the interval elapses and the receive equalisers re-adapt, without disturbing data (R291, R449). -/
def execEqualiserReadapt (s : State) : Host.Outcome State Fault Refusal :=
  .next (
    if !s.timerOn tmEqual 0 || s.timerDue tmEqual 0 s.sec_ (equalInterval (s.fget THM_STAT.BAND 0)) then s.timerStart tmEqual 0 s.sec_ else s)

/-- A write of THM_CFG or THM_CFG2: WARN < THROTTLE < SHUTDOWN ≤ +125 °C, and HYST +1 °C to +10 °C (R446). The levels follow. -/
def thmCfgWrite (off : Nat) (v : Word) (s : State) : WRes :=
  let t := s.setWord (pgTHM * 0x1000 + off) v
  let hyst := t.fgetI THM_CFG2.HYST 0
  if t.fgetI THM_CFG.WARN 0 < t.fgetI THM_CFG.THROTTLE 0 ∧ t.fgetI THM_CFG.THROTTLE 0 < t.fgetI THM_CFG2.SHUTDOWN 0 ∧
      t.fgetI THM_CFG2.SHUTDOWN 0 ≤ 8000 ∧ 64 ≤ hyst ∧ hyst ≤ 640 then
    .ok (if t.tMax = noTemp then t else t.thermalLevels t.tMax)
  else .error .outOfRange

end Sys2Proof.Machine
end

