-- ==== Sys2Proof/Machine/Twb.lean ====
section
/-!
DEFINITION. Chapter 17, first part: the two-wire controllers (R455 to R463, R467).
-/
namespace Sys2Proof.Machine

/-- Behind a controller's registers. -/
def State.twbOf (s : State) (n : Nat) : TwbRt := Tbl.get (fun _ => {}) s.twb n

def State.setTwb (s : State) (n : Nat) (r : TwbRt) : State := { s with twb := Tbl.set (fun _ => {}) s.twb n r }

/-- The page of a controller. -/
def twbPage (n : Nat) : Nat := pgTWB + n

def tmTwbRetry : Nat := 93

def twOFF : Nat := 0
def twIDLE : Nat := 1
def twOWN : Nat := 2
def twOTHER : Nat := 3
def twRECOVERING : Nat := 4
def twSTUCK : Nat := 5

def State.twbState (s : State) (n : Nat) : Nat := s.fget TWB_STAT.STATE n

def State.setTwbState (s : State) (n st : Nat) : State := s.fset TWB_STAT.STATE n st

/-! Ends of transactions (R459, R460). -/

/-- What a transaction came to: RESULT, DETAIL, the data read. -/
structure TwbEnd where
  result : Nat
  detail : Nat := 0
  data : List Nat := []
deriving DecidableEq, Repr

/-- The bytes that a read delivers stand in RDATA, in bus order. -/
def State.storeRead (s : State) (n h : Nat) (data : List Nat) : State :=
  (wordsOfBytes data).zipIdx.foldl (fun s x => s.fset (TWB_RDATA.DATA n x.2) h x.1) s

/-- The result of an initiator's transaction. -/
def State.twbResult (s : State) (n h : Nat) (e : TwbEnd) (attempts : Nat) : State :=
  let s := (((s.fset (TWB_RES.DONE n) h 1).fset (TWB_RES.PENDING n) h 0).fset (TWB_RES.RESULT n) h e.result).fset (TWB_RES.COUNT n) h e.data.length
  let s := (s.fset (TWB_RES.ATTEMPTS n) h (min attempts 15)).fset (TWB_RES.DETAIL n) h e.detail
  s.storeRead n h e.data

/-- What an alert response came to (R463). -/
def State.alertResult (s : State) (n : Nat) (e : TwbEnd) : State :=
  if e.result = 0 ∨ e.result = 6 then ((s.fset TWB_ATTN.ADDR n (e.data.headD 0 / 2)).fset TWB_ATTN.NONE n 0).pulse (twbPage n) 7
  else if e.result = 1 then s.fset TWB_ATTN.NONE n 1
  else s

/-- A transaction ends (R460). -/
def State.twbFinish (s : State) (n : Nat) (t : TwbTxn) (e : TwbEnd) : State :=
  let s := match t.holder with
    | some h => s.twbResult n h e t.attempts
    | none => s.alertResult n e
  s.pulse (twbPage n) 0

/-- The results that are retried. -/
def twbRetried (r : Nat) : Bool := decide (r = 1 ∨ r = 5 ∨ r = 7)

/-- The running transaction ends with a result, or goes back to the head of the queue for another attempt; the bus takes a state. -/
def State.twbEnd (s : State) (n st : Nat) (t : TwbTxn) (e : TwbEnd) : State :=
  let r := s.twbOf n
  let s := s.setTwbState n st
  if twbRetried e.result && decide (t.attempts ≤ s.fget TWB_CFG.RETRY n) then s.setTwb n { r with running := none, queue := t :: r.queue }
  else (s.setTwb n { r with running := none }).twbFinish n t e

/-- Every transaction ends with a result. -/
def State.twbEndAll (s : State) (n result : Nat) : State :=
  let r := s.twbOf n
  let l := r.running.toList ++ r.queue
  l.foldl (fun s t => s.twbFinish n t { result := result }) (s.setTwb n { r with running := none, queue := [] })

/-! GO (R457). -/

/-- The staged transaction of a holder. -/
def State.twbStaged (s : State) (n h : Nat) : TwbTxn :=
  { holder := some h, prot := s.fget (TWB_TXN.PROT n) h, pec := s.fon (TWB_TXN.PEC n) h, addr := s.fget (TWB_TXN.ADDR n) h
    cmd := s.fget (TWB_TXN.CMD n) h, len := s.fget (TWB_TXN.LEN n) h
    data := (List.range 16).flatMap fun k => beBytes 4 (s.fget (TWB_WDATA.DATA n k) h) }

/-- PROT and LEN are those of R457. -/
def TwbTxn.ok (t : TwbTxn) : Bool :=
  decide (1 ≤ t.prot ∧ t.prot ≤ 11) && (!([4, 5, 8, 9].contains t.prot) || decide (1 ≤ t.len ∧ t.len ≤ 64))

/-- A write of TWB_GO: the staged transaction is queued; with the controller off or its bus stuck it ends at once. -/
def twbGoWrite (i : Init) (n : Nat) (s : State) : WRes :=
  let t := s.twbStaged n i.holder
  if s.fon (TWB_RES.PENDING n) i.holder then .error .windowBusy
  else if !t.ok then .error .outOfRange
  else if s.twbState n = twOFF then .ok (s.twbFinish n t { result := 10 })
  else if s.twbState n = twSTUCK then .ok (s.twbFinish n t { result := 9 })
  else .ok ((s.setTwb n { s.twbOf n with queue := (s.twbOf n).queue ++ [t] }).fset (TWB_RES.PENDING n) i.holder 1)

/-- TWB_GO (R457). -/
def execTwbGo (who : Init) (bus : Fin 4) (s : State) : Host.Outcome State Fault Refusal :=
  .next (s.access who (twbPage bus.val) 0x048 0x80000000 (twbGoWrite who bus.val))

/-- A write of TWB_TXN, per initiator: PROT and LEN outside R457 are refused. -/
def twbTxnWrite (i : Init) (n : Nat) (v : Word) (s : State) : WRes :=
  let t := s.setWord ((TWB_TXN.PROT n).key i.holder) (v &&& 0xF87FFFFF)
  if (t.twbStaged n i.holder).ok then .ok t else .error .outOfRange

/-! The bus. -/

/-- TWB_TRANSACTION_START: on an idle bus, after the bus free time, the next transaction starts (R456, R457). -/
def execTwbTransactionStart (bus : Fin 4) (s : State) : Host.Outcome State Fault Refusal :=
  .next (
    let n := bus.val
    let r := s.twbOf n
    match r.queue with
    | t :: rest =>
      if s.works (twbPage n) && decide (s.twbState n = twIDLE) then
        (s.setTwb n { r with running := some { t with attempts := t.attempts + 1 }, queue := rest }).setTwbState n twOWN
      else s
    | [] => s)

/-- The data bytes that a protocol writes. -/
def TwbTxn.sent (t : TwbTxn) : List Nat :=
  match t.prot with
  | 2 => t.data.take 1
  | 3 => t.data.take 2
  | 4 => t.len :: t.data.take t.len
  | 5 => t.data.take t.len
  | 10 => t.data.take 2
  | _ => []

/-- The data bytes that a protocol reads; a counted block reads its count. -/
def TwbTxn.wanted (t : TwbTxn) (count : Nat) : Nat :=
  match t.prot with
  | 6 => 1
  | 7 => 2
  | 8 => count
  | 9 => t.len
  | 10 => 2
  | 11 => 1
  | _ => 0

/-- A protocol reads. -/
def TwbTxn.reads (t : TwbTxn) : Bool := decide (6 ≤ t.prot)

/-- The bytes of a whole read that the packet error check covers (R459). -/
def TwbTxn.pecBytes (t : TwbTxn) (count : Nat) (data : List Nat) : List Nat :=
  let write := if t.prot = 11 then [] else [2 * t.addr, t.cmd] ++ t.sent
  write ++ [2 * t.addr + 1] ++ (if t.prot = 8 then [count] else []) ++ data

/-- CRC-8 of bytes (R459). -/
def crc8 (l : List Nat) : Nat := l.foldl crc8Step 0

/-- The result of a transaction whose bytes all passed: COUNT and PEC are checked (R458, R459); `good` is the result without a fault. -/
def TwbTxn.judge (t : TwbTxn) (good count : Nat) (data : List (Fin 256)) (pec : Nat) : TwbEnd :=
  if t.prot = 8 ∧ (count = 0 ∨ t.len < count) then { result := 4 }
  else
    let got := (List.range (t.wanted count)).map fun i => (data.map Fin.val).getD i 0
    if t.reads && t.pec && decide (crc8 (t.pecBytes count got) ≠ pec) then { result := 3 } else { result := good, data := got }

/-- What the target and the bus answered. -/
def TwbTxn.ended (t : TwbTxn) : TwbReply → TwbEnd
  | .addrNack => { result := 1 }
  | .dataNack i => { result := 2, detail := i.val }
  | .complete count data pec => t.judge 0 count.val data pec.val

/-- The events of a result (R458, R459). -/
def State.twbEvents (s : State) (n result : Nat) : State :=
  if result = 3 then s.pulse (twbPage n) 1 else if result = 4 then s.pulse (twbPage n) evtRange else s

/-- TWB_TRANSACTION_END: the running transaction ends with its STOP (R458 to R460). -/
def execTwbTransactionEnd (bus : Fin 4) (reply : TwbReply) (s : State) : Host.Outcome State Fault Refusal :=
  .next (
    match (s.twbOf bus.val).running with
    | none => s
    | some t => (s.twbEvents bus.val (t.ended reply).result).twbEnd bus.val twIDLE t (t.ended reply))

/-- What a loss of arbitration leaves (R462). -/
def TwbTxn.lost (t : TwbTxn) : ArbPoint → TwbEnd
  | .bits => { result := 5 }
  | .stop count data pec => t.judge 6 count.val data pec.val
  | .restart => { result := 7 }

/-- TWB_ARBITRATION_LOST: the controller releases a line and reads it low (R462); the bus counts as busy. -/
def execTwbArbitrationLost (bus : Fin 4) (at_ : ArbPoint) (s : State) : Host.Outcome State Fault Refusal :=
  .next (
    let n := bus.val
    match (s.twbOf n).running with
    | none => s
    | some t =>
      let e := t.lost at_
      let s := s.fbump TWB_CNT.ARB_LOST n
      let s := if e.result = 6 then s.pulse (twbPage n) 3 else if e.result = 7 then s.pulse (twbPage n) 2 else s.twbEvents n e.result
      s.twbEnd n twOTHER t e)

/-- TWB_IDLE_DETECT: a STOP is seen, or both lines have been high for 50 µs (R456, R462). -/
def execTwbIdleDetect (bus : Fin 4) (s : State) : Host.Outcome State Fault Refusal :=
  .next (if s.twbState bus.val = twOTHER then s.setTwbState bus.val twIDLE else s)

/-! Recovery (R461). -/

/-- TWB_TIMEOUT: SCL has stayed low for TIMEOUT_MS during a transaction (R460, R461). -/
def execTwbTimeout (bus : Fin 4) (s : State) : Host.Outcome State Fault Refusal :=
  .next (
    let n := bus.val
    match (s.twbOf n).running with
    | none => s
    | some t =>
      let s := (s.fbump TWB_CNT.TIMEOUTS n).pulse (twbPage n) 4
      let s := (s.drive (122 + n) true).drive (122 + n) false
      s.twbEnd n twRECOVERING t { result := 8 })

/-- IDLE_BUS_HELD_LOW: on an idle bus SCL has stayed low for TIMEOUT_MS, or SDA with SCL high for longer than ATTN_MAX_MS (R461, R455). -/
def execIdleBusHeldLow (bus : Fin 4) (sda : Bool) (s : State) : Host.Outcome State Fault Refusal :=
  .next (
    let n := bus.val
    if s.twbState n = twIDLE then
      let s := if sda then s.pulse (twbPage n) evtRange else s
      s.setTwbState n twRECOVERING
    else s)

/-- The bus is stuck, or no longer. -/
def State.twbStuck (s : State) (n : Nat) (b : Bool) : State :=
  ((s.cond (twbPage n) 5 b).cond (twbPage n) evtLoss b).drive (122 + n) b

/-- A recovery has failed: the bus is STUCK and what is queued ends. -/
def State.recoveryFailed (s : State) (n : Nat) : State :=
  let s := ((s.setTwbState n twSTUCK).twbStuck n true).twbEndAll n 9
  (s.setTwb n { s.twbOf n with retrying := false }).timerStart tmTwbRetry n s.ms

/-- TWB_BUS_RECOVERY_DONE: the recovery that runs ends. -/
def execTwbBusRecoveryDone (bus : Fin 4) (ok : Bool) (s : State) : Host.Outcome State Fault Refusal :=
  .next (
    let n := bus.val
    if decide (s.twbState n = twRECOVERING) || (s.twbOf n).retrying then
      if ok then
        let s := ((s.setTwbState n twIDLE).twbStuck n false).pulse (twbPage n) 6
        (s.setTwb n { s.twbOf n with retrying := false }).timerStop tmTwbRetry n
      else s.recoveryFailed n
    else s)

/-- TWB_RECOVERY_RETRY: recovery of a stuck bus is tried again every 100 ms. -/
def execTwbRecoveryRetry (bus : Fin 4) (s : State) : Host.Outcome State Fault Refusal :=
  .next (
    let n := bus.val
    if decide (s.twbState n = twSTUCK) && s.timerDue tmTwbRetry n s.ms 100 then
      (s.setTwb n { s.twbOf n with retrying := true }).timerStop tmTwbRetry n
    else s)

/-- TWB_ATTENTION: an attention pulse is complete, and an alert response goes ahead of what is queued (R463). -/
def execTwbAttention (bus : Fin 4) (s : State) : Host.Outcome State Fault Refusal :=
  .next (
    let n := bus.val
    if decide (s.twbState n = twIDLE) && s.fon TWB_CFG.ATTN_EN n then
      let t : TwbTxn := { holder := none, prot := 11, pec := false, addr := 0x0C, cmd := 0, len := 1, data := [] }
      s.setTwb n { s.twbOf n with queue := t :: (s.twbOf n).queue }
    else s)

/-! Enable (R460, R467). -/

/-- The controller is off: every transaction ends with RESULT 10. -/
def State.twbOff (s : State) (n : Nat) : State :=
  let s := ((s.twbEndAll n 10).twbStuck n false).setTwbState n twOFF
  (s.setTwb n {}).timerStop tmTwbRetry n

/-- The controller is on: the bus counts as busy until idle is detected. -/
def State.twbOn (s : State) (n : Nat) : State := s.setTwbState n twOTHER

/-- FILT, SPEED and TIMEOUT_MS keep their values. -/
def State.twbSameTiming (s : State) (n : Nat) (v : Word) : Bool :=
  decide (bitsOf v 30 29 = s.fget TWB_CFG.SPEED n ∧ bitsOf v 20 16 = s.fget TWB_CFG.FILT n ∧ bitsOf v 15 8 = s.fget TWB_CFG.TIMEOUT_MS n)

/-- A write of TWB_CFG (R467). -/
def twbCfgWrite (n : Nat) (v : Word) (s : State) : WRes :=
  let was := s.fon TWB_CFG.EN n
  if bitsOf v 30 29 = 3 then .error .outOfRange
  else if was && !s.twbSameTiming n v then .error .configLocked
  else
    match s.mergeReg (twbPage n) 0x040 (TWB_CFG.EN.key n) v with
    | .error r => .error r
    | .ok t =>
      let en := t.fon TWB_CFG.EN n
      .ok (if was && !en then t.twbOff n else if en && !was then t.twbOn n else t)

/-- TWB_DISABLE: TWB_CFG.EN := 0, the other fields as they stand (R460). -/
def execTwbDisable (who : Init) (bus : Fin 4) (s : State) : Host.Outcome State Fault Refusal :=
  let v := putBits (s.word (TWB_CFG.EN.key bus.val)) 31 31 0
  .next (s.access who (twbPage bus.val) 0x040 v (twbCfgWrite bus.val v))

/-- A TWB block reset (R467): every transaction ends with RESULT 10 and the lines are released. -/
def State.twbReset (s : State) (n : Nat) : State :=
  let s := s.twbOff n
  if s.fon TWB_CFG.EN n then s.twbOn n else s

end Sys2Proof.Machine
end

