-- ==== Sys2Proof/Machine/Twt.lean ====
section
/-!
DEFINITION. Chapter 17, second part: the two-wire target port (R464, R465, R468); general-purpose I/O (R512 to R514).
-/
namespace Sys2Proof.Machine

def tmStretch : Nat := 94

/-- The FIFO fills are shown. -/
def State.setTwt (s : State) (t : TwtSt) : State :=
  (({ s with twt := t } : State).fset TWT_STAT.RX_FILL 0 t.rx.length).fset TWT_STAT.TX_FILL 0 t.tx.length

/-- The phase of the port changes. -/
def State.twtPhase (s : State) (p : TwtPhase) : State := { s with twt := { s.twt with phase := p } }

/-- The port answers: enabled, running, its bus not stuck. -/
def State.twtOn (s : State) : Bool := s.works pgTWT && s.fon TWT_CFG.EN 0 && !s.fon TWT_STAT.STUCK 0

/-- A receive entry (R468). -/
def rxEntry (start end_ bad sel : Bool) (byte : Nat) : Word :=
  BitVec.ofNat 32 (2 ^ 31 + (if start then 2 ^ 30 else 0) + (if end_ then 2 ^ 29 else 0) + (if bad then 2 ^ 28 else 0) + (if sel then 2 ^ 27 else 0) + byte % 256)

/-- An entry goes into the receive FIFO; into a full one it does not, and RX_OVERRUN rises (R464). -/
def State.rxPush (s : State) (w : Word) : State :=
  if 64 ≤ s.twt.rx.length then s.pulse pgTWT 1 else s.setTwt { s.twt with rx := s.twt.rx ++ [w] }

/-- A write ends: an END entry, with the packet error check at a STOP (R464, R465). -/
def State.twtEndWrite (s : State) (stop : Bool) : State :=
  match s.twt.phase with
  | .write sel bytes _ =>
    let bad := stop && s.fon TWT_CFG.PEC_EN 0 && decide (1 < bytes.length) && decide (crc8 bytes ≠ 0)
    let s := if bad then (s.pulse pgTWT 2).pulse pgTWT evtRange else s
    (s.rxPush (rxEntry false true bad sel 0)).pulse pgTWT 0
  | _ => s

/-- The bytes of the transaction so far, before a repeated start. -/
def TwtPhase.bytes : TwtPhase → List Nat
  | .write _ b _ => b
  | .read b _ _ => b
  | _ => []

/-- The address that the port answers to: false ADDR0, true ADDR1. -/
def State.twtMatch (s : State) (a : Nat) : Option Bool :=
  if a = s.fget TWT_CFG.ADDR0 0 then some false else if a = s.fget TWT_CFG.ADDR1 0 then some true else none

/-- The phase that an address byte begins (R464, R465). -/
def State.twtAddressed (s : State) (a : Nat) (read : Bool) : TwtPhase :=
  if a = 0x0C ∧ read then (if s.fon TWT_CFG.ARA_EN 0 && s.twt.called then .alert else .idle)
  else
    match s.twtMatch a with
    | none => .idle
    | some sel => if read then .read (s.twt.phase.bytes ++ [2 * a + 1]) false false else .write sel (s.twt.phase.bytes ++ [2 * a]) true

/-- Stretching ends. -/
def State.stretchEnd (s : State) : State := (s.fset TWT_STAT.STRETCHING 0 0).timerStop tmStretch 0

/-- The bits of the bus pass: the port sees edges of SCL (R516). -/
def State.busMoves (s : State) : State := s.sclEdge

/-- TWT_ADDRESS: an address byte follows a START or a repeated start (R464). -/
def execTwtAddress (addr : Fin 128) (read : Bool) (s : State) : Host.Outcome State Fault Refusal :=
  .next (
    let s := s.busMoves
    if s.twtOn then ((s.twtEndWrite false).twtPhase (s.twtAddressed addr.val read)).stretchEnd
    else s)

/-- TWT_BYTE_RECEIVED: a byte of a write (R464). One that finds the FIFO full is not acknowledged. -/
def execTwtByteReceived (byte : Fin 256) (s : State) : Host.Outcome State Fault Refusal :=
  .next (
    let s := s.busMoves
    match s.twt.phase with
    | .write sel bytes fresh => (s.rxPush (rxEntry fresh false false sel byte.val)).twtPhase (.write sel (bytes ++ [byte.val]) false)
    | _ => s)

/-- A byte leaves the port. -/
def State.twtSend (s : State) (b : Nat) : State := { s with twt := { s.twt with sent := b } }

/-- The next transmit byte leaves; with PEC_EN a check byte follows one marked LAST (R465). -/
def State.twtSendNext (s : State) (bytes : List Nat) : State :=
  match s.twt.tx with
  | [] => s
  | (b, last) :: rest =>
    ((s.setTwt { s.twt with tx := rest }).twtSend b).twtPhase (.read (bytes ++ [b]) (last && s.fon TWT_CFG.PEC_EN 0) false)

/-- A byte of a read is due: what is there is sent, or SCL is stretched (R464, R465). -/
def State.twtDue (s : State) (bytes : List Nat) (pecNext pastEnd : Bool) : State :=
  if pastEnd then s.twtSend 0xFF
  else if pecNext then (s.twtSend (crc8 bytes)).twtPhase (.read (bytes ++ [crc8 bytes]) false false)
  else if s.twt.tx.isEmpty then (s.fset TWT_STAT.STRETCHING 0 1).timerStart tmStretch 0 s.ms
  else s.twtSendNext bytes

/-- TWT_BYTE_REQUESTED: the controller reads on (R464, R465). -/
def execTwtByteRequested (s : State) : Host.Outcome State Fault Refusal :=
  .next (
    let s := s.busMoves
    if s.fon TWT_STAT.STRETCHING 0 then s
    else
      match s.twt.phase with
      | .read bytes pecNext pastEnd => s.twtDue bytes pecNext pastEnd
      | .alert =>
        let s := s.twtSend (2 * s.fget TWT_CFG.ADDR0 0)
        { s with twt := { s.twt with phase := .idle, called := false } }
      | _ => s)

/-- TWT_STOP: a STOP ends the transaction (R464, R465). -/
def execTwtStop (s : State) : Host.Outcome State Fault Refusal := .next ((((s.busMoves).twtEndWrite true).twtPhase .idle).stretchEnd)

/-- TWT_STRETCH_TIMEOUT: STRETCH_MS have passed; 0xFF goes out for the rest of the transaction (R464). -/
def execTwtStretchTimeout (s : State) : Host.Outcome State Fault Refusal :=
  .next (
    if s.timerDue tmStretch 0 s.ms (s.fget TWT_CFG.STRETCH_MS 0) then
      match s.twt.phase with
      | .read bytes _ _ => ((s.stretchEnd.twtSend 0xFF).twtPhase (.read bytes false true)).pulse pgTWT 3
      | _ => s
    else s)

/-- The port's bus is stuck, or no longer (R464). -/
def State.twtStuck (s : State) (b : Bool) : State :=
  (((s.fsetB TWT_STAT.STUCK 0 b).cond pgTWT 4 b).cond pgTWT evtLoss b).drive 126 b

/-- TWT_STUCK: either line has stayed low for 35 ms (R464). -/
def execTwtStuck (s : State) : Host.Outcome State Fault Refusal :=
  .next (if s.twtOn then ((s.twtPhase .idle).stretchEnd).twtStuck true else s)

/-- TWT_BUS_RELEASED: both lines have been high for 50 µs (R464). -/
def execTwtBusReleased (s : State) : Host.Outcome State Fault Refusal := .next (if s.fon TWT_STAT.STUCK 0 then s.twtStuck false else s)

/-- A read of TWT_RX pops an entry (R468). -/
def State.rxPop (s : State) (i : Init) : State :=
  match s.twt.rx with
  | [] => s.answerRead i 0
  | w :: rest => (s.setTwt { s.twt with rx := rest }).answerRead i w

/-- TWT_RX_POP (R468). -/
def execTwtRxPop (who : Init) (s : State) : Host.Outcome State Fault Refusal := .next (s.accessRead who pgTWT fun s => s.rxPop who)

/-- A write of TWT_TX: a byte is pushed; while SCL is stretched it goes out (R464, R468). -/
def txPush (last : Bool) (byte : Nat) (s : State) : WRes :=
  if 64 ≤ s.twt.tx.length then .error .windowBusy
  else
    let t := s.setTwt { s.twt with tx := s.twt.tx ++ [(byte, last)] }
    match t.fon TWT_STAT.STRETCHING 0, t.twt.phase with
    | true, .read bytes _ _ => .ok (t.stretchEnd.twtSendNext bytes)
    | _, _ => .ok t

/-- TWT_TX_PUSH (R468). -/
def execTwtTxPush (who : Init) (last : Bool) (byte : Fin 256) (s : State) : Host.Outcome State Fault Refusal :=
  .next (s.access who pgTWT 0x048 (BitVec.ofNat 32 ((if last then 2 ^ 31 else 0) + byte.val)) (txPush last byte.val))

/-- The call for attention comes to its end (R465): after three pulses cut short it is given up. -/
def State.twtCall (s : State) (cut : Nat) : State :=
  if cut < 3 then ({ s with twt := { s.twt with called := true } } : State).pulse pgTWT 5 else s

/-- A write of TWT_CMD; `cut` is how many of the pulses that ATTN asks for another controller cuts short (R465). -/
def twtCmdWrite (v : Word) (cut : Nat) (s : State) : WRes :=
  let us := bitsOf v 15 0
  if us < 60 ∨ 1000 < us then .error .outOfRange
  else
    let t := s.fset TWT_CMD.ATTN_US 0 us
    let t := if bitsOf v 30 30 = 1 then t.setTwt { t.twt with rx := [], tx := [] } else t
    .ok (if bitsOf v 31 31 = 1 && t.twtOn then t.twtCall cut else t)

/-- TWT_ATTN: a write of TWT_CMD.ATTN (R465). -/
def execTwtAttn (who : Init) (us : BitVec 16) (cut : Fin 4) (s : State) : Host.Outcome State Fault Refusal :=
  let v := BitVec.ofNat 32 (0x80000000 + us.toNat)
  .next (s.access who pgTWT 0x050 v (twtCmdWrite v cut.val))

/-- TWT_FLUSH: a write of TWT_CMD.FLUSH, ATTN_US as it stands (R468). -/
def execTwtFlush (who : Init) (s : State) : Host.Outcome State Fault Refusal :=
  let v := BitVec.ofNat 32 (0x40000000 + s.fget TWT_CMD.ATTN_US 0)
  .next (s.access who pgTWT 0x050 v (twtCmdWrite v 0))

/-- Addresses that the port may have (R468). -/
def twtAddrOk (a : Nat) : Bool := decide (8 ≤ a ∧ a ≤ 0x77 ∧ a ≠ 0x0C)

/-- The port forgets what it was doing. -/
def State.twtIdle (s : State) : State := ((s.twtPhase .idle).stretchEnd).twtStuck false

/-- A write of TWT_CFG (R468). -/
def twtCfgWrite (v : Word) (s : State) : WRes :=
  if !twtAddrOk (bitsOf v 26 20) || !twtAddrOk (bitsOf v 19 13) then .error .outOfRange
  else
    match s.mergeReg pgTWT 0x040 (TWT_CFG.EN.key 0) v with
    | .error r => .error r
    | .ok t => .ok (if t.fon TWT_CFG.EN 0 then t else t.twtIdle)

/-- A TWT block reset: both FIFOs are empty and the lines released. -/
def State.twtReset (s : State) : State := (s.setTwt {}).twtIdle

/-! General-purpose I/O (R512 to R514). -/

/-- The active level of GPIO0 to GPIO15 is the pin's event (R514). -/
def State.gpioEvent (s : State) (n : Nat) : State :=
  if 16 ≤ n then s else s.cond 0x26 n (s.fbit GPIO_IN0.IN 0 n != s.fbit GPIO_POL.LOW 0 n)

/-- All events follow the levels. -/
def State.gpioEvents (s : State) : State := (List.range 16).foldl (fun s n => s.gpioEvent n) s

/-- A bit of the two words that hold 48 pins. -/
def State.pinBit (s : State) (f g : Fld) (n : Nat) : Bool := if n < 32 then s.fbit f 0 n else s.fbit g 0 (n - 32)

/-- GPIO_INPUT_CHANGE: a pin's level has held for FILT_US (R513). A driven pin reads its own level. -/
def execGpioInputChange (pin : Fin 48) (level : Bool) (s : State) : Host.Outcome State Fault Refusal :=
  .next (
    let n := pin.val
    if s.running 0x26 then
      let b := if s.pinBit GPIO_OE0.OE GPIO_OE1.OE n then s.pinBit GPIO_OUT0.OUT GPIO_OUT1.OUT n else level
      if n < 32 then (s.fsetBit GPIO_IN0.IN 0 n b).gpioEvent n else s.fsetBit GPIO_IN1.IN 0 (n - 32) b
    else s)

/-- A pin is named by an ALARM_GPIO field of some link group (R512). -/
def State.alarmPin (s : State) (n : Nat) : Bool := (List.range 32).any fun g => s.member.present g && decide (s.fget JLK_CFG.ALARM_GPIO g = n)

/-- A write of GPIO_OE0 or GPIO_OE1: a pin that serves as an alarm input cannot be driven (R512). -/
def gpioOeWrite (k : Nat) (v : Word) (s : State) : WRes :=
  let bits := if k = 0 then v.toNat else v.toNat % 65536
  if (List.range 32).any fun b => bits.testBit b && s.alarmPin (32 * k + b) then .error .configLocked
  else .ok (if k = 0 then s.fset GPIO_OE0.OE 0 bits else s.fset GPIO_OE1.OE 0 bits)

/-- A write of GPIO_POL: the events follow (R514). -/
def gpioPolWrite (v : Word) (s : State) : WRes := .ok ((s.fset GPIO_POL.LOW 0 (bitsOf v 15 0)).gpioEvents)

end Sys2Proof.Machine
end

