-- ==== Sys2Proof/Machine/Rst.lean ====
section
/-!
DEFINITION. Chapter 18, first part: what a block reset clears and keeps, page by page (R474, R479 to R481), its release, and what a block does
when it starts from its configuration.
-/
namespace Sys2Proof.Machine

/-! The registers of a page. -/

/-- The page of a register key; the registers of the link groups stand under group 0's addresses (R33). -/
def pageOfKey (k : Nat) : Nat :=
  let addr := k % Fld.unitStep
  if addr / 0x1000 = 0x30 ∧ 0x40 ≤ addr % 0x1000 ∧ addr % 0x1000 ≠ 0x400 then 0x30 + k / Fld.unitStep / 2 else addr / 0x1000

/-- The header words that a block reset keeps: PAGE_CTRL, EVT_ENABLE, OWNER, and SEL of EVT_COUNT (R37, R479). -/
def headerKept (off : Nat) : Bool := decide (off = 0x008 ∨ off = 0x014 ∨ off = 0x020 ∨ off = 0x028)

/-- A register word after its read-only fields returned to their reset values (R479). -/
def keptWord (k : Nat) (w : Word) : Word :=
  let addr := k % Fld.unitStep
  if addr % 0x1000 < 0x40 then (if headerKept (addr % 0x1000) then w else regReset k)
  else
    match regAt (addr / 0x1000) (addr % 0x1000) with
    | some r => mergeWord (regReset k) w (BitVec.ofNat 32 r.rw)
    | none => regReset k

/-- CAP_SSTAT, whose END a block reset has set (R338). -/
def capStatOff : Nat := CAP_SSTAT.END.key 0 % 0x1000

/-- Registers that the block reset of a page keeps whole: counts since chip reset, and what carries on (R109, R245, R335, R479, R481). -/
def keepsWhole (page off : Nat) : Bool :=
  if page = pgSCH then decide ((0x40 ≤ off ∧ off < 0x060) ∨ (0x098 ≤ off ∧ off ≠ 0x400))
  else if page = pgCHN ∨ page = pgEVR then decide (0x40 ≤ off ∧ off ≠ 0x400)
  else if page = pgCEN then decide (off = 0x040 ∨ off = 0x044 ∨ (0x060 ≤ off ∧ off < 0x0A0))
  else if page = pgNPR then decide (0x058 ≤ off ∧ off < 0x078)
  else if page = pgLIM then decide ((0x040 ≤ off ∧ off < 0x050) ∨ off = 0x308)
  else if page = pgNVA then decide (off = 0x040 ∨ off = 0x060 ∨ off = 0x064 ∨ off = 0x068)
  else if page = pgGCP then decide (0x040 ≤ off ∧ off < 0x05C)
  else if page = pgMGE then decide (off = 0x048 ∨ off = 0x04C)
  else if page = pgGPIO then decide (off = 0x050 ∨ off = 0x054)
  else if page = pgCAP then decide (off = capStatOff)
  else false

/-- The load and swap controls of the SCH page, which its block reset resets with their RW fields (R109). -/
def schControl (page off : Nat) : Bool := decide (page = pgSCH ∧ (off = 0x060 ∨ off = 0x064 ∨ off = 0x090 ∨ off = 0x094))

/-- HKA_STATc: of its read-only fields a block reset leaves CAL_RESULT, which the reset itself sets (R436). -/
def hkaStat (page off : Nat) : Bool := decide (page = pgHKA ∧ (off = HKA_STAT.CAL_RESULT.key 0 % 0x1000 ∨ off = HKA_STAT.CAL_RESULT.key 1 % 0x1000))

/-- A register word after the block reset of its page. -/
def resetWord (page k : Nat) (w : Word) : Word :=
  if schControl page (k % Fld.unitStep % 0x1000) then regReset k
  else if hkaStat page (k % Fld.unitStep % 0x1000) then putBits (regReset k) 25 24 (bitsOf w 25 24)
  else keptWord k w

/-- A register entry after the block reset of its page; unlisted when it reads as after reset. -/
def clearedEntry (page : Nat) (e : Nat × Word) : Option (Nat × Word) :=
  if pageOfKey e.1 ≠ page ∨ keepsWhole page (e.1 % Fld.unitStep % 0x1000) then some e
  else if resetWord page e.1 e.2 = regReset e.1 then none
  else some (e.1, resetWord page e.1 e.2)

/-- A timer runs for a unit of the page's header: expert locks and the configuration check. -/
def headerTimer (page key : Nat) : Bool :=
  let tm := key / 0x100000
  let u := key % 0x100000
  decide ((tm = tmExpertArm ∨ tm = tmExpertOpen) ∧ u / 64 = page) || decide (tm = tmCrc ∧ u = page)

/-- Registers, event counts, shadows and expert locks of a page after a block reset (R479). -/
def State.clearPage (s : State) (page : Nat) : State :=
  let t := { s with regs := s.regs.filterMap (clearedEntry page), timers := s.timers.filter fun e => !headerTimer page e.1 }
  let t := { t with evtCount := t.evtCount.filter fun e => decide (e.1 / 32 ≠ page), evtShadow := t.evtShadow.filter fun e => decide (e.1 / 64 ≠ page) }
  let t := { t with expert := t.expert.filter fun e => decide (e.1 / 64 ≠ page), shadow := t.shadow.filter fun e => decide (e.1 / 64 / 0x1000 ≠ page) }
  State.dropCrcPass { t with lostIn := t.lostIn.filter fun e => decide (e.1 / 0x10000 ≠ page) } page

/-- Stopping every timer of some kinds. -/
def State.stopTimers (s : State) (tms : List Nat) : State :=
  { s with timers := s.timers.filter fun e => !tms.contains (e.1 / 0x100000) }

/-! What each block clears (R480, R481). -/

/-- The load, verify and swap controls of the schedule images (R109). -/
def State.schReset (s : State) : State :=
  let s := [0, 1].foldl (fun s k =>
    if s.slotState k = slotLOADING then ((s.setSlot k slotEMPTY).imgClear k).setLoader k none
    else if s.slotState k = slotVERIFYING then s.refuseSlot k 0x0F
    else s) s
  let s := { s with sch := { s.sch with filling := [], heldLoads := [], resetHeld := false } }
  let s := s.stopTimers [tmLoad]
  match s.armedSlot with
  | some k => s.swapEnds k 6
  | none => s

/-- The canceller (R481): taps and histories zero, isolation ASSUMED, every instance OFF; a self-test has ended with RESULT 11 (R40). -/
def State.canClear (s : State) : State :=
  let s := s.selftestStop 3 0x12
  let rt := s.can.rt.filterMap fun e => if e.2.derived then none else some (e.1, { derived := false : CanRt })
  { s with can := { rt := rt, linkLost := s.can.linkLost, blocks := s.can.blocks, phase := s.can.phase } }.stopTimers
    [tmPause, tmIso, tmIsoPeriod, tmLinkUp, tmCanTest]

/-- Each enabled instance restarts in its MODE's state (R481). -/
def State.canStart (s : State) : State :=
  (Sys2Proof.Machine.unitsOf s.member).foldl (fun s n =>
    let s := s.beginRefill n
    if s.fon CAN_CTRL.EN n then (if s.canLinksUp n then s.enChanged n true else (s.enChanged n true).linkFreeze n) else s) s

/-- A request whose descriptors end with a block reset: a packet is answered refused with 0x15, a register request is done (R480). -/
def State.gridAbort (s : State) (k : Nat) : State :=
  let g := s.gridSum k
  if g.left = 0 then s
  else if k < 16 then (s.setGridSum k {}).refused k 0x15 g.ended
  else s.gridEnd k

/-- The grid: queues end, rows are re-armed to BASE (R480). -/
def State.ggrClear (s : State) : State :=
  let t := { s with ggr := { s.ggr with queues := [], clWait := [] } }
  let t := (List.range 48).foldl (fun t k => t.gridAbort k) t
  ((List.range 32).foldl (fun t p => t.rearmGrid p) t).drive 97 false

/-- Trace channels go IDLE with empty buffers (R172). -/
def State.cenClear (s : State) : State := ({ s with cen := { s.cen with trace := [] } }).drive 101 false

/-- Counters, measurement windows and trigger timers; slots, mute bits and BUDGET_HOLD stay (R245). -/
def State.nprClear (s : State) : State :=
  let clear (r : CtxRt) : CtxRt := { r with noiseOver := 0 }
  let t := { s with npr := { s.npr with oscHits := [], oscNeg := [], oob := [], oobEval := [], duty := [] } }
  s.liveCtxs.foldl (fun t c => if (t.ctxRt c).noiseOver = 0 then t else t.setCtxRt c (clear (t.ctxRt c))) t

/-- Clamps IDLE, limiter attenuation 0, the limiter's analysis afresh (R481). -/
def State.limClear (s : State) : State :=
  let t := { s with npr := { s.npr with bins := [], attenQ := [] }, can := { s.can with phase := [] } }
  t.drive 103 false

/-- Every front-end link goes down, with the pins at their safe levels (R481); the committed descriptors stay. -/
def State.felClear (s : State) : State :=
  let t := (List.range 32).foldl (fun t n => if t.fon FEL_LINK.UP n then t.felLinkDown n else t) s
  ({ t with fel := { t.fel with ports := [] } }).stopTimers [tmFelLink, tmMmHold, tmMmGood, tmTune, tmModTemp]

/-- Timing groups and the wheel: every group returns to NONE, the wheel's outputs fall. -/
def State.ftmClear (s : State) : State :=
  let t := (List.range 32).foldl (fun t n => if t.fon FTM_PCFG.TDD_EN n && t.pinsFree n then t.askPins n false false else t) s
  let t := (List.range 8).foldl (fun t g => if t.groupState g = tgNONE then t else t.groupOff g) t
  { t with ftm := { t.ftm with groups := [], ports := [] } }

/-- Listener carriers return to IDLE; what the host staged stays. -/
def State.clsClear (s : State) : State := (List.range 32).foldl (fun t k => if t.clState k = clIDLE then t else t.carrierOff k) s

/-- Fronthaul sides down, flows OFF, PTP and alignment afresh. -/
def State.fhlClear (s : State) : State :=
  let t := { s with fhl := { groups := s.fhl.groups, sent := s.fhl.sent, ptp := { refDt := s.dt } } }
  t.stopTimers [tmPtp, tmFlow, tmHopPeriod, tmHopValid, tmAlignPeriod, tmAlignMsg]

/-- A window keeps its selection and mode; what it staged, and a commit that waits, end. -/
def Window.cleared (w : Window) : Window := { ctx := w.ctx, staged := w.staged }

/-- The windows of a CTXW block reset: a CTX_WRITE whose commit waits is answered (R334, R480). -/
def State.ctxwClear (s : State) : State :=
  let t := ((List.range 20).filter fun d => (s.window (3 + d)).pending).foldl (fun t d => t.commitAnswered d Reason.notRunning.code) s
  { t with windows := t.windows.map fun e => (e.1, e.2.cleared) }

/-- The NV controller: host commands end with RESULT 3 (R388, R480). -/
def State.nvaClear (s : State) : State :=
  let t := { s with nva := { s.nva with waiting := s.nva.waiting.filter (fun r => !r.job.isHost), bootReq := none } }
  let t := { t with rst := { t.rst with nvaWaits := false } }
  (if s.fon NVA_STAT.BUSY 0 then t.hostDone 3 else t).drive 152 false

/-- A converter link group begins afresh: its streams leave use (R123, R481). -/
def State.groupClear (s : State) (g : Nat) : State :=
  let t := if s.rxSt g = rxRUN then s.canLinkLoss g else s
  let t := if s.txSt g = txRUN then t.canLinkLoss (32 + g) else t
  (t.setJlk g {}).driveJlk g

/-- What a block reset does to a block before its page is cleared: work in flight is settled, and state behind the registers cleared. -/
def State.blockClear (s : State) (page : Nat) : State :=
  if page = pgTRC then { s with trc := {} }
  else if page = pgEVR then
    let n := s.evr.intake.length
    let t := (List.range n).foldl (fun t _ => t.fbump EVR_DROP.DROPPED 0) s
    { t with evr := { t.evr with intake := [], gapNext := t.evr.gapNext || decide (0 < n) } }
  else if page = pgNVA then s.nvaClear
  else if page = pgHUP then
    (({ s with hup := { supplyGood := s.hup.supplyGood, cfgDirty := s.hup.cfgDirty } } : State).drive 153 false).stopTimers
      [tmHupV, tmHupQ, tmHupDisagree, tmHupRebase, tmHupReady, tmHupStable]
  else if page = pgGCP then (s.gcpReset).drive 156 false |>.stopTimers [tmHost]
  else if page = pgBUF then (let t := s.gcpReset; { t with gcp := { t.gcp with anWait := [] } })
  else if page = pgMGE then s.stopTimers [tmMgeLink]
  else if page = pgCAP then s.capReset.drive 127 false
  else if page = pgFHL then s.fhlClear
  else if page = pgGNS then ((s.setGns {}).drive 108 false).stopTimers [tmPps, tmNmea, tmGga]
  else if page = pgSCH then s.schReset
  else if page = pgCHN then s.drive 102 false
  else if page = pgCAN then (s.drive 98 false).drive 99 false
  else if page = pgGGR then s.ggrClear
  else if page = pgCLS then s.clsClear
  else if page = pgCEN then s.cenClear
  else if page = pgNPR then s.nprClear
  else if page = pgLIM then s.limClear
  else if page = pgFTM then s.ftmClear
  else if page = pgFEL then s.felClear
  else if page = pgCXW then
    (List.range 8).foldl (fun t k => t.drive (114 + k) false) { s with fel := { s.fel with pairs := [] } }
  else if page = pgHKA then s.hkaReset.stopTimers [tmHkaScan, tmHkaRef, tmHkaCal]
  else if page = pgPWM then (List.range 8).foldl (fun t k => t.pwmOff k) { s with hk := { s.hk with pwm := [] } }
  else if page = pgFAN then ({ s with hk := { s.hk with fan := [] } }).stopTimers [tmFanStall, tmFanFail]
  else if page = pgTHM then ({ s with hk := { s.hk with therm := [], tHist := [] } }).stopTimers [tmSensor, tmEqual]
  else if 0x21 ≤ page ∧ page ≤ 0x24 then s.twbOff (page - 0x21)
  else if page = pgTWT then s.twtReset
  else if page = pgCTXW then s.ctxwClear
  else if 0x30 ≤ page then
    [2 * (page - 0x30), 2 * (page - 0x30) + 1].foldl (fun t g => t.groupClear g) s
  else s

/-- What must follow the clearing of the registers; the front ends begin again at their factory gains (DEDUCED, log 205). -/
def State.blockCleared (s : State) (page : Nat) : State :=
  if page = pgCAN then s.canClear
  else if page = pgPCIE then (List.range 3).foldl (fun t c => t.emptyRings c) s
  else if page = pgFEL then
    let t := ((List.range 32).filter fun n => s.descValid n).foldl (fun t n => (t.factoryGains n).refreshGains n) s
    (List.range 32).foldl (fun t n => (if s.foxStops n then t.fset FEL_CHAIN.FOX_HOLD n 1 else t).driveMm n) t
  else if page = pgFAN then s.driveFans
  else if page = pgTHM then s.setBand 2
  else s

/-! Starting a block from its configuration, as if from its enable (R479 step 4). -/

def State.ftmStart (s : State) : State := (List.range 8).foldl (fun t g => if t.fon FTM_GCFG.EN g then t.groupOn g else t) s

def State.gnsStart (s : State) : State :=
  let t := if s.fon GNS_PPS.EN 0 then (s.timerStart tmPps 0 s.sec_).setPps ppsACQUIRING else s
  if t.fon GNS_UART.EN 0 then t.timerStart tmNmea 0 t.sec_ else t

def State.clsStart (s : State) : State :=
  (List.range 32).foldl (fun t k => if t.fon CLS_CCFG.EN k && decide (k < t.clsCarriers) then t.setClState k clSEARCH else t) s

def State.fhlStart (s : State) : State :=
  let t := if s.fon FHL_PTP_CFG.EN 0 then s.setPort ptpLISTENING else s
  t.drivePtp.driveSides.flowsRefresh

def State.hkaBegin (s : State) : State :=
  let t := [0, 1].foldl (fun t c => if t.hkaOn c then t.refStart c else t) s
  let t := [0, 1].foldl (fun t c => if t.hkaOn c && decide (t.fget HKA_CFG.TRIG c = 1) then t.timerStart tmHkaScan c t.ms else t) t
  t.hkaShowAll

def State.pwmStart (s : State) : State := (List.range 8).foldl (fun t k => if t.fon PWM_CFG.EN k then t.softBegin k else t) s

def State.fanStart (s : State) : State :=
  (List.range 8).foldl (fun t j => if t.fon FAN_CFG.EN j then (t.fanStop j).timerStart tmFanStall j t.ms else t) s

/-- A block starts (R475, R479). -/
def State.blockEnable (s : State) (page : Nat) : State :=
  if page = pgHUP then (if s.fon HUP_CFG.EN 0 then s.hupStart else s)
  else if page = pgNVA then (s.fset NVA_STAT.BAND 0 (s.fget THM_STAT.BAND 0)).nvShow
  else if page = pgFHL then s.fhlStart
  else if page = pgGNS then s.gnsStart
  else if page = pgGCP then (if s.fget GCP_HOST.HOST_TO_S 0 = 0 then s else s.timerStart tmHost 0 s.sec_)
  else if page = pgCAN then s.canStart
  else if page = pgCLS then s.clsStart
  else if page = pgLIM then (s.cond pgLIM 2 (s.driven 104))
  else if page = pgFTM then s.ftmStart
  else if page = pgHKA then s.hkaBegin
  else if page = pgPWM then s.pwmStart
  else if page = pgFAN then s.fanStart
  else if page = pgTHM then (List.range 16).foldl (fun t n => t.timerStart tmSensor n t.ms) s
  else if 0x21 ≤ page ∧ page ≤ 0x24 then (if s.fon TWB_CFG.EN (page - 0x21) then s.twbOn (page - 0x21) else s)
  else if page = pgGPIO then s.gpioEvents
  else if 0x30 ≤ page then
    [2 * (page - 0x30), 2 * (page - 0x30) + 1].foldl (fun t g => (t.rxStart g).txStart g) s
  else s

/-! The block reset. -/

/-- Fault sources that changed between two states, with their new levels. -/
def sourceChanges (s t : State) : List (Nat × Bool) :=
  ((List.range 160).filter fun src => s.driven src != t.driven src).map fun src => (src, t.driven src)

/-- The fault wires keep the level of `s` until the block is released (R479). -/
def State.holdWires (t s : State) (page : Nat) : State :=
  let u := t.copyWords s ((List.range 5).map fun k => FLT_LEVEL.LEVEL.key k)
  { u with flt := { u.flt with drive := s.flt.drive, risen := s.flt.risen }
           rst := { u.rst with held := Tbl.set (fun _ => []) u.rst.held page (sourceChanges s t) } }

/-- The wires follow the block again. -/
def State.freeWires (s : State) (page : Nat) : State :=
  let l := Tbl.get (fun _ => []) s.rst.held page
  let t := { s with rst := { s.rst with held := Tbl.set (fun _ => []) s.rst.held page [] } }
  l.foldl (fun t x => t.drive x.1 x.2) t

/-- Steps 2 and 3 of R479: READY falls, work in flight is settled, the block's state is cleared, and the block is held. -/
def State.blockStop (s : State) (page : Nat) : State :=
  let t := (s.release page false).fset PAGE_STAT.READY page 0
  ((((t.setCrcErr page false).blockClear page).clearPage page).blockCleared page).holdWires s page

/-- The block is released and restarts from its configuration. PCIE_PERST_N low holds the PCIE page (R505). -/
def State.blockStart (s : State) (page : Nat) : State :=
  if page = pgPCIE && s.rst.perst then s
  else (((s.release page true).refreshReady).freeWires page).blockEnable page

/-- The timer of a block reset in progress, in microseconds. -/
def tmBlock : Nat := 90

/-- Pages whose BLOCK_RESET is refused (R481). -/
def noBlockReset (page : Nat) : Bool := decide (page ≤ pgDBG ∨ page = pgFLT)

/-- The block reset of a page (R479), by a write or by reaction 3. One that is in progress goes on; SCH waits for the end of a swap past its point
of no return (R109), NVA for the running operation (R481). -/
def State.blockReset (s : State) (page : Nat) : State :=
  if !s.running page then s
  else if page = pgSCH && s.sch.staged then { s with sch := { s.sch with resetHeld := true } }
  else if page = pgNVA && s.nva.running.isSome then { s with rst := { s.rst with nvaWaits := true } }
  else (s.blockStop page).timerStart tmBlock page s.us

/-- Step 4 of R479: the release is recorded, and BLOCK_RESET rises. -/
def State.blockRelease (s : State) (page : Nat) : State :=
  let t := ((s.timerStop tmBlock page).fset RST_BLK.PAGE 0 page).fbump RST_BLK.COUNT 0
  (t.blockStart page).pulse pgRST 2

/-- At a microsecond strobe: an NVA block reset that waited begins, and blocks are released within 10 µs. -/
def State.blockStrobe (s : State) : State :=
  let t := if s.rst.nvaWaits && s.nva.running.isNone then (s.blockStop pgNVA).timerStart tmBlock pgNVA s.us else s
  (List.range 64).foldl (fun t p => if t.timerDue tmBlock p t.us 8 then t.blockRelease p else t) t

/-- PCIE_PERST: PCIE_PERST_N passes its filter (R505). Low holds the endpoint and the PCIE page as in a block reset; its release starts link
training, whose end is PCIE_LINK_CHANGE. -/
def execPciePerst (low : Bool) (s : State) : Host.Outcome State Fault Refusal :=
  .next (
    if low = s.rst.perst then s
    else
      let t := { s with rst := { s.rst with perst := low } }
      if low then (if s.running pgPCIE then t.blockStop pgPCIE else t)
      else if s.running pgSYS then t.blockStart pgPCIE
      else t)

/-- SWAP_BOUNDARY: at B both tables switch (R103 to R108); `lostCaps` names the capture sessions whose record the new image has no room for. A
block reset of SCH that waited for the end of the swap follows (R109). -/
def execSwapBoundary (lostCaps : BitVec 16) (s : State) : Host.Outcome State Fault Refusal :=
  .next (
    match s.armedSlot with
    | none => s
    | some slot =>
      if !s.sch.staged then s
      else
        let n := (s.evictedAt slot).length
        let t := (s.swapAt slot).capSwap lostCaps.toNat
        let t := t.post 0x0008 (t.fget SCH_ACTIVE.GEN 0) slot n
        if t.sch.resetHeld then (t.blockStop pgSCH).timerStart tmBlock pgSCH t.us else t)

end Sys2Proof.Machine
end

