-- ==== Sys2Proof/Machine/Boot.lean ====
section
/-!
DEFINITION. Chapter 18, second part: power-on reset, chip reset, pair reset, the watchdogs, and the Primrose boot sequence (R470 to R488).
-/
namespace Sys2Proof.Machine

/-! The reset pins (R470, R471, R473). -/

/-- POWER_ON_RESET: PORST_N falls past its filter, or the always-on supply is lost (`low`), and everything but OTP and the NV array is lost; with
its release Primrose may proceed from step 1 (R471, R474). -/
def execPowerOnReset (low : Bool) (s : State) : Host.Outcome State Fault Refusal :=
  .next (
    if low then ({ s with rst := { s.rst with porLow := true } } : State).powerOnReset
    else { s with rst := { s.rst with porLow := false } })

/-- RESET_PIN: RESET_N falls past its filter (`low`) and runs a chip reset of cause 0x02; while it is low the device stays in chip reset (R470,
R473). -/
def execResetPin (low : Bool) (s : State) : Host.Outcome State Fault Refusal :=
  .next (
    if low then (if s.rst.resetLow then s else ({ s with rst := { s.rst with resetLow := true } } : State).chipReset 0x02 0)
    else { s with rst := { s.rst with resetLow := false } })

/-! Firmware at a boot, a wake or a pair reset (R399, R400). -/

/-- The first bank of a list whose firmware verifies. -/
def State.firstBank (s : State) (v : BootVerdict) (l : List Nat) : Option Nat := l.find? fun b => s.bankFwOk b (v.fw.getLsbD b)

/-- The extension of the bank that runs: none, running, or refused (R400, R426). -/
def State.startExtension (s : State) (bank : Nat) (sigOk : Bool) : State :=
  let s := { s with sec := { s.sec with extRun := 0 } }
  if !s.extPresent bank then s.fset SEC_BOOT.EXT_RESULT 0 0
  else if s.bankExtOk bank sigOk then
    { s with sec := { s.sec with extRun := s.fwSvnOf (extBase bank) } }.fset SEC_BOOT.EXT_RESULT 0 1
  else (s.fset SEC_BOOT.EXT_RESULT 0 2).pulse pgSEC 0

/-- A pair fetches from a bank (R378). -/
def State.fetchesFrom (s : State) (bank : Nat) : State := if bank = 0 then s.fset NVA_STAT.EXEC0 0 1 else s.fset NVA_STAT.EXEC1 0 1

/-- Firmware of a bank starts on the pairs. -/
def State.startFirmware (s : State) (bank : Nat) (fallback extSig : Bool) : State :=
  let t := (s.fset SEC_BOOT.BANK 0 bank).fsetB SEC_BOOT.FALLBACK 0 fallback
  let t := (t.fset SEC_BOOT.FW_RUN_SVN 0 (t.fwSvnOf (fwBase bank))).fetchesFrom bank
  t.startExtension bank extSig

/-- Pair A stays in ROM recovery (R400): Primrose and its watchdog stop, and the error pair shows fault. The packet engine runs for INFO alone. -/
def State.romRecovery (s : State) : State :=
  let t := { s with rst := { s.rst with recovery := true, bootOn := false } }
  (t.muteAndPads.fset FLT_STAT.HEALTHY 0 0).blockStart pgGCP

/-! Watchdogs (R484 to R486). -/

def wdogKey : Word := 0x4B49434B

def wdEnFld (pair : Nat) : Fld := if pair = 0 then RST_WDA.EN else RST_WDB.EN
def wdExpFld (pair : Nat) : Fld := if pair = 0 then RST_WDA.EXPIRED else RST_WDB.EXPIRED
def wdWinFld (pair : Nat) : Fld := if pair = 0 then RST_WDA.WIN_MS else RST_WDB.WIN_MS
def wdPeriodFld (pair : Nat) : Fld := if pair = 0 then RST_WDA.PERIOD_MS else RST_WDB.PERIOD_MS

/-- A pair's watchdog counts: it has been started and is enabled. -/
def State.wdRuns (s : State) (pair : Nat) : Bool := Tbl.get (fun _ => false) s.rst.wdOn pair && s.fon (wdEnFld pair) 0

/-- It is paused (R484): its pair is halted at D2, or the device sleeps. -/
def State.wdPaused (s : State) (pair : Nat) : Bool :=
  (s.dbg.halted.testBit pair && decide (2 ≤ s.fget DBG_STAT.LEVEL 0)) || decide (s.fget PWR_STAT.STATE 0 = 3)

def State.wdCount (s : State) (pair : Nat) : Nat := Tbl.get (fun _ => 0) s.rst.wdMs pair

def State.setWd (s : State) (pair : Nat) (on : Bool) (ms : Nat) : State :=
  { s with rst := { s.rst with wdOn := Tbl.set (fun _ => false) s.rst.wdOn pair on, wdMs := Tbl.set (fun _ => 0) s.rst.wdMs pair ms } }

/-- The watchdogs at a millisecond strobe. -/
def State.wdTick (s : State) : State :=
  [0, 1].foldl (fun t p => if t.wdRuns p && !t.wdPaused p then t.setWd p true (t.wdCount p + 1) else t) s

/-- n milliseconds have passed since the last kick, counted from the first strobe after it (R25). -/
def State.wdPast (s : State) (pair n : Nat) : Bool := decide (n = 0 ∨ n + 1 ≤ s.wdCount pair)

/-- F151 is driven while either EXPIRED = 1. -/
def State.driveWd (s : State) : State := s.drive 151 (s.fon RST_WDA.EXPIRED 0 || s.fon RST_WDB.EXPIRED 0)

/-- An expiry (R484): the watchdog restarts from it. -/
def State.wdExpire (s : State) (pair : Nat) : State := (((s.fset (wdExpFld pair) 0 1).pulse pgRST 3).setWd pair true 0).driveWd

/-- A kick (R484). -/
def wdKick (pair : Nat) (key : Word) (s : State) : WRes :=
  if !s.wdRuns pair then .ok s
  else if decide (key = wdogKey) && s.wdPast pair (s.fget (wdWinFld pair) 0) && !s.wdPast pair (s.fget (wdPeriodFld pair) 0) then
    .ok (((s.fset (wdExpFld pair) 0 0).setWd pair true 0).driveWd)
  else .ok (s.wdExpire pair)

/-- WATCHDOG_KICK: a write to RST_WDA_KICK or RST_WDB_KICK (R484). -/
def execWatchdogKick (who : Init) (pair : Fin 2) (key : Word) (s : State) : Host.Outcome State Fault Refusal :=
  .next (s.access who pgRST (0x058 + 4 * pair.val) key (wdKick pair.val key))

/-- WATCHDOG_EXPIRED: PERIOD_MS have passed without a kick (R484). -/
def execWatchdogExpired (pair : Fin 2) (s : State) : Host.Outcome State Fault Refusal :=
  .next (
    if s.wdRuns pair.val && !s.wdPaused pair.val && s.wdPast pair.val (s.fget (wdPeriodFld pair.val) 0) then s.wdExpire pair.val else s)

/-- Admission of a write of RST_WDA or RST_WDB: the device identity only (R484). -/
def State.wdAdmit (s : State) (who : Init) (off : Nat) : Option Reason :=
  match s.admitWrite who pgRST off with
  | some r => some r
  | none => if s.identOf who = some .device then none else some .lifecycle

/-- A write of RST_WDA or RST_WDB (R484, R487). -/
def wdWrite (pair : Nat) (v : Word) (s : State) : WRes :=
  let win := bitsOf v 29 16
  let period := bitsOf v 15 0
  let en := decide (bitsOf v 31 31 = 1)
  if period = 0 ∨ 10000 < period ∨ period ≤ win then .error .outOfRange
  else if !en && s.fon (wdEnFld pair) 0 && decide (s.sec.lc = lcDEPLOYED) then .error .lifecycle
  else
    match s.mergeReg pgRST (0x050 + 4 * pair) ((wdEnFld pair).key 0) v with
    | .error r => .error r
    | .ok t => .ok (if en && !s.fon (wdEnFld pair) 0 then t.setWd pair true 0 else t)

/-- The boot watchdog at a second strobe (R485). -/
def State.wdSecond (s : State) : State :=
  let boot := if s.rst.bootOn && !s.fon RST_STAT.WAIT_READY 0 then s.rst.bootS + 1 else s.rst.bootS
  { s with rst := { s.rst with bootS := boot } }

/-- BOOT_WATCHDOG_EXPIRED: BOOT_TO_S seconds have passed before step 14 (R485). -/
def execBootWatchdogExpired (s : State) : Host.Outcome State Fault Refusal :=
  .next (
    if s.rst.bootOn && decide (s.fget RST_BOOT.BOOT_TO_S 0 + 1 ≤ s.rst.bootS) then
      (s.chipReset 0x05 0).fset RST_BOOT.BOOT_FAILS 0 (min 3 (s.fget RST_BOOT.BOOT_FAILS 0 + 1))
    else s)

/-- A write to RST_AON_KICK (R486). -/
def aonKick (key : Word) (s : State) : WRes := .ok (if key = wdogKey then { s with rst := { s.rst with aonCyc := 0 } } else s)

/-- AON_WATCHDOG_KICK (R486). -/
def execAonWatchdogKick (who : Init) (key : Word) (s : State) : Host.Outcome State Fault Refusal :=
  .next (s.access who pgRST 0x068 key (aonKick key))

/-- The always-on watchdog expires (R486): it runs, and CD41 has counted AON_WD_S seconds of 32,768 cycles since the last kick, or AON_WAKE_MS in a
wake. In SNOWDROP it does not count the sleep. -/
def State.aonDue (s : State) : Bool :=
  s.rst.aonOn &&
    (if s.pwr.waking then decide (s.fget RST_AON.AON_WAKE_MS 0 * 32768 ≤ s.rst.wakeCyc * 1000)
     else decide (s.fget PWR_STAT.STATE 0 ≠ 3) && decide (s.fget RST_AON.AON_WD_S 0 * 32768 ≤ s.rst.aonCyc))

/-- AON_WATCHDOG_EXPIRED: a chip reset of cause 0x06 directly from CD41 (R486). -/
def execAonWatchdogExpired (s : State) : Host.Outcome State Fault Refusal := .next (if s.aonDue then s.chipReset 0x06 0 else s)

/-! RST_CMD (R482). -/

/-- What is kept for an initiator and ends with its pair: OPEN, read shadows, the words staged in its window unless a commit is pending. -/
def State.dropHolder (s : State) (h : Nat) : State :=
  let t := { s with expert := s.expert.filter fun e => decide (e.1 % 64 ≠ h), evtShadow := s.evtShadow.filter fun e => decide (e.1 % 64 ≠ h) }
  let t := { t with shadow := t.shadow.filter fun e => decide (e.1 % 64 ≠ h), coefShadow := t.coefShadow.filter fun e => decide (e.1 ≠ h) }
  let lock (key : Nat) : Bool := decide ((key / 0x100000 = tmExpertArm ∨ key / 0x100000 = tmExpertOpen) ∧ key % 64 = h)
  let t := { t with timers := t.timers.filter fun e => !lock e.1 }
  let w := t.window h
  if w.pending then t else t.setWindow h { w with words := [] }

/-- A reset of pair A cuts a journal entry off before its commit word; the running operation completes (R482). -/
def State.cutEntry (s : State) : State :=
  match s.nva.running with
  | some ⟨.journal e, a, b, c, d⟩ => { s with nva := { s.nva with running := some ⟨.bodyOnly e, a, b, c, d⟩ } }
  | _ => s

/-- The reset of a management pair (R482): 0 pair A, 1 pair B. -/
def State.pairReset (s : State) (pair : Nat) : State :=
  let bank := s.fget SEC_BOOT.BANK 0
  let t := s.dropHolder (if pair = 0 then Init.pairA.holder else Init.pairB.holder)
  let t := { t with dbg := { t.dbg with halted := t.dbg.halted - (t.dbg.halted &&& 2 ^ pair) } }
  if pair = 0 then
    let t := [0, 1].foldl (fun t k => if t.slotState k = slotVERIFYING then t.refuseSlot k 0x0F else t) t
    (t.fetchesFrom bank).cutEntry.setWd 0 (t.bankFwOk bank true) 0
  else (t.startExtension bank (decide (s.fget SEC_BOOT.EXT_RESULT 0 = 1))).setWd 1 true 0

/-- Admission of RST_CMD (R482): CHIP, PAIR_A, PAIR_B. -/
def rstMay (chip pairA : Bool) (id : Ident) : Bool :=
  match id with
  | .domain _ => false
  | .device => chip
  | .integrator => chip || !pairA
  | _ => true

def State.rstAdmit (s : State) (who : Init) (v : Word) : Option Reason :=
  match s.identOf who with
  | none => some .lifecycle
  | some id =>
    let n := bitsOf v 31 31 + bitsOf v 30 30 + bitsOf v 29 29
    if !basicAdmitted s.sec.lc id then some .lifecycle
    else if n = 1 && !rstMay (decide (bitsOf v 31 31 = 1)) (decide (bitsOf v 30 30 = 1)) id then some .lifecycle
    else none

/-- A write of RST_CMD (R482). -/
def rstCmdWrite (v : Word) (s : State) : WRes :=
  let n := bitsOf v 31 31 + bitsOf v 30 30 + bitsOf v 29 29
  if n = 0 then .ok s
  else if 1 < n ∨ bitsOf v 15 0 ≠ s.fget GCP_SERIAL_LO.SERIAL 0 % 0x10000 then .error .outOfRange
  else if bitsOf v 31 31 = 1 then .ok (s.commitOpenIfAdmitted.chipReset 0x04 0)
  else if bitsOf v 30 30 = 1 then .ok (s.pairReset 0)
  else .ok (s.pairReset 1)

def State.rstAccess (s : State) (who : Init) (v : Word) : State := s.accessBy (fun s => s.rstAdmit who v) who pgRST 0x048 v (rstCmdWrite v)

/-- RST_CHIP: a write of RST_CMD.CHIP (R482). -/
def execRstChip (who : Init) (confirm : BitVec 16) (s : State) : Host.Outcome State Fault Refusal :=
  .next (s.rstAccess who (BitVec.ofNat 32 (0x80000000 + confirm.toNat)))

/-- RST_PAIR_A: a write of RST_CMD.PAIR_A (R482). -/
def execRstPairA (who : Init) (confirm : BitVec 16) (s : State) : Host.Outcome State Fault Refusal :=
  .next (s.rstAccess who (BitVec.ofNat 32 (0x40000000 + confirm.toNat)))

/-- RST_PAIR_B: a write of RST_CMD.PAIR_B (R482). -/
def execRstPairB (who : Init) (confirm : BitVec 16) (s : State) : Host.Outcome State Fault Refusal :=
  .next (s.rstAccess who (BitVec.ofNat 32 (0x20000000 + confirm.toNat)))

/-- Any other write to the RST page (R487). -/
def rstWrite (off : Nat) (v : Word) (s : State) : WRes :=
  if off = 0x050 then wdWrite 0 v s
  else if off = 0x054 then wdWrite 1 v s
  else if off = 0x058 then wdKick 0 v s
  else if off = 0x05C then wdKick 1 v s
  else if off = 0x068 then aonKick v s
  else s.mergeReg pgRST off (pgRST * 0x1000 + off) v

/-! The steps of Primrose (R475 to R478). -/

def State.bootStep (s : State) (n : Nat) : State := s.fset RST_STAT.STEP 0 n

/-- Step 2: AON_OK and REFCLK_OK read 1. -/
def State.boot2 (s : State) : State := (((s.fset CLK_PLL_STAT.AON_OK 0 1).fset CLK_PLL_STAT.REFCLK_OK 0 1).setDev 47 0).bootStep 3

/-- The PLLs lock; at the first lock since power-on device time is set to 0 (R21), and a challenge is issued (R403). -/
def State.lockPlls (s : State) : State :=
  let t := if s.time.started then s else ({ s with time := { started := true } } : State).newChallenge
  let t := ((t.fset CLK_PLL_STAT.PLLA_LOCK 0 1).fset CLK_PLL_STAT.PLLB_LOCK 0 1).fset CLK_PLL_STAT.PLLC_LOCK 0 1
  (t.fset CLK_PLL_STAT.PLLD_LOCK 0 1).refreshClocks.drive 143 false

/-- Every present page but GCP leaves reset, and starts from its configuration. -/
def State.startPages (s : State) : State :=
  let l := (List.range 64).filter fun p => s.pagePresent p && decide (p ≠ pgGCP)
  let t := l.foldl (fun t p => t.release p (!(decide (p = pgPCIE) && t.rst.perst))) s
  l.foldl (fun t p => if t.outOfReset p then t.blockEnable p else t) t.refreshReady

/-- Step 3: PLLs, ROM on pair A, the boot watchdog, OTP, the PCI Express endpoint. -/
def State.boot3 (s : State) : State :=
  let t := s.lockPlls.startPages
  ({ t with rst := { t.rst with bootOn := true, bootS := 0 } } : State).bootStep 4

/-- The banks in the order that ROM tries them (R400, R485). -/
def State.bootOrder (s : State) : List Nat :=
  let n := s.fget NVA_BOOTSEL.NEXT 0
  if s.fget RST_BOOT.BOOT_FAILS 0 = 3 then [1 - n, n] else [n, 1 - n]

/-- Step 4: the firmware is verified and started, the extension verified, the pair watchdogs and the always-on watchdog run. -/
def State.boot4 (s : State) (v : BootVerdict) : State :=
  match s.firstBank v s.bootOrder with
  | none => s.romRecovery
  | some b =>
    let fell := decide (b ≠ s.fget NVA_BOOTSEL.NEXT 0) || decide (s.fget RST_BOOT.BOOT_FAILS 0 = 3)
    let t := ((s.startFirmware b fell (v.ext.getLsbD b)).setWd 0 true 0).setWd 1 true 0
    ({ t with rst := { t.rst with aonOn := true, aonCyc := 0 } } : State).bootStep 5

/-- The hold-up configuration of the journal is applied (R475 step 5, R476). -/
def State.applyHup (s : State) : State :=
  let keys := [HUP_CFG.EN.key 0, HUP_VOLT.VMIN_MV.key 0, HUP_SCALE.DIV.key 0, HUP_SENSE.RSENSE.key 0, HUP_X1.HOLD_MW.key 0, HUP_X2.DIS_S.key 0]
  match s.nva.inForce 7 0 with
  | none => s
  | some e => ((keys.zip e.payload).foldl (fun t x => t.setWord x.1 (BitVec.ofNat 32 x.2)) s).blockEnable pgHUP

/-- Step 5: Primrose waits for READY. -/
def State.boot5 (s : State) : State :=
  let t := if s.fon RST_STAT.WAIT_READY 0 then s else s.applyHup.fset RST_STAT.WAIT_READY 0 1
  if t.fon HUP_STAT.READY 0 then (t.fset RST_STAT.WAIT_READY 0 0).bootStep 6 else t

/-- Step 6: an incomplete second fuse word is completed, once the check admits its burn (R382, R391). -/
def State.boot6 (s : State) : State :=
  if s.sec.secondWord then s.bootStep 7
  else if s.energyOk 4000 s.evr.stagedSegs then ({ s with sec := { s.sec with secondWord := true } } : State).bootStep 7
  else s

/-- An interrupted lifecycle step 4 is completed (R392); none while its journal entries are not admitted. -/
def State.bootLifecycle (s : State) : Option State :=
  match s.sec.lcReq with
  | none => some s
  | some r =>
    (s.eraseKeys r.target).map fun t => State.post { t with sec := { t.sec with lcReq := none } } 0x0006 r.old r.target r.ident

/-- The interrupted clear that waits for its erase (R372). -/
def State.clearDue (s : State) : Bool := s.evr.clearRec.isSome && !s.evr.log.isEmpty

/-- Step 7: an interrupted lifecycle step 4 is completed, and an interrupted clear from its step 3, each once the check admits it (R372, R382, R392);
the log-cleared record follows once EPOCH_BASE stands. -/
def State.boot7 (s : State) : State :=
  match s.bootLifecycle with
  | none => s
  | some t =>
    if !t.clearDue then t.bootStep 8
    else if t.admits .logErase then t.logErased.bootStep 8
    else t

/-- The greatest E that the log's markers and the journal name (R365). -/
def State.lastEpochs (s : State) : List Nat :=
  ((s.evr.log.flatten.filter fun r => decide (r.code = 0x0002)).map fun r => r.p0) ++
    match s.nva.inForce 3 0 with
    | some e => [e.payload.headD 0]
    | none => []

/-- EPOCH_BASE at a power-on (R365). -/
def State.newEpoch (s : State) : Nat := match s.lastEpochs with | [] => 0 | l => 1 + l.foldl max 0

/-- The entry that step 8 commits. -/
def bootEntryOf (typ n : Nat) : JEntry := { typ := typ, key := 0, payload := [n] }

/-- EPOCH_BASE is set and its entry committed, at power-on only; none while the check does not admit the entry (R365). -/
def State.bootEpoch (s : State) : Option State :=
  if !s.evr.baseDue then some s
  else
    let e := s.newEpoch
    (s.journalNow (bootEntryOf 3 e)).map fun t =>
      ({ t with evr := { t.evr with epochBase := e, lastEpoch := e, baseDue := false } } : State).fset EVR_EPOCH.E 0 e

/-- BOOT advances as a journal entry; none while the check does not admit it (R478). -/
def State.bootCount (s : State) : Option State :=
  let boot := (s.fget GCP_BOOT.BOOT 0 + 1) % 2 ^ 32
  (s.journalNow (bootEntryOf 8 boot)).map fun t => t.fset GCP_BOOT.BOOT 0 boot

/-- The record of a clear that step 7 completed, before any other (R365, R372). -/
def State.bootCleared (s : State) : State :=
  match s.evr.clearRec with
  | some c => s.clearComplete c
  | none => s

/-- Step 8: at power-on EPOCH_BASE and its entry; BOOT advances as a journal entry. Both wait for an admitted write, with the NV controller idle
(R365, R377, R478). -/
def State.boot8 (s : State) : State :=
  if s.nva.running.isSome then s
  else
    match s.bootEpoch with
    | none => s
    | some t =>
      match t.bootCount with
      | none => t
      | some u => u.bootCleared.bootStep 9

/-- Step 9: the boot record, and the safe-state cause, which is then cleared (R360, R472). -/
def State.boot9 (s : State) : State :=
  let t := s.post 0x0003 (s.fget RST_CAUSE.CAUSE 0) (s.fget GCP_BOOT.BOOT 0) (s.fget SEC_BOOT.BANK 0)
  let c := t.fget FLT_SAFE_CAUSE.CAUSE 0
  let t := if c = 0 then t
    else (((t.post 0x0005 c (t.fget FLT_SAFE_DT_LO.DT 0) (t.fget FLT_SAFE_CAUSE.SRC 0)).fset FLT_SAFE_CAUSE.CAUSE 0 0).fset FLT_SAFE_CAUSE.SRC 0 0).fset FLT_SAFE_DT_LO.DT 0 0
  t.bootStep 10

/-- The regulatory set comes into force, or none does (R232): in BLANK, with no set committed, or with a stored set that fails its CRC, as the
journal holds it (R374) or as it is read. -/
def State.loadRegSet (s : State) (v : BootVerdict) : State :=
  match (if s.sec.lc = lcBLANK ∨ v.regBad then none else s.nva.inForce 1 0) with
  | some e => s.regLoad e.payload
  | none => ((s.fset LIM_REG_STAT.VALID 0 0).cond pgLIM 2 true).drive 104 true

/-- Step 10. -/
def State.boot10 (s : State) (v : BootVerdict) : State := (s.loadRegSet v).bootStep 11

/-- The boot image of a bank is loaded into slot A and verified (R96). A length past the slot, or short of a header and trailer, is refused. -/
def State.loadBootImage (s : State) (bank : Nat) (v : BootVerdict) : State :=
  let a := bootImageBase bank
  let len := s.nvBE (a + 0x10) 4
  if len < 160 ∨ slotBytes < len then s.refuseSlot 0 0x01
  else
    let t := (s.imgClear 0).imgStore 0 0 (s.nvList a len)
    let t := (t.fset SCH_LOAD_CTRL.LENGTH 0 len).fset (slotGenFld 0) 0 (t.imgBE 0 0x0C 2)
    let t := t.fset (slotBuildFld 0) 0 (t.imgBE 0 0x14 4)
    let code := t.verifyCode 0 len v.imgSig v.imgRecount
    if code = 0 then (t.setSlot 0 slotVERIFIED).pulse pgSCH 0 else t.refuseSlot 0 code

/-- Slot A was refused (R478). -/
def State.noteImage (s : State) : State :=
  if s.slotState 0 = slotVERIFIED then s else (s.fset RST_STAT.IMAGE_REFUSED 0 1).pulse pgRST 1

/-- Step 11. -/
def State.boot11 (s : State) (v : BootVerdict) : State := ((s.loadBootImage (s.fget SEC_BOOT.BANK 0) v).noteImage).bootStep 12

/-- Slot A becomes ACTIVE at the next multiple of 10 ms of device time (R202). -/
def State.activateBoot (s : State) : State :=
  if s.slotState 0 = slotVERIFIED then (s.advanceTo ((s.dt / frameTicks + 1) * frameTicks)).activate 0 else s

/-- Step 12. -/
def State.boot12 (s : State) : State := s.activateBoot.bootStep 13

/-- Step 13: the command packet engine starts. -/
def State.boot13 (s : State) : State := (s.blockStart pgGCP).bootStep 14

/-- A source is severe at a rung. -/
def State.severeAt (s : State) (rung : Nat) : Bool :=
  (List.range 160).any fun src => s.fbit FLT_SEVERE.SEVERE (src / 32) (src % 32) && decide (s.fget FLT_SSTAT.RUNG src = rung)

/-- A write of HEALTHY is refused in the safe state, and while a source is severe at rung 5 (R357). -/
def State.mayHeal (s : State) : Bool := !s.fon FLT_STAT.SAFE 0 && !s.severeAt 5

/-- The error pair shows healthy; the mute input and the pad override are released unless a thermal shutdown holds them (R357, R447, R475). -/
def State.healthy (s : State) : State :=
  (({ s with flt := { s.flt with hardMute := s.hk.thmMute } } : State).setPads s.hk.thmMute).fset FLT_STAT.HEALTHY 0 1

/-- Step 14. -/
def State.boot14 (s : State) : State :=
  if !s.mayHeal then s
  else
    let t := ((s.healthy.fset RST_STAT.DONE 0 1).pulse pgRST 0).fset RST_BOOT.BOOT_FAILS 0 0
    { t with rst := { t.rst with bootOn := false } }

/-- The step in progress completes. -/
def State.primrose (s : State) (v : BootVerdict) : State :=
  match s.fget RST_STAT.STEP 0 with
  | 1 => s.bootStep 2
  | 2 => s.boot2
  | 3 => s.boot3
  | 4 => s.boot4 v
  | 5 => s.boot5
  | 6 => s.boot6
  | 7 => s.boot7
  | 8 => s.boot8
  | 9 => s.boot9
  | 10 => s.boot10 v
  | 11 => s.boot11 v
  | 12 => s.boot12
  | 13 => s.boot13
  | 14 => s.boot14
  | _ => s

/-- Primrose proceeds: no reset pin is low, it has not ended, and pair A is not in ROM recovery. -/
def State.boots (s : State) : Bool := !s.rst.porLow && !s.rst.resetLow && !s.rst.recovery && !s.fon RST_STAT.DONE 0

/-- PRIMROSE_STEP: the step of Primrose in progress ends (R475); `v` says what verification finds at steps 4 and 11. -/
def execPrimroseStep (v : BootVerdict) (s : State) : Host.Outcome State Fault Refusal := .next (if s.boots then s.primrose v else s)

end Sys2Proof.Machine
end

