-- ==== Sys2Proof/Machine/Flt.lean ====
section
/-!
DEFINITION. Chapter 13: the fault collector: classification, escalation, reactions, the error pair, the safe state (R346 to R362).
-/
namespace Sys2Proof.Machine

/-! Severity. -/

def State.isSevere (s : State) (src : Nat) : Bool := s.fbit FLT_SEVERE.SEVERE (src / 32) (src % 32)

def State.setSevere (s : State) (src : Nat) (b : Bool) : State :=
  (s.fsetBit FLT_SEVERE.SEVERE (src / 32) (src % 32) b).fsetB FLT_SSTAT.SEVERE src b

/-- The severe sources. -/
def State.severeSources (s : State) : List Nat := (List.range 160).filter fun src => s.isSevere src

/-- SEVERE_ANY and RUNG_MAX follow; the fault interrupt falls with SEVERE_ANY (R355, R361). -/
def State.showSevere (s : State) : State :=
  let l := s.severeSources
  let t := (s.fsetB FLT_STAT.SEVERE_ANY 0 (!l.isEmpty)).fset FLT_STAT.RUNG_MAX 0 ((l.map fun src => s.fget FLT_SSTAT.RUNG src).foldl max 0)
  { t with flt := { t.flt with irqFault := t.flt.irqFault && !l.isEmpty } }

/-! Reactions (R355, R356). -/

/-- The pages of a configuration source that hold CRC_ERR = 1 and admit a block reset. -/
def State.crcPages (s : State) (src : Nat) : List Nat :=
  (List.range 64).filter fun p => decide (configSource p = src) && s.fon PAGE_STAT.CRC_ERR p && !noBlockReset p

/-- The page that the block-reset reaction of a source resets; none for a dash (R347). -/
def faultPage (src : Nat) : Option Nat :=
  if src < 32 then some (pgJLK + src / 2)
  else if src < 96 then some pgFEL
  else if src = 96 then some pgSCH
  else if src = 97 then some pgGGR
  else if src < 100 then some pgCAN
  else if src < 102 then some pgCEN
  else if src = 102 then some pgCHN
  else if src < 105 then some pgLIM
  else if src < 107 then some pgNPR
  else if src = 107 then some pgFTM
  else if src = 108 then some pgGNS
  else if src < 113 then some pgFHL
  else if src = 113 then some pgCLS
  else if src < 122 then some pgCXW
  else if src < 126 then some (pgTWB + (src - 122))
  else if src = 126 then some pgTWT
  else if src = 127 then some pgCAP
  else if src = 152 then some pgNVA
  else if src = 153 then some pgHUP
  else if src = 155 then some pgPWM
  else if src = 156 then some pgGCP
  else if src = 157 then some pgFAN
  else none

/-- The pages that the block-reset rung of a source resets now. -/
def State.faultPages (s : State) (src : Nat) : List Nat :=
  if 144 ≤ src ∧ src ≤ 148 then s.crcPages src
  else match faultPage src with
    | some p => if s.pagePresent p then [p] else []
    | none => []

/-- Reaction 4 (R356): mute, error pair, pads; the open segment is committed when admitted; the cause is recorded; chip reset. -/
def State.chipResetReaction (s : State) (src : Nat) : State :=
  let t := s.muteAndPads.fset FLT_STAT.HEALTHY 0 0
  let t := (t.drainIntake).commitOpenIfAdmitted
  let t := (t.fset FLT_SAFE_CAUSE.CAUSE 0 2).fset FLT_SAFE_CAUSE.SRC 0 src
  (t.fset FLT_SAFE_DT_LO.DT 0 (t.dt % 2 ^ 32)).chipReset 0x03 src

/-- The fault interrupt of pair A and MSI-X vector 3 (R355). -/
def State.faultInterrupt (s : State) : State := ({ s with flt := { s.flt with irqFault := true } } : State).raiseMsix 3

/-- A forced rise reacts with interrupt at most while CAP = 1 (R350). -/
def State.cappedRung (s : State) (src rung : Nat) : Nat :=
  if Tbl.get (fun _ => false) s.flt.forced src && s.fon FLT_TEST.CAP 0 then min rung 1 else rung

/-- A reaction (R355). -/
def State.react (s : State) (src rung : Nat) : State :=
  match s.cappedRung src rung with
  | 0 => s
  | 1 => s.faultInterrupt
  | 2 => { s with flt := { s.flt with traps := s.flt.traps + 1 } }
  | 3 => (s.faultPages src).foldl (fun t p => t.blockReset p) s
  | 4 => s.chipResetReaction src
  | _ => if s.fon FLT_STAT.SAFE 0 then s else s.safeEntry 1 src

/-! Classification (R352). -/

/-- The source of a severe decision or a climb is shown and recorded, and its rung reacts. -/
def State.atRung (s : State) (src rung : Nat) : State :=
  ((s.fset FLT_SSTAT.RUNG src rung).fset FLT_SSTAT.ESC_LEFT src (s.fget FLT_SREACT.ESC_MS src)).showSevere

/-- A source becomes severe. -/
def State.becomeSevere (s : State) (src : Nat) : State :=
  let rung := s.fget FLT_SREACT.FIRST src
  let t := ((s.setSevere src true).fset FLT_STAT.LAST_SRC 0 src).atRung src rung
  ((t.pulse pgFLT 0).post (0x1000 + src) rung (t.fget FLT_SSTAT.CNT src) 0).react src rung

/-- A rise below the threshold raises the fault interrupt with INFO_IRQ. -/
def State.infoIrq (s : State) (src : Nat) : State :=
  if s.fon FLT_SREACT.INFO_IRQ src then ({ s with flt := { s.flt with infoIrqs := s.flt.infoIrqs + 1 } } : State).raiseMsix 3 else s

/-- A rise of a source that is not severe. -/
def State.countRise (s : State) (src : Nat) : State :=
  let cnt := s.fget FLT_SSTAT.CNT src
  let end_ := s.ms + s.fget FLT_SCFG.WIN_MS src + 1
  let t := if cnt = 0 then { s with flt := { s.flt with winEnd := Tbl.set (fun _ => 0) s.flt.winEnd src end_ } } else s
  let t := t.fset FLT_SSTAT.CNT src (min 255 (cnt + 1))
  if s.fget FLT_SCFG.N src ≤ cnt + 1 then t.becomeSevere src else t.infoIrq src

/-- A rise of a source, forced or real (R349, R350, R352). A severe source latches its sticky bit only. Nothing is acted on in a chip reset (R355). -/
def State.faultRise (s : State) (src : Nat) (forced : Bool) : State :=
  if !s.running pgFLT then s else
  let t := s.fsetBit FLT_STICKY.STICKY (src / 32) (src % 32) true
  if t.isSevere src then
    (if forced then t else { t with flt := { t.flt with forced := Tbl.set (fun _ => false) t.flt.forced src false } })
  else ({ t with flt := { t.flt with forced := Tbl.set (fun _ => false) t.flt.forced src forced } } : State).countRise src

/-- The fault sources whose condition lies in a memory, a core or a gate that no other step shows (R347): uncorrectable errors of tap, history and
correlator memory, of the delay lines, of the capture buffer, and of management memory; parity of the control engine; the limit gate's
self-check; the lockstep of both pairs. -/
def hardSources : List Nat := [99, 101, 102, 103, 127, 149, 150, 158]

/-- For such a source FAULT_RISE is the beginning of the condition itself; it ends with a reset of its block (DEDUCED, log 197). -/
def State.hardFault (s : State) (src : Nat) : State := if hardSources.contains src && !s.driven src then s.drive src true else s

/-- The collector takes a rise of a source that waits for it (R352). -/
def State.takeRise (s : State) (src : Nat) : State :=
  let s := s.hardFault src
  if s.running pgFLT && Tbl.get (fun _ => false) s.flt.risen src then
    ({ s with flt := { s.flt with risen := Tbl.set (fun _ => false) s.flt.risen src false } } : State).faultRise src false
  else s

/-- FAULT_WINDOW_EXPIRED: a counting window ends without N rises (R352). -/
def execFaultWindowExpired (src : Fin 160) (s : State) : Host.Outcome State Fault Refusal :=
  .next (
    if !s.isSevere src.val && decide (Tbl.get (fun _ => 0) s.flt.winEnd src.val ≤ s.ms) then s.fset FLT_SSTAT.CNT src.val 0 else s)

/-- Escalation times at a millisecond strobe. -/
def State.escTick (s : State) : State :=
  s.severeSources.foldl (fun t src =>
    if t.fget FLT_SSTAT.RUNG src < t.fget FLT_SREACT.LAST src then t.fset FLT_SSTAT.ESC_LEFT src (t.fget FLT_SSTAT.ESC_LEFT src - 1) else t) s

/-- The next rung that applies to a source, up to its LAST (R352, R355). -/
def State.nextRung (s : State) (src : Nat) : Option Nat :=
  let from_ := s.fget FLT_SSTAT.RUNG src
  (List.range 6).find? fun r =>
    decide (from_ < r ∧ r ≤ s.fget FLT_SREACT.LAST src) && (decide (r ≠ 3) || !(s.faultPages src).isEmpty)

/-- A severe source whose escalation time has expired climbs (R352). -/
def State.escalate (s : State) (src : Nat) : State :=
  if s.running pgFLT && s.isSevere src && decide (s.fget FLT_SSTAT.ESC_LEFT src = 0) then
    match s.nextRung src with
    | none => s
    | some r => (((s.atRung src r).pulse pgFLT 1).post (0x1200 + src) r 0 0).react src r
  else s

/-! Dual polarity (R348). -/

/-- A confirmed disagreement is recorded. -/
def State.noteDual (s : State) (src : Nat) : State := ((s.fset FLT_DUAL.SRC 0 src).fbump FLT_DUAL.COUNT 0).pulse pgFLT 2

/-- F159 is driven while a disagreement stands. -/
def State.driveDual (s : State) : State := s.drive 159 ((List.range 160).any fun i => Tbl.get (fun _ => false) s.flt.dual i)

/-- A disagreement stands, or the wires agree again. -/
def State.setDual (s : State) (src : Nat) (b : Bool) : State :=
  let was := s.faultLevel src
  (({ s with flt := { s.flt with dual := Tbl.set (fun _ => false) s.flt.dual src b } } : State).noteLevel src was).driveDual

/-- DUAL_POLARITY_CONFIRMED: a disagreement has lasted 4 CD3 cycles, or the wires agree again (R348). -/
def execDualPolarityConfirmed (src : Fin 160) (stands : Bool) (s : State) : Host.Outcome State Fault Refusal :=
  .next (
    if !s.running pgFLT || Tbl.get (fun _ => false) s.flt.dual src.val = stands then s
    else (if stands then s.noteDual src.val else s).setDual src.val stands)

/-- COLLECTOR_SELFCHECK_FAIL: a parity error or a copy disagreement of the collector enters the safe state with cause 3 (R359). -/
def execCollectorSelfcheckFail (s : State) : Host.Outcome State Fault Refusal :=
  .next (if s.running pgFLT && !s.fon FLT_STAT.SAFE 0 then s.safeEntry 3 0 else s)

/-! Register writes (R353, R354, R350, R357, R360, R361). -/

def scfgKey (src : Nat) : Nat := FLT_SCFG.N.key src
def sreactKey (src : Nat) : Nat := FLT_SREACT.FIRST.key src

/-- A held word of a source applies, if there is one. -/
def State.applyHeldWord (s : State) (page off key : Nat) (w : Option Word) : State :=
  match w with
  | none => s
  | some v => match s.mergeReg page off key v with | .ok t => t | .error _ => s

/-- The writes of FLT_SCFG and FLT_SREACT held for a source apply (R354). -/
def State.applyHeldConfig (s : State) (src : Nat) : State :=
  let t := s.applyHeldWord pgFLT 0x04C (scfgKey src) (Tbl.get (fun _ => none) s.flt.heldCfg src)
  let t := t.applyHeldWord pgFLT 0x050 (sreactKey src) (Tbl.get (fun _ => none) s.flt.heldReact src)
  { t with flt := { t.flt with heldCfg := Tbl.set (fun _ => none) t.flt.heldCfg src none
                               heldReact := Tbl.set (fun _ => none) t.flt.heldReact src none } }

/-- The acknowledgement of a source (R353): severe[i] and cnt[i] are cleared, no climb is left to come, RUNG keeps the rung reached. -/
def State.acknowledge (s : State) (src : Nat) : State :=
  if s.isSevere src then
    let t := (s.setSevere src false).fset FLT_SSTAT.CNT src 0
    ((t.fset FLT_SSTAT.ESC_LEFT src 0).applyHeldConfig src).showSevere
  else s

/-- A write of FLT_ACK (R353). -/
def ackWrite (v : Word) (s : State) : WRes :=
  if 159 < bitsOf v 7 0 then .error .outOfRange else .ok (if bitsOf v 31 31 = 1 then s.acknowledge (bitsOf v 7 0) else s)

/-- FAULT_ACK: a write of FLT_ACK with ACK = 1 (R353). -/
def execFaultAck (who : Init) (src : Fin 256) (s : State) : Host.Outcome State Fault Refusal :=
  let v := BitVec.ofNat 32 (0x80000000 + src.val)
  .next (s.access who pgFLT 0x058 v (ackWrite v))

/-- A write of FLT_SREACT keeps FIRST at most LAST, and both below 6 (R354). -/
def reactOk (v : Word) : Bool := decide (bitsOf v 31 29 ≤ bitsOf v 28 26 ∧ bitsOf v 28 26 ≤ 5)

/-- A write of FLT_SCFG for the writer's source (R354). -/
def scfgWrite (who : Init) (v : Word) (s : State) : WRes :=
  let src := s.fget FLT_SEL.SRC who.holder
  match s.mergeReg pgFLT 0x04C (scfgKey src) v with
  | .error r => .error r
  | .ok t => .ok (if s.isSevere src then { s with flt := { s.flt with heldCfg := Tbl.set (fun _ => none) s.flt.heldCfg src (some v) } } else t)

/-- A write of FLT_SREACT for the writer's source (R354). -/
def sreactWrite (who : Init) (v : Word) (s : State) : WRes :=
  let src := s.fget FLT_SEL.SRC who.holder
  if !reactOk v then .error .outOfRange
  else
    match s.mergeReg pgFLT 0x050 (sreactKey src) v with
    | .error r => .error r
    | .ok t => .ok (if s.isSevere src then { s with flt := { s.flt with heldReact := Tbl.set (fun _ => none) s.flt.heldReact src (some v) } } else t)

/-- FAULT_CONFIG_WRITE: a write of FLT_SCFG, or of FLT_SREACT (`react`), for the source selected (R354). -/
def execFaultConfigWrite (who : Init) (react : Bool) (value : Word) (s : State) : Host.Outcome State Fault Refusal :=
  .next (
    if react then s.access who pgFLT 0x050 value (sreactWrite who value) else s.access who pgFLT 0x04C value (scfgWrite who value))

/-- A write of FLT_FORCEk: one forced rise of every source whose bit is 1 (R350). -/
def forceFault (group : Nat) (bits : Word) (s : State) : WRes :=
  .ok (((List.range 32).filter fun n => bits.getLsbD n).foldl (fun t n => t.faultRise (32 * group + n) true) s)

/-- A SPLIT injection (R350): both wires of a source read 0 for 1 µs. The rises of the source, unless its level stands, and of F159 are forced. -/
def State.splitFault (s : State) (src : Nat) : State :=
  let t := s.noteDual src
  let t := if s.faultLevel src then t else t.faultRise src true
  if s.faultLevel 159 || decide (src = 159) then t else t.faultRise 159 true

/-- A write of FLT_TEST (R350). -/
def testWrite (v : Word) (s : State) : WRes :=
  if 159 < bitsOf v 7 0 then .error .outOfRange
  else
    let t := (s.fset FLT_TEST.CAP 0 (bitsOf v 31 31)).fset FLT_TEST.SRC 0 (bitsOf v 7 0)
    .ok (if bitsOf v 30 30 = 1 then t.splitFault (bitsOf v 7 0) else t)

/-- Admission of FLT_ERR_CTRL: the device identity only (R361). -/
def State.healthyAdmit (s : State) (who : Init) : Option Reason :=
  match s.admitWrite who pgFLT 0x044 with
  | some r => some r
  | none => if s.identOf who = some .device then none else some .lifecycle

/-- A write of FLT_ERR_CTRL (R357). -/
def errCtrlWrite (v : Word) (s : State) : WRes :=
  if bitsOf v 31 31 = 0 then .ok s else if s.mayHeal then .ok s.healthy else .error .configLocked

/-- An access to FLT_ERR_CTRL. -/
def State.errCtrlAccess (s : State) (who : Init) (v : Word) : State :=
  s.accessBy (fun s => s.healthyAdmit who) who pgFLT 0x044 v (errCtrlWrite v)

/-- ERR_HEALTHY_WRITE: a write of FLT_ERR_CTRL.HEALTHY (R357). -/
def execErrHealthyWrite (who : Init) (s : State) : Host.Outcome State Fault Refusal := .next (s.errCtrlAccess who 0x80000000)

/-- A write of FLT_SAFE_CAUSE (R360). -/
def safeCauseWrite (v : Word) (s : State) : WRes :=
  .ok (if bitsOf v 31 31 = 1 then
      ((s.fset FLT_SAFE_CAUSE.CAUSE 0 0).fset FLT_SAFE_CAUSE.SRC 0 0).fset FLT_SAFE_DT_LO.DT 0 0
    else s)

/-- SAFE_CAUSE_CLEAR: a write of FLT_SAFE_CAUSE.CLR (R360). -/
def execSafeCauseClear (who : Init) (s : State) : Host.Outcome State Fault Refusal :=
  .next (s.access who pgFLT 0x060 0x80000000 (safeCauseWrite 0x80000000))

/-- The event interrupt follows the pending and enabled page events (R346). -/
def State.refreshEventIrq (s : State) : State :=
  let on := (List.range 4).any fun k => decide (s.fget FLT_EVT_PEND.PEND k &&& s.fget FLT_EVT_EN.EN k ≠ 0)
  let t := { s with flt := { s.flt with irqEvent := on } }
  if on && !s.flt.irqEvent then t.raiseMsix 3 else t

/-- Any other write to the FLT page (R361). -/
def fltWrite (who : Init) (off : Nat) (v : Word) (s : State) : WRes :=
  if off = 0x048 then s.mergeReg pgFLT 0x048 (FLT_SEL.SRC.key who.holder) v
  else if off = 0x04C then scfgWrite who v s
  else if off = 0x050 then sreactWrite who v s
  else if off = 0x058 then ackWrite v s
  else if off = 0x060 then safeCauseWrite v s
  else if 0x408 ≤ off ∧ off ≤ 0x418 then forceFault ((off - 0x408) / 4) v s
  else if off = 0x420 then testWrite v s
  else
    match s.mergeReg pgFLT off (pgFLT * 0x1000 + off) v with
    | .error r => .error r
    | .ok t => .ok t.refreshEventIrq

end Sys2Proof.Machine
end

