-- ==== Sys2Proof/Machine/Pwr.lean ====
section
/-!
DEFINITION. Chapter 15, last part: the power states, their transitions, SNOWDROP and the wake (R406 to R416), with the address match of the two-wire
target in SNOWDROP (R466).
-/
namespace Sys2Proof.Machine

def pwACTIVE : Nat := 0
def pwLEAN : Nat := 1
def pwSTANDBY : Nat := 2
def pwSNOWDROP : Nat := 3

def State.pwState (s : State) : Nat := s.fget PWR_STAT.STATE 0

/-- The STATE changes (R427). -/
def State.setPwState (s : State) (st : Nat) : State := (s.fset PWR_STAT.STATE 0 st).pulse pgPWR 0

/-! Requests (R407). -/

/-- Every path is OFF. -/
def State.pathsOff (s : State) : Bool := s.paths.all fun p => decide (s.pathState p = pathOFF)

/-- Every stream in use has RATE 2 to 4. -/
def State.leanRates (s : State) : Bool := (List.range 64).all fun t => !s.streamInUse t || decide (2 ≤ s.fget CHN_STREAM.RATE t)

/-- A wake pin is active: its filtered level is the one of its polarity (R409). -/
def State.wakePinActive (s : State) (i : Nat) : Bool := (Tbl.get (fun _ => false) s.pwr.level i) == s.fbit PWR_WAKE_EN.POL 0 i

/-- A wake pin that is enabled and not ignored is active. -/
def State.wakePinCalls (s : State) (i : Nat) : Bool :=
  s.fbit PWR_WAKE_EN.EN 0 i && s.wakePinActive i && !Tbl.get (fun _ => false) s.pwr.stuck i

/-- The conditions of SNOWDROP (R407), each with its REFUSE code. -/
def State.snowdropRefusal (s : State) : Option Nat :=
  if s.fon FLT_STAT.SEVERE_ANY 0 then some 4
  else if (List.range 4).any fun i => s.wakePinCalls i then some 5
  else if 2 ≤ s.fget DBG_STAT.LEVEL 0 then some 6
  else if s.fon NVA_STAT.BUSY 0 then some 7
  else none

/-- The cause code of a transition that is refused; 0 for one that the table does not hold (R407). -/
def State.pwrRefusal (s : State) (target : Nat) (drain : Bool) : Option Nat :=
  match s.pwState, target with
  | 0, 1 => if s.leanRates then none else some 2
  | 1, 0 => none
  | 0, 2 => if drain || s.pathsOff then none else some 1
  | 1, 2 => if drain || s.pathsOff then none else some 1
  | 2, 0 => none
  | 2, 3 => s.snowdropRefusal
  | _, _ => some 0

/-- Requests that wait are discarded without answer, and their buffers freed; one that executes completes (R335, R408 step 2). -/
def State.dropRequests (s : State) : State :=
  let t := { s with gcp := { s.gcp with arrived := [] } }
  (List.range 9).foldl (fun t i => ((t.queueOf i).foldl (fun t _ => t.freeBuf i) t).setQueue i []) t

/-- What an accepted request begins at once (R407, R408 steps 1 to 3). -/
def State.pwrBegin (s : State) (target : Nat) (drain : Bool) : State :=
  let t := ({ s with pwr := { s.pwr with target := target } } : State).fset PWR_STAT.PENDING 0 1
  if target = pwSTANDBY && drain then t.paths.foldl (fun t p => if t.pathState p = pathOFF then t else t.setEnable p false) t
  else if target = pwSNOWDROP then
    let t := (t.dropRequests).flushOpen
    { t with pwr := { t.pwr with transportsOff := true, stageSince := t.ms } }
  else t

/-- A write of PWR_CTRL (R407, R412). -/
def pwrWrite (v : Word) (s : State) : WRes :=
  let drain := decide (bitsOf v 30 30 = 1)
  if bitsOf v 31 31 = 0 then s.mergeReg pgPWR 0x040 (PWR_CTRL.TARGET.key 0) v
  else if s.fon PWR_STAT.PENDING 0 || s.pwr.waking then .error .windowBusy
  else
    match s.pwrRefusal (bitsOf v 1 0) drain with
    | some _ => .error .configLocked
    | none =>
      match s.mergeReg pgPWR 0x040 (PWR_CTRL.TARGET.key 0) v with
      | .error r => .error r
      | .ok t => .ok ((t.fset PWR_STAT.REFUSE 0 0).pwrBegin (bitsOf v 1 0) drain)

/-- The reason code of the holder's last access. -/
def State.refusedWith (s : State) (who : Init) : Nat := Tbl.get (fun _ => 0) s.busRefuse who.holder

/-- The conditions of R407 were what refused a write of PWR_CTRL. -/
def State.pwrBroke (s t : State) (who : Init) (v : Word) : Option Nat :=
  if bitsOf v 31 31 = 1 ∧ t.refusedWith who = Reason.configLocked.code ∧ !(s.fon PAGE_CTRL.CFG_LOCK pgPWR && countedAt pgPWR 0x040) then
    s.pwrRefusal (bitsOf v 1 0) (decide (bitsOf v 30 30 = 1))
  else none

/-- An access to PWR_CTRL: a broken condition is shown in REFUSE, and REFUSED rises (R407, R427). -/
def State.pwrAccess (s : State) (who : Init) (v : Word) : State :=
  let t := s.access who pgPWR 0x040 v (pwrWrite v)
  match s.pwrBroke t who v with
  | some c => (t.fset PWR_STAT.REFUSE 0 c).pulse pgPWR 2
  | none => if bitsOf v 31 31 = 1 ∧ t.refusedWith who = Reason.windowBusy.code then t.pulse pgPWR 2 else t

/-- The word of a GO. -/
def pwrGo (target : Nat) (drain : Bool) (keepFh : Nat) : Word :=
  BitVec.ofNat 32 (0x80000000 + (if drain then 0x40000000 else 0) + keepFh % 4 * 0x10000000 + target % 4)

/-- POWER_TO_ACTIVE: PWR_CTRL.GO with TARGET ACTIVE (R407). -/
def execPowerToActive (who : Init) (drain : Bool) (keepFh : Fin 4) (s : State) : Host.Outcome State Fault Refusal :=
  .next (s.pwrAccess who (pwrGo pwACTIVE drain keepFh.val))

/-- POWER_TO_LEAN: PWR_CTRL.GO with TARGET LEAN (R407). -/
def execPowerToLean (who : Init) (drain : Bool) (keepFh : Fin 4) (s : State) : Host.Outcome State Fault Refusal :=
  .next (s.pwrAccess who (pwrGo pwLEAN drain keepFh.val))

/-- POWER_TO_STANDBY: PWR_CTRL.GO with TARGET STANDBY (R407). -/
def execPowerToStandby (who : Init) (drain : Bool) (keepFh : Fin 4) (s : State) : Host.Outcome State Fault Refusal :=
  .next (s.pwrAccess who (pwrGo pwSTANDBY drain keepFh.val))

/-- POWER_TO_SNOWDROP: PWR_CTRL.GO with TARGET SNOWDROP (R408). -/
def execPowerToSnowdrop (who : Init) (drain : Bool) (keepFh : Fin 4) (s : State) : Host.Outcome State Fault Refusal :=
  .next (s.pwrAccess who (pwrGo pwSNOWDROP drain keepFh.val))

/-! STANDBY (R407, R413). -/

/-- A converter link group stops: instances whose streams leave use act under R123. -/
def State.stopGroup (s : State) (g : Nat) : State :=
  let t := if s.rxSt g = rxRUN then s.canLinkLoss g else s
  let t := if t.txSt g = txRUN then t.canLinkLoss (32 + g) else t
  match jlkCfgWrite g (t.jlkCfgWord g &&& 0x3FFFFFFF) t with
  | .ok u => u
  | .error _ => t

/-- A fronthaul side stops. -/
def State.stopSide (s : State) (d : Nat) : State :=
  match sideWrite d (s.word ((sideEnFld d).key 0) &&& 0x7FFFFFFF) s with
  | .ok u => u
  | .error _ => s

/-- Gating the engine's clock, or giving it back. -/
def State.gateEngine (s : State) (b : Bool) : State := ({ s with gated := Tbl.set (fun _ => false) s.gated 1 b } : State).refreshClocks

/-- The mute input and the pad override hold while the error pair does not show healthy. -/
def State.freeMute (s : State) : State :=
  let bad := !s.fon FLT_STAT.HEALTHY 0
  ({ s with hk := { s.hk with thmMute := false }, flt := { s.flt with hardMute := bad } } : State).setPads bad

/-- STANDBY is entered (R407, R447). -/
def State.enterStandby (s : State) : State :=
  let t := { s with pwr := { s.pwr with hold := true } }
  let t := t.paths.foldl (fun t n => t.holdPort n) t
  let t := ((List.range 32).filter fun g => t.member.present g).foldl (fun t g => t.stopGroup g) t
  let keep := t.fget PWR_CTRL.KEEP_FH 0
  let t := [0, 1].foldl (fun t d => if keep.testBit d then t else t.stopSide d) t
  ((t.freeMute).gateEngine true).setPwState pwSTANDBY

/-- STANDBY is left: the hold is released (R407), and so is the sleep of an entry that was abandoned (R408). -/
def State.leaveStandby (s : State) : State :=
  let t := ({ s with pwr := { s.pwr with hold := false, asleep := false } } : State).gateEngine false
  t.paths.foldl (fun t n => t.driveChain n) t

/-! SNOWDROP (R408, R414). -/

/-- Registers that SNOWDROP keeps whole beside the RW fields of every page (R414). -/
def snowKeeps (page off : Nat) : Bool :=
  if page = pgPWR ∨ page = pgRST then decide (0x40 ≤ off)
  else if page = pgTRC then decide (off = 0x044 ∨ off = 0x048 ∨ off = 0x050)
  else if page = pgSEC then decide (off = 0x040 ∨ off = 0x104 ∨ off = 0x108)
  else if page = pgDBG then decide (off = 0x040)
  else if page = pgFLT then decide (off = 0x040 ∨ off = 0x060 ∨ off = 0x064 ∨ (0x080 ≤ off ∧ off < 0x094))
  else if page = pgEVR then decide (0x040 ≤ off ∧ off ≤ 0x050)
  else if page = pgNVA then decide (off = 0x040 ∨ off = 0x060 ∨ off = 0x064 ∨ off = 0x068)
  else if page = pgGCP then decide (off = 0x044 ∨ off = 0x050 ∨ off = 0x054 ∨ off = 0x058)
  else if page = pgMGE then decide (off = 0x048 ∨ off = 0x04C)
  else if page = pgGPIO then decide (off = 0x050 ∨ off = 0x054)
  else if page = pgCAP then decide (off = capStatOff)
  else false

/-- A register entry after SNOWDROP; unlisted when it reads as after reset. -/
def snowEntry (e : Nat × Word) : Option (Nat × Word) :=
  let addr := e.1 % Fld.unitStep
  let w := if snowKeeps (addr / 0x1000) (addr % 0x1000) then e.2 else keptWord e.1 e.2
  if w = regReset e.1 then none else some (e.1, w)

/-- A context word after SNOWDROP: words 0 to 63 except read-only and volatile fields; STATE is FREE or CONFIGURED (R414). -/
def snowCtx (e : Nat × Word) : Option (Nat × Word) :=
  let state : Nat := if e.1 % 64 = CTX_CTRL.STATE.word then 0x1C000000 else 0
  let w := mergeWord (ctxReset e.1) e.2 (BitVec.ofNat 32 (ctxRwMask (e.1 % 64) ||| state))
  if w = ctxReset e.1 then none else some (e.1, w)

/-- Behind a context, only its pool entry is kept (R411). -/
def snowRt (e : Nat × CtxRt) : Option (Nat × CtxRt) := e.2.slot.map fun x => (e.1, { slot := some x })

/-- The counts of a debug session hold in SNOWDROP (R404). -/
def snowTimer (key : Nat) : Bool := decide (key / 0x100000 = tmDbgIdle ∨ key / 0x100000 = tmDbgLock)

/-- What SNOWDROP keeps of the state (R414). -/
def State.snowKept (s : State) : State :=
  let t : State := { member := s.member, free := s.free, pending := s.pending, time := s.time, gated := s.gated }
  let t := { t with regs := s.regs.filterMap snowEntry, ctx := s.ctx.filterMap snowCtx, timers := s.timers.filter fun e => snowTimer e.1 }
  let t := { t with rdata := s.rdata, busRefuse := s.busRefuse }
  let t := { t with evr := s.evr, nva := s.nva, sec := s.sec, dbg := s.dbg, trc := s.trc, rst := s.rst, pwr := s.pwr }
  let t := { t with hup := { supplyGood := s.hup.supplyGood } }
  let t := { t with flt := { infoIrqs := s.flt.infoIrqs, traps := s.flt.traps, hardMute := s.flt.hardMute } }
  let t := { t with chn := { winApplied := s.chn.winApplied } }
  let t := { t with can := { rt := s.can.rt.filterMap fun (e : Nat × CanRt) => if e.2.derived then none else some (e.1, { derived := false : CanRt }) } }
  let t := { t with cen := { ctxs := s.cen.ctxs.filterMap snowRt }, fel := { desc := s.fel.desc, stage := s.fel.stage } }
  let t := { t with npr := { release := s.npr.release, staged := s.npr.staged }, fhl := { sent := s.fhl.sent } }
  { t with gcp := { out := s.gcp.out, replay := s.gcp.replay, reportSeq := s.gcp.reportSeq, heldFn := s.gcp.heldFn, msix := s.gcp.msix, mgeOut := s.gcp.mgeOut } }

/-- Trace channels in ARMED or TRIGGERED end as by STOP (R416). -/
def State.stopTraces (s : State) : State := (List.range 16).foldl (fun t ch => if t.tracing ch then t.traceDone ch else t) s

/-- A request executes in some queue. -/
def State.executes (s : State) : Bool := (List.range 9).any fun q => (s.runningOf q).isSome

/-- Every chain is commanded to SLEEP (R408 step 4). -/
def State.chainsSleep (s : State) : State :=
  let t : State := { s with pwr := { s.pwr with asleep := true, asleepUs := s.us } }
  t.paths.foldl (fun t n => t.driveChain n) t

/-- Step 4 of the entry is over: every chain sleeps, or its 130 µs have passed (R408). -/
def State.chainsSlept (s : State) : Bool :=
  s.pwr.asleep && ((s.paths.all fun n => decide (s.fget FEL_CHAIN.STATE n = chSLEEP)) || decide (s.pwr.asleepUs + 130 ≤ s.us))

/-- Steps 5 to 7 of the entry (R408): the SLEEP marker, retention, device time latched, the PLLs stopped. -/
def State.enterSnowdrop (s : State) (cd41 : Nat) : State :=
  let t := (s.stopTraces).trcWrite { source := 0, aux := 1, dt := s.dt, payload := cd41 }
  let entry := { t.pwr with entryDt := t.dt, entryCd41 := t.rst.cd41, entryGen := t.sch.active.map fun _ => t.fget SCH_ACTIVE.GEN 0, transportsOff := false }
  let t := { t.capReset with pwr := entry }
  let t := ((t.setPwState pwSNOWDROP).fset PWR_STAT.PENDING 0 0).snowKept
  t.refreshClocks

/-- The recorder's stage is empty and no NV write runs or waits (R386, R409). -/
def State.stageEmpty (s : State) : Bool :=
  s.evr.intake.isEmpty && s.evr.openSeg.isEmpty && s.evr.fullSegs.isEmpty && s.nva.running.isNone && s.nva.suspended.isNone && s.nva.waiting.isEmpty &&
    s.nva.burn.isNone

/-- The entry is given up, and transports resume (R386, R408). -/
def State.pwrGiveUp (s : State) (refuse : Nat) : State :=
  let t := { s with pwr := { s.pwr with transportsOff := false } }
  (t.fset PWR_STAT.PENDING 0 0).fset PWR_STAT.REFUSE 0 refuse

/-- A SNOWDROP entry is in progress. -/
def State.sleeping (s : State) : Bool := s.fon PWR_STAT.PENDING 0 && decide (s.pwr.target = pwSNOWDROP)

/-- The SNOWDROP entry goes on (R408): the executing requests complete (step 2), the stage is committed (step 3), the chains sleep (step 4), and
the rest follows. -/
def State.pwrSleep (s : State) (cd41 : Nat) : State :=
  if s.executes then s
  else if !s.stageEmpty then s.flushOpen
  else
    let t := if s.pwr.asleep then s else s.chainsSleep
    if t.chainsSlept then t.enterSnowdrop cd41 else t

/-- The transition in progress completes, once what it waits for holds. -/
def State.pwrDone (s : State) (cd41 : Nat) : State :=
  if s.pwr.target = pwSNOWDROP then s.pwrSleep cd41
  else if s.pwr.target = pwSTANDBY then (if s.pathsOff then (s.fset PWR_STAT.PENDING 0 0).enterStandby else s)
  else
    let t := s.fset PWR_STAT.PENDING 0 0
    (if t.pwState = pwSTANDBY then t.leaveStandby else t).setPwState s.pwr.target

/-- POWER_TRANSITION_DONE: the requested transition completes; `cd41` is the CD41 count at step 5 of R408 (R407, R408). -/
def execPowerTransitionDone (cd41 : Word) (s : State) : Host.Outcome State Fault Refusal :=
  .next (if s.fon PWR_STAT.PENDING 0 then s.pwrDone cd41.toNat else s)

/-! Waking (R409 to R412). -/

/-- A wake is decided (R410 step 1). -/
def State.wakeDecided (s : State) (source : Nat) : State :=
  ({ s with pwr := { s.pwr with waking := true }, rst := { s.rst with wakeCyc := 0 } } : State).fset PWR_STAT.LAST_WAKE 0 source

/-- A wake source is active: it starts a wake in SNOWDROP, or abandons an entry; during a wake it has no further effect (R408, R412). -/
def State.wakeCalls (s : State) (source : Nat) : State :=
  if s.pwState = pwSNOWDROP then (if s.pwr.waking then s else s.wakeDecided source)
  else if s.sleeping then (s.pwrGiveUp 5).pulse pgPWR 3
  else s

/-- A wake pin takes a level; going inactive ends its being ignored (R409). -/
def State.setWakePin (s : State) (i : Nat) (level : Bool) : State :=
  let t := { s with pwr := { s.pwr with level := Tbl.set (fun _ => false) s.pwr.level i level } }
  if t.wakePinActive i then t else { t with pwr := { t.pwr with stuck := Tbl.set (fun _ => false) t.pwr.stuck i false } }

/-- WAKE_PIN: a wake pin has held a level for 4 CD41 samples (R409). -/
def execWakePin (pin : Fin 4) (level : Bool) (s : State) : Host.Outcome State Fault Refusal :=
  .next (
    let t := s.setWakePin pin.val level
    if t.wakePinCalls pin.val then t.wakeCalls pin.val else t)

/-- The CD41 count has come to a value, unless it is past it (R30). -/
def State.cd41To (s : State) (n : Nat) : State := { s with rst := { s.rst with cd41 := max s.rst.cd41 n } }

/-- WAKE_TIMER_EXPIRED: PWR_WAKE_TIMER cycles have elapsed since step 7 of the entry (R409). -/
def execWakeTimerExpired (s : State) : Host.Outcome State Fault Refusal :=
  .next (
    if s.pwState = pwSNOWDROP ∧ s.fbit PWR_WAKE_EN.EN 0 5 ∧ s.fget PWR_WAKE_TIMER.CYCLES 0 ≠ 0 then
      (s.cd41To (s.pwr.entryCd41 + s.fget PWR_WAKE_TIMER.CYCLES 0)).wakeCalls 5
    else s)

/-- The timer of a pin that is still active after the wake it caused. -/
def tmWakePin : Nat := 98

/-- WAKE_PIN_STUCK: a pin is still active 10 s after the wake it caused; RANGE rises and it is ignored (R409). -/
def execWakePinStuck (pin : Fin 4) (s : State) : Host.Outcome State Fault Refusal :=
  .next (
    if s.timerDue tmWakePin pin.val s.sec_ 10 then
      let t := s.timerStop tmWakePin pin.val
      if t.wakePinActive pin.val then
        ({ t with pwr := { t.pwr with stuck := Tbl.set (fun _ => false) t.pwr.stuck pin.val true } } : State).pulse pgPWR evtRange
      else t
    else s)

/-- Device time is restored, and the strobes count from it (R22, R24). -/
def State.restoreTime (s : State) (cycles : Nat) : State :=
  let dt := s.pwr.entryDt + 7500 * cycles
  let us := dt * 25 / 6144
  let step := us / 1000000 - s.time.sCount
  let t := { s with time := { devTime := dt, usCount := us, msCount := us / 1000, sCount := us / 1000000, started := true } }
  { t with timers := t.timers.map fun e => (e.1, e.2 + step) }

/-- A write that woke the device goes on at the operating port (R466). -/
def State.twtHandOver (s : State) : State :=
  let t := { s with twt := { s.twt with matched := none, deaf := false } }
  match s.twt.matched with
  | none => t
  | some sel => t.twtPhase (.write sel [2 * (if sel then t.fget TWT_CFG.ADDR1 0 else t.fget TWT_CFG.ADDR0 0)] true)

/-- Steps 2 to 4 of the wake (R410): clocks, device time, retained state, the two-wire target. -/
def State.wakeClocks (s : State) (cycles : Nat) : State :=
  let t := (((s.cd41To (s.pwr.entryCd41 + cycles)).restoreTime cycles).fset PWR_SLEEP_CNT.CYCLES 0 cycles).lockPlls.startPages
  let t := t.paths.foldl (fun t p => t.refreshLag p (t.fgetI GGR_PCFG.GRID_OFFSET_NS p)) t
  t.twtHandOver.freeMute

/-- Contexts keep their pool entries when the image is of the generation active at entry, and lose them otherwise (R411). -/
def State.wakeContexts (s : State) : State :=
  let same := decide (s.slotState 0 = slotVERIFIED) && decide (s.pwr.entryGen = some (s.fget (slotGenFld 0) 0))
  if same then s else s.evict s.liveCtxs

/-- The epoch marker of a multiple of 2^40 µs that the sleep has passed (R364). -/
def State.wakeEpoch (s : State) : State :=
  let e := s.epochAt (recorderTime s.dt)
  if s.evr.lastEpoch < e then s.epochMarker e else s

/-- Steps 6 to 8 of the wake (R410). -/
def State.wakeEnd (s : State) (cycles : Nat) (v : BootVerdict) : State :=
  let marker : TrcWord := { source := 0, aux := 2, dt := s.dt, payload := cycles }
  let t := ((s.trcWrite marker).loadRegSet v).loadBootImage (s.fget SEC_BOOT.BANK 0) v
  let t := (t.wakeContexts.activateBoot).blockStart pgGCP
  let t : State := { t.wakeEpoch with pwr := { t.pwr with asleep := false, waking := false } }
  let pin := t.fget PWR_STAT.LAST_WAKE 0
  let t := if pin < 4 then t.timerStart tmWakePin pin t.sec_ else t
  (t.setPwState pwSTANDBY).pulse pgPWR 1

/-- The banks in the order in which a wake tries them (R410 step 5, R400). -/
def State.wakeOrder (s : State) : List Nat :=
  let b := s.fget SEC_BOOT.BANK 0
  [b, 1 - b]

/-- A decided wake (R410). -/
def State.wake (s : State) (cycles : Nat) (v : BootVerdict) : State :=
  let t := s.wakeClocks cycles
  match t.firstBank v t.wakeOrder with
  | none => t.newChallenge.romRecovery
  | some b =>
    let fell := decide (b ≠ t.fget SEC_BOOT.BANK 0) || t.fon SEC_BOOT.FALLBACK 0
    ((t.newChallenge.startFirmware b fell (v.ext.getLsbD b)).fset RST_CAUSE.CAUSE 0 0x09).wakeEnd cycles v

/-- WAKE: a decided wake runs to STANDBY; `cycles` are the CD41 cycles elapsed since the entry, `v` what verification finds (R410, R411). -/
def execWake (cycles : Word) (v : BootVerdict) (s : State) : Host.Outcome State Fault Refusal :=
  .next (
    if s.pwr.waking && decide (s.pwState = pwSNOWDROP) && !s.rst.recovery then s.wake cycles.toNat v else s)

/-! The address match (R466). -/

/-- An address matches one whose WAKE bit is set: false ADDR0, true ADDR1. -/
def State.wakeMatch (s : State) (a : Nat) : Option Bool :=
  if s.fon TWT_CFG.WAKE0 0 && decide (a = s.fget TWT_CFG.ADDR0 0) then some false
  else if s.fon TWT_CFG.WAKE1 0 && decide (a = s.fget TWT_CFG.ADDR1 0) then some true
  else none

/-- TWT_WAKE_MATCH: an address byte in SNOWDROP (R466). A write address that matches is held; both kinds signal a wake. -/
def execTwtWakeMatch (addr : Fin 128) (read : Bool) (s : State) : Host.Outcome State Fault Refusal :=
  .next (
    match (if decide (s.pwState = pwSNOWDROP) && s.fon TWT_CFG.EN 0 && !s.twt.deaf && s.twt.matched.isNone then s.wakeMatch addr.val else none) with
    | none => s
    | some sel =>
      let t := if read then s else { s with twt := { s.twt with matched := some sel } }
      if t.fbit PWR_WAKE_EN.EN 0 4 then t.wakeCalls 4 else t)

/-- TWT_WAKE_TIMEOUT: the wake has not reached step 4 of R410 within 20 ms; SCL is released, and nothing is acknowledged until the wake completes
(R466). -/
def execTwtWakeTimeout (s : State) : Host.Outcome State Fault Refusal :=
  .next (if s.twt.matched.isSome then { s with twt := { s.twt with matched := none, deaf := true } } else s)

/-! Energy (R382, R386, R392). -/

/-- A SNOWDROP entry whose stage has waited 1 s is refused (R386). -/
def State.stageTimeout (s : State) : State :=
  if s.sleeping && decide (s.pwr.stageSince + 1001 ≤ s.ms) && !s.stageEmpty then (s.pwrGiveUp 3).pulse pgPWR 2 else s

/-- ENERGY_BLOCK_TIMEOUT: a write has waited 1 s for energy (R382); a lifecycle transition (R392) or a SNOWDROP entry (R386) that waited for it ends. -/
def execEnergyBlockTimeout (s : State) : Host.Outcome State Fault Refusal := .next ((s.energyBlocked.lcEnergyEnd).stageTimeout)

end Sys2Proof.Machine
end

