-- ==== Sys2Proof/Machine/Strobe.lean ====
section
/-!
DEFINITION. The timer strobes (R24), and what the device does at each (R38, R195, R238, R338, R352, R404, R484 to R486, R517).
-/
namespace Sys2Proof.Machine

/-- The strobes run: PLL-A has locked since power-on and is locked now (R21, R24). -/
def State.strobesRun (s : State) : Bool := s.time.started && s.fon CLK_PLL_STAT.PLLA_LOCK 0

/-- The device-time tick of microsecond strobe n (R24). -/
def strobeTick (n : Nat) : Nat := ceilDiv (n * 6144) 25

/-- Microsecond strobe n is reached. -/
def State.toStrobe (s : State) (n : Nat) : State :=
  let t := s.advanceTo (strobeTick n)
  { t with time := { t.time with usCount := max t.time.usCount n } }

/-- US_STROBE: the next microsecond strobe (R24); blocks whose reset is over are released (R479), and limit inputs that stood at a
blanking sample have limited their periods (R440). -/
def execUsStrobe (s : State) : Host.Outcome State Fault Refusal :=
  .next (if s.strobesRun then (((s.toStrobe (s.time.usCount + 1)).blockStrobe).sclStrobe).pwmStrobe else s)

/-- The next millisecond strobe: every 1,000th microsecond strobe. -/
def State.nextMs (s : State) : State :=
  let n := s.time.msCount + 1
  let t := s.toStrobe (1000 * n)
  { t with time := { t.time with msCount := n } }

/-- The words of a context that its CRC-32 covers: those with RW fields (R71, R72, R517); what R166 marks volatile is read-only as well. -/
def ctxCrcWords : List Nat := (List.range 64).filter fun w => decide (ctxRwMask w ≠ 0)

/-- The CRC-32 of a context whose words read as `f` says: its RW fields in word order, other fields as 0 (R38, R517). -/
def ctxCrc (f : Nat → Word) : Nat := crc32 (ctxCrcWords.flatMap fun w => leBytes (f w &&& BitVec.ofNat 32 (ctxRwMask w)))

/-- The first of the 256 contexts that the background pass checks at a millisecond strobe: every context within 16 strobes (R517). -/
def State.crcSlice (s : State) : Nat := 256 * (s.time.msCount % 16)

/-- The word of a context as the background pass reads it: `upset` gives the bits that no longer read as written. -/
def readUpset (s : State) (upset : List (Fin 4096 × Fin 64 × Word)) (c w : Nat) : Word :=
  upset.foldl (fun v u => if u.1.val = c ∧ u.2.1.val = w then v ^^^ u.2.2 else v) (s.cword c w)

/-- Some context of the slice does not read with the CRC-32 of its written words (R517). -/
def State.sliceMismatch (s : State) (upset : List (Fin 4096 × Fin 64 × Word)) : Bool :=
  upset.any fun u =>
    let c := u.1.val
    decide (c < s.member.contexts ∧ s.crcSlice ≤ c ∧ c < s.crcSlice + 256) &&
      decide (ctxCrc (readUpset s upset c) ≠ ctxCrc (s.cword c))

/-- The checks of stored words at a millisecond strobe: pages (R38), and 256 contexts (R517). -/
def State.checkConfig (s : State) (upset : List (Fin 4096 × Fin 64 × Word)) : State :=
  let t := (List.range 64).foldl (fun t p => t.crcPassStart p) s
  if t.running pgCTXW && t.fon PAGE_CTRL.CRC_CHECK_EN pgCTXW && t.sliceMismatch upset then t.ctxCrcMismatch else t

/-- The frame of PTP time that has begun, and how far into it the present is, in units of PTP time (R204, R205). -/
def State.ptpFrame (s : State) : Int × Int :=
  let x := s.ptpNow - 315964819 * 1000000000 * ptpUnit
  (x / (10000000 * ptpUnit), x % (10000000 * ptpUnit))

/-- PTP yields an observation at the first millisecond strobe of each of its frames while its servo reports lock (R204). The frame's device time is
open within ±2 ticks (DESIGN CHOICE, log 196). -/
def State.ptpYield (s : State) : State :=
  let f := s.ptpFrame
  let t := (s.dt : Int) - roundDiv f.2 s.ptpRate.toNat + (s.freeVal.toNat % 5 : Nat) - 2
  if !s.fon FHL_PTP_STAT.LOCK 0 || decide ((s.seenObs 2).map (fun o => o.index) = some f.1.toNat) then s
  else s.tookFree.yieldObs 2 t.toNat f.1.toNat

/-- What the device does at a millisecond strobe; 10 ms after its step 4 a lifecycle change resets the chip (R392). -/
def State.msWork (s : State) (upset : List (Fin 4096 × Fin 64 × Word)) : State :=
  let t := (s.checkConfig upset).wdTick
  let t := if t.running pgFLT then t.escTick else t
  let t := if t.running pgCAP then t.capCheck.capLossTick else t
  let t := if t.running pgFTM then t.ptpYield else t
  let t := if t.running pgGGR && t.running pgCLS then t.cellListener else t
  if t.timerDue tmLcReset 0 t.ms 10 then t.chipReset 0x07 0 else t

/-- MS_STROBE: the next millisecond strobe (R24); `upset` gives the bits of context words that no longer read as they were written, which the
check of 256 contexts meets (R517). -/
def execMsStrobe (upset : List (Fin 4096 × Fin 64 × Word)) (s : State) : Host.Outcome State Fault Refusal :=
  .next (if s.strobesRun then s.nextMs.msWork upset else s)

/-- The next second strobe: every 1,000th millisecond strobe. -/
def State.nextSec (s : State) : State :=
  let n := s.time.sCount + 1
  let t := s.toStrobe (1000000 * n)
  { t with time := { t.time with msCount := max t.time.msCount (1000 * n), sCount := n } }

/-- LOCKOUT_S runs down; the lockout itself ends with its timer (R25, R404). -/
def State.lockoutTick (s : State) : State :=
  let n := s.fget DBG_STAT.LOCKOUT_S 0
  if n ≤ 1 then s else s.fset DBG_STAT.LOCKOUT_S 0 (n - 1)

/-- What the device does at a second strobe. -/
def State.secWork (s : State) : State :=
  let t := s.wdSecond.lockoutTick
  if t.running pgNPR then t.dutyCheck.foxSecond else t

/-- SECOND_STROBE: the next second strobe (R24). -/
def execSecondStrobe (s : State) : Host.Outcome State Fault Refusal := .next (if s.strobesRun then s.nextSec.secWork else s)

end Sys2Proof.Machine
end

