-- ==== Sys2Proof/Machine/RegSel.lean ====
section
/-!
DEFINITION. The register bus: which unit an offset of a page names, directly or behind a selection held per initiator (R35), units that are
absent (R53), and the words that PAGE_CRC counts (R38, R517).
-/
namespace Sys2Proof.Machine

/-- Registers with one index of a kind that R2 splits into groups of 16: page, first offset, end, step, and the index that one step adds. -/
structure UnitRow where
  page : Nat
  first : Nat
  past : Nat
  step : Nat
  mul : Nat
deriving DecidableEq, Repr

/-- The registers of R53 that stand at their own address. -/
def unitRows : List UnitRow :=
  [⟨pgCHN, 0x100, 0x200, 4, 1⟩, ⟨pgCHN, 0x200, 0x400, 16, 1⟩, ⟨pgCHN, 0x480, 0x500, 4, 1⟩,
   ⟨pgCAN, 0x0C0, 0x100, 4, 2⟩, ⟨pgCAN, 0x300, 0x340, 4, 2⟩, ⟨pgLIM, 0x100, 0x180, 4, 1⟩, ⟨pgLIM, 0x340, 0x380, 4, 2⟩,
   ⟨pgCEN, 0x060, 0x0A0, 4, 2⟩, ⟨pgGGR, 0x100, 0x200, 8, 1⟩, ⟨pgGGR, 0x200, 0x280, 4, 1⟩, ⟨pgGGR, 0x280, 0x300, 8, 1⟩,
   ⟨pgFTM, 0x100, 0x200, 8, 1⟩, ⟨pgFTM, 0x200, 0x280, 4, 1⟩, ⟨pgNPR, 0x100, 0x180, 4, 1⟩, ⟨pgNPR, 0x300, 0x380, 4, 1⟩,
   ⟨pgNPR, 0x380, 0x3C0, 4, 1⟩]

/-- The index that an offset names is absent (R2, R53). -/
def UnitRow.missing (r : UnitRow) (m : Member) (off : Nat) : Bool := !m.present ((off - r.first) / r.step * r.mul)

/-- A register behind a selection: it exists once for each unit of its page. -/
def selectedAt (page off : Nat) : Bool :=
  match regAt page off with
  | some r => decide (r.sel = .selected)
  | none => false

/-- The unit that an initiator's selection on a page names. -/
def State.selUnit (s : State) (i : Init) (page off : Nat) : Nat :=
  if 0x30 ≤ page then 2 * (page - 0x30) + (if regLocal page off = off then 0 else 1)
  else if page = pgCHN then s.winSel i
  else if page = pgCAN then (if off = 0x444 then s.mapSel i else s.canSel i)
  else if page = pgCEN then s.fget CEN_TRC_SEL.CH i.holder
  else if page = pgFTM then s.fget FTM_GSEL.GRP i.holder
  else if page = pgCLS then s.fget CLS_CSEL.CAR i.holder
  else if page = pgNPR then s.fget NPR_FOX_SEL.SLOT i.holder
  else if page = pgFEL then s.felSel i
  else if page = pgCAP then s.fget CAP_SSEL.SESSION i.holder
  else if page = pgFLT then s.fget FLT_SEL.SRC i.holder
  else 0

/-- The key of the register that an initiator reaches at an offset. -/
def State.regKey (s : State) (i : Init) (page off : Nat) : Nat :=
  let base := (if 0x30 ≤ page then 0x30 else page) * 0x1000 + regLocal page off
  match regAt page off with
  | none => base
  | some r =>
    match r.sel with
    | .plain => base
    | .selected => base + Fld.unitStep * s.selUnit i page off
    | .init => base + Fld.unitStep * i.holder

/-- The unit behind an initiator's selection is absent. -/
def State.selMissing (s : State) (i : Init) (page off : Nat) : Bool :=
  if page = pgCHN then !s.member.present (s.fget CHN_WSEL.PATH i.holder)
  else if page = pgCAN then !s.member.present (s.canSel i)
  else if page = pgFEL then !s.member.present (s.felSel i)
  else if page = pgCLS then decide (unitCount s.member ≤ s.selUnit i page off)
  else false

/-- The register at a directly mapped offset belongs to an absent unit (R53). -/
def State.plainMissing (s : State) (page off : Nat) : Bool :=
  unitRows.any fun r => decide (r.page = page ∧ r.first ≤ off ∧ off < r.past) && r.missing s.member off

/-- The register at an offset belongs to a unit that is absent (R53). -/
def State.unitMissing (s : State) (i : Init) (page off : Nat) : Bool :=
  s.plainMissing page off ||
    ((selectedAt page off || decide (page = pgCAN ∧ (off = 0x44C ∨ off = 0x450))) && s.selMissing i page off)

/-! PAGE_CRC (R38, R517). -/

/-- The units behind a page whose configuration words stand behind its selection. -/
def State.crcUnits (s : State) (page : Nat) : List Nat :=
  if page = pgCAN ∨ page = pgFEL then Sys2Proof.Machine.unitsOf s.member
  else if page = pgCEN then List.range 16
  else if page = pgFTM then List.range 8
  else if page = pgCLS then List.range (unitCount s.member)
  else if page = pgFLT then List.range 160
  else []

/-- A number enters an ascending list. -/
def insertAsc (n : Nat) : List Nat → List Nat
  | [] => [n]
  | a :: t => if n ≤ a then n :: a :: t else a :: insertAsc n t

/-- Offsets of a page's counted registers of one kind, in ascending order. -/
def countedOffs (page : Nat) (k : Sel) : List Nat :=
  let l := (regsOf (regPage page)).flatMap fun r => if r.counted && decide (r.sel = k) then (List.range r.count).map fun j => r.off + r.step * j else []
  l.foldr insertAsc []

/-- The words of both groups of a JLK page, in ascending offset: basic words, even group first, then expert words. -/
def jlkCrcKeys (page : Nat) : List Nat :=
  let offs := countedOffs page .selected
  let g := 2 * (page - 0x30)
  let keys (n : Nat) (l : List Nat) := l.map fun off => 0x30000 + off + Fld.unitStep * n
  let low := offs.filter fun off => decide (off < 0x400)
  let high := offs.filter fun off => decide (0x400 ≤ off)
  keys g low ++ keys (g + 1) low ++ keys g high ++ keys (g + 1) high

/-- The keys of the words that an offset shows for a unit: CAN_MAP shows one for each subband, reference and cluster that CAN_MAP_SEL
selects within the instance, in ascending order. -/
def selectedKeys (page off u : Nat) : List Nat :=
  if page = pgCAN ∧ off = 0x444 then
    (List.range 64).flatMap fun k => (List.range 4).flatMap fun r => (List.range 3).map fun c =>
      page * 0x1000 + off + Fld.unitStep * mapUnit u k r c
  else [page * 0x1000 + off + Fld.unitStep * u]

/-- The keys of the words that PAGE_CRC counts, in its order (R517): directly mapped words, units behind the selection, band windows; words of
absent units are skipped. -/
def State.crcKeys (s : State) (page : Nat) : List Nat :=
  if 0x30 ≤ page then jlkCrcKeys page
  else
    (((countedOffs page .plain).filter fun off => !s.plainMissing page off).map fun off => page * 0x1000 + off) ++
      ((s.crcUnits page).flatMap fun u => (countedOffs page .selected).flatMap fun off => selectedKeys page off u) ++
      (if page = pgCHN then
        s.paths.flatMap fun p => (List.range 12).flatMap fun w =>
          [0x13044 + Fld.unitStep * winUnit p w, 0x13048 + Fld.unitStep * winUnit p w]
      else [])

/-- The RW fields of a counted word; its other fields enter as 0. -/
def crcMask (page key : Nat) : Word :=
  match regAt (regPage page) (key % 0x1000) with
  | some r => BitVec.ofNat 32 r.rw
  | none => 0

/-- PAGE_CRC of a page (R38): PAGE_CTRL, OWNER where it can be written, and the counted words. -/
def State.pageCrc (s : State) (page : Nat) : Nat :=
  let owner := if hasOwner page then [s.word (page * 0x1000 + 0x028) &&& 0x1F] else []
  let head := (s.word (page * 0x1000 + 0x008) &&& 0xD) :: owner
  crc32 ((head ++ (s.crcKeys page).map fun k => s.word k &&& crcMask page k).flatMap leBytes)

end Sys2Proof.Machine
end

