-- ==== Sys2Proof/Machine/RegWrite.lean ====
section
/-!
DEFINITION. The register bus: a write of any word (R35, R39, R45): the checks that cover several fields, and the dispatch to the register's
own effect.
-/
namespace Sys2Proof.Machine

/-! Registers whose write has no meaning of its own: stored after the checks of the owning chapter. -/

/-- A signed 16-bit field of a word. -/
def sHi (w : Word) : Int := toSigned (bitsOf w 31 16) 65536
def sLo (w : Word) : Int := toSigned (bitsOf w 15 0) 65536

/-- Ranges that the register tables state in dB, or by another field; power fields that are no value (R9); nodes of the trace (R169, whose codes TNODE takes as well: DEDUCED, log 178). -/
def State.crossOk (s : State) (page off : Nat) (w : Word) : Bool :=
  if page = pgCAN ∧ off = 0x0A4 then decide (sLo w ≠ noValue)
  else if page = pgNPR ∧ 0x100 ≤ off ∧ off < 0x180 then decide (sLo w ≠ noValue)
  else if page = pgNPR ∧ off = 0x04C then decide (sHi w ≠ noValue)
  else if page = pgFEL ∧ 0x0A0 ≤ off ∧ off < 0x0AC then decide (sHi w ≠ noValue ∧ sLo w ≠ noValue)
  else if page = pgLIM ∧ off = 0x300 then decide (-3840 ≤ sHi w ∧ sHi w ≤ sLo w ∧ -2560 ≤ sLo w ∧ sLo w ≤ -384)
  else if page = pgTRC ∧ off = 0x048 then decide (bitsOf w 1 0 = 0)
  else if page = pgCEN ∧ (off = 0x0C4 ∨ off = 0x0C8) then decide (bitsOf w 28 24 < 0x14)
  else if page = pgCEN ∧ off = 0x044 then decide (-1280 ≤ sLo w ∧ sLo w ≤ 0)
  else if page = pgCEN ∧ off = 0x408 then decide (-5760 ≤ sLo w ∧ sLo w ≤ -2560)
  else if page = pgGGR ∧ 0x060 ≤ off ∧ off < 0x070 then decide (1 ≤ bitsOf w 13 5 ∧ bitsOf w 13 5 ≤ bitsOf w 31 23)
  else if page = pgGGR ∧ 0x100 ≤ off ∧ off < 0x200 then decide (bitsOf w 27 24 = 0 ∨ bitsOf w 27 24 = 4 ∨ bitsOf w 27 24 = 6)
  else if page = pgGGR ∧ 0x280 ≤ off ∧ off < 0x300 ∧ off % 8 = 0 then decide (0 ≤ sLo w ∧ sLo w ≤ 1280 ∧ sHi w ≠ noValue)
  else if page = pgCLS ∧ off = 0x04C then decide (0 ≤ sHi w ∧ sHi w ≤ 1280)
  else if page = pgNPR ∧ off = 0x048 then decide (0 ≤ sHi w ∧ sHi w ≤ 1280)
  else if page = pgNPR ∧ 0x200 ≤ off ∧ off < 0x244 then decide (bitsOf w 23 12 ≤ bitsOf w 11 0)
  else if page = pgFEL ∧ off = 0x084 then decide (s.fgetI FEL_MMCFG2.RL_SHORT 0 ≤ sLo w ∧ sLo w ≤ sHi w ∧ sHi w ≤ 1920)
  else if page = pgFEL ∧ off = 0x088 then decide (0 ≤ sHi w ∧ sHi w ≤ s.fgetI FEL_MMCFG1.RL_TRIP 0)
  else if 0x30 ≤ page ∧ regLocal page off = 0x408 then
    decide (1 ≤ bitsOf w 23 16 ∧ bitsOf w 23 16 ≤ bitsOf w 15 8 ∧ bitsOf w 15 8 ≤ 0x60)
  else if page = pgFHL ∧ off = 0x204 then decide (s.fget FHL_PTP_CFG.LOCK_NS 0 ≤ bitsOf w 31 16 ∧ bitsOf w 31 16 ≤ 50000)
  else if page = pgMGE ∧ off = 0x040 then decide (bitsOf w 30 30 = 0 ∨ (1 ≤ bitsOf w 27 16 ∧ bitsOf w 27 16 ≤ 4094))
  else true

/-- The buffer pool after a write keeps R341: the reservations fit the pool, RES ≤ QMAX and 1 ≤ HI_MARK ≤ QMAX for the queue. -/
def State.poolOk (s : State) (i : Nat) : Bool :=
  decide (((List.range 10).map fun j => s.fget BUF_QCFG.RES j).sum ≤ 512) && decide (s.fget BUF_QCFG.RES i ≤ s.fget BUF_QCFG.QMAX i) &&
    decide (1 ≤ s.fget BUF_QMARK.HI_MARK i ∧ s.fget BUF_QMARK.HI_MARK i ≤ s.fget BUF_QCFG.QMAX i)

/-- A selection of an index that the member does not have (R53), or a traced context at or above CONTEXTS (R6). -/
def State.namesAbsent (s : State) (page off : Nat) (w : Word) : Bool :=
  if page = pgCAN ∧ off = 0x040 then !s.member.present (bitsOf w 4 0)
  else if page = pgCEN ∧ off = 0x0C4 then decide (s.member.contexts ≤ bitsOf w 11 0)
  else false

/-- RISE of the onset detector as RATE derives it (R45, R133): the growth over W blocks of 64 samples at 1,536 Msps, W / 24 of a microsecond. -/
def State.deriveRise (s : State) : State :=
  s.fset CAN_ONSET_X.RISE 0 (roundDivN (s.fget CAN_ONSET_CFG.RATE 0 * s.fget CAN_ONSET_X.W 0) 24)

/-- A write of NPR_PORTn re-opens what the budget had refused there (R247). -/
def State.reopenPort (s : State) (n : Nat) : State :=
  (s.liveCtxs.filter fun c => (s.ctxDests c).contains (32 + n)).foldl (fun t c => t.setCtxRt c { t.ctxRt c with refused := false }) s

/-- The port is switched off, and its link with it (R343). -/
def State.mgeSwitch (s : State) : State :=
  if s.fon MGE_CFG.EN 0 || !s.fon MGE_STAT.LINK_UP 0 then s else ((s.fset MGE_STAT.LINK_UP 0 0).timerStart tmMgeLink 0 s.ms).pulse pgMGE 1

/-- What a stored word changes beside itself. -/
def State.afterWrite (s : State) (page off : Nat) : State :=
  if page = pgCLK ∧ (off = 0x06C ∨ off = 0x070) then s.driveClockFaults
  else if page = pgCAN ∧ off = 0x0A4 then s.deriveRise
  else if page = pgNPR ∧ 0x100 ≤ off ∧ off < 0x180 then s.reopenPort ((off - 0x100) / 4)
  else if page = pgMGE ∧ off = 0x040 then s.mgeSwitch
  else if page = pgCXW ∧ 0x040 ≤ off ∧ off < 0x060 then s.refreshReq ((off - 0x040) / 4)
  else if page = pgGGR ∧ 0x060 ≤ off ∧ off < 0x070 then s.setGridQueue ((off - 0x060) / 4) (s.gridQueue ((off - 0x060) / 4))
  else if page = pgEVR ∧ off = 0x054 then s.setEvr s.evr
  else if page = pgTRC ∧ off = 0x040 then s.trcStop
  else if page = pgBUF ∧ off = 0x044 then (s.fset BUF_STAT.FREE_MIN 0 (s.fget BUF_STAT.FREE 0)).poolMarks 0
  else s

/-- What a write of GGR_PCFG keeps of the state before it: the rows stand as the BASE before wiped them (R188). -/
def State.keepGrid (t s : State) (page off : Nat) : State :=
  let p := (off - 0x100) / 8
  if page = pgGGR ∧ 0x100 ≤ off ∧ off < 0x200 ∧ s.baseOf p ≠ t.baseOf p then { t with ggr := (s.holdRows p).ggr } else t

/-- A port's plan or the rule of R263 takes the pins after a write of TDD_EN (R222, R263): the levels of the wheel, or those of the paths. -/
def State.duplexMode (s : State) (n : Nat) : State :=
  if s.fon FTM_PCFG.TDD_EN n then (if s.pinsFree n then s.askPins n (s.wheelPort n).trx (s.wheelPort n).pa else s) else s.fddPins n

/-- The REQUESTs of the pairs follow their ports' configuration (R222, R279): a port that belongs to none asks no more. -/
def State.pairsAfter (s : State) : State :=
  let t := (List.range 32).foldl (fun t n =>
    if (t.wheelPort n).asks && !(t.fon FTM_PCFG.TDD_EN n && t.fon FTM_PCFG.CX_EN n) then t.setWheelPort n { t.wheelPort n with asks := false } else t) s
  (List.range 8).foldl (fun t k => t.refreshReq k) t

/-- What a stored word changes at the ports: the pins under TDD_EN (R263), the REQUESTs (R279), the chain gains under the slopes (R268) and those of
fronthaul streams (R269, R273). -/
def State.portsAfter (t s : State) (page off : Nat) : State :=
  if page = pgFTM then
    let t := (List.range 32).foldl (fun t n => if t.fon FTM_PCFG.TDD_EN n = s.fon FTM_PCFG.TDD_EN n then t else t.duplexMode n) t
    if 0x100 ≤ off then t.pairsAfter else t
  else if page = pgFEL ∧ 0x408 ≤ off ∧ off < 0x41C then (List.range 32).foldl (fun t n => if t.descValid n then t.refreshGains n else t) t
  else if page = pgFEL ∧ 0x0A0 ≤ off ∧ off < 0x0AC then t.recalSince s
  else t

/-- A write of a register that is stored. -/
def storeWrite (i : Init) (page off : Nat) (v : Word) (s : State) : WRes :=
  let key := s.regKey i page off
  if s.unitMissing i page off then .error .unitAbsent
  else
    match s.mergeReg page off key v with
    | .error r => .error r
    | .ok t =>
      if s.namesAbsent page off (t.word key) then .error .unitAbsent
      else if t.crossOk page off (t.word key) then .ok (((t.keepGrid s page off).afterWrite page off).portsAfter s page off)
      else .error .outOfRange

/-- A write of BUF_QCFGi or BUF_QMARKi (R341): a write of BUF_QMARK restarts PEAK. -/
def bufWrite (i : Init) (off : Nat) (v : Word) (s : State) : WRes :=
  let q := (off - 0x080) / 12
  if off < 0x080 ∨ 0x0F8 ≤ off then storeWrite i pgBUF off v s
  else
    match s.mergeReg pgBUF off (pgBUF * 0x1000 + off) v with
    | .error r => .error r
    | .ok t =>
      if t.poolOk q then
        .ok ((if (off - 0x080) % 12 = 4 then t.fset BUF_QSTAT.PEAK q (t.fget BUF_QSTAT.HELD q) else t).poolMarks q)
      else .error .outOfRange

/-- A write of LIM_REG_DATAk: a word of the staged regulatory set (R231, R251); words 2 and 3 hold gain and power fields (R229), of which 0x8000 is
no value (R9). -/
def regDataWrite (i : Init) (k : Nat) (v : Word) (s : State) : WRes :=
  if (k = 2 ∨ k = 3) ∧ (sHi v = noValue ∨ sLo v = noValue) then .error .outOfRange
  else .ok { s with npr := { s.npr with staged := Tbl.set (fun _ => 0) s.npr.staged (16 * s.fget LIM_REG_SEL.ENTRY i.holder + k) v } }

/-! The registers of each page with a meaning of their own. -/

def canWrite (i : Init) (off : Nat) (v : Word) (s : State) : WRes :=
  if off = 0x044 then canCtrlWrite i v s
  else if 0x048 ≤ off ∧ off < 0x058 then canBasicWrite i (.ref ⟨(off - 0x048) / 4 % 4, Nat.mod_lt _ (by decide)⟩) v s
  else if 0x058 ≤ off ∧ off < 0x068 then canBasicWrite i (.clu ⟨(off - 0x058) / 4 % 4, Nat.mod_lt _ (by decide)⟩) v s
  else if off = 0x068 then canBasicWrite i .adapt v s
  else if off = 0x06C then canBasicWrite i .probe v s
  else if off = 0x070 then canBasicWrite i .marginCfg v s
  else if off = 0x074 then canBasicWrite i .isoAssumed v s
  else if off = 0x408 ∨ off = 0x410 ∨ off = 0x418 then canCoefM i off v s
  else if off = 0x40C then canCoefS i .canMu v s
  else if off = 0x414 then canCoefS i .canLeak v s
  else if off = 0x41C then canCoefS i .canDelta v s
  else if off = 0x444 then mapWrite i v s
  else if off = 0x44C then tapReWrite i (bitsOf v 19 0) s
  else if off = 0x450 then tapImWrite i (bitsOf v 19 0) s
  else storeWrite i pgCAN off v s

def chnWrite (i : Init) (off : Nat) (v : Word) (s : State) : WRes :=
  if off = 0x044 then winLoWrite i v s
  else if off = 0x048 then winHiWrite i v s
  else if 0x100 ≤ off ∧ off < 0x200 then streamAccess ((off - 0x100) / 4) v s
  else if 0x200 ≤ off ∧ off < 0x400 ∧ off % 16 = 0 then pathCfgWrite ((off - 0x200) / 16) v s
  else if 0x200 ≤ off ∧ off < 0x400 ∧ off % 16 = 4 then delayWrite ((off - 0x200) / 16) (bitsOf v 15 0) s
  else if 0x480 ≤ off ∧ off < 0x500 then delaySmpWrite ((off - 0x480) / 4) (bitsOf v 15 0) s
  else storeWrite i pgCHN off v s

def schWrite (i : Init) (off : Nat) (v : Word) (s : State) : WRes :=
  if off = 0x060 then loadCtrlWrite i v s
  else if off = 0x064 then loadAddrWrite i v s
  else if off = 0x068 then loadDataWrite i v s
  else if off = 0x090 then swapCtrlWrite v s
  else storeWrite i pgSCH off v s

def clsWrite (i : Init) (off : Nat) (v : Word) (s : State) : WRes :=
  if s.unitMissing i pgCLS off then .error .unitAbsent
  else if off = 0x044 then ccfgWrite i v s
  else if off = 0x048 then cfreqWrite i v s
  else if off = 0x060 then patStage i false v s
  else if off = 0x064 then patStage i true v s
  else if off = 0x068 then patApply i v s
  else storeWrite i pgCLS off v s

def limWrite (i : Init) (off : Nat) (v : Word) (s : State) : WRes :=
  if 0x480 ≤ off ∧ off < 0x4C0 then regDataWrite i ((off - 0x480) / 4) v s else storeWrite i pgLIM off v s

def felWrite (i : Init) (off : Nat) (v : Word) (s : State) : WRes :=
  if off = 0x044 then chainWrite i v s
  else if off = 0x048 then loWrite i v s
  else if off = 0x060 then tunerWrite i v s
  else if off = 0x0B4 then descStage i v s
  else if off = 0x0B8 then descCommit i v s
  else storeWrite i pgFEL off v s

def fhlWrite (i : Init) (off : Nat) (v : Word) (s : State) : WRes :=
  if off = 0x040 ∨ off = 0x044 then sideWrite ((off - 0x040) / 4) v s
  else if 0x060 ≤ off ∧ off < 0x06C then feedWrite ((off - 0x060) / 4) v s
  else if 0x100 ≤ off ∧ off < 0x180 ∧ off % 8 = 0 then flowWrite ((off - 0x100) / 8) v s
  else if 0x180 ≤ off ∧ off ≤ 0x188 then alignWrite off v s
  else if off = 0x200 then ptpCfgWrite v s
  else if off = 0x214 then ptpFreqWrite v s
  else if off = 0x218 then ptpStepWrite v s
  else storeWrite i pgFHL off v s

def gcpWrite (i : Init) (off : Nat) (v : Word) (s : State) : WRes :=
  if off = 0x040 then fnEnWrite v s else if off = 0x04C then hostWrite v s else storeWrite i pgGCP off v s

def pcieWrite (i : Init) (off : Nat) (v : Word) (s : State) : WRes :=
  let c := (off - 0x080) / 16
  if off < 0x080 ∨ 0x0B0 ≤ off then storeWrite i pgPCIE off v s
  else if off % 16 = 0 then ringWrite c v s
  else if off % 16 = 4 then rqProdWrite c v s
  else if off % 16 = 12 then anConsWrite c v s
  else .ok s

def hkaWrite (i : Init) (off : Nat) (v : Word) (s : State) : WRes :=
  if off = 0x04C ∨ off = 0x06C then hkaCmdWrite ((off - 0x04C) / 0x20) v s
  else if 0x040 ≤ off ∧ off < 0x080 then hkaCfgWrite off v s
  else if off = 0x080 then hkaUrgWrite v s
  else if 0x408 ≤ off ∧ off < 0x608 ∧ (off - 0x408) % 16 < 8 then hkaCoefWrite i off v s
  else storeWrite i pgHKA off v s

def pwmWrite (i : Init) (off : Nat) (v : Word) (s : State) : WRes :=
  let k := (off - 0x040) / 0x20
  if 0x140 ≤ off ∨ off < 0x040 then storeWrite i pgPWM off v s
  else if (off - 0x040) % 0x20 = 0 then pwmCfgWrite k v s
  else if (off - 0x040) % 0x20 = 0x18 then pwmCmdWrite k v s
  else storeWrite i pgPWM off v s

def fanWrite (i : Init) (off : Nat) (v : Word) (s : State) : WRes :=
  if 0x040 ≤ off ∧ off < 0x0C0 ∧ off % 16 = 0 then fanCfgWrite ((off - 0x040) / 16) v s else storeWrite i pgFAN off v s

def twbWrite (i : Init) (n off : Nat) (v : Word) (s : State) : WRes :=
  if off = 0x040 then twbCfgWrite n v s
  else if off = 0x044 then twbTxnWrite i n v s
  else if off = 0x048 then (if bitsOf v 31 31 = 1 then twbGoWrite i n s else .ok s)
  else storeWrite i (twbPage n) off v s

def twtWrite (i : Init) (off : Nat) (v : Word) (s : State) : WRes :=
  if off = 0x040 then twtCfgWrite v s
  else if off = 0x048 then txPush (decide (bitsOf v 31 31 = 1)) (bitsOf v 7 0) s
  else if off = 0x050 then twtCmdWrite v 0 s
  else storeWrite i pgTWT off v s

def gpioWrite (i : Init) (off : Nat) (v : Word) (s : State) : WRes :=
  if off = 0x040 ∨ off = 0x044 then gpioOeWrite ((off - 0x040) / 4) v s
  else if off = 0x058 then gpioPolWrite v s
  else storeWrite i pgGPIO off v s

def jlkWrite (i : Init) (page off : Nat) (v : Word) (s : State) : WRes :=
  let g := s.selUnit i page off
  if regLocal page off = 0x040 then jlkCfgWrite g v s
  else if regLocal page off = 0x04C then jlkTestWrite g v s
  else storeWrite i page off v s

def evrWrite (i : Init) (off : Nat) (v : Word) (s : State) : WRes :=
  if off = 0x058 then (if bitsOf v 31 31 = 1 then evrFlush s else .ok s)
  else if off = 0x408 then (if bitsOf v 31 31 = 1 then evrClear i (bitsOf v 15 0) s else .ok s)
  else storeWrite i pgEVR off v s

/-- NVA_BOOTSEL by register: what the signature checks say is not stated, and is taken from a free value. -/
def bootselByWord (i : Init) (v : Word) (s : State) : WRes :=
  if bitsOf v 30 30 = 0 then .ok s
  else bootselWrite (((s.identOf i).map Ident.code).getD 0) (bitsOf v 29 29) (s.freeVal.toNat.testBit 0) (s.freeVal.toNat.testBit 1) s.tookFree

def nvaWrite (i : Init) (off : Nat) (v : Word) (s : State) : WRes :=
  if off = 0x058 then nvaCmd v s else if off = 0x068 then bootselByWord i v s else storeWrite i pgNVA off v s

def clkWrite (i : Init) (off : Nat) (v : Word) (s : State) : WRes := if off = 0x048 then xtsWrite v s else storeWrite i pgCLK off v s

def gnsWrite (i : Init) (off : Nat) (v : Word) (s : State) : WRes :=
  if off = 0x040 then gnsUartWrite v s else if off = 0x044 then gnsPpsWrite v s else storeWrite i pgGNS off v s

def thmWrite (i : Init) (off : Nat) (v : Word) (s : State) : WRes :=
  if off = 0x040 ∨ off = 0x044 then thmCfgWrite off v s else storeWrite i pgTHM off v s

/-- The effect of a write at an offset past the header, on a page whose registers are admitted as R46 to R48 say. -/
def blockWrite (i : Init) (page off : Nat) (v : Word) (s : State) : WRes :=
  if page = pgCLK then clkWrite i off v s
  else if page = pgRST then rstWrite off v s
  else if page = pgDBG ∧ off = 0x070 then .ok (if bitsOf v 31 31 = 1 then s.debugClosed else s)
  else if page = pgFLT then fltWrite i off v s
  else if page = pgEVR then evrWrite i off v s
  else if page = pgNVA then nvaWrite i off v s
  else if page = pgHUP then hupWrite off v s
  else if page = pgGCP then gcpWrite i off v s
  else if page = pgBUF then bufWrite i off v s
  else if page = pgPCIE then pcieWrite i off v s
  else if page = pgCAP ∧ off = 0x05C then scmdWrite i v s
  else if page = pgFHL then fhlWrite i off v s
  else if page = pgGNS then gnsWrite i off v s
  else if page = pgSCH then schWrite i off v s
  else if page = pgCHN then chnWrite i off v s
  else if page = pgCAN then canWrite i off v s
  else if page = pgGGR ∧ off = 0x088 then wr2Write i v s
  else if page = pgCLS then clsWrite i off v s
  else if page = pgCEN ∧ off = 0x0DC then trcCmdWrite v s
  else if page = pgNPR ∧ off = 0x078 then foxCmdWrite i v s
  else if page = pgLIM then limWrite i off v s
  else if page = pgFTM ∧ off = 0x044 then gcfgWrite i v s
  else if page = pgFEL then felWrite i off v s
  else if page = pgHKA then hkaWrite i off v s
  else if page = pgPWM then pwmWrite i off v s
  else if page = pgFAN then fanWrite i off v s
  else if page = pgTHM then thmWrite i off v s
  else if pgTWB ≤ page ∧ page < pgTWT then twbWrite i (page - pgTWB) off v s
  else if page = pgTWT then twtWrite i off v s
  else if page = pgGPIO then gpioWrite i off v s
  else if pgJLK ≤ page then jlkWrite i page off v s
  else storeWrite i page off v s

end Sys2Proof.Machine
end

