-- ==== Sys2Proof/Machine/RegHead.lean ====
section
/-!
DEFINITION. The register bus: writes of the page header (R37, R39, R40), of pages with an admission of their own, and the writes that a
self-test holds.
-/
namespace Sys2Proof.Machine

/-! PAGE_CTRL (R39). -/

/-- A write that would change ENABLE or CRC_CHECK_EN. -/
def State.changesCtrl (s : State) (page : Nat) (v : Word) : Bool :=
  decide (bitsOf v 0 0 ≠ s.fget PAGE_CTRL.ENABLE page ∨ bitsOf v 2 2 ≠ s.fget PAGE_CTRL.CRC_CHECK_EN page)

/-- SAT_CLR zeroes SAT_COUNT (R55); CFG_LOCK is set by a 1 and kept by a 0 (R39). -/
def State.ctrlBits (s : State) (page : Nat) (v : Word) : State :=
  let t := if bitsOf v 4 4 = 1 then s.fset SAT_COUNT.COUNT page 0 else s
  let t := if bitsOf v 3 3 = 1 then t.fset PAGE_CTRL.CFG_LOCK page 1 else t
  (t.fset PAGE_CTRL.ENABLE page (bitsOf v 0 0)).fset PAGE_CTRL.CRC_CHECK_EN page (bitsOf v 2 2)

/-- A write of PAGE_CTRL (R39, R481). -/
def pageCtrlWrite (page : Nat) (v : Word) (s : State) : WRes :=
  if s.fon PAGE_CTRL.CFG_LOCK page && s.changesCtrl page v then .error .configLocked
  else if bitsOf v 1 1 = 1 ∧ noBlockReset page then .error .configLocked
  else
    let t := s.ctrlBits page v
    .ok (if bitsOf v 1 1 = 1 then t.blockReset page else t)

/-- A write of a header word other than PAGE_CTRL, EXPERT_UNLOCK, OWNER and SELFTEST. -/
def headerWrite (i : Init) (page off : Nat) (v : Word) (s : State) : WRes :=
  if off = 0x010 then stickyWrite page v s
  else if off = 0x014 then .ok (s.fset EVT_ENABLE.ENABLE page v.toNat)
  else if off = 0x018 then forceWrite page v s
  else if off = 0x020 then evtCountWrite i page (bitsOf v 31 27) (decide (bitsOf v 26 26 = 1)) s
  else .ok s

/-- An access to a header word. -/
def State.headerAccess (s : State) (i : Init) (page off : Nat) (v : Word) : State :=
  if off = 0x008 then s.access i page off v (pageCtrlWrite page v)
  else if off = 0x024 then s.accessBy (fun s => s.admitUnlock i page) i page off v (unlockWrite (s.armedInTime i page) i page v)
  else if off = 0x028 then s.accessBy (fun s => s.admitOwner i page) i page off v (ownerWrite i page (bitsOf v 4 0))
  else if off = 0x034 then s.selftestAccess i page v
  else s.access i page off v (headerWrite i page off v)

/-! SEC (R391 to R399), with admissions of its own. -/

/-- A write of SEC_KEY_CMD: INSTALL, else ERASE; with PLAIN alone it is refused (R394, R395). A word with both bits installs (DESIGN CHOICE, log 242). -/
def State.keyAccess (s : State) (i : Init) (v : Word) : State :=
  let plain := decide (bitsOf v 29 29 = 1)
  if bitsOf v 31 31 = 1 then s.keyInstall i plain
  else if bitsOf v 30 30 = 1 then s.keyErase i plain
  else if plain then s.accessBy (fun _ => some .lifecycle) i pgSEC 0x07C v fun s => .ok s
  else s.access i pgSEC 0x07C v fun s => .ok s

/-- A write of SEC_ROOT_CMD: PROGRAM, else REVOKE (R398). -/
def State.rootAccess (s : State) (i : Init) (v : Word) : State :=
  if bitsOf v 31 31 = 1 then
    s.accessBy (fun s => s.programVerdict i (s.rootSel i)) i pgSEC 0x100 v fun s => rootProgram (s.rootSel i) (bitsOf v 3 0) s
  else if bitsOf v 30 30 = 1 then
    s.accessBy (fun s => s.revokeVerdict i (s.rootSel i)) i pgSEC 0x100 v fun s => rootRevoke (s.rootSel i) s
  else s.access i pgSEC 0x100 v fun s => .ok s

/-- A write of the SEC page. -/
def State.secAccess (s : State) (i : Init) (off : Nat) (v : Word) : State :=
  if off = 0x044 ∧ bitsOf v 31 31 = 1 then s.lifecycleGo i (bitsOf v 18 16) (bitsOf v 15 0)
  else if off = 0x048 then s.accessBy (fun s => s.roleVerdict i) i pgSEC off v (pcieRoleWrite (bitsOf v 4 0))
  else if off = 0x050 then s.accessBy (fun s => s.keyPrepares i off) i pgSEC off v (storeWrite i pgSEC off v)
  else if 0x054 ≤ off ∧ off < 0x07C then s.wrapWrite i ((off - 0x054) / 4) v
  else if off = 0x07C then s.keyAccess i v
  else if off = 0x090 then s.accessBy (fun s => s.rootSelects i) i pgSEC off v (storeWrite i pgSEC off v)
  else if off = 0x100 then s.rootAccess i v
  else if off = 0x104 ∧ bitsOf v 31 31 = 1 then s.accessBy (fun s => s.svnVerdict i) i pgSEC off v svnAdvance
  else s.access i pgSEC off v (storeWrite i pgSEC off v)

/-! The context windows (R50 to R52). -/

/-- A write of CTXW_SELn: COMMIT, or a selection. -/
def State.ctxSelAccess (s : State) (i : Init) (v : Word) : State :=
  let c := bitsOf v 11 0
  let mode := decide (bitsOf v 16 16 = 1)
  if bitsOf v 31 31 = 1 then
    (s.accessBy (fun s => s.admitLifecycle i) i pgCTXW (selOff i) v (ctxwCommit i c mode)).noteRefuse i
  else s.selectCtx i c mode

/-- A write of CTXW_STATn clears COMMIT_DONE. -/
def statWrite (i : Init) (v : Word) (s : State) : WRes :=
  .ok (if bitsOf v 29 29 = 1 then s.setWindow i.holder { s.window i.holder with done := false } else s)

/-- An offset of the CTXW page belongs to a window: its number, and what it is there (0 SEL, 1 STAT, 2 and up the aperture's words). -/
def windowAt (off : Nat) : Option (Nat × Nat) :=
  if 0x040 ≤ off ∧ off < 0x050 then some ((off - 0x040) / 4, 0)
  else if 0x050 ≤ off ∧ off < 0x060 then some ((off - 0x050) / 4, 1)
  else if 0x100 ≤ off ∧ off < 0x300 then some ((off - 0x100) / 0x80, 2 + (off - 0x100) % 0x80 / 4)
  else if 0x500 ≤ off ∧ off < 0x700 then some ((off - 0x500) / 0x80, 34 + (off - 0x500) % 0x80 / 4)
  else none

/-- A write to a window of the CTXW page; another initiator's window is refused (R50). -/
def State.ctxwAccess (s : State) (i : Init) (off : Nat) (v : Word) : State :=
  match windowAt off with
  | none => s.access i pgCTXW off v fun s => .ok s
  | some (n, k) =>
    if n ≠ i.number then (s.accessBy (fun _ => some .accessForm) i pgCTXW off v fun s => .ok s).noteRefuse i
    else if k = 0 then s.ctxSelAccess i v
    else if k = 1 then s.accessBy (fun s => s.admitLifecycle i) i pgCTXW off v (statWrite i v)
    else s.writeAperture i (k - 2) v

/-! Every write. -/

/-- A chapter defines a register at an offset past the header (R34); SAT_COUNT stands at 0x400 of every page (R55). -/
def definedAt (page off : Nat) : Bool := decide (off = 0x400) || (regAt page off).isSome || (decide (page = pgCTXW) && (windowAt off).isSome)

/-- A write past the header; at an offset that no chapter defines it is discarded (R34). -/
def State.blockAccess (s : State) (i : Init) (page off : Nat) (v : Word) : State :=
  if !definedAt page off then s.accessBy (fun _ => none) i page off v fun s => .ok s
  else if page = pgSEC then s.secAccess i off v
  else if page = pgCTXW then s.ctxwAccess i off v
  else if page = pgPWR ∧ off = 0x040 then s.pwrAccess i v
  else if page = pgRST ∧ off = 0x048 then s.rstAccess i v
  else if page = pgRST ∧ (off = 0x050 ∨ off = 0x054) then s.accessBy (fun s => s.wdAdmit i off) i page off v (rstWrite off v)
  else if page = pgFLT ∧ off = 0x044 then s.errCtrlAccess i v
  else if page = pgEVR ∧ off = 0x408 ∧ bitsOf v 31 31 = 1 then s.accessBy (fun s => s.clearVerdict i) i page off v (evrWrite i off v)
  else if page = pgNPR ∧ off = 0x054 then s.remoteAccess i v
  else if page = pgLIM ∧ off = 0x4C0 then s.regCmdAccess i v
  else if page = pgCAN ∧ (off = 0x44C ∨ off = 0x450) then s.accessBy (fun s => s.admitTap i off) i page off v (canWrite i off v)
  else s.access i page off v (blockWrite i page off v)

/-- A write of 32 bits to an aligned address of the register space; a block reset during a self-test aside. -/
def State.plainWrite (s : State) (i : Init) (addr : Nat) (v : Word) : State :=
  if addr % 0x1000 < 0x040 then s.headerAccess i (addr / 0x1000) (addr % 0x1000) v else s.blockAccess i (addr / 0x1000) (addr % 0x1000) v

/-- What a write of a word does once it is admitted: the header's words, then the page's. -/
def wordEffect (armed : Bool) (i : Init) (page off : Nat) (v : Word) (s : State) : WRes :=
  if off = 0x008 then pageCtrlWrite page v s
  else if off = 0x024 then unlockWrite armed i page v s
  else if off = 0x028 then ownerWrite i page (bitsOf v 4 0) s
  else if off = 0x034 then selftestWrite i page v s
  else if off < 0x040 then headerWrite i page off v s
  else if definedAt page off then blockWrite i page off v s
  else .ok s

/-- A held write applies: it was admitted when it was written, so its effect alone is left, or its refusal (R40, R49). -/
def State.applyOne (s : State) (h : HeldWrite) : State :=
  match wordEffect (s.armedInTime h.who h.page) h.who h.page (h.addr % 0x1000) h.value s with
  | .error r => s.refuse h.who h.page r
  | .ok t => (t.keepOpen h.who h.page (h.addr % 0x1000)).dropCrcPass h.page

/-- The writes that a self-test held apply in their order, once no self-test runs (R40). -/
def State.applyHeld (s : State) : State :=
  if s.fon PAGE_STAT.SELFTEST_ACTIVE pgCAN || s.heldWrites.isEmpty then s
  else s.heldWrites.foldl (fun t h => t.applyOne h) { s with heldWrites := [] }

/-- What follows a command that may have ended the self-test which ran before it, in state `s`: the writes that it held apply (R40). -/
def State.afterTest (t s : State) : State := if s.fon PAGE_STAT.SELFTEST_ACTIVE pgCAN then t.applyHeld else t

/-- A write of PAGE_CTRL.BLOCK_RESET during a self-test is not held: the test ends, and what it held applies first (R40). -/
def State.resetInTest (s : State) (i : Init) (page : Nat) (v : Word) : State :=
  let t := (s.fset PAGE_STAT.SELFTEST_ACTIVE page 0).access i page 0x008 v fun s => pageCtrlWrite page v s.applyHeld
  if Tbl.get (fun _ => 0) t.busRefuse i.holder = 0 then t else t.fset PAGE_STAT.SELFTEST_ACTIVE page 1

/-- An access to PAGE_CTRL. -/
def State.ctrlAccess (s : State) (i : Init) (page : Nat) (v : Word) : State :=
  if s.fon PAGE_STAT.SELFTEST_ACTIVE page && decide (bitsOf v 1 1 = 1) then s.resetInTest i page v
  else s.access i page 0x008 v (pageCtrlWrite page v)

/-- A register write of an initiator (R32, R35): an address past the register space behaves as an absent page, and a write that is not of 32 bits
to an aligned address is refused. -/
def State.regWrite (s : State) (i : Init) (addr : Nat) (v : Word) (sub : Bool) : State :=
  let page := addr / 0x1000
  let off := addr % 0x1000
  if sub || decide (off % 4 ≠ 0) then s.accessBy (fun _ => some .accessForm) i page off v fun s => .ok s
  else if off = 0x008 then s.ctrlAccess i page v
  else s.plainWrite i addr v

end Sys2Proof.Machine
end

