-- ==== Sys2Proof/Machine/RegRead.lean ====
section
/-!
DEFINITION. The register bus: what a read of any word answers (R34 to R37, R53): words that other state gives, and reads with an effect of
their own.
-/
namespace Sys2Proof.Machine

/-! The header (R37, R518). -/

/-- The block code of a page (R32). -/
def blockCode (page : Nat) : Nat :=
  if page ≤ 0x0A then page + 1
  else if page ≤ 0x11 then page + 5
  else if page ≤ 0x1C then page + 14
  else if page ≤ 0x21 then page + 19
  else if page ≤ 0x24 then 0x34
  else if page ≤ 0x26 then page + 16
  else if page = 0x27 then 0x38
  else 0x17

/-- The index of a TWB or JLK page, otherwise 0. -/
def pageInstance (page : Nat) : Nat := if 0x30 ≤ page then page - 0x30 else if 0x21 ≤ page ∧ page ≤ 0x24 then page - 0x21 else 0

/-- Pages with expert registers (R518 and the owning chapters). -/
def hasExpert (page : Nat) : Bool :=
  decide (0x30 ≤ page) || [pgFLT, pgEVR, pgHUP, pgCHN, pgCAN, pgGGR, pgCEN, pgNPR, pgLIM, pgFEL, pgHKA, pgCTXW].contains page

/-- PAGE_CAP.UNITS (R518 and the owning chapters). -/
def State.pageUnits (s : State) (page : Nat) : Nat :=
  if [pgCHN, pgCAN, pgGGR, pgNPR, pgLIM, pgFEL, pgCLS].contains page then unitCount s.member
  else if page = pgCEN ∨ page = pgTHM then 16
  else if page = pgFTM ∨ page = pgCXW ∨ page = pgPWM ∨ page = pgFAN then 8
  else if page = pgFLT then 160
  else if page = pgGPIO then 48
  else if page = pgCTXW then 4
  else if page = pgSCH ∨ page = pgHKA ∨ 0x30 ≤ page then 2
  else if 0x21 ≤ page ∧ page ≤ 0x24 then 1
  else 0

/-- Some expert value of the CHN, CAN or CTXW page differs from the value that its basic fields derive (R45). -/
def State.overridden (s : State) (page : Nat) : Bool :=
  if page = pgCHN then s.paths.any fun p => decide (s.fget CHN_PATH_DLY_SMP.SMP p ≠ delaySamples (s.fget CHN_PATH_DLY.DELAY_NS p))
  else if page = pgCAN then
    decide (s.fget CAN_ONSET_X.RISE 0 ≠ s.deriveRise.fget CAN_ONSET_X.RISE 0) ||
      (Sys2Proof.Machine.unitsOf s.member).any fun n =>
        !(s.canRt n).derived || decide ((s.fget CAN_MU_M.M n, s.fget CAN_MU_S.S n) ≠ s.muWords n (s.fget CAN_STAT.TAPS_PER_CLUSTER n)) ||
          decide ((s.fget CAN_LEAK_M.M n, s.fget CAN_LEAK_S.S n) ≠ s.leakWords n)
  else if page = pgCTXW then
    s.liveCtxs.any fun c => (List.range 10).any fun k => decide ((s.deriveLoops c).cword c (32 + k) ≠ s.cword c (32 + k))
  else false

/-- The block of a page is applying a configuration change (R37): a written value that has not reached the place where it acts. The bit of SCH
is stored, and shows the fill of a slot (R93). DESIGN CHOICE (log 209): of the other pages CTXW and CHN show it; the spec does not list them. -/
def State.pageBusy (s : State) (page : Nat) : Bool :=
  if page = pgCTXW then (s.windows.any fun e => e.2.pending) || s.liveCtxs.any fun c => !(s.ctxRt c).direct.isEmpty
  else if page = pgCHN then
    s.paths.any fun p =>
      (s.pathRt p).turnOn || (s.pathRt p).heldOn || (s.pathRt p).slewTo.isSome || (s.pathRt p).slewAt.isSome || (s.pathRt p).pendTo.isSome ||
        (List.range 12).any fun w => decide (s.winInForce p w ≠ s.winOf p w)
  else false

/-- A header word as a reader sees it. -/
def State.headerSeen (s : State) (i : Init) (page off : Nat) : Word :=
  let w := s.word (page * 0x1000 + off)
  if off = 0x000 then BitVec.ofNat 32 (0x10000000 + page * 0x10000 + pageInstance page * 0x100 + blockCode page)
  else if off = 0x004 then
    BitVec.ofNat 32 (0x80000000 + (if hasExpert page then 0x40000000 else 0) + (if page = pgCAN then 0x10000000 else 0) + s.pageUnits page * 0x10000)
  else if off = 0x00C then
    w ||| BitVec.ofNat 32 ((if s.overridden page then 0x40 else 0) + (if s.pageBusy page then 2 else 0))
  else if off = 0x020 then BitVec.ofNat 32 (s.fget (evtSelFld page) i.holder * 0x8000000 + s.evtCountSeen i page)
  else if off = 0x024 then BitVec.ofNat 32 (16 * s.expertBits i page ExpertSt.armed + s.expertBits i page ExpertSt.opened)
  else if off = 0x02C then
    BitVec.ofNat 32 (s.fget DBG_STAT.LEVEL 0 * 256 + (if page = pgLIM then 32 else 0) + (if s.fon PAGE_CTRL.CFG_LOCK page then 16 else 0) + s.sec.lc)
  else if off = 0x030 then BitVec.ofNat 32 (s.pageCrc page)
  else w

/-! Words that other state gives. -/

/-- SYS_DEVICE_ID, SYS_UNIT_COUNT0 and SYS_UNIT_COUNT1 of the member (R2, R4, R5). -/
def State.sysSeen (s : State) (off : Nat) (w : Word) : Word :=
  let m := s.member
  if off = 0x040 then BitVec.ofNat 32 (m.part * 0x10000 + w.toNat % 0x10000)
  else if off = 0x044 then BitVec.ofNat 32 (m.h * 0x1010000 + 2 * m.h * 0x101)
  else if off = 0x048 then BitVec.ofNat 32 (m.contexts * 0x10000 + 2 * m.h * 0x100 + 2 * m.lanesPerSide)
  else w

/-- A pair of signed 16-bit fields. -/
def pairWord (hi lo : Int) : Word := BitVec.ofNat 32 (ofSigned hi 65536 * 65536 + ofSigned lo 65536)

/-- The reference of an instance with the lowest iso in a subband; ASSUMED when none is enabled (R137). -/
def State.lowestIso (s : State) (n k : Nat) : IsoEntry :=
  match (s.enabledRefs n).map fun r => s.isoOf n k r with
  | [] => ⟨s.fgetI CAN_ISO_ASSUMED.ISO_ASSUMED n, 0, 2⟩
  | a :: l => l.foldl (fun a e => if e.iso < a.iso then e else a) a

/-- PERMIT of a subband (R137): the lowest iso + canc − REQ_MARGIN over the covered references. -/
def State.sbPermit (s : State) (n k : Nat) : Int :=
  match lowest ((s.enabledRefs n).map fun r => (s.isoOf n k r).iso + (s.isoOf n k r).canc - s.fgetI CAN_MARGIN_CFG.REQ_MARGIN n) with
  | none => noLoop
  | some x => clampI (-32767) 32766 x

/-- CAN_SB, CAN_SB_ISO, CAN_SB_FLAGS and CAN_INST_MIN of the selected instance and subband (R137). -/
def State.canSeen (s : State) (i : Init) (off : Nat) (w : Word) : Word :=
  let n := s.canSel i
  let k := s.fget CAN_ISEL.SB i.holder
  let past := decide (s.subbands n ≤ k)
  if off = 0x07C then (if past then 0x80008000 else pairWord (s.marginOf n k) (s.sbPermit n k))
  else if off = 0x080 then (if past then 0x80008000 else pairWord (s.lowestIso n k).iso (s.lowestIso n k).canc)
  else if off = 0x078 then putBits (putBits w 27 27 (if s.canReduced n then 1 else 0)) 6 0 (s.activeSbs n).length
  else if off = 0x084 then
    if past then 0
    else BitVec.ofNat 32 ((if s.sbActive n k then 8 else 0) + (if Tbl.get (fun _ => false) s.can.starved (64 * n + k) then 4 else 0) + (s.lowestIso n k).src)
  else if off = 0x088 then pairWord (s.lowestMargin n) ((lowest ((s.activeSbs n).map fun k => s.sbPermit n k)).getD noLoop)
  else if 0x300 ≤ off ∧ off < 0x340 then pairWord (s.lowestMargin ((off - 0x300) / 2 + 1)) (s.lowestMargin ((off - 0x300) / 2))
  else if off = 0x450 then BitVec.ofNat 32 (Tbl.get (fun _ => 0) s.can.latchIm i.holder)
  else w

/-- LIM_CLAMP_STAT with the depth in force now (R133, R140), and the staged words of the regulatory set (R251). -/
def State.limSeen (s : State) (i : Init) (off : Nat) (w : Word) : Word :=
  if 0x340 ≤ off ∧ off < 0x380 then
    let n := 32 + (off - 0x340) / 2
    putBits (putBits w 28 16 (s.clampDepth (n + 1))) 12 0 (s.clampDepth n)
  else if 0x480 ≤ off ∧ off < 0x4C0 then Tbl.get (fun _ => 0) s.npr.staged (16 * s.fget LIM_REG_SEL.ENTRY i.holder + (off - 0x480) / 4)
  else w

/-- GGR_RD_DATA and GGR_RD_FRAME of the reader's selection (R198). -/
def State.ggrSeen (s : State) (i : Init) (off : Nat) (w : Word) : Word :=
  let p := s.fget GGR_RD_SEL.PATH i.holder
  let r := s.fget GGR_RD_SEL.ROW i.holder
  if off = 0x0A4 then (if s.member.present p then BitVec.ofNat 32 (s.gridWord p r (s.fget GGR_RD_SEL.GROUP i.holder)) else 0)
  else if off = 0x0A8 then (if s.member.present p then BitVec.ofNat 32 (s.gridOrdinal p r) else 0)
  else w

/-- NPR_FOX_PATHS and NPR_FOX_STREAMS show what the slot still mutes (R250). -/
def State.nprSeen (s : State) (i : Init) (off : Nat) (w : Word) : Word :=
  let k := s.fget NPR_FOX_SEL.SLOT i.holder
  if off = 0x064 then BitVec.ofNat 32 (maskOf ((List.range 32).filter fun p => s.foxMutesPath k p))
  else if off = 0x068 then BitVec.ofNat 32 (maskOf ((List.range 32).filter fun n => s.foxMutesStream k n))
  else w

/-- The keys that are installed, one bit for each identity (R394). -/
def State.keysPresent (s : State) : Nat := maskOf ((List.range 19).filter fun n => (s.keyOf n).isSome)

/-- SEC words that fuses and the journal give (R394, R398, R399). -/
def State.secSeen (s : State) (i : Init) (off : Nat) (w : Word) : Word :=
  let r := s.rootOf (s.rootSel i)
  if off = 0x040 then putBits w 3 2 s.sec.redeploy
  else if 0x054 ≤ off ∧ off < 0x07C then 0
  else if off = 0x080 then BitVec.ofNat 32 s.keysPresent
  else if off = 0x094 then BitVec.ofNat 32 ((if r.programmed then 0x80000000 else 0) + (if r.revoked then 0x40000000 else 0) + r.usage)
  else if 0x0A0 ≤ off ∧ off < 0x100 then r.key.getD ((off - 0x0A0) / 4) 0
  else if off = 0x104 then BitVec.ofNat 32 (s.sec.extSvn * 256 + s.sec.fwSvn)
  else w

/-- FHL_ALIGN_STAT.SLEWING: a path of the alignment slews (R311); the shadows of PTP time (R311). -/
def State.fhlSeen (s : State) (i : Init) (off : Nat) (w : Word) : Word :=
  if off = 0x18C then
    putBits w 26 26 (if s.paths.any fun p => s.fbit FHL_ALIGN_PATHS.PATHS 0 p && (s.pathRt p).slewTo.isSome then 1 else 0)
  else if off = 0x220 ∨ off = 0x224 then Tbl.get (fun _ => 0) s.shadow ((0x10000 + off) * 64 + i.holder)
  else w

/-- The staged descriptor reads as committed (R260); the pattern in force (R227). -/
def State.clsSeen (s : State) (i : Init) (off : Nat) (w : Word) : Word :=
  let r := s.carrier (s.fget CLS_CSEL.CAR i.holder)
  if off = 0x060 then r.pat1 else if off = 0x064 then r.pat2 else w

/-- CTX_COUNT of CHN_PATH_STATp: the contexts of the path that are not FREE (R82). -/
def State.chnSeen (s : State) (off : Nat) (w : Word) : Word :=
  if 0x200 ≤ off ∧ off < 0x400 ∧ off % 16 = 8 then putBits w 12 0 (s.ctxsOfPath ((off - 0x200) / 16)).length else w

/-- SCH_CE_LOAD.CAPACITY of the member (R89). -/
def State.schSeen (s : State) (off : Nat) (w : Word) : Word := if off = 0x0D0 then putBits w 15 0 (scaledCap s.member 20480) else w

/-- A word past the header as a reader sees it. -/
def State.blockSeen (s : State) (i : Init) (page off : Nat) : Word :=
  let w := s.word (s.regKey i page off)
  if page = pgSYS then s.sysSeen off w
  else if page = pgCHN then s.chnSeen off w
  else if page = pgSCH then s.schSeen off w
  else if page = pgCAN then s.canSeen i off w
  else if page = pgLIM then s.limSeen i off w
  else if page = pgGGR then s.ggrSeen i off w
  else if page = pgNPR then s.nprSeen i off w
  else if page = pgSEC then s.secSeen i off w
  else if page = pgFHL then s.fhlSeen i off w
  else if page = pgCLS then s.clsSeen i off w
  else if page = pgCLK ∧ off = 0x044 then Tbl.get (fun _ => 0) s.shadow (0x01044 * 64 + i.holder)
  else if page = pgFTM ∧ (off = 0x060 ∨ off = 0x068) then Tbl.get (fun _ => 0) s.shadow ((0x1A000 + off) * 64 + i.holder)
  else if page = pgFEL ∧ off = 0x0B4 then s.descWord (s.felSel i) (s.fget FEL_DSEL.WORD (s.felSel i))
  else w

/-! Reads with an effect. -/

/-- A read of FTM_GB_LO or FTM_GN_LO latches its upper word for the reader (R225). -/
def State.ftmLoRead (s : State) (i : Init) (off : Nat) : State :=
  let s := { s with shadow := Tbl.set (fun _ => 0) s.shadow ((0x1A000 + off + 4) * 64 + i.holder) (s.word (s.regKey i pgFTM (off + 4))) }
  s.answerRead i (s.word (s.regKey i pgFTM off))

/-- A read of HKA_CMn latches its s, a read of HKA_CSn answers the shadow (R54). -/
def State.hkaCoefRead (s : State) (i : Init) (off : Nat) : State :=
  let key := pgHKA * 0x1000 + off
  if (off - 0x408) % 16 = 0 then (s.setCoefShadow i (some (key, s.word (key + 4)))).answerRead i (s.word key)
  else s.readCoefS i (key - 4) (s.word key)

/-- CTXW_STATn (R50). -/
def Window.stat (w : Window) : Word :=
  BitVec.ofNat 32 ((if w.snap.isSome then 0x80000000 else 0) + (if w.pending then 0x40000000 else 0) + (if w.done then 0x20000000 else 0) +
    w.lastRefuse * 0x1000000 + w.lastCtx)

/-- A read of the CTXW page; another initiator's window is refused (R50). -/
def State.ctxwRead (s : State) (i : Init) (off : Nat) : State :=
  let w := s.window i.holder
  match windowAt off with
  | none => s.answerRead i 0
  | some (n, k) =>
    if n ≠ i.number then (s.refuseRead i pgCTXW .accessForm).noteRefuse i
    else if k = 0 then s.answerRead i (selWord false w.staged w.ctx)
    else if k = 1 then s.answerRead i w.stat
    else apertureRead i (k - 2) s

/-- The answer to an admitted read past the header. The challenge is not readable through the debug port (R402). -/
def State.blockRead (s : State) (i : Init) (page off : Nat) : State :=
  if page = pgCTXW then s.ctxwRead i off
  else if s.unitMissing i page off || (regAt page off).isNone then s.answerRead i 0
  else if page = pgCLK ∧ off = 0x040 then devtimeLoRead i s
  else if page = pgCAN ∧ (off = 0x408 ∨ off = 0x410 ∨ off = 0x418) then canCoefRead i off s
  else if page = pgCAN ∧ (off = 0x40C ∨ off = 0x414 ∨ off = 0x41C) then s.readCoefS i (s.regKey i page (off - 4)) (s.word (s.regKey i page off))
  else if page = pgCAN ∧ off = 0x44C then tapReRead i s
  else if page = pgCEN ∧ off = 0x0E4 then traceRead i s
  else if page = pgFTM ∧ (off = 0x05C ∨ off = 0x064) then s.ftmLoRead i off
  else if page = pgFHL ∧ off = 0x21C then ptpTimeRead i s
  else if page = pgHKA ∧ 0x408 ≤ off ∧ off < 0x608 ∧ (off - 0x408) % 16 < 8 then s.hkaCoefRead i off
  else if page = pgTRC ∧ off = 0x04C then s.trcRdData i
  else if page = pgDBG ∧ 0x050 ≤ off ∧ i = .debug then s.answerRead i 0
  else if page = pgEVR ∧ 0x064 ≤ off ∧ off < 0x084 then s.readRecWord i ((off - 0x064) / 4)
  else if page = pgTWT ∧ off = 0x044 then s.rxPop i
  else s.answerRead i (s.blockSeen i page off)

/-- The bytes that a sub-word read at an address returns (R35): `n` bytes of the enclosing word from the addressed one on. The spec gives no
byte order to the register bus; DESIGN CHOICE: byte 0 of a word is its least significant (log 20). -/
def subWord (w : Word) (addr n : Nat) : Word := BitVec.ofNat 32 (w.toNat / 256 ^ (addr % 4) % 256 ^ n)

/-- A read of the word that holds an address (R34, R35, R53). -/
def State.regRead (s : State) (i : Init) (addr : Nat) : State :=
  let page := addr / 0x1000
  let off := addr % 0x1000 / 4 * 4
  s.accessRead i page fun s =>
    if off < 0x040 then s.answerRead i (s.headerSeen i page off)
    else if off = 0x400 then s.answerRead i (s.word (SAT_COUNT.COUNT.key page))
    else s.blockRead i page off

/-- A read of `n` bytes at an address: the addressed bytes of the enclosing word (R35). -/
def State.regReadSub (s : State) (i : Init) (addr n : Nat) : State :=
  let t := s.regRead i addr
  t.answerRead i (subWord (t.readOf i) addr n)

end Sys2Proof.Machine
end

