-- ==== Sys2Proof/Machine/RegBus.lean ====
section
/-!
DEFINITION. The commands of the register bus (R35, R39, R40, R321), and the two commands after which held writes apply.
-/
namespace Sys2Proof.Machine

/-- REGISTER_WRITE: a write of a word at an address by an initiator; `sub` says that it is a write of less than 32 bits (R35). -/
def execRegisterWrite (who : Init) (addr : BitVec 18) (value : Word) (sub : Bool) (s : State) : Host.Outcome State Fault Refusal :=
  .next (s.regWrite who addr.toNat value sub)

/-- PAGE_CTRL with ENABLE and CRC_CHECK_EN as they stand, and further bits. -/
def State.ctrlWord (s : State) (page : Nat) (bits : Word) : Word := (s.word (PAGE_CTRL.ENABLE.key page) &&& 5) ||| bits

/-- SAT_CLR: a write of PAGE_CTRL.SAT_CLR zeroes SAT_COUNT (R39, R55). -/
def execSatClr (who : Init) (page : Fin 64) (s : State) : Host.Outcome State Fault Refusal :=
  .next (s.ctrlAccess who page.val (s.ctrlWord page.val 0x10))

/-- CFG_LOCK_SET: a write of PAGE_CTRL.CFG_LOCK := 1 (R39); only a chip reset clears the bit. -/
def execCfgLockSet (who : Init) (page : Fin 64) (s : State) : Host.Outcome State Fault Refusal :=
  .next (s.ctrlAccess who page.val (s.ctrlWord page.val 0x8))

/-- BLOCK_RESET: a write of PAGE_CTRL.BLOCK_RESET (R39, R479, R481). -/
def execBlockReset (who : Init) (page : Fin 64) (s : State) : Host.Outcome State Fault Refusal :=
  .next (s.ctrlAccess who page.val (s.ctrlWord page.val 0x2))

/-- CAN_SELFTEST_END: the self-test of an instance ends after 8 ms with a code, 0 for a pass (R134, R135); held writes apply (R40). -/
def execCanSelftestEnd (code : Fin 256) (s : State) : Host.Outcome State Fault Refusal :=
  .next (
    match s.can.selftest with
    | none => s
    | some (n, _) =>
      if s.timerDue tmCanTest n s.ms 8 then (s.selftestStop (if code.val = 0 then 1 else 2) code.val).applyHeld else s)

/-- SAMPLE_BLOCK: 64 samples of the transmit streams pass the limit gate (R131 to R133, R234, R235); what an onset ends lets held writes
apply. In STANDBY and SNOWDROP the sample array is gated (R406). -/
def execSampleBlock (streams : List TxBlock) (s : State) : Host.Outcome State Fault Refusal :=
  .next (if s.pwState < 2 ∧ s.domainRuns 0 then (s.sampleBlock streams).applyHeld else s)

/-! Rises at the collector: reaction 3 may reset the CAN page in a self-test, which ends the test; what it held applies (R40, R355). -/

/-- FAULT_RISE: the collector takes a rise of a source (R352). -/
def execFaultRise (src : Fin 160) (s : State) : Host.Outcome State Fault Refusal := .next ((s.takeRise src.val).afterTest s)

/-- FAULT_ESCALATION: a severe source's escalation time has expired, and it climbs (R352). -/
def execFaultEscalation (src : Fin 160) (s : State) : Host.Outcome State Fault Refusal := .next ((s.escalate src.val).afterTest s)

/-- FAULT_FORCE: a write of FLT_FORCEk (R350). -/
def execFaultForce (who : Init) (group : Fin 5) (bits : Word) (s : State) : Host.Outcome State Fault Refusal :=
  .next ((s.access who pgFLT (0x408 + 4 * group.val) bits (forceFault group.val bits)).afterTest s)

/-- FAULT_SPLIT: a write of FLT_TEST with SPLIT = 1 (R350). -/
def execFaultSplit (who : Init) (cap : Bool) (src : Fin 256) (s : State) : Host.Outcome State Fault Refusal :=
  let v := BitVec.ofNat 32 ((if cap then 0x80000000 else 0) + 0x40000000 + src.val)
  .next ((s.access who pgFLT 0x420 v (testWrite v)).afterTest s)

/-! Register packets (R321). -/

/-- An address names an absent page, or a register of an absent unit: a packet is refused (R6). -/
def State.addrAbsent (s : State) (i : Init) (addr : Nat) : Bool :=
  !s.pagePresent (addr / 0x1000) || (decide (0x040 ≤ addr % 0x1000) && s.unitMissing i (addr / 0x1000) (addr % 0x1000 / 4 * 4))

/-- What a run of register accesses has come to: the state, the bytes read, the first refusal with its index. -/
structure RegRun where
  s : State
  bytes : List Nat := []
  bad : Option (Nat × Nat) := none

/-- One read of a REG_READ. -/
def RegRun.read (i : Init) (r : RegRun) (k addr : Nat) : RegRun :=
  if r.bad.isSome then r
  else if r.s.addrAbsent i addr then { r with bad := some (k, Reason.unitAbsent.code) }
  else
    let t := r.s.regRead i addr
    if t.lastReason i ≠ 0 then { r with s := t, bad := some (k, t.lastReason i) }
    else { r with s := t, bytes := r.bytes ++ beBytes 4 (t.readOf i).toNat }

/-- One write of a REG_WRITE of a queue. What it writes may itself end the packet: once it has disabled the register function, the units that remain
are refused (R333), and once it has reset the engine, nothing remains (R335). -/
def RegRun.write (i : Init) (q : Nat) (r : RegRun) (k : Nat) (pair : List Nat) : RegRun :=
  if r.bad.isSome || (r.s.runningOf q).isNone then r
  else if 0 < k ∧ r.s.fnState 0 ≠ fnON then { r with bad := some (k, 0x15) }
  else
    let t := r.s.regWrite i (beValue (pair.take 4)) (BitVec.ofNat 32 (beValue (pair.drop 4))) false
    if t.lastReason i ≠ 0 then { r with s := t, bad := some (k, t.lastReason i) } else { r with s := t }

/-- A register packet of the state `s` ends: refused with the index of the refused access, cut short while its function drains, or served; one that
carried an accepted GO waits for the lifecycle request (R392). -/
def RegRun.finish (s : State) (r : RegRun) (q done asked : Nat) : State :=
  match r.bad with
  | some (k, code) => r.s.finish q (.refused code) k 0 r.bytes
  | none =>
    if done = asked ∧ s.sec.lcReq.isNone ∧ r.s.sec.lcReq.isSome then r.s.begun q
    else if done < asked then r.s.finish q (.refused 0x15) done 0 r.bytes else r.s.finish q .served 0 0 r.bytes

/-- REG_READ: N consecutive words (R321). -/
def execRegRead (queue : Fin 9) (s : State) : Host.Outcome State Fault Refusal :=
  .next (s.serve queue.val 0x02 fun p =>
    match p.who with
    | none => s
    | some id =>
      if p.payload ≠ [] then s.refused queue.val 0x11 0
      else if p.arg16 = 0 ∨ 256 < p.arg16 then s.refused queue.val Reason.outOfRange.code 0
      else
        let u := s.unitsOf p p.arg16
        (foldIdx (RegRun.read (.engine id)) { s := s } 0 ((List.range u).map fun k => p.arg32 + 4 * k)).finish s queue.val u p.arg16)

/-- REG_WRITE: pairs of address and value, in order (R321). A packet that resets the device with one of its writes is not answered. -/
def execRegWrite (queue : Fin 9) (s : State) : Host.Outcome State Fault Refusal :=
  .next (s.serve queue.val 0x03 fun p =>
    let n := p.payload.length / 8
    match p.who with
    | none => s
    | some id =>
      if p.payload.length % 8 ≠ 0 ∨ n = 0 ∨ 128 < n then s.refused queue.val 0x11 0
      else
        let u := s.unitsOf p n
        (foldIdx (RegRun.write (.engine id) queue.val) { s := s } 0 (entriesOf 8 p.payload u)).finish s queue.val u n)

end Sys2Proof.Machine
end

