-- ==== Sys2Proof/Machine/Dispatch.lean ====
section
/-!
DEFINITION. exec: one arm per command, each a direct call of that command's meaning.
-/
namespace Sys2Proof.Machine

def exec (i : Instr) (s : State) : Host.Outcome State Fault Refusal :=
  match i with
  | .registerWrite who addr value sub => Sys2Proof.Machine.execRegisterWrite who addr value sub s
  | .stoppedBlockAccessDone who page write => Sys2Proof.Machine.execStoppedBlockAccessDone who page write s
  | .devtimeLoRead who => Sys2Proof.Machine.execDevtimeLoRead who s
  | .pllaFirstLock => Sys2Proof.Machine.execPllaFirstLock s
  | .usStrobe => Sys2Proof.Machine.execUsStrobe s
  | .msStrobe upset => Sys2Proof.Machine.execMsStrobe upset s
  | .secondStrobe => Sys2Proof.Machine.execSecondStrobe s
  | .clockSupervisionWindow deviates refclkBad aonBad => Sys2Proof.Machine.execClockSupervisionWindow deviates refclkBad aonBad s
  | .pllLockLoss pll => Sys2Proof.Machine.execPllLockLoss pll s
  | .xtsReq who => Sys2Proof.Machine.execXtsReq who s
  | .xtsCaptureDone => Sys2Proof.Machine.execXtsCaptureDone s
  | .satClr who page => Sys2Proof.Machine.execSatClr who page s
  | .cfgLockSet who page => Sys2Proof.Machine.execCfgLockSet who page s
  | .blockReset who page => Sys2Proof.Machine.execBlockReset who page s
  | .crcPassComplete page good => Sys2Proof.Machine.execCrcPassComplete page good s
  | .crcStaleTimeout page => Sys2Proof.Machine.execCrcStaleTimeout page s
  | .selftestStart who page => Sys2Proof.Machine.execSelftestStart who page s
  | .evtStickyClear who page bits => Sys2Proof.Machine.execEvtStickyClear who page bits s
  | .evtForce who page bits => Sys2Proof.Machine.execEvtForce who page bits s
  | .evtCountSnap who page sel => Sys2Proof.Machine.execEvtCountSnap who page sel s
  | .eventRise page bit => Sys2Proof.Machine.execEventRise page bit s
  | .expertUnlockArm who page => Sys2Proof.Machine.execExpertUnlockArm who page s
  | .expertUnlockOpen who page => Sys2Proof.Machine.execExpertUnlockOpen who page s
  | .expertClose who page => Sys2Proof.Machine.execExpertClose who page s
  | .expertArmTimeout who page => Sys2Proof.Machine.execExpertArmTimeout who page s
  | .expertOpenTimeout who page => Sys2Proof.Machine.execExpertOpenTimeout who page s
  | .ownerWrite who page id => Sys2Proof.Machine.execOwnerWrite who page id s
  | .ctxwSelect who ctx mode => Sys2Proof.Machine.execCtxwSelect who ctx mode s
  | .ctxwSnapshot who => Sys2Proof.Machine.execCtxwSnapshot who s
  | .ctxwApertureWrite who word value => Sys2Proof.Machine.execCtxwApertureWrite who word value s
  | .ctxwApertureRead who word => Sys2Proof.Machine.execCtxwApertureRead who word s
  | .ctxwCommit who => Sys2Proof.Machine.execCtxwCommit who s
  | .ctxwCommitApply who => Sys2Proof.Machine.execCtxwCommitApply who s
  | .coefMWrite who pair value => Sys2Proof.Machine.execCoefMWrite who pair value s
  | .coefSWrite who pair value => Sys2Proof.Machine.execCoefSWrite who pair value s
  | .coefMRead who pair => Sys2Proof.Machine.execCoefMRead who pair s
  | .streamConfigWrite who stream value => Sys2Proof.Machine.execStreamConfigWrite who stream value s
  | .sampleBlock streams => Sys2Proof.Machine.execSampleBlock streams s
  | .pathCfgWrite who path value => Sys2Proof.Machine.execPathCfgWrite who path value s
  | .pathEnable who path => Sys2Proof.Machine.execPathEnable who path s
  | .pathDisable who path => Sys2Proof.Machine.execPathDisable who path s
  | .pathOff path => Sys2Proof.Machine.execPathOff path s
  | .winLoWrite who value => Sys2Proof.Machine.execWinLoWrite who value s
  | .windowCommit who hi => Sys2Proof.Machine.execWindowCommit who hi s
  | .windowApply path => Sys2Proof.Machine.execWindowApply path s
  | .delayWrite who path ns => Sys2Proof.Machine.execDelayWrite who path ns s
  | .delaySlewDone path => Sys2Proof.Machine.execDelaySlewDone path s
  | .ctxConfigure ctx => Sys2Proof.Machine.execCtxConfigure ctx s
  | .ctxStart ctx => Sys2Proof.Machine.execCtxStart ctx s
  | .ctxHold ctx => Sys2Proof.Machine.execCtxHold ctx s
  | .ctxResume ctx => Sys2Proof.Machine.execCtxResume ctx s
  | .ctxMute ctx => Sys2Proof.Machine.execCtxMute ctx s
  | .ctxStop ctx => Sys2Proof.Machine.execCtxStop ctx s
  | .ctxRelease ctx => Sys2Proof.Machine.execCtxRelease ctx s
  | .ctxOwnerWrite who ctx owner priv => Sys2Proof.Machine.execCtxOwnerWrite who ctx owner priv s
  | .imageLoadBegin who slot => Sys2Proof.Machine.execImageLoadBegin who slot s
  | .imageSlotFillDone => Sys2Proof.Machine.execImageSlotFillDone s
  | .imageLoadData who data => Sys2Proof.Machine.execImageLoadData who data s
  | .imageLoadEnd who slot length => Sys2Proof.Machine.execImageLoadEnd who slot length s
  | .imageLoadAbort who slot => Sys2Proof.Machine.execImageLoadAbort who slot s
  | .loadTimeout slot => Sys2Proof.Machine.execLoadTimeout slot s
  | .verifyDone slot sigOk recountOk => Sys2Proof.Machine.execVerifyDone slot sigOk recountOk s
  | .swapArm who drain fallback at_ group => Sys2Proof.Machine.execSwapArm who drain fallback at_ group s
  | .swapDisarm who => Sys2Proof.Machine.execSwapDisarm who s
  | .swapDrainsDone => Sys2Proof.Machine.execSwapDrainsDone s
  | .swapPointOfNoReturn => Sys2Proof.Machine.execSwapPointOfNoReturn s
  | .swapBoundary lostCaps => Sys2Proof.Machine.execSwapBoundary lostCaps s
  | .tableEccError double => Sys2Proof.Machine.execTableEccError double s
  | .tableScrub slot bad => Sys2Proof.Machine.execTableScrub slot bad s
  | .canEnable who => Sys2Proof.Machine.execCanEnable who s
  | .canDisable who => Sys2Proof.Machine.execCanDisable who s
  | .canModeWrite who mode => Sys2Proof.Machine.execCanModeWrite who mode s
  | .pauseExpired inst => Sys2Proof.Machine.execPauseExpired inst s
  | .linkFrozenExit inst => Sys2Proof.Machine.execLinkFrozenExit inst s
  | .clearTaps who => Sys2Proof.Machine.execClearTaps who s
  | .canBasicWrite who reg value => Sys2Proof.Machine.execCanBasicWrite who reg value s
  | .canMapWrite who value => Sys2Proof.Machine.execCanMapWrite who value s
  | .tapReWrite who re => Sys2Proof.Machine.execTapReWrite who re s
  | .tapImWrite who im => Sys2Proof.Machine.execTapImWrite who im s
  | .tapReRead who => Sys2Proof.Machine.execTapReRead who s
  | .subbandAdapt inst sb d refs mapBad => Sys2Proof.Machine.execSubbandAdapt inst sb d refs mapBad s
  | .marginUpdate inst => Sys2Proof.Machine.execMarginUpdate inst s
  | .isoReq who => Sys2Proof.Machine.execIsoReq who s
  | .isoPeriodExpired inst => Sys2Proof.Machine.execIsoPeriodExpired inst s
  | .isoWindowStart inst => Sys2Proof.Machine.execIsoWindowStart inst s
  | .isoWindowEnd inst mapBad => Sys2Proof.Machine.execIsoWindowEnd inst mapBad s
  | .clampHoldExpired stream => Sys2Proof.Machine.execClampHoldExpired stream s
  | .clampReleaseDone stream => Sys2Proof.Machine.execClampReleaseDone stream s
  | .canSelftestEnd code => Sys2Proof.Machine.execCanSelftestEnd code s
  | .contextTick ctx inp outp xcFull => Sys2Proof.Machine.execContextTick ctx inp outp xcFull s
  | .feAck ctx => Sys2Proof.Machine.execFeAck ctx s
  | .supplyCorrTimeout port => Sys2Proof.Machine.execSupplyCorrTimeout port s
  | .traceArm who mask => Sys2Proof.Machine.execTraceArm who mask s
  | .traceTrigNow who mask => Sys2Proof.Machine.execTraceTrigNow who mask s
  | .traceStop who mask => Sys2Proof.Machine.execTraceStop who mask s
  | .traceReadData who => Sys2Proof.Machine.execTraceReadData who s
  | .budgetAllocation => Sys2Proof.Machine.execBudgetAllocation s
  | .budgetHoldExpired ctx => Sys2Proof.Machine.execBudgetHoldExpired ctx s
  | .gridRowFreeze path row => Sys2Proof.Machine.execGridRowFreeze path row s
  | .gridRowRead path row => Sys2Proof.Machine.execGridRowRead path row s
  | .gridRowApply writer => Sys2Proof.Machine.execGridRowApply writer s
  | .gridEccError path row word double => Sys2Proof.Machine.execGridEccError path row word double s
  | .ggrWrQueue who rows => Sys2Proof.Machine.execGgrWrQueue who rows s
  | .symbolRowEnd path row strips => Sys2Proof.Machine.execSymbolRowEnd path row strips s
  | .frameBoundary group => Sys2Proof.Machine.execFrameBoundary group s
  | .boundaryCommit group => Sys2Proof.Machine.execBoundaryCommit group s
  | .tgroupEnable who => Sys2Proof.Machine.execTgroupEnable who s
  | .tgroupDisable who => Sys2Proof.Machine.execTgroupDisable who s
  | .timingObservation group secondary t index => Sys2Proof.Machine.execTimingObservation group secondary t index s
  | .flywheelTimeout group => Sys2Proof.Machine.execFlywheelTimeout group s
  | .holdoverTimeout group => Sys2Proof.Machine.execHoldoverTimeout group s
  | .timingSourceLost group => Sys2Proof.Machine.execTimingSourceLost group s
  | .priReturnTimer group => Sys2Proof.Machine.execPriReturnTimer group s
  | .ppsEdge t pulse => Sys2Proof.Machine.execPpsEdge t pulse s
  | .ppsWindowExpired => Sys2Proof.Machine.execPpsWindowExpired s
  | .ppsTimeout => Sys2Proof.Machine.execPpsTimeout s
  | .uartCharacter line => Sys2Proof.Machine.execUartCharacter line s
  | .nmeaSentence => Sys2Proof.Machine.execNmeaSentence s
  | .nmeaTimeout => Sys2Proof.Machine.execNmeaTimeout s
  | .clsEnable who en => Sys2Proof.Machine.execClsEnable who en s
  | .ssbDetection carrier pci snr pbchOk index => Sys2Proof.Machine.execSsbDetection carrier pci snr pbchOk index s
  | .ssbPosition carrier hit crcOk index => Sys2Proof.Machine.execSsbPosition carrier hit crcOk index s
  | .sib1Decoded carrier tdd pat1 pat2 => Sys2Proof.Machine.execSib1Decoded carrier tdd pat1 pat2 s
  | .sib1Timeout carrier => Sys2Proof.Machine.execSib1Timeout carrier s
  | .sib1PeriodExpired carrier => Sys2Proof.Machine.execSib1PeriodExpired carrier s
  | .patternApply who => Sys2Proof.Machine.execPatternApply who s
  | .wheelRowPlan path row => Sys2Proof.Machine.execWheelRowPlan path row s
  | .pinEvent port pin => Sys2Proof.Machine.execPinEvent port pin s
  | .prefireRevoke path row => Sys2Proof.Machine.execPrefireRevoke path row s
  | .regCommit who => Sys2Proof.Machine.execRegCommit who s
  | .regRestage who => Sys2Proof.Machine.execRegRestage who s
  | .oscNegTimeout stream => Sys2Proof.Machine.execOscNegTimeout stream s
  | .noiseTrigTimeout ctx => Sys2Proof.Machine.execNoiseTrigTimeout ctx s
  | .oobTimeout stream => Sys2Proof.Machine.execOobTimeout stream s
  | .foxgloveTrigger cause => Sys2Proof.Machine.execFoxgloveTrigger cause s
  | .foxStopped slot => Sys2Proof.Machine.execFoxStopped slot s
  | .foxBackoffExpired slot => Sys2Proof.Machine.execFoxBackoffExpired slot s
  | .foxSlotClear who => Sys2Proof.Machine.execFoxSlotClear who s
  | .foxChainsReady slot => Sys2Proof.Machine.execFoxChainsReady slot s
  | .foxRetryGood slot => Sys2Proof.Machine.execFoxRetryGood slot s
  | .nprRemoteMute who domain => Sys2Proof.Machine.execNprRemoteMute who domain s
  | .nprRemoteClear who domain => Sys2Proof.Machine.execNprRemoteClear who domain s
  | .felFrameSlot port => Sys2Proof.Machine.execFelFrameSlot port s
  | .felFrameResponse port crcOk ack seq data ready state flags => Sys2Proof.Machine.execFelFrameResponse port crcOk ack seq data ready state flags s
  | .felLinkTimeout port => Sys2Proof.Machine.execFelLinkTimeout port s
  | .felDescCommit who => Sys2Proof.Machine.execFelDescCommit who s
  | .chainTargetWrite who target => Sys2Proof.Machine.execChainTargetWrite who target s
  | .chainStateReached port => Sys2Proof.Machine.execChainStateReached port s
  | .chainTransitionTimeout port => Sys2Proof.Machine.execChainTransitionTimeout port s
  | .calReqRxiq who => Sys2Proof.Machine.execCalReqRxiq who s
  | .calReqRxgain who => Sys2Proof.Machine.execCalReqRxgain who s
  | .calibrationDone port pass rxc => Sys2Proof.Machine.execCalibrationDone port pass rxc s
  | .loWrite who khz => Sys2Proof.Machine.execLoWrite who khz s
  | .feClear who => Sys2Proof.Machine.execFeClear who s
  | .autopoll port temp => Sys2Proof.Machine.execAutopoll port temp s
  | .detectorTimeout port => Sys2Proof.Machine.execDetectorTimeout port s
  | .moduleTempTimeout port => Sys2Proof.Machine.execModuleTempTimeout port s
  | .mismatchHoldExpired port => Sys2Proof.Machine.execMismatchHoldExpired port s
  | .mismatchGoodTimer port => Sys2Proof.Machine.execMismatchGoodTimer port s
  | .tunerStepTimer port => Sys2Proof.Machine.execTunerStepTimer port s
  | .tunerCodeWrite who code => Sys2Proof.Machine.execTunerCodeWrite who code s
  | .grantSample pair port grant => Sys2Proof.Machine.execGrantSample pair port grant s
  | .grantFall pair => Sys2Proof.Machine.execGrantFall pair s
  | .jlkRxEnable who group => Sys2Proof.Machine.execJlkRxEnable who group s
  | .jlkTxEnable who group => Sys2Proof.Machine.execJlkTxEnable who group s
  | .lanePllLocked group => Sys2Proof.Machine.execLanePllLocked group s
  | .laneSyncLocked group lock => Sys2Proof.Machine.execLaneSyncLocked group lock s
  | .sysrefEdge off => Sys2Proof.Machine.execSysrefEdge off s
  | .sysrefTimeout group => Sys2Proof.Machine.execSysrefTimeout group s
  | .jlkRun group => Sys2Proof.Machine.execJlkRun group s
  | .jlkMultiblock group dev crcErrs bitErrs => Sys2Proof.Machine.execJlkMultiblock group dev crcErrs bitErrs s
  | .jlkRxLinkLost group pll => Sys2Proof.Machine.execJlkRxLinkLost group pll s
  | .jlkRelockTimeout group => Sys2Proof.Machine.execJlkRelockTimeout group s
  | .jlkTxAlarm group active => Sys2Proof.Machine.execJlkTxAlarm group active s
  | .jlkPatternWrite who group pattern => Sys2Proof.Machine.execJlkPatternWrite who group pattern s
  | .equaliserReadapt => Sys2Proof.Machine.execEqualiserReadapt s
  | .fhLaneUp side lane => Sys2Proof.Machine.execFhLaneUp side lane s
  | .fhLaneDown side lane hiber => Sys2Proof.Machine.execFhLaneDown side lane hiber s
  | .fhPreemptVerify side ok => Sys2Proof.Machine.execFhPreemptVerify side ok s
  | .fhFrameReceived side lane frame arrival => Sys2Proof.Machine.execFhFrameReceived side lane frame arrival s
  | .fhFlowEnable who flow en => Sys2Proof.Machine.execFhFlowEnable who flow en s
  | .fhFlowTimeout flow => Sys2Proof.Machine.execFhFlowTimeout flow s
  | .fhFeedSwitch feed => Sys2Proof.Machine.execFhFeedSwitch feed s
  | .fhFeedReturnTimer feed => Sys2Proof.Machine.execFhFeedReturnTimer feed s
  | .fhTxFrame flow blocks => Sys2Proof.Machine.execFhTxFrame flow blocks s
  | .ptpSyncTimeout => Sys2Proof.Machine.execPtpSyncTimeout s
  | .ptpFreqWrite who freq => Sys2Proof.Machine.execPtpFreqWrite who freq s
  | .ptpStep who ns => Sys2Proof.Machine.execPtpStep who ns s
  | .hopMeasPeriod => Sys2Proof.Machine.execHopMeasPeriod s
  | .hopNsTimeout => Sys2Proof.Machine.execHopNsTimeout s
  | .alignPeriod => Sys2Proof.Machine.execAlignPeriod s
  | .alignMessageTimeout => Sys2Proof.Machine.execAlignMessageTimeout s
  | .ptpTimeRead who => Sys2Proof.Machine.execPtpTimeRead who s
  | .packetReceived transport source pkt => Sys2Proof.Machine.execPacketReceived transport source pkt s
  | .pcieRqProduce who cls index => Sys2Proof.Machine.execPcieRqProduce who cls index s
  | .pcieAnConsume who cls index => Sys2Proof.Machine.execPcieAnConsume who cls index s
  | .pcieRingEnable who cls en => Sys2Proof.Machine.execPcieRingEnable who cls en s
  | .pcieLinkChange up speed width => Sys2Proof.Machine.execPcieLinkChange up speed width s
  | .mgeFrame frame => Sys2Proof.Machine.execMgeFrame frame s
  | .mgeLinkTimeout => Sys2Proof.Machine.execMgeLinkTimeout s
  | .bufferAllocate requester busy => Sys2Proof.Machine.execBufferAllocate requester busy s
  | .packetExecute => Sys2Proof.Machine.execPacketExecute s
  | .queueTimeout queue => Sys2Proof.Machine.execQueueTimeout queue s
  | .hostTimeout => Sys2Proof.Machine.execHostTimeout s
  | .info queue => Sys2Proof.Machine.execInfo queue s
  | .regRead queue => Sys2Proof.Machine.execRegRead queue s
  | .regWrite queue => Sys2Proof.Machine.execRegWrite queue s
  | .timeRead queue => Sys2Proof.Machine.execTimeRead queue s
  | .imageSeg queue => Sys2Proof.Machine.execImageSeg queue s
  | .tapRead queue => Sys2Proof.Machine.execTapRead queue s
  | .tapWrite queue => Sys2Proof.Machine.execTapWrite queue s
  | .ctxRead queue => Sys2Proof.Machine.execCtxRead queue s
  | .ctxWrite queue => Sys2Proof.Machine.execCtxWrite queue s
  | .gridSc queue => Sys2Proof.Machine.execGridSc queue s
  | .gridWr queue => Sys2Proof.Machine.execGridWr queue s
  | .beam queue => Sys2Proof.Machine.execBeam queue s
  | .remoteMute queue => Sys2Proof.Machine.execRemoteMute queue s
  | .remoteMuteClear queue => Sys2Proof.Machine.execRemoteMuteClear queue s
  | .foxClear queue => Sys2Proof.Machine.execFoxClear queue s
  | .capOpen queue slotOk => Sys2Proof.Machine.execCapOpen queue slotOk s
  | .capClose queue => Sys2Proof.Machine.execCapClose queue s
  | .capRead queue => Sys2Proof.Machine.execCapRead queue s
  | .traceRead queue => Sys2Proof.Machine.execTraceRead queue s
  | .recRead queue => Sys2Proof.Machine.execRecRead queue s
  | .report => Sys2Proof.Machine.execReport s
  | .capData session => Sys2Proof.Machine.execCapData session s
  | .fnDisable who fn => Sys2Proof.Machine.execFnDisable who fn s
  | .fnEnable who fn => Sys2Proof.Machine.execFnEnable who fn s
  | .fnDrained fn => Sys2Proof.Machine.execFnDrained fn s
  | .capSessionStart session => Sys2Proof.Machine.execCapSessionStart session s
  | .captureRecord session first samples queueFull => Sys2Proof.Machine.execCaptureRecord session first samples queueFull s
  | .capScmdClose who => Sys2Proof.Machine.execCapScmdClose who s
  | .capDestTimeout session => Sys2Proof.Machine.execCapDestTimeout session s
  | .faultRise src => Sys2Proof.Machine.execFaultRise src s
  | .dualPolarityConfirmed src stands => Sys2Proof.Machine.execDualPolarityConfirmed src stands s
  | .faultWindowExpired src => Sys2Proof.Machine.execFaultWindowExpired src s
  | .faultEscalation src => Sys2Proof.Machine.execFaultEscalation src s
  | .faultAck who src => Sys2Proof.Machine.execFaultAck who src s
  | .faultForce who group bits => Sys2Proof.Machine.execFaultForce who group bits s
  | .faultSplit who cap src => Sys2Proof.Machine.execFaultSplit who cap src s
  | .faultConfigWrite who react value => Sys2Proof.Machine.execFaultConfigWrite who react value s
  | .collectorSelfcheckFail => Sys2Proof.Machine.execCollectorSelfcheckFail s
  | .errHealthyWrite who => Sys2Proof.Machine.execErrHealthyWrite who s
  | .safeCauseClear who => Sys2Proof.Machine.execSafeCauseClear who s
  | .recordPost code p0 p1 p2 => Sys2Proof.Machine.execRecordPost code p0 p1 p2 s
  | .recordIntake => Sys2Proof.Machine.execRecordIntake s
  | .recorderEpochWrap => Sys2Proof.Machine.execRecorderEpochWrap s
  | .segmentCommit => Sys2Proof.Machine.execSegmentCommit s
  | .evrFlush who => Sys2Proof.Machine.execEvrFlush who s
  | .evrRdDataRead who k => Sys2Proof.Machine.execEvrRdDataRead who k s
  | .evrClear who confirm => Sys2Proof.Machine.execEvrClear who confirm s
  | .evrClearComplete => Sys2Proof.Machine.execEvrClearComplete s
  | .journalWrite => Sys2Proof.Machine.execJournalWrite s
  | .nvOperationStart => Sys2Proof.Machine.execNvOperationStart s
  | .nvOperationDone ok => Sys2Proof.Machine.execNvOperationDone ok s
  | .nvaProgram who => Sys2Proof.Machine.execNvaProgram who s
  | .nvaErase who => Sys2Proof.Machine.execNvaErase who s
  | .nvaAbort who => Sys2Proof.Machine.execNvaAbort who s
  | .bootselRequest who bank fwSig extSig => Sys2Proof.Machine.execBootselRequest who bank fwSig extSig s
  | .holdupVoltageSample code => Sys2Proof.Machine.execHoldupVoltageSample code s
  | .holdupChargeReading uv => Sys2Proof.Machine.execHoldupChargeReading uv s
  | .holdupVTimeout => Sys2Proof.Machine.execHoldupVTimeout s
  | .holdupQTimeout => Sys2Proof.Machine.execHoldupQTimeout s
  | .holdupEstimateUpdate => Sys2Proof.Machine.execHoldupEstimateUpdate s
  | .holdupDisagreeTimer => Sys2Proof.Machine.execHoldupDisagreeTimer s
  | .holdupRebase => Sys2Proof.Machine.execHoldupRebase s
  | .energyRetest => Sys2Proof.Machine.execEnergyRetest s
  | .energyBlockTimeout => Sys2Proof.Machine.execEnergyBlockTimeout s
  | .nvHostEnergyTimeout => Sys2Proof.Machine.execNvHostEnergyTimeout s
  | .holdupReadyTimeout => Sys2Proof.Machine.execHoldupReadyTimeout s
  | .powerFail => Sys2Proof.Machine.execPowerFail s
  | .powerFailRecovery => Sys2Proof.Machine.execPowerFailRecovery s
  | .lifecycleGo who target confirm => Sys2Proof.Machine.execLifecycleGo who target confirm s
  | .fuseBurnDone outcome => Sys2Proof.Machine.execFuseBurnDone outcome s
  | .keyInstall who plain staged => Sys2Proof.Machine.execKeyInstall who plain staged s
  | .keyErase who => Sys2Proof.Machine.execKeyErase who s
  | .pcieRoleWrite who role => Sys2Proof.Machine.execPcieRoleWrite who role s
  | .rootProgram who usage => Sys2Proof.Machine.execRootProgram who usage s
  | .rootRevoke who => Sys2Proof.Machine.execRootRevoke who s
  | .svnAdvance who => Sys2Proof.Machine.execSvnAdvance who s
  | .debugAuth level slot signed sigOk => Sys2Proof.Machine.execDebugAuth level slot signed sigOk s
  | .debugChallengeExpired => Sys2Proof.Machine.execDebugChallengeExpired s
  | .debugLockoutExpired => Sys2Proof.Machine.execDebugLockoutExpired s
  | .debugClose who => Sys2Proof.Machine.execDebugClose who s
  | .debugIdleTimeout => Sys2Proof.Machine.execDebugIdleTimeout s
  | .jtagInstruction op => Sys2Proof.Machine.execJtagInstruction op s
  | .powerToActive who drain keepFh => Sys2Proof.Machine.execPowerToActive who drain keepFh s
  | .powerToLean who drain keepFh => Sys2Proof.Machine.execPowerToLean who drain keepFh s
  | .powerToStandby who drain keepFh => Sys2Proof.Machine.execPowerToStandby who drain keepFh s
  | .powerToSnowdrop who drain keepFh => Sys2Proof.Machine.execPowerToSnowdrop who drain keepFh s
  | .powerTransitionDone cd41 => Sys2Proof.Machine.execPowerTransitionDone cd41 s
  | .wakePin pin level => Sys2Proof.Machine.execWakePin pin level s
  | .wakeTimerExpired => Sys2Proof.Machine.execWakeTimerExpired s
  | .wakePinStuck pin => Sys2Proof.Machine.execWakePinStuck pin s
  | .wake cycles v => Sys2Proof.Machine.execWake cycles v s
  | .traceWord source aux payload => Sys2Proof.Machine.execTraceWord source aux payload s
  | .trcRdDataRead who => Sys2Proof.Machine.execTrcRdDataRead who s
  | .hkaStart who conv => Sys2Proof.Machine.execHkaStart who conv s
  | .hkaScanTimer conv => Sys2Proof.Machine.execHkaScanTimer conv s
  | .hkaConversionDone conv code => Sys2Proof.Machine.execHkaConversionDone conv code s
  | .hkaUrgentRequest who ch div => Sys2Proof.Machine.execHkaUrgentRequest who ch div s
  | .hkaCal who conv => Sys2Proof.Machine.execHkaCal who conv s
  | .hkaCalDone conv pass off gain => Sys2Proof.Machine.execHkaCalDone conv pass off gain s
  | .hkaAbort who conv => Sys2Proof.Machine.execHkaAbort who conv s
  | .vrefextCheck mv => Sys2Proof.Machine.execVrefextCheck mv s
  | .refSettled conv => Sys2Proof.Machine.execRefSettled conv s
  | .pwmPeriodStart ch => Sys2Proof.Machine.execPwmPeriodStart ch s
  | .ilimAssert ch level => Sys2Proof.Machine.execIlimAssert ch level s
  | .ilimOffTimeout ch => Sys2Proof.Machine.execIlimOffTimeout ch s
  | .pwmEnable who ch => Sys2Proof.Machine.execPwmEnable who ch s
  | .pwmDisable who ch => Sys2Proof.Machine.execPwmDisable who ch s
  | .pwmHoldExpired ch => Sys2Proof.Machine.execPwmHoldExpired ch s
  | .pwmClear who ch => Sys2Proof.Machine.execPwmClear who ch s
  | .pwmRunTimer ch => Sys2Proof.Machine.execPwmRunTimer ch s
  | .tachEdge fan gap dir => Sys2Proof.Machine.execTachEdge fan gap dir s
  | .fanStallTimeout fan => Sys2Proof.Machine.execFanStallTimeout fan s
  | .fanFailTimeout fan => Sys2Proof.Machine.execFanFailTimeout fan s
  | .sensorReading sensor t => Sys2Proof.Machine.execSensorReading sensor t s
  | .sensorTimeout sensor => Sys2Proof.Machine.execSensorTimeout sensor s
  | .thermalRateUpdate => Sys2Proof.Machine.execThermalRateUpdate s
  | .hardTempComparator sensor on => Sys2Proof.Machine.execHardTempComparator sensor on s
  | .twbGo who bus => Sys2Proof.Machine.execTwbGo who bus s
  | .twbTransactionStart bus => Sys2Proof.Machine.execTwbTransactionStart bus s
  | .twbTransactionEnd bus reply => Sys2Proof.Machine.execTwbTransactionEnd bus reply s
  | .twbArbitrationLost bus at_ => Sys2Proof.Machine.execTwbArbitrationLost bus at_ s
  | .twbTimeout bus => Sys2Proof.Machine.execTwbTimeout bus s
  | .twbBusRecoveryDone bus ok => Sys2Proof.Machine.execTwbBusRecoveryDone bus ok s
  | .twbRecoveryRetry bus => Sys2Proof.Machine.execTwbRecoveryRetry bus s
  | .twbIdleDetect bus => Sys2Proof.Machine.execTwbIdleDetect bus s
  | .twbAttention bus => Sys2Proof.Machine.execTwbAttention bus s
  | .twbDisable who bus => Sys2Proof.Machine.execTwbDisable who bus s
  | .twtAddress addr read => Sys2Proof.Machine.execTwtAddress addr read s
  | .twtByteReceived byte => Sys2Proof.Machine.execTwtByteReceived byte s
  | .twtByteRequested => Sys2Proof.Machine.execTwtByteRequested s
  | .twtStop => Sys2Proof.Machine.execTwtStop s
  | .twtStretchTimeout => Sys2Proof.Machine.execTwtStretchTimeout s
  | .twtStuck => Sys2Proof.Machine.execTwtStuck s
  | .twtRxPop who => Sys2Proof.Machine.execTwtRxPop who s
  | .twtTxPush who last byte => Sys2Proof.Machine.execTwtTxPush who last byte s
  | .twtAttn who us cut => Sys2Proof.Machine.execTwtAttn who us cut s
  | .twtFlush who => Sys2Proof.Machine.execTwtFlush who s
  | .twtWakeMatch addr read => Sys2Proof.Machine.execTwtWakeMatch addr read s
  | .twtWakeTimeout => Sys2Proof.Machine.execTwtWakeTimeout s
  | .powerOnReset low => Sys2Proof.Machine.execPowerOnReset low s
  | .resetPin low => Sys2Proof.Machine.execResetPin low s
  | .rstChip who confirm => Sys2Proof.Machine.execRstChip who confirm s
  | .rstPairA who confirm => Sys2Proof.Machine.execRstPairA who confirm s
  | .rstPairB who confirm => Sys2Proof.Machine.execRstPairB who confirm s
  | .primroseStep v => Sys2Proof.Machine.execPrimroseStep v s
  | .watchdogKick who pair key => Sys2Proof.Machine.execWatchdogKick who pair key s
  | .watchdogExpired pair => Sys2Proof.Machine.execWatchdogExpired pair s
  | .bootWatchdogExpired => Sys2Proof.Machine.execBootWatchdogExpired s
  | .aonWatchdogKick who key => Sys2Proof.Machine.execAonWatchdogKick who key s
  | .aonWatchdogExpired => Sys2Proof.Machine.execAonWatchdogExpired s
  | .pciePerst low => Sys2Proof.Machine.execPciePerst low s
  | .gpioInputChange pin level => Sys2Proof.Machine.execGpioInputChange pin level s
  | .mgeLinkChange up => Sys2Proof.Machine.execMgeLinkChange up s
  | .nmeaLabelTimeout => Sys2Proof.Machine.execNmeaLabelTimeout s
  | .grantHighTimeout pair => Sys2Proof.Machine.execGrantHighTimeout pair s
  | .idleBusHeldLow bus sda => Sys2Proof.Machine.execIdleBusHeldLow bus sda s
  | .twtBusReleased => Sys2Proof.Machine.execTwtBusReleased s

end Sys2Proof.Machine
end

