-- ==== Sys2Proof/Machine/Step.lean ====
section
/-!
DEFINITION. step: the command at the front of the queue, or one tick of device time when none waits.
-/
namespace Sys2Proof.Machine

/-- With no command waiting, device time advances by one tick while PLL-A runs (R21); nothing else changes. -/
def State.tick (s : State) : State :=
  if s.time.started && s.fon CLK_PLL_STAT.PLLA_LOCK 0 then { s with time := { s.time with devTime := (s.time.devTime + 1) % 2 ^ 64 } } else s

/-- One step: the command at the front of the queue acts on the state with the queue's rest. -/
def step (s : State) : Host.Outcome State Fault Refusal :=
  match s.pending with
  | [] => .next s.tick
  | c :: rest => exec c { s with pending := rest }

/-- The state with the command that a word spells at the front of its queue; unchanged where the word spells none. -/
def State.withFetchWord (s : State) (nbits w : Nat) : State :=
  match decodeTableWord nbits w with
  | none => s
  | some c => { s with pending := c :: s.pending }

end Sys2Proof.Machine
end

