-- ==== Sys2Proof/Safety.lean ====
section
/-!
DEFINITION. What counts as a safe run, and the terms in which claims say what a command leaves alone: the parts of the state, the registers,
and the canonical form of the tables.
-/
namespace Sys2Proof.Machine

/-- A step goes on. -/
def Goes (o : Host.Outcome State Fault Refusal) : Prop := ∃ t, o = .next t

/-- A run of n steps goes on. -/
def SafeRun (n : Nat) (s : State) : Prop := Goes (Host.Core.run Sys2Proof.core n s)

/-- The parts of the state but for the register words: its fields, the fuse-backed and key state of the SEC block one by one, the bytes of the
NV array and the bytes of the image tables. -/
inductive Part where
  | member
  | ctx
  | timers
  | time
  | evtCount
  | evtShadow
  | expert
  | shadow
  | coefStage
  | coefShadow
  | windows
  | heldWrites
  | rdata
  | busRefuse
  | xts
  | clockDev
  | lostIn
  | crcPass
  | released
  | gated
  | flt
  | evr
  | nva
  | hup
  | reports
  | sec
  | dbg
  | trc
  | pwr
  | chn
  | sch
  | can
  | cen
  | npr
  | fel
  | ggr
  | ftm
  | gcp
  | fhl
  | hk
  | twb
  | twt
  | rst
  | free
  | pending
  | secLc
  | secSecondWord
  | secRedeploy
  | secLcReq
  | secKeys
  | secKeyReq
  | secRoots
  | secFwSvn
  | secExtSvn
  | secExtRun
  | secRoleCommitted
  | secBootBank
  | nvBytes
  | schImg
deriving DecidableEq, Repr

/-- Two states agree on a part. -/
def Part.same (s t : State) : Part → Prop
  | .member => t.member = s.member
  | .ctx => t.ctx = s.ctx
  | .timers => t.timers = s.timers
  | .time => t.time = s.time
  | .evtCount => t.evtCount = s.evtCount
  | .evtShadow => t.evtShadow = s.evtShadow
  | .expert => t.expert = s.expert
  | .shadow => t.shadow = s.shadow
  | .coefStage => t.coefStage = s.coefStage
  | .coefShadow => t.coefShadow = s.coefShadow
  | .windows => t.windows = s.windows
  | .heldWrites => t.heldWrites = s.heldWrites
  | .rdata => t.rdata = s.rdata
  | .busRefuse => t.busRefuse = s.busRefuse
  | .xts => t.xts = s.xts
  | .clockDev => t.clockDev = s.clockDev
  | .lostIn => t.lostIn = s.lostIn
  | .crcPass => t.crcPass = s.crcPass
  | .released => t.released = s.released
  | .gated => t.gated = s.gated
  | .flt => t.flt = s.flt
  | .evr => t.evr = s.evr
  | .nva => t.nva = s.nva
  | .hup => t.hup = s.hup
  | .reports => t.reports = s.reports
  | .sec => t.sec = s.sec
  | .dbg => t.dbg = s.dbg
  | .trc => t.trc = s.trc
  | .pwr => t.pwr = s.pwr
  | .chn => t.chn = s.chn
  | .sch => t.sch = s.sch
  | .can => t.can = s.can
  | .cen => t.cen = s.cen
  | .npr => t.npr = s.npr
  | .fel => t.fel = s.fel
  | .ggr => t.ggr = s.ggr
  | .ftm => t.ftm = s.ftm
  | .gcp => t.gcp = s.gcp
  | .fhl => t.fhl = s.fhl
  | .hk => t.hk = s.hk
  | .twb => t.twb = s.twb
  | .twt => t.twt = s.twt
  | .rst => t.rst = s.rst
  | .free => t.free = s.free
  | .pending => t.pending = s.pending
  | .secLc => t.sec.lc = s.sec.lc
  | .secSecondWord => t.sec.secondWord = s.sec.secondWord
  | .secRedeploy => t.sec.redeploy = s.sec.redeploy
  | .secLcReq => t.sec.lcReq = s.sec.lcReq
  | .secKeys => t.sec.keys = s.sec.keys
  | .secKeyReq => t.sec.keyReq = s.sec.keyReq
  | .secRoots => t.sec.roots = s.sec.roots
  | .secFwSvn => t.sec.fwSvn = s.sec.fwSvn
  | .secExtSvn => t.sec.extSvn = s.sec.extSvn
  | .secExtRun => t.sec.extRun = s.sec.extRun
  | .secRoleCommitted => t.sec.roleCommitted = s.sec.roleCommitted
  | .secBootBank => t.sec.bootBank = s.sec.bootBank
  | .nvBytes => t.nva.bytes = s.nva.bytes
  | .schImg => t.sch.img = s.sch.img

/-- `t` differs from `s` at most in the parts and in the registers listed, a register with all its units: every other part is the same, and
every other register word reads the same. -/
def Untouched (parts : List Part) (regs : List Fld) (s t : State) : Prop :=
  (∀ p, p ∉ parts → p.same s t) ∧ (∀ k, (∀ f ∈ regs, ∀ u, k ≠ f.key u) → t.word k = s.word k)

/-- The canonical form of a state: in each of its tables keys rise strictly and no entry is what an unlisted key reads as, so that equal
contents are equal data. -/
structure Canonical (s : State) : Prop where
  regs : Tbl.wf regReset s.regs = true
  ctx : Tbl.wf ctxReset s.ctx = true
  timers : Tbl.wf (fun _ => 0) s.timers = true
  evtCount : Tbl.wf (fun _ => 0) s.evtCount = true
  evtShadow : Tbl.wf (fun _ => none) s.evtShadow = true
  expert : Tbl.wf (fun _ => {}) s.expert = true
  shadow : Tbl.wf (fun _ => 0) s.shadow = true
  coefStage : Tbl.wf (fun _ => none) s.coefStage = true
  coefShadow : Tbl.wf (fun _ => none) s.coefShadow = true
  windows : Tbl.wf (fun _ => {}) s.windows = true
  rdata : Tbl.wf (fun _ => 0) s.rdata = true
  busRefuse : Tbl.wf (fun _ => 0) s.busRefuse = true
  clockDev : Tbl.wf (fun _ => 0) s.clockDev = true
  lostIn : Tbl.wf (fun _ => false) s.lostIn = true
  crcPass : Tbl.wf (fun _ => false) s.crcPass = true
  released : Tbl.wf (fun _ => false) s.released = true
  gated : Tbl.wf (fun _ => false) s.gated = true
  twb : Tbl.wf (fun _ => {}) s.twb = true
  nvBytes : Tbl.wf (fun _ => 0xFF) s.nva.bytes = true
  schImg : Tbl.wf (fun _ => 0) s.sch.img = true

/-- The register bus lets a write at an offset of a page through to the register itself: the page is present (R6) and runs (R36), pair A is not in
ROM recovery (R400), the initiator reaches registers (R396, R402), `adm` admits it, the word is not locked (R39) and no self-test holds the write
(R40). -/
abbrev Admits (adm : State → Option Reason) (s : State) (who : Init) (page off : Nat) : Prop :=
  s.pagePresent page = true ∧ s.running page = true ∧ s.rst.recovery = false ∧ s.reaches who = true ∧ adm ((s.portEdge who).disarm who page) = none ∧
    (s.fon PAGE_CTRL.CFG_LOCK page && countedAt page off) = false ∧ s.fon PAGE_STAT.SELFTEST_ACTIVE page = false

/-- The same under the admission of R46 to R48. -/
abbrev Admitted (s : State) (who : Init) (page off : Nat) : Prop := Admits (fun u => u.admitWrite who page off) s who page off

/-- The register bus lets a read of a page through to the register itself (R6, R36, R48, R400, R402). -/
abbrev Readable (s : State) (who : Init) (page : Nat) : Prop :=
  s.pagePresent page = true ∧ (s.rst.recovery = true → romShows page = true) ∧ ((s.identOf who).isSome = true ∨ (page = pgSYS ∧ who ≠ .debug)) ∧
    s.admitRead who page = none

/-- The last access of an initiator was accepted (R49). -/
abbrev Took (t : State) (who : Init) : Prop := t.lastReason who = 0

/-- The bytes of a packet as it leaves: INFO without a tag, any other with its tag under the packet key of its identity (R313, R317). -/
abbrev Tagged (t : State) (o : OutPkt) (w : List Nat) : Prop :=
  if o.typ = 0x01 then w = o.bytes else ∀ k, t.packetKey o.keyId = some k → w = o.bytes ++ t.tagUnder k o.transport o.bytes

/-- A packet has gone to its transport with its bytes, or waits for room in its answer ring (R11, R325). -/
abbrev Sent (s : State) (o : OutPkt) (t : State) : Prop :=
  (∃ w, t.gcp.out = s.gcp.out ++ [{ o with wire := w }] ∧ Tagged t o w ∧ t.gcp.anWait = s.gcp.anWait) ∨ (t.gcp.out = s.gcp.out ∧ t.anWaiting o.cls = s.anWaiting o.cls ++ [o])

/-- The request that ran from a queue has ended, and its answer with this verdict, ARG16, ARG32 and payload is sent (R315). -/
abbrev Answered (s : State) (q : Nat) (p : Pkt) (v : Verdict) (detail retry : Nat) (payload : List Nat) (t : State) : Prop :=
  t.runningOf q = none ∧ Sent s { p.answer v detail retry payload with buf := true } t

/-- The reads that a REG_READ of an identity makes with its function ON (R321). -/
abbrev regReads (s : State) (id : Ident) (p : Pkt) : RegRun :=
  foldIdx (RegRun.read (.engine id)) { s := s } 0 ((List.range p.arg16).map fun k => p.arg32 + 4 * k)

/-- The writes that a REG_WRITE of a queue makes for an identity with its function ON (R321). -/
abbrev regWrites (s : State) (id : Ident) (q : Nat) (p : Pkt) : RegRun :=
  foldIdx (RegRun.write (.engine id) q) { s := s } 0 (entriesOf 8 p.payload (p.payload.length / 8))

/-- What the entries of a GRID_SC packet come to for the contexts it names (R193). -/
abbrev gridScYield (s : State) (q : Nat) (p : Pkt) : GridYield := s.scYield q p

/-- What the entries of a GRID_WR packet come to (R322). -/
abbrev gridWrYield (s : State) (q : Nat) (p : Pkt) : GridYield :=
  foldIdx (s.wrEntry q p.ident) {} 0 (entriesOf 16 (p.payload.drop 4) (p.payload.getD 1 0))

/-- What the entries of a BEAM packet come to (R323). -/
abbrev beamRuns (s : State) (p : Pkt) : BeamRun := foldIdx BeamRun.entry { s := s } 0 (entriesOf 12 (p.payload.drop 4) (p.payload.headD 0))

/-- The strobe generator of R24 after a number of device-time ticks from 0: its accumulator and the microsecond strobes emitted. -/
def strobeLoop : Nat → Nat × Nat
  | 0 => (0, 0)
  | n + 1 =>
    let (acc, us) := strobeLoop n
    if 6144 ≤ acc + 25 then (acc + 25 - 6144, us + 1) else (acc + 25, us)

/-- What an initiator's EVT_COUNT of a page reads with SEL and a count (R37). -/
abbrev evtCountWord (sel count : Nat) : Word := BitVec.ofNat 32 (sel * 2 ^ 27 + count)

/-- The count that an initiator's last SNAP of a page holds in its read shadow, none without one (R43). -/
abbrev State.snapOf (s : State) (who : Init) (page : Nat) : Option Nat := Tbl.get (fun _ => none) s.evtShadow (evtShadowKey page who)

/-- A rise of a fault source waits to be taken by the collector (R352). -/
abbrev State.riseWaits (s : State) (src : Nat) : Bool := Tbl.get (fun _ => false) s.flt.risen src

/-- The wires of a fault source disagree (R348). -/
abbrev State.dualStands (s : State) (src : Nat) : Bool := Tbl.get (fun _ => false) s.flt.dual src

/-- The writes of FLT_SCFG and of FLT_SREACT that a severe source holds (R354). -/
abbrev State.heldCfgOf (s : State) (src : Nat) : Option Word := Tbl.get (fun _ => none) s.flt.heldCfg src
abbrev State.heldReactOf (s : State) (src : Nat) : Option Word := Tbl.get (fun _ => none) s.flt.heldReact src

/-- A word of FLT_SCFG keeps N and WIN_MS in their ranges (R351). -/
abbrev scfgOk (v : Word) : Prop := 1 ≤ bitsOf v 31 24 ∧ 1 ≤ bitsOf v 13 0 ∧ bitsOf v 13 0 ≤ 16000

/-- A word of FLT_SREACT keeps FIRST at most LAST, both below 6 (R354), and ESC_MS in its range (R351). -/
abbrev sreactOk (v : Word) : Prop := bitsOf v 31 29 ≤ bitsOf v 28 26 ∧ bitsOf v 31 29 ≤ 5 ∧ bitsOf v 28 26 ≤ 5 ∧ 1 ≤ bitsOf v 15 0

end Sys2Proof.Machine
end

