-- ==== Sys2Proof/Certificates/Slice0/Obligations.lean ====
section
/-!
DEFINITION. The statements for the provers: what the commands do, what they leave alone, and what every step keeps.
-/
section
open Sys2Proof Sys2Proof.Machine

/-- Clocks: first lock of PLL-A, a supervision window, loss of a PLL. The first lock of PLL-A starts device time at 0 and, unless it is gated, runs CD0; a window shows AON_OK and fails a domain at its second failing window in a row; a PLL that loses lock stops its domains, which the next window reports. (derived from R16, R20, R21, R516) -/
def Obligations.ClockEventsComplete : Prop :=
  (∀ (s : State), s.time.started = false → ∃ t, exec .pllaFirstLock s = .next t ∧ t.time = { started := true } ∧ t.fon CLK_PLL_STAT.PLLA_LOCK 0 = true ∧ (s.isGated 0 = false → t.domainRuns 0 = true)) ∧
  (∀ (deviates : BitVec 47) (refclkBad : Bool) (aonBad : Bool) (s : State) (d : Fin 41), s.devOf d.val = 1 → s.domainRuns d.val = true → deviates.toNat.testBit d.val = true → ∃ t, exec (.clockSupervisionWindow deviates refclkBad aonBad) s = .next t ∧ t.fon CLK_PLL_STAT.AON_OK 0 = !aonBad ∧ t.domainFailed d.val = true) ∧
  (∀ (pll : Fin 4) (s : State), s.fon (pllField pll.val) 0 = true → ∃ t, exec (.pllLockLoss pll) s = .next t ∧ t.fon (pllField pll.val) 0 = false ∧ (∀ d : Fin 47, pllOf d.val = some pll.val → t.domainRuns d.val = false ∧ t.devOf d.val = 2))

/-- A strobe command advances its strobe count and brings device time to the strobe's tick. While PLL-A runs, US, MS and SECOND strobes each advance their own count by one, keep the lower counts in step, and device time is at least the strobe's tick and never goes back. (derived from R24, R27) -/
def Obligations.StrobesAdvanceTheCounts : Prop :=
  (∀ (s : State), s.strobesRun = true → ∃ t, exec .usStrobe s = .next t ∧ t.time.usCount = s.time.usCount + 1 ∧ strobeTick (s.time.usCount + 1) ≤ t.dt ∧ s.dt ≤ t.dt ∧ t.time.msCount = s.time.msCount) ∧
  (∀ (upset : List (Fin 4096 × Fin 64 × Word)) (s : State), s.strobesRun = true → ∃ t, exec (.msStrobe upset) s = .next t ∧ t.time.msCount = s.time.msCount + 1 ∧ 1000 * (s.time.msCount + 1) ≤ t.time.usCount ∧ strobeTick (1000 * (s.time.msCount + 1)) ≤ t.dt ∧ s.dt ≤ t.dt) ∧
  (∀ (s : State), s.strobesRun = true → ∃ t, exec .secondStrobe s = .next t ∧ t.time.sCount = s.time.sCount + 1 ∧ 1000 * (s.time.sCount + 1) ≤ t.time.msCount ∧ strobeTick (1000000 * (s.time.sCount + 1)) ≤ t.dt ∧ s.dt ≤ t.dt)

/-- Device time, PTP time and cross-timestamps are read as one value. A read of the LO word answers it and latches the upper word for the reader; a capture holds device time and PTP time of one instant and its completion shows both with DONE. (derived from R23, R26, R311) -/
def Obligations.TimeReadsLatch : Prop :=
  (∀ (who : Init) (s : State), Readable s who pgCLK → ∃ t, exec (.devtimeLoRead who) s = .next t ∧ t.readOf who = BitVec.ofNat 32 (s.dt % 2 ^ 32) ∧ Tbl.get (fun _ => 0) t.shadow (0x01044 * 64 + who.holder) = BitVec.ofNat 32 (s.dt / 2 ^ 32)) ∧
  (∀ (who : Init) (s : State), Readable s who pgFHL → ∃ t, exec (.ptpTimeRead who) s = .next t ∧ t.readOf who = BitVec.ofNat 32 (s.ptpNs % 1000000000) ∧ Tbl.get (fun _ => 0) t.shadow (0x10220 * 64 + who.holder) = BitVec.ofNat 32 (s.ptpNs / 1000000000 % 2 ^ 32)) ∧
  (∀ (who : Init) (s : State), Admitted s who pgCLK 0x048 → s.xts = none → ∃ t, exec (.xtsReq who) s = .next t ∧ Took t who ∧ t.xts = some ⟨s.dt, s.ptpNs / 1000000000, s.ptpNs % 1000000000⟩ ∧ t.fon CLK_XTS_CTRL.BUSY 0 = true) ∧
  (∀ (s : State) (x : XtsPair), s.xts = some x → ∃ t, exec .xtsCaptureDone s = .next t ∧ t.xts = none ∧ t.fon CLK_XTS_CTRL.BUSY 0 = false ∧ t.fon CLK_XTS_CTRL.DONE 0 = true ∧ t.fget CLK_XTS_DT_LO.DT_LO 0 = x.dt % 2 ^ 32 ∧ t.fget CLK_XTS_SEC_LO.SEC_LO 0 = x.sec % 2 ^ 32)

/-- Rises, forced rises, clears and snapshots of page events. A raw condition that rises sets level and sticky and counts, held at 0xFFFFFF; a forced rise sets sticky; a 1 written to EVT_STICKY clears the bit and its count; SNAP moves the count to the writer's shadow and clears it. (derived from R41, R42, R43) -/
def Obligations.EventBitsLatchAndCount : Prop :=
  (∀ (page : Fin 64) (bit : Fin 32) (s : State), s.pagePresent page.val = true → s.running page.val = true → s.fbit EVT_LEVEL.LEVEL page.val bit.val = false → ∃ t, exec (.eventRise page bit) s = .next t ∧ t.fbit EVT_LEVEL.LEVEL page.val bit.val = true ∧ t.fbit EVT_STICKY.STICKY page.val bit.val = true ∧ t.evtCountOf page.val bit.val = min (s.evtCountOf page.val bit.val + 1) 0xFFFFFF) ∧
  (∀ (who : Init) (page : Fin 64) (bits : BitVec 32) (s : State) (n : Fin 32), Admitted s who page.val 0x018 → bits.toNat.testBit n.val = true → ∃ t, exec (.evtForce who page bits) s = .next t ∧ Took t who ∧ t.fbit EVT_STICKY.STICKY page.val n.val = true ∧ t.evtCountOf page.val n.val = min (s.evtCountOf page.val n.val + 1) 0xFFFFFF) ∧
  (∀ (who : Init) (page : Fin 64) (bits : BitVec 32) (s : State) (n : Fin 32), Admitted s who page.val 0x010 → bits.toNat.testBit n.val = true → ∃ t, exec (.evtStickyClear who page bits) s = .next t ∧ Took t who ∧ t.fbit EVT_STICKY.STICKY page.val n.val = false ∧ t.evtCountOf page.val n.val = 0) ∧
  (∀ (who : Init) (page : Fin 64) (sel : Fin 32) (s : State), Admitted s who page.val 0x020 → ∃ t, exec (.evtCountSnap who page sel) s = .next t ∧ Took t who ∧ t.evtCountSeen who page.val = s.evtCountOf page.val sel.val ∧ t.evtCountOf page.val sel.val = 0 ∧ t.fbit EVT_STICKY.STICKY page.val sel.val = false)

/-- Header writes: SAT_CLR, CFG_LOCK, BLOCK_RESET, OWNER, self-test, configuration check. Each header command of an admitted initiator has its effect; a check pass shows its verdict and clears CRC_STALE, whose timer sets it after 16 ms. (derived from R36, R37, R38, R39, R40, R48, R55, R479) -/
def Obligations.PageHeaderWritesComplete : Prop :=
  (∀ (who : Init) (addr : BitVec 18) (value : Word) (sub : Bool) (s : State), sub = false → addr.toNat = 0x14014 → Admitted s who pgCAN 0x014 → ∃ t, exec (.registerWrite who addr value sub) s = .next t ∧ Took t who ∧ t.fget EVT_ENABLE.ENABLE pgCAN = value.toNat) ∧
  (∀ (who : Init) (page : Fin 64) (write : Bool) (s : State), s.pagePresent page.val = true → s.running page.val = false → ∃ t, exec (.stoppedBlockAccessDone who page write) s = .next t ∧ t.lastReason who = Reason.notRunning.code ∧ t.fget PAGE_STAT.LAST_REFUSE pgSYS = Reason.notRunning.code ∧ (write = false → t.readOf who = 0)) ∧
  (∀ (who : Init) (page : Fin 64) (s : State), Admitted s who page.val 0x008 → ∃ t, exec (.satClr who page) s = .next t ∧ Took t who ∧ t.fget SAT_COUNT.COUNT page.val = 0 ∧ t.fget PAGE_CTRL.CFG_LOCK page.val = s.fget PAGE_CTRL.CFG_LOCK page.val) ∧
  (∀ (who : Init) (page : Fin 64) (s : State), Admitted s who page.val 0x008 → ∃ t, exec (.cfgLockSet who page) s = .next t ∧ Took t who ∧ t.fon PAGE_CTRL.CFG_LOCK page.val = true ∧ t.fget SAT_COUNT.COUNT page.val = s.fget SAT_COUNT.COUNT page.val) ∧
  (∀ (who : Init) (page : Fin 64) (s : State), Admitted s who page.val 0x008 → noBlockReset page.val = false → page.val ≠ pgSCH → page.val ≠ pgNVA → ∃ t, exec (.blockReset who page) s = .next t ∧ Took t who ∧ t.running page.val = false) ∧
  (∀ (who : Init) (page : Fin 64) (id : Fin 32) (s : State), Admits (fun u => u.admitOwner who page.val) s who page.val 0x028 → ∃ t, exec (.ownerWrite who page id) s = .next t ∧ Took t who ∧ t.fget OWNER.ID page.val = s.fget OWNER.ID page.val) ∧
  (∀ (who : Init) (page : Fin 64) (s : State), Admitted s who page.val 0x034 → page.val = pgCAN → s.fon SELFTEST.BUSY pgCAN = false → s.member.present (s.canSel who) = true → s.testRefused (s.canSel who) = false → ∃ t, exec (.selftestStart who page) s = .next t ∧ Took t who ∧ t.fon SELFTEST.BUSY pgCAN = true ∧ t.fon PAGE_STAT.SELFTEST_ACTIVE pgCAN = true ∧ t.canState (s.canSel who) = canSELFTEST) ∧
  (∀ (page : Fin 64) (good : Bool) (s : State), s.crcRunning page.val = true → ∃ t, exec (.crcPassComplete page good) s = .next t ∧ t.crcRunning page.val = false ∧ t.fget PAGE_STAT.CRC_STALE page.val = 0 ∧ t.fon PAGE_STAT.CRC_ERR page.val = !good) ∧
  (∀ (page : Fin 64) (s : State), s.timerDue tmCrc page.val s.ms 16 = true → ∃ t, exec (.crcStaleTimeout page) s = .next t ∧ t.fon PAGE_STAT.CRC_STALE page.val = true)

/-- The expert lock arms with the first word, opens with the second within 1 ms, and closes. The lock of a page is kept for each initiator or identity: ARM, OPEN, a close by 0, the end of the arming after 1 ms and of the opening after 1,000 ms. (derived from R47, R48) -/
def Obligations.ExpertLockArmsOpensCloses : Prop :=
  (∀ (who : Init) (page : Fin 64) (s : State), Admits (fun u => u.admitUnlock who page.val) s who page.val 0x024 → ∃ t, exec (.expertUnlockArm who page) s = .next t ∧ Took t who ∧ (t.expertSt page.val who).armed = true ∧ t.timerOn tmExpertArm (expertUnit page.val who) = true) ∧
  (∀ (who : Init) (page : Fin 64) (s : State), Admits (fun u => u.admitUnlock who page.val) s who page.val 0x024 → s.armedInTime who page.val = true → s.mayOpen who page.val = true → ∃ t, exec (.expertUnlockOpen who page) s = .next t ∧ Took t who ∧ t.expertSt page.val who = { armed := false, opened := true }) ∧
  (∀ (who : Init) (page : Fin 64) (s : State), Admits (fun u => u.admitUnlock who page.val) s who page.val 0x024 → ∃ t, exec (.expertClose who page) s = .next t ∧ Took t who ∧ t.expertSt page.val who = {}) ∧
  (∀ (who : Init) (page : Fin 64) (s : State), (s.expertSt page.val who).armed = true → s.timerDue tmExpertArm (expertUnit page.val who) s.ms 1 = true → ∃ t, exec (.expertArmTimeout who page) s = .next t ∧ (t.expertSt page.val who).armed = false) ∧
  (∀ (who : Init) (page : Fin 64) (s : State), (s.expertSt page.val who).opened = true → s.timerDue tmExpertOpen (expertUnit page.val who) s.ms 1000 = true → ∃ t, exec (.expertOpenTimeout who page) s = .next t ∧ (t.expertSt page.val who).opened = false)

/-- A context window selects, snapshots, stages, reads, commits and applies; coefficient pairs go by mantissa and shift. What each command of a window leaves in it and in the context's words, in staged and in direct mode, for an initiator that the window admits; a commit whose domain has lost the context applies nothing; word 6 takes an owner from the integrator and the manufacturer in FREE alone. (derived from R50, R51, R52, R54, R73) -/
def Obligations.ContextWindowsSelectStageCommit : Prop :=
  (∀ (who : Init) (ctx : BitVec 12) (mode : Bool) (s : State), Admits (fun u => u.admitLifecycle who) s who pgCTXW (selOff who) → (s.window who.holder).pending = false → ctx.toNat < s.member.contexts → s.admitWindow who ctx.toNat false = none → ∃ t, exec (.ctxwSelect who ctx mode) s = .next t ∧ Took t who ∧ (t.window who.holder).ctx = ctx.toNat ∧ (t.window who.holder).staged = mode ∧ (t.window who.holder).snapWanted = mode ∧ (t.window who.holder).snap = none ∧ (t.window who.holder).words = []) ∧
  (∀ (who : Init) (s : State), (s.window who.holder).snapWanted = true → ∃ t, exec (.ctxwSnapshot who) s = .next t ∧ (t.window who.holder).snap = some ((List.range 64).map fun k => s.cword (s.window who.holder).ctx k) ∧ (t.window who.holder).snapWanted = false) ∧
  (∀ (who : Init) (word : Fin 64) (value : BitVec 32) (s : State), Admits (fun u => u.admitWindow who (u.window who.holder).ctx (decide (32 ≤ word.val))) s who pgCTXW (apertureOff who word.val) → (s.window who.holder).staged = true → ctxCoef word.val = none → coefOfS word.val = none → s.ctxCheck (s.identOf who) (s.window who.holder).ctx word.val value = none → ∃ t, exec (.ctxwApertureWrite who word value) s = .next t ∧ Took t who ∧ (t.window who.holder).words = stageWord (s.window who.holder).words word.val value ∧ t.ctx = s.ctx) ∧
  (∀ (who : Init) (word : Fin 64) (value : BitVec 32) (s : State), Admits (fun u => u.admitWindow who (u.window who.holder).ctx (decide (32 ≤ word.val))) s who pgCTXW (apertureOff who word.val) → (ctxCoef word.val).isSome = true → ∃ t, exec (.ctxwApertureWrite who word value) s = .next t ∧ Took t who ∧ t.coefStaged who = some (ctxCoefKey (s.window who.holder).ctx word.val, value) ∧ (t.window who.holder).words = (s.window who.holder).words ∧ t.ctx = s.ctx) ∧
  (∀ (who : Init) (word : Fin 64) (value : BitVec 32) (s : State) (p : CoefPair), Admits (fun u => u.admitWindow who (u.window who.holder).ctx (decide (32 ≤ word.val))) s who pgCTXW (apertureOff who word.val) → (s.window who.holder).staged = true → coefOfS word.val = some p → coefOk p (s.coefM who (ctxCoefKey (s.window who.holder).ctx (word.val - 1)) (s.stagedOr (s.window who.holder) (word.val - 1))).toNat (bitsOf value 4 0) = true → ∃ t, exec (.ctxwApertureWrite who word value) s = .next t ∧ Took t who ∧ (t.window who.holder).words = stageWord (stageWord (s.window who.holder).words (word.val - 1) (s.coefM who (ctxCoefKey (s.window who.holder).ctx (word.val - 1)) (s.stagedOr (s.window who.holder) (word.val - 1)))) word.val (value &&& 0x1F) ∧ t.coefStaged who = none ∧ t.ctx = s.ctx) ∧
  (∀ (who : Init) (word : Fin 64) (value : BitVec 32) (s : State), Admits (fun u => u.admitWindow who (u.window who.holder).ctx (decide (32 ≤ word.val))) s who pgCTXW (apertureOff who word.val) → (s.window who.holder).staged = false → ctxCoef word.val = none → coefOfS word.val = none → s.ctxCheck (s.identOf who) (s.window who.holder).ctx word.val value = none → s.hasTick (s.window who.holder).ctx = true → ∃ t, exec (.ctxwApertureWrite who word value) s = .next t ∧ Took t who ∧ (t.ctxRt (s.window who.holder).ctx).direct = (s.ctxRt (s.window who.holder).ctx).direct ++ [(word.val, if word.val = 0 then value &&& 0x1FFFFFFF else value)] ∧ (word.val = 0 ∨ t.ctx = s.ctx)) ∧
  (∀ (who : Init) (word : Fin 64) (value : BitVec 32) (s : State), Admits (fun u => u.admitWindow who (u.window who.holder).ctx (decide (32 ≤ word.val))) s who pgCTXW (apertureOff who word.val) → (s.window who.holder).staged = false → ctxCoef word.val = none → coefOfS word.val = none → s.ctxCheck (s.identOf who) (s.window who.holder).ctx word.val value = none → s.hasTick (s.window who.holder).ctx = false → ∃ t, exec (.ctxwApertureWrite who word value) s = .next t ∧ Took t who ∧ t.ctx = ((s.disarm who pgCTXW).ctxWordApply (s.window who.holder).ctx word.val value).ctx ∧ (word.val = 3 → t.cword (s.window who.holder).ctx 3 = value)) ∧
  (∀ (who : Init) (word : Fin 64) (value : BitVec 32) (s : State) (p : CoefPair), Admits (fun u => u.admitWindow who (u.window who.holder).ctx (decide (32 ≤ word.val))) s who pgCTXW (apertureOff who word.val) → (s.window who.holder).staged = false → coefOfS word.val = some p → coefOk p (s.coefM who (ctxCoefKey (s.window who.holder).ctx (word.val - 1)) (s.liveWord (s.window who.holder).ctx (word.val - 1))).toNat (bitsOf value 4 0) = true → ∃ t, exec (.ctxwApertureWrite who word value) s = .next t ∧ Took t who ∧ t.coefStaged who = none ∧ (s.hasTick (s.window who.holder).ctx = true → (t.ctxRt (s.window who.holder).ctx).direct = (s.ctxRt (s.window who.holder).ctx).direct ++ [(word.val - 1, s.coefM who (ctxCoefKey (s.window who.holder).ctx (word.val - 1)) (s.liveWord (s.window who.holder).ctx (word.val - 1))), (word.val, value &&& 0x1F)]) ∧ (s.hasTick (s.window who.holder).ctx = false → t.cword (s.window who.holder).ctx (word.val - 1) = s.coefM who (ctxCoefKey (s.window who.holder).ctx (word.val - 1)) (s.liveWord (s.window who.holder).ctx (word.val - 1)) ∧ t.cword (s.window who.holder).ctx word.val = mergeWord (s.cword (s.window who.holder).ctx word.val) (value &&& 0x1F) 0x1F)) ∧
  (∀ (who : Init) (word : Fin 64) (s : State), Readable s who pgCTXW → (∀ d : Fin 16, s.identOf who = some (.domain d) → s.cget CTX_OWNER.OWNER (s.window who.holder).ctx = d.val) → (s.window who.holder).staged = false → coefOfS word.val = none → ∃ t, exec (.ctxwApertureRead who word) s = .next t ∧ Took t who ∧ t.readOf who = s.liveWord (s.window who.holder).ctx word.val ∧ ((ctxCoef word.val).isSome = true → Tbl.get (fun _ => none) t.coefShadow who.holder = some (ctxCoefKey (s.window who.holder).ctx word.val, s.liveWord (s.window who.holder).ctx (word.val + 1)))) ∧
  (∀ (who : Init) (word : Fin 64) (s : State) (k : Nat) (v : Word), Readable s who pgCTXW → (∀ d : Fin 16, s.identOf who = some (.domain d) → s.cget CTX_OWNER.OWNER (s.window who.holder).ctx = d.val) → (s.window who.holder).staged = false → (coefOfS word.val).isSome = true → Tbl.get (fun _ => none) s.coefShadow who.holder = some (k, v) → ∃ t, exec (.ctxwApertureRead who word) s = .next t ∧ Took t who ∧ t.readOf who = (if k = ctxCoefKey (s.window who.holder).ctx (word.val - 1) then v else s.liveWord (s.window who.holder).ctx word.val) ∧ Tbl.get (fun _ => none) t.coefShadow who.holder = (if k = ctxCoefKey (s.window who.holder).ctx (word.val - 1) then none else some (k, v))) ∧
  (∀ (who : Init) (word : Fin 64) (s : State), Readable s who pgCTXW → (∀ d : Fin 16, s.identOf who = some (.domain d) → s.cget CTX_OWNER.OWNER (s.window who.holder).ctx = d.val) → (s.window who.holder).staged = false → (coefOfS word.val).isSome = true → Tbl.get (fun _ => none) s.coefShadow who.holder = none → ∃ t, exec (.ctxwApertureRead who word) s = .next t ∧ Took t who ∧ t.readOf who = s.liveWord (s.window who.holder).ctx word.val) ∧
  (∀ (who : Init) (word : Fin 64) (s : State) (l : List Word), Readable s who pgCTXW → (∀ d : Fin 16, s.identOf who = some (.domain d) → s.cget CTX_OWNER.OWNER (s.window who.holder).ctx = d.val) → (s.window who.holder).staged = true → (s.window who.holder).snap = some l → ∃ t, exec (.ctxwApertureRead who word) s = .next t ∧ Took t who ∧ t.readOf who = l.getD word.val 0) ∧
  (∀ (who : Init) (word : Fin 64) (s : State), Readable s who pgCTXW → (∀ d : Fin 16, s.identOf who = some (.domain d) → s.cget CTX_OWNER.OWNER (s.window who.holder).ctx = d.val) → (s.window who.holder).staged = true → (s.window who.holder).snap = none → ∃ t, exec (.ctxwApertureRead who word) s = .next t ∧ t.lastReason who = Reason.windowBusy.code ∧ t.readOf who = 0 ∧ (t.window who.holder).lastRefuse = Reason.windowBusy.code) ∧
  (∀ (who : Init) (s : State), Admits (fun u => u.admitLifecycle who) s who pgCTXW (selOff who) → (s.window who.holder).pending = false → (s.window who.holder).staged = true → s.admitWindow who (s.window who.holder).ctx false = none → ∃ t, exec (.ctxwCommit who) s = .next t ∧ Took t who ∧ (t.window who.holder).pending = true ∧ (t.window who.holder).done = false ∧ (t.window who.holder).words = (s.window who.holder).words) ∧
  (∀ (who : Init) (s : State), Admits (fun u => u.admitLifecycle who) s who pgCTXW (selOff who) → (s.window who.holder).pending = false → (s.window who.holder).staged = true → s.admitWindow who (s.window who.holder).ctx false = some .notOwner → ∃ t, exec (.ctxwCommit who) s = .next t ∧ (t.window who.holder).pending = false ∧ (t.window who.holder).done = true ∧ (t.window who.holder).words = [] ∧ (t.window who.holder).lastRefuse = Reason.notOwner.code ∧ t.ctx = s.ctx) ∧
  (∀ (who : Init) (s : State), (s.window who.holder).pending = true → (s.ctxRt (s.window who.holder).ctx).direct = [] → (∀ d : Fin 16, s.identOf who = some (.domain d) → s.cget CTX_OWNER.OWNER (s.window who.holder).ctx = d.val) → ∃ t, exec (.ctxwCommitApply who) s = .next t ∧ (t.window who.holder).pending = false ∧ (t.window who.holder).done = true ∧ (t.window who.holder).words = [] ∧ (t.window who.holder).lastRefuse = 0 ∧ (t.window who.holder).lastCtx = (s.window who.holder).ctx ∧ t.ctx = ((s.window who.holder).words.foldl (fun u e => u.ctxWordApply (s.window who.holder).ctx e.1 e.2) (s.applyDirect (s.window who.holder).ctx)).ctx) ∧
  (∀ (who : Init) (s : State) (d : Fin 16), (s.window who.holder).pending = true → s.identOf who = some (.domain d) → s.cget CTX_OWNER.OWNER (s.window who.holder).ctx ≠ d.val → (s.ctxRt (s.window who.holder).ctx).direct = [] → ∃ t, exec (.ctxwCommitApply who) s = .next t ∧ (t.window who.holder).pending = false ∧ (t.window who.holder).done = true ∧ (t.window who.holder).words = [] ∧ (t.window who.holder).lastRefuse = Reason.notOwner.code ∧ t.ctx = s.ctx) ∧
  (∀ (who : Init) (ctx : Fin 4096) (owner : Fin 32) (priv : Bool) (s : State), Admits (fun u => u.admitWindow who ctx.val false) s who pgCTXW (apertureOff who 6) → ctx.val < s.member.contexts → s.identOf who = some .integrator ∨ s.identOf who = some .manufacturer → owner.val ≤ 0x10 ∨ owner.val = 0x1F → s.ctxState ctx.val = ctxFREE → ∃ t, exec (.ctxOwnerWrite who ctx owner priv) s = .next t ∧ Took t who ∧ t.cget CTX_OWNER.OWNER ctx.val = owner.val ∧ t.cget CTX_OWNER.EXPERT_PRIV ctx.val = (if priv then 1 else 0)) ∧
  (∀ (who : Init) (ctx : Fin 4096) (owner : Fin 32) (priv : Bool) (s : State), Admits (fun u => u.admitWindow who ctx.val false) s who pgCTXW (apertureOff who 6) → ctx.val < s.member.contexts → s.identOf who = some .integrator ∨ s.identOf who = some .manufacturer → owner.val ≤ 0x10 ∨ owner.val = 0x1F → s.ctxState ctx.val ≠ ctxFREE → s.hasTick ctx.val = false → s.cget CTX_OWNER.OWNER ctx.val ≠ owner.val → ∃ t, exec (.ctxOwnerWrite who ctx owner priv) s = .next t ∧ Took t who ∧ t.cword ctx.val 6 = s.cword ctx.val 6 ∧ t.cget CTX_CTRL.CMD_RESULT ctx.val = 2) ∧
  (∀ (who : Init) (ctx : Fin 4096) (owner : Fin 32) (priv : Bool) (s : State), Admits (fun u => u.admitWindow who ctx.val false) s who pgCTXW (apertureOff who 6) → ctx.val < s.member.contexts → s.identOf who ≠ some .integrator → s.identOf who ≠ some .manufacturer → s.cget CTX_OWNER.OWNER ctx.val ≠ owner.val ∨ s.cget CTX_OWNER.EXPERT_PRIV ctx.val ≠ (if priv then 1 else 0) → ∃ t, exec (.ctxOwnerWrite who ctx owner priv) s = .next t ∧ t.lastReason who = Reason.notOwner.code ∧ t.ctx = s.ctx) ∧
  (∀ (who : Init) (pair : CoefPair) (value : BitVec 32) (s : State), pair = .canMu ∨ pair = .canLeak ∨ pair = .canDelta → Admitted s who pgCAN (canCoefOff pair) → s.member.present (s.canSel who) = true → ∃ t, exec (.coefMWrite who pair value) s = .next t ∧ Took t who ∧ t.coefStaged who = some (canKey (canCoefOff pair) (s.canSel who), value) ∧ t.word (canKey (canCoefOff pair) (s.canSel who)) = s.word (canKey (canCoefOff pair) (s.canSel who))) ∧
  (∀ (who : Init) (pair : CoefPair) (value : BitVec 32) (s : State) (k : Fin 4), pair = .ctx k → Admits (fun u => u.admitWindow who (u.window who.holder).ctx true) s who pgCTXW (apertureOff who (32 + 2 * k.val)) → ∃ t, exec (.coefMWrite who pair value) s = .next t ∧ Took t who ∧ t.coefStaged who = some (ctxCoefKey (s.window who.holder).ctx (32 + 2 * k.val), value) ∧ t.ctx = s.ctx) ∧
  (∀ (who : Init) (pair : CoefPair) (value : BitVec 32) (s : State), pair = .canMu ∨ pair = .canLeak ∨ pair = .canDelta → Admitted s who pgCAN (canCoefOff pair + 4) → s.member.present (s.canSel who) = true → coefOk pair (s.coefM who (canKey (canCoefOff pair) (s.canSel who)) (s.word (canKey (canCoefOff pair) (s.canSel who)))).toNat (bitsOf value 4 0) = true → ∃ t, exec (.coefSWrite who pair value) s = .next t ∧ Took t who ∧ t.word (canKey (canCoefOff pair) (s.canSel who) + 4) = value &&& 0x1F ∧ t.word (canKey (canCoefOff pair) (s.canSel who)) = s.coefM who (canKey (canCoefOff pair) (s.canSel who)) (s.word (canKey (canCoefOff pair) (s.canSel who))) ∧ t.coefStaged who = none) ∧
  (∀ (who : Init) (pair : CoefPair) (value : BitVec 32) (s : State) (k : Fin 4), pair = .ctx k → Admits (fun u => u.admitWindow who (u.window who.holder).ctx true) s who pgCTXW (apertureOff who (33 + 2 * k.val)) → (s.window who.holder).staged = true → coefOk pair (s.coefM who (ctxCoefKey (s.window who.holder).ctx (32 + 2 * k.val)) (s.stagedOr (s.window who.holder) (32 + 2 * k.val))).toNat (bitsOf value 4 0) = true → ∃ t, exec (.coefSWrite who pair value) s = .next t ∧ Took t who ∧ t.coefStaged who = none ∧ t.stagedOr (t.window who.holder) (33 + 2 * k.val) = value &&& 0x1F ∧ t.stagedOr (t.window who.holder) (32 + 2 * k.val) = s.coefM who (ctxCoefKey (s.window who.holder).ctx (32 + 2 * k.val)) (s.stagedOr (s.window who.holder) (32 + 2 * k.val))) ∧
  (∀ (who : Init) (pair : CoefPair) (s : State), pair = .canMu ∨ pair = .canLeak ∨ pair = .canDelta → Readable s who pgCAN → ∃ t, exec (.coefMRead who pair) s = .next t ∧ Took t who ∧ t.readOf who = s.word (canKey (canCoefOff pair) (s.canSel who)) ∧ Tbl.get (fun _ => none) t.coefShadow who.holder = some (canKey (canCoefOff pair) (s.canSel who), s.word (canKey (canCoefOff pair) (s.canSel who) + 4))) ∧
  (∀ (who : Init) (pair : CoefPair) (s : State) (k : Fin 4), pair = .ctx k → Readable s who pgCTXW → (∀ d : Fin 16, s.identOf who = some (.domain d) → s.cget CTX_OWNER.OWNER (s.window who.holder).ctx = d.val) → (s.window who.holder).staged = false → ∃ t, exec (.coefMRead who pair) s = .next t ∧ Took t who ∧ t.readOf who = s.liveWord (s.window who.holder).ctx (32 + 2 * k.val) ∧ Tbl.get (fun _ => none) t.coefShadow who.holder = some (ctxCoefKey (s.window who.holder).ctx (32 + 2 * k.val), s.liveWord (s.window who.holder).ctx (33 + 2 * k.val)))

/-- Paths: configuration, turn-on, drain, off, added delay. An accepted write of a path that is OFF takes its fields; a write that would move a path that is not OFF is refused as locked; ENABLE := 1 of a placed OFF path waits for its frame boundary, of a path without a place it raises the event, of a draining path it is held; ENABLE := 0 of an ON path drains it, and an empty draining path is OFF; an accepted added delay is kept with its sample count, is at once the delay of an OFF path, and on another path a change within 8 samples slews and a larger one waits; a slew ends at its target. (derived from R60, R62, R80, R81, R68, R69, R82) -/
def Obligations.PathsAndDelaysComplete : Prop :=
  (∀ (who : Init) (path : Fin 32) (value : BitVec 32) (s : State), Admitted s who pgCHN (0x200 + 16 * path.val) → s.sec.lc ≠ lcRETIRED → s.member.present path.val = true → bitsOf value 20 16 ≤ 15 → s.member.present (bitsOf value 20 16) = true → maskPresent s.member (bitsOf value 15 0) = true → s.pathState path.val = pathOFF → bitsOf value 31 31 = 0 → ∃ t, exec (.pathCfgWrite who path value) s = .next t ∧ Took t who ∧ t.fget CHN_PATH_CFG.TGROUP path.val = bitsOf value 30 28 ∧ t.fget CHN_PATH_CFG.DONOR path.val = bitsOf value 20 16 ∧ t.fget CHN_PATH_CFG.SVC_MASK path.val = bitsOf value 15 0 ∧ t.fget CHN_PATH_CFG.ENABLE path.val = 0) ∧
  (∀ (who : Init) (path : Fin 32) (s : State), Admitted s who pgCHN (0x200 + 16 * path.val) → s.sec.lc ≠ lcRETIRED → s.member.present path.val = true → s.fget CHN_PATH_CFG.DONOR path.val ≤ 15 → s.member.present (s.fget CHN_PATH_CFG.DONOR path.val) = true → maskPresent s.member (s.fget CHN_PATH_CFG.SVC_MASK path.val) = true → s.fon FLT_STAT.SAFE 0 = false → s.fon THM_STAT.SHUTDOWN 0 = false → s.leanBars path.val = false → s.pathState path.val = pathOFF → s.placed path.val = true → ∃ t, exec (.pathEnable who path) s = .next t ∧ Took t who ∧ t.fon CHN_PATH_CFG.ENABLE path.val = true ∧ (t.pathRt path.val).turnOn = true ∧ t.pathState path.val = pathOFF) ∧
  (∀ (who : Init) (path : Fin 32) (s : State), Admitted s who pgCHN (0x200 + 16 * path.val) → s.member.present path.val = true → s.fget CHN_PATH_CFG.DONOR path.val ≤ 15 → s.member.present (s.fget CHN_PATH_CFG.DONOR path.val) = true → maskPresent s.member (s.fget CHN_PATH_CFG.SVC_MASK path.val) = true → s.pathState path.val = pathON → ∃ t, exec (.pathDisable who path) s = .next t ∧ Took t who ∧ t.fget CHN_PATH_CFG.ENABLE path.val = 0 ∧ t.pathState path.val = pathDRAINING) ∧
  (∀ (path : Fin 32) (s : State), s.pathState path.val = pathDRAINING → s.pathEmpty path.val = true → ∃ t, exec (.pathOff path) s = .next t ∧ t.pathState path.val = pathOFF ∧ (t.pathRt path.val).heldOn = false ∧ (t.pathRt path.val).turnOn = ((s.pathRt path.val).heldOn && s.placed path.val) ∧ t.fon CHN_PATH_CFG.ENABLE path.val = ((s.pathRt path.val).heldOn && s.placed path.val)) ∧
  (∀ (who : Init) (path : Fin 32) (ns : BitVec 16) (s : State), Admitted s who pgCHN (0x204 + 16 * path.val) → s.member.present path.val = true → (s.fon FHL_ALIGN_CFG.EN 0 && s.fbit FHL_ALIGN_PATHS.PATHS 0 path.val) = false → ns.toNat ≤ 40000 → ∃ t, exec (.delayWrite who path ns) s = .next t ∧ Took t who ∧ t.fget CHN_PATH_DLY.DELAY_NS path.val = ns.toNat ∧ t.fget CHN_PATH_DLY_SMP.SMP path.val = delaySamples ns.toNat ∧ (s.pathState path.val = pathOFF → (t.pathRt path.val).delayQ = delaySamples ns.toNat * smpQ)) ∧
  (∀ (path : Fin 32) (s : State) (n : Nat), (s.pathRt path.val).slewTo = some n → ∃ t, exec (.delaySlewDone path) s = .next t ∧ (t.pathRt path.val).slewTo = none ∧ (t.pathRt path.val).delayQ = n * smpQ ∧ (s.timeRuns = true → (s.pathRt path.val).slewEnd n ≤ t.dt)) ∧
  (∀ (who : Init) (path : Fin 32) (value : BitVec 32) (s : State), Admitted s who pgCHN (0x200 + 16 * path.val) → s.sec.lc ≠ lcRETIRED → s.member.present path.val = true → s.pathState path.val ≠ pathOFF → s.pathMoves path.val value = true → ∃ t, exec (.pathCfgWrite who path value) s = .next t ∧ t.lastReason who = Reason.configLocked.code ∧ t.word (CHN_PATH_CFG.ENABLE.key path.val) = s.word (CHN_PATH_CFG.ENABLE.key path.val) ∧ t.pathState path.val = s.pathState path.val) ∧
  (∀ (who : Init) (path : Fin 32) (s : State), Admitted s who pgCHN (0x200 + 16 * path.val) → s.sec.lc ≠ lcRETIRED → s.member.present path.val = true → s.fget CHN_PATH_CFG.DONOR path.val ≤ 15 → s.member.present (s.fget CHN_PATH_CFG.DONOR path.val) = true → maskPresent s.member (s.fget CHN_PATH_CFG.SVC_MASK path.val) = true → s.fon FLT_STAT.SAFE 0 = false → s.fon THM_STAT.SHUTDOWN 0 = false → s.leanBars path.val = false → s.pathState path.val = pathOFF → s.placed path.val = false → ∃ t, exec (.pathEnable who path) s = .next t ∧ Took t who ∧ t.fget CHN_PATH_CFG.ENABLE path.val = 0 ∧ (t.pathRt path.val).turnOn = false ∧ t.fbit EVT_STICKY.STICKY pgCHN 0 = true ∧ t.pathState path.val = pathOFF) ∧
  (∀ (who : Init) (path : Fin 32) (s : State), Admitted s who pgCHN (0x200 + 16 * path.val) → s.sec.lc ≠ lcRETIRED → s.member.present path.val = true → s.fget CHN_PATH_CFG.DONOR path.val ≤ 15 → s.member.present (s.fget CHN_PATH_CFG.DONOR path.val) = true → maskPresent s.member (s.fget CHN_PATH_CFG.SVC_MASK path.val) = true → s.fon FLT_STAT.SAFE 0 = false → s.fon THM_STAT.SHUTDOWN 0 = false → s.leanBars path.val = false → s.pathState path.val = pathDRAINING → ∃ t, exec (.pathEnable who path) s = .next t ∧ Took t who ∧ t.fon CHN_PATH_CFG.ENABLE path.val = true ∧ (t.pathRt path.val).heldOn = true ∧ t.pathState path.val = pathDRAINING) ∧
  (∀ (who : Init) (path : Fin 32) (s : State), Admitted s who pgCHN (0x200 + 16 * path.val) → s.member.present path.val = true → s.fget CHN_PATH_CFG.DONOR path.val ≤ 15 → s.member.present (s.fget CHN_PATH_CFG.DONOR path.val) = true → maskPresent s.member (s.fget CHN_PATH_CFG.SVC_MASK path.val) = true → s.pathState path.val = pathOFF ∨ s.pathState path.val = pathDRAINING → ∃ t, exec (.pathDisable who path) s = .next t ∧ Took t who ∧ t.fget CHN_PATH_CFG.ENABLE path.val = 0 ∧ t.pathState path.val = s.pathState path.val ∧ (s.pathState path.val = pathOFF → (t.pathRt path.val).turnOn = false) ∧ (s.pathState path.val = pathDRAINING → (t.pathRt path.val).heldOn = false)) ∧
  (∀ (who : Init) (path : Fin 32) (ns : BitVec 16) (s : State), Admitted s who pgCHN (0x204 + 16 * path.val) → s.member.present path.val = true → (s.fon FHL_ALIGN_CFG.EN 0 && s.fbit FHL_ALIGN_PATHS.PATHS 0 path.val) = false → ns.toNat ≤ 40000 → s.pathState path.val ≠ pathOFF → (s.pathRt path.val).pendTo = none → (s.pathRt path.val).slewTo = none → ∃ t, exec (.delayWrite who path ns) s = .next t ∧ Took t who ∧ (within8 (s.pathRt path.val).delayQ (delaySamples ns.toNat * smpQ) = true → (t.pathRt path.val).slewAt = some (delaySamples ns.toNat)) ∧ (within8 (s.pathRt path.val).delayQ (delaySamples ns.toNat * smpQ) = false → (t.pathRt path.val).pendTo = some (delaySamples ns.toNat) ∧ t.fon CHN_PATH_STAT.DELAY_PENDING path.val = true) ∧ (t.pathRt path.val).delayQ = (s.pathRt path.val).delayQ)

/-- Streams and band windows: configuration, staging, commit, coming into force. An accepted write of a stream out of use stores its RW bits; WIN_LO is staged for its writer, WIN_HI commits the pair, and the windows of an OFF path come into force as committed. (derived from R35, R59, R63, R64) -/
def Obligations.StreamsAndWindowsComplete : Prop :=
  (∀ (who : Init) (stream : Fin 64) (value : BitVec 32) (s : State) (w : Word), Admitted s who pgCHN (0x100 + 4 * stream.val) → s.member.present stream.val = true → s.streamInUse stream.val = false → bitsOf value 31 29 ≤ 4 → bitsOf value 28 27 = 0 ∨ stream.val % 32 < 16 → (regAt pgCHN (0x100 + 4 * stream.val)).map (fun r => r.merge (s.word (0x13100 + 4 * stream.val)) value) = some w → rangesOk pgCHN (0x100 + 4 * stream.val) w = true → ∃ t, exec (.streamConfigWrite who stream value) s = .next t ∧ Took t who ∧ t.word (0x13100 + 4 * stream.val) = w) ∧
  (∀ (who : Init) (value : BitVec 32) (s : State), Admitted s who pgCHN 0x044 → s.member.present (s.fget CHN_WSEL.PATH who.holder) = true → bitsOf value 30 29 ≠ 3 → ∃ t, exec (.winLoWrite who value) s = .next t ∧ Took t who ∧ t.winStageOf who = some (s.winSel who, value &&& 0xE0FFFFFF)) ∧
  (∀ (who : Init) (hi : BitVec 32) (s : State), Admitted s who pgCHN 0x048 → s.member.present (s.fget CHN_WSEL.PATH who.holder) = true → s.winBusy (s.fget CHN_WSEL.PATH who.holder) (s.fget CHN_WSEL.WIN who.holder) = false → (Win.ofWords (s.winLoFor who) hi).low + 5000 ≤ (Win.ofWords (s.winLoFor who) hi).high → s.inOccupied (s.fget CHN_WSEL.PATH who.holder) (Win.ofWords (s.winLoFor who) hi) = true → ((Win.ofWords (s.winLoFor who) hi).en && s.winOverlaps (s.fget CHN_WSEL.PATH who.holder) (s.fget CHN_WSEL.WIN who.holder) (Win.ofWords (s.winLoFor who) hi)) = false → (s.pathFlag (s.fget CHN_WSEL.PATH who.holder) 6 && decide ((Win.ofWords (s.winLoFor who) hi).edge < 2)) = false → (((s.setWin (s.fget CHN_WSEL.PATH who.holder) (s.fget CHN_WSEL.WIN who.holder) (s.winLoFor who) hi).dropWinStage who (s.winSel who)).winBreaksCan (s.fget CHN_WSEL.PATH who.holder)) = false → ∃ t, exec (.windowCommit who hi) s = .next t ∧ Took t who ∧ t.winOf (s.fget CHN_WSEL.PATH who.holder) (s.fget CHN_WSEL.WIN who.holder) = Win.ofWords (s.winLoFor who) hi ∧ t.winStageOf who = (if (s.winStageOf who).map Prod.fst = some (s.winSel who) then none else s.winStageOf who)) ∧
  (∀ (path : Fin 32) (s : State) (w : Fin 12), s.member.present path.val = true → s.pathState path.val = pathOFF → ∃ t, exec (.windowApply path) s = .next t ∧ t.winInForce path.val w.val = s.winOf path.val w.val) ∧
  (∀ (path : Fin 32) (s : State), s.pathState path.val ≠ pathOFF → ∃ t, exec (.windowApply path) s = .next t ∧ t = s)

/-- The seven context commands, held and taken: the state each leads to. A held CMD that its state admits leads to the state of R76 with CMD_RESULT 0 and is no longer held: CONFIGURE to CONFIGURED after its checks, START to RAMPING, or to MUTED when a slot holds the context or no entry covers it, HOLD to HELD, RESUME of HELD to RAMPING, MUTE to MUTED with cause 1, STOP to DRAINING, RELEASE to FREE; in a state that does not admit it the context keeps its state with CMD_RESULT 2. (derived from R74, R75, R76, R78, R79) -/
def Obligations.ContextCommandsComplete : Prop :=
  (∀ (ctx : Fin 4096) (s : State), ctx.val < s.member.contexts → (s.ctxRt ctx.val).cmd = cmdCONFIGURE → s.ctxState ctx.val = ctxFREE ∨ s.ctxState ctx.val = ctxCONFIGURED → ((s.setCtxRt ctx.val { s.ctxRt ctx.val with cmd := 0 }).checkContext ctx.val).toOption.isSome = true → ∃ t, exec (.ctxConfigure ctx) s = .next t ∧ t.ctxState ctx.val = ctxCONFIGURED ∧ t.cget CTX_CTRL.CMD_RESULT ctx.val = 0 ∧ (t.ctxRt ctx.val).cmd = 0) ∧
  (∀ (ctx : Fin 4096) (s : State), ctx.val < s.member.contexts → (s.ctxRt ctx.val).cmd = cmdSTART → s.ctxState ctx.val = ctxCONFIGURED → s.pathState (s.ctxPath ctx.val) = pathON → ((s.setCtxRt ctx.val { s.ctxRt ctx.val with cmd := 0 }).checkContext ctx.val).toOption.isSome = true → ∃ t, exec (.ctxStart ctx) s = .next t ∧ t.ctxState ctx.val = (if s.foxBusyOn ctx.val = true ∨ s.coverNow ctx.val = none then ctxMUTED else ctxRAMPING) ∧ t.cget CTX_CTRL.CMD_RESULT ctx.val = 0 ∧ (t.ctxRt ctx.val).cmd = 0) ∧
  (∀ (ctx : Fin 4096) (s : State), ctx.val < s.member.contexts → (s.ctxRt ctx.val).cmd = cmdHOLD → s.ctxState ctx.val = ctxRAMPING ∨ s.ctxState ctx.val = ctxACTIVE → ∃ t, exec (.ctxHold ctx) s = .next t ∧ t.ctxState ctx.val = ctxHELD ∧ t.cget CTX_CTRL.CMD_RESULT ctx.val = 0 ∧ (t.ctxRt ctx.val).cmd = 0) ∧
  (∀ (ctx : Fin 4096) (s : State), ctx.val < s.member.contexts → (s.ctxRt ctx.val).cmd = cmdRESUME → s.ctxState ctx.val = ctxHELD → ∃ t, exec (.ctxResume ctx) s = .next t ∧ t.ctxState ctx.val = ctxRAMPING ∧ t.cget CTX_CTRL.CMD_RESULT ctx.val = 0 ∧ (t.ctxRt ctx.val).cmd = 0) ∧
  (∀ (ctx : Fin 4096) (s : State), ctx.val < s.member.contexts → (s.ctxRt ctx.val).cmd = cmdMUTE → ctxRuns (s.ctxState ctx.val) = true → ∃ t, exec (.ctxMute ctx) s = .next t ∧ t.ctxState ctx.val = ctxMUTED ∧ t.mutedFor ctx.val 1 = true ∧ t.cget CTX_CTRL.CMD_RESULT ctx.val = 0) ∧
  (∀ (ctx : Fin 4096) (s : State), ctx.val < s.member.contexts → (s.ctxRt ctx.val).cmd = cmdSTOP → ctxRuns (s.ctxState ctx.val) = true ∨ s.ctxState ctx.val = ctxMUTED → ∃ t, exec (.ctxStop ctx) s = .next t ∧ t.ctxState ctx.val = ctxDRAINING ∧ (t.ctxRt ctx.val).drainStart = s.dt ∧ t.cget CTX_CTRL.CMD_RESULT ctx.val = 0) ∧
  (∀ (ctx : Fin 4096) (s : State), ctx.val < s.member.contexts → (s.ctxRt ctx.val).cmd = cmdRELEASE → s.ctxState ctx.val = ctxCONFIGURED → ∃ t, exec (.ctxRelease ctx) s = .next t ∧ t.ctxState ctx.val = ctxFREE ∧ (t.ctxRt ctx.val).slot = none ∧ t.cword ctx.val 9 = ctxReset 9 ∧ t.cget CTX_CTRL.CMD_RESULT ctx.val = 0) ∧
  (∀ (ctx : Fin 4096) (s : State), ctx.val < s.member.contexts → (s.ctxRt ctx.val).cmd = cmdRESUME → s.ctxState ctx.val = ctxMUTED → s.mutedFor ctx.val 1 = true → ∃ t, exec (.ctxResume ctx) s = .next t ∧ t.mutedFor ctx.val 1 = false ∧ t.ctxState ctx.val = (if s.muteSet ctx.val = 1 then ctxRAMPING else ctxMUTED) ∧ t.cget CTX_CTRL.CMD_RESULT ctx.val = 0) ∧
  (∀ (ctx : Fin 4096) (s : State), ctx.val < s.member.contexts → (s.ctxRt ctx.val).cmd = cmdMUTE → s.ctxState ctx.val = ctxMUTED → ∃ t, exec (.ctxMute ctx) s = .next t ∧ t.ctxState ctx.val = ctxMUTED ∧ t.mutedFor ctx.val 1 = true ∧ t.cget CTX_CTRL.CMD_RESULT ctx.val = 0) ∧
  (∀ (ctx : Fin 4096) (s : State), ctx.val < s.member.contexts → (s.ctxRt ctx.val).cmd = cmdCONFIGURE → s.ctxState ctx.val ≠ ctxFREE → s.ctxState ctx.val ≠ ctxCONFIGURED → ∃ t, exec (.ctxConfigure ctx) s = .next t ∧ t.ctxState ctx.val = s.ctxState ctx.val ∧ t.cget CTX_CTRL.CMD_RESULT ctx.val = 2 ∧ (t.ctxRt ctx.val).cmd = 0) ∧
  (∀ (ctx : Fin 4096) (s : State), ctx.val < s.member.contexts → (s.ctxRt ctx.val).cmd = cmdSTART → s.ctxState ctx.val ≠ ctxCONFIGURED → ∃ t, exec (.ctxStart ctx) s = .next t ∧ t.ctxState ctx.val = s.ctxState ctx.val ∧ t.cget CTX_CTRL.CMD_RESULT ctx.val = 2 ∧ (t.ctxRt ctx.val).cmd = 0) ∧
  (∀ (ctx : Fin 4096) (s : State), ctx.val < s.member.contexts → (s.ctxRt ctx.val).cmd = cmdHOLD → s.ctxState ctx.val ≠ ctxRAMPING → s.ctxState ctx.val ≠ ctxACTIVE → ∃ t, exec (.ctxHold ctx) s = .next t ∧ t.ctxState ctx.val = s.ctxState ctx.val ∧ t.cget CTX_CTRL.CMD_RESULT ctx.val = 2 ∧ (t.ctxRt ctx.val).cmd = 0) ∧
  (∀ (ctx : Fin 4096) (s : State), ctx.val < s.member.contexts → (s.ctxRt ctx.val).cmd = cmdRESUME → s.ctxState ctx.val ≠ ctxHELD → s.ctxState ctx.val ≠ ctxMUTED ∨ s.mutedFor ctx.val 1 = false → ∃ t, exec (.ctxResume ctx) s = .next t ∧ t.ctxState ctx.val = s.ctxState ctx.val ∧ t.cget CTX_CTRL.CMD_RESULT ctx.val = 2 ∧ (t.ctxRt ctx.val).cmd = 0) ∧
  (∀ (ctx : Fin 4096) (s : State), ctx.val < s.member.contexts → (s.ctxRt ctx.val).cmd = cmdMUTE → ctxRuns (s.ctxState ctx.val) = false → s.ctxState ctx.val ≠ ctxMUTED → ∃ t, exec (.ctxMute ctx) s = .next t ∧ t.ctxState ctx.val = s.ctxState ctx.val ∧ t.cget CTX_CTRL.CMD_RESULT ctx.val = 2 ∧ (t.ctxRt ctx.val).cmd = 0) ∧
  (∀ (ctx : Fin 4096) (s : State), ctx.val < s.member.contexts → (s.ctxRt ctx.val).cmd = cmdSTOP → ctxRuns (s.ctxState ctx.val) = false → s.ctxState ctx.val ≠ ctxMUTED → ∃ t, exec (.ctxStop ctx) s = .next t ∧ t.ctxState ctx.val = s.ctxState ctx.val ∧ t.cget CTX_CTRL.CMD_RESULT ctx.val = 2 ∧ (t.ctxRt ctx.val).cmd = 0) ∧
  (∀ (ctx : Fin 4096) (s : State), ctx.val < s.member.contexts → (s.ctxRt ctx.val).cmd = cmdRELEASE → s.ctxState ctx.val ≠ ctxCONFIGURED → ∃ t, exec (.ctxRelease ctx) s = .next t ∧ t.ctxState ctx.val = s.ctxState ctx.val ∧ t.cget CTX_CTRL.CMD_RESULT ctx.val = 2 ∧ (t.ctxRt ctx.val).cmd = 0)

/-- Loading and verifying an image slot. BEGIN takes the slot to LOADING for its writer and fills it; load words reach their bytes and advance ADDR; while the slot is filled its load words, END and ABORT are held, and they act when the fill ends; END goes to VERIFYING, ABORT and 10 s without a write to EMPTY; verification ends in VERIFIED or in REFUSED with its code. (derived from R93, R96, R99, R112) -/
def Obligations.ImageLoadsComplete : Prop :=
  (∀ (who : Init) (slot : Fin 2) (s : State), Admitted s who pgSCH 0x060 → s.slotState slot.val = slotEMPTY ∨ s.slotState slot.val = slotVERIFIED ∨ s.slotState slot.val = slotREFUSED ∨ s.slotState slot.val = slotFORMER → ∃ t, exec (.imageLoadBegin who slot) s = .next t ∧ Took t who ∧ t.slotState slot.val = slotLOADING ∧ t.loaderOf slot.val = s.identOf who ∧ t.sch.filling = s.sch.filling ++ [slot.val] ∧ t.fon PAGE_STAT.BUSY pgSCH = true ∧ (∀ a : Fin 16, t.imgByte slot.val a.val = 0)) ∧
  (∀ (s : State) (slot : Nat) (others : List Nat), s.sch.filling = slot :: others → others.contains slot = false → s.slotState slot = slotLOADING → ∃ t, exec .imageSlotFillDone s = .next t ∧ t.sch.filling = others ∧ t.fon PAGE_STAT.BUSY pgSCH = !others.isEmpty ∧ (t.sch.heldLoads = s.sch.heldLoads.filter fun e => decide (e.1 ≠ slot))) ∧
  (∀ (s : State) (slot : Nat) (others : List Nat) (a : Nat) (d : List Nat) (k : Fin 4), s.sch.filling = slot :: others → others.contains slot = false → s.slotState slot = slotLOADING → s.sch.heldLoads = [(slot, .bytes a d)] → slot < 2 → d.length = 4 → a + 4 ≤ slotBytes → ∃ t, exec .imageSlotFillDone s = .next t ∧ t.sch.filling = others ∧ t.fon PAGE_STAT.BUSY pgSCH = !others.isEmpty ∧ t.imgByte slot (a + k.val) = d.getD k.val 0 % 256 ∧ t.slotState slot = slotLOADING) ∧
  (∀ (s : State) (slot : Nat) (others : List Nat) (n : Nat), s.sch.filling = slot :: others → others.contains slot = false → s.slotState slot = slotLOADING → s.sch.heldLoads = [(slot, .finish n)] → slot < 2 → ∃ t, exec .imageSlotFillDone s = .next t ∧ t.sch.filling = others ∧ t.fon PAGE_STAT.BUSY pgSCH = !others.isEmpty ∧ t.slotState slot = slotVERIFYING ∧ t.endLen slot = n) ∧
  (∀ (s : State) (slot : Nat) (others : List Nat), s.sch.filling = slot :: others → others.contains slot = false → s.slotState slot = slotLOADING → s.sch.heldLoads = [(slot, .abort)] → slot < 2 → ∃ t, exec .imageSlotFillDone s = .next t ∧ t.sch.filling = others ∧ t.fon PAGE_STAT.BUSY pgSCH = !others.isEmpty ∧ t.slotState slot = slotEMPTY) ∧
  (∀ (who : Init) (data : BitVec 32) (s : State) (k : Fin 4), Admitted s who pgSCH 0x068 → s.slotState (s.fget SCH_LOAD_CTRL.SLOT 0) = slotLOADING → s.loaderOf (s.fget SCH_LOAD_CTRL.SLOT 0) = s.identOf who → (s.sch.filling.contains (s.fget SCH_LOAD_CTRL.SLOT 0)) = false → ∃ t, exec (.imageLoadData who data) s = .next t ∧ Took t who ∧ t.imgByte (s.fget SCH_LOAD_CTRL.SLOT 0) (s.fget SCH_LOAD_ADDR.ADDR 0 + k.val) = (beBytes 4 data.toNat).getD k.val 0 ∧ t.fget SCH_LOAD_ADDR.ADDR 0 = (s.fget SCH_LOAD_ADDR.ADDR 0 + 4) % 2 ^ 18) ∧
  (∀ (who : Init) (slot : Fin 2) (length : BitVec 19) (s : State), Admitted s who pgSCH 0x060 → s.slotState slot.val = slotLOADING → s.loaderOf slot.val = s.identOf who → s.sch.filling.contains slot.val = false → length.toNat ≤ slotBytes → ∃ t, exec (.imageLoadEnd who slot length) s = .next t ∧ Took t who ∧ t.slotState slot.val = slotVERIFYING ∧ t.fget SCH_LOAD_CTRL.LENGTH 0 = length.toNat ∧ t.endLen slot.val = length.toNat) ∧
  (∀ (who : Init) (slot : Fin 2) (s : State), Admitted s who pgSCH 0x060 → s.slotState slot.val = slotLOADING → s.loaderOf slot.val = s.identOf who → s.sch.filling.contains slot.val = false → ∃ t, exec (.imageLoadAbort who slot) s = .next t ∧ Took t who ∧ t.slotState slot.val = slotEMPTY) ∧
  (∀ (slot : Fin 2) (s : State), s.slotState slot.val = slotLOADING → s.timerDue tmLoad slot.val s.sec_ 10 = true → ∃ t, exec (.loadTimeout slot) s = .next t ∧ t.slotState slot.val = slotEMPTY ∧ t.timerOn tmLoad slot.val = false) ∧
  (∀ (slot : Fin 2) (sigOk : Bool) (recountOk : Bool) (s : State), s.slotState slot.val = slotVERIFYING → ∃ t, exec (.verifyDone slot sigOk recountOk) s = .next t ∧ t.slotState slot.val = (if s.verifyCode slot.val (s.endLen slot.val) sigOk recountOk = 0 then slotVERIFIED else slotREFUSED) ∧ t.fget (slotGenFld slot.val) 0 = s.imgBE slot.val 0x0C 2 ∧ (s.verifyCode slot.val (s.endLen slot.val) sigOk recountOk ≠ 0 → t.fget (slotResultFld slot.val) 0 = s.verifyCode slot.val (s.endLen slot.val) sigOk recountOk)) ∧
  (∀ (who : Init) (data : BitVec 32) (s : State), Admitted s who pgSCH 0x068 → s.slotState (s.fget SCH_LOAD_CTRL.SLOT 0) = slotLOADING → s.loaderOf (s.fget SCH_LOAD_CTRL.SLOT 0) = s.identOf who → s.sch.filling.contains (s.fget SCH_LOAD_CTRL.SLOT 0) = true → ∃ t, exec (.imageLoadData who data) s = .next t ∧ Took t who ∧ t.sch.heldLoads = s.sch.heldLoads ++ [(s.fget SCH_LOAD_CTRL.SLOT 0, .bytes (s.fget SCH_LOAD_ADDR.ADDR 0) (beBytes 4 data.toNat))] ∧ t.sch.img = s.sch.img ∧ t.fget SCH_LOAD_ADDR.ADDR 0 = (s.fget SCH_LOAD_ADDR.ADDR 0 + 4) % 2 ^ 18) ∧
  (∀ (who : Init) (slot : Fin 2) (length : BitVec 19) (s : State), Admitted s who pgSCH 0x060 → s.slotState slot.val = slotLOADING → s.loaderOf slot.val = s.identOf who → s.sch.filling.contains slot.val = true → length.toNat ≤ slotBytes → ∃ t, exec (.imageLoadEnd who slot length) s = .next t ∧ Took t who ∧ t.slotState slot.val = slotLOADING ∧ t.sch.heldLoads = s.sch.heldLoads ++ [(slot.val, .finish length.toNat)]) ∧
  (∀ (who : Init) (slot : Fin 2) (s : State), Admitted s who pgSCH 0x060 → s.slotState slot.val = slotLOADING → s.loaderOf slot.val = s.identOf who → s.sch.filling.contains slot.val = true → ∃ t, exec (.imageLoadAbort who slot) s = .next t ∧ Took t who ∧ t.slotState slot.val = slotLOADING ∧ t.sch.heldLoads = s.sch.heldLoads ++ [(slot.val, .abort)])

/-- Image swaps: arm, disarm, drains, point of no return, boundary, table errors. An ARM that R99 and R100 admit arms the slot and starts the plan's drains, a strict one whose plan needs a drain is refused with reason 3, one they refuse gives their reason; DISARM puts the slot back with reason 5; the drains' end leads to WAITING, the point of no return fixes the boundary, and at the boundary the slot is ACTIVE; a block reset that waited follows. (derived from R99, R100, R103, R109, R110, R112) -/
def Obligations.SwapsComplete : Prop :=
  (∀ (who : Init) (drain : Bool) (fallback : Bool) (at_ : Bool) (group : Fin 8) (s : State), Admitted s who pgSCH 0x090 → s.armedSlot = none → (drain || !s.strictFails (s.planDrains (s.planOf s.armTarget)) (s.evictions s.armTarget)) = true → s.armRefused s.armTarget fallback (if at_ then some (s.fget SCH_SWAP_AT.ORDINAL 0) else none) group.val = none → ∃ t, exec (.swapArm who drain fallback at_ group) s = .next t ∧ Took t who ∧ t.slotState s.armTarget = slotARMED ∧ t.swapState = swDRAINING ∧ t.sch.armDt = s.dt ∧ t.sch.armedFrom = s.slotState s.armTarget ∧ t.sch.staged = false) ∧
  (∀ (who : Init) (s : State) (k : Nat), Admitted s who pgSCH 0x090 → s.armedSlot = some k → s.sch.staged = false → s.sch.armedFrom < 8 → ∃ t, exec (.swapDisarm who) s = .next t ∧ Took t who ∧ t.slotState k = s.sch.armedFrom ∧ t.swapState = swREFUSED ∧ t.fget SCH_SWAP_STAT.REASON 0 = 5) ∧
  (∀ (s : State), s.swapState = swDRAINING → s.armedSlot.isSome = true → s.drainsEnded = true → ∃ t, exec .swapDrainsDone s = .next t ∧ t.swapState = swWAITING ∧ t.sch.drainsDone = s.dt) ∧
  (∀ (s : State) (f : Nat), s.swapState = swWAITING → s.armedSlot.isSome = true → s.sch.staged = false → s.swapFrame = some f → ∃ t, exec .swapPointOfNoReturn s = .next t ∧ t.sch.staged = true ∧ t.sch.boundary = periodAt f ∧ (s.timeRuns = true → periodAt f - ticksOfUs 2 ≤ t.dt)) ∧
  (∀ (lostCaps : BitVec 16) (s : State) (k : Nat), s.armedSlot = some k → s.sch.staged = true → s.sch.resetHeld = false → ∃ t, exec (.swapBoundary lostCaps) s = .next t ∧ t.sch.active = some k ∧ t.slotState k = slotACTIVE ∧ t.swapState = swDONE ∧ t.sch.staged = false ∧ t.fget SCH_ACTIVE.SLOT 0 = k) ∧
  (∀ (double : Bool) (s : State), s.sch.active.isSome = true → ∃ t, exec (.tableEccError double) s = .next t ∧ (double = true → t.sch.tableBad = true ∧ t.driven 96 = true) ∧ (double = false → t.fget SCH_TABLE_ECC.CORR 0 = min (s.fget SCH_TABLE_ECC.CORR 0 + 1) (fieldSize SCH_TABLE_ECC.CORR.hi SCH_TABLE_ECC.CORR.lo - 1) ∧ t.sch.tableBad = s.sch.tableBad)) ∧
  (∀ (slot : Fin 2) (bad : Bool) (s : State), bad = true → s.slotState slot.val = slotVERIFIED ∨ s.slotState slot.val = slotFORMER → ∃ t, exec (.tableScrub slot bad) s = .next t ∧ t.slotState slot.val = slotREFUSED ∧ t.fget (slotResultFld slot.val) 0 = 0x0E) ∧
  (∀ (who : Init) (drain : Bool) (fallback : Bool) (at_ : Bool) (group : Fin 8) (s : State), Admitted s who pgSCH 0x090 → s.armedSlot = none → drain = false → s.strictFails (s.planDrains (s.planOf s.armTarget)) (s.evictions s.armTarget) = true → s.armRefused s.armTarget fallback (if at_ then some (s.fget SCH_SWAP_AT.ORDINAL 0) else none) group.val = none → ∃ t, exec (.swapArm who drain fallback at_ group) s = .next t ∧ Took t who ∧ t.slotState s.armTarget = s.slotState s.armTarget ∧ t.swapState = swREFUSED ∧ t.fget SCH_SWAP_STAT.REASON 0 = 3 ∧ t.armedSlot = none) ∧
  (∀ (who : Init) (drain : Bool) (fallback : Bool) (at_ : Bool) (group : Fin 8) (s : State) (r : Nat), Admitted s who pgSCH 0x090 → s.armedSlot = none → s.armRefused s.armTarget fallback (if at_ then some (s.fget SCH_SWAP_AT.ORDINAL 0) else none) group.val = some r → ∃ t, exec (.swapArm who drain fallback at_ group) s = .next t ∧ Took t who ∧ t.slotState s.armTarget = s.slotState s.armTarget ∧ t.swapState = swREFUSED ∧ t.fget SCH_SWAP_STAT.REASON 0 = r) ∧
  (∀ (lostCaps : BitVec 16) (s : State) (k : Nat), s.armedSlot = some k → s.sch.staged = true → s.sch.resetHeld = true → ∃ t, exec (.swapBoundary lostCaps) s = .next t ∧ t.sch.active = some k ∧ t.slotState k = slotACTIVE ∧ t.running pgSCH = false ∧ t.sch.resetHeld = false) ∧
  (∀ (double : Bool) (s : State), s.sch.active = none → ∃ t, exec (.tableEccError double) s = .next t ∧ t = s) ∧
  (∀ (slot : Fin 2) (bad : Bool) (s : State), bad = false ∨ (s.slotState slot.val ≠ slotVERIFIED ∧ s.slotState slot.val ≠ slotFORMER) → ∃ t, exec (.tableScrub slot bad) s = .next t ∧ t = s)

/-- CAN_CTRL: enable, disable, a change of mode, CLEAR_TAPS, a request for an isolation window. A write of CAN_CTRL by an admitted initiator on its selected instance, whose map can be derived and whose PAUSE_MS is not 0: the instance takes the state of its mode, LINK_FROZEN where one of its links is lost, or OFF; a mode written in a window or in LINK_FROZEN is taken up after it; the taps of a frozen instance are zeroed; a window starts at once where one may, and is held where not; its end gives back the state before it and stores what it measured. (derived from R118, R123, R126, R127, R137) -/
def Obligations.CancellerControlWrites : Prop :=
  (∀ (who : Init) (s : State), Admitted s who pgCAN 0x044 → s.member.present (s.canSel who) = true → s.fget CAN_CTRL.PAUSE_MS (s.canSel who) ≠ 0 → s.deriveFails (s.canSel who) = false → bitsOf (s.canCtrlWord who) 27 26 = 0 → s.canLinksUp (s.canSel who) = true → ∃ t, exec (.canEnable who) s = .next t ∧ Took t who ∧ t.fon CAN_CTRL.EN (s.canSel who) = true ∧ t.fget CAN_CTRL.MODE (s.canSel who) = s.fget CAN_CTRL.MODE (s.canSel who) ∧ (s.fon CAN_CTRL.EN (s.canSel who) = false → t.canState (s.canSel who) = modeState (s.fget CAN_CTRL.MODE (s.canSel who))) ∧ (s.fon CAN_CTRL.EN (s.canSel who) = true → t.canState (s.canSel who) = s.canState (s.canSel who))) ∧
  (∀ (who : Init) (s : State), Admitted s who pgCAN 0x044 → s.member.present (s.canSel who) = true → s.fget CAN_CTRL.PAUSE_MS (s.canSel who) ≠ 0 → s.deriveFails (s.canSel who) = false → bitsOf (s.canCtrlWord who) 27 26 = 0 → s.fon CAN_CTRL.EN (s.canSel who) = true → ∃ t, exec (.canDisable who) s = .next t ∧ Took t who ∧ t.fon CAN_CTRL.EN (s.canSel who) = false ∧ t.canState (s.canSel who) = canOFF ∧ t.fon CAN_STAT.ISO_BUSY (s.canSel who) = false ∧ t.timerOn tmPause (s.canSel who) = false) ∧
  (∀ (who : Init) (mode : Fin 4) (s : State), Admitted s who pgCAN 0x044 → s.member.present (s.canSel who) = true → s.fget CAN_CTRL.PAUSE_MS (s.canSel who) ≠ 0 → s.deriveFails (s.canSel who) = false → bitsOf (s.canCtrlWord who) 27 26 = 0 → ∃ t, exec (.canModeWrite who mode) s = .next t ∧ Took t who ∧ t.fget CAN_CTRL.MODE (s.canSel who) = mode.val ∧ t.fon CAN_CTRL.EN (s.canSel who) = s.fon CAN_CTRL.EN (s.canSel who) ∧ (s.fon CAN_CTRL.EN (s.canSel who) = true → mode.val ≠ s.fget CAN_CTRL.MODE (s.canSel who) → s.fon CAN_STAT.ISO_BUSY (s.canSel who) = false → s.canState (s.canSel who) ≠ canLINKFROZEN → s.canLinksUp (s.canSel who) = true → t.canState (s.canSel who) = modeState mode.val) ∧ (s.fon CAN_CTRL.EN (s.canSel who) = true → mode.val ≠ s.fget CAN_CTRL.MODE (s.canSel who) → s.linkFrozen (s.canSel who) = true → (t.canRt (s.canSel who)).preLink = modeState mode.val) ∧ (s.fon CAN_CTRL.EN (s.canSel who) = true → mode.val ≠ s.fget CAN_CTRL.MODE (s.canSel who) → s.fon CAN_STAT.ISO_BUSY (s.canSel who) = true → s.linkFrozen (s.canSel who) = false → s.canLinksUp (s.canSel who) = true → (t.canRt (s.canSel who)).preIso = modeState mode.val)) ∧
  (∀ (who : Init) (s : State), Admitted s who pgCAN 0x044 → s.member.present (s.canSel who) = true → s.fget CAN_CTRL.PAUSE_MS (s.canSel who) ≠ 0 → s.deriveFails (s.canSel who) = false → s.canState (s.canSel who) = canFROZEN → bitsOf (s.canCtrlWord who) 27 27 = 0 → ∃ t, exec (.clearTaps who) s = .next t ∧ Took t who ∧ (∀ e ∈ t.can.taps, e.1 / 65536 ≠ s.canSel who) ∧ (s.canLinksUp (s.canSel who) = true → t.canState (s.canSel who) = canFROZEN)) ∧
  (∀ (who : Init) (s : State), Admitted s who pgCAN 0x044 → s.member.present (s.canSel who) = true → s.fget CAN_CTRL.PAUSE_MS (s.canSel who) ≠ 0 → s.deriveFails (s.canSel who) = false → bitsOf (s.canCtrlWord who) 26 26 = 0 → s.isoReady (s.canSel who) = true → s.canLinksUp (s.canSel who) = true → ∃ t, exec (.isoReq who) s = .next t ∧ Took t who ∧ t.fon CAN_STAT.ISO_BUSY (s.canSel who) = true ∧ t.canState (s.canSel who) = canPROBE ∧ (t.canRt (s.canSel who)).preIso = s.canState (s.canSel who) ∧ (t.canRt (s.canSel who)).isoHeld = false) ∧
  (∀ (who : Init) (reg : CanReg) (value : BitVec 32) (s : State) (u : State), Admitted s who pgCAN (canRegOff reg) → s.member.present (s.canSel who) = true → canRangeOk reg value = true → s.mergeReg pgCAN (canRegOff reg) (canKey (canRegOff reg) (s.canSel who)) value = .ok u → u.deriveFails (s.canSel who) = false → ∃ t, exec (.canBasicWrite who reg value) s = .next t ∧ Took t who ∧ t.word (canKey (canRegOff reg) (s.canSel who)) = u.word (canKey (canRegOff reg) (s.canSel who)) ∧ (u.canLinksUp (s.canSel who) = true → t.canState (s.canSel who) = s.canState (s.canSel who))) ∧
  (∀ (inst : Fin 32) (s : State), (s.canRt inst.val).isoHeld = true → s.isoReady inst.val = true → ∃ t, exec (.isoWindowStart inst) s = .next t ∧ t.fon CAN_STAT.ISO_BUSY inst.val = true ∧ t.canState inst.val = canPROBE ∧ (t.canRt inst.val).isoHeld = false) ∧
  (∀ (inst : Fin 32) (s : State), 0 < s.fget CAN_PROBE.ISO_PERIOD_S inst.val → s.timerDue tmIsoPeriod inst.val s.sec_ (s.fget CAN_PROBE.ISO_PERIOD_S inst.val) = true → s.isoReady inst.val = true → ∃ t, exec (.isoPeriodExpired inst) s = .next t ∧ t.fon CAN_STAT.ISO_BUSY inst.val = true ∧ t.canState inst.val = canPROBE) ∧
  (∀ (inst : Fin 32) (mapBad : Bool) (s : State), s.fon CAN_STAT.ISO_BUSY inst.val = true → s.timerDue tmIso inst.val s.ms (s.fget CAN_PROBE.ISO_WIN_MS inst.val) = true → ∃ t, exec (.isoWindowEnd inst mapBad) s = .next t ∧ (t.fon CAN_STAT.ISO_BUSY inst.val = false → t.canState inst.val = (s.canRt inst.val).preIso % 16) ∧ (mapBad = true → t.driven 98 = true) ∧ t.can.iso = (s.isoFinish inst.val).can.iso) ∧
  (∀ (inst : Fin 32) (mapBad : Bool) (s : State) (k : Nat) (r : Nat) (e : IsoEntry), s.fon CAN_STAT.ISO_BUSY inst.val = true → s.timerDue tmIso inst.val s.ms (s.fget CAN_PROBE.ISO_WIN_MS inst.val) = true → s.isoCovered inst.val = [(k, r)] → s.isoResult inst.val k r = some e → ∃ t, exec (.isoWindowEnd inst mapBad) s = .next t ∧ (e.src = 0 → t.isoOf inst.val k r = e) ∧ (e.src = 1 → (s.isoOf inst.val k r).iso < e.iso → t.isoOf inst.val k r = e) ∧ (e.src = 1 → e.iso ≤ (s.isoOf inst.val k r).iso → (s.isoOf inst.val k r).src ≠ 2 → t.isoOf inst.val k r = s.isoOf inst.val k r)) ∧
  (∀ (who : Init) (s : State), Admitted s who pgCAN 0x044 → s.member.present (s.canSel who) = true → s.fget CAN_CTRL.PAUSE_MS (s.canSel who) ≠ 0 → s.deriveFails (s.canSel who) = false → bitsOf (s.canCtrlWord who) 27 26 = 0 → s.canLinksUp (s.canSel who) = false → s.fon CAN_CTRL.EN (s.canSel who) = false → s.fon CAN_STAT.ISO_BUSY (s.canSel who) = false → ∃ t, exec (.canEnable who) s = .next t ∧ Took t who ∧ t.fon CAN_CTRL.EN (s.canSel who) = true ∧ t.canState (s.canSel who) = canLINKFROZEN ∧ (t.canRt (s.canSel who)).preLink = modeState (s.fget CAN_CTRL.MODE (s.canSel who))) ∧
  (∀ (who : Init) (s : State), Admitted s who pgCAN 0x044 → s.member.present (s.canSel who) = true → s.fget CAN_CTRL.PAUSE_MS (s.canSel who) ≠ 0 → s.deriveFails (s.canSel who) = false → bitsOf (s.canCtrlWord who) 26 26 = 0 → s.isoReady (s.canSel who) = false → s.canState (s.canSel who) ≠ canOFF → s.canLinksUp (s.canSel who) = true → ∃ t, exec (.isoReq who) s = .next t ∧ Took t who ∧ (t.canRt (s.canSel who)).isoHeld = true ∧ t.canState (s.canSel who) = s.canState (s.canSel who)) ∧
  (∀ (who : Init) (s : State), Admitted s who pgCAN 0x044 → s.member.present (s.canSel who) = true → s.fget CAN_CTRL.PAUSE_MS (s.canSel who) ≠ 0 → s.canState (s.canSel who) ≠ canFROZEN → ∃ t, exec (.clearTaps who) s = .next t ∧ t.lastReason who = Reason.configLocked.code ∧ t.can = s.can)

/-- Canceller instances: pause and link timers, expert map and taps, a subband sample, the monitor, the clamp, self-test. The end of a pause returns the mode before it, the end of LINK_FROZEN the state before it; a tap is written by its two halves and read as one value; a subband sample reaches histories, correlators and taps only; a clamp goes from hold to release to off; a self-test ends with its result, and what it held applies. (derived from R117, R120, R123, R129, R133, R134, R138) -/
def Obligations.CancellerTimersAndSamples : Prop :=
  (∀ (inst : Fin 32) (s : State), s.timerDue tmPause inst.val s.ms (s.canRt inst.val).pauseLen = true → ∃ t, exec (.pauseExpired inst) s = .next t ∧ t.fget CAN_CTRL.MODE inst.val = (s.canRt inst.val).prePause % 4 ∧ t.timerOn tmPause inst.val = false ∧ (s.canState inst.val = canPAUSED → t.canState inst.val = modeState (s.canRt inst.val).prePause % 16)) ∧
  (∀ (inst : Fin 32) (s : State), s.canState inst.val = canLINKFROZEN → s.fon CAN_STAT.ISO_BUSY inst.val = false → s.canLinksUp inst.val = true → s.timerDue tmLinkUp inst.val s.ms 1 = true → ∃ t, exec (.linkFrozenExit inst) s = .next t ∧ t.canState inst.val = (s.canRt inst.val).preLink % 16 ∧ t.timerOn tmLinkUp inst.val = false) ∧
  (∀ (who : Init) (value : BitVec 32) (s : State) (u : State), Admitted s who pgCAN 0x444 → mapWrite who value (s.disarm who pgCAN) = .ok u → ∃ t, exec (.canMapWrite who value) s = .next t ∧ Took t who ∧ (t.canRt (s.canSel who)).derived = false ∧ t.word (CAN_MAP.EN.key (s.mapSel who)) = u.word (CAN_MAP.EN.key (s.mapSel who))) ∧
  (∀ (who : Init) (re : BitVec 20) (s : State), Admits (fun u => u.admitTap who 0x44C) s who pgCAN 0x44C → ∃ t, exec (.tapReWrite who re) s = .next t ∧ Took t who ∧ Tbl.get (fun _ => 0) t.can.stageRe who.holder = re.toNat ∧ t.can.taps = s.can.taps) ∧
  (∀ (who : Init) (im : BitVec 20) (s : State), Admits (fun u => u.admitTap who 0x450) s who pgCAN 0x450 → s.fget CAN_TAP_SEL.TAP who.holder < s.fget CAN_MAP.LEN (s.mapSel who) → ∃ t, exec (.tapImWrite who im) s = .next t ∧ Took t who ∧ Tbl.get (fun _ => {}) t.can.taps (s.tapSel who) = (⟨toSigned (Tbl.get (fun _ => 0) s.can.stageRe who.holder) (2 ^ 20), toSigned im.toNat (2 ^ 20)⟩ : Cplx)) ∧
  (∀ (who : Init) (s : State), Readable s who pgCAN → ∃ t, exec (.tapReRead who) s = .next t ∧ t.readOf who = BitVec.ofNat 32 (ofSigned (Tbl.get (fun _ => ({} : Cplx)) s.can.taps (s.tapSel who)).re (2 ^ 20)) ∧ Tbl.get (fun _ => 0) t.can.latchIm who.holder = ofSigned (Tbl.get (fun _ => ({} : Cplx)) s.can.taps (s.tapSel who)).im (2 ^ 20)) ∧
  (∀ (inst : Fin 32) (sb : Fin 64) (d : Int × Int) (refs : List RefIn) (mapBad : Bool) (s : State), s.canSample inst.val sb.val = true → ∃ t, exec (.subbandAdapt inst sb d refs mapBad) s = .next t ∧ t.free = s.free + 4 * (s.tapsOf inst.val sb.val).length + 4 ∧ t.can.rt = s.can.rt ∧ t.can.iso = s.can.iso ∧ t.can.selftest = s.can.selftest ∧ t.npr = s.npr ∧ t.ctx = s.ctx ∧ (s.canState inst.val ≠ canLINKFROZEN → ∀ r : Fin 4, Tbl.get (fun _ => []) t.can.hist (rkKey inst.val sb.val r.val) = ((⟨(refs.getD r.val ⟨(0, 0), 0⟩).x.1, (refs.getD r.val ⟨(0, 0), 0⟩).x.2⟩ : Cplx) :: Tbl.get (fun _ => []) s.can.hist (rkKey inst.val sb.val r.val)).take (s.histDepth inst.val)) ∧ (s.canState inst.val ≠ canRUN → s.canState inst.val ≠ canPROBE → t.can.taps = s.can.taps) ∧ (mapBad = true → t.driven 98 = true)) ∧
  (∀ (inst : Fin 32) (s : State), s.fon CAN_STAT.ISO_BUSY inst.val = true → (s.canRt inst.val).preIso = canLINKFROZEN → s.canLinksUp inst.val = true → s.timerDue tmLinkUp inst.val s.ms 1 = true → ∃ t, exec (.linkFrozenExit inst) s = .next t ∧ (t.canRt inst.val).preIso = (s.canRt inst.val).preLink ∧ t.canState inst.val = s.canState inst.val ∧ t.timerOn tmLinkUp inst.val = false) ∧
  (∀ (who : Init) (im : BitVec 20) (s : State), Admits (fun u => u.admitTap who 0x450) s who pgCAN 0x450 → s.fget CAN_MAP.LEN (s.mapSel who) ≤ s.fget CAN_TAP_SEL.TAP who.holder → ∃ t, exec (.tapImWrite who im) s = .next t ∧ Took t who ∧ t.can.taps = s.can.taps) ∧
  (∀ (inst : Fin 32) (s : State), s.member.present inst.val = true → s.works pgCAN = true → s.canState inst.val ≠ canSELFTEST → ∃ t, exec (.marginUpdate inst) s = .next t ∧ t.fget CAN_STAT.MON_STALE inst.val = 0 ∧ t.canState inst.val = s.canState inst.val ∧ t.can.taps = s.can.taps ∧ (∀ k : Fin 64, k.val < s.subbands inst.val → s.sbActive inst.val k.val = false → t.marginOf inst.val k.val = noLoop)) ∧
  (∀ (stream : Fin 32) (s : State), s.clampState (32 + stream.val) = 1 → ∃ t, exec (.clampHoldExpired stream) s = .next t ∧ t.clampState (32 + stream.val) = 2 ∧ t.fget (clampDepthFld (32 + stream.val)) (stream.val / 2) = s.fget (clampDepthFld (32 + stream.val)) (stream.val / 2) ∧ s.dt ≤ t.dt) ∧
  (∀ (stream : Fin 32) (s : State), s.clampState (32 + stream.val) = 2 → ∃ t, exec (.clampReleaseDone stream) s = .next t ∧ t.clampState (32 + stream.val) = 0 ∧ t.fget (clampDepthFld (32 + stream.val)) (stream.val / 2) = 0 ∧ s.dt ≤ t.dt) ∧
  (∀ (code : Fin 256) (s : State) (n : Nat) (st : Nat), s.can.selftest = some (n, st) → s.timerDue tmCanTest n s.ms 8 = true → s.heldWrites = [] → ∃ t, exec (.canSelftestEnd code) s = .next t ∧ t.can.selftest = none ∧ t.fon SELFTEST.BUSY pgCAN = false ∧ t.fon PAGE_STAT.SELFTEST_ACTIVE pgCAN = false ∧ t.fget SELFTEST.RESULT pgCAN = (if code.val = 0 then 1 else 2) ∧ t.fget SELFTEST.DETAIL pgCAN = (n * 256 + code.val) % 65536) ∧
  (∀ (code : Fin 256) (s : State) (n : Nat) (st : Nat), s.can.selftest = some (n, st) → s.timerDue tmCanTest n s.ms 8 = true → s.heldWrites ≠ [] → ∃ t, exec (.canSelftestEnd code) s = .next t ∧ t.can.selftest = none ∧ t.heldWrites = [] ∧ t = (s.selftestStop (if code.val = 0 then 1 else 2) code.val).applyHeld)

/-- Gain engine: a context's tick, FE_ACK, a lost supply correction, trace channels, the budget. A tick acts only on a context of the member while the engine runs, and leaves no commit, direct write, command or acknowledgement of the context waiting; a channel without a node slot is refused; FE_ACK is consumed and, for a context muted by its cause, zeroes both integrators; ARM, TRIG_NOW and STOP act on every channel of their mask; the oldest unread sample is read and the index moves on; the port power used is the sum of the grants of that port. (derived from R144, R147, R161, R166, R170, R171, R172, R246) -/
def Obligations.GainEngineCommands : Prop :=
  (∀ (ctx : Fin 4096) (inp : List StripLevel) (outp : List (Fin 32 × StripLevel)) (xcFull : Bool) (s : State), ctx.val < s.member.contexts → s.works pgCEN = true → (s.ctxRt ctx.val).slot.isSome = true → ∃ t, exec (.contextTick ctx inp outp xcFull) s = .next t ∧ t = (s.toTick ctx.val).fullTick ctx.val (s.tickIn ctx.val inp) (s.tickOut ctx.val inp outp) xcFull ∧ (t.ctxRt ctx.val).direct = [] ∧ (t.ctxRt ctx.val).cmd = 0 ∧ (t.ctxRt ctx.val).drainReq = false ∧ (t.ctxRt ctx.val).retarget = false ∧ (t.ctxRt ctx.val).feAck = false ∧ (∀ k : Fin 23, (t.window k.val).ctx = ctx.val → (t.window k.val).pending = false) ∧ s.dt ≤ t.dt) ∧
  (∀ (ctx : Fin 4096) (inp : List StripLevel) (outp : List (Fin 32 × StripLevel)) (xcFull : Bool) (s : State), ctx.val < s.member.contexts → s.running pgCEN = true → (s.ctxRt ctx.val).slot.isSome = false → ∃ t, exec (.contextTick ctx inp outp xcFull) s = .next t ∧ t = s.idleTick ctx.val ∧ (t.ctxRt ctx.val).direct = [] ∧ (t.ctxRt ctx.val).cmd = 0 ∧ (t.ctxRt ctx.val).drainReq = false ∧ (t.ctxRt ctx.val).retarget = false ∧ (t.ctxRt ctx.val).feAck = false ∧ (∀ k : Fin 23, (t.window k.val).ctx = ctx.val → (t.window k.val).pending = false) ∧ s.dt ≤ t.dt) ∧
  (∀ (ctx : Fin 4096) (inp : List StripLevel) (outp : List (Fin 32 × StripLevel)) (xcFull : Bool) (s : State), ctx.val < s.member.contexts → s.running pgCEN = false → ∃ t, exec (.contextTick ctx inp outp xcFull) s = .next t ∧ t = s) ∧
  (∀ (ctx : Fin 4096) (s : State), (s.ctxRt ctx.val).feAck = true → ∃ t, exec (.feAck ctx) s = .next t ∧ (t.ctxRt ctx.val).feAck = false ∧ (s.mutedFor ctx.val 4 = true → (t.ctxRt ctx.val).i1 = 0 ∧ (t.ctxRt ctx.val).i2 = 0 ∧ t.cget CW40.I1 ctx.val = 0 ∧ t.cget CW40.I2 ctx.val = 0) ∧ (s.mutedFor ctx.val 4 = false → t.cget CTX_CTRL.CMD_RESULT ctx.val = 2)) ∧
  (∀ (port : Fin 32) (s : State), (s.supplyRt port.val).watched = true → (s.supplyRt port.val).lost = false → s.supplyPart port.val = true → ∃ t, exec (.supplyCorrTimeout port) s = .next t ∧ (t.supplyRt port.val).lost = true ∧ (t.supplyRt port.val).corr = 0 ∧ t.fget CEN_INPUT_LAST.KIND 0 = 2 ∧ t.fget CEN_INPUT_LAST.PORT 0 = port.val ∧ s.dt ≤ t.dt) ∧
  (∀ (who : Init) (mask : BitVec 16) (s : State) (ch : Fin 16), Admitted s who pgCEN 0x0DC → mask.toNat.testBit ch.val = true → (∀ k : Fin 16, mask.toNat.testBit k.val = true → k.val < s.traceNodes) → ∃ t, exec (.traceArm who mask) s = .next t ∧ Took t who ∧ t.fget CEN_TRC_STAT.STATE ch.val = trARMED ∧ t.fget CEN_TRC_STAT.FILL ch.val = 0 ∧ t.fget CEN_TRC_STAT.TRIGD ch.val = 0 ∧ t.fget CEN_TRC_RD_ADDR.INDEX ch.val = 0 ∧ (t.traceCh ch.val).samples = []) ∧
  (∀ (who : Init) (mask : BitVec 16) (s : State) (ch : Fin 16), Admitted s who pgCEN 0x0DC → mask.toNat.testBit ch.val = true → ∃ t, exec (.traceTrigNow who mask) s = .next t ∧ Took t who ∧ t.traceCh ch.val = { s.traceCh ch.val with hostTrig := true } ∧ t.fget CEN_TRC_STAT.STATE ch.val = s.fget CEN_TRC_STAT.STATE ch.val) ∧
  (∀ (who : Init) (mask : BitVec 16) (s : State) (ch : Fin 16), Admitted s who pgCEN 0x0DC → mask.toNat.testBit ch.val = true → ∃ t, exec (.traceStop who mask) s = .next t ∧ Took t who ∧ t.fget CEN_TRC_STAT.STATE ch.val = trDONE ∧ t.traceCh ch.val = s.traceCh ch.val) ∧
  (∀ (who : Init) (s : State), Readable s who pgCEN → s.fget CEN_TRC_STAT.STATE (s.fget CEN_TRC_SEL.CH who.holder) ≠ trARMED → s.fget CEN_TRC_STAT.STATE (s.fget CEN_TRC_SEL.CH who.holder) ≠ trTRIGGERED → ∃ t, exec (.traceReadData who) s = .next t ∧ Took t who ∧ t.readOf who = s.traceAt (s.fget CEN_TRC_SEL.CH who.holder) (s.fget CEN_TRC_RD_ADDR.INDEX (s.fget CEN_TRC_SEL.CH who.holder)) ∧ t.fget CEN_TRC_RD_ADDR.INDEX (s.fget CEN_TRC_SEL.CH who.holder) = (s.fget CEN_TRC_RD_ADDR.INDEX (s.fget CEN_TRC_SEL.CH who.holder) + 1) % fieldSize CEN_TRC_RD_ADDR.INDEX.hi CEN_TRC_RD_ADDR.INDEX.lo) ∧
  (∀ (s : State) (n : Fin 32), s.domainRuns 1 = true → s.member.present n.val = true → ∃ t, exec .budgetAllocation s = .next t ∧ t.fgetI NPR_PORT.USED n.val = mwField ((s.allocate n.val).map fun x => x.grant).sum) ∧
  (∀ (s : State), s.domainRuns 1 = false → ∃ t, exec .budgetAllocation s = .next t ∧ t = s) ∧
  (∀ (ctx : Fin 4096) (s : State), s.timerDue tmBudget ctx.val s.ms (s.fget NPR_TIME.BUDGET_HOLD_MS 0) = true → ∃ t, exec (.budgetHoldExpired ctx) s = .next t ∧ (t.ctxRt ctx.val).held = true ∧ t.timerOn tmBudget ctx.val = false ∧ t.regs = s.regs) ∧
  (∀ (who : Init) (s : State), Readable s who pgCEN → s.fget CEN_TRC_STAT.STATE (s.fget CEN_TRC_SEL.CH who.holder) = trARMED ∨ s.fget CEN_TRC_STAT.STATE (s.fget CEN_TRC_SEL.CH who.holder) = trTRIGGERED → ∃ t, exec (.traceReadData who) s = .next t ∧ t.lastReason who = Reason.windowBusy.code ∧ t.readOf who = 0 ∧ t.fget CEN_TRC_RD_ADDR.INDEX (s.fget CEN_TRC_SEL.CH who.holder) = s.fget CEN_TRC_RD_ADDR.INDEX (s.fget CEN_TRC_SEL.CH who.holder)) ∧
  (∀ (who : Init) (mask : BitVec 16) (s : State) (k : Fin 16), Admitted s who pgCEN 0x0DC → mask.toNat.testBit k.val = true → s.traceNodes ≤ k.val → ∃ t, exec (.traceArm who mask) s = .next t ∧ t.lastReason who = Reason.unitAbsent.code ∧ t.cen = s.cen)

/-- Gain grid: a row freezes, is read and rearmed, takes a descriptor's row; memory errors; the host writer; a row's end. The freeze keeps a row's cells; the read rewrites the row with BASE and shows it; a writer's front descriptor applies one row at a time and leaves its queue with its last row, or at once where its tests refuse it, and its credit lets the listener's waiting descriptors in; a double error marks the word, a single one is counted; the host's write enters its queue, or finds the window busy; a row's end runs the noise gate and estimate of an uplink path and no other. (derived from R180, R183, R184, R187, R189, R190, R193, R196) -/
def Obligations.GridCommands : Prop :=
  (∀ (path : Fin 32) (row : Fin 280) (s : State), s.member.present path.val = true → s.beforeNext path.val (s.tFreeze path.val row.val (s.rowAt path.val row.val).2) = true → ∃ t, exec (.gridRowFreeze path row) s = .next t ∧ (Tbl.get (fun _ => ({} : GridRow)) t.ggr.rows (gridRows * path.val + row.val)).frozen = true ∧ (Tbl.get (fun _ => ({} : GridRow)) t.ggr.rows (gridRows * path.val + row.val)).base = (s.rowAt path.val row.val).1.base ∧ (Tbl.get (fun _ => ({} : GridRow)) t.ggr.rows (gridRows * path.val + row.val)).cells = (s.rowAt path.val row.val).1.cells ∧ s.dt ≤ t.dt ∧ t.regs = s.regs) ∧
  (∀ (path : Fin 32) (row : Fin 280) (s : State), s.member.present path.val = false ∨ s.beforeNext path.val (s.tFreeze path.val row.val (s.rowAt path.val row.val).2) = false → ∃ t, exec (.gridRowFreeze path row) s = .next t ∧ t = s) ∧
  (∀ (path : Fin 32) (row : Fin 280) (s : State), s.works pgGGR = true → s.member.present path.val = true → s.beforeNext path.val (s.tRead path.val row.val (s.rowAt path.val row.val).2) = true → ∃ t, exec (.gridRowRead path row) s = .next t ∧ t.fget GGR_PSTAT.ROW path.val = row.val ∧ (Tbl.get (fun _ => ({} : GridRow)) t.ggr.rows (gridRows * path.val + row.val)).frozen = false ∧ (Tbl.get (fun _ => ({} : GridRow)) t.ggr.rows (gridRows * path.val + row.val)).bad = [] ∧ (Tbl.get (fun _ => ({} : GridRow)) t.ggr.rows (gridRows * path.val + row.val)).cells = [] ∧ (Tbl.get (fun _ => ({} : GridRow)) t.ggr.rows (gridRows * path.val + row.val)).base = s.baseOf path.val ∧ (t.pathGrid path.val).last = some row.val ∧ s.dt ≤ t.dt) ∧
  (∀ (path : Fin 32) (row : Fin 280) (s : State), s.works pgGGR = false → ∃ t, exec (.gridRowRead path row) s = .next t ∧ t = s) ∧
  (∀ (writer : Fin 4) (s : State) (d : GridDesc) (rest : List GridDesc), s.works pgGGR = true → s.gridQueue writer.val = d :: rest → 0 < d.done ∨ s.descRefused writer.val d = none → d.done + 1 < d.rows → ∃ t, exec (.gridRowApply writer) s = .next t ∧ (t.gridQueue writer.val).map (fun e => (e.row, e.rows, e.done)) = (d.row, d.rows, d.done + 1) :: rest.map (fun e => (e.row, e.rows, e.done))) ∧
  (∀ (writer : Fin 4) (s : State) (d : GridDesc) (rest : List GridDesc), s.works pgGGR = true → s.gridQueue writer.val = d :: rest → d.rows ≤ d.done + 1 ∨ (d.done = 0 ∧ (s.descRefused writer.val d).isSome = true) → ∃ t, exec (.gridRowApply writer) s = .next t ∧ t.gridQueue writer.val = rest ++ (if writer.val = wrLISTENER then s.ggr.clWait.take (s.fget GGR_Q.DEPTH writer.val - rest.length) else [])) ∧
  (∀ (writer : Fin 4) (s : State), s.works pgGGR = false ∨ s.gridQueue writer.val = [] → ∃ t, exec (.gridRowApply writer) s = .next t ∧ t = s) ∧
  (∀ (path : Fin 32) (row : Fin 280) (word : Fin 216) (double : Bool) (s : State), s.member.present path.val = true → double = false → ∃ t, exec (.gridEccError path row word double) s = .next t ∧ t.fget GGR_ECC.CORR 0 = min (s.fget GGR_ECC.CORR 0 + 1) (fieldSize GGR_ECC.CORR.hi GGR_ECC.CORR.lo - 1) ∧ t.ggr = s.ggr) ∧
  (∀ (path : Fin 32) (row : Fin 280) (word : Fin 216) (double : Bool) (s : State), s.member.present path.val = true → double = true → ∃ t, exec (.gridEccError path row word double) s = .next t ∧ t.fget GGR_ECC.UNCORR 0 = min (s.fget GGR_ECC.UNCORR 0 + 1) (fieldSize GGR_ECC.UNCORR.hi GGR_ECC.UNCORR.lo - 1) ∧ (Tbl.get (fun _ => ({} : GridRow)) t.ggr.rows (gridRows * path.val + row.val)).bad.contains word.val = true) ∧
  (∀ (who : Init) (rows : BitVec 9) (s : State) (u : State), Admitted s who pgGGR 0x088 → s.fon GGR_WR_STAT.PENDING who.holder = false → s.gridCredits wrHOST ≠ 0 → s.mergeReg pgGGR 0x088 (GGR_WR2.ROWS.key who.holder) (rows.setWidth 32) = .ok u → ∃ t, exec (.ggrWrQueue who rows) s = .next t ∧ Took t who ∧ t.fon GGR_WR_STAT.PENDING who.holder = true ∧ (t.gridQueue wrHOST).length = (s.gridQueue wrHOST).length + 1) ∧
  (∀ (who : Init) (rows : BitVec 9) (s : State), Admitted s who pgGGR 0x088 → s.fon GGR_WR_STAT.PENDING who.holder = true ∨ s.gridCredits wrHOST = 0 → ∃ t, exec (.ggrWrQueue who rows) s = .next t ∧ t.lastReason who = Reason.windowBusy.code ∧ t.gridQueue wrHOST = s.gridQueue wrHOST) ∧
  (∀ (path : Fin 32) (row : Fin 280) (strips : List (Nat × Int × Int)) (s : State), s.works pgGGR = true → isUplink path.val = true → s.member.present path.val = true → s.writerOn wrNOISE path.val = false → ∃ t, exec (.symbolRowEnd path row strips) s = .next t ∧ t = ((s.ctxsOfPath path.val).filter fun c => ctxRuns (s.ctxState c)).foldl (fun t c => t.noiseRow c row.val strips) s ∧ t.regs = s.regs ∧ t.ctx = s.ctx ∧ t.ggr = s.ggr) ∧
  (∀ (path : Fin 32) (row : Fin 280) (strips : List (Nat × Int × Int)) (s : State), s.works pgGGR = true → isUplink path.val = true → s.member.present path.val = true → ∃ t, exec (.symbolRowEnd path row strips) s = .next t ∧ t.ctx = s.ctx ∧ t.timers = s.timers ∧ t.sch = s.sch ∧ t.can = s.can) ∧
  (∀ (path : Fin 32) (row : Fin 280) (strips : List (Nat × Int × Int)) (s : State), s.works pgGGR = false ∨ isUplink path.val = false ∨ s.member.present path.val = false → ∃ t, exec (.symbolRowEnd path row strips) s = .next t ∧ t = s)

/-- Timing groups: boundaries, enable and disable, observations, timeouts and the choice of source. A boundary brings device time to it and opens the next one; an enabled group acquires with its counts at 0; a disabled one has no state, no source and no committed boundary; an observation that waits for the group, of the source in use, sets LAST_ERR_NS, of the other one SEC_ERR_NS; a lost source gives way to the other one. (derived from R27, R201, R203, R206, R208, R209) -/
def Obligations.TimingGroupCommands : Prop :=
  (∀ (group : Fin 8) (s : State), s.works pgFTM = true → s.hasClock group.val = false → (s.groupRt group.val).relabel = none → ∃ t, exec (.frameBoundary group) s = .next t ∧ t.fon FTM_GSTAT.NEXT_COMMITTED group.val = false ∧ s.dt ≤ t.dt ∧ (s.timeRuns = true → s.nextBoundary group.val / one16 ≤ t.dt)) ∧
  (∀ (group : Fin 8) (s : State), s.works pgFTM = true → s.hasClock group.val = true → (s.groupRt group.val).relabel = none → (s.groupRt group.val).step = none → ∃ t, exec (.frameBoundary group) s = .next t ∧ t.fon FTM_GSTAT.NEXT_COMMITTED group.val = false ∧ t.fget FTM_GORD.ORDINAL group.val = (s.fget FTM_GORD.ORDINAL group.val + 1) % 2 ^ 32 ∧ t.fget FTM_GSTAT.SFN group.val = (s.fget FTM_GORD.ORDINAL group.val + 1) % 2 ^ 32 % 1024 ∧ (t.groupRt group.val).bc = (s.groupRt group.val).bn ∧ (s.timeRuns = true → (s.groupRt group.val).bn / one16 ≤ t.dt)) ∧
  (∀ (group : Fin 8) (s : State), s.fon FTM_GSTAT.NEXT_COMMITTED group.val = true → ∃ t, exec (.boundaryCommit group) s = .next t ∧ t = s) ∧
  (∀ (group : Fin 8) (s : State), s.fon FTM_GSTAT.NEXT_COMMITTED group.val = false → ∃ t, exec (.boundaryCommit group) s = .next t ∧ t.fon FTM_GSTAT.NEXT_COMMITTED group.val = true ∧ s.dt ≤ t.dt ∧ (s.timeRuns = true → s.nextBoundary group.val / one16 - commitLead ≤ t.dt)) ∧
  (∀ (who : Init) (s : State) (u : State), Admitted s who pgFTM 0x044 → s.fget FTM_GCFG.PRI (s.fget FTM_GSEL.GRP who.holder) ≤ 3 → s.fget FTM_GCFG.SEC (s.fget FTM_GSEL.GRP who.holder) ≤ 3 → 2 ≤ s.fget FTM_GCFG.RELOCK_N (s.fget FTM_GSEL.GRP who.holder) → s.fon FTM_GCFG.EN (s.fget FTM_GSEL.GRP who.holder) = false → s.mergeReg pgFTM 0x044 (FTM_GCFG.EN.key (s.fget FTM_GSEL.GRP who.holder)) (s.gcfgEn who 1) = .ok u → ∃ t, exec (.tgroupEnable who) s = .next t ∧ Took t who ∧ t.fon FTM_GCFG.EN (s.fget FTM_GSEL.GRP who.holder) = true ∧ t.groupState (s.fget FTM_GSEL.GRP who.holder) = tgACQUIRING ∧ t.fget FTM_GCNT.ACCEPTED (s.fget FTM_GSEL.GRP who.holder) = 0 ∧ t.fget FTM_GCNT.REJECTED (s.fget FTM_GSEL.GRP who.holder) = 0) ∧
  (∀ (who : Init) (s : State) (u : State), Admitted s who pgFTM 0x044 → s.fget FTM_GCFG.PRI (s.fget FTM_GSEL.GRP who.holder) ≤ 3 → s.fget FTM_GCFG.SEC (s.fget FTM_GSEL.GRP who.holder) ≤ 3 → 2 ≤ s.fget FTM_GCFG.RELOCK_N (s.fget FTM_GSEL.GRP who.holder) → s.fon FTM_GCFG.EN (s.fget FTM_GSEL.GRP who.holder) = true → s.groupBusy (s.fget FTM_GSEL.GRP who.holder) = false → s.mergeReg pgFTM 0x044 (FTM_GCFG.EN.key (s.fget FTM_GSEL.GRP who.holder)) (s.gcfgEn who 0) = .ok u → ∃ t, exec (.tgroupDisable who) s = .next t ∧ Took t who ∧ t.fon FTM_GCFG.EN (s.fget FTM_GSEL.GRP who.holder) = false ∧ t.groupState (s.fget FTM_GSEL.GRP who.holder) = tgNONE ∧ t.fget FTM_GSTAT.SRC (s.fget FTM_GSEL.GRP who.holder) = 0 ∧ t.fon FTM_GSTAT.NEXT_COMMITTED (s.fget FTM_GSEL.GRP who.holder) = false) ∧
  (∀ (group : Fin 8) (secondary : Bool) (tk : BitVec 64) (index : BitVec 48) (s : State), s.works pgFTM = true → s.groupState group.val ≠ tgNONE → s.sourceValid (s.sourceCfg group.val secondary) = true → s.obsWaits group.val secondary tk.toNat index.toNat = true → (((((s.takeObs group.val secondary).adoptSources group.val).notePri).groupRt group.val).useSec) = secondary → ∃ t, exec (.timingObservation group secondary tk index) s = .next t ∧ t.fgetI FTM_GERR.LAST_ERR_NS group.val = errField ((((s.takeObs group.val secondary).adoptSources group.val).notePri).obsError group.val ⟨(tk.toNat : Int) * 65536 + ns16 (s.fgetI FTM_GOFF.FRAME_OFFSET_NS group.val), if (s.sourceCfg group.val secondary).1 = 1 then index.toNat % 1024 else index.toNat⟩) ∧ (t.groupRt group.val).pri = s.sourceCfg group.val false ∧ (t.groupRt group.val).sec = s.sourceCfg group.val true ∧ t.obsWaits group.val secondary tk.toNat index.toNat = false ∧ s.dt ≤ t.dt) ∧
  (∀ (group : Fin 8) (secondary : Bool) (tk : BitVec 64) (index : BitVec 48) (s : State), s.works pgFTM = true → s.groupState group.val ≠ tgNONE → s.sourceValid (s.sourceCfg group.val secondary) = true → s.obsWaits group.val secondary tk.toNat index.toNat = true → (((((s.takeObs group.val secondary).adoptSources group.val).notePri).groupRt group.val).useSec) = !secondary → ∃ t, exec (.timingObservation group secondary tk index) s = .next t ∧ t.fgetI FTM_GERR.SEC_ERR_NS group.val = errField ((((s.takeObs group.val secondary).adoptSources group.val).notePri).obsError group.val ⟨(tk.toNat : Int) * 65536 + ns16 (s.fgetI FTM_GOFF.FRAME_OFFSET_NS group.val), if (s.sourceCfg group.val secondary).1 = 1 then index.toNat % 1024 else index.toNat⟩) ∧ (t.groupRt group.val).pri = s.sourceCfg group.val false ∧ (t.groupRt group.val).sec = s.sourceCfg group.val true ∧ t.obsWaits group.val secondary tk.toNat index.toNat = false ∧ s.dt ≤ t.dt) ∧
  (∀ (group : Fin 8) (secondary : Bool) (tk : BitVec 64) (index : BitVec 48) (s : State), s.works pgFTM = false ∨ s.groupState group.val = tgNONE ∨ s.sourceValid (s.sourceCfg group.val secondary) = false ∨ s.obsWaits group.val secondary tk.toNat index.toNat = false → ∃ t, exec (.timingObservation group secondary tk index) s = .next t ∧ t = s) ∧
  (∀ (group : Fin 8) (s : State), s.groupState group.val = tgLOCKED → s.timerDue tmFly group.val s.ms (s.fget FTM_GTIME.FLY_MS group.val) = true → ∃ t, exec (.flywheelTimeout group) s = .next t ∧ t.groupState group.val = tgFLYWHEEL) ∧
  (∀ (group : Fin 8) (s : State), s.groupState group.val = tgFLYWHEEL → s.timerDue tmHold group.val s.ms (s.fget FTM_GTIME.HOLDOVER_MS group.val) = true → ∃ t, exec (.holdoverTimeout group) s = .next t ∧ t.groupState group.val = tgLOST) ∧
  (∀ (group : Fin 8) (s : State), s.groupState group.val ≠ tgNONE → s.inUseValid group.val = false → s.sourceValid (s.groupSource group.val (!(s.groupRt group.val).useSec)) = true → ∃ t, exec (.timingSourceLost group) s = .next t ∧ (t.groupRt group.val).useSec = !(s.groupRt group.val).useSec ∧ t.fget FTM_GSTAT.SRC group.val = (s.groupSource group.val (!(s.groupRt group.val).useSec)).1) ∧
  (∀ (group : Fin 8) (s : State), s.groupState group.val = tgLOCKED → s.inUseValid group.val = false → s.sourceValid (s.groupSource group.val (!(s.groupRt group.val).useSec)) = false → ∃ t, exec (.timingSourceLost group) s = .next t ∧ t.groupState group.val = tgFLYWHEEL ∧ (t.groupRt group.val).useSec = true) ∧
  (∀ (group : Fin 8) (s : State), (s.groupRt group.val).useSec = true → s.priValid group.val = true → s.timerDue tmPriReturn group.val s.ms 1000 = true → ∃ t, exec (.priReturnTimer group) s = .next t ∧ (t.groupRt group.val).useSec = false ∧ t.fget FTM_GSTAT.SRC group.val = (s.groupSource group.val false).1 ∧ t.timerOn tmPriReturn group.val = false)

/-- The 1PPS and NMEA receiver: edges, windows, timeouts, characters, sentences. An edge of the active polarity whose pulse is wide enough is stamped whether or not it is accepted, and no other is; a window without one is counted and flywheeled; a lost 1PPS invalidates the time; each character is read at its sample points, and each UART error has its own count; a sentence that ends empties the line; a waiting time sentence is dropped after one second. (derived from R210, R211, R212, R213, R214, R215) -/
def Obligations.GnssCommands : Prop :=
  (∀ (tk : BitVec 64) (pulse : PpsPulse) (s : State), s.ppsCounts pulse = true → s.ppsState = ppsVALID → s.inPpsWindow tk.toNat = true → ∃ t, exec (.ppsEdge tk pulse) s = .next t ∧ t.fget GNS_PPS_DT_LO.DT 0 = tk.toNat % 2 ^ 32 ∧ t.fget GNS_PPS_DT_HI.DT 0 = tk.toNat / 2 ^ 32 ∧ t.fget GNS_STAT.LAST_ACCEPTED 0 = 1 ∧ t.ftm.gns.last = some tk.toNat ∧ t.ftm.gns.missed = 0 ∧ t.ftm.gns.count = s.ftm.gns.count + 1) ∧
  (∀ (tk : BitVec 64) (pulse : PpsPulse) (s : State), s.ppsCounts pulse = true → s.ppsState ≠ ppsVALID ∨ s.inPpsWindow tk.toNat = false → ∃ t, exec (.ppsEdge tk pulse) s = .next t ∧ t.fget GNS_PPS_DT_LO.DT 0 = tk.toNat % 2 ^ 32 ∧ t.fget GNS_PPS_DT_HI.DT 0 = tk.toNat / 2 ^ 32 ∧ t.fget GNS_PPS_CNT.UNEXPECTED 0 = min (s.fget GNS_PPS_CNT.UNEXPECTED 0 + 1) (fieldSize GNS_PPS_CNT.UNEXPECTED.hi GNS_PPS_CNT.UNEXPECTED.lo - 1)) ∧
  (∀ (tk : BitVec 64) (pulse : PpsPulse) (s : State), s.fon GNS_PPS.EN 0 = false ∨ pulse.high = s.fon GNS_PPS.POL 0 ∨ pulse.widthNs < 10 * s.fget GNS_PPS.MINW 0 → ∃ t, exec (.ppsEdge tk pulse) s = .next t ∧ t = s) ∧
  (∀ (s : State), s.ppsState = ppsVALID → ∃ t, exec .ppsWindowExpired s = .next t ∧ t.fget GNS_PPS_CNT.MISSING 0 = min (s.fget GNS_PPS_CNT.MISSING 0 + 1) (fieldSize GNS_PPS_CNT.MISSING.hi GNS_PPS_CNT.MISSING.lo - 1) ∧ t.ftm.gns.missed = s.ftm.gns.missed + 1 ∧ t.ftm.gns.count = s.ftm.gns.count + 1 ∧ s.dt ≤ t.dt) ∧
  (∀ (s : State), s.fon GNS_PPS.EN 0 = true → s.timerDue tmPps 0 s.sec_ (s.fget GNS_CFG.PPS_TO_S 0) = true → ∃ t, exec .ppsTimeout s = .next t ∧ t.ppsState = ppsLOST ∧ t.fon GNS_STAT.TIME_VALID 0 = false ∧ t.timerOn tmPps 0 = false) ∧
  (∀ (line : UartLine) (s : State), s.uartHunts line = true → 2 ≤ line.runs.headD 0 → ∃ t, exec (.uartCharacter line) s = .next t ∧ (readChar line (baudOf (s.fget GNS_UART.BAUD 0)) = .falseStart → t.fget GNS_ERR.FALSE_START 0 = min (s.fget GNS_ERR.FALSE_START 0 + 1) (fieldSize GNS_ERR.FALSE_START.hi GNS_ERR.FALSE_START.lo - 1)) ∧ (∀ w, readChar line (baudOf (s.fget GNS_UART.BAUD 0)) = .framing w → (s.domainRuns 3 = true → t.ftm.gns.lost = true) ∧ (s.domainRuns 3 = false → t.ftm.gns.crossLost = true) ∧ t.ftm.gns.uartWait = w ∧ t.fget GNS_ERR.FRAMING 0 = min (s.fget GNS_ERR.FRAMING 0 + 1) (fieldSize GNS_ERR.FRAMING.hi GNS_ERR.FRAMING.lo - 1)) ∧ (∀ b, readChar line (baudOf (s.fget GNS_UART.BAUD 0)) = .accepted b → s.domainRuns 3 = false → 64 ≤ s.ftm.gns.crossing.length → t.ftm.gns.crossLost = true ∧ t.ftm.gns.crossing = s.ftm.gns.crossing ∧ t.fget GNS_ERR.OVERRUN 0 = min (s.fget GNS_ERR.OVERRUN 0 + 1) (fieldSize GNS_ERR.OVERRUN.hi GNS_ERR.OVERRUN.lo - 1)) ∧ (∀ b, readChar line (baudOf (s.fget GNS_UART.BAUD 0)) = .accepted b → s.domainRuns 3 = false → s.ftm.gns.crossing.length < 64 → t.ftm.gns.crossing = s.ftm.gns.crossing ++ [(s.ftm.gns.crossLost, b)] ∧ t.ftm.gns.crossLost = false) ∧ (∀ b, readChar line (baudOf (s.fget GNS_UART.BAUD 0)) = .accepted b → s.domainRuns 3 = true → s.ftm.gns.crossing = [] → s.ftm.gns.crossLost = false → s.ftm.gns.complete = false → b ≠ 0x24 → s.ftm.gns.line ≠ [] → t.ftm.gns.line = s.ftm.gns.line ++ [b])) ∧
  (∀ (line : UartLine) (s : State), s.uartHunts line = false ∨ line.runs.headD 0 < 2 → ∃ t, exec (.uartCharacter line) s = .next t ∧ t = s) ∧
  (∀ (s : State), s.ftm.gns.complete = true → ∃ t, exec .nmeaSentence s = .next t ∧ t.ftm.gns.line = [] ∧ t.ftm.gns.lost = false) ∧
  (∀ (s : State), s.timerDue tmNmea 0 s.sec_ (s.fget GNS_CFG.NMEA_TO_S 0) = true → ∃ t, exec .nmeaTimeout s = .next t ∧ t.ftm.gns.nmeaLost = true ∧ t.fon GNS_STAT.TIME_VALID 0 = false ∧ t.timerOn tmNmea 0 = false) ∧
  (∀ (s : State), s.timerDue tmGga 0 s.sec_ (s.fget GNS_CFG.NMEA_TO_S 0) = true → ∃ t, exec .nmeaTimeout s = .next t ∧ t.fon GNS_STAT.FIX 0 = false ∧ t.fon GNS_STAT.TIME_VALID 0 = false ∧ t.timerOn tmGga 0 = false) ∧
  (∀ (s : State) (x : Nat × Nat), s.ftm.gns.waiting = some x → ∃ t, exec .nmeaLabelTimeout s = .next t ∧ t.ftm.gns.waiting = none ∧ t.fget GNS_NMEA_LAST.REASON 0 = 7 ∧ (s.timeRuns = true → x.2 + ppsTicks ≤ t.dt) ∧ t.fget GNS_ERR.NMEA_BAD 0 = min (s.fget GNS_ERR.NMEA_BAD 0 + 1) (fieldSize GNS_ERR.NMEA_BAD.hi GNS_ERR.NMEA_BAD.lo - 1))

/-- The cell listener: carriers search and track, blocks are found or missed, SIB1 decodes, host patterns. An enabled carrier searches; a good detection above its threshold starts TRACK with the cell's identity; a block of that cell resets the misses and is an observation, one that fails is a miss; a decode ends with its result or after 1 s; a host pattern waits for a frame. (derived from R216, R217, R218, R219) -/
def Obligations.ListenerCommands : Prop :=
  (∀ (who : Init) (en : Bool) (s : State) (u : State), Admitted s who pgCLS 0x044 → en = true → s.fget CLS_CSEL.CAR who.holder < s.clsCarriers → s.fget CLS_CCFG.SSB_SCS (s.fget CLS_CSEL.CAR who.holder) ≤ 1 → s.fget CLS_CCFG.PCI (s.fget CLS_CSEL.CAR who.holder) < 1008 ∨ s.fget CLS_CCFG.PCI (s.fget CLS_CSEL.CAR who.holder) = 1023 → s.fon CLS_CCFG.EN (s.fget CLS_CSEL.CAR who.holder) = false → s.mergeReg pgCLS 0x044 (CLS_CCFG.EN.key (s.fget CLS_CSEL.CAR who.holder)) (putBits (s.word (CLS_CCFG.EN.key (s.fget CLS_CSEL.CAR who.holder))) 31 31 1) = .ok u → ∃ t, exec (.clsEnable who en) s = .next t ∧ Took t who ∧ t.fon CLS_CCFG.EN (s.fget CLS_CSEL.CAR who.holder) = true ∧ t.clState (s.fget CLS_CSEL.CAR who.holder) = clSEARCH) ∧
  (∀ (who : Init) (en : Bool) (s : State) (u : State), Admitted s who pgCLS 0x044 → en = false → s.fget CLS_CCFG.SSB_SCS (s.fget CLS_CSEL.CAR who.holder) ≤ 1 → s.fget CLS_CCFG.PCI (s.fget CLS_CSEL.CAR who.holder) < 1008 ∨ s.fget CLS_CCFG.PCI (s.fget CLS_CSEL.CAR who.holder) = 1023 → s.fon CLS_CCFG.EN (s.fget CLS_CSEL.CAR who.holder) = true → s.mergeReg pgCLS 0x044 (CLS_CCFG.EN.key (s.fget CLS_CSEL.CAR who.holder)) (putBits (s.word (CLS_CCFG.EN.key (s.fget CLS_CSEL.CAR who.holder))) 31 31 0) = .ok u → ∃ t, exec (.clsEnable who en) s = .next t ∧ Took t who ∧ t.fon CLS_CCFG.EN (s.fget CLS_CSEL.CAR who.holder) = false ∧ t.clState (s.fget CLS_CSEL.CAR who.holder) = clIDLE ∧ t.fget CLS_CSTAT.PAT_SRC (s.fget CLS_CSEL.CAR who.holder) = 0) ∧
  (∀ (carrier : Fin 32) (pci : Fin 1024) (snr : Int) (pbchOk : Bool) (index : Fin 16) (s : State), s.works pgCLS = true → s.clState carrier.val = clSEARCH ∨ s.clState carrier.val = clLOST → pbchOk = true → s.fgetI CLS_CTHR.DET_THR carrier.val ≤ snr → s.fget CLS_CCFG.PCI carrier.val = 0x3FF ∨ s.fget CLS_CCFG.PCI carrier.val = pci.val → ∃ t, exec (.ssbDetection carrier pci snr pbchOk index) s = .next t ∧ t.clState carrier.val = clTRACK ∧ t.fget CLS_CSTAT.PCI carrier.val = pci.val ∧ t.fget CLS_CSTAT.SSB_INDEX carrier.val = index.val ∧ t.fget CLS_CSTAT.MISSES carrier.val = 0 ∧ t.fget CLS_CCNT.DETECTIONS carrier.val = min (s.fget CLS_CCNT.DETECTIONS carrier.val + 1) (fieldSize CLS_CCNT.DETECTIONS.hi CLS_CCNT.DETECTIONS.lo - 1)) ∧
  (∀ (carrier : Fin 32) (pci : Fin 1024) (snr : Int) (pbchOk : Bool) (index : Fin 16) (s : State), s.works pgCLS = false ∨ pbchOk = false ∨ snr < s.fgetI CLS_CTHR.DET_THR carrier.val ∨ (s.fget CLS_CCFG.PCI carrier.val ≠ 0x3FF ∧ s.fget CLS_CCFG.PCI carrier.val ≠ pci.val) → ∃ t, exec (.ssbDetection carrier pci snr pbchOk index) s = .next t ∧ t = s) ∧
  (∀ (carrier : Fin 32) (hit : SsbHit) (crcOk : Bool) (index : Fin 16) (s : State), s.works pgCLS = true → s.clState carrier.val = clTRACK → hit.pci.val = s.fget CLS_CSTAT.PCI carrier.val → crcOk = true → ∃ t, exec (.ssbPosition carrier (some hit) crcOk index) s = .next t ∧ t.clState carrier.val = clTRACK ∧ t.fget CLS_CSTAT.MISSES carrier.val = 0 ∧ t.fget CLS_CSTAT.SSB_INDEX carrier.val = index.val ∧ t.fget CLS_CCNT.DETECTIONS carrier.val = min (s.fget CLS_CCNT.DETECTIONS carrier.val + 1) (fieldSize CLS_CCNT.DETECTIONS.hi CLS_CCNT.DETECTIONS.lo - 1) ∧ t.seenObs (16 + carrier.val) = some ⟨hit.t.toNat, hit.sfn.val, 0xFFFF⟩) ∧
  (∀ (carrier : Fin 32) (hit : Option SsbHit) (crcOk : Bool) (index : Fin 16) (s : State), s.works pgCLS = true → s.clState carrier.val = clTRACK → hit = none ∨ crcOk = false ∨ hit.map (fun x => x.pci.val) ≠ some (s.fget CLS_CSTAT.PCI carrier.val) → ∃ t, exec (.ssbPosition carrier hit crcOk index) s = .next t ∧ t.fget CLS_CSTAT.MISSES carrier.val = min (s.fget CLS_CSTAT.MISSES carrier.val + 1) (fieldSize CLS_CSTAT.MISSES.hi CLS_CSTAT.MISSES.lo - 1) ∧ t.fget CLS_CCNT.DETECTIONS carrier.val = s.fget CLS_CCNT.DETECTIONS carrier.val ∧ t.ftm.seen = s.ftm.seen) ∧
  (∀ (carrier : Fin 32) (hit : Option SsbHit) (crcOk : Bool) (index : Fin 16) (s : State), s.works pgCLS = false ∨ s.clState carrier.val ≠ clTRACK → ∃ t, exec (.ssbPosition carrier hit crcOk index) s = .next t ∧ t = s) ∧
  (∀ (carrier : Fin 32) (tdd : Bool) (pat1 : Word) (pat2 : Word) (s : State), s.clState carrier.val = clTRACK → (s.carrier carrier.val).decoding = true → ∃ t, exec (.sib1Decoded carrier tdd pat1 pat2) s = .next t ∧ (t.carrier carrier.val).decoding = false ∧ t.timerOn tmSib1 carrier.val = false ∧ t.clState carrier.val = clTRACK) ∧
  (∀ (carrier : Fin 32) (s : State), (s.carrier carrier.val).decoding = true → s.timerDue tmSib1 carrier.val s.ms 1000 = true → ∃ t, exec (.sib1Timeout carrier) s = .next t ∧ (t.carrier carrier.val).decoding = false ∧ t.timerOn tmSib1 carrier.val = false) ∧
  (∀ (carrier : Fin 32) (s : State), s.clState carrier.val = clTRACK → s.timerDue tmSib1Period carrier.val s.sec_ (s.fget CLS_CTHR.SIB1_PERIOD_S carrier.val) = true → s.fon CLS_CCFG.SIB1_EN carrier.val = true → s.fon CLS_CCFG.RAT carrier.val = false → ∃ t, exec (.sib1PeriodExpired carrier) s = .next t ∧ (t.carrier carrier.val).decoding = true ∧ t.timerOn tmSib1 carrier.val = true) ∧
  (∀ (who : Init) (s : State), Admitted s who pgCLS 0x068 → patPairOk (s.carrier (s.fget CLS_CSEL.CAR who.holder)).stage1 (s.carrier (s.fget CLS_CSEL.CAR who.holder)).stage2 = true → s.fon CLS_CCFG.PAT_HOST (s.fget CLS_CSEL.CAR who.holder) = true → s.fget CLS_CSTAT.PAT_SRC (s.fget CLS_CSEL.CAR who.holder) = 0 → ∃ t, exec (.patternApply who) s = .next t ∧ Took t who ∧ (t.carrier (s.fget CLS_CSEL.CAR who.holder)).next = some (patWord (s.carrier (s.fget CLS_CSEL.CAR who.holder)).stage1, if bitsOf (s.carrier (s.fget CLS_CSEL.CAR who.holder)).stage1 31 31 = 1 then patWord (s.carrier (s.fget CLS_CSEL.CAR who.holder)).stage2 else 0, 2))

/-- The timing wheel and coexistence: rows are planned and revoked, pins move, grants rise and fall. A planned row stands first among its path's plans with the levels of the row read then; a revoked one takes the levels it has now, with those planned before it as they were; a TRX_EN or PA_EN pin takes its level at its time; a grant sampled or fallen shows in GNT. (derived from R180, R222, R223, R224, R225, R226, R227) -/
def Obligations.WheelAndCoexistenceCommands : Prop :=
  (∀ (path : Fin 32) (row : Fin 280) (s : State), s.works pgFTM = true → s.member.present path.val = true → s.pathState path.val ≠ pathOFF → ∃ t, exec (.wheelRowPlan path row) s = .next t ∧ (t.pathGrid path.val).plans.head? = some (row.val, (planLevels (s.rowAt path.val row.val).1 ((s.pathGrid path.val).before row.val)).1, (planLevels (s.rowAt path.val row.val).1 ((s.pathGrid path.val).before row.val)).2) ∧ s.dt ≤ t.dt) ∧
  (∀ (port : Fin 32) (pin : Fin 3) (s : State) (x : Int × Bool), s.works pgFTM = true → s.fon FTM_PCFG.TDD_EN port.val = true → pin.val ≠ 2 → s.nextPin port.val pin.val = some x → ∃ t, exec (.pinEvent port pin) s = .next t ∧ (t.wheelPort port.val).level pin.val = x.2 ∧ (s.timeRuns = true → tickOfQ x.1 ≤ t.dt) ∧ s.dt ≤ t.dt) ∧
  (∀ (port : Fin 32) (pin : Fin 3) (s : State) (x : Int × Bool), s.works pgFTM = true → s.fon FTM_PCFG.TDD_EN port.val = true → pin.val = 2 → s.fon FTM_PCFG.CX_EN port.val = true → s.nextPin port.val pin.val = some x → ∃ t, exec (.pinEvent port pin) s = .next t ∧ (t.wheelPort port.val).asks = x.2 ∧ (s.timeRuns = true → tickOfQ x.1 ≤ t.dt) ∧ s.dt ≤ t.dt) ∧
  (∀ (path : Fin 32) (row : Fin 280) (s : State), s.works pgFTM = true → ((s.pathGrid path.val).plans.map fun e => e.1).Nodup → (s.pathGrid path.val).plans.any (fun e => decide (e.1 = row.val)) = true → ∃ t, exec (.prefireRevoke path row) s = .next t ∧ (t.pathGrid path.val).plans.map (fun e => e.1) = (s.pathGrid path.val).plans.map (fun e => e.1) ∧ (t.pathGrid path.val).plans.find? (fun e => decide (e.1 = row.val)) = some (row.val, (planLevels (s.rowAt path.val row.val).1 ((s.pathGrid path.val).before row.val)).1, (planLevels (s.rowAt path.val row.val).1 ((s.pathGrid path.val).before row.val)).2) ∧ (t.pathGrid path.val).plans.dropWhile (fun e => decide (e.1 ≠ row.val)) = (row.val, (planLevels (s.rowAt path.val row.val).1 ((s.pathGrid path.val).before row.val)).1, (planLevels (s.rowAt path.val row.val).1 ((s.pathGrid path.val).before row.val)).2) :: ((s.pathGrid path.val).plans.dropWhile (fun e => decide (e.1 ≠ row.val))).drop 1) ∧
  (∀ (path : Fin 32) (row : Fin 280) (s : State), s.works pgFTM = false ∨ (s.pathGrid path.val).plans.any (fun e => decide (e.1 = row.val)) = false → ∃ t, exec (.prefireRevoke path row) s = .next t ∧ t = s) ∧
  (∀ (path : Fin 32) (row : Fin 280) (s : State), s.works pgFTM = false ∨ s.member.present path.val = false ∨ s.pathState path.val = pathOFF → ∃ t, exec (.wheelRowPlan path row) s = .next t ∧ t = s) ∧
  (∀ (pair : Fin 8) (port : Fin 32) (grant : Bool) (s : State) (iv : Int × Int), s.works pgCXW = true → s.fon CXW_CFG.EN pair.val = true → s.inPair pair.val port.val = true → s.currentIv port.val = some iv → ∃ t, exec (.grantSample pair port grant) s = .next t ∧ t.fon CXW_STAT.GNT pair.val = grant ∧ s.dt ≤ t.dt ∧ (grant = true → (∃ q, (port.val, q) ∈ (t.cxPair pair.val).granted) ∧ (t.cxPair pair.val).denials = 0 ∧ (t.cxPair pair.val).lost = false)) ∧
  (∀ (pair : Fin 8) (s : State), s.works pgCXW = true → s.fon CXW_CFG.EN pair.val = true → ∃ t, exec (.grantFall pair) s = .next t ∧ t.fon CXW_STAT.GNT pair.val = false ∧ (t.cxPair pair.val).granted = []) ∧
  (∀ (pair : Fin 8) (s : State), s.works pgCXW = true → s.fon CXW_CFG.EN pair.val = true → s.fon CXW_STAT.REQ pair.val = false → ∃ t, exec (.grantHighTimeout pair) s = .next t ∧ t.fon CXW_STAT.GNT pair.val = true) ∧
  (∀ (pair : Fin 8) (s : State), s.works pgCXW = false ∨ s.fon CXW_CFG.EN pair.val = false ∨ s.fon CXW_STAT.REQ pair.val = true → ∃ t, exec (.grantHighTimeout pair) s = .next t ∧ t = s)

/-- The regulatory set: COMMIT checks the staged set, RESTAGE returns to the set in force. A COMMIT of a staged set without a bad entry clears BAD_ENTRY to 0xFF and leaves the staging; with one it is refused as out of range and names the entry; a RESTAGE makes the staging and the limiter release those in force. (derived from R231, R251) -/
def Obligations.RegulatorySetCommands : Prop :=
  (∀ (who : Init) (s : State), Admitted s who pgLIM 0x4C0 → s.badEntry = none → ∃ t, exec (.regCommit who) s = .next t ∧ Took t who ∧ t.fget LIM_REG_STAT.BAD_ENTRY 0 = 0xFF ∧ t.npr = s.npr) ∧
  (∀ (who : Init) (s : State) (e : Fin 64), Admitted s who pgLIM 0x4C0 → s.badEntry = some e.val → ∃ t, exec (.regCommit who) s = .next t ∧ t.lastReason who = Reason.outOfRange.code ∧ t.fget LIM_REG_STAT.BAD_ENTRY 0 = e.val ∧ t.npr = s.npr ∧ t.nva = s.nva) ∧
  (∀ (who : Init) (s : State), Admitted s who pgLIM 0x4C0 → ∃ t, exec (.regRestage who) s = .next t ∧ Took t who ∧ t.npr.staged = s.npr.regset ∧ t.npr.regset = s.npr.regset ∧ t.fget LIM_LIMITER_X.RELEASE 0 = s.npr.release % fieldSize LIM_LIMITER_X.RELEASE.hi LIM_LIMITER_X.RELEASE.lo)

/-- Foxglove: a trigger opens a slot; a slot stops, waits, retries and returns to idle; remote mutes and clears. A cause whose condition holds opens the first idle slot in STOPPING with its code and mutes its scope; a stopped slot goes to BACKOFF or LATCHED by its mode and retries; a clear or the end of the wait brings it to RETRYING, a good retry to IDLE. (derived from R233, R234, R236, R238, R241, R242, R243, R244, R245) -/
def Obligations.FoxgloveCommands : Prop :=
  (∀ (cause : FoxCause) (s : State) (k : Nat), s.foxCondition cause = true → s.foxTaken (foxCode cause) (s.foxScope cause) = true → ((List.range 16).find? fun j => decide (s.foxState j = foxRETRYING) && decide (s.fget NPR_FOX_STAT.TRIGGER j = foxCode cause) && s.foxWithin j (s.foxScope cause)) = none → ((List.range 16).find? fun j => decide (s.foxState j = foxIDLE)) = some k → ∃ t, exec (.foxgloveTrigger cause) s = .next t ∧ t.foxState k = foxSTOPPING ∧ t.fget NPR_FOX_STAT.TRIGGER k = foxCode cause ∧ (t.foxRt k).muting = true ∧ t.timerOn tmFoxStop k = true) ∧
  (∀ (stream : Fin 32) (s : State), Tbl.get (fun _ => 0) s.npr.oscNeg (32 + stream.val) ≠ 0 → ∃ t, exec (.oscNegTimeout stream) s = .next t ∧ t = (s.advanceTo (Tbl.get (fun _ => 0) s.npr.oscNeg (32 + stream.val) - 1 + 245760 * s.fget NPR_OSC_NEG.OSC_NEG_MS 0)).foxCheck (.osc stream)) ∧
  (∀ (ctx : Fin 4096) (s : State) (p : Fin 32), s.noiseSince ctx.val ≠ 0 → s.ctxPath ctx.val = p.val → ∃ t, exec (.noiseTrigTimeout ctx) s = .next t ∧ t = (s.advanceTo (s.noiseSince ctx.val - 1 + 245760 * s.fget NPR_NOISE.NOISE_TRIG_MS 0)).foxCheck (.noise p)) ∧
  (∀ (stream : Fin 32) (s : State) (n : Nat) (l : List Nat), s.oobSince stream.val = n :: l → ∃ t, exec (.oobTimeout stream) s = .next t ∧ t = (s.advanceTo (l.foldl min n - 1 + ticksOfUs (s.fget NPR_OOB.OOB_US 0))).foxCheck (.oob stream)) ∧
  (∀ (slot : Fin 16) (s : State), s.foxState slot.val = foxSTOPPING → (List.range 32).all (fun n => !s.fbit NPR_FOX_PORTS.PORTS slot.val n || s.foxChainDown n) = true → ∃ t, exec (.foxStopped slot) s = .next t ∧ t.foxState slot.val = (if s.fon NPR_FOX_STAT.MODE slot.val || decide ((s.foxRt slot.val).limit ≤ s.fget NPR_FOX_STAT.RETRIES slot.val) then foxLATCHED else foxBACKOFF) ∧ t.timerOn tmFoxStop slot.val = false) ∧
  (∀ (slot : Fin 16) (s : State), s.foxState slot.val = foxBACKOFF → s.timerDue tmFoxWait slot.val s.sec_ (min ((s.foxRt slot.val).base * 2 ^ s.fget NPR_FOX_STAT.RETRIES slot.val) (s.foxRt slot.val).most) = true → s.foxRetryOk slot.val = true → ∃ t, exec (.foxBackoffExpired slot) s = .next t ∧ t.foxState slot.val = foxRETRYING ∧ t.fget NPR_FOX_STAT.RETRIES slot.val = min (s.fget NPR_FOX_STAT.RETRIES slot.val + 1) (fieldSize NPR_FOX_STAT.RETRIES.hi NPR_FOX_STAT.RETRIES.lo - 1) ∧ t.fget NPR_FOX_WAIT.WAIT_S slot.val = 0 ∧ t.timerOn tmFoxWait slot.val = false) ∧
  (∀ (who : Init) (s : State), Admitted s who pgNPR 0x078 → s.identOf who = some .integrator → s.foxState (s.fget NPR_FOX_SEL.SLOT who.holder) = foxBACKOFF ∨ s.foxState (s.fget NPR_FOX_SEL.SLOT who.holder) = foxLATCHED ∨ s.foxState (s.fget NPR_FOX_SEL.SLOT who.holder) = foxSTOPPED → s.foxRetryOk (s.fget NPR_FOX_SEL.SLOT who.holder) = true → ∃ t, exec (.foxSlotClear who) s = .next t ∧ Took t who ∧ t.foxState (s.fget NPR_FOX_SEL.SLOT who.holder) = foxRETRYING ∧ t.fon NPR_FOX_STAT.CLEAR_PENDING (s.fget NPR_FOX_SEL.SLOT who.holder) = false) ∧
  (∀ (who : Init) (s : State), Admitted s who pgNPR 0x078 → s.identOf who = some .integrator → s.foxState (s.fget NPR_FOX_SEL.SLOT who.holder) = foxBACKOFF ∨ s.foxState (s.fget NPR_FOX_SEL.SLOT who.holder) = foxLATCHED ∨ s.foxState (s.fget NPR_FOX_SEL.SLOT who.holder) = foxSTOPPED → s.foxRetryOk (s.fget NPR_FOX_SEL.SLOT who.holder) = false → ∃ t, exec (.foxSlotClear who) s = .next t ∧ Took t who ∧ t.foxState (s.fget NPR_FOX_SEL.SLOT who.holder) = s.foxState (s.fget NPR_FOX_SEL.SLOT who.holder) ∧ t.fon NPR_FOX_STAT.CLEAR_PENDING (s.fget NPR_FOX_SEL.SLOT who.holder) = true) ∧
  (∀ (slot : Fin 16) (s : State), s.foxState slot.val = foxRETRYING → (s.foxRt slot.val).muting = true → (s.foxRt slot.val).lifting = false → (List.range 32).all (fun n => !s.fbit NPR_FOX_PORTS.PORTS slot.val n || s.foxChainBack n) = true → ∃ t, exec (.foxChainsReady slot) s = .next t ∧ t.foxState slot.val = foxRETRYING ∧ ((t.foxRt slot.val).muting = false ∧ (t.foxRt slot.val).lifting = false ∨ (t.foxRt slot.val).releasing ≠ 0)) ∧
  (∀ (slot : Fin 16) (s : State), s.foxState slot.val = foxRETRYING → s.timerDue tmFoxGood slot.val s.sec_ (s.fget NPR_TIME.RETRY_GOOD_S 0) = true → ∃ t, exec (.foxRetryGood slot) s = .next t ∧ t.foxState slot.val = foxIDLE ∧ t.fget NPR_FOX_STAT.RETRIES slot.val = 0 ∧ t.fget NPR_FOX_PORTS.PORTS slot.val = 0 ∧ t.fget NPR_FOX_PATHS.PATHS slot.val = 0 ∧ t.timerOn tmFoxGood slot.val = false) ∧
  (∀ (who : Init) (domain : Fin 16) (s : State), Admits (fun u => u.admitRemote who (BitVec.ofNat 32 (0x80000000 + domain.val))) s who pgNPR 0x054 → ∃ t, exec (.nprRemoteMute who domain) s = .next t ∧ Took t who ∧ t.fget NPR_REMOTE.DOMAIN 0 = domain.val) ∧
  (∀ (who : Init) (domain : Fin 16) (s : State), Admits (fun u => u.admitRemote who (BitVec.ofNat 32 (0x40000000 + domain.val))) s who pgNPR 0x054 → ∃ t, exec (.nprRemoteClear who domain) s = .next t ∧ Took t who ∧ t.fget NPR_REMOTE.DOMAIN 0 = domain.val) ∧
  (∀ (streams : List TxBlock) (s : State), s.pwState < 2 → s.domainRuns 0 = true → ∃ t, exec (.sampleBlock streams) s = .next t ∧ t = (s.sampleBlock streams).applyHeld) ∧
  (∀ (streams : List TxBlock) (s : State), 2 ≤ s.pwState ∨ s.domainRuns 0 = false → ∃ t, exec (.sampleBlock streams) s = .next t ∧ t = s)

/-- Front-end links: a frame slot, a response, the link's timeout, descriptors, polling. A slot sends the next frame in the order of the queues; a good acknowledged response takes its frame from flight and ends a row of failures; a bad one sends the frame again while tries are left and then fails, as does one that its acknowledgement refuses, and the eighth failure in a row takes the link down; a link without a response for LINK_TO_US goes down; DESC_COMMIT takes the staged words. (derived from R254, R255, R257, R258, R259, R260) -/
def Obligations.FrontEndLinkCommands : Prop :=
  (∀ (port : Fin 32) (s : State), s.works pgFEL = true → s.descValid port.val = true → (s.felPort port.val).flight.length < 2 → ∃ t, exec (.felFrameSlot port) s = .next t ∧ (t.felPort port.val).flight = (s.felPort port.val).flight ++ [((s.advanceTo (s.felFree port.val)).nextFrame port.val).1] ∧ t.fon FEL_LINK.UP port.val = s.fon FEL_LINK.UP port.val ∧ (t.felPort port.val).sentAt = some t.dt ∧ (s.timeRuns = true → s.felFree port.val ≤ t.dt)) ∧
  (∀ (port : Fin 32) (s : State), s.works pgFEL = false ∨ s.descValid port.val = false ∨ 2 ≤ (s.felPort port.val).flight.length → ∃ t, exec (.felFrameSlot port) s = .next t ∧ t = s) ∧
  (∀ (port : Fin 32) (crcOk : Bool) (ack : Fin 16) (seq : Fin 256) (data : Fin 65536) (ready : Bool) (state : Fin 8) (flags : ModFlags) (s : State) (f : FelFrame) (rest : List FelFrame), (s.felPort port.val).flight = f :: rest → crcOk = true → seq.val = f.seq → ack.val = 0 → state.val < 5 → ∃ t, exec (.felFrameResponse port crcOk ack seq data ready state flags) s = .next t ∧ (t.felPort port.val).flight = rest ∧ (t.felPort port.val).valids = (s.felPort port.val).valids + 1 ∧ (t.felPort port.val).fails = 0 ∧ (t.felPort port.val).calBusy = flags.calBusy ∧ t.timerOn tmFelLink port.val = true) ∧
  (∀ (port : Fin 32) (crcOk : Bool) (ack : Fin 16) (seq : Fin 256) (data : Fin 65536) (ready : Bool) (state : Fin 8) (flags : ModFlags) (s : State) (f : FelFrame) (rest : List FelFrame), (s.felPort port.val).flight = f :: rest → crcOk = true → seq.val = f.seq → ack.val = 2 ∨ ack.val = 3 ∨ ack.val = 5 → state.val < 5 → (s.felPort port.val).fails < 7 → ∃ t, exec (.felFrameResponse port crcOk ack seq data ready state flags) s = .next t ∧ (t.felPort port.val).flight = rest ∧ (t.felPort port.val).valids = (s.felPort port.val).valids + 1 ∧ (t.felPort port.val).fails = (s.felPort port.val).fails + 1 ∧ (t.felPort port.val).lastFail = some (f.req, ack.val)) ∧
  (∀ (port : Fin 32) (crcOk : Bool) (ack : Fin 16) (seq : Fin 256) (data : Fin 65536) (ready : Bool) (state : Fin 8) (flags : ModFlags) (s : State) (f : FelFrame) (rest : List FelFrame), (s.felPort port.val).flight = f :: rest → crcOk = false ∨ seq.val ≠ f.seq ∨ ack.val = 1 ∨ ack.val = 4 → f.tries < 3 → f.req.act = none → ∃ t, exec (.felFrameResponse port crcOk ack seq data ready state flags) s = .next t ∧ (t.felPort port.val).flight = rest ∧ (t.felPort port.val).valids = 0 ∧ (t.felPort port.val).fails = (s.felPort port.val).fails ∧ (t.felPort port.val).again = (s.felPort port.val).again ++ [{ f with tries := f.tries + 1 }]) ∧
  (∀ (port : Fin 32) (crcOk : Bool) (ack : Fin 16) (seq : Fin 256) (data : Fin 65536) (ready : Bool) (state : Fin 8) (flags : ModFlags) (s : State) (f : FelFrame) (rest : List FelFrame), (s.felPort port.val).flight = f :: rest → crcOk = false → 3 ≤ f.tries → (s.felPort port.val).fails < 7 → ∃ t, exec (.felFrameResponse port crcOk ack seq data ready state flags) s = .next t ∧ (t.felPort port.val).flight = rest ∧ (t.felPort port.val).fails = (s.felPort port.val).fails + 1 ∧ (t.felPort port.val).again = (s.felPort port.val).again ∧ (t.felPort port.val).lastFail = some (f.req, ack.val)) ∧
  (∀ (port : Fin 32) (crcOk : Bool) (ack : Fin 16) (seq : Fin 256) (data : Fin 65536) (ready : Bool) (state : Fin 8) (flags : ModFlags) (s : State) (f : FelFrame) (rest : List FelFrame), (s.felPort port.val).flight = f :: rest → crcOk = false → 3 ≤ f.tries → 7 ≤ (s.felPort port.val).fails → s.fon FEL_LINK.UP port.val = true → ∃ t, exec (.felFrameResponse port crcOk ack seq data ready state flags) s = .next t ∧ t.fon FEL_LINK.UP port.val = false ∧ (t.felPort port.val).flight = [] ∧ (t.felPort port.val).fails = 0) ∧
  (∀ (port : Fin 32) (crcOk : Bool) (ack : Fin 16) (seq : Fin 256) (data : Fin 65536) (ready : Bool) (state : Fin 8) (flags : ModFlags) (s : State), (s.felPort port.val).flight = [] → ∃ t, exec (.felFrameResponse port crcOk ack seq data ready state flags) s = .next t ∧ t = s) ∧
  (∀ (port : Fin 32) (s : State), s.fon FEL_LINK.UP port.val = true → s.timerDue tmFelLink port.val s.us (s.fget FEL_LINKCFG.LINK_TO_US 0) = true → ∃ t, exec (.felLinkTimeout port) s = .next t ∧ t.fon FEL_LINK.UP port.val = false ∧ t.timerOn tmFelLink port.val = false ∧ (t.felPort port.val).flight = [] ∧ (t.felPort port.val).moving = none) ∧
  (∀ (who : Init) (s : State) (w : Fin 8), Admitted s who pgFEL 0x0B8 → s.member.present (s.felSel who) = true → s.descOk (s.felSel who) = true → ∃ t, exec (.felDescCommit who) s = .next t ∧ Took t who ∧ Tbl.get (fun _ => 0) t.fel.desc (8 * s.felSel who + w.val) = s.stagedDescWord (s.felSel who) w.val) ∧
  (∀ (port : Fin 32) (temp : Bool) (s : State), s.fon FEL_LINK.UP port.val = true → ∃ t, exec (.autopoll port temp) s = .next t ∧ (t.felPort port.val).poll = (s.felPort port.val).poll ++ (if temp then [7] else [4, 5, 6]) ∧ (t.felPort port.val).flight = (s.felPort port.val).flight) ∧
  (∀ (port : Fin 32) (s : State), s.fon FEL_LINK.UP port.val = true → s.timerDue tmModTemp port.val s.ms 100 = true → ∃ t, exec (.moduleTempTimeout port) s = .next t ∧ t.timerOn tmModTemp port.val = false ∧ t.fon FEL_LINK.UP port.val = true ∧ t.fel = s.fel) ∧
  (∀ (port : Fin 32) (temp : Bool) (s : State), s.fon FEL_LINK.UP port.val = false → ∃ t, exec (.autopoll port temp) s = .next t ∧ t = s)

/-- RF chains: targets, transitions and their timeouts, calibrations, the LO, FE_CLEAR. A write of TARGET shows it; a transition that ends shows its state, or begins the calibration of SYNTH_ON; a transition that is not confirmed in its time is commanded once more and then fails the chain, and a STANDBY that is not confirmed after that takes the link down; a calibration is queued or runs, RXGAIN after RXIQ, and ends with its result; a new LO waits for SYNTH_ON, is sent there at once and calibrated, and is refused beyond. (derived from R261, R262, R263, R265, R267, R275, R282) -/
def Obligations.ChainCommands : Prop :=
  (∀ (who : Init) (target : Fin 4) (s : State), Admitted s who pgFEL 0x044 → s.member.present (s.felSel who) = true → ∃ t, exec (.chainTargetWrite who target) s = .next t ∧ Took t who ∧ t.fget FEL_CHAIN.TARGET (s.felSel who) = target.val ∧ t.fget FEL_CHAIN.LNA_HOLD (s.felSel who) = s.fget FEL_CHAIN.LNA_HOLD (s.felSel who)) ∧
  (∀ (port : Fin 32) (s : State), (s.felPort port.val).moving = some (chSTANDBY, chSYNTH) → (s.felPort port.val).chainCmd = none → (s.felPort port.val).cal = none → ∃ t, exec (.chainStateReached port) s = .next t ∧ (t.felPort port.val).cal = some 0 ∧ t.fon FEL_CHAIN.CAL_BUSY port.val = true ∧ t.fget FEL_CHAIN.STATE port.val = s.fget FEL_CHAIN.STATE port.val ∧ (s.timeRuns = true → (s.felPort port.val).movedAt + ticksOfNs (chainTimes chSTANDBY chSYNTH).1 ≤ t.dt)) ∧
  (∀ (port : Fin 32) (s : State) (x : Nat × Nat), (s.felPort port.val).moving = some x → x ≠ (chSTANDBY, chSYNTH) → (s.felPort port.val).chainCmd = none → (s.felPort port.val).cal = none → ∃ t, exec (.chainStateReached port) s = .next t ∧ t.fget FEL_CHAIN.STATE port.val = x.2 % 8 ∧ (s.timeRuns = true → (s.felPort port.val).movedAt + ticksOfNs (chainTimes x.1 x.2).1 ≤ t.dt)) ∧
  (∀ (port : Fin 32) (s : State) (x : ChainCheck) (rest : List ChainCheck), (s.felPort port.val).checks = x :: rest → (s.felPort port.val).failed = false ∨ x.dst ≠ chSTANDBY → x.again = false → ∃ t, exec (.chainTransitionTimeout port) s = .next t ∧ (t.felPort port.val).repeated = true ∧ (t.felPort port.val).chainCmd = some x.dst ∧ (t.felPort port.val).moving = some (x.src, x.dst) ∧ t.fget FEL_CHAIN.STATE port.val = x.src % 8 ∧ t.fon FEL_CHAIN.BUSY port.val = true ∧ (s.timeRuns = true → x.due ≤ t.dt)) ∧
  (∀ (port : Fin 32) (s : State) (x : ChainCheck) (rest : List ChainCheck), (s.felPort port.val).checks = x :: rest → (s.felPort port.val).failed = false ∨ x.dst ≠ chSTANDBY → x.again = true → ∃ t, exec (.chainTransitionTimeout port) s = .next t ∧ (t.felPort port.val).failed = true ∧ (t.felPort port.val).chainCmd = some chSTANDBY ∧ (t.felPort port.val).checks = [] ∧ t.fon FEL_CHAIN.BUSY port.val = true) ∧
  (∀ (port : Fin 32) (s : State) (x : ChainCheck) (rest : List ChainCheck), (s.felPort port.val).checks = x :: rest → (s.felPort port.val).failed = true → x.dst = chSTANDBY → ∃ t, exec (.chainTransitionTimeout port) s = .next t ∧ t.fon FEL_LINK.UP port.val = false ∧ t.timerOn tmFelLink port.val = false) ∧
  (∀ (port : Fin 32) (s : State), (s.felPort port.val).checks = [] → ∃ t, exec (.chainTransitionTimeout port) s = .next t ∧ t = s) ∧
  (∀ (who : Init) (s : State), Admitted s who pgFEL 0x044 → s.member.present (s.felSel who) = true → ∃ t, exec (.calReqRxiq who) s = .next t ∧ Took t who ∧ ((t.felPort (s.felSel who)).calQueue.contains 1 = true ∨ (t.felPort (s.felSel who)).cal = some 1) ∧ (t.felPort (s.felSel who)).calQueue.contains 2 = true ∧ t.fget FEL_CHAIN.TARGET (s.felSel who) = s.fget FEL_CHAIN.TARGET (s.felSel who)) ∧
  (∀ (who : Init) (s : State), Admitted s who pgFEL 0x044 → s.member.present (s.felSel who) = true → ∃ t, exec (.calReqRxgain who) s = .next t ∧ Took t who ∧ ((t.felPort (s.felSel who)).calQueue.contains 2 = true ∨ (t.felPort (s.felSel who)).cal = some 2) ∧ t.fget FEL_CHAIN.TARGET (s.felSel who) = s.fget FEL_CHAIN.TARGET (s.felSel who)) ∧
  (∀ (port : Fin 32) (pass : Bool) (rxc : Int) (s : State) (k : Nat), (s.felPort port.val).cal = some k → ∃ t, exec (.calibrationDone port pass rxc) s = .next t ∧ t.fget FEL_CHAIN.CAL_RESULT port.val = (if pass then 0 else 1) ∧ (k = 2 → pass = true → (t.felPort port.val).rxcCal = dbField rxc) ∧ (s.timeRuns = true → (s.felPort port.val).calAt + ticksOfUs (calUs k) ≤ t.dt)) ∧
  (∀ (who : Init) (khz : BitVec 24) (s : State), Admitted s who pgFEL 0x048 → s.member.present (s.felSel who) = true → s.fget FEL_CHAIN.TARGET (s.felSel who) ≤ 2 → s.chain (s.felSel who) < chSYNTH → bitsOf (s.descWord (s.felSel who) 0) 23 0 ≤ khz.toNat → khz.toNat ≤ bitsOf (s.descWord (s.felSel who) 1) 23 0 → ∃ t, exec (.loWrite who khz) s = .next t ∧ Took t who ∧ t.fget FEL_TUNE.LO_KHZ (s.felSel who) = khz.toNat ∧ (t.felPort (s.felSel who)).loWaits = true) ∧
  (∀ (who : Init) (s : State), Admitted s who pgFEL 0x044 → s.member.present (s.felSel who) = true → s.mm (s.felSel who) = mmLATCHED → ∃ t, exec (.feClear who) s = .next t ∧ Took t who ∧ t.mm (s.felSel who) = mmUNPROVEN ∧ t.fget FEL_MM.RETRIES (s.felSel who) = 0) ∧
  (∀ (who : Init) (khz : BitVec 24) (s : State), Admitted s who pgFEL 0x048 → s.member.present (s.felSel who) = true → 2 < s.fget FEL_CHAIN.TARGET (s.felSel who) ∨ chSYNTH < s.chain (s.felSel who) → ∃ t, exec (.loWrite who khz) s = .next t ∧ t.lastReason who = Reason.configLocked.code ∧ t.fel = s.fel) ∧
  (∀ (who : Init) (khz : BitVec 24) (s : State), Admitted s who pgFEL 0x048 → s.member.present (s.felSel who) = true → s.fget FEL_CHAIN.TARGET (s.felSel who) ≤ 2 → s.chain (s.felSel who) = chSYNTH → s.felRoom (s.felSel who) 2 = true → bitsOf (s.descWord (s.felSel who) 0) 23 0 ≤ khz.toNat → khz.toNat ≤ bitsOf (s.descWord (s.felSel who) 1) 23 0 → ∃ t, exec (.loWrite who khz) s = .next t ∧ Took t who ∧ t.fget FEL_TUNE.LO_KHZ (s.felSel who) = khz.toNat ∧ (t.felPort (s.felSel who)).plain.length = (s.felPort (s.felSel who)).plain.length + 2 ∧ ((t.felPort (s.felSel who)).cal = some 0 ∨ (t.felPort (s.felSel who)).calQueue.contains 0 = true))

/-- Mismatch protection: a detector that falls silent, the end of SHORT, the good timer, the tuner. A silent detector returns a port to UNPROVEN unless it is latched; the end of SHORT retries while retries are left and latches after them; 60 s of GOOD return the retries to 0; a tuner step moves the code and remembers the trial where its request is taken; a code of the host's is sent each time it is written, or finds the queue full. (derived from R272, R274, R275, R276, R277) -/
def Obligations.MismatchCommands : Prop :=
  (∀ (port : Fin 32) (s : State), s.fon FEL_LINK.UP port.val = true → s.fon FEL_PIN.PA port.val = true → ∃ t, exec (.detectorTimeout port) s = .next t ∧ t.mm port.val = (if s.mm port.val = mmLATCHED then mmLATCHED else mmUNPROVEN) ∧ s.dt ≤ t.dt) ∧
  (∀ (port : Fin 32) (s : State), s.mm port.val = mmSHORT → s.timerDue tmMmHold port.val s.ms (s.fget FEL_MMCFG3.MM_HOLD_MS 0) = true → s.fget FEL_MM.RETRIES port.val < s.fget FEL_MMCFG4.MM_RETRY_LIMIT 0 → ∃ t, exec (.mismatchHoldExpired port) s = .next t ∧ t.mm port.val = mmUNPROVEN ∧ t.fget FEL_MM.RETRIES port.val = min (s.fget FEL_MM.RETRIES port.val + 1) (fieldSize FEL_MM.RETRIES.hi FEL_MM.RETRIES.lo - 1)) ∧
  (∀ (port : Fin 32) (s : State), s.mm port.val = mmSHORT → s.timerDue tmMmHold port.val s.ms (s.fget FEL_MMCFG3.MM_HOLD_MS 0) = true → s.fget FEL_MMCFG4.MM_RETRY_LIMIT 0 ≤ s.fget FEL_MM.RETRIES port.val → ∃ t, exec (.mismatchHoldExpired port) s = .next t ∧ t.mm port.val = mmLATCHED ∧ t.fget FEL_MM.RETRIES port.val = s.fget FEL_MM.RETRIES port.val) ∧
  (∀ (port : Fin 32) (s : State), s.mm port.val = mmGOOD → s.timerDue tmMmGood port.val s.sec_ 60 = true → ∃ t, exec (.mismatchGoodTimer port) s = .next t ∧ t.fget FEL_MM.RETRIES port.val = 0 ∧ t.timerOn tmMmGood port.val = false ∧ t.mm port.val = mmGOOD) ∧
  (∀ (port : Fin 32) (s : State) (a : Int) (b : Int) (c : Nat), s.mm port.val = mmWARN → s.fon FEL_TUNER.TUNER_EN port.val = true → s.timerDue tmTune port.val s.ms (s.fget FEL_MMCFG4.TUNE_INT_MS 0) = true → (s.felPort port.val).trial = none → (s.felPort port.val).rls = [a, b] → nextTune (s.fget FEL_TUNER.TUNER_CODE port.val) (s.modReg port.val 6 3) (s.felPort port.val).tuneUp = some c → ((s.timerStart tmTune port.val s.ms).sendTuner port.val c).2 = true → ∃ t, exec (.tunerStepTimer port) s = .next t ∧ t.fget FEL_TUNER.TUNER_CODE port.val = c % 256 ∧ (t.felPort port.val).trial = some (s.fget FEL_TUNER.TUNER_CODE port.val, a + b) ∧ (t.felPort port.val).rls = [] ∧ (t.felPort port.val).tuneUp = !(s.felPort port.val).tuneUp) ∧
  (∀ (port : Fin 32) (s : State) (a : Int) (b : Int) (c : Nat), s.mm port.val = mmWARN → s.fon FEL_TUNER.TUNER_EN port.val = true → s.timerDue tmTune port.val s.ms (s.fget FEL_MMCFG4.TUNE_INT_MS 0) = true → (s.felPort port.val).trial = none → (s.felPort port.val).rls = [a, b] → nextTune (s.fget FEL_TUNER.TUNER_CODE port.val) (s.modReg port.val 6 3) (s.felPort port.val).tuneUp = some c → ((s.timerStart tmTune port.val s.ms).sendTuner port.val c).2 = false → ∃ t, exec (.tunerStepTimer port) s = .next t ∧ t.fget FEL_TUNER.TUNER_CODE port.val = s.fget FEL_TUNER.TUNER_CODE port.val ∧ (t.felPort port.val).trial = none ∧ (t.felPort port.val).rls = [a, b] ∧ t.timerOn tmTune port.val = true) ∧
  (∀ (who : Init) (code : Fin 256) (s : State), Admitted s who pgFEL 0x060 → s.member.present (s.felSel who) = true → code.val ≤ s.modReg (s.felSel who) 6 3 → s.felRoom (s.felSel who) 1 = true → ∃ t, exec (.tunerCodeWrite who code) s = .next t ∧ Took t who ∧ t.fget FEL_TUNER.TUNER_CODE (s.felSel who) = code.val ∧ (t.felPort (s.felSel who)).plain.length = (s.felPort (s.felSel who)).plain.length + 1 ∧ t.fon FEL_TUNER.TUNER_EN (s.felSel who) = s.fon FEL_TUNER.TUNER_EN (s.felSel who)) ∧
  (∀ (who : Init) (code : Fin 256) (s : State), Admitted s who pgFEL 0x060 → s.member.present (s.felSel who) = true → code.val ≤ s.modReg (s.felSel who) 6 3 → s.felRoom (s.felSel who) 1 = false → ∃ t, exec (.tunerCodeWrite who code) s = .next t ∧ t.lastReason who = Reason.windowBusy.code ∧ t.fel = s.fel ∧ t.fget FEL_TUNER.TUNER_CODE (s.felSel who) = s.fget FEL_TUNER.TUNER_CODE (s.felSel who)) ∧
  (∀ (port : Fin 32) (s : State), s.fon FEL_LINK.UP port.val = false ∨ s.fon FEL_PIN.PA port.val = false → ∃ t, exec (.detectorTimeout port) s = .next t ∧ t = s)

/-- Converter links: enables, bring-up, SYSREF, run, multiblocks, loss, alarm, test pattern. An enable starts its half of the group; PLL lock, sync lock, a SYSREF edge and RUN move the link through its states; a loss counts a relock and returns the link; a multiblock's CRC errors are counted and at their limit lose the link; an edge off its cycle is counted and in mode 2 aligns the link again; an alarm of the converter stops its transmitter until it ends; JLK_TEST takes the pattern while neither stream is in use, and is locked otherwise. (derived from R284, R286, R287, R288, R289, R290, R291) -/
def Obligations.ConverterLinkCommands : Prop :=
  (∀ (who : Init) (group : Fin 32) (s : State), Admitted s who (jlkPage group.val) (jlkOff group.val) → s.fget JLK_CFG.SYSREF_MODE group.val ≠ 3 → s.fget JLK_CFG.ALARM_GPIO group.val ≤ 47 ∨ s.fget JLK_CFG.ALARM_GPIO group.val = 0x3F → s.fon JLK_CFG.RX_EN group.val = false → s.onFibre group.val = false → s.linksPowered = true → ∃ t, exec (.jlkRxEnable who group) s = .next t ∧ Took t who ∧ t.fon JLK_CFG.RX_EN group.val = true ∧ t.rxSt group.val = rxPLL ∧ t.fget JLK_STAT.LANE_LOCK group.val = 0 ∧ t.txSt group.val = s.txSt group.val) ∧
  (∀ (who : Init) (group : Fin 32) (s : State), Admitted s who (jlkPage group.val) (jlkOff group.val) → s.fget JLK_CFG.SYSREF_MODE group.val ≠ 3 → s.fget JLK_CFG.ALARM_GPIO group.val ≤ 47 ∨ s.fget JLK_CFG.ALARM_GPIO group.val = 0x3F → s.fon JLK_CFG.TX_EN group.val = false → s.onFibre (32 + group.val) = false → s.linksPowered = true → ∃ t, exec (.jlkTxEnable who group) s = .next t ∧ Took t who ∧ t.fon JLK_CFG.TX_EN group.val = true ∧ t.txSt group.val = (if s.fon JLK_STAT.PLL_LOCK group.val && s.fon JLK_STAT.SYSREF_SEEN group.val then txRUN else txSTARTING) ∧ t.rxSt group.val = s.rxSt group.val) ∧
  (∀ (group : Fin 32) (s : State), s.jlkRuns group.val = true → s.rxSt group.val = rxPLL → ∃ t, exec (.lanePllLocked group) s = .next t ∧ t.fon JLK_STAT.PLL_LOCK group.val = true ∧ t.rxSt group.val = rxCDR ∧ (t.jlk group.val).unlocked = false) ∧
  (∀ (group : Fin 32) (s : State), s.jlkRuns group.val = true → s.rxSt group.val ≠ rxPLL → s.txSt group.val = txSTARTING → ∃ t, exec (.lanePllLocked group) s = .next t ∧ t.fon JLK_STAT.PLL_LOCK group.val = true ∧ t.rxSt group.val = s.rxSt group.val ∧ t.txSt group.val = (if s.fon JLK_STAT.SYSREF_SEEN group.val then txRUN else txSTARTING)) ∧
  (∀ (group : Fin 32) (s : State), s.jlkRuns group.val = false → ∃ t, exec (.lanePllLocked group) s = .next t ∧ t = s) ∧
  (∀ (group : Fin 32) (lock : LaneSync) (s : State), s.jlkRuns group.val = true → rxCDR ≤ s.rxSt group.val → s.rxSt group.val ≤ rxEMBLOCK → lock = .boundaries true → ∃ t, exec (.laneSyncLocked group lock) s = .next t ∧ t.rxSt group.val = rxWAIT ∧ t.fon JLK_STAT.SYSREF_SEEN group.val = false ∧ t.timerOn tmSysref group.val = true ∧ t.fget JLK_STAT.LANE_LOCK group.val = s.lanesInUse group.val ∧ t.timerOn tmRelock group.val = false) ∧
  (∀ (group : Fin 32) (lock : LaneSync) (s : State), s.jlkRuns group.val = true → rxCDR ≤ s.rxSt group.val → s.rxSt group.val ≤ rxEMBLOCK → lock = .boundaries false → ∃ t, exec (.laneSyncLocked group lock) s = .next t ∧ t.rxSt group.val = rxEMBLOCK ∧ t.fget JLK_STAT.LANE_LOCK group.val = s.lanesInUse group.val ∧ t.timerOn tmRelock group.val = false) ∧
  (∀ (group : Fin 32) (lock : LaneSync) (s : State), s.jlkRuns group.val = true → rxCDR ≤ s.rxSt group.val → s.rxSt group.val ≤ rxEMBLOCK → lock = .headers → ∃ t, exec (.laneSyncLocked group lock) s = .next t ∧ t.rxSt group.val = (if s.rxSt group.val = rxCDR then rxSHLOCK else s.rxSt group.val) ∧ t.fget JLK_STAT.LANE_LOCK group.val = s.lanesInUse group.val ∧ t.timerOn tmRelock group.val = false) ∧
  (∀ (group : Fin 32) (lock : LaneSync) (s : State), s.jlkRuns group.val = false ∨ s.rxSt group.val < rxCDR ∨ rxEMBLOCK < s.rxSt group.val → ∃ t, exec (.laneSyncLocked group lock) s = .next t ∧ t = s) ∧
  (∀ (off : BitVec 32) (s : State) (g : Fin 32), s.awaitsSysref g.val = true → ∃ t, exec (.sysrefEdge off) s = .next t ∧ t.fon JLK_STAT.SYSREF_SEEN g.val = true ∧ t.timerOn tmSysref g.val = false ∧ (s.txSt g.val = txSTARTING → s.fon JLK_STAT.PLL_LOCK g.val = true → t.txSt g.val = txRUN)) ∧
  (∀ (off : BitVec 32) (s : State) (g : Fin 32), s.awaitsSysref g.val = false → s.fon JLK_STAT.SYSREF_SEEN g.val = true → off.toNat.testBit g.val = true → s.fget JLK_CFG.SYSREF_MODE g.val ≠ 0 → ∃ t, exec (.sysrefEdge off) s = .next t ∧ t.fget JLK_ERR.SYSREF_PHASE g.val = min (s.fget JLK_ERR.SYSREF_PHASE g.val + 1) (fieldSize JLK_ERR.SYSREF_PHASE.hi JLK_ERR.SYSREF_PHASE.lo - 1) ∧ t.rxSt g.val = (if s.fget JLK_CFG.SYSREF_MODE g.val = 2 ∧ s.rxSt g.val = rxRUN then rxWAIT else s.rxSt g.val) ∧ t.txSt g.val = (if s.fget JLK_CFG.SYSREF_MODE g.val = 2 ∧ s.txSt g.val = txRUN then txSTARTING else s.txSt g.val)) ∧
  (∀ (group : Fin 32) (s : State), s.rxSt group.val = rxWAIT → s.timerDue tmSysref group.val s.ms 1 = true → ∃ t, exec (.sysrefTimeout group) s = .next t ∧ t.timerOn tmSysref group.val = false ∧ t.rxSt group.val = rxWAIT) ∧
  (∀ (group : Fin 32) (s : State), s.jlkRuns group.val = true → s.rxSt group.val = rxWAIT → s.fon JLK_STAT.SYSREF_SEEN group.val = true → ∃ t, exec (.jlkRun group) s = .next t ∧ t.rxSt group.val = rxRUN ∧ t.fget JLK_STAT.ARR_DEV group.val = 0 ∧ (t.jlk group.val).lost = false ∧ (s.timeRuns = true → (s.jlk group.val).lemc ≤ t.dt)) ∧
  (∀ (group : Fin 32) (dev : Int) (crcErrs : Fin 3) (bitErrs : Nat) (s : State), s.jlkRuns group.val = true → s.rxSt group.val = rxRUN → dev.natAbs ≤ s.fget JLK_X_LIM.ARR_MAX group.val → crcErrs.val = 0 → ∃ t, exec (.jlkMultiblock group dev crcErrs bitErrs) s = .next t ∧ t.rxSt group.val = rxRUN ∧ t.fgetI JLK_STAT.ARR_DEV group.val = clampI (-32768) 32767 dev ∧ t.fget JLK_TEST.BIT_ERR group.val = (if s.fget JLK_TEST.PATTERN group.val = 0 then s.fget JLK_TEST.BIT_ERR group.val else min 0xFFFF (s.fget JLK_TEST.BIT_ERR group.val + bitErrs))) ∧
  (∀ (group : Fin 32) (dev : Int) (crcErrs : Fin 3) (bitErrs : Nat) (s : State), s.jlkRuns group.val = true → s.rxSt group.val = rxRUN → s.fget JLK_X_LIM.ARR_MAX group.val < dev.natAbs → crcErrs.val = 0 → ∃ t, exec (.jlkMultiblock group dev crcErrs bitErrs) s = .next t ∧ t.rxSt group.val = rxWAIT ∧ t.fon JLK_STAT.SYSREF_SEEN group.val = false) ∧
  (∀ (group : Fin 32) (dev : Int) (crcErrs : Fin 3) (bitErrs : Nat) (s : State), s.jlkRuns group.val = true → s.rxSt group.val = rxRUN → dev.natAbs ≤ s.fget JLK_X_LIM.ARR_MAX group.val → crcErrs.val ≠ 0 → ∃ t, exec (.jlkMultiblock group dev crcErrs bitErrs) s = .next t ∧ t.rxSt group.val = (if s.fget JLK_X_LIM.CRC_MAX group.val ≤ ((if (s.jlk group.val).crcMs = s.ms + 1 then (s.jlk group.val).crcN else 0) + crcErrs.val) then rxCDR else rxRUN) ∧ t.fget JLK_ERR.CRC_ERR group.val = min (s.fget JLK_ERR.CRC_ERR group.val + crcErrs.val) (fieldSize JLK_ERR.CRC_ERR.hi JLK_ERR.CRC_ERR.lo - 1) ∧ (t.jlk group.val).crcN = ((if (s.jlk group.val).crcMs = s.ms + 1 then (s.jlk group.val).crcN else 0) + crcErrs.val)) ∧
  (∀ (group : Fin 32) (dev : Int) (crcErrs : Fin 3) (bitErrs : Nat) (s : State), s.jlkRuns group.val = false ∨ s.rxSt group.val ≠ rxRUN → ∃ t, exec (.jlkMultiblock group dev crcErrs bitErrs) s = .next t ∧ t = s) ∧
  (∀ (group : Fin 32) (pll : Bool) (s : State), rxSHLOCK ≤ s.rxSt group.val → pll = true → ∃ t, exec (.jlkRxLinkLost group pll) s = .next t ∧ t.rxSt group.val = rxPLL ∧ t.fon JLK_STAT.PLL_LOCK group.val = false ∧ (t.jlk group.val).unlocked = true ∧ (t.jlk group.val).lost = true ∧ t.fget JLK_ERR.RELOCKS group.val = min (s.fget JLK_ERR.RELOCKS group.val + 1) (fieldSize JLK_ERR.RELOCKS.hi JLK_ERR.RELOCKS.lo - 1)) ∧
  (∀ (group : Fin 32) (pll : Bool) (s : State), rxSHLOCK ≤ s.rxSt group.val → pll = false → ∃ t, exec (.jlkRxLinkLost group pll) s = .next t ∧ t.rxSt group.val = rxCDR ∧ t.fget JLK_STAT.LANE_LOCK group.val = 0 ∧ (t.jlk group.val).lost = true ∧ t.fget JLK_ERR.RELOCKS group.val = min (s.fget JLK_ERR.RELOCKS group.val + 1) (fieldSize JLK_ERR.RELOCKS.hi JLK_ERR.RELOCKS.lo - 1) ∧ t.timerOn tmRelock group.val = true ∧ t.timerOn tmSysref group.val = false) ∧
  (∀ (group : Fin 32) (s : State), rxCDR ≤ s.rxSt group.val → s.rxSt group.val ≤ rxEMBLOCK → s.timerDue tmRelock group.val s.ms 1 = true → ∃ t, exec (.jlkRelockTimeout group) s = .next t ∧ t.rxSt group.val = rxPLL ∧ t.timerOn tmRelock group.val = false) ∧
  (∀ (group : Fin 32) (active : Bool) (s : State), s.fget JLK_CFG.ALARM_GPIO group.val ≠ 0x3F → active = true → s.txSt group.val = txSTARTING ∨ s.txSt group.val = txRUN → ∃ t, exec (.jlkTxAlarm group active) s = .next t ∧ t.txSt group.val = txALARM ∧ (t.jlk group.val).alarm = true) ∧
  (∀ (group : Fin 32) (active : Bool) (s : State), s.fget JLK_CFG.ALARM_GPIO group.val ≠ 0x3F → active = false → s.txSt group.val = txALARM → (s.jlk group.val).alarm = true → ∃ t, exec (.jlkTxAlarm group active) s = .next t ∧ t.txSt group.val = (if s.fon JLK_STAT.PLL_LOCK group.val && s.fon JLK_STAT.SYSREF_SEEN group.val then txRUN else txSTARTING) ∧ (t.jlk group.val).alarm = false) ∧
  (∀ (who : Init) (group : Fin 32) (pattern : Fin 4) (s : State), Admitted s who (jlkPage group.val) (jlkOff group.val + 0x0C) → s.streamInUse group.val = false → s.streamInUse (32 + group.val) = false → ∃ t, exec (.jlkPatternWrite who group pattern) s = .next t ∧ Took t who ∧ t.fget JLK_TEST.PATTERN group.val = pattern.val ∧ t.fget JLK_TEST.BIT_ERR group.val = s.fget JLK_TEST.BIT_ERR group.val) ∧
  (∀ (s : State), s.timerOn tmEqual 0 = false → ∃ t, exec .equaliserReadapt s = .next t ∧ t.timerOn tmEqual 0 = true) ∧
  (∀ (who : Init) (group : Fin 32) (pattern : Fin 4) (s : State), Admitted s who (jlkPage group.val) (jlkOff group.val + 0x0C) → s.streamInUse group.val = true ∨ s.streamInUse (32 + group.val) = true → ∃ t, exec (.jlkPatternWrite who group pattern) s = .next t ∧ t.lastReason who = Reason.configLocked.code ∧ t.fget JLK_TEST.PATTERN group.val = s.fget JLK_TEST.PATTERN group.val)

/-- Fronthaul: lanes, sides, preemption, frames, flows, feeds, transmit frames. A lane that rises brings up its side and the last one that falls takes it down; a frame that is bad or of another revision counts, one that is relayed leaves on the other side or is counted as dropped, a chain message at its last hop expires, a Sync gives the offset; a flow is enabled where its side has the rate for it, times out to LOST; a feed switches between the sides and back; a transmit frame is sent with the next SEQ_ID. (derived from R295, R296, R297, R298, R299, R300, R301, R302, R303) -/
def Obligations.FronthaulCommands : Prop :=
  (∀ (side : Fin 2) (lane : Fin 4) (s : State), s.laneUsed side.val lane.val = true → s.fbit (sideLaneUpFld side.val) 0 lane.val = false → ∃ t, exec (.fhLaneUp side lane) s = .next t ∧ t.sideUp side.val = true ∧ t.fbit (sideLaneUpFld side.val) 0 lane.val = true ∧ t.fbit (sideHiberFld side.val) 0 lane.val = false ∧ t.fhl.blockLock.testBit (4 * side.val + lane.val) = true) ∧
  (∀ (side : Fin 2) (lane : Fin 4) (hiber : Bool) (s : State), s.fbit (sideLaneUpFld side.val) 0 lane.val = true → ∃ t, exec (.fhLaneDown side lane hiber) s = .next t ∧ t.fbit (sideLaneUpFld side.val) 0 lane.val = false ∧ ((s.lanesUp side.val).filter (fun l => decide (l ≠ lane.val)) = [] → t.sideUp side.val = false ∧ t.fon (sideOkFld side.val) 0 = false) ∧ ((s.lanesUp side.val).filter (fun l => decide (l ≠ lane.val)) ≠ [] → t.sideUp side.val = s.sideUp side.val) ∧ (s.laneUsed side.val lane.val = true → t.fbit (sideHiberFld side.val) 0 lane.val = hiber) ∧ t.fhl.blockLock.testBit (4 * side.val + lane.val) = (hiber && s.fhl.blockLock.testBit (4 * side.val + lane.val))) ∧
  (∀ (side : Fin 2) (lane : Fin 4) (s : State), s.laneUsed side.val lane.val = false ∨ s.fbit (sideLaneUpFld side.val) 0 lane.val = true → ∃ t, exec (.fhLaneUp side lane) s = .next t ∧ t = s) ∧
  (∀ (side : Fin 2) (ok : Bool) (s : State), s.sideUp side.val = false ∨ s.fon (sidePreFld side.val) 0 = false → ∃ t, exec (.fhPreemptVerify side ok) s = .next t ∧ t = s) ∧
  (∀ (side : Fin 2) (ok : Bool) (s : State), s.sideUp side.val = true → s.fon (sidePreFld side.val) 0 = true → ∃ t, exec (.fhPreemptVerify side ok) s = .next t ∧ t.fon (sideOkFld side.val) 0 = ok ∧ t.sideUp side.val = true) ∧
  (∀ (side : Fin 2) (lane : Fin 4) (frame : FhFrame) (arrival : FhArrival) (s : State), s.works pgFHL = true → s.domainRuns (36 + side.val) = true → s.sideUp side.val = true → (s.lanesUp side.val).contains lane.val = true → arrival.fcsOk = true → frame = .badRevision → ∃ t, exec (.fhFrameReceived side lane frame arrival) s = .next t ∧ t.fget (sideDiscFld side.val) 0 = min (s.fget (sideDiscFld side.val) 0 + 1) (fieldSize (sideDiscFld side.val).hi (sideDiscFld side.val).lo - 1) ∧ t.fhl = s.fhl) ∧
  (∀ (side : Fin 2) (lane : Fin 4) (frame : FhFrame) (arrival : FhArrival) (s : State), s.works pgFHL = true → s.domainRuns (36 + side.val) = true → s.sideUp side.val = true → (s.lanesUp side.val).contains lane.val = true → arrival.fcsOk = false → (match readFrame frame with | .chain _ _ _ _ _ => false | g => (passesRelay g).isNone) = true → ∃ t, exec (.fhFrameReceived side lane frame arrival) s = .next t ∧ t.fget (sideFcsFld side.val) 0 = min (s.fget (sideFcsFld side.val) 0 + 1) (fieldSize (sideFcsFld side.val).hi (sideFcsFld side.val).lo - 1) ∧ t.fhl = s.fhl) ∧
  (∀ (side : Fin 2) (lane : Fin 4) (frame : FhFrame) (arrival : FhArrival) (s : State) (dest : Fin 65536) (src : Fin 65536) (hops : Fin 256) (pkt : RawPkt), s.works pgFHL = true → s.domainRuns (36 + side.val) = true → s.sideUp side.val = true → (s.lanesUp side.val).contains lane.val = true → arrival.fcsOk = false → frame = .chain dest src hops true pkt → 1 < hops.val → s.chainMine dest.val = false → s.relays side.val = true → s.lanesUp (1 - side.val) ≠ [] → arrival.full = false → ∃ t, exec (.fhFrameReceived side lane frame arrival) s = .next t ∧ t.fget (sideFcsFld side.val) 0 = min (s.fget (sideFcsFld side.val) 0 + 1) (fieldSize (sideFcsFld side.val).hi (sideFcsFld side.val).lo - 1) ∧ (t.fhl.sent.getLast?).any (fun x => x.bad && decide (x.side = 1 - side.val)) = true ∧ t.fhl.sent.length = s.fhl.sent.length + 1) ∧
  (∀ (side : Fin 2) (lane : Fin 4) (frame : FhFrame) (arrival : FhArrival) (s : State) (id : Fin 256) (stamp : Nat), s.works pgFHL = true → s.domainRuns (36 + side.val) = true → s.sideUp side.val = true → (s.lanesUp side.val).contains lane.val = true → arrival.fcsOk = true → frame = .owdRequest id stamp → side.val = 0 → ∃ t, exec (.fhFrameReceived side lane frame arrival) s = .next t ∧ t.fhl.align.dIn = some ((arrival.stamp : Int) - stamp) ∧ t.fhl.sent = s.fhl.sent ++ [⟨0, lane.val, .owdResponse id arrival.stamp, false, framePayload (.owdResponse id arrival.stamp), none⟩]) ∧
  (∀ (side : Fin 2) (lane : Fin 4) (frame : FhFrame) (arrival : FhArrival) (s : State) (size : Nat), s.works pgFHL = true → s.domainRuns (36 + side.val) = true → s.sideUp side.val = true → (s.lanesUp side.val).contains lane.val = true → arrival.fcsOk = true → frame = .other size → ∃ t, exec (.fhFrameReceived side lane frame arrival) s = .next t ∧ (s.relays side.val = true → arrival.full = false → t.fhl.sent.length = s.fhl.sent.length + (if s.lanesUp (1 - side.val) = [] then 0 else 1)) ∧ (s.relays side.val = false ∨ arrival.full = true → t.fhl = s.fhl ∧ t.fget FHL_CHAIN_CNT.DROPPED 0 = min (s.fget FHL_CHAIN_CNT.DROPPED 0 + 1) (fieldSize FHL_CHAIN_CNT.DROPPED.hi FHL_CHAIN_CNT.DROPPED.lo - 1))) ∧
  (∀ (side : Fin 2) (lane : Fin 4) (frame : FhFrame) (arrival : FhArrival) (s : State) (dest : Fin 65536) (src : Fin 65536) (hops : Fin 256) (pkt : RawPkt), s.works pgFHL = true → s.domainRuns (36 + side.val) = true → s.sideUp side.val = true → (s.lanesUp side.val).contains lane.val = true → arrival.fcsOk = true → frame = .chain dest src hops true pkt → hops.val = 1 → dest.val < 0xFFFD → dest.val ≠ s.fget FHL_NODE.NODE_ID 0 → ∃ t, exec (.fhFrameReceived side lane frame arrival) s = .next t ∧ t.fhl = s.fhl ∧ t.fget FHL_CHAIN_CNT.EXPIRED 0 = min (s.fget FHL_CHAIN_CNT.EXPIRED 0 + 1) (fieldSize FHL_CHAIN_CNT.EXPIRED.hi FHL_CHAIN_CNT.EXPIRED.lo - 1)) ∧
  (∀ (side : Fin 2) (lane : Fin 4) (frame : FhFrame) (arrival : FhArrival) (s : State) (domain : Fin 256) (master : Nat) (seq : Fin 65536) (interval : Int) (t1 : Nat) (t2 : Nat) (corr : Int), s.works pgFHL = true → s.domainRuns (36 + side.val) = true → s.sideUp side.val = true → (s.lanesUp side.val).contains lane.val = true → arrival.fcsOk = true → frame = .ptp (.sync domain master seq interval false t1 t2 corr) → side.val = s.fget FHL_PTP_CFG.SIDE 0 → s.ptpPort domain.val = true → s.fhl.ptp.master = some master → -7 ≤ interval → interval ≤ 0 → ∃ t, exec (.fhFrameReceived side lane frame arrival) s = .next t ∧ t.fgetI FHL_PTP_OFFSET.OFFSET_NS 0 = clampI (-0x80000000) 0x7FFFFFFF (roundDiv ((((t2 : Int) - t1) * 65536 - corr) - s.fgetI FHL_PTP_MPD.MPD_NS 0 * 65536) 65536) ∧ t.fget FHL_PTP_CNT.SYNC_RX 0 = min (s.fget FHL_PTP_CNT.SYNC_RX 0 + 1) (fieldSize FHL_PTP_CNT.SYNC_RX.hi FHL_PTP_CNT.SYNC_RX.lo - 1) ∧ t.timerOn tmPtp 0 = true) ∧
  (∀ (side : Fin 2) (lane : Fin 4) (frame : FhFrame) (arrival : FhArrival) (s : State), s.works pgFHL = false ∨ s.domainRuns (36 + side.val) = false ∨ s.sideUp side.val = false ∨ (s.lanesUp side.val).contains lane.val = false → ∃ t, exec (.fhFrameReceived side lane frame arrival) s = .next t ∧ t = s) ∧
  (∀ (who : Init) (flow : Fin 16) (en : Bool) (s : State), Admitted s who pgFHL (0x100 + 8 * flow.val) → s.fget FHL_FLOW_CFG.FEED flow.val ≠ 3 → s.member.present (bitsOf (s.word (FHL_FLOW_CFG.EN.key flow.val)) 27 24) = true → s.fon FHL_FLOW_CFG.EN flow.val = false → en = false ∨ s.sideLoad (s.flowTx flow.val) (s.flowSide flow.val) flow.val + s.flowRate flow.val ≤ 4608000 → ∃ t, exec (.fhFlowEnable who flow en) s = .next t ∧ Took t who ∧ t.fon FHL_FLOW_CFG.EN flow.val = en ∧ t.fget FHL_FLOW_CFG.FEED flow.val = s.fget FHL_FLOW_CFG.FEED flow.val ∧ (s.flowTx flow.val = false → t.flowSt flow.val = (if t.flowOn flow.val then flACQ else flOFF))) ∧
  (∀ (who : Init) (flow : Fin 16) (en : Bool) (s : State), Admitted s who pgFHL (0x100 + 8 * flow.val) → s.fget FHL_FLOW_CFG.FEED flow.val ≠ 3 → s.member.present (bitsOf (s.word (FHL_FLOW_CFG.EN.key flow.val)) 27 24) = true → s.fon FHL_FLOW_CFG.EN flow.val = false → en = true → 4608000 < s.sideLoad (s.flowTx flow.val) (s.flowSide flow.val) flow.val + s.flowRate flow.val → ∃ t, exec (.fhFlowEnable who flow en) s = .next t ∧ t.lastReason who = Reason.outOfRange.code ∧ t.fhl = s.fhl) ∧
  (∀ (who : Init) (flow : Fin 16) (en : Bool) (s : State), Admitted s who pgFHL (0x100 + 8 * flow.val) → s.fget FHL_FLOW_CFG.FEED flow.val ≠ 3 → s.member.present (bitsOf (s.word (FHL_FLOW_CFG.EN.key flow.val)) 27 24) = true → s.fon FHL_FLOW_CFG.EN flow.val = true → ∃ t, exec (.fhFlowEnable who flow en) s = .next t ∧ Took t who ∧ t.fon FHL_FLOW_CFG.EN flow.val = en ∧ t.fget FHL_FLOW_CFG.FEED flow.val = s.fget FHL_FLOW_CFG.FEED flow.val ∧ (en = false → t.flowSt flow.val = flOFF)) ∧
  (∀ (flow : Fin 16) (s : State), s.flowTx flow.val = false → s.flowSt flow.val = flACQ ∨ s.flowSt flow.val = flRUN → s.timerDue tmFlow flow.val s.us (s.fget FHL_TIMEOUT.FLOW_TO_US 0) = true → ∃ t, exec (.fhFlowTimeout flow) s = .next t ∧ t.flowSt flow.val = flLOST ∧ t.timerOn tmFlow flow.val = false) ∧
  (∀ (feed : Fin 3) (s : State), s.feedSwitches feed.val = true → ∃ t, exec (.fhFeedSwitch feed) s = .next t ∧ t.fget FHL_FEED.IN_USE feed.val = 1 ∧ t.fget FHL_FEED.SIDE feed.val = 2) ∧
  (∀ (feed : Fin 3) (s : State), s.fget FHL_FEED.SIDE feed.val = 2 → s.feedSide feed.val = 1 → (∀ f ∈ s.feedFlows feed.val, s.flowValid f 0 = true ∧ (s.flow f).sinceA + 1000000 ≤ s.us + 1) → ∃ t, exec (.fhFeedReturnTimer feed) s = .next t ∧ t.feedSide feed.val = 0 ∧ t.fget FHL_FEED.SIDE feed.val = 2) ∧
  (∀ (flow : Fin 16) (blocks : List (List Int)) (s : State), s.flowTx flow.val = true → s.flowSt flow.val = flRUN → s.sideUp (s.flowSide flow.val) = true → s.lanesUp (s.flowSide flow.val) ≠ [] → blocks.length = s.fget FHL_FLOW_CFG.BLOCKS_M1 flow.val + 1 → ∃ t, exec (.fhTxFrame flow blocks) s = .next t ∧ (t.flow flow.val).txSeq = ((s.flow flow.val).txSeq + 1) % 256 ∧ t.fhl.sent.length = s.fhl.sent.length + 1 ∧ t.flowSt flow.val = flRUN)

/-- Measurement, alignment messages, PTP: periods, timeouts, frequency and step. A measurement period sends requests with the next identifier; missing answers or messages end what they gave; an alignment period sends the accumulated delay downstream; PTP without a master unlocks; FREQ and STEP are taken while the servo is off. (derived from R306, R307, R308, R309, R310, R313, R314) -/
def Obligations.AlignmentAndPtpCommands : Prop :=
  (∀ (s : State), s.sideUp 0 = true → s.lanesUp 0 ≠ [] → ∃ t, exec .hopMeasPeriod s = .next t ∧ t.fhl.align.owdId = s.fhl.align.owdId + 1 ∧ t.timerOn tmHopPeriod 0 = true ∧ Tbl.get (fun _ => none) t.fhl.align.owdSent 0 = some (s.fhl.align.owdId % 256, s.ptpNs) ∧ s.fhl.sent.length < t.fhl.sent.length) ∧
  (∀ (s : State), s.timerDue tmHopValid 0 s.ms (10 * s.fget FHL_MEAS.MEAS_PERIOD_MS 0) = true → ∃ t, exec .hopNsTimeout s = .next t ∧ t.fhl.align.hopValid = false ∧ t.timerOn tmHopValid 0 = false ∧ t.fhl.align.hop = s.fhl.align.hop) ∧
  (∀ (s : State), s.fon FHL_ALIGN_CFG.EN 0 = false → ∃ t, exec .alignPeriod s = .next t ∧ t.timerOn tmAlignPeriod 0 = true ∧ t.fhl.align.acc = none ∧ t.fhl.sent = s.fhl.sent) ∧
  (∀ (s : State) (acc : Int), s.fon FHL_ALIGN_CFG.EN 0 = true → s.alignAcc = some acc → s.sideUp 1 = true → s.lanesUp 1 ≠ [] → ∃ t, exec .alignPeriod s = .next t ∧ t.timerOn tmAlignPeriod 0 = true ∧ t.fhl.align.acc = some acc ∧ t.fhl.sent.length = s.fhl.sent.length + 1) ∧
  (∀ (s : State), s.timerDue tmAlignMsg 0 s.ms (3 * s.fget FHL_MEAS.ALIGN_PERIOD_MS 0) = true → ∃ t, exec .alignMessageTimeout s = .next t ∧ t.fhl.align.msgValid = false ∧ t.timerOn tmAlignMsg 0 = false ∧ t.fhl.align.msg = s.fhl.align.msg) ∧
  (∀ (s : State), s.timerDue tmPtp 0 s.ms (s.fget FHL_PTP_CFG2.PTP_TO_MS 0) = true → s.fon FHL_PTP_STAT.LOCK 0 = true → ∃ t, exec .ptpSyncTimeout s = .next t ∧ t.fon FHL_PTP_STAT.LOCK 0 = false ∧ t.fget FHL_PTP_STAT.PORT_STATE 0 = ptpUNCALIBRATED ∧ t.fhl.ptp.good = 0 ∧ t.timerOn tmPtp 0 = false) ∧
  (∀ (who : Init) (freq : BitVec 32) (s : State), Admitted s who pgFHL 0x214 → s.fon FHL_PTP_CFG.SERVO 0 = false → -6553600 ≤ toSigned freq.toNat (2 ^ 32) → toSigned freq.toNat (2 ^ 32) ≤ 6553600 → ∃ t, exec (.ptpFreqWrite who freq) s = .next t ∧ Took t who ∧ t.word (FHL_PTP_FREQ.FREQ.key 0) = freq ∧ t.fhl.ptp.refDt = t.dt) ∧
  (∀ (who : Init) (ns : BitVec 32) (s : State), Admitted s who pgFHL 0x218 → s.fon FHL_PTP_CFG.SERVO 0 = false → ∃ t, exec (.ptpStep who ns) s = .next t ∧ Took t who ∧ t.fhl.ptp.ref = s.ptpNow + toSigned ns.toNat (2 ^ 32) * ptpUnit ∧ t.fhl.ptp.refDt = s.dt)

/-- Packet transports: arrival, rings, link, management frames, buffers, execution, timeouts. A good INFO packet, and one whose tag verifies and whose SEQ is new, joins the packets that wait for a buffer; one whose tag fails or that was seen is counted, one of a wrong format is discarded; ring registers take their index; a buffer moves a packet to its queue or the packet is answered DELAYED, or discarded where the staging is full; the front packet of a ready queue begins, urgent first, and is refused where its type, class, identity or function says so; one that has waited Q_TIMEOUT_MS is answered. (derived from R323, R324, R325, R326, R327, R328, R329, R330, R331, R332) -/
def Obligations.PacketTransportCommands : Prop :=
  (∀ (transport : Fin 3) (source : Nat) (pkt : RawPkt) (s : State) (p : Pkt), transport.val = 1 → s.fon MGE_CFG.EN 0 = true → s.fon MGE_STAT.LINK_UP 0 = true → s.works pgGCP = true → s.works pgMGE = true → s.pwr.transportsOff = false → pktOk (pkt.bytes.map fun x => x.val) = true → parsePkt 1 source (pkt.bytes.map fun x => x.val) = p → p.typ = typINFO → ∃ t, exec (.packetReceived transport source pkt) s = .next t ∧ t.arrivedAt 3 = s.arrivedAt 3 ++ [p] ∧ t.gcp.out = s.gcp.out) ∧
  (∀ (transport : Fin 3) (source : Nat) (pkt : RawPkt) (s : State) (p : Pkt), transport.val = 0 → s.works pgGCP = true → s.works pgPCIE = true → s.ringsServe = true → s.pwr.transportsOff = false → s.fon PCIE_STAT.LINK_UP 0 = true → s.fon PCIE_RING.EN (source % 3) = true → s.arrivedAt (source % 3) = [] → s.fget PCIE_RQ_PROD.PROD (source % 3) ≠ s.fget PCIE_IDX.RQ_CONS (source % 3) → pktOk (pkt.bytes.map fun x => x.val) = true → parsePkt 0 (source % 3) (pkt.bytes.map fun x => x.val) = p → p.typ = typINFO → ∃ t, exec (.packetReceived transport source pkt) s = .next t ∧ t.arrivedAt (source % 3) = [p] ∧ t.fget PCIE_IDX.RQ_CONS (source % 3) = s.fget PCIE_IDX.RQ_CONS (source % 3)) ∧
  (∀ (transport : Fin 3) (source : Nat) (pkt : RawPkt) (s : State), transport.val = 1 → s.fon MGE_CFG.EN 0 = true → s.fon MGE_STAT.LINK_UP 0 = true → s.works pgGCP = true → s.works pgMGE = true → s.pwr.transportsOff = false → pktOk (pkt.bytes.map fun x => x.val) = true → (parsePkt 1 source (pkt.bytes.map fun x => x.val)).typ ≠ typINFO → s.rst.recovery = false → s.tagGood (parsePkt 1 source (pkt.bytes.map fun x => x.val)).ident 1 (pkt.bytes.map fun x => x.val) = true → ((s.replayOf (replayKey 1 (parsePkt 1 source (pkt.bytes.map fun x => x.val)).ident)).see (parsePkt 1 source (pkt.bytes.map fun x => x.val)).seq).isSome = true → ∃ t, exec (.packetReceived transport source pkt) s = .next t ∧ t.arrivedAt 3 = s.arrivedAt 3 ++ [(parsePkt 1 source (pkt.bytes.map fun x => x.val))] ∧ t.gcp.out = s.gcp.out ∧ (t.replayOf (replayKey 1 (parsePkt 1 source (pkt.bytes.map fun x => x.val)).ident)).high.isSome = true) ∧
  (∀ (transport : Fin 3) (source : Nat) (pkt : RawPkt) (s : State), transport.val = 1 → s.fon MGE_CFG.EN 0 = true → s.fon MGE_STAT.LINK_UP 0 = true → s.works pgGCP = true → s.works pgMGE = true → s.pwr.transportsOff = false → pktOk (pkt.bytes.map fun x => x.val) = true → (parsePkt 1 source (pkt.bytes.map fun x => x.val)).typ ≠ typINFO → s.rst.recovery = false → s.tagGood (parsePkt 1 source (pkt.bytes.map fun x => x.val)).ident 1 (pkt.bytes.map fun x => x.val) = false → ∃ t, exec (.packetReceived transport source pkt) s = .next t ∧ t.gcp = s.gcp ∧ t.fget GCP_SEC_CNT.AUTH_FAIL 0 = min (s.fget GCP_SEC_CNT.AUTH_FAIL 0 + 1) (fieldSize GCP_SEC_CNT.AUTH_FAIL.hi GCP_SEC_CNT.AUTH_FAIL.lo - 1)) ∧
  (∀ (transport : Fin 3) (source : Nat) (pkt : RawPkt) (s : State), transport.val = 1 → s.fon MGE_CFG.EN 0 = true → s.fon MGE_STAT.LINK_UP 0 = true → s.works pgGCP = true → s.works pgMGE = true → s.pwr.transportsOff = false → pktOk (pkt.bytes.map fun x => x.val) = true → (parsePkt 1 source (pkt.bytes.map fun x => x.val)).typ ≠ typINFO → s.rst.recovery = false → s.tagGood (parsePkt 1 source (pkt.bytes.map fun x => x.val)).ident 1 (pkt.bytes.map fun x => x.val) = true → (s.replayOf (replayKey 1 (parsePkt 1 source (pkt.bytes.map fun x => x.val)).ident)).see (parsePkt 1 source (pkt.bytes.map fun x => x.val)).seq = none → ((s.replayOf (replayKey 1 (parsePkt 1 source (pkt.bytes.map fun x => x.val)).ident)).kept (parsePkt 1 source (pkt.bytes.map fun x => x.val)).seq) = none → ∃ t, exec (.packetReceived transport source pkt) s = .next t ∧ t.gcp = s.gcp ∧ t.fget GCP_SEC_CNT.REPLAY 0 = min (s.fget GCP_SEC_CNT.REPLAY 0 + 1) (fieldSize GCP_SEC_CNT.REPLAY.hi GCP_SEC_CNT.REPLAY.lo - 1)) ∧
  (∀ (transport : Fin 3) (source : Nat) (pkt : RawPkt) (s : State), transport.val = 1 → pktOk (pkt.bytes.map fun x => x.val) = true → (parsePkt 1 source (pkt.bytes.map fun x => x.val)).typ ≠ typINFO → s.rst.recovery = true → ∃ t, exec (.packetReceived transport source pkt) s = .next t ∧ t = s) ∧
  (∀ (transport : Fin 3) (source : Nat) (pkt : RawPkt) (s : State), transport.val = 1 → s.fon MGE_CFG.EN 0 = true → s.fon MGE_STAT.LINK_UP 0 = true → s.works pgGCP = true → s.works pgMGE = true → s.pwr.transportsOff = false → pktOk (pkt.bytes.map fun x => x.val) = false → ∃ t, exec (.packetReceived transport source pkt) s = .next t ∧ t.gcp = s.gcp) ∧
  (∀ (transport : Fin 3) (source : Nat) (pkt : RawPkt) (s : State), transport.val = 2 → s.sideUp (source / 65536 % 2) = true → s.works pgGCP = true → s.works pgFHL = true → s.pwr.transportsOff = false → pktOk (pkt.bytes.map fun x => x.val) = true → (parsePkt 2 source (pkt.bytes.map fun x => x.val)).typ = typINFO → ∃ t, exec (.packetReceived transport source pkt) s = .next t ∧ t.arrivedAt 4 = s.arrivedAt 4 ++ [parsePkt 2 source (pkt.bytes.map fun x => x.val)] ∧ t.gcp.out = s.gcp.out) ∧
  (∀ (transport : Fin 3) (source : Nat) (pkt : RawPkt) (s : State), s.works pgGCP = false ∨ s.pwr.transportsOff = true → ∃ t, exec (.packetReceived transport source pkt) s = .next t ∧ t = s) ∧
  (∀ (who : Init) (cls : Fin 3) (index : BitVec 32) (s : State), Admitted s who pgPCIE (0x084 + 16 * cls.val) → 63 < index.toNat → ∃ t, exec (.pcieRqProduce who cls index) s = .next t ∧ Took t who ∧ t.fget PCIE_RQ_PROD.PROD cls.val = s.fget PCIE_RQ_PROD.PROD cls.val) ∧
  (∀ (who : Init) (cls : Fin 3) (index : BitVec 32) (s : State), Admitted s who pgPCIE (0x08C + 16 * cls.val) → 63 < index.toNat → ∃ t, exec (.pcieAnConsume who cls index) s = .next t ∧ Took t who ∧ t.fget PCIE_AN_CONS.CONS cls.val = s.fget PCIE_AN_CONS.CONS cls.val ∧ t.gcp = s.gcp) ∧
  (∀ (who : Init) (cls : Fin 3) (index : BitVec 32) (s : State), Admitted s who pgPCIE (0x084 + 16 * cls.val) → index.toNat ≤ 63 → ∃ t, exec (.pcieRqProduce who cls index) s = .next t ∧ Took t who ∧ t.fget PCIE_RQ_PROD.PROD cls.val = index.toNat ∧ t.fget PCIE_IDX.RQ_CONS cls.val = s.fget PCIE_IDX.RQ_CONS cls.val) ∧
  (∀ (who : Init) (cls : Fin 3) (index : BitVec 32) (s : State), Admitted s who pgPCIE (0x08C + 16 * cls.val) → index.toNat ≤ 63 → ∃ t, exec (.pcieAnConsume who cls index) s = .next t ∧ Took t who ∧ t.fget PCIE_AN_CONS.CONS cls.val = index.toNat ∧ (s.anWaiting cls.val = [] → t.gcp.out = s.gcp.out)) ∧
  (∀ (who : Init) (cls : Fin 3) (en : Bool) (s : State), Admitted s who pgPCIE (0x080 + 16 * cls.val) → en = true → ∃ t, exec (.pcieRingEnable who cls en) s = .next t ∧ Took t who ∧ t.fon PCIE_RING.EN cls.val = true ∧ t.queueOf cls.val = s.queueOf cls.val) ∧
  (∀ (who : Init) (cls : Fin 3) (en : Bool) (s : State), Admitted s who pgPCIE (0x080 + 16 * cls.val) → en = false → ∃ t, exec (.pcieRingEnable who cls en) s = .next t ∧ Took t who ∧ t.fon PCIE_RING.EN cls.val = false ∧ t.queueOf cls.val = [] ∧ t.anWaiting cls.val = [] ∧ t.arrivedAt cls.val = []) ∧
  (∀ (up : Bool) (speed : Fin 4) (width : Fin 3) (s : State), up = true → s.fon PCIE_STAT.LINK_UP 0 = false → s.running pgPCIE = true → ∃ t, exec (.pcieLinkChange up speed width) s = .next t ∧ t.fon PCIE_STAT.LINK_UP 0 = true ∧ t.fget PCIE_STAT.SPEED 0 = speed.val + 1 ∧ t.fget PCIE_STAT.WIDTH 0 = lanesOf width) ∧
  (∀ (up : Bool) (speed : Fin 4) (width : Fin 3) (s : State), up = false → s.fon PCIE_STAT.LINK_UP 0 = true → s.running pgPCIE = true → ∃ t, exec (.pcieLinkChange up speed width) s = .next t ∧ t.fon PCIE_STAT.LINK_UP 0 = false ∧ t.fget PCIE_STAT.SPEED 0 = 0 ∧ t.fget PCIE_STAT.WIDTH 0 = 0 ∧ t.gcp = s.gcp) ∧
  (∀ (frame : MgeFrame) (s : State) (n : Nat) (vlan : Option (Fin 4096)) (a : BitVec 128), s.works pgMGE = true → s.fon MGE_CFG.EN 0 = true → s.fon MGE_STAT.LINK_UP 0 = true → frame = .solicit n vlan a → s.mgeBad n vlan = false → s.mgeMine a.toNat = true → ∃ t, exec (.mgeFrame frame) s = .next t ∧ t.gcp.mgeOut = s.gcp.mgeOut ++ [.advert a.toNat] ∧ t.gcp.out = s.gcp.out) ∧
  (∀ (s : State), s.timerDue tmMgeLink 0 s.ms 10 = true → ∃ t, exec .mgeLinkTimeout s = .next t ∧ t.timerOn tmMgeLink 0 = false ∧ t.gcp = s.gcp) ∧
  (∀ (requester : Fin 4) (busy : Bool) (s : State) (p : Pkt) (rest : List Pkt), s.works pgBUF = true → s.bufTurn = some requester.val → requester.val = 1 ∨ requester.val = 2 → s.arrivedAt (2 + requester.val) = p :: rest → s.canAlloc p.queue = true → busy = true ∨ s.stagingOf requester.val = [] → ∃ t, exec (.bufferAllocate requester busy) s = .next t ∧ t.arrivedAt (2 + requester.val) = rest ∧ t.queueOf p.queue = s.queueOf p.queue ++ [{ p with at_ := s.ms, lc := s.sec.lc }] ∧ t.gcp.out = s.gcp.out ∧ t.gcp.bufOwner = requester.val) ∧
  (∀ (requester : Fin 4) (busy : Bool) (s : State) (p : Pkt) (rest : List Pkt), s.works pgBUF = true → s.bufTurn = some requester.val → requester.val = 1 ∨ requester.val = 2 → p.transport = requester.val → s.arrivedAt (2 + requester.val) = p :: rest → s.canAlloc p.queue = false → s.stagingOf requester.val = [] → busy = false → ∃ t, exec (.bufferAllocate requester busy) s = .next t ∧ t.arrivedAt (2 + requester.val) = rest ∧ t.queueOf p.queue = s.queueOf p.queue ∧ t.stagingOf requester.val = [] ∧ Sent s { p.answer (.delayed 2) 0 (s.fget GCP_TIME.RETRY_BASE_US 0 * 2 ^ min (s.noBufOf (replayKey p.transport p.ident)) 6) [] with buf := false } t) ∧
  (∀ (requester : Fin 4) (busy : Bool) (s : State) (p : Pkt) (rest : List Pkt), s.works pgBUF = true → s.bufTurn = some requester.val → requester.val = 1 ∨ requester.val = 2 → p.transport = requester.val → s.arrivedAt (2 + requester.val) = p :: rest → s.canAlloc p.queue = false → (s.stagingOf requester.val).length < 4 → busy = true → ∃ t, exec (.bufferAllocate requester busy) s = .next t ∧ t.arrivedAt (2 + requester.val) = rest ∧ t.stagingOf requester.val = s.stagingOf requester.val ++ [{ p.answer (.delayed 2) 0 (s.fget GCP_TIME.RETRY_BASE_US 0 * 2 ^ min (s.noBufOf (replayKey p.transport p.ident)) 6) [] with buf := false }] ∧ t.gcp.out = s.gcp.out) ∧
  (∀ (requester : Fin 4) (busy : Bool) (s : State) (p : Pkt) (rest : List Pkt), s.works pgBUF = true → s.bufTurn = some requester.val → requester.val = 1 ∨ requester.val = 2 → p.transport = requester.val → s.arrivedAt (2 + requester.val) = p :: rest → s.canAlloc p.queue = false → 4 ≤ (s.stagingOf requester.val).length → busy = true → ∃ t, exec (.bufferAllocate requester busy) s = .next t ∧ t.arrivedAt (2 + requester.val) = rest ∧ t.gcp.out = s.gcp.out ∧ t.stagingOf requester.val = s.stagingOf requester.val ∧ t.fget GCP_DROP_CNT.ANSWER_DISCARD 0 = min (s.fget GCP_DROP_CNT.ANSWER_DISCARD 0 + 1) (fieldSize GCP_DROP_CNT.ANSWER_DISCARD.hi GCP_DROP_CNT.ANSWER_DISCARD.lo - 1)) ∧
  (∀ (requester : Fin 4) (busy : Bool) (s : State) (p : Pkt) (rest : List Pkt) (k : Nat), s.works pgBUF = true → s.bufTurn = some 0 → requester.val = 0 → k < 3 → s.arrivedAt k = p :: rest → s.canAlloc p.queue = true → (∀ j : Fin 3, j.val < k → s.arrivedAt j.val = []) → ∃ t, exec (.bufferAllocate requester busy) s = .next t ∧ t.arrivedAt k = rest ∧ t.queueOf p.queue = s.queueOf p.queue ++ [{ p with at_ := s.ms, lc := s.sec.lc }] ∧ t.fget PCIE_IDX.RQ_CONS k = (s.fget PCIE_IDX.RQ_CONS k + 1) % 64 ∧ t.gcp.bufOwner = 0) ∧
  (∀ (requester : Fin 4) (busy : Bool) (s : State), s.works pgBUF = false ∨ (s.bufTurn ≠ some requester.val ∧ (busy = true ∨ s.stagingOf requester.val = [])) → ∃ t, exec (.bufferAllocate requester busy) s = .next t ∧ t = s) ∧
  (∀ (s : State) (tr : Nat) (p : Pkt) (rest : List Pkt), s.works pgGCP = true → ((List.range 9).filter fun q => (s.runningOf q).isSome).length < 8 → s.nextTransport 0 = some tr → s.queueOf (3 * tr) = p :: rest → s.startRefusal p = none → ∃ t, exec .packetExecute s = .next t ∧ t.runningOf (3 * tr) = some p ∧ t.queueOf (3 * tr) = rest ∧ Tbl.get (fun _ => 0) t.gcp.turn 0 = (tr + 1) % 3 ∧ t.gcp.out = s.gcp.out) ∧
  (∀ (s : State) (tr : Nat) (p : Pkt) (rest : List Pkt) (r : Nat), s.works pgGCP = true → ((List.range 9).filter fun q => (s.runningOf q).isSome).length < 8 → s.nextTransport 0 = some tr → s.queueOf (3 * tr) = p :: rest → s.startRefusal p = some r → ∃ t, exec .packetExecute s = .next t ∧ t.runningOf (3 * tr) = none ∧ t.queueOf (3 * tr) = rest ∧ Sent s { p.answer (.refused r) 0 0 [] with buf := true } t) ∧
  (∀ (s : State) (tr : Nat) (p : Pkt) (rest : List Pkt), s.works pgGCP = true → ((List.range 9).filter fun q => (s.runningOf q).isSome).length < 8 → s.nextTransport 0 = none → s.nextTransport 1 = none → s.nextTransport 2 = some tr → s.queueOf (3 * tr + 2) = p :: rest → s.startRefusal p = none → ∃ t, exec .packetExecute s = .next t ∧ t.runningOf (3 * tr + 2) = some p ∧ t.queueOf (3 * tr + 2) = rest ∧ Tbl.get (fun _ => 0) t.gcp.turn 2 = (tr + 1) % 3 ∧ t.gcp.controlRun = 0) ∧
  (∀ (s : State) (tr : Nat) (p : Pkt) (rest : List Pkt), s.works pgGCP = true → ((List.range 9).filter fun q => (s.runningOf q).isSome).length < 8 → s.nextTransport 0 = none → s.nextTransport 1 = some tr → (s.nextTransport 2).isSome = true → s.gcp.controlRun < 3 → s.queueOf (3 * tr + 1) = p :: rest → s.startRefusal p = none → ∃ t, exec .packetExecute s = .next t ∧ t.runningOf (3 * tr + 1) = some p ∧ t.queueOf (3 * tr + 1) = rest ∧ t.gcp.controlRun = s.gcp.controlRun + 1) ∧
  (∀ (s : State), s.works pgGCP = false ∨ 8 ≤ ((List.range 9).filter fun q => (s.runningOf q).isSome).length → ∃ t, exec .packetExecute s = .next t ∧ t = s) ∧
  (∀ (queue : Fin 9) (s : State) (p : Pkt) (rest : List Pkt), s.queueOf queue.val = p :: rest → p.at_ + 1 + s.fget GCP_TIME.Q_TIMEOUT_MS 0 ≤ s.ms → ∃ t, exec (.queueTimeout queue) s = .next t ∧ t.queueOf queue.val = rest ∧ Sent s { p.answer (.refused 0x16) 0 0 [] with buf := true } t ∧ t.gcp.running = s.gcp.running) ∧
  (∀ (s : State), s.fget GCP_HOST.HOST_TO_S 0 ≠ 0 → s.timerDue tmHost 0 s.sec_ (s.fget GCP_HOST.HOST_TO_S 0) = true → ∃ t, exec .hostTimeout s = .next t ∧ t.timerOn tmHost 0 = false ∧ Tbl.get (fun _ => false) t.flt.drive 156 = true)

/-- Request packets that read and write: INFO, REG, TIME, IMAGE_SEG, TAP, CTX, TRACE, REC, CAP. A request that runs is answered with what it read, or with SERVED after what it wrote; a CTX_WRITE commits its staged words and waits for them. (derived from R315, R321, R323, R324, R333, R334, R340, R341) -/
def Obligations.PacketReadCommands : Prop :=
  (∀ (queue : Fin 9) (s : State) (p : Pkt), s.runningOf queue.val = some p → p.typ = 1 → p.started = false → s.lcStands p = true → p.payload = [] → ∃ t, exec (.info queue) s = .next t ∧ Answered s queue.val p .served (s.fget FHL_NODE.NODE_ID 0) 0 (beBytes 4 (s.member.part * 0x10000 + s.fget SYS_DEVICE_ID.STEPPING 0 * 256) ++ beBytes 4 (s.fget GCP_BOOT.BOOT 0) ++ beBytes 4 (s.fget GCP_SERIAL_HI.SERIAL 0) ++ beBytes 4 (s.fget GCP_SERIAL_LO.SERIAL 0)) t) ∧
  (∀ (queue : Fin 9) (s : State) (p : Pkt) (id : Ident), s.runningOf queue.val = some p → p.typ = 2 → p.started = false → s.lcStands p = true → p.who = some id → p.payload = [] → 0 < p.arg16 → p.arg16 ≤ 256 → s.fnState 0 = fnON → (regReads s id p).bad = none → (regReads s id p).s.runningOf queue.val = some p → ∃ t, exec (.regRead queue) s = .next t ∧ Answered (regReads s id p).s queue.val p .served 0 0 (regReads s id p).bytes t) ∧
  (∀ (queue : Fin 9) (s : State) (p : Pkt) (id : Ident) (x : Nat × Nat), s.runningOf queue.val = some p → p.typ = 2 → p.started = false → s.lcStands p = true → p.who = some id → p.payload = [] → 0 < p.arg16 → p.arg16 ≤ 256 → s.fnState 0 = fnON → (regReads s id p).bad = some x → (regReads s id p).s.runningOf queue.val = some p → ∃ t, exec (.regRead queue) s = .next t ∧ Answered (regReads s id p).s queue.val p (.refused x.2) x.1 0 (regReads s id p).bytes t) ∧
  (∀ (queue : Fin 9) (s : State) (p : Pkt) (id : Ident), s.runningOf queue.val = some p → p.typ = 3 → p.started = false → s.lcStands p = true → p.who = some id → p.payload.length % 8 = 0 → 0 < p.payload.length → p.payload.length ≤ 1024 → s.fnState 0 = fnON → (regWrites s id queue.val p).bad = none → (regWrites s id queue.val p).s.runningOf queue.val = some p → ∃ t, exec (.regWrite queue) s = .next t ∧ Answered (regWrites s id queue.val p).s queue.val p .served 0 0 (regWrites s id queue.val p).bytes t) ∧
  (∀ (queue : Fin 9) (s : State) (p : Pkt), s.runningOf queue.val = some p → p.typ = 4 → p.started = false → s.lcStands p = true → p.payload = [] → ∃ t, exec (.timeRead queue) s = .next t ∧ Answered s queue.val p .served 0 0 (beBytes 8 s.dt) t) ∧
  (∀ (queue : Fin 9) (s : State) (p : Pkt) (id : Ident), s.runningOf queue.val = some p → p.typ = 16 → p.started = false → s.lcStands p = true → p.payload ≠ [] → p.payload.length ≤ 1024 → s.running pgSCH = true → p.who = some id → s.slotState (p.arg16 % 2) = slotLOADING → s.loaderOf (p.arg16 % 2) = some id → p.arg32 % 1024 = 0 → p.arg32 + p.payload.length ≤ slotBytes → ∃ t, exec (.imageSeg queue) s = .next t ∧ Answered s queue.val p .served 0 0 [] t ∧ t.sch = (s.loadOp (p.arg16 % 2) (.bytes p.arg32 p.payload)).sch) ∧
  (∀ (queue : Fin 9) (s : State) (p : Pkt) (keys : List Nat), s.runningOf queue.val = some p → p.typ = 17 → p.started = false → s.lcStands p = true → p.payload = [] → s.tapRefusal p.arg16 = none → keys = (s.tapList p.arg16).drop p.arg32 → keys ≠ [] → s.fnState 2 = fnON → ∃ t, exec (.tapRead queue) s = .next t ∧ Answered s queue.val p .served 0 0 ((keys.take 128).flatMap fun k => (Tbl.get (fun _ => {}) s.can.taps k : Cplx).tapBytes) t) ∧
  (∀ (queue : Fin 9) (s : State) (p : Pkt) (id : Ident) (keys : List Nat), s.runningOf queue.val = some p → p.typ = 18 → p.started = false → s.lcStands p = true → p.payload ≠ [] → p.payload.length % 8 = 0 → p.payload.length ≤ 1024 → s.tapRefusal p.arg16 = none → p.who = some id → s.admitWrite (.engine id) pgCAN 0x44C = none → s.canState p.arg16 = canFROZEN → keys = (s.tapList p.arg16).drop p.arg32 → s.fnState 2 = fnON → (s.writeTaps p.payload 0 (keys.take (p.payload.length / 8))).2 = (p.payload.length / 8, none) → ∃ t, exec (.tapWrite queue) s = .next t ∧ Answered s queue.val p .served 0 0 [] t ∧ t.can.taps = (s.writeTaps p.payload 0 (keys.take (p.payload.length / 8))).1.can.taps) ∧
  (∀ (queue : Fin 9) (s : State) (p : Pkt) (id : Ident), s.runningOf queue.val = some p → p.typ = 19 → p.started = false → s.lcStands p = true → p.who = some id → p.payload = [] → (s.selectCtx (.engine id) p.arg16 true).lastReason (.engine id) = 0 → ∃ t, exec (.ctxRead queue) s = .next t ∧ Answered s queue.val p .served 0 0 ((List.range 64).flatMap fun k => beBytes 4 (s.cword p.arg16 k).toNat) t ∧ t.ctx = s.ctx) ∧
  (∀ (queue : Fin 9) (s : State) (p : Pkt) (id : Ident), s.runningOf queue.val = some p → p.typ = 20 → p.started = false → s.lcStands p = true → p.who = some id → p.payload.length % 4 = 0 → p.payload ≠ [] → p.arg32 + p.payload.length / 4 ≤ 64 → (s.selectCtx (.engine id) p.arg16 true).lastReason (.engine id) = 0 → (((s.selectCtx (.engine id) p.arg16 true).takeSnapshot (Init.engine id).holder).writeCtxWords (.engine id) p.arg32 p.payload 0 (p.payload.length / 4)).2 = none → ((((s.selectCtx (.engine id) p.arg16 true).takeSnapshot (Init.engine id).holder).writeCtxWords (.engine id) p.arg32 p.payload 0 (p.payload.length / 4)).1.commitWindow (.engine id)).lastReason (.engine id) = 0 → ∃ t, exec (.ctxWrite queue) s = .next t ∧ t.runningOf queue.val = some { p with started := true } ∧ t.gcp.out = s.gcp.out) ∧
  (∀ (queue : Fin 9) (s : State) (p : Pkt), s.runningOf queue.val = some p → p.typ = 80 → p.started = false → s.lcStands p = true → p.payload = [] → p.arg16 ≤ 15 → s.running pgCEN = true → s.fget CEN_TRC_STAT.STATE p.arg16 ≠ trARMED → s.fget CEN_TRC_STAT.STATE p.arg16 ≠ trTRIGGERED → ∃ t, exec (.traceRead queue) s = .next t ∧ Answered s queue.val p .served 0 0 (((List.range (min 256 ((s.traceCh p.arg16).samples.length - p.arg32))).map fun i => s.traceAt p.arg16 (p.arg32 + i)).flatMap fun w => beBytes 4 w.toNat) t) ∧
  (∀ (queue : Fin 9) (s : State) (p : Pkt), s.runningOf queue.val = some p → p.typ = 81 → p.started = false → s.lcStands p = true → p.payload = [] → s.running pgEVR = true → (s.evr.held.filter fun e => decide (p.arg32 ≤ e.1.seq)) ≠ [] → ∃ t, exec (.recRead queue) s = .next t ∧ Answered s queue.val p .served 0 0 (((s.evr.held.filter fun e => decide (p.arg32 ≤ e.1.seq)).take 32).flatMap fun e => e.1.encode e.2) t) ∧
  (∀ (queue : Fin 9) (s : State) (p : Pkt) (r : CapRecord), s.runningOf queue.val = some p → p.typ = 66 → p.started = false → s.lcStands p = true → p.payload = [] → s.capOther p = none → ((s.cap p.arg16).records.find? fun r => decide (r.off = p.arg32)) = some r → s.capStream p.arg16 = false → ∃ t, exec (.capRead queue) s = .next t ∧ Answered s queue.val p .served 0 0 (r.bytes p.arg16) t)

/-- Request packets that act: grid descriptors, beams, remote mute, FOX_CLEAR, captures. Grid packets with the credits for them push their descriptors and wait for the rows, and are answered at once where credits, targets or the path lack; a beam packet queues its timed writes, or is refused with its entry or delayed; REMOTE_MUTE, its release and FOX_CLEAR act on Foxglove and are answered SERVED; CAP_OPEN opens the lowest free session; CAP_CLOSE ends or frees one. (derived from R193, R194, R203, R246, R315, R322, R323, R335, R336, R339) -/
def Obligations.PacketActionCommands : Prop :=
  (∀ (queue : Fin 9) (s : State) (p : Pkt), s.runningOf queue.val = some p → p.typ = 0x20 → p.started = false → s.lcStands p = true → p.payload.getD 0 0 = 1 → p.payload.getD 1 0 ≤ 3 → p.payload.getD 4 0 ≤ 3 ∨ p.payload.getD 4 0 = 6 → 0 < p.payload.getD 5 0 → p.payload.getD 5 0 ≤ 126 → p.payload.length = 16 + 8 * p.payload.getD 5 0 → beValue ((p.payload.drop 6).take 2) ≤ 1023 → p.payload.getD 8 0 < slotsOf (p.payload.getD 4 0 % 4) → beValue ((p.payload.drop 2).take 2) ≠ 0xFFFF → (p.payload.drop 9).take 7 = List.replicate 7 0 → s.fnState 4 = fnON → (gridScYield s queue.val p).descs ≠ [] → (gridScYield s queue.val p).descs.length ≤ s.gridCredits wrSIDE → ∃ t, exec (.gridSc queue) s = .next t ∧ t.runningOf queue.val = some { p with started := true } ∧ t.gridQueue wrSIDE = s.gridQueue wrSIDE ++ (gridScYield s queue.val p).descs ∧ (t.gridSum queue.val).left = (gridScYield s queue.val p).descs.length ∧ t.gcp.out = s.gcp.out) ∧
  (∀ (queue : Fin 9) (s : State) (p : Pkt), s.runningOf queue.val = some p → p.typ = 0x20 → p.started = false → s.lcStands p = true → p.payload.getD 0 0 = 1 → p.payload.getD 1 0 ≤ 3 → p.payload.getD 4 0 ≤ 3 ∨ p.payload.getD 4 0 = 6 → 0 < p.payload.getD 5 0 → p.payload.getD 5 0 ≤ 126 → p.payload.length = 16 + 8 * p.payload.getD 5 0 → beValue ((p.payload.drop 6).take 2) ≤ 1023 → p.payload.getD 8 0 < slotsOf (p.payload.getD 4 0 % 4) → beValue ((p.payload.drop 2).take 2) ≠ 0xFFFF → (p.payload.drop 9).take 7 = List.replicate 7 0 → s.gridCredits wrSIDE < (gridScYield s queue.val p).descs.length → ∃ t, exec (.gridSc queue) s = .next t ∧ Answered s queue.val p (.delayed 1) 0 (s.fget GCP_TIME.RETRY_BASE_US 0) [] t ∧ t.ggr = s.ggr) ∧
  (∀ (queue : Fin 9) (s : State) (p : Pkt), s.runningOf queue.val = some p → p.typ = 0x20 → p.started = false → s.lcStands p = true → p.payload.getD 0 0 = 1 → p.payload.getD 1 0 ≤ 3 → p.payload.getD 4 0 ≤ 3 ∨ p.payload.getD 4 0 = 6 → 0 < p.payload.getD 5 0 → p.payload.getD 5 0 ≤ 126 → p.payload.length = 16 + 8 * p.payload.getD 5 0 → beValue ((p.payload.drop 6).take 2) ≤ 1023 → p.payload.getD 8 0 < slotsOf (p.payload.getD 4 0 % 4) → beValue ((p.payload.drop 2).take 2) ≠ 0xFFFF → (p.payload.drop 9).take 7 = List.replicate 7 0 → (gridScYield s queue.val p).descs = [] → (gridScYield s queue.val p).sum.status = 0 → ∃ t, exec (.gridSc queue) s = .next t ∧ Answered s queue.val p (.refused 0x27) 0 0 ({ status := 7 } : GridSum).payload t ∧ t.ggr = s.ggr) ∧
  (∀ (queue : Fin 9) (s : State) (p : Pkt), s.runningOf queue.val = some p → p.typ = 0x20 ∨ p.typ = 0x21 → p.started = false → s.lcStands p = true → p.payload = [] → ∃ t, exec (.gridSc queue) s = .next t ∧ (p.typ = 0x20 → Answered s queue.val p (.refused 0x11) 0 0 [] t) ∧ (p.typ ≠ 0x20 → t = s)) ∧
  (∀ (queue : Fin 9) (s : State) (p : Pkt), s.runningOf queue.val = some p → p.typ = 0x21 → p.started = false → s.lcStands p = true → p.payload.getD 0 0 = 1 → 0 < p.payload.getD 1 0 → p.payload.getD 1 0 ≤ 63 → p.payload.getD 2 0 = 0 → p.payload.getD 3 0 = 0 → p.payload.length = 4 + 16 * p.payload.getD 1 0 → ((entriesOf 16 (p.payload.drop 4) (p.payload.getD 1 0)).any fun e => decide (e.getD 1 0 < 32) && !s.member.present (e.getD 1 0)) = false → s.fnState 4 = fnON → (gridWrYield s queue.val p).descs ≠ [] → (gridWrYield s queue.val p).descs.length ≤ s.gridCredits wrHOST → ∃ t, exec (.gridWr queue) s = .next t ∧ t.runningOf queue.val = some { p with started := true } ∧ t.gridQueue wrHOST = s.gridQueue wrHOST ++ (gridWrYield s queue.val p).descs ∧ (t.gridSum queue.val).left = (gridWrYield s queue.val p).descs.length ∧ t.gcp.out = s.gcp.out) ∧
  (∀ (queue : Fin 9) (s : State) (p : Pkt), s.runningOf queue.val = some p → p.typ = 0x21 → p.started = false → s.lcStands p = true → p.payload.getD 0 0 = 1 → 0 < p.payload.getD 1 0 → p.payload.getD 1 0 ≤ 63 → p.payload.getD 2 0 = 0 → p.payload.getD 3 0 = 0 → p.payload.length = 4 + 16 * p.payload.getD 1 0 → ((entriesOf 16 (p.payload.drop 4) (p.payload.getD 1 0)).any fun e => decide (e.getD 1 0 < 32) && !s.member.present (e.getD 1 0)) = false → s.gridCredits wrHOST < (gridWrYield s queue.val p).descs.length → ∃ t, exec (.gridWr queue) s = .next t ∧ Answered s queue.val p (.delayed 1) 0 (s.fget GCP_TIME.RETRY_BASE_US 0) [] t ∧ t.ggr = s.ggr) ∧
  (∀ (queue : Fin 9) (s : State) (p : Pkt), s.runningOf queue.val = some p → p.typ = 0x21 → p.started = false → s.lcStands p = true → p.payload.getD 0 0 = 1 → 0 < p.payload.getD 1 0 → p.payload.getD 1 0 ≤ 63 → p.payload.getD 2 0 = 0 → p.payload.getD 3 0 = 0 → p.payload.length = 4 + 16 * p.payload.getD 1 0 → ((entriesOf 16 (p.payload.drop 4) (p.payload.getD 1 0)).any fun e => decide (e.getD 1 0 < 32) && !s.member.present (e.getD 1 0)) = true → ∃ t, exec (.gridWr queue) s = .next t ∧ Answered s queue.val p (.refused Reason.unitAbsent.code) 0 0 [] t ∧ t.ggr = s.ggr) ∧
  (∀ (queue : Fin 9) (s : State) (p : Pkt), s.runningOf queue.val = some p → p.typ = 0x22 → p.started = false → s.lcStands p = true → 0 < p.payload.headD 0 → p.payload.headD 0 ≤ 84 → p.payload.length = 4 + 12 * p.payload.headD 0 → beValue ((p.payload.drop 1).take 3) = 0 → s.running pgFEL = true → s.fnState 5 = fnON → (beamRuns s p).full = false → (beamRuns s p).bad = none → ∃ t, exec (.beam queue) s = .next t ∧ Answered (beamRuns s p).s queue.val p .served 0 0 [] t ∧ t.fel = (beamRuns s p).s.fel) ∧
  (∀ (queue : Fin 9) (s : State) (p : Pkt) (x : Nat × Nat), s.runningOf queue.val = some p → p.typ = 0x22 → p.started = false → s.lcStands p = true → 0 < p.payload.headD 0 → p.payload.headD 0 ≤ 84 → p.payload.length = 4 + 12 * p.payload.headD 0 → beValue ((p.payload.drop 1).take 3) = 0 → s.running pgFEL = true → s.fnState 5 = fnON → (beamRuns s p).full = false → (beamRuns s p).bad = some x → ∃ t, exec (.beam queue) s = .next t ∧ Answered (beamRuns s p).s queue.val p (.refused x.2) x.1 0 [] t ∧ t.fel = (beamRuns s p).s.fel) ∧
  (∀ (queue : Fin 9) (s : State) (p : Pkt), s.runningOf queue.val = some p → p.typ = 0x22 → p.started = false → s.lcStands p = true → 0 < p.payload.headD 0 → p.payload.headD 0 ≤ 84 → p.payload.length = 4 + 12 * p.payload.headD 0 → beValue ((p.payload.drop 1).take 3) = 0 → s.running pgFEL = true → s.fnState 5 = fnON → (beamRuns s p).full = true → ∃ t, exec (.beam queue) s = .next t ∧ Answered s queue.val p (.delayed 1) 0 (s.fget GCP_TIME.RETRY_BASE_US 0) [] t ∧ t.fel = s.fel) ∧
  (∀ (queue : Fin 9) (s : State) (p : Pkt) (d : Fin 16), s.runningOf queue.val = some p → p.typ = 0x30 → p.started = false → s.lcStands p = true → p.payload = [] → p.arg16 = 0 → p.ident = d.val → s.running pgNPR = true → ∃ t, exec (.remoteMute queue) s = .next t ∧ Answered s queue.val p .served 0 0 [] t ∧ t.npr = (s.foxTrigger (.remote d)).npr) ∧
  (∀ (queue : Fin 9) (s : State) (p : Pkt) (d : Fin 16), s.runningOf queue.val = some p → p.typ = 0x30 → p.started = false → s.lcStands p = true → p.payload = [] → p.arg16 = 1 → p.ident = d.val → s.running pgNPR = true → ∃ t, exec (.remoteMuteClear queue) s = .next t ∧ Answered s queue.val p .served 0 0 [] t ∧ t.npr = (s.remoteClear d.val).npr) ∧
  (∀ (queue : Fin 9) (s : State) (p : Pkt) (id : Ident), s.runningOf queue.val = some p → p.typ = 0x31 → p.started = false → s.lcStands p = true → p.payload = [] → p.who = some id → p.arg16 ≤ 15 → s.running pgNPR = true → s.mayClear p.arg16 id = true → s.foxState p.arg16 = foxLATCHED → s.foxRetryOk p.arg16 = false → ∃ t, exec (.foxClear queue) s = .next t ∧ Answered s queue.val p .served 0 0 [] t ∧ t.fon NPR_FOX_STAT.CLEAR_PENDING p.arg16 = true ∧ t.foxState p.arg16 = foxLATCHED) ∧
  (∀ (queue : Fin 9) (slotOk : Bool) (s : State) (p : Pkt) (id : Ident) (n : Nat), s.runningOf queue.val = some p → p.typ = 0x40 → p.started = false → s.lcStands p = true → p.payload.length = 24 → s.running pgCAP = true → p.who = some id → s.capRefusal p id slotOk = none → ((List.range 16).find? fun n => decide (s.capSt n = capFREE)) = some n → ∃ t, exec (.capOpen queue slotOk) s = .next t ∧ Answered s queue.val p .served n 0 [] t ∧ t.capSt n = capWAITING ∧ t.fget CAP_SSTAT.OWNER n = id.code ∧ t.fget CAP_SSTAT.TAP n = capField p 0 1 % 16 ∧ (t.cap n).bufKib = capField p 4 2 ∧ (t.cap n).records = []) ∧
  (∀ (queue : Fin 9) (s : State) (p : Pkt), s.runningOf queue.val = some p → p.typ = 0x41 → p.started = false → s.lcStands p = true → p.payload = [] → s.capOther p = none → s.capSt p.arg16 = capENDED → s.capStream p.arg16 = false → ∃ t, exec (.capClose queue) s = .next t ∧ Answered s queue.val p .served 0 0 [] t ∧ t.capSt p.arg16 = capFREE ∧ t.cap p.arg16 = {}) ∧
  (∀ (queue : Fin 9) (s : State) (p : Pkt), s.runningOf queue.val = some p → p.typ = 0x41 → p.started = false → s.lcStands p = true → p.payload = [] → s.capOther p = none → s.capSt p.arg16 = capRUNNING → s.capStream p.arg16 = false → ∃ t, exec (.capClose queue) s = .next t ∧ Answered s queue.val p .served 0 0 [] t ∧ t.capSt p.arg16 = capENDED ∧ t.fget CAP_SSTAT.END p.arg16 = 1)

/-- Reports, streamed records, functions, and a capture session from its start to its end. The oldest report leaves the queue, and with a buffer and a route takes the next SEQ, without them is dropped and counted; a disabled function drains, then is OFF or, where an enable was held, ON; a session starts, stores records while there is room, and ends or is freed. (derived from R313, R317, R333, R336, R337, R338, R339, R340) -/
def Obligations.ReportAndCaptureCommands : Prop :=
  (∀ (s : State) (r : Report) (rest : List Report) (x : Nat × Nat), s.works pgGCP = true → s.reports = r :: rest → s.canAlloc 9 = true → s.reportTo r.ident = some x → ∃ t, exec .report s = .next t ∧ Tbl.get (fun _ => 0) t.gcp.reportSeq r.ident = (Tbl.get (fun _ => 0) s.gcp.reportSeq r.ident + 1) % 2 ^ 32 ∧ (t.gcp.out.length = s.gcp.out.length + 1 ∨ t.gcp.out = s.gcp.out) ∧ t.reports = rest) ∧
  (∀ (s : State) (r : Report) (rest : List Report), s.works pgGCP = true → s.reports = r :: rest → s.canAlloc 9 = false ∨ s.reportTo r.ident = none → ∃ t, exec .report s = .next t ∧ t.gcp.out = s.gcp.out ∧ t.fget GCP_DROP_CNT.REPORT_DROP 0 = min (s.fget GCP_DROP_CNT.REPORT_DROP 0 + 1) (fieldSize GCP_DROP_CNT.REPORT_DROP.hi GCP_DROP_CNT.REPORT_DROP.lo - 1)) ∧
  (∀ (s : State), s.works pgGCP = false ∨ s.reports = [] → ∃ t, exec .report s = .next t ∧ t = s) ∧
  (∀ (session : Fin 16) (s : State) (r : CapRecord) (rest : List CapRecord), s.works pgCAP = true → (s.cap session.val).records = r :: rest → rest ≠ [] ∨ s.capSt session.val ≠ capENDED → s.capStream session.val = true → s.canAlloc 9 = true → ∃ t, exec (.capData session) s = .next t ∧ (t.cap session.val).records = rest ∧ Tbl.get (fun _ => 0) t.gcp.reportSeq (s.fget CAP_SSTAT.OWNER session.val) = (Tbl.get (fun _ => 0) s.gcp.reportSeq (s.fget CAP_SSTAT.OWNER session.val) + 1) % 2 ^ 32) ∧
  (∀ (session : Fin 16) (s : State) (r : CapRecord), s.works pgCAP = true → (s.cap session.val).records = [r] → s.capSt session.val = capENDED → s.capStream session.val = true → s.canAlloc 9 = true → ∃ t, exec (.capData session) s = .next t ∧ t.capSt session.val = capFREE ∧ t.cap session.val = {} ∧ t.fget CAP_FREE.FREE_KIB 0 = (s.fget CAP_FREE.FREE_KIB 0 + (s.cap session.val).bufKib) % fieldSize CAP_FREE.FREE_KIB.hi CAP_FREE.FREE_KIB.lo) ∧
  (∀ (session : Fin 16) (s : State) (r : CapRecord) (x : CapRecord) (rest : List CapRecord), s.works pgCAP = true → (s.cap session.val).records = r :: x :: rest → s.capStream session.val = true → s.canAlloc 9 = false → ∃ t, exec (.capData session) s = .next t ∧ (t.cap session.val).records = { x with flags := x.flags ||| 1 ||| (r.flags &&& 10) } :: rest ∧ t.fget CAP_SDROP.DROP session.val = min (s.fget CAP_SDROP.DROP session.val + 1) (fieldSize CAP_SDROP.DROP.hi CAP_SDROP.DROP.lo - 1) ∧ t.gcp.out = s.gcp.out) ∧
  (∀ (session : Fin 16) (s : State), s.works pgCAP = false ∨ (s.cap session.val).records = [] ∨ s.capStream session.val = false → ∃ t, exec (.capData session) s = .next t ∧ t = s) ∧
  (∀ (who : Init) (fn : Fin 8) (s : State), Admitted s who pgGCP 0x040 → s.fnState fn.val = fnON → ∃ t, exec (.fnDisable who fn) s = .next t ∧ Took t who ∧ t.fnState fn.val = fnDRAINING ∧ t.fbit GCP_FN_EN.FN_EN 0 fn.val = false) ∧
  (∀ (who : Init) (fn : Fin 8) (s : State), Admitted s who pgGCP 0x040 → s.fnState fn.val = fnOFF → ∃ t, exec (.fnEnable who fn) s = .next t ∧ Took t who ∧ t.fnState fn.val = fnON ∧ t.fbit GCP_FN_EN.FN_EN 0 fn.val = true) ∧
  (∀ (who : Init) (fn : Fin 8) (s : State), Admitted s who pgGCP 0x040 → s.fnState fn.val = fnDRAINING → ∃ t, exec (.fnEnable who fn) s = .next t ∧ Took t who ∧ t.fnState fn.val = fnDRAINING ∧ t.fbit GCP_FN_EN.FN_EN 0 fn.val = true ∧ t.gcp.heldFn.testBit fn.val = true) ∧
  (∀ (fn : Fin 8) (s : State), s.fnState fn.val ≠ fnDRAINING ∨ s.fnBusy fn.val = true → ∃ t, exec (.fnDrained fn) s = .next t ∧ t = s) ∧
  (∀ (fn : Fin 8) (s : State), s.fnState fn.val = fnDRAINING → s.fnBusy fn.val = false → s.gcp.heldFn.testBit fn.val = false → ∃ t, exec (.fnDrained fn) s = .next t ∧ t.fnState fn.val = fnOFF ∧ t.gcp = s.gcp) ∧
  (∀ (fn : Fin 8) (s : State), s.fnState fn.val = fnDRAINING → s.fnBusy fn.val = false → s.gcp.heldFn.testBit fn.val = true → ∃ t, exec (.fnDrained fn) s = .next t ∧ t.fnState fn.val = fnON ∧ t.gcp.heldFn.testBit fn.val = false) ∧
  (∀ (session : Fin 16) (s : State), s.works pgCAP = true → s.capSt session.val = capWAITING → ∃ t, exec (.capSessionStart session) s = .next t ∧ t.capSt session.val = capRUNNING ∧ s.dt ≤ t.dt ∧ t.gcp.caps = s.gcp.caps) ∧
  (∀ (session : Fin 16) (s : State), s.capSt session.val ≠ capWAITING ∨ s.works pgCAP = false → ∃ t, exec (.capSessionStart session) s = .next t ∧ t = s) ∧
  (∀ (session : Fin 16) (first : BitVec 64) (samples : List (BitVec 32)) (queueFull : Bool) (s : State) (data : List Nat), s.works pgCAP = true → s.capSt session.val = capRUNNING → s.tapInUse (s.fget CAP_SSTAT.TAP session.val) (s.fget CAP_SSTAT.QUAL session.val) = true → queueFull = false → data = ((samples.take 252).flatMap fun w => beBytes 4 w.toNat).take (s.cap session.val).left → data ≠ [] → (s.cap session.val).left ≤ data.length → (s.cap session.val).length = 0 → (s.cap session.val).records.length + 1 < (s.cap session.val).room → ∃ t, exec (.captureRecord session first samples queueFull) s = .next t ∧ t.capSt session.val = capRUNNING ∧ (t.cap session.val).taken = (s.cap session.val).taken + data.length ∧ (t.cap session.val).records = (s.cap session.val).records ++ [⟨s.fget CAP_SOFF_HI.OFFSET session.val * 2 ^ 32 + s.fget CAP_SOFF_LO.OFFSET session.val, (s.cap session.val).flags, first.toNat, data⟩]) ∧
  (∀ (session : Fin 16) (first : BitVec 64) (samples : List (BitVec 32)) (queueFull : Bool) (s : State) (data : List Nat), s.works pgCAP = true → s.capSt session.val = capRUNNING → s.tapInUse (s.fget CAP_SSTAT.TAP session.val) (s.fget CAP_SSTAT.QUAL session.val) = true → queueFull = true ∨ (s.cap session.val).room ≤ (s.cap session.val).records.length → s.capStream session.val = true → data = ((samples.take 252).flatMap fun w => beBytes 4 w.toNat).take (s.cap session.val).left → data ≠ [] → (s.cap session.val).left ≤ data.length → (s.cap session.val).length = 0 → ∃ t, exec (.captureRecord session first samples queueFull) s = .next t ∧ t.capSt session.val = capRUNNING ∧ (t.cap session.val).taken = (s.cap session.val).taken + data.length ∧ (t.cap session.val).records = (s.cap session.val).records ∧ (t.cap session.val).gap = true ∧ t.fget CAP_SDROP.DROP session.val = min (s.fget CAP_SDROP.DROP session.val + 1) (fieldSize CAP_SDROP.DROP.hi CAP_SDROP.DROP.lo - 1)) ∧
  (∀ (session : Fin 16) (first : BitVec 64) (samples : List (BitVec 32)) (queueFull : Bool) (s : State), s.works pgCAP = true → s.capSt session.val = capRUNNING → (s.cap session.val).left ≠ 0 → (s.cap session.val).left ≤ (((samples.take 252).flatMap fun w => beBytes 4 w.toNat).take (s.cap session.val).left).length → s.tapInUse (s.fget CAP_SSTAT.TAP session.val) (s.fget CAP_SSTAT.QUAL session.val) = false → s.capStream session.val = false → ∃ t, exec (.captureRecord session first samples queueFull) s = .next t ∧ t.capSt session.val = capENDED ∧ t.fget CAP_SSTAT.END session.val = 4) ∧
  (∀ (session : Fin 16) (first : BitVec 64) (samples : List (BitVec 32)) (queueFull : Bool) (s : State), s.works pgCAP = false ∨ s.capSt session.val ≠ capRUNNING → ∃ t, exec (.captureRecord session first samples queueFull) s = .next t ∧ t = s) ∧
  (∀ (session : Fin 16) (first : BitVec 64) (samples : List (BitVec 32)) (queueFull : Bool) (s : State), (((samples.take 252).flatMap fun w => beBytes 4 w.toNat).take (s.cap session.val).left).length < (s.cap session.val).left → ∃ t, exec (.captureRecord session first samples queueFull) s = .next t ∧ t = s) ∧
  (∀ (session : Fin 16) (first : BitVec 64) (samples : List (BitVec 32)) (queueFull : Bool) (s : State) (data : List Nat), s.works pgCAP = true → s.capSt session.val = capRUNNING → s.tapInUse (s.fget CAP_SSTAT.TAP session.val) (s.fget CAP_SSTAT.QUAL session.val) = true → queueFull = false → data = ((samples.take 252).flatMap fun w => beBytes 4 w.toNat).take (s.cap session.val).left → data ≠ [] → (s.cap session.val).length ≠ 0 → (s.cap session.val).length - (s.cap session.val).taken ≤ recordBytes → (s.cap session.val).left ≤ data.length → (s.cap session.val).records.length + 1 < (s.cap session.val).room → ∃ t, exec (.captureRecord session first samples queueFull) s = .next t ∧ t.capSt session.val = capENDED ∧ t.fget CAP_SSTAT.END session.val = 2 ∧ (t.cap session.val).taken = (s.cap session.val).length) ∧
  (∀ (who : Init) (s : State), Admitted s who pgCAP 0x05C → s.identOf who = some .integrator → s.capSt (s.fget CAP_SSEL.SESSION who.holder) = capENDED → s.capStream (s.fget CAP_SSEL.SESSION who.holder) = false → ∃ t, exec (.capScmdClose who) s = .next t ∧ Took t who ∧ t.capSt (s.fget CAP_SSEL.SESSION who.holder) = capFREE ∧ t.cap (s.fget CAP_SSEL.SESSION who.holder) = {}) ∧
  (∀ (session : Fin 16) (s : State) (m : Nat), (s.cap session.val).lost = some m → s.capLost session.val = true → m + 1000 ≤ s.ms → s.capSt session.val = capRUNNING → s.capStream session.val = false → ∃ t, exec (.capDestTimeout session) s = .next t ∧ t.capSt session.val = capENDED ∧ t.fget CAP_SSTAT.END session.val = 6)

/-- Faults: rises, windows, escalation, acknowledge, forced faults, configuration, SAFE, healthy. A taken rise sets the sticky bit and counts, or makes the source severe at its first rung; an escalation climbs to the next rung; an acknowledge ends a severe fault; forced and split faults show in the tests' registers; a failed self-check enters SAFE. (derived from R348, R349, R350, R352, R353, R354, R355, R356, R357, R358, R359) -/
def Obligations.FaultCollectorCommands : Prop :=
  (∀ (src : Fin 160) (s : State), s.running pgFLT = true → Tbl.get (fun _ => false) s.flt.risen src.val = true → s.isSevere src.val = false → s.fget FLT_SSTAT.CNT src.val + 1 < s.fget FLT_SCFG.N src.val → ∃ t, exec (.faultRise src) s = .next t ∧ t.fbit FLT_STICKY.STICKY (src.val / 32) (src.val % 32) = true ∧ t.fget FLT_SSTAT.CNT src.val = min 255 (s.fget FLT_SSTAT.CNT src.val + 1) ∧ t.isSevere src.val = false ∧ Tbl.get (fun _ => false) t.flt.risen src.val = false) ∧
  (∀ (src : Fin 160) (s : State), s.running pgFLT = true → Tbl.get (fun _ => false) s.flt.risen src.val = true → s.isSevere src.val = false → s.fget FLT_SCFG.N src.val ≤ s.fget FLT_SSTAT.CNT src.val + 1 → s.fget FLT_SREACT.FIRST src.val ≤ 2 → ∃ t, exec (.faultRise src) s = .next t ∧ t.fbit FLT_STICKY.STICKY (src.val / 32) (src.val % 32) = true ∧ t.isSevere src.val = true ∧ t.fget FLT_SSTAT.RUNG src.val = s.fget FLT_SREACT.FIRST src.val ∧ t.fget FLT_STAT.LAST_SRC 0 = src.val) ∧
  (∀ (src : Fin 160) (stands : Bool) (s : State), s.running pgFLT = true → Tbl.get (fun _ => false) s.flt.dual src.val = false → stands = true → ∃ t, exec (.dualPolarityConfirmed src stands) s = .next t ∧ Tbl.get (fun _ => false) t.flt.dual src.val = true ∧ t.fget FLT_DUAL.SRC 0 = src.val ∧ t.fget FLT_DUAL.COUNT 0 = min (s.fget FLT_DUAL.COUNT 0 + 1) (fieldSize FLT_DUAL.COUNT.hi FLT_DUAL.COUNT.lo - 1)) ∧
  (∀ (src : Fin 160) (s : State), s.isSevere src.val = false → Tbl.get (fun _ => 0) s.flt.winEnd src.val ≤ s.ms → ∃ t, exec (.faultWindowExpired src) s = .next t ∧ t.fget FLT_SSTAT.CNT src.val = 0 ∧ t.flt = s.flt) ∧
  (∀ (src : Fin 160) (s : State) (r : Nat), s.running pgFLT = true → s.isSevere src.val = true → s.fget FLT_SSTAT.ESC_LEFT src.val = 0 → s.nextRung src.val = some r → r ≤ 2 → ∃ t, exec (.faultEscalation src) s = .next t ∧ t.fget FLT_SSTAT.RUNG src.val = r ∧ t.fget FLT_SSTAT.ESC_LEFT src.val = s.fget FLT_SREACT.ESC_MS src.val ∧ t.isSevere src.val = true) ∧
  (∀ (src : Fin 160) (s : State), s.running pgFLT = true → s.isSevere src.val = true → s.fget FLT_SSTAT.ESC_LEFT src.val = 0 → s.nextRung src.val = some 5 → s.fon FLT_TEST.CAP 0 = false → s.fon FLT_STAT.SAFE 0 = false → ∃ t, exec (.faultEscalation src) s = .next t ∧ t.fon FLT_STAT.SAFE 0 = true ∧ t.fget FLT_SAFE_CAUSE.CAUSE 0 = 1 ∧ t.fget FLT_SAFE_CAUSE.SRC 0 = src.val ∧ t.flt.hardMute = true) ∧
  (∀ (who : Init) (src : Fin 256) (s : State), Admitted s who pgFLT 0x058 → src.val ≤ 159 → s.isSevere src.val = true → ∃ t, exec (.faultAck who src) s = .next t ∧ Took t who ∧ t.isSevere src.val = false ∧ t.fget FLT_SSTAT.CNT src.val = 0 ∧ t.fget FLT_SSTAT.RUNG src.val = s.fget FLT_SSTAT.RUNG src.val ∧ t.fget FLT_SSTAT.ESC_LEFT src.val = 0) ∧
  (∀ (who : Init) (group : Fin 5) (bits : Word) (s : State) (n : Fin 32), Admitted s who pgFLT (0x408 + 4 * group.val) → bits.toNat.testBit n.val = true → s.fon FLT_TEST.CAP 0 = true → ∃ t, exec (.faultForce who group bits) s = .next t ∧ Took t who ∧ t.fbit FLT_STICKY.STICKY group.val n.val = true) ∧
  (∀ (who : Init) (cap : Bool) (src : Fin 256) (s : State), Admitted s who pgFLT 0x420 → src.val ≤ 159 → cap = true → ∃ t, exec (.faultSplit who cap src) s = .next t ∧ Took t who ∧ t.fget FLT_TEST.SRC 0 = src.val ∧ t.fon FLT_TEST.CAP 0 = true ∧ t.fget FLT_DUAL.SRC 0 = src.val ∧ t.fget FLT_DUAL.COUNT 0 = min (s.fget FLT_DUAL.COUNT 0 + 1) (fieldSize FLT_DUAL.COUNT.hi FLT_DUAL.COUNT.lo - 1)) ∧
  (∀ (who : Init) (react : Bool) (value : Word) (s : State), react = false → Admitted s who pgFLT 0x04C → (regAt pgFLT 0x04C).all (fun r => rangesOk pgFLT 0x04C (r.merge (s.word (scfgKey (s.fget FLT_SEL.SRC who.holder))) value)) = true → s.isSevere (s.fget FLT_SEL.SRC who.holder) = false → ∃ t, exec (.faultConfigWrite who react value) s = .next t ∧ Took t who ∧ t.fget FLT_SCFG.N (s.fget FLT_SEL.SRC who.holder) = bitsOf value 31 24 ∧ t.fget FLT_SCFG.WIN_MS (s.fget FLT_SEL.SRC who.holder) = bitsOf value 13 0) ∧
  (∀ (who : Init) (react : Bool) (value : Word) (s : State), react = true → Admitted s who pgFLT 0x050 → reactOk value = true → (regAt pgFLT 0x050).all (fun r => rangesOk pgFLT 0x050 (r.merge (s.word (sreactKey (s.fget FLT_SEL.SRC who.holder))) value)) = true → s.isSevere (s.fget FLT_SEL.SRC who.holder) = true → ∃ t, exec (.faultConfigWrite who react value) s = .next t ∧ Took t who ∧ Tbl.get (fun _ => none) t.flt.heldReact (s.fget FLT_SEL.SRC who.holder) = some value ∧ t.word (sreactKey (s.fget FLT_SEL.SRC who.holder)) = s.word (sreactKey (s.fget FLT_SEL.SRC who.holder))) ∧
  (∀ (s : State), s.running pgFLT = true → s.fon FLT_STAT.SAFE 0 = false → ∃ t, exec .collectorSelfcheckFail s = .next t ∧ t.fon FLT_STAT.SAFE 0 = true ∧ t.fon FLT_STAT.HEALTHY 0 = false ∧ t.fget FLT_SAFE_CAUSE.CAUSE 0 = 3 ∧ t.flt.hardMute = true ∧ t.flt.padOverride = true) ∧
  (∀ (who : Init) (s : State), Admits (fun u => u.healthyAdmit who) s who pgFLT 0x044 → s.mayHeal = true → ∃ t, exec (.errHealthyWrite who) s = .next t ∧ Took t who ∧ t.fon FLT_STAT.HEALTHY 0 = true ∧ t.flt.hardMute = s.hk.thmMute ∧ t.flt.padOverride = s.hk.thmMute) ∧
  (∀ (who : Init) (s : State), Admitted s who pgFLT 0x060 → ∃ t, exec (.safeCauseClear who) s = .next t ∧ Took t who ∧ t.fget FLT_SAFE_CAUSE.CAUSE 0 = 0 ∧ t.fget FLT_SAFE_CAUSE.SRC 0 = 0 ∧ t.fget FLT_SAFE_DT_LO.DT 0 = 0 ∧ t.fon FLT_STAT.SAFE 0 = s.fon FLT_STAT.SAFE 0)

/-- Event recorder: posts, intake, epochs, segments, flush, read-out, clear. A post joins the intake queue or is dropped with a gap; intake stages the oldest record with the next SEQ; an epoch is marked; the oldest full segment commits when the energy check admits it; a clear empties the stage and then the log. (derived from R365, R366, R367, R368, R369, R370, R371, R372) -/
def Obligations.EventRecorderCommands : Prop :=
  (∀ (code : Nat) (p0 : Nat) (p1 : Nat) (p2 : Nat) (s : State), s.evr.intake.length < 64 → s.fon EVR_STAT.FULL 0 = false → s.fon EVR_STAT.PF_CLOSED 0 = false → ∃ t, exec (.recordPost code p0 p1 p2) s = .next t ∧ t.evr.intake = s.evr.intake ++ [{ code := code, p0 := p0 % 2 ^ 32, p1 := p1 % 2 ^ 32, p2 := p2 % 2 ^ 16, dt := s.dt, gap := s.evr.gapNext }] ∧ t.evr.gapNext = false ∧ t.regs = s.regs) ∧
  (∀ (code : Nat) (p0 : Nat) (p1 : Nat) (p2 : Nat) (s : State), 64 ≤ s.evr.intake.length ∨ s.fon EVR_STAT.FULL 0 = true ∨ s.fon EVR_STAT.PF_CLOSED 0 = true → ∃ t, exec (.recordPost code p0 p1 p2) s = .next t ∧ t.evr.intake = s.evr.intake ∧ t.evr.gapNext = true ∧ t.fget EVR_DROP.DROPPED 0 = min (s.fget EVR_DROP.DROPPED 0 + 1) (fieldSize EVR_DROP.DROPPED.hi EVR_DROP.DROPPED.lo - 1)) ∧
  (∀ (s : State) (r : Rec) (rest : List Rec), s.running pgEVR = true → s.fon PAGE_CTRL.ENABLE pgEVR = true → s.recorderTakes = true → s.evr.intake = r :: rest → s.fon EVR_STAT.FULL 0 = false → s.evr.openSeg = [] → ∃ t, exec .recordIntake s = .next t ∧ t.evr.intake = rest ∧ t.fget EVR_SEQ.SEQ 0 = (s.fget EVR_SEQ.SEQ 0 + 1) % 2 ^ 32 ∧ t.evr.openSeg = [{ r with time := recorderTime r.dt % 2 ^ 40, epoch := s.epochAt (recorderTime r.dt) % 2 ^ 16, seq := s.fget EVR_SEQ.SEQ 0 }] ∧ t.evr.log = s.evr.log) ∧
  (∀ (s : State) (r : Rec) (rest : List Rec), s.running pgEVR = true → s.fon PAGE_CTRL.ENABLE pgEVR = true → s.recorderTakes = true → s.evr.intake = r :: rest → s.fon EVR_STAT.FULL 0 = true → ∃ t, exec .recordIntake s = .next t ∧ t.evr.intake = rest ∧ t.evr.gapNext = true ∧ t.evr.openSeg = s.evr.openSeg ∧ t.fget EVR_DROP.DROPPED 0 = min (s.fget EVR_DROP.DROPPED 0 + 1) (fieldSize EVR_DROP.DROPPED.hi EVR_DROP.DROPPED.lo - 1)) ∧
  (∀ (s : State), s.running pgEVR = false ∨ s.fon PAGE_CTRL.ENABLE pgEVR = false ∨ s.fon EVR_STAT.CLEARING 0 = true ∨ s.evr.intake = [] → ∃ t, exec .recordIntake s = .next t ∧ t = s) ∧
  (∀ (s : State), s.evr.lastEpoch < s.epochAt (recorderTime s.dt) → ∃ t, exec .recorderEpochWrap s = .next t ∧ t.evr.lastEpoch = s.epochAt (recorderTime s.dt) ∧ t.fget EVR_EPOCH.E 0 = s.epochAt (recorderTime s.dt) % 2 ^ 32 ∧ t.dt = s.dt) ∧
  (∀ (s : State), s.epochAt (recorderTime s.dt) ≤ s.evr.lastEpoch → ∃ t, exec .recorderEpochWrap s = .next t ∧ t.evr.lastEpoch = s.evr.epochBase + (recorderTime s.dt / 2 ^ 40 + 1) ∧ s.dt ≤ t.dt) ∧
  (∀ (s : State) (seg : List Rec) (rest : List (List Rec)), s.evr.fullSegs = seg :: rest → s.nva.running = none → s.admits (.segment seg) = true → ∃ t, exec .segmentCommit s = .next t ∧ t.evr.fullSegs = rest ∧ t.evr.log = s.evr.log ++ [seg] ∧ t.nva.segSince = none ∧ t.fget EVR_STAT.SLOTS_USED 0 = (s.evr.log.length + 1) % fieldSize EVR_STAT.SLOTS_USED.hi EVR_STAT.SLOTS_USED.lo) ∧
  (∀ (s : State) (seg : List Rec) (rest : List (List Rec)), s.evr.fullSegs = seg :: rest → s.nva.running = none → s.admits (.segment seg) = false → ∃ t, exec .segmentCommit s = .next t ∧ t.evr = s.evr ∧ t.fget NVA_STAT.STATE 0 = 1 ∧ t.fget HUP_CNT.REFUSALS 0 = min (s.fget HUP_CNT.REFUSALS 0 + 1) (fieldSize HUP_CNT.REFUSALS.hi HUP_CNT.REFUSALS.lo - 1) ∧ t.nva.segSince = some (s.nva.segSince.getD s.ms)) ∧
  (∀ (who : Init) (s : State), Admitted s who pgEVR 0x058 → s.evr.openSeg ≠ [] → ∃ t, exec (.evrFlush who) s = .next t ∧ Took t who ∧ t.evr.openSeg = [] ∧ t.evr.fullSegs = s.evr.fullSegs ++ [s.evr.openSeg] ∧ t.evr.log = s.evr.log) ∧
  (∀ (who : Init) (k : Fin 8) (s : State) (x : Rec × Bool), Readable s who pgEVR → (∀ d : Fin 16, s.identOf who ≠ some (.domain d)) → s.evr.find (s.fget EVR_RD_SEQ.SEQ 0) = some x → ∃ t, exec (.evrRdDataRead who k) s = .next t ∧ t.readOf who = x.1.wordAt x.2 k.val ∧ t.fget EVR_RD_SEQ.SEQ 0 = (if k.val = 7 then (s.fget EVR_RD_SEQ.SEQ 0 + 1) % 2 ^ 32 else s.fget EVR_RD_SEQ.SEQ 0)) ∧
  (∀ (who : Init) (confirm : BitVec 16) (s : State), Admits (fun u => u.clearVerdict who) s who pgEVR 0x408 → s.fon EVR_STAT.CLEARING 0 = false → confirm.toNat = s.fget EVR_SEQ.SEQ 0 % 0x10000 → ∃ t, exec (.evrClear who confirm) s = .next t ∧ Took t who ∧ t.fon EVR_STAT.CLEARING 0 = true ∧ t.evr.openSeg = [] ∧ t.evr.fullSegs = [] ∧ t.evr.clearRec = some (s.fget EVR_DROP.DROPPED 0, s.fget EVR_LOGGED.LOGGED 0, ((s.identOf who).map Ident.code).getD 0) ∧ t.evr.log = s.evr.log) ∧
  (∀ (s : State) (r : NvReq) (c : Nat × Nat × Nat), s.nva.running = some r → r.job = .logErase → s.evr.clearRec = some c → ∃ t, exec .evrClearComplete s = .next t ∧ t.evr.log = [] ∧ t.evr.clearRec = none ∧ t.fon EVR_STAT.CLEARING 0 = false ∧ t.fget EVR_SEQ.SEQ 0 = 1 ∧ (t.evr.openSeg.map fun e => (e.code, e.p0, e.p1, e.p2)) = [(1, c.1, c.2.1, c.2.2)])

/-- NV controller: journal, start, end, program, erase, abort, boot bank, energy waits. An operation that the energy check admits starts and, when it ends well, has its effect; a failed one is tried again; host commands join the queue or leave it; a write that waits too long blocks, or ends with RESULT = 2. (derived from R373, R374, R375, R376, R377, R378, R382, R383, R384) -/
def Obligations.NvControllerCommands : Prop :=
  (∀ (s : State) (r : NvReq) (e : JEntry), s.nva.running = some r → r.job = .journal e → e.typ = 8 → ∃ t, exec .journalWrite s = .next t ∧ t.fget NVA_JSEQ.JSEQ 0 = (s.fget NVA_JSEQ.JSEQ 0 + 1) % 2 ^ 32 ∧ t.fget GCP_BOOT.BOOT 0 = e.payload.headD 0 % 2 ^ 32 ∧ t.nva.running = s.nva.suspended ∧ t.nva.waiting = s.nva.waiting ∧ t.nva.journal.getLast? = some { s.numbered e with committed := true }) ∧
  (∀ (s : State) (r : NvReq) (e : JEntry), s.nva.running = some r → r.job = .commit e → e.typ = 8 → ∃ t, exec .journalWrite s = .next t ∧ t.fget NVA_JSEQ.JSEQ 0 = e.jseq % 2 ^ 32 ∧ t.fget GCP_BOOT.BOOT 0 = e.payload.headD 0 % 2 ^ 32 ∧ t.nva.running = s.nva.suspended ∧ t.nva.journal = s.nva.journal.map (fun x => if x = e then { x with committed := true } else x)) ∧
  (∀ (s : State) (e : JEntry) (l : List NvReq), s.nva.running = none → s.nva.waiting = { job := .journal e } :: l → s.fon HUP_STAT.PFAIL 0 = false → s.compactPiece e.size = none → s.admits (.journal e) = true → e.typ = 8 → ∃ t, exec .journalWrite s = .next t ∧ t.fget NVA_JSEQ.JSEQ 0 = (s.fget NVA_JSEQ.JSEQ 0 + 1) % 2 ^ 32 ∧ t.fget GCP_BOOT.BOOT 0 = e.payload.headD 0 % 2 ^ 32 ∧ t.nva.running = none ∧ t.nva.waiting = l ∧ t.nva.journal.getLast? = some { s.numbered e with committed := true }) ∧
  (∀ (s : State) (r : NvReq), s.rst.nvaWaits = false → s.nva.running = none → s.markWaiting.nvPick = some r → ∃ t, exec .nvOperationStart s = .next t ∧ t.nva.running = some { r with band := s.fget THM_STAT.BAND 0, since := none, blocked := false } ∧ t.nva.suspended = none ∧ t.fget NVA_STAT.STATE 0 = r.job.stateCode) ∧
  (∀ (outcome : NvEnd) (s : State) (r : NvReq) (a : Nat), s.nva.running = some r → outcome = .passed → r.job = .erase a → ∃ t, exec (.nvOperationDone outcome) s = .next t ∧ t.nva.running = s.nva.suspended ∧ t.nva.bytes = (s.nvErase a).nva.bytes ∧ t.fget NVA_STAT.RESULT 0 = 0 ∧ t.fon NVA_STAT.BUSY 0 = false) ∧
  (∀ (outcome : NvEnd) (s : State) (r : NvReq) (e : JEntry), s.nva.running = some r → outcome = .passed → r.job = .journal e → ∃ t, exec (.nvOperationDone outcome) s = .next t ∧ t.nva.running = some { r with job := .commit (s.numbered e), fails := 0 } ∧ t.nva.journal = s.nva.journal ++ [s.numbered e] ∧ t.fget NVA_JSEQ.JSEQ 0 = s.fget NVA_JSEQ.JSEQ 0 ∧ t.fget NVA_JRNL.FREE 0 = s.fget NVA_JRNL.FREE 0 - e.size) ∧
  (∀ (outcome : NvEnd) (s : State) (r : NvReq), s.nva.running = some r → outcome = .failed → r.fails < 2 → ∃ t, exec (.nvOperationDone outcome) s = .next t ∧ t.nva.running = some { r with fails := r.fails + 1 } ∧ t.regs = s.regs) ∧
  (∀ (outcome : NvEnd) (s : State) (r : NvReq) (a : Nat), s.nva.running = some r → outcome = .failed → 2 ≤ r.fails → r.job = .erase a → ∃ t, exec (.nvOperationDone outcome) s = .next t ∧ t.nva.running = s.nva.suspended ∧ t.nva.bytes = s.nva.bytes ∧ t.fget NVA_STAT.RESULT 0 = 1 ∧ t.fon NVA_STAT.BUSY 0 = false ∧ Tbl.get (fun _ => false) t.flt.drive 152 = true) ∧
  (∀ (outcome : NvEnd) (s : State) (a : Fin 16777216), outcome = .corrected a → ∃ t, exec (.nvOperationDone outcome) s = .next t ∧ t.fget NVA_ECC.CORR 0 = min (s.fget NVA_ECC.CORR 0 + 1) (fieldSize NVA_ECC.CORR.hi NVA_ECC.CORR.lo - 1) ∧ t.nva = s.nva) ∧
  (∀ (outcome : NvEnd) (s : State) (a : Fin 16777216), outcome = .uncorrectable a → ∃ t, exec (.nvOperationDone outcome) s = .next t ∧ t.fget NVA_ECC.UNCORR 0 = min (s.fget NVA_ECC.UNCORR 0 + 1) (fieldSize NVA_ECC.UNCORR.hi NVA_ECC.UNCORR.lo - 1) ∧ t.nva.lostAt a.val = true ∧ Tbl.get (fun _ => false) t.flt.drive 152 = true ∧ t.nva.running = s.nva.running) ∧
  (∀ (who : Init) (s : State), Admitted s who pgNVA 0x058 → s.fon NVA_STAT.BUSY 0 = false → imageRegion s.nvAddr = true → s.execBit (s.nvAddr / 0x800000) = false → ∃ t, exec (.nvaProgram who) s = .next t ∧ Took t who ∧ t.fon NVA_STAT.BUSY 0 = true ∧ t.nva.waiting = s.nva.waiting ++ [{ job := .program s.nvAddr s.nvData }] ∧ t.nva.bytes = s.nva.bytes) ∧
  (∀ (who : Init) (s : State), Admitted s who pgNVA 0x058 → s.fon NVA_STAT.BUSY 0 = false → imageRegion s.nvAddr = true → s.execBit (s.nvAddr / 0x800000) = false → ∃ t, exec (.nvaErase who) s = .next t ∧ Took t who ∧ t.fon NVA_STAT.BUSY 0 = true ∧ t.nva.waiting = s.nva.waiting ++ [{ job := .erase s.nvAddr }] ∧ t.nva.bytes = s.nva.bytes) ∧
  (∀ (who : Init) (s : State), Admitted s who pgNVA 0x058 → s.nva.waiting.any (fun r => r.job.isHost) = true → ∃ t, exec (.nvaAbort who) s = .next t ∧ Took t who ∧ t.nva.waiting = s.nva.waiting.filter (fun r => !r.job.isHost) ∧ t.fon NVA_STAT.BUSY 0 = false ∧ t.fget NVA_STAT.RESULT 0 = 3) ∧
  (∀ (who : Init) (bank : Fin 2) (fwSig : Bool) (extSig : Bool) (s : State), Admitted s who pgNVA 0x068 → s.execBit bank.val = true → s.nva.running = none → s.nva.waiting = [] → s.fon HUP_STAT.PFAIL 0 = false → s.compactPiece (bootEntry bank.val).size = none → s.admits (.journal (bootEntry bank.val)) = true → ∃ t, exec (.bootselRequest who bank fwSig extSig) s = .next t ∧ Took t who ∧ t.fget NVA_JSEQ.JSEQ 0 = (s.fget NVA_JSEQ.JSEQ 0 + 1) % 2 ^ 32 ∧ t.fget NVA_BOOTSEL.NEXT 0 = bank.val ∧ t.fget NVA_BOOTSEL.RESULT 0 = 1 ∧ t.sec.bootBank = bank.val ∧ t.nva.bytes = s.nva.bytes) ∧
  (∀ (who : Init) (bank : Fin 2) (fwSig : Bool) (extSig : Bool) (s : State), Admitted s who pgNVA 0x068 → s.execBit bank.val = true → s.nva.running.isSome = true ∨ s.nva.waiting ≠ [] → s.admits (.journal (bootEntry bank.val)) = true → ∃ t, exec (.bootselRequest who bank fwSig extSig) s = .next t ∧ Took t who ∧ t.nva.waiting = s.nva.waiting ++ [{ job := .journal (bootEntry bank.val) }] ∧ t.fget NVA_BOOTSEL.RESULT 0 = 0 ∧ t.fget NVA_JSEQ.JSEQ 0 = s.fget NVA_JSEQ.JSEQ 0) ∧
  (∀ (who : Init) (bank : Fin 2) (fwSig : Bool) (extSig : Bool) (s : State), Admitted s who pgNVA 0x068 → s.execBit bank.val = true → s.admits (.journal (bootEntry bank.val)) = false → s.nva.waiting = [] → ∃ t, exec (.bootselRequest who bank fwSig extSig) s = .next t ∧ Took t who ∧ t.fget NVA_BOOTSEL.RESULT 0 = 3 ∧ t.nva = { s.nva with bootReq := none }) ∧
  (∀ (who : Init) (bank : Fin 2) (fwSig : Bool) (extSig : Bool) (s : State), Admitted s who pgNVA 0x068 → s.execBit bank.val = false → s.bankOk bank.val fwSig extSig = false → ∃ t, exec (.bootselRequest who bank fwSig extSig) s = .next t ∧ Took t who ∧ t.fget NVA_BOOTSEL.RESULT 0 = 2 ∧ t.nva.waiting = s.nva.waiting ∧ t.nva.bootReq = none) ∧
  (∀ (s : State) (r : NvReq), s.nva.waiting.any (fun r => r.since.isSome) = true → s.rst.nvaWaits = false → s.nva.running = none → s.markWaiting.nvPick = some r → s.nva.burn = none → s.lcDue = none → ∃ t, exec .energyRetest s = .next t ∧ t.nva.running = some { r with band := s.fget THM_STAT.BAND 0, since := none, blocked := false } ∧ t.fget NVA_STAT.STATE 0 = r.job.stateCode) ∧
  (∀ (s : State) (b : RootBurn), s.nva.burn = some b → s.energyOk 4000 s.evr.stagedSegs = true → s.lcDue = none → s.nva.waiting.any (fun r => r.since.isSome) = false → s.evr.fullSegs = [] → ∃ t, exec .energyRetest s = .next t ∧ t.nva.burn = none ∧ t.rootOf b.slot = b.becomes ∧ t.nva.waiting = s.nva.waiting) ∧
  (∀ (s : State) (nj : Nat), s.lateWrite = some nj → s.sec.lcReq = none → s.sleeping = false → ∃ t, exec .energyBlockTimeout s = .next t ∧ t.fon HUP_STAT.BLOCKED 0 = true ∧ Tbl.get (fun _ => false) t.flt.drive 153 = true ∧ t.nva.waiting = s.nva.waiting.map (fun r => if s.waited1s r.since then { r with blocked := true } else r)) ∧
  (∀ (s : State), (s.nva.waiting.any fun r => r.job.isHost && (r.since.all fun m => decide (m + 10001 ≤ s.ms)) && r.since.isSome) = true → ∃ t, exec .nvHostEnergyTimeout s = .next t ∧ t.fget NVA_STAT.RESULT 0 = 2 ∧ t.fon NVA_STAT.BUSY 0 = false ∧ t.nva.waiting = s.nva.waiting.filter (fun r => !(r.job.isHost && (r.since.all fun m => decide (m + 10001 ≤ s.ms)) && r.since.isSome)))

/-- Hold-up: samples, readings, their losses, estimates, disagreement, rebase, power failure. A sample gives the bank voltage and ends V_LOSS, a reading moves the charge and ends Q_LOSS; a lost source leaves its energy at 0; E_LOW is the lower estimate; a rebase sets the charge from the voltage; a power failure mutes and closes the recorder. (derived from R379, R380, R381, R385, R386, R387, R388, R389) -/
def Obligations.HoldUpCommands : Prop :=
  (∀ (code : Fin 4096) (s : State), hupOver code.val = false → s.fon HUP_CFG.EN 0 = false → ∃ t, exec (.holdupVoltageSample code) s = .next t ∧ t.hup.vUv = hupUv (median3 ((code.val :: s.hup.samples).take 3)) (s.fget HUP_SCALE.DIV 0) ∧ t.fget HUP_V.V_MV 0 = t.hup.vUv / 1000 % 65536 ∧ t.fon HUP_STAT.V_LOSS 0 = false ∧ t.timerOn tmHupV 0 = true ∧ t.fon HUP_STAT.PFAIL 0 = s.fon HUP_STAT.PFAIL 0) ∧
  (∀ (code : Fin 4096) (s : State), hupOver code.val = false → s.fon HUP_CFG.EN 0 = true → s.fget HUP_VOLT.VPF_MV 0 ≤ s.hup.vUv / 1000 → hupUv (median3 ((code.val :: s.hup.samples).take 3)) (s.fget HUP_SCALE.DIV 0) / 1000 < s.fget HUP_VOLT.VPF_MV 0 → s.fon HUP_STAT.PFAIL 0 = false → ∃ t, exec (.holdupVoltageSample code) s = .next t ∧ t.fon HUP_STAT.PFAIL 0 = true ∧ t.flt.hardMute = true ∧ t.fon EVR_STAT.PF_CLOSED 0 = true) ∧
  (∀ (uv : Int) (s : State), uv.natAbs ≤ 50000 → ∃ t, exec (.holdupChargeReading uv) s = .next t ∧ t.hup.qNc = clampInt (-(2147483647 * 1000) - 1000) (2147483647 * 1000) (s.hup.qNc + roundDivInt (uv * 1000000) (s.fget HUP_SENSE.RSENSE 0)) ∧ t.fon HUP_STAT.Q_LOSS 0 = false ∧ t.timerOn tmHupQ 0 = true) ∧
  (∀ (s : State), s.timerDue tmHupV 0 s.us 100 = true → ∃ t, exec .holdupVTimeout s = .next t ∧ t.fon HUP_STAT.V_LOSS 0 = true ∧ t.hup.eV = 0 ∧ t.fget HUP_E.E_V 0 = 0 ∧ t.timerOn tmHupV 0 = false) ∧
  (∀ (s : State), s.timerDue tmHupQ 0 s.ms 10 = true → ∃ t, exec .holdupQTimeout s = .next t ∧ t.fon HUP_STAT.Q_LOSS 0 = true ∧ t.hup.eQ = 0 ∧ t.fget HUP_E.E_Q 0 = 0 ∧ t.timerOn tmHupQ 0 = false) ∧
  (∀ (s : State), s.fon HUP_CFG.EN 0 = false → ∃ t, exec .holdupEstimateUpdate s = .next t ∧ t.hup.eLow = 0 ∧ t.fget HUP_E2.E_LOW 0 = 0) ∧
  (∀ (s : State), s.fon HUP_CFG.EN 0 = true → s.fon HUP_CFG.CQ_EN 0 = false → s.fon HUP_STAT.V_LOSS 0 = false → ∃ t, exec .holdupEstimateUpdate s = .next t ∧ t.hup.eV = s.hupCapacity.hupEv (s.hup.vUv / 1000) ∧ t.hup.eLow = t.hup.eV / 2 ∧ t.fget HUP_E.E_V 0 = mjOf t.hup.eV ∧ t.fget HUP_E2.E_LOW 0 = mjOf t.hup.eLow ∧ t.fon HUP_STAT.DISAGREE 0 = false) ∧
  (∀ (s : State), s.timerDue tmHupDisagree 0 s.sec_ 1 = true → ∃ t, exec .holdupDisagreeTimer s = .next t ∧ t.fon HUP_STAT.DISAGREE 0 = true ∧ t.hup = s.hup) ∧
  (∀ (s : State), s.timerDue tmHupRebase 0 s.sec_ (s.fget HUP_X2.DIS_S 0) = true → s.hup.supplyGood = true → s.hupStable = true → ∃ t, exec .holdupRebase s = .next t ∧ t.hup.qNc = (s.hupC * (s.hup.vUv / 1000) : Nat) ∧ t.fget HUP_CNT.REBASES 0 = min (s.fget HUP_CNT.REBASES 0 + 1) (fieldSize HUP_CNT.REBASES.hi HUP_CNT.REBASES.lo - 1) ∧ t.hup.vUv = s.hup.vUv ∧ t.hup.vLows = s.hup.vLows ∧ t.hup.vHighs = s.hup.vHighs ∧ t.timerOn tmHupRebase 0 = false) ∧
  (∀ (s : State), s.timerDue tmHupReady 0 s.sec_ 60 = true → s.hup.supplyGood = true → s.fon HUP_STAT.READY 0 = false → ∃ t, exec .holdupReadyTimeout s = .next t ∧ t.hup.readyLate = true ∧ Tbl.get (fun _ => false) t.flt.drive 153 = true) ∧
  (∀ (s : State), s.fon HUP_STAT.PFAIL 0 = false → ∃ t, exec .powerFail s = .next t ∧ t.fon HUP_STAT.PFAIL 0 = true ∧ t.hup.supplyGood = false ∧ t.flt.hardMute = true ∧ t.flt.padOverride = true ∧ t.fon FLT_STAT.HEALTHY 0 = false ∧ t.fon EVR_STAT.PF_CLOSED 0 = true ∧ t.evr.openSeg = []) ∧
  (∀ (s : State), s.fon HUP_STAT.PFAIL 0 = true → s.pfIdle = true → s.fget HUP_VOLT.VPF_MV 0 ≤ s.hup.vUv / 1000 → ∃ t, exec .powerFailRecovery s = .next t ∧ t.fget RST_CAUSE.CAUSE 0 = 8 ∧ t.fon HUP_STAT.PFAIL 0 = false ∧ t.hup.supplyGood = true)

/-- Security: lifecycle, fuse burn, keys, PCIe role, root keys, security version. A lifecycle change that is admitted waits for its burn, and the burn enters the target through a reset; a key change waits for its journal entry; the PCIe role is shown and journalled; a root slot is programmed once and revoked while another remains; SVN advances to what runs. (derived from R390, R391, R392, R393, R394, R395, R396, R397, R398, R399, R401) -/
def Obligations.SecurityCommands : Prop :=
  (∀ (who : Init) (target : Fin 8) (confirm : BitVec 16) (s : State) (id : Ident), Admits (fun _ => none) s who pgSEC 0x044 → s.identOf who = some id → s.lcVerdict id target.val confirm.toNat = none → ∃ t, exec (.lifecycleGo who target confirm) s = .next t ∧ Took t who ∧ t.fon SEC_LC.LC_PENDING 0 = true ∧ t.fget SEC_LC.LC_RESULT 0 = 0 ∧ t.sec.lcReq = some { target := target.val, ident := id.code, old := s.sec.lc } ∧ t.sec.lc = s.sec.lc) ∧
  (∀ (outcome : FuseEnd) (s : State) (r : LcReq), s.sec.lcReq = some r → r.burned = false → s.energyOk 4000 s.evr.stagedSegs = true → outcome = .firstFailed → ∃ t, exec (.fuseBurnDone outcome) s = .next t ∧ t.sec.lcReq = none ∧ t.fget SEC_LC.LC_RESULT 0 = 4 ∧ t.fon SEC_LC.LC_PENDING 0 = false ∧ t.sec.lc = s.sec.lc ∧ t.sec.redeploy = s.sec.redeploy) ∧
  (∀ (outcome : FuseEnd) (s : State) (r : LcReq), s.sec.lcReq = some r → r.burned = false → s.energyOk 4000 s.evr.stagedSegs = true → outcome = .secondFailed → ∃ t, exec (.fuseBurnDone outcome) s = .next t ∧ t.sec.lc = r.target ∧ t.sec.secondWord = false ∧ t.sec.lcReq = some { r with burned := true } ∧ t.fget SEC_LC.LC_RESULT 0 = 4 ∧ t.fon SEC_LC.LC_PENDING 0 = s.fon SEC_LC.LC_PENDING 0) ∧
  (∀ (outcome : FuseEnd) (s : State) (r : LcReq) (u : State), s.sec.lcReq = some r → r.burned = false → s.energyOk 4000 s.evr.stagedSegs = true → s.nva.running = none → outcome = .burned → (s.fuseBurned r true).eraseKeys r.target = some u → ∃ t, exec (.fuseBurnDone outcome) s = .next t ∧ t.sec.lc = r.target ∧ t.sec.secondWord = true ∧ t.sec.lcReq = some { r with burned := true, entered := true } ∧ t.sec.keys = entryKeys r.target s.sec.keys ∧ t.sec.redeploy = (if r.old = 3 ∧ r.target = 2 then s.sec.redeploy - 1 else s.sec.redeploy) ∧ t.fget DBG_STAT.LEVEL 0 = 0 ∧ t.timerOn tmLcReset 0 = true) ∧
  (∀ (outcome : FuseEnd) (s : State) (r : LcReq), s.sec.lcReq = some r → r.burned = false → s.energyOk 4000 s.evr.stagedSegs = true → s.nva.running.isSome = true ∨ (s.fuseBurned r true).eraseKeys r.target = none → outcome = .burned → ∃ t, exec (.fuseBurnDone outcome) s = .next t ∧ t.sec.lc = r.target ∧ t.sec.secondWord = true ∧ t.sec.lcReq = some { r with burned := true } ∧ t.sec.keys = s.sec.keys ∧ t.evr = s.evr) ∧
  (∀ (who : Init) (plain : Bool) (s : State) (k : Nat), Admits (fun u => u.keyVerdict who false plain) s who pgSEC 0x07C → (if plain then some s.plainKey else s.unwrapped who) = some k → ∃ t, exec (.keyInstall who plain none) s = .next t ∧ Took t who ∧ t.sec.keyReq = some { ident := s.keySel who, key := some k, who := ((s.identOf who).map Ident.code).getD 0 } ∧ t.sec.keys = s.sec.keys ∧ t.nva.waiting.length = s.nva.waiting.length + 1) ∧
  (∀ (who : Init) (plain : Bool) (s : State) (w : BitVec 320), ∃ t, exec (.keyInstall who plain (some w)) s = .next t ∧ exec (.keyInstall who plain none) (s.stageWrap who w) = .next t) ∧
  (∀ (who : Init) (plain : Bool) (s : State), (s.keyVerdict who false plain).isSome = true → s.running pgSEC = true → s.reaches who = true → s.rst.recovery = false → ∃ t, exec (.keyInstall who plain none) s = .next t ∧ t.fget SEC_KEY_CMD.KEY_RESULT 0 = 2 ∧ t.sec = s.sec ∧ t.nva = s.nva) ∧
  (∀ (who : Init) (plain : Bool) (s : State), Admits (fun u => u.keyVerdict who false plain) s who pgSEC 0x07C → plain = false → s.unwrapped who = none → ∃ t, exec (.keyInstall who plain none) s = .next t ∧ Took t who ∧ t.fget SEC_KEY_CMD.KEY_RESULT 0 = 1 ∧ t.sec = s.sec ∧ t.nva = s.nva) ∧
  (∀ (who : Init) (s : State), Admits (fun u => u.keyVerdict who true false) s who pgSEC 0x07C → ∃ t, exec (.keyErase who) s = .next t ∧ Took t who ∧ t.sec.keyReq = some { ident := s.keySel who, key := none, who := ((s.identOf who).map Ident.code).getD 0 } ∧ t.sec.keys = s.sec.keys ∧ t.nva.waiting = s.nva.waiting ++ [{ job := .journal { typ := 5, key := s.keySel who, payload := [] } }]) ∧
  (∀ (who : Init) (role : Fin 32) (s : State), Admits (fun u => u.roleVerdict who) s who pgSEC 0x048 → role.val ≤ 0x10 ∨ role.val = 0x1F → ∃ t, exec (.pcieRoleWrite who role) s = .next t ∧ Took t who ∧ t.fget SEC_PCIE_ROLE.ROLE 0 = role.val ∧ t.nva.waiting = s.nva.waiting ++ [{ job := .journal { typ := 6, key := 0, payload := [role.val] } }] ∧ t.sec = s.sec) ∧
  (∀ (who : Init) (usage : Fin 16) (s : State), Admits (fun u => u.programVerdict who (s.rootSel who)) s who pgSEC 0x100 → (s.rootOf (s.rootSel who)).programmed = false → s.rootSel who < 4 ∨ usage.val < 8 → s.nva.burn = none → s.energyOk 4000 s.evr.stagedSegs = true → ∃ t, exec (.rootProgram who usage) s = .next t ∧ Took t who ∧ t.rootOf (s.rootSel who) = { key := s.stagedRoot, usage := usage.val, programmed := true, revoked := false }) ∧
  (∀ (who : Init) (usage : Fin 16) (s : State), Admits (fun u => u.programVerdict who (s.rootSel who)) s who pgSEC 0x100 → (s.rootOf (s.rootSel who)).programmed = false → s.rootSel who < 4 ∨ usage.val < 8 → s.nva.burn = none → s.energyOk 4000 s.evr.stagedSegs = false → ∃ t, exec (.rootProgram who usage) s = .next t ∧ Took t who ∧ t.nva.burn = some { slot := s.rootSel who, becomes := { key := s.stagedRoot, usage := usage.val, programmed := true, revoked := false }, revokes := false, since := s.ms } ∧ t.sec = s.sec) ∧
  (∀ (who : Init) (s : State), Admits (fun u => u.revokeVerdict who (s.rootSel who)) s who pgSEC 0x100 → (s.rootOf (s.rootSel who)).firmware = false → (List.range 8).any (fun i => (s.rootOf i).firmware) = true → s.nva.burn = none → s.energyOk 4000 s.evr.stagedSegs = true → ∃ t, exec (.rootRevoke who) s = .next t ∧ Took t who ∧ (t.rootOf (s.rootSel who)).revoked = true ∧ (t.rootOf (s.rootSel who)).key = (s.rootOf (s.rootSel who)).key) ∧
  (∀ (who : Init) (s : State), Admits (fun u => u.svnVerdict who) s who pgSEC 0x104 → ∃ t, exec (.svnAdvance who) s = .next t ∧ Took t who ∧ t.sec = { s.sec with fwSvn := max s.sec.fwSvn (s.fget SEC_BOOT.FW_RUN_SVN 0), extSvn := max s.sec.extSvn s.sec.extRun })

/-- Debug authentication, its timers, JTAG, the trace ring. A good authentication opens its level and a bad one counts; each makes a new challenge; an attempt in a lockout, or on the way into SNOWDROP, moves no level and makes no challenge; a level closes by command or when idle, and TCK edges put the idle time back; an instruction that the level admits is in the register, others act as BYPASS; IDCODE reads the member's word; a word the debugger wrote in a pair's memory reads back until the pair runs; an admitted word, one of a page event among them, is written to the ring, or dropped and counted when the ring is full under STOP_FULL, and is read back at TRC_RD_ADDR. (derived from R402, R403, R404, R405, R415, R416, R417, R418) -/
def Obligations.DebugAndTraceCommands : Prop :=
  (∀ (level : Fin 3) (slot : Fin 8) (signed : Bool) (sigOk : Bool) (s : State), s.fget DBG_STAT.LOCKOUT_S 0 = 0 → s.snowBound = false → s.debugGood level.val slot.val signed sigOk = true → ∃ t, exec (.debugAuth level slot signed sigOk) s = .next t ∧ t.fget DBG_STAT.LEVEL 0 = level.val ∧ (t.fget DBG_STAT.SIGNER 0 = if signed then slot.val else 0) ∧ t.fget DBG_STAT.FAILS 0 = 0 ∧ t.timerOn tmDbgIdle 0 = true ∧ t.timerOn tmDbgChal 0 = true ∧ t.dbg.row = 0) ∧
  (∀ (level : Fin 3) (slot : Fin 8) (signed : Bool) (sigOk : Bool) (s : State), s.fget DBG_STAT.LOCKOUT_S 0 = 0 → s.snowBound = false → s.debugGood level.val slot.val signed sigOk = false → ∃ t, exec (.debugAuth level slot signed sigOk) s = .next t ∧ t.fget DBG_STAT.LEVEL 0 = s.fget DBG_STAT.LEVEL 0 ∧ t.fget DBG_STAT.FAILS 0 = min (s.fget DBG_STAT.FAILS 0 + 1) (fieldSize DBG_STAT.FAILS.hi DBG_STAT.FAILS.lo - 1) ∧ t.timerOn tmDbgChal 0 = true) ∧
  (∀ (s : State), s.timerDue tmDbgChal 0 s.sec_ 60 = true → ∃ t, exec .debugChallengeExpired s = .next t ∧ t.timerOn tmDbgChal 0 = true ∧ t.word (DBG_CHAL.CHAL.key 0) = s.freeVal.setWidth 32 ∧ t.dbg = s.dbg) ∧
  (∀ (s : State), s.timerDue tmDbgLock 0 s.sec_ s.dbg.lockS = true → ∃ t, exec .debugLockoutExpired s = .next t ∧ t.fget DBG_STAT.LOCKOUT_S 0 = 0 ∧ t.timerOn tmDbgLock 0 = false ∧ t.dbg = s.dbg) ∧
  (∀ (who : Init) (s : State), Admitted s who pgDBG 0x070 → ∃ t, exec (.debugClose who) s = .next t ∧ Took t who ∧ t.fget DBG_STAT.LEVEL 0 = 0 ∧ t.dbg.halted = 0 ∧ t.timerOn tmDbgIdle 0 = false) ∧
  (∀ (s : State), 0 < s.fget DBG_STAT.LEVEL 0 → s.timerDue tmDbgIdle 0 s.sec_ (s.fget DBG_CFG.IDLE_S 0) = true → ∃ t, exec .debugIdleTimeout s = .next t ∧ t.fget DBG_STAT.LEVEL 0 = 0 ∧ t.dbg.halted = 0 ∧ t.timerOn tmDbgIdle 0 = false) ∧
  (∀ (op : JtagOp) (s : State) (n : Nat), jtagNeeds s.sec.lc op = some n → n ≤ s.fget DBG_STAT.LEVEL 0 → ∃ t, exec (.jtagInstruction op) s = .next t ∧ t.dbg.jtag = jtagReg op ∧ t.dbg.halted = haltedAfter s.dbg.halted op ∧ t.regs = s.regs ∧ (0 < s.fget DBG_STAT.LEVEL 0 → t.timerOn tmDbgIdle 0 = true) ∧ (op = .idcode → t.dbg.data = idcode s.member)) ∧
  (∀ (op : JtagOp) (s : State), (jtagNeeds s.sec.lc op).all (fun n => decide (s.fget DBG_STAT.LEVEL 0 < n)) = true → ∃ t, exec (.jtagInstruction op) s = .next t ∧ t.dbg = { s.dbg with jtag := 0x3F, data := 0 } ∧ t.regs = s.regs ∧ (0 < s.fget DBG_STAT.LEVEL 0 → t.timerOn tmDbgIdle 0 = true)) ∧
  (∀ (b : Bool) (a : BitVec 32) (w : Word) (s : State), 2 ≤ s.fget DBG_STAT.LEVEL 0 → Tbl.get (fun _ => none) s.dbg.mem (memKey b a) = some w → ∃ t, exec (.jtagInstruction (.memRead b a)) s = .next t ∧ t.dbg.data = w ∧ t.dbg.mem = s.dbg.mem ∧ t.dbg.halted = s.dbg.halted) ∧
  (∀ (b : Bool) (a : BitVec 32) (v : Word) (s : State), 2 ≤ s.fget DBG_STAT.LEVEL 0 → ∃ t, exec (.jtagInstruction (.memWrite b a v)) s = .next t ∧ t.dbg.mem = Tbl.set (fun _ => none) s.dbg.mem (memKey b a) (some v) ∧ t.dbg.halted = s.dbg.halted ∧ t.dbg.data = s.dbg.data) ∧
  (∀ (b : Bool) (s : State), 2 ≤ s.fget DBG_STAT.LEVEL 0 → ∃ t, exec (.jtagInstruction (.step b)) s = .next t ∧ t.dbg.mem = s.dbg.mem.filter (fun e => decide (e.1 % 2 ≠ (if b then 1 else 0))) ∧ t.dbg.halted = s.dbg.halted ∧ t.dbg.data = s.dbg.data) ∧
  (∀ (level : Fin 3) (slot : Fin 8) (signed : Bool) (sigOk : Bool) (s : State), 0 < s.fget DBG_STAT.LOCKOUT_S 0 ∨ s.snowBound = true → ∃ t, exec (.debugAuth level slot signed sigOk) s = .next t ∧ t.dbg = s.dbg ∧ t.regs = s.regs ∧ (s.fget DBG_STAT.LEVEL 0 = 0 → t = s) ∧ (0 < s.fget DBG_STAT.LEVEL 0 → t.timerOn tmDbgIdle 0 = true)) ∧
  (∀ (source : Fin 5) (aux : BitVec 24) (payload : BitVec 32) (s : State), s.works pgTRC = true → s.trcAdmits source.val = true → (s.fon TRC_CTRL.STOP_FULL 0 && s.trcFull) = false → ∃ t, exec (.traceWord source aux payload) s = .next t ∧ Tbl.get (fun _ => none) t.trc.ring (s.fget TRC_STAT.WR_PTR 0) = some { source := source.val, aux := aux.toNat, dt := s.dt, payload := payload.toNat } ∧ t.fget TRC_STAT.WR_PTR 0 = (s.fget TRC_STAT.WR_PTR 0 + 1) % 4096 ∧ t.fon TRC_STAT.WRAPPED 0 = (s.fon TRC_STAT.WRAPPED 0 || s.trcFull) ∧ t.fget TRC_DROP.DROP 0 = s.fget TRC_DROP.DROP 0) ∧
  (∀ (source : Fin 5) (aux : BitVec 24) (payload : BitVec 32) (s : State), s.works pgTRC = true → s.trcAdmits source.val = true → (s.fon TRC_CTRL.STOP_FULL 0 && s.trcFull) = true → ∃ t, exec (.traceWord source aux payload) s = .next t ∧ t.trc = s.trc ∧ t.fget TRC_STAT.WR_PTR 0 = s.fget TRC_STAT.WR_PTR 0 ∧ t.fon TRC_STAT.STOPPED 0 = true ∧ t.fget TRC_DROP.DROP 0 = min (s.fget TRC_DROP.DROP 0 + 1) (fieldSize TRC_DROP.DROP.hi TRC_DROP.DROP.lo - 1)) ∧
  (∀ (source : Fin 5) (aux : BitVec 24) (payload : BitVec 32) (s : State), s.works pgTRC = false ∨ s.trcAdmits source.val = false → ∃ t, exec (.traceWord source aux payload) s = .next t ∧ t = s) ∧
  (∀ (page : Fin 64) (bit : Fin 32) (s : State), s.pagePresent page.val = true → s.running page.val = true → page.val ≠ pgTRC → s.fbit EVT_LEVEL.LEVEL page.val bit.val = false → s.trcAdmits 4 = true → s.fon PAGE_STAT.READY pgTRC = true → s.fon TRC_CTRL.STOP_FULL 0 = false → ∃ t, exec (.eventRise page bit) s = .next t ∧ Tbl.get (fun _ => none) t.trc.ring (s.fget TRC_STAT.WR_PTR 0) = some (s.eventWord page.val bit.val)) ∧
  (∀ (s : State), s.timerDue tmDbgChal 0 s.sec_ 60 = false → ∃ t, exec .debugChallengeExpired s = .next t ∧ t = s) ∧
  (∀ (s : State), s.timerDue tmDbgLock 0 s.sec_ s.dbg.lockS = false → ∃ t, exec .debugLockoutExpired s = .next t ∧ t = s) ∧
  (∀ (s : State), s.fget DBG_STAT.LEVEL 0 = 0 ∨ s.timerDue tmDbgIdle 0 s.sec_ (s.fget DBG_CFG.IDLE_S 0) = false → ∃ t, exec .debugIdleTimeout s = .next t ∧ t = s) ∧
  (∀ (who : Init) (s : State), Readable s who pgTRC → s.identOf who = some .manufacturer ∨ s.identOf who = some .integrator ∨ s.identOf who = some .fieldService → ∃ t, exec (.trcRdDataRead who) s = .next t ∧ t.readOf who = s.trcRead (s.fget TRC_RD_ADDR.ADDR 0) ∧ t.fget TRC_RD_ADDR.ADDR 0 = (s.fget TRC_RD_ADDR.ADDR 0 + 4) % 65536)

/-- Power: requests for each state, the end of a transition, wake sources, the wake. A request that no rule refuses is PENDING with its target, and one that the table refuses shows its cause in REFUSE and starts nothing; its transition ends in the target; in SNOWDROP an enabled source decides the wake, and during the entry it abandons the entry; a pin that stays active is ignored; the wake starts the first bank that verifies and ends in STANDBY, or in ROM recovery. (derived from R406, R407, R408, R409, R410, R411, R412, R413, R414) -/
def Obligations.PowerCommands : Prop :=
  (∀ (who : Init) (drain : Bool) (keepFh : Fin 4) (s : State), Admitted s who pgPWR 0x040 → s.fon PWR_STAT.PENDING 0 = false → s.pwr.waking = false → s.pwrRefusal pwACTIVE drain = none → (regAt pgPWR 0x040).all (fun r => rangesOk pgPWR 0x040 (r.merge (s.word (PWR_CTRL.TARGET.key 0)) (pwrGo pwACTIVE drain keepFh.val))) = true → ∃ t, exec (.powerToActive who drain keepFh) s = .next t ∧ Took t who ∧ t.fon PWR_STAT.PENDING 0 = true ∧ t.fget PWR_STAT.REFUSE 0 = 0 ∧ t.pwr.target = pwACTIVE ∧ t.pwState = s.pwState ∧ t.fget PWR_CTRL.KEEP_FH 0 = keepFh.val) ∧
  (∀ (who : Init) (drain : Bool) (keepFh : Fin 4) (s : State), Admitted s who pgPWR 0x040 → s.fon PWR_STAT.PENDING 0 = false → s.pwr.waking = false → s.pwrRefusal pwLEAN drain = none → (regAt pgPWR 0x040).all (fun r => rangesOk pgPWR 0x040 (r.merge (s.word (PWR_CTRL.TARGET.key 0)) (pwrGo pwLEAN drain keepFh.val))) = true → ∃ t, exec (.powerToLean who drain keepFh) s = .next t ∧ Took t who ∧ t.fon PWR_STAT.PENDING 0 = true ∧ t.fget PWR_STAT.REFUSE 0 = 0 ∧ t.pwr.target = pwLEAN ∧ t.pwState = s.pwState ∧ t.fget PWR_CTRL.KEEP_FH 0 = keepFh.val) ∧
  (∀ (who : Init) (drain : Bool) (keepFh : Fin 4) (s : State), Admitted s who pgPWR 0x040 → s.fon PWR_STAT.PENDING 0 = false → s.pwr.waking = false → s.pwrRefusal pwSTANDBY drain = none → (regAt pgPWR 0x040).all (fun r => rangesOk pgPWR 0x040 (r.merge (s.word (PWR_CTRL.TARGET.key 0)) (pwrGo pwSTANDBY drain keepFh.val))) = true → ∃ t, exec (.powerToStandby who drain keepFh) s = .next t ∧ Took t who ∧ t.fon PWR_STAT.PENDING 0 = true ∧ t.fget PWR_STAT.REFUSE 0 = 0 ∧ t.pwr.target = pwSTANDBY ∧ t.pwState = s.pwState ∧ t.fget PWR_CTRL.KEEP_FH 0 = keepFh.val) ∧
  (∀ (who : Init) (drain : Bool) (keepFh : Fin 4) (s : State), Admitted s who pgPWR 0x040 → s.fon PWR_STAT.PENDING 0 = false → s.pwr.waking = false → s.pwrRefusal pwSNOWDROP drain = none → (regAt pgPWR 0x040).all (fun r => rangesOk pgPWR 0x040 (r.merge (s.word (PWR_CTRL.TARGET.key 0)) (pwrGo pwSNOWDROP drain keepFh.val))) = true → ∃ t, exec (.powerToSnowdrop who drain keepFh) s = .next t ∧ Took t who ∧ t.fon PWR_STAT.PENDING 0 = true ∧ t.fget PWR_STAT.REFUSE 0 = 0 ∧ t.pwr.target = pwSNOWDROP ∧ t.pwState = s.pwState ∧ t.pwr.transportsOff = true ∧ t.evr.openSeg = []) ∧
  (∀ (cd41 : Word) (s : State), s.fon PWR_STAT.PENDING 0 = true → s.pwr.target = pwACTIVE ∨ s.pwr.target = pwLEAN → s.pwState ≠ pwSTANDBY → ∃ t, exec (.powerTransitionDone cd41) s = .next t ∧ t.fon PWR_STAT.PENDING 0 = false ∧ t.pwState = s.pwr.target ∧ t.pwr = s.pwr) ∧
  (∀ (cd41 : Word) (s : State), s.fon PWR_STAT.PENDING 0 = true → s.pwr.target = pwSTANDBY → s.pathsOff = true → ∃ t, exec (.powerTransitionDone cd41) s = .next t ∧ t.fon PWR_STAT.PENDING 0 = false ∧ t.pwState = pwSTANDBY ∧ t.pwr.hold = true) ∧
  (∀ (cd41 : Word) (s : State), s.fon PWR_STAT.PENDING 0 = true → s.pwr.target = pwSNOWDROP → s.executes = false → s.stageEmpty = true → (if s.pwr.asleep then s else s.chainsSleep).chainsSlept = true → ∃ t, exec (.powerTransitionDone cd41) s = .next t ∧ t.fon PWR_STAT.PENDING 0 = false ∧ t.pwState = pwSNOWDROP ∧ t.pwr.asleep = true ∧ t.pwr.entryDt = s.dt ∧ t.pwr.entryCd41 = s.rst.cd41) ∧
  (∀ (pin : Fin 4) (level : Bool) (s : State), s.fbit PWR_WAKE_EN.EN 0 pin.val = true → level = s.fbit PWR_WAKE_EN.POL 0 pin.val → Tbl.get (fun _ => false) s.pwr.stuck pin.val = false → s.pwState = pwSNOWDROP → s.pwr.waking = false → ∃ t, exec (.wakePin pin level) s = .next t ∧ t.pwr.waking = true ∧ t.fget PWR_STAT.LAST_WAKE 0 = pin.val ∧ Tbl.get (fun _ => false) t.pwr.level pin.val = level ∧ t.pwState = pwSNOWDROP) ∧
  (∀ (s : State), s.pwState = pwSNOWDROP → s.fbit PWR_WAKE_EN.EN 0 5 = true → s.fget PWR_WAKE_TIMER.CYCLES 0 ≠ 0 → s.pwr.waking = false → ∃ t, exec .wakeTimerExpired s = .next t ∧ t.pwr.waking = true ∧ t.fget PWR_STAT.LAST_WAKE 0 = 5 ∧ t.rst.cd41 = max s.rst.cd41 (s.pwr.entryCd41 + s.fget PWR_WAKE_TIMER.CYCLES 0) ∧ t.pwState = pwSNOWDROP) ∧
  (∀ (pin : Fin 4) (s : State), s.timerDue tmWakePin pin.val s.sec_ 10 = true → s.wakePinActive pin.val = true → ∃ t, exec (.wakePinStuck pin) s = .next t ∧ Tbl.get (fun _ => false) t.pwr.stuck pin.val = true ∧ t.timerOn tmWakePin pin.val = false ∧ t.wakePinCalls pin.val = false) ∧
  (∀ (cycles : Word) (v : BootVerdict) (s : State), s.pwr.waking = true → s.pwState = pwSNOWDROP → s.rst.recovery = false → (s.wakeClocks cycles.toNat).firstBank v s.wakeOrder = none → ∃ t, exec (.wake cycles v) s = .next t ∧ t.rst.recovery = true ∧ t.flt.hardMute = true ∧ t.fon FLT_STAT.HEALTHY 0 = false) ∧
  (∀ (cycles : Word) (v : BootVerdict) (s : State) (b : Nat), s.pwr.waking = true → s.pwState = pwSNOWDROP → s.rst.recovery = false → (s.wakeClocks cycles.toNat).firstBank v s.wakeOrder = some b → ∃ t, exec (.wake cycles v) s = .next t ∧ t.pwState = pwSTANDBY ∧ t.fget RST_CAUSE.CAUSE 0 = 9 ∧ t.fget SEC_BOOT.BANK 0 = b ∧ t.pwr.waking = false ∧ t.pwr.asleep = false) ∧
  (∀ (cd41 : Word) (s : State), s.fon PWR_STAT.PENDING 0 = false → ∃ t, exec (.powerTransitionDone cd41) s = .next t ∧ t = s) ∧
  (∀ (cd41 : Word) (s : State), s.fon PWR_STAT.PENDING 0 = true → s.pwr.target = pwSNOWDROP → s.executes = true → ∃ t, exec (.powerTransitionDone cd41) s = .next t ∧ t.fon PWR_STAT.PENDING 0 = true ∧ t.pwState = s.pwState) ∧
  (∀ (cd41 : Word) (s : State), s.fon PWR_STAT.PENDING 0 = true → s.pwr.target = pwSNOWDROP → s.executes = false → s.stageEmpty = true → (if s.pwr.asleep then s else s.chainsSleep).chainsSlept = false → ∃ t, exec (.powerTransitionDone cd41) s = .next t ∧ t.fon PWR_STAT.PENDING 0 = true ∧ t.pwState = s.pwState ∧ t.pwr.asleep = true) ∧
  (∀ (cd41 : Word) (s : State), s.fon PWR_STAT.PENDING 0 = true → s.pwr.target = pwSNOWDROP → s.executes = false → s.stageEmpty = false → ∃ t, exec (.powerTransitionDone cd41) s = .next t ∧ t.fon PWR_STAT.PENDING 0 = true ∧ t.pwState = s.pwState ∧ t.evr.openSeg = [] ∧ t.evr.intake = s.evr.intake) ∧
  (∀ (s : State), s.pwState ≠ pwSNOWDROP ∨ s.fbit PWR_WAKE_EN.EN 0 5 = false ∨ s.fget PWR_WAKE_TIMER.CYCLES 0 = 0 → ∃ t, exec .wakeTimerExpired s = .next t ∧ t = s) ∧
  (∀ (cycles : Word) (v : BootVerdict) (s : State), s.pwr.waking = false ∨ s.pwState ≠ pwSNOWDROP ∨ s.rst.recovery = true → ∃ t, exec (.wake cycles v) s = .next t ∧ t = s) ∧
  (∀ (pin : Fin 4) (s : State), s.timerDue tmWakePin pin.val s.sec_ 10 = false → ∃ t, exec (.wakePinStuck pin) s = .next t ∧ t = s) ∧
  (∀ (pin : Fin 4) (level : Bool) (s : State), s.fon PWR_STAT.PENDING 0 = true → s.pwr.target = pwSNOWDROP → s.pwState ≠ pwSNOWDROP → (s.setWakePin pin.val level).wakePinCalls pin.val = true → ∃ t, exec (.wakePin pin level) s = .next t ∧ t.fon PWR_STAT.PENDING 0 = false ∧ t.fget PWR_STAT.REFUSE 0 = 5 ∧ t.pwr.transportsOff = false ∧ t.pwState = s.pwState) ∧
  (∀ (who : Init) (drain : Bool) (keepFh : Fin 4) (s : State) (cause : Nat), Admitted s who pgPWR 0x040 → s.fon PWR_STAT.PENDING 0 = false → s.pwr.waking = false → s.pwrRefusal pwACTIVE drain = some cause → ∃ t, exec (.powerToActive who drain keepFh) s = .next t ∧ t.refusedWith who = Reason.configLocked.code ∧ t.fget PWR_STAT.REFUSE 0 = cause ∧ t.fon PWR_STAT.PENDING 0 = false ∧ t.pwState = s.pwState ∧ t.pwr = s.pwr) ∧
  (∀ (who : Init) (drain : Bool) (keepFh : Fin 4) (s : State) (cause : Nat), Admitted s who pgPWR 0x040 → s.fon PWR_STAT.PENDING 0 = false → s.pwr.waking = false → s.pwrRefusal pwLEAN drain = some cause → ∃ t, exec (.powerToLean who drain keepFh) s = .next t ∧ t.refusedWith who = Reason.configLocked.code ∧ t.fget PWR_STAT.REFUSE 0 = cause ∧ t.fon PWR_STAT.PENDING 0 = false ∧ t.pwState = s.pwState ∧ t.pwr = s.pwr) ∧
  (∀ (who : Init) (drain : Bool) (keepFh : Fin 4) (s : State) (cause : Nat), Admitted s who pgPWR 0x040 → s.fon PWR_STAT.PENDING 0 = false → s.pwr.waking = false → s.pwrRefusal pwSTANDBY drain = some cause → ∃ t, exec (.powerToStandby who drain keepFh) s = .next t ∧ t.refusedWith who = Reason.configLocked.code ∧ t.fget PWR_STAT.REFUSE 0 = cause ∧ t.fon PWR_STAT.PENDING 0 = false ∧ t.pwState = s.pwState ∧ t.pwr = s.pwr) ∧
  (∀ (who : Init) (drain : Bool) (keepFh : Fin 4) (s : State) (cause : Nat), Admitted s who pgPWR 0x040 → s.fon PWR_STAT.PENDING 0 = false → s.pwr.waking = false → s.pwrRefusal pwSNOWDROP drain = some cause → ∃ t, exec (.powerToSnowdrop who drain keepFh) s = .next t ∧ t.refusedWith who = Reason.configLocked.code ∧ t.fget PWR_STAT.REFUSE 0 = cause ∧ t.fon PWR_STAT.PENDING 0 = false ∧ t.pwState = s.pwState ∧ t.pwr = s.pwr)

/-- Housekeeping converters: scans, conversions, urgent requests, calibration, abort, reference. A start that a ready converter takes begins a scan of the inputs of its mask, others are held or lost; a conversion stores its entry, in interleave HKA1's goes to the entry of HKA0, a reading past the range leaves the value; the last entry ends the scan; an urgent request joins the two; a calibration stores its results; a settled reference resumes. (derived from R428, R429, R430, R431, R432, R433, R434, R435, R436) -/
def Obligations.ConverterCommands : Prop :=
  (∀ (who : Init) (conv : Fin 2) (s : State), Admitted s who pgHKA (hkaCmdOff conv.val) → s.fget HKA_CFG.TRIG conv.val = 0 → s.scansItself conv.val = true → s.scanReady conv.val = true → ∃ t, exec (.hkaStart who conv) s = .next t ∧ Took t who ∧ (t.hka conv.val).chans = maskList (s.fget HKA_SCAN.MASK conv.val) ∧ (t.hka conv.val).entry = 0 ∧ (t.hka conv.val).conv = !(maskList (s.fget HKA_SCAN.MASK conv.val)).isEmpty) ∧
  (∀ (who : Init) (conv : Fin 2) (s : State), Admitted s who pgHKA (hkaCmdOff conv.val) → s.fget HKA_CFG.TRIG conv.val = 0 → s.scansItself conv.val = true → s.scanReady conv.val = false → s.fon HKA_STAT.START_HELD conv.val = false → ∃ t, exec (.hkaStart who conv) s = .next t ∧ Took t who ∧ t.fon HKA_STAT.START_HELD conv.val = true ∧ t.hk = s.hk) ∧
  (∀ (who : Init) (conv : Fin 2) (s : State), Admitted s who pgHKA (hkaCmdOff conv.val) → s.fget HKA_CFG.TRIG conv.val = 0 → s.scansItself conv.val = true → s.scanReady conv.val = false → s.fon HKA_STAT.START_HELD conv.val = true → ∃ t, exec (.hkaStart who conv) s = .next t ∧ Took t who ∧ t.fget HKA_STAT.TRIG_LOST conv.val = min (s.fget HKA_STAT.TRIG_LOST conv.val + 1) (fieldSize HKA_STAT.TRIG_LOST.hi HKA_STAT.TRIG_LOST.lo - 1) ∧ t.hk = s.hk) ∧
  (∀ (conv : Fin 2) (s : State), s.works pgHKA = true → s.timerDue tmHkaScan conv.val s.ms (s.fget HKA_TRIG.PERIOD_MS conv.val) = true → s.scansItself conv.val = true → s.scanReady conv.val = true → ∃ t, exec (.hkaScanTimer conv) s = .next t ∧ t.timerOn tmHkaScan conv.val = true ∧ (t.hka conv.val).chans = maskList (s.fget HKA_SCAN.MASK conv.val) ∧ (t.hka conv.val).entry = 0) ∧
  (∀ (conv : Fin 2) (code : Int) (s : State), s.works pgHKA = true → s.hk.urgOn ≠ some conv.val → conv.val = 0 ∨ s.interleaved = false → (s.hka conv.val).conv = true → s.overRange conv.val (s.vpin conv.val code) = false → (s.hka conv.val).entry + 1 < (s.hka conv.val).chans.length → (s.hka conv.val).chans.length ≤ 32 → ∃ t, exec (.hkaConversionDone conv code) s = .next t ∧ t.fon HKA_RES.VALID (32 * conv.val + (s.hka conv.val).entry) = true ∧ t.fon HKA_RES.STALE (32 * conv.val + (s.hka conv.val).entry) = false ∧ t.fget HKA_RES.SRC (32 * conv.val + (s.hka conv.val).entry) = conv.val ∧ t.fgetI HKA_RES.VALUE (32 * conv.val + (s.hka conv.val).entry) = clampInt (-8388608) 8388607 (s.corrected ((s.hka conv.val).chans.getD (s.hka conv.val).entry 0) (s.vpin conv.val code)) ∧ (t.hka conv.val).entry = (s.hka conv.val).entry + 1) ∧
  (∀ (conv : Fin 2) (code : Int) (s : State), s.works pgHKA = true → s.hk.urgOn = some conv.val → s.overRange conv.val (s.vpin conv.val code) = false → s.hk.urg.length = 1 → ∃ t, exec (.hkaConversionDone conv code) s = .next t ∧ t.fon HKA_URG_RES.VALID 0 = true ∧ t.fon HKA_URG_RES.STALE 0 = false ∧ t.fget HKA_URG_RES.SRC 0 = conv.val ∧ t.fgetI HKA_URG_RES.VALUE 0 = clampInt (-8388608) 8388607 (s.corrected (s.hk.urg.headD (0, 0)).1 (s.vpin conv.val code)) ∧ t.hk.urg = [] ∧ t.hk.urgOn = none) ∧
  (∀ (who : Init) (ch : Fin 32) (div : Fin 8) (s : State), Admitted s who pgHKA 0x080 → div.val ≠ 7 → s.hk.urg.length < 2 → ∃ t, exec (.hkaUrgentRequest who ch div) s = .next t ∧ Took t who ∧ t.hk.urg = s.hk.urg ++ [(ch.val, div.val)] ∧ t.fget HKA_URG.CH 0 = ch.val ∧ t.fget HKA_URG.DIV 0 = div.val) ∧
  (∀ (who : Init) (conv : Fin 2) (s : State), Admitted s who pgHKA (hkaCmdOff conv.val) → s.hkaOn conv.val = true → (s.hka conv.val).cal = false → ∃ t, exec (.hkaCal who conv) s = .next t ∧ Took t who ∧ (t.hka conv.val).cal = true ∧ (t.hka conv.val).conv = false ∧ (s.fon HKA_STAT.REF_SETTLED conv.val = true → t.timerOn tmHkaCal conv.val = true)) ∧
  (∀ (conv : Fin 2) (pass : Bool) (off : BitVec 24) (gain : Word) (s : State), (s.hka conv.val).cal = true → s.timerDue tmHkaCal conv.val s.ms 120 = true → (s.hka conv.val).held = [] → pass = true → ∃ t, exec (.hkaCalDone conv pass off gain) s = .next t ∧ t.fget HKA_CAL_OFF.CAL_OFF conv.val = off.toNat ∧ t.fget HKA_CAL_GAIN.CAL_GAIN conv.val = gain.toNat ∧ t.fget HKA_STAT.CAL_RESULT conv.val = 0 ∧ (t.hka conv.val).cal = false ∧ t.timerOn tmHkaCal conv.val = false) ∧
  (∀ (conv : Fin 2) (pass : Bool) (off : BitVec 24) (gain : Word) (s : State), (s.hka conv.val).cal = true → s.timerDue tmHkaCal conv.val s.ms 120 = true → (s.hka conv.val).held = [] → pass = false → ∃ t, exec (.hkaCalDone conv pass off gain) s = .next t ∧ t.fget HKA_CAL_OFF.CAL_OFF conv.val = s.fget HKA_CAL_OFF.CAL_OFF conv.val ∧ t.fget HKA_STAT.CAL_RESULT conv.val = 1 ∧ (t.hka conv.val).cal = false) ∧
  (∀ (who : Init) (conv : Fin 2) (s : State), Admitted s who pgHKA (hkaCmdOff conv.val) → (s.hka conv.val).cal = true → (s.hka conv.val).held = [] → ∃ t, exec (.hkaAbort who conv) s = .next t ∧ Took t who ∧ t.fget HKA_STAT.CAL_RESULT conv.val = 2 ∧ (t.hka conv.val).cal = false) ∧
  (∀ (mv : Nat) (s : State), s.hkaOn 0 = true → s.fget HKA_CFG.REF 0 = 1 → s.fon HKA_STAT.REF_FALLBACK 0 = false → inWindow mv (s.fget HKA_REFEXT.REFEXT_MV 0) = true → ∃ t, exec (.vrefextCheck mv) s = .next t ∧ (t.hka 0).extOk = true ∧ (t.hka 0).extFails = 0 ∧ t.fon HKA_STAT.REF_FALLBACK 0 = false ∧ ((s.hka 0).extOk = false → t.timerOn tmHkaRef 0 = true)) ∧
  (∀ (mv : Nat) (s : State), s.hkaOn 0 = true → s.fget HKA_CFG.REF 0 = 1 → s.fon HKA_STAT.REF_FALLBACK 0 = false → inWindow mv (s.fget HKA_REFEXT.REFEXT_MV 0) = false → (s.hka 0).extFails = 2 → ∃ t, exec (.vrefextCheck mv) s = .next t ∧ t.fon HKA_STAT.REF_FALLBACK 0 = true ∧ t.fbit EVT_STICKY.STICKY pgHKA evtRange = true) ∧
  (∀ (conv : Fin 2) (s : State), s.hkaOn conv.val = true → s.fon HKA_STAT.REF_SETTLED conv.val = false → s.timerDue tmHkaRef conv.val s.us (s.refSettling conv.val) = true → ∃ t, exec (.refSettled conv) s = .next t ∧ t.fon HKA_STAT.REF_SETTLED conv.val = true ∧ t.timerOn tmHkaRef conv.val = false ∧ ((s.hka conv.val).cal = true → t.timerOn tmHkaCal conv.val = true)) ∧
  (∀ (conv : Fin 2) (s : State), s.works pgHKA = false ∨ s.timerDue tmHkaScan conv.val s.ms (s.fget HKA_TRIG.PERIOD_MS conv.val) = false → ∃ t, exec (.hkaScanTimer conv) s = .next t ∧ t = s) ∧
  (∀ (conv : Fin 2) (code : Int) (s : State), s.works pgHKA = true → s.hk.urgOn ≠ some conv.val → conv.val = 0 ∨ s.interleaved = false → (s.hka conv.val).conv = true → s.overRange conv.val (s.vpin conv.val code) = false → (s.hka conv.val).chans.length ≤ (s.hka conv.val).entry + 1 → (s.hka conv.val).entry < 32 → s.fget HKA_CFG.TRIG conv.val = 0 → s.fon HKA_STAT.START_HELD conv.val = false → ∃ t, exec (.hkaConversionDone conv code) s = .next t ∧ t.fon HKA_RES.VALID (32 * conv.val + (s.hka conv.val).entry) = true ∧ t.fgetI HKA_RES.VALUE (32 * conv.val + (s.hka conv.val).entry) = clampInt (-8388608) 8388607 (s.corrected ((s.hka conv.val).chans.getD (s.hka conv.val).entry 0) (s.vpin conv.val code)) ∧ (t.hka conv.val).chans = [] ∧ (t.hka conv.val).conv = false ∧ t.fget HKA_COUNT.SCANS conv.val = (s.fget HKA_COUNT.SCANS conv.val + 1) % fieldSize HKA_COUNT.SCANS.hi HKA_COUNT.SCANS.lo) ∧
  (∀ (conv : Fin 2) (code : Int) (s : State) (n : Nat), s.works pgHKA = true → s.hk.urgOn ≠ some conv.val → conv.val = 1 → s.interleaved = true → (s.hka 1).twin = some n → s.fon HKA_STAT.REF_SETTLED 1 = true → (s.hka 1).cal = false → s.overRange 1 (s.vpin 1 code) = false → ∃ t, exec (.hkaConversionDone conv code) s = .next t ∧ t.fon HKA_RES.VALID 0 = true ∧ t.fget HKA_RES.SRC 0 = 1 ∧ t.fgetI HKA_RES.VALUE 0 = clampInt (-8388608) 8388607 (s.corrected n (s.vpin 1 code)) ∧ (t.hka 1).twin = none ∧ (t.hka 0).entry = (s.hka 0).entry) ∧
  (∀ (conv : Fin 2) (code : Int) (s : State), s.works pgHKA = true → s.hk.urgOn ≠ some conv.val → conv.val = 0 ∨ s.interleaved = false → (s.hka conv.val).conv = true → s.overRange conv.val (s.vpin conv.val code) = true → (s.hka conv.val).entry + 1 < (s.hka conv.val).chans.length → (s.hka conv.val).chans.length ≤ 32 → ∃ t, exec (.hkaConversionDone conv code) s = .next t ∧ t.fon HKA_RES.STALE (32 * conv.val + (s.hka conv.val).entry) = true ∧ t.fget HKA_RES.VALUE (32 * conv.val + (s.hka conv.val).entry) = s.fget HKA_RES.VALUE (32 * conv.val + (s.hka conv.val).entry) ∧ (t.hka conv.val).entry = (s.hka conv.val).entry + 1) ∧
  (∀ (conv : Fin 2) (code : Int) (s : State), s.works pgHKA = false ∨ (s.hk.urgOn ≠ some conv.val ∧ (conv.val = 0 ∨ s.interleaved = false) ∧ (s.hka conv.val).conv = false) → ∃ t, exec (.hkaConversionDone conv code) s = .next t ∧ t = s) ∧
  (∀ (conv : Fin 2) (code : Int) (s : State), conv.val = 1 → s.hk.urgOn ≠ some 1 → s.interleaved = true → (s.hka 1).twin = none → ∃ t, exec (.hkaConversionDone conv code) s = .next t ∧ t = s) ∧
  (∀ (conv : Fin 2) (pass : Bool) (off : BitVec 24) (gain : Word) (s : State), (s.hka conv.val).cal = false ∨ s.timerDue tmHkaCal conv.val s.ms 120 = false → ∃ t, exec (.hkaCalDone conv pass off gain) s = .next t ∧ t = s) ∧
  (∀ (who : Init) (conv : Fin 2) (s : State), Admitted s who pgHKA (hkaCmdOff conv.val) → (s.hka conv.val).cal = false → s.fget HKA_CFG.TRIG conv.val ≠ 3 → s.fon HKA_STAT.START_HELD conv.val = false → ∃ t, exec (.hkaAbort who conv) s = .next t ∧ Took t who ∧ (t.hka conv.val).chans = [] ∧ (t.hka conv.val).conv = false ∧ ((s.hka conv.val).conv = true → t.fget HKA_STAT.ABORTS conv.val = min (s.fget HKA_STAT.ABORTS conv.val + 1) (fieldSize HKA_STAT.ABORTS.hi HKA_STAT.ABORTS.lo - 1))) ∧
  (∀ (conv : Fin 2) (s : State), s.hkaOn conv.val = false ∨ s.fon HKA_STAT.REF_SETTLED conv.val = true ∨ s.timerDue tmHkaRef conv.val s.us (s.refSettling conv.val) = false → ∃ t, exec (.refSettled conv) s = .next t ∧ t = s)

/-- Supply PWM: periods, current limit, enable and disable, trips, retries, clear. A period opens with its pulse width, that of the ramp in a soft start, which ends in RUN; an assertion before the sample waits for it, a later one cuts and counts the period or trips the channel, one while OFF is timed; an enable begins a soft start, a disable ends it; a trip is retried after HOLD_MS while retries are left and then latches until it is cleared. (derived from R428, R437, R438, R439, R440, R441) -/
def Obligations.PwmCommands : Prop :=
  (∀ (ch : Fin 8) (s : State), s.works pgPWM = true → s.pwmState ch.val = pwmRUN → (s.pwm ch.val).running = false → (s.pwm ch.val).pend = false → s.fon PWM_STAT.ILIM ch.val = false → ∃ t, exec (.pwmPeriodStart ch) s = .next t ∧ (t.pwm ch.val).running = true ∧ (t.pwm ch.val).limited = false ∧ (t.pwm ch.val).pend = false ∧ (t.pwm ch.val).h = s.pwmTarget ch.val ∧ t.fget PWM_STAT.H_NOW ch.val = s.pwmTarget ch.val % 65536 ∧ t.pwmState ch.val = pwmRUN) ∧
  (∀ (ch : Fin 8) (s : State), s.works pgPWM = true → s.pwmState ch.val = pwmSOFT → (s.pwm ch.val).running = true → (s.pwm ch.val).limited = false → (s.pwm ch.val).pend = false → (s.pwm ch.val).u + 1 < s.pwmSs ch.val → ∃ t, exec (.pwmPeriodStart ch) s = .next t ∧ (t.pwm ch.val).running = true ∧ (t.pwm ch.val).u = (s.pwm ch.val).u + 1 ∧ (t.pwm ch.val).row = 0 ∧ (t.pwm ch.val).h = (s.setPwm ch.val { s.pwm ch.val with u := (s.pwm ch.val).u + 1 }).pwmRamp ch.val ∧ t.pwmState ch.val = pwmSOFT) ∧
  (∀ (ch : Fin 8) (s : State), s.works pgPWM = true → s.pwmState ch.val = pwmSOFT → (s.pwm ch.val).running = true → (s.pwm ch.val).limited = false → (s.pwm ch.val).pend = false → s.pwmSs ch.val ≤ (s.pwm ch.val).u + 1 → ∃ t, exec (.pwmPeriodStart ch) s = .next t ∧ t.pwmState ch.val = pwmRUN ∧ (t.pwm ch.val).h = s.pwmTarget ch.val ∧ t.timerOn tmPwmRun ch.val = true) ∧
  (∀ (ch : Fin 8) (s : State), s.works pgPWM = false ∨ (s.pwmState ch.val ≠ pwmSOFT ∧ s.pwmState ch.val ≠ pwmRUN) → ∃ t, exec (.pwmPeriodStart ch) s = .next t ∧ t = s) ∧
  (∀ (ch : Fin 8) (level : IlimEdge) (s : State), (level.high == s.fon PWM_ILIM.ILIM_POL ch.val) = false → (s.pwm ch.val).pend = false → ∃ t, exec (.ilimAssert ch level) s = .next t ∧ t.fon PWM_STAT.ILIM ch.val = false ∧ (t.pwm ch.val).ignored = false ∧ t.timerOn tmIlimOff ch.val = false ∧ t.pwmState ch.val = s.pwmState ch.val) ∧
  (∀ (ch : Fin 8) (level : IlimEdge) (s : State), (level.high == s.fon PWM_ILIM.ILIM_POL ch.val) = true → (s.pwm ch.val).ignored = false → s.pwmState ch.val = pwmOFF → ∃ t, exec (.ilimAssert ch level) s = .next t ∧ t.fon PWM_STAT.ILIM ch.val = true ∧ t.timerOn tmIlimOff ch.val = true ∧ t.pwmState ch.val = pwmOFF) ∧
  (∀ (ch : Fin 8) (level : IlimEdge) (s : State), (level.high == s.fon PWM_ILIM.ILIM_POL ch.val) = true → (s.pwm ch.val).ignored = false → s.pwmState ch.val ≠ pwmOFF → (s.pwm ch.val).running = true → 0 < (s.pwm ch.val).h → level.at_ < s.pwmSample ch.val → ∃ t, exec (.ilimAssert ch level) s = .next t ∧ t.fon PWM_STAT.ILIM ch.val = true ∧ (t.pwm ch.val).pend = true ∧ (t.pwm ch.val).limited = (s.pwm ch.val).limited ∧ t.fget PWM_CNT.LIMITED ch.val = s.fget PWM_CNT.LIMITED ch.val ∧ t.pwmState ch.val = s.pwmState ch.val) ∧
  (∀ (ch : Fin 8) (level : IlimEdge) (s : State), (level.high == s.fon PWM_ILIM.ILIM_POL ch.val) = true → (s.pwm ch.val).ignored = false → s.pwmState ch.val ≠ pwmOFF → (s.pwm ch.val).running = true → (s.pwm ch.val).limited = false → s.pwmSample ch.val ≤ level.at_ → level.at_ < s.fget PWM_CFG.DT ch.val + (s.pwm ch.val).h → (s.pwm ch.val).row + 1 < s.fget PWM_SS.ILIM_N ch.val → ∃ t, exec (.ilimAssert ch level) s = .next t ∧ t.fon PWM_STAT.ILIM ch.val = true ∧ (0 < (s.pwm ch.val).h → (t.pwm ch.val).limited = true) ∧ (0 < (s.pwm ch.val).h → (t.pwm ch.val).cut = some level.at_) ∧ (0 < (s.pwm ch.val).h → (t.pwm ch.val).row = (s.pwm ch.val).row + 1) ∧ (0 < (s.pwm ch.val).h → t.fget PWM_CNT.LIMITED ch.val = min (s.fget PWM_CNT.LIMITED ch.val + 1) (fieldSize PWM_CNT.LIMITED.hi PWM_CNT.LIMITED.lo - 1)) ∧ t.pwmState ch.val = s.pwmState ch.val) ∧
  (∀ (ch : Fin 8) (level : IlimEdge) (s : State), (level.high == s.fon PWM_ILIM.ILIM_POL ch.val) = true → (s.pwm ch.val).ignored = false → s.pwmState ch.val ≠ pwmOFF → (s.pwm ch.val).running = true → (s.pwm ch.val).limited = false → 0 < (s.pwm ch.val).h → s.pwmSample ch.val ≤ level.at_ → level.at_ < s.fget PWM_CFG.DT ch.val + (s.pwm ch.val).h → s.fget PWM_SS.ILIM_N ch.val ≤ (s.pwm ch.val).row + 1 → ∃ t, exec (.ilimAssert ch level) s = .next t ∧ t.pwmState ch.val = pwmTRIPPED ∧ (t.pwm ch.val).running = false ∧ t.timerOn tmPwmHold ch.val = true ∧ t.timerOn tmPwmRun ch.val = false) ∧
  (∀ (ch : Fin 8) (s : State), s.pwmState ch.val = pwmOFF → s.fon PWM_STAT.ILIM ch.val = true → s.timerDue tmIlimOff ch.val s.ms 1 = true → ∃ t, exec (.ilimOffTimeout ch) s = .next t ∧ (t.pwm ch.val).ignored = true ∧ t.timerOn tmIlimOff ch.val = false ∧ t.pwmState ch.val = pwmOFF) ∧
  (∀ (who : Init) (ch : Fin 8) (s : State), Admitted s who pgPWM (0x40 + 32 * ch.val) → (regAt pgPWM (0x40 + 32 * ch.val)).all (fun r => rangesOk pgPWM (0x40 + 32 * ch.val) (r.merge (s.word (PWM_CFG.EN.key ch.val)) (s.pwmCfgWord ch.val 1))) = true → pwmFits (s.pwmCfgWord ch.val 1) = true → s.pwmState ch.val = pwmOFF → s.fon PWM_CFG.EN ch.val = false → ∃ t, exec (.pwmEnable who ch) s = .next t ∧ Took t who ∧ t.fon PWM_CFG.EN ch.val = true ∧ t.pwmState ch.val = pwmSOFT ∧ (t.pwm ch.val).u = 0 ∧ (t.pwm ch.val).running = false) ∧
  (∀ (who : Init) (ch : Fin 8) (s : State), Admitted s who pgPWM (0x40 + 32 * ch.val) → (regAt pgPWM (0x40 + 32 * ch.val)).all (fun r => rangesOk pgPWM (0x40 + 32 * ch.val) (r.merge (s.word (PWM_CFG.EN.key ch.val)) (s.pwmCfgWord ch.val 0))) = true → pwmFits (s.pwmCfgWord ch.val 0) = true → s.fon PWM_CFG.EN ch.val = true → ∃ t, exec (.pwmDisable who ch) s = .next t ∧ Took t who ∧ t.fon PWM_CFG.EN ch.val = false ∧ t.pwmState ch.val = pwmOFF ∧ t.fget PWM_STAT.H_NOW ch.val = 0 ∧ (t.pwm ch.val).running = false) ∧
  (∀ (ch : Fin 8) (s : State), s.pwmState ch.val = pwmTRIPPED → s.timerDue tmPwmHold ch.val s.ms (s.fget PWM_ILIM.HOLD_MS ch.val) = true → s.fget PWM_STAT.RETRIES ch.val < s.fget PWM_ILIM.RETRY_LIMIT ch.val → ∃ t, exec (.pwmHoldExpired ch) s = .next t ∧ t.pwmState ch.val = pwmSOFT ∧ t.fget PWM_STAT.RETRIES ch.val = s.fget PWM_STAT.RETRIES ch.val + 1 ∧ t.timerOn tmPwmHold ch.val = false) ∧
  (∀ (ch : Fin 8) (s : State), s.pwmState ch.val = pwmTRIPPED → s.timerDue tmPwmHold ch.val s.ms (s.fget PWM_ILIM.HOLD_MS ch.val) = true → s.fget PWM_ILIM.RETRY_LIMIT ch.val ≤ s.fget PWM_STAT.RETRIES ch.val → ∃ t, exec (.pwmHoldExpired ch) s = .next t ∧ t.pwmState ch.val = pwmLATCHED ∧ t.fget PWM_STAT.RETRIES ch.val = s.fget PWM_STAT.RETRIES ch.val ∧ t.timerOn tmPwmHold ch.val = false) ∧
  (∀ (who : Init) (ch : Fin 8) (s : State), Admitted s who pgPWM (0x58 + 32 * ch.val) → s.pwmState ch.val = pwmLATCHED → ∃ t, exec (.pwmClear who ch) s = .next t ∧ Took t who ∧ t.pwmState ch.val = (if s.fon PWM_CFG.EN ch.val then pwmSOFT else pwmOFF) ∧ t.fget PWM_STAT.RETRIES ch.val = 0 ∧ t.fget PWM_STAT.H_NOW ch.val = 0) ∧
  (∀ (ch : Fin 8) (s : State), s.pwmState ch.val = pwmRUN → s.timerDue tmPwmRun ch.val s.sec_ 10 = true → ∃ t, exec (.pwmRunTimer ch) s = .next t ∧ t.fget PWM_STAT.RETRIES ch.val = 0 ∧ t.timerOn tmPwmRun ch.val = false ∧ t.pwmState ch.val = pwmRUN ∧ t.hk = s.hk) ∧
  (∀ (ch : Fin 8) (s : State), s.pwmState ch.val ≠ pwmOFF ∨ s.fon PWM_STAT.ILIM ch.val = false ∨ s.timerDue tmIlimOff ch.val s.ms 1 = false → ∃ t, exec (.ilimOffTimeout ch) s = .next t ∧ t = s) ∧
  (∀ (ch : Fin 8) (s : State), s.pwmState ch.val ≠ pwmTRIPPED ∨ s.timerDue tmPwmHold ch.val s.ms (s.fget PWM_ILIM.HOLD_MS ch.val) = false → ∃ t, exec (.pwmHoldExpired ch) s = .next t ∧ t = s) ∧
  (∀ (ch : Fin 8) (s : State), s.pwmState ch.val ≠ pwmRUN ∨ s.timerDue tmPwmRun ch.val s.sec_ 10 = false → ∃ t, exec (.pwmRunTimer ch) s = .next t ∧ t = s) ∧
  (∀ (who : Init) (ch : Fin 8) (s : State), Admitted s who pgPWM (0x58 + 32 * ch.val) → s.pwmState ch.val ≠ pwmLATCHED → ∃ t, exec (.pwmClear who ch) s = .next t ∧ Took t who ∧ t.pwmState ch.val = s.pwmState ch.val ∧ t.fget PWM_STAT.RETRIES ch.val = s.fget PWM_STAT.RETRIES ch.val)

/-- Fans and temperatures: edges, stall, failure, readings, lost sensors, rate, comparators. An edge starts a stopped fan and a too early one is discarded; after PPR + 1 edges the fan runs and shows its speed, and two edges against its direction reverse it; a fan without edges stops; one that stays bad fails; a reading is filtered over three and shown or, out of range, discarded, a sensor without readings is lost; the rate follows T_MAX; a comparator shows in HARD. (derived from R428, R442, R443, R444, R445, R446, R447, R448) -/
def Obligations.FanAndThermalCommands : Prop :=
  (∀ (fan : Fin 8) (gap : Nat) (dir : Bool) (s : State), s.works pgFAN = true → s.fon FAN_CFG.EN fan.val = true → s.fanState fan.val = fanSTOPPED → ∃ t, exec (.tachEdge fan gap dir) s = .next t ∧ t.fanState fan.val = fanSTARTING ∧ (t.fan fan.val).edges = 1 ∧ (t.fan fan.val).gaps = [] ∧ t.timerOn tmFanStall fan.val = true) ∧
  (∀ (fan : Fin 8) (gap : Nat) (dir : Bool) (s : State), s.works pgFAN = true → s.fon FAN_CFG.EN fan.val = true → s.fanState fan.val ≠ fanSTOPPED → s.gapShort fan.val gap = true → ∃ t, exec (.tachEdge fan gap dir) s = .next t ∧ t.fget FAN_CNT.DISCARDED fan.val = min (s.fget FAN_CNT.DISCARDED fan.val + 1) (fieldSize FAN_CNT.DISCARDED.hi FAN_CNT.DISCARDED.lo - 1) ∧ t.hk = s.hk ∧ t.fanState fan.val = s.fanState fan.val) ∧
  (∀ (fan : Fin 8) (s : State), s.fon FAN_CFG.EN fan.val = true → s.timerDue tmFanStall fan.val s.ms (s.fget FAN_TIME.STALL_MS fan.val) = true → ∃ t, exec (.fanStallTimeout fan) s = .next t ∧ t.fanState fan.val = fanSTOPPED ∧ t.fget FAN_SPEED.RPM fan.val = 0 ∧ t.timerOn tmFanStall fan.val = false ∧ t.fan fan.val = {} ∧ t.fbit EVT_LEVEL.LEVEL pgFAN evtLoss = true) ∧
  (∀ (fan : Fin 8) (s : State), s.fanTested fan.val = true → s.fanBad fan.val = true → s.timerDue tmFanFail fan.val s.ms (s.fget FAN_TIME.FAIL_MS fan.val) = true → ∃ t, exec (.fanFailTimeout fan) s = .next t ∧ t.fon FAN_SPEED.FAILED fan.val = true ∧ Tbl.get (fun _ => false) t.flt.drive 157 = true ∧ t.hk = s.hk) ∧
  (∀ (sensor : Fin 16) (tk : Int) (s : State), s.works pgTHM = true → -3520 ≤ tk → tk ≤ 9600 → ∃ t, exec (.sensorReading sensor tk) s = .next t ∧ t.readings sensor.val = (tk :: s.readings sensor.val).take 3 ∧ t.fon THM_T.VALID sensor.val = true ∧ t.fbit THM_RATE.LOST 0 sensor.val = false ∧ t.timerOn tmSensor sensor.val = true ∧ (s.readings sensor.val = [] → t.fgetI THM_T.T sensor.val = tk)) ∧
  (∀ (sensor : Fin 16) (s : State), s.timerDue tmSensor sensor.val s.ms 10 = true → ∃ t, exec (.sensorTimeout sensor) s = .next t ∧ t.fon THM_T.VALID sensor.val = false ∧ t.fbit THM_RATE.LOST 0 sensor.val = true ∧ t.readings sensor.val = []) ∧
  (∀ (s : State), s.works pgTHM = true → s.tMax ≠ noTemp → ∃ t, exec .thermalRateUpdate s = .next t ∧ t.hk.tHist = (s.tMax :: s.hk.tHist).take 10 ∧ t.fgetI THM_RATE.RATE 0 = ((s.hk.tHist[9]?).map (rateOf s.tMax)).getD 0) ∧
  (∀ (s : State), s.works pgTHM = true → s.tMax = noTemp → ∃ t, exec .thermalRateUpdate s = .next t ∧ t.hk.tHist = [] ∧ t.fget THM_RATE.RATE 0 = 0) ∧
  (∀ (sensor : Fin 16) (on : Bool) (s : State), on = true → ∃ t, exec (.hardTempComparator sensor on) s = .next t ∧ Tbl.get (fun _ => false) t.hk.hard sensor.val = true ∧ t.fon THM_STAT.HARD 0 = true ∧ Tbl.get (fun _ => false) t.flt.drive 154 = true) ∧
  (∀ (sensor : Fin 16) (on : Bool) (s : State), on = false → (∀ n : Fin 16, n ≠ sensor → Tbl.get (fun _ => false) s.hk.hard n.val = false) → ∃ t, exec (.hardTempComparator sensor on) s = .next t ∧ Tbl.get (fun _ => false) t.hk.hard sensor.val = false ∧ t.fon THM_STAT.HARD 0 = false ∧ Tbl.get (fun _ => false) t.flt.drive 154 = false) ∧
  (∀ (fan : Fin 8) (gap : Nat) (dir : Bool) (s : State), s.works pgFAN = true → s.fon FAN_CFG.EN fan.val = true → s.fanState fan.val = fanSTARTING → s.gapShort fan.val gap = false → s.fon FAN_CFG.DIR_EN fan.val = false → 0 < (s.fan fan.val).edges → (s.fan fan.val).edges < s.fanPpr fan.val → ∃ t, exec (.tachEdge fan gap dir) s = .next t ∧ t.fanState fan.val = fanSTARTING ∧ (t.fan fan.val).edges = min ((s.fan fan.val).edges + 1) 5 ∧ (t.fan fan.val).gaps = (gap :: (s.fan fan.val).gaps).take 4 ∧ t.timerOn tmFanStall fan.val = true) ∧
  (∀ (fan : Fin 8) (gap : Nat) (dir : Bool) (s : State), s.works pgFAN = true → s.fon FAN_CFG.EN fan.val = true → s.fanState fan.val = fanSTARTING ∨ s.fanState fan.val = fanRUNNING → s.gapShort fan.val gap = false → s.fon FAN_CFG.DIR_EN fan.val = false → s.fanPpr fan.val ≤ (s.fan fan.val).edges → ∃ t, exec (.tachEdge fan gap dir) s = .next t ∧ t.fanState fan.val = fanRUNNING ∧ t.fgetI FAN_SPEED.RPM fan.val = toSigned (ofSigned (openRound s.freeVal 60000000000 ((gap :: (s.fan fan.val).gaps).take (s.fanPpr fan.val)).sum) 65536) 65536) ∧
  (∀ (fan : Fin 8) (gap : Nat) (dir : Bool) (s : State), s.works pgFAN = true → s.fon FAN_CFG.EN fan.val = true → s.fanState fan.val = fanRUNNING → s.gapShort fan.val gap = false → s.fon FAN_CFG.DIR_EN fan.val = true → (s.fan fan.val).last = some (dir != s.fon FAN_CFG.DIR_POL fan.val) → (s.fon FAN_SPEED.DIR fan.val == (dir != s.fon FAN_CFG.DIR_POL fan.val)) = false → ∃ t, exec (.tachEdge fan gap dir) s = .next t ∧ t.fanState fan.val = fanREVERSING ∧ t.fget FAN_SPEED.RPM fan.val = 0 ∧ t.fon FAN_SPEED.DIR fan.val = (dir != s.fon FAN_CFG.DIR_POL fan.val) ∧ t.fget FAN_CNT.REVERSALS fan.val = min (s.fget FAN_CNT.REVERSALS fan.val + 1) (fieldSize FAN_CNT.REVERSALS.hi FAN_CNT.REVERSALS.lo - 1)) ∧
  (∀ (fan : Fin 8) (gap : Nat) (dir : Bool) (s : State), s.works pgFAN = false ∨ s.fon FAN_CFG.EN fan.val = false → ∃ t, exec (.tachEdge fan gap dir) s = .next t ∧ t = s) ∧
  (∀ (fan : Fin 8) (s : State), s.fon FAN_CFG.EN fan.val = false ∨ s.timerDue tmFanStall fan.val s.ms (s.fget FAN_TIME.STALL_MS fan.val) = false → ∃ t, exec (.fanStallTimeout fan) s = .next t ∧ t = s) ∧
  (∀ (fan : Fin 8) (s : State), s.fanTested fan.val = false ∨ s.fanBad fan.val = false ∨ s.timerDue tmFanFail fan.val s.ms (s.fget FAN_TIME.FAIL_MS fan.val) = false → ∃ t, exec (.fanFailTimeout fan) s = .next t ∧ t = s) ∧
  (∀ (sensor : Fin 16) (tk : Int) (s : State), s.works pgTHM = true → tk < -3520 ∨ 9600 < tk → ∃ t, exec (.sensorReading sensor tk) s = .next t ∧ t.hk = s.hk ∧ t.fgetI THM_T.T sensor.val = s.fgetI THM_T.T sensor.val ∧ t.fgetI THM_STAT.T_MAX 0 = s.fgetI THM_STAT.T_MAX 0) ∧
  (∀ (sensor : Fin 16) (tk : Int) (s : State) (a : Int) (b : Int) (l : List Int), s.works pgTHM = true → -3520 ≤ tk → tk ≤ 9600 → s.readings sensor.val = a :: b :: l → ∃ t, exec (.sensorReading sensor tk) s = .next t ∧ (-32768 ≤ medianI tk a b → medianI tk a b ≤ 32767 → t.fgetI THM_T.T sensor.val = medianI tk a b)) ∧
  (∀ (sensor : Fin 16) (tk : Int) (s : State), s.works pgTHM = false → ∃ t, exec (.sensorReading sensor tk) s = .next t ∧ t = s) ∧
  (∀ (sensor : Fin 16) (s : State), s.timerDue tmSensor sensor.val s.ms 10 = false → ∃ t, exec (.sensorTimeout sensor) s = .next t ∧ t = s) ∧
  (∀ (s : State), s.works pgTHM = false → ∃ t, exec .thermalRateUpdate s = .next t ∧ t = s)

/-- Two-wire controllers: GO, start, end, arbitration, timeout, recovery, attention, disable. A GO queues the staged transaction, ends at once on a controller that is off or stuck, and is refused while one is pending or malformed; a free bus starts the oldest; an end stores its result or, where it is retried, returns it to the head; an alert response stores its address; a bus held low recovers or is stuck; a disable ends all. (derived from R454, R457, R458, R459, R460, R461, R462, R463) -/
def Obligations.TwoWireControllerCommands : Prop :=
  (∀ (who : Init) (bus : Fin 4) (s : State), Admitted s who (twbPage bus.val) 0x048 → s.fon (TWB_RES.PENDING bus.val) who.holder = false → (s.twbStaged bus.val who.holder).ok = true → s.twbState bus.val ≠ twOFF → s.twbState bus.val ≠ twSTUCK → ∃ t, exec (.twbGo who bus) s = .next t ∧ Took t who ∧ (t.twbOf bus.val).queue = (s.twbOf bus.val).queue ++ [s.twbStaged bus.val who.holder] ∧ (t.twbOf bus.val).running = (s.twbOf bus.val).running ∧ t.fon (TWB_RES.PENDING bus.val) who.holder = true) ∧
  (∀ (who : Init) (bus : Fin 4) (s : State), Admitted s who (twbPage bus.val) 0x048 → s.fon (TWB_RES.PENDING bus.val) who.holder = false → (s.twbStaged bus.val who.holder).ok = true → s.twbState bus.val = twOFF → ∃ t, exec (.twbGo who bus) s = .next t ∧ Took t who ∧ t.twbOf bus.val = s.twbOf bus.val ∧ t.fget (TWB_RES.RESULT bus.val) who.holder = 10 ∧ t.fon (TWB_RES.DONE bus.val) who.holder = true ∧ t.fon (TWB_RES.PENDING bus.val) who.holder = false) ∧
  (∀ (bus : Fin 4) (s : State) (x : TwbTxn) (rest : List TwbTxn), s.works (twbPage bus.val) = true → (s.twbOf bus.val).queue = x :: rest → s.twbState bus.val = twIDLE → ∃ t, exec (.twbTransactionStart bus) s = .next t ∧ (t.twbOf bus.val).running = some { x with attempts := x.attempts + 1 } ∧ (t.twbOf bus.val).queue = rest ∧ t.twbState bus.val = twOWN) ∧
  (∀ (bus : Fin 4) (reply : TwbReply) (s : State) (x : TwbTxn) (h : Nat), (s.twbOf bus.val).running = some x → x.holder = some h → twbRetried (x.ended reply).result = false → ∃ t, exec (.twbTransactionEnd bus reply) s = .next t ∧ (t.twbOf bus.val).running = none ∧ (t.twbOf bus.val).queue = (s.twbOf bus.val).queue ∧ t.twbState bus.val = twIDLE ∧ t.fon (TWB_RES.DONE bus.val) h = true ∧ t.fon (TWB_RES.PENDING bus.val) h = false ∧ t.fget (TWB_RES.RESULT bus.val) h = (x.ended reply).result % 64 ∧ t.fget (TWB_RES.ATTEMPTS bus.val) h = min x.attempts 15) ∧
  (∀ (bus : Fin 4) (reply : TwbReply) (s : State) (x : TwbTxn), (s.twbOf bus.val).running = some x → twbRetried (x.ended reply).result = true → x.attempts ≤ s.fget TWB_CFG.RETRY bus.val → ∃ t, exec (.twbTransactionEnd bus reply) s = .next t ∧ (t.twbOf bus.val).running = none ∧ (t.twbOf bus.val).queue = x :: (s.twbOf bus.val).queue ∧ t.twbState bus.val = twIDLE) ∧
  (∀ (bus : Fin 4) (at_ : ArbPoint) (s : State) (x : TwbTxn) (h : Nat), (s.twbOf bus.val).running = some x → x.holder = some h → s.fget TWB_CFG.RETRY bus.val < x.attempts → ∃ t, exec (.twbArbitrationLost bus at_) s = .next t ∧ (t.twbOf bus.val).running = none ∧ t.twbState bus.val = twOTHER ∧ t.fget TWB_CNT.ARB_LOST bus.val = min (s.fget TWB_CNT.ARB_LOST bus.val + 1) (fieldSize TWB_CNT.ARB_LOST.hi TWB_CNT.ARB_LOST.lo - 1) ∧ t.fget (TWB_RES.RESULT bus.val) h = (x.lost at_).result % 64 ∧ t.fon (TWB_RES.DONE bus.val) h = true) ∧
  (∀ (bus : Fin 4) (s : State) (x : TwbTxn) (h : Nat), (s.twbOf bus.val).running = some x → x.holder = some h → ∃ t, exec (.twbTimeout bus) s = .next t ∧ (t.twbOf bus.val).running = none ∧ t.twbState bus.val = twRECOVERING ∧ t.fget TWB_CNT.TIMEOUTS bus.val = min (s.fget TWB_CNT.TIMEOUTS bus.val + 1) (fieldSize TWB_CNT.TIMEOUTS.hi TWB_CNT.TIMEOUTS.lo - 1) ∧ t.fget (TWB_RES.RESULT bus.val) h = 8 ∧ t.fon (TWB_RES.DONE bus.val) h = true) ∧
  (∀ (bus : Fin 4) (ok : Bool) (s : State), s.twbState bus.val = twRECOVERING → ok = true → ∃ t, exec (.twbBusRecoveryDone bus ok) s = .next t ∧ t.twbState bus.val = twIDLE ∧ (t.twbOf bus.val).retrying = false ∧ (t.twbOf bus.val).queue = (s.twbOf bus.val).queue ∧ t.timerOn tmTwbRetry bus.val = false) ∧
  (∀ (bus : Fin 4) (ok : Bool) (s : State), s.twbState bus.val = twRECOVERING → ok = false → ∃ t, exec (.twbBusRecoveryDone bus ok) s = .next t ∧ t.twbState bus.val = twSTUCK ∧ (t.twbOf bus.val).running = none ∧ (t.twbOf bus.val).queue = [] ∧ t.timerOn tmTwbRetry bus.val = true) ∧
  (∀ (bus : Fin 4) (s : State), s.twbState bus.val = twSTUCK → s.timerDue tmTwbRetry bus.val s.ms 100 = true → ∃ t, exec (.twbRecoveryRetry bus) s = .next t ∧ (t.twbOf bus.val).retrying = true ∧ t.timerOn tmTwbRetry bus.val = false ∧ t.twbState bus.val = twSTUCK) ∧
  (∀ (bus : Fin 4) (s : State), s.twbState bus.val = twOTHER → ∃ t, exec (.twbIdleDetect bus) s = .next t ∧ t.twbState bus.val = twIDLE ∧ t.twb = s.twb) ∧
  (∀ (bus : Fin 4) (s : State), s.twbState bus.val = twIDLE → s.fon TWB_CFG.ATTN_EN bus.val = true → ∃ t, exec (.twbAttention bus) s = .next t ∧ (t.twbOf bus.val).queue = { holder := none, prot := 11, pec := false, addr := 0x0C, cmd := 0, len := 1, data := [] } :: (s.twbOf bus.val).queue ∧ t.regs = s.regs) ∧
  (∀ (who : Init) (bus : Fin 4) (s : State), Admitted s who (twbPage bus.val) 0x040 → s.fget TWB_CFG.SPEED bus.val ≠ 3 → s.fon TWB_CFG.EN bus.val = true → (regAt (twbPage bus.val) 0x040).all (fun r => rangesOk (twbPage bus.val) 0x040 (r.merge (s.word (TWB_CFG.EN.key bus.val)) (putBits (s.word (TWB_CFG.EN.key bus.val)) 31 31 0))) = true → ∃ t, exec (.twbDisable who bus) s = .next t ∧ Took t who ∧ t.fon TWB_CFG.EN bus.val = false ∧ t.twbState bus.val = twOFF ∧ t.twbOf bus.val = {} ∧ t.timerOn tmTwbRetry bus.val = false) ∧
  (∀ (bus : Fin 4) (sda : Bool) (s : State), s.twbState bus.val = twIDLE → ∃ t, exec (.idleBusHeldLow bus sda) s = .next t ∧ t.twbState bus.val = twRECOVERING ∧ t.twb = s.twb) ∧
  (∀ (who : Init) (bus : Fin 4) (s : State), Admitted s who (twbPage bus.val) 0x048 → s.fon (TWB_RES.PENDING bus.val) who.holder = false → (s.twbStaged bus.val who.holder).ok = true → s.twbState bus.val = twSTUCK → ∃ t, exec (.twbGo who bus) s = .next t ∧ Took t who ∧ t.twbOf bus.val = s.twbOf bus.val ∧ t.fget (TWB_RES.RESULT bus.val) who.holder = 9 ∧ t.fon (TWB_RES.DONE bus.val) who.holder = true ∧ t.fon (TWB_RES.PENDING bus.val) who.holder = false) ∧
  (∀ (who : Init) (bus : Fin 4) (s : State), Admitted s who (twbPage bus.val) 0x048 → s.fon (TWB_RES.PENDING bus.val) who.holder = true ∨ (s.twbStaged bus.val who.holder).ok = false → ∃ t, exec (.twbGo who bus) s = .next t ∧ t.refusedWith who = (if s.fon (TWB_RES.PENDING bus.val) who.holder then Reason.windowBusy.code else Reason.outOfRange.code) ∧ t.twb = s.twb) ∧
  (∀ (bus : Fin 4) (s : State), s.works (twbPage bus.val) = false ∨ (s.twbOf bus.val).queue = [] ∨ s.twbState bus.val ≠ twIDLE → ∃ t, exec (.twbTransactionStart bus) s = .next t ∧ t = s) ∧
  (∀ (bus : Fin 4) (reply : TwbReply) (s : State) (x : TwbTxn), (s.twbOf bus.val).running = some x → x.holder = none → twbRetried (x.ended reply).result = false → (x.ended reply).result = 0 → ∃ t, exec (.twbTransactionEnd bus reply) s = .next t ∧ (t.twbOf bus.val).running = none ∧ t.twbState bus.val = twIDLE ∧ t.fget TWB_ATTN.ADDR bus.val = ((x.ended reply).data.headD 0 / 2) % 128 ∧ t.fon TWB_ATTN.NONE bus.val = false) ∧
  (∀ (bus : Fin 4) (reply : TwbReply) (s : State), (s.twbOf bus.val).running = none → ∃ t, exec (.twbTransactionEnd bus reply) s = .next t ∧ t = s) ∧
  (∀ (bus : Fin 4) (at_ : ArbPoint) (s : State) (x : TwbTxn), (s.twbOf bus.val).running = some x → twbRetried (x.lost at_).result = true → x.attempts ≤ s.fget TWB_CFG.RETRY bus.val → ∃ t, exec (.twbArbitrationLost bus at_) s = .next t ∧ (t.twbOf bus.val).running = none ∧ (t.twbOf bus.val).queue = x :: (s.twbOf bus.val).queue ∧ t.twbState bus.val = twOTHER ∧ t.fget TWB_CNT.ARB_LOST bus.val = min (s.fget TWB_CNT.ARB_LOST bus.val + 1) (fieldSize TWB_CNT.ARB_LOST.hi TWB_CNT.ARB_LOST.lo - 1)) ∧
  (∀ (bus : Fin 4) (at_ : ArbPoint) (s : State), (s.twbOf bus.val).running = none → ∃ t, exec (.twbArbitrationLost bus at_) s = .next t ∧ t = s) ∧
  (∀ (bus : Fin 4) (s : State), (s.twbOf bus.val).running = none → ∃ t, exec (.twbTimeout bus) s = .next t ∧ t = s) ∧
  (∀ (bus : Fin 4) (ok : Bool) (s : State), s.twbState bus.val ≠ twRECOVERING → (s.twbOf bus.val).retrying = false → ∃ t, exec (.twbBusRecoveryDone bus ok) s = .next t ∧ t = s) ∧
  (∀ (bus : Fin 4) (s : State), s.twbState bus.val ≠ twSTUCK ∨ s.timerDue tmTwbRetry bus.val s.ms 100 = false → ∃ t, exec (.twbRecoveryRetry bus) s = .next t ∧ t = s) ∧
  (∀ (bus : Fin 4) (s : State), s.twbState bus.val ≠ twOTHER → ∃ t, exec (.twbIdleDetect bus) s = .next t ∧ t = s) ∧
  (∀ (bus : Fin 4) (s : State), s.twbState bus.val ≠ twIDLE ∨ s.fon TWB_CFG.ATTN_EN bus.val = false → ∃ t, exec (.twbAttention bus) s = .next t ∧ t = s) ∧
  (∀ (bus : Fin 4) (sda : Bool) (s : State), s.twbState bus.val ≠ twIDLE → ∃ t, exec (.idleBusHeldLow bus sda) s = .next t ∧ t = s)

/-- Two-wire target: addresses, bytes, stretching, its FIFOs, attention, the wake match. A matched address opens a write or a read, another none, and the alert address answers after a call; a byte received joins the receive FIFO, a byte requested leaves the transmit FIFO, is the check byte, or stretches the clock until a byte is pushed; pops and pushes move one entry; attention is called, a flush empties; a match wakes the device. (derived from R455, R456, R464, R465, R466, R467, R468) -/
def Obligations.TwoWireTargetCommands : Prop :=
  (∀ (addr : Fin 128) (read : Bool) (s : State), s.twtOn = true → s.twt.phase = .idle → addr.val = s.fget TWT_CFG.ADDR0 0 → read = false → ∃ t, exec (.twtAddress addr read) s = .next t ∧ t.twt.phase = .write false [2 * addr.val] true ∧ t.fon TWT_STAT.STRETCHING 0 = false ∧ t.twt.rx = s.twt.rx) ∧
  (∀ (addr : Fin 128) (read : Bool) (s : State), s.twtOn = true → s.twt.phase = .idle → addr.val = s.fget TWT_CFG.ADDR0 0 → addr.val ≠ 0x0C → read = true → ∃ t, exec (.twtAddress addr read) s = .next t ∧ t.twt.phase = .read [2 * addr.val + 1] false false ∧ t.fon TWT_STAT.STRETCHING 0 = false) ∧
  (∀ (byte : Fin 256) (s : State) (sel : Bool) (bytes : List Nat) (fresh : Bool), s.twt.phase = .write sel bytes fresh → s.twt.rx.length < 64 → ∃ t, exec (.twtByteReceived byte) s = .next t ∧ t.twt.rx = s.twt.rx ++ [rxEntry fresh false false sel byte.val] ∧ t.twt.phase = .write sel (bytes ++ [byte.val]) false ∧ t.fget TWT_STAT.RX_FILL 0 = s.twt.rx.length + 1) ∧
  (∀ (s : State) (bytes : List Nat) (x : Nat × Bool) (rest : List (Nat × Bool)), s.fon TWT_STAT.STRETCHING 0 = false → s.twt.phase = .read bytes false false → s.twt.tx = x :: rest → ∃ t, exec .twtByteRequested s = .next t ∧ t.twt.tx = rest ∧ t.twt.sent = x.1 ∧ t.twt.phase = .read (bytes ++ [x.1]) (x.2 && s.fon TWT_CFG.PEC_EN 0) false) ∧
  (∀ (s : State) (bytes : List Nat), s.fon TWT_STAT.STRETCHING 0 = false → s.twt.phase = .read bytes false false → s.twt.tx = [] → ∃ t, exec .twtByteRequested s = .next t ∧ t.fon TWT_STAT.STRETCHING 0 = true ∧ t.timerOn tmStretch 0 = true ∧ t.twt = s.twt) ∧
  (∀ (s : State) (sel : Bool) (bytes : List Nat) (fresh : Bool), s.twt.phase = .write sel bytes fresh → s.fon TWT_CFG.PEC_EN 0 = false → s.twt.rx.length < 64 → ∃ t, exec .twtStop s = .next t ∧ t.twt.phase = .idle ∧ t.twt.rx = s.twt.rx ++ [rxEntry false true false sel 0] ∧ t.fon TWT_STAT.STRETCHING 0 = false) ∧
  (∀ (s : State) (bytes : List Nat) (a : Bool) (b : Bool), s.timerDue tmStretch 0 s.ms (s.fget TWT_CFG.STRETCH_MS 0) = true → s.twt.phase = .read bytes a b → ∃ t, exec .twtStretchTimeout s = .next t ∧ t.twt.phase = .read bytes false true ∧ t.twt.sent = 0xFF ∧ t.fon TWT_STAT.STRETCHING 0 = false ∧ t.timerOn tmStretch 0 = false) ∧
  (∀ (s : State), s.twtOn = true → ∃ t, exec .twtStuck s = .next t ∧ t.fon TWT_STAT.STUCK 0 = true ∧ t.twt.phase = .idle ∧ t.fon TWT_STAT.STRETCHING 0 = false ∧ t.twt.rx = s.twt.rx) ∧
  (∀ (s : State), s.fon TWT_STAT.STUCK 0 = true → ∃ t, exec .twtBusReleased s = .next t ∧ t.fon TWT_STAT.STUCK 0 = false ∧ t.twt = s.twt) ∧
  (∀ (who : Init) (s : State) (w : Word) (rest : List Word), Readable s who pgTWT → s.twt.rx = w :: rest → ∃ t, exec (.twtRxPop who) s = .next t ∧ t.readOf who = w ∧ t.twt.rx = rest ∧ t.twt.tx = s.twt.tx) ∧
  (∀ (who : Init) (s : State), Readable s who pgTWT → s.twt.rx = [] → ∃ t, exec (.twtRxPop who) s = .next t ∧ t.readOf who = 0 ∧ t.twt = s.twt) ∧
  (∀ (who : Init) (last : Bool) (byte : Fin 256) (s : State), Admitted s who pgTWT 0x048 → s.twt.tx.length < 64 → s.fon TWT_STAT.STRETCHING 0 = false → ∃ t, exec (.twtTxPush who last byte) s = .next t ∧ Took t who ∧ t.twt.tx = s.twt.tx ++ [(byte.val, last)] ∧ t.twt.rx = s.twt.rx ∧ t.fget TWT_STAT.TX_FILL 0 = s.twt.tx.length + 1) ∧
  (∀ (who : Init) (us : BitVec 16) (cut : Fin 4) (s : State), Admitted s who pgTWT 0x050 → 60 ≤ us.toNat → us.toNat ≤ 1000 → s.twtOn = true → cut.val < 3 → ∃ t, exec (.twtAttn who us cut) s = .next t ∧ Took t who ∧ t.twt.called = true ∧ t.fget TWT_CMD.ATTN_US 0 = us.toNat ∧ t.twt.rx = s.twt.rx) ∧
  (∀ (who : Init) (s : State), Admitted s who pgTWT 0x050 → 60 ≤ s.fget TWT_CMD.ATTN_US 0 → s.fget TWT_CMD.ATTN_US 0 ≤ 1000 → ∃ t, exec (.twtFlush who) s = .next t ∧ Took t who ∧ t.twt.rx = [] ∧ t.twt.tx = [] ∧ t.fget TWT_STAT.RX_FILL 0 = 0 ∧ t.fget TWT_STAT.TX_FILL 0 = 0 ∧ t.twt.phase = s.twt.phase) ∧
  (∀ (addr : Fin 128) (read : Bool) (s : State) (sel : Bool), s.pwState = pwSNOWDROP → s.fon TWT_CFG.EN 0 = true → s.twt.deaf = false → s.twt.matched = none → s.wakeMatch addr.val = some sel → read = false → s.fbit PWR_WAKE_EN.EN 0 4 = true → s.pwr.waking = false → ∃ t, exec (.twtWakeMatch addr read) s = .next t ∧ t.twt.matched = some sel ∧ t.pwr.waking = true ∧ t.fget PWR_STAT.LAST_WAKE 0 = 4) ∧
  (∀ (s : State), s.twt.matched.isSome = true → ∃ t, exec .twtWakeTimeout s = .next t ∧ t.twt.matched = none ∧ t.twt.deaf = true ∧ t.twt.rx = s.twt.rx) ∧
  (∀ (addr : Fin 128) (read : Bool) (s : State), s.twtOn = true → s.twt.phase = .idle → addr.val ≠ s.fget TWT_CFG.ADDR0 0 → addr.val = s.fget TWT_CFG.ADDR1 0 → addr.val ≠ 0x0C → ∃ t, exec (.twtAddress addr read) s = .next t ∧ t.twt.phase = (if read then .read [2 * addr.val + 1] false false else .write true [2 * addr.val] true) ∧ t.fon TWT_STAT.STRETCHING 0 = false) ∧
  (∀ (addr : Fin 128) (read : Bool) (s : State), s.twtOn = true → s.twt.phase = .idle → addr.val ≠ s.fget TWT_CFG.ADDR0 0 → addr.val ≠ s.fget TWT_CFG.ADDR1 0 → addr.val ≠ 0x0C → ∃ t, exec (.twtAddress addr read) s = .next t ∧ t.twt.phase = .idle ∧ t.twt.rx = s.twt.rx) ∧
  (∀ (addr : Fin 128) (read : Bool) (s : State), s.twtOn = true → s.twt.phase = .idle → addr.val = 0x0C → read = true → ∃ t, exec (.twtAddress addr read) s = .next t ∧ t.twt.phase = (if s.fon TWT_CFG.ARA_EN 0 && s.twt.called then .alert else .idle)) ∧
  (∀ (byte : Fin 256) (s : State) (sel : Bool) (bytes : List Nat) (fresh : Bool), s.twt.phase = .write sel bytes fresh → 64 ≤ s.twt.rx.length → ∃ t, exec (.twtByteReceived byte) s = .next t ∧ t.twt.rx = s.twt.rx ∧ t.twt.phase = .write sel (bytes ++ [byte.val]) false) ∧
  (∀ (byte : Fin 256) (s : State), s.twt.phase = .idle → ∃ t, exec (.twtByteReceived byte) s = .next t ∧ t.twt = s.twt) ∧
  (∀ (s : State) (bytes : List Nat), s.fon TWT_STAT.STRETCHING 0 = false → s.twt.phase = .read bytes true false → ∃ t, exec .twtByteRequested s = .next t ∧ t.twt.sent = crc8 bytes ∧ t.twt.phase = .read (bytes ++ [crc8 bytes]) false false ∧ t.twt.tx = s.twt.tx) ∧
  (∀ (s : State), s.fon TWT_STAT.STRETCHING 0 = false → s.twt.phase = .alert → ∃ t, exec .twtByteRequested s = .next t ∧ t.twt.sent = 2 * s.fget TWT_CFG.ADDR0 0 ∧ t.twt.called = false ∧ t.twt.phase = .idle) ∧
  (∀ (s : State) (sel : Bool) (bytes : List Nat) (fresh : Bool), s.twt.phase = .write sel bytes fresh → s.fon TWT_CFG.PEC_EN 0 = true → 1 < bytes.length → s.twt.rx.length < 64 → ∃ t, exec .twtStop s = .next t ∧ t.twt.phase = .idle ∧ t.twt.rx = s.twt.rx ++ [rxEntry false true (decide (crc8 bytes ≠ 0)) sel 0]) ∧
  (∀ (s : State) (bytes : List Nat) (a : Bool) (b : Bool), s.twt.phase = .read bytes a b → ∃ t, exec .twtStop s = .next t ∧ t.twt.phase = .idle ∧ t.twt.rx = s.twt.rx ∧ t.fon TWT_STAT.STRETCHING 0 = false) ∧
  (∀ (s : State), s.timerDue tmStretch 0 s.ms (s.fget TWT_CFG.STRETCH_MS 0) = false → ∃ t, exec .twtStretchTimeout s = .next t ∧ t = s) ∧
  (∀ (s : State), s.twtOn = false → ∃ t, exec .twtStuck s = .next t ∧ t = s) ∧
  (∀ (s : State), s.fon TWT_STAT.STUCK 0 = false → ∃ t, exec .twtBusReleased s = .next t ∧ t = s) ∧
  (∀ (who : Init) (last : Bool) (byte : Fin 256) (s : State) (bytes : List Nat) (a : Bool) (b : Bool), Admitted s who pgTWT 0x048 → s.twt.tx = [] → s.fon TWT_STAT.STRETCHING 0 = true → s.twt.phase = .read bytes a b → ∃ t, exec (.twtTxPush who last byte) s = .next t ∧ Took t who ∧ t.twt.tx = [] ∧ t.twt.sent = byte.val ∧ t.twt.phase = .read (bytes ++ [byte.val]) (last && s.fon TWT_CFG.PEC_EN 0) false ∧ t.fon TWT_STAT.STRETCHING 0 = false ∧ t.timerOn tmStretch 0 = false) ∧
  (∀ (who : Init) (last : Bool) (byte : Fin 256) (s : State), Admitted s who pgTWT 0x048 → 64 ≤ s.twt.tx.length → ∃ t, exec (.twtTxPush who last byte) s = .next t ∧ t.refusedWith who = Reason.windowBusy.code ∧ t.twt = s.twt) ∧
  (∀ (who : Init) (us : BitVec 16) (cut : Fin 4) (s : State), Admitted s who pgTWT 0x050 → us.toNat < 60 ∨ 1000 < us.toNat → ∃ t, exec (.twtAttn who us cut) s = .next t ∧ t.refusedWith who = Reason.outOfRange.code ∧ t.twt = s.twt) ∧
  (∀ (who : Init) (us : BitVec 16) (cut : Fin 4) (s : State), Admitted s who pgTWT 0x050 → 60 ≤ us.toNat → us.toNat ≤ 1000 → cut.val = 3 → ∃ t, exec (.twtAttn who us cut) s = .next t ∧ Took t who ∧ t.twt.called = s.twt.called) ∧
  (∀ (addr : Fin 128) (read : Bool) (s : State), s.pwState ≠ pwSNOWDROP ∨ s.fon TWT_CFG.EN 0 = false ∨ s.twt.deaf = true ∨ s.twt.matched.isSome = true ∨ s.wakeMatch addr.val = none → ∃ t, exec (.twtWakeMatch addr read) s = .next t ∧ t = s) ∧
  (∀ (s : State), s.twt.matched = none → ∃ t, exec .twtWakeTimeout s = .next t ∧ t = s)

/-- Resets: power-on, pin, commands, boot steps, watchdogs. Each reset leaves its cause; a reset of the chip keeps device time, one of a pair restarts its watchdog; a kick in its window clears the expiry and restarts the count, any other is an expiry; a boot that lasts too long counts as failed; each step of Primrose ends in the next, and without firmware that verifies in ROM recovery. (derived from R471, R472, R473, R474, R478, R483, R484, R485, R486) -/
def Obligations.ResetAndBootCommands : Prop :=
  (∀ (low : Bool) (s : State), low = true → ∃ t, exec (.powerOnReset low) s = .next t ∧ t.fget RST_CAUSE.CAUSE 0 = 1 ∧ t.member = s.member ∧ t.time = {} ∧ t.pwState = 0) ∧
  (∀ (low : Bool) (s : State), low = false → ∃ t, exec (.powerOnReset low) s = .next t ∧ t.rst.porLow = false ∧ t.regs = s.regs ∧ t.time = s.time) ∧
  (∀ (low : Bool) (s : State), low = true → s.rst.resetLow = false → ∃ t, exec (.resetPin low) s = .next t ∧ t.fget RST_CAUSE.CAUSE 0 = 2 ∧ t.time = s.time ∧ t.member = s.member) ∧
  (∀ (low : Bool) (s : State), low = false → ∃ t, exec (.resetPin low) s = .next t ∧ t.rst.resetLow = false ∧ t.regs = s.regs) ∧
  (∀ (who : Init) (confirm : BitVec 16) (s : State), Admits (fun u => u.rstAdmit who (BitVec.ofNat 32 (0x80000000 + confirm.toNat))) s who pgRST 0x048 → confirm.toNat = s.fget GCP_SERIAL_LO.SERIAL 0 % 0x10000 → ∃ t, exec (.rstChip who confirm) s = .next t ∧ t.fget RST_CAUSE.CAUSE 0 = 4 ∧ t.time = s.time ∧ t.member = s.member) ∧
  (∀ (who : Init) (confirm : BitVec 16) (s : State), Admits (fun u => u.rstAdmit who (BitVec.ofNat 32 (0x40000000 + confirm.toNat))) s who pgRST 0x048 → confirm.toNat = s.fget GCP_SERIAL_LO.SERIAL 0 % 0x10000 → ∃ t, exec (.rstPairA who confirm) s = .next t ∧ t.dbg.halted.testBit 0 = false ∧ Tbl.get (fun _ => 0) t.rst.wdMs 0 = 0 ∧ t.time = s.time ∧ t.fget RST_CAUSE.CAUSE 0 = s.fget RST_CAUSE.CAUSE 0) ∧
  (∀ (who : Init) (confirm : BitVec 16) (s : State), Admits (fun u => u.rstAdmit who (BitVec.ofNat 32 (0x20000000 + confirm.toNat))) s who pgRST 0x048 → confirm.toNat = s.fget GCP_SERIAL_LO.SERIAL 0 % 0x10000 → ∃ t, exec (.rstPairB who confirm) s = .next t ∧ t.dbg.halted.testBit 1 = false ∧ Tbl.get (fun _ => false) t.rst.wdOn 1 = true ∧ Tbl.get (fun _ => 0) t.rst.wdMs 1 = 0 ∧ t.time = s.time) ∧
  (∀ (v : BootVerdict) (s : State), s.boots = true → s.fget RST_STAT.STEP 0 = 1 → ∃ t, exec (.primroseStep v) s = .next t ∧ t.fget RST_STAT.STEP 0 = 2 ∧ t.time = s.time) ∧
  (∀ (v : BootVerdict) (s : State), s.boots = true → s.fget RST_STAT.STEP 0 = 2 → ∃ t, exec (.primroseStep v) s = .next t ∧ t.fget RST_STAT.STEP 0 = 3 ∧ t.fon CLK_PLL_STAT.AON_OK 0 = true ∧ t.fon CLK_PLL_STAT.REFCLK_OK 0 = true) ∧
  (∀ (v : BootVerdict) (s : State), s.boots = true → s.fget RST_STAT.STEP 0 = 14 → s.mayHeal = true → ∃ t, exec (.primroseStep v) s = .next t ∧ t.fon RST_STAT.DONE 0 = true ∧ t.fon FLT_STAT.HEALTHY 0 = true ∧ t.rst.bootOn = false ∧ t.fget RST_BOOT.BOOT_FAILS 0 = 0) ∧
  (∀ (who : Init) (pair : Fin 2) (key : Word) (s : State), Admitted s who pgRST (0x058 + 4 * pair.val) → s.wdRuns pair.val = true → key = wdogKey → s.wdPast pair.val (s.fget (wdWinFld pair.val) 0) = true → s.wdPast pair.val (s.fget (wdPeriodFld pair.val) 0) = false → ∃ t, exec (.watchdogKick who pair key) s = .next t ∧ Took t who ∧ t.fon (wdExpFld pair.val) 0 = false ∧ Tbl.get (fun _ => 0) t.rst.wdMs pair.val = 0) ∧
  (∀ (who : Init) (pair : Fin 2) (key : Word) (s : State), Admitted s who pgRST (0x058 + 4 * pair.val) → s.wdRuns pair.val = true → key ≠ wdogKey → ∃ t, exec (.watchdogKick who pair key) s = .next t ∧ Took t who ∧ t.fon (wdExpFld pair.val) 0 = true ∧ Tbl.get (fun _ => 0) t.rst.wdMs pair.val = 0) ∧
  (∀ (pair : Fin 2) (s : State), s.wdRuns pair.val = true → s.wdPaused pair.val = false → s.wdPast pair.val (s.fget (wdPeriodFld pair.val) 0) = true → ∃ t, exec (.watchdogExpired pair) s = .next t ∧ t.fon (wdExpFld pair.val) 0 = true ∧ Tbl.get (fun _ => 0) t.rst.wdMs pair.val = 0 ∧ t.wdRuns pair.val = true) ∧
  (∀ (s : State), s.rst.bootOn = true → s.fget RST_BOOT.BOOT_TO_S 0 + 1 ≤ s.rst.bootS → ∃ t, exec .bootWatchdogExpired s = .next t ∧ t.fget RST_CAUSE.CAUSE 0 = 5 ∧ t.fget RST_BOOT.BOOT_FAILS 0 = min 3 (s.fget RST_BOOT.BOOT_FAILS 0 + 1) ∧ t.time = s.time) ∧
  (∀ (who : Init) (key : Word) (s : State), Admitted s who pgRST 0x068 → key = wdogKey → ∃ t, exec (.aonWatchdogKick who key) s = .next t ∧ Took t who ∧ t.rst.aonCyc = 0 ∧ t.rst.aonOn = s.rst.aonOn) ∧
  (∀ (s : State), s.aonDue = true → ∃ t, exec .aonWatchdogExpired s = .next t ∧ t.fget RST_CAUSE.CAUSE 0 = 6 ∧ t.time = s.time) ∧
  (∀ (v : BootVerdict) (s : State), s.boots = true → s.fget RST_STAT.STEP 0 = 3 → ∃ t, exec (.primroseStep v) s = .next t ∧ t.fget RST_STAT.STEP 0 = 4 ∧ t.rst.bootOn = true ∧ t.rst.bootS = 0) ∧
  (∀ (v : BootVerdict) (s : State), s.boots = true → s.fget RST_STAT.STEP 0 = 4 → s.firstBank v s.bootOrder = none → ∃ t, exec (.primroseStep v) s = .next t ∧ t.rst.recovery = true ∧ t.rst.bootOn = false ∧ t.flt.hardMute = true ∧ t.fon FLT_STAT.HEALTHY 0 = false ∧ t.fget RST_STAT.STEP 0 = 4) ∧
  (∀ (v : BootVerdict) (s : State) (b : Nat), s.boots = true → s.fget RST_STAT.STEP 0 = 4 → s.firstBank v s.bootOrder = some b → ∃ t, exec (.primroseStep v) s = .next t ∧ t.fget RST_STAT.STEP 0 = 5 ∧ t.fget SEC_BOOT.BANK 0 = b ∧ t.rst.aonOn = true ∧ t.rst.aonCyc = 0 ∧ Tbl.get (fun _ => false) t.rst.wdOn 0 = true ∧ Tbl.get (fun _ => false) t.rst.wdOn 1 = true) ∧
  (∀ (v : BootVerdict) (s : State), s.boots = true → s.fget RST_STAT.STEP 0 = 5 → s.fon RST_STAT.WAIT_READY 0 = true → s.fon HUP_STAT.READY 0 = true → ∃ t, exec (.primroseStep v) s = .next t ∧ t.fget RST_STAT.STEP 0 = 6 ∧ t.fon RST_STAT.WAIT_READY 0 = false) ∧
  (∀ (v : BootVerdict) (s : State), s.boots = true → s.fget RST_STAT.STEP 0 = 5 → s.fon RST_STAT.WAIT_READY 0 = true → s.fon HUP_STAT.READY 0 = false → ∃ t, exec (.primroseStep v) s = .next t ∧ t = s) ∧
  (∀ (v : BootVerdict) (s : State), s.boots = true → s.fget RST_STAT.STEP 0 = 6 → ∃ t, exec (.primroseStep v) s = .next t ∧ t.fget RST_STAT.STEP 0 = 7 ∧ t.sec.secondWord = true) ∧
  (∀ (v : BootVerdict) (s : State), s.boots = true → s.fget RST_STAT.STEP 0 = 7 → ∃ t, exec (.primroseStep v) s = .next t ∧ t.fget RST_STAT.STEP 0 = 8) ∧
  (∀ (v : BootVerdict) (s : State), s.boots = true → s.fget RST_STAT.STEP 0 = 8 → s.admits (.journal (bootEntryOf 8 ((s.fget GCP_BOOT.BOOT 0 + 1) % 2 ^ 32))) = true → ∃ t, exec (.primroseStep v) s = .next t ∧ t.fget RST_STAT.STEP 0 = 9 ∧ t.fget GCP_BOOT.BOOT 0 = (s.fget GCP_BOOT.BOOT 0 + 1) % 2 ^ 32) ∧
  (∀ (v : BootVerdict) (s : State), s.boots = true → s.fget RST_STAT.STEP 0 = 8 → s.admits (.journal (bootEntryOf 8 ((s.fget GCP_BOOT.BOOT 0 + 1) % 2 ^ 32))) = false → ∃ t, exec (.primroseStep v) s = .next t ∧ t = s) ∧
  (∀ (v : BootVerdict) (s : State), s.boots = true → s.fget RST_STAT.STEP 0 = 9 → ∃ t, exec (.primroseStep v) s = .next t ∧ t.fget RST_STAT.STEP 0 = 10 ∧ t.fget FLT_SAFE_CAUSE.CAUSE 0 = 0) ∧
  (∀ (v : BootVerdict) (s : State), s.boots = true → s.fget RST_STAT.STEP 0 = 10 → s.sec.lc = lcBLANK ∨ v.regBad = true ∨ s.nva.inForce 1 0 = none → ∃ t, exec (.primroseStep v) s = .next t ∧ t.fget RST_STAT.STEP 0 = 11 ∧ t.fon LIM_REG_STAT.VALID 0 = false ∧ Tbl.get (fun _ => false) t.flt.drive 104 = true) ∧
  (∀ (v : BootVerdict) (s : State) (e : JEntry), s.boots = true → s.fget RST_STAT.STEP 0 = 10 → s.sec.lc ≠ lcBLANK → v.regBad = false → s.nva.inForce 1 0 = some e → ∃ t, exec (.primroseStep v) s = .next t ∧ t = (s.regLoad e.payload).fset RST_STAT.STEP 0 11) ∧
  (∀ (v : BootVerdict) (s : State), s.boots = true → s.fget RST_STAT.STEP 0 = 11 → s.nvBE (bootImageBase (s.fget SEC_BOOT.BANK 0) + 0x10) 4 < 160 ∨ slotBytes < s.nvBE (bootImageBase (s.fget SEC_BOOT.BANK 0) + 0x10) 4 → ∃ t, exec (.primroseStep v) s = .next t ∧ t.fget RST_STAT.STEP 0 = 12 ∧ t.slotState 0 ≠ slotVERIFIED ∧ t.fon RST_STAT.IMAGE_REFUSED 0 = true) ∧
  (∀ (v : BootVerdict) (s : State), s.boots = true → s.fget RST_STAT.STEP 0 = 12 → s.slotState 0 ≠ slotVERIFIED → ∃ t, exec (.primroseStep v) s = .next t ∧ t = s.fset RST_STAT.STEP 0 13) ∧
  (∀ (v : BootVerdict) (s : State), s.boots = true → s.fget RST_STAT.STEP 0 = 13 → ∃ t, exec (.primroseStep v) s = .next t ∧ t.fget RST_STAT.STEP 0 = 14 ∧ t.time = s.time) ∧
  (∀ (v : BootVerdict) (s : State), s.boots = true → s.fget RST_STAT.STEP 0 = 14 → s.mayHeal = false → ∃ t, exec (.primroseStep v) s = .next t ∧ t = s) ∧
  (∀ (v : BootVerdict) (s : State), s.boots = false → ∃ t, exec (.primroseStep v) s = .next t ∧ t = s) ∧
  (∀ (who : Init) (pair : Fin 2) (key : Word) (s : State), Admitted s who pgRST (0x058 + 4 * pair.val) → s.wdRuns pair.val = false → ∃ t, exec (.watchdogKick who pair key) s = .next t ∧ Took t who ∧ t.rst = s.rst ∧ t.fon (wdExpFld pair.val) 0 = s.fon (wdExpFld pair.val) 0) ∧
  (∀ (pair : Fin 2) (s : State), s.wdRuns pair.val = false ∨ s.wdPaused pair.val = true ∨ s.wdPast pair.val (s.fget (wdPeriodFld pair.val) 0) = false → ∃ t, exec (.watchdogExpired pair) s = .next t ∧ t = s) ∧
  (∀ (s : State), s.rst.bootOn = false ∨ s.rst.bootS < s.fget RST_BOOT.BOOT_TO_S 0 + 1 → ∃ t, exec .bootWatchdogExpired s = .next t ∧ t = s) ∧
  (∀ (who : Init) (key : Word) (s : State), Admitted s who pgRST 0x068 → key ≠ wdogKey → ∃ t, exec (.aonWatchdogKick who key) s = .next t ∧ Took t who ∧ t.rst.aonCyc = s.rst.aonCyc) ∧
  (∀ (s : State), s.aonDue = false → ∃ t, exec .aonWatchdogExpired s = .next t ∧ t = s) ∧
  (∀ (low : Bool) (s : State), low = true → s.rst.resetLow = true → ∃ t, exec (.resetPin low) s = .next t ∧ t = s) ∧
  (∀ (who : Init) (confirm : BitVec 16) (s : State), Admits (fun u => u.rstAdmit who (BitVec.ofNat 32 (0x80000000 + confirm.toNat))) s who pgRST 0x048 → confirm.toNat ≠ s.fget GCP_SERIAL_LO.SERIAL 0 % 0x10000 → ∃ t, exec (.rstChip who confirm) s = .next t ∧ t.refusedWith who = Reason.outOfRange.code ∧ t.fget RST_CAUSE.CAUSE 0 = s.fget RST_CAUSE.CAUSE 0 ∧ t.time = s.time)

/-- Pins: PCIe reset, GPIO inputs, the management link. A low PERST holds the PCIe block in reset and a release lets go of it; an input shows at its pin, or what an enabled output drives; the management link is up or starts its timeout. (derived from R326, R466, R477, R487, R489) -/
def Obligations.PinCommands : Prop :=
  (∀ (low : Bool) (s : State), low = true → s.rst.perst = false → s.running pgPCIE = true → ∃ t, exec (.pciePerst low) s = .next t ∧ t.rst.perst = true ∧ t.running pgPCIE = false) ∧
  (∀ (low : Bool) (s : State), low = false → s.rst.perst = true → s.running pgSYS = false → ∃ t, exec (.pciePerst low) s = .next t ∧ t.rst.perst = false ∧ t.regs = s.regs) ∧
  (∀ (pin : Fin 48) (level : Bool) (s : State), s.running 0x26 = true → pin.val < 32 → s.fbit GPIO_OE0.OE 0 pin.val = false → ∃ t, exec (.gpioInputChange pin level) s = .next t ∧ t.fbit GPIO_IN0.IN 0 pin.val = level) ∧
  (∀ (pin : Fin 48) (level : Bool) (s : State), s.running 0x26 = true → 32 ≤ pin.val → s.fbit GPIO_OE1.OE 0 (pin.val - 32) = true → ∃ t, exec (.gpioInputChange pin level) s = .next t ∧ t.fbit GPIO_IN1.IN 0 (pin.val - 32) = s.fbit GPIO_OUT1.OUT 0 (pin.val - 32)) ∧
  (∀ (up : Bool) (s : State), up = true → s.fon MGE_STAT.LINK_UP 0 = false → s.running pgMGE = true → ∃ t, exec (.mgeLinkChange up) s = .next t ∧ t.fon MGE_STAT.LINK_UP 0 = true ∧ t.timerOn tmMgeLink 0 = false) ∧
  (∀ (up : Bool) (s : State), up = false → s.fon MGE_STAT.LINK_UP 0 = true → s.running pgMGE = true → ∃ t, exec (.mgeLinkChange up) s = .next t ∧ t.fon MGE_STAT.LINK_UP 0 = false ∧ t.timerOn tmMgeLink 0 = true ∧ t.gcp = s.gcp)

/-- A step runs the command at the front of the queue on the queue's rest. For every command, every state and every queue: a step of the state with the command at the front of its queue is the command's meaning on the state with the queue's rest. (derived from 01_architecture.md, R12) -/
def Obligations.StepRunsFrontCommand : Prop :=
  ∀ (c : Instr) (rest : List Instr) (s : State), step { s with pending := c :: rest } = exec c { s with pending := rest }

/-- With no command waiting a step is one tick of device time while PLL-A runs. On an empty queue device time advances by one tick once it has started and while PLL-A is locked, and nothing else changes; before that the state stays (that an empty queue is a tick is the model's choice, logged in notes/assumptions). (derived from R21) -/
def Obligations.EmptyQueueTicks : Prop :=
  (∀ s : State, s.pending = [] → s.time.started = true → s.fon CLK_PLL_STAT.PLLA_LOCK 0 = true →
    step s = .next { s with time := { s.time with devTime := (s.time.devTime + 1) % 2 ^ 64 } }) ∧
  (∀ s : State, s.pending = [] → s.time.started = false ∨ s.fon CLK_PLL_STAT.PLLA_LOCK 0 = false → step s = .next s)

/-- No command stops the block: every run of any length goes on. Every command answers a next state on every state and operands, so a run of n steps from any state with any queue goes on. (derived from 01_architecture.md) -/
def Obligations.EveryRunGoesOn : Prop :=
  (∀ (c : Instr) (s : State), Goes (exec c s)) ∧ ∀ (n : Nat) (s : State), SafeRun n s

/-- Every step keeps every table of the state in canonical form. From every state whose tables (register words, context words, counts, shadows, windows, NV bytes, image tables …) are in canonical form, with any queue, a step gives a state whose tables are. (derived from 02_register_pages.md) -/
def Obligations.StepsKeepCanonicalForm : Prop :=
  ∀ s t : State, Canonical s → step s = .next t → Canonical t

/-- The state after reset is in canonical form. Every table of the reset state is in canonical form: keys rise strictly and none lists what an unlisted key reads as. (derived from 02_register_pages.md) -/
def Obligations.PowerUpStateIsCanonical : Prop :=
  Canonical State.reset

/-- No step changes the member, and a step leaves the queue's rest. Which member of the family the device is never changes, whatever command runs; a step takes exactly the front command off the queue. (derived from R2, R12) -/
def Obligations.StepsKeepMemberAndQueueRest : Prop :=
  ∀ s t : State, step s = .next t → t.member = s.member ∧ t.pending = s.pending.tail

/-- The three strobes fall on their ticks of device time. The strobe generator has emitted n microsecond strobes at tick ceil(n × 6,144 / 25) and n − 1 at the tick before, and 25 more in any 6,144 ticks; device time and the counts start from 0; each strobe that comes with its tick not yet passed advances its count by one and device time to its tick, the millisecond strobe at every 1,000th microsecond strobe, the second strobe at every 1,000th millisecond strobe. (states R24) -/
def Obligations.StrobesFallOnTheirTicks : Prop :=
  (∀ n : Nat, 0 < n → strobeTick n = (n * 6144 + 24) / 25 ∧ (strobeLoop (strobeTick n)).2 = n ∧ (strobeLoop (strobeTick n - 1)).2 = n - 1) ∧
  (∀ n : Nat, (strobeLoop (n + 6144)).2 = (strobeLoop n).2 + 25) ∧
  (∀ (s : State), s.time.started = false → ∃ t, exec .pllaFirstLock s = .next t ∧ t.time = { started := true, devTime := 0, usCount := 0, msCount := 0, sCount := 0 }) ∧
  (∀ (s : State), s.strobesRun = true → s.time.devTime ≤ strobeTick (s.time.usCount + 1) → exec .usStrobe s = .next (State.blockStrobe { s with time := { s.time with
    devTime := strobeTick (s.time.usCount + 1), usCount := s.time.usCount + 1 } })) ∧
  (∀ (upset : List (Fin 4096 × Fin 64 × Word)) (s : State), s.strobesRun = true → s.time.devTime ≤ strobeTick (1000 * (s.time.msCount + 1)) → s.time.usCount ≤ 1000 * (s.time.msCount + 1) → exec (.msStrobe upset) s = .next (State.msWork { s with time := { s.time with
    devTime := strobeTick (1000 * (s.time.msCount + 1)), usCount := 1000 * (s.time.msCount + 1), msCount := s.time.msCount + 1 } } upset)) ∧
  (∀ (s : State), s.strobesRun = true → s.time.devTime ≤ strobeTick (1000000 * (s.time.sCount + 1)) → s.time.usCount ≤ 1000000 * (s.time.sCount + 1) → s.time.msCount ≤ 1000 * (s.time.sCount + 1) → exec .secondStrobe s = .next (State.secWork { s with time := { s.time with
    devTime := strobeTick (1000000 * (s.time.sCount + 1)), usCount := 1000000 * (s.time.sCount + 1), msCount := 1000 * (s.time.sCount + 1), sCount := s.time.sCount + 1 } }))

/-- A SNAP takes the count into the initiator's shadow and clears it. A write of EVT_COUNT with SNAP = 1 copies the count of bit SEL into the initiator's read shadow and zeroes the live count and the sticky bit of SEL, no other's; COUNT then reads the shadow to that initiator, whatever rises or is cleared, until its next write of SEL, which drops it; without a shadow COUNT reads the live count. (states R43) -/
def Obligations.EvtCountSnapTakesTheCount : Prop :=
  (∀ (who : Init) (page : Fin 64) (sel : Fin 32) (s : State), Admitted s who page.val 0x020 → ∃ t, exec (.evtCountSnap who page sel) s = .next t ∧ Took t who ∧
    t.snapOf who page.val = some (s.evtCountOf page.val sel.val) ∧ t.evtCountOf page.val sel.val = 0 ∧ t.fbit EVT_STICKY.STICKY page.val sel.val = false ∧
    t.fget (evtSelFld page.val) who.holder = sel.val ∧ (∀ k, k ≠ 32 * page.val + sel.val → Tbl.get (fun _ => 0) t.evtCount k = Tbl.get (fun _ => 0) s.evtCount k) ∧
    (∀ m, m ≠ sel.val → t.fbit EVT_STICKY.STICKY page.val m = s.fbit EVT_STICKY.STICKY page.val m) ∧
    (∀ k, k ≠ evtShadowKey page.val who → Tbl.get (fun _ => none) t.evtShadow k = Tbl.get (fun _ => none) s.evtShadow k)) ∧
  (∀ (who : Init) (page : Fin 64) (n : Nat) (s : State), Readable s who page.val → s.snapOf who page.val = some n →
    (s.regRead who (page.val * 0x1000 + 0x020)).readOf who = evtCountWord (s.fget (evtSelFld page.val) who.holder) n) ∧
  (∀ (who : Init) (page : Fin 64) (s : State), Readable s who page.val → s.snapOf who page.val = none →
    (s.regRead who (page.val * 0x1000 + 0x020)).readOf who = evtCountWord (s.fget (evtSelFld page.val) who.holder) (s.evtCountOf page.val (s.fget (evtSelFld page.val) who.holder))) ∧
  (∀ (s : State) (page n : Nat), (s.rise page n).evtShadow = s.evtShadow ∧ (s.clearEvent page n).evtShadow = s.evtShadow) ∧
  (∀ (who : Init) (page : Fin 64) (v : Word) (s : State), Admitted s who page.val 0x020 → bitsOf v 26 26 = 0 → ∃ t, exec (.registerWrite who (BitVec.ofNat 18 (page.val * 0x1000 + 0x020)) v false) s = .next t ∧ Took t who ∧
    t.snapOf who page.val = none ∧ t.fget (evtSelFld page.val) who.holder = bitsOf v 31 27 ∧ t.evtCount = s.evtCount ∧ (∀ m, t.fbit EVT_STICKY.STICKY page.val m = s.fbit EVT_STICKY.STICKY page.val m))

/-- An acknowledgement ends the severity of its source and its climb. A write of FLT_ACK with ACK = 1 clears severe and cnt of its source, leaves its rung and its sticky bit, and no escalation of it acts after; a source that is not severe is left as it is; a source still at fault level is not counted until it recovers and rises again. (states R353) -/
def Obligations.FaultAckEndsSeverity : Prop :=
  (∀ (who : Init) (src : Fin 256) (esc : Fin 160) (s : State), Admitted s who pgFLT 0x058 → src.val = esc.val → s.isSevere src.val = true → ∃ t, exec (.faultAck who src) s = .next t ∧ Took t who ∧
    t.isSevere src.val = false ∧ t.fget FLT_SSTAT.SEVERE src.val = 0 ∧ t.fget FLT_SSTAT.CNT src.val = 0 ∧ t.fget FLT_SSTAT.RUNG src.val = s.fget FLT_SSTAT.RUNG src.val ∧
    t.fbit FLT_STICKY.STICKY (src.val / 32) (src.val % 32) = s.fbit FLT_STICKY.STICKY (src.val / 32) (src.val % 32) ∧ exec (.faultEscalation esc) t = .next t) ∧
  (∀ (who : Init) (src : Fin 256) (s : State), Admitted s who pgFLT 0x058 → src.val ≤ 159 → s.isSevere src.val = false → ∃ t, exec (.faultAck who src) s = .next t ∧ Took t who ∧
    Untouched [.busRefuse, .expert, .timers, .crcPass] [] s t) ∧
  (∀ (who : Init) (src : Fin 256) (i : Fin 160) (s : State), Admitted s who pgFLT 0x058 → src.val = i.val → s.isSevere src.val = true → s.faultLevel src.val = true → s.riseWaits src.val = false → ∃ t, exec (.faultAck who src) s = .next t ∧ Took t who ∧
    exec (.faultRise i) t = .next t ∧ (t.drive src.val true).riseWaits src.val = false ∧
    (s.dualStands src.val = false → ((t.drive src.val false).drive src.val true).riseWaits src.val = true ∧
      (2 ≤ t.fget FLT_SCFG.N src.val → ∃ u, exec (.faultRise i) ((t.drive src.val false).drive src.val true) = .next u ∧ u.fget FLT_SSTAT.CNT src.val = 1 ∧ u.isSevere src.val = false)))

/-- The configuration of a severe source is held until its acknowledgement. A write of FLT_SCFG or FLT_SREACT to a severe source changes no word and is held; the acknowledgement stores what is held and holds nothing more; FIRST above LAST, a reaction code of 6 or 7, N = 0, or a value outside its range is refused with reason out of range, and changes and holds nothing. (states R354; the ranges of WIN_MS and ESC_MS are R361's) -/
def Obligations.SevereSourceHoldsConfig : Prop :=
  (∀ (who : Init) (react : Bool) (v : Word) (s : State), react = false → Admitted s who pgFLT 0x04C → scfgOk v → s.isSevere (s.fget FLT_SEL.SRC who.holder) = true → ∃ t, exec (.faultConfigWrite who react v) s = .next t ∧ Took t who ∧
    t.heldCfgOf (s.fget FLT_SEL.SRC who.holder) = some v ∧ t.regs = s.regs) ∧
  (∀ (who : Init) (react : Bool) (v : Word) (s : State), react = true → Admitted s who pgFLT 0x050 → sreactOk v → s.isSevere (s.fget FLT_SEL.SRC who.holder) = true → ∃ t, exec (.faultConfigWrite who react v) s = .next t ∧ Took t who ∧
    t.heldReactOf (s.fget FLT_SEL.SRC who.holder) = some v ∧ t.regs = s.regs) ∧
  (∀ (who : Init) (src : Fin 256) (v w : Word) (s : State), Admitted s who pgFLT 0x058 → src.val ≤ 159 → s.isSevere src.val = true → scfgOk v → sreactOk w → ∃ t, exec (.faultAck who src) s = .next t ∧ Took t who ∧
    t.heldCfgOf src.val = none ∧ t.heldReactOf src.val = none ∧
    (s.heldCfgOf src.val = some v → t.fget FLT_SCFG.N src.val = bitsOf v 31 24 ∧ t.fget FLT_SCFG.WIN_MS src.val = bitsOf v 13 0) ∧
    (s.heldReactOf src.val = some w → t.fget FLT_SREACT.FIRST src.val = bitsOf w 31 29 ∧ t.fget FLT_SREACT.LAST src.val = bitsOf w 28 26 ∧
      t.fget FLT_SREACT.INFO_IRQ src.val = bitsOf w 25 25 ∧ t.fget FLT_SREACT.ESC_MS src.val = bitsOf w 15 0) ∧
    (s.heldCfgOf src.val = none → t.word (scfgKey src.val) = s.word (scfgKey src.val)) ∧
    (s.heldReactOf src.val = none → t.word (sreactKey src.val) = s.word (sreactKey src.val))) ∧
  (∀ (who : Init) (react : Bool) (v : Word) (s : State), react = false → Admitted s who pgFLT 0x04C → ¬ scfgOk v → ∃ t, exec (.faultConfigWrite who react v) s = .next t ∧ t.lastReason who = Reason.outOfRange.code ∧
    t.flt.heldCfg = s.flt.heldCfg ∧ t.flt.heldReact = s.flt.heldReact ∧ t.word (scfgKey (s.fget FLT_SEL.SRC who.holder)) = s.word (scfgKey (s.fget FLT_SEL.SRC who.holder))) ∧
  (∀ (who : Init) (react : Bool) (v : Word) (s : State), react = true → Admitted s who pgFLT 0x050 → ¬ sreactOk v → ∃ t, exec (.faultConfigWrite who react v) s = .next t ∧ t.lastReason who = Reason.outOfRange.code ∧
    t.flt.heldCfg = s.flt.heldCfg ∧ t.flt.heldReact = s.flt.heldReact ∧ t.word (sreactKey (s.fget FLT_SEL.SRC who.holder)) = s.word (sreactKey (s.fget FLT_SEL.SRC who.holder)))

end
end

