-- ==== Sys2Proof/Laws/Tbl.lean ====
section
/-!
SUPPORT. Sparse tables: a read after a write, what a write leaves alone, and that every operation on a table keeps its canonical form.
-/
namespace Sys2Proof.Machine

variable {α : Type}

/-- A key below every listed key is unlisted. -/
theorem Tbl.get_of_above (d : Nat → α) : ∀ (t : List (Nat × α)) (b : Nat), Tbl.above b t = true → Tbl.get d t b = d b
  | [], _, _ => rfl
  | (k, v) :: t, b, h => by
    simp only [Tbl.above, List.all_cons, Bool.and_eq_true, decide_eq_true_eq] at h
    have hne : k ≠ b := by omega
    simp only [Tbl.get, if_neg hne]
    exact Tbl.get_of_above d t b h.2

theorem Tbl.get_put_same (d : Nat → α) (k : Nat) (v : α) : ∀ t : List (Nat × α), Tbl.get d (Tbl.put t k v) k = v
  | [] => by simp [Tbl.put, Tbl.get]
  | (k', v') :: t => by
    unfold Tbl.put
    split
    · simp [Tbl.get]
    · split
      · simp [Tbl.get]
      · rename_i _ h2
        have hne : k' ≠ k := fun h => h2 h.symm
        simp only [Tbl.get, if_neg hne]
        exact Tbl.get_put_same d k v t

theorem Tbl.get_put_ne (d : Nat → α) {k j : Nat} (v : α) (hjk : j ≠ k) : ∀ t : List (Nat × α), Tbl.get d (Tbl.put t k v) j = Tbl.get d t j
  | [] => by simp [Tbl.put, Tbl.get, Ne.symm hjk]
  | (k', v') :: t => by
    unfold Tbl.put
    split
    · simp [Tbl.get, Ne.symm hjk]
    · split
      · rename_i _ h2
        have hne : k' ≠ j := fun h => hjk (by omega)
        simp only [Tbl.get, if_neg hne, if_neg (Ne.symm hjk)]
      · simp only [Tbl.get]
        rw [Tbl.get_put_ne d v hjk t]

theorem Tbl.get_del_same (d : Nat → α) (k : Nat) : ∀ t : List (Nat × α), Tbl.get d (Tbl.del t k) k = d k
  | [] => rfl
  | (k', v') :: t => by
    unfold Tbl.del
    split
    · exact Tbl.get_del_same d k t
    · rename_i h
      simp only [Tbl.get, if_neg h]
      exact Tbl.get_del_same d k t

theorem Tbl.get_del_ne (d : Nat → α) {k j : Nat} (hjk : j ≠ k) : ∀ t : List (Nat × α), Tbl.get d (Tbl.del t k) j = Tbl.get d t j
  | [] => rfl
  | (k', v') :: t => by
    unfold Tbl.del
    split
    · rename_i h
      have hne : k' ≠ j := fun e => hjk (by omega)
      simp only [Tbl.get, if_neg hne]
      exact Tbl.get_del_ne d hjk t
    · simp only [Tbl.get]
      rw [Tbl.get_del_ne d hjk t]

theorem Tbl.above_put {b k : Nat} {v : α} (hb : b < k) : ∀ {t : List (Nat × α)}, Tbl.above b t = true → Tbl.above b (Tbl.put t k v) = true
  | [], _ => by simp [Tbl.put, Tbl.above, hb]
  | (k', v') :: t, h => by
    simp only [Tbl.above, List.all_cons, Bool.and_eq_true, decide_eq_true_eq] at h
    unfold Tbl.put
    split
    · simp only [Tbl.above, List.all_cons, Bool.and_eq_true, decide_eq_true_eq]
      exact ⟨hb, h⟩
    · split
      · simp only [Tbl.above, List.all_cons, Bool.and_eq_true, decide_eq_true_eq]
        exact ⟨hb, h.2⟩
      · simp only [Tbl.above, List.all_cons, Bool.and_eq_true, decide_eq_true_eq]
        exact ⟨h.1, Tbl.above_put hb h.2⟩

theorem Tbl.above_mono {a b : Nat} (hab : a ≤ b) {t : List (Nat × α)} (h : Tbl.above b t = true) : Tbl.above a t = true := by
  simp only [Tbl.above, List.all_eq_true, decide_eq_true_eq] at h ⊢
  intro e he
  have := h e he
  omega

theorem Tbl.above_filterMap {f : Nat × α → Option (Nat × α)} (hf : ∀ e e', f e = some e' → e'.1 = e.1) {b : Nat} {t : List (Nat × α)}
    (h : Tbl.above b t = true) : Tbl.above b (t.filterMap f) = true := by
  simp only [Tbl.above, List.all_eq_true, decide_eq_true_eq, List.mem_filterMap] at h ⊢
  rintro e ⟨e0, h0, h1⟩
  have := h e0 h0
  have := hf e0 e h1
  omega

theorem Tbl.del_eq_filter (k : Nat) : ∀ t : List (Nat × α), Tbl.del t k = t.filter fun e => !decide (e.1 = k)
  | [] => rfl
  | (k', v') :: t => by
    unfold Tbl.del
    split
    · rename_i h
      simp [h, Tbl.del_eq_filter k t]
    · rename_i h
      simp [h, Tbl.del_eq_filter k t]

variable [DecidableEq α]

/-- A read of the key that was written gives the value written. -/
theorem Tbl.get_set_same (d : Nat → α) (t : List (Nat × α)) (k : Nat) (v : α) : Tbl.get d (Tbl.set d t k v) k = v := by
  unfold Tbl.set
  split
  · rename_i h
    rw [Tbl.get_del_same, h]
  · exact Tbl.get_put_same d k v t

/-- A write leaves every other key alone. -/
theorem Tbl.get_set_ne (d : Nat → α) (t : List (Nat × α)) {k j : Nat} (v : α) (h : j ≠ k) : Tbl.get d (Tbl.set d t k v) j = Tbl.get d t j := by
  unfold Tbl.set
  split
  · exact Tbl.get_del_ne d h t
  · exact Tbl.get_put_ne d v h t

theorem Tbl.get_set (d : Nat → α) (t : List (Nat × α)) (k j : Nat) (v : α) :
    Tbl.get d (Tbl.set d t k v) j = if j = k then v else Tbl.get d t j := by
  split
  · rename_i h
    rw [h, Tbl.get_set_same]
  · rename_i h
    exact Tbl.get_set_ne d t v h

theorem Tbl.wf_put {d : Nat → α} {k : Nat} {v : α} (hv : v ≠ d k) : ∀ {t : List (Nat × α)}, Tbl.wf d t = true → Tbl.wf d (Tbl.put t k v) = true
  | [], _ => by simp [Tbl.put, Tbl.wf, Tbl.above, hv]
  | (k', v') :: t, h => by
    simp only [Tbl.wf, Bool.and_eq_true, Bool.not_eq_true', decide_eq_false_iff_not] at h
    unfold Tbl.put
    split
    · rename_i hk
      simp only [Tbl.wf, Bool.and_eq_true, Bool.not_eq_true', decide_eq_false_iff_not]
      refine ⟨⟨?_, hv⟩, h⟩
      simp only [Tbl.above, List.all_cons, Bool.and_eq_true, decide_eq_true_eq]
      exact ⟨hk, Tbl.above_mono (Nat.le_of_lt hk) h.1.1⟩
    · split
      · rename_i _ hk
        subst hk
        simp only [Tbl.wf, Bool.and_eq_true, Bool.not_eq_true', decide_eq_false_iff_not]
        exact ⟨⟨h.1.1, hv⟩, h.2⟩
      · rename_i h1 h2
        simp only [Tbl.wf, Bool.and_eq_true, Bool.not_eq_true', decide_eq_false_iff_not]
        exact ⟨⟨Tbl.above_put (by omega) h.1.1, h.1.2⟩, Tbl.wf_put hv h.2⟩

/-- Keeping some of the entries, with changed values that still differ from what an unlisted key reads as, keeps the canonical form. -/
theorem Tbl.wf_filterMap {d : Nat → α} {f : Nat × α → Option (Nat × α)} (hf : ∀ e e', f e = some e' → e'.1 = e.1)
    (hd : ∀ e e', e.2 ≠ d e.1 → f e = some e' → e'.2 ≠ d e'.1) : ∀ {t : List (Nat × α)}, Tbl.wf d t = true → Tbl.wf d (t.filterMap f) = true
  | [], _ => rfl
  | (k, v) :: t, h => by
    simp only [Tbl.wf, Bool.and_eq_true, Bool.not_eq_true', decide_eq_false_iff_not] at h
    rw [List.filterMap_cons]
    split
    · exact Tbl.wf_filterMap hf hd h.2
    · rename_i e' he
      obtain ⟨k', v'⟩ := e'
      have hk : k' = k := hf _ _ he
      simp only [Tbl.wf, Bool.and_eq_true, Bool.not_eq_true', decide_eq_false_iff_not]
      refine ⟨⟨?_, hd _ _ h.1.2 he⟩, Tbl.wf_filterMap hf hd h.2⟩
      rw [hk]
      exact Tbl.above_filterMap hf h.1.1

/-- Dropping entries keeps the canonical form. -/
theorem Tbl.wf_filter {d : Nat → α} {p : Nat × α → Bool} {t : List (Nat × α)} (h : Tbl.wf d t = true) : Tbl.wf d (t.filter p) = true := by
  have hfm : t.filter p = t.filterMap (Option.guard fun e => p e = true) := by simp [List.filterMap_eq_filter]
  rw [hfm]
  refine Tbl.wf_filterMap ?_ ?_ h
  · intro e e' he
    simp [Option.guard] at he
    rw [he.2]
  · intro e e' hne he
    simp [Option.guard] at he
    rw [← he.2]
    exact hne

/-- A write keeps the canonical form. -/
theorem Tbl.wf_set {d : Nat → α} {t : List (Nat × α)} {k : Nat} {v : α} (h : Tbl.wf d t = true) : Tbl.wf d (Tbl.set d t k v) = true := by
  unfold Tbl.set
  split
  · rw [Tbl.del_eq_filter]
    exact Tbl.wf_filter h
  · rename_i hv
    exact Tbl.wf_put hv h

/-- Two tables in canonical form that read the same are the same data. -/
theorem Tbl.ext {d : Nat → α} : ∀ {t u : List (Nat × α)}, Tbl.wf d t = true → Tbl.wf d u = true → (∀ k, Tbl.get d t k = Tbl.get d u k) → t = u
  | [], [], _, _, _ => rfl
  | [], (k, v) :: u, _, hu, h => by
    simp only [Tbl.wf, Bool.and_eq_true, Bool.not_eq_true', decide_eq_false_iff_not] at hu
    have := h k
    simp [Tbl.get] at this
    exact absurd this.symm hu.1.2
  | (k, v) :: t, [], ht, _, h => by
    simp only [Tbl.wf, Bool.and_eq_true, Bool.not_eq_true', decide_eq_false_iff_not] at ht
    have := h k
    simp [Tbl.get] at this
    exact absurd this ht.1.2
  | (k, v) :: t, (j, w) :: u, ht, hu, h => by
    simp only [Tbl.wf, Bool.and_eq_true, Bool.not_eq_true', decide_eq_false_iff_not] at ht hu
    have hkj : k = j := by
      by_contra hne
      rcases Nat.lt_or_gt_of_ne hne with hlt | hlt
      · have h1 := h k
        have hab : Tbl.above k ((j, w) :: u) = true := by
          simp only [Tbl.above, List.all_cons, Bool.and_eq_true, decide_eq_true_eq]
          exact ⟨hlt, Tbl.above_mono (Nat.le_of_lt hlt) hu.1.1⟩
        rw [Tbl.get_of_above d _ k hab] at h1
        simp [Tbl.get] at h1
        exact ht.1.2 h1
      · have h1 := h j
        have hab : Tbl.above j ((k, v) :: t) = true := by
          simp only [Tbl.above, List.all_cons, Bool.and_eq_true, decide_eq_true_eq]
          exact ⟨hlt, Tbl.above_mono (Nat.le_of_lt hlt) ht.1.1⟩
        rw [Tbl.get_of_above d _ j hab] at h1
        simp [Tbl.get] at h1
        exact hu.1.2 h1.symm
    subst hkj
    have hv : v = w := by
      have := h k
      simpa [Tbl.get] using this
    subst hv
    have : t = u := by
      refine Tbl.ext ht.2 hu.2 fun j => ?_
      by_cases hj : k = j
      · subst hj
        rw [Tbl.get_of_above d t k ht.1.1, Tbl.get_of_above d u k hu.1.1]
      · have := h j
        simpa [Tbl.get, hj] using this
    rw [this]

end Sys2Proof.Machine
end

