-- ==== Sys2Proof/Laws/Foot.lean ====
section
/-!
SUPPORT. Footprints: `R T s t` says that `t` differs from `s` at most in what the mask `T` names, and that the canonical form is kept. Each
operation of the machine has one lemma of this kind (the Laws.Foot files); the lemmas here are those of record updates and of register writes.
-/
namespace Sys2Proof.Machine

/-- Registers by number: address and stride. -/
def regTab0 : List (Nat × Nat) :=
  [(28896, 4), (16, 4096), (28, 4096), (1024, 4096), (32844, 0), (28832, 4), (12, 4096), (32832, 0), (32840, 0), (32836, 0), (32848, 0), (36928, 0), (41040, 0), (41060, 0), (32864, 0), (36964, 0), (36960, 0), (41056, 0), (41048, 0), (41044, 0), (41052, 0), (4196, 0), (4200, 0), (4204, 0), (4208, 0), (28736, 0), (28772, 0), (28768, 0), (4192, 0), (66068, 0), (4168, 0), (4176, 0)]

/-- Registers by number: address and stride. -/
def regTab1 : List (Nat × Nat) :=
  [(4172, 0), (4184, 0), (4180, 0), (4188, 0), (66056, 0), (66060, 0), (66088, 0), (66064, 0), (40, 4096), (28776, 0), (28780, 0), (78344, 16), (78976, 4), (78340, 16), (36968, 0), (16448, 0), (16456, 0), (8256, 0), (8288, 0), (16452, 0), (16508, 0), (20544, 0), (24656, 0), (24644, 0), (24648, 0), (73796, 0), (73800, 0), (73804, 0), (73808, 0), (73840, 4), (73824, 0), (73828, 0)]

/-- Registers by number: address and stride. -/
def regTab2 : List (Nat × Nat) :=
  [(82040, 262144), (83012, 262144), (82956, 262144), (82952, 262144), (82964, 262144), (82960, 262144), (81988, 262144), (103232, 4), (103176, 0), (52, 4096), (82092, 0), (82088, 0), (196676, 262144), (196680, 262144), (196684, 262144), (106596, 262144), (106592, 262144), (106588, 262144), (106584, 262144), (106600, 262144), (106612, 262144), (106580, 262144), (106608, 262144), (106604, 262144), (49288, 12), (49216, 0), (53384, 16), (45152, 0), (94272, 0), (73928, 0), (73920, 0), (73924, 0)]

/-- Registers by number: address and stride. -/
def regTab3 : List (Nat × Nat) :=
  [(73932, 0), (99200, 4), (94284, 0), (94304, 4), (94288, 0), (86276, 8), (86192, 0), (86112, 4), (86156, 262144), (86128, 4), (110700, 262144), (110668, 262144), (107008, 4), (110660, 262144), (110684, 262144), (110672, 262144), (110692, 262144), (110664, 262144), (110696, 262144), (110688, 262144), (110680, 262144), (110676, 262144), (114784, 4), (102464, 0), (102468, 0), (98392, 0), (98400, 262144), (98408, 262144), (98404, 262144), (98412, 262144), (98416, 262144), (98420, 262144)]

/-- Registers by number: address and stride. -/
def regTab4 : List (Nat × Nat) :=
  [(98388, 0), (94416, 262144), (94440, 0), (94424, 262144), (94420, 262144), (94432, 262144), (78336, 16), (65796, 8), (65632, 4), (65608, 0), (65612, 0), (65952, 0), (65960, 0), (65932, 0), (65936, 0), (65940, 0), (102472, 0), (103432, 0), (102476, 0), (98560, 4), (69708, 0), (69724, 0), (69720, 0), (69736, 0), (69728, 0), (69732, 0), (69716, 0), (69712, 0), (90192, 262144), (90196, 262144), (73880, 0), (73900, 0)]

/-- Registers by number: address and stride. -/
def regTab5 : List (Nat × Nat) :=
  [(73896, 0), (73892, 0), (73904, 0), (73872, 0), (73940, 0), (73936, 0), (73792, 0), (73888, 0), (73884, 0), (73944, 0), (45148, 0), (53380, 16), (53388, 16), (53376, 16), (53312, 0), (57412, 0), (45156, 0), (45124, 0), (45132, 0), (61504, 0), (61512, 262144), (61528, 262144), (61524, 262144), (61520, 262144), (61516, 262144), (45120, 0), (45136, 0), (65956, 0), (77900, 0), (102656, 4), (102480, 0), (99072, 4)]

/-- Registers by number: address and stride. -/
def regTab6 : List (Nat × Nat) :=
  [(118864, 32), (119040, 4), (118912, 0), (118916, 0), (118928, 4), (118872, 32), (118868, 32), (131148, 0), (12356, 0), (94276, 0), (131152, 0), (131200, 4), (127048, 16), (127052, 16), (122960, 32), (122964, 32), (135376, 4096), (135380, 4096), (135384, 4096), (151628, 0), (151632, 0), (155728, 0), (155732, 0), (155712, 0), (155716, 0), (155736, 0), (8300, 0), (16648, 0), (8272, 0), (8276, 0), (8260, 0), (28756, 262144)]

/-- Registers by number: address and stride. -/
def regTab7 : List (Nat × Nat) :=
  [(28864, 4), (28800, 4), (28764, 0), (29728, 0), (12368, 0), (82980, 0), (8, 4096), (20, 4096)]

/-- The registers that masks name by number. -/
def regTabs : List (List (Nat × Nat)) := [regTab0, regTab1, regTab2, regTab3, regTab4, regTab5, regTab6, regTab7]

/-- The register of a number; one that is not listed lies past every address. -/
def regOf (j : Nat) : Nat × Nat := (regTabs.getD (j / 32) []).getD (j % 32) (0, 0)

/-- The bit of a part in a mask. Bit 1 stands for every register, bit 96 + j for register j. -/
def Part.bit : Part → Nat
  | .member => 0
  | .ctx => 2
  | .timers => 3
  | .time => 4
  | .evtCount => 5
  | .evtShadow => 6
  | .expert => 7
  | .shadow => 8
  | .coefStage => 9
  | .coefShadow => 10
  | .windows => 11
  | .heldWrites => 12
  | .rdata => 13
  | .busRefuse => 14
  | .xts => 15
  | .clockDev => 16
  | .crcPass => 17
  | .released => 18
  | .gated => 19
  | .flt => 20
  | .evr => 21
  | .nva => 22
  | .hup => 23
  | .reports => 24
  | .sec => 25
  | .dbg => 26
  | .trc => 27
  | .pwr => 28
  | .chn => 29
  | .sch => 30
  | .can => 31
  | .cen => 32
  | .npr => 33
  | .fel => 34
  | .ggr => 35
  | .ftm => 36
  | .gcp => 37
  | .fhl => 38
  | .hk => 39
  | .twb => 40
  | .twt => 41
  | .rst => 42
  | .free => 43
  | .pending => 44
  | .lostIn => 45
  | .secLc => 60
  | .secSecondWord => 61
  | .secRedeploy => 62
  | .secLcReq => 63
  | .secKeys => 64
  | .secKeyReq => 65
  | .secRoots => 66
  | .secFwSvn => 67
  | .secExtSvn => 68
  | .secExtRun => 69
  | .secRoleCommitted => 70
  | .secBootBank => 71
  | .nvBytes => 80
  | .schImg => 81

/-- The mask `a` lies within `b`. -/
def Sub (a b : Nat) : Prop := a &&& b = a

theorem Sub.trans {a b c : Nat} (h : a &&& b = a) (k : Sub b c) : Sub a c := by
  unfold Sub at *
  rw [← h, Nat.and_assoc, k]

theorem Sub.bit {n T : Nat} (h : Sub (2 ^ n) T) : T.testBit n = true := by
  unfold Sub at h
  have := congrArg (fun x => x.testBit n) h
  simpa [Nat.testBit_and, Nat.testBit_two_pow_self] using this

/-- `t` differs from `s` at most in what the mask names, and is canonical when `s` is. -/
structure R (T : Nat) (s t : State) : Prop where
  part : ∀ p : Part, T.testBit p.bit = false → p.same s t
  reg : T.testBit 1 = false → ∀ k, (∀ j, T.testBit (96 + j) = true → ∀ u, k ≠ (regOf j).1 + (regOf j).2 * u) → t.word k = s.word k
  canon : Canonical s → Canonical t

/-- What a register write may give. -/
def RW (T : Nat) (s : State) (w : WRes) : Prop := ∀ t, w = .ok t → R T s t

/-- What a command may give. -/
def RO (T : Nat) (s : State) (o : Host.Outcome State Fault Refusal) : Prop := ∀ t, o = .next t → R T s t

theorem R.refl {T s} : R T s s := ⟨fun p _ => by cases p <;> rfl, fun _ _ _ => rfl, id⟩

theorem R.ite {T s0 c} [Decidable c] {a b : State} (ha : R T s0 a) (hb : R T s0 b) : R T s0 (if c then a else b) := by
  split
  · exact ha
  · exact hb

theorem R.dite {T s0 c} [Decidable c] {a : c → State} {b : ¬c → State} (ha : ∀ h, R T s0 (a h)) (hb : ∀ h, R T s0 (b h)) :
    R T s0 (if h : c then a h else b h) := by
  split
  · exact ha _
  · exact hb _

theorem R.foldl {α : Type _} {T s0} {f : State → α → State} (hf : ∀ s x, R T s0 s → R T s0 (f s x)) :
    ∀ {l : List α} {s : State}, R T s0 s → R T s0 (l.foldl f s)
  | [], _, h => h
  | x :: l, s, h => by
    show R T s0 (l.foldl f (f s x))
    exact R.foldl hf (hf _ x h)

theorem RW.ok {T s0 s} (h : R T s0 s) : RW T s0 (.ok s) := fun _ e => by cases e; exact h

theorem RW.err {T s0 r} : RW T s0 (.error r) := fun _ e => by cases e

theorem RW.ite {T s0 c} [Decidable c] {a b : WRes} (ha : RW T s0 a) (hb : RW T s0 b) : RW T s0 (if c then a else b) := by
  split
  · exact ha
  · exact hb

theorem RW.dite {T s0 c} [Decidable c] {a : c → WRes} {b : ¬c → WRes} (ha : ∀ h, RW T s0 (a h)) (hb : ∀ h, RW T s0 (b h)) :
    RW T s0 (if h : c then a h else b h) := by
  split
  · exact ha _
  · exact hb _

theorem RW.orRefuse {T s0 c r k} (h : RW T s0 k) : RW T s0 (orRefuse c r k) := by
  unfold Machine.orRefuse
  exact RW.ite h RW.err

theorem RO.next {T s0 s} (h : R T s0 s) : RO T s0 (.next s) := fun _ e => by cases e; exact h

theorem RO.ite {T s0 c} [Decidable c] {a b : Host.Outcome State Fault Refusal} (ha : RO T s0 a) (hb : RO T s0 b) : RO T s0 (if c then a else b) := by
  split
  · exact ha
  · exact hb

/-- A larger mask says less. -/
theorem R.mono {T U s t} (h : R T s t) (hs : Sub T U) : R U s t := by
  have hb : ∀ n, U.testBit n = false → T.testBit n = false := by
    intro n hn
    have := congrArg (fun x => x.testBit n) hs
    simp only [Nat.testBit_and, hn, Bool.and_false] at this
    exact this.symm
  refine ⟨fun p hp => h.part p (hb _ hp), fun h1 k hk => h.reg (hb _ h1) k fun j hj => hk j ?_, h.canon⟩
  by_contra hc
  rw [hb _ (by simpa using hc)] at hj
  cases hj

/-! Register writes. -/

/-- A field lies in a register that the mask names. -/
def RegIn (T : Nat) (f : Fld) : Prop := ∃ j, T.testBit (96 + j) = true ∧ regOf j = (f.base, f.stride)

theorem RegIn.of {T f} (j : Nat) (hT : Sub (2 ^ (96 + j)) T) (h : regOf j = (f.base, f.stride)) : RegIn T f := ⟨j, hT.bit, h⟩

theorem R.setWordAt {T s0 s k w} (h : R T s0 s) (hk : T.testBit 1 = true ∨ ∃ j, T.testBit (96 + j) = true ∧ ∃ u, k = (regOf j).1 + (regOf j).2 * u) :
    R T s0 (s.setWord k w) := by
  refine ⟨fun p hp => ?_, fun h1 i hi => ?_, fun hc => ?_⟩
  · have := h.part p hp
    revert this
    cases p <;> exact id
  · rw [← h.reg h1 i hi]
    unfold State.word State.setWord
    refine Tbl.get_set_ne _ _ _ ?_
    rintro rfl
    rcases hk with hk | ⟨j, hj, u, hu⟩
    · rw [hk] at h1
      cases h1
    · exact hi j hj u hu
  · have c := h.canon hc
    exact { c with regs := Tbl.wf_set c.regs }

theorem R.setWord {T s0 s k w} (hT : Sub 0x2 T) (h : R T s0 s) : R T s0 (s.setWord k w) :=
  h.setWordAt (.inl (Sub.bit (n := 1) hT))

theorem R.fset {T s0 s u v} {f : Fld} (hf : RegIn T f) (h : R T s0 s) : R T s0 (s.fset f u v) := by
  obtain ⟨j, hj, e⟩ := hf
  refine h.setWordAt (.inr ⟨j, hj, u, ?_⟩)
  rw [e]
  rfl

theorem R.fsetI {T s0 s u v} {f : Fld} (hf : RegIn T f) (h : R T s0 s) : R T s0 (s.fsetI f u v) := R.fset hf h
theorem R.fsetB {T s0 s u v} {f : Fld} (hf : RegIn T f) (h : R T s0 s) : R T s0 (s.fsetB f u v) := R.fset hf h
theorem R.fbump {T s0 s u} {f : Fld} (hf : RegIn T f) (h : R T s0 s) : R T s0 (s.fbump f u) := R.fset hf h
theorem R.fsetBit {T s0 s u n b} {f : Fld} (hf : RegIn T f) (h : R T s0 s) : R T s0 (s.fsetBit f u n b) := R.fset hf h
theorem R.fset' {T s0 s u v} {f : Fld} (hT : Sub 0x2 T) (h : R T s0 s) : R T s0 (s.fset f u v) := R.setWord hT h
theorem R.fsetI' {T s0 s u v} {f : Fld} (hT : Sub 0x2 T) (h : R T s0 s) : R T s0 (s.fsetI f u v) := R.setWord hT h
theorem R.fsetB' {T s0 s u v} {f : Fld} (hT : Sub 0x2 T) (h : R T s0 s) : R T s0 (s.fsetB f u v) := R.setWord hT h
theorem R.fbump' {T s0 s u} {f : Fld} (hT : Sub 0x2 T) (h : R T s0 s) : R T s0 (s.fbump f u) := R.setWord hT h
theorem R.fsetBit' {T s0 s u n b} {f : Fld} (hT : Sub 0x2 T) (h : R T s0 s) : R T s0 (s.fsetBit f u n b) := R.setWord hT h

/-! Record updates. -/

theorem R.set_busRefuse {T s0} {x : State} {v_busRefuse : List (Nat × Nat)} (hT : Sub 0x4000 T) (w_busRefuse : Tbl.wf (fun _ => 0) x.busRefuse = true → Tbl.wf (fun _ => 0) v_busRefuse = true) (h : R T s0 x) : R T s0 { x with busRefuse := v_busRefuse } := by
  refine ⟨fun p hp => ?_, fun h1 k hk => ?_, fun hc => ?_⟩
  · have e := h.part p hp
    revert e
    cases p
    case busRefuse => exact absurd (Sub.bit (n := 14) (Sub.trans rfl hT)) (by rw [show Part.bit .busRefuse = 14 from rfl] at hp; simp [hp])
    all_goals exact id
  · exact h.reg h1 k hk
  · have c := h.canon hc
    exact ⟨c.regs, c.ctx, c.timers, c.evtCount, c.evtShadow, c.expert, c.shadow, c.coefStage, c.coefShadow, c.windows, c.rdata, w_busRefuse c.busRefuse, c.clockDev, c.lostIn, c.crcPass, c.released, c.gated, c.twb, c.nvBytes, c.schImg⟩

theorem R.set_can {T s0} {x : State} {v_can : CanSt} (hT : Sub 0x80000000 T) (h : R T s0 x) : R T s0 { x with can := v_can } := by
  refine ⟨fun p hp => ?_, fun h1 k hk => ?_, fun hc => ?_⟩
  · have e := h.part p hp
    revert e
    cases p
    case can => exact absurd (Sub.bit (n := 31) (Sub.trans rfl hT)) (by rw [show Part.bit .can = 31 from rfl] at hp; simp [hp])
    all_goals exact id
  · exact h.reg h1 k hk
  · have c := h.canon hc
    exact ⟨c.regs, c.ctx, c.timers, c.evtCount, c.evtShadow, c.expert, c.shadow, c.coefStage, c.coefShadow, c.windows, c.rdata, c.busRefuse, c.clockDev, c.lostIn, c.crcPass, c.released, c.gated, c.twb, c.nvBytes, c.schImg⟩

theorem R.set_can_npr {T s0} {x : State} {v_can : CanSt} {v_npr : NprSt} (hT : Sub 0x280000000 T) (h : R T s0 x) : R T s0 { x with can := v_can, npr := v_npr } := by
  refine ⟨fun p hp => ?_, fun h1 k hk => ?_, fun hc => ?_⟩
  · have e := h.part p hp
    revert e
    cases p
    case can => exact absurd (Sub.bit (n := 31) (Sub.trans rfl hT)) (by rw [show Part.bit .can = 31 from rfl] at hp; simp [hp])
    case npr => exact absurd (Sub.bit (n := 33) (Sub.trans rfl hT)) (by rw [show Part.bit .npr = 33 from rfl] at hp; simp [hp])
    all_goals exact id
  · exact h.reg h1 k hk
  · have c := h.canon hc
    exact ⟨c.regs, c.ctx, c.timers, c.evtCount, c.evtShadow, c.expert, c.shadow, c.coefStage, c.coefShadow, c.windows, c.rdata, c.busRefuse, c.clockDev, c.lostIn, c.crcPass, c.released, c.gated, c.twb, c.nvBytes, c.schImg⟩

theorem R.set_cen {T s0} {x : State} {v_cen : CenSt} (hT : Sub 0x100000000 T) (h : R T s0 x) : R T s0 { x with cen := v_cen } := by
  refine ⟨fun p hp => ?_, fun h1 k hk => ?_, fun hc => ?_⟩
  · have e := h.part p hp
    revert e
    cases p
    case cen => exact absurd (Sub.bit (n := 32) (Sub.trans rfl hT)) (by rw [show Part.bit .cen = 32 from rfl] at hp; simp [hp])
    all_goals exact id
  · exact h.reg h1 k hk
  · have c := h.canon hc
    exact ⟨c.regs, c.ctx, c.timers, c.evtCount, c.evtShadow, c.expert, c.shadow, c.coefStage, c.coefShadow, c.windows, c.rdata, c.busRefuse, c.clockDev, c.lostIn, c.crcPass, c.released, c.gated, c.twb, c.nvBytes, c.schImg⟩

theorem R.set_cen_fel {T s0} {x : State} {v_cen : CenSt} {v_fel : FelSt} (hT : Sub 0x500000000 T) (h : R T s0 x) : R T s0 { x with cen := v_cen, fel := v_fel } := by
  refine ⟨fun p hp => ?_, fun h1 k hk => ?_, fun hc => ?_⟩
  · have e := h.part p hp
    revert e
    cases p
    case cen => exact absurd (Sub.bit (n := 32) (Sub.trans rfl hT)) (by rw [show Part.bit .cen = 32 from rfl] at hp; simp [hp])
    case fel => exact absurd (Sub.bit (n := 34) (Sub.trans rfl hT)) (by rw [show Part.bit .fel = 34 from rfl] at hp; simp [hp])
    all_goals exact id
  · exact h.reg h1 k hk
  · have c := h.canon hc
    exact ⟨c.regs, c.ctx, c.timers, c.evtCount, c.evtShadow, c.expert, c.shadow, c.coefStage, c.coefShadow, c.windows, c.rdata, c.busRefuse, c.clockDev, c.lostIn, c.crcPass, c.released, c.gated, c.twb, c.nvBytes, c.schImg⟩

theorem R.set_chn {T s0} {x : State} {v_chn : ChnSt} (hT : Sub 0x20000000 T) (h : R T s0 x) : R T s0 { x with chn := v_chn } := by
  refine ⟨fun p hp => ?_, fun h1 k hk => ?_, fun hc => ?_⟩
  · have e := h.part p hp
    revert e
    cases p
    case chn => exact absurd (Sub.bit (n := 29) (Sub.trans rfl hT)) (by rw [show Part.bit .chn = 29 from rfl] at hp; simp [hp])
    all_goals exact id
  · exact h.reg h1 k hk
  · have c := h.canon hc
    exact ⟨c.regs, c.ctx, c.timers, c.evtCount, c.evtShadow, c.expert, c.shadow, c.coefStage, c.coefShadow, c.windows, c.rdata, c.busRefuse, c.clockDev, c.lostIn, c.crcPass, c.released, c.gated, c.twb, c.nvBytes, c.schImg⟩

theorem R.set_clockDev {T s0} {x : State} {v_clockDev : List (Nat × Nat)} (hT : Sub 0x10000 T) (w_clockDev : Tbl.wf (fun _ => 0) x.clockDev = true → Tbl.wf (fun _ => 0) v_clockDev = true) (h : R T s0 x) : R T s0 { x with clockDev := v_clockDev } := by
  refine ⟨fun p hp => ?_, fun h1 k hk => ?_, fun hc => ?_⟩
  · have e := h.part p hp
    revert e
    cases p
    case clockDev => exact absurd (Sub.bit (n := 16) (Sub.trans rfl hT)) (by rw [show Part.bit .clockDev = 16 from rfl] at hp; simp [hp])
    all_goals exact id
  · exact h.reg h1 k hk
  · have c := h.canon hc
    exact ⟨c.regs, c.ctx, c.timers, c.evtCount, c.evtShadow, c.expert, c.shadow, c.coefStage, c.coefShadow, c.windows, c.rdata, c.busRefuse, w_clockDev c.clockDev, c.lostIn, c.crcPass, c.released, c.gated, c.twb, c.nvBytes, c.schImg⟩

theorem R.set_coefShadow {T s0} {x : State} {v_coefShadow : List (Nat × Option (Nat × Word))} (hT : Sub 0x400 T) (w_coefShadow : Tbl.wf (fun _ => none) x.coefShadow = true → Tbl.wf (fun _ => none) v_coefShadow = true) (h : R T s0 x) : R T s0 { x with coefShadow := v_coefShadow } := by
  refine ⟨fun p hp => ?_, fun h1 k hk => ?_, fun hc => ?_⟩
  · have e := h.part p hp
    revert e
    cases p
    case coefShadow => exact absurd (Sub.bit (n := 10) (Sub.trans rfl hT)) (by rw [show Part.bit .coefShadow = 10 from rfl] at hp; simp [hp])
    all_goals exact id
  · exact h.reg h1 k hk
  · have c := h.canon hc
    exact ⟨c.regs, c.ctx, c.timers, c.evtCount, c.evtShadow, c.expert, c.shadow, c.coefStage, w_coefShadow c.coefShadow, c.windows, c.rdata, c.busRefuse, c.clockDev, c.lostIn, c.crcPass, c.released, c.gated, c.twb, c.nvBytes, c.schImg⟩

theorem R.set_coefStage {T s0} {x : State} {v_coefStage : List (Nat × Option (Nat × Word))} (hT : Sub 0x200 T) (w_coefStage : Tbl.wf (fun _ => none) x.coefStage = true → Tbl.wf (fun _ => none) v_coefStage = true) (h : R T s0 x) : R T s0 { x with coefStage := v_coefStage } := by
  refine ⟨fun p hp => ?_, fun h1 k hk => ?_, fun hc => ?_⟩
  · have e := h.part p hp
    revert e
    cases p
    case coefStage => exact absurd (Sub.bit (n := 9) (Sub.trans rfl hT)) (by rw [show Part.bit .coefStage = 9 from rfl] at hp; simp [hp])
    all_goals exact id
  · exact h.reg h1 k hk
  · have c := h.canon hc
    exact ⟨c.regs, c.ctx, c.timers, c.evtCount, c.evtShadow, c.expert, c.shadow, w_coefStage c.coefStage, c.coefShadow, c.windows, c.rdata, c.busRefuse, c.clockDev, c.lostIn, c.crcPass, c.released, c.gated, c.twb, c.nvBytes, c.schImg⟩

theorem R.set_crcPass {T s0} {x : State} {v_crcPass : List (Nat × Bool)} (hT : Sub 0x20000 T) (w_crcPass : Tbl.wf (fun _ => false) x.crcPass = true → Tbl.wf (fun _ => false) v_crcPass = true) (h : R T s0 x) : R T s0 { x with crcPass := v_crcPass } := by
  refine ⟨fun p hp => ?_, fun h1 k hk => ?_, fun hc => ?_⟩
  · have e := h.part p hp
    revert e
    cases p
    case crcPass => exact absurd (Sub.bit (n := 17) (Sub.trans rfl hT)) (by rw [show Part.bit .crcPass = 17 from rfl] at hp; simp [hp])
    all_goals exact id
  · exact h.reg h1 k hk
  · have c := h.canon hc
    exact ⟨c.regs, c.ctx, c.timers, c.evtCount, c.evtShadow, c.expert, c.shadow, c.coefStage, c.coefShadow, c.windows, c.rdata, c.busRefuse, c.clockDev, c.lostIn, w_crcPass c.crcPass, c.released, c.gated, c.twb, c.nvBytes, c.schImg⟩

theorem R.set_ctx {T s0} {x : State} {v_ctx : List (Nat × Word)} (hT : Sub 0x4 T) (w_ctx : Tbl.wf ctxReset x.ctx = true → Tbl.wf ctxReset v_ctx = true) (h : R T s0 x) : R T s0 { x with ctx := v_ctx } := by
  refine ⟨fun p hp => ?_, fun h1 k hk => ?_, fun hc => ?_⟩
  · have e := h.part p hp
    revert e
    cases p
    case ctx => exact absurd (Sub.bit (n := 2) (Sub.trans rfl hT)) (by rw [show Part.bit .ctx = 2 from rfl] at hp; simp [hp])
    all_goals exact id
  · exact h.reg h1 k hk
  · have c := h.canon hc
    exact ⟨c.regs, w_ctx c.ctx, c.timers, c.evtCount, c.evtShadow, c.expert, c.shadow, c.coefStage, c.coefShadow, c.windows, c.rdata, c.busRefuse, c.clockDev, c.lostIn, c.crcPass, c.released, c.gated, c.twb, c.nvBytes, c.schImg⟩

theorem R.set_dbg {T s0} {x : State} {v_dbg : DbgSt} (hT : Sub 0x4000000 T) (h : R T s0 x) : R T s0 { x with dbg := v_dbg } := by
  refine ⟨fun p hp => ?_, fun h1 k hk => ?_, fun hc => ?_⟩
  · have e := h.part p hp
    revert e
    cases p
    case dbg => exact absurd (Sub.bit (n := 26) (Sub.trans rfl hT)) (by rw [show Part.bit .dbg = 26 from rfl] at hp; simp [hp])
    all_goals exact id
  · exact h.reg h1 k hk
  · have c := h.canon hc
    exact ⟨c.regs, c.ctx, c.timers, c.evtCount, c.evtShadow, c.expert, c.shadow, c.coefStage, c.coefShadow, c.windows, c.rdata, c.busRefuse, c.clockDev, c.lostIn, c.crcPass, c.released, c.gated, c.twb, c.nvBytes, c.schImg⟩

theorem R.set_evr {T s0} {x : State} {v_evr : EvrSt} (hT : Sub 0x200000 T) (h : R T s0 x) : R T s0 { x with evr := v_evr } := by
  refine ⟨fun p hp => ?_, fun h1 k hk => ?_, fun hc => ?_⟩
  · have e := h.part p hp
    revert e
    cases p
    case evr => exact absurd (Sub.bit (n := 21) (Sub.trans rfl hT)) (by rw [show Part.bit .evr = 21 from rfl] at hp; simp [hp])
    all_goals exact id
  · exact h.reg h1 k hk
  · have c := h.canon hc
    exact ⟨c.regs, c.ctx, c.timers, c.evtCount, c.evtShadow, c.expert, c.shadow, c.coefStage, c.coefShadow, c.windows, c.rdata, c.busRefuse, c.clockDev, c.lostIn, c.crcPass, c.released, c.gated, c.twb, c.nvBytes, c.schImg⟩

theorem R.set_evr_nva_sec_dbg_trc_pwr_rst {T s0} {x : State} {v_evr : EvrSt} {v_nva : NvaSt} {v_sec : SecSt} {v_dbg : DbgSt} {v_trc : TrcSt} {v_pwr : PwrSt} {v_rst : RstSt} (hT : Sub 0x4001e600000 T) (n_nvBytes : (Sub 0x100000000000000000000 T ∧ (Tbl.wf (fun _ => 0xFF) x.nva.bytes = true → Tbl.wf (fun _ => 0xFF) v_nva.bytes = true)) ∨ v_nva.bytes = x.nva.bytes) (n_secLc : Sub 0x1000000000000000 T ∨ v_sec.lc = x.sec.lc) (n_secSecondWord : Sub 0x2000000000000000 T ∨ v_sec.secondWord = x.sec.secondWord) (n_secRedeploy : Sub 0x4000000000000000 T ∨ v_sec.redeploy = x.sec.redeploy) (n_secLcReq : Sub 0x8000000000000000 T ∨ v_sec.lcReq = x.sec.lcReq) (n_secKeys : Sub 0x10000000000000000 T ∨ v_sec.keys = x.sec.keys) (n_secKeyReq : Sub 0x20000000000000000 T ∨ v_sec.keyReq = x.sec.keyReq) (n_secRoots : Sub 0x40000000000000000 T ∨ v_sec.roots = x.sec.roots) (n_secFwSvn : Sub 0x80000000000000000 T ∨ v_sec.fwSvn = x.sec.fwSvn) (n_secExtSvn : Sub 0x100000000000000000 T ∨ v_sec.extSvn = x.sec.extSvn) (n_secExtRun : Sub 0x200000000000000000 T ∨ v_sec.extRun = x.sec.extRun) (n_secRoleCommitted : Sub 0x400000000000000000 T ∨ v_sec.roleCommitted = x.sec.roleCommitted) (n_secBootBank : Sub 0x800000000000000000 T ∨ v_sec.bootBank = x.sec.bootBank) (h : R T s0 x) : R T s0 { x with evr := v_evr, nva := v_nva, sec := v_sec, dbg := v_dbg, trc := v_trc, pwr := v_pwr, rst := v_rst } := by
  refine ⟨fun p hp => ?_, fun h1 k hk => ?_, fun hc => ?_⟩
  · have e := h.part p hp
    revert e
    cases p
    case evr => exact absurd (Sub.bit (n := 21) (Sub.trans rfl hT)) (by rw [show Part.bit .evr = 21 from rfl] at hp; simp [hp])
    case nva => exact absurd (Sub.bit (n := 22) (Sub.trans rfl hT)) (by rw [show Part.bit .nva = 22 from rfl] at hp; simp [hp])
    case sec => exact absurd (Sub.bit (n := 25) (Sub.trans rfl hT)) (by rw [show Part.bit .sec = 25 from rfl] at hp; simp [hp])
    case dbg => exact absurd (Sub.bit (n := 26) (Sub.trans rfl hT)) (by rw [show Part.bit .dbg = 26 from rfl] at hp; simp [hp])
    case trc => exact absurd (Sub.bit (n := 27) (Sub.trans rfl hT)) (by rw [show Part.bit .trc = 27 from rfl] at hp; simp [hp])
    case pwr => exact absurd (Sub.bit (n := 28) (Sub.trans rfl hT)) (by rw [show Part.bit .pwr = 28 from rfl] at hp; simp [hp])
    case rst => exact absurd (Sub.bit (n := 42) (Sub.trans rfl hT)) (by rw [show Part.bit .rst = 42 from rfl] at hp; simp [hp])
    case secLc =>
      rcases n_secLc with q | q
      · exact absurd (Sub.bit (n := 60) q) (by rw [show Part.bit .secLc = 60 from rfl] at hp; simp [hp])
      · exact fun e => q.trans e
    case secSecondWord =>
      rcases n_secSecondWord with q | q
      · exact absurd (Sub.bit (n := 61) q) (by rw [show Part.bit .secSecondWord = 61 from rfl] at hp; simp [hp])
      · exact fun e => q.trans e
    case secRedeploy =>
      rcases n_secRedeploy with q | q
      · exact absurd (Sub.bit (n := 62) q) (by rw [show Part.bit .secRedeploy = 62 from rfl] at hp; simp [hp])
      · exact fun e => q.trans e
    case secLcReq =>
      rcases n_secLcReq with q | q
      · exact absurd (Sub.bit (n := 63) q) (by rw [show Part.bit .secLcReq = 63 from rfl] at hp; simp [hp])
      · exact fun e => q.trans e
    case secKeys =>
      rcases n_secKeys with q | q
      · exact absurd (Sub.bit (n := 64) q) (by rw [show Part.bit .secKeys = 64 from rfl] at hp; simp [hp])
      · exact fun e => q.trans e
    case secKeyReq =>
      rcases n_secKeyReq with q | q
      · exact absurd (Sub.bit (n := 65) q) (by rw [show Part.bit .secKeyReq = 65 from rfl] at hp; simp [hp])
      · exact fun e => q.trans e
    case secRoots =>
      rcases n_secRoots with q | q
      · exact absurd (Sub.bit (n := 66) q) (by rw [show Part.bit .secRoots = 66 from rfl] at hp; simp [hp])
      · exact fun e => q.trans e
    case secFwSvn =>
      rcases n_secFwSvn with q | q
      · exact absurd (Sub.bit (n := 67) q) (by rw [show Part.bit .secFwSvn = 67 from rfl] at hp; simp [hp])
      · exact fun e => q.trans e
    case secExtSvn =>
      rcases n_secExtSvn with q | q
      · exact absurd (Sub.bit (n := 68) q) (by rw [show Part.bit .secExtSvn = 68 from rfl] at hp; simp [hp])
      · exact fun e => q.trans e
    case secExtRun =>
      rcases n_secExtRun with q | q
      · exact absurd (Sub.bit (n := 69) q) (by rw [show Part.bit .secExtRun = 69 from rfl] at hp; simp [hp])
      · exact fun e => q.trans e
    case secRoleCommitted =>
      rcases n_secRoleCommitted with q | q
      · exact absurd (Sub.bit (n := 70) q) (by rw [show Part.bit .secRoleCommitted = 70 from rfl] at hp; simp [hp])
      · exact fun e => q.trans e
    case secBootBank =>
      rcases n_secBootBank with q | q
      · exact absurd (Sub.bit (n := 71) q) (by rw [show Part.bit .secBootBank = 71 from rfl] at hp; simp [hp])
      · exact fun e => q.trans e
    case nvBytes =>
      rcases n_nvBytes with q | q
      · exact absurd (Sub.bit (n := 80) q.1) (by rw [show Part.bit .nvBytes = 80 from rfl] at hp; simp [hp])
      · exact fun e => q.trans e
    all_goals exact id
  · exact h.reg h1 k hk
  · have c := h.canon hc
    exact ⟨c.regs, c.ctx, c.timers, c.evtCount, c.evtShadow, c.expert, c.shadow, c.coefStage, c.coefShadow, c.windows, c.rdata, c.busRefuse, c.clockDev, c.lostIn, c.crcPass, c.released, c.gated, c.twb, (n_nvBytes.elim (fun q => q.2 c.nvBytes) (fun q => by rw [q]; exact c.nvBytes)), c.schImg⟩

theorem R.set_evtCount {T s0} {x : State} {v_evtCount : List (Nat × Nat)} (hT : Sub 0x20 T) (w_evtCount : Tbl.wf (fun _ => 0) x.evtCount = true → Tbl.wf (fun _ => 0) v_evtCount = true) (h : R T s0 x) : R T s0 { x with evtCount := v_evtCount } := by
  refine ⟨fun p hp => ?_, fun h1 k hk => ?_, fun hc => ?_⟩
  · have e := h.part p hp
    revert e
    cases p
    case evtCount => exact absurd (Sub.bit (n := 5) (Sub.trans rfl hT)) (by rw [show Part.bit .evtCount = 5 from rfl] at hp; simp [hp])
    all_goals exact id
  · exact h.reg h1 k hk
  · have c := h.canon hc
    exact ⟨c.regs, c.ctx, c.timers, w_evtCount c.evtCount, c.evtShadow, c.expert, c.shadow, c.coefStage, c.coefShadow, c.windows, c.rdata, c.busRefuse, c.clockDev, c.lostIn, c.crcPass, c.released, c.gated, c.twb, c.nvBytes, c.schImg⟩

theorem R.set_evtCount_evtShadow {T s0} {x : State} {v_evtCount : List (Nat × Nat)} {v_evtShadow : List (Nat × Option Nat)} (hT : Sub 0x60 T) (w_evtCount : Tbl.wf (fun _ => 0) x.evtCount = true → Tbl.wf (fun _ => 0) v_evtCount = true) (w_evtShadow : Tbl.wf (fun _ => none) x.evtShadow = true → Tbl.wf (fun _ => none) v_evtShadow = true) (h : R T s0 x) : R T s0 { x with evtCount := v_evtCount, evtShadow := v_evtShadow } := by
  refine ⟨fun p hp => ?_, fun h1 k hk => ?_, fun hc => ?_⟩
  · have e := h.part p hp
    revert e
    cases p
    case evtCount => exact absurd (Sub.bit (n := 5) (Sub.trans rfl hT)) (by rw [show Part.bit .evtCount = 5 from rfl] at hp; simp [hp])
    case evtShadow => exact absurd (Sub.bit (n := 6) (Sub.trans rfl hT)) (by rw [show Part.bit .evtShadow = 6 from rfl] at hp; simp [hp])
    all_goals exact id
  · exact h.reg h1 k hk
  · have c := h.canon hc
    exact ⟨c.regs, c.ctx, c.timers, w_evtCount c.evtCount, w_evtShadow c.evtShadow, c.expert, c.shadow, c.coefStage, c.coefShadow, c.windows, c.rdata, c.busRefuse, c.clockDev, c.lostIn, c.crcPass, c.released, c.gated, c.twb, c.nvBytes, c.schImg⟩

theorem R.set_evtShadow {T s0} {x : State} {v_evtShadow : List (Nat × Option Nat)} (hT : Sub 0x40 T) (w_evtShadow : Tbl.wf (fun _ => none) x.evtShadow = true → Tbl.wf (fun _ => none) v_evtShadow = true) (h : R T s0 x) : R T s0 { x with evtShadow := v_evtShadow } := by
  refine ⟨fun p hp => ?_, fun h1 k hk => ?_, fun hc => ?_⟩
  · have e := h.part p hp
    revert e
    cases p
    case evtShadow => exact absurd (Sub.bit (n := 6) (Sub.trans rfl hT)) (by rw [show Part.bit .evtShadow = 6 from rfl] at hp; simp [hp])
    all_goals exact id
  · exact h.reg h1 k hk
  · have c := h.canon hc
    exact ⟨c.regs, c.ctx, c.timers, c.evtCount, w_evtShadow c.evtShadow, c.expert, c.shadow, c.coefStage, c.coefShadow, c.windows, c.rdata, c.busRefuse, c.clockDev, c.lostIn, c.crcPass, c.released, c.gated, c.twb, c.nvBytes, c.schImg⟩

theorem R.set_evtShadow_expert {T s0} {x : State} {v_evtShadow : List (Nat × Option Nat)} {v_expert : List (Nat × ExpertSt)} (hT : Sub 0xc0 T) (w_evtShadow : Tbl.wf (fun _ => none) x.evtShadow = true → Tbl.wf (fun _ => none) v_evtShadow = true) (w_expert : Tbl.wf (fun _ => {}) x.expert = true → Tbl.wf (fun _ => {}) v_expert = true) (h : R T s0 x) : R T s0 { x with evtShadow := v_evtShadow, expert := v_expert } := by
  refine ⟨fun p hp => ?_, fun h1 k hk => ?_, fun hc => ?_⟩
  · have e := h.part p hp
    revert e
    cases p
    case evtShadow => exact absurd (Sub.bit (n := 6) (Sub.trans rfl hT)) (by rw [show Part.bit .evtShadow = 6 from rfl] at hp; simp [hp])
    case expert => exact absurd (Sub.bit (n := 7) (Sub.trans rfl hT)) (by rw [show Part.bit .expert = 7 from rfl] at hp; simp [hp])
    all_goals exact id
  · exact h.reg h1 k hk
  · have c := h.canon hc
    exact ⟨c.regs, c.ctx, c.timers, c.evtCount, w_evtShadow c.evtShadow, w_expert c.expert, c.shadow, c.coefStage, c.coefShadow, c.windows, c.rdata, c.busRefuse, c.clockDev, c.lostIn, c.crcPass, c.released, c.gated, c.twb, c.nvBytes, c.schImg⟩

theorem R.set_expert {T s0} {x : State} {v_expert : List (Nat × ExpertSt)} (hT : Sub 0x80 T) (w_expert : Tbl.wf (fun _ => {}) x.expert = true → Tbl.wf (fun _ => {}) v_expert = true) (h : R T s0 x) : R T s0 { x with expert := v_expert } := by
  refine ⟨fun p hp => ?_, fun h1 k hk => ?_, fun hc => ?_⟩
  · have e := h.part p hp
    revert e
    cases p
    case expert => exact absurd (Sub.bit (n := 7) (Sub.trans rfl hT)) (by rw [show Part.bit .expert = 7 from rfl] at hp; simp [hp])
    all_goals exact id
  · exact h.reg h1 k hk
  · have c := h.canon hc
    exact ⟨c.regs, c.ctx, c.timers, c.evtCount, c.evtShadow, w_expert c.expert, c.shadow, c.coefStage, c.coefShadow, c.windows, c.rdata, c.busRefuse, c.clockDev, c.lostIn, c.crcPass, c.released, c.gated, c.twb, c.nvBytes, c.schImg⟩

theorem R.set_expert_shadow {T s0} {x : State} {v_expert : List (Nat × ExpertSt)} {v_shadow : List (Nat × Word)} (hT : Sub 0x180 T) (w_expert : Tbl.wf (fun _ => {}) x.expert = true → Tbl.wf (fun _ => {}) v_expert = true) (w_shadow : Tbl.wf (fun _ => 0) x.shadow = true → Tbl.wf (fun _ => 0) v_shadow = true) (h : R T s0 x) : R T s0 { x with expert := v_expert, shadow := v_shadow } := by
  refine ⟨fun p hp => ?_, fun h1 k hk => ?_, fun hc => ?_⟩
  · have e := h.part p hp
    revert e
    cases p
    case expert => exact absurd (Sub.bit (n := 7) (Sub.trans rfl hT)) (by rw [show Part.bit .expert = 7 from rfl] at hp; simp [hp])
    case shadow => exact absurd (Sub.bit (n := 8) (Sub.trans rfl hT)) (by rw [show Part.bit .shadow = 8 from rfl] at hp; simp [hp])
    all_goals exact id
  · exact h.reg h1 k hk
  · have c := h.canon hc
    exact ⟨c.regs, c.ctx, c.timers, c.evtCount, c.evtShadow, w_expert c.expert, w_shadow c.shadow, c.coefStage, c.coefShadow, c.windows, c.rdata, c.busRefuse, c.clockDev, c.lostIn, c.crcPass, c.released, c.gated, c.twb, c.nvBytes, c.schImg⟩

theorem R.set_fel {T s0} {x : State} {v_fel : FelSt} (hT : Sub 0x400000000 T) (h : R T s0 x) : R T s0 { x with fel := v_fel } := by
  refine ⟨fun p hp => ?_, fun h1 k hk => ?_, fun hc => ?_⟩
  · have e := h.part p hp
    revert e
    cases p
    case fel => exact absurd (Sub.bit (n := 34) (Sub.trans rfl hT)) (by rw [show Part.bit .fel = 34 from rfl] at hp; simp [hp])
    all_goals exact id
  · exact h.reg h1 k hk
  · have c := h.canon hc
    exact ⟨c.regs, c.ctx, c.timers, c.evtCount, c.evtShadow, c.expert, c.shadow, c.coefStage, c.coefShadow, c.windows, c.rdata, c.busRefuse, c.clockDev, c.lostIn, c.crcPass, c.released, c.gated, c.twb, c.nvBytes, c.schImg⟩

theorem R.set_fhl {T s0} {x : State} {v_fhl : FhlSt} (hT : Sub 0x4000000000 T) (h : R T s0 x) : R T s0 { x with fhl := v_fhl } := by
  refine ⟨fun p hp => ?_, fun h1 k hk => ?_, fun hc => ?_⟩
  · have e := h.part p hp
    revert e
    cases p
    case fhl => exact absurd (Sub.bit (n := 38) (Sub.trans rfl hT)) (by rw [show Part.bit .fhl = 38 from rfl] at hp; simp [hp])
    all_goals exact id
  · exact h.reg h1 k hk
  · have c := h.canon hc
    exact ⟨c.regs, c.ctx, c.timers, c.evtCount, c.evtShadow, c.expert, c.shadow, c.coefStage, c.coefShadow, c.windows, c.rdata, c.busRefuse, c.clockDev, c.lostIn, c.crcPass, c.released, c.gated, c.twb, c.nvBytes, c.schImg⟩

theorem R.set_flt {T s0} {x : State} {v_flt : FltSt} (hT : Sub 0x100000 T) (h : R T s0 x) : R T s0 { x with flt := v_flt } := by
  refine ⟨fun p hp => ?_, fun h1 k hk => ?_, fun hc => ?_⟩
  · have e := h.part p hp
    revert e
    cases p
    case flt => exact absurd (Sub.bit (n := 20) (Sub.trans rfl hT)) (by rw [show Part.bit .flt = 20 from rfl] at hp; simp [hp])
    all_goals exact id
  · exact h.reg h1 k hk
  · have c := h.canon hc
    exact ⟨c.regs, c.ctx, c.timers, c.evtCount, c.evtShadow, c.expert, c.shadow, c.coefStage, c.coefShadow, c.windows, c.rdata, c.busRefuse, c.clockDev, c.lostIn, c.crcPass, c.released, c.gated, c.twb, c.nvBytes, c.schImg⟩

theorem R.set_flt_hk {T s0} {x : State} {v_flt : FltSt} {v_hk : HkSt} (hT : Sub 0x8000100000 T) (h : R T s0 x) : R T s0 { x with flt := v_flt, hk := v_hk } := by
  refine ⟨fun p hp => ?_, fun h1 k hk => ?_, fun hc => ?_⟩
  · have e := h.part p hp
    revert e
    cases p
    case flt => exact absurd (Sub.bit (n := 20) (Sub.trans rfl hT)) (by rw [show Part.bit .flt = 20 from rfl] at hp; simp [hp])
    case hk => exact absurd (Sub.bit (n := 39) (Sub.trans rfl hT)) (by rw [show Part.bit .hk = 39 from rfl] at hp; simp [hp])
    all_goals exact id
  · exact h.reg h1 k hk
  · have c := h.canon hc
    exact ⟨c.regs, c.ctx, c.timers, c.evtCount, c.evtShadow, c.expert, c.shadow, c.coefStage, c.coefShadow, c.windows, c.rdata, c.busRefuse, c.clockDev, c.lostIn, c.crcPass, c.released, c.gated, c.twb, c.nvBytes, c.schImg⟩

theorem R.set_flt_rst {T s0} {x : State} {v_flt : FltSt} {v_rst : RstSt} (hT : Sub 0x40000100000 T) (h : R T s0 x) : R T s0 { x with flt := v_flt, rst := v_rst } := by
  refine ⟨fun p hp => ?_, fun h1 k hk => ?_, fun hc => ?_⟩
  · have e := h.part p hp
    revert e
    cases p
    case flt => exact absurd (Sub.bit (n := 20) (Sub.trans rfl hT)) (by rw [show Part.bit .flt = 20 from rfl] at hp; simp [hp])
    case rst => exact absurd (Sub.bit (n := 42) (Sub.trans rfl hT)) (by rw [show Part.bit .rst = 42 from rfl] at hp; simp [hp])
    all_goals exact id
  · exact h.reg h1 k hk
  · have c := h.canon hc
    exact ⟨c.regs, c.ctx, c.timers, c.evtCount, c.evtShadow, c.expert, c.shadow, c.coefStage, c.coefShadow, c.windows, c.rdata, c.busRefuse, c.clockDev, c.lostIn, c.crcPass, c.released, c.gated, c.twb, c.nvBytes, c.schImg⟩

theorem R.set_free {T s0} {x : State} {v_free : Nat} (hT : Sub 0x80000000000 T) (h : R T s0 x) : R T s0 { x with free := v_free } := by
  refine ⟨fun p hp => ?_, fun h1 k hk => ?_, fun hc => ?_⟩
  · have e := h.part p hp
    revert e
    cases p
    case free => exact absurd (Sub.bit (n := 43) (Sub.trans rfl hT)) (by rw [show Part.bit .free = 43 from rfl] at hp; simp [hp])
    all_goals exact id
  · exact h.reg h1 k hk
  · have c := h.canon hc
    exact ⟨c.regs, c.ctx, c.timers, c.evtCount, c.evtShadow, c.expert, c.shadow, c.coefStage, c.coefShadow, c.windows, c.rdata, c.busRefuse, c.clockDev, c.lostIn, c.crcPass, c.released, c.gated, c.twb, c.nvBytes, c.schImg⟩

theorem R.set_ftm {T s0} {x : State} {v_ftm : FtmSt} (hT : Sub 0x1000000000 T) (h : R T s0 x) : R T s0 { x with ftm := v_ftm } := by
  refine ⟨fun p hp => ?_, fun h1 k hk => ?_, fun hc => ?_⟩
  · have e := h.part p hp
    revert e
    cases p
    case ftm => exact absurd (Sub.bit (n := 36) (Sub.trans rfl hT)) (by rw [show Part.bit .ftm = 36 from rfl] at hp; simp [hp])
    all_goals exact id
  · exact h.reg h1 k hk
  · have c := h.canon hc
    exact ⟨c.regs, c.ctx, c.timers, c.evtCount, c.evtShadow, c.expert, c.shadow, c.coefStage, c.coefShadow, c.windows, c.rdata, c.busRefuse, c.clockDev, c.lostIn, c.crcPass, c.released, c.gated, c.twb, c.nvBytes, c.schImg⟩

theorem R.set_gated {T s0} {x : State} {v_gated : List (Nat × Bool)} (hT : Sub 0x80000 T) (w_gated : Tbl.wf (fun _ => false) x.gated = true → Tbl.wf (fun _ => false) v_gated = true) (h : R T s0 x) : R T s0 { x with gated := v_gated } := by
  refine ⟨fun p hp => ?_, fun h1 k hk => ?_, fun hc => ?_⟩
  · have e := h.part p hp
    revert e
    cases p
    case gated => exact absurd (Sub.bit (n := 19) (Sub.trans rfl hT)) (by rw [show Part.bit .gated = 19 from rfl] at hp; simp [hp])
    all_goals exact id
  · exact h.reg h1 k hk
  · have c := h.canon hc
    exact ⟨c.regs, c.ctx, c.timers, c.evtCount, c.evtShadow, c.expert, c.shadow, c.coefStage, c.coefShadow, c.windows, c.rdata, c.busRefuse, c.clockDev, c.lostIn, c.crcPass, c.released, w_gated c.gated, c.twb, c.nvBytes, c.schImg⟩

theorem R.set_gcp {T s0} {x : State} {v_gcp : GcpSt} (hT : Sub 0x2000000000 T) (h : R T s0 x) : R T s0 { x with gcp := v_gcp } := by
  refine ⟨fun p hp => ?_, fun h1 k hk => ?_, fun hc => ?_⟩
  · have e := h.part p hp
    revert e
    cases p
    case gcp => exact absurd (Sub.bit (n := 37) (Sub.trans rfl hT)) (by rw [show Part.bit .gcp = 37 from rfl] at hp; simp [hp])
    all_goals exact id
  · exact h.reg h1 k hk
  · have c := h.canon hc
    exact ⟨c.regs, c.ctx, c.timers, c.evtCount, c.evtShadow, c.expert, c.shadow, c.coefStage, c.coefShadow, c.windows, c.rdata, c.busRefuse, c.clockDev, c.lostIn, c.crcPass, c.released, c.gated, c.twb, c.nvBytes, c.schImg⟩

theorem R.set_ggr {T s0} {x : State} {v_ggr : GgrSt} (hT : Sub 0x800000000 T) (h : R T s0 x) : R T s0 { x with ggr := v_ggr } := by
  refine ⟨fun p hp => ?_, fun h1 k hk => ?_, fun hc => ?_⟩
  · have e := h.part p hp
    revert e
    cases p
    case ggr => exact absurd (Sub.bit (n := 35) (Sub.trans rfl hT)) (by rw [show Part.bit .ggr = 35 from rfl] at hp; simp [hp])
    all_goals exact id
  · exact h.reg h1 k hk
  · have c := h.canon hc
    exact ⟨c.regs, c.ctx, c.timers, c.evtCount, c.evtShadow, c.expert, c.shadow, c.coefStage, c.coefShadow, c.windows, c.rdata, c.busRefuse, c.clockDev, c.lostIn, c.crcPass, c.released, c.gated, c.twb, c.nvBytes, c.schImg⟩

theorem R.set_ggr_gcp {T s0} {x : State} {v_ggr : GgrSt} {v_gcp : GcpSt} (hT : Sub 0x2800000000 T) (h : R T s0 x) : R T s0 { x with ggr := v_ggr, gcp := v_gcp } := by
  refine ⟨fun p hp => ?_, fun h1 k hk => ?_, fun hc => ?_⟩
  · have e := h.part p hp
    revert e
    cases p
    case ggr => exact absurd (Sub.bit (n := 35) (Sub.trans rfl hT)) (by rw [show Part.bit .ggr = 35 from rfl] at hp; simp [hp])
    case gcp => exact absurd (Sub.bit (n := 37) (Sub.trans rfl hT)) (by rw [show Part.bit .gcp = 37 from rfl] at hp; simp [hp])
    all_goals exact id
  · exact h.reg h1 k hk
  · have c := h.canon hc
    exact ⟨c.regs, c.ctx, c.timers, c.evtCount, c.evtShadow, c.expert, c.shadow, c.coefStage, c.coefShadow, c.windows, c.rdata, c.busRefuse, c.clockDev, c.lostIn, c.crcPass, c.released, c.gated, c.twb, c.nvBytes, c.schImg⟩

theorem R.set_heldWrites {T s0} {x : State} {v_heldWrites : List HeldWrite} (hT : Sub 0x1000 T) (h : R T s0 x) : R T s0 { x with heldWrites := v_heldWrites } := by
  refine ⟨fun p hp => ?_, fun h1 k hk => ?_, fun hc => ?_⟩
  · have e := h.part p hp
    revert e
    cases p
    case heldWrites => exact absurd (Sub.bit (n := 12) (Sub.trans rfl hT)) (by rw [show Part.bit .heldWrites = 12 from rfl] at hp; simp [hp])
    all_goals exact id
  · exact h.reg h1 k hk
  · have c := h.canon hc
    exact ⟨c.regs, c.ctx, c.timers, c.evtCount, c.evtShadow, c.expert, c.shadow, c.coefStage, c.coefShadow, c.windows, c.rdata, c.busRefuse, c.clockDev, c.lostIn, c.crcPass, c.released, c.gated, c.twb, c.nvBytes, c.schImg⟩

theorem R.set_hk {T s0} {x : State} {v_hk : HkSt} (hT : Sub 0x8000000000 T) (h : R T s0 x) : R T s0 { x with hk := v_hk } := by
  refine ⟨fun p hp => ?_, fun h1 k hk => ?_, fun hc => ?_⟩
  · have e := h.part p hp
    revert e
    cases p
    case hk => exact absurd (Sub.bit (n := 39) (Sub.trans rfl hT)) (by rw [show Part.bit .hk = 39 from rfl] at hp; simp [hp])
    all_goals exact id
  · exact h.reg h1 k hk
  · have c := h.canon hc
    exact ⟨c.regs, c.ctx, c.timers, c.evtCount, c.evtShadow, c.expert, c.shadow, c.coefStage, c.coefShadow, c.windows, c.rdata, c.busRefuse, c.clockDev, c.lostIn, c.crcPass, c.released, c.gated, c.twb, c.nvBytes, c.schImg⟩

theorem R.set_hup {T s0} {x : State} {v_hup : HupSt} (hT : Sub 0x800000 T) (h : R T s0 x) : R T s0 { x with hup := v_hup } := by
  refine ⟨fun p hp => ?_, fun h1 k hk => ?_, fun hc => ?_⟩
  · have e := h.part p hp
    revert e
    cases p
    case hup => exact absurd (Sub.bit (n := 23) (Sub.trans rfl hT)) (by rw [show Part.bit .hup = 23 from rfl] at hp; simp [hp])
    all_goals exact id
  · exact h.reg h1 k hk
  · have c := h.canon hc
    exact ⟨c.regs, c.ctx, c.timers, c.evtCount, c.evtShadow, c.expert, c.shadow, c.coefStage, c.coefShadow, c.windows, c.rdata, c.busRefuse, c.clockDev, c.lostIn, c.crcPass, c.released, c.gated, c.twb, c.nvBytes, c.schImg⟩

theorem R.set_lostIn {T s0} {x : State} {v_lostIn : List (Nat × Bool)} (hT : Sub 0x200000000000 T) (w_lostIn : Tbl.wf (fun _ => false) x.lostIn = true → Tbl.wf (fun _ => false) v_lostIn = true) (h : R T s0 x) : R T s0 { x with lostIn := v_lostIn } := by
  refine ⟨fun p hp => ?_, fun h1 k hk => ?_, fun hc => ?_⟩
  · have e := h.part p hp
    revert e
    cases p
    case lostIn => exact absurd (Sub.bit (n := 45) (Sub.trans rfl hT)) (by rw [show Part.bit .lostIn = 45 from rfl] at hp; simp [hp])
    all_goals exact id
  · exact h.reg h1 k hk
  · have c := h.canon hc
    exact ⟨c.regs, c.ctx, c.timers, c.evtCount, c.evtShadow, c.expert, c.shadow, c.coefStage, c.coefShadow, c.windows, c.rdata, c.busRefuse, c.clockDev, w_lostIn c.lostIn, c.crcPass, c.released, c.gated, c.twb, c.nvBytes, c.schImg⟩

theorem R.set_npr {T s0} {x : State} {v_npr : NprSt} (hT : Sub 0x200000000 T) (h : R T s0 x) : R T s0 { x with npr := v_npr } := by
  refine ⟨fun p hp => ?_, fun h1 k hk => ?_, fun hc => ?_⟩
  · have e := h.part p hp
    revert e
    cases p
    case npr => exact absurd (Sub.bit (n := 33) (Sub.trans rfl hT)) (by rw [show Part.bit .npr = 33 from rfl] at hp; simp [hp])
    all_goals exact id
  · exact h.reg h1 k hk
  · have c := h.canon hc
    exact ⟨c.regs, c.ctx, c.timers, c.evtCount, c.evtShadow, c.expert, c.shadow, c.coefStage, c.coefShadow, c.windows, c.rdata, c.busRefuse, c.clockDev, c.lostIn, c.crcPass, c.released, c.gated, c.twb, c.nvBytes, c.schImg⟩

theorem R.set_npr_fhl {T s0} {x : State} {v_npr : NprSt} {v_fhl : FhlSt} (hT : Sub 0x4200000000 T) (h : R T s0 x) : R T s0 { x with npr := v_npr, fhl := v_fhl } := by
  refine ⟨fun p hp => ?_, fun h1 k hk => ?_, fun hc => ?_⟩
  · have e := h.part p hp
    revert e
    cases p
    case npr => exact absurd (Sub.bit (n := 33) (Sub.trans rfl hT)) (by rw [show Part.bit .npr = 33 from rfl] at hp; simp [hp])
    case fhl => exact absurd (Sub.bit (n := 38) (Sub.trans rfl hT)) (by rw [show Part.bit .fhl = 38 from rfl] at hp; simp [hp])
    all_goals exact id
  · exact h.reg h1 k hk
  · have c := h.canon hc
    exact ⟨c.regs, c.ctx, c.timers, c.evtCount, c.evtShadow, c.expert, c.shadow, c.coefStage, c.coefShadow, c.windows, c.rdata, c.busRefuse, c.clockDev, c.lostIn, c.crcPass, c.released, c.gated, c.twb, c.nvBytes, c.schImg⟩

theorem R.set_nva {T s0} {x : State} {v_nva : NvaSt} (hT : Sub 0x400000 T) (n_nvBytes : (Sub 0x100000000000000000000 T ∧ (Tbl.wf (fun _ => 0xFF) x.nva.bytes = true → Tbl.wf (fun _ => 0xFF) v_nva.bytes = true)) ∨ v_nva.bytes = x.nva.bytes) (h : R T s0 x) : R T s0 { x with nva := v_nva } := by
  refine ⟨fun p hp => ?_, fun h1 k hk => ?_, fun hc => ?_⟩
  · have e := h.part p hp
    revert e
    cases p
    case nva => exact absurd (Sub.bit (n := 22) (Sub.trans rfl hT)) (by rw [show Part.bit .nva = 22 from rfl] at hp; simp [hp])
    case nvBytes =>
      rcases n_nvBytes with q | q
      · exact absurd (Sub.bit (n := 80) q.1) (by rw [show Part.bit .nvBytes = 80 from rfl] at hp; simp [hp])
      · exact fun e => q.trans e
    all_goals exact id
  · exact h.reg h1 k hk
  · have c := h.canon hc
    exact ⟨c.regs, c.ctx, c.timers, c.evtCount, c.evtShadow, c.expert, c.shadow, c.coefStage, c.coefShadow, c.windows, c.rdata, c.busRefuse, c.clockDev, c.lostIn, c.crcPass, c.released, c.gated, c.twb, (n_nvBytes.elim (fun q => q.2 c.nvBytes) (fun q => by rw [q]; exact c.nvBytes)), c.schImg⟩

theorem R.set_nva_sec {T s0} {x : State} {v_nva : NvaSt} {v_sec : SecSt} (hT : Sub 0x2400000 T) (n_nvBytes : (Sub 0x100000000000000000000 T ∧ (Tbl.wf (fun _ => 0xFF) x.nva.bytes = true → Tbl.wf (fun _ => 0xFF) v_nva.bytes = true)) ∨ v_nva.bytes = x.nva.bytes) (n_secLc : Sub 0x1000000000000000 T ∨ v_sec.lc = x.sec.lc) (n_secSecondWord : Sub 0x2000000000000000 T ∨ v_sec.secondWord = x.sec.secondWord) (n_secRedeploy : Sub 0x4000000000000000 T ∨ v_sec.redeploy = x.sec.redeploy) (n_secLcReq : Sub 0x8000000000000000 T ∨ v_sec.lcReq = x.sec.lcReq) (n_secKeys : Sub 0x10000000000000000 T ∨ v_sec.keys = x.sec.keys) (n_secKeyReq : Sub 0x20000000000000000 T ∨ v_sec.keyReq = x.sec.keyReq) (n_secRoots : Sub 0x40000000000000000 T ∨ v_sec.roots = x.sec.roots) (n_secFwSvn : Sub 0x80000000000000000 T ∨ v_sec.fwSvn = x.sec.fwSvn) (n_secExtSvn : Sub 0x100000000000000000 T ∨ v_sec.extSvn = x.sec.extSvn) (n_secExtRun : Sub 0x200000000000000000 T ∨ v_sec.extRun = x.sec.extRun) (n_secRoleCommitted : Sub 0x400000000000000000 T ∨ v_sec.roleCommitted = x.sec.roleCommitted) (n_secBootBank : Sub 0x800000000000000000 T ∨ v_sec.bootBank = x.sec.bootBank) (h : R T s0 x) : R T s0 { x with nva := v_nva, sec := v_sec } := by
  refine ⟨fun p hp => ?_, fun h1 k hk => ?_, fun hc => ?_⟩
  · have e := h.part p hp
    revert e
    cases p
    case nva => exact absurd (Sub.bit (n := 22) (Sub.trans rfl hT)) (by rw [show Part.bit .nva = 22 from rfl] at hp; simp [hp])
    case sec => exact absurd (Sub.bit (n := 25) (Sub.trans rfl hT)) (by rw [show Part.bit .sec = 25 from rfl] at hp; simp [hp])
    case secLc =>
      rcases n_secLc with q | q
      · exact absurd (Sub.bit (n := 60) q) (by rw [show Part.bit .secLc = 60 from rfl] at hp; simp [hp])
      · exact fun e => q.trans e
    case secSecondWord =>
      rcases n_secSecondWord with q | q
      · exact absurd (Sub.bit (n := 61) q) (by rw [show Part.bit .secSecondWord = 61 from rfl] at hp; simp [hp])
      · exact fun e => q.trans e
    case secRedeploy =>
      rcases n_secRedeploy with q | q
      · exact absurd (Sub.bit (n := 62) q) (by rw [show Part.bit .secRedeploy = 62 from rfl] at hp; simp [hp])
      · exact fun e => q.trans e
    case secLcReq =>
      rcases n_secLcReq with q | q
      · exact absurd (Sub.bit (n := 63) q) (by rw [show Part.bit .secLcReq = 63 from rfl] at hp; simp [hp])
      · exact fun e => q.trans e
    case secKeys =>
      rcases n_secKeys with q | q
      · exact absurd (Sub.bit (n := 64) q) (by rw [show Part.bit .secKeys = 64 from rfl] at hp; simp [hp])
      · exact fun e => q.trans e
    case secKeyReq =>
      rcases n_secKeyReq with q | q
      · exact absurd (Sub.bit (n := 65) q) (by rw [show Part.bit .secKeyReq = 65 from rfl] at hp; simp [hp])
      · exact fun e => q.trans e
    case secRoots =>
      rcases n_secRoots with q | q
      · exact absurd (Sub.bit (n := 66) q) (by rw [show Part.bit .secRoots = 66 from rfl] at hp; simp [hp])
      · exact fun e => q.trans e
    case secFwSvn =>
      rcases n_secFwSvn with q | q
      · exact absurd (Sub.bit (n := 67) q) (by rw [show Part.bit .secFwSvn = 67 from rfl] at hp; simp [hp])
      · exact fun e => q.trans e
    case secExtSvn =>
      rcases n_secExtSvn with q | q
      · exact absurd (Sub.bit (n := 68) q) (by rw [show Part.bit .secExtSvn = 68 from rfl] at hp; simp [hp])
      · exact fun e => q.trans e
    case secExtRun =>
      rcases n_secExtRun with q | q
      · exact absurd (Sub.bit (n := 69) q) (by rw [show Part.bit .secExtRun = 69 from rfl] at hp; simp [hp])
      · exact fun e => q.trans e
    case secRoleCommitted =>
      rcases n_secRoleCommitted with q | q
      · exact absurd (Sub.bit (n := 70) q) (by rw [show Part.bit .secRoleCommitted = 70 from rfl] at hp; simp [hp])
      · exact fun e => q.trans e
    case secBootBank =>
      rcases n_secBootBank with q | q
      · exact absurd (Sub.bit (n := 71) q) (by rw [show Part.bit .secBootBank = 71 from rfl] at hp; simp [hp])
      · exact fun e => q.trans e
    case nvBytes =>
      rcases n_nvBytes with q | q
      · exact absurd (Sub.bit (n := 80) q.1) (by rw [show Part.bit .nvBytes = 80 from rfl] at hp; simp [hp])
      · exact fun e => q.trans e
    all_goals exact id
  · exact h.reg h1 k hk
  · have c := h.canon hc
    exact ⟨c.regs, c.ctx, c.timers, c.evtCount, c.evtShadow, c.expert, c.shadow, c.coefStage, c.coefShadow, c.windows, c.rdata, c.busRefuse, c.clockDev, c.lostIn, c.crcPass, c.released, c.gated, c.twb, (n_nvBytes.elim (fun q => q.2 c.nvBytes) (fun q => by rw [q]; exact c.nvBytes)), c.schImg⟩

theorem R.set_pending {T s0} {x : State} {v_pending : List Instr} (hT : Sub 0x100000000000 T) (h : R T s0 x) : R T s0 { x with pending := v_pending } := by
  refine ⟨fun p hp => ?_, fun h1 k hk => ?_, fun hc => ?_⟩
  · have e := h.part p hp
    revert e
    cases p
    case pending => exact absurd (Sub.bit (n := 44) (Sub.trans rfl hT)) (by rw [show Part.bit .pending = 44 from rfl] at hp; simp [hp])
    all_goals exact id
  · exact h.reg h1 k hk
  · have c := h.canon hc
    exact ⟨c.regs, c.ctx, c.timers, c.evtCount, c.evtShadow, c.expert, c.shadow, c.coefStage, c.coefShadow, c.windows, c.rdata, c.busRefuse, c.clockDev, c.lostIn, c.crcPass, c.released, c.gated, c.twb, c.nvBytes, c.schImg⟩

theorem R.set_pwr {T s0} {x : State} {v_pwr : PwrSt} (hT : Sub 0x10000000 T) (h : R T s0 x) : R T s0 { x with pwr := v_pwr } := by
  refine ⟨fun p hp => ?_, fun h1 k hk => ?_, fun hc => ?_⟩
  · have e := h.part p hp
    revert e
    cases p
    case pwr => exact absurd (Sub.bit (n := 28) (Sub.trans rfl hT)) (by rw [show Part.bit .pwr = 28 from rfl] at hp; simp [hp])
    all_goals exact id
  · exact h.reg h1 k hk
  · have c := h.canon hc
    exact ⟨c.regs, c.ctx, c.timers, c.evtCount, c.evtShadow, c.expert, c.shadow, c.coefStage, c.coefShadow, c.windows, c.rdata, c.busRefuse, c.clockDev, c.lostIn, c.crcPass, c.released, c.gated, c.twb, c.nvBytes, c.schImg⟩

theorem R.set_rdata {T s0} {x : State} {v_rdata : List (Nat × Word)} (hT : Sub 0x2000 T) (w_rdata : Tbl.wf (fun _ => 0) x.rdata = true → Tbl.wf (fun _ => 0) v_rdata = true) (h : R T s0 x) : R T s0 { x with rdata := v_rdata } := by
  refine ⟨fun p hp => ?_, fun h1 k hk => ?_, fun hc => ?_⟩
  · have e := h.part p hp
    revert e
    cases p
    case rdata => exact absurd (Sub.bit (n := 13) (Sub.trans rfl hT)) (by rw [show Part.bit .rdata = 13 from rfl] at hp; simp [hp])
    all_goals exact id
  · exact h.reg h1 k hk
  · have c := h.canon hc
    exact ⟨c.regs, c.ctx, c.timers, c.evtCount, c.evtShadow, c.expert, c.shadow, c.coefStage, c.coefShadow, c.windows, w_rdata c.rdata, c.busRefuse, c.clockDev, c.lostIn, c.crcPass, c.released, c.gated, c.twb, c.nvBytes, c.schImg⟩

theorem R.set_rdata_busRefuse {T s0} {x : State} {v_rdata : List (Nat × Word)} {v_busRefuse : List (Nat × Nat)} (hT : Sub 0x6000 T) (w_rdata : Tbl.wf (fun _ => 0) x.rdata = true → Tbl.wf (fun _ => 0) v_rdata = true) (w_busRefuse : Tbl.wf (fun _ => 0) x.busRefuse = true → Tbl.wf (fun _ => 0) v_busRefuse = true) (h : R T s0 x) : R T s0 { x with rdata := v_rdata, busRefuse := v_busRefuse } := by
  refine ⟨fun p hp => ?_, fun h1 k hk => ?_, fun hc => ?_⟩
  · have e := h.part p hp
    revert e
    cases p
    case rdata => exact absurd (Sub.bit (n := 13) (Sub.trans rfl hT)) (by rw [show Part.bit .rdata = 13 from rfl] at hp; simp [hp])
    case busRefuse => exact absurd (Sub.bit (n := 14) (Sub.trans rfl hT)) (by rw [show Part.bit .busRefuse = 14 from rfl] at hp; simp [hp])
    all_goals exact id
  · exact h.reg h1 k hk
  · have c := h.canon hc
    exact ⟨c.regs, c.ctx, c.timers, c.evtCount, c.evtShadow, c.expert, c.shadow, c.coefStage, c.coefShadow, c.windows, w_rdata c.rdata, w_busRefuse c.busRefuse, c.clockDev, c.lostIn, c.crcPass, c.released, c.gated, c.twb, c.nvBytes, c.schImg⟩

theorem R.set_regs {T s0} {x : State} {v_regs : List (Nat × Word)} (hT : Sub 0x2 T) (w_regs : Tbl.wf regReset x.regs = true → Tbl.wf regReset v_regs = true) (h : R T s0 x) : R T s0 { x with regs := v_regs } := by
  refine ⟨fun p hp => ?_, fun h1 k hk => ?_, fun hc => ?_⟩
  · have e := h.part p hp
    revert e
    cases p
    all_goals exact id
  · rw [Sub.bit (n := 1) (Sub.trans rfl hT)] at h1
    cases h1
  · have c := h.canon hc
    exact ⟨w_regs c.regs, c.ctx, c.timers, c.evtCount, c.evtShadow, c.expert, c.shadow, c.coefStage, c.coefShadow, c.windows, c.rdata, c.busRefuse, c.clockDev, c.lostIn, c.crcPass, c.released, c.gated, c.twb, c.nvBytes, c.schImg⟩

theorem R.set_regs_ctx_timers {T s0} {x : State} {v_regs : List (Nat × Word)} {v_ctx : List (Nat × Word)} {v_timers : List (Nat × Nat)} (hT : Sub 0xe T) (w_regs : Tbl.wf regReset x.regs = true → Tbl.wf regReset v_regs = true) (w_ctx : Tbl.wf ctxReset x.ctx = true → Tbl.wf ctxReset v_ctx = true) (w_timers : Tbl.wf (fun _ => 0) x.timers = true → Tbl.wf (fun _ => 0) v_timers = true) (h : R T s0 x) : R T s0 { x with regs := v_regs, ctx := v_ctx, timers := v_timers } := by
  refine ⟨fun p hp => ?_, fun h1 k hk => ?_, fun hc => ?_⟩
  · have e := h.part p hp
    revert e
    cases p
    case ctx => exact absurd (Sub.bit (n := 2) (Sub.trans rfl hT)) (by rw [show Part.bit .ctx = 2 from rfl] at hp; simp [hp])
    case timers => exact absurd (Sub.bit (n := 3) (Sub.trans rfl hT)) (by rw [show Part.bit .timers = 3 from rfl] at hp; simp [hp])
    all_goals exact id
  · rw [Sub.bit (n := 1) (Sub.trans rfl hT)] at h1
    cases h1
  · have c := h.canon hc
    exact ⟨w_regs c.regs, w_ctx c.ctx, w_timers c.timers, c.evtCount, c.evtShadow, c.expert, c.shadow, c.coefStage, c.coefShadow, c.windows, c.rdata, c.busRefuse, c.clockDev, c.lostIn, c.crcPass, c.released, c.gated, c.twb, c.nvBytes, c.schImg⟩

theorem R.set_regs_timers {T s0} {x : State} {v_regs : List (Nat × Word)} {v_timers : List (Nat × Nat)} (hT : Sub 0xa T) (w_regs : Tbl.wf regReset x.regs = true → Tbl.wf regReset v_regs = true) (w_timers : Tbl.wf (fun _ => 0) x.timers = true → Tbl.wf (fun _ => 0) v_timers = true) (h : R T s0 x) : R T s0 { x with regs := v_regs, timers := v_timers } := by
  refine ⟨fun p hp => ?_, fun h1 k hk => ?_, fun hc => ?_⟩
  · have e := h.part p hp
    revert e
    cases p
    case timers => exact absurd (Sub.bit (n := 3) (Sub.trans rfl hT)) (by rw [show Part.bit .timers = 3 from rfl] at hp; simp [hp])
    all_goals exact id
  · rw [Sub.bit (n := 1) (Sub.trans rfl hT)] at h1
    cases h1
  · have c := h.canon hc
    exact ⟨w_regs c.regs, c.ctx, w_timers c.timers, c.evtCount, c.evtShadow, c.expert, c.shadow, c.coefStage, c.coefShadow, c.windows, c.rdata, c.busRefuse, c.clockDev, c.lostIn, c.crcPass, c.released, c.gated, c.twb, c.nvBytes, c.schImg⟩

theorem R.set_released {T s0} {x : State} {v_released : List (Nat × Bool)} (hT : Sub 0x40000 T) (w_released : Tbl.wf (fun _ => false) x.released = true → Tbl.wf (fun _ => false) v_released = true) (h : R T s0 x) : R T s0 { x with released := v_released } := by
  refine ⟨fun p hp => ?_, fun h1 k hk => ?_, fun hc => ?_⟩
  · have e := h.part p hp
    revert e
    cases p
    case released => exact absurd (Sub.bit (n := 18) (Sub.trans rfl hT)) (by rw [show Part.bit .released = 18 from rfl] at hp; simp [hp])
    all_goals exact id
  · exact h.reg h1 k hk
  · have c := h.canon hc
    exact ⟨c.regs, c.ctx, c.timers, c.evtCount, c.evtShadow, c.expert, c.shadow, c.coefStage, c.coefShadow, c.windows, c.rdata, c.busRefuse, c.clockDev, c.lostIn, c.crcPass, w_released c.released, c.gated, c.twb, c.nvBytes, c.schImg⟩

theorem R.set_reports {T s0} {x : State} {v_reports : List Report} (hT : Sub 0x1000000 T) (h : R T s0 x) : R T s0 { x with reports := v_reports } := by
  refine ⟨fun p hp => ?_, fun h1 k hk => ?_, fun hc => ?_⟩
  · have e := h.part p hp
    revert e
    cases p
    case reports => exact absurd (Sub.bit (n := 24) (Sub.trans rfl hT)) (by rw [show Part.bit .reports = 24 from rfl] at hp; simp [hp])
    all_goals exact id
  · exact h.reg h1 k hk
  · have c := h.canon hc
    exact ⟨c.regs, c.ctx, c.timers, c.evtCount, c.evtShadow, c.expert, c.shadow, c.coefStage, c.coefShadow, c.windows, c.rdata, c.busRefuse, c.clockDev, c.lostIn, c.crcPass, c.released, c.gated, c.twb, c.nvBytes, c.schImg⟩

theorem R.set_rst {T s0} {x : State} {v_rst : RstSt} (hT : Sub 0x40000000000 T) (h : R T s0 x) : R T s0 { x with rst := v_rst } := by
  refine ⟨fun p hp => ?_, fun h1 k hk => ?_, fun hc => ?_⟩
  · have e := h.part p hp
    revert e
    cases p
    case rst => exact absurd (Sub.bit (n := 42) (Sub.trans rfl hT)) (by rw [show Part.bit .rst = 42 from rfl] at hp; simp [hp])
    all_goals exact id
  · exact h.reg h1 k hk
  · have c := h.canon hc
    exact ⟨c.regs, c.ctx, c.timers, c.evtCount, c.evtShadow, c.expert, c.shadow, c.coefStage, c.coefShadow, c.windows, c.rdata, c.busRefuse, c.clockDev, c.lostIn, c.crcPass, c.released, c.gated, c.twb, c.nvBytes, c.schImg⟩

theorem R.set_sch {T s0} {x : State} {v_sch : SchSt} (hT : Sub 0x40000000 T) (n_schImg : (Sub 0x200000000000000000000 T ∧ (Tbl.wf (fun _ => 0) x.sch.img = true → Tbl.wf (fun _ => 0) v_sch.img = true)) ∨ v_sch.img = x.sch.img) (h : R T s0 x) : R T s0 { x with sch := v_sch } := by
  refine ⟨fun p hp => ?_, fun h1 k hk => ?_, fun hc => ?_⟩
  · have e := h.part p hp
    revert e
    cases p
    case sch => exact absurd (Sub.bit (n := 30) (Sub.trans rfl hT)) (by rw [show Part.bit .sch = 30 from rfl] at hp; simp [hp])
    case schImg =>
      rcases n_schImg with q | q
      · exact absurd (Sub.bit (n := 81) q.1) (by rw [show Part.bit .schImg = 81 from rfl] at hp; simp [hp])
      · exact fun e => q.trans e
    all_goals exact id
  · exact h.reg h1 k hk
  · have c := h.canon hc
    exact ⟨c.regs, c.ctx, c.timers, c.evtCount, c.evtShadow, c.expert, c.shadow, c.coefStage, c.coefShadow, c.windows, c.rdata, c.busRefuse, c.clockDev, c.lostIn, c.crcPass, c.released, c.gated, c.twb, c.nvBytes, (n_schImg.elim (fun q => q.2 c.schImg) (fun q => by rw [q]; exact c.schImg))⟩

theorem R.set_sec {T s0} {x : State} {v_sec : SecSt} (hT : Sub 0x2000000 T) (n_secLc : Sub 0x1000000000000000 T ∨ v_sec.lc = x.sec.lc) (n_secSecondWord : Sub 0x2000000000000000 T ∨ v_sec.secondWord = x.sec.secondWord) (n_secRedeploy : Sub 0x4000000000000000 T ∨ v_sec.redeploy = x.sec.redeploy) (n_secLcReq : Sub 0x8000000000000000 T ∨ v_sec.lcReq = x.sec.lcReq) (n_secKeys : Sub 0x10000000000000000 T ∨ v_sec.keys = x.sec.keys) (n_secKeyReq : Sub 0x20000000000000000 T ∨ v_sec.keyReq = x.sec.keyReq) (n_secRoots : Sub 0x40000000000000000 T ∨ v_sec.roots = x.sec.roots) (n_secFwSvn : Sub 0x80000000000000000 T ∨ v_sec.fwSvn = x.sec.fwSvn) (n_secExtSvn : Sub 0x100000000000000000 T ∨ v_sec.extSvn = x.sec.extSvn) (n_secExtRun : Sub 0x200000000000000000 T ∨ v_sec.extRun = x.sec.extRun) (n_secRoleCommitted : Sub 0x400000000000000000 T ∨ v_sec.roleCommitted = x.sec.roleCommitted) (n_secBootBank : Sub 0x800000000000000000 T ∨ v_sec.bootBank = x.sec.bootBank) (h : R T s0 x) : R T s0 { x with sec := v_sec } := by
  refine ⟨fun p hp => ?_, fun h1 k hk => ?_, fun hc => ?_⟩
  · have e := h.part p hp
    revert e
    cases p
    case sec => exact absurd (Sub.bit (n := 25) (Sub.trans rfl hT)) (by rw [show Part.bit .sec = 25 from rfl] at hp; simp [hp])
    case secLc =>
      rcases n_secLc with q | q
      · exact absurd (Sub.bit (n := 60) q) (by rw [show Part.bit .secLc = 60 from rfl] at hp; simp [hp])
      · exact fun e => q.trans e
    case secSecondWord =>
      rcases n_secSecondWord with q | q
      · exact absurd (Sub.bit (n := 61) q) (by rw [show Part.bit .secSecondWord = 61 from rfl] at hp; simp [hp])
      · exact fun e => q.trans e
    case secRedeploy =>
      rcases n_secRedeploy with q | q
      · exact absurd (Sub.bit (n := 62) q) (by rw [show Part.bit .secRedeploy = 62 from rfl] at hp; simp [hp])
      · exact fun e => q.trans e
    case secLcReq =>
      rcases n_secLcReq with q | q
      · exact absurd (Sub.bit (n := 63) q) (by rw [show Part.bit .secLcReq = 63 from rfl] at hp; simp [hp])
      · exact fun e => q.trans e
    case secKeys =>
      rcases n_secKeys with q | q
      · exact absurd (Sub.bit (n := 64) q) (by rw [show Part.bit .secKeys = 64 from rfl] at hp; simp [hp])
      · exact fun e => q.trans e
    case secKeyReq =>
      rcases n_secKeyReq with q | q
      · exact absurd (Sub.bit (n := 65) q) (by rw [show Part.bit .secKeyReq = 65 from rfl] at hp; simp [hp])
      · exact fun e => q.trans e
    case secRoots =>
      rcases n_secRoots with q | q
      · exact absurd (Sub.bit (n := 66) q) (by rw [show Part.bit .secRoots = 66 from rfl] at hp; simp [hp])
      · exact fun e => q.trans e
    case secFwSvn =>
      rcases n_secFwSvn with q | q
      · exact absurd (Sub.bit (n := 67) q) (by rw [show Part.bit .secFwSvn = 67 from rfl] at hp; simp [hp])
      · exact fun e => q.trans e
    case secExtSvn =>
      rcases n_secExtSvn with q | q
      · exact absurd (Sub.bit (n := 68) q) (by rw [show Part.bit .secExtSvn = 68 from rfl] at hp; simp [hp])
      · exact fun e => q.trans e
    case secExtRun =>
      rcases n_secExtRun with q | q
      · exact absurd (Sub.bit (n := 69) q) (by rw [show Part.bit .secExtRun = 69 from rfl] at hp; simp [hp])
      · exact fun e => q.trans e
    case secRoleCommitted =>
      rcases n_secRoleCommitted with q | q
      · exact absurd (Sub.bit (n := 70) q) (by rw [show Part.bit .secRoleCommitted = 70 from rfl] at hp; simp [hp])
      · exact fun e => q.trans e
    case secBootBank =>
      rcases n_secBootBank with q | q
      · exact absurd (Sub.bit (n := 71) q) (by rw [show Part.bit .secBootBank = 71 from rfl] at hp; simp [hp])
      · exact fun e => q.trans e
    all_goals exact id
  · exact h.reg h1 k hk
  · have c := h.canon hc
    exact ⟨c.regs, c.ctx, c.timers, c.evtCount, c.evtShadow, c.expert, c.shadow, c.coefStage, c.coefShadow, c.windows, c.rdata, c.busRefuse, c.clockDev, c.lostIn, c.crcPass, c.released, c.gated, c.twb, c.nvBytes, c.schImg⟩

theorem R.set_shadow {T s0} {x : State} {v_shadow : List (Nat × Word)} (hT : Sub 0x100 T) (w_shadow : Tbl.wf (fun _ => 0) x.shadow = true → Tbl.wf (fun _ => 0) v_shadow = true) (h : R T s0 x) : R T s0 { x with shadow := v_shadow } := by
  refine ⟨fun p hp => ?_, fun h1 k hk => ?_, fun hc => ?_⟩
  · have e := h.part p hp
    revert e
    cases p
    case shadow => exact absurd (Sub.bit (n := 8) (Sub.trans rfl hT)) (by rw [show Part.bit .shadow = 8 from rfl] at hp; simp [hp])
    all_goals exact id
  · exact h.reg h1 k hk
  · have c := h.canon hc
    exact ⟨c.regs, c.ctx, c.timers, c.evtCount, c.evtShadow, c.expert, w_shadow c.shadow, c.coefStage, c.coefShadow, c.windows, c.rdata, c.busRefuse, c.clockDev, c.lostIn, c.crcPass, c.released, c.gated, c.twb, c.nvBytes, c.schImg⟩

theorem R.set_shadow_coefShadow {T s0} {x : State} {v_shadow : List (Nat × Word)} {v_coefShadow : List (Nat × Option (Nat × Word))} (hT : Sub 0x500 T) (w_shadow : Tbl.wf (fun _ => 0) x.shadow = true → Tbl.wf (fun _ => 0) v_shadow = true) (w_coefShadow : Tbl.wf (fun _ => none) x.coefShadow = true → Tbl.wf (fun _ => none) v_coefShadow = true) (h : R T s0 x) : R T s0 { x with shadow := v_shadow, coefShadow := v_coefShadow } := by
  refine ⟨fun p hp => ?_, fun h1 k hk => ?_, fun hc => ?_⟩
  · have e := h.part p hp
    revert e
    cases p
    case shadow => exact absurd (Sub.bit (n := 8) (Sub.trans rfl hT)) (by rw [show Part.bit .shadow = 8 from rfl] at hp; simp [hp])
    case coefShadow => exact absurd (Sub.bit (n := 10) (Sub.trans rfl hT)) (by rw [show Part.bit .coefShadow = 10 from rfl] at hp; simp [hp])
    all_goals exact id
  · exact h.reg h1 k hk
  · have c := h.canon hc
    exact ⟨c.regs, c.ctx, c.timers, c.evtCount, c.evtShadow, c.expert, w_shadow c.shadow, c.coefStage, w_coefShadow c.coefShadow, c.windows, c.rdata, c.busRefuse, c.clockDev, c.lostIn, c.crcPass, c.released, c.gated, c.twb, c.nvBytes, c.schImg⟩

theorem R.set_time {T s0} {x : State} {v_time : TimeSt} (hT : Sub 0x10 T) (h : R T s0 x) : R T s0 { x with time := v_time } := by
  refine ⟨fun p hp => ?_, fun h1 k hk => ?_, fun hc => ?_⟩
  · have e := h.part p hp
    revert e
    cases p
    case time => exact absurd (Sub.bit (n := 4) (Sub.trans rfl hT)) (by rw [show Part.bit .time = 4 from rfl] at hp; simp [hp])
    all_goals exact id
  · exact h.reg h1 k hk
  · have c := h.canon hc
    exact ⟨c.regs, c.ctx, c.timers, c.evtCount, c.evtShadow, c.expert, c.shadow, c.coefStage, c.coefShadow, c.windows, c.rdata, c.busRefuse, c.clockDev, c.lostIn, c.crcPass, c.released, c.gated, c.twb, c.nvBytes, c.schImg⟩

theorem R.set_time_evr_trc {T s0} {x : State} {v_time : TimeSt} {v_evr : EvrSt} {v_trc : TrcSt} (hT : Sub 0x8200010 T) (h : R T s0 x) : R T s0 { x with time := v_time, evr := v_evr, trc := v_trc } := by
  refine ⟨fun p hp => ?_, fun h1 k hk => ?_, fun hc => ?_⟩
  · have e := h.part p hp
    revert e
    cases p
    case time => exact absurd (Sub.bit (n := 4) (Sub.trans rfl hT)) (by rw [show Part.bit .time = 4 from rfl] at hp; simp [hp])
    case evr => exact absurd (Sub.bit (n := 21) (Sub.trans rfl hT)) (by rw [show Part.bit .evr = 21 from rfl] at hp; simp [hp])
    case trc => exact absurd (Sub.bit (n := 27) (Sub.trans rfl hT)) (by rw [show Part.bit .trc = 27 from rfl] at hp; simp [hp])
    all_goals exact id
  · exact h.reg h1 k hk
  · have c := h.canon hc
    exact ⟨c.regs, c.ctx, c.timers, c.evtCount, c.evtShadow, c.expert, c.shadow, c.coefStage, c.coefShadow, c.windows, c.rdata, c.busRefuse, c.clockDev, c.lostIn, c.crcPass, c.released, c.gated, c.twb, c.nvBytes, c.schImg⟩

theorem R.set_timers {T s0} {x : State} {v_timers : List (Nat × Nat)} (hT : Sub 0x8 T) (w_timers : Tbl.wf (fun _ => 0) x.timers = true → Tbl.wf (fun _ => 0) v_timers = true) (h : R T s0 x) : R T s0 { x with timers := v_timers } := by
  refine ⟨fun p hp => ?_, fun h1 k hk => ?_, fun hc => ?_⟩
  · have e := h.part p hp
    revert e
    cases p
    case timers => exact absurd (Sub.bit (n := 3) (Sub.trans rfl hT)) (by rw [show Part.bit .timers = 3 from rfl] at hp; simp [hp])
    all_goals exact id
  · exact h.reg h1 k hk
  · have c := h.canon hc
    exact ⟨c.regs, c.ctx, w_timers c.timers, c.evtCount, c.evtShadow, c.expert, c.shadow, c.coefStage, c.coefShadow, c.windows, c.rdata, c.busRefuse, c.clockDev, c.lostIn, c.crcPass, c.released, c.gated, c.twb, c.nvBytes, c.schImg⟩

theorem R.set_trc {T s0} {x : State} {v_trc : TrcSt} (hT : Sub 0x8000000 T) (h : R T s0 x) : R T s0 { x with trc := v_trc } := by
  refine ⟨fun p hp => ?_, fun h1 k hk => ?_, fun hc => ?_⟩
  · have e := h.part p hp
    revert e
    cases p
    case trc => exact absurd (Sub.bit (n := 27) (Sub.trans rfl hT)) (by rw [show Part.bit .trc = 27 from rfl] at hp; simp [hp])
    all_goals exact id
  · exact h.reg h1 k hk
  · have c := h.canon hc
    exact ⟨c.regs, c.ctx, c.timers, c.evtCount, c.evtShadow, c.expert, c.shadow, c.coefStage, c.coefShadow, c.windows, c.rdata, c.busRefuse, c.clockDev, c.lostIn, c.crcPass, c.released, c.gated, c.twb, c.nvBytes, c.schImg⟩

theorem R.set_twb {T s0} {x : State} {v_twb : List (Nat × TwbRt)} (hT : Sub 0x10000000000 T) (w_twb : Tbl.wf (fun _ => {}) x.twb = true → Tbl.wf (fun _ => {}) v_twb = true) (h : R T s0 x) : R T s0 { x with twb := v_twb } := by
  refine ⟨fun p hp => ?_, fun h1 k hk => ?_, fun hc => ?_⟩
  · have e := h.part p hp
    revert e
    cases p
    case twb => exact absurd (Sub.bit (n := 40) (Sub.trans rfl hT)) (by rw [show Part.bit .twb = 40 from rfl] at hp; simp [hp])
    all_goals exact id
  · exact h.reg h1 k hk
  · have c := h.canon hc
    exact ⟨c.regs, c.ctx, c.timers, c.evtCount, c.evtShadow, c.expert, c.shadow, c.coefStage, c.coefShadow, c.windows, c.rdata, c.busRefuse, c.clockDev, c.lostIn, c.crcPass, c.released, c.gated, w_twb c.twb, c.nvBytes, c.schImg⟩

theorem R.set_twt {T s0} {x : State} {v_twt : TwtSt} (hT : Sub 0x20000000000 T) (h : R T s0 x) : R T s0 { x with twt := v_twt } := by
  refine ⟨fun p hp => ?_, fun h1 k hk => ?_, fun hc => ?_⟩
  · have e := h.part p hp
    revert e
    cases p
    case twt => exact absurd (Sub.bit (n := 41) (Sub.trans rfl hT)) (by rw [show Part.bit .twt = 41 from rfl] at hp; simp [hp])
    all_goals exact id
  · exact h.reg h1 k hk
  · have c := h.canon hc
    exact ⟨c.regs, c.ctx, c.timers, c.evtCount, c.evtShadow, c.expert, c.shadow, c.coefStage, c.coefShadow, c.windows, c.rdata, c.busRefuse, c.clockDev, c.lostIn, c.crcPass, c.released, c.gated, c.twb, c.nvBytes, c.schImg⟩

theorem R.set_windows {T s0} {x : State} {v_windows : List (Nat × Window)} (hT : Sub 0x800 T) (w_windows : Tbl.wf (fun _ => {}) x.windows = true → Tbl.wf (fun _ => {}) v_windows = true) (h : R T s0 x) : R T s0 { x with windows := v_windows } := by
  refine ⟨fun p hp => ?_, fun h1 k hk => ?_, fun hc => ?_⟩
  · have e := h.part p hp
    revert e
    cases p
    case windows => exact absurd (Sub.bit (n := 11) (Sub.trans rfl hT)) (by rw [show Part.bit .windows = 11 from rfl] at hp; simp [hp])
    all_goals exact id
  · exact h.reg h1 k hk
  · have c := h.canon hc
    exact ⟨c.regs, c.ctx, c.timers, c.evtCount, c.evtShadow, c.expert, c.shadow, c.coefStage, c.coefShadow, w_windows c.windows, c.rdata, c.busRefuse, c.clockDev, c.lostIn, c.crcPass, c.released, c.gated, c.twb, c.nvBytes, c.schImg⟩

theorem R.set_xts {T s0} {x : State} {v_xts : Option XtsPair} (hT : Sub 0x8000 T) (h : R T s0 x) : R T s0 { x with xts := v_xts } := by
  refine ⟨fun p hp => ?_, fun h1 k hk => ?_, fun hc => ?_⟩
  · have e := h.part p hp
    revert e
    cases p
    case xts => exact absurd (Sub.bit (n := 15) (Sub.trans rfl hT)) (by rw [show Part.bit .xts = 15 from rfl] at hp; simp [hp])
    all_goals exact id
  · exact h.reg h1 k hk
  · have c := h.canon hc
    exact ⟨c.regs, c.ctx, c.timers, c.evtCount, c.evtShadow, c.expert, c.shadow, c.coefStage, c.coefShadow, c.windows, c.rdata, c.busRefuse, c.clockDev, c.lostIn, c.crcPass, c.released, c.gated, c.twb, c.nvBytes, c.schImg⟩

end Sys2Proof.Machine
end

