-- ==== Sys2Proof/WellFormed.lean ====
section
/-!
DEFINITION. When the operands of a command are such as the device can meet: the ranges that the operands' types do not carry already.
A command that is not well formed exists nowhere outside; `exec` has a meaning for it all the same.
-/
namespace Sys2Proof

/-- The blocks of a sample block: each stream at most once, each with the powers of its 64 bins (R66, R235). -/
def blocksOk (l : List TxBlock) : Bool := decide (l.map fun b => b.stream).Nodup && l.all fun b => decide (b.bins.length = 64)

/-- A packet is at most 16 bytes of header, 1,024 of payload and 16 of tag (R313). -/
def RawPkt.wellFormed (p : RawPkt) : Bool := decide (p.bytes.length ≤ 1056)

/-- A fronthaul frame: a block holds 16 samples of two mantissas (R296); a packet that it carries is a packet (R310); the payload of
a frame has at most 1,500 bytes. -/
def FhFrame.wellFormed : FhFrame → Bool
  | .iq _ _ blocks => blocks.all fun b => decide (b.mant.length = 32)
  | .chain _ _ _ _ pkt => pkt.wellFormed
  | .ecpri _ payload => decide (payload.length ≤ 1500)
  | .other _ | .concatenated | .badRevision | .ptp _ | .owdRequest _ _ | .owdResponse _ _ | .owdOther _ _ | .align .. => true

/-- A management frame whose datagram carries a packet (R326). -/
def MgeFrame.wellFormed : MgeFrame → Bool
  | .udp _ _ _ _ _ _ _ pkt => pkt.wellFormed
  | .solicit .. | .echo .. | .other .. => true

/-- What a target answered: at most 255 data bytes after a count byte (R458). -/
def TwbReply.wellFormed : TwbReply → Bool
  | .complete _ data _ => decide (data.length ≤ 255)
  | .addrNack | .dataNack _ => true

/-- What had been read where arbitration was lost (R462). -/
def ArbPoint.wellFormed : ArbPoint → Bool
  | .stop _ data _ => decide (data.length ≤ 255)
  | .bits | .restart => true

/-- The operands of a command are in range: record words of 32 bits and codes of 16 (chapter 14), strips of the grid (R183), converter codes of
24 bits (R431), four references of an instance (R115); the other operands carry their range in their type. -/
def Instr.wellFormed : Instr → Bool
  | .sampleBlock streams => blocksOk streams
  | .subbandAdapt _ _ _ refs _ => decide (refs.length ≤ 4)
  | .symbolRowEnd _ _ strips => strips.all fun x => decide (x.1 < 3456)
  | .fhFrameReceived _ _ frame _ => frame.wellFormed
  | .fhTxFrame _ blocks => blocks.all fun b => decide (b.length = 32)
  | .packetReceived _ _ pkt => pkt.wellFormed
  | .mgeFrame frame => frame.wellFormed
  | .recordPost code p0 p1 p2 => decide (code < 2 ^ 16) && decide (p0 < 2 ^ 32) && decide (p1 < 2 ^ 32) && decide (p2 < 2 ^ 32)
  | .hkaConversionDone _ code => decide (-(2 ^ 23) ≤ code ∧ code < 2 ^ 23)
  | .twbTransactionEnd _ reply => reply.wellFormed
  | .twbArbitrationLost _ at_ => at_.wellFormed
  | .registerWrite .. | .stoppedBlockAccessDone .. | .devtimeLoRead .. | .pllaFirstLock | .usStrobe | .msStrobe .. | .secondStrobe
  | .clockSupervisionWindow .. | .pllLockLoss .. | .xtsReq .. | .xtsCaptureDone | .satClr .. | .cfgLockSet .. | .blockReset .. | .crcPassComplete ..
  | .crcStaleTimeout .. | .selftestStart .. | .evtStickyClear .. | .evtForce .. | .evtCountSnap .. | .eventRise .. | .expertUnlockArm ..
  | .expertUnlockOpen .. | .expertClose .. | .expertArmTimeout .. | .expertOpenTimeout .. | .ownerWrite .. | .ctxwSelect .. | .ctxwSnapshot ..
  | .ctxwApertureWrite .. | .ctxwApertureRead .. | .ctxwCommit .. | .ctxwCommitApply .. | .coefMWrite .. | .coefSWrite .. | .coefMRead ..
  | .streamConfigWrite .. | .pathCfgWrite .. | .pathEnable .. | .pathDisable .. | .pathOff .. | .winLoWrite .. | .windowCommit .. | .windowApply ..
  | .delayWrite .. | .delaySlewDone .. | .ctxConfigure .. | .ctxStart .. | .ctxHold .. | .ctxResume .. | .ctxMute .. | .ctxStop .. | .ctxRelease ..
  | .ctxOwnerWrite .. | .imageLoadBegin .. | .imageSlotFillDone | .imageLoadData .. | .imageLoadEnd .. | .imageLoadAbort .. | .loadTimeout ..
  | .verifyDone .. | .swapArm .. | .swapDisarm .. | .swapDrainsDone | .swapPointOfNoReturn | .swapBoundary .. | .tableEccError .. | .tableScrub ..
  | .canEnable .. | .canDisable .. | .canModeWrite .. | .pauseExpired .. | .linkFrozenExit .. | .clearTaps .. | .canBasicWrite .. | .canMapWrite ..
  | .tapReWrite .. | .tapImWrite .. | .tapReRead .. | .marginUpdate .. | .isoReq .. | .isoPeriodExpired .. | .isoWindowStart .. | .isoWindowEnd ..
  | .clampHoldExpired .. | .clampReleaseDone .. | .canSelftestEnd .. | .contextTick .. | .feAck .. | .supplyCorrTimeout .. | .traceArm ..
  | .traceTrigNow .. | .traceStop .. | .traceReadData .. | .budgetAllocation | .budgetHoldExpired .. | .gridRowFreeze .. | .gridRowRead ..
  | .gridRowApply .. | .gridEccError .. | .ggrWrQueue .. | .frameBoundary .. | .boundaryCommit .. | .tgroupEnable .. | .tgroupDisable ..
  | .timingObservation .. | .flywheelTimeout .. | .holdoverTimeout .. | .timingSourceLost .. | .priReturnTimer .. | .ppsEdge .. | .ppsWindowExpired
  | .ppsTimeout | .uartCharacter .. | .nmeaSentence | .nmeaTimeout | .clsEnable .. | .ssbDetection .. | .ssbPosition .. | .sib1Decoded ..
  | .sib1Timeout .. | .sib1PeriodExpired .. | .patternApply .. | .wheelRowPlan .. | .pinEvent .. | .prefireRevoke .. | .regCommit .. | .regRestage ..
  | .oscNegTimeout .. | .noiseTrigTimeout .. | .oobTimeout .. | .foxgloveTrigger .. | .foxStopped .. | .foxBackoffExpired .. | .foxSlotClear ..
  | .foxChainsReady .. | .foxRetryGood .. | .nprRemoteMute .. | .nprRemoteClear .. | .felFrameSlot .. | .felFrameResponse .. | .felLinkTimeout ..
  | .felDescCommit .. | .chainTargetWrite .. | .chainStateReached .. | .chainTransitionTimeout .. | .calReqRxiq .. | .calReqRxgain ..
  | .calibrationDone .. | .loWrite .. | .feClear .. | .autopoll .. | .detectorTimeout .. | .moduleTempTimeout .. | .mismatchHoldExpired ..
  | .mismatchGoodTimer .. | .tunerStepTimer .. | .tunerCodeWrite .. | .grantSample .. | .grantFall .. | .jlkRxEnable .. | .jlkTxEnable ..
  | .lanePllLocked .. | .laneSyncLocked .. | .sysrefEdge .. | .sysrefTimeout .. | .jlkRun .. | .jlkMultiblock .. | .jlkRxLinkLost ..
  | .jlkRelockTimeout .. | .jlkTxAlarm .. | .jlkPatternWrite .. | .equaliserReadapt | .fhLaneUp .. | .fhLaneDown .. | .fhPreemptVerify ..
  | .fhFlowEnable .. | .fhFlowTimeout .. | .fhFeedSwitch .. | .fhFeedReturnTimer .. | .ptpSyncTimeout | .ptpFreqWrite .. | .ptpStep ..
  | .hopMeasPeriod | .hopNsTimeout | .alignPeriod | .alignMessageTimeout | .ptpTimeRead .. | .pcieRqProduce .. | .pcieAnConsume ..
  | .pcieRingEnable .. | .pcieLinkChange .. | .mgeLinkTimeout | .bufferAllocate .. | .packetExecute | .queueTimeout .. | .hostTimeout | .info ..
  | .regRead .. | .regWrite .. | .timeRead .. | .imageSeg .. | .tapRead .. | .tapWrite .. | .ctxRead .. | .ctxWrite .. | .gridSc .. | .gridWr ..
  | .beam .. | .remoteMute .. | .remoteMuteClear .. | .foxClear .. | .capOpen .. | .capClose .. | .capRead .. | .traceRead .. | .recRead .. | .report
  | .capData .. | .fnDisable .. | .fnEnable .. | .fnDrained .. | .capSessionStart .. | .captureRecord .. | .capScmdClose .. | .capDestTimeout ..
  | .faultRise .. | .dualPolarityConfirmed .. | .faultWindowExpired .. | .faultEscalation .. | .faultAck .. | .faultForce .. | .faultSplit ..
  | .faultConfigWrite .. | .collectorSelfcheckFail | .errHealthyWrite .. | .safeCauseClear .. | .recordIntake | .recorderEpochWrap | .segmentCommit
  | .evrFlush .. | .evrRdDataRead .. | .evrClear .. | .evrClearComplete | .journalWrite | .nvOperationStart | .nvOperationDone .. | .nvaProgram ..
  | .nvaErase .. | .nvaAbort .. | .bootselRequest .. | .holdupVoltageSample .. | .holdupChargeReading .. | .holdupVTimeout | .holdupQTimeout
  | .holdupEstimateUpdate | .holdupDisagreeTimer | .holdupRebase | .energyRetest | .energyBlockTimeout | .nvHostEnergyTimeout | .holdupReadyTimeout
  | .powerFail | .powerFailRecovery | .lifecycleGo .. | .fuseBurnDone .. | .keyInstall .. | .keyErase .. | .pcieRoleWrite .. | .rootProgram ..
  | .rootRevoke .. | .svnAdvance .. | .debugAuth .. | .debugChallengeExpired | .debugLockoutExpired | .debugClose .. | .debugIdleTimeout
  | .jtagInstruction .. | .powerToActive .. | .powerToLean .. | .powerToStandby .. | .powerToSnowdrop .. | .powerTransitionDone .. | .wakePin ..
  | .wakeTimerExpired | .wakePinStuck .. | .wake .. | .traceWord .. | .trcRdDataRead .. | .hkaStart .. | .hkaScanTimer .. | .hkaUrgentRequest ..
  | .hkaCal .. | .hkaCalDone .. | .hkaAbort .. | .vrefextCheck .. | .refSettled .. | .pwmPeriodStart .. | .ilimAssert .. | .ilimOffTimeout ..
  | .pwmEnable .. | .pwmDisable .. | .pwmHoldExpired .. | .pwmClear .. | .pwmRunTimer .. | .tachEdge .. | .fanStallTimeout .. | .fanFailTimeout ..
  | .sensorReading .. | .sensorTimeout .. | .thermalRateUpdate | .hardTempComparator .. | .twbGo .. | .twbTransactionStart .. | .twbTimeout ..
  | .twbBusRecoveryDone .. | .twbRecoveryRetry .. | .twbIdleDetect .. | .twbAttention .. | .twbDisable .. | .twtAddress .. | .twtByteReceived ..
  | .twtByteRequested | .twtStop | .twtStretchTimeout | .twtStuck | .twtRxPop .. | .twtTxPush .. | .twtAttn .. | .twtFlush .. | .twtWakeMatch ..
  | .twtWakeTimeout | .powerOnReset .. | .resetPin .. | .rstChip .. | .rstPairA .. | .rstPairB .. | .primroseStep .. | .watchdogKick ..
  | .watchdogExpired .. | .bootWatchdogExpired | .aonWatchdogKick .. | .aonWatchdogExpired | .pciePerst .. | .gpioInputChange .. | .mgeLinkChange ..
  | .nmeaLabelTimeout | .grantHighTimeout .. | .idleBusHeldLow .. | .twtBusReleased => true

end Sys2Proof
end

