-- ==== Sys2Proof/Tests/Slice0.lean ====
section
/-!
SUPPORT. Tests: the smoke tests of WellFormed, a few single commands with results from the spec, and a witness for the hypotheses of every statement.
-/
namespace Sys2Proof.Tests
open Sys2Proof Sys2Proof.Machine

set_option Elab.async false

/-! States for the witnesses. -/

def wPage (p : Nat) : State := State.reset.fset PAGE_STAT.READY p 1
def wLocked : State := { State.reset with time := { started := true } }.fset CLK_PLL_STAT.PLLA_LOCK 0 1
def wImage : State := let s := wPage pgCHN; { s with sch := { s.sch with active := some 0, img := [(0x0F, 1), (0x41, 0x20), (0x47, 0x80), (0x81, 0x80)] } }
def wCtx (st : Nat) : State :=
  let s := (((((State.reset.cset CTX_CTRL.STATE 0 st).cset CTX_BW.BW_KHZ 0 10000).cset CTX_FREQ.CENTRE_KHZ 0 20000).cset CTX_GAIN.TARGET_GAIN 0 0).setWord (CHN_WIN_LO.EN.key 0) 0x80000000).setWord (CHN_WIN_HI.F_HIGH_KHZ.key 0) 40000
  s.setCtxRt 0 { slot := some (0, 0) }
def wCtxCmd (st cmd : Nat) : State := let s := wCtx st; s.setCtxRt 0 { s.ctxRt 0 with cmd := cmd }
def wSlot (st : Nat) : State := (wPage pgSCH).setSlot 0 st
def wLoading : State := (wSlot slotLOADING).setLoader 0 (some .device)
def wArmed : State := let s := (wSlot slotARMED).fset SCH_SWAP_STAT.STATE 0 swDRAINING; { s with sch := { s.sch with armedFrom := slotVERIFIED } }
def wCan (st : Nat) : State := (wPage pgCAN).setCanState 0 st
def wMs (s : State) (n : Nat) : State := { s with time := { s.time with msCount := n, usCount := 1000 * n, sCount := n / 1000 } }
def wExpert (page : Nat) (s : State) : State := s.setExpertSt page .pairB { opened := true }
def wWorks (p : Nat) (s : State) : State := ((s.fset PAGE_STAT.READY p 1).fset PAGE_CTRL.ENABLE p 1).setDomainRuns (workDomain p) true
def wMgeUp : State := ((wWorks pgMGE (wWorks pgGCP State.reset)).fset MGE_CFG.EN 0 1).fset MGE_STAT.LINK_UP 0 1
def wRingUp : State := (((wWorks pgPCIE (wWorks pgGCP State.reset)).fset PCIE_STAT.LINK_UP 0 1).fset PCIE_RING.EN 2 1).fset PCIE_RQ_PROD.PROD 2 5
def wCanActive : State := wWorks pgCAN ((State.reset.setWord (CHN_WIN_LO.EN.key 0) 0x80000000).setWord (CHN_WIN_HI.F_HIGH_KHZ.key 0) 40000)
def wIsoEnd : State :=
  let s := wMs ((((wCan canPROBE).timerStart tmIso 0 0).fset CAN_STAT.ISO_BUSY 0 1).fset (CAN_REF.EN 0) 0 1) 9000
  let s := (s.setWord (CHN_WIN_LO.EN.key 0) 0x80000000).setWord (CHN_WIN_HI.F_HIGH_KHZ.key 0) 5000
  { s with can := { s.can with isoAcc := [(rkKey 0 32 0, { n := 10, pd := 100, pSum := 1000, pLow := 100 })] } }
def wOk (r : WRes) : State := match r with | .ok u => u | .error _ => State.reset
def wTrace : State :=
  let s := wPage pgCEN
  { s with sch := { s.sch with active := some 0, img := [(0x0F, 2), (0x41, 0x23), (0x51, 0x21), (0x57, 0x80), (0x5B, 8), (0x81, 0x31), (0x82, 0xFF), (0x83, 0xFF), (0x87, 4)] } }
def wDesc : GridDesc := { path := 0, row := 3, rows := 5, first := 1, count := 2, code := 1, rel := true, replace := false, late := false, sfn := 0 }
def wSource : State := (((State.reset.fset FTM_GCFG.PRI 0 2).fset FTM_GCFG.SEC 0 2).fset FHL_PTP_STAT.LOCK 0 1).fset FTM_GSTAT.STATE 0 tgACQUIRING
def wPps (st : Nat) : State :=
  let s := (State.reset.fset GNS_PPS.EN 0 1).fset GNS_STAT.PPS_STATE 0 st
  s.setGns { s.ftm.gns with expect := 0x100000005 * 65536, count := 4, missed := 0 }
def wCls : State :=
  let s := (wPage pgCLS).fset CLS_CCFG.PCI 0 5
  { s with sch := { s.sch with active := some 0, img := [(0x0F, 1), (0x41, 0x21), (0x47, 0x80), (0x4B, 8), (0x81, 0x32), (0x82, 0xFF), (0x83, 0xFF), (0x87, 4)] } }
def wPin : State :=
  let s := (wWorks pgFTM State.reset).fset FTM_PCFG.TDD_EN 0 1
  s.setWheelPort 0 { plan := [{ path := 0, row := 0, start := 0, stop := 1000000000 }] }
def wGrant : State := ((wWorks pgCXW wPin).fset FTM_PCFG.CX_EN 0 1).fset CXW_CFG.EN 0 1
def wReg : State := { (wPage pgLIM).setExpertSt pgLIM (.engine .manufacturer) { opened := true } with sec := { lc := 1 } }
def wModule : State := let s := State.reset; { s with fel := { s.fel with desc := [(16, 0x80000000), (22, 0x09)] } }
def wPkt (typ cls ident arg16 arg32 : Nat) (pl : List Nat) : Pkt := { cls := cls, typ := typ, ident := ident, transport := 0, source := 0, seq := 5, arg16 := arg16, arg32 := arg32, payload := pl, at_ := 0 }
def wRun (p : Pkt) (s : State) : State := (s.setRunning p.queue (some p)).fset GCP_FN_STAT.STATE 0 0x5555
def wKeyed : State := { wMgeUp with sec := { keys := [(16, some 5)] } }
def wRaw : RawPkt :=
  let b := [0x14, 0x13, 0x10, 0, 0, 0, 0, 9, 0, 0, 0, 5, 0, 0, 0, 0]
  ⟨(b ++ wKeyed.tagUnder ((wKeyed.packetKey 16).getD 0) 1 b).map fun x => Fin.ofNat 256 x⟩
def wPlainKey : State := ((wPage pgSEC).fset SEC_PCIE_ROLE.ROLE 0 0x1F).fset SEC_KEY_SEL.ID (Init.holder .pcie) 0x11
def wCapRun : State := (((wPage pgCAP).fset CAP_SSTAT.STATE 3 2).setCap 3 { bufKib := 64, records := [⟨0, 0, 0, [1]⟩, ⟨4, 0, 9, [2]⟩] }).fset CAP_SSTAT.OWNER 3 0x10
def wScCtx : State :=
  let s := ((((wCtx ctxACTIVE).cset CTX_OWNER.OWNER 0 3).cset CTX_GRID.SC_ID 0 0).cset CTX_STRIPS.STRIP_FIRST 0 10).cset CTX_STRIPS.STRIP_COUNT 0 20
  (s.fsetBit GGR_PCFG.WR_EN (s.ctxPath 0) 2 true).fset GGR_Q.DEPTH wrSIDE 8
def wLc (s : State) : State := { s with sec := { lc := 1 } }
def wCapImg : State := let s := wPage pgCAP; { s with sch := { s.sch with active := some 0, img := [(0x0F, 2), (0x41, 0x23), (0x51, 0x21), (0x57, 0x80), (0x5B, 8), (0x81, 0x30), (0x82, 0xFF), (0x83, 0xFF), (0x87, 4)] } }
def wRecs : State := let s := wPage pgEVR; { s with evr := { s.evr with openSeg := [{ code := 0x6001, p0 := 1, p1 := 2, p2 := 3, dt := 4, seq := 7 }], log := [[{ code := 0x6002, p0 := 1, p1 := 2, p2 := 3, dt := 4, seq := 6 }]] } }
def wBank : State := { State.reset with nva := { State.reset.nva with bytes :=
    [(0, 76), (1, 75), (2, 70), (3, 87), (4, 0), (5, 1), (6, 0), (7, 64), (8, 114), (9, 64), (10, 0), (11, 0), (12, 0), (13, 0), (14, 0), (15, 1), (16, 0), (17, 0), (18, 0), (19, 192), (20, 0), (21, 0), (22, 0), (23, 0)] ++
    [(24, 0), (25, 0), (26, 0), (27, 0), (28, 0), (29, 0), (30, 0), (31, 0), (32, 0), (33, 0), (34, 0), (35, 0), (36, 0), (37, 0), (38, 0), (39, 0), (40, 0), (41, 0), (42, 0), (43, 0), (44, 0), (45, 0), (46, 0), (47, 0)] ++
    [(48, 0), (49, 0), (50, 0), (51, 0), (52, 0), (53, 0), (54, 0), (55, 0), (56, 0), (57, 0), (58, 0), (59, 0), (60, 0), (61, 0), (62, 0), (63, 0), (64, 0), (65, 1), (66, 0), (67, 1), (68, 0), (69, 0), (70, 0), (71, 80)] ++
    [(72, 0), (73, 0), (74, 0), (75, 0), (76, 0), (77, 0), (78, 0), (79, 0)] } }
def wExpertA (page : Nat) (s : State) : State := s.setExpertSt page .pairA { opened := true }
def wDeployed (s : State) : State := { s with sec := { s.sec with lc := lcDEPLOYED } }
def wWinDom (staged : Bool) : State := wDeployed (((wPage pgCTXW).setWindow 6 { staged := staged, words := [(3, 0x00400040)] }).cset CTX_OWNER.OWNER 0 5)
def wStrict : State :=
  let s := (wSlot slotVERIFIED).fset CHN_PATH_STAT.STATE 0 pathON
  { s with sch := { s.sch with active := some 1, img := [(0x4000F, 1), (0x40041, 0x20), (0x40047, 0x80), (0x40081, 0x80), (13, 1)] } }
def wSeen : State := (wWorks pgFTM wSource).setSeen 2 (some ⟨0x1000, 5, 0xFFFF⟩)
def wFh (d : Nat) : State := (((wWorks pgFHL State.reset).setDomainRuns (36 + d) true).fset (sideUpFld d) 0 1).fsetBit (sideLaneUpFld d) 0 3 true
def wRelay : State := (((wFh 1).fset (sideUpFld 0) 0 1).fsetBit (sideLaneUpFld 0) 0 2 true).fset (sideRelayFld 0) 0 1
def wPtp (s : State) : State := let t := s.fset FHL_PTP_CFG.EN 0 1; t.setPtp { t.fhl.ptp with master := some 5 }
def wFlows : State := (List.range 6).foldl (fun s f => (s.fset FHL_FLOW_CFG.EN (f + 4) 1).fset FHL_FLOW_CFG.DONOR (f + 4) f) (wPage pgFHL)
def wJlkBusy : State := (List.range 32).foldl (fun s p => s.fset CHN_PATH_STAT.STATE p pathON) (wPage pgJLK)
def wLv7210 : State := { State.reset with member := .lv7210 }
def wBeamFull : State :=
  let s := (wPage pgFEL).fset CHN_PATH_STAT.STATE 16 pathON
  { s with fel := { s.fel with desc := [(6, 0x00000500)] } }.setFelPort 0 { timed := List.replicate 32 (plainWrite 0 0) }
def wSet : JEntry := let e : JEntry := { typ := 1, key := 0, payload := [5], committed := true }; { e with crc := e.crcDue }

/-! What is not well formed is refused, one term for each check. -/

theorem test_wf_sample_block_twice : (Instr.sampleBlock [⟨3, false, 0, List.replicate 64 0, []⟩, ⟨3, false, 0, List.replicate 64 0, []⟩]).wellFormed = false := by decide
theorem test_wf_sample_block_bins : (Instr.sampleBlock [⟨3, false, 0, [1], []⟩]).wellFormed = false := by decide
theorem test_wf_adapt_refs : (Instr.subbandAdapt 0 0 (0, 0) (List.replicate 5 ⟨(0, 0), 0⟩) false).wellFormed = false := by decide
theorem test_wf_row_strip : (Instr.symbolRowEnd 0 0 [(3456, 0, 0)]).wellFormed = false := by decide
theorem test_wf_tx_frame : (Instr.fhTxFrame 0 [[1, 2, 3]]).wellFormed = false := by decide
theorem test_wf_packet_length (l : List (Fin 256)) (h : l.length = 1057) : (RawPkt.mk l).wellFormed = false := by
  simp [RawPkt.wellFormed, h]
theorem test_wf_packet (p : RawPkt) (h : p.wellFormed = false) : (Instr.packetReceived 0 0 p).wellFormed = false := h
theorem test_wf_frame_chain (p : RawPkt) (h : p.wellFormed = false) (a : FhArrival) :
    (Instr.fhFrameReceived 0 0 (.chain 0 0 0 true p) a).wellFormed = false := h
theorem test_wf_mge (p : RawPkt) (h : p.wellFormed = false) : (Instr.mgeFrame (.udp 60 none 0 0 false true 0 p)).wellFormed = false := h
theorem test_wf_record_code : (Instr.recordPost 0x10000 0 0 0).wellFormed = false := by decide
theorem test_wf_record_p1 : (Instr.recordPost 1 0 0x100000000 0).wellFormed = false := by decide
theorem test_wf_converter_code : (Instr.hkaConversionDone 0 8388608).wellFormed = false := by decide
theorem test_wf_two_wire_reply (l : List (Fin 256)) (h : l.length = 256) : (Instr.twbTransactionEnd 0 (.complete 0 l 0)).wellFormed = false := by
  simp [Instr.wellFormed, TwbReply.wellFormed, h]
theorem test_wf_arbitration (l : List (Fin 256)) (h : l.length = 256) : (Instr.twbArbitrationLost 0 (.stop 0 l 0)).wellFormed = false := by
  simp [Instr.wellFormed, ArbPoint.wellFormed, h]

/-! Single commands, with results from the spec's own words. -/

/-- R42: a forced rise sets the sticky bit and counts, and leaves EVT_LEVEL unchanged. -/
theorem test_force : (((wPage pgCAN).rise pgCAN 3).fbit EVT_STICKY.STICKY pgCAN 3, ((wPage pgCAN).rise pgCAN 3).evtCountOf pgCAN 3,
    ((wPage pgCAN).rise pgCAN 3).fget EVT_LEVEL.LEVEL pgCAN) = (true, 1, 0) := by decide

/-- R24: the strobe at 1,000 µs stands at 245,760 ticks. -/
theorem test_strobe_ms : strobeTick 1000 = 245760 := by norm_num [strobeTick, ceilDiv]

/-- R37: PAGE_ID.VERSION reads 1 and OWNER.ID resets to unowned. -/
theorem test_reset_owner : State.reset.fget OWNER.ID pgCAN = 0x1F := by decide

/-- R37: CRC_CHECK_EN is set at reset. -/
theorem test_reset_crc_check : State.reset.fon PAGE_CTRL.CRC_CHECK_EN pgCAN = true := by decide

/-! Witnesses: a state and operands that meet the hypotheses of each clause of each statement. -/

theorem witness_ClockEventsComplete :
    (∃ (s : State), s.time.started = false) ∧
    (∃ (deviates : BitVec 47) (s : State) (d : Fin 41), (s.devOf d.val = 1) ∧ (s.domainRuns d.val = true) ∧ (deviates.toNat.testBit d.val = true)) ∧
    (∃ (pll : Fin 4) (s : State), s.fon (pllField pll.val) 0 = true) :=
  ⟨⟨State.reset, by decide +kernel⟩,
   ⟨1, ((wLocked.refreshClocks).setDev 0 1), 0, by decide +kernel⟩,
   ⟨0, wLocked, by decide +kernel⟩⟩

theorem witness_StrobesAdvanceTheCounts :
    (∃ (s : State), s.strobesRun = true) ∧
    (∃ (s : State), s.strobesRun = true) ∧
    (∃ (s : State), s.strobesRun = true) :=
  ⟨⟨wLocked, by decide +kernel⟩,
   ⟨wLocked, by decide +kernel⟩,
   ⟨wLocked, by decide +kernel⟩⟩

theorem witness_TimeReadsLatch :
    (∃ (who : Init) (s : State), Readable s who pgCLK) ∧
    (∃ (who : Init) (s : State), Readable s who pgFHL) ∧
    (∃ (who : Init) (s : State), (Admitted s who pgCLK 0x048) ∧ (s.xts = none)) ∧
    (∃ (s : State) (x : XtsPair), s.xts = some x) :=
  ⟨⟨.pairA, (wPage pgCLK), by decide +kernel⟩,
   ⟨.pairA, (wPage pgFHL), by decide +kernel⟩,
   ⟨.pairA, (wPage pgCLK), by decide +kernel⟩,
   ⟨({ State.reset with xts := some ⟨5, 6, 7⟩ }), (⟨5, 6, 7⟩), by decide +kernel⟩⟩

theorem witness_EventBitsLatchAndCount :
    (∃ (page : Fin 64) (bit : Fin 32) (s : State), (s.pagePresent page.val = true) ∧ (s.running page.val = true) ∧ (s.fbit EVT_LEVEL.LEVEL page.val bit.val = false)) ∧
    (∃ (who : Init) (page : Fin 64) (bits : BitVec 32) (s : State) (n : Fin 32), (Admitted s who page.val 0x018) ∧ (bits.toNat.testBit n.val = true)) ∧
    (∃ (who : Init) (page : Fin 64) (bits : BitVec 32) (s : State) (n : Fin 32), (Admitted s who page.val 0x010) ∧ (bits.toNat.testBit n.val = true)) ∧
    (∃ (who : Init) (page : Fin 64) (s : State), Admitted s who page.val 0x020) :=
  ⟨⟨0x14, 3, (wPage pgCAN), by decide +kernel⟩,
   ⟨.pairA, 0x14, 0x20, (wPage pgCAN), 5, by decide +kernel⟩,
   ⟨.pairA, 0x14, 0x20, ((wPage pgCAN).rise 0x14 5), 5, by decide +kernel⟩,
   ⟨.pairA, 0x14, ((wPage pgCAN).rise 0x14 5), by decide +kernel⟩⟩

theorem witness_PageHeaderWritesComplete :
    (∃ (who : Init) (addr : BitVec 18) (sub : Bool) (s : State), (sub = false) ∧ (addr.toNat = 0x14014) ∧ (Admitted s who pgCAN 0x014)) ∧
    (∃ (page : Fin 64) (s : State), (s.pagePresent page.val = true) ∧ (s.running page.val = false)) ∧
    (∃ (who : Init) (page : Fin 64) (s : State), Admitted s who page.val 0x008) ∧
    (∃ (who : Init) (page : Fin 64) (s : State), Admitted s who page.val 0x008) ∧
    (∃ (who : Init) (page : Fin 64) (s : State), (Admitted s who page.val 0x008) ∧ (noBlockReset page.val = false) ∧ (page.val ≠ pgSCH) ∧ (page.val ≠ pgNVA)) ∧
    (∃ (who : Init) (page : Fin 64) (s : State), Admits (fun u => u.admitOwner who page.val) s who page.val 0x028) ∧
    (∃ (who : Init) (page : Fin 64) (s : State), (Admitted s who page.val 0x034) ∧ (page.val = pgCAN) ∧ (s.fon SELFTEST.BUSY pgCAN = false) ∧ (s.member.present (s.canSel who) = true) ∧ (s.testRefused (s.canSel who) = false)) ∧
    (∃ (page : Fin 64) (s : State), s.crcRunning page.val = true) ∧
    (∃ (page : Fin 64) (s : State), s.timerDue tmCrc page.val s.ms 16 = true) :=
  ⟨⟨.pairA, 0x14014, false, (wPage pgCAN), by decide +kernel⟩,
   ⟨0x14, State.reset, by decide +kernel⟩,
   ⟨.pairA, 0x14, ((wPage pgCAN).fset SAT_COUNT.COUNT pgCAN 4), by decide +kernel⟩,
   ⟨.pairA, 0x14, (wPage pgCAN), by decide +kernel⟩,
   ⟨.pairA, 0x14, (wPage pgCAN), by decide +kernel⟩,
   ⟨.pairA, 0x14, (wPage pgCAN), by decide +kernel⟩,
   ⟨.pairA, 0x14, (((wPage pgCAN).setCanState 0 canFROZEN)), by decide +kernel⟩,
   ⟨0x14, ({ State.reset with crcPass := [(0x14, true)] }), by decide +kernel⟩,
   ⟨0x14, ({ State.reset.timerStart tmCrc 0x14 0 with time := { msCount := 17 } }), by decide +kernel⟩⟩

theorem witness_ExpertLockArmsOpensCloses :
    (∃ (who : Init) (page : Fin 64) (s : State), Admits (fun u => u.admitUnlock who page.val) s who page.val 0x024) ∧
    (∃ (who : Init) (page : Fin 64) (s : State), (Admits (fun u => u.admitUnlock who page.val) s who page.val 0x024) ∧ (s.armedInTime who page.val = true) ∧ (s.mayOpen who page.val = true)) ∧
    (∃ (who : Init) (page : Fin 64) (s : State), Admits (fun u => u.admitUnlock who page.val) s who page.val 0x024) ∧
    (∃ (who : Init) (page : Fin 64) (s : State), ((s.expertSt page.val who).armed = true) ∧ (s.timerDue tmExpertArm (expertUnit page.val who) s.ms 1 = true)) ∧
    (∃ (who : Init) (page : Fin 64) (s : State), ((s.expertSt page.val who).opened = true) ∧ (s.timerDue tmExpertOpen (expertUnit page.val who) s.ms 1000 = true)) :=
  ⟨⟨.pairA, 0x14, (wPage pgCAN), by decide +kernel⟩,
   ⟨.pairA, 0x14, (((wPage pgCAN).setExpertSt 0x14 .pairA { armed := true })), by decide +kernel⟩,
   ⟨.pairA, 0x14, (((wPage pgCAN).setExpertSt 0x14 .pairA { opened := true })), by decide +kernel⟩,
   ⟨.pairA, 0x14, ({ (State.reset.setExpertSt 0x14 .pairA { armed := true }).timerStart tmExpertArm (expertUnit 0x14 .pairA) 0 with time := { msCount := 2 } }), by decide +kernel⟩,
   ⟨.pairA, 0x14, ({ (State.reset.setExpertSt 0x14 .pairA { opened := true }).timerStart tmExpertOpen (expertUnit 0x14 .pairA) 0 with time := { msCount := 1001 } }), by decide +kernel⟩⟩

theorem witness_ContextWindowsSelectStageCommit :
    (∃ (who : Init) (ctx : BitVec 12) (s : State), (Admits (fun u => u.admitLifecycle who) s who pgCTXW (selOff who)) ∧ ((s.window who.holder).pending = false) ∧ (ctx.toNat < s.member.contexts) ∧ (s.admitWindow who ctx.toNat false = none)) ∧
    (∃ (who : Init) (s : State), (s.window who.holder).snapWanted = true) ∧
    (∃ (who : Init) (word : Fin 64) (value : BitVec 32) (s : State), (Admits (fun u => u.admitWindow who (u.window who.holder).ctx (decide (32 ≤ word.val))) s who pgCTXW (apertureOff who word.val)) ∧ ((s.window who.holder).staged = true) ∧ (ctxCoef word.val = none) ∧ (coefOfS word.val = none) ∧ (s.ctxCheck (s.identOf who) (s.window who.holder).ctx word.val value = none)) ∧
    (∃ (who : Init) (word : Fin 64) (s : State), (Admits (fun u => u.admitWindow who (u.window who.holder).ctx (decide (32 ≤ word.val))) s who pgCTXW (apertureOff who word.val)) ∧ ((ctxCoef word.val).isSome = true)) ∧
    (∃ (who : Init) (word : Fin 64) (value : BitVec 32) (s : State) (p : CoefPair), (Admits (fun u => u.admitWindow who (u.window who.holder).ctx (decide (32 ≤ word.val))) s who pgCTXW (apertureOff who word.val)) ∧ ((s.window who.holder).staged = true) ∧ (coefOfS word.val = some p) ∧ (coefOk p (s.coefM who (ctxCoefKey (s.window who.holder).ctx (word.val - 1)) (s.stagedOr (s.window who.holder) (word.val - 1))).toNat (bitsOf value 4 0) = true)) ∧
    (∃ (who : Init) (word : Fin 64) (value : BitVec 32) (s : State), (Admits (fun u => u.admitWindow who (u.window who.holder).ctx (decide (32 ≤ word.val))) s who pgCTXW (apertureOff who word.val)) ∧ ((s.window who.holder).staged = false) ∧ (ctxCoef word.val = none) ∧ (coefOfS word.val = none) ∧ (s.ctxCheck (s.identOf who) (s.window who.holder).ctx word.val value = none) ∧ (s.hasTick (s.window who.holder).ctx = true)) ∧
    (∃ (who : Init) (word : Fin 64) (value : BitVec 32) (s : State), (Admits (fun u => u.admitWindow who (u.window who.holder).ctx (decide (32 ≤ word.val))) s who pgCTXW (apertureOff who word.val)) ∧ ((s.window who.holder).staged = false) ∧ (ctxCoef word.val = none) ∧ (coefOfS word.val = none) ∧ (s.ctxCheck (s.identOf who) (s.window who.holder).ctx word.val value = none) ∧ (s.hasTick (s.window who.holder).ctx = false)) ∧
    (∃ (who : Init) (word : Fin 64) (value : BitVec 32) (s : State) (p : CoefPair), (Admits (fun u => u.admitWindow who (u.window who.holder).ctx (decide (32 ≤ word.val))) s who pgCTXW (apertureOff who word.val)) ∧ ((s.window who.holder).staged = false) ∧ (coefOfS word.val = some p) ∧ (coefOk p (s.coefM who (ctxCoefKey (s.window who.holder).ctx (word.val - 1)) (s.liveWord (s.window who.holder).ctx (word.val - 1))).toNat (bitsOf value 4 0) = true)) ∧
    (∃ (who : Init) (word : Fin 64) (s : State), (Readable s who pgCTXW) ∧ (∀ d : Fin 16, s.identOf who = some (.domain d) → s.cget CTX_OWNER.OWNER (s.window who.holder).ctx = d.val) ∧ ((s.window who.holder).staged = false) ∧ (coefOfS word.val = none)) ∧
    (∃ (who : Init) (word : Fin 64) (s : State) (k : Nat) (v : Word), (Readable s who pgCTXW) ∧ (∀ d : Fin 16, s.identOf who = some (.domain d) → s.cget CTX_OWNER.OWNER (s.window who.holder).ctx = d.val) ∧ ((s.window who.holder).staged = false) ∧ ((coefOfS word.val).isSome = true) ∧ (Tbl.get (fun _ => none) s.coefShadow who.holder = some (k, v))) ∧
    (∃ (who : Init) (word : Fin 64) (s : State), (Readable s who pgCTXW) ∧ (∀ d : Fin 16, s.identOf who = some (.domain d) → s.cget CTX_OWNER.OWNER (s.window who.holder).ctx = d.val) ∧ ((s.window who.holder).staged = false) ∧ ((coefOfS word.val).isSome = true) ∧ (Tbl.get (fun _ => none) s.coefShadow who.holder = none)) ∧
    (∃ (who : Init) (s : State) (l : List Word), (Readable s who pgCTXW) ∧ (∀ d : Fin 16, s.identOf who = some (.domain d) → s.cget CTX_OWNER.OWNER (s.window who.holder).ctx = d.val) ∧ ((s.window who.holder).staged = true) ∧ ((s.window who.holder).snap = some l)) ∧
    (∃ (who : Init) (s : State), (Readable s who pgCTXW) ∧ (∀ d : Fin 16, s.identOf who = some (.domain d) → s.cget CTX_OWNER.OWNER (s.window who.holder).ctx = d.val) ∧ ((s.window who.holder).staged = true) ∧ ((s.window who.holder).snap = none)) ∧
    (∃ (who : Init) (s : State), (Admits (fun u => u.admitLifecycle who) s who pgCTXW (selOff who)) ∧ ((s.window who.holder).pending = false) ∧ ((s.window who.holder).staged = true) ∧ (s.admitWindow who (s.window who.holder).ctx false = none)) ∧
    (∃ (who : Init) (s : State), (Admits (fun u => u.admitLifecycle who) s who pgCTXW (selOff who)) ∧ ((s.window who.holder).pending = false) ∧ ((s.window who.holder).staged = true) ∧ (s.admitWindow who (s.window who.holder).ctx false = some .notOwner)) ∧
    (∃ (who : Init) (s : State), ((s.window who.holder).pending = true) ∧ ((s.ctxRt (s.window who.holder).ctx).direct = []) ∧ (∀ d : Fin 16, s.identOf who = some (.domain d) → s.cget CTX_OWNER.OWNER (s.window who.holder).ctx = d.val)) ∧
    (∃ (who : Init) (s : State) (d : Fin 16), ((s.window who.holder).pending = true) ∧ (s.identOf who = some (.domain d)) ∧ (s.cget CTX_OWNER.OWNER (s.window who.holder).ctx ≠ d.val) ∧ ((s.ctxRt (s.window who.holder).ctx).direct = [])) ∧
    (∃ (who : Init) (ctx : Fin 4096) (owner : Fin 32) (s : State), (Admits (fun u => u.admitWindow who ctx.val false) s who pgCTXW (apertureOff who 6)) ∧ (ctx.val < s.member.contexts) ∧ (s.identOf who = some .integrator ∨ s.identOf who = some .manufacturer) ∧ (owner.val ≤ 0x10 ∨ owner.val = 0x1F) ∧ (s.ctxState ctx.val = ctxFREE)) ∧
    (∃ (who : Init) (ctx : Fin 4096) (owner : Fin 32) (s : State), (Admits (fun u => u.admitWindow who ctx.val false) s who pgCTXW (apertureOff who 6)) ∧ (ctx.val < s.member.contexts) ∧ (s.identOf who = some .integrator ∨ s.identOf who = some .manufacturer) ∧ (owner.val ≤ 0x10 ∨ owner.val = 0x1F) ∧ (s.ctxState ctx.val ≠ ctxFREE) ∧ (s.hasTick ctx.val = false) ∧ (s.cget CTX_OWNER.OWNER ctx.val ≠ owner.val)) ∧
    (∃ (who : Init) (ctx : Fin 4096) (owner : Fin 32) (priv : Bool) (s : State), (Admits (fun u => u.admitWindow who ctx.val false) s who pgCTXW (apertureOff who 6)) ∧ (ctx.val < s.member.contexts) ∧ (s.identOf who ≠ some .integrator) ∧ (s.identOf who ≠ some .manufacturer) ∧ (s.cget CTX_OWNER.OWNER ctx.val ≠ owner.val ∨ s.cget CTX_OWNER.EXPERT_PRIV ctx.val ≠ (if priv then 1 else 0))) ∧
    (∃ (who : Init) (pair : CoefPair) (s : State), (pair = .canMu ∨ pair = .canLeak ∨ pair = .canDelta) ∧ (Admitted s who pgCAN (canCoefOff pair)) ∧ (s.member.present (s.canSel who) = true)) ∧
    (∃ (who : Init) (pair : CoefPair) (s : State) (k : Fin 4), (pair = .ctx k) ∧ (Admits (fun u => u.admitWindow who (u.window who.holder).ctx true) s who pgCTXW (apertureOff who (32 + 2 * k.val)))) ∧
    (∃ (who : Init) (pair : CoefPair) (value : BitVec 32) (s : State), (pair = .canMu ∨ pair = .canLeak ∨ pair = .canDelta) ∧ (Admitted s who pgCAN (canCoefOff pair + 4)) ∧ (s.member.present (s.canSel who) = true) ∧ (coefOk pair (s.coefM who (canKey (canCoefOff pair) (s.canSel who)) (s.word (canKey (canCoefOff pair) (s.canSel who)))).toNat (bitsOf value 4 0) = true)) ∧
    (∃ (who : Init) (pair : CoefPair) (value : BitVec 32) (s : State) (k : Fin 4), (pair = .ctx k) ∧ (Admits (fun u => u.admitWindow who (u.window who.holder).ctx true) s who pgCTXW (apertureOff who (33 + 2 * k.val))) ∧ ((s.window who.holder).staged = true) ∧ (coefOk pair (s.coefM who (ctxCoefKey (s.window who.holder).ctx (32 + 2 * k.val)) (s.stagedOr (s.window who.holder) (32 + 2 * k.val))).toNat (bitsOf value 4 0) = true)) ∧
    (∃ (who : Init) (pair : CoefPair) (s : State), (pair = .canMu ∨ pair = .canLeak ∨ pair = .canDelta) ∧ (Readable s who pgCAN)) ∧
    (∃ (who : Init) (pair : CoefPair) (s : State) (k : Fin 4), (pair = .ctx k) ∧ (Readable s who pgCTXW) ∧ (∀ d : Fin 16, s.identOf who = some (.domain d) → s.cget CTX_OWNER.OWNER (s.window who.holder).ctx = d.val) ∧ ((s.window who.holder).staged = false)) :=
  ⟨⟨.pairA, 5, (wPage pgCTXW), by decide +kernel⟩,
   ⟨.pairA, (State.reset.setWindow 1 { snapWanted := true }), by decide +kernel⟩,
   ⟨.pairA, 3, 0x00400040, ((wPage pgCTXW).setWindow 1 { staged := true }), by decide +kernel⟩,
   ⟨.pairA, 32, wExpert pgCTXW (wExpertA pgCTXW ((wPage pgCTXW).setWindow 1 { staged := true })), by decide +kernel⟩,
   ⟨.pairA, 33, 31, wExpertA pgCTXW ((wPage pgCTXW).setWindow 1 { staged := true }), .ctx 0, by decide +kernel⟩,
   ⟨.pairA, 3, 0x00400040, ((wPage pgCTXW).cset CTX_CTRL.STATE 0 ctxACTIVE).setCtxRt 0 { slot := some (0, 0) }, by decide +kernel⟩,
   ⟨.pairA, 3, 0x00400040, (wPage pgCTXW), by decide +kernel⟩,
   ⟨.pairA, 33, 31, wExpertA pgCTXW (wPage pgCTXW), .ctx 0, by decide +kernel⟩,
   ⟨.pairA, 32, (wPage pgCTXW), by decide +kernel⟩,
   ⟨.pairA, 33, { wPage pgCTXW with coefShadow := [(1, some (ctxCoefKey 0 32, 7))] }, ctxCoefKey 0 32, 7, by decide +kernel⟩,
   ⟨.pairA, 33, (wPage pgCTXW), by decide +kernel⟩,
   ⟨.pairA, ((wPage pgCTXW).setWindow 1 { staged := true, snap := some [4, 5, 6] }), [4, 5, 6], by decide +kernel⟩,
   ⟨.pairA, ((wPage pgCTXW).setWindow 1 { staged := true }), by decide +kernel⟩,
   ⟨.pairA, ((wPage pgCTXW).setWindow 1 { staged := true }), by decide +kernel⟩,
   ⟨.engine (.domain 3), (wWinDom true), by decide +kernel⟩,
   ⟨.pairA, (State.reset.setWindow 1 { staged := true, pending := true, words := [(3, 0x00400040)] }), by decide +kernel⟩,
   ⟨.engine (.domain 3), (State.reset.setWindow 6 { staged := true, pending := true, words := [(3, 0x00400040)] }), 3, by decide +kernel⟩,
   ⟨.pairB, 7, 3, wLc (wPage pgCTXW), by decide +kernel⟩,
   ⟨.pairB, 7, 3, wLc ((wPage pgCTXW).cset CTX_CTRL.STATE 7 ctxCONFIGURED), by decide +kernel⟩,
   ⟨.pairA, 7, 3, true, (wPage pgCTXW), by decide +kernel⟩,
   ⟨.pairA, .canLeak, (wExpertA pgCAN (wPage pgCAN)), by decide +kernel⟩,
   ⟨.pairA, .ctx 1, (wExpertA pgCTXW (wPage pgCTXW)), 1, by decide +kernel⟩,
   ⟨.pairA, .canMu, 31, ({ wExpertA pgCAN (wPage pgCAN) with coefStage := [(1, some (canKey 0x408 0, 0x00100000))] }), by decide +kernel⟩,
   ⟨.pairA, .ctx 0, 31, wExpertA pgCTXW ((wPage pgCTXW).setWindow 1 { staged := true }), 0, by decide +kernel⟩,
   ⟨.pairA, .canDelta, (wPage pgCAN), by decide +kernel⟩,
   ⟨.pairA, .ctx 3, (wPage pgCTXW), 3, by decide +kernel⟩⟩

theorem witness_PathsAndDelaysComplete :
    (∃ (who : Init) (path : Fin 32) (value : BitVec 32) (s : State), (Admitted s who pgCHN (0x200 + 16 * path.val)) ∧ (s.sec.lc ≠ lcRETIRED) ∧ (s.member.present path.val = true) ∧ (bitsOf value 20 16 ≤ 15) ∧ (s.member.present (bitsOf value 20 16) = true) ∧ (maskPresent s.member (bitsOf value 15 0) = true) ∧ (s.pathState path.val = pathOFF) ∧ (bitsOf value 31 31 = 0)) ∧
    (∃ (who : Init) (path : Fin 32) (s : State), (Admitted s who pgCHN (0x200 + 16 * path.val)) ∧ (s.sec.lc ≠ lcRETIRED) ∧ (s.member.present path.val = true) ∧ (s.fget CHN_PATH_CFG.DONOR path.val ≤ 15) ∧ (s.member.present (s.fget CHN_PATH_CFG.DONOR path.val) = true) ∧ (maskPresent s.member (s.fget CHN_PATH_CFG.SVC_MASK path.val) = true) ∧ (s.fon FLT_STAT.SAFE 0 = false) ∧ (s.fon THM_STAT.SHUTDOWN 0 = false) ∧ (s.leanBars path.val = false) ∧ (s.pathState path.val = pathOFF) ∧ (s.placed path.val = true)) ∧
    (∃ (who : Init) (path : Fin 32) (s : State), (Admitted s who pgCHN (0x200 + 16 * path.val)) ∧ (s.member.present path.val = true) ∧ (s.fget CHN_PATH_CFG.DONOR path.val ≤ 15) ∧ (s.member.present (s.fget CHN_PATH_CFG.DONOR path.val) = true) ∧ (maskPresent s.member (s.fget CHN_PATH_CFG.SVC_MASK path.val) = true) ∧ (s.pathState path.val = pathON)) ∧
    (∃ (path : Fin 32) (s : State), (s.pathState path.val = pathDRAINING) ∧ (s.pathEmpty path.val = true)) ∧
    (∃ (who : Init) (path : Fin 32) (ns : BitVec 16) (s : State), (Admitted s who pgCHN (0x204 + 16 * path.val)) ∧ (s.member.present path.val = true) ∧ ((s.fon FHL_ALIGN_CFG.EN 0 && s.fbit FHL_ALIGN_PATHS.PATHS 0 path.val) = false) ∧ (ns.toNat ≤ 40000)) ∧
    (∃ (path : Fin 32) (s : State) (n : Nat), (s.pathRt path.val).slewTo = some n) ∧
    (∃ (who : Init) (path : Fin 32) (value : BitVec 32) (s : State), (Admitted s who pgCHN (0x200 + 16 * path.val)) ∧ (s.sec.lc ≠ lcRETIRED) ∧ (s.member.present path.val = true) ∧ (s.pathState path.val ≠ pathOFF) ∧ (s.pathMoves path.val value = true)) ∧
    (∃ (who : Init) (path : Fin 32) (s : State), (Admitted s who pgCHN (0x200 + 16 * path.val)) ∧ (s.sec.lc ≠ lcRETIRED) ∧ (s.member.present path.val = true) ∧ (s.fget CHN_PATH_CFG.DONOR path.val ≤ 15) ∧ (s.member.present (s.fget CHN_PATH_CFG.DONOR path.val) = true) ∧ (maskPresent s.member (s.fget CHN_PATH_CFG.SVC_MASK path.val) = true) ∧ (s.fon FLT_STAT.SAFE 0 = false) ∧ (s.fon THM_STAT.SHUTDOWN 0 = false) ∧ (s.leanBars path.val = false) ∧ (s.pathState path.val = pathOFF) ∧ (s.placed path.val = false)) ∧
    (∃ (who : Init) (path : Fin 32) (s : State), (Admitted s who pgCHN (0x200 + 16 * path.val)) ∧ (s.sec.lc ≠ lcRETIRED) ∧ (s.member.present path.val = true) ∧ (s.fget CHN_PATH_CFG.DONOR path.val ≤ 15) ∧ (s.member.present (s.fget CHN_PATH_CFG.DONOR path.val) = true) ∧ (maskPresent s.member (s.fget CHN_PATH_CFG.SVC_MASK path.val) = true) ∧ (s.fon FLT_STAT.SAFE 0 = false) ∧ (s.fon THM_STAT.SHUTDOWN 0 = false) ∧ (s.leanBars path.val = false) ∧ (s.pathState path.val = pathDRAINING)) ∧
    (∃ (who : Init) (path : Fin 32) (s : State), (Admitted s who pgCHN (0x200 + 16 * path.val)) ∧ (s.member.present path.val = true) ∧ (s.fget CHN_PATH_CFG.DONOR path.val ≤ 15) ∧ (s.member.present (s.fget CHN_PATH_CFG.DONOR path.val) = true) ∧ (maskPresent s.member (s.fget CHN_PATH_CFG.SVC_MASK path.val) = true) ∧ (s.pathState path.val = pathOFF ∨ s.pathState path.val = pathDRAINING)) ∧
    (∃ (who : Init) (path : Fin 32) (ns : BitVec 16) (s : State), (Admitted s who pgCHN (0x204 + 16 * path.val)) ∧ (s.member.present path.val = true) ∧ ((s.fon FHL_ALIGN_CFG.EN 0 && s.fbit FHL_ALIGN_PATHS.PATHS 0 path.val) = false) ∧ (ns.toNat ≤ 40000) ∧ (s.pathState path.val ≠ pathOFF) ∧ ((s.pathRt path.val).pendTo = none) ∧ ((s.pathRt path.val).slewTo = none)) :=
  ⟨⟨.pairA, 3, 0x20030007, (wPage pgCHN), by decide +kernel⟩,
   ⟨.pairA, 0, wImage, by decide +kernel⟩,
   ⟨.pairA, 0, ((wPage pgCHN).fset CHN_PATH_STAT.STATE 0 pathON), by decide +kernel⟩,
   ⟨0, (State.reset.fset CHN_PATH_STAT.STATE 0 pathDRAINING), by decide +kernel⟩,
   ⟨.pairA, 2, 1000, (wPage pgCHN), by decide +kernel⟩,
   ⟨2, (State.reset.setPathRt 2 { slewTo := some 7 }), 7, by decide +kernel⟩,
   ⟨.pairA, 0, 0x80000001, ((wPage pgCHN).fset CHN_PATH_STAT.STATE 0 pathON), by decide +kernel⟩,
   ⟨.pairA, 0, (wPage pgCHN), by decide +kernel⟩,
   ⟨.pairA, 0, ((wPage pgCHN).fset CHN_PATH_STAT.STATE 0 pathDRAINING), by decide +kernel⟩,
   ⟨.pairA, 0, ((wPage pgCHN).fset CHN_PATH_STAT.STATE 0 pathDRAINING), by decide +kernel⟩,
   ⟨.pairA, 2, 1000, ((wPage pgCHN).fset CHN_PATH_STAT.STATE 2 pathON), by decide +kernel⟩⟩

theorem witness_StreamsAndWindowsComplete :
    (∃ (who : Init) (stream : Fin 64) (value : BitVec 32) (s : State) (w : Word), (Admitted s who pgCHN (0x100 + 4 * stream.val)) ∧ (s.member.present stream.val = true) ∧ (s.streamInUse stream.val = false) ∧ (bitsOf value 31 29 ≤ 4) ∧ (bitsOf value 28 27 = 0 ∨ stream.val % 32 < 16) ∧ ((regAt pgCHN (0x100 + 4 * stream.val)).map (fun r => r.merge (s.word (0x13100 + 4 * stream.val)) value) = some w) ∧ (rangesOk pgCHN (0x100 + 4 * stream.val) w = true)) ∧
    (∃ (who : Init) (value : BitVec 32) (s : State), (Admitted s who pgCHN 0x044) ∧ (s.member.present (s.fget CHN_WSEL.PATH who.holder) = true) ∧ (bitsOf value 30 29 ≠ 3)) ∧
    (∃ (who : Init) (hi : BitVec 32) (s : State), (Admitted s who pgCHN 0x048) ∧ (s.member.present (s.fget CHN_WSEL.PATH who.holder) = true) ∧ (s.winBusy (s.fget CHN_WSEL.PATH who.holder) (s.fget CHN_WSEL.WIN who.holder) = false) ∧ ((Win.ofWords (s.winLoFor who) hi).low + 5000 ≤ (Win.ofWords (s.winLoFor who) hi).high) ∧ (s.inOccupied (s.fget CHN_WSEL.PATH who.holder) (Win.ofWords (s.winLoFor who) hi) = true) ∧ (((Win.ofWords (s.winLoFor who) hi).en && s.winOverlaps (s.fget CHN_WSEL.PATH who.holder) (s.fget CHN_WSEL.WIN who.holder) (Win.ofWords (s.winLoFor who) hi)) = false) ∧ ((s.pathFlag (s.fget CHN_WSEL.PATH who.holder) 6 && decide ((Win.ofWords (s.winLoFor who) hi).edge < 2)) = false) ∧ ((((s.setWin (s.fget CHN_WSEL.PATH who.holder) (s.fget CHN_WSEL.WIN who.holder) (s.winLoFor who) hi).dropWinStage who (s.winSel who)).winBreaksCan (s.fget CHN_WSEL.PATH who.holder)) = false)) ∧
    (∃ (path : Fin 32) (s : State), (s.member.present path.val = true) ∧ (s.pathState path.val = pathOFF)) ∧
    (∃ (path : Fin 32) (s : State), s.pathState path.val ≠ pathOFF) :=
  ⟨⟨.pairA, 5, 0x40000000, (wPage pgCHN), 0x40000000, by decide +kernel⟩,
   ⟨.pairA, 0x80001000, (wPage pgCHN), by decide +kernel⟩,
   ⟨.pairA, 5000, (wPage pgCHN), by decide +kernel⟩,
   ⟨0, State.reset, by decide +kernel⟩,
   ⟨0, (State.reset.fset CHN_PATH_STAT.STATE 0 pathON), by decide +kernel⟩⟩

theorem witness_ContextCommandsComplete :
    (∃ (ctx : Fin 4096) (s : State), (ctx.val < s.member.contexts) ∧ ((s.ctxRt ctx.val).cmd = cmdCONFIGURE) ∧ (s.ctxState ctx.val = ctxFREE ∨ s.ctxState ctx.val = ctxCONFIGURED) ∧ (((s.setCtxRt ctx.val { s.ctxRt ctx.val with cmd := 0 }).checkContext ctx.val).toOption.isSome = true)) ∧
    (∃ (ctx : Fin 4096) (s : State), (ctx.val < s.member.contexts) ∧ ((s.ctxRt ctx.val).cmd = cmdSTART) ∧ (s.ctxState ctx.val = ctxCONFIGURED) ∧ (s.pathState (s.ctxPath ctx.val) = pathON) ∧ (((s.setCtxRt ctx.val { s.ctxRt ctx.val with cmd := 0 }).checkContext ctx.val).toOption.isSome = true)) ∧
    (∃ (ctx : Fin 4096) (s : State), (ctx.val < s.member.contexts) ∧ ((s.ctxRt ctx.val).cmd = cmdHOLD) ∧ (s.ctxState ctx.val = ctxRAMPING ∨ s.ctxState ctx.val = ctxACTIVE)) ∧
    (∃ (ctx : Fin 4096) (s : State), (ctx.val < s.member.contexts) ∧ ((s.ctxRt ctx.val).cmd = cmdRESUME) ∧ (s.ctxState ctx.val = ctxHELD)) ∧
    (∃ (ctx : Fin 4096) (s : State), (ctx.val < s.member.contexts) ∧ ((s.ctxRt ctx.val).cmd = cmdMUTE) ∧ (ctxRuns (s.ctxState ctx.val) = true)) ∧
    (∃ (ctx : Fin 4096) (s : State), (ctx.val < s.member.contexts) ∧ ((s.ctxRt ctx.val).cmd = cmdSTOP) ∧ (ctxRuns (s.ctxState ctx.val) = true ∨ s.ctxState ctx.val = ctxMUTED)) ∧
    (∃ (ctx : Fin 4096) (s : State), (ctx.val < s.member.contexts) ∧ ((s.ctxRt ctx.val).cmd = cmdRELEASE) ∧ (s.ctxState ctx.val = ctxCONFIGURED)) ∧
    (∃ (ctx : Fin 4096) (s : State), (ctx.val < s.member.contexts) ∧ ((s.ctxRt ctx.val).cmd = cmdRESUME) ∧ (s.ctxState ctx.val = ctxMUTED) ∧ (s.mutedFor ctx.val 1 = true)) ∧
    (∃ (ctx : Fin 4096) (s : State), (ctx.val < s.member.contexts) ∧ ((s.ctxRt ctx.val).cmd = cmdMUTE) ∧ (s.ctxState ctx.val = ctxMUTED)) ∧
    (∃ (ctx : Fin 4096) (s : State), (ctx.val < s.member.contexts) ∧ ((s.ctxRt ctx.val).cmd = cmdCONFIGURE) ∧ (s.ctxState ctx.val ≠ ctxFREE) ∧ (s.ctxState ctx.val ≠ ctxCONFIGURED)) ∧
    (∃ (ctx : Fin 4096) (s : State), (ctx.val < s.member.contexts) ∧ ((s.ctxRt ctx.val).cmd = cmdSTART) ∧ (s.ctxState ctx.val ≠ ctxCONFIGURED)) ∧
    (∃ (ctx : Fin 4096) (s : State), (ctx.val < s.member.contexts) ∧ ((s.ctxRt ctx.val).cmd = cmdHOLD) ∧ (s.ctxState ctx.val ≠ ctxRAMPING) ∧ (s.ctxState ctx.val ≠ ctxACTIVE)) ∧
    (∃ (ctx : Fin 4096) (s : State), (ctx.val < s.member.contexts) ∧ ((s.ctxRt ctx.val).cmd = cmdRESUME) ∧ (s.ctxState ctx.val ≠ ctxHELD) ∧ (s.ctxState ctx.val ≠ ctxMUTED ∨ s.mutedFor ctx.val 1 = false)) ∧
    (∃ (ctx : Fin 4096) (s : State), (ctx.val < s.member.contexts) ∧ ((s.ctxRt ctx.val).cmd = cmdMUTE) ∧ (ctxRuns (s.ctxState ctx.val) = false) ∧ (s.ctxState ctx.val ≠ ctxMUTED)) ∧
    (∃ (ctx : Fin 4096) (s : State), (ctx.val < s.member.contexts) ∧ ((s.ctxRt ctx.val).cmd = cmdSTOP) ∧ (ctxRuns (s.ctxState ctx.val) = false) ∧ (s.ctxState ctx.val ≠ ctxMUTED)) ∧
    (∃ (ctx : Fin 4096) (s : State), (ctx.val < s.member.contexts) ∧ ((s.ctxRt ctx.val).cmd = cmdRELEASE) ∧ (s.ctxState ctx.val ≠ ctxCONFIGURED)) :=
  ⟨⟨0, (wCtxCmd ctxFREE 1), by decide +kernel⟩,
   ⟨0, ((wCtxCmd ctxCONFIGURED 2).fset CHN_PATH_STAT.STATE 0 pathON), by decide +kernel⟩,
   ⟨0, (wCtxCmd ctxACTIVE 3), by decide +kernel⟩,
   ⟨0, (wCtxCmd ctxHELD 4), by decide +kernel⟩,
   ⟨0, (wCtxCmd ctxACTIVE 5), by decide +kernel⟩,
   ⟨0, (wCtxCmd ctxACTIVE 6), by decide +kernel⟩,
   ⟨0, (wCtxCmd ctxCONFIGURED 7), by decide +kernel⟩,
   ⟨0, ((wCtxCmd ctxMUTED 4).cset CTX_STATUS.MUTE_SET 0 1), by decide +kernel⟩,
   ⟨0, ((wCtxCmd ctxMUTED 5).cset CTX_STATUS.MUTE_SET 0 2), by decide +kernel⟩,
   ⟨0, (wCtxCmd ctxACTIVE 1), by decide +kernel⟩,
   ⟨0, (wCtxCmd ctxACTIVE 2), by decide +kernel⟩,
   ⟨0, (wCtxCmd ctxHELD 3), by decide +kernel⟩,
   ⟨0, (wCtxCmd ctxMUTED 4), by decide +kernel⟩,
   ⟨0, (wCtxCmd ctxCONFIGURED 5), by decide +kernel⟩,
   ⟨0, (wCtxCmd ctxDRAINING 6), by decide +kernel⟩,
   ⟨0, (wCtxCmd ctxDRAINING 7), by decide +kernel⟩⟩

theorem witness_ImageLoadsComplete :
    (∃ (who : Init) (slot : Fin 2) (s : State), (Admitted s who pgSCH 0x060) ∧ (s.slotState slot.val = slotEMPTY ∨ s.slotState slot.val = slotVERIFIED ∨ s.slotState slot.val = slotREFUSED ∨ s.slotState slot.val = slotFORMER)) ∧
    (∃ (s : State) (slot : Nat) (others : List Nat), (s.sch.filling = slot :: others) ∧ (others.contains slot = false) ∧ (s.slotState slot = slotLOADING)) ∧
    (∃ (s : State) (slot : Nat) (others : List Nat) (a : Nat) (d : List Nat), (s.sch.filling = slot :: others) ∧ (others.contains slot = false) ∧ (s.slotState slot = slotLOADING) ∧ (s.sch.heldLoads = [(slot, .bytes a d)]) ∧ (slot < 2) ∧ (d.length = 4) ∧ (a + 4 ≤ slotBytes)) ∧
    (∃ (s : State) (slot : Nat) (others : List Nat) (n : Nat), (s.sch.filling = slot :: others) ∧ (others.contains slot = false) ∧ (s.slotState slot = slotLOADING) ∧ (s.sch.heldLoads = [(slot, .finish n)]) ∧ (slot < 2)) ∧
    (∃ (s : State) (slot : Nat) (others : List Nat), (s.sch.filling = slot :: others) ∧ (others.contains slot = false) ∧ (s.slotState slot = slotLOADING) ∧ (s.sch.heldLoads = [(slot, .abort)]) ∧ (slot < 2)) ∧
    (∃ (who : Init) (s : State), (Admitted s who pgSCH 0x068) ∧ (s.slotState (s.fget SCH_LOAD_CTRL.SLOT 0) = slotLOADING) ∧ (s.loaderOf (s.fget SCH_LOAD_CTRL.SLOT 0) = s.identOf who) ∧ ((s.sch.filling.contains (s.fget SCH_LOAD_CTRL.SLOT 0)) = false)) ∧
    (∃ (who : Init) (slot : Fin 2) (length : BitVec 19) (s : State), (Admitted s who pgSCH 0x060) ∧ (s.slotState slot.val = slotLOADING) ∧ (s.loaderOf slot.val = s.identOf who) ∧ (s.sch.filling.contains slot.val = false) ∧ (length.toNat ≤ slotBytes)) ∧
    (∃ (who : Init) (slot : Fin 2) (s : State), (Admitted s who pgSCH 0x060) ∧ (s.slotState slot.val = slotLOADING) ∧ (s.loaderOf slot.val = s.identOf who) ∧ (s.sch.filling.contains slot.val = false)) ∧
    (∃ (slot : Fin 2) (s : State), (s.slotState slot.val = slotLOADING) ∧ (s.timerDue tmLoad slot.val s.sec_ 10 = true)) ∧
    (∃ (slot : Fin 2) (s : State), s.slotState slot.val = slotVERIFYING) ∧
    (∃ (who : Init) (s : State), (Admitted s who pgSCH 0x068) ∧ (s.slotState (s.fget SCH_LOAD_CTRL.SLOT 0) = slotLOADING) ∧ (s.loaderOf (s.fget SCH_LOAD_CTRL.SLOT 0) = s.identOf who) ∧ (s.sch.filling.contains (s.fget SCH_LOAD_CTRL.SLOT 0) = true)) ∧
    (∃ (who : Init) (slot : Fin 2) (length : BitVec 19) (s : State), (Admitted s who pgSCH 0x060) ∧ (s.slotState slot.val = slotLOADING) ∧ (s.loaderOf slot.val = s.identOf who) ∧ (s.sch.filling.contains slot.val = true) ∧ (length.toNat ≤ slotBytes)) ∧
    (∃ (who : Init) (slot : Fin 2) (s : State), (Admitted s who pgSCH 0x060) ∧ (s.slotState slot.val = slotLOADING) ∧ (s.loaderOf slot.val = s.identOf who) ∧ (s.sch.filling.contains slot.val = true)) :=
  ⟨⟨.pairA, 0, (wSlot slotEMPTY), by decide +kernel⟩,
   ⟨(let s := wLoading; { s with sch := { s.sch with filling := [0] } }), 0, [], by decide +kernel⟩,
   ⟨(let s := wLoading; { s with sch := { s.sch with filling := [0], heldLoads := [(0, .bytes 8 [1, 2, 3, 4])] } }), 0, [], 8, [1, 2, 3, 4], by decide +kernel⟩,
   ⟨(let s := wLoading; { s with sch := { s.sch with filling := [0], heldLoads := [(0, .finish 512)] } }), 0, [], 512, by decide +kernel⟩,
   ⟨(let s := wLoading; { s with sch := { s.sch with filling := [0], heldLoads := [(0, .abort)] } }), 0, [], by decide +kernel⟩,
   ⟨.pairA, wLoading, by decide +kernel⟩,
   ⟨.pairA, 0, 512, wLoading, by decide +kernel⟩,
   ⟨.pairA, 0, wLoading, by decide +kernel⟩,
   ⟨0, ({ wLoading.timerStart tmLoad 0 0 with time := { sCount := 11 } }), by decide +kernel⟩,
   ⟨0, (wSlot slotVERIFYING), by decide +kernel⟩,
   ⟨.pairA, (let s := wLoading; { s with sch := { s.sch with filling := [0] } }), by decide +kernel⟩,
   ⟨.pairA, 0, 512, (let s := wLoading; { s with sch := { s.sch with filling := [0] } }), by decide +kernel⟩,
   ⟨.pairA, 0, (let s := wLoading; { s with sch := { s.sch with filling := [0] } }), by decide +kernel⟩⟩

theorem witness_SwapsComplete :
    (∃ (who : Init) (drain : Bool) (fallback : Bool) (at_ : Bool) (group : Fin 8) (s : State), (Admitted s who pgSCH 0x090) ∧ (s.armedSlot = none) ∧ ((drain || !s.strictFails (s.planDrains (s.planOf s.armTarget)) (s.evictions s.armTarget)) = true) ∧ (s.armRefused s.armTarget fallback (if at_ then some (s.fget SCH_SWAP_AT.ORDINAL 0) else none) group.val = none)) ∧
    (∃ (who : Init) (s : State) (k : Nat), (Admitted s who pgSCH 0x090) ∧ (s.armedSlot = some k) ∧ (s.sch.staged = false) ∧ (s.sch.armedFrom < 8)) ∧
    (∃ (s : State), (s.swapState = swDRAINING) ∧ (s.armedSlot.isSome = true) ∧ (s.drainsEnded = true)) ∧
    (∃ (s : State) (f : Nat), (s.swapState = swWAITING) ∧ (s.armedSlot.isSome = true) ∧ (s.sch.staged = false) ∧ (s.swapFrame = some f)) ∧
    (∃ (s : State) (k : Nat), (s.armedSlot = some k) ∧ (s.sch.staged = true) ∧ (s.sch.resetHeld = false)) ∧
    (∃ (s : State), s.sch.active.isSome = true) ∧
    (∃ (slot : Fin 2) (bad : Bool) (s : State), (bad = true) ∧ (s.slotState slot.val = slotVERIFIED ∨ s.slotState slot.val = slotFORMER)) ∧
    (∃ (who : Init) (drain : Bool) (fallback : Bool) (at_ : Bool) (group : Fin 8) (s : State), (Admitted s who pgSCH 0x090) ∧ (s.armedSlot = none) ∧ (drain = false) ∧ (s.strictFails (s.planDrains (s.planOf s.armTarget)) (s.evictions s.armTarget) = true) ∧ (s.armRefused s.armTarget fallback (if at_ then some (s.fget SCH_SWAP_AT.ORDINAL 0) else none) group.val = none)) ∧
    (∃ (who : Init) (fallback : Bool) (at_ : Bool) (group : Fin 8) (s : State) (r : Nat), (Admitted s who pgSCH 0x090) ∧ (s.armedSlot = none) ∧ (s.armRefused s.armTarget fallback (if at_ then some (s.fget SCH_SWAP_AT.ORDINAL 0) else none) group.val = some r)) ∧
    (∃ (s : State) (k : Nat), (s.armedSlot = some k) ∧ (s.sch.staged = true) ∧ (s.sch.resetHeld = true)) ∧
    (∃ (s : State), s.sch.active = none) ∧
    (∃ (slot : Fin 2) (bad : Bool) (s : State), bad = false ∨ (s.slotState slot.val ≠ slotVERIFIED ∧ s.slotState slot.val ≠ slotFORMER)) :=
  ⟨⟨.pairA, true, false, false, 0, (wSlot slotVERIFIED), by decide +kernel⟩,
   ⟨.pairA, wArmed, 0, by decide +kernel⟩,
   ⟨wArmed, by decide +kernel⟩,
   ⟨(wArmed.fset SCH_SWAP_STAT.STATE 0 swWAITING), 2457600, by decide +kernel⟩,
   ⟨(let s := wArmed; { s with sch := { s.sch with staged := true } }), 0, by decide +kernel⟩,
   ⟨wImage, by decide +kernel⟩,
   ⟨0, true, (wSlot slotVERIFIED), by decide +kernel⟩,
   ⟨.pairA, false, false, false, 0, wStrict, by decide +kernel⟩,
   ⟨.pairA, false, false, 0, (wSlot slotEMPTY), 1, by decide +kernel⟩,
   ⟨(let s := wArmed; { s with sch := { s.sch with staged := true, resetHeld := true } }), 0, by decide +kernel⟩,
   ⟨State.reset, by decide +kernel⟩,
   ⟨0, false, (wSlot slotVERIFIED), by decide +kernel⟩⟩

theorem witness_CancellerControlWrites :
    (∃ (who : Init) (s : State), (Admitted s who pgCAN 0x044) ∧ (s.member.present (s.canSel who) = true) ∧ (s.fget CAN_CTRL.PAUSE_MS (s.canSel who) ≠ 0) ∧ (s.deriveFails (s.canSel who) = false) ∧ (bitsOf (s.canCtrlWord who) 27 26 = 0) ∧ (s.canLinksUp (s.canSel who) = true)) ∧
    (∃ (who : Init) (s : State), (Admitted s who pgCAN 0x044) ∧ (s.member.present (s.canSel who) = true) ∧ (s.fget CAN_CTRL.PAUSE_MS (s.canSel who) ≠ 0) ∧ (s.deriveFails (s.canSel who) = false) ∧ (bitsOf (s.canCtrlWord who) 27 26 = 0) ∧ (s.fon CAN_CTRL.EN (s.canSel who) = true)) ∧
    (∃ (who : Init) (s : State), (Admitted s who pgCAN 0x044) ∧ (s.member.present (s.canSel who) = true) ∧ (s.fget CAN_CTRL.PAUSE_MS (s.canSel who) ≠ 0) ∧ (s.deriveFails (s.canSel who) = false) ∧ (bitsOf (s.canCtrlWord who) 27 26 = 0)) ∧
    (∃ (who : Init) (s : State), (Admitted s who pgCAN 0x044) ∧ (s.member.present (s.canSel who) = true) ∧ (s.fget CAN_CTRL.PAUSE_MS (s.canSel who) ≠ 0) ∧ (s.deriveFails (s.canSel who) = false) ∧ (s.canState (s.canSel who) = canFROZEN) ∧ (bitsOf (s.canCtrlWord who) 27 27 = 0)) ∧
    (∃ (who : Init) (s : State), (Admitted s who pgCAN 0x044) ∧ (s.member.present (s.canSel who) = true) ∧ (s.fget CAN_CTRL.PAUSE_MS (s.canSel who) ≠ 0) ∧ (s.deriveFails (s.canSel who) = false) ∧ (bitsOf (s.canCtrlWord who) 26 26 = 0) ∧ (s.isoReady (s.canSel who) = true) ∧ (s.canLinksUp (s.canSel who) = true)) ∧
    (∃ (who : Init) (reg : CanReg) (value : BitVec 32) (s : State) (u : State), (Admitted s who pgCAN (canRegOff reg)) ∧ (s.member.present (s.canSel who) = true) ∧ (canRangeOk reg value = true) ∧ (s.mergeReg pgCAN (canRegOff reg) (canKey (canRegOff reg) (s.canSel who)) value = .ok u) ∧ (u.deriveFails (s.canSel who) = false)) ∧
    (∃ (inst : Fin 32) (s : State), ((s.canRt inst.val).isoHeld = true) ∧ (s.isoReady inst.val = true)) ∧
    (∃ (inst : Fin 32) (s : State), (0 < s.fget CAN_PROBE.ISO_PERIOD_S inst.val) ∧ (s.timerDue tmIsoPeriod inst.val s.sec_ (s.fget CAN_PROBE.ISO_PERIOD_S inst.val) = true) ∧ (s.isoReady inst.val = true)) ∧
    (∃ (inst : Fin 32) (s : State), (s.fon CAN_STAT.ISO_BUSY inst.val = true) ∧ (s.timerDue tmIso inst.val s.ms (s.fget CAN_PROBE.ISO_WIN_MS inst.val) = true)) ∧
    (∃ (inst : Fin 32) (s : State) (k : Nat) (r : Nat) (e : IsoEntry), (s.fon CAN_STAT.ISO_BUSY inst.val = true) ∧ (s.timerDue tmIso inst.val s.ms (s.fget CAN_PROBE.ISO_WIN_MS inst.val) = true) ∧ (s.isoCovered inst.val = [(k, r)]) ∧ (s.isoResult inst.val k r = some e)) ∧
    (∃ (who : Init) (s : State), (Admitted s who pgCAN 0x044) ∧ (s.member.present (s.canSel who) = true) ∧ (s.fget CAN_CTRL.PAUSE_MS (s.canSel who) ≠ 0) ∧ (s.deriveFails (s.canSel who) = false) ∧ (bitsOf (s.canCtrlWord who) 27 26 = 0) ∧ (s.canLinksUp (s.canSel who) = false) ∧ (s.fon CAN_CTRL.EN (s.canSel who) = false) ∧ (s.fon CAN_STAT.ISO_BUSY (s.canSel who) = false)) ∧
    (∃ (who : Init) (s : State), (Admitted s who pgCAN 0x044) ∧ (s.member.present (s.canSel who) = true) ∧ (s.fget CAN_CTRL.PAUSE_MS (s.canSel who) ≠ 0) ∧ (s.deriveFails (s.canSel who) = false) ∧ (bitsOf (s.canCtrlWord who) 26 26 = 0) ∧ (s.isoReady (s.canSel who) = false) ∧ (s.canState (s.canSel who) ≠ canOFF) ∧ (s.canLinksUp (s.canSel who) = true)) ∧
    (∃ (who : Init) (s : State), (Admitted s who pgCAN 0x044) ∧ (s.member.present (s.canSel who) = true) ∧ (s.fget CAN_CTRL.PAUSE_MS (s.canSel who) ≠ 0) ∧ (s.canState (s.canSel who) ≠ canFROZEN)) :=
  ⟨⟨.pairA, (wPage pgCAN), by decide +kernel⟩,
   ⟨.pairA, ((wCan canRUN).fset CAN_CTRL.EN 0 1), by decide +kernel⟩,
   ⟨.pairA, ((wCan canRUN).fset CAN_CTRL.EN 0 1), by decide +kernel⟩,
   ⟨.pairA, (wCan canFROZEN), by decide +kernel⟩,
   ⟨.pairA, (wCan canRUN), by decide +kernel⟩,
   ⟨.pairA, .marginCfg, 0x01000080, (wPage pgCAN), (wOk ((wPage pgCAN).mergeReg pgCAN (canRegOff ((.marginCfg : CanReg))) (canKey (canRegOff ((.marginCfg : CanReg))) ((wPage pgCAN).canSel ((.pairA : Init)))) ((0x01000080 : BitVec 32)))), by decide +kernel⟩,
   ⟨0, ((wCan canRUN).setCanRt 0 { isoHeld := true }), by decide +kernel⟩,
   ⟨0, (wMs (((wCan canRUN).timerStart tmIsoPeriod 0 0).fset CAN_PROBE.ISO_PERIOD_S 0 3) 9000), by decide +kernel⟩,
   ⟨0, (wMs (((wCan canPROBE).timerStart tmIso 0 0).fset CAN_STAT.ISO_BUSY 0 1) 9000), by decide +kernel⟩,
   ⟨0, wIsoEnd, 32, 0, (⟨509, 0, 1⟩), by decide +kernel⟩,
   ⟨.pairA, (let s := wPage pgCAN; { s with can := { s.can with linkLost := [(0, true)] } }), by decide +kernel⟩,
   ⟨.pairA, ((wCan canPROBE).fset CAN_STAT.ISO_BUSY 0 1), by decide +kernel⟩,
   ⟨.pairA, (wCan canRUN), by decide +kernel⟩⟩

theorem witness_CancellerTimersAndSamples :
    (∃ (inst : Fin 32) (s : State), s.timerDue tmPause inst.val s.ms (s.canRt inst.val).pauseLen = true) ∧
    (∃ (inst : Fin 32) (s : State), (s.canState inst.val = canLINKFROZEN) ∧ (s.fon CAN_STAT.ISO_BUSY inst.val = false) ∧ (s.canLinksUp inst.val = true) ∧ (s.timerDue tmLinkUp inst.val s.ms 1 = true)) ∧
    (∃ (who : Init) (value : BitVec 32) (s : State) (u : State), (Admitted s who pgCAN 0x444) ∧ (mapWrite who value (s.disarm who pgCAN) = .ok u)) ∧
    (∃ (who : Init) (s : State), Admits (fun u => u.admitTap who 0x44C) s who pgCAN 0x44C) ∧
    (∃ (who : Init) (s : State), (Admits (fun u => u.admitTap who 0x450) s who pgCAN 0x450) ∧ (s.fget CAN_TAP_SEL.TAP who.holder < s.fget CAN_MAP.LEN (s.mapSel who))) ∧
    (∃ (who : Init) (s : State), Readable s who pgCAN) ∧
    (∃ (inst : Fin 32) (sb : Fin 64) (s : State), s.canSample inst.val sb.val = true) ∧
    (∃ (inst : Fin 32) (s : State), (s.fon CAN_STAT.ISO_BUSY inst.val = true) ∧ ((s.canRt inst.val).preIso = canLINKFROZEN) ∧ (s.canLinksUp inst.val = true) ∧ (s.timerDue tmLinkUp inst.val s.ms 1 = true)) ∧
    (∃ (who : Init) (s : State), (Admits (fun u => u.admitTap who 0x450) s who pgCAN 0x450) ∧ (s.fget CAN_MAP.LEN (s.mapSel who) ≤ s.fget CAN_TAP_SEL.TAP who.holder)) ∧
    (∃ (inst : Fin 32) (s : State), (s.member.present inst.val = true) ∧ (s.works pgCAN = true) ∧ (s.canState inst.val ≠ canSELFTEST)) ∧
    (∃ (stream : Fin 32) (s : State), s.clampState (32 + stream.val) = 1) ∧
    (∃ (stream : Fin 32) (s : State), s.clampState (32 + stream.val) = 2) ∧
    (∃ (s : State) (n : Nat) (st : Nat), (s.can.selftest = some (n, st)) ∧ (s.timerDue tmCanTest n s.ms 8 = true) ∧ (s.heldWrites = [])) ∧
    (∃ (s : State) (n : Nat) (st : Nat), (s.can.selftest = some (n, st)) ∧ (s.timerDue tmCanTest n s.ms 8 = true) ∧ (s.heldWrites ≠ [])) :=
  ⟨⟨0, (wMs (((wCan canPAUSED).timerStart tmPause 0 0).setCanRt 0 { prePause := 1, pauseLen := 5 }) 100), by decide +kernel⟩,
   ⟨0, (wMs (((wCan canLINKFROZEN).timerStart tmLinkUp 0 0).setCanRt 0 { preLink := 1 }) 100), by decide +kernel⟩,
   ⟨.pairA, 0, (wExpert pgCAN (wPage pgCAN)), (wOk (mapWrite ((.pairA : Init)) ((0 : BitVec 32)) ((wExpert pgCAN (wPage pgCAN)).disarm ((.pairA : Init)) pgCAN))), by decide +kernel⟩,
   ⟨.pairA, (wCan canFROZEN), by decide +kernel⟩,
   ⟨.pairA, ((wCan canFROZEN).fset CAN_MAP.LEN 0 8), by decide +kernel⟩,
   ⟨.pairA, (wPage pgCAN), by decide +kernel⟩,
   ⟨0, 32, wCanActive, by decide +kernel⟩,
   ⟨0, (wMs ((((wCan canPROBE).timerStart tmLinkUp 0 0).fset CAN_STAT.ISO_BUSY 0 1).setCanRt 0 { preIso := canLINKFROZEN, preLink := 1 }) 100), by decide +kernel⟩,
   ⟨.pairA, (wCan canFROZEN), by decide +kernel⟩,
   ⟨0, (wWorks pgCAN (wCan canRUN)), by decide +kernel⟩,
   ⟨3, ((State.reset).setClamp 35 1 99), by decide +kernel⟩,
   ⟨3, ((State.reset).setClamp 35 2 99), by decide +kernel⟩,
   ⟨(let s := wMs ((wCan canSELFTEST).timerStart tmCanTest 0 0) 100; { s with can := { s.can with selftest := some (0, canFROZEN) } }), 0, canFROZEN, by decide +kernel⟩,
   ⟨(let s := wMs ((wCan canSELFTEST).timerStart tmCanTest 0 0) 100; { s with can := { s.can with selftest := some (0, canFROZEN) }, heldWrites := [⟨pgCAN, .pairA, 0x14014, 5⟩] }), 0, canFROZEN, by decide +kernel⟩⟩

theorem witness_GainEngineCommands :
    (∃ (ctx : Fin 4096) (s : State), (ctx.val < s.member.contexts) ∧ (s.works pgCEN = true) ∧ ((s.ctxRt ctx.val).slot.isSome = true)) ∧
    (∃ (ctx : Fin 4096) (s : State), (ctx.val < s.member.contexts) ∧ (s.running pgCEN = true) ∧ ((s.ctxRt ctx.val).slot.isSome = false)) ∧
    (∃ (ctx : Fin 4096) (s : State), (ctx.val < s.member.contexts) ∧ (s.running pgCEN = false)) ∧
    (∃ (ctx : Fin 4096) (s : State), (s.ctxRt ctx.val).feAck = true) ∧
    (∃ (port : Fin 32) (s : State), ((s.supplyRt port.val).watched = true) ∧ ((s.supplyRt port.val).lost = false) ∧ (s.supplyPart port.val = true)) ∧
    (∃ (who : Init) (mask : BitVec 16) (s : State) (ch : Fin 16), (Admitted s who pgCEN 0x0DC) ∧ (mask.toNat.testBit ch.val = true) ∧ (∀ k : Fin 16, mask.toNat.testBit k.val = true → k.val < s.traceNodes)) ∧
    (∃ (who : Init) (mask : BitVec 16) (s : State) (ch : Fin 16), (Admitted s who pgCEN 0x0DC) ∧ (mask.toNat.testBit ch.val = true)) ∧
    (∃ (who : Init) (mask : BitVec 16) (s : State) (ch : Fin 16), (Admitted s who pgCEN 0x0DC) ∧ (mask.toNat.testBit ch.val = true)) ∧
    (∃ (who : Init) (s : State), (Readable s who pgCEN) ∧ (s.fget CEN_TRC_STAT.STATE (s.fget CEN_TRC_SEL.CH who.holder) ≠ trARMED) ∧ (s.fget CEN_TRC_STAT.STATE (s.fget CEN_TRC_SEL.CH who.holder) ≠ trTRIGGERED)) ∧
    (∃ (s : State) (n : Fin 32), (s.domainRuns 1 = true) ∧ (s.member.present n.val = true)) ∧
    (∃ (s : State), s.domainRuns 1 = false) ∧
    (∃ (ctx : Fin 4096) (s : State), s.timerDue tmBudget ctx.val s.ms (s.fget NPR_TIME.BUDGET_HOLD_MS 0) = true) ∧
    (∃ (who : Init) (s : State), (Readable s who pgCEN) ∧ (s.fget CEN_TRC_STAT.STATE (s.fget CEN_TRC_SEL.CH who.holder) = trARMED ∨ s.fget CEN_TRC_STAT.STATE (s.fget CEN_TRC_SEL.CH who.holder) = trTRIGGERED)) ∧
    (∃ (who : Init) (mask : BitVec 16) (s : State) (k : Fin 16), (Admitted s who pgCEN 0x0DC) ∧ (mask.toNat.testBit k.val = true) ∧ (s.traceNodes ≤ k.val)) :=
  ⟨⟨0, ((wWorks pgCEN ((wPage pgCEN).cset CTX_CTRL.STATE 0 ctxACTIVE)).setCtxRt 0 { slot := some (0, 0) }), by decide +kernel⟩,
   ⟨0, ((wPage pgCEN).cset CTX_CTRL.STATE 0 1), by decide +kernel⟩,
   ⟨0, State.reset, by decide +kernel⟩,
   ⟨3, ((((wPage pgCEN).cset CTX_CTRL.STATE 3 5).muteAdd 3 4).setCtxRt 3 { feAck := true, i1 := 5 }), by decide +kernel⟩,
   ⟨2, (let s := (wPage pgCEN).setSupplyRt 2 { watched := true, corr := 3 }; { s with fel := { s.fel with desc := [(16, 0x80000000)] } }), by decide +kernel⟩,
   ⟨.pairA, 0x6, wTrace, 1, by decide +kernel⟩,
   ⟨.pairA, 0x6, (wPage pgCEN), 1, by decide +kernel⟩,
   ⟨.pairA, 0x6, (wPage pgCEN), 1, by decide +kernel⟩,
   ⟨.pairA, ((wPage pgCEN).setTraceCh 0 { samples := [7, 8, 9] }), by decide +kernel⟩,
   ⟨((wCtx 3).setDomainRuns 1 true), 2, by decide +kernel⟩,
   ⟨State.reset, by decide +kernel⟩,
   ⟨3, (wMs (State.reset.timerStart tmBudget 3 0) 70000), by decide +kernel⟩,
   ⟨.pairA, ((wPage pgCEN).fset CEN_TRC_STAT.STATE 0 trARMED), by decide +kernel⟩,
   ⟨.pairA, 0x6, (wPage pgCEN), 1, by decide +kernel⟩⟩

theorem witness_GridCommands :
    (∃ (path : Fin 32) (row : Fin 280) (s : State), (s.member.present path.val = true) ∧ (s.beforeNext path.val (s.tFreeze path.val row.val (s.rowAt path.val row.val).2) = true)) ∧
    (∃ (path : Fin 32) (row : Fin 280) (s : State), s.member.present path.val = false ∨ s.beforeNext path.val (s.tFreeze path.val row.val (s.rowAt path.val row.val).2) = false) ∧
    (∃ (path : Fin 32) (row : Fin 280) (s : State), (s.works pgGGR = true) ∧ (s.member.present path.val = true) ∧ (s.beforeNext path.val (s.tRead path.val row.val (s.rowAt path.val row.val).2) = true)) ∧
    (∃ (s : State), s.works pgGGR = false) ∧
    (∃ (writer : Fin 4) (s : State) (d : GridDesc) (rest : List GridDesc), (s.works pgGGR = true) ∧ (s.gridQueue writer.val = d :: rest) ∧ (0 < d.done ∨ s.descRefused writer.val d = none) ∧ (d.done + 1 < d.rows)) ∧
    (∃ (writer : Fin 4) (s : State) (d : GridDesc) (rest : List GridDesc), (s.works pgGGR = true) ∧ (s.gridQueue writer.val = d :: rest) ∧ (d.rows ≤ d.done + 1 ∨ (d.done = 0 ∧ (s.descRefused writer.val d).isSome = true))) ∧
    (∃ (writer : Fin 4) (s : State), s.works pgGGR = false ∨ s.gridQueue writer.val = []) ∧
    (∃ (path : Fin 32) (double : Bool) (s : State), (s.member.present path.val = true) ∧ (double = false)) ∧
    (∃ (path : Fin 32) (double : Bool) (s : State), (s.member.present path.val = true) ∧ (double = true)) ∧
    (∃ (who : Init) (rows : BitVec 9) (s : State) (u : State), (Admitted s who pgGGR 0x088) ∧ (s.fon GGR_WR_STAT.PENDING who.holder = false) ∧ (s.gridCredits wrHOST ≠ 0) ∧ (s.mergeReg pgGGR 0x088 (GGR_WR2.ROWS.key who.holder) (rows.setWidth 32) = .ok u)) ∧
    (∃ (who : Init) (s : State), (Admitted s who pgGGR 0x088) ∧ (s.fon GGR_WR_STAT.PENDING who.holder = true ∨ s.gridCredits wrHOST = 0)) ∧
    (∃ (path : Fin 32) (s : State), (s.works pgGGR = true) ∧ (isUplink path.val = true) ∧ (s.member.present path.val = true) ∧ (s.writerOn wrNOISE path.val = false)) ∧
    (∃ (path : Fin 32) (s : State), (s.works pgGGR = true) ∧ (isUplink path.val = true) ∧ (s.member.present path.val = true)) ∧
    (∃ (path : Fin 32) (s : State), s.works pgGGR = false ∨ isUplink path.val = false ∨ s.member.present path.val = false) :=
  ⟨⟨0, 3, State.reset, by decide +kernel⟩,
   ⟨0, 3, { State.reset with time := { State.reset.time with devTime := 1000000000000 } }, by decide +kernel⟩,
   ⟨0, 3, (wWorks pgGGR State.reset), by decide +kernel⟩,
   ⟨State.reset, by decide +kernel⟩,
   ⟨1, ((wWorks pgGGR ((State.reset.fset GGR_PCFG.WR_EN 0 0xF).setGridQueue 1 [wDesc]))), wDesc, [], by decide +kernel⟩,
   ⟨1, ((wWorks pgGGR ((State.reset.fset GGR_PCFG.WR_EN 0 0xF).setGridQueue 1 [{ wDesc with rows := 1 }, wDesc]))), { wDesc with rows := 1 }, [wDesc], by decide +kernel⟩,
   ⟨1, State.reset, by decide +kernel⟩,
   ⟨0, false, State.reset, by decide +kernel⟩,
   ⟨0, true, State.reset, by decide +kernel⟩,
   ⟨.pairA, 3, (wPage pgGGR), (wOk ((wPage pgGGR).mergeReg pgGGR 0x088 (GGR_WR2.ROWS.key ((.pairA : Init)).holder) (((3 : BitVec 9)).setWidth 32))), by decide +kernel⟩,
   ⟨.pairA, (wPage pgGGR).fset GGR_WR_STAT.PENDING 1 1, by decide +kernel⟩,
   ⟨16, (wWorks pgGGR State.reset), by decide +kernel⟩,
   ⟨16, (wWorks pgGGR ((State.reset.fset GGR_PCFG.WR_EN 16 0xF).fset CHN_PATH_STAT.STATE 16 pathON)), by decide +kernel⟩,
   ⟨3, (wWorks pgGGR State.reset), by decide +kernel⟩⟩

theorem witness_TimingGroupCommands :
    (∃ (group : Fin 8) (s : State), (s.works pgFTM = true) ∧ (s.hasClock group.val = false) ∧ ((s.groupRt group.val).relabel = none)) ∧
    (∃ (group : Fin 8) (s : State), (s.works pgFTM = true) ∧ (s.hasClock group.val = true) ∧ ((s.groupRt group.val).relabel = none) ∧ ((s.groupRt group.val).step = none)) ∧
    (∃ (group : Fin 8) (s : State), s.fon FTM_GSTAT.NEXT_COMMITTED group.val = true) ∧
    (∃ (group : Fin 8) (s : State), s.fon FTM_GSTAT.NEXT_COMMITTED group.val = false) ∧
    (∃ (who : Init) (s : State) (u : State), (Admitted s who pgFTM 0x044) ∧ (s.fget FTM_GCFG.PRI (s.fget FTM_GSEL.GRP who.holder) ≤ 3) ∧ (s.fget FTM_GCFG.SEC (s.fget FTM_GSEL.GRP who.holder) ≤ 3) ∧ (2 ≤ s.fget FTM_GCFG.RELOCK_N (s.fget FTM_GSEL.GRP who.holder)) ∧ (s.fon FTM_GCFG.EN (s.fget FTM_GSEL.GRP who.holder) = false) ∧ (s.mergeReg pgFTM 0x044 (FTM_GCFG.EN.key (s.fget FTM_GSEL.GRP who.holder)) (s.gcfgEn who 1) = .ok u)) ∧
    (∃ (who : Init) (s : State) (u : State), (Admitted s who pgFTM 0x044) ∧ (s.fget FTM_GCFG.PRI (s.fget FTM_GSEL.GRP who.holder) ≤ 3) ∧ (s.fget FTM_GCFG.SEC (s.fget FTM_GSEL.GRP who.holder) ≤ 3) ∧ (2 ≤ s.fget FTM_GCFG.RELOCK_N (s.fget FTM_GSEL.GRP who.holder)) ∧ (s.fon FTM_GCFG.EN (s.fget FTM_GSEL.GRP who.holder) = true) ∧ (s.groupBusy (s.fget FTM_GSEL.GRP who.holder) = false) ∧ (s.mergeReg pgFTM 0x044 (FTM_GCFG.EN.key (s.fget FTM_GSEL.GRP who.holder)) (s.gcfgEn who 0) = .ok u)) ∧
    (∃ (group : Fin 8) (secondary : Bool) (tk : BitVec 64) (index : BitVec 48) (s : State), (s.works pgFTM = true) ∧ (s.groupState group.val ≠ tgNONE) ∧ (s.sourceValid (s.sourceCfg group.val secondary) = true) ∧ (s.obsWaits group.val secondary tk.toNat index.toNat = true) ∧ ((((((s.takeObs group.val secondary).adoptSources group.val).notePri).groupRt group.val).useSec) = secondary)) ∧
    (∃ (group : Fin 8) (secondary : Bool) (tk : BitVec 64) (index : BitVec 48) (s : State), (s.works pgFTM = true) ∧ (s.groupState group.val ≠ tgNONE) ∧ (s.sourceValid (s.sourceCfg group.val secondary) = true) ∧ (s.obsWaits group.val secondary tk.toNat index.toNat = true) ∧ ((((((s.takeObs group.val secondary).adoptSources group.val).notePri).groupRt group.val).useSec) = !secondary)) ∧
    (∃ (group : Fin 8) (secondary : Bool) (tk : BitVec 64) (index : BitVec 48) (s : State), s.works pgFTM = false ∨ s.groupState group.val = tgNONE ∨ s.sourceValid (s.sourceCfg group.val secondary) = false ∨ s.obsWaits group.val secondary tk.toNat index.toNat = false) ∧
    (∃ (group : Fin 8) (s : State), (s.groupState group.val = tgLOCKED) ∧ (s.timerDue tmFly group.val s.ms (s.fget FTM_GTIME.FLY_MS group.val) = true)) ∧
    (∃ (group : Fin 8) (s : State), (s.groupState group.val = tgFLYWHEEL) ∧ (s.timerDue tmHold group.val s.ms (s.fget FTM_GTIME.HOLDOVER_MS group.val) = true)) ∧
    (∃ (group : Fin 8) (s : State), (s.groupState group.val ≠ tgNONE) ∧ (s.inUseValid group.val = false) ∧ (s.sourceValid (s.groupSource group.val (!(s.groupRt group.val).useSec)) = true)) ∧
    (∃ (group : Fin 8) (s : State), (s.groupState group.val = tgLOCKED) ∧ (s.inUseValid group.val = false) ∧ (s.sourceValid (s.groupSource group.val (!(s.groupRt group.val).useSec)) = false)) ∧
    (∃ (group : Fin 8) (s : State), ((s.groupRt group.val).useSec = true) ∧ (s.priValid group.val = true) ∧ (s.timerDue tmPriReturn group.val s.ms 1000 = true)) :=
  ⟨⟨2, (wWorks pgFTM State.reset), by decide +kernel⟩,
   ⟨2, ((wWorks pgFTM State.reset).fset FTM_GSTAT.STATE 2 tgLOCKED), by decide +kernel⟩,
   ⟨2, (State.reset.fset FTM_GSTAT.NEXT_COMMITTED 2 1), by decide +kernel⟩,
   ⟨2, State.reset, by decide +kernel⟩,
   ⟨.pairA, (wPage pgFTM), (wOk ((wPage pgFTM).mergeReg pgFTM 0x044 (FTM_GCFG.EN.key ((wPage pgFTM).fget FTM_GSEL.GRP ((.pairA : Init)).holder)) ((wPage pgFTM).gcfgEn ((.pairA : Init)) 1))), by decide +kernel⟩,
   ⟨.pairA, (((wPage pgFTM).fset FTM_GCFG.EN 0 1).fset FTM_GSTAT.STATE 0 2), (wOk ((((wPage pgFTM).fset FTM_GCFG.EN 0 1).fset FTM_GSTAT.STATE 0 2).mergeReg pgFTM 0x044 (FTM_GCFG.EN.key ((((wPage pgFTM).fset FTM_GCFG.EN 0 1).fset FTM_GSTAT.STATE 0 2).fget FTM_GSEL.GRP ((.pairA : Init)).holder)) ((((wPage pgFTM).fset FTM_GCFG.EN 0 1).fset FTM_GSTAT.STATE 0 2).gcfgEn ((.pairA : Init)) 0))), by decide +kernel⟩,
   ⟨0, false, 0x1000, 5, wSeen, by decide +kernel⟩,
   ⟨0, true, 0x1000, 5, wSeen, by decide +kernel⟩,
   ⟨0, false, 0, 0, wSource, by decide +kernel⟩,
   ⟨3, (wMs ((State.reset.fset FTM_GSTAT.STATE 3 tgLOCKED).timerStart tmFly 3 0) 70000), by decide +kernel⟩,
   ⟨3, (wMs ((State.reset.fset FTM_GSTAT.STATE 3 tgFLYWHEEL).timerStart tmHold 3 0) 7000000), by decide +kernel⟩,
   ⟨0, (wSource.setGroupRt 0 { useSec := true, pri := (2, 0) }), by decide +kernel⟩,
   ⟨0, (State.reset.fset FTM_GSTAT.STATE 0 tgLOCKED), by decide +kernel⟩,
   ⟨0, (wMs ((wSource.setGroupRt 0 { useSec := true, pri := (2, 0) }).timerStart tmPriReturn 0 0) 2000), by decide +kernel⟩⟩

theorem witness_GnssCommands :
    (∃ (tk : BitVec 64) (pulse : PpsPulse) (s : State), (s.ppsCounts pulse = true) ∧ (s.ppsState = ppsVALID) ∧ (s.inPpsWindow tk.toNat = true)) ∧
    (∃ (tk : BitVec 64) (pulse : PpsPulse) (s : State), (s.ppsCounts pulse = true) ∧ (s.ppsState ≠ ppsVALID ∨ s.inPpsWindow tk.toNat = false)) ∧
    (∃ (pulse : PpsPulse) (s : State), s.fon GNS_PPS.EN 0 = false ∨ pulse.high = s.fon GNS_PPS.POL 0 ∨ pulse.widthNs < 10 * s.fget GNS_PPS.MINW 0) ∧
    (∃ (s : State), s.ppsState = ppsVALID) ∧
    (∃ (s : State), (s.fon GNS_PPS.EN 0 = true) ∧ (s.timerDue tmPps 0 s.sec_ (s.fget GNS_CFG.PPS_TO_S 0) = true)) ∧
    (∃ (line : UartLine) (s : State), (s.uartHunts line = true) ∧ (2 ≤ line.runs.headD 0)) ∧
    (∃ (line : UartLine) (s : State), s.uartHunts line = false ∨ line.runs.headD 0 < 2) ∧
    (∃ (s : State), s.ftm.gns.complete = true) ∧
    (∃ (s : State), s.timerDue tmNmea 0 s.sec_ (s.fget GNS_CFG.NMEA_TO_S 0) = true) ∧
    (∃ (s : State), s.timerDue tmGga 0 s.sec_ (s.fget GNS_CFG.NMEA_TO_S 0) = true) ∧
    (∃ (s : State) (x : Nat × Nat), s.ftm.gns.waiting = some x) :=
  ⟨⟨0x100000005, ⟨true, 2000000⟩, (wWorks pgGNS (wPps ppsVALID)), by decide +kernel⟩,
   ⟨0, ⟨true, 2000000⟩, (wWorks pgGNS (wPps ppsLOST)), by decide +kernel⟩,
   ⟨⟨false, 0⟩, (wWorks pgGNS (wPps ppsVALID)), by decide +kernel⟩,
   ⟨(wPps ppsVALID), by decide +kernel⟩,
   ⟨(wMs ((wPps ppsVALID).timerStart tmPps 0 0) 300000), by decide +kernel⟩,
   ⟨⟨0, [6400, 3200, 3200]⟩, (let s := (wWorks pgGNS State.reset).fset GNS_UART.EN 0 1; s.setGns { s.ftm.gns with line := [0x24, 0x47] }), by decide +kernel⟩,
   ⟨⟨0, []⟩, State.reset, by decide +kernel⟩,
   ⟨(State.reset.setGns { State.reset.ftm.gns with line := [0x24, 0x47, 10] }), by decide +kernel⟩,
   ⟨(wMs (State.reset.timerStart tmNmea 0 0) 300000), by decide +kernel⟩,
   ⟨(wMs (State.reset.timerStart tmGga 0 0) 300000), by decide +kernel⟩,
   ⟨(State.reset.setGns { State.reset.ftm.gns with waiting := some (5, 6) }), ((5, 6)), by decide +kernel⟩⟩

theorem witness_ListenerCommands :
    (∃ (who : Init) (en : Bool) (s : State) (u : State), (Admitted s who pgCLS 0x044) ∧ (en = true) ∧ (s.fget CLS_CSEL.CAR who.holder < s.clsCarriers) ∧ (s.fget CLS_CCFG.SSB_SCS (s.fget CLS_CSEL.CAR who.holder) ≤ 1) ∧ (s.fget CLS_CCFG.PCI (s.fget CLS_CSEL.CAR who.holder) < 1008 ∨ s.fget CLS_CCFG.PCI (s.fget CLS_CSEL.CAR who.holder) = 1023) ∧ (s.fon CLS_CCFG.EN (s.fget CLS_CSEL.CAR who.holder) = false) ∧ (s.mergeReg pgCLS 0x044 (CLS_CCFG.EN.key (s.fget CLS_CSEL.CAR who.holder)) (putBits (s.word (CLS_CCFG.EN.key (s.fget CLS_CSEL.CAR who.holder))) 31 31 1) = .ok u)) ∧
    (∃ (who : Init) (en : Bool) (s : State) (u : State), (Admitted s who pgCLS 0x044) ∧ (en = false) ∧ (s.fget CLS_CCFG.SSB_SCS (s.fget CLS_CSEL.CAR who.holder) ≤ 1) ∧ (s.fget CLS_CCFG.PCI (s.fget CLS_CSEL.CAR who.holder) < 1008 ∨ s.fget CLS_CCFG.PCI (s.fget CLS_CSEL.CAR who.holder) = 1023) ∧ (s.fon CLS_CCFG.EN (s.fget CLS_CSEL.CAR who.holder) = true) ∧ (s.mergeReg pgCLS 0x044 (CLS_CCFG.EN.key (s.fget CLS_CSEL.CAR who.holder)) (putBits (s.word (CLS_CCFG.EN.key (s.fget CLS_CSEL.CAR who.holder))) 31 31 0) = .ok u)) ∧
    (∃ (carrier : Fin 32) (pci : Fin 1024) (snr : Int) (pbchOk : Bool) (s : State), (s.works pgCLS = true) ∧ (s.clState carrier.val = clSEARCH ∨ s.clState carrier.val = clLOST) ∧ (pbchOk = true) ∧ (s.fgetI CLS_CTHR.DET_THR carrier.val ≤ snr) ∧ (s.fget CLS_CCFG.PCI carrier.val = 0x3FF ∨ s.fget CLS_CCFG.PCI carrier.val = pci.val)) ∧
    (∃ (carrier : Fin 32) (pci : Fin 1024) (snr : Int) (pbchOk : Bool) (s : State), s.works pgCLS = false ∨ pbchOk = false ∨ snr < s.fgetI CLS_CTHR.DET_THR carrier.val ∨ (s.fget CLS_CCFG.PCI carrier.val ≠ 0x3FF ∧ s.fget CLS_CCFG.PCI carrier.val ≠ pci.val)) ∧
    (∃ (carrier : Fin 32) (hit : SsbHit) (crcOk : Bool) (s : State), (s.works pgCLS = true) ∧ (s.clState carrier.val = clTRACK) ∧ (hit.pci.val = s.fget CLS_CSTAT.PCI carrier.val) ∧ (crcOk = true)) ∧
    (∃ (carrier : Fin 32) (hit : Option SsbHit) (crcOk : Bool) (s : State), (s.works pgCLS = true) ∧ (s.clState carrier.val = clTRACK) ∧ (hit = none ∨ crcOk = false ∨ hit.map (fun x => x.pci.val) ≠ some (s.fget CLS_CSTAT.PCI carrier.val))) ∧
    (∃ (carrier : Fin 32) (s : State), s.works pgCLS = false ∨ s.clState carrier.val ≠ clTRACK) ∧
    (∃ (carrier : Fin 32) (s : State), (s.clState carrier.val = clTRACK) ∧ ((s.carrier carrier.val).decoding = true)) ∧
    (∃ (carrier : Fin 32) (s : State), ((s.carrier carrier.val).decoding = true) ∧ (s.timerDue tmSib1 carrier.val s.ms 1000 = true)) ∧
    (∃ (carrier : Fin 32) (s : State), (s.clState carrier.val = clTRACK) ∧ (s.timerDue tmSib1Period carrier.val s.sec_ (s.fget CLS_CTHR.SIB1_PERIOD_S carrier.val) = true) ∧ (s.fon CLS_CCFG.SIB1_EN carrier.val = true) ∧ (s.fon CLS_CCFG.RAT carrier.val = false)) ∧
    (∃ (who : Init) (s : State), (Admitted s who pgCLS 0x068) ∧ (patPairOk (s.carrier (s.fget CLS_CSEL.CAR who.holder)).stage1 (s.carrier (s.fget CLS_CSEL.CAR who.holder)).stage2 = true) ∧ (s.fon CLS_CCFG.PAT_HOST (s.fget CLS_CSEL.CAR who.holder) = true) ∧ (s.fget CLS_CSTAT.PAT_SRC (s.fget CLS_CSEL.CAR who.holder) = 0)) :=
  ⟨⟨.pairA, true, wCls, (wOk ((wCls).mergeReg pgCLS 0x044 (CLS_CCFG.EN.key ((wCls).fget CLS_CSEL.CAR ((.pairA : Init)).holder)) (putBits ((wCls).word (CLS_CCFG.EN.key ((wCls).fget CLS_CSEL.CAR ((.pairA : Init)).holder))) 31 31 1))), by decide +kernel⟩,
   ⟨.pairA, false, ((wCls.fset CLS_CCFG.EN 0 1).fset CLS_CSTAT.STATE 0 2), (wOk (((wCls.fset CLS_CCFG.EN 0 1).fset CLS_CSTAT.STATE 0 2).mergeReg pgCLS 0x044 (CLS_CCFG.EN.key (((wCls.fset CLS_CCFG.EN 0 1).fset CLS_CSTAT.STATE 0 2).fget CLS_CSEL.CAR ((.pairA : Init)).holder)) (putBits (((wCls.fset CLS_CCFG.EN 0 1).fset CLS_CSTAT.STATE 0 2).word (CLS_CCFG.EN.key (((wCls.fset CLS_CCFG.EN 0 1).fset CLS_CSTAT.STATE 0 2).fget CLS_CSEL.CAR ((.pairA : Init)).holder))) 31 31 0))), by decide +kernel⟩,
   ⟨1, 77, 30000, true, (wWorks pgCLS ((State.reset.fset CLS_CSTAT.STATE 1 clSEARCH).fset CLS_CCFG.PCI 1 0x3FF)), by decide +kernel⟩,
   ⟨1, 77, 30000, false, State.reset, by decide +kernel⟩,
   ⟨1, ⟨77, 5, 6⟩, true, (wWorks pgCLS ((State.reset.fset CLS_CSTAT.STATE 1 clTRACK).fset CLS_CSTAT.PCI 1 77)), by decide +kernel⟩,
   ⟨1, none, false, (wWorks pgCLS ((State.reset.fset CLS_CSTAT.STATE 1 clTRACK).fset CLS_CSTAT.PCI 1 77)), by decide +kernel⟩,
   ⟨1, State.reset, by decide +kernel⟩,
   ⟨1, ((State.reset.fset CLS_CSTAT.STATE 1 clTRACK).setCarrier 1 { decoding := true }), by decide +kernel⟩,
   ⟨1, (wMs ((State.reset.setCarrier 1 { decoding := true }).timerStart tmSib1 1 0) 2000), by decide +kernel⟩,
   ⟨1, (wMs (((State.reset.fset CLS_CSTAT.STATE 1 clTRACK).fset CLS_CCFG.SIB1_EN 1 1).timerStart tmSib1Period 1 0) 300000), by decide +kernel⟩,
   ⟨.pairA, (wCls.fset CLS_CCFG.PAT_HOST 0 1), by decide +kernel⟩⟩

theorem witness_WheelAndCoexistenceCommands :
    (∃ (path : Fin 32) (s : State), (s.works pgFTM = true) ∧ (s.member.present path.val = true) ∧ (s.pathState path.val ≠ pathOFF)) ∧
    (∃ (port : Fin 32) (pin : Fin 3) (s : State) (x : Int × Bool), (s.works pgFTM = true) ∧ (s.fon FTM_PCFG.TDD_EN port.val = true) ∧ (pin.val ≠ 2) ∧ (s.nextPin port.val pin.val = some x)) ∧
    (∃ (port : Fin 32) (pin : Fin 3) (s : State) (x : Int × Bool), (s.works pgFTM = true) ∧ (s.fon FTM_PCFG.TDD_EN port.val = true) ∧ (pin.val = 2) ∧ (s.fon FTM_PCFG.CX_EN port.val = true) ∧ (s.nextPin port.val pin.val = some x)) ∧
    (∃ (path : Fin 32) (row : Fin 280) (s : State), (s.works pgFTM = true) ∧ (((s.pathGrid path.val).plans.map fun e => e.1).Nodup) ∧ ((s.pathGrid path.val).plans.any (fun e => decide (e.1 = row.val)) = true)) ∧
    (∃ (path : Fin 32) (row : Fin 280) (s : State), s.works pgFTM = false ∨ (s.pathGrid path.val).plans.any (fun e => decide (e.1 = row.val)) = false) ∧
    (∃ (path : Fin 32) (s : State), s.works pgFTM = false ∨ s.member.present path.val = false ∨ s.pathState path.val = pathOFF) ∧
    (∃ (pair : Fin 8) (port : Fin 32) (s : State) (iv : Int × Int), (s.works pgCXW = true) ∧ (s.fon CXW_CFG.EN pair.val = true) ∧ (s.inPair pair.val port.val = true) ∧ (s.currentIv port.val = some iv)) ∧
    (∃ (pair : Fin 8) (s : State), (s.works pgCXW = true) ∧ (s.fon CXW_CFG.EN pair.val = true)) ∧
    (∃ (pair : Fin 8) (s : State), (s.works pgCXW = true) ∧ (s.fon CXW_CFG.EN pair.val = true) ∧ (s.fon CXW_STAT.REQ pair.val = false)) ∧
    (∃ (pair : Fin 8) (s : State), s.works pgCXW = false ∨ s.fon CXW_CFG.EN pair.val = false ∨ s.fon CXW_STAT.REQ pair.val = true) :=
  ⟨⟨0, ((wWorks pgFTM State.reset).fset CHN_PATH_STAT.STATE 0 pathON), by decide +kernel⟩,
   ⟨0, 0, wPin, (((wPin).nextPin ((0 : Fin 32)).val ((0 : Fin 3)).val).getD (0, false)), by decide +kernel⟩,
   ⟨0, 2, (wPin.fset FTM_PCFG.CX_EN 0 1), (((wPin.fset FTM_PCFG.CX_EN 0 1).nextPin ((0 : Fin 32)).val ((2 : Fin 3)).val).getD (0, false)), by decide +kernel⟩,
   ⟨0, 7, ((wWorks pgFTM State.reset).setPathGrid 0 { plans := [(8, 2, []), (7, 3, [])] }), by decide +kernel⟩,
   ⟨0, 7, (State.reset.setPathGrid 0 { plans := [(8, 2, [])] }), by decide +kernel⟩,
   ⟨0, State.reset, by decide +kernel⟩,
   ⟨0, 0, wGrant, (((wGrant).currentIv ((0 : Fin 32)).val).getD (0, 0)), by decide +kernel⟩,
   ⟨0, ((wGrant.fset CXW_STAT.GNT 0 1).setCxPair 0 { granted := [(0, 900000)] }), by decide +kernel⟩,
   ⟨0, ((wWorks pgCXW State.reset).fset CXW_CFG.EN 0 1), by decide +kernel⟩,
   ⟨0, State.reset, by decide +kernel⟩⟩

theorem witness_RegulatorySetCommands :
    (∃ (who : Init) (s : State), (Admitted s who pgLIM 0x4C0) ∧ (s.badEntry = none)) ∧
    (∃ (who : Init) (s : State) (e : Fin 64), (Admitted s who pgLIM 0x4C0) ∧ (s.badEntry = some e.val)) ∧
    (∃ (who : Init) (s : State), Admitted s who pgLIM 0x4C0) :=
  ⟨⟨((.engine .manufacturer)), wReg, by decide +kernel⟩,
   ⟨((.engine .manufacturer)), ({ wReg with npr := { wReg.npr with staged := [(48, 0x80000000)] } }), 3, by decide +kernel⟩,
   ⟨((.engine .manufacturer)), ({ wReg with npr := { wReg.npr with staged := [(48, 0x80000000)] } }), by decide +kernel⟩⟩

theorem witness_FoxgloveCommands :
    (∃ (cause : FoxCause) (s : State) (k : Nat), (s.foxCondition cause = true) ∧ (s.foxTaken (foxCode cause) (s.foxScope cause) = true) ∧ (((List.range 16).find? fun j => decide (s.foxState j = foxRETRYING) && decide (s.fget NPR_FOX_STAT.TRIGGER j = foxCode cause) && s.foxWithin j (s.foxScope cause)) = none) ∧ (((List.range 16).find? fun j => decide (s.foxState j = foxIDLE)) = some k)) ∧
    (∃ (stream : Fin 32) (s : State), Tbl.get (fun _ => 0) s.npr.oscNeg (32 + stream.val) ≠ 0) ∧
    (∃ (ctx : Fin 4096) (s : State) (p : Fin 32), (s.noiseSince ctx.val ≠ 0) ∧ (s.ctxPath ctx.val = p.val)) ∧
    (∃ (stream : Fin 32) (s : State) (n : Nat) (l : List Nat), s.oobSince stream.val = n :: l) ∧
    (∃ (slot : Fin 16) (s : State), (s.foxState slot.val = foxSTOPPING) ∧ ((List.range 32).all (fun n => !s.fbit NPR_FOX_PORTS.PORTS slot.val n || s.foxChainDown n) = true)) ∧
    (∃ (slot : Fin 16) (s : State), (s.foxState slot.val = foxBACKOFF) ∧ (s.timerDue tmFoxWait slot.val s.sec_ (min ((s.foxRt slot.val).base * 2 ^ s.fget NPR_FOX_STAT.RETRIES slot.val) (s.foxRt slot.val).most) = true) ∧ (s.foxRetryOk slot.val = true)) ∧
    (∃ (who : Init) (s : State), (Admitted s who pgNPR 0x078) ∧ (s.identOf who = some .integrator) ∧ (s.foxState (s.fget NPR_FOX_SEL.SLOT who.holder) = foxBACKOFF ∨ s.foxState (s.fget NPR_FOX_SEL.SLOT who.holder) = foxLATCHED ∨ s.foxState (s.fget NPR_FOX_SEL.SLOT who.holder) = foxSTOPPED) ∧ (s.foxRetryOk (s.fget NPR_FOX_SEL.SLOT who.holder) = true)) ∧
    (∃ (who : Init) (s : State), (Admitted s who pgNPR 0x078) ∧ (s.identOf who = some .integrator) ∧ (s.foxState (s.fget NPR_FOX_SEL.SLOT who.holder) = foxBACKOFF ∨ s.foxState (s.fget NPR_FOX_SEL.SLOT who.holder) = foxLATCHED ∨ s.foxState (s.fget NPR_FOX_SEL.SLOT who.holder) = foxSTOPPED) ∧ (s.foxRetryOk (s.fget NPR_FOX_SEL.SLOT who.holder) = false)) ∧
    (∃ (slot : Fin 16) (s : State), (s.foxState slot.val = foxRETRYING) ∧ ((s.foxRt slot.val).muting = true) ∧ ((s.foxRt slot.val).lifting = false) ∧ ((List.range 32).all (fun n => !s.fbit NPR_FOX_PORTS.PORTS slot.val n || s.foxChainBack n) = true)) ∧
    (∃ (slot : Fin 16) (s : State), (s.foxState slot.val = foxRETRYING) ∧ (s.timerDue tmFoxGood slot.val s.sec_ (s.fget NPR_TIME.RETRY_GOOD_S 0) = true)) ∧
    (∃ (who : Init) (domain : Fin 16) (s : State), Admits (fun u => u.admitRemote who (BitVec.ofNat 32 (0x80000000 + domain.val))) s who pgNPR 0x054) ∧
    (∃ (who : Init) (domain : Fin 16) (s : State), Admits (fun u => u.admitRemote who (BitVec.ofNat 32 (0x40000000 + domain.val))) s who pgNPR 0x054) ∧
    (∃ (s : State), (s.pwState < 2) ∧ (s.domainRuns 0 = true)) ∧
    (∃ (s : State), 2 ≤ s.pwState ∨ s.domainRuns 0 = false) :=
  ⟨⟨((.remote 2)), State.reset, 0, by decide +kernel⟩,
   ⟨3, (let s := State.reset; { s with npr := { s.npr with oscNeg := [(35, 7)] } }), by decide +kernel⟩,
   ⟨5, ((State.reset.cset CTX_CTRL.PATH 5 17).setCtxRt 5 { noiseOver := 9 }), 17, by decide +kernel⟩,
   ⟨3, (let s := State.reset; { s with npr := { s.npr with oob := [(64 * 35 + 2, 7)] } }), 7, [], by decide +kernel⟩,
   ⟨4, ((State.reset.fset NPR_FOX_STAT.STATE 4 foxSTOPPING).setFoxRt 4 { limit := 3, base := 2, most := 60 }), by decide +kernel⟩,
   ⟨4, (wMs (((State.reset.fset NPR_FOX_STAT.STATE 4 foxBACKOFF).setFoxRt 4 { limit := 3, base := 2, most := 60 }).timerStart tmFoxWait 4 0) 100000), by decide +kernel⟩,
   ⟨.pairB, ({ (wPage pgNPR).fset NPR_FOX_STAT.STATE 0 foxLATCHED with sec := { lc := 1 } }), by decide +kernel⟩,
   ⟨.pairB, ({ ((wPage pgNPR).fset NPR_FOX_STAT.STATE 0 foxLATCHED).setFoxRt 0 { groups := 1 } with sec := { lc := 1 } }), by decide +kernel⟩,
   ⟨4, ((State.reset.fset NPR_FOX_STAT.STATE 4 foxRETRYING).setFoxRt 4 { muting := true }), by decide +kernel⟩,
   ⟨4, (wMs ((State.reset.fset NPR_FOX_STAT.STATE 4 foxRETRYING).timerStart tmFoxGood 4 0) 90000000), by decide +kernel⟩,
   ⟨.pairB, 5, ({ wPage pgNPR with sec := { lc := 1 } }), by decide +kernel⟩,
   ⟨.pairB, 5, ({ wPage pgNPR with sec := { lc := 1 } }), by decide +kernel⟩,
   ⟨(State.reset.setDomainRuns 0 true), by decide +kernel⟩,
   ⟨State.reset, by decide +kernel⟩⟩

theorem witness_FrontEndLinkCommands :
    (∃ (port : Fin 32) (s : State), (s.works pgFEL = true) ∧ (s.descValid port.val = true) ∧ ((s.felPort port.val).flight.length < 2)) ∧
    (∃ (port : Fin 32) (s : State), s.works pgFEL = false ∨ s.descValid port.val = false ∨ 2 ≤ (s.felPort port.val).flight.length) ∧
    (∃ (port : Fin 32) (crcOk : Bool) (ack : Fin 16) (seq : Fin 256) (state : Fin 8) (s : State) (f : FelFrame) (rest : List FelFrame), ((s.felPort port.val).flight = f :: rest) ∧ (crcOk = true) ∧ (seq.val = f.seq) ∧ (ack.val = 0) ∧ (state.val < 5)) ∧
    (∃ (port : Fin 32) (crcOk : Bool) (ack : Fin 16) (seq : Fin 256) (state : Fin 8) (s : State) (f : FelFrame) (rest : List FelFrame), ((s.felPort port.val).flight = f :: rest) ∧ (crcOk = true) ∧ (seq.val = f.seq) ∧ (ack.val = 2 ∨ ack.val = 3 ∨ ack.val = 5) ∧ (state.val < 5) ∧ ((s.felPort port.val).fails < 7)) ∧
    (∃ (port : Fin 32) (crcOk : Bool) (ack : Fin 16) (seq : Fin 256) (s : State) (f : FelFrame) (rest : List FelFrame), ((s.felPort port.val).flight = f :: rest) ∧ (crcOk = false ∨ seq.val ≠ f.seq ∨ ack.val = 1 ∨ ack.val = 4) ∧ (f.tries < 3) ∧ (f.req.act = none)) ∧
    (∃ (port : Fin 32) (crcOk : Bool) (s : State) (f : FelFrame) (rest : List FelFrame), ((s.felPort port.val).flight = f :: rest) ∧ (crcOk = false) ∧ (3 ≤ f.tries) ∧ ((s.felPort port.val).fails < 7)) ∧
    (∃ (port : Fin 32) (crcOk : Bool) (s : State) (f : FelFrame) (rest : List FelFrame), ((s.felPort port.val).flight = f :: rest) ∧ (crcOk = false) ∧ (3 ≤ f.tries) ∧ (7 ≤ (s.felPort port.val).fails) ∧ (s.fon FEL_LINK.UP port.val = true)) ∧
    (∃ (port : Fin 32) (s : State), (s.felPort port.val).flight = []) ∧
    (∃ (port : Fin 32) (s : State), (s.fon FEL_LINK.UP port.val = true) ∧ (s.timerDue tmFelLink port.val s.us (s.fget FEL_LINKCFG.LINK_TO_US 0) = true)) ∧
    (∃ (who : Init) (s : State), (Admitted s who pgFEL 0x0B8) ∧ (s.member.present (s.felSel who) = true) ∧ (s.descOk (s.felSel who) = true)) ∧
    (∃ (port : Fin 32) (s : State), s.fon FEL_LINK.UP port.val = true) ∧
    (∃ (port : Fin 32) (s : State), (s.fon FEL_LINK.UP port.val = true) ∧ (s.timerDue tmModTemp port.val s.ms 100 = true)) ∧
    (∃ (port : Fin 32) (s : State), s.fon FEL_LINK.UP port.val = false) :=
  ⟨⟨2, (wWorks pgFEL wModule), by decide +kernel⟩,
   ⟨2, State.reset, by decide +kernel⟩,
   ⟨2, true, 0, 9, 1, (wModule.setFelPort 2 { flight := [{ req := { op := 0, addr := 0, data := 0, use := 0 }, seq := 9 }], fails := 3 }), ({ req := { op := 0, addr := 0, data := 0, use := 0 }, seq := 9 }), [], by decide +kernel⟩,
   ⟨2, true, 3, 9, 1, (wModule.setFelPort 2 { flight := [{ req := { op := 0, addr := 0, data := 0, use := 0 }, seq := 9 }], fails := 3 }), ({ req := { op := 0, addr := 0, data := 0, use := 0 }, seq := 9 }), [], by decide +kernel⟩,
   ⟨2, false, 0, 9, (wModule.setFelPort 2 { flight := [{ req := { op := 0, addr := 0, data := 0, use := 0 }, seq := 9 }], fails := 3 }), ({ req := { op := 0, addr := 0, data := 0, use := 0 }, seq := 9 }), [], by decide +kernel⟩,
   ⟨2, false, (wModule.setFelPort 2 { flight := [{ req := { op := 0, addr := 0, data := 0, use := 0 }, seq := 9, tries := 3 }], fails := 3 }), ({ req := { op := 0, addr := 0, data := 0, use := 0 }, seq := 9, tries := 3 }), [], by decide +kernel⟩,
   ⟨2, false, ((wModule.fset FEL_LINK.UP 2 1).setFelPort 2 { flight := [{ req := { op := 0, addr := 0, data := 0, use := 0 }, seq := 9, tries := 3 }], fails := 7 }), ({ req := { op := 0, addr := 0, data := 0, use := 0 }, seq := 9, tries := 3 }), [], by decide +kernel⟩,
   ⟨2, State.reset, by decide +kernel⟩,
   ⟨2, (wMs ((wModule.fset FEL_LINK.UP 2 1).timerStart tmFelLink 2 0) 900), by decide +kernel⟩,
   ⟨.pairA, (let s := wPage pgFEL; { s with fel := { s.fel with stage := [(1, 0x001000), (4, 0x00000010), (5, 0x01020304)] } }), by decide +kernel⟩,
   ⟨2, (wModule.fset FEL_LINK.UP 2 1), by decide +kernel⟩,
   ⟨2, (wMs ((wModule.fset FEL_LINK.UP 2 1).timerStart tmModTemp 2 0) 900), by decide +kernel⟩,
   ⟨2, State.reset, by decide +kernel⟩⟩

theorem witness_ChainCommands :
    (∃ (who : Init) (s : State), (Admitted s who pgFEL 0x044) ∧ (s.member.present (s.felSel who) = true)) ∧
    (∃ (port : Fin 32) (s : State), ((s.felPort port.val).moving = some (chSTANDBY, chSYNTH)) ∧ ((s.felPort port.val).chainCmd = none) ∧ ((s.felPort port.val).cal = none)) ∧
    (∃ (port : Fin 32) (s : State) (x : Nat × Nat), ((s.felPort port.val).moving = some x) ∧ (x ≠ (chSTANDBY, chSYNTH)) ∧ ((s.felPort port.val).chainCmd = none) ∧ ((s.felPort port.val).cal = none)) ∧
    (∃ (port : Fin 32) (s : State) (x : ChainCheck) (rest : List ChainCheck), ((s.felPort port.val).checks = x :: rest) ∧ ((s.felPort port.val).failed = false ∨ x.dst ≠ chSTANDBY) ∧ (x.again = false)) ∧
    (∃ (port : Fin 32) (s : State) (x : ChainCheck) (rest : List ChainCheck), ((s.felPort port.val).checks = x :: rest) ∧ ((s.felPort port.val).failed = false ∨ x.dst ≠ chSTANDBY) ∧ (x.again = true)) ∧
    (∃ (port : Fin 32) (s : State) (x : ChainCheck) (rest : List ChainCheck), ((s.felPort port.val).checks = x :: rest) ∧ ((s.felPort port.val).failed = true) ∧ (x.dst = chSTANDBY)) ∧
    (∃ (port : Fin 32) (s : State), (s.felPort port.val).checks = []) ∧
    (∃ (who : Init) (s : State), (Admitted s who pgFEL 0x044) ∧ (s.member.present (s.felSel who) = true)) ∧
    (∃ (who : Init) (s : State), (Admitted s who pgFEL 0x044) ∧ (s.member.present (s.felSel who) = true)) ∧
    (∃ (port : Fin 32) (s : State) (k : Nat), (s.felPort port.val).cal = some k) ∧
    (∃ (who : Init) (khz : BitVec 24) (s : State), (Admitted s who pgFEL 0x048) ∧ (s.member.present (s.felSel who) = true) ∧ (s.fget FEL_CHAIN.TARGET (s.felSel who) ≤ 2) ∧ (s.chain (s.felSel who) < chSYNTH) ∧ (bitsOf (s.descWord (s.felSel who) 0) 23 0 ≤ khz.toNat) ∧ (khz.toNat ≤ bitsOf (s.descWord (s.felSel who) 1) 23 0)) ∧
    (∃ (who : Init) (s : State), (Admitted s who pgFEL 0x044) ∧ (s.member.present (s.felSel who) = true) ∧ (s.mm (s.felSel who) = mmLATCHED)) ∧
    (∃ (who : Init) (s : State), (Admitted s who pgFEL 0x048) ∧ (s.member.present (s.felSel who) = true) ∧ (2 < s.fget FEL_CHAIN.TARGET (s.felSel who) ∨ chSYNTH < s.chain (s.felSel who))) ∧
    (∃ (who : Init) (khz : BitVec 24) (s : State), (Admitted s who pgFEL 0x048) ∧ (s.member.present (s.felSel who) = true) ∧ (s.fget FEL_CHAIN.TARGET (s.felSel who) ≤ 2) ∧ (s.chain (s.felSel who) = chSYNTH) ∧ (s.felRoom (s.felSel who) 2 = true) ∧ (bitsOf (s.descWord (s.felSel who) 0) 23 0 ≤ khz.toNat) ∧ (khz.toNat ≤ bitsOf (s.descWord (s.felSel who) 1) 23 0)) :=
  ⟨⟨.pairA, (wPage pgFEL), by decide +kernel⟩,
   ⟨2, (wModule.setFelPort 2 { moving := some (chSTANDBY, chSYNTH) }), by decide +kernel⟩,
   ⟨2, (wModule.setFelPort 2 { moving := some (2, 3) }), ((2, 3)), by decide +kernel⟩,
   ⟨2, (wModule.setFelPort 2 { checks := [⟨2, 3, 5, false⟩] }), ⟨2, 3, 5, false⟩, [], by decide +kernel⟩,
   ⟨2, (wModule.setFelPort 2 { checks := [⟨2, 3, 5, true⟩] }), ⟨2, 3, 5, true⟩, [], by decide +kernel⟩,
   ⟨2, (wModule.setFelPort 2 { checks := [⟨2, 1, 5, false⟩], failed := true }), ⟨2, 1, 5, false⟩, [], by decide +kernel⟩,
   ⟨2, State.reset, by decide +kernel⟩,
   ⟨.pairA, (wPage pgFEL), by decide +kernel⟩,
   ⟨.pairA, (wPage pgFEL), by decide +kernel⟩,
   ⟨2, (wModule.setFelPort 2 { cal := some 2 }), 2, by decide +kernel⟩,
   ⟨.pairA, 5, (let s := wPage pgFEL; { s with fel := { s.fel with desc := [(1, 0x001000)] } }), by decide +kernel⟩,
   ⟨.pairA, ((wPage pgFEL).fset FEL_MM.STATE 0 mmLATCHED), by decide +kernel⟩,
   ⟨.pairA, ((wPage pgFEL).fset FEL_CHAIN.TARGET 0 3), by decide +kernel⟩,
   ⟨.pairA, 5, (let s := (wPage pgFEL).fset FEL_CHAIN.STATE 0 chSYNTH; { s with fel := { s.fel with desc := [(1, 0x001000)] } }), by decide +kernel⟩⟩

theorem witness_MismatchCommands :
    (∃ (port : Fin 32) (s : State), (s.fon FEL_LINK.UP port.val = true) ∧ (s.fon FEL_PIN.PA port.val = true)) ∧
    (∃ (port : Fin 32) (s : State), (s.mm port.val = mmSHORT) ∧ (s.timerDue tmMmHold port.val s.ms (s.fget FEL_MMCFG3.MM_HOLD_MS 0) = true) ∧ (s.fget FEL_MM.RETRIES port.val < s.fget FEL_MMCFG4.MM_RETRY_LIMIT 0)) ∧
    (∃ (port : Fin 32) (s : State), (s.mm port.val = mmSHORT) ∧ (s.timerDue tmMmHold port.val s.ms (s.fget FEL_MMCFG3.MM_HOLD_MS 0) = true) ∧ (s.fget FEL_MMCFG4.MM_RETRY_LIMIT 0 ≤ s.fget FEL_MM.RETRIES port.val)) ∧
    (∃ (port : Fin 32) (s : State), (s.mm port.val = mmGOOD) ∧ (s.timerDue tmMmGood port.val s.sec_ 60 = true)) ∧
    (∃ (port : Fin 32) (s : State) (a : Int) (b : Int) (c : Nat), (s.mm port.val = mmWARN) ∧ (s.fon FEL_TUNER.TUNER_EN port.val = true) ∧ (s.timerDue tmTune port.val s.ms (s.fget FEL_MMCFG4.TUNE_INT_MS 0) = true) ∧ ((s.felPort port.val).trial = none) ∧ ((s.felPort port.val).rls = [a, b]) ∧ (nextTune (s.fget FEL_TUNER.TUNER_CODE port.val) (s.modReg port.val 6 3) (s.felPort port.val).tuneUp = some c) ∧ (((s.timerStart tmTune port.val s.ms).sendTuner port.val c).2 = true)) ∧
    (∃ (port : Fin 32) (s : State) (a : Int) (b : Int) (c : Nat), (s.mm port.val = mmWARN) ∧ (s.fon FEL_TUNER.TUNER_EN port.val = true) ∧ (s.timerDue tmTune port.val s.ms (s.fget FEL_MMCFG4.TUNE_INT_MS 0) = true) ∧ ((s.felPort port.val).trial = none) ∧ ((s.felPort port.val).rls = [a, b]) ∧ (nextTune (s.fget FEL_TUNER.TUNER_CODE port.val) (s.modReg port.val 6 3) (s.felPort port.val).tuneUp = some c) ∧ (((s.timerStart tmTune port.val s.ms).sendTuner port.val c).2 = false)) ∧
    (∃ (who : Init) (code : Fin 256) (s : State), (Admitted s who pgFEL 0x060) ∧ (s.member.present (s.felSel who) = true) ∧ (code.val ≤ s.modReg (s.felSel who) 6 3) ∧ (s.felRoom (s.felSel who) 1 = true)) ∧
    (∃ (who : Init) (code : Fin 256) (s : State), (Admitted s who pgFEL 0x060) ∧ (s.member.present (s.felSel who) = true) ∧ (code.val ≤ s.modReg (s.felSel who) 6 3) ∧ (s.felRoom (s.felSel who) 1 = false)) ∧
    (∃ (port : Fin 32) (s : State), s.fon FEL_LINK.UP port.val = false ∨ s.fon FEL_PIN.PA port.val = false) :=
  ⟨⟨2, (((wModule.fset FEL_LINK.UP 2 1).fset FEL_PIN.PA 2 1).fset FEL_MM.STATE 2 mmGOOD), by decide +kernel⟩,
   ⟨2, (wMs (((wModule.fset FEL_MM.STATE 2 mmSHORT).fset FEL_MMCFG4.MM_RETRY_LIMIT 0 5).timerStart tmMmHold 2 0) 90000), by decide +kernel⟩,
   ⟨2, (wMs (((wModule.fset FEL_MM.STATE 2 mmSHORT).fset FEL_MMCFG4.MM_RETRY_LIMIT 0 0).timerStart tmMmHold 2 0) 90000), by decide +kernel⟩,
   ⟨2, (wMs (((wModule.fset FEL_MM.STATE 2 mmGOOD).fset FEL_MM.RETRIES 2 3).timerStart tmMmGood 2 0) 90000), by decide +kernel⟩,
   ⟨2, (wMs ((((wModule.fset FEL_MM.STATE 2 mmWARN).fset FEL_TUNER.TUNER_EN 2 1).setFelPort 2 { rls := [100, 200], tuneUp := true }).timerStart tmTune 2 0) 90000), 100, 200, 1, by decide +kernel⟩,
   ⟨2, (wMs ((((wModule.fset FEL_MM.STATE 2 mmWARN).fset FEL_TUNER.TUNER_EN 2 1).setFelPort 2 { rls := [100, 200], tuneUp := true, plain := List.replicate 64 (plainWrite 0 0) }).timerStart tmTune 2 0) 90000), 100, 200, 1, by decide +kernel⟩,
   ⟨.pairA, 5, (let s := wPage pgFEL; { s with fel := { s.fel with desc := [(6, 0x09)] } }), by decide +kernel⟩,
   ⟨.pairA, 0, ((wPage pgFEL).setFelPort 0 { plain := List.replicate 64 (plainWrite 0 0) }), by decide +kernel⟩,
   ⟨2, State.reset, by decide +kernel⟩⟩

theorem witness_ConverterLinkCommands :
    (∃ (who : Init) (group : Fin 32) (s : State), (Admitted s who (jlkPage group.val) (jlkOff group.val)) ∧ (s.fget JLK_CFG.SYSREF_MODE group.val ≠ 3) ∧ (s.fget JLK_CFG.ALARM_GPIO group.val ≤ 47 ∨ s.fget JLK_CFG.ALARM_GPIO group.val = 0x3F) ∧ (s.fon JLK_CFG.RX_EN group.val = false) ∧ (s.onFibre group.val = false) ∧ (s.linksPowered = true)) ∧
    (∃ (who : Init) (group : Fin 32) (s : State), (Admitted s who (jlkPage group.val) (jlkOff group.val)) ∧ (s.fget JLK_CFG.SYSREF_MODE group.val ≠ 3) ∧ (s.fget JLK_CFG.ALARM_GPIO group.val ≤ 47 ∨ s.fget JLK_CFG.ALARM_GPIO group.val = 0x3F) ∧ (s.fon JLK_CFG.TX_EN group.val = false) ∧ (s.onFibre (32 + group.val) = false) ∧ (s.linksPowered = true)) ∧
    (∃ (group : Fin 32) (s : State), (s.jlkRuns group.val = true) ∧ (s.rxSt group.val = rxPLL)) ∧
    (∃ (group : Fin 32) (s : State), (s.jlkRuns group.val = true) ∧ (s.rxSt group.val ≠ rxPLL) ∧ (s.txSt group.val = txSTARTING)) ∧
    (∃ (group : Fin 32) (s : State), s.jlkRuns group.val = false) ∧
    (∃ (group : Fin 32) (lock : LaneSync) (s : State), (s.jlkRuns group.val = true) ∧ (rxCDR ≤ s.rxSt group.val) ∧ (s.rxSt group.val ≤ rxEMBLOCK) ∧ (lock = .boundaries true)) ∧
    (∃ (group : Fin 32) (lock : LaneSync) (s : State), (s.jlkRuns group.val = true) ∧ (rxCDR ≤ s.rxSt group.val) ∧ (s.rxSt group.val ≤ rxEMBLOCK) ∧ (lock = .boundaries false)) ∧
    (∃ (group : Fin 32) (lock : LaneSync) (s : State), (s.jlkRuns group.val = true) ∧ (rxCDR ≤ s.rxSt group.val) ∧ (s.rxSt group.val ≤ rxEMBLOCK) ∧ (lock = .headers)) ∧
    (∃ (group : Fin 32) (s : State), s.jlkRuns group.val = false ∨ s.rxSt group.val < rxCDR ∨ rxEMBLOCK < s.rxSt group.val) ∧
    (∃ (s : State) (g : Fin 32), s.awaitsSysref g.val = true) ∧
    (∃ (off : BitVec 32) (s : State) (g : Fin 32), (s.awaitsSysref g.val = false) ∧ (s.fon JLK_STAT.SYSREF_SEEN g.val = true) ∧ (off.toNat.testBit g.val = true) ∧ (s.fget JLK_CFG.SYSREF_MODE g.val ≠ 0)) ∧
    (∃ (group : Fin 32) (s : State), (s.rxSt group.val = rxWAIT) ∧ (s.timerDue tmSysref group.val s.ms 1 = true)) ∧
    (∃ (group : Fin 32) (s : State), (s.jlkRuns group.val = true) ∧ (s.rxSt group.val = rxWAIT) ∧ (s.fon JLK_STAT.SYSREF_SEEN group.val = true)) ∧
    (∃ (group : Fin 32) (dev : Int) (crcErrs : Fin 3) (s : State), (s.jlkRuns group.val = true) ∧ (s.rxSt group.val = rxRUN) ∧ (dev.natAbs ≤ s.fget JLK_X_LIM.ARR_MAX group.val) ∧ (crcErrs.val = 0)) ∧
    (∃ (group : Fin 32) (dev : Int) (crcErrs : Fin 3) (s : State), (s.jlkRuns group.val = true) ∧ (s.rxSt group.val = rxRUN) ∧ (s.fget JLK_X_LIM.ARR_MAX group.val < dev.natAbs) ∧ (crcErrs.val = 0)) ∧
    (∃ (group : Fin 32) (dev : Int) (crcErrs : Fin 3) (s : State), (s.jlkRuns group.val = true) ∧ (s.rxSt group.val = rxRUN) ∧ (dev.natAbs ≤ s.fget JLK_X_LIM.ARR_MAX group.val) ∧ (crcErrs.val ≠ 0)) ∧
    (∃ (group : Fin 32) (s : State), s.jlkRuns group.val = false ∨ s.rxSt group.val ≠ rxRUN) ∧
    (∃ (group : Fin 32) (pll : Bool) (s : State), (rxSHLOCK ≤ s.rxSt group.val) ∧ (pll = true)) ∧
    (∃ (group : Fin 32) (pll : Bool) (s : State), (rxSHLOCK ≤ s.rxSt group.val) ∧ (pll = false)) ∧
    (∃ (group : Fin 32) (s : State), (rxCDR ≤ s.rxSt group.val) ∧ (s.rxSt group.val ≤ rxEMBLOCK) ∧ (s.timerDue tmRelock group.val s.ms 1 = true)) ∧
    (∃ (group : Fin 32) (active : Bool) (s : State), (s.fget JLK_CFG.ALARM_GPIO group.val ≠ 0x3F) ∧ (active = true) ∧ (s.txSt group.val = txSTARTING ∨ s.txSt group.val = txRUN)) ∧
    (∃ (group : Fin 32) (active : Bool) (s : State), (s.fget JLK_CFG.ALARM_GPIO group.val ≠ 0x3F) ∧ (active = false) ∧ (s.txSt group.val = txALARM) ∧ ((s.jlk group.val).alarm = true)) ∧
    (∃ (who : Init) (group : Fin 32) (s : State), (Admitted s who (jlkPage group.val) (jlkOff group.val + 0x0C)) ∧ (s.streamInUse group.val = false) ∧ (s.streamInUse (32 + group.val) = false)) ∧
    (∃ (s : State), s.timerOn tmEqual 0 = false) ∧
    (∃ (who : Init) (group : Fin 32) (s : State), (Admitted s who (jlkPage group.val) (jlkOff group.val + 0x0C)) ∧ (s.streamInUse group.val = true ∨ s.streamInUse (32 + group.val) = true)) :=
  ⟨⟨.pairA, 1, (wPage pgJLK), by decide +kernel⟩,
   ⟨.pairA, 1, (wPage pgJLK), by decide +kernel⟩,
   ⟨1, (wWorks pgJLK (State.reset.setRx 1 rxPLL)), by decide +kernel⟩,
   ⟨1, (wWorks pgJLK (State.reset.setTx 1 txSTARTING)), by decide +kernel⟩,
   ⟨1, State.reset, by decide +kernel⟩,
   ⟨1, .boundaries true, (wWorks pgJLK (State.reset.setRx 1 rxCDR)), by decide +kernel⟩,
   ⟨1, .boundaries false, (wWorks pgJLK (State.reset.setRx 1 rxEMBLOCK)), by decide +kernel⟩,
   ⟨1, .headers, (wWorks pgJLK (State.reset.setRx 1 rxCDR)), by decide +kernel⟩,
   ⟨1, State.reset, by decide +kernel⟩,
   ⟨(State.reset.setRx 31 rxWAIT), 31, by decide +kernel⟩,
   ⟨0x80000000, (((State.reset.setRx 31 rxRUN).fset JLK_STAT.SYSREF_SEEN 31 1).fset JLK_CFG.SYSREF_MODE 31 2), 31, by decide +kernel⟩,
   ⟨1, (wMs ((State.reset.setRx 1 rxWAIT).timerStart tmSysref 1 0) 900), by decide +kernel⟩,
   ⟨1, (wWorks pgJLK ((State.reset.setRx 1 rxWAIT).fset JLK_STAT.SYSREF_SEEN 1 1)), by decide +kernel⟩,
   ⟨31, (-1), 0, (wWorks (jlkPage 31) (State.reset.setRx 31 rxRUN)), by decide +kernel⟩,
   ⟨31, (-70000), 0, (wWorks (jlkPage 31) (State.reset.setRx 31 rxRUN)), by decide +kernel⟩,
   ⟨31, (-1), 2, (wWorks (jlkPage 31) (State.reset.setRx 31 rxRUN)), by decide +kernel⟩,
   ⟨31, State.reset, by decide +kernel⟩,
   ⟨1, true, (State.reset.setRx 1 rxRUN), by decide +kernel⟩,
   ⟨1, false, (State.reset.setRx 1 rxSHLOCK), by decide +kernel⟩,
   ⟨1, (wMs ((State.reset.setRx 1 rxCDR).timerStart tmRelock 1 0) 900), by decide +kernel⟩,
   ⟨1, true, ((State.reset.setTx 1 txRUN).fset JLK_CFG.ALARM_GPIO 1 4), by decide +kernel⟩,
   ⟨1, false, (((State.reset.setTx 1 txALARM).setJlk 1 { alarm := true, alarmIn := true }).fset JLK_CFG.ALARM_GPIO 1 4), by decide +kernel⟩,
   ⟨.pairA, 1, (wPage pgJLK), by decide +kernel⟩,
   ⟨State.reset, by decide +kernel⟩,
   ⟨.pairA, 0, wJlkBusy, by decide +kernel⟩⟩

theorem witness_FronthaulCommands :
    (∃ (side : Fin 2) (lane : Fin 4) (s : State), (s.laneUsed side.val lane.val = true) ∧ (s.fbit (sideLaneUpFld side.val) 0 lane.val = false)) ∧
    (∃ (side : Fin 2) (lane : Fin 4) (s : State), s.fbit (sideLaneUpFld side.val) 0 lane.val = true) ∧
    (∃ (side : Fin 2) (lane : Fin 4) (s : State), s.laneUsed side.val lane.val = false ∨ s.fbit (sideLaneUpFld side.val) 0 lane.val = true) ∧
    (∃ (side : Fin 2) (s : State), s.sideUp side.val = false ∨ s.fon (sidePreFld side.val) 0 = false) ∧
    (∃ (side : Fin 2) (s : State), (s.sideUp side.val = true) ∧ (s.fon (sidePreFld side.val) 0 = true)) ∧
    (∃ (side : Fin 2) (lane : Fin 4) (frame : FhFrame) (arrival : FhArrival) (s : State), (s.works pgFHL = true) ∧ (s.domainRuns (36 + side.val) = true) ∧ (s.sideUp side.val = true) ∧ ((s.lanesUp side.val).contains lane.val = true) ∧ (arrival.fcsOk = true) ∧ (frame = .badRevision)) ∧
    (∃ (side : Fin 2) (lane : Fin 4) (frame : FhFrame) (arrival : FhArrival) (s : State), (s.works pgFHL = true) ∧ (s.domainRuns (36 + side.val) = true) ∧ (s.sideUp side.val = true) ∧ ((s.lanesUp side.val).contains lane.val = true) ∧ (arrival.fcsOk = false) ∧ ((match readFrame frame with | .chain _ _ _ _ _ => false | g => (passesRelay g).isNone) = true)) ∧
    (∃ (side : Fin 2) (lane : Fin 4) (frame : FhFrame) (arrival : FhArrival) (s : State) (dest : Fin 65536) (src : Fin 65536) (hops : Fin 256) (pkt : RawPkt), (s.works pgFHL = true) ∧ (s.domainRuns (36 + side.val) = true) ∧ (s.sideUp side.val = true) ∧ ((s.lanesUp side.val).contains lane.val = true) ∧ (arrival.fcsOk = false) ∧ (frame = .chain dest src hops true pkt) ∧ (1 < hops.val) ∧ (s.chainMine dest.val = false) ∧ (s.relays side.val = true) ∧ (s.lanesUp (1 - side.val) ≠ []) ∧ (arrival.full = false)) ∧
    (∃ (side : Fin 2) (lane : Fin 4) (frame : FhFrame) (arrival : FhArrival) (s : State) (id : Fin 256) (stamp : Nat), (s.works pgFHL = true) ∧ (s.domainRuns (36 + side.val) = true) ∧ (s.sideUp side.val = true) ∧ ((s.lanesUp side.val).contains lane.val = true) ∧ (arrival.fcsOk = true) ∧ (frame = .owdRequest id stamp) ∧ (side.val = 0)) ∧
    (∃ (side : Fin 2) (lane : Fin 4) (frame : FhFrame) (arrival : FhArrival) (s : State) (size : Nat), (s.works pgFHL = true) ∧ (s.domainRuns (36 + side.val) = true) ∧ (s.sideUp side.val = true) ∧ ((s.lanesUp side.val).contains lane.val = true) ∧ (arrival.fcsOk = true) ∧ (frame = .other size)) ∧
    (∃ (side : Fin 2) (lane : Fin 4) (frame : FhFrame) (arrival : FhArrival) (s : State) (dest : Fin 65536) (src : Fin 65536) (hops : Fin 256) (pkt : RawPkt), (s.works pgFHL = true) ∧ (s.domainRuns (36 + side.val) = true) ∧ (s.sideUp side.val = true) ∧ ((s.lanesUp side.val).contains lane.val = true) ∧ (arrival.fcsOk = true) ∧ (frame = .chain dest src hops true pkt) ∧ (hops.val = 1) ∧ (dest.val < 0xFFFD) ∧ (dest.val ≠ s.fget FHL_NODE.NODE_ID 0)) ∧
    (∃ (side : Fin 2) (lane : Fin 4) (frame : FhFrame) (arrival : FhArrival) (s : State) (domain : Fin 256) (master : Nat) (seq : Fin 65536) (interval : Int) (t1 : Nat) (t2 : Nat) (corr : Int), (s.works pgFHL = true) ∧ (s.domainRuns (36 + side.val) = true) ∧ (s.sideUp side.val = true) ∧ ((s.lanesUp side.val).contains lane.val = true) ∧ (arrival.fcsOk = true) ∧ (frame = .ptp (.sync domain master seq interval false t1 t2 corr)) ∧ (side.val = s.fget FHL_PTP_CFG.SIDE 0) ∧ (s.ptpPort domain.val = true) ∧ (s.fhl.ptp.master = some master) ∧ (-7 ≤ interval) ∧ (interval ≤ 0)) ∧
    (∃ (side : Fin 2) (lane : Fin 4) (s : State), s.works pgFHL = false ∨ s.domainRuns (36 + side.val) = false ∨ s.sideUp side.val = false ∨ (s.lanesUp side.val).contains lane.val = false) ∧
    (∃ (who : Init) (flow : Fin 16) (en : Bool) (s : State), (Admitted s who pgFHL (0x100 + 8 * flow.val)) ∧ (s.fget FHL_FLOW_CFG.FEED flow.val ≠ 3) ∧ (s.member.present (bitsOf (s.word (FHL_FLOW_CFG.EN.key flow.val)) 27 24) = true) ∧ (s.fon FHL_FLOW_CFG.EN flow.val = false) ∧ (en = false ∨ s.sideLoad (s.flowTx flow.val) (s.flowSide flow.val) flow.val + s.flowRate flow.val ≤ 4608000)) ∧
    (∃ (who : Init) (flow : Fin 16) (en : Bool) (s : State), (Admitted s who pgFHL (0x100 + 8 * flow.val)) ∧ (s.fget FHL_FLOW_CFG.FEED flow.val ≠ 3) ∧ (s.member.present (bitsOf (s.word (FHL_FLOW_CFG.EN.key flow.val)) 27 24) = true) ∧ (s.fon FHL_FLOW_CFG.EN flow.val = false) ∧ (en = true) ∧ (4608000 < s.sideLoad (s.flowTx flow.val) (s.flowSide flow.val) flow.val + s.flowRate flow.val)) ∧
    (∃ (who : Init) (flow : Fin 16) (s : State), (Admitted s who pgFHL (0x100 + 8 * flow.val)) ∧ (s.fget FHL_FLOW_CFG.FEED flow.val ≠ 3) ∧ (s.member.present (bitsOf (s.word (FHL_FLOW_CFG.EN.key flow.val)) 27 24) = true) ∧ (s.fon FHL_FLOW_CFG.EN flow.val = true)) ∧
    (∃ (flow : Fin 16) (s : State), (s.flowTx flow.val = false) ∧ (s.flowSt flow.val = flACQ ∨ s.flowSt flow.val = flRUN) ∧ (s.timerDue tmFlow flow.val s.us (s.fget FHL_TIMEOUT.FLOW_TO_US 0) = true)) ∧
    (∃ (feed : Fin 3) (s : State), s.feedSwitches feed.val = true) ∧
    (∃ (feed : Fin 3) (s : State), (s.fget FHL_FEED.SIDE feed.val = 2) ∧ (s.feedSide feed.val = 1) ∧ (∀ f ∈ s.feedFlows feed.val, s.flowValid f 0 = true ∧ (s.flow f).sinceA + 1000000 ≤ s.us + 1)) ∧
    (∃ (flow : Fin 16) (blocks : List (List Int)) (s : State), (s.flowTx flow.val = true) ∧ (s.flowSt flow.val = flRUN) ∧ (s.sideUp (s.flowSide flow.val) = true) ∧ (s.lanesUp (s.flowSide flow.val) ≠ []) ∧ (blocks.length = s.fget FHL_FLOW_CFG.BLOCKS_M1 flow.val + 1)) :=
  ⟨⟨1, 3, ((State.reset.fset (sideEnFld 1) 0 1).fsetBit (sideLanesFld 1) 0 3 true), by decide +kernel⟩,
   ⟨1, 3, ((State.reset.fset (sideUpFld 1) 0 1).fsetBit (sideLaneUpFld 1) 0 3 true), by decide +kernel⟩,
   ⟨1, 3, State.reset, by decide +kernel⟩,
   ⟨1, State.reset, by decide +kernel⟩,
   ⟨1, ((State.reset.fset (sideUpFld 1) 0 1).fset (sidePreFld 1) 0 1), by decide +kernel⟩,
   ⟨1, 3, .badRevision, (⟨true, 0, false, 0, 0, false, none⟩), (wFh 1), by decide +kernel⟩,
   ⟨1, 3, .badRevision, (⟨false, 0, false, 0, 0, false, none⟩), (wFh 1), by decide +kernel⟩,
   ⟨1, 3, (.chain 9 8 2 true ⟨[]⟩), (⟨false, 0, false, 0, 0, false, none⟩), wRelay, 9, 8, 2, ⟨[]⟩, by decide +kernel⟩,
   ⟨0, 3, (.owdRequest 7 1000), (⟨true, 0, false, 1500, 0, false, none⟩), (wFh 0), 7, 1000, by decide +kernel⟩,
   ⟨1, 3, (.other 64), (⟨true, 0, false, 1500, 0, false, none⟩), (wFh 1), 64, by decide +kernel⟩,
   ⟨1, 3, (.chain 9 8 1 true ⟨[]⟩), (⟨true, 0, false, 1500, 0, false, none⟩), (wFh 1), 9, 8, 1, ⟨[]⟩, by decide +kernel⟩,
   ⟨0, 3, (.ptp (.sync 24 5 7 (-3) false 1000 1500 0)), (⟨true, 0, false, 1500, 0, false, none⟩), (wPtp (wFh 0)), 24, 5, 7, (-3), 1000, 1500, 0, by decide +kernel⟩,
   ⟨1, 3, State.reset, by decide +kernel⟩,
   ⟨.pairA, 3, true, (wPage pgFHL), by decide +kernel⟩,
   ⟨.pairA, 3, true, wFlows, by decide +kernel⟩,
   ⟨.pairA, 3, ((wPage pgFHL).fset FHL_FLOW_CFG.EN 3 1), by decide +kernel⟩,
   ⟨3, (wMs ((State.reset.setFlowSt 3 flRUN).timerStart tmFlow 3 0) 900), by decide +kernel⟩,
   ⟨1, (State.reset.fset FHL_FEED.SIDE 1 2), by decide +kernel⟩,
   ⟨1, ((State.reset.fset FHL_FEED.SIDE 1 2).fset FHL_FEED.IN_USE 1 1), by decide +kernel⟩,
   ⟨3, ([[1, -2, 3]]), (((((((State.reset.fset FHL_FLOW_CFG.DIR 3 1).fset FHL_FLOW_CFG.BLOCKS_M1 3 0).setFlowSt 3 flRUN).fset (sideUpFld 0) 0 1).fsetBit (sideLaneUpFld 0) 0 3 true))), by decide +kernel⟩⟩

theorem witness_AlignmentAndPtpCommands :
    (∃ (s : State), (s.sideUp 0 = true) ∧ (s.lanesUp 0 ≠ [])) ∧
    (∃ (s : State), s.timerDue tmHopValid 0 s.ms (10 * s.fget FHL_MEAS.MEAS_PERIOD_MS 0) = true) ∧
    (∃ (s : State), s.fon FHL_ALIGN_CFG.EN 0 = false) ∧
    (∃ (s : State) (acc : Int), (s.fon FHL_ALIGN_CFG.EN 0 = true) ∧ (s.alignAcc = some acc) ∧ (s.sideUp 1 = true) ∧ (s.lanesUp 1 ≠ [])) ∧
    (∃ (s : State), s.timerDue tmAlignMsg 0 s.ms (3 * s.fget FHL_MEAS.ALIGN_PERIOD_MS 0) = true) ∧
    (∃ (s : State), (s.timerDue tmPtp 0 s.ms (s.fget FHL_PTP_CFG2.PTP_TO_MS 0) = true) ∧ (s.fon FHL_PTP_STAT.LOCK 0 = true)) ∧
    (∃ (who : Init) (freq : BitVec 32) (s : State), (Admitted s who pgFHL 0x214) ∧ (s.fon FHL_PTP_CFG.SERVO 0 = false) ∧ (-6553600 ≤ toSigned freq.toNat (2 ^ 32)) ∧ (toSigned freq.toNat (2 ^ 32) ≤ 6553600)) ∧
    (∃ (who : Init) (s : State), (Admitted s who pgFHL 0x218) ∧ (s.fon FHL_PTP_CFG.SERVO 0 = false)) :=
  ⟨⟨((State.reset.fset (sideUpFld 0) 0 1).fsetBit (sideLaneUpFld 0) 0 3 true), by decide +kernel⟩,
   ⟨(wMs (State.reset.timerStart tmHopValid 0 0) 90000), by decide +kernel⟩,
   ⟨State.reset, by decide +kernel⟩,
   ⟨((((((State.reset.fset FHL_ALIGN_CFG.EN 0 1).fset (sideUpFld 1) 0 1).fsetBit (sideLaneUpFld 1) 0 3 true))).setAlign { State.reset.fhl.align with acc := some 0 }), 0, by decide +kernel⟩,
   ⟨(wMs (State.reset.timerStart tmAlignMsg 0 0) 90000), by decide +kernel⟩,
   ⟨(wMs ((State.reset.fset FHL_PTP_STAT.LOCK 0 1).timerStart tmPtp 0 0) 90000), by decide +kernel⟩,
   ⟨.pairA, 77, ((wPage pgFHL).fset FHL_PTP_CFG.SERVO 0 0), by decide +kernel⟩,
   ⟨.pairA, ((wPage pgFHL).fset FHL_PTP_CFG.SERVO 0 0), by decide +kernel⟩⟩

theorem witness_PacketTransportCommands :
    (∃ (transport : Fin 3) (source : Nat) (pkt : RawPkt) (s : State) (p : Pkt), (transport.val = 1) ∧ (s.fon MGE_CFG.EN 0 = true) ∧ (s.fon MGE_STAT.LINK_UP 0 = true) ∧ (s.works pgGCP = true) ∧ (s.works pgMGE = true) ∧ (s.pwr.transportsOff = false) ∧ (pktOk (pkt.bytes.map fun x => x.val) = true) ∧ (parsePkt 1 source (pkt.bytes.map fun x => x.val) = p) ∧ (p.typ = typINFO)) ∧
    (∃ (transport : Fin 3) (source : Nat) (pkt : RawPkt) (s : State) (p : Pkt), (transport.val = 0) ∧ (s.works pgGCP = true) ∧ (s.works pgPCIE = true) ∧ (s.ringsServe = true) ∧ (s.pwr.transportsOff = false) ∧ (s.fon PCIE_STAT.LINK_UP 0 = true) ∧ (s.fon PCIE_RING.EN (source % 3) = true) ∧ (s.arrivedAt (source % 3) = []) ∧ (s.fget PCIE_RQ_PROD.PROD (source % 3) ≠ s.fget PCIE_IDX.RQ_CONS (source % 3)) ∧ (pktOk (pkt.bytes.map fun x => x.val) = true) ∧ (parsePkt 0 (source % 3) (pkt.bytes.map fun x => x.val) = p) ∧ (p.typ = typINFO)) ∧
    (∃ (transport : Fin 3) (source : Nat) (pkt : RawPkt) (s : State), (transport.val = 1) ∧ (s.fon MGE_CFG.EN 0 = true) ∧ (s.fon MGE_STAT.LINK_UP 0 = true) ∧ (s.works pgGCP = true) ∧ (s.works pgMGE = true) ∧ (s.pwr.transportsOff = false) ∧ (pktOk (pkt.bytes.map fun x => x.val) = true) ∧ ((parsePkt 1 source (pkt.bytes.map fun x => x.val)).typ ≠ typINFO) ∧ (s.rst.recovery = false) ∧ (s.tagGood (parsePkt 1 source (pkt.bytes.map fun x => x.val)).ident 1 (pkt.bytes.map fun x => x.val) = true) ∧ (((s.replayOf (replayKey 1 (parsePkt 1 source (pkt.bytes.map fun x => x.val)).ident)).see (parsePkt 1 source (pkt.bytes.map fun x => x.val)).seq).isSome = true)) ∧
    (∃ (transport : Fin 3) (source : Nat) (pkt : RawPkt) (s : State), (transport.val = 1) ∧ (s.fon MGE_CFG.EN 0 = true) ∧ (s.fon MGE_STAT.LINK_UP 0 = true) ∧ (s.works pgGCP = true) ∧ (s.works pgMGE = true) ∧ (s.pwr.transportsOff = false) ∧ (pktOk (pkt.bytes.map fun x => x.val) = true) ∧ ((parsePkt 1 source (pkt.bytes.map fun x => x.val)).typ ≠ typINFO) ∧ (s.rst.recovery = false) ∧ (s.tagGood (parsePkt 1 source (pkt.bytes.map fun x => x.val)).ident 1 (pkt.bytes.map fun x => x.val) = false)) ∧
    (∃ (transport : Fin 3) (source : Nat) (pkt : RawPkt) (s : State), (transport.val = 1) ∧ (s.fon MGE_CFG.EN 0 = true) ∧ (s.fon MGE_STAT.LINK_UP 0 = true) ∧ (s.works pgGCP = true) ∧ (s.works pgMGE = true) ∧ (s.pwr.transportsOff = false) ∧ (pktOk (pkt.bytes.map fun x => x.val) = true) ∧ ((parsePkt 1 source (pkt.bytes.map fun x => x.val)).typ ≠ typINFO) ∧ (s.rst.recovery = false) ∧ (s.tagGood (parsePkt 1 source (pkt.bytes.map fun x => x.val)).ident 1 (pkt.bytes.map fun x => x.val) = true) ∧ ((s.replayOf (replayKey 1 (parsePkt 1 source (pkt.bytes.map fun x => x.val)).ident)).see (parsePkt 1 source (pkt.bytes.map fun x => x.val)).seq = none) ∧ (((s.replayOf (replayKey 1 (parsePkt 1 source (pkt.bytes.map fun x => x.val)).ident)).kept (parsePkt 1 source (pkt.bytes.map fun x => x.val)).seq) = none)) ∧
    (∃ (transport : Fin 3) (source : Nat) (pkt : RawPkt) (s : State), (transport.val = 1) ∧ (pktOk (pkt.bytes.map fun x => x.val) = true) ∧ ((parsePkt 1 source (pkt.bytes.map fun x => x.val)).typ ≠ typINFO) ∧ (s.rst.recovery = true)) ∧
    (∃ (transport : Fin 3) (pkt : RawPkt) (s : State), (transport.val = 1) ∧ (s.fon MGE_CFG.EN 0 = true) ∧ (s.fon MGE_STAT.LINK_UP 0 = true) ∧ (s.works pgGCP = true) ∧ (s.works pgMGE = true) ∧ (s.pwr.transportsOff = false) ∧ (pktOk (pkt.bytes.map fun x => x.val) = false)) ∧
    (∃ (transport : Fin 3) (source : Nat) (pkt : RawPkt) (s : State), (transport.val = 2) ∧ (s.sideUp (source / 65536 % 2) = true) ∧ (s.works pgGCP = true) ∧ (s.works pgFHL = true) ∧ (s.pwr.transportsOff = false) ∧ (pktOk (pkt.bytes.map fun x => x.val) = true) ∧ ((parsePkt 2 source (pkt.bytes.map fun x => x.val)).typ = typINFO)) ∧
    (∃ (s : State), s.works pgGCP = false ∨ s.pwr.transportsOff = true) ∧
    (∃ (who : Init) (cls : Fin 3) (index : BitVec 32) (s : State), (Admitted s who pgPCIE (0x084 + 16 * cls.val)) ∧ (63 < index.toNat)) ∧
    (∃ (who : Init) (cls : Fin 3) (index : BitVec 32) (s : State), (Admitted s who pgPCIE (0x08C + 16 * cls.val)) ∧ (63 < index.toNat)) ∧
    (∃ (who : Init) (cls : Fin 3) (index : BitVec 32) (s : State), (Admitted s who pgPCIE (0x084 + 16 * cls.val)) ∧ (index.toNat ≤ 63)) ∧
    (∃ (who : Init) (cls : Fin 3) (index : BitVec 32) (s : State), (Admitted s who pgPCIE (0x08C + 16 * cls.val)) ∧ (index.toNat ≤ 63)) ∧
    (∃ (who : Init) (cls : Fin 3) (en : Bool) (s : State), (Admitted s who pgPCIE (0x080 + 16 * cls.val)) ∧ (en = true)) ∧
    (∃ (who : Init) (cls : Fin 3) (en : Bool) (s : State), (Admitted s who pgPCIE (0x080 + 16 * cls.val)) ∧ (en = false)) ∧
    (∃ (up : Bool) (s : State), (up = true) ∧ (s.fon PCIE_STAT.LINK_UP 0 = false) ∧ (s.running pgPCIE = true)) ∧
    (∃ (up : Bool) (s : State), (up = false) ∧ (s.fon PCIE_STAT.LINK_UP 0 = true) ∧ (s.running pgPCIE = true)) ∧
    (∃ (frame : MgeFrame) (s : State) (n : Nat) (vlan : Option (Fin 4096)) (a : BitVec 128), (s.works pgMGE = true) ∧ (s.fon MGE_CFG.EN 0 = true) ∧ (s.fon MGE_STAT.LINK_UP 0 = true) ∧ (frame = .solicit n vlan a) ∧ (s.mgeBad n vlan = false) ∧ (s.mgeMine a.toNat = true)) ∧
    (∃ (s : State), s.timerDue tmMgeLink 0 s.ms 10 = true) ∧
    (∃ (requester : Fin 4) (busy : Bool) (s : State) (p : Pkt) (rest : List Pkt), (s.works pgBUF = true) ∧ (s.bufTurn = some requester.val) ∧ (requester.val = 1 ∨ requester.val = 2) ∧ (s.arrivedAt (2 + requester.val) = p :: rest) ∧ (s.canAlloc p.queue = true) ∧ (busy = true ∨ s.stagingOf requester.val = [])) ∧
    (∃ (requester : Fin 4) (busy : Bool) (s : State) (p : Pkt) (rest : List Pkt), (s.works pgBUF = true) ∧ (s.bufTurn = some requester.val) ∧ (requester.val = 1 ∨ requester.val = 2) ∧ (p.transport = requester.val) ∧ (s.arrivedAt (2 + requester.val) = p :: rest) ∧ (s.canAlloc p.queue = false) ∧ (s.stagingOf requester.val = []) ∧ (busy = false)) ∧
    (∃ (requester : Fin 4) (busy : Bool) (s : State) (p : Pkt) (rest : List Pkt), (s.works pgBUF = true) ∧ (s.bufTurn = some requester.val) ∧ (requester.val = 1 ∨ requester.val = 2) ∧ (p.transport = requester.val) ∧ (s.arrivedAt (2 + requester.val) = p :: rest) ∧ (s.canAlloc p.queue = false) ∧ ((s.stagingOf requester.val).length < 4) ∧ (busy = true)) ∧
    (∃ (requester : Fin 4) (busy : Bool) (s : State) (p : Pkt) (rest : List Pkt), (s.works pgBUF = true) ∧ (s.bufTurn = some requester.val) ∧ (requester.val = 1 ∨ requester.val = 2) ∧ (p.transport = requester.val) ∧ (s.arrivedAt (2 + requester.val) = p :: rest) ∧ (s.canAlloc p.queue = false) ∧ (4 ≤ (s.stagingOf requester.val).length) ∧ (busy = true)) ∧
    (∃ (requester : Fin 4) (s : State) (p : Pkt) (rest : List Pkt) (k : Nat), (s.works pgBUF = true) ∧ (s.bufTurn = some 0) ∧ (requester.val = 0) ∧ (k < 3) ∧ (s.arrivedAt k = p :: rest) ∧ (s.canAlloc p.queue = true) ∧ (∀ j : Fin 3, j.val < k → s.arrivedAt j.val = [])) ∧
    (∃ (requester : Fin 4) (busy : Bool) (s : State), s.works pgBUF = false ∨ (s.bufTurn ≠ some requester.val ∧ (busy = true ∨ s.stagingOf requester.val = []))) ∧
    (∃ (s : State) (tr : Nat) (p : Pkt) (rest : List Pkt), (s.works pgGCP = true) ∧ (((List.range 9).filter fun q => (s.runningOf q).isSome).length < 8) ∧ (s.nextTransport 0 = some tr) ∧ (s.queueOf (3 * tr) = p :: rest) ∧ (s.startRefusal p = none)) ∧
    (∃ (s : State) (tr : Nat) (p : Pkt) (rest : List Pkt) (r : Nat), (s.works pgGCP = true) ∧ (((List.range 9).filter fun q => (s.runningOf q).isSome).length < 8) ∧ (s.nextTransport 0 = some tr) ∧ (s.queueOf (3 * tr) = p :: rest) ∧ (s.startRefusal p = some r)) ∧
    (∃ (s : State) (tr : Nat) (p : Pkt) (rest : List Pkt), (s.works pgGCP = true) ∧ (((List.range 9).filter fun q => (s.runningOf q).isSome).length < 8) ∧ (s.nextTransport 0 = none) ∧ (s.nextTransport 1 = none) ∧ (s.nextTransport 2 = some tr) ∧ (s.queueOf (3 * tr + 2) = p :: rest) ∧ (s.startRefusal p = none)) ∧
    (∃ (s : State) (tr : Nat) (p : Pkt) (rest : List Pkt), (s.works pgGCP = true) ∧ (((List.range 9).filter fun q => (s.runningOf q).isSome).length < 8) ∧ (s.nextTransport 0 = none) ∧ (s.nextTransport 1 = some tr) ∧ ((s.nextTransport 2).isSome = true) ∧ (s.gcp.controlRun < 3) ∧ (s.queueOf (3 * tr + 1) = p :: rest) ∧ (s.startRefusal p = none)) ∧
    (∃ (s : State), s.works pgGCP = false ∨ 8 ≤ ((List.range 9).filter fun q => (s.runningOf q).isSome).length) ∧
    (∃ (queue : Fin 9) (s : State) (p : Pkt) (rest : List Pkt), (s.queueOf queue.val = p :: rest) ∧ (p.at_ + 1 + s.fget GCP_TIME.Q_TIMEOUT_MS 0 ≤ s.ms)) ∧
    (∃ (s : State), (s.fget GCP_HOST.HOST_TO_S 0 ≠ 0) ∧ (s.timerDue tmHost 0 s.sec_ (s.fget GCP_HOST.HOST_TO_S 0) = true)) :=
  ⟨⟨1, 7, ⟨[0x14, 1, 0, 0, 0, 0, 0, 0, 0, 0, 0, 0, 0, 0, 0, 0]⟩, wMgeUp, ({ cls := 1, typ := 1, ident := 0, transport := 1, source := 7, seq := 0, arg16 := 0, arg32 := 0, payload := [], at_ := 0 }), by decide +kernel⟩,
   ⟨0, 2, ⟨[0x14, 1, 0, 0, 0, 0, 0, 0, 0, 0, 0, 0, 0, 0, 0, 0]⟩, wRingUp, ({ cls := 1, typ := 1, ident := 0, transport := 0, source := 2, seq := 0, arg16 := 0, arg32 := 0, payload := [], at_ := 0 }), by decide +kernel⟩,
   ⟨1, 7, wRaw, wKeyed, by decide +kernel⟩,
   ⟨1, 7, ⟨[0x14, 0x13, 0x10, 0, 0, 0, 0, 9, 0, 0, 0, 5, 0, 0, 0, 0, 0, 0, 0, 0, 0, 0, 0, 0, 0, 0, 0, 0, 0, 0, 0, 0]⟩, wKeyed, by decide +kernel⟩,
   ⟨1, 7, wRaw, (wKeyed.setReplay (replayKey 1 16) { high := some 9 }), by decide +kernel⟩,
   ⟨1, 7, wRaw, ({ wKeyed with rst := { wKeyed.rst with recovery := true } }), by decide +kernel⟩,
   ⟨1, ⟨[]⟩, wMgeUp, by decide +kernel⟩,
   ⟨2, 7, ⟨[0x14, 1, 0, 0, 0, 0, 0, 0, 0, 0, 0, 0, 0, 0, 0, 0]⟩, (wWorks pgGCP (wFh 0)), by decide +kernel⟩,
   ⟨State.reset, by decide +kernel⟩,
   ⟨.pairA, 2, 64, (wPage pgPCIE), by decide +kernel⟩,
   ⟨.pairA, 2, 64, (wPage pgPCIE), by decide +kernel⟩,
   ⟨.pairA, 2, 63, (wPage pgPCIE), by decide +kernel⟩,
   ⟨.pairA, 2, 63, (wPage pgPCIE), by decide +kernel⟩,
   ⟨.pairA, 2, true, (wPage pgPCIE), by decide +kernel⟩,
   ⟨.pairA, 0, false, (wPage pgPCIE), by decide +kernel⟩,
   ⟨true, (wPage pgPCIE), by decide +kernel⟩,
   ⟨false, ((wPage pgPCIE).fset PCIE_STAT.LINK_UP 0 1), by decide +kernel⟩,
   ⟨(.solicit 100 none (BitVec.ofNat 128 State.reset.linkLocal)), wMgeUp, 100, none, (BitVec.ofNat 128 State.reset.linkLocal), by decide +kernel⟩,
   ⟨(wMs (State.reset.timerStart tmMgeLink 0 0) 900), by decide +kernel⟩,
   ⟨1, false, ((wWorks pgBUF State.reset).setArrived 3 [{ cls := 1, typ := 1, ident := 0, transport := 1, source := 7, seq := 0, arg16 := 0, arg32 := 0, payload := [], at_ := 0 }]), ({ cls := 1, typ := 1, ident := 0, transport := 1, source := 7, seq := 0, arg16 := 0, arg32 := 0, payload := [], at_ := 0 }), [], by decide +kernel⟩,
   ⟨1, false, (((wWorks pgBUF State.reset).fset BUF_QCFG.QMAX 4 0).setArrived 3 [{ cls := 1, typ := 1, ident := 0, transport := 1, source := 7, seq := 0, arg16 := 0, arg32 := 0, payload := [], at_ := 0 }]), ({ cls := 1, typ := 1, ident := 0, transport := 1, source := 7, seq := 0, arg16 := 0, arg32 := 0, payload := [], at_ := 0 }), [], by decide +kernel⟩,
   ⟨1, true, (((wWorks pgBUF State.reset).fset BUF_QCFG.QMAX 4 0).setArrived 3 [{ cls := 1, typ := 1, ident := 0, transport := 1, source := 7, seq := 0, arg16 := 0, arg32 := 0, payload := [], at_ := 0 }]), ({ cls := 1, typ := 1, ident := 0, transport := 1, source := 7, seq := 0, arg16 := 0, arg32 := 0, payload := [], at_ := 0 }), [], by decide +kernel⟩,
   ⟨1, true, ((((wWorks pgBUF State.reset).fset BUF_QCFG.QMAX 4 0).setArrived 3 [{ cls := 1, typ := 1, ident := 0, transport := 1, source := 7, seq := 0, arg16 := 0, arg32 := 0, payload := [], at_ := 0 }]).setStaging 1 (List.replicate 4 { typ := 1, kind := 1, cls := 1, ident := 0, transport := 1, source := 7, seq := 0, status := 0, arg16 := 0, arg32 := 0, payload := [] })), ({ cls := 1, typ := 1, ident := 0, transport := 1, source := 7, seq := 0, arg16 := 0, arg32 := 0, payload := [], at_ := 0 }), [], by decide +kernel⟩,
   ⟨0, ((wWorks pgBUF State.reset).setArrived 1 [{ cls := 1, typ := 1, ident := 0, transport := 0, source := 1, seq := 0, arg16 := 0, arg32 := 0, payload := [], at_ := 0 }]), ({ cls := 1, typ := 1, ident := 0, transport := 0, source := 1, seq := 0, arg16 := 0, arg32 := 0, payload := [], at_ := 0 }), [], 1, by decide +kernel⟩,
   ⟨1, true, (wWorks pgBUF State.reset), by decide +kernel⟩,
   ⟨((wWorks pgGCP State.reset).setQueue 0 [wPkt 1 0 0 0 0 []]), 0, (wPkt 1 0 0 0 0 []), [], by decide +kernel⟩,
   ⟨((wWorks pgGCP State.reset).setQueue 0 [wPkt 99 0 0 0 0 []]), 0, (wPkt 99 0 0 0 0 []), [], 0x10, by decide +kernel⟩,
   ⟨((wWorks pgGCP State.reset).setQueue 2 [wPkt 1 2 0 0 0 []]), 0, (wPkt 1 2 0 0 0 []), [], by decide +kernel⟩,
   ⟨(((wWorks pgGCP State.reset).setQueue 2 [wPkt 1 2 0 0 0 []]).setQueue 1 [wPkt 1 1 0 0 0 []]), 0, (wPkt 1 1 0 0 0 []), [], by decide +kernel⟩,
   ⟨State.reset, by decide +kernel⟩,
   ⟨0, (wMs (State.reset.setQueue 0 [wPkt 1 0 0 0 0 []]) 90000), (wPkt 1 0 0 0 0 []), [], by decide +kernel⟩,
   ⟨(wMs ((State.reset.fset GCP_HOST.HOST_TO_S 0 5).timerStart tmHost 0 0) 90000), by decide +kernel⟩⟩

theorem witness_PacketReadCommands :
    (∃ (queue : Fin 9) (s : State) (p : Pkt), (s.runningOf queue.val = some p) ∧ (p.typ = 1) ∧ (p.started = false) ∧ (s.lcStands p = true) ∧ (p.payload = [])) ∧
    (∃ (queue : Fin 9) (s : State) (p : Pkt) (id : Ident), (s.runningOf queue.val = some p) ∧ (p.typ = 2) ∧ (p.started = false) ∧ (s.lcStands p = true) ∧ (p.who = some id) ∧ (p.payload = []) ∧ (0 < p.arg16) ∧ (p.arg16 ≤ 256) ∧ (s.fnState 0 = fnON) ∧ ((regReads s id p).bad = none) ∧ ((regReads s id p).s.runningOf queue.val = some p)) ∧
    (∃ (queue : Fin 9) (s : State) (p : Pkt) (id : Ident) (x : Nat × Nat), (s.runningOf queue.val = some p) ∧ (p.typ = 2) ∧ (p.started = false) ∧ (s.lcStands p = true) ∧ (p.who = some id) ∧ (p.payload = []) ∧ (0 < p.arg16) ∧ (p.arg16 ≤ 256) ∧ (s.fnState 0 = fnON) ∧ ((regReads s id p).bad = some x) ∧ ((regReads s id p).s.runningOf queue.val = some p)) ∧
    (∃ (queue : Fin 9) (s : State) (p : Pkt) (id : Ident), (s.runningOf queue.val = some p) ∧ (p.typ = 3) ∧ (p.started = false) ∧ (s.lcStands p = true) ∧ (p.who = some id) ∧ (p.payload.length % 8 = 0) ∧ (0 < p.payload.length) ∧ (p.payload.length ≤ 1024) ∧ (s.fnState 0 = fnON) ∧ ((regWrites s id queue.val p).bad = none) ∧ ((regWrites s id queue.val p).s.runningOf queue.val = some p)) ∧
    (∃ (queue : Fin 9) (s : State) (p : Pkt), (s.runningOf queue.val = some p) ∧ (p.typ = 4) ∧ (p.started = false) ∧ (s.lcStands p = true) ∧ (p.payload = [])) ∧
    (∃ (queue : Fin 9) (s : State) (p : Pkt) (id : Ident), (s.runningOf queue.val = some p) ∧ (p.typ = 16) ∧ (p.started = false) ∧ (s.lcStands p = true) ∧ (p.payload ≠ []) ∧ (p.payload.length ≤ 1024) ∧ (s.running pgSCH = true) ∧ (p.who = some id) ∧ (s.slotState (p.arg16 % 2) = slotLOADING) ∧ (s.loaderOf (p.arg16 % 2) = some id) ∧ (p.arg32 % 1024 = 0) ∧ (p.arg32 + p.payload.length ≤ slotBytes)) ∧
    (∃ (queue : Fin 9) (s : State) (p : Pkt) (keys : List Nat), (s.runningOf queue.val = some p) ∧ (p.typ = 17) ∧ (p.started = false) ∧ (s.lcStands p = true) ∧ (p.payload = []) ∧ (s.tapRefusal p.arg16 = none) ∧ (keys = (s.tapList p.arg16).drop p.arg32) ∧ (keys ≠ []) ∧ (s.fnState 2 = fnON)) ∧
    (∃ (queue : Fin 9) (s : State) (p : Pkt) (id : Ident) (keys : List Nat), (s.runningOf queue.val = some p) ∧ (p.typ = 18) ∧ (p.started = false) ∧ (s.lcStands p = true) ∧ (p.payload ≠ []) ∧ (p.payload.length % 8 = 0) ∧ (p.payload.length ≤ 1024) ∧ (s.tapRefusal p.arg16 = none) ∧ (p.who = some id) ∧ (s.admitWrite (.engine id) pgCAN 0x44C = none) ∧ (s.canState p.arg16 = canFROZEN) ∧ (keys = (s.tapList p.arg16).drop p.arg32) ∧ (s.fnState 2 = fnON) ∧ ((s.writeTaps p.payload 0 (keys.take (p.payload.length / 8))).2 = (p.payload.length / 8, none))) ∧
    (∃ (queue : Fin 9) (s : State) (p : Pkt) (id : Ident), (s.runningOf queue.val = some p) ∧ (p.typ = 19) ∧ (p.started = false) ∧ (s.lcStands p = true) ∧ (p.who = some id) ∧ (p.payload = []) ∧ ((s.selectCtx (.engine id) p.arg16 true).lastReason (.engine id) = 0)) ∧
    (∃ (queue : Fin 9) (s : State) (p : Pkt) (id : Ident), (s.runningOf queue.val = some p) ∧ (p.typ = 20) ∧ (p.started = false) ∧ (s.lcStands p = true) ∧ (p.who = some id) ∧ (p.payload.length % 4 = 0) ∧ (p.payload ≠ []) ∧ (p.arg32 + p.payload.length / 4 ≤ 64) ∧ ((s.selectCtx (.engine id) p.arg16 true).lastReason (.engine id) = 0) ∧ ((((s.selectCtx (.engine id) p.arg16 true).takeSnapshot (Init.engine id).holder).writeCtxWords (.engine id) p.arg32 p.payload 0 (p.payload.length / 4)).2 = none) ∧ (((((s.selectCtx (.engine id) p.arg16 true).takeSnapshot (Init.engine id).holder).writeCtxWords (.engine id) p.arg32 p.payload 0 (p.payload.length / 4)).1.commitWindow (.engine id)).lastReason (.engine id) = 0)) ∧
    (∃ (queue : Fin 9) (s : State) (p : Pkt), (s.runningOf queue.val = some p) ∧ (p.typ = 80) ∧ (p.started = false) ∧ (s.lcStands p = true) ∧ (p.payload = []) ∧ (p.arg16 ≤ 15) ∧ (s.running pgCEN = true) ∧ (s.fget CEN_TRC_STAT.STATE p.arg16 ≠ trARMED) ∧ (s.fget CEN_TRC_STAT.STATE p.arg16 ≠ trTRIGGERED)) ∧
    (∃ (queue : Fin 9) (s : State) (p : Pkt), (s.runningOf queue.val = some p) ∧ (p.typ = 81) ∧ (p.started = false) ∧ (s.lcStands p = true) ∧ (p.payload = []) ∧ (s.running pgEVR = true) ∧ ((s.evr.held.filter fun e => decide (p.arg32 ≤ e.1.seq)) ≠ [])) ∧
    (∃ (queue : Fin 9) (s : State) (p : Pkt) (r : CapRecord), (s.runningOf queue.val = some p) ∧ (p.typ = 66) ∧ (p.started = false) ∧ (s.lcStands p = true) ∧ (p.payload = []) ∧ (s.capOther p = none) ∧ (((s.cap p.arg16).records.find? fun r => decide (r.off = p.arg32)) = some r) ∧ (s.capStream p.arg16 = false)) :=
  ⟨⟨0, (wRun (wPkt 1 0 0 0 0 []) State.reset), (wPkt 1 0 0 0 0 []), by decide +kernel⟩,
   ⟨0, (wRun (wPkt 2 0 0x10 1 0x14014 []) (wPage pgCAN)), (wPkt 2 0 0x10 1 0x14014 []), .integrator, by decide +kernel⟩,
   ⟨0, (wRun (wPkt 2 0 0x10 1 0x3FFFC []) (wPage pgCAN)), (wPkt 2 0 0x10 1 0x3FFFC []), .integrator, ((0, 9)), by decide +kernel⟩,
   ⟨0, (wRun (wPkt 3 0 0x10 1 0 [0, 1, 0x40, 0x14, 0, 0, 0, 0x77]) (wLc (wPage pgCAN))), (wPkt 3 0 0x10 1 0 [0, 1, 0x40, 0x14, 0, 0, 0, 0x77]), .integrator, by decide +kernel⟩,
   ⟨0, (wRun (wPkt 4 0 0 0 0 []) State.reset), (wPkt 4 0 0 0 0 []), by decide +kernel⟩,
   ⟨2, (wRun (wPkt 16 2 0x10 0 0 [1, 2, 3]) (wLoading.setLoader 0 (some .integrator))), (wPkt 16 2 0x10 0 0 [1, 2, 3]), .integrator, by decide +kernel⟩,
   ⟨2, (wRun (wPkt 17 2 0x10 0 0 []) (((wPage pgCAN).fset CAN_MAP.EN 0 1).fset CAN_MAP.LEN 0 2)), (wPkt 17 2 0x10 0 0 []), (((wRun (wPkt 17 2 0x10 0 0 []) (((wPage pgCAN).fset CAN_MAP.EN 0 1).fset CAN_MAP.LEN 0 2)).tapList 0)), by decide +kernel⟩,
   ⟨2, (wRun (wPkt 18 2 0x10 0 0 [0, 0, 0, 1, 0, 0, 0, 2]) (wLc (((((wPage pgCAN).fset CAN_MAP.EN 0 1).fset CAN_MAP.LEN 0 2).setCanState 0 canFROZEN).setExpertSt pgCAN (.engine .integrator) { opened := true }))), (wPkt 18 2 0x10 0 0 [0, 0, 0, 1, 0, 0, 0, 2]), .integrator, (((wRun (wPkt 18 2 0x10 0 0 [0, 0, 0, 1, 0, 0, 0, 2]) (wLc (((((wPage pgCAN).fset CAN_MAP.EN 0 1).fset CAN_MAP.LEN 0 2).setCanState 0 canFROZEN).setExpertSt pgCAN (.engine .integrator) { opened := true }))).tapList 0)), by decide +kernel⟩,
   ⟨1, (wRun (wPkt 19 1 0x10 2 0 []) (wLc (wPage pgCTXW))), (wPkt 19 1 0x10 2 0 []), .integrator, by decide +kernel⟩,
   ⟨1, (wRun (wPkt 20 1 0x10 2 9 [0, 0, 0, 0]) (wLc (wPage pgCTXW))), (wPkt 20 1 0x10 2 9 [0, 0, 0, 0]), .integrator, by decide +kernel⟩,
   ⟨2, (wRun (wPkt 80 2 0x10 3 0 []) (wPage pgCEN)), (wPkt 80 2 0x10 3 0 []), by decide +kernel⟩,
   ⟨2, (wRun (wPkt 81 2 0x10 0 0 []) wRecs), (wPkt 81 2 0x10 0 0 []), by decide +kernel⟩,
   ⟨2, (wRun (wPkt 66 2 0x10 3 4 []) wCapRun), (wPkt 66 2 0x10 3 4 []), (⟨4, 0, 9, [2]⟩), by decide +kernel⟩⟩

theorem witness_PacketActionCommands :
    (∃ (queue : Fin 9) (s : State) (p : Pkt), (s.runningOf queue.val = some p) ∧ (p.typ = 0x20) ∧ (p.started = false) ∧ (s.lcStands p = true) ∧ (p.payload.getD 0 0 = 1) ∧ (p.payload.getD 1 0 ≤ 3) ∧ (p.payload.getD 4 0 ≤ 3 ∨ p.payload.getD 4 0 = 6) ∧ (0 < p.payload.getD 5 0) ∧ (p.payload.getD 5 0 ≤ 126) ∧ (p.payload.length = 16 + 8 * p.payload.getD 5 0) ∧ (beValue ((p.payload.drop 6).take 2) ≤ 1023) ∧ (p.payload.getD 8 0 < slotsOf (p.payload.getD 4 0 % 4)) ∧ (beValue ((p.payload.drop 2).take 2) ≠ 0xFFFF) ∧ ((p.payload.drop 9).take 7 = List.replicate 7 0) ∧ (s.fnState 4 = fnON) ∧ ((gridScYield s queue.val p).descs ≠ []) ∧ ((gridScYield s queue.val p).descs.length ≤ s.gridCredits wrSIDE)) ∧
    (∃ (queue : Fin 9) (s : State) (p : Pkt), (s.runningOf queue.val = some p) ∧ (p.typ = 0x20) ∧ (p.started = false) ∧ (s.lcStands p = true) ∧ (p.payload.getD 0 0 = 1) ∧ (p.payload.getD 1 0 ≤ 3) ∧ (p.payload.getD 4 0 ≤ 3 ∨ p.payload.getD 4 0 = 6) ∧ (0 < p.payload.getD 5 0) ∧ (p.payload.getD 5 0 ≤ 126) ∧ (p.payload.length = 16 + 8 * p.payload.getD 5 0) ∧ (beValue ((p.payload.drop 6).take 2) ≤ 1023) ∧ (p.payload.getD 8 0 < slotsOf (p.payload.getD 4 0 % 4)) ∧ (beValue ((p.payload.drop 2).take 2) ≠ 0xFFFF) ∧ ((p.payload.drop 9).take 7 = List.replicate 7 0) ∧ (s.gridCredits wrSIDE < (gridScYield s queue.val p).descs.length)) ∧
    (∃ (queue : Fin 9) (s : State) (p : Pkt), (s.runningOf queue.val = some p) ∧ (p.typ = 0x20) ∧ (p.started = false) ∧ (s.lcStands p = true) ∧ (p.payload.getD 0 0 = 1) ∧ (p.payload.getD 1 0 ≤ 3) ∧ (p.payload.getD 4 0 ≤ 3 ∨ p.payload.getD 4 0 = 6) ∧ (0 < p.payload.getD 5 0) ∧ (p.payload.getD 5 0 ≤ 126) ∧ (p.payload.length = 16 + 8 * p.payload.getD 5 0) ∧ (beValue ((p.payload.drop 6).take 2) ≤ 1023) ∧ (p.payload.getD 8 0 < slotsOf (p.payload.getD 4 0 % 4)) ∧ (beValue ((p.payload.drop 2).take 2) ≠ 0xFFFF) ∧ ((p.payload.drop 9).take 7 = List.replicate 7 0) ∧ ((gridScYield s queue.val p).descs = []) ∧ ((gridScYield s queue.val p).sum.status = 0)) ∧
    (∃ (queue : Fin 9) (s : State) (p : Pkt), (s.runningOf queue.val = some p) ∧ (p.typ = 0x20 ∨ p.typ = 0x21) ∧ (p.started = false) ∧ (s.lcStands p = true) ∧ (p.payload = [])) ∧
    (∃ (queue : Fin 9) (s : State) (p : Pkt), (s.runningOf queue.val = some p) ∧ (p.typ = 0x21) ∧ (p.started = false) ∧ (s.lcStands p = true) ∧ (p.payload.getD 0 0 = 1) ∧ (0 < p.payload.getD 1 0) ∧ (p.payload.getD 1 0 ≤ 63) ∧ (p.payload.getD 2 0 = 0) ∧ (p.payload.getD 3 0 = 0) ∧ (p.payload.length = 4 + 16 * p.payload.getD 1 0) ∧ (((entriesOf 16 (p.payload.drop 4) (p.payload.getD 1 0)).any fun e => decide (e.getD 1 0 < 32) && !s.member.present (e.getD 1 0)) = false) ∧ (s.fnState 4 = fnON) ∧ ((gridWrYield s queue.val p).descs ≠ []) ∧ ((gridWrYield s queue.val p).descs.length ≤ s.gridCredits wrHOST)) ∧
    (∃ (queue : Fin 9) (s : State) (p : Pkt), (s.runningOf queue.val = some p) ∧ (p.typ = 0x21) ∧ (p.started = false) ∧ (s.lcStands p = true) ∧ (p.payload.getD 0 0 = 1) ∧ (0 < p.payload.getD 1 0) ∧ (p.payload.getD 1 0 ≤ 63) ∧ (p.payload.getD 2 0 = 0) ∧ (p.payload.getD 3 0 = 0) ∧ (p.payload.length = 4 + 16 * p.payload.getD 1 0) ∧ (((entriesOf 16 (p.payload.drop 4) (p.payload.getD 1 0)).any fun e => decide (e.getD 1 0 < 32) && !s.member.present (e.getD 1 0)) = false) ∧ (s.gridCredits wrHOST < (gridWrYield s queue.val p).descs.length)) ∧
    (∃ (queue : Fin 9) (s : State) (p : Pkt), (s.runningOf queue.val = some p) ∧ (p.typ = 0x21) ∧ (p.started = false) ∧ (s.lcStands p = true) ∧ (p.payload.getD 0 0 = 1) ∧ (0 < p.payload.getD 1 0) ∧ (p.payload.getD 1 0 ≤ 63) ∧ (p.payload.getD 2 0 = 0) ∧ (p.payload.getD 3 0 = 0) ∧ (p.payload.length = 4 + 16 * p.payload.getD 1 0) ∧ (((entriesOf 16 (p.payload.drop 4) (p.payload.getD 1 0)).any fun e => decide (e.getD 1 0 < 32) && !s.member.present (e.getD 1 0)) = true)) ∧
    (∃ (queue : Fin 9) (s : State) (p : Pkt), (s.runningOf queue.val = some p) ∧ (p.typ = 0x22) ∧ (p.started = false) ∧ (s.lcStands p = true) ∧ (0 < p.payload.headD 0) ∧ (p.payload.headD 0 ≤ 84) ∧ (p.payload.length = 4 + 12 * p.payload.headD 0) ∧ (beValue ((p.payload.drop 1).take 3) = 0) ∧ (s.running pgFEL = true) ∧ (s.fnState 5 = fnON) ∧ ((beamRuns s p).full = false) ∧ ((beamRuns s p).bad = none)) ∧
    (∃ (queue : Fin 9) (s : State) (p : Pkt) (x : Nat × Nat), (s.runningOf queue.val = some p) ∧ (p.typ = 0x22) ∧ (p.started = false) ∧ (s.lcStands p = true) ∧ (0 < p.payload.headD 0) ∧ (p.payload.headD 0 ≤ 84) ∧ (p.payload.length = 4 + 12 * p.payload.headD 0) ∧ (beValue ((p.payload.drop 1).take 3) = 0) ∧ (s.running pgFEL = true) ∧ (s.fnState 5 = fnON) ∧ ((beamRuns s p).full = false) ∧ ((beamRuns s p).bad = some x)) ∧
    (∃ (queue : Fin 9) (s : State) (p : Pkt), (s.runningOf queue.val = some p) ∧ (p.typ = 0x22) ∧ (p.started = false) ∧ (s.lcStands p = true) ∧ (0 < p.payload.headD 0) ∧ (p.payload.headD 0 ≤ 84) ∧ (p.payload.length = 4 + 12 * p.payload.headD 0) ∧ (beValue ((p.payload.drop 1).take 3) = 0) ∧ (s.running pgFEL = true) ∧ (s.fnState 5 = fnON) ∧ ((beamRuns s p).full = true)) ∧
    (∃ (queue : Fin 9) (s : State) (p : Pkt) (d : Fin 16), (s.runningOf queue.val = some p) ∧ (p.typ = 0x30) ∧ (p.started = false) ∧ (s.lcStands p = true) ∧ (p.payload = []) ∧ (p.arg16 = 0) ∧ (p.ident = d.val) ∧ (s.running pgNPR = true)) ∧
    (∃ (queue : Fin 9) (s : State) (p : Pkt) (d : Fin 16), (s.runningOf queue.val = some p) ∧ (p.typ = 0x30) ∧ (p.started = false) ∧ (s.lcStands p = true) ∧ (p.payload = []) ∧ (p.arg16 = 1) ∧ (p.ident = d.val) ∧ (s.running pgNPR = true)) ∧
    (∃ (queue : Fin 9) (s : State) (p : Pkt) (id : Ident), (s.runningOf queue.val = some p) ∧ (p.typ = 0x31) ∧ (p.started = false) ∧ (s.lcStands p = true) ∧ (p.payload = []) ∧ (p.who = some id) ∧ (p.arg16 ≤ 15) ∧ (s.running pgNPR = true) ∧ (s.mayClear p.arg16 id = true) ∧ (s.foxState p.arg16 = foxLATCHED) ∧ (s.foxRetryOk p.arg16 = false)) ∧
    (∃ (queue : Fin 9) (slotOk : Bool) (s : State) (p : Pkt) (id : Ident) (n : Nat), (s.runningOf queue.val = some p) ∧ (p.typ = 0x40) ∧ (p.started = false) ∧ (s.lcStands p = true) ∧ (p.payload.length = 24) ∧ (s.running pgCAP = true) ∧ (p.who = some id) ∧ (s.capRefusal p id slotOk = none) ∧ (((List.range 16).find? fun n => decide (s.capSt n = capFREE)) = some n)) ∧
    (∃ (queue : Fin 9) (s : State) (p : Pkt), (s.runningOf queue.val = some p) ∧ (p.typ = 0x41) ∧ (p.started = false) ∧ (s.lcStands p = true) ∧ (p.payload = []) ∧ (s.capOther p = none) ∧ (s.capSt p.arg16 = capENDED) ∧ (s.capStream p.arg16 = false)) ∧
    (∃ (queue : Fin 9) (s : State) (p : Pkt), (s.runningOf queue.val = some p) ∧ (p.typ = 0x41) ∧ (p.started = false) ∧ (s.lcStands p = true) ∧ (p.payload = []) ∧ (s.capOther p = none) ∧ (s.capSt p.arg16 = capRUNNING) ∧ (s.capStream p.arg16 = false)) :=
  ⟨⟨1, (wRun (wPkt 0x20 1 3 0 0 ([1, 3, 0, 0, 0, 1, 0, 0, 0] ++ List.replicate 7 0 ++ [0, 0, 0, 0, 0xFF, 0xFF, 0, 0])) (wScCtx)), (wPkt 0x20 1 3 0 0 ([1, 3, 0, 0, 0, 1, 0, 0, 0] ++ List.replicate 7 0 ++ [0, 0, 0, 0, 0xFF, 0xFF, 0, 0])), by decide +kernel⟩,
   ⟨1, (wRun (wPkt 0x20 1 3 0 0 ([1, 3, 0, 0, 0, 1, 0, 0, 0] ++ List.replicate 7 0 ++ [0, 0, 0, 0, 0xFF, 0xFF, 0, 0])) (wScCtx.fset GGR_Q.DEPTH wrSIDE 0)), (wPkt 0x20 1 3 0 0 ([1, 3, 0, 0, 0, 1, 0, 0, 0] ++ List.replicate 7 0 ++ [0, 0, 0, 0, 0xFF, 0xFF, 0, 0])), by decide +kernel⟩,
   ⟨1, (wRun (wPkt 0x20 1 3 0 0 ([1, 3, 0, 0, 0, 1, 0, 0, 0] ++ List.replicate 7 0 ++ [0, 0, 0, 0, 0xFF, 0xFF, 0, 0])) (State.reset)), (wPkt 0x20 1 3 0 0 ([1, 3, 0, 0, 0, 1, 0, 0, 0] ++ List.replicate 7 0 ++ [0, 0, 0, 0, 0xFF, 0xFF, 0, 0])), by decide +kernel⟩,
   ⟨1, (wRun (wPkt 0x20 1 3 0 0 []) State.reset), (wPkt 0x20 1 3 0 0 []), by decide +kernel⟩,
   ⟨1, (wRun (wPkt 0x21 1 0x10 0 0 ([1, 1, 0, 0] ++ [0x80, 2, 1, 0, 0, 0, 0, 4, 0, 2, 0, 0, 0, 5, 0, 0])) (State.reset.fset GGR_Q.DEPTH wrHOST 4)), (wPkt 0x21 1 0x10 0 0 ([1, 1, 0, 0] ++ [0x80, 2, 1, 0, 0, 0, 0, 4, 0, 2, 0, 0, 0, 5, 0, 0])), by decide +kernel⟩,
   ⟨1, (wRun (wPkt 0x21 1 0x10 0 0 ([1, 1, 0, 0] ++ [0x80, 2, 1, 0, 0, 0, 0, 4, 0, 2, 0, 0, 0, 5, 0, 0])) (State.reset.fset GGR_Q.DEPTH wrHOST 0)), (wPkt 0x21 1 0x10 0 0 ([1, 1, 0, 0] ++ [0x80, 2, 1, 0, 0, 0, 0, 4, 0, 2, 0, 0, 0, 5, 0, 0])), by decide +kernel⟩,
   ⟨1, (wRun (wPkt 0x21 1 0x10 0 0 ([1, 1, 0, 0] ++ [0x80, 9, 1, 0, 0, 0, 0, 4, 0, 2, 0, 0, 0, 5, 0, 0])) wLv7210), (wPkt 0x21 1 0x10 0 0 ([1, 1, 0, 0] ++ [0x80, 9, 1, 0, 0, 0, 0, 4, 0, 2, 0, 0, 0, 5, 0, 0])), by decide +kernel⟩,
   ⟨1, (wRun (wPkt 0x22 1 0x10 0 0 ([1, 0, 0, 0] ++ List.replicate 12 0)) (wPage pgFEL)), (wPkt 0x22 1 0x10 0 0 ([1, 0, 0, 0] ++ List.replicate 12 0)), by decide +kernel⟩,
   ⟨1, (wRun (wPkt 0x22 1 0x10 0 0 ([1, 0, 0, 0] ++ [0, 0, 0, 1, 0, 1] ++ List.replicate 6 0)) (wPage pgFEL)), (wPkt 0x22 1 0x10 0 0 ([1, 0, 0, 0] ++ [0, 0, 0, 1, 0, 1] ++ List.replicate 6 0)), ((0, 0x27)), by decide +kernel⟩,
   ⟨1, (wRun (wPkt 0x22 1 0x10 0 0 ([1, 0, 0, 0] ++ [0, 0, 0, 1, 0, 1] ++ List.replicate 6 0)) wBeamFull), (wPkt 0x22 1 0x10 0 0 ([1, 0, 0, 0] ++ [0, 0, 0, 1, 0, 1] ++ List.replicate 6 0)), by decide +kernel⟩,
   ⟨0, (wRun (wPkt 0x30 0 3 0 0 []) (wPage pgNPR)), (wPkt 0x30 0 3 0 0 []), 3, by decide +kernel⟩,
   ⟨0, (wRun (wPkt 0x30 0 3 1 0 []) (wPage pgNPR)), (wPkt 0x30 0 3 1 0 []), 3, by decide +kernel⟩,
   ⟨0, (wRun (wPkt 0x31 0 0x10 2 0 []) (((wPage pgNPR).fset NPR_FOX_STAT.STATE 2 foxLATCHED).setFoxRt 2 { groups := 1 })), (wPkt 0x31 0 0x10 2 0 []), .integrator, by decide +kernel⟩,
   ⟨1, true, (wRun (wPkt 0x40 1 0x10 0 0 ([0, 0, 0, 1, 0, 64] ++ List.replicate 18 0)) (wCapImg)), (wPkt 0x40 1 0x10 0 0 ([0, 0, 0, 1, 0, 64] ++ List.replicate 18 0)), .integrator, 0, by decide +kernel⟩,
   ⟨1, (wRun (wPkt 0x41 1 0x10 3 0 []) (wCapRun.fset CAP_SSTAT.STATE 3 capENDED)), (wPkt 0x41 1 0x10 3 0 []), by decide +kernel⟩,
   ⟨1, (wRun (wPkt 0x41 1 0x10 3 0 []) wCapRun), (wPkt 0x41 1 0x10 3 0 []), by decide +kernel⟩⟩

theorem witness_ReportAndCaptureCommands :
    (∃ (s : State) (r : Report) (rest : List Report) (x : Nat × Nat), (s.works pgGCP = true) ∧ (s.reports = r :: rest) ∧ (s.canAlloc 9 = true) ∧ (s.reportTo r.ident = some x)) ∧
    (∃ (s : State) (r : Report) (rest : List Report), (s.works pgGCP = true) ∧ (s.reports = r :: rest) ∧ (s.canAlloc 9 = false ∨ s.reportTo r.ident = none)) ∧
    (∃ (s : State), s.works pgGCP = false ∨ s.reports = []) ∧
    (∃ (session : Fin 16) (s : State) (r : CapRecord) (rest : List CapRecord), (s.works pgCAP = true) ∧ ((s.cap session.val).records = r :: rest) ∧ (rest ≠ [] ∨ s.capSt session.val ≠ capENDED) ∧ (s.capStream session.val = true) ∧ (s.canAlloc 9 = true)) ∧
    (∃ (session : Fin 16) (s : State) (r : CapRecord), (s.works pgCAP = true) ∧ ((s.cap session.val).records = [r]) ∧ (s.capSt session.val = capENDED) ∧ (s.capStream session.val = true) ∧ (s.canAlloc 9 = true)) ∧
    (∃ (session : Fin 16) (s : State) (r : CapRecord) (x : CapRecord) (rest : List CapRecord), (s.works pgCAP = true) ∧ ((s.cap session.val).records = r :: x :: rest) ∧ (s.capStream session.val = true) ∧ (s.canAlloc 9 = false)) ∧
    (∃ (session : Fin 16) (s : State), s.works pgCAP = false ∨ (s.cap session.val).records = [] ∨ s.capStream session.val = false) ∧
    (∃ (who : Init) (fn : Fin 8) (s : State), (Admitted s who pgGCP 0x040) ∧ (s.fnState fn.val = fnON)) ∧
    (∃ (who : Init) (fn : Fin 8) (s : State), (Admitted s who pgGCP 0x040) ∧ (s.fnState fn.val = fnOFF)) ∧
    (∃ (who : Init) (fn : Fin 8) (s : State), (Admitted s who pgGCP 0x040) ∧ (s.fnState fn.val = fnDRAINING)) ∧
    (∃ (fn : Fin 8) (s : State), s.fnState fn.val ≠ fnDRAINING ∨ s.fnBusy fn.val = true) ∧
    (∃ (fn : Fin 8) (s : State), (s.fnState fn.val = fnDRAINING) ∧ (s.fnBusy fn.val = false) ∧ (s.gcp.heldFn.testBit fn.val = false)) ∧
    (∃ (fn : Fin 8) (s : State), (s.fnState fn.val = fnDRAINING) ∧ (s.fnBusy fn.val = false) ∧ (s.gcp.heldFn.testBit fn.val = true)) ∧
    (∃ (session : Fin 16) (s : State), (s.works pgCAP = true) ∧ (s.capSt session.val = capWAITING)) ∧
    (∃ (session : Fin 16) (s : State), s.capSt session.val ≠ capWAITING ∨ s.works pgCAP = false) ∧
    (∃ (session : Fin 16) (samples : List (BitVec 32)) (queueFull : Bool) (s : State) (data : List Nat), (s.works pgCAP = true) ∧ (s.capSt session.val = capRUNNING) ∧ (s.tapInUse (s.fget CAP_SSTAT.TAP session.val) (s.fget CAP_SSTAT.QUAL session.val) = true) ∧ (queueFull = false) ∧ (data = ((samples.take 252).flatMap fun w => beBytes 4 w.toNat).take (s.cap session.val).left) ∧ (data ≠ []) ∧ ((s.cap session.val).left ≤ data.length) ∧ ((s.cap session.val).length = 0) ∧ ((s.cap session.val).records.length + 1 < (s.cap session.val).room)) ∧
    (∃ (session : Fin 16) (samples : List (BitVec 32)) (queueFull : Bool) (s : State) (data : List Nat), (s.works pgCAP = true) ∧ (s.capSt session.val = capRUNNING) ∧ (s.tapInUse (s.fget CAP_SSTAT.TAP session.val) (s.fget CAP_SSTAT.QUAL session.val) = true) ∧ (queueFull = true ∨ (s.cap session.val).room ≤ (s.cap session.val).records.length) ∧ (s.capStream session.val = true) ∧ (data = ((samples.take 252).flatMap fun w => beBytes 4 w.toNat).take (s.cap session.val).left) ∧ (data ≠ []) ∧ ((s.cap session.val).left ≤ data.length) ∧ ((s.cap session.val).length = 0)) ∧
    (∃ (session : Fin 16) (samples : List (BitVec 32)) (s : State), (s.works pgCAP = true) ∧ (s.capSt session.val = capRUNNING) ∧ ((s.cap session.val).left ≠ 0) ∧ ((s.cap session.val).left ≤ (((samples.take 252).flatMap fun w => beBytes 4 w.toNat).take (s.cap session.val).left).length) ∧ (s.tapInUse (s.fget CAP_SSTAT.TAP session.val) (s.fget CAP_SSTAT.QUAL session.val) = false) ∧ (s.capStream session.val = false)) ∧
    (∃ (session : Fin 16) (s : State), s.works pgCAP = false ∨ s.capSt session.val ≠ capRUNNING) ∧
    (∃ (session : Fin 16) (samples : List (BitVec 32)) (s : State), (((samples.take 252).flatMap fun w => beBytes 4 w.toNat).take (s.cap session.val).left).length < (s.cap session.val).left) ∧
    (∃ (session : Fin 16) (samples : List (BitVec 32)) (queueFull : Bool) (s : State) (data : List Nat), (s.works pgCAP = true) ∧ (s.capSt session.val = capRUNNING) ∧ (s.tapInUse (s.fget CAP_SSTAT.TAP session.val) (s.fget CAP_SSTAT.QUAL session.val) = true) ∧ (queueFull = false) ∧ (data = ((samples.take 252).flatMap fun w => beBytes 4 w.toNat).take (s.cap session.val).left) ∧ (data ≠ []) ∧ ((s.cap session.val).length ≠ 0) ∧ ((s.cap session.val).length - (s.cap session.val).taken ≤ recordBytes) ∧ ((s.cap session.val).left ≤ data.length) ∧ ((s.cap session.val).records.length + 1 < (s.cap session.val).room)) ∧
    (∃ (who : Init) (s : State), (Admitted s who pgCAP 0x05C) ∧ (s.identOf who = some .integrator) ∧ (s.capSt (s.fget CAP_SSEL.SESSION who.holder) = capENDED) ∧ (s.capStream (s.fget CAP_SSEL.SESSION who.holder) = false)) ∧
    (∃ (session : Fin 16) (s : State) (m : Nat), ((s.cap session.val).lost = some m) ∧ (s.capLost session.val = true) ∧ (m + 1000 ≤ s.ms) ∧ (s.capSt session.val = capRUNNING) ∧ (s.capStream session.val = false)) :=
  ⟨⟨({ ((wWorks pgGCP State.reset).fset GCP_RT.TRANSPORT 3 1) with reports := [⟨2, 3, 5, 0, 0, []⟩] }), ⟨2, 3, 5, 0, 0, []⟩, [], ((0, 0)), by decide +kernel⟩,
   ⟨({ (wWorks pgGCP State.reset) with reports := [⟨2, 3, 5, 0, 0, []⟩] }), ⟨2, 3, 5, 0, 0, []⟩, [], by decide +kernel⟩,
   ⟨State.reset, by decide +kernel⟩,
   ⟨3, ((wWorks pgCAP wCapRun).fset CAP_SSTAT.MODE 3 1), (⟨0, 0, 0, [1]⟩), ([⟨4, 0, 9, [2]⟩]), by decide +kernel⟩,
   ⟨3, ((((wWorks pgCAP wCapRun).setCap 3 { bufKib := 64, records := [⟨0, 0, 0, [1]⟩] }).fset CAP_SSTAT.MODE 3 1).fset CAP_SSTAT.STATE 3 capENDED), (⟨0, 0, 0, [1]⟩), by decide +kernel⟩,
   ⟨3, (((wWorks pgCAP wCapRun).fset CAP_SSTAT.MODE 3 1).fset BUF_STAT.FREE 0 0), (⟨0, 0, 0, [1]⟩), (⟨4, 0, 9, [2]⟩), [], by decide +kernel⟩,
   ⟨3, State.reset, by decide +kernel⟩,
   ⟨.pairA, 3, ((wPage pgGCP).fset GCP_FN_STAT.STATE 0 0x5555), by decide +kernel⟩,
   ⟨.pairA, 3, ((wPage pgGCP).fset GCP_FN_STAT.STATE 0 0x5515), by decide +kernel⟩,
   ⟨.pairA, 3, ((wPage pgGCP).fset GCP_FN_STAT.STATE 0 0x5595), by decide +kernel⟩,
   ⟨3, State.reset, by decide +kernel⟩,
   ⟨3, (State.reset.fset GCP_FN_STAT.STATE 0 0x5595), by decide +kernel⟩,
   ⟨3, (let s := State.reset.fset GCP_FN_STAT.STATE 0 0x5595; { s with gcp := { s.gcp with heldFn := 8 } }), by decide +kernel⟩,
   ⟨3, ((wWorks pgCAP wCapRun).fset CAP_SSTAT.STATE 3 capWAITING), by decide +kernel⟩,
   ⟨3, State.reset, by decide +kernel⟩,
   ⟨3, (List.replicate 252 7), false, ((((wWorks pgCAP wCapRun).fset CAP_SSTAT.TAP 3 4).fset CAP_SSTAT.QUAL 3 0).cset CTX_CTRL.STATE 0 ctxACTIVE), ((List.replicate 252 [0, 0, 0, 7]).flatten), by decide +kernel⟩,
   ⟨3, (List.replicate 252 7), true, (((((wWorks pgCAP wCapRun).fset CAP_SSTAT.TAP 3 4).fset CAP_SSTAT.QUAL 3 0).fset CAP_SSTAT.MODE 3 1).cset CTX_CTRL.STATE 0 ctxACTIVE), ((List.replicate 252 [0, 0, 0, 7]).flatten), by decide +kernel⟩,
   ⟨3, (List.replicate 252 7), ((((wWorks pgCAP wCapRun).fset CAP_SSTAT.TAP 3 4).fset CAP_SSTAT.QUAL 3 0)), by decide +kernel⟩,
   ⟨3, State.reset, by decide +kernel⟩,
   ⟨3, [7], (wWorks pgCAP wCapRun), by decide +kernel⟩,
   ⟨3, [7, 8], false, (let s := (((wWorks pgCAP wCapRun).fset CAP_SSTAT.TAP 3 4).fset CAP_SSTAT.QUAL 3 0).cset CTX_CTRL.STATE 0 ctxACTIVE; s.setCap 3 { s.cap 3 with length := 8 }), ([0, 0, 0, 7, 0, 0, 0, 8]), by decide +kernel⟩,
   ⟨.pairB, (wLc ((wPage pgCAP).fset CAP_SSTAT.STATE 0 capENDED)), by decide +kernel⟩,
   ⟨3, (wMs (((wPage pgCAP).fset CAP_SSTAT.STATE 3 capRUNNING).setCap 3 { lost := some 5 }) 9000), 5, by decide +kernel⟩⟩

theorem witness_FaultCollectorCommands :
    (∃ (src : Fin 160) (s : State), (s.running pgFLT = true) ∧ (Tbl.get (fun _ => false) s.flt.risen src.val = true) ∧ (s.isSevere src.val = false) ∧ (s.fget FLT_SSTAT.CNT src.val + 1 < s.fget FLT_SCFG.N src.val)) ∧
    (∃ (src : Fin 160) (s : State), (s.running pgFLT = true) ∧ (Tbl.get (fun _ => false) s.flt.risen src.val = true) ∧ (s.isSevere src.val = false) ∧ (s.fget FLT_SCFG.N src.val ≤ s.fget FLT_SSTAT.CNT src.val + 1) ∧ (s.fget FLT_SREACT.FIRST src.val ≤ 2)) ∧
    (∃ (src : Fin 160) (stands : Bool) (s : State), (s.running pgFLT = true) ∧ (Tbl.get (fun _ => false) s.flt.dual src.val = false) ∧ (stands = true)) ∧
    (∃ (src : Fin 160) (s : State), (s.isSevere src.val = false) ∧ (Tbl.get (fun _ => 0) s.flt.winEnd src.val ≤ s.ms)) ∧
    (∃ (src : Fin 160) (s : State) (r : Nat), (s.running pgFLT = true) ∧ (s.isSevere src.val = true) ∧ (s.fget FLT_SSTAT.ESC_LEFT src.val = 0) ∧ (s.nextRung src.val = some r) ∧ (r ≤ 2)) ∧
    (∃ (src : Fin 160) (s : State), (s.running pgFLT = true) ∧ (s.isSevere src.val = true) ∧ (s.fget FLT_SSTAT.ESC_LEFT src.val = 0) ∧ (s.nextRung src.val = some 5) ∧ (s.fon FLT_TEST.CAP 0 = false) ∧ (s.fon FLT_STAT.SAFE 0 = false)) ∧
    (∃ (who : Init) (src : Fin 256) (s : State), (Admitted s who pgFLT 0x058) ∧ (src.val ≤ 159) ∧ (s.isSevere src.val = true)) ∧
    (∃ (who : Init) (group : Fin 5) (bits : Word) (s : State) (n : Fin 32), (Admitted s who pgFLT (0x408 + 4 * group.val)) ∧ (bits.toNat.testBit n.val = true) ∧ (s.fon FLT_TEST.CAP 0 = true)) ∧
    (∃ (who : Init) (cap : Bool) (src : Fin 256) (s : State), (Admitted s who pgFLT 0x420) ∧ (src.val ≤ 159) ∧ (cap = true)) ∧
    (∃ (who : Init) (react : Bool) (value : Word) (s : State), (react = false) ∧ (Admitted s who pgFLT 0x04C) ∧ ((regAt pgFLT 0x04C).all (fun r => rangesOk pgFLT 0x04C (r.merge (s.word (scfgKey (s.fget FLT_SEL.SRC who.holder))) value)) = true) ∧ (s.isSevere (s.fget FLT_SEL.SRC who.holder) = false)) ∧
    (∃ (who : Init) (react : Bool) (value : Word) (s : State), (react = true) ∧ (Admitted s who pgFLT 0x050) ∧ (reactOk value = true) ∧ ((regAt pgFLT 0x050).all (fun r => rangesOk pgFLT 0x050 (r.merge (s.word (sreactKey (s.fget FLT_SEL.SRC who.holder))) value)) = true) ∧ (s.isSevere (s.fget FLT_SEL.SRC who.holder) = true)) ∧
    (∃ (s : State), (s.running pgFLT = true) ∧ (s.fon FLT_STAT.SAFE 0 = false)) ∧
    (∃ (who : Init) (s : State), (Admits (fun u => u.healthyAdmit who) s who pgFLT 0x044) ∧ (s.mayHeal = true)) ∧
    (∃ (who : Init) (s : State), Admitted s who pgFLT 0x060) :=
  ⟨⟨9, (let s := (wPage pgFLT).fset FLT_SCFG.N 9 5; { s with flt := { s.flt with risen := [(9, true)] } }), by decide +kernel⟩,
   ⟨9, (let s := ((wPage pgFLT).fset FLT_SCFG.N 9 1).fset FLT_SREACT.FIRST 9 1; { s with flt := { s.flt with risen := [(9, true)] } }), by decide +kernel⟩,
   ⟨9, true, (wPage pgFLT), by decide +kernel⟩,
   ⟨9, (State.reset.fset FLT_SSTAT.CNT 9 3), by decide +kernel⟩,
   ⟨9, (((wPage pgFLT).setSevere 9 true).fset FLT_SREACT.LAST 9 2), 1, by decide +kernel⟩,
   ⟨9, (((((wPage pgFLT).setSevere 9 true).fset FLT_SREACT.LAST 9 5).fset FLT_SSTAT.RUNG 9 4).fset FLT_TEST.CAP 0 0), by decide +kernel⟩,
   ⟨.pairA, 9, ((wPage pgFLT).setSevere 9 true), by decide +kernel⟩,
   ⟨.pairA, 0, 0x200, (((wPage pgFLT).fset FLT_TEST.CAP 0 1).setExpertSt pgFLT .pairA { opened := true }), 9, by decide +kernel⟩,
   ⟨.pairA, true, 9, ((wPage pgFLT).setExpertSt pgFLT .pairA { opened := true }), by decide +kernel⟩,
   ⟨.pairA, false, 0x05000020, (wPage pgFLT), by decide +kernel⟩,
   ⟨.pairA, true, 0x24000020, ((wPage pgFLT).setSevere 0 true), by decide +kernel⟩,
   ⟨(wPage pgFLT), by decide +kernel⟩,
   ⟨.pairA, (wPage pgFLT), by decide +kernel⟩,
   ⟨.pairA, ((wPage pgFLT).fset FLT_SAFE_CAUSE.CAUSE 0 1), by decide +kernel⟩⟩

theorem witness_EventRecorderCommands :
    (∃ (s : State), (s.evr.intake.length < 64) ∧ (s.fon EVR_STAT.FULL 0 = false) ∧ (s.fon EVR_STAT.PF_CLOSED 0 = false)) ∧
    (∃ (s : State), 64 ≤ s.evr.intake.length ∨ s.fon EVR_STAT.FULL 0 = true ∨ s.fon EVR_STAT.PF_CLOSED 0 = true) ∧
    (∃ (s : State) (r : Rec) (rest : List Rec), (s.running pgEVR = true) ∧ (s.fon PAGE_CTRL.ENABLE pgEVR = true) ∧ (s.recorderTakes = true) ∧ (s.evr.intake = r :: rest) ∧ (s.fon EVR_STAT.FULL 0 = false) ∧ (s.evr.openSeg = [])) ∧
    (∃ (s : State) (r : Rec) (rest : List Rec), (s.running pgEVR = true) ∧ (s.fon PAGE_CTRL.ENABLE pgEVR = true) ∧ (s.recorderTakes = true) ∧ (s.evr.intake = r :: rest) ∧ (s.fon EVR_STAT.FULL 0 = true)) ∧
    (∃ (s : State), s.running pgEVR = false ∨ s.fon PAGE_CTRL.ENABLE pgEVR = false ∨ s.fon EVR_STAT.CLEARING 0 = true ∨ s.evr.intake = []) ∧
    (∃ (s : State), s.evr.lastEpoch < s.epochAt (recorderTime s.dt)) ∧
    (∃ (s : State), s.epochAt (recorderTime s.dt) ≤ s.evr.lastEpoch) ∧
    (∃ (s : State) (seg : List Rec) (rest : List (List Rec)), (s.evr.fullSegs = seg :: rest) ∧ (s.nva.running = none) ∧ (s.admits (.segment seg) = true)) ∧
    (∃ (s : State) (seg : List Rec) (rest : List (List Rec)), (s.evr.fullSegs = seg :: rest) ∧ (s.nva.running = none) ∧ (s.admits (.segment seg) = false)) ∧
    (∃ (who : Init) (s : State), (Admitted s who pgEVR 0x058) ∧ (s.evr.openSeg ≠ [])) ∧
    (∃ (who : Init) (s : State) (x : Rec × Bool), (Readable s who pgEVR) ∧ (∀ d : Fin 16, s.identOf who ≠ some (.domain d)) ∧ (s.evr.find (s.fget EVR_RD_SEQ.SEQ 0) = some x)) ∧
    (∃ (who : Init) (confirm : BitVec 16) (s : State), (Admits (fun u => u.clearVerdict who) s who pgEVR 0x408) ∧ (s.fon EVR_STAT.CLEARING 0 = false) ∧ (confirm.toNat = s.fget EVR_SEQ.SEQ 0 % 0x10000)) ∧
    (∃ (s : State) (r : NvReq) (c : Nat × Nat × Nat), (s.nva.running = some r) ∧ (r.job = .logErase) ∧ (s.evr.clearRec = some c)) :=
  ⟨⟨State.reset, by decide +kernel⟩,
   ⟨(State.reset.fset EVR_STAT.FULL 0 1), by decide +kernel⟩,
   ⟨({ (wWorks pgEVR State.reset).fset RST_STAT.STEP 0 9 with evr := { State.reset.evr with intake := [{ code := 0x6001, p0 := 1, p1 := 2, p2 := 3, dt := 4 }] } }), ({ code := 0x6001, p0 := 1, p1 := 2, p2 := 3, dt := 4 }), [], by decide +kernel⟩,
   ⟨({ ((wWorks pgEVR State.reset).fset RST_STAT.STEP 0 9).fset EVR_STAT.FULL 0 1 with evr := { State.reset.evr with intake := [{ code := 0x6001, p0 := 1, p1 := 2, p2 := 3, dt := 4 }] } }), ({ code := 0x6001, p0 := 1, p1 := 2, p2 := 3, dt := 4 }), [], by decide +kernel⟩,
   ⟨State.reset, by decide +kernel⟩,
   ⟨({ State.reset with evr := { State.reset.evr with epochBase := 5 } }), by decide +kernel⟩,
   ⟨State.reset, by decide +kernel⟩,
   ⟨({ State.reset with evr := { State.reset.evr with fullSegs := [[], []] }, hup := { State.reset.hup with eLow := 100000000 } }), [], [[]], by decide +kernel⟩,
   ⟨({ State.reset with evr := { State.reset.evr with fullSegs := [[], []] } }), [], [[]], by decide +kernel⟩,
   ⟨.pairA, wRecs, by decide +kernel⟩,
   ⟨.pairA, (wRecs.fset EVR_RD_SEQ.SEQ 0 7), (({ code := 0x6001, p0 := 1, p1 := 2, p2 := 3, dt := 4, seq := 7 }, true)), by decide +kernel⟩,
   ⟨.pairB, 8, (wLc ((wRecs.fset EVR_SEQ.SEQ 0 8).setExpertSt pgEVR .pairB { opened := true })), by decide +kernel⟩,
   ⟨({ State.reset with evr := { State.reset.evr with clearRec := some (1, 2, 3), log := [[{ code := 0x6001, p0 := 1, p1 := 2, p2 := 3, dt := 4 }]] }, nva := { State.reset.nva with running := some { job := .logErase } } }), ({ job := .logErase }), ((1, 2, 3)), by decide +kernel⟩⟩

theorem witness_NvControllerCommands :
    (∃ (s : State) (r : NvReq) (e : JEntry), (s.nva.running = some r) ∧ (r.job = .journal e) ∧ (e.typ = 8)) ∧
    (∃ (s : State) (r : NvReq) (e : JEntry), (s.nva.running = some r) ∧ (r.job = .commit e) ∧ (e.typ = 8)) ∧
    (∃ (s : State) (e : JEntry) (l : List NvReq), (s.nva.running = none) ∧ (s.nva.waiting = { job := .journal e } :: l) ∧ (s.fon HUP_STAT.PFAIL 0 = false) ∧ (s.compactPiece e.size = none) ∧ (s.admits (.journal e) = true) ∧ (e.typ = 8)) ∧
    (∃ (s : State) (r : NvReq), (s.rst.nvaWaits = false) ∧ (s.nva.running = none) ∧ (s.markWaiting.nvPick = some r)) ∧
    (∃ (outcome : NvEnd) (s : State) (r : NvReq) (a : Nat), (s.nva.running = some r) ∧ (outcome = .passed) ∧ (r.job = .erase a)) ∧
    (∃ (outcome : NvEnd) (s : State) (r : NvReq) (e : JEntry), (s.nva.running = some r) ∧ (outcome = .passed) ∧ (r.job = .journal e)) ∧
    (∃ (outcome : NvEnd) (s : State) (r : NvReq), (s.nva.running = some r) ∧ (outcome = .failed) ∧ (r.fails < 2)) ∧
    (∃ (outcome : NvEnd) (s : State) (r : NvReq) (a : Nat), (s.nva.running = some r) ∧ (outcome = .failed) ∧ (2 ≤ r.fails) ∧ (r.job = .erase a)) ∧
    (∃ (outcome : NvEnd) (a : Fin 16777216), outcome = .corrected a) ∧
    (∃ (outcome : NvEnd) (a : Fin 16777216), outcome = .uncorrectable a) ∧
    (∃ (who : Init) (s : State), (Admitted s who pgNVA 0x058) ∧ (s.fon NVA_STAT.BUSY 0 = false) ∧ (imageRegion s.nvAddr = true) ∧ (s.execBit (s.nvAddr / 0x800000) = false)) ∧
    (∃ (who : Init) (s : State), (Admitted s who pgNVA 0x058) ∧ (s.fon NVA_STAT.BUSY 0 = false) ∧ (imageRegion s.nvAddr = true) ∧ (s.execBit (s.nvAddr / 0x800000) = false)) ∧
    (∃ (who : Init) (s : State), (Admitted s who pgNVA 0x058) ∧ (s.nva.waiting.any (fun r => r.job.isHost) = true)) ∧
    (∃ (who : Init) (bank : Fin 2) (s : State), (Admitted s who pgNVA 0x068) ∧ (s.execBit bank.val = true) ∧ (s.nva.running = none) ∧ (s.nva.waiting = []) ∧ (s.fon HUP_STAT.PFAIL 0 = false) ∧ (s.compactPiece (bootEntry bank.val).size = none) ∧ (s.admits (.journal (bootEntry bank.val)) = true)) ∧
    (∃ (who : Init) (bank : Fin 2) (s : State), (Admitted s who pgNVA 0x068) ∧ (s.execBit bank.val = true) ∧ (s.nva.running.isSome = true ∨ s.nva.waiting ≠ []) ∧ (s.admits (.journal (bootEntry bank.val)) = true)) ∧
    (∃ (who : Init) (bank : Fin 2) (s : State), (Admitted s who pgNVA 0x068) ∧ (s.execBit bank.val = true) ∧ (s.admits (.journal (bootEntry bank.val)) = false) ∧ (s.nva.waiting = [])) ∧
    (∃ (who : Init) (bank : Fin 2) (fwSig : Bool) (extSig : Bool) (s : State), (Admitted s who pgNVA 0x068) ∧ (s.execBit bank.val = false) ∧ (s.bankOk bank.val fwSig extSig = false)) ∧
    (∃ (s : State) (r : NvReq), (s.nva.waiting.any (fun r => r.since.isSome) = true) ∧ (s.rst.nvaWaits = false) ∧ (s.nva.running = none) ∧ (s.markWaiting.nvPick = some r) ∧ (s.nva.burn = none) ∧ (s.lcDue = none)) ∧
    (∃ (s : State) (b : RootBurn), (s.nva.burn = some b) ∧ (s.energyOk 4000 s.evr.stagedSegs = true) ∧ (s.lcDue = none) ∧ (s.nva.waiting.any (fun r => r.since.isSome) = false) ∧ (s.evr.fullSegs = [])) ∧
    (∃ (s : State) (nj : Nat), (s.lateWrite = some nj) ∧ (s.sec.lcReq = none) ∧ (s.sleeping = false)) ∧
    (∃ (s : State), (s.nva.waiting.any fun r => r.job.isHost && (r.since.all fun m => decide (m + 10001 ≤ s.ms)) && r.since.isSome) = true) :=
  ⟨⟨({ State.reset with nva := { State.reset.nva with running := some { job := .journal { typ := 8, key := 0, payload := [5] } } } }), ({ job := .journal { typ := 8, key := 0, payload := [5] } }), ({ typ := 8, key := 0, payload := [5] }), by decide +kernel⟩,
   ⟨({ State.reset with nva := { State.reset.nva with running := some { job := .commit { typ := 8, key := 0, payload := [5] } } } }), ({ job := .commit { typ := 8, key := 0, payload := [5] } }), ({ typ := 8, key := 0, payload := [5] }), by decide +kernel⟩,
   ⟨({ State.reset with nva := { State.reset.nva with waiting := [{ job := .journal { typ := 8, key := 0, payload := [5] } }] }, hup := { State.reset.hup with eLow := 100000000 } }), ({ typ := 8, key := 0, payload := [5] }), [], by decide +kernel⟩,
   ⟨({ State.reset with nva := { State.reset.nva with waiting := [{ job := .erase 0x10000 }] }, hup := { State.reset.hup with eLow := 100000000 } }), ({ job := .erase 0x10000 }), by decide +kernel⟩,
   ⟨.passed, ({ State.reset with nva := { State.reset.nva with running := some { job := .erase 0x10000 }, bytes := [(0x10003, 5), (0x20000, 6)] } }), ({ job := .erase 0x10000 }), 0x10000, by decide +kernel⟩,
   ⟨.passed, ({ State.reset with nva := { State.reset.nva with running := some { job := .journal { typ := 8, key := 0, payload := [5] } } } }), ({ job := .journal { typ := 8, key := 0, payload := [5] } }), ({ typ := 8, key := 0, payload := [5] }), by decide +kernel⟩,
   ⟨.failed, ({ State.reset with nva := { State.reset.nva with running := some { job := .erase 0x10000 } } }), ({ job := .erase 0x10000 }), by decide +kernel⟩,
   ⟨.failed, ({ State.reset with nva := { State.reset.nva with running := some { job := .erase 0x10000, fails := 2 } } }), ({ job := .erase 0x10000, fails := 2 }), 0x10000, by decide +kernel⟩,
   ⟨.corrected 0x90000, 0x90000, by decide +kernel⟩,
   ⟨.uncorrectable 0x90000, 0x90000, by decide +kernel⟩,
   ⟨.pairA, (((wPage pgNVA).fset NVA_ADDR.ADDR 0 0x90000).setExpertSt pgNVA .pairA { opened := true }), by decide +kernel⟩,
   ⟨.pairA, (((wPage pgNVA).fset NVA_ADDR.ADDR 0 0x90000).setExpertSt pgNVA .pairA { opened := true }), by decide +kernel⟩,
   ⟨.pairA, (let s := (wPage pgNVA).setExpertSt pgNVA .pairA { opened := true }; { s with nva := { s.nva with waiting := [{ job := .erase 0x10000 }] } }), by decide +kernel⟩,
   ⟨.pairA, 0, (let s := (((wPage pgNVA).fset NVA_STAT.EXEC0 0 1).setExpertSt pgNVA .pairA { opened := true }); { s with hup := { s.hup with eLow := 100000000 } }), by decide +kernel⟩,
   ⟨.pairA, 0, (let s := (((wPage pgNVA).fset NVA_STAT.EXEC0 0 1).setExpertSt pgNVA .pairA { opened := true }); { s with nva := { s.nva with waiting := [{ job := .erase 0x10000 }] }, hup := { s.hup with eLow := 100000000 } }), by decide +kernel⟩,
   ⟨.pairA, 0, (((wPage pgNVA).fset NVA_STAT.EXEC0 0 1).setExpertSt pgNVA .pairA { opened := true }), by decide +kernel⟩,
   ⟨.pairA, 1, false, true, ((wPage pgNVA).setExpertSt pgNVA .pairA { opened := true }), by decide +kernel⟩,
   ⟨({ State.reset with nva := { State.reset.nva with waiting := [{ job := .erase 0x10000, since := some 3 }] }, hup := { State.reset.hup with eLow := 100000000 } }), ({ job := .erase 0x10000, since := some 3 }), by decide +kernel⟩,
   ⟨({ State.reset with nva := { State.reset.nva with burn := some { slot := 5, becomes := { programmed := true }, revokes := false, since := 0 } }, hup := { State.reset.hup with eLow := 100000000 } }), ({ slot := 5, becomes := { programmed := true }, revokes := false, since := 0 }), by decide +kernel⟩,
   ⟨(wMs { State.reset with nva := { State.reset.nva with waiting := [{ job := .erase 0x10000, since := some 3 }] } } 5000), ((wMs { State.reset with nva := { State.reset.nva with waiting := [{ job := .erase 0x10000, since := some 3 }] } } 5000).lateWrite.getD 0), by decide +kernel⟩,
   ⟨(wMs { State.reset with nva := { State.reset.nva with waiting := [{ job := .erase 0x10000, since := some 3 }] } } 50000), by decide +kernel⟩⟩

theorem witness_HoldUpCommands :
    (∃ (code : Fin 4096) (s : State), (hupOver code.val = false) ∧ (s.fon HUP_CFG.EN 0 = false)) ∧
    (∃ (code : Fin 4096) (s : State), (hupOver code.val = false) ∧ (s.fon HUP_CFG.EN 0 = true) ∧ (s.fget HUP_VOLT.VPF_MV 0 ≤ s.hup.vUv / 1000) ∧ (hupUv (median3 ((code.val :: s.hup.samples).take 3)) (s.fget HUP_SCALE.DIV 0) / 1000 < s.fget HUP_VOLT.VPF_MV 0) ∧ (s.fon HUP_STAT.PFAIL 0 = false)) ∧
    (∃ (uv : Int), uv.natAbs ≤ 50000) ∧
    (∃ (s : State), s.timerDue tmHupV 0 s.us 100 = true) ∧
    (∃ (s : State), s.timerDue tmHupQ 0 s.ms 10 = true) ∧
    (∃ (s : State), s.fon HUP_CFG.EN 0 = false) ∧
    (∃ (s : State), (s.fon HUP_CFG.EN 0 = true) ∧ (s.fon HUP_CFG.CQ_EN 0 = false) ∧ (s.fon HUP_STAT.V_LOSS 0 = false)) ∧
    (∃ (s : State), s.timerDue tmHupDisagree 0 s.sec_ 1 = true) ∧
    (∃ (s : State), (s.timerDue tmHupRebase 0 s.sec_ (s.fget HUP_X2.DIS_S 0) = true) ∧ (s.hup.supplyGood = true) ∧ (s.hupStable = true)) ∧
    (∃ (s : State), (s.timerDue tmHupReady 0 s.sec_ 60 = true) ∧ (s.hup.supplyGood = true) ∧ (s.fon HUP_STAT.READY 0 = false)) ∧
    (∃ (s : State), s.fon HUP_STAT.PFAIL 0 = false) ∧
    (∃ (s : State), (s.fon HUP_STAT.PFAIL 0 = true) ∧ (s.pfIdle = true) ∧ (s.fget HUP_VOLT.VPF_MV 0 ≤ s.hup.vUv / 1000)) :=
  ⟨⟨2000, State.reset, by decide +kernel⟩,
   ⟨5, ({ (State.reset.fset HUP_CFG.EN 0 1).fset HUP_VOLT.VPF_MV 0 9000 with hup := { State.reset.hup with vUv := 10000000 } }), by decide +kernel⟩,
   ⟨(-40000), by decide +kernel⟩,
   ⟨(wMs (State.reset.timerStart tmHupV 0 0) 900), by decide +kernel⟩,
   ⟨(wMs (State.reset.timerStart tmHupQ 0 0) 900), by decide +kernel⟩,
   ⟨State.reset, by decide +kernel⟩,
   ⟨({ (State.reset.fset HUP_CFG.EN 0 1).fset HUP_CFG.CQ_EN 0 0 with hup := { State.reset.hup with vUv := 12000000 } }), by decide +kernel⟩,
   ⟨(wMs (State.reset.timerStart tmHupDisagree 0 0) 9000), by decide +kernel⟩,
   ⟨(wMs ({ (State.reset.timerStart tmHupRebase 0 0) with hup := { State.reset.hup with vUv := 10000000, vLows := [(0, 10000000)], vHighs := [(0, 10000000)], vSince := some 0 } }) 900000), by decide +kernel⟩,
   ⟨(wMs (State.reset.timerStart tmHupReady 0 0) 900000), by decide +kernel⟩,
   ⟨State.reset, by decide +kernel⟩,
   ⟨({ State.reset.fset HUP_STAT.PFAIL 0 1 with hup := { State.reset.hup with vUv := 100000000, supplyGood := false } }), by decide +kernel⟩⟩

theorem witness_SecurityCommands :
    (∃ (who : Init) (target : Fin 8) (confirm : BitVec 16) (s : State) (id : Ident), (Admits (fun _ => none) s who pgSEC 0x044) ∧ (s.identOf who = some id) ∧ (s.lcVerdict id target.val confirm.toNat = none)) ∧
    (∃ (outcome : FuseEnd) (s : State) (r : LcReq), (s.sec.lcReq = some r) ∧ (r.burned = false) ∧ (s.energyOk 4000 s.evr.stagedSegs = true) ∧ (outcome = .firstFailed)) ∧
    (∃ (outcome : FuseEnd) (s : State) (r : LcReq), (s.sec.lcReq = some r) ∧ (r.burned = false) ∧ (s.energyOk 4000 s.evr.stagedSegs = true) ∧ (outcome = .secondFailed)) ∧
    (∃ (outcome : FuseEnd) (s : State) (r : LcReq) (u : State), (s.sec.lcReq = some r) ∧ (r.burned = false) ∧ (s.energyOk 4000 s.evr.stagedSegs = true) ∧ (s.nva.running = none) ∧ (outcome = .burned) ∧ ((s.fuseBurned r true).eraseKeys r.target = some u)) ∧
    (∃ (outcome : FuseEnd) (s : State) (r : LcReq), (s.sec.lcReq = some r) ∧ (r.burned = false) ∧ (s.energyOk 4000 s.evr.stagedSegs = true) ∧ (s.nva.running.isSome = true ∨ (s.fuseBurned r true).eraseKeys r.target = none) ∧ (outcome = .burned)) ∧
    (∃ (who : Init) (plain : Bool) (s : State) (k : Nat), (Admits (fun u => u.keyVerdict who false plain) s who pgSEC 0x07C) ∧ ((if plain then some s.plainKey else s.unwrapped who) = some k)) ∧
    (∃ (who : Init) (plain : Bool) (s : State), ((s.keyVerdict who false plain).isSome = true) ∧ (s.running pgSEC = true) ∧ (s.reaches who = true) ∧ (s.rst.recovery = false)) ∧
    (∃ (who : Init) (plain : Bool) (s : State), (Admits (fun u => u.keyVerdict who false plain) s who pgSEC 0x07C) ∧ (plain = false) ∧ (s.unwrapped who = none)) ∧
    (∃ (who : Init) (s : State), Admits (fun u => u.keyVerdict who true false) s who pgSEC 0x07C) ∧
    (∃ (who : Init) (role : Fin 32) (s : State), (Admits (fun u => u.roleVerdict who) s who pgSEC 0x048) ∧ (role.val ≤ 0x10 ∨ role.val = 0x1F)) ∧
    (∃ (who : Init) (usage : Fin 16) (s : State), (Admits (fun u => u.programVerdict who (s.rootSel who)) s who pgSEC 0x100) ∧ ((s.rootOf (s.rootSel who)).programmed = false) ∧ (s.rootSel who < 4 ∨ usage.val < 8) ∧ (s.nva.burn = none) ∧ (s.energyOk 4000 s.evr.stagedSegs = true)) ∧
    (∃ (who : Init) (usage : Fin 16) (s : State), (Admits (fun u => u.programVerdict who (s.rootSel who)) s who pgSEC 0x100) ∧ ((s.rootOf (s.rootSel who)).programmed = false) ∧ (s.rootSel who < 4 ∨ usage.val < 8) ∧ (s.nva.burn = none) ∧ (s.energyOk 4000 s.evr.stagedSegs = false)) ∧
    (∃ (who : Init) (s : State), (Admits (fun u => u.revokeVerdict who (s.rootSel who)) s who pgSEC 0x100) ∧ ((s.rootOf (s.rootSel who)).firmware = false) ∧ ((List.range 8).any (fun i => (s.rootOf i).firmware) = true) ∧ (s.nva.burn = none) ∧ (s.energyOk 4000 s.evr.stagedSegs = true)) ∧
    (∃ (who : Init) (s : State), Admits (fun u => u.svnVerdict who) s who pgSEC 0x104) :=
  ⟨⟨.pairB, 2, (BitVec.ofNat 16 State.reset.confirm), ((wLc (wPage pgSEC)).fset LIM_REG_STAT.VALID 0 1), .integrator, by decide +kernel⟩,
   ⟨.firstFailed, ({ State.reset with sec := { lc := 1, lcReq := some { target := 2, ident := 0x10, old := 1 } }, hup := { State.reset.hup with eLow := 100000000 } }), ({ target := 2, ident := 0x10, old := 1 }), by decide +kernel⟩,
   ⟨.secondFailed, ({ State.reset with sec := { lc := 1, lcReq := some { target := 2, ident := 0x10, old := 1 } }, hup := { State.reset.hup with eLow := 100000000 } }), ({ target := 2, ident := 0x10, old := 1 }), by decide +kernel⟩,
   ⟨.burned, ({ State.reset with sec := { lc := 1, lcReq := some { target := 2, ident := 0x10, old := 1 } }, hup := { State.reset.hup with eLow := 100000000 } }), ({ target := 2, ident := 0x10, old := 1 }), (((State.fuseBurned ({ State.reset with sec := { lc := 1, lcReq := some { target := 2, ident := 0x10, old := 1 } }, hup := { State.reset.hup with eLow := 100000000 } }) { target := 2, ident := 0x10, old := 1 } true).eraseKeys 2).getD State.reset), by decide +kernel⟩,
   ⟨.burned, ({ State.reset with sec := { lc := 1, lcReq := some { target := 2, ident := 0x10, old := 1 } }, hup := { State.reset.hup with eLow := 100000000 }, nva := { State.reset.nva with running := some { job := .erase 0x10000 } } }), ({ target := 2, ident := 0x10, old := 1 }), by decide +kernel⟩,
   ⟨.pcie, true, wPlainKey, (wPlainKey.plainKey), by decide +kernel⟩,
   ⟨.pairB, true, (wLc (wPage pgSEC)), by decide +kernel⟩,
   ⟨.pairB, false, (wLc (wPage pgSEC)), by decide +kernel⟩,
   ⟨.pairB, (wLc (wPage pgSEC)), by decide +kernel⟩,
   ⟨.pairB, 0x1F, (wLc (wPage pgSEC)), by decide +kernel⟩,
   ⟨.pairB, 7, (let s := (wLc (wPage pgSEC)).fset SEC_ROOT_SEL.SLOT (Init.holder .pairB) 5; { s with hup := { s.hup with eLow := 100000000 } }), by decide +kernel⟩,
   ⟨.pairB, 7, ((wLc (wPage pgSEC)).fset SEC_ROOT_SEL.SLOT (Init.holder .pairB) 5), by decide +kernel⟩,
   ⟨.pairB, (let s := (wLc (wPage pgSEC)).fset SEC_ROOT_SEL.SLOT (Init.holder .pairB) 5; { s with hup := { s.hup with eLow := 100000000 } }), by decide +kernel⟩,
   ⟨.pairB, ((wLc ((wPage pgSEC).setExpertSt pgSEC .pairB { opened := true })).fset SEC_BOOT.FW_RUN_SVN 0 9), by decide +kernel⟩⟩

theorem witness_DebugAndTraceCommands :
    (∃ (level : Fin 3) (slot : Fin 8) (signed : Bool) (sigOk : Bool) (s : State), (s.fget DBG_STAT.LOCKOUT_S 0 = 0) ∧ (s.snowBound = false) ∧ (s.debugGood level.val slot.val signed sigOk = true)) ∧
    (∃ (level : Fin 3) (slot : Fin 8) (signed : Bool) (sigOk : Bool) (s : State), (s.fget DBG_STAT.LOCKOUT_S 0 = 0) ∧ (s.snowBound = false) ∧ (s.debugGood level.val slot.val signed sigOk = false)) ∧
    (∃ (s : State), s.timerDue tmDbgChal 0 s.sec_ 60 = true) ∧
    (∃ (s : State), s.timerDue tmDbgLock 0 s.sec_ s.dbg.lockS = true) ∧
    (∃ (who : Init) (s : State), Admitted s who pgDBG 0x070) ∧
    (∃ (s : State), (0 < s.fget DBG_STAT.LEVEL 0) ∧ (s.timerDue tmDbgIdle 0 s.sec_ (s.fget DBG_CFG.IDLE_S 0) = true)) ∧
    (∃ (op : JtagOp) (s : State) (n : Nat), (jtagNeeds s.sec.lc op = some n) ∧ (n ≤ s.fget DBG_STAT.LEVEL 0)) ∧
    (∃ (op : JtagOp) (s : State), (jtagNeeds s.sec.lc op).all (fun n => decide (s.fget DBG_STAT.LEVEL 0 < n)) = true) ∧
    (∃ (b : Bool) (a : BitVec 32) (w : Word) (s : State), (2 ≤ s.fget DBG_STAT.LEVEL 0) ∧ (Tbl.get (fun _ => none) s.dbg.mem (memKey b a) = some w)) ∧
    (∃ (s : State), 2 ≤ s.fget DBG_STAT.LEVEL 0) ∧
    (∃ (s : State), 2 ≤ s.fget DBG_STAT.LEVEL 0) ∧
    (∃ (s : State), 0 < s.fget DBG_STAT.LOCKOUT_S 0 ∨ s.snowBound = true) ∧
    (∃ (source : Fin 5) (s : State), (s.works pgTRC = true) ∧ (s.trcAdmits source.val = true) ∧ ((s.fon TRC_CTRL.STOP_FULL 0 && s.trcFull) = false)) ∧
    (∃ (source : Fin 5) (s : State), (s.works pgTRC = true) ∧ (s.trcAdmits source.val = true) ∧ ((s.fon TRC_CTRL.STOP_FULL 0 && s.trcFull) = true)) ∧
    (∃ (source : Fin 5) (s : State), s.works pgTRC = false ∨ s.trcAdmits source.val = false) ∧
    (∃ (page : Fin 64) (bit : Fin 32) (s : State), (s.pagePresent page.val = true) ∧ (s.running page.val = true) ∧ (page.val ≠ pgTRC) ∧ (s.fbit EVT_LEVEL.LEVEL page.val bit.val = false) ∧ (s.trcAdmits 4 = true) ∧ (s.fon PAGE_STAT.READY pgTRC = true) ∧ (s.fon TRC_CTRL.STOP_FULL 0 = false)) ∧
    (∃ (s : State), s.timerDue tmDbgChal 0 s.sec_ 60 = false) ∧
    (∃ (s : State), s.timerDue tmDbgLock 0 s.sec_ s.dbg.lockS = false) ∧
    (∃ (s : State), s.fget DBG_STAT.LEVEL 0 = 0 ∨ s.timerDue tmDbgIdle 0 s.sec_ (s.fget DBG_CFG.IDLE_S 0) = false) ∧
    (∃ (who : Init) (s : State), (Readable s who pgTRC) ∧ (s.identOf who = some .manufacturer ∨ s.identOf who = some .integrator ∨ s.identOf who = some .fieldService)) :=
  ⟨⟨2, 0, false, false, State.reset, by decide +kernel⟩,
   ⟨2, 0, true, false, State.reset, by decide +kernel⟩,
   ⟨(wMs (State.reset.timerStart tmDbgChal 0 0) 900000), by decide +kernel⟩,
   ⟨(wMs ((State.reset.fset DBG_STAT.LOCKOUT_S 0 60).timerStart tmDbgLock 0 0) 900000), by decide +kernel⟩,
   ⟨.pairA, ((wPage pgDBG).fset DBG_STAT.LEVEL 0 2), by decide +kernel⟩,
   ⟨(wMs ((State.reset.fset DBG_STAT.LEVEL 0 2).timerStart tmDbgIdle 0 0) 900000000), by decide +kernel⟩,
   ⟨(.halt true), (State.reset.fset DBG_STAT.LEVEL 0 2), 2, by decide +kernel⟩,
   ⟨.debugPort, State.reset, by decide +kernel⟩,
   ⟨true, 4, 7, (let s := State.reset.fset DBG_STAT.LEVEL 0 2; { s with dbg := { s.dbg with mem := [(9, some 7)] } }), by decide +kernel⟩,
   ⟨(State.reset.fset DBG_STAT.LEVEL 0 2), by decide +kernel⟩,
   ⟨(let s := State.reset.fset DBG_STAT.LEVEL 0 2; { s with dbg := { s.dbg with mem := [(9, some 7)] } }), by decide +kernel⟩,
   ⟨(State.reset.fset DBG_STAT.LOCKOUT_S 0 60), by decide +kernel⟩,
   ⟨0, ((wWorks pgTRC State.reset).fset TRC_STAT.WR_PTR 0 4095), by decide +kernel⟩,
   ⟨0, (let s := (wWorks pgTRC State.reset).fset TRC_CTRL.STOP_FULL 0 1; { s with trc := { s.trc with ring := [(0, some { source := 0, aux := 0, dt := 0, payload := 0 })] } }), by decide +kernel⟩,
   ⟨1, (wWorks pgTRC State.reset), by decide +kernel⟩,
   ⟨0x14, 3, (((((wPage pgCAN).fset TRC_CTRL.EN 0 1).fset TRC_CTRL.SRC_EN 0 8).fset DBG_STAT.LEVEL 0 1).fset PAGE_STAT.READY pgTRC 1), by decide +kernel⟩,
   ⟨State.reset, by decide +kernel⟩,
   ⟨State.reset, by decide +kernel⟩,
   ⟨State.reset, by decide +kernel⟩,
   ⟨.pairB, ((wPage pgTRC).fset TRC_RD_ADDR.ADDR 0 65532), by decide +kernel⟩⟩

theorem witness_PowerCommands :
    (∃ (who : Init) (drain : Bool) (keepFh : Fin 4) (s : State), (Admitted s who pgPWR 0x040) ∧ (s.fon PWR_STAT.PENDING 0 = false) ∧ (s.pwr.waking = false) ∧ (s.pwrRefusal pwACTIVE drain = none) ∧ ((regAt pgPWR 0x040).all (fun r => rangesOk pgPWR 0x040 (r.merge (s.word (PWR_CTRL.TARGET.key 0)) (pwrGo pwACTIVE drain keepFh.val))) = true)) ∧
    (∃ (who : Init) (drain : Bool) (keepFh : Fin 4) (s : State), (Admitted s who pgPWR 0x040) ∧ (s.fon PWR_STAT.PENDING 0 = false) ∧ (s.pwr.waking = false) ∧ (s.pwrRefusal pwLEAN drain = none) ∧ ((regAt pgPWR 0x040).all (fun r => rangesOk pgPWR 0x040 (r.merge (s.word (PWR_CTRL.TARGET.key 0)) (pwrGo pwLEAN drain keepFh.val))) = true)) ∧
    (∃ (who : Init) (drain : Bool) (keepFh : Fin 4) (s : State), (Admitted s who pgPWR 0x040) ∧ (s.fon PWR_STAT.PENDING 0 = false) ∧ (s.pwr.waking = false) ∧ (s.pwrRefusal pwSTANDBY drain = none) ∧ ((regAt pgPWR 0x040).all (fun r => rangesOk pgPWR 0x040 (r.merge (s.word (PWR_CTRL.TARGET.key 0)) (pwrGo pwSTANDBY drain keepFh.val))) = true)) ∧
    (∃ (who : Init) (drain : Bool) (keepFh : Fin 4) (s : State), (Admitted s who pgPWR 0x040) ∧ (s.fon PWR_STAT.PENDING 0 = false) ∧ (s.pwr.waking = false) ∧ (s.pwrRefusal pwSNOWDROP drain = none) ∧ ((regAt pgPWR 0x040).all (fun r => rangesOk pgPWR 0x040 (r.merge (s.word (PWR_CTRL.TARGET.key 0)) (pwrGo pwSNOWDROP drain keepFh.val))) = true)) ∧
    (∃ (s : State), (s.fon PWR_STAT.PENDING 0 = true) ∧ (s.pwr.target = pwACTIVE ∨ s.pwr.target = pwLEAN) ∧ (s.pwState ≠ pwSTANDBY)) ∧
    (∃ (s : State), (s.fon PWR_STAT.PENDING 0 = true) ∧ (s.pwr.target = pwSTANDBY) ∧ (s.pathsOff = true)) ∧
    (∃ (s : State), (s.fon PWR_STAT.PENDING 0 = true) ∧ (s.pwr.target = pwSNOWDROP) ∧ (s.executes = false) ∧ (s.stageEmpty = true) ∧ ((if s.pwr.asleep then s else s.chainsSleep).chainsSlept = true)) ∧
    (∃ (pin : Fin 4) (level : Bool) (s : State), (s.fbit PWR_WAKE_EN.EN 0 pin.val = true) ∧ (level = s.fbit PWR_WAKE_EN.POL 0 pin.val) ∧ (Tbl.get (fun _ => false) s.pwr.stuck pin.val = false) ∧ (s.pwState = pwSNOWDROP) ∧ (s.pwr.waking = false)) ∧
    (∃ (s : State), (s.pwState = pwSNOWDROP) ∧ (s.fbit PWR_WAKE_EN.EN 0 5 = true) ∧ (s.fget PWR_WAKE_TIMER.CYCLES 0 ≠ 0) ∧ (s.pwr.waking = false)) ∧
    (∃ (pin : Fin 4) (s : State), (s.timerDue tmWakePin pin.val s.sec_ 10 = true) ∧ (s.wakePinActive pin.val = true)) ∧
    (∃ (cycles : Word) (v : BootVerdict) (s : State), (s.pwr.waking = true) ∧ (s.pwState = pwSNOWDROP) ∧ (s.rst.recovery = false) ∧ ((s.wakeClocks cycles.toNat).firstBank v s.wakeOrder = none)) ∧
    (∃ (cycles : Word) (v : BootVerdict) (s : State) (b : Nat), (s.pwr.waking = true) ∧ (s.pwState = pwSNOWDROP) ∧ (s.rst.recovery = false) ∧ ((s.wakeClocks cycles.toNat).firstBank v s.wakeOrder = some b)) ∧
    (∃ (s : State), s.fon PWR_STAT.PENDING 0 = false) ∧
    (∃ (s : State), (s.fon PWR_STAT.PENDING 0 = true) ∧ (s.pwr.target = pwSNOWDROP) ∧ (s.executes = true)) ∧
    (∃ (s : State), (s.fon PWR_STAT.PENDING 0 = true) ∧ (s.pwr.target = pwSNOWDROP) ∧ (s.executes = false) ∧ (s.stageEmpty = true) ∧ ((if s.pwr.asleep then s else s.chainsSleep).chainsSlept = false)) ∧
    (∃ (s : State), (s.fon PWR_STAT.PENDING 0 = true) ∧ (s.pwr.target = pwSNOWDROP) ∧ (s.executes = false) ∧ (s.stageEmpty = false)) ∧
    (∃ (s : State), s.pwState ≠ pwSNOWDROP ∨ s.fbit PWR_WAKE_EN.EN 0 5 = false ∨ s.fget PWR_WAKE_TIMER.CYCLES 0 = 0) ∧
    (∃ (s : State), s.pwr.waking = false ∨ s.pwState ≠ pwSNOWDROP ∨ s.rst.recovery = true) ∧
    (∃ (pin : Fin 4) (s : State), s.timerDue tmWakePin pin.val s.sec_ 10 = false) ∧
    (∃ (pin : Fin 4) (level : Bool) (s : State), (s.fon PWR_STAT.PENDING 0 = true) ∧ (s.pwr.target = pwSNOWDROP) ∧ (s.pwState ≠ pwSNOWDROP) ∧ ((s.setWakePin pin.val level).wakePinCalls pin.val = true)) ∧
    (∃ (who : Init) (drain : Bool) (s : State) (cause : Nat), (Admitted s who pgPWR 0x040) ∧ (s.fon PWR_STAT.PENDING 0 = false) ∧ (s.pwr.waking = false) ∧ (s.pwrRefusal pwACTIVE drain = some cause)) ∧
    (∃ (who : Init) (drain : Bool) (s : State) (cause : Nat), (Admitted s who pgPWR 0x040) ∧ (s.fon PWR_STAT.PENDING 0 = false) ∧ (s.pwr.waking = false) ∧ (s.pwrRefusal pwLEAN drain = some cause)) ∧
    (∃ (who : Init) (drain : Bool) (s : State) (cause : Nat), (Admitted s who pgPWR 0x040) ∧ (s.fon PWR_STAT.PENDING 0 = false) ∧ (s.pwr.waking = false) ∧ (s.pwrRefusal pwSTANDBY drain = some cause)) ∧
    (∃ (who : Init) (drain : Bool) (s : State) (cause : Nat), (Admitted s who pgPWR 0x040) ∧ (s.fon PWR_STAT.PENDING 0 = false) ∧ (s.pwr.waking = false) ∧ (s.pwrRefusal pwSNOWDROP drain = some cause)) :=
  ⟨⟨.pairA, false, 0, (((wPage pgPWR).fset PWR_STAT.STATE 0 pwLEAN)), by decide +kernel⟩,
   ⟨.pairA, false, 0, (((wPage pgPWR).fset PWR_STAT.STATE 0 pwACTIVE)), by decide +kernel⟩,
   ⟨.pairA, true, 3, (((wPage pgPWR).fset PWR_STAT.STATE 0 pwLEAN)), by decide +kernel⟩,
   ⟨.pairA, false, 0, (((wPage pgPWR).fset PWR_STAT.STATE 0 pwSTANDBY)), by decide +kernel⟩,
   ⟨(let s := (State.reset.fset PWR_STAT.PENDING 0 1); { s with pwr := { s.pwr with target := pwLEAN } }), by decide +kernel⟩,
   ⟨(let s := (State.reset.fset PWR_STAT.PENDING 0 1); { s with pwr := { s.pwr with target := pwSTANDBY } }), by decide +kernel⟩,
   ⟨(let s := (State.reset.fset PWR_STAT.PENDING 0 1); { s with pwr := { s.pwr with target := pwSNOWDROP } }), by decide +kernel⟩,
   ⟨3, true, (((State.reset.fset PWR_STAT.STATE 0 pwSNOWDROP).fsetBit PWR_WAKE_EN.EN 0 3 true).fsetBit PWR_WAKE_EN.POL 0 3 true), by decide +kernel⟩,
   ⟨(((State.reset.fset PWR_STAT.STATE 0 pwSNOWDROP).fsetBit PWR_WAKE_EN.EN 0 5 true).fset PWR_WAKE_TIMER.CYCLES 0 9), by decide +kernel⟩,
   ⟨3, (wMs ((State.reset.fset PWR_WAKE_EN.POL 0 0).timerStart tmWakePin 3 0) 900000), by decide +kernel⟩,
   ⟨77, (⟨3, 3, true, true, false⟩), (let s := State.reset.fset PWR_STAT.STATE 0 pwSNOWDROP; { s with time := { started := true }, pwr := { s.pwr with waking := true } }), by decide +kernel⟩,
   ⟨77, (⟨3, 3, true, true, false⟩), (let s := wBank.fset PWR_STAT.STATE 0 pwSNOWDROP; { s with time := { started := true }, pwr := { s.pwr with waking := true } }), 0, by decide +kernel⟩,
   ⟨State.reset, by decide +kernel⟩,
   ⟨(wRun (wPkt 0x20 1 0x10 0 0 []) (let s := (State.reset.fset PWR_STAT.PENDING 0 1); { s with pwr := { s.pwr with target := pwSNOWDROP } })), by decide +kernel⟩,
   ⟨(let s := ((State.reset.fset PWR_STAT.PENDING 0 1).fset FEL_CHAIN.STATE 3 chSTANDBY); { s with pwr := { s.pwr with target := pwSNOWDROP } }), by decide +kernel⟩,
   ⟨(let s := (State.reset.fset PWR_STAT.PENDING 0 1); { s with pwr := { s.pwr with target := pwSNOWDROP }, evr := { s.evr with openSeg := [{ code := 0x6001, p0 := 1, p1 := 2, p2 := 3, dt := 4 }] } }), by decide +kernel⟩,
   ⟨State.reset, by decide +kernel⟩,
   ⟨State.reset, by decide +kernel⟩,
   ⟨3, State.reset, by decide +kernel⟩,
   ⟨3, true, (let s := ((wPage pgPWR).fsetBit PWR_WAKE_EN.EN 0 3 true).fsetBit PWR_WAKE_EN.POL 0 3 true; { s.fset PWR_STAT.PENDING 0 1 with pwr := { s.pwr with target := pwSNOWDROP } }), by decide +kernel⟩,
   ⟨.pairA, false, (wPage pgPWR).fset PWR_STAT.STATE 0 pwACTIVE, 0, by decide +kernel⟩,
   ⟨.pairA, false, (wPage pgPWR).fset PWR_STAT.STATE 0 pwSTANDBY, 0, by decide +kernel⟩,
   ⟨.pairA, false, (wPage pgPWR).fset PWR_STAT.STATE 0 pwSTANDBY, 0, by decide +kernel⟩,
   ⟨.pairA, false, (wPage pgPWR).fset PWR_STAT.STATE 0 pwACTIVE, 0, by decide +kernel⟩⟩

theorem witness_ConverterCommands :
    (∃ (who : Init) (conv : Fin 2) (s : State), (Admitted s who pgHKA (hkaCmdOff conv.val)) ∧ (s.fget HKA_CFG.TRIG conv.val = 0) ∧ (s.scansItself conv.val = true) ∧ (s.scanReady conv.val = true)) ∧
    (∃ (who : Init) (conv : Fin 2) (s : State), (Admitted s who pgHKA (hkaCmdOff conv.val)) ∧ (s.fget HKA_CFG.TRIG conv.val = 0) ∧ (s.scansItself conv.val = true) ∧ (s.scanReady conv.val = false) ∧ (s.fon HKA_STAT.START_HELD conv.val = false)) ∧
    (∃ (who : Init) (conv : Fin 2) (s : State), (Admitted s who pgHKA (hkaCmdOff conv.val)) ∧ (s.fget HKA_CFG.TRIG conv.val = 0) ∧ (s.scansItself conv.val = true) ∧ (s.scanReady conv.val = false) ∧ (s.fon HKA_STAT.START_HELD conv.val = true)) ∧
    (∃ (conv : Fin 2) (s : State), (s.works pgHKA = true) ∧ (s.timerDue tmHkaScan conv.val s.ms (s.fget HKA_TRIG.PERIOD_MS conv.val) = true) ∧ (s.scansItself conv.val = true) ∧ (s.scanReady conv.val = true)) ∧
    (∃ (conv : Fin 2) (code : Int) (s : State), (s.works pgHKA = true) ∧ (s.hk.urgOn ≠ some conv.val) ∧ (conv.val = 0 ∨ s.interleaved = false) ∧ ((s.hka conv.val).conv = true) ∧ (s.overRange conv.val (s.vpin conv.val code) = false) ∧ ((s.hka conv.val).entry + 1 < (s.hka conv.val).chans.length) ∧ ((s.hka conv.val).chans.length ≤ 32)) ∧
    (∃ (conv : Fin 2) (code : Int) (s : State), (s.works pgHKA = true) ∧ (s.hk.urgOn = some conv.val) ∧ (s.overRange conv.val (s.vpin conv.val code) = false) ∧ (s.hk.urg.length = 1)) ∧
    (∃ (who : Init) (div : Fin 8) (s : State), (Admitted s who pgHKA 0x080) ∧ (div.val ≠ 7) ∧ (s.hk.urg.length < 2)) ∧
    (∃ (who : Init) (conv : Fin 2) (s : State), (Admitted s who pgHKA (hkaCmdOff conv.val)) ∧ (s.hkaOn conv.val = true) ∧ ((s.hka conv.val).cal = false)) ∧
    (∃ (conv : Fin 2) (pass : Bool) (s : State), ((s.hka conv.val).cal = true) ∧ (s.timerDue tmHkaCal conv.val s.ms 120 = true) ∧ ((s.hka conv.val).held = []) ∧ (pass = true)) ∧
    (∃ (conv : Fin 2) (pass : Bool) (s : State), ((s.hka conv.val).cal = true) ∧ (s.timerDue tmHkaCal conv.val s.ms 120 = true) ∧ ((s.hka conv.val).held = []) ∧ (pass = false)) ∧
    (∃ (who : Init) (conv : Fin 2) (s : State), (Admitted s who pgHKA (hkaCmdOff conv.val)) ∧ ((s.hka conv.val).cal = true) ∧ ((s.hka conv.val).held = [])) ∧
    (∃ (mv : Nat) (s : State), (s.hkaOn 0 = true) ∧ (s.fget HKA_CFG.REF 0 = 1) ∧ (s.fon HKA_STAT.REF_FALLBACK 0 = false) ∧ (inWindow mv (s.fget HKA_REFEXT.REFEXT_MV 0) = true)) ∧
    (∃ (mv : Nat) (s : State), (s.hkaOn 0 = true) ∧ (s.fget HKA_CFG.REF 0 = 1) ∧ (s.fon HKA_STAT.REF_FALLBACK 0 = false) ∧ (inWindow mv (s.fget HKA_REFEXT.REFEXT_MV 0) = false) ∧ ((s.hka 0).extFails = 2)) ∧
    (∃ (conv : Fin 2) (s : State), (s.hkaOn conv.val = true) ∧ (s.fon HKA_STAT.REF_SETTLED conv.val = false) ∧ (s.timerDue tmHkaRef conv.val s.us (s.refSettling conv.val) = true)) ∧
    (∃ (conv : Fin 2) (s : State), s.works pgHKA = false ∨ s.timerDue tmHkaScan conv.val s.ms (s.fget HKA_TRIG.PERIOD_MS conv.val) = false) ∧
    (∃ (conv : Fin 2) (code : Int) (s : State), (s.works pgHKA = true) ∧ (s.hk.urgOn ≠ some conv.val) ∧ (conv.val = 0 ∨ s.interleaved = false) ∧ ((s.hka conv.val).conv = true) ∧ (s.overRange conv.val (s.vpin conv.val code) = false) ∧ ((s.hka conv.val).chans.length ≤ (s.hka conv.val).entry + 1) ∧ ((s.hka conv.val).entry < 32) ∧ (s.fget HKA_CFG.TRIG conv.val = 0) ∧ (s.fon HKA_STAT.START_HELD conv.val = false)) ∧
    (∃ (conv : Fin 2) (code : Int) (s : State) (n : Nat), (s.works pgHKA = true) ∧ (s.hk.urgOn ≠ some conv.val) ∧ (conv.val = 1) ∧ (s.interleaved = true) ∧ ((s.hka 1).twin = some n) ∧ (s.fon HKA_STAT.REF_SETTLED 1 = true) ∧ ((s.hka 1).cal = false) ∧ (s.overRange 1 (s.vpin 1 code) = false)) ∧
    (∃ (conv : Fin 2) (code : Int) (s : State), (s.works pgHKA = true) ∧ (s.hk.urgOn ≠ some conv.val) ∧ (conv.val = 0 ∨ s.interleaved = false) ∧ ((s.hka conv.val).conv = true) ∧ (s.overRange conv.val (s.vpin conv.val code) = true) ∧ ((s.hka conv.val).entry + 1 < (s.hka conv.val).chans.length) ∧ ((s.hka conv.val).chans.length ≤ 32)) ∧
    (∃ (conv : Fin 2) (s : State), s.works pgHKA = false ∨ (s.hk.urgOn ≠ some conv.val ∧ (conv.val = 0 ∨ s.interleaved = false) ∧ (s.hka conv.val).conv = false)) ∧
    (∃ (conv : Fin 2) (s : State), (conv.val = 1) ∧ (s.hk.urgOn ≠ some 1) ∧ (s.interleaved = true) ∧ ((s.hka 1).twin = none)) ∧
    (∃ (conv : Fin 2) (s : State), (s.hka conv.val).cal = false ∨ s.timerDue tmHkaCal conv.val s.ms 120 = false) ∧
    (∃ (who : Init) (conv : Fin 2) (s : State), (Admitted s who pgHKA (hkaCmdOff conv.val)) ∧ ((s.hka conv.val).cal = false) ∧ (s.fget HKA_CFG.TRIG conv.val ≠ 3) ∧ (s.fon HKA_STAT.START_HELD conv.val = false)) ∧
    (∃ (conv : Fin 2) (s : State), s.hkaOn conv.val = false ∨ s.fon HKA_STAT.REF_SETTLED conv.val = true ∨ s.timerDue tmHkaRef conv.val s.us (s.refSettling conv.val) = false) :=
  ⟨⟨.pairA, 1, ((((wPage pgHKA).fset HKA_CFG.EN 1 1).fset HKA_STAT.REF_SETTLED 1 1).fset HKA_SCAN.MASK 1 0x80000001), by decide +kernel⟩,
   ⟨.pairA, 1, ((wPage pgHKA).fset HKA_CFG.EN 1 1), by decide +kernel⟩,
   ⟨.pairA, 1, (((wPage pgHKA).fset HKA_CFG.EN 1 1).fset HKA_STAT.START_HELD 1 1), by decide +kernel⟩,
   ⟨1, (wMs (((((wWorks pgHKA State.reset).fset HKA_CFG.EN 1 1).fset HKA_STAT.REF_SETTLED 1 1).fset HKA_SCAN.MASK 1 0x80000001).timerStart tmHkaScan 1 0) 900000), by decide +kernel⟩,
   ⟨1, (-500), ((wWorks pgHKA State.reset).setHka 1 { chans := [3, 31], conv := true }), by decide +kernel⟩,
   ⟨1, (-500), ({ wWorks pgHKA State.reset with hk := { State.reset.hk with urg := [(31, 2)], urgOn := some 1 } }), by decide +kernel⟩,
   ⟨.pairA, 6, (wPage pgHKA), by decide +kernel⟩,
   ⟨.pairA, 1, ((wPage pgHKA).fset HKA_CFG.EN 1 1), by decide +kernel⟩,
   ⟨1, true, (wMs ((State.reset.setHka 1 { cal := true }).timerStart tmHkaCal 1 0) 900), by decide +kernel⟩,
   ⟨1, false, (wMs ((State.reset.setHka 1 { cal := true }).timerStart tmHkaCal 1 0) 900), by decide +kernel⟩,
   ⟨.pairA, 1, ((wPage pgHKA).setHka 1 { cal := true }), by decide +kernel⟩,
   ⟨2400, (((State.reset.fset HKA_CFG.EN 0 1).fset HKA_CFG.REF 0 1).fset HKA_REFEXT.REFEXT_MV 0 2500), by decide +kernel⟩,
   ⟨100, (((State.reset.fset HKA_CFG.EN 0 1).fset HKA_CFG.REF 0 1).setHka 0 { extFails := 2 }), by decide +kernel⟩,
   ⟨1, (wMs ((State.reset.fset HKA_CFG.EN 1 1).timerStart tmHkaRef 1 0) 9000), by decide +kernel⟩,
   ⟨1, State.reset, by decide +kernel⟩,
   ⟨1, (-500), ((wWorks pgHKA State.reset).setHka 1 { chans := [3, 31], entry := 1, conv := true }), by decide +kernel⟩,
   ⟨1, (-500), (((((wWorks pgHKA State.reset).fset HKA_CFG.EN 0 1).fset HKA_CFG.INTERLEAVE 0 1).fset HKA_STAT.REF_SETTLED 1 1).setHka 1 { twin := some 31 }), 31, by decide +kernel⟩,
   ⟨1, 99999999, ((wWorks pgHKA State.reset).setHka 1 { chans := [3, 31], conv := true }), by decide +kernel⟩,
   ⟨1, (wWorks pgHKA State.reset), by decide +kernel⟩,
   ⟨1, (((wWorks pgHKA State.reset).fset HKA_CFG.EN 0 1).fset HKA_CFG.INTERLEAVE 0 1), by decide +kernel⟩,
   ⟨1, State.reset, by decide +kernel⟩,
   ⟨.pairA, 1, ((wPage pgHKA).setHka 1 { chans := [3], conv := true }), by decide +kernel⟩,
   ⟨1, State.reset, by decide +kernel⟩⟩

theorem witness_PwmCommands :
    (∃ (ch : Fin 8) (s : State), (s.works pgPWM = true) ∧ (s.pwmState ch.val = pwmRUN) ∧ ((s.pwm ch.val).running = false) ∧ ((s.pwm ch.val).pend = false) ∧ (s.fon PWM_STAT.ILIM ch.val = false)) ∧
    (∃ (ch : Fin 8) (s : State), (s.works pgPWM = true) ∧ (s.pwmState ch.val = pwmSOFT) ∧ ((s.pwm ch.val).running = true) ∧ ((s.pwm ch.val).limited = false) ∧ ((s.pwm ch.val).pend = false) ∧ ((s.pwm ch.val).u + 1 < s.pwmSs ch.val)) ∧
    (∃ (ch : Fin 8) (s : State), (s.works pgPWM = true) ∧ (s.pwmState ch.val = pwmSOFT) ∧ ((s.pwm ch.val).running = true) ∧ ((s.pwm ch.val).limited = false) ∧ ((s.pwm ch.val).pend = false) ∧ (s.pwmSs ch.val ≤ (s.pwm ch.val).u + 1)) ∧
    (∃ (ch : Fin 8) (s : State), s.works pgPWM = false ∨ (s.pwmState ch.val ≠ pwmSOFT ∧ s.pwmState ch.val ≠ pwmRUN)) ∧
    (∃ (ch : Fin 8) (level : IlimEdge) (s : State), ((level.high == s.fon PWM_ILIM.ILIM_POL ch.val) = false) ∧ ((s.pwm ch.val).pend = false)) ∧
    (∃ (ch : Fin 8) (level : IlimEdge) (s : State), ((level.high == s.fon PWM_ILIM.ILIM_POL ch.val) = true) ∧ ((s.pwm ch.val).ignored = false) ∧ (s.pwmState ch.val = pwmOFF)) ∧
    (∃ (ch : Fin 8) (level : IlimEdge) (s : State), ((level.high == s.fon PWM_ILIM.ILIM_POL ch.val) = true) ∧ ((s.pwm ch.val).ignored = false) ∧ (s.pwmState ch.val ≠ pwmOFF) ∧ ((s.pwm ch.val).running = true) ∧ (0 < (s.pwm ch.val).h) ∧ (level.at_ < s.pwmSample ch.val)) ∧
    (∃ (ch : Fin 8) (level : IlimEdge) (s : State), ((level.high == s.fon PWM_ILIM.ILIM_POL ch.val) = true) ∧ ((s.pwm ch.val).ignored = false) ∧ (s.pwmState ch.val ≠ pwmOFF) ∧ ((s.pwm ch.val).running = true) ∧ ((s.pwm ch.val).limited = false) ∧ (s.pwmSample ch.val ≤ level.at_) ∧ (level.at_ < s.fget PWM_CFG.DT ch.val + (s.pwm ch.val).h) ∧ ((s.pwm ch.val).row + 1 < s.fget PWM_SS.ILIM_N ch.val)) ∧
    (∃ (ch : Fin 8) (level : IlimEdge) (s : State), ((level.high == s.fon PWM_ILIM.ILIM_POL ch.val) = true) ∧ ((s.pwm ch.val).ignored = false) ∧ (s.pwmState ch.val ≠ pwmOFF) ∧ ((s.pwm ch.val).running = true) ∧ ((s.pwm ch.val).limited = false) ∧ (0 < (s.pwm ch.val).h) ∧ (s.pwmSample ch.val ≤ level.at_) ∧ (level.at_ < s.fget PWM_CFG.DT ch.val + (s.pwm ch.val).h) ∧ (s.fget PWM_SS.ILIM_N ch.val ≤ (s.pwm ch.val).row + 1)) ∧
    (∃ (ch : Fin 8) (s : State), (s.pwmState ch.val = pwmOFF) ∧ (s.fon PWM_STAT.ILIM ch.val = true) ∧ (s.timerDue tmIlimOff ch.val s.ms 1 = true)) ∧
    (∃ (who : Init) (ch : Fin 8) (s : State), (Admitted s who pgPWM (0x40 + 32 * ch.val)) ∧ ((regAt pgPWM (0x40 + 32 * ch.val)).all (fun r => rangesOk pgPWM (0x40 + 32 * ch.val) (r.merge (s.word (PWM_CFG.EN.key ch.val)) (s.pwmCfgWord ch.val 1))) = true) ∧ (pwmFits (s.pwmCfgWord ch.val 1) = true) ∧ (s.pwmState ch.val = pwmOFF) ∧ (s.fon PWM_CFG.EN ch.val = false)) ∧
    (∃ (who : Init) (ch : Fin 8) (s : State), (Admitted s who pgPWM (0x40 + 32 * ch.val)) ∧ ((regAt pgPWM (0x40 + 32 * ch.val)).all (fun r => rangesOk pgPWM (0x40 + 32 * ch.val) (r.merge (s.word (PWM_CFG.EN.key ch.val)) (s.pwmCfgWord ch.val 0))) = true) ∧ (pwmFits (s.pwmCfgWord ch.val 0) = true) ∧ (s.fon PWM_CFG.EN ch.val = true)) ∧
    (∃ (ch : Fin 8) (s : State), (s.pwmState ch.val = pwmTRIPPED) ∧ (s.timerDue tmPwmHold ch.val s.ms (s.fget PWM_ILIM.HOLD_MS ch.val) = true) ∧ (s.fget PWM_STAT.RETRIES ch.val < s.fget PWM_ILIM.RETRY_LIMIT ch.val)) ∧
    (∃ (ch : Fin 8) (s : State), (s.pwmState ch.val = pwmTRIPPED) ∧ (s.timerDue tmPwmHold ch.val s.ms (s.fget PWM_ILIM.HOLD_MS ch.val) = true) ∧ (s.fget PWM_ILIM.RETRY_LIMIT ch.val ≤ s.fget PWM_STAT.RETRIES ch.val)) ∧
    (∃ (who : Init) (ch : Fin 8) (s : State), (Admitted s who pgPWM (0x58 + 32 * ch.val)) ∧ (s.pwmState ch.val = pwmLATCHED)) ∧
    (∃ (ch : Fin 8) (s : State), (s.pwmState ch.val = pwmRUN) ∧ (s.timerDue tmPwmRun ch.val s.sec_ 10 = true)) ∧
    (∃ (ch : Fin 8) (s : State), s.pwmState ch.val ≠ pwmOFF ∨ s.fon PWM_STAT.ILIM ch.val = false ∨ s.timerDue tmIlimOff ch.val s.ms 1 = false) ∧
    (∃ (ch : Fin 8) (s : State), s.pwmState ch.val ≠ pwmTRIPPED ∨ s.timerDue tmPwmHold ch.val s.ms (s.fget PWM_ILIM.HOLD_MS ch.val) = false) ∧
    (∃ (ch : Fin 8) (s : State), s.pwmState ch.val ≠ pwmRUN ∨ s.timerDue tmPwmRun ch.val s.sec_ 10 = false) ∧
    (∃ (who : Init) (ch : Fin 8) (s : State), (Admitted s who pgPWM (0x58 + 32 * ch.val)) ∧ (s.pwmState ch.val ≠ pwmLATCHED)) :=
  ⟨⟨7, ((wWorks pgPWM (State.reset.fset PWM_STAT.STATE 7 pwmRUN)).fset PWM_CFG.FREQ_KHZ 7 500), by decide +kernel⟩,
   ⟨7, (((((wWorks pgPWM (State.reset.fset PWM_STAT.STATE 7 pwmSOFT)).fset PWM_CFG.FREQ_KHZ 7 500).fset PWM_SS.SS_US 7 900).setPwm 7 { running := true, u := 4 })), by decide +kernel⟩,
   ⟨7, (((((wWorks pgPWM (State.reset.fset PWM_STAT.STATE 7 pwmSOFT)).fset PWM_CFG.FREQ_KHZ 7 500)).setPwm 7 { running := true, u := 4000 })), by decide +kernel⟩,
   ⟨7, (wWorks pgPWM State.reset), by decide +kernel⟩,
   ⟨7, ⟨true, 4⟩, State.reset, by decide +kernel⟩,
   ⟨7, ⟨false, 4⟩, State.reset, by decide +kernel⟩,
   ⟨7, ⟨true, 0⟩, (((State.reset.fset PWM_STAT.STATE 7 pwmRUN).fset PWM_ILIM.ILIM_POL 7 1).fset PWM_SS.BLANK 7 9).setPwm 7 { running := true, h := 50 }, by decide +kernel⟩,
   ⟨7, ⟨true, 20⟩, ((((State.reset.fset PWM_STAT.STATE 7 pwmRUN).fset PWM_ILIM.ILIM_POL 7 1).fset PWM_SS.ILIM_N 7 5).fset PWM_CFG.DT 7 3).setPwm 7 { running := true, h := 500 }, by decide +kernel⟩,
   ⟨7, ⟨true, 20⟩, ((((State.reset.fset PWM_STAT.STATE 7 pwmRUN).fset PWM_ILIM.ILIM_POL 7 1).fset PWM_SS.ILIM_N 7 1).fset PWM_CFG.DT 7 3).setPwm 7 { running := true, h := 500 }, by decide +kernel⟩,
   ⟨7, (wMs ((State.reset.fset PWM_STAT.ILIM 7 1).timerStart tmIlimOff 7 0) 9000), by decide +kernel⟩,
   ⟨.pairA, 7, ((wPage pgPWM).fset PWM_CFG.FREQ_KHZ 7 500), by decide +kernel⟩,
   ⟨.pairA, 7, ((((wPage pgPWM).fset PWM_CFG.FREQ_KHZ 7 500).fset PWM_CFG.EN 7 1).fset PWM_STAT.STATE 7 pwmRUN), by decide +kernel⟩,
   ⟨7, (wMs (((State.reset.fset PWM_STAT.STATE 7 pwmTRIPPED).fset PWM_ILIM.RETRY_LIMIT 7 3).timerStart tmPwmHold 7 0) 90000), by decide +kernel⟩,
   ⟨7, (wMs (((State.reset.fset PWM_STAT.STATE 7 pwmTRIPPED).fset PWM_ILIM.RETRY_LIMIT 7 0).timerStart tmPwmHold 7 0) 90000), by decide +kernel⟩,
   ⟨.pairA, 7, ((wPage pgPWM).fset PWM_STAT.STATE 7 pwmLATCHED), by decide +kernel⟩,
   ⟨7, (wMs ((State.reset.fset PWM_STAT.STATE 7 pwmRUN).timerStart tmPwmRun 7 0) 90000), by decide +kernel⟩,
   ⟨7, State.reset, by decide +kernel⟩,
   ⟨7, State.reset, by decide +kernel⟩,
   ⟨7, State.reset, by decide +kernel⟩,
   ⟨.pairA, 7, (wPage pgPWM), by decide +kernel⟩⟩

theorem witness_FanAndThermalCommands :
    (∃ (fan : Fin 8) (s : State), (s.works pgFAN = true) ∧ (s.fon FAN_CFG.EN fan.val = true) ∧ (s.fanState fan.val = fanSTOPPED)) ∧
    (∃ (fan : Fin 8) (gap : Nat) (s : State), (s.works pgFAN = true) ∧ (s.fon FAN_CFG.EN fan.val = true) ∧ (s.fanState fan.val ≠ fanSTOPPED) ∧ (s.gapShort fan.val gap = true)) ∧
    (∃ (fan : Fin 8) (s : State), (s.fon FAN_CFG.EN fan.val = true) ∧ (s.timerDue tmFanStall fan.val s.ms (s.fget FAN_TIME.STALL_MS fan.val) = true)) ∧
    (∃ (fan : Fin 8) (s : State), (s.fanTested fan.val = true) ∧ (s.fanBad fan.val = true) ∧ (s.timerDue tmFanFail fan.val s.ms (s.fget FAN_TIME.FAIL_MS fan.val) = true)) ∧
    (∃ (tk : Int) (s : State), (s.works pgTHM = true) ∧ (-3520 ≤ tk) ∧ (tk ≤ 9600)) ∧
    (∃ (sensor : Fin 16) (s : State), s.timerDue tmSensor sensor.val s.ms 10 = true) ∧
    (∃ (s : State), (s.works pgTHM = true) ∧ (s.tMax ≠ noTemp)) ∧
    (∃ (s : State), (s.works pgTHM = true) ∧ (s.tMax = noTemp)) ∧
    (∃ (on : Bool), on = true) ∧
    (∃ (sensor : Fin 16) (on : Bool) (s : State), (on = false) ∧ (∀ n : Fin 16, n ≠ sensor → Tbl.get (fun _ => false) s.hk.hard n.val = false)) ∧
    (∃ (fan : Fin 8) (gap : Nat) (s : State), (s.works pgFAN = true) ∧ (s.fon FAN_CFG.EN fan.val = true) ∧ (s.fanState fan.val = fanSTARTING) ∧ (s.gapShort fan.val gap = false) ∧ (s.fon FAN_CFG.DIR_EN fan.val = false) ∧ (0 < (s.fan fan.val).edges) ∧ ((s.fan fan.val).edges < s.fanPpr fan.val)) ∧
    (∃ (fan : Fin 8) (gap : Nat) (s : State), (s.works pgFAN = true) ∧ (s.fon FAN_CFG.EN fan.val = true) ∧ (s.fanState fan.val = fanSTARTING ∨ s.fanState fan.val = fanRUNNING) ∧ (s.gapShort fan.val gap = false) ∧ (s.fon FAN_CFG.DIR_EN fan.val = false) ∧ (s.fanPpr fan.val ≤ (s.fan fan.val).edges)) ∧
    (∃ (fan : Fin 8) (gap : Nat) (dir : Bool) (s : State), (s.works pgFAN = true) ∧ (s.fon FAN_CFG.EN fan.val = true) ∧ (s.fanState fan.val = fanRUNNING) ∧ (s.gapShort fan.val gap = false) ∧ (s.fon FAN_CFG.DIR_EN fan.val = true) ∧ ((s.fan fan.val).last = some (dir != s.fon FAN_CFG.DIR_POL fan.val)) ∧ ((s.fon FAN_SPEED.DIR fan.val == (dir != s.fon FAN_CFG.DIR_POL fan.val)) = false)) ∧
    (∃ (fan : Fin 8) (s : State), s.works pgFAN = false ∨ s.fon FAN_CFG.EN fan.val = false) ∧
    (∃ (fan : Fin 8) (s : State), s.fon FAN_CFG.EN fan.val = false ∨ s.timerDue tmFanStall fan.val s.ms (s.fget FAN_TIME.STALL_MS fan.val) = false) ∧
    (∃ (fan : Fin 8) (s : State), s.fanTested fan.val = false ∨ s.fanBad fan.val = false ∨ s.timerDue tmFanFail fan.val s.ms (s.fget FAN_TIME.FAIL_MS fan.val) = false) ∧
    (∃ (tk : Int) (s : State), (s.works pgTHM = true) ∧ (tk < -3520 ∨ 9600 < tk)) ∧
    (∃ (sensor : Fin 16) (tk : Int) (s : State) (a : Int) (b : Int) (l : List Int), (s.works pgTHM = true) ∧ (-3520 ≤ tk) ∧ (tk ≤ 9600) ∧ (s.readings sensor.val = a :: b :: l)) ∧
    (∃ (s : State), s.works pgTHM = false) ∧
    (∃ (sensor : Fin 16) (s : State), s.timerDue tmSensor sensor.val s.ms 10 = false) ∧
    (∃ (s : State), s.works pgTHM = false) :=
  ⟨⟨7, (((wWorks pgFAN State.reset).fset FAN_CFG.EN 7 1).fset FAN_SPEED.STATE 7 fanSTOPPED), by decide +kernel⟩,
   ⟨7, 5, ((((wWorks pgFAN State.reset).fset FAN_CFG.EN 7 1).fset FAN_SPEED.STATE 7 fanSTARTING).fset FAN_MAX.MAX_RPM 0 9000), by decide +kernel⟩,
   ⟨7, (wMs (((State.reset.fset FAN_CFG.EN 7 1).fset FAN_SPEED.STATE 7 fanRUNNING).timerStart tmFanStall 7 0) 90000), by decide +kernel⟩,
   ⟨7, (wMs ((State.reset.fset FAN_CFG.EN 7 1).timerStart tmFanFail 7 0) 90000), by decide +kernel⟩,
   ⟨(-3520), (wWorks pgTHM State.reset), by decide +kernel⟩,
   ⟨15, (wMs ((wWorks pgTHM State.reset).timerStart tmSensor 15 0) 900), by decide +kernel⟩,
   ⟨((wWorks pgTHM State.reset).fset THM_STAT.T_MAX 0 5), by decide +kernel⟩,
   ⟨((wWorks pgTHM State.reset).fset THM_STAT.T_MAX 0 0x8000), by decide +kernel⟩,
   ⟨true, by decide +kernel⟩,
   ⟨15, false, State.reset, by decide +kernel⟩,
   ⟨7, 90000000, (((((wWorks pgFAN State.reset).fset FAN_CFG.EN 7 1).fset FAN_CFG.PPR 7 3).fset FAN_SPEED.STATE 7 fanSTARTING).setFan 7 { edges := 2, gaps := [8000000] }), by decide +kernel⟩,
   ⟨7, 90000000, (((((wWorks pgFAN State.reset).fset FAN_CFG.EN 7 1).fset FAN_CFG.PPR 7 1).fset FAN_SPEED.STATE 7 fanSTARTING).setFan 7 { edges := 2, gaps := [8000000] }), by decide +kernel⟩,
   ⟨7, 90000000, true, (((((wWorks pgFAN State.reset).fset FAN_CFG.EN 7 1).fset FAN_CFG.DIR_EN 7 1).fset FAN_SPEED.STATE 7 fanRUNNING).setFan 7 { edges := 2, last := some true }), by decide +kernel⟩,
   ⟨7, State.reset, by decide +kernel⟩,
   ⟨7, State.reset, by decide +kernel⟩,
   ⟨7, State.reset, by decide +kernel⟩,
   ⟨9601, (wWorks pgTHM State.reset), by decide +kernel⟩,
   ⟨15, 9600, ({ wWorks pgTHM State.reset with hk := { State.reset.hk with therm := [(15, [5, 7])] } }), 5, 7, [], by decide +kernel⟩,
   ⟨State.reset, by decide +kernel⟩,
   ⟨15, State.reset, by decide +kernel⟩,
   ⟨State.reset, by decide +kernel⟩⟩

theorem witness_TwoWireControllerCommands :
    (∃ (who : Init) (bus : Fin 4) (s : State), (Admitted s who (twbPage bus.val) 0x048) ∧ (s.fon (TWB_RES.PENDING bus.val) who.holder = false) ∧ ((s.twbStaged bus.val who.holder).ok = true) ∧ (s.twbState bus.val ≠ twOFF) ∧ (s.twbState bus.val ≠ twSTUCK)) ∧
    (∃ (who : Init) (bus : Fin 4) (s : State), (Admitted s who (twbPage bus.val) 0x048) ∧ (s.fon (TWB_RES.PENDING bus.val) who.holder = false) ∧ ((s.twbStaged bus.val who.holder).ok = true) ∧ (s.twbState bus.val = twOFF)) ∧
    (∃ (bus : Fin 4) (s : State) (x : TwbTxn) (rest : List TwbTxn), (s.works (twbPage bus.val) = true) ∧ ((s.twbOf bus.val).queue = x :: rest) ∧ (s.twbState bus.val = twIDLE)) ∧
    (∃ (bus : Fin 4) (reply : TwbReply) (s : State) (x : TwbTxn) (h : Nat), ((s.twbOf bus.val).running = some x) ∧ (x.holder = some h) ∧ (twbRetried (x.ended reply).result = false)) ∧
    (∃ (bus : Fin 4) (reply : TwbReply) (s : State) (x : TwbTxn), ((s.twbOf bus.val).running = some x) ∧ (twbRetried (x.ended reply).result = true) ∧ (x.attempts ≤ s.fget TWB_CFG.RETRY bus.val)) ∧
    (∃ (bus : Fin 4) (s : State) (x : TwbTxn) (h : Nat), ((s.twbOf bus.val).running = some x) ∧ (x.holder = some h) ∧ (s.fget TWB_CFG.RETRY bus.val < x.attempts)) ∧
    (∃ (bus : Fin 4) (s : State) (x : TwbTxn) (h : Nat), ((s.twbOf bus.val).running = some x) ∧ (x.holder = some h)) ∧
    (∃ (bus : Fin 4) (ok : Bool) (s : State), (s.twbState bus.val = twRECOVERING) ∧ (ok = true)) ∧
    (∃ (bus : Fin 4) (ok : Bool) (s : State), (s.twbState bus.val = twRECOVERING) ∧ (ok = false)) ∧
    (∃ (bus : Fin 4) (s : State), (s.twbState bus.val = twSTUCK) ∧ (s.timerDue tmTwbRetry bus.val s.ms 100 = true)) ∧
    (∃ (bus : Fin 4) (s : State), s.twbState bus.val = twOTHER) ∧
    (∃ (bus : Fin 4) (s : State), (s.twbState bus.val = twIDLE) ∧ (s.fon TWB_CFG.ATTN_EN bus.val = true)) ∧
    (∃ (who : Init) (bus : Fin 4) (s : State), (Admitted s who (twbPage bus.val) 0x040) ∧ (s.fget TWB_CFG.SPEED bus.val ≠ 3) ∧ (s.fon TWB_CFG.EN bus.val = true) ∧ ((regAt (twbPage bus.val) 0x040).all (fun r => rangesOk (twbPage bus.val) 0x040 (r.merge (s.word (TWB_CFG.EN.key bus.val)) (putBits (s.word (TWB_CFG.EN.key bus.val)) 31 31 0))) = true)) ∧
    (∃ (bus : Fin 4) (s : State), s.twbState bus.val = twIDLE) ∧
    (∃ (who : Init) (bus : Fin 4) (s : State), (Admitted s who (twbPage bus.val) 0x048) ∧ (s.fon (TWB_RES.PENDING bus.val) who.holder = false) ∧ ((s.twbStaged bus.val who.holder).ok = true) ∧ (s.twbState bus.val = twSTUCK)) ∧
    (∃ (who : Init) (bus : Fin 4) (s : State), (Admitted s who (twbPage bus.val) 0x048) ∧ (s.fon (TWB_RES.PENDING bus.val) who.holder = true ∨ (s.twbStaged bus.val who.holder).ok = false)) ∧
    (∃ (bus : Fin 4) (s : State), s.works (twbPage bus.val) = false ∨ (s.twbOf bus.val).queue = [] ∨ s.twbState bus.val ≠ twIDLE) ∧
    (∃ (bus : Fin 4) (reply : TwbReply) (s : State) (x : TwbTxn), ((s.twbOf bus.val).running = some x) ∧ (x.holder = none) ∧ (twbRetried (x.ended reply).result = false) ∧ ((x.ended reply).result = 0)) ∧
    (∃ (bus : Fin 4) (s : State), (s.twbOf bus.val).running = none) ∧
    (∃ (bus : Fin 4) (at_ : ArbPoint) (s : State) (x : TwbTxn), ((s.twbOf bus.val).running = some x) ∧ (twbRetried (x.lost at_).result = true) ∧ (x.attempts ≤ s.fget TWB_CFG.RETRY bus.val)) ∧
    (∃ (bus : Fin 4) (s : State), (s.twbOf bus.val).running = none) ∧
    (∃ (bus : Fin 4) (s : State), (s.twbOf bus.val).running = none) ∧
    (∃ (bus : Fin 4) (s : State), (s.twbState bus.val ≠ twRECOVERING) ∧ ((s.twbOf bus.val).retrying = false)) ∧
    (∃ (bus : Fin 4) (s : State), s.twbState bus.val ≠ twSTUCK ∨ s.timerDue tmTwbRetry bus.val s.ms 100 = false) ∧
    (∃ (bus : Fin 4) (s : State), s.twbState bus.val ≠ twOTHER) ∧
    (∃ (bus : Fin 4) (s : State), s.twbState bus.val ≠ twIDLE ∨ s.fon TWB_CFG.ATTN_EN bus.val = false) ∧
    (∃ (bus : Fin 4) (s : State), s.twbState bus.val ≠ twIDLE) :=
  ⟨⟨.pairA, 3, (((wPage (twbPage 3)).setTwbState 3 twIDLE).fset (TWB_TXN.PROT 3) (Init.holder .pairA) 1), by decide +kernel⟩,
   ⟨.pairA, 3, ((wPage (twbPage 3)).fset (TWB_TXN.PROT 3) (Init.holder .pairA) 1), by decide +kernel⟩,
   ⟨3, (((wWorks (twbPage 3) State.reset).setTwbState 3 twIDLE).setTwb 3 { queue := [{ holder := some 0, prot := 1, pec := false, addr := 5, cmd := 0, len := 0, data := [] }] }), ({ holder := some 0, prot := 1, pec := false, addr := 5, cmd := 0, len := 0, data := [] }), [], by decide +kernel⟩,
   ⟨3, (.complete 0 [] 0), (State.reset.setTwb 3 { running := some { holder := some 0, prot := 1, pec := false, addr := 5, cmd := 0, len := 0, data := [], attempts := 1 } }), ({ holder := some 0, prot := 1, pec := false, addr := 5, cmd := 0, len := 0, data := [], attempts := 1 }), 0, by decide +kernel⟩,
   ⟨3, .addrNack, ((State.reset.fset TWB_CFG.RETRY 3 2).setTwb 3 { running := some { holder := some 0, prot := 1, pec := false, addr := 5, cmd := 0, len := 0, data := [], attempts := 1 } }), ({ holder := some 0, prot := 1, pec := false, addr := 5, cmd := 0, len := 0, data := [], attempts := 1 }), by decide +kernel⟩,
   ⟨3, ((State.reset.fset TWB_CFG.RETRY 3 0).setTwb 3 { running := some { holder := some 0, prot := 1, pec := false, addr := 5, cmd := 0, len := 0, data := [], attempts := 1 } }), ({ holder := some 0, prot := 1, pec := false, addr := 5, cmd := 0, len := 0, data := [], attempts := 1 }), 0, by decide +kernel⟩,
   ⟨3, (State.reset.setTwb 3 { running := some { holder := some 0, prot := 1, pec := false, addr := 5, cmd := 0, len := 0, data := [], attempts := 1 } }), ({ holder := some 0, prot := 1, pec := false, addr := 5, cmd := 0, len := 0, data := [], attempts := 1 }), 0, by decide +kernel⟩,
   ⟨3, true, (State.reset.setTwbState 3 twRECOVERING), by decide +kernel⟩,
   ⟨3, false, (State.reset.setTwbState 3 twRECOVERING), by decide +kernel⟩,
   ⟨3, (wMs ((State.reset.setTwbState 3 twSTUCK).timerStart tmTwbRetry 3 0) 900), by decide +kernel⟩,
   ⟨3, (State.reset.setTwbState 3 twOTHER), by decide +kernel⟩,
   ⟨3, ((State.reset.setTwbState 3 twIDLE).fset TWB_CFG.ATTN_EN 3 1), by decide +kernel⟩,
   ⟨.pairA, 3, (((wPage (twbPage 3)).setTwbState 3 twIDLE).fset TWB_CFG.EN 3 1), by decide +kernel⟩,
   ⟨3, (State.reset.setTwbState 3 twIDLE), by decide +kernel⟩,
   ⟨.pairA, 3, (((wPage (twbPage 3)).setTwbState 3 twSTUCK).fset (TWB_TXN.PROT 3) (Init.holder .pairA) 1), by decide +kernel⟩,
   ⟨.pairA, 3, (wPage (twbPage 3)), by decide +kernel⟩,
   ⟨3, State.reset, by decide +kernel⟩,
   ⟨3, (.complete 0 [77] 0), (State.reset.setTwb 3 { running := some { holder := none, prot := 11, pec := false, addr := 0x0C, cmd := 0, len := 1, data := [], attempts := 1 } }), { holder := none, prot := 11, pec := false, addr := 0x0C, cmd := 0, len := 1, data := [], attempts := 1 }, by decide +kernel⟩,
   ⟨3, State.reset, by decide +kernel⟩,
   ⟨3, .bits, ((State.reset.fset TWB_CFG.RETRY 3 2).setTwb 3 { running := some { holder := some 0, prot := 1, pec := false, addr := 5, cmd := 0, len := 0, data := [], attempts := 1 } }), { holder := some 0, prot := 1, pec := false, addr := 5, cmd := 0, len := 0, data := [], attempts := 1 }, by decide +kernel⟩,
   ⟨3, State.reset, by decide +kernel⟩,
   ⟨3, State.reset, by decide +kernel⟩,
   ⟨3, State.reset, by decide +kernel⟩,
   ⟨3, State.reset, by decide +kernel⟩,
   ⟨3, State.reset, by decide +kernel⟩,
   ⟨3, State.reset, by decide +kernel⟩,
   ⟨3, State.reset, by decide +kernel⟩⟩

theorem witness_TwoWireTargetCommands :
    (∃ (addr : Fin 128) (read : Bool) (s : State), (s.twtOn = true) ∧ (s.twt.phase = .idle) ∧ (addr.val = s.fget TWT_CFG.ADDR0 0) ∧ (read = false)) ∧
    (∃ (addr : Fin 128) (read : Bool) (s : State), (s.twtOn = true) ∧ (s.twt.phase = .idle) ∧ (addr.val = s.fget TWT_CFG.ADDR0 0) ∧ (addr.val ≠ 0x0C) ∧ (read = true)) ∧
    (∃ (s : State) (sel : Bool) (bytes : List Nat) (fresh : Bool), (s.twt.phase = .write sel bytes fresh) ∧ (s.twt.rx.length < 64)) ∧
    (∃ (s : State) (bytes : List Nat) (x : Nat × Bool) (rest : List (Nat × Bool)), (s.fon TWT_STAT.STRETCHING 0 = false) ∧ (s.twt.phase = .read bytes false false) ∧ (s.twt.tx = x :: rest)) ∧
    (∃ (s : State) (bytes : List Nat), (s.fon TWT_STAT.STRETCHING 0 = false) ∧ (s.twt.phase = .read bytes false false) ∧ (s.twt.tx = [])) ∧
    (∃ (s : State) (sel : Bool) (bytes : List Nat) (fresh : Bool), (s.twt.phase = .write sel bytes fresh) ∧ (s.fon TWT_CFG.PEC_EN 0 = false) ∧ (s.twt.rx.length < 64)) ∧
    (∃ (s : State) (bytes : List Nat) (a : Bool) (b : Bool), (s.timerDue tmStretch 0 s.ms (s.fget TWT_CFG.STRETCH_MS 0) = true) ∧ (s.twt.phase = .read bytes a b)) ∧
    (∃ (s : State), s.twtOn = true) ∧
    (∃ (s : State), s.fon TWT_STAT.STUCK 0 = true) ∧
    (∃ (who : Init) (s : State) (w : Word) (rest : List Word), (Readable s who pgTWT) ∧ (s.twt.rx = w :: rest)) ∧
    (∃ (who : Init) (s : State), (Readable s who pgTWT) ∧ (s.twt.rx = [])) ∧
    (∃ (who : Init) (s : State), (Admitted s who pgTWT 0x048) ∧ (s.twt.tx.length < 64) ∧ (s.fon TWT_STAT.STRETCHING 0 = false)) ∧
    (∃ (who : Init) (us : BitVec 16) (cut : Fin 4) (s : State), (Admitted s who pgTWT 0x050) ∧ (60 ≤ us.toNat) ∧ (us.toNat ≤ 1000) ∧ (s.twtOn = true) ∧ (cut.val < 3)) ∧
    (∃ (who : Init) (s : State), (Admitted s who pgTWT 0x050) ∧ (60 ≤ s.fget TWT_CMD.ATTN_US 0) ∧ (s.fget TWT_CMD.ATTN_US 0 ≤ 1000)) ∧
    (∃ (addr : Fin 128) (read : Bool) (s : State) (sel : Bool), (s.pwState = pwSNOWDROP) ∧ (s.fon TWT_CFG.EN 0 = true) ∧ (s.twt.deaf = false) ∧ (s.twt.matched = none) ∧ (s.wakeMatch addr.val = some sel) ∧ (read = false) ∧ (s.fbit PWR_WAKE_EN.EN 0 4 = true) ∧ (s.pwr.waking = false)) ∧
    (∃ (s : State), s.twt.matched.isSome = true) ∧
    (∃ (addr : Fin 128) (s : State), (s.twtOn = true) ∧ (s.twt.phase = .idle) ∧ (addr.val ≠ s.fget TWT_CFG.ADDR0 0) ∧ (addr.val = s.fget TWT_CFG.ADDR1 0) ∧ (addr.val ≠ 0x0C)) ∧
    (∃ (addr : Fin 128) (s : State), (s.twtOn = true) ∧ (s.twt.phase = .idle) ∧ (addr.val ≠ s.fget TWT_CFG.ADDR0 0) ∧ (addr.val ≠ s.fget TWT_CFG.ADDR1 0) ∧ (addr.val ≠ 0x0C)) ∧
    (∃ (addr : Fin 128) (read : Bool) (s : State), (s.twtOn = true) ∧ (s.twt.phase = .idle) ∧ (addr.val = 0x0C) ∧ (read = true)) ∧
    (∃ (s : State) (sel : Bool) (bytes : List Nat) (fresh : Bool), (s.twt.phase = .write sel bytes fresh) ∧ (64 ≤ s.twt.rx.length)) ∧
    (∃ (s : State), s.twt.phase = .idle) ∧
    (∃ (s : State) (bytes : List Nat), (s.fon TWT_STAT.STRETCHING 0 = false) ∧ (s.twt.phase = .read bytes true false)) ∧
    (∃ (s : State), (s.fon TWT_STAT.STRETCHING 0 = false) ∧ (s.twt.phase = .alert)) ∧
    (∃ (s : State) (sel : Bool) (bytes : List Nat) (fresh : Bool), (s.twt.phase = .write sel bytes fresh) ∧ (s.fon TWT_CFG.PEC_EN 0 = true) ∧ (1 < bytes.length) ∧ (s.twt.rx.length < 64)) ∧
    (∃ (s : State) (bytes : List Nat) (a : Bool) (b : Bool), s.twt.phase = .read bytes a b) ∧
    (∃ (s : State), s.timerDue tmStretch 0 s.ms (s.fget TWT_CFG.STRETCH_MS 0) = false) ∧
    (∃ (s : State), s.twtOn = false) ∧
    (∃ (s : State), s.fon TWT_STAT.STUCK 0 = false) ∧
    (∃ (who : Init) (s : State) (bytes : List Nat) (a : Bool) (b : Bool), (Admitted s who pgTWT 0x048) ∧ (s.twt.tx = []) ∧ (s.fon TWT_STAT.STRETCHING 0 = true) ∧ (s.twt.phase = .read bytes a b)) ∧
    (∃ (who : Init) (s : State), (Admitted s who pgTWT 0x048) ∧ (64 ≤ s.twt.tx.length)) ∧
    (∃ (who : Init) (us : BitVec 16) (s : State), (Admitted s who pgTWT 0x050) ∧ (us.toNat < 60 ∨ 1000 < us.toNat)) ∧
    (∃ (who : Init) (us : BitVec 16) (cut : Fin 4) (s : State), (Admitted s who pgTWT 0x050) ∧ (60 ≤ us.toNat) ∧ (us.toNat ≤ 1000) ∧ (cut.val = 3)) ∧
    (∃ (addr : Fin 128) (s : State), s.pwState ≠ pwSNOWDROP ∨ s.fon TWT_CFG.EN 0 = false ∨ s.twt.deaf = true ∨ s.twt.matched.isSome = true ∨ s.wakeMatch addr.val = none) ∧
    (∃ (s : State), s.twt.matched = none) :=
  ⟨⟨0x55, false, ((((wWorks pgTWT State.reset)).fset TWT_CFG.EN 0 1).fset TWT_CFG.ADDR0 0 0x55), by decide +kernel⟩,
   ⟨0x55, true, ((((wWorks pgTWT State.reset)).fset TWT_CFG.EN 0 1).fset TWT_CFG.ADDR0 0 0x55), by decide +kernel⟩,
   ⟨(State.reset.setTwt { phase := .write true [10] true }), true, [10], true, by decide +kernel⟩,
   ⟨(State.reset.setTwt { phase := .read [11] false false, tx := [(5, false)] }), [11], ((5, false)), [], by decide +kernel⟩,
   ⟨(State.reset.setTwt { phase := .read [11] false false }), [11], by decide +kernel⟩,
   ⟨((State.reset.fset TWT_CFG.PEC_EN 0 0).setTwt { phase := .write true [10] true }), true, [10], true, by decide +kernel⟩,
   ⟨(wMs ((State.reset.setTwt { phase := .read [11] false false }).timerStart tmStretch 0 0) 900), [11], false, false, by decide +kernel⟩,
   ⟨((wWorks pgTWT State.reset).fset TWT_CFG.EN 0 1), by decide +kernel⟩,
   ⟨(State.reset.fset TWT_STAT.STUCK 0 1), by decide +kernel⟩,
   ⟨.pairA, ((wPage pgTWT).setTwt { rx := [0x80000005] }), 0x80000005, [], by decide +kernel⟩,
   ⟨.pairA, (wPage pgTWT), by decide +kernel⟩,
   ⟨.pairA, (wPage pgTWT), by decide +kernel⟩,
   ⟨.pairA, 1000, 2, ((wWorks pgTWT (wPage pgTWT)).fset TWT_CFG.EN 0 1), by decide +kernel⟩,
   ⟨.pairA, (((wPage pgTWT).fset TWT_CMD.ATTN_US 0 60).setTwt { rx := [5], tx := [(5, false)] }), by decide +kernel⟩,
   ⟨0x55, false, (((((State.reset.fset PWR_STAT.STATE 0 pwSNOWDROP).fset TWT_CFG.EN 0 1).fset TWT_CFG.WAKE0 0 1).fset TWT_CFG.ADDR0 0 0x55).fsetBit PWR_WAKE_EN.EN 0 4 true), false, by decide +kernel⟩,
   ⟨(State.reset.setTwt { matched := some true }), by decide +kernel⟩,
   ⟨0x55, ((((wWorks pgTWT State.reset).fset TWT_CFG.EN 0 1).fset TWT_CFG.ADDR1 0 0x55).fset TWT_CFG.ADDR0 0 0x33), by decide +kernel⟩,
   ⟨0x55, (((wWorks pgTWT State.reset).fset TWT_CFG.EN 0 1).fset TWT_CFG.ADDR0 0 0x33), by decide +kernel⟩,
   ⟨0x0C, true, (((wWorks pgTWT State.reset).fset TWT_CFG.EN 0 1).fset TWT_CFG.ADDR0 0 0x33), by decide +kernel⟩,
   ⟨(State.reset.setTwt { phase := .write true [10] true, rx := List.replicate 64 0 }), true, [10], true, by decide +kernel⟩,
   ⟨State.reset, by decide +kernel⟩,
   ⟨(State.reset.setTwt { phase := .read [11, 7] true false }), [11, 7], by decide +kernel⟩,
   ⟨(State.reset.setTwt { phase := .alert, called := true }), by decide +kernel⟩,
   ⟨((State.reset.fset TWT_CFG.PEC_EN 0 1).setTwt { phase := .write true [10, 3] true }), true, [10, 3], true, by decide +kernel⟩,
   ⟨(State.reset.setTwt { phase := .read [11] false false }), [11], false, false, by decide +kernel⟩,
   ⟨State.reset, by decide +kernel⟩,
   ⟨State.reset, by decide +kernel⟩,
   ⟨State.reset, by decide +kernel⟩,
   ⟨.pairA, (((wPage pgTWT).fset TWT_STAT.STRETCHING 0 1).setTwt { phase := .read [11] false false }), [11], false, false, by decide +kernel⟩,
   ⟨.pairA, ((wPage pgTWT).setTwt { tx := List.replicate 64 (0, false) }), by decide +kernel⟩,
   ⟨.pairA, 59, (wPage pgTWT), by decide +kernel⟩,
   ⟨.pairA, 60, 3, (wPage pgTWT), by decide +kernel⟩,
   ⟨0x55, State.reset, by decide +kernel⟩,
   ⟨State.reset, by decide +kernel⟩⟩

theorem witness_ResetAndBootCommands :
    (∃ (low : Bool), low = true) ∧
    (∃ (low : Bool), low = false) ∧
    (∃ (low : Bool) (s : State), (low = true) ∧ (s.rst.resetLow = false)) ∧
    (∃ (low : Bool), low = false) ∧
    (∃ (who : Init) (confirm : BitVec 16) (s : State), (Admits (fun u => u.rstAdmit who (BitVec.ofNat 32 (0x80000000 + confirm.toNat))) s who pgRST 0x048) ∧ (confirm.toNat = s.fget GCP_SERIAL_LO.SERIAL 0 % 0x10000)) ∧
    (∃ (who : Init) (confirm : BitVec 16) (s : State), (Admits (fun u => u.rstAdmit who (BitVec.ofNat 32 (0x40000000 + confirm.toNat))) s who pgRST 0x048) ∧ (confirm.toNat = s.fget GCP_SERIAL_LO.SERIAL 0 % 0x10000)) ∧
    (∃ (who : Init) (confirm : BitVec 16) (s : State), (Admits (fun u => u.rstAdmit who (BitVec.ofNat 32 (0x20000000 + confirm.toNat))) s who pgRST 0x048) ∧ (confirm.toNat = s.fget GCP_SERIAL_LO.SERIAL 0 % 0x10000)) ∧
    (∃ (s : State), (s.boots = true) ∧ (s.fget RST_STAT.STEP 0 = 1)) ∧
    (∃ (s : State), (s.boots = true) ∧ (s.fget RST_STAT.STEP 0 = 2)) ∧
    (∃ (s : State), (s.boots = true) ∧ (s.fget RST_STAT.STEP 0 = 14) ∧ (s.mayHeal = true)) ∧
    (∃ (who : Init) (pair : Fin 2) (key : Word) (s : State), (Admitted s who pgRST (0x058 + 4 * pair.val)) ∧ (s.wdRuns pair.val = true) ∧ (key = wdogKey) ∧ (s.wdPast pair.val (s.fget (wdWinFld pair.val) 0) = true) ∧ (s.wdPast pair.val (s.fget (wdPeriodFld pair.val) 0) = false)) ∧
    (∃ (who : Init) (pair : Fin 2) (key : Word) (s : State), (Admitted s who pgRST (0x058 + 4 * pair.val)) ∧ (s.wdRuns pair.val = true) ∧ (key ≠ wdogKey)) ∧
    (∃ (pair : Fin 2) (s : State), (s.wdRuns pair.val = true) ∧ (s.wdPaused pair.val = false) ∧ (s.wdPast pair.val (s.fget (wdPeriodFld pair.val) 0) = true)) ∧
    (∃ (s : State), (s.rst.bootOn = true) ∧ (s.fget RST_BOOT.BOOT_TO_S 0 + 1 ≤ s.rst.bootS)) ∧
    (∃ (who : Init) (key : Word) (s : State), (Admitted s who pgRST 0x068) ∧ (key = wdogKey)) ∧
    (∃ (s : State), s.aonDue = true) ∧
    (∃ (s : State), (s.boots = true) ∧ (s.fget RST_STAT.STEP 0 = 3)) ∧
    (∃ (v : BootVerdict) (s : State), (s.boots = true) ∧ (s.fget RST_STAT.STEP 0 = 4) ∧ (s.firstBank v s.bootOrder = none)) ∧
    (∃ (v : BootVerdict) (s : State) (b : Nat), (s.boots = true) ∧ (s.fget RST_STAT.STEP 0 = 4) ∧ (s.firstBank v s.bootOrder = some b)) ∧
    (∃ (s : State), (s.boots = true) ∧ (s.fget RST_STAT.STEP 0 = 5) ∧ (s.fon RST_STAT.WAIT_READY 0 = true) ∧ (s.fon HUP_STAT.READY 0 = true)) ∧
    (∃ (s : State), (s.boots = true) ∧ (s.fget RST_STAT.STEP 0 = 5) ∧ (s.fon RST_STAT.WAIT_READY 0 = true) ∧ (s.fon HUP_STAT.READY 0 = false)) ∧
    (∃ (s : State), (s.boots = true) ∧ (s.fget RST_STAT.STEP 0 = 6)) ∧
    (∃ (s : State), (s.boots = true) ∧ (s.fget RST_STAT.STEP 0 = 7)) ∧
    (∃ (s : State), (s.boots = true) ∧ (s.fget RST_STAT.STEP 0 = 8) ∧ (s.admits (.journal (bootEntryOf 8 ((s.fget GCP_BOOT.BOOT 0 + 1) % 2 ^ 32))) = true)) ∧
    (∃ (s : State), (s.boots = true) ∧ (s.fget RST_STAT.STEP 0 = 8) ∧ (s.admits (.journal (bootEntryOf 8 ((s.fget GCP_BOOT.BOOT 0 + 1) % 2 ^ 32))) = false)) ∧
    (∃ (s : State), (s.boots = true) ∧ (s.fget RST_STAT.STEP 0 = 9)) ∧
    (∃ (v : BootVerdict) (s : State), (s.boots = true) ∧ (s.fget RST_STAT.STEP 0 = 10) ∧ (s.sec.lc = lcBLANK ∨ v.regBad = true ∨ s.nva.inForce 1 0 = none)) ∧
    (∃ (v : BootVerdict) (s : State) (e : JEntry), (s.boots = true) ∧ (s.fget RST_STAT.STEP 0 = 10) ∧ (s.sec.lc ≠ lcBLANK) ∧ (v.regBad = false) ∧ (s.nva.inForce 1 0 = some e)) ∧
    (∃ (s : State), (s.boots = true) ∧ (s.fget RST_STAT.STEP 0 = 11) ∧ (s.nvBE (bootImageBase (s.fget SEC_BOOT.BANK 0) + 0x10) 4 < 160 ∨ slotBytes < s.nvBE (bootImageBase (s.fget SEC_BOOT.BANK 0) + 0x10) 4)) ∧
    (∃ (s : State), (s.boots = true) ∧ (s.fget RST_STAT.STEP 0 = 12) ∧ (s.slotState 0 ≠ slotVERIFIED)) ∧
    (∃ (s : State), (s.boots = true) ∧ (s.fget RST_STAT.STEP 0 = 13)) ∧
    (∃ (s : State), (s.boots = true) ∧ (s.fget RST_STAT.STEP 0 = 14) ∧ (s.mayHeal = false)) ∧
    (∃ (s : State), s.boots = false) ∧
    (∃ (who : Init) (pair : Fin 2) (s : State), (Admitted s who pgRST (0x058 + 4 * pair.val)) ∧ (s.wdRuns pair.val = false)) ∧
    (∃ (pair : Fin 2) (s : State), s.wdRuns pair.val = false ∨ s.wdPaused pair.val = true ∨ s.wdPast pair.val (s.fget (wdPeriodFld pair.val) 0) = false) ∧
    (∃ (s : State), s.rst.bootOn = false ∨ s.rst.bootS < s.fget RST_BOOT.BOOT_TO_S 0 + 1) ∧
    (∃ (who : Init) (key : Word) (s : State), (Admitted s who pgRST 0x068) ∧ (key ≠ wdogKey)) ∧
    (∃ (s : State), s.aonDue = false) ∧
    (∃ (low : Bool) (s : State), (low = true) ∧ (s.rst.resetLow = true)) ∧
    (∃ (who : Init) (confirm : BitVec 16) (s : State), (Admits (fun u => u.rstAdmit who (BitVec.ofNat 32 (0x80000000 + confirm.toNat))) s who pgRST 0x048) ∧ (confirm.toNat ≠ s.fget GCP_SERIAL_LO.SERIAL 0 % 0x10000)) :=
  ⟨⟨true, by decide +kernel⟩,
   ⟨false, by decide +kernel⟩,
   ⟨true, (wMs State.reset 900), by decide +kernel⟩,
   ⟨false, by decide +kernel⟩,
   ⟨.pairA, (BitVec.ofNat 16 State.reset.confirm), (wPage pgRST), by decide +kernel⟩,
   ⟨(.engine .manufacturer), (BitVec.ofNat 16 State.reset.confirm), (wLc (wPage pgRST)), by decide +kernel⟩,
   ⟨.pairB, (BitVec.ofNat 16 State.reset.confirm), (wLc (wPage pgRST)), by decide +kernel⟩,
   ⟨(State.reset.fset RST_STAT.STEP 0 1), by decide +kernel⟩,
   ⟨(State.reset.fset RST_STAT.STEP 0 2), by decide +kernel⟩,
   ⟨(State.reset.fset RST_STAT.STEP 0 14), by decide +kernel⟩,
   ⟨.pairA, 1, wdogKey, (let s := ((wPage pgRST).fset (wdEnFld 1) 0 1).fset (wdPeriodFld 1) 0 100; { s with rst := { s.rst with wdOn := [(1, true)], wdMs := [(1, 60)] } }), by decide +kernel⟩,
   ⟨.pairA, 1, 5, (let s := ((wPage pgRST).fset (wdEnFld 1) 0 1).fset (wdPeriodFld 1) 0 100; { s with rst := { s.rst with wdOn := [(1, true)], wdMs := [(1, 60)] } }), by decide +kernel⟩,
   ⟨1, (let s := (State.reset.fset (wdEnFld 1) 0 1).fset (wdPeriodFld 1) 0 100; { s with rst := { s.rst with wdOn := [(1, true)], wdMs := [(1, 101)] } }), by decide +kernel⟩,
   ⟨({ State.reset with rst := { State.reset.rst with bootOn := true, bootS := 5000 } }), by decide +kernel⟩,
   ⟨.pairA, wdogKey, (let s := wPage pgRST; { s with rst := { s.rst with aonCyc := 7 } }), by decide +kernel⟩,
   ⟨({ State.reset with rst := { State.reset.rst with aonOn := true, aonCyc := 90000000 } }), by decide +kernel⟩,
   ⟨(State.reset.fset RST_STAT.STEP 0 3), by decide +kernel⟩,
   ⟨⟨3, 3, true, true, false⟩, (State.reset.fset RST_STAT.STEP 0 4), by decide +kernel⟩,
   ⟨⟨3, 3, true, true, false⟩, (wBank.fset RST_STAT.STEP 0 4), 0, by decide +kernel⟩,
   ⟨(((State.reset.fset RST_STAT.STEP 0 5).fset RST_STAT.WAIT_READY 0 1).fset HUP_STAT.READY 0 1), by decide +kernel⟩,
   ⟨((State.reset.fset RST_STAT.STEP 0 5).fset RST_STAT.WAIT_READY 0 1), by decide +kernel⟩,
   ⟨(State.reset.fset RST_STAT.STEP 0 6), by decide +kernel⟩,
   ⟨(State.reset.fset RST_STAT.STEP 0 7), by decide +kernel⟩,
   ⟨{ (State.reset.fset RST_STAT.STEP 0 8) with hup := { State.reset.hup with eLow := 100000000 } }, by decide +kernel⟩,
   ⟨(State.reset.fset RST_STAT.STEP 0 8), by decide +kernel⟩,
   ⟨((State.reset.fset RST_STAT.STEP 0 9).fset FLT_SAFE_CAUSE.CAUSE 0 7), by decide +kernel⟩,
   ⟨⟨3, 3, true, true, false⟩, (State.reset.fset RST_STAT.STEP 0 10), by decide +kernel⟩,
   ⟨⟨3, 3, true, true, false⟩, (let s := (wLc State.reset).fset RST_STAT.STEP 0 10; { s with nva := { s.nva with journal := [wSet] } }), wSet, by decide +kernel⟩,
   ⟨(State.reset.fset RST_STAT.STEP 0 11), by decide +kernel⟩,
   ⟨(State.reset.fset RST_STAT.STEP 0 12), by decide +kernel⟩,
   ⟨(State.reset.fset RST_STAT.STEP 0 13), by decide +kernel⟩,
   ⟨((State.reset.fset RST_STAT.STEP 0 14).fset FLT_STAT.SAFE 0 1), by decide +kernel⟩,
   ⟨(State.reset.fset RST_STAT.DONE 0 1), by decide +kernel⟩,
   ⟨.pairA, 1, (wPage pgRST), by decide +kernel⟩,
   ⟨1, State.reset, by decide +kernel⟩,
   ⟨State.reset, by decide +kernel⟩,
   ⟨.pairA, 5, (wPage pgRST), by decide +kernel⟩,
   ⟨State.reset, by decide +kernel⟩,
   ⟨true, ({ State.reset with rst := { State.reset.rst with resetLow := true } }), by decide +kernel⟩,
   ⟨.pairA, (BitVec.ofNat 16 (State.reset.confirm + 1)), (wPage pgRST), by decide +kernel⟩⟩

theorem witness_PinCommands :
    (∃ (low : Bool) (s : State), (low = true) ∧ (s.rst.perst = false) ∧ (s.running pgPCIE = true)) ∧
    (∃ (low : Bool) (s : State), (low = false) ∧ (s.rst.perst = true) ∧ (s.running pgSYS = false)) ∧
    (∃ (pin : Fin 48) (s : State), (s.running 0x26 = true) ∧ (pin.val < 32) ∧ (s.fbit GPIO_OE0.OE 0 pin.val = false)) ∧
    (∃ (pin : Fin 48) (s : State), (s.running 0x26 = true) ∧ (32 ≤ pin.val) ∧ (s.fbit GPIO_OE1.OE 0 (pin.val - 32) = true)) ∧
    (∃ (up : Bool) (s : State), (up = true) ∧ (s.fon MGE_STAT.LINK_UP 0 = false) ∧ (s.running pgMGE = true)) ∧
    (∃ (up : Bool) (s : State), (up = false) ∧ (s.fon MGE_STAT.LINK_UP 0 = true) ∧ (s.running pgMGE = true)) :=
  ⟨⟨true, (wPage pgPCIE), by decide +kernel⟩,
   ⟨false, ({ State.reset.fset PAGE_STAT.READY pgSYS 0 with rst := { State.reset.rst with perst := true } }), by decide +kernel⟩,
   ⟨31, (wPage 0x26), by decide +kernel⟩,
   ⟨47, ((wPage 0x26).fsetBit GPIO_OE1.OE 0 15 true), by decide +kernel⟩,
   ⟨true, (wPage pgMGE), by decide +kernel⟩,
   ⟨false, ((wPage pgMGE).fset MGE_STAT.LINK_UP 0 1), by decide +kernel⟩⟩

theorem witness_EmptyQueueTicks_1 : ∃ s : State, s.pending = [] ∧ s.time.started = true ∧ s.fon CLK_PLL_STAT.PLLA_LOCK 0 = true :=
  ⟨wLocked, by decide⟩

theorem witness_EmptyQueueTicks_2 : ∃ s : State, s.pending = [] ∧ (s.time.started = false ∨ s.fon CLK_PLL_STAT.PLLA_LOCK 0 = false) :=
  ⟨State.reset, by decide⟩

theorem witness_StepsKeepCanonicalForm : ∃ s t : State, Canonical s ∧ step s = .next t :=
  ⟨State.reset, State.reset.tick, by constructor <;> decide, rfl⟩

theorem witness_StepsKeepMemberAndQueueRest : ∃ s t : State, step s = .next t :=
  ⟨State.reset, State.reset.tick, rfl⟩

/-! The stated obligations. -/

def wHeld : State :=
  let s := (wPage pgFLT).setSevere 9 true
  { s with flt := { s.flt with heldCfg := [(9, some 0xFF003E80)], heldReact := [(9, some 0x24000001)], drive := [(9, true)] } }

theorem witness_StrobesFallOnTheirTicks_3_pllaFirstLock : ∃ (s : State), s.time.started = false :=
  ⟨State.reset, by decide +kernel⟩

theorem witness_StrobesFallOnTheirTicks_4_usStrobe : ∃ (s : State), s.strobesRun = true ∧ s.time.devTime ≤ strobeTick (s.time.usCount + 1) :=
  ⟨wLocked, by decide +kernel⟩

theorem witness_StrobesFallOnTheirTicks_5_msStrobe : ∃ (s : State), s.strobesRun = true ∧ s.time.devTime ≤ strobeTick (1000 * (s.time.msCount + 1)) ∧ s.time.usCount ≤ 1000 * (s.time.msCount + 1) :=
  ⟨wLocked, by decide +kernel⟩

theorem witness_StrobesFallOnTheirTicks_6_secondStrobe : ∃ (s : State), s.strobesRun = true ∧ s.time.devTime ≤ strobeTick (1000000 * (s.time.sCount + 1)) ∧ s.time.usCount ≤ 1000000 * (s.time.sCount + 1) ∧ s.time.msCount ≤ 1000 * (s.time.sCount + 1) :=
  ⟨wMs wLocked 999, by decide +kernel⟩

theorem witness_EvtCountSnapTakesTheCount_1_evtCountSnap : ∃ (who : Init) (page : Fin 64) (s : State), Admitted s who page.val 0x020 :=
  ⟨.pairA, 0x14, ((wPage pgCAN).rise 0x14 31), by decide +kernel⟩

theorem witness_EvtCountSnapTakesTheCount_2_read : ∃ (who : Init) (page : Fin 64) (n : Nat) (s : State), Readable s who page.val ∧ s.snapOf who page.val = some n :=
  ⟨.pairA, 0x14, 2, { wPage pgCAN with evtShadow := [(evtShadowKey 0x14 .pairA, some 2)] }, by decide +kernel⟩

theorem witness_EvtCountSnapTakesTheCount_3_read : ∃ (who : Init) (page : Fin 64) (s : State), Readable s who page.val ∧ s.snapOf who page.val = none :=
  ⟨.pairA, 0x14, wPage pgCAN, by decide +kernel⟩

theorem witness_EvtCountSnapTakesTheCount_5_registerWrite : ∃ (who : Init) (page : Fin 64) (v : Word) (s : State), Admitted s who page.val 0x020 ∧ bitsOf v 26 26 = 0 :=
  ⟨.pairA, 0x14, 0xF8000000, wPage pgCAN, by decide +kernel⟩

theorem witness_FaultAckEndsSeverity_1_faultAck : ∃ (who : Init) (src : Fin 256) (esc : Fin 160) (s : State), Admitted s who pgFLT 0x058 ∧ src.val = esc.val ∧ s.isSevere src.val = true :=
  ⟨.pairA, 159, 159, ((wPage pgFLT).setSevere 159 true), by decide +kernel⟩

theorem witness_FaultAckEndsSeverity_2_faultAck : ∃ (who : Init) (src : Fin 256) (s : State), Admitted s who pgFLT 0x058 ∧ src.val ≤ 159 ∧ s.isSevere src.val = false :=
  ⟨.pairA, 159, wPage pgFLT, by decide +kernel⟩

theorem witness_FaultAckEndsSeverity_3_faultAck : ∃ (who : Init) (src : Fin 256) (i : Fin 160) (s : State), Admitted s who pgFLT 0x058 ∧ src.val = i.val ∧ s.isSevere src.val = true ∧ s.faultLevel src.val = true ∧ s.riseWaits src.val = false ∧ s.dualStands src.val = false ∧
    ∃ t, exec (.faultAck who src) s = .next t ∧ 2 ≤ t.fget FLT_SCFG.N src.val :=
  ⟨.pairA, 9, 9, wHeld, by decide +kernel, by decide +kernel, by decide +kernel, by decide +kernel, by decide +kernel, by decide +kernel, _, rfl, by decide +kernel⟩

theorem witness_SevereSourceHoldsConfig_1_faultConfigWrite : ∃ (who : Init) (react : Bool) (v : Word) (s : State), react = false ∧ Admitted s who pgFLT 0x04C ∧ scfgOk v ∧ s.isSevere (s.fget FLT_SEL.SRC who.holder) = true :=
  ⟨.pairA, false, 0xFF003E80, ((wPage pgFLT).setSevere 0 true), by decide +kernel⟩

theorem witness_SevereSourceHoldsConfig_2_faultConfigWrite : ∃ (who : Init) (react : Bool) (v : Word) (s : State), react = true ∧ Admitted s who pgFLT 0x050 ∧ sreactOk v ∧ s.isSevere (s.fget FLT_SEL.SRC who.holder) = true :=
  ⟨.pairA, true, 0xB400FFFF, ((wPage pgFLT).setSevere 0 true), by decide +kernel⟩

theorem witness_SevereSourceHoldsConfig_3_faultAck : ∃ (who : Init) (src : Fin 256) (v w : Word) (s : State), Admitted s who pgFLT 0x058 ∧ src.val ≤ 159 ∧ s.isSevere src.val = true ∧ scfgOk v ∧ sreactOk w ∧ s.heldCfgOf src.val = some v ∧ s.heldReactOf src.val = some w :=
  ⟨.pairA, 9, 0xFF003E80, 0x24000001, wHeld, by decide +kernel⟩

theorem witness_SevereSourceHoldsConfig_3_nothing_held : ∃ (who : Init) (src : Fin 256) (v w : Word) (s : State), Admitted s who pgFLT 0x058 ∧ src.val ≤ 159 ∧ s.isSevere src.val = true ∧ scfgOk v ∧ sreactOk w ∧ s.heldCfgOf src.val = none ∧ s.heldReactOf src.val = none :=
  ⟨.pairA, 9, 0x01000001, 0x24000001, ((wPage pgFLT).setSevere 9 true), by decide +kernel⟩

theorem witness_SevereSourceHoldsConfig_4_faultConfigWrite : ∃ (who : Init) (react : Bool) (v : Word) (s : State), react = false ∧ Admitted s who pgFLT 0x04C ∧ ¬ scfgOk v :=
  ⟨.pairA, false, 0x00003E80, wPage pgFLT, by decide +kernel⟩

theorem witness_SevereSourceHoldsConfig_5_faultConfigWrite : ∃ (who : Init) (react : Bool) (v : Word) (s : State), react = true ∧ Admitted s who pgFLT 0x050 ∧ ¬ sreactOk v :=
  ⟨.pairA, true, 0x38000001, wPage pgFLT, by decide +kernel⟩

end Sys2Proof.Tests
end

section
/-!
Settles O52 and O47: what every step keeps. `Keeps s0 t` says that `t` has the member and the queue of `s0`. Every operation of the model has one
frame lemma, which follows its definition branch by branch and cites the lemmas of the operations that it calls; a command's lemma is the last of its
chain, and `Keeps.exec` puts the commands together.
-/
namespace Sys2Proof.Machine

variable {s0 s : State}

/-- `t` has the member and the queue of `s0`. -/
structure Keeps (s0 t : State) : Prop where
  member : t.member = s0.member
  pending : t.pending = s0.pending

/-- A check or a register write that is accepted keeps them. -/
def KeepsOk {ε : Type} (s0 : State) (w : Except ε State) : Prop := ∀ t, w = .ok t → Keeps s0 t

/-- A command that goes on keeps them. -/
def KeepsNext (s0 : State) (o : Host.Outcome State Fault Refusal) : Prop := ∀ t, o = .next t → Keeps s0 t

/-- An operation that may come to nothing keeps them where it comes to a state. -/
def KeepsSome (s0 : State) (o : Option State) : Prop := ∀ t, o = some t → Keeps s0 t

/-- An operation that answers a state and a value keeps them. -/
def KeepsFst {α : Type} (s0 : State) (p : State × α) : Prop := Keeps s0 p.1

theorem Keeps.refl : Keeps s s := ⟨rfl, rfl⟩

/-- A record update of other fields: whatever they are set to, the member and the queue are carried over. -/
theorem Keeps.update {regs ctx timers time evtCount evtShadow expert shadow coefStage coefShadow windows heldWrites rdata busRefuse xts clockDev crcPass lostIn
      released gated flt evr nva hup reports sec dbg trc pwr chn sch can cen npr fel ggr ftm gcp fhl hk twb twt rst free} (h : Keeps s0 s) :
    Keeps s0 ⟨s.member, regs, ctx, timers, time, evtCount, evtShadow, expert, shadow, coefStage, coefShadow, windows, heldWrites, rdata,
        busRefuse, xts, clockDev, crcPass, lostIn, released, gated, flt, evr, nva, hup, reports, sec, dbg, trc, pwr, chn, sch,
        can, cen, npr, fel, ggr, ftm, gcp, fhl, hk, twb, twt, rst, free, s.pending⟩ :=
  ⟨h.member, h.pending⟩

/-! Shapes of an operation's body: branches, loops, outcomes. -/

theorem Keeps.ite {c : Prop} [Decidable c] {a b : State} (ha : Keeps s0 a) (hb : Keeps s0 b) : Keeps s0 (if c then a else b) := by
  split
  · exact ha
  · exact hb

theorem Keeps.dite {c : Prop} [Decidable c] {a : c → State} {b : ¬c → State} (ha : ∀ hc, Keeps s0 (a hc)) (hb : ∀ hc, Keeps s0 (b hc)) :
    Keeps s0 (if hc : c then a hc else b hc) := by
  split
  · exact ha _
  · exact hb _

theorem Keeps.foldl {α : Type} {f : State → α → State} {l : List α} (h : Keeps s0 s) (hf : ∀ t x, Keeps s0 t → Keeps s0 (f t x)) :
    Keeps s0 (l.foldl f s) := by
  induction l generalizing s with
  | nil => exact h
  | cons x l ih => exact ih (hf s x h)

theorem KeepsOk.ok {ε : Type} (h : Keeps s0 s) : KeepsOk s0 (.ok s : Except ε State) := fun _ e => by cases e; exact h

theorem KeepsOk.err {ε : Type} {r : ε} : KeepsOk s0 (.error r) := fun _ e => by cases e

theorem KeepsOk.ite {ε : Type} {c : Prop} [Decidable c] {a b : Except ε State} (ha : KeepsOk s0 a) (hb : KeepsOk s0 b) : KeepsOk s0 (if c then a else b) := by
  split
  · exact ha
  · exact hb

theorem KeepsOk.dite {ε : Type} {c : Prop} [Decidable c] {a : c → Except ε State} {b : ¬c → Except ε State} (ha : ∀ hc, KeepsOk s0 (a hc))
    (hb : ∀ hc, KeepsOk s0 (b hc)) : KeepsOk s0 (if hc : c then a hc else b hc) := by
  split
  · exact ha _
  · exact hb _

theorem KeepsNext.next (h : Keeps s0 s) : KeepsNext s0 (.next s) := fun _ e => by cases e; exact h

theorem KeepsSome.some (h : Keeps s0 s) : KeepsSome s0 (.some s) := fun _ e => by cases e; exact h

theorem KeepsSome.none : KeepsSome s0 none := fun _ e => by cases e

theorem KeepsSome.ite {c : Prop} [Decidable c] {a b : Option State} (ha : KeepsSome s0 a) (hb : KeepsSome s0 b) :
    KeepsSome s0 (if c then a else b) := by
  split
  · exact ha
  · exact hb

theorem KeepsSome.bind {o : Option State} {f : State → Option State} (ho : KeepsSome s0 o) (hf : ∀ t, Keeps s0 t → KeepsSome s0 (f t)) :
    KeepsSome s0 (o.bind f) := by
  intro t ht
  obtain ⟨u, hu, hfu⟩ := Option.bind_eq_some_iff.mp ht
  exact hf u (ho u hu) t hfu

theorem KeepsSome.map {o : Option State} {f : State → State} (ho : KeepsSome s0 o) (hf : ∀ t, Keeps s0 t → Keeps s0 (f t)) :
    KeepsSome s0 (o.map f) := by
  intro t ht
  obtain ⟨u, hu, rfl⟩ := Option.map_eq_some_iff.mp ht
  exact hf u (ho u hu)

theorem KeepsSome.foldl {α : Type} {f : Option State → α → Option State} {l : List α} {o : Option State} (ho : KeepsSome s0 o)
    (hf : ∀ o x, KeepsSome s0 o → KeepsSome s0 (f o x)) : KeepsSome s0 (l.foldl f o) := by
  induction l generalizing o with
  | nil => exact ho
  | cons x l ih => exact ih (hf o x ho)

theorem KeepsFst.mk {α : Type} {a : α} (h : Keeps s0 s) : KeepsFst s0 (s, a) := h

theorem KeepsFst.fst {α : Type} {p : State × α} (h : KeepsFst s0 p) : Keeps s0 p.1 := h

theorem KeepsFst.of_eq {α : Type} {p : State × α} {a : α} (h : KeepsFst s0 p) (e : p = (s, a)) : Keeps s0 s := by
  subst e
  exact h

theorem KeepsFst.ite {α : Type} {c : Prop} [Decidable c] {a b : State × α} (ha : KeepsFst s0 a) (hb : KeepsFst s0 b) :
    KeepsFst s0 (if c then a else b) := by
  split
  · exact ha
  · exact hb

/-! The operations of Machine/Ops. -/

theorem Keeps.setWord {k w} (h : Keeps s0 s) : Keeps s0 (s.setWord k w) :=
  h.update

theorem Keeps.fset {f u v} (h : Keeps s0 s) : Keeps s0 (s.fset f u v) :=
  h.setWord

theorem Keeps.fsetI {f u v} (h : Keeps s0 s) : Keeps s0 (s.fsetI f u v) :=
  h.fset

theorem Keeps.fsetB {f u b} (h : Keeps s0 s) : Keeps s0 (s.fsetB f u b) :=
  h.fset

theorem Keeps.fbump {f u} (h : Keeps s0 s) : Keeps s0 (s.fbump f u) :=
  h.fset

theorem Keeps.fsetBit {f u n b} (h : Keeps s0 s) : Keeps s0 (s.fsetBit f u n b) :=
  h.fset

theorem Keeps.setCword {c w v} (h : Keeps s0 s) : Keeps s0 (s.setCword c w v) :=
  h.update

theorem Keeps.cset {f c v} (h : Keeps s0 s) : Keeps s0 (s.cset f c v) :=
  h.setCword

theorem Keeps.csetI {f c v} (h : Keeps s0 s) : Keeps s0 (s.csetI f c v) :=
  h.cset

theorem Keeps.cbump {f c} (h : Keeps s0 s) : Keeps s0 (s.cbump f c) :=
  h.cset

theorem Keeps.timerStart {tm u count} (h : Keeps s0 s) : Keeps s0 (s.timerStart tm u count) :=
  h.update

theorem Keeps.timerStop {tm u} (h : Keeps s0 s) : Keeps s0 (s.timerStop tm u) :=
  h.update

theorem Keeps.advanceTo {t} (h : Keeps s0 s) : Keeps s0 (s.advanceTo t) :=
  .ite h.update h

theorem Keeps.tookFree (h : Keeps s0 s) : Keeps s0 s.tookFree :=
  h.update

theorem Keeps.report {kind ident page bit body} (h : Keeps s0 s) : Keeps s0 (s.report kind ident page bit body) :=
  h.update

theorem Keeps.setEvtCount {page n v} (h : Keeps s0 s) : Keeps s0 (s.setEvtCount page n v) :=
  h.update

theorem Keeps.raiseMsix {v} (h : Keeps s0 s) : Keeps s0 (s.raiseMsix v) :=
  h.update

theorem Keeps.forward {page n} (h : Keeps s0 s) : Keeps s0 (s.forward page n) :=
  .ite h.fsetBit.update.raiseMsix.report h.fsetBit

theorem Keeps.riseHere {page n} (h : Keeps s0 s) : Keeps s0 (s.riseHere page n) :=
  have hs := h.fsetBit.setEvtCount
  .ite hs.forward hs

theorem Keeps.trcStop (h : Keeps s0 s) : Keeps s0 s.trcStop :=
  h.fsetB

theorem Keeps.trcEvent {n} (h : Keeps s0 s) : Keeps s0 (s.trcEvent n) :=
  .ite h h.riseHere

theorem Keeps.trcWrite {w} (h : Keeps s0 s) : Keeps s0 (s.trcWrite w) :=
  .ite h.trcStop.fbump.trcEvent <|
  have ht := (Keeps.ite h.fset h).update.fset.trcStop
  .ite ht.trcEvent ht

theorem Keeps.rise {page n} (h : Keeps s0 s) : Keeps s0 (s.rise page n) :=
  .ite h.riseHere.tookFree.trcWrite h.riseHere

theorem Keeps.cond {page n b} (h : Keeps s0 s) : Keeps s0 (s.cond page n b) :=
  .ite h.fsetBit.rise h.fsetBit

theorem Keeps.pulse {page n} (h : Keeps s0 s) : Keeps s0 (s.pulse page n) :=
  .ite h h.rise

theorem Keeps.saturate {page} (h : Keeps s0 s) : Keeps s0 (s.saturate page) :=
  .ite h.fbump.pulse h

theorem Keeps.saturateN {page n} (h : Keeps s0 s) : Keeps s0 (s.saturateN page n) := by
  induction n generalizing s with
  | zero => exact h
  | succ n ih => exact ih h.saturate

theorem Keeps.setInputLost {page k b} (h : Keeps s0 s) : Keeps s0 (s.setInputLost page k b) :=
  h.update.cond

theorem Keeps.inputLost {page k} (h : Keeps s0 s) : Keeps s0 (s.inputLost page k) :=
  h.setInputLost

theorem Keeps.inputValid {page k} (h : Keeps s0 s) : Keeps s0 (s.inputValid page k) :=
  .ite h.setInputLost h

theorem Keeps.highMark {page n fill mark hyst} (h : Keeps s0 s) : Keeps s0 (s.highMark page n fill mark hyst) :=
  .ite h.cond (.ite h.cond h)

theorem Keeps.lowMark {page n fill mark hyst} (h : Keeps s0 s) : Keeps s0 (s.lowMark page n fill mark hyst) :=
  .ite h.cond (.ite h.cond h)

theorem Keeps.dropRec (h : Keeps s0 s) : Keeps s0 s.dropRec :=
  h.update.fbump.pulse

theorem Keeps.enqueueRec {r} (h : Keeps s0 s) : Keeps s0 (s.enqueueRec r) :=
  .ite h.dropRec h.update

theorem Keeps.post {code p0 p1 p2} (h : Keeps s0 s) : Keeps s0 (s.post code p0 p1 p2) :=
  h.enqueueRec

theorem Keeps.noteLevel {src was} (h : Keeps s0 s) : Keeps s0 (s.noteLevel src was) :=
  .ite h.fsetBit.update h.fsetBit

theorem Keeps.drive {src b} (h : Keeps s0 s) : Keeps s0 (s.drive src b) :=
  h.update.noteLevel

theorem Keeps.setExpertSt {page i e} (h : Keeps s0 s) : Keeps s0 (s.setExpertSt page i e) :=
  h.update

theorem Keeps.tckEdge (h : Keeps s0 s) : Keeps s0 s.tckEdge :=
  .ite h.timerStart h

theorem Keeps.portEdge {i} (h : Keeps s0 s) : Keeps s0 (s.portEdge i) :=
  .ite h.tckEdge h

theorem Keeps.accepted {i} (h : Keeps s0 s) : Keeps s0 (s.accepted i) :=
  h.update

theorem Keeps.refuse {i page r} (h : Keeps s0 s) : Keeps s0 (s.refuse i page r) :=
  h.update.fset.fset.pulse

theorem Keeps.disarm {i page} (h : Keeps s0 s) : Keeps s0 (s.disarm i page) :=
  .ite h.setExpertSt.timerStop h

theorem Keeps.keepOpen {i page off} (h : Keeps s0 s) : Keeps s0 (s.keepOpen i page off) :=
  .ite h.timerStart h

theorem Keeps.dropCrcPass {page} (h : Keeps s0 s) : Keeps s0 (s.dropCrcPass page) :=
  h.update

theorem Keeps.accessBy {adm i page off v} {f : State → WRes} (h : Keeps s0 s) (hf : ∀ t, Keeps s0 t → KeepsOk s0 (f t)) :
    Keeps s0 (s.accessBy adm i page off v f) := by
  unfold State.accessBy
  dsimp only
  refine .ite h.portEdge.disarm.update ?_
  refine .ite h.portEdge.disarm.refuse ?_
  refine .ite h.portEdge.disarm.update ?_
  refine .ite h.portEdge.disarm.refuse ?_
  split
  · exact h.portEdge.disarm.refuse
  · refine .ite h.portEdge.disarm.refuse ?_
    refine .ite h.portEdge.disarm.update.accepted ?_
    split
    · exact h.portEdge.disarm.refuse
    · next t heq =>
      exact ((hf _ h.portEdge.disarm) _ heq).accepted.keepOpen.dropCrcPass

theorem Keeps.access {i page off v} {f : State → WRes} (h : Keeps s0 s) (hf : ∀ t, Keeps s0 t → KeepsOk s0 (f t)) :
    Keeps s0 (s.access i page off v f) :=
  h.accessBy fun _ ht => hf _ ht

theorem Keeps.answerRead {i w} (h : Keeps s0 s) : Keeps s0 (s.answerRead i w) :=
  h.update

theorem Keeps.refuseRead {i page r} (h : Keeps s0 s) : Keeps s0 (s.refuseRead i page r) :=
  h.refuse.answerRead

theorem Keeps.accessRead {i page} {f : State → State} (h : Keeps s0 s) (hf : ∀ t, Keeps s0 t → Keeps s0 (f t)) :
    Keeps s0 (s.accessRead i page f) := by
  unfold State.accessRead
  dsimp only
  refine .ite h.portEdge.answerRead ?_
  refine .ite h.portEdge.refuseRead ?_
  refine .ite h.portEdge.answerRead ?_
  split
  · exact h.portEdge.refuseRead
  · exact hf _ h.portEdge.accepted

theorem Keeps.mergeReg {page off key v} (h : Keeps s0 s) : KeepsOk s0 (s.mergeReg page off key v) := by
  unfold State.mergeReg
  dsimp only
  split
  · exact .ok h
  · exact .ite (.ok h.setWord) .err

/-! The operations of Machine/Evr. -/

theorem Keeps.setEvr {e} (h : Keeps s0 s) : Keeps s0 (s.setEvr e) :=
  h.update.fset.fset.fset.highMark

theorem Keeps.checkFull (h : Keeps s0 s) : Keeps s0 s.checkFull :=
  .ite h.fset.cond h

theorem Keeps.stageRec {r} (h : Keeps s0 s) : Keeps s0 (s.stageRec r) :=
  h.fset.setEvr.checkFull

theorem Keeps.acceptRec {r} (h : Keeps s0 s) : Keeps s0 (s.acceptRec r) := by
  unfold State.acceptRec
  dsimp only
  refine .ite h.stageRec.pulse ?_
  split
  · exact .ite h.setEvr h.stageRec
  · exact h.stageRec

theorem Keeps.execRecordPost {code p0 p1 p2} (h : Keeps s0 s) : KeepsNext s0 (execRecordPost code p0 p1 p2 s) :=
  .next h.post

theorem Keeps.takeRec (h : Keeps s0 s) : Keeps s0 s.takeRec := by
  unfold State.takeRec
  dsimp only
  refine .ite h ?_
  split
  · exact h
  · exact .ite h.update.dropRec h.update.acceptRec

theorem Keeps.execRecordIntake (h : Keeps s0 s) : KeepsNext s0 (execRecordIntake s) :=
  .next (.ite h.takeRec h)

theorem Keeps.drainIntake (h : Keeps s0 s) : Keeps s0 s.drainIntake :=
  h.foldl fun _ _ ht => ht.takeRec

theorem Keeps.epochMarker {e} (h : Keeps s0 s) : Keeps s0 (s.epochMarker e) :=
  .ite h.update.fset.enqueueRec (.ite h.update.fset.dropRec h.update.fset.update.acceptRec)

theorem Keeps.execRecorderEpochWrap (h : Keeps s0 s) : KeepsNext s0 (execRecorderEpochWrap s) :=
  .next (.ite h.epochMarker h.advanceTo.epochMarker)

theorem Keeps.flushOpen (h : Keeps s0 s) : Keeps s0 s.flushOpen :=
  .ite h h.setEvr.checkFull

theorem Keeps.evrFlush (h : Keeps s0 s) : KeepsOk s0 (evrFlush s) :=
  .ok h.flushOpen

theorem Keeps.execEvrFlush {who} (h : Keeps s0 s) : KeepsNext s0 (execEvrFlush who s) :=
  .next (h.access fun _ ht => ht.evrFlush)

theorem Keeps.nvShow (h : Keeps s0 s) : Keeps s0 s.nvShow :=
  h.fset

theorem Keeps.nvEnd (h : Keeps s0 s) : Keeps s0 s.nvEnd :=
  h.update.nvShow

theorem Keeps.driveEnergy (h : Keeps s0 s) : Keeps s0 s.driveEnergy :=
  h.drive

theorem Keeps.refreshBlocked (h : Keeps s0 s) : Keeps s0 s.refreshBlocked :=
  .ite h h.fset.driveEnergy

theorem Keeps.logSegment {seg rest} (h : Keeps s0 s) : Keeps s0 (s.logSegment seg rest) :=
  h.update.setEvr.refreshBlocked.nvShow

theorem Keeps.commitSegment (h : Keeps s0 s) : Keeps s0 s.commitSegment := by
  unfold State.commitSegment
  split
  · exact h.nvEnd.logSegment
  · exact h
  · exact h.logSegment

theorem Keeps.segmentWaits (h : Keeps s0 s) : Keeps s0 s.segmentWaits :=
  h.fbump.update.nvShow

theorem Keeps.nvUncorrectable {a} (h : Keeps s0 s) : Keeps s0 (s.nvUncorrectable a) :=
  h.fbump.pulse.pulse.drive.post

theorem Keeps.readRecWord {who k} (h : Keeps s0 s) : Keeps s0 (s.readRecWord who k) := by
  unfold State.readRecWord
  dsimp only
  split
  · exact h.refuseRead
  · split
    · exact h.refuseRead
    · refine .ite (.fset (by split; exacts [h.nvUncorrectable.answerRead, h.answerRead])) ?_
      exact by split; exacts [h.nvUncorrectable.answerRead, h.answerRead]

theorem Keeps.execEvrRdDataRead {who k} (h : Keeps s0 s) : KeepsNext s0 (execEvrRdDataRead who k s) :=
  .next (h.accessRead fun _ ht => ht.readRecWord)

theorem Keeps.journalShow (h : Keeps s0 s) : Keeps s0 s.journalShow :=
  h.fset.fset.fset

theorem Keeps.pieceDone {j} (h : Keeps s0 s) : Keeps s0 (s.pieceDone j) := by
  unfold State.pieceDone
  dsimp only
  split
  · exact h.update
  · exact h.update.fset.fset.fset.pulse
  · exact h.update
  · exact h

theorem Keeps.journalBody {e} (h : Keeps s0 s) : Keeps s0 (s.journalBody e) :=
  h.update.fset

theorem Keeps.journalCommit {e} (h : Keeps s0 s) : Keeps s0 (s.journalCommit e) :=
  h.update.fset

theorem Keeps.journalAppend {e} (h : Keeps s0 s) : Keeps s0 (s.journalAppend e) :=
  h.journalBody.journalCommit

theorem Keeps.journalPath {n e} (h : Keeps s0 s) : KeepsSome s0 (State.journalPath n s e) := by
  induction n generalizing s with
  | zero => exact .none
  | succ n ih =>
    unfold State.journalPath
    split
    · exact .ite (.some h.journalAppend) .none
    · exact .ite (ih h.pieceDone) .none

theorem Keeps.journalNow {e} (h : Keeps s0 s) : KeepsSome s0 (s.journalNow e) :=
  h.journalPath

theorem Keeps.queueJournal {typ key payload} (h : Keeps s0 s) : Keeps s0 (s.queueJournal typ key payload) :=
  h.update

theorem Keeps.markWaiting (h : Keeps s0 s) : Keeps s0 s.markWaiting :=
  (h.foldl fun _ _ ht => ht.fbump).update.nvShow

theorem Keeps.nvStart {r} (h : Keeps s0 s) : Keeps s0 (s.nvStart r) :=
  h.update.nvShow.refreshBlocked.drive

theorem Keeps.nvDispatch (h : Keeps s0 s) : Keeps s0 s.nvDispatch := by
  unfold State.nvDispatch
  dsimp only
  refine .ite h ?_
  split
  · exact h.markWaiting
  · exact .ite h.markWaiting.nvStart h.markWaiting

theorem Keeps.execSegmentCommit (h : Keeps s0 s) : KeepsNext s0 (execSegmentCommit s) :=
  .next (by split; exacts [h.commitSegment, h, .ite h (.ite h.commitSegment (.ite h.segmentWaits h))])

theorem Keeps.execNvOperationStart (h : Keeps s0 s) : KeepsNext s0 (execNvOperationStart s) :=
  .next h.nvDispatch

theorem Keeps.setNvByte {a b} (h : Keeps s0 s) : Keeps s0 (s.setNvByte a b) :=
  h.update

theorem Keeps.nvProgram {a data} (h : Keeps s0 s) : Keeps s0 (s.nvProgram a data) :=
  h.foldl fun _ _ ht => ht.setNvByte

theorem Keeps.nvErase {a} (h : Keeps s0 s) : Keeps s0 (s.nvErase a) :=
  h.update

theorem Keeps.hostDone {result} (h : Keeps s0 s) : Keeps s0 (s.hostDone result) :=
  h.fset.fset.nvShow.pulse

theorem Keeps.nvaHost {job} (h : Keeps s0 s) : KeepsOk s0 (nvaHost job s) :=
  .ite .err (.ite .err (.ok h.fset.update))

theorem Keeps.nvaAbort (h : Keeps s0 s) : KeepsOk s0 (nvaAbort s) :=
  .ite (.ok h.update.hostDone) (.ite .err (.ok h))

theorem Keeps.nvaCmd {v} (h : Keeps s0 s) : KeepsOk s0 (nvaCmd v s) := by
  unfold Machine.nvaCmd
  split
  · exact h.nvaHost
  · exact h.nvaHost
  · exact h.nvaAbort
  · exact .ok h

theorem Keeps.execNvaProgram {who} (h : Keeps s0 s) : KeepsNext s0 (execNvaProgram who s) :=
  .next (h.access fun _ ht => ht.nvaCmd)

theorem Keeps.execNvaErase {who} (h : Keeps s0 s) : KeepsNext s0 (execNvaErase who s) :=
  .next (h.access fun _ ht => ht.nvaCmd)

theorem Keeps.execNvaAbort {who} (h : Keeps s0 s) : KeepsNext s0 (execNvaAbort who s) :=
  .next (h.access fun _ ht => ht.nvaCmd)

theorem Keeps.execHoldupChargeReading {uv} (h : Keeps s0 s) : KeepsNext s0 (execHoldupChargeReading uv s) :=
  .next (.ite h.pulse (Keeps.ite h.update h.update.saturate).fsetI.fset.cond.timerStart)

theorem Keeps.execHoldupVTimeout (h : Keeps s0 s) : KeepsNext s0 (execHoldupVTimeout s) :=
  .next (.ite h.fset.cond.update.fset.timerStop h)

theorem Keeps.execHoldupQTimeout (h : Keeps s0 s) : KeepsNext s0 (execHoldupQTimeout s) :=
  .next (.ite h.fset.cond.update.fset.timerStop h)

theorem Keeps.hupCapacity (h : Keeps s0 s) : Keeps s0 s.hupCapacity := by
  unfold State.hupCapacity
  refine .ite h.update ?_
  split
  · exact h.update
  · exact .ite h.update (.ite h.fset.update.cond h)

theorem Keeps.hupReady (h : Keeps s0 s) : Keeps s0 s.hupReady :=
  .ite (.ite h.fsetB.cond.timerStart h.fsetB.cond) <|
  have hs := h.fsetB.cond.update.timerStop.driveEnergy
  .ite hs.queueJournal.update hs

theorem Keeps.execHoldupEstimateUpdate (h : Keeps s0 s) : KeepsNext s0 (execHoldupEstimateUpdate s) :=
  .next <|
  have hs := h.hupCapacity.update.fset.fset.fset.fset
  .ite
    (have hs' := Keeps.ite hs.hupReady hs.hupReady.timerStart; .ite hs' hs'.timerStart)
    hs.hupReady.timerStop.timerStop.fset.cond

theorem Keeps.execHoldupDisagreeTimer (h : Keeps s0 s) : KeepsNext s0 (execHoldupDisagreeTimer s) :=
  .next (.ite h.fset.cond h)

theorem Keeps.execHoldupRebase (h : Keeps s0 s) : KeepsNext s0 (execHoldupRebase s) :=
  .next (.ite (.ite h.post.update.fsetI.fbump.pulse.timerStop h) h)

theorem Keeps.execNvHostEnergyTimeout (h : Keeps s0 s) : KeepsNext s0 (execNvHostEnergyTimeout s) :=
  .next (.ite h.update.hostDone.refreshBlocked h)

theorem Keeps.execHoldupReadyTimeout (h : Keeps s0 s) : KeepsNext s0 (execHoldupReadyTimeout s) :=
  .next (.ite h.update.driveEnergy h)

theorem Keeps.hupStart (h : Keeps s0 s) : Keeps s0 s.hupStart :=
  h.fset.timerStart.timerStart.timerStart

theorem Keeps.hupWrite {off v} (h : Keeps s0 s) : KeepsOk s0 (hupWrite off v s) := by
  unfold Machine.hupWrite
  dsimp only
  split
  · exact .err
  · next t heq =>
    have ht := h.mergeReg t heq
    exact .ite .err <|
      have ht' := Keeps.ite ht.hupStart ht
      have ht'' := Keeps.ite ht'.update.fset.timerStop ht'
      .ok (.ite ht''.update ht'')

/-! The operations of Machine/Pads. -/

theorem Keeps.setFelPort {n r} (h : Keeps s0 s) : Keeps s0 (s.setFelPort n r) :=
  h.update.fset.fset

theorem Keeps.setPins {n trx pa safe} (h : Keeps s0 s) : Keeps s0 (s.setPins n trx pa safe) :=
  have ht := h.fsetB.fsetB.fsetB
  .ite ht.fsetB ht.fsetB.setFelPort

theorem Keeps.trxEdge {n trx} (h : Keeps s0 s) : Keeps s0 (s.trxEdge n trx) :=
  .ite h (.ite h.setFelPort.fset h.setFelPort.fset)

theorem Keeps.setCxPair {k r} (h : Keeps s0 s) : Keeps s0 (s.setCxPair k r) :=
  h.update

theorem Keeps.overridePort {n} (h : Keeps s0 s) : Keeps s0 (s.overridePort n) :=
  .ite h.setPins.trxEdge h.setPins

theorem Keeps.overridePair {k} (h : Keeps s0 s) : Keeps s0 (s.overridePair k) :=
  .ite h.fset.fset.setCxPair h

theorem Keeps.muteAndPads (h : Keeps s0 s) : Keeps s0 s.muteAndPads :=
  (h.update.foldl fun _ _ ht => ht.overridePort).foldl fun _ _ ht => ht.overridePair

/-! The operations of Machine/Time. -/

theorem Keeps.setDomainRuns {d b} (h : Keeps s0 s) : Keeps s0 (s.setDomainRuns d b) :=
  .ite h.fsetBit h.fsetBit

theorem Keeps.setDomainFailed {d} (h : Keeps s0 s) : Keeps s0 (s.setDomainFailed d) :=
  .ite h.fsetBit h.fsetBit

theorem Keeps.release {page b} (h : Keeps s0 s) : Keeps s0 (s.release page b) :=
  h.update

theorem Keeps.refreshReady (h : Keeps s0 s) : Keeps s0 s.refreshReady :=
  h.foldl fun _ _ ht => ht.fsetB

theorem Keeps.refreshDomain {d} (h : Keeps s0 s) : Keeps s0 (s.refreshDomain d) := by
  unfold State.refreshDomain
  split
  · exact h
  · exact h.setDomainRuns

theorem Keeps.refreshGroupDomain {g} (h : Keeps s0 s) : Keeps s0 (s.refreshGroupDomain g) :=
  h.setDomainRuns

theorem Keeps.refreshClocks (h : Keeps s0 s) : Keeps s0 s.refreshClocks :=
  ((h.foldl fun _ _ ht => ht.refreshDomain).foldl fun _ _ ht => ht.refreshGroupDomain).setDomainRuns.refreshReady

theorem Keeps.driveClockFaults (h : Keeps s0 s) : Keeps s0 s.driveClockFaults :=
  h.foldl fun _ _ ht => .ite ht ht.drive

theorem Keeps.safeEntry {cause src} (h : Keeps s0 s) : Keeps s0 (s.safeEntry cause src) :=
  h.muteAndPads.fset.fset.fset.fset.fset

theorem Keeps.execPllaFirstLock (h : Keeps s0 s) : KeepsNext s0 (execPllaFirstLock s) :=
  .next (.ite h h.update.fset.refreshClocks)

theorem Keeps.setDev {d n} (h : Keeps s0 s) : Keeps s0 (s.setDev d n) :=
  h.update

theorem Keeps.superviseDomain {deviates d} (h : Keeps s0 s) : Keeps s0 (s.superviseDomain deviates d) :=
  .ite h (.ite h.setDomainFailed.setDev (.ite h.setDev (.ite h.setDev (.ite h.setDev h.setDomainFailed.setDev))))

theorem Keeps.superviseRefclk {bad} (h : Keeps s0 s) : Keeps s0 (s.superviseRefclk bad) :=
  .ite h.setDev.fset (.ite h.setDev h.fset)

theorem Keeps.sclEdge (h : Keeps s0 s) : Keeps s0 s.sclEdge :=
  h.setDomainRuns.timerStart

theorem Keeps.sclQuiet (h : Keeps s0 s) : Keeps s0 s.sclQuiet :=
  h.setDomainRuns.timerStop

theorem Keeps.sclStrobe (h : Keeps s0 s) : Keeps s0 s.sclStrobe :=
  .ite h.sclQuiet h

theorem Keeps.aonWindow (h : Keeps s0 s) : Keeps s0 s.aonWindow :=
  .ite h.update h.update.sclQuiet

theorem Keeps.execClockSupervisionWindow {deviates refclkBad aonBad} (h : Keeps s0 s) :
    KeepsNext s0 (execClockSupervisionWindow deviates refclkBad aonBad s) :=
  .next <|
  have ht := (h.aonWindow.foldl fun _ _ ht => ht.superviseDomain).superviseRefclk.fsetB.driveClockFaults.drive.drive
  .ite ht.safeEntry ht

theorem Keeps.execPllLockLoss {pll} (h : Keeps s0 s) : KeepsNext s0 (execPllLockLoss pll s) :=
  .next (.ite h (h.fset.foldl fun _ _ ht => ht.setDev).refreshClocks.drive)

/-! The operations of Machine/Bus. -/

theorem Keeps.clearEvent {page n} (h : Keeps s0 s) : Keeps s0 (s.clearEvent page n) :=
  h.fsetBit.setEvtCount

theorem Keeps.stickyWrite {page bits} (h : Keeps s0 s) : KeepsOk s0 (stickyWrite page bits s) :=
  .ok (h.foldl fun _ _ ht => .ite ht.clearEvent ht)

theorem Keeps.execEvtStickyClear {who page bits} (h : Keeps s0 s) : KeepsNext s0 (execEvtStickyClear who page bits s) :=
  .next (h.access fun _ ht => ht.stickyWrite)

theorem Keeps.forceWrite {page bits} (h : Keeps s0 s) : KeepsOk s0 (forceWrite page bits s) :=
  .ok (h.foldl fun _ _ ht => .ite ht.rise ht)

theorem Keeps.execEvtForce {who page bits} (h : Keeps s0 s) : KeepsNext s0 (execEvtForce who page bits s) :=
  .next (h.access fun _ ht => ht.forceWrite)

theorem Keeps.evtCountWrite {i page sel snap} (h : Keeps s0 s) : KeepsOk s0 (evtCountWrite i page sel snap s) :=
  .ite (.ok h.fset.update.clearEvent) (.ok h.fset.update)

theorem Keeps.execEvtCountSnap {who page sel} (h : Keeps s0 s) : KeepsNext s0 (execEvtCountSnap who page sel s) :=
  .next (h.access fun _ ht => ht.evtCountWrite)

theorem Keeps.execEventRise {page bit} (h : Keeps s0 s) : KeepsNext s0 (execEventRise page bit s) :=
  .next (.ite h.cond h)

theorem Keeps.execStoppedBlockAccessDone {who page write} (h : Keeps s0 s) : KeepsNext s0 (execStoppedBlockAccessDone who page write s) :=
  .next <|
  .ite
    (have ht := (Keeps.ite h.disarm h).refuse; .ite ht ht.answerRead)
    h

theorem Keeps.unlockArm {i page} (h : Keeps s0 s) : KeepsOk s0 (unlockArm i page s) :=
  .ok h.setExpertSt.timerStart

theorem Keeps.execExpertUnlockArm {who page} (h : Keeps s0 s) : KeepsNext s0 (execExpertUnlockArm who page s) :=
  .next (h.accessBy fun _ ht => ht.unlockArm)

theorem Keeps.unlockOpen {armed i page} (h : Keeps s0 s) : KeepsOk s0 (unlockOpen armed i page s) :=
  .ite .err (.ite (.ok h.setExpertSt.timerStart) (.ok h))

theorem Keeps.execExpertUnlockOpen {who page} (h : Keeps s0 s) : KeepsNext s0 (execExpertUnlockOpen who page s) :=
  .next (h.accessBy fun _ ht => ht.unlockOpen)

theorem Keeps.closeExpert {i page} (h : Keeps s0 s) : Keeps s0 (s.closeExpert i page) :=
  h.setExpertSt.timerStop

theorem Keeps.execExpertClose {who page} (h : Keeps s0 s) : KeepsNext s0 (execExpertClose who page s) :=
  .next (h.accessBy fun _ ht => .ok ht.closeExpert)

theorem Keeps.unlockWrite {armed i page v} (h : Keeps s0 s) : KeepsOk s0 (unlockWrite armed i page v s) :=
  .ite h.unlockArm (.ite h.unlockOpen (.ite (.ok h.closeExpert) (.ok h)))

theorem Keeps.execExpertArmTimeout {who page} (h : Keeps s0 s) : KeepsNext s0 (execExpertArmTimeout who page s) :=
  .next (.ite h.disarm h)

theorem Keeps.execExpertOpenTimeout {who page} (h : Keeps s0 s) : KeepsNext s0 (execExpertOpenTimeout who page s) :=
  .next (.ite h.closeExpert h)

theorem Keeps.ownerWrite {i page id} (h : Keeps s0 s) : KeepsOk s0 (ownerWrite i page id s) :=
  .ite (.ok h) (.ite .err (.ite .err (.ok h.fset)))

theorem Keeps.execOwnerWrite {who page id} (h : Keeps s0 s) : KeepsNext s0 (execOwnerWrite who page id s) :=
  .next (h.accessBy fun _ ht => ht.ownerWrite)

theorem Keeps.driveConfig {src} (h : Keeps s0 s) : Keeps s0 (s.driveConfig src) :=
  h.drive

theorem Keeps.setCrcErr {page bad} (h : Keeps s0 s) : Keeps s0 (s.setCrcErr page bad) :=
  h.fsetB.fsetBit.cond.driveConfig

theorem Keeps.crcPassStart {page} (h : Keeps s0 s) : Keeps s0 (s.crcPassStart page) :=
  .ite
    (have hs := Keeps.ite h h.timerStart; .ite hs.update hs)
    h

theorem Keeps.execCrcPassComplete {page good} (h : Keeps s0 s) : KeepsNext s0 (execCrcPassComplete page good s) :=
  .next (.ite h.dropCrcPass.fset.timerStart.setCrcErr h)

theorem Keeps.execCrcStaleTimeout {page} (h : Keeps s0 s) : KeepsNext s0 (execCrcStaleTimeout page s) :=
  .next (.ite h.fset h)

theorem Keeps.ctxCrcMismatch (h : Keeps s0 s) : Keeps s0 s.ctxCrcMismatch :=
  h.setCrcErr

/-! The operations of Machine/Chn. -/

theorem Keeps.setPathRt {p r} (h : Keeps s0 s) : Keeps s0 (s.setPathRt p r) :=
  h.update

theorem Keeps.streamWrite {stream v} (h : Keeps s0 s) : KeepsOk s0 (streamWrite stream v s) :=
  .ite .err (.ite .err (.ite .err (.ite .err h.mergeReg)))

theorem Keeps.applyWindows {p} (h : Keeps s0 s) : Keeps s0 (s.applyWindows p) :=
  h.foldl fun _ _ ht => ht.update

theorem Keeps.setWinStage {i v} (h : Keeps s0 s) : Keeps s0 (s.setWinStage i v) :=
  h.update

theorem Keeps.dropWinStage {i u} (h : Keeps s0 s) : Keeps s0 (s.dropWinStage i u) := by
  unfold State.dropWinStage
  split
  · exact .ite h.setWinStage h
  · exact h

theorem Keeps.winLoWrite {i v} (h : Keeps s0 s) : KeepsOk s0 (winLoWrite i v s) :=
  .ite .err (.ite .err (.ok h.setWinStage))

theorem Keeps.execWinLoWrite {who value} (h : Keeps s0 s) : KeepsNext s0 (execWinLoWrite who value s) :=
  .next (h.access fun _ ht => ht.winLoWrite)

theorem Keeps.delayTarget {p n} (h : Keeps s0 s) : Keeps s0 (s.delayTarget p n) :=
  .ite h.setPathRt.fset (.ite h.setPathRt (.ite (.ite h.setPathRt h.setPathRt) h.setPathRt.fset))

theorem Keeps.setDelayNs {p ns} (h : Keeps s0 s) : Keeps s0 (s.setDelayNs p ns) :=
  h.fset.fset.delayTarget

theorem Keeps.delayWrite {p ns} (h : Keeps s0 s) : KeepsOk s0 (delayWrite p ns s) :=
  .ite .err (.ite .err (.ite .err (.ok h.setDelayNs)))

theorem Keeps.execDelayWrite {who path ns} (h : Keeps s0 s) : KeepsNext s0 (execDelayWrite who path ns s) :=
  .next (h.access fun _ ht => ht.delayWrite)

theorem Keeps.delaySmpWrite {p n} (h : Keeps s0 s) : KeepsOk s0 (delaySmpWrite p n s) :=
  .ite .err (.ite .err (.ok h.fset.delayTarget))

theorem Keeps.execDelaySlewDone {path} (h : Keeps s0 s) : KeepsNext s0 (execDelaySlewDone path s) :=
  .next (by dsimp only; split; exacts [h, h.advanceTo.setPathRt.pulse])

theorem Keeps.delayAtBoundary {p quiet} (h : Keeps s0 s) : Keeps s0 (s.delayAtBoundary p quiet) := by
  unfold State.delayAtBoundary
  dsimp only
  split
  · exact h.setPathRt
  · split
    · exact .ite h.setPathRt.fset.pulse h
    · exact h

/-! The operations of Machine/Reset. -/

theorem Keeps.copyWords {from_ keys} (h1 : Keeps s0 s) : Keeps s0 (s.copyWords from_ keys) :=
  h1.foldl fun _ _ ht => ht.setWord

theorem Keeps.fromNv {power} (h : Keeps s0 s) : Keeps s0 (s.fromNv power) :=
  h.update.update.update.update.update.journalShow.copyWords.fset.fset.setEvr.checkFull

theorem Keeps.bindRole (h : Keeps s0 s) : Keeps s0 s.bindRole :=
  h.fset.fset.fset

theorem Keeps.newChallenge (h : Keeps s0 s) : Keeps s0 s.newChallenge :=
  (h.foldl fun _ _ ht => ht.setWord.tookFree).timerStart

theorem Keeps.powerOnReset (h : Keeps s0 s) : Keeps s0 s.powerOnReset :=
  h.fromNv.update.bindRole.fset

theorem Keeps.chipReset {cause src} (h : Keeps s0 s) : Keeps s0 (s.chipReset cause src) :=
  h.fromNv.update.update.update.update.copyWords.fset.bindRole.fset.fset.refreshClocks.newChallenge

theorem Keeps.commitOpenIfAdmitted (h : Keeps s0 s) : Keeps s0 s.commitOpenIfAdmitted :=
  h.flushOpen.foldl fun _ _ ht => .ite ht.commitSegment ht

/-! The operations of Machine/Sec. -/

theorem Keeps.lcAccept {id target} (h : Keeps s0 s) : Keeps s0 (s.lcAccept id target) :=
  h.update.fset.fset.timerStart

theorem Keeps.lifecycleGo {who target confirm} (h : Keeps s0 s) : Keeps s0 (s.lifecycleGo who target confirm) := by
  unfold State.lifecycleGo
  dsimp only
  split
  · refine .ite ((h.accessBy fun _ ht => by split; exacts [.ok ht.fset.fset.lcAccept, .ok ht.fset.fset]).fset) ?_
    exact h.accessBy fun _ ht => by split; exacts [.ok ht.fset.fset.lcAccept, .ok ht.fset.fset]
  · exact h.accessBy fun _ ht => by split; exacts [.ok ht.fset.fset.lcAccept, .ok ht.fset.fset]

theorem Keeps.execLifecycleGo {who target confirm} (h : Keeps s0 s) : KeepsNext s0 (execLifecycleGo who target confirm s) :=
  .next h.lifecycleGo

theorem Keeps.eraseKeys {target} (h : Keeps s0 s) : KeepsSome s0 (s.eraseKeys target) :=
  (KeepsSome.foldl (.some h) fun _ _ ho => ho.bind fun _ ht => ht.journalNow).map fun _ ht => ht.update

theorem Keeps.debugClosed (h : Keeps s0 s) : Keeps s0 s.debugClosed :=
  h.update.fset.timerStop

theorem Keeps.lcEnter {r} (h : Keeps s0 s) : Keeps s0 (s.lcEnter r) := by
  unfold State.lcEnter
  dsimp only
  split
  · exact h
  · next t heq =>
    exact ((KeepsSome.ite .none h.eraseKeys) _ heq).update.post.drainIntake.commitOpenIfAdmitted.timerStart

theorem Keeps.fuseBurned {r both} (h : Keeps s0 s) : Keeps s0 (s.fuseBurned r both) :=
  h.update.fset.debugClosed

theorem Keeps.fuseEnd {r outcome} (h : Keeps s0 s) : Keeps s0 (s.fuseEnd r outcome) := by
  unfold State.fuseEnd
  dsimp only
  split
  · exact h.update.fset.fset
  · exact h.fuseBurned.fset
  · exact h.fuseBurned.lcEnter

theorem Keeps.keyChange {id who key} (h : Keeps s0 s) : Keeps s0 (s.keyChange id who key) :=
  h.update.queueJournal

theorem Keeps.keyTurned {s1 who verdict} (h1 : Keeps s0 s) : Keeps s0 (s.keyTurned s1 who verdict) :=
  .ite h1.fset h1

theorem Keeps.keyInstall {who plain} (h : Keeps s0 s) : Keeps s0 (s.keyInstall who plain) :=
  (h.accessBy fun _ ht => by split; exacts [.ok ht.fset, .ok ht.keyChange]).keyTurned

theorem Keeps.wrapWrite {who k v} (h : Keeps s0 s) : Keeps s0 (s.wrapWrite who k v) :=
  h.accessBy fun _ ht => .ok ht.setWord

theorem Keeps.stageWrap {who w} (h : Keeps s0 s) : Keeps s0 (s.stageWrap who w) :=
  h.foldl fun _ _ ht => ht.wrapWrite

theorem Keeps.execKeyInstall {who plain staged} (h : Keeps s0 s) : KeepsNext s0 (execKeyInstall who plain staged s) :=
  .next (.keyInstall (by split; exacts [h.stageWrap, h]))

theorem Keeps.keyErase {who plain} (h : Keeps s0 s) : Keeps s0 (s.keyErase who plain) :=
  (h.accessBy fun _ ht => .ok ht.keyChange).keyTurned

theorem Keeps.execKeyErase {who} (h : Keeps s0 s) : KeepsNext s0 (execKeyErase who s) :=
  .next h.keyErase

theorem Keeps.keyCommitted {id key} (h : Keeps s0 s) : Keeps s0 (s.keyCommitted id key) :=
  h.update.fset.pulse

theorem Keeps.pcieRoleWrite {role} (h : Keeps s0 s) : KeepsOk s0 (pcieRoleWrite role s) :=
  .ite .err (.ok h.fset.queueJournal)

theorem Keeps.execPcieRoleWrite {who role} (h : Keeps s0 s) : KeepsNext s0 (execPcieRoleWrite who role s) :=
  .next (h.accessBy fun _ ht => ht.pcieRoleWrite)

theorem Keeps.setRoot {slot r} (h : Keeps s0 s) : Keeps s0 (s.setRoot slot r) :=
  h.update

theorem Keeps.rootBurned {b} (h : Keeps s0 s) : Keeps s0 (s.rootBurned b) :=
  .ite h.setRoot.pulse h.setRoot

theorem Keeps.rootBurn {slot becomes revokes} (h : Keeps s0 s) : KeepsOk s0 (rootBurn slot becomes revokes s) :=
  .ite .err (.ite (.ok h.rootBurned) (.ok h.update.fbump.nvShow))

theorem Keeps.burnRetest (h : Keeps s0 s) : Keeps s0 s.burnRetest := by
  unfold State.burnRetest
  split
  · exact h
  · exact .ite h.update.rootBurned.refreshBlocked.nvShow h.fbump

theorem Keeps.rootProgram {slot usage} (h : Keeps s0 s) : KeepsOk s0 (rootProgram slot usage s) :=
  .ite .err (.ite .err h.rootBurn)

theorem Keeps.execRootProgram {who usage} (h : Keeps s0 s) : KeepsNext s0 (execRootProgram who usage s) :=
  .next (h.accessBy fun _ ht => ht.rootProgram)

theorem Keeps.rootRevoke {slot} (h : Keeps s0 s) : KeepsOk s0 (rootRevoke slot s) :=
  .ite .err h.rootBurn

theorem Keeps.execRootRevoke {who} (h : Keeps s0 s) : KeepsNext s0 (execRootRevoke who s) :=
  .next (h.accessBy fun _ ht => ht.rootRevoke)

theorem Keeps.svnAdvance (h : Keeps s0 s) : KeepsOk s0 (svnAdvance s) :=
  .ok h.update

theorem Keeps.execSvnAdvance {who} (h : Keeps s0 s) : KeepsNext s0 (execSvnAdvance who s) :=
  .next (h.accessBy fun _ ht => ht.svnAdvance)

theorem Keeps.debugOpen {level slot} (h : Keeps s0 s) : Keeps s0 (s.debugOpen level slot) :=
  have hs := h.fset.fset.fset
  (Keeps.ite hs.update hs.update.pulse).post.timerStart

theorem Keeps.debugLock (h : Keeps s0 s) : Keeps s0 s.debugLock :=
  h.fset.timerStart.update.pulse

theorem Keeps.debugLockAtThree (h : Keeps s0 s) : Keeps s0 s.debugLockAtThree :=
  .ite h.debugLock h

theorem Keeps.debugFail (h : Keeps s0 s) : Keeps s0 s.debugFail :=
  h.fbump.pulse.update.debugLockAtThree

theorem Keeps.execDebugAuth {level slot signed sigOk} (h : Keeps s0 s) : KeepsNext s0 (execDebugAuth level slot signed sigOk s) :=
  .next (.ite h.tckEdge (Keeps.ite h.tckEdge.debugOpen h.tckEdge.debugFail).newChallenge)

theorem Keeps.execDebugChallengeExpired (h : Keeps s0 s) : KeepsNext s0 (execDebugChallengeExpired s) :=
  .next (.ite h.newChallenge h)

theorem Keeps.execDebugLockoutExpired (h : Keeps s0 s) : KeepsNext s0 (execDebugLockoutExpired s) :=
  .next (.ite h.fset.timerStop h)

theorem Keeps.execDebugClose {who} (h : Keeps s0 s) : KeepsNext s0 (execDebugClose who s) :=
  .next (h.access fun _ ht => .ok ht.debugClosed)

theorem Keeps.execDebugIdleTimeout (h : Keeps s0 s) : KeepsNext s0 (execDebugIdleTimeout s) :=
  .next (.ite h.debugClosed h)

theorem Keeps.jtagData {op} (h : Keeps s0 s) : Keeps s0 (s.jtagData op) := by
  unfold State.jtagData
  split
  · exact h.update
  · exact h.update
  · split
    · exact h.update
    · exact h.update.tookFree
  · exact h.update
  · exact h.update
  · exact h.update
  · exact h

theorem Keeps.execJtagInstruction {op} (h : Keeps s0 s) : KeepsNext s0 (execJtagInstruction op s) :=
  .next (by dsimp only; split; exacts [.ite h.tckEdge.update.jtagData h.tckEdge.update, h.tckEdge.update])

theorem Keeps.execTraceWord {source aux payload} (h : Keeps s0 s) : KeepsNext s0 (execTraceWord source aux payload s) :=
  .next (.ite h.trcWrite h)

theorem Keeps.trcRdData {who} (h : Keeps s0 s) : Keeps s0 (s.trcRdData who) :=
  .ite h.answerRead.fset h.refuseRead

theorem Keeps.execTrcRdDataRead {who} (h : Keeps s0 s) : KeepsNext s0 (execTrcRdDataRead who s) :=
  .next (h.accessRead fun _ ht => ht.trcRdData)

theorem Keeps.evrClear {who confirm} (h : Keeps s0 s) : KeepsOk s0 (evrClear who confirm s) :=
  .ite .err (.ite .err (.ok h.setEvr.update.fset.queueJournal))

theorem Keeps.execEvrClear {who confirm} (h : Keeps s0 s) : KeepsNext s0 (execEvrClear who confirm s) :=
  .next (h.accessBy fun _ ht => ht.evrClear)

theorem Keeps.clearComplete {c} (h : Keeps s0 s) : Keeps s0 (s.clearComplete c) :=
  h.update.setEvr.fset.fset.fset.cond.acceptRec.fset.pulse

/-! The operations of Machine/Img. -/

theorem Keeps.imgStore {slot addr data} (h : Keeps s0 s) : Keeps s0 (s.imgStore slot addr data) :=
  h.update

theorem Keeps.imgClear {slot} (h : Keeps s0 s) : Keeps s0 (s.imgClear slot) :=
  h.update

theorem Keeps.setSlot {slot st} (h : Keeps s0 s) : Keeps s0 (s.setSlot slot st) :=
  h.fset

theorem Keeps.refuseSlot {slot code} (h : Keeps s0 s) : Keeps s0 (s.refuseSlot slot code) :=
  h.setSlot.fset.pulse

theorem Keeps.setLoader {slot i} (h : Keeps s0 s) : Keeps s0 (s.setLoader slot i) :=
  h.update

theorem Keeps.loadBegin {i slot} (h : Keeps s0 s) : KeepsOk s0 (loadBegin i slot s) :=
  .ite (.ok (h.imgClear.setSlot.setLoader.fset.fset.fset.foldl fun _ _ ht => ht.fset).update.fset.timerStart) .err

theorem Keeps.loadStore {slot addr data} (h : Keeps s0 s) : Keeps s0 (s.loadStore slot addr data) :=
  (h.imgStore.foldl fun _ _ ht => .ite ht ht.fsetBit).timerStart

theorem Keeps.setEndLen {slot len} (h : Keeps s0 s) : Keeps s0 (s.setEndLen slot len) :=
  .ite h.update h.update

theorem Keeps.loadFinish {slot len} (h : Keeps s0 s) : Keeps s0 (s.loadFinish slot len) :=
  h.setEndLen.setSlot.timerStop

theorem Keeps.loadAbort {slot} (h : Keeps s0 s) : Keeps s0 (s.loadAbort slot) :=
  h.setSlot.timerStop

theorem Keeps.loadOp {slot op} (h : Keeps s0 s) : Keeps s0 (s.loadOp slot op) := by
  unfold State.loadOp
  refine .ite h.update.timerStart ?_
  split
  · exact h.loadStore
  · exact h.loadFinish
  · exact h.loadAbort

theorem KeepsOk.loadCheck {k} {i slot} (hk : KeepsOk s0 k) : KeepsOk s0 (s.loadCheck i slot k) :=
  .ite .err (.ite .err hk)

theorem Keeps.loadCtrlWrite {i v} (h : Keeps s0 s) : KeepsOk s0 (loadCtrlWrite i v s) := by
  unfold Machine.loadCtrlWrite
  dsimp only
  refine .ite .err ?_
  split
  · exact .ok h.fset.fset
  · exact h.fset.fset.loadBegin
  · exact KeepsOk.loadCheck
      (.ok h.fset.fset.loadOp)
  · exact KeepsOk.loadCheck
      (.ok h.fset.fset.loadOp)

theorem Keeps.execImageLoadBegin {who slot} (h : Keeps s0 s) : KeepsNext s0 (execImageLoadBegin who slot s) :=
  .next (h.access fun _ ht => ht.loadCtrlWrite)

theorem Keeps.fillEnds {slot others} (h : Keeps s0 s) : Keeps s0 (s.fillEnds slot others) :=
  h.update.fsetB.foldl fun _ _ ht => .ite ht.loadOp ht

theorem Keeps.execImageSlotFillDone (h : Keeps s0 s) : KeepsNext s0 (execImageSlotFillDone s) :=
  .next (by split; exacts [h, h.fillEnds])

theorem Keeps.loadAddrWrite {i v} (h : Keeps s0 s) : KeepsOk s0 (loadAddrWrite i v s) :=
  KeepsOk.loadCheck (.ite .err (.ok h.fset.timerStart))

theorem Keeps.loadDataWrite {i v} (h : Keeps s0 s) : KeepsOk s0 (loadDataWrite i v s) :=
  KeepsOk.loadCheck (.ok h.loadOp.fset)

theorem Keeps.execImageLoadData {who data} (h : Keeps s0 s) : KeepsNext s0 (execImageLoadData who data s) :=
  .next (h.access fun _ ht => ht.loadDataWrite)

theorem Keeps.execImageLoadEnd {who slot length} (h : Keeps s0 s) : KeepsNext s0 (execImageLoadEnd who slot length s) :=
  .next (h.access fun _ ht => ht.loadCtrlWrite)

theorem Keeps.execImageLoadAbort {who slot} (h : Keeps s0 s) : KeepsNext s0 (execImageLoadAbort who slot s) :=
  .next (h.access fun _ ht => ht.loadCtrlWrite)

theorem Keeps.execLoadTimeout {slot} (h : Keeps s0 s) : KeepsNext s0 (execLoadTimeout slot s) :=
  .next (.ite h.setSlot.timerStop.pulse h)

theorem Keeps.execVerifyDone {slot sigOk recountOk} (h : Keeps s0 s) : KeepsNext s0 (execVerifyDone slot sigOk recountOk s) :=
  .next (.ite h (.ite h.fset.fset.setSlot.pulse h.fset.fset.refuseSlot))

theorem Keeps.loadSegment {i slot off data} (h : Keeps s0 s) : KeepsOk s0 (loadSegment i slot off data s) :=
  .ite .err (.ite .err (.ite .err (.ok h.loadOp)))

/-! The operations of Machine/Can. -/

theorem Keeps.setCanRt {n r} (h : Keeps s0 s) : Keeps s0 (s.setCanRt n r) :=
  h.update

theorem Keeps.setCanState {n st} (h : Keeps s0 s) : Keeps s0 (s.setCanState n st) :=
  h.fset

theorem Keeps.zeroTaps {u keep} (h : Keeps s0 s) : Keeps s0 (s.zeroTaps u keep) :=
  h.update

theorem Keeps.placeCluster {n k r c en start len} (h : Keeps s0 s) : Keeps s0 (s.placeCluster n k r c en start len) :=
  h.zeroTaps.fsetB.fset.fset

theorem Keeps.deriveLeak {n} (h : Keeps s0 s) : Keeps s0 (s.deriveLeak n) :=
  h.fset.fset

theorem Keeps.deriveMu {n l} (h : Keeps s0 s) : Keeps s0 (s.deriveMu n l) :=
  h.fset.fset

theorem Keeps.rateChanged {n} (h : Keeps s0 s) : Keeps s0 (s.rateChanged n) :=
  h.deriveMu.deriveLeak

theorem Keeps.deriveApply {n} (h : Keeps s0 s) : Keeps s0 (s.deriveApply n) :=
  have ht := h.foldl fun _ _ ht => ht.foldl fun _ _ ht => ht.foldl fun _ _ ht => by
    split
    · exact .ite ht.placeCluster ht.placeCluster
    · exact ht.placeCluster
  ht.fset.fset.deriveMu.setCanRt.pulse

theorem Keeps.zeroRef {n r} (h : Keeps s0 s) : Keeps s0 (s.zeroRef n r) :=
  h.update.update

theorem Keeps.canDerived {n} (h : Keeps s0 s) : KeepsOk s0 (s.canDerived n) :=
  .ite .err (.ok h.deriveApply)

theorem Keeps.beginPause {n} (h : Keeps s0 s) : Keeps s0 (s.beginPause n) :=
  h.setCanRt.timerStart

theorem Keeps.enterCan {n st} (h : Keeps s0 s) : Keeps s0 (s.enterCan n st) :=
  .ite h.setCanState.beginPause h.setCanState

theorem Keeps.noteMode {n old mode} (h : Keeps s0 s) : Keeps s0 (s.noteMode n old mode) :=
  .ite h.timerStop.setCanRt h.timerStop

theorem Keeps.modeChanged {n mode} (h : Keeps s0 s) : Keeps s0 (s.modeChanged n mode) :=
  .ite h.setCanRt (.ite h.setCanRt h.enterCan)

theorem Keeps.isoStop {n} (h : Keeps s0 s) : Keeps s0 (s.isoStop n) :=
  .ite h.fset.timerStop.enterCan h

theorem Keeps.enChanged {n en} (h : Keeps s0 s) : Keeps s0 (s.enChanged n en) :=
  .ite h.enterCan.timerStart h.isoStop.timerStop.timerStop.setCanRt.setCanState

theorem Keeps.isoFresh {n} (h : Keeps s0 s) : Keeps s0 (s.isoFresh n) :=
  h.update

theorem Keeps.isoStart {n} (h : Keeps s0 s) : Keeps s0 (s.isoStart n) :=
  h.isoFresh.setCanRt.fset.setCanState.timerStart.timerStart

theorem Keeps.isoRequest {n} (h : Keeps s0 s) : Keeps s0 (s.isoRequest n) :=
  .ite h (.ite h.isoStart h.setCanRt)

theorem Keeps.clearTaps {n} (h : Keeps s0 s) : Keeps s0 (s.clearTaps n) :=
  h.update

theorem Keeps.linkFreeze {n} (h : Keeps s0 s) : Keeps s0 (s.linkFreeze n) :=
  .ite h.isoStop.setCanRt.setCanState.timerStop.pulse h.isoStop.timerStop

theorem Keeps.linkCheck {n} (h : Keeps s0 s) : Keeps s0 (s.linkCheck n) :=
  .ite (.ite h.timerStop h.linkFreeze) (.ite h.timerStart h)

theorem Keeps.canBasicWrite {i reg v} (h : Keeps s0 s) : KeepsOk s0 (canBasicWrite i reg v s) := by
  unfold Machine.canBasicWrite
  dsimp only
  refine .ite .err ?_
  refine .ite .err ?_
  split
  · exact .err
  · next t heq =>
    have ht := h.mergeReg t heq
    split
    · exact .err
    · next t' heq' =>
      refine .ok (Keeps.canDerived ?_ _ heq').linkCheck
      split
      · exact .ite ht ht.zeroRef
      · exact ht.deriveLeak
      · exact ht

theorem Keeps.execCanBasicWrite {who reg value} (h : Keeps s0 s) : KeepsNext s0 (execCanBasicWrite who reg value s) :=
  .next (h.access fun _ ht => ht.canBasicWrite)

theorem Keeps.canCtrlWrite {i v} (h : Keeps s0 s) : KeepsOk s0 (canCtrlWrite i v s) :=
  .ite .err <|
  .ite .err <|
  .ite .err <|
  .ite .err <|
  have ht := h.deriveApply.fsetB.fset.fset
  have ht' := Keeps.ite ht.clearTaps ht
  have ht'' := Keeps.ite ht' ht'.noteMode
  have ht''' := Keeps.ite ht''.enChanged (.ite ht''.modeChanged ht'')
  have ht'''' := ht'''.linkCheck
  .ok (.ite ht''''.isoRequest ht'''')

theorem Keeps.execCanEnable {who} (h : Keeps s0 s) : KeepsNext s0 (execCanEnable who s) :=
  .next (h.access fun _ ht => ht.canCtrlWrite)

theorem Keeps.execCanDisable {who} (h : Keeps s0 s) : KeepsNext s0 (execCanDisable who s) :=
  .next (h.access fun _ ht => ht.canCtrlWrite)

theorem Keeps.execCanModeWrite {who mode} (h : Keeps s0 s) : KeepsNext s0 (execCanModeWrite who mode s) :=
  .next (h.access fun _ ht => ht.canCtrlWrite)

theorem Keeps.execClearTaps {who} (h : Keeps s0 s) : KeepsNext s0 (execClearTaps who s) :=
  .next (h.access fun _ ht => ht.canCtrlWrite)

theorem Keeps.execIsoReq {who} (h : Keeps s0 s) : KeepsNext s0 (execIsoReq who s) :=
  .next (h.access fun _ ht => ht.canCtrlWrite)

theorem Keeps.execPauseExpired {inst} (h : Keeps s0 s) : KeepsNext s0 (execPauseExpired inst s) :=
  .next <|
  .ite
    (have ht := h.timerStop.fset; .ite ht.update (.ite ht.setCanState (.ite ht.setCanRt (.ite ht.setCanRt ht))))
    h

theorem Keeps.canLinkLoss {stream} (h : Keeps s0 s) : Keeps s0 (s.canLinkLoss stream) :=
  h.update.foldl fun _ _ ht => .ite ht.linkFreeze ht

theorem Keeps.canLinkBack {stream} (h : Keeps s0 s) : Keeps s0 (s.canLinkBack stream) :=
  h.update.foldl fun _ _ ht => .ite ht.linkCheck ht

theorem Keeps.beginRefill {n} (h : Keeps s0 s) : Keeps s0 (s.beginRefill n) :=
  h.update

theorem Keeps.refillStep {n k} (h : Keeps s0 s) : Keeps s0 (s.refillStep n k) :=
  h.update

theorem Keeps.execLinkFrozenExit {inst} (h : Keeps s0 s) : KeepsNext s0 (execLinkFrozenExit inst s) :=
  .next <|
  .ite
    (have ht := h.timerStop.beginRefill; .ite ht.setCanRt ht.enterCan)
    h

theorem Keeps.mapWrite {i v} (h : Keeps s0 s) : KeepsOk s0 (mapWrite i v s) :=
  .ite .err (.ite .err (.ite (.ok h.placeCluster.setCanRt) .err))

theorem Keeps.execCanMapWrite {who value} (h : Keeps s0 s) : KeepsNext s0 (execCanMapWrite who value s) :=
  .next (h.access fun _ ht => ht.mapWrite)

theorem Keeps.tapReWrite {i re} (h : Keeps s0 s) : KeepsOk s0 (tapReWrite i re s) :=
  .ok h.update

theorem Keeps.tapImWrite {i im} (h : Keeps s0 s) : KeepsOk s0 (tapImWrite i im s) :=
  .ite (.ok h) (.ok h.update)

theorem Keeps.execTapReWrite {who re} (h : Keeps s0 s) : KeepsNext s0 (execTapReWrite who re s) :=
  .next (h.accessBy fun _ ht => ht.tapReWrite)

theorem Keeps.execTapImWrite {who im} (h : Keeps s0 s) : KeepsNext s0 (execTapImWrite who im s) :=
  .next (h.accessBy fun _ ht => ht.tapImWrite)

theorem Keeps.tapReRead {i} (h : Keeps s0 s) : Keeps s0 (tapReRead i s) :=
  h.update.answerRead

theorem Keeps.execTapReRead {who} (h : Keeps s0 s) : KeepsNext s0 (execTapReRead who s) :=
  .next (h.accessRead fun _ ht => ht.tapReRead)

theorem Keeps.probeTick {n k} (h : Keeps s0 s) : Keeps s0 (s.probeTick n k) :=
  h.foldl fun _ _ ht => ht.update

theorem Keeps.pushSamples {n k refs} (h : Keeps s0 s) : Keeps s0 (s.pushSamples n k refs) :=
  .ite h (h.foldl fun _ _ ht => ht.update)

theorem Keeps.tapUpdate {n pn l} (h : Keeps s0 s) : Keeps s0 (s.tapUpdate n pn l) :=
  h.foldl fun _ _ ht => ht.update.saturateN

theorem Keeps.isoGather {n k d l} (h : Keeps s0 s) : Keeps s0 (s.isoGather n k d l) :=
  .ite h (h.update.saturateN.foldl fun _ _ ht => ht.update.saturateN)

theorem Keeps.adapt {n k d refs} (h : Keeps s0 s) : Keeps s0 (s.adapt n k d refs) :=
  have ht := h.probeTick.pushSamples.refillStep.isoGather.saturateN
  (Keeps.ite ht.update.tapUpdate ht.update).update

theorem Keeps.mapParity {bad} (h : Keeps s0 s) : Keeps s0 (s.mapParity bad) :=
  .ite h.drive h

theorem Keeps.execSubbandAdapt {inst sb d refs mapBad} (h : Keeps s0 s) : KeepsNext s0 (execSubbandAdapt inst sb d refs mapBad s) :=
  .next (.ite h.adapt.mapParity h)

theorem Keeps.isoStore {n k r} (h : Keeps s0 s) : Keeps s0 (s.isoStore n k r) := by
  unfold State.isoStore
  dsimp only
  split
  · exact h
  · exact .ite h.update h

theorem Keeps.isoFinish {n} (h : Keeps s0 s) : Keeps s0 (s.isoFinish n) :=
  have ht := h.foldl fun _ _ ht => ht.isoStore
  have ht' := Keeps.ite ht ht.pulse
  .ite ht'.pulse ht'

theorem Keeps.execIsoWindowStart {inst} (h : Keeps s0 s) : KeepsNext s0 (execIsoWindowStart inst s) :=
  .next (.ite h.isoStart h)

theorem Keeps.execIsoPeriodExpired {inst} (h : Keeps s0 s) : KeepsNext s0 (execIsoPeriodExpired inst s) :=
  .next (.ite h.timerStart.isoRequest h)

theorem Keeps.setClamp {t st depth} (h : Keeps s0 s) : Keeps s0 (s.setClamp t st depth) :=
  h.fset.fset.update

theorem Keeps.clampTrigger {t} (h : Keeps s0 s) : Keeps s0 (s.clampTrigger t) :=
  h.fbump.setClamp

theorem Keeps.execClampHoldExpired {stream} (h : Keeps s0 s) : KeepsNext s0 (execClampHoldExpired stream s) :=
  .next (.ite h.advanceTo.setClamp h)

theorem Keeps.execClampReleaseDone {stream} (h : Keeps s0 s) : KeepsNext s0 (execClampReleaseDone stream s) :=
  .next (.ite h.advanceTo.setClamp h)

theorem Keeps.setSelftest {inst result code} (h : Keeps s0 s) : Keeps s0 (s.setSelftest inst result code) :=
  h.fset.fset

theorem Keeps.selftestStop {result code} (h : Keeps s0 s) : Keeps s0 (s.selftestStop result code) := by
  unfold State.selftestStop
  dsimp only
  split
  · exact h
  · exact .ite h.update.fset.fset.enterCan.timerStop.setSelftest h.update.fset.fset.enterCan.timerStop.setSelftest.linkFreeze

theorem Keeps.onsetClamp {t} (h : Keeps s0 s) : Keeps s0 (s.onsetClamp t) :=
  .foldl (by
       split
       · exact .ite h.fset.fset.pulse.clampTrigger.selftestStop h.fset.fset.pulse.clampTrigger
       · exact h.fset.fset.pulse.clampTrigger) fun _ _ ht => .ite ht.isoRequest ht

/-! The operations of Machine/Reg. -/

theorem Keeps.setCover {c e} (h : Keeps s0 s) : Keeps s0 (s.setCover c e) :=
  h.cset

theorem Keeps.setFoxRt {k r} (h : Keeps s0 s) : Keeps s0 (s.setFoxRt k r) :=
  h.update

/-! The operations of Machine/Ctx. -/

theorem Keeps.setCtxRt {c r} (h : Keeps s0 s) : Keeps s0 (s.setCtxRt c r) :=
  h.update

theorem Keeps.countRunning {old new} (h : Keeps s0 s) : Keeps s0 (s.countRunning old new) :=
  h.fset

theorem Keeps.setCtxState {c st} (h : Keeps s0 s) : Keeps s0 (s.setCtxState c st) :=
  have hs := h.cset.cbump.cset.countRunning
  .ite (have ht' := hs.csetI.setCtxRt; .ite ht'.csetI ht') <|
  .ite hs.cset.cset.setCtxRt hs

theorem Keeps.setMutes {c set} (h : Keeps s0 s) : Keeps s0 (s.setMutes c set) :=
  h.cset.cset

theorem Keeps.muteAdd {c cause} (h : Keeps s0 s) : Keeps s0 (s.muteAdd c cause) :=
  .ite (.ite h.setMutes.setCtxState h.setMutes) h

theorem Keeps.softStart {c} (h : Keeps s0 s) : Keeps s0 (s.softStart c) :=
  .ite h.setCtxRt h.setCtxRt.setCtxState

theorem Keeps.muteRemove {c cause} (h : Keeps s0 s) : Keeps s0 (s.muteRemove c cause) :=
  .ite (.ite h.setMutes.softStart h.setMutes) h

theorem Keeps.raiseMute {c cause} (h : Keeps s0 s) : Keeps s0 (s.raiseMute c cause) :=
  h.setCtxRt

theorem Keeps.clearMute {c cause} (h : Keeps s0 s) : Keeps s0 (s.clearMute c cause) :=
  h.setCtxRt

theorem Keeps.bindEntry {c tick e} (h : Keeps s0 s) : Keeps s0 (s.bindEntry c tick e) :=
  h.setCtxRt.tookFree

theorem Keeps.reserveSlot {c tick} (h : Keeps s0 s) : KeepsSome s0 (s.reserveSlot c tick) := by
  unfold State.reserveSlot
  dsimp only
  refine .ite .none ?_
  split
  · exact .none
  · exact .some h.fset.bindEntry

theorem Keeps.freeSlot {c} (h : Keeps s0 s) : Keeps s0 (s.freeSlot c) := by
  unfold State.freeSlot
  split
  · exact h
  · exact h.setCtxRt.fset

theorem Keeps.checkContext {c} (h : Keeps s0 s) : KeepsOk s0 (s.checkContext c) := by
  unfold State.checkContext
  dsimp only
  refine .ite .err ?_
  refine .ite .err ?_
  refine .ite .err ?_
  refine .ite .err ?_
  refine .ite .err ?_
  refine .ite (.ok h) ?_
  split
  · exact .err
  · next t heq =>
    exact .ok (h.reserveSlot _ heq)

theorem Keeps.deriveKi {c} (h : Keeps s0 s) : Keeps s0 (s.deriveKi c) :=
  h.cset.cset.cset.cset

theorem Keeps.deriveTrim {c} (h : Keeps s0 s) : Keeps s0 (s.deriveTrim c) :=
  h.cset.cset

theorem Keeps.deriveLoops {c} (h : Keeps s0 s) : Keeps s0 (s.deriveLoops c) :=
  h.deriveKi.deriveTrim

theorem Keeps.deriveStrips {c} (h : Keeps s0 s) : Keeps s0 (s.deriveStrips c) :=
  h.cset.cset

theorem Keeps.resetHolds {c} (h : Keeps s0 s) : Keeps s0 (s.resetHolds c) :=
  .ite h h.update

theorem Keeps.configStrips {c} (h : Keeps s0 s) : Keeps s0 (s.configStrips c) :=
  have ht := h.deriveStrips
  .ite ht.resetHolds ht

theorem Keeps.cmdResult {c r} (h : Keeps s0 s) : Keeps s0 (s.cmdResult c r) :=
  .ite h.cset.pulse h.cset

theorem Keeps.configured {c} (h : Keeps s0 s) : Keeps s0 (s.configured c) := by
  unfold State.configured
  exact (Keeps.ite h h.setCtxState).deriveLoops.configStrips.setCtxRt.cset.cset.cset.cset.cset.cset.cmdResult

theorem Keeps.started {c} (h : Keeps s0 s) : Keeps s0 (s.started c) :=
  have ht := h.setCover.setCtxRt
  .ite ht.cset.cset.softStart.cmdResult ht.cset.cset.setCtxState.setMutes.cmdResult

theorem Keeps.drain {c} (h : Keeps s0 s) : Keeps s0 (s.drain c) :=
  h.setCtxState.setCtxRt

theorem Keeps.released_ {c} (h : Keeps s0 s) : Keeps s0 (s.released_ c) := by
  unfold State.released_
  exact (h.freeSlot.setCtxState.foldl fun _ _ ht => ht.setCword).cmdResult

theorem Keeps.ctxCommand {c cmd} (h : Keeps s0 s) : Keeps s0 (s.ctxCommand c cmd) := by
  unfold State.ctxCommand
  dsimp only
  refine .ite ?_ ?_
  · refine .ite ?_ h.setCtxRt.cmdResult
    split
    · exact h.setCtxRt.cmdResult
    · next t heq => exact (h.setCtxRt.checkContext _ heq).configured
  · refine .ite ?_ ?_
    · refine .ite h.setCtxRt.cmdResult ?_
      refine .ite h.setCtxRt.cmdResult ?_
      split
      · exact h.setCtxRt.cmdResult
      · next t heq => exact (h.setCtxRt.checkContext _ heq).started
    · exact .ite (.ite h.setCtxRt.setCtxState.cmdResult h.setCtxRt.cmdResult) <|
        .ite (.ite h.setCtxRt.softStart.cmdResult (.ite h.setCtxRt.muteRemove.cmdResult h.setCtxRt.cmdResult)) <|
        .ite (.ite h.setCtxRt.muteAdd.cmdResult h.setCtxRt.cmdResult) <|
        .ite (.ite h.setCtxRt.drain.cmdResult h.setCtxRt.cmdResult) (.ite h.setCtxRt.released_ h.setCtxRt.cmdResult)

theorem Keeps.holdCmd {c cmd} (h : Keeps s0 s) : Keeps s0 (s.holdCmd c cmd) :=
  .ite h h.setCtxRt.cset

theorem Keeps.actIfHeld {c cmd} (h : Keeps s0 s) : Keeps s0 (s.actIfHeld c cmd) :=
  .ite h.ctxCommand h

theorem Keeps.execCtxConfigure {ctx} (h : Keeps s0 s) : KeepsNext s0 (execCtxConfigure ctx s) :=
  .next h.actIfHeld

theorem Keeps.execCtxStart {ctx} (h : Keeps s0 s) : KeepsNext s0 (execCtxStart ctx s) :=
  .next h.actIfHeld

theorem Keeps.execCtxHold {ctx} (h : Keeps s0 s) : KeepsNext s0 (execCtxHold ctx s) :=
  .next h.actIfHeld

theorem Keeps.execCtxResume {ctx} (h : Keeps s0 s) : KeepsNext s0 (execCtxResume ctx s) :=
  .next h.actIfHeld

theorem Keeps.execCtxMute {ctx} (h : Keeps s0 s) : KeepsNext s0 (execCtxMute ctx s) :=
  .next h.actIfHeld

theorem Keeps.execCtxStop {ctx} (h : Keeps s0 s) : KeepsNext s0 (execCtxStop ctx s) :=
  .next h.actIfHeld

theorem Keeps.execCtxRelease {ctx} (h : Keeps s0 s) : KeepsNext s0 (execCtxRelease ctx s) :=
  .next h.actIfHeld

/-! The operations of Machine/FhOut. -/

theorem Keeps.fhSend {d lane f bad tag} (h : Keeps s0 s) : Keeps s0 (s.fhSend d lane f bad tag) := by
  unfold State.fhSend
  dsimp only
  split
  · exact h
  · exact h.update

/-! The operations of Machine/Tmg. -/

theorem Keeps.setGroupRt {g r} (h : Keeps s0 s) : Keeps s0 (s.setGroupRt g r) :=
  h.update

theorem Keeps.showGroup {g} (h : Keeps s0 s) : Keeps s0 (s.showGroup g) :=
  have hs := h.fset.fset.fset.fset.fset.fsetI
  .ite hs.fsetB hs.fsetB.fset

theorem Keeps.setGroup {g st} (h : Keeps s0 s) : Keeps s0 (s.setGroup g st) :=
  (Keeps.ite h.fset (.ite h.fset.pulse (.ite h.fset.pulse (.ite h.fset.pulse.post h.fset)))).drive

theorem Keeps.takeSource {g sec} (h : Keeps s0 s) : Keeps s0 (s.takeSource g sec) :=
  have ht := h.setGroupRt.fset
  .ite ht ht.timerStop.pulse

theorem Keeps.notePri (h : Keeps s0 s) : Keeps s0 s.notePri :=
  h.foldl fun _ _ ht => .ite (.ite ht ht.timerStart) ht.timerStop

theorem Keeps.adoptSources {g} (h : Keeps s0 s) : Keeps s0 (s.adoptSources g) :=
  .ite h.setGroupRt h.setGroupRt.fset.timerStop.pulse

theorem Keeps.execTimingSourceLost {group} (h : Keeps s0 s) : KeepsNext s0 (execTimingSourceLost group s) :=
  .next <|
  .ite h <|
  have ht := Keeps.ite h.inputLost.takeSource h.inputLost
  (Keeps.ite ht.setGroup ht).notePri

theorem Keeps.execPriReturnTimer {group} (h : Keeps s0 s) : KeepsNext s0 (execPriReturnTimer group s) :=
  .next (.ite h.takeSource h)

theorem Keeps.shiftArmed {g delta} (h : Keeps s0 s) : Keeps s0 (s.shiftArmed g delta) :=
  .ite h (h.foldl fun _ _ ht => .ite ht.update ht)

theorem Keeps.groupOn {g} (h : Keeps s0 s) : Keeps s0 (s.groupOn g) :=
  h.setGroupRt.fset.fset.setGroup.setGroupRt.fset.showGroup.notePri

theorem Keeps.groupOff {g} (h : Keeps s0 s) : Keeps s0 (s.groupOff g) :=
  h.setGroupRt.setGroup.fset.timerStop.timerStop.timerStop.fset.inputValid.shiftArmed.showGroup

theorem Keeps.gcfgWrite {i v} (h : Keeps s0 s) : KeepsOk s0 (gcfgWrite i v s) := by
  unfold Machine.gcfgWrite
  dsimp only
  refine .ite .err ?_
  refine .ite .err ?_
  split
  · exact .err
  · next t heq =>
    exact .ok (.ite (h.mergeReg _ heq).groupOn (.ite (h.mergeReg _ heq).groupOff (h.mergeReg _ heq)))

theorem Keeps.execTgroupEnable {who} (h : Keeps s0 s) : KeepsNext s0 (execTgroupEnable who s) :=
  .next (h.access fun _ ht => ht.gcfgWrite)

theorem Keeps.execTgroupDisable {who} (h : Keeps s0 s) : KeepsNext s0 (execTgroupDisable who s) :=
  .next (h.access fun _ ht => ht.gcfgWrite)

theorem Keeps.setSeen {key o} (h : Keeps s0 s) : Keeps s0 (s.setSeen key o) :=
  h.update

theorem Keeps.yieldObs {key t index} (h : Keeps s0 s) : Keeps s0 (s.yieldObs key t index) :=
  h.setSeen

theorem Keeps.takeObs {g sec} (h : Keeps s0 s) : Keeps s0 (s.takeObs g sec) := by
  unfold State.takeObs
  dsimp only
  split
  · exact h.setSeen
  · exact h

theorem Keeps.placeStep {g o} (h : Keeps s0 s) : Keeps s0 (s.placeStep g o) :=
  h.setGroupRt.showGroup

theorem Keeps.decideStep {g o} (h : Keeps s0 s) : Keeps s0 (s.decideStep g o) :=
  .ite h.pulse.post.setGroupRt h.pulse.post.placeStep

theorem Keeps.rejectObs {g o} (h : Keeps s0 s) : Keeps s0 (s.rejectObs g o) :=
  have ht := h.setGroupRt.fbump.pulse
  .ite ht.decideStep ht

theorem Keeps.applyCorr {g} (h : Keeps s0 s) : Keeps s0 (s.applyCorr g) :=
  .ite h.showGroup h.setGroupRt.showGroup

theorem Keeps.acceptObs {g e} (h : Keeps s0 s) : Keeps s0 (s.acceptObs g e) :=
  (Keeps.ite h.setGroupRt h.setGroupRt.saturate).fbump.setGroup.timerStart.timerStart.applyCorr

theorem Keeps.observe {g o} (h : Keeps s0 s) : Keeps s0 (s.observe g o) :=
  .ite h.fsetI.rejectObs h.fsetI.acceptObs

theorem Keeps.execTimingObservation {group secondary t index} (h : Keeps s0 s) :
    KeepsNext s0 (execTimingObservation group secondary t index s) :=
  .next <|
  .ite h <|
  have hs := h.takeObs.adoptSources.notePri
  .ite hs.inputValid.observe hs.fsetI

theorem Keeps.execFlywheelTimeout {group} (h : Keeps s0 s) : KeepsNext s0 (execFlywheelTimeout group s) :=
  .next (.ite h.setGroup h)

theorem Keeps.execBoundaryCommit {group} (h : Keeps s0 s) : KeepsNext s0 (execBoundaryCommit group s) :=
  .next (.ite h h.advanceTo.fset)

theorem Keeps.clockBoundary {g} (h : Keeps s0 s) : Keeps s0 (s.clockBoundary g) := by
  unfold State.clockBoundary
  dsimp only
  split
  · exact
      have ht := Keeps.ite h.advanceTo.setGroupRt.setGroup.timerStart.timerStart h.advanceTo.setGroupRt
      ht.fset.fset.fset.shiftArmed.showGroup.placeStep
  · exact
      have ht := Keeps.ite h.advanceTo.setGroupRt.setGroup.timerStart.timerStart h.advanceTo.setGroupRt
      ht.fset.fset.fset.shiftArmed.showGroup

theorem Keeps.passBoundary {g} (h : Keeps s0 s) : Keeps s0 (s.passBoundary g) := by
  unfold State.passBoundary
  dsimp only
  refine .ite h.clockBoundary ?_
  split
  · exact h.advanceTo.fset.setGroupRt.showGroup.placeStep
  · exact h.advanceTo.fset.setGroupRt.showGroup

/-! The operations of Machine/Pkt. -/

theorem Keeps.setQueue {i l} (h : Keeps s0 s) : Keeps s0 (s.setQueue i l) :=
  h.update

theorem Keeps.setRunning {i p} (h : Keeps s0 s) : Keeps s0 (s.setRunning i p) :=
  h.update

theorem Keeps.poolMarks {i} (h : Keeps s0 s) : Keeps s0 (s.poolMarks i) :=
  h.highMark.lowMark

theorem Keeps.takeBuf {i} (h : Keeps s0 s) : Keeps s0 (s.takeBuf i) :=
  h.fset.fset.fset.fset.poolMarks

theorem Keeps.freeBuf {i} (h : Keeps s0 s) : Keeps s0 (s.freeBuf i) :=
  .ite h h.fset.fset.poolMarks

theorem Keeps.setAnWaiting {c l} (h : Keeps s0 s) : Keeps s0 (s.setAnWaiting c l) :=
  h.update

theorem Keeps.tagged {o} (h : Keeps s0 s) : KeepsFst s0 (s.tagged o) := by
  unfold State.tagged
  refine .ite (.mk h) ?_
  split
  · exact .mk h
  · exact .mk h.tookFree.tookFree

theorem Keeps.emitBytes {o b} (h : Keeps s0 s) : Keeps s0 (s.emitBytes o b) :=
  h.update

theorem Keeps.emit {o} (h : Keeps s0 s) : Keeps s0 (s.emit o) :=
  have ht := h.tagged.fst.emitBytes
  .ite ht.fhSend ht

theorem Keeps.setAnSlot {c slot b} (h : Keeps s0 s) : Keeps s0 (s.setAnSlot c slot b) :=
  h.update

theorem Keeps.toRing {o} (h : Keeps s0 s) : Keeps s0 (s.toRing o) :=
  h.tagged.fst.emitBytes.setAnSlot.fset.raiseMsix

theorem Keeps.freeOf {o} (h : Keeps s0 s) : Keeps s0 (s.freeOf o) :=
  .ite h.freeBuf h

theorem Keeps.sendOut {o} (h : Keeps s0 s) : Keeps s0 (s.sendOut o) :=
  .ite h.emit.freeOf (.ite h.toRing.freeOf h.setAnWaiting)

theorem Keeps.flushRing {c n} (h : Keeps s0 s) : Keeps s0 (s.flushRing c n) := by
  induction n generalizing s with
  | zero => exact h
  | succ n ih =>
    unfold State.flushRing
    split
    · exact h
    · exact .ite (ih h.setAnWaiting.toRing.freeOf) h

theorem Keeps.setReplay {k r} (h : Keeps s0 s) : Keeps s0 (s.setReplay k r) :=
  h.update

theorem Keeps.keepAnswer {k o} (h : Keeps s0 s) : Keeps s0 (s.keepAnswer k o) :=
  .ite h.setReplay h

theorem Keeps.countAnswer {v} (h : Keeps s0 s) : Keeps s0 (s.countAnswer v) := by
  unfold State.countAnswer
  split
  · exact h
  · exact h.fbump.pulse
  · exact h.fbump.pulse

theorem Keeps.answerPkt {p v detail retry payload buf} (h : Keeps s0 s) : Keeps s0 (s.answerPkt p v detail retry payload buf) :=
  (Keeps.ite h.countAnswer h.countAnswer.keepAnswer).sendOut

theorem Keeps.finish {q v detail retry payload} (h : Keeps s0 s) : Keeps s0 (s.finish q v detail retry payload) := by
  unfold State.finish
  split
  · exact h
  · exact h.setRunning.answerPkt

theorem Keeps.served {q} (h : Keeps s0 s) : Keeps s0 (s.served q) :=
  h.finish

theorem Keeps.refused {q r detail} (h : Keeps s0 s) : Keeps s0 (s.refused q r detail) :=
  h.finish

theorem Keeps.begun {q} (h : Keeps s0 s) : Keeps s0 (s.begun q) := by
  unfold State.begun
  split
  · exact h
  · exact h.setRunning

theorem Keeps.goAnswered (h : Keeps s0 s) : Keeps s0 s.goAnswered :=
  h.foldl fun _ _ ht => by split; exacts [ht, .ite ht.served ht]

theorem Keeps.goEnds (h : Keeps s0 s) : Keeps s0 s.goEnds :=
  .ite h h.goAnswered

theorem Keeps.commitAnswered {ident reason} (h : Keeps s0 s) : Keeps s0 (s.commitAnswered ident reason) :=
  h.foldl fun _ _ ht => by split; exacts [ht, .ite (.ite ht.served ht.refused) ht]

/-! The operations of Machine/Cen. -/

theorem Keeps.setWindow {hd w} (h : Keeps s0 s) : Keeps s0 (s.setWindow hd w) :=
  h.update

theorem Keeps.keepGridWord {c old} (h : Keeps s0 s) : Keeps s0 (s.keepGridWord c old) :=
  h.setCtxRt

theorem Keeps.ctxWordEffects {c w old v} (h : Keeps s0 s) : Keeps s0 (s.ctxWordEffects c w old v) :=
  .ite (Keeps.ite h.setCtxRt h).holdCmd <|
  .ite h.setCtxRt <|
  .ite h.setCtxRt <|
  .ite (have hs := Keeps.ite h.setCtxRt h; .ite hs.setCtxRt hs) <|
  .ite h.deriveKi <|
  .ite h.deriveTrim <|
  .ite
    (have hs := Keeps.ite h.resetHolds h; .ite hs hs.keepGridWord)
    h

theorem Keeps.ctxWordApply {c w v} (h : Keeps s0 s) : Keeps s0 (s.ctxWordApply c w v) :=
  have hs := (Keeps.ite h.freeSlot h).setCword.ctxWordEffects
  .ite hs hs.cmdResult

theorem Keeps.windowApply {hd i} (h : Keeps s0 s) : Keeps s0 (s.windowApply hd i) :=
  have ht := Keeps.ite h (h.foldl fun _ _ ht => ht.ctxWordApply)
  .ite ht.setWindow.commitAnswered ht.setWindow

theorem Keeps.applyDirect {c} (h : Keeps s0 s) : Keeps s0 (s.applyDirect c) :=
  h.setCtxRt.foldl fun _ _ ht => ht.ctxWordApply

theorem Keeps.applyCommits {c} (h : Keeps s0 s) : Keeps s0 (s.applyCommits c) :=
  h.applyDirect.foldl fun _ _ ht => .ite ht.windowApply ht

theorem Keeps.calStep {c} (h : Keeps s0 s) : Keeps s0 (s.calStep c) :=
  .ite
    (have hs := h.setCtxRt.csetI.csetI.csetI; .ite hs.pulse hs)
    h

theorem Keeps.updatePermit {c} (h : Keeps s0 s) : Keeps s0 (s.updatePermit c) := by
  unfold State.updatePermit
  dsimp only
  split
  · exact h.csetI
  · split
    · exact h.csetI.csetI.csetI.cset
    · exact h.csetI.csetI.csetI.cset.cset.cset

theorem Keeps.updateReg {c} (h : Keeps s0 s) : Keeps s0 (s.updateReg c) := by
  unfold State.updateReg
  dsimp only
  split
  · exact h.csetI.csetI
  · exact h.csetI.csetI

theorem Keeps.updateNoise {c} (h : Keeps s0 s) : Keeps s0 (s.updateNoise c) :=
  .ite h.csetI.csetI h.csetI.csetI.setCtxRt

theorem Keeps.showNoise {p} (h : Keeps s0 s) : Keeps s0 (s.showNoise p) := by
  unfold State.showNoise
  dsimp only
  refine .ite h ?_
  split
  · exact h.fsetI.fsetI
  · exact h.fsetI.fsetI

theorem Keeps.setSupplyRt {port r} (h : Keeps s0 s) : Keeps s0 (s.setSupplyRt port r) :=
  h.update

theorem Keeps.supplyLoss (h : Keeps s0 s) : Keeps s0 s.supplyLoss :=
  h.cond

theorem Keeps.publishSupply {port corr} (h : Keeps s0 s) : Keeps s0 (s.publishSupply port corr) :=
  .ite h.fset.fset.pulse h.setSupplyRt.fsetI.supplyLoss

theorem Keeps.execSupplyCorrTimeout {port} (h : Keeps s0 s) : KeepsNext s0 (execSupplyCorrTimeout port s) :=
  .next (.ite h.advanceTo.setSupplyRt.fsetI.fset.fset.supplyLoss h)

theorem Keeps.supplyStep {c} (h : Keeps s0 s) : Keeps s0 (s.supplyStep c) :=
  .ite h.csetI.csetI h

theorem Keeps.measure {c inp outp} (h : Keeps s0 s) : Keeps s0 (s.measure c inp outp) := by
  unfold State.measure
  dsimp only
  refine .ite h.csetI.csetI.setCtxRt ?_
  split
  · exact h.csetI.csetI.csetI.tookFree.setCtxRt
  · exact .ite h.csetI.csetI.csetI.setCtxRt h.csetI.csetI.setCtxRt

theorem Keeps.integrate {c p win clamp fresh} (h : Keeps s0 s) : Keeps s0 (s.integrate c p win clamp fresh) :=
  .ite h (.ite h.setCtxRt.csetI (.ite h.setCtxRt.csetI h))

theorem Keeps.stageRestart {c} (h : Keeps s0 s) : Keeps s0 (s.stageRestart c) :=
  h.setCtxRt

theorem Keeps.output {c p win} (h : Keeps s0 s) : Keeps s0 (s.output c p win) :=
  h.csetI.csetI.csetI.csetI.csetI.csetI.cset.csetI.setCtxRt

theorem Keeps.followingError {c kind} (h : Keeps s0 s) : Keeps s0 (s.followingError c kind) :=
  h.raiseMute.pulse.fset.fset.fbump.drive.post

theorem Keeps.setFeTimer {c n} (h : Keeps s0 s) : Keeps s0 (s.setFeTimer c n) :=
  h.setCtxRt.cset

theorem Keeps.supervise {c p win clamp fresh prev before} (h : Keeps s0 s) : Keeps s0 (s.supervise c p win clamp fresh prev before) :=
  .ite h.setFeTimer <|
  .ite h <|
  have ht := h.csetI.csetI.setFeTimer
  .ite ht.cset.cset.followingError ht.cset.cset

theorem Keeps.driveFollowing (h : Keeps s0 s) : Keeps s0 s.driveFollowing :=
  .ite h.drive h

theorem Keeps.feAckStep {c} (h : Keeps s0 s) : Keeps s0 (s.feAckStep c) :=
  .ite h (.ite h.setCtxRt.setCtxRt.setFeTimer.cset.cset.muteRemove.driveFollowing h.setCtxRt.cmdResult)

theorem Keeps.execFeAck {ctx} (h : Keeps s0 s) : KeepsNext s0 (execFeAck ctx s) :=
  .next h.feAckStep

theorem Keeps.muteLift {c cause} (h : Keeps s0 s) : Keeps s0 (s.muteLift c cause) :=
  .ite (.ite h.setMutes.setCtxState.setCtxRt h.setMutes) h

theorem Keeps.muteStep {c} (h : Keeps s0 s) : Keeps s0 (s.muteStep c) :=
  ((h.setCtxRt.foldl fun _ _ ht => .ite ht.muteAdd ht).foldl fun _ _ ht => .ite ht.muteLift ht).driveFollowing

theorem Keeps.softStep {c} (h : Keeps s0 s) : Keeps s0 (s.softStep c) :=
  .ite h (.ite h.setCtxRt.setCtxRt h.setCtxRt)

theorem Keeps.commandStep {c} (h : Keeps s0 s) : Keeps s0 (s.commandStep c) :=
  have hs := Keeps.ite h.softStep.drain h.softStep.setCtxRt
  have hs' := Keeps.ite hs hs.ctxCommand
  .ite hs'.setCtxRt.softStart hs'.setCtxRt

theorem Keeps.drainStep {c} (h : Keeps s0 s) : Keeps s0 (s.drainStep c) :=
  .ite h.setCtxState.setCtxRt.pulse h

theorem Keeps.loopStep {c i o prev before} (h : Keeps s0 s) : Keeps s0 (s.loopStep c i o prev before) :=
  have ht := Keeps.ite h.saturateN.pulse h.saturateN
  (Keeps.ite ht ht.setCtxState).setCtxRt.integrate.output.update.supervise

theorem Keeps.inputStep {c inp outp} (h : Keeps s0 s) : Keeps s0 (s.inputStep c inp outp) :=
  h.supplyStep.measure.updatePermit.csetI.updateReg.updateNoise.showNoise.cond

theorem Keeps.isoPress {c} (h : Keeps s0 s) : Keeps s0 (s.isoPress c) :=
  .ite (h.foldl fun _ _ ht => .ite ht.isoStart ht) h

/-! The operations of Machine/Ggr. -/

theorem Keeps.setPathGrid {p r} (h : Keeps s0 s) : Keeps s0 (s.setPathGrid p r) :=
  h.update

theorem Keeps.refreshLag {p offset} (h : Keeps s0 s) : Keeps s0 (s.refreshLag p offset) :=
  h.setPathGrid.fsetI

theorem Keeps.setRow {p r row d} (h : Keeps s0 s) : Keeps s0 (s.setRow p r row d) :=
  h.update

theorem Keeps.rowsArmed {p rows} (h : Keeps s0 s) : Keeps s0 (s.rowsArmed p rows) :=
  h.update.setPathGrid

theorem Keeps.rearmGrid {p} (h : Keeps s0 s) : Keeps s0 (s.rearmGrid p) :=
  h.update.setPathGrid.rowsArmed

theorem Keeps.denyBoost {p row} (h : Keeps s0 s) : Keeps s0 (s.denyBoost p row) :=
  h.setPathGrid.foldl fun _ _ ht => .ite ht.cbump.pulse ht

theorem Keeps.execGridRowFreeze {path row} (h : Keeps s0 s) : KeepsNext s0 (execGridRowFreeze path row s) :=
  .next (.ite h.advanceTo.setRow h)

theorem Keeps.readRow {p r row d} (h : Keeps s0 s) : Keeps s0 (s.readRow p r row d) :=
  have ht := h.advanceTo.setPathGrid.fset
  have ht' := Keeps.ite ht.denyBoost.pulse ht.denyBoost
  (Keeps.ite ht' ht'.drive).setRow.rowsArmed

theorem Keeps.execGridRowRead {path row} (h : Keeps s0 s) : KeepsNext s0 (execGridRowRead path row s) :=
  .next (.ite h.readRow h)

theorem Keeps.execGridEccError {path row word double} (h : Keeps s0 s) : KeepsNext s0 (execGridEccError path row word double s) :=
  .next (.ite h (.ite h.setRow.fbump.pulse.drive h.fbump.pulse))

theorem Keeps.setGridQueue {w l} (h : Keeps s0 s) : Keeps s0 (s.setGridQueue w l) :=
  h.update.fset.highMark

theorem Keeps.pushGrid {w d} (h : Keeps s0 s) : Keeps s0 (s.pushGrid w d) :=
  h.setGridQueue

theorem Keeps.feedListener (h : Keeps s0 s) : Keeps s0 s.feedListener :=
  .ite h h.update.setGridQueue

theorem Keeps.setGridSum {k g} (h : Keeps s0 s) : Keeps s0 (s.setGridSum k g) :=
  h.update

theorem Keeps.sumRow {d st r retry n} (h : Keeps s0 s) : Keeps s0 (s.sumRow d st r retry n) := by
  unfold State.sumRow
  split
  · exact h
  · exact h.setGridSum

theorem Keeps.gridEnd {k} (h : Keeps s0 s) : Keeps s0 (s.gridEnd k) :=
  .ite h.setGridSum.finish h.setGridSum.fset.fset.fset.fset.fset

theorem Keeps.descEnded {d} (h : Keeps s0 s) : Keeps s0 (s.descEnded d) := by
  unfold State.descEnded
  dsimp only
  split
  · exact h
  · exact .ite h.setGridSum.gridEnd h.setGridSum

theorem Keeps.popGrid {w d} (h : Keeps s0 s) : Keeps s0 (s.popGrid w d) :=
  have ht := h.setGridQueue
  (Keeps.ite ht.feedListener ht).descEnded

theorem Keeps.rowRejected {w d} (h : Keeps s0 s) : Keeps s0 (s.rowRejected w d) := by
  unfold State.rowRejected
  dsimp only
  split
  · exact h.fbump.pulse.cbump
  · exact h.fbump.pulse

theorem Keeps.applyRow {w d r} (h : Keeps s0 s) : Keeps s0 (s.applyRow w d r) :=
  .ite h.setRow.pulse h.setRow

theorem Keeps.portRow {w d} (h : Keeps s0 s) : Keeps s0 (s.portRow w d) :=
  have ht := Keeps.ite h.applyRow h
  have ht' := Keeps.ite ht.pulse ht
  have ht'' := Keeps.ite ht'.rowRejected ht'
  .ite ht''.sumRow.popGrid ht''.sumRow.setGridQueue

theorem Keeps.execGridRowApply {writer} (h : Keeps s0 s) : KeepsNext s0 (execGridRowApply writer s) :=
  .next (by split; exacts [h, .ite (by split; exacts [h.sumRow.popGrid, h.portRow]) h.portRow])

theorem Keeps.wr2Write {i v} (h : Keeps s0 s) : KeepsOk s0 (wr2Write i v s) := by
  unfold Machine.wr2Write
  dsimp only
  refine .ite .err ?_
  split
  · exact .err
  · next t heq =>
    exact .ok (h.mergeReg _ heq).fset.setGridSum.pushGrid

theorem Keeps.execGgrWrQueue {who rows} (h : Keeps s0 s) : KeepsNext s0 (execGgrWrQueue who rows s) :=
  .next (h.access fun _ ht => ht.wr2Write)

theorem Keeps.setHold {p k v} (h : Keeps s0 s) : Keeps s0 (s.setHold p k v) :=
  h.setPathGrid

theorem Keeps.closeStrips {p r code run} (h : Keeps s0 s) : Keeps s0 (s.closeStrips p r code run) :=
  .ite h.fbump.pulse h.pushGrid

theorem Keeps.countHeld {l} (h : Keeps s0 s) : Keeps s0 (s.countHeld l) :=
  h.saturateN

theorem Keeps.noiseGate {p r l} (h : Keeps s0 s) : Keeps s0 (s.noiseGate p r l) :=
  .ite h ((h.countHeld.foldl fun _ _ ht => ht.setHold).foldl fun _ _ ht => ht.closeStrips)

theorem Keeps.noiseRow {c r l} (h : Keeps s0 s) : Keeps s0 (s.noiseRow c r l) := by
  unfold State.noiseRow
  dsimp only
  split
  · exact h
  · exact h.setCtxRt

theorem Keeps.execSymbolRowEnd {path row strips} (h : Keeps s0 s) : KeepsNext s0 (execSymbolRowEnd path row strips s) :=
  .next (.ite h (h.noiseGate.foldl fun _ _ ht => ht.noiseRow))

/-! The operations of Machine/Fel. -/

theorem Keeps.safePins {n} (h : Keeps s0 s) : Keeps s0 (s.safePins n) :=
  h.setPins

theorem Keeps.askPins {n trx pa} (h : Keeps s0 s) : Keeps s0 (s.askPins n trx pa) :=
  .ite h.setPins h.setPins.trxEdge

theorem Keeps.noteSimplex {n} (h : Keeps s0 s) : Keeps s0 (s.noteSimplex n) :=
  .ite h h.setFelPort.pulse

theorem Keeps.fddPins {n} (h : Keeps s0 s) : Keeps s0 (s.fddPins n) :=
  .ite h h.noteSimplex.askPins

theorem Keeps.driveMm {n} (h : Keeps s0 s) : Keeps s0 (s.driveMm n) :=
  h.drive

theorem Keeps.setMm {n st cap} (h : Keeps s0 s) : Keeps s0 (s.setMm n st cap) :=
  have ht := h.fset.fsetI.setFelPort
  have ht' := Keeps.ite (.ite ht ht.timerStart) ht.timerStop
  have ht'' := Keeps.ite ht'.timerStart ht'.timerStop
  have ht''' := Keeps.ite ht'' (.ite ht''.pulse (.ite ht''.pulse (.ite ht''.pulse.timerStart (.ite ht''.pulse ht''))))
  .ite
    (have ht'''' := ht'''.driveMm.setPins; .ite ht''''.trxEdge ht'''')
    ht'''.driveMm

theorem Keeps.unprove {n} (h : Keeps s0 s) : Keeps s0 (s.unprove n) :=
  .ite h h.setMm

theorem Keeps.matchReading {n fwd ref} (h : Keeps s0 s) : Keeps s0 (s.matchReading n fwd ref) :=
  .ite h.setFelPort <|
  .ite h.setFelPort.setMm <|
  .ite h.setFelPort.setMm (.ite h.setFelPort.setMm (.ite h.setFelPort.setMm (.ite h.setFelPort.setMm h.setFelPort)))

theorem Keeps.reradiate {n} (h : Keeps s0 s) : Keeps s0 (s.reradiate n) :=
  .ite h.setFelPort h.setFelPort.advanceTo.fddPins

theorem Keeps.execMismatchHoldExpired {port} (h : Keeps s0 s) : KeepsNext s0 (execMismatchHoldExpired port s) :=
  .next (.ite (.ite h.fbump.unprove.reradiate h.setMm) h)

theorem Keeps.execMismatchGoodTimer {port} (h : Keeps s0 s) : KeepsNext s0 (execMismatchGoodTimer port s) :=
  .next (.ite h.fset.timerStop h)

theorem Keeps.feClear {n} (h : Keeps s0 s) : Keeps s0 (s.feClear n) :=
  .ite h.fset.setMm.reradiate h

theorem Keeps.markRecal {n} (h : Keeps s0 s) : Keeps s0 (s.markRecal n) :=
  h.foldl fun _ _ ht => .ite ht.setCtxRt ht

theorem Keeps.recalSince {s1} (h1 : Keeps s0 s) : Keeps s0 (s.recalSince s1) :=
  h1.foldl fun _ _ ht => .ite ht ht.markRecal

theorem Keeps.refreshGains {n} (h : Keeps s0 s) : Keeps s0 (s.refreshGains n) :=
  .ite h.fsetI.fsetI h.fsetI.fsetI.markRecal

theorem Keeps.felPlain {n q} (h : Keeps s0 s) : Keeps s0 (s.felPlain n q) :=
  h.setFelPort

theorem Keeps.sendLo {n} (h : Keeps s0 s) : Keeps s0 (s.sendLo n) :=
  h.felPlain.felPlain.setFelPort

theorem Keeps.startCal {n k} (h : Keeps s0 s) : Keeps s0 (s.startCal n k) :=
  h.setFelPort.fset

theorem Keeps.commandChain {n goal} (h : Keeps s0 s) : Keeps s0 (s.commandChain n goal) :=
  have ht := h.setFelPort.fset
  have ht' := Keeps.ite ht.safePins ht
  .ite ht'.sendLo ht'

theorem Keeps.driveChain {n} (h : Keeps s0 s) : Keeps s0 (s.driveChain n) := by
  unfold State.driveChain
  dsimp only
  refine .ite h ?_
  split
  · exact .ite h h.commandChain
  · split
    · exact .ite h.setFelPort.startCal h
    · exact h

theorem Keeps.abortCal {n} (h : Keeps s0 s) : Keeps s0 (s.abortCal n) :=
  .ite h.setFelPort.fset.fset.pulse h

theorem Keeps.abandon {n} (h : Keeps s0 s) : Keeps s0 (s.abandon n) :=
  h.setFelPort.fset

theorem Keeps.arrive {n goal} (h : Keeps s0 s) : Keeps s0 (s.arrive n goal) :=
  have ht := h.fset.fset.setFelPort
  have ht' := Keeps.ite ht.unprove ht
  have ht'' := Keeps.ite ht'.pulse ht'
  (Keeps.ite ht''.drive ht'').fddPins.driveChain

theorem Keeps.chainFail {n} (h : Keeps s0 s) : Keeps s0 (s.chainFail n) :=
  h.abandon.pulse.setFelPort.commandChain

theorem Keeps.execChainStateReached {port} (h : Keeps s0 s) : KeepsNext s0 (execChainStateReached port s) :=
  .next (by dsimp only; split; exacts [h, .ite h (.ite h.advanceTo.startCal h.advanceTo.arrive)])

theorem Keeps.calEnd {n k pass rxc} (h : Keeps s0 s) : Keeps s0 (s.calEnd n k pass rxc) :=
  have ht := h.setFelPort.fset.fset
  .ite (.ite (.ite ht.pulse.arrive ht.pulse.driveChain) ht.pulse.abandon.fset.pulse.setFelPort) <|
  .ite ht.pulse.setFelPort.fset.refreshGains.driveChain ht.pulse.driveChain

theorem Keeps.execCalibrationDone {port pass rxc} (h : Keeps s0 s) : KeepsNext s0 (execCalibrationDone port pass rxc s) :=
  .next (by split; exacts [h, h.advanceTo.calEnd])

theorem Keeps.setTarget {n target} (h : Keeps s0 s) : Keeps s0 (s.setTarget n target) :=
  have ht := Keeps.ite
    (by dsimp only; split; exacts [.ite h.fset.setFelPort.abortCal.abandon h.fset.setFelPort.abortCal, h.fset.setFelPort.abortCal])
    h.fset.setFelPort
  ht.driveChain

theorem Keeps.requestCal {n k} (h : Keeps s0 s) : Keeps s0 (s.requestCal n k) :=
  h.setFelPort.driveChain

theorem Keeps.chainWrite {i v} (h : Keeps s0 s) : KeepsOk s0 (chainWrite i v s) :=
  .ite .err <|
  have ht := Keeps.ite h.fset.fsetB.setTarget h.fset.fsetB
  have ht' := Keeps.ite ht.requestCal ht
  have ht'' := Keeps.ite ht'.requestCal ht'
  .ok (.ite ht''.feClear ht'')

theorem Keeps.chainAccess {i hi lo v} (h : Keeps s0 s) : Keeps s0 (s.chainAccess i hi lo v) :=
  h.access fun _ ht => ht.chainWrite

theorem Keeps.execChainTargetWrite {who target} (h : Keeps s0 s) : KeepsNext s0 (execChainTargetWrite who target s) :=
  .next h.chainAccess

theorem Keeps.execCalReqRxiq {who} (h : Keeps s0 s) : KeepsNext s0 (execCalReqRxiq who s) :=
  .next h.chainAccess

theorem Keeps.execCalReqRxgain {who} (h : Keeps s0 s) : KeepsNext s0 (execCalReqRxgain who s) :=
  .next h.chainAccess

theorem Keeps.execFeClear {who} (h : Keeps s0 s) : KeepsNext s0 (execFeClear who s) :=
  .next h.chainAccess

theorem Keeps.loWrite {i v} (h : Keeps s0 s) : KeepsOk s0 (loWrite i v s) :=
  .ite .err (.ite .err (.ite .err (.ite .err (.ite (.ok (.ite h.fset.sendLo.requestCal h.fset.sendLo.startCal)) (.ok h.fset.setFelPort)))))

theorem Keeps.execLoWrite {who khz} (h : Keeps s0 s) : KeepsNext s0 (execLoWrite who khz s) :=
  .next (h.access fun _ ht => ht.loWrite)

theorem Keeps.holdPort {n} (h : Keeps s0 s) : Keeps s0 (s.holdPort n) :=
  .driveChain (by split; exacts [.ite h.safePins.abortCal.abandon h.safePins.abortCal, h.safePins.abortCal])

theorem Keeps.foxHoldPort {n} (h : Keeps s0 s) : Keeps s0 (s.foxHoldPort n) :=
  h.fset.holdPort

theorem Keeps.foxReleasePort {n} (h : Keeps s0 s) : Keeps s0 (s.foxReleasePort n) :=
  h.fset.driveChain

theorem Keeps.felLinkDown {n} (h : Keeps s0 s) : Keeps s0 (s.felLinkDown n) :=
  h.fset.pulse.inputLost.drive.abortCal.abandon.setFelPort.safePins.unprove.timerStop

theorem Keeps.felLinkUp {n state} (h : Keeps s0 s) : Keeps s0 (s.felLinkUp n state) :=
  h.fset.pulse.inputValid.drive.fset.setFelPort.timerStart.fddPins

theorem Keeps.execFelLinkTimeout {port} (h : Keeps s0 s) : KeepsNext s0 (execFelLinkTimeout port s) :=
  .next (.ite h.felLinkDown h)

theorem Keeps.moveAgain {n c} (h : Keeps s0 s) : Keeps s0 (s.moveAgain n c) :=
  have ht := h.setFelPort.fset.fset.fset
  .ite ht.safePins ht

theorem Keeps.execChainTransitionTimeout {port} (h : Keeps s0 s) : KeepsNext s0 (execChainTransitionTimeout port s) :=
  .next (by dsimp only; split; exacts [h, .ite h.advanceTo.felLinkDown (.ite h.advanceTo.chainFail h.advanceTo.moveAgain)])

theorem Keeps.execFelFrameSlot {port} (h : Keeps s0 s) : KeepsNext s0 (execFelFrameSlot port s) :=
  .next (.ite h h.advanceTo.setFelPort)

theorem Keeps.trackTx {n fwd} (h : Keeps s0 s) : Keeps s0 (s.trackTx n fwd) := by
  unfold State.trackTx
  dsimp only
  split
  · exact h
  · exact .ite h.setFelPort.refreshGains h

theorem Keeps.setWheelPort {n r} (h : Keeps s0 s) : Keeps s0 (s.setWheelPort n r) :=
  h.update

theorem Keeps.felTimed_queued {n q t} (h : Keeps s0 s) (ht : s.felTimed n q = .queued t) : Keeps s0 t := by
  unfold State.felTimed at ht
  split at ht
  · cases ht
  · split at ht
    · cases ht
    · cases ht
      exact h.setFelPort

theorem Keeps.felTimed_late {n q t} (h : Keeps s0 s) (ht : s.felTimed n q = .late t) : Keeps s0 t := by
  unfold State.felTimed at ht
  split at ht
  · cases ht
    exact h.pulse
  · split at ht <;> cases ht

theorem Keeps.sendTuner {n code} (h : Keeps s0 s) : KeepsFst s0 (s.sendTuner n code) := by
  unfold State.sendTuner
  dsimp only
  split
  · split
    · next t heq => exact .mk (h.felTimed_queued heq).fset.setFelPort
    · next t heq => exact .mk (h.felTimed_late heq)
    · exact .mk h
  · exact .ite (.mk h.felPlain.fset) (.mk h)

theorem Keeps.noteRl {n rl} (h : Keeps s0 s) : Keeps s0 (s.noteRl n rl) :=
  .ite h h.setFelPort

theorem Keeps.judgeTuner {n} (h : Keeps s0 s) : Keeps s0 (s.judgeTuner n) := by
  unfold State.judgeTuner
  dsimp only
  split
  · exact .ite h.setFelPort.pulse (.ite h.sendTuner.fst.setFelPort h.sendTuner.fst)
  · exact h

theorem Keeps.detectorPair {n fwd ref} (h : Keeps s0 s) : Keeps s0 (s.detectorPair n fwd ref) :=
  .ite h <|
  .ite h.pulse <|
  .ite h <|
  have ht := h.fsetI.fsetI.setFelPort.inputValid
  have ht' := Keeps.ite ht.trackTx ht
  have ht'' := Keeps.ite ht'.noteRl ht'
  have ht''' := Keeps.ite ht''.matchReading ht''
  .ite ht'''.judgeTuner ht'''

theorem Keeps.detectorReading {n fwd ref} (h : Keeps s0 s) : Keeps s0 (s.detectorReading n fwd ref) :=
  h.detectorPair.setFelPort

theorem Keeps.drainReading {n mv} (h : Keeps s0 s) : Keeps s0 (s.drainReading n mv) :=
  .ite h.pulse h.fset.fsetI.publishSupply

theorem Keeps.modTemp {n t64} (h : Keeps s0 s) : Keeps s0 (s.modTemp n t64) :=
  .ite h.pulse h.fsetI.timerStart.inputValid.setFelPort.refreshGains

theorem Keeps.classRead {n data} (h : Keeps s0 s) : Keeps s0 (s.classRead n data) :=
  (Keeps.ite h.setFelPort.pulse h.setFelPort).driveChain

theorem Keeps.felResult {n use data} (h : Keeps s0 s) : Keeps s0 (s.felResult n use data) := by
  unfold State.felResult
  refine .ite h.classRead ?_
  refine .ite h.setFelPort ?_
  refine .ite ?_ ?_
  · split
    · exact h.setFelPort.detectorReading
    · exact h
  · exact .ite h.drainReading (.ite h.modTemp h)

theorem Keeps.frameFailed {n q ack} (h : Keeps s0 s) : Keeps s0 (s.frameFailed n q ack) :=
  have ht := h.setFelPort.fbump
  .ite ht.felLinkDown ht

theorem Keeps.validResponse {n state ready flags} (h : Keeps s0 s) : Keeps s0 (s.validResponse n state ready flags) :=
  have ht := h.setFelPort.timerStart
  .ite ht.felLinkUp ht

theorem Keeps.badResponse {n f ack} (h : Keeps s0 s) : Keeps s0 (s.badResponse n f ack) :=
  .ite h.setFelPort.setFelPort h.setFelPort.frameFailed

theorem Keeps.execFelFrameResponse {port crcOk ack seq data ready state flags} (h : Keeps s0 s) :
    KeepsNext s0 (execFelFrameResponse port crcOk ack seq data ready state flags s) := by
  refine .next ?_
  dsimp only
  split
  · exact h
  · exact
      have hv := h.setFelPort.validResponse
      have ht := Keeps.ite h.setFelPort.pulse.badResponse (.ite h.setFelPort.badResponse (.ite hv.setFelPort.felResult hv.frameFailed))
      .ite ht.driveChain ht

theorem Keeps.execAutopoll {port temp} (h : Keeps s0 s) : KeepsNext s0 (execAutopoll port temp s) :=
  .next (.ite h.setFelPort h)

theorem Keeps.execDetectorTimeout {port} (h : Keeps s0 s) : KeepsNext s0 (execDetectorTimeout port s) :=
  .next (.ite h.advanceTo.setFelPort.inputLost.unprove h)

theorem Keeps.execModuleTempTimeout {port} (h : Keeps s0 s) : KeepsNext s0 (execModuleTempTimeout port s) :=
  .next (.ite h.timerStop.inputLost h)

theorem Keeps.execTunerStepTimer {port} (h : Keeps s0 s) : KeepsNext s0 (execTunerStepTimer port s) :=
  .next (.ite (by dsimp only; split; exacts [.ite h.timerStart.sendTuner.fst.setFelPort h.timerStart.sendTuner.fst, h.timerStart]) h)

theorem Keeps.tunerWrite {i v} (h : Keeps s0 s) : KeepsOk s0 (tunerWrite i v s) :=
  .ite .err (.ite .err (.ite .err (.ok h.fset.setFelPort.fset.felPlain)))

theorem Keeps.execTunerCodeWrite {who code} (h : Keeps s0 s) : KeepsNext s0 (execTunerCodeWrite who code s) :=
  .next (h.access fun _ ht => ht.tunerWrite)

theorem Keeps.descStage {i v} (h : Keeps s0 s) : KeepsOk s0 (descStage i v s) :=
  .ite .err (.ok h.update)

theorem Keeps.factoryGains {n} (h : Keeps s0 s) : Keeps s0 (s.factoryGains n) :=
  h.setFelPort

theorem Keeps.descCommit {i v} (h : Keeps s0 s) : KeepsOk s0 (descCommit i v s) :=
  .ite .err <|
  .ite (.ok h) <|
  .ite .err <|
  have ht := h.update.factoryGains.refreshGains.setSupplyRt.fset.supplyLoss
  .ok (.ite (.ite ht.setFelPort ht) ht.safePins)

theorem Keeps.execFelDescCommit {who} (h : Keeps s0 s) : KeepsNext s0 (execFelDescCommit who s) :=
  .next (h.access fun _ ht => ht.descCommit)

/-! The operations of Machine/Wheel. -/

theorem Keeps.moveMarks {n} (h : Keeps s0 s) : Keeps s0 (s.moveMarks n) :=
  h.setWheelPort.update

theorem Keeps.addPlan {n r} (h : Keeps s0 s) : Keeps s0 (s.addPlan n r) :=
  h.moveMarks.setWheelPort

theorem Keeps.execWheelRowPlan {path row} (h : Keeps s0 s) : KeepsNext s0 (execWheelRowPlan path row s) :=
  .next <|
  .ite h <|
  have ht := h.advanceTo.setPathGrid
  .ite (ht.foldl fun _ _ ht => ht.addPlan) ht

theorem Keeps.refreshReq {k} (h : Keeps s0 s) : Keeps s0 (s.refreshReq k) :=
  .ite h (.ite h.fset.fsetB.setCxPair h.fset.fset.setCxPair)

theorem Keeps.setPads {held} (h : Keeps s0 s) : Keeps s0 (s.setPads held) :=
  .ite h.update ((h.update.foldl fun _ _ ht => ht.fddPins).foldl fun _ _ ht => ht.refreshReq)

theorem Keeps.setLevel {n pin b} (h : Keeps s0 s) : Keeps s0 (s.setLevel n pin b) := by
  unfold State.setLevel
  dsimp only
  split
  · exact h.setWheelPort
  · exact h.setWheelPort
  · exact h.setWheelPort.refreshReq

theorem Keeps.wheelPins {n pin} (h : Keeps s0 s) : Keeps s0 (s.wheelPins n pin) :=
  .ite h.askPins h

theorem Keeps.noteDelay {n pin} (h : Keeps s0 s) : Keeps s0 (s.noteDelay n pin) := by
  unfold State.noteDelay
  dsimp only
  split
  · exact .ite h.setWheelPort.pulse h
  · exact h

theorem Keeps.execPinEvent {port pin} (h : Keeps s0 s) : KeepsNext s0 (execPinEvent port pin s) := by
  refine .next (.ite h ?_)
  split
  · exact h
  · exact
      have ht := h.noteDelay.advanceTo.setLevel
      .ite ht ht.wheelPins

theorem Keeps.dropPlan {n p r} (h : Keeps s0 s) : Keeps s0 (s.dropPlan n p r) := by
  unfold State.dropPlan
  dsimp only
  split
  · exact h
  · exact .ite h.setWheelPort.fbump.pulse h.setWheelPort.fbump.pulse

theorem Keeps.replanRow {p r} (h : Keeps s0 s) : Keeps s0 (s.replanRow p r) :=
  .ite h.setPathGrid (h.setPathGrid.foldl fun _ _ ht => ht.dropPlan)

theorem Keeps.execPrefireRevoke {path row} (h : Keeps s0 s) : KeepsNext s0 (execPrefireRevoke path row s) :=
  .next (h.foldl fun _ _ ht => ht.replanRow)

theorem Keeps.pairLoss {k} (h : Keeps s0 s) : Keeps s0 (s.pairLoss k) :=
  h.drive.cond

theorem Keeps.darken {n own} (h : Keeps s0 s) : Keeps s0 (s.darken n own) := by
  unfold State.darken
  split
  · exact h
  · exact .ite h (.ite h.setWheelPort.askPins h.setWheelPort)

theorem Keeps.darkPair {k ports} (h : Keeps s0 s) : Keeps s0 (s.darkPair k ports) :=
  (h.foldl fun _ _ ht => ht.darken).refreshReq

theorem Keeps.cxDenied {k n} (h : Keeps s0 s) : Keeps s0 (s.cxDenied k n) :=
  .ite h.fbump.pulse.setCxPair.pairLoss.darkPair h.fbump.pulse.setCxPair

theorem Keeps.execGrantSample {pair port grant} (h : Keeps s0 s) : KeepsNext s0 (execGrantSample pair port grant s) := by
  refine .next (.ite h ?_)
  split
  · exact h
  · exact
      have ht := h.advanceTo.fsetB
      .ite ht.setCxPair.pairLoss ht.cxDenied

theorem Keeps.execGrantFall {pair} (h : Keeps s0 s) : KeepsNext s0 (execGrantFall pair s) :=
  .next <|
  .ite h <|
  have ht := h.fset.setCxPair
  .ite ht <|
  have ht' := ht.foldl fun _ _ ht => ht.fbump
  .ite ht'.pulse.darkPair ht'

theorem Keeps.execGrantHighTimeout {pair} (h : Keeps s0 s) : KeepsNext s0 (execGrantHighTimeout pair s) :=
  .next (.ite h.fset.pulse h)

/-! The operations of Machine/Fox. -/

theorem Keeps.foxRefresh (h : Keeps s0 s) : Keeps s0 s.foxRefresh :=
  h.fset.fset.fset.fset.drive

theorem Keeps.setFox {k st} (h : Keeps s0 s) : Keeps s0 (s.setFox k st) :=
  (Keeps.ite h h.fset.timerStop).fset.foxRefresh

theorem Keeps.foxLift {k} (h : Keeps s0 s) : Keeps s0 (s.foxLift k) :=
  h.foldl fun _ _ ht => .ite ht ht.clearMute

theorem Keeps.foxFree {k} (h : Keeps s0 s) : Keeps s0 (s.foxFree k) :=
  h.foldl fun _ _ ht => .ite ht.foxReleasePort.drive ht

theorem Keeps.foxWiden {k x} (h : Keeps s0 s) : Keeps s0 (s.foxWiden k x) :=
  h.setFoxRt.fset.fset

theorem Keeps.foxPolicy {k code} (h : Keeps s0 s) : Keeps s0 (s.foxPolicy k code) :=
  h.setFoxRt.fsetB

theorem Keeps.foxStopPorts {k} (h : Keeps s0 s) : Keeps s0 (s.foxStopPorts k) :=
  h.fset.foldl fun _ _ ht => .ite ht ht.foxHoldPort

theorem Keeps.foxMuteCtxs {cs} (h : Keeps s0 s) : Keeps s0 (s.foxMuteCtxs cs) :=
  h.foldl fun _ _ ht => .ite ht.raiseMute ht

theorem Keeps.foxNote {code cs} (h : Keeps s0 s) : Keeps s0 (s.foxNote code cs) :=
  h.foldl fun _ _ ht => ht.cset.cbump

theorem Keeps.foxReport {k} (h : Keeps s0 s) : Keeps s0 (s.foxReport k) :=
  h.foldl fun _ _ ht => ht.report

theorem Keeps.foxStart {k code} (h : Keeps s0 s) : Keeps s0 (s.foxStart k code) :=
  h.fset.fset.fset.setFoxRt.timerStop.timerStart.setFox.foxStopPorts.foxMuteCtxs.foxNote.pulse.post.foxReport

theorem Keeps.foxLatch {k} (h : Keeps s0 s) : Keeps s0 (s.foxLatch k) :=
  .ite h h.setFox.pulse.post

theorem Keeps.foxMerge {k code x} (h : Keeps s0 s) : Keeps s0 (s.foxMerge k code x) :=
  .ite h.foxWiden.foxStart.pulse <|
  have ht := h.foxWiden.setFoxRt.foxRefresh.foxStopPorts.foxMuteCtxs.foxNote
  (Keeps.ite ht ht.timerStop.timerStop.foxLatch).pulse

theorem Keeps.foxTrigger {cause} (h : Keeps s0 s) : Keeps s0 (s.foxTrigger cause) := by
  unfold State.foxTrigger
  dsimp only
  refine .ite h ?_
  split
  · exact h.foxStart
  · split
    · exact h.foxWiden.foxPolicy.foxStart
    · exact h.foxMerge

theorem Keeps.noteOsc (h : Keeps s0 s) : Keeps s0 s.noteOsc :=
  h.foldl fun _ _ ht => .ite ht ht.update

theorem Keeps.foxRestart {x} (h : Keeps s0 s) : Keeps s0 (s.foxRestart x) := by
  unfold State.foxRestart
  split
  · exact h.update
  · exact h.foldl fun _ _ ht => ht.setCtxRt
  · exact h.update
  · exact h

theorem Keeps.foxCheck {cause} (h : Keeps s0 s) : Keeps s0 (s.foxCheck cause) :=
  .ite h.foxTrigger.foxRestart h

theorem Keeps.execFoxgloveTrigger {cause} (h : Keeps s0 s) : KeepsNext s0 (execFoxgloveTrigger cause s) :=
  .next h.foxCheck

theorem Keeps.execOscNegTimeout {stream} (h : Keeps s0 s) : KeepsNext s0 (execOscNegTimeout stream s) :=
  .next (.ite h h.advanceTo.foxCheck)

theorem Keeps.execNoiseTrigTimeout {ctx} (h : Keeps s0 s) : KeepsNext s0 (execNoiseTrigTimeout ctx s) :=
  .next (.dite (fun _ => .ite h h.advanceTo.foxCheck) (fun _ => h))

theorem Keeps.execOobTimeout {stream} (h : Keeps s0 s) : KeepsNext s0 (execOobTimeout stream s) :=
  .next (by split; exacts [h, h.advanceTo.foxCheck])

theorem Keeps.foxStopped {k} (h : Keeps s0 s) : Keeps s0 (s.foxStopped k) :=
  .ite h.timerStop.foxLatch h.timerStop.fset.timerStart.setFox

theorem Keeps.execFoxStopped {slot} (h : Keeps s0 s) : KeepsNext s0 (execFoxStopped slot s) :=
  .next (.ite h (.ite h.foxStopped (.ite (h.drive.foldl fun _ _ ht => ht.drive).foxStopped h)))

theorem Keeps.foxRetry {k} (h : Keeps s0 s) : Keeps s0 (s.foxRetry k) :=
  h.fset.fset.timerStop.timerStart.setFox.drive.foxFree

theorem Keeps.execFoxBackoffExpired {slot} (h : Keeps s0 s) : KeepsNext s0 (execFoxBackoffExpired slot s) :=
  .next (.ite h.fbump.foxRetry.pulse h)

theorem Keeps.foxClear {k} (h : Keeps s0 s) : Keeps s0 (s.foxClear k) :=
  .ite (.ite h.foxRetry h.fset) h

theorem Keeps.foxCmdWrite {i v} (h : Keeps s0 s) : KeepsOk s0 (foxCmdWrite i v s) := by
  unfold Machine.foxCmdWrite
  split
  · exact .err
  · exact .err
  · exact .err
  · exact .ok (.ite h.foxClear h)

theorem Keeps.execFoxSlotClear {who} (h : Keeps s0 s) : KeepsNext s0 (execFoxSlotClear who s) :=
  .next (h.access fun _ ht => ht.foxCmdWrite)

theorem Keeps.foxLiftPaths {k mask} (h : Keeps s0 s) : Keeps s0 (s.foxLiftPaths k mask) :=
  h.setFoxRt.foxRefresh.foxLift

theorem Keeps.execFoxChainsReady {slot} (h : Keeps s0 s) : KeepsNext s0 (execFoxChainsReady slot s) :=
  .next (.ite h.setFoxRt.foxLiftPaths h)

theorem Keeps.foxBoundary {g} (h : Keeps s0 s) : Keeps s0 (s.foxBoundary g) :=
  h.foldl fun _ _ ht => .ite ht.foxLiftPaths ht

theorem Keeps.foxIdle {k} (h : Keeps s0 s) : Keeps s0 (s.foxIdle k) :=
  (h.fset.fset.fset.fset.setFoxRt.timerStop.setFox.foldl fun _ _ ht => .ite ht ht.clearMute).pulse.post

theorem Keeps.execFoxRetryGood {slot} (h : Keeps s0 s) : KeepsNext s0 (execFoxRetryGood slot s) :=
  .next (.ite h.foxIdle h)

theorem Keeps.foxSecond (h : Keeps s0 s) : Keeps s0 s.foxSecond :=
  h.foldl fun _ _ ht =>
    have ht := Keeps.ite ht.fset ht
    .ite ht.foxClear ht

theorem Keeps.remoteClear {d} (h : Keeps s0 s) : Keeps s0 (s.remoteClear d) :=
  h.foldl fun _ _ ht => .ite ht.foxClear ht

theorem Keeps.remoteWrite {v} (h : Keeps s0 s) : KeepsOk s0 (remoteWrite v s) :=
  .dite (fun _ => have ht := Keeps.ite h.fset.foxTrigger h.fset; .ok (.ite ht.remoteClear ht)) fun _ =>
    .err

theorem Keeps.remoteAccess {i v} (h : Keeps s0 s) : Keeps s0 (s.remoteAccess i v) :=
  h.accessBy fun _ ht => ht.remoteWrite

theorem Keeps.execNprRemoteMute {who domain} (h : Keeps s0 s) : KeepsNext s0 (execNprRemoteMute who domain s) :=
  .next h.remoteAccess

theorem Keeps.execNprRemoteClear {who domain} (h : Keeps s0 s) : KeepsNext s0 (execNprRemoteClear who domain s) :=
  .next h.remoteAccess

/-! The operations of Machine/CanMon. -/

theorem Keeps.execIsoWindowEnd {inst mapBad} (h : Keeps s0 s) : KeepsNext s0 (execIsoWindowEnd inst mapBad s) :=
  .next <|
  .ite
    (have ht := h.isoFinish.mapParity.isoStop; .ite ht.isoRequest ht)
    h

theorem Keeps.setMargin {n k v} (h : Keeps s0 s) : Keeps s0 (s.setMargin n k v) :=
  h.update

theorem Keeps.marginSb {n k} (h : Keeps s0 s) : Keeps s0 (s.marginSb n k) :=
  .ite h.setMargin (.ite h.tookFree.setMargin h.setMargin)

theorem Keeps.marginEvents (h : Keeps s0 s) : Keeps s0 s.marginEvents :=
  h.cond.cond

theorem Keeps.marginUpdate {n} (h : Keeps s0 s) : Keeps s0 (s.marginUpdate n) :=
  .ite h (h.foldl fun _ _ ht => ht.marginSb).fset.marginEvents.noteOsc

theorem Keeps.execMarginUpdate {inst} (h : Keeps s0 s) : KeepsNext s0 (execMarginUpdate inst s) :=
  .next (.ite h.marginUpdate h)

theorem Keeps.holdPermits {n} (h : Keeps s0 s) : Keeps s0 (s.holdPermits n) :=
  h.update

theorem Keeps.testStart {n} (h : Keeps s0 s) : Keeps s0 (s.testStart n) :=
  h.isoStop.holdPermits.update.setCanState.fset.timerStart.fset.fset

theorem Keeps.selftestWrite {i page v} (h : Keeps s0 s) : KeepsOk s0 (selftestWrite i page v s) :=
  .ite (.ok h) (.ite .err (.ite (.ok h.setSelftest) (.ok h.testStart)))

theorem Keeps.busyStart {i page} (h : Keeps s0 s) : Keeps s0 (s.busyStart i page) := by
  unfold State.busyStart
  dsimp only
  split
  · exact h.disarm.refuse
  · exact h.disarm.accepted

theorem Keeps.selftestAccess {i page v} (h : Keeps s0 s) : Keeps s0 (s.selftestAccess i page v) :=
  .ite h.busyStart (h.access fun _ ht => ht.selftestWrite)

theorem Keeps.execSelftestStart {who page} (h : Keeps s0 s) : KeepsNext s0 (execSelftestStart who page s) :=
  .next h.selftestAccess

theorem Keeps.cutMap {n} (h : Keeps s0 s) : Keeps s0 (s.cutMap n) :=
  (h.foldl fun _ _ ht => .ite ht.zeroTaps.fset ht).pulse

theorem Keeps.wipeCan {n} (h : Keeps s0 s) : Keeps s0 (s.wipeCan n) :=
  h.update.update.update

theorem Keeps.canSwap {n reduced} (h : Keeps s0 s) : Keeps s0 (s.canSwap n reduced) :=
  .ite h.fsetB.wipeCan.deriveApply.deriveLeak (.ite h.fsetB (.ite h.fsetB.deriveApply h.fsetB.cutMap))

/-! The operations of Machine/Trace. -/

theorem Keeps.setTraceCh {ch r} (h : Keeps s0 s) : Keeps s0 (s.setTraceCh ch r) :=
  h.update

theorem Keeps.traceTrigger {ch} (h : Keeps s0 s) : Keeps s0 (s.traceTrigger ch) :=
  .ite h (.ite h.fset.pulse.fset.setTraceCh h.fset.pulse.fset.fset.fset.setTraceCh)

theorem Keeps.traceDone {ch} (h : Keeps s0 s) : Keeps s0 (s.traceDone ch) :=
  .ite h h.fset.pulse

theorem Keeps.traceStream {ch w full} (h : Keeps s0 s) : Keeps s0 (s.traceStream ch w full) :=
  .ite h (.ite h.fbump.pulse (.ite h.trcWrite h))

theorem Keeps.traceWrap {ch now} (h : Keeps s0 s) : Keeps s0 (s.traceWrap ch now) :=
  .ite h.fset.fset h.fset

theorem Keeps.traceRecord {ch c full} (h : Keeps s0 s) : Keeps s0 (s.traceRecord ch c full) :=
  have hs := Keeps.ite h.fset.fset h
  have hs' := (Keeps.ite hs.traceWrap hs).fset.setTraceCh
  (Keeps.ite hs'.traceDone hs').traceStream

theorem Keeps.traceSample {ch c full} (h : Keeps s0 s) : Keeps s0 (s.traceSample ch c full) :=
  (Keeps.ite h.traceRecord h.setTraceCh).setTraceCh

theorem Keeps.traceStep {c fe full} (h : Keeps s0 s) : Keeps s0 (s.traceStep c fe full) :=
  (Keeps.ite h (h.foldl fun _ _ ht => ht.traceTrigger)).foldl fun _ _ ht => ht.traceSample

theorem Keeps.traceArm {ch} (h : Keeps s0 s) : Keeps s0 (s.traceArm ch) :=
  h.setTraceCh.fset.fset.fset.fset.fset.fset

theorem Keeps.trcCmdWrite {v} (h : Keeps s0 s) : KeepsOk s0 (trcCmdWrite v s) :=
  .ite .err <|
  have hs := Keeps.ite (h.foldl fun _ _ ht => ht.traceArm) h
  have hs' := Keeps.ite (hs.foldl fun _ _ ht => ht.setTraceCh) hs
  .ok (.ite (hs'.foldl fun _ _ ht => ht.traceDone) hs')

theorem Keeps.execTraceArm {who mask} (h : Keeps s0 s) : KeepsNext s0 (execTraceArm who mask s) :=
  .next (h.access fun _ ht => ht.trcCmdWrite)

theorem Keeps.execTraceTrigNow {who mask} (h : Keeps s0 s) : KeepsNext s0 (execTraceTrigNow who mask s) :=
  .next (h.access fun _ ht => ht.trcCmdWrite)

theorem Keeps.execTraceStop {who mask} (h : Keeps s0 s) : KeepsNext s0 (execTraceStop who mask s) :=
  .next (h.access fun _ ht => ht.trcCmdWrite)

theorem Keeps.traceRead {who} (h : Keeps s0 s) : Keeps s0 (traceRead who s) :=
  .ite h.refuseRead h.answerRead.fset

theorem Keeps.execTraceReadData {who} (h : Keeps s0 s) : KeepsNext s0 (execTraceReadData who s) :=
  .next (h.accessRead fun _ ht => ht.traceRead)

theorem Keeps.idleTick {c} (h : Keeps s0 s) : Keeps s0 (s.idleTick c) :=
  h.applyCommits.calStep.feAckStep.commandStep

theorem Keeps.noteRad {c} (h : Keeps s0 s) : Keeps s0 (s.noteRad c) :=
  .ite h.setPathRt h

theorem Keeps.fullTick {c inp outp full} (h : Keeps s0 s) : Keeps s0 (s.fullTick c inp outp full) := by
  unfold State.fullTick
  exact
    have hs := h.noteRad.drainStep.muteStep.applyCommits.calStep.feAckStep.commandStep
    .ite (Keeps.ite hs.stageRestart hs).inputStep.loopStep.traceStep.isoPress hs

theorem Keeps.toTick {c} (h : Keeps s0 s) : Keeps s0 (s.toTick c) :=
  h.advanceTo.setCtxRt

theorem Keeps.execContextTick {ctx inp outp xcFull} (h : Keeps s0 s) : KeepsNext s0 (execContextTick ctx inp outp xcFull s) :=
  .next (.ite (.ite h.idleTick (.ite h.toTick.fullTick h)) h)

/-! The operations of Machine/Ctxw. -/

theorem Keeps.setCoefStage {i v} (h : Keeps s0 s) : Keeps s0 (s.setCoefStage i v) :=
  h.update

theorem Keeps.directWords {c l} (h : Keeps s0 s) : Keeps s0 (s.directWords c l) :=
  .ite (h.setCtxRt.foldl fun _ _ ht => .ite ht.holdCmd ht) (h.foldl fun _ _ ht => ht.ctxWordApply)

theorem Keeps.ctxDirect {i c w v} (h : Keeps s0 s) : KeepsOk s0 (s.ctxDirect i c w v) := by
  unfold State.ctxDirect
  dsimp only
  split
  · exact .err
  · split
    · exact .ok h.setCoefStage
    · split
      · exact .ite (.ok h.directWords.setCoefStage) .err
      · exact .ok h.directWords

theorem Keeps.noteRefuse {i} (h : Keeps s0 s) : Keeps s0 (s.noteRefuse i) :=
  .ite h h.setWindow

theorem Keeps.ctxwSelect {i c staged} (h : Keeps s0 s) : KeepsOk s0 (ctxwSelect i c staged s) := by
  unfold Machine.ctxwSelect
  dsimp only
  refine .ite .err ?_
  refine .ite .err ?_
  split
  · exact .err
  · exact .ok h.setWindow

theorem Keeps.selectCtx {who c mode} (h : Keeps s0 s) : Keeps s0 (s.selectCtx who c mode) :=
  (h.accessBy fun _ ht => ht.ctxwSelect).noteRefuse

theorem Keeps.execCtxwSelect {who ctx mode} (h : Keeps s0 s) : KeepsNext s0 (execCtxwSelect who ctx mode s) :=
  .next h.selectCtx

theorem Keeps.takeSnapshot {hd} (h : Keeps s0 s) : Keeps s0 (s.takeSnapshot hd) :=
  .ite h.setWindow h

theorem Keeps.execCtxwSnapshot {who} (h : Keeps s0 s) : KeepsNext s0 (execCtxwSnapshot who s) :=
  .next h.takeSnapshot

theorem Keeps.apertureWrite {i w v} (h : Keeps s0 s) : KeepsOk s0 (apertureWrite i w v s) := by
  unfold Machine.apertureWrite
  dsimp only
  refine .ite h.ctxDirect ?_
  split
  · exact .err
  · split
    · exact .ok h.setCoefStage
    · split
      · exact .ite (.ok h.setWindow.setCoefStage) .err
      · exact .ok h.setWindow

theorem Keeps.writeAperture {who w v} (h : Keeps s0 s) : Keeps s0 (s.writeAperture who w v) :=
  (h.accessBy fun _ ht => ht.apertureWrite).noteRefuse

theorem Keeps.execCtxwApertureWrite {who word value} (h : Keeps s0 s) : KeepsNext s0 (execCtxwApertureWrite who word value s) :=
  .next h.writeAperture

theorem Keeps.setCoefShadow {i v} (h : Keeps s0 s) : Keeps s0 (s.setCoefShadow i v) :=
  h.update

theorem Keeps.readCoefS {i key live} (h : Keeps s0 s) : Keeps s0 (s.readCoefS i key live) := by
  unfold State.readCoefS
  split
  · exact .ite h.answerRead.setCoefShadow h.answerRead
  · exact h.answerRead

theorem Keeps.ctxReadWord {i c w} (h : Keeps s0 s) : Keeps s0 (s.ctxReadWord i c w) :=
  .ite h.setCoefShadow.answerRead (.ite h.readCoefS h.answerRead)

theorem Keeps.apertureRead {i w} (h : Keeps s0 s) : Keeps s0 (apertureRead i w s) := by
  unfold Machine.apertureRead
  dsimp only
  refine .ite h.refuseRead.noteRefuse ?_
  refine .ite ?_ ?_
  · split
    · exact h.answerRead
    · exact h.refuseRead.noteRefuse
  · exact h.ctxReadWord

theorem Keeps.execCtxwApertureRead {who word} (h : Keeps s0 s) : KeepsNext s0 (execCtxwApertureRead who word s) :=
  .next (h.accessRead fun _ ht => ht.apertureRead)

theorem Keeps.acceptCommit {i w} (h : Keeps s0 s) : Keeps s0 (s.acceptCommit i w) :=
  .ite h.setWindow h.setWindow

theorem Keeps.ctxwCommit {i c staged} (h : Keeps s0 s) : KeepsOk s0 (ctxwCommit i c staged s) := by
  unfold Machine.ctxwCommit
  dsimp only
  refine .ite .err ?_
  refine .ite .err ?_
  split
  · exact .err
  · exact .ok h.acceptCommit

theorem Keeps.commitWindow {who} (h : Keeps s0 s) : Keeps s0 (s.commitWindow who) :=
  (h.accessBy fun _ ht => ht.ctxwCommit).noteRefuse

theorem Keeps.execCtxwCommit {who} (h : Keeps s0 s) : KeepsNext s0 (execCtxwCommit who s) :=
  .next h.commitWindow

theorem Keeps.execCtxwCommitApply {who} (h : Keeps s0 s) : KeepsNext s0 (execCtxwCommitApply who s) :=
  .next (.ite h.applyDirect.windowApply h)

theorem Keeps.execCtxOwnerWrite {who ctx owner priv} (h : Keeps s0 s) : KeepsNext s0 (execCtxOwnerWrite who ctx owner priv s) :=
  .next (h.accessBy fun _ ht => ht.ctxDirect).noteRefuse

theorem Keeps.canCoefM {i off v} (h : Keeps s0 s) : KeepsOk s0 (canCoefM i off v s) :=
  .ite .err (.ok h.setCoefStage)

theorem Keeps.canCoefS {i p v} (h : Keeps s0 s) : KeepsOk s0 (canCoefS i p v s) :=
  .ite .err (.ite (.ok h.setWord.setWord.setCoefStage) .err)

theorem Keeps.canCoefRead {i off} (h : Keeps s0 s) : Keeps s0 (canCoefRead i off s) :=
  h.setCoefShadow.answerRead

theorem Keeps.execCoefMWrite {who pair value} (h : Keeps s0 s) : KeepsNext s0 (execCoefMWrite who pair value s) := by
  unfold Machine.execCoefMWrite
  split
  · exact h.execCtxwApertureWrite
  · exact .next (h.access fun _ ht => ht.canCoefM)

theorem Keeps.execCoefSWrite {who pair value} (h : Keeps s0 s) : KeepsNext s0 (execCoefSWrite who pair value s) := by
  unfold Machine.execCoefSWrite
  split
  · exact h.execCtxwApertureWrite
  · exact .next (h.access fun _ ht => ht.canCoefS)

theorem Keeps.execCoefMRead {who pair} (h : Keeps s0 s) : KeepsNext s0 (execCoefMRead who pair s) := by
  unfold Machine.execCoefMRead
  split
  · exact h.execCtxwApertureRead
  · exact .next (h.accessRead fun _ ht => ht.canCoefRead)

/-! The operations of Machine/Budget. -/

theorem Keeps.regCommit (h : Keeps s0 s) : Keeps s0 s.regCommit :=
  h.fset.queueJournal

theorem Keeps.regRestage (h : Keeps s0 s) : Keeps s0 s.regRestage :=
  h.update.fset

theorem Keeps.regCmdWrite {v} (h : Keeps s0 s) : KeepsOk s0 (regCmdWrite v s) :=
  .ite (.ite .err (.ok h.regCommit)) (.ite (.ok h.regRestage) (.ok h))

theorem Keeps.regCmdAccess {i v} (h : Keeps s0 s) : Keeps s0 (s.regCmdAccess i v) := by
  unfold State.regCmdAccess
  dsimp only
  split
  · exact .ite (h.access fun _ ht => ht.regCmdWrite).fset (h.access fun _ ht => ht.regCmdWrite)
  · exact h.access fun _ ht => ht.regCmdWrite

theorem Keeps.execRegCommit {who} (h : Keeps s0 s) : KeepsNext s0 (execRegCommit who s) :=
  .next h.regCmdAccess

theorem Keeps.execRegRestage {who} (h : Keeps s0 s) : KeepsNext s0 (execRegRestage who s) :=
  .next h.regCmdAccess

theorem Keeps.recover {c} (h : Keeps s0 s) : Keeps s0 (s.recover c) :=
  .ite (.ite h.setCover.clearMute h.setCover) (.ite h.setCover.raiseMute h.setCover)

theorem Keeps.regLoad {payload} (h : Keeps s0 s) : Keeps s0 (s.regLoad payload) :=
  h.update.fset.fset.fset.fset.cond.drive.foldl fun _ _ ht => ht.recover

theorem Keeps.regInForce {payload} (h : Keeps s0 s) : Keeps s0 (s.regInForce payload) :=
  h.regLoad.pulse

theorem Keeps.takeAllot {c a} (h : Keeps s0 s) : Keeps s0 (s.takeAllot c a) :=
  have ht := h.cset.cset.cset.csetI
  .ite (have ht' := ht.csetI.setCtxRt; .ite ht'.clearMute ht') <|
  have ht' := ht.csetI.raiseMute.cbump.pulse
  .ite ht'.setCtxRt ht'.setCtxRt.timerStart

theorem Keeps.noShare {c} (h : Keeps s0 s) : Keeps s0 (s.noShare c) :=
  .ite h.csetI.cset h.csetI

theorem Keeps.budgetAllocation (h : Keeps s0 s) : Keeps s0 s.budgetAllocation :=
  (Keeps.ite (h.update.foldl fun _ _ ht => ht.fsetI).pulse (h.update.foldl fun _ _ ht => ht.fsetI)).foldl
    fun _ _ ht => by split; exacts [ht.takeAllot, ht.noShare]

theorem Keeps.execBudgetAllocation (h : Keeps s0 s) : KeepsNext s0 (execBudgetAllocation s) :=
  .next (.ite h.budgetAllocation h)

theorem Keeps.execBudgetHoldExpired {ctx} (h : Keeps s0 s) : KeepsNext s0 (execBudgetHoldExpired ctx s) :=
  .next (.ite h.timerStop.setCtxRt h)

/-! The operations of Machine/Gns. -/

theorem Keeps.execHoldoverTimeout {group} (h : Keeps s0 s) : KeepsNext s0 (execHoldoverTimeout group s) :=
  .next (.ite h.setGroup.foxCheck h)

theorem Keeps.setGns {g} (h : Keeps s0 s) : Keeps s0 (s.setGns g) :=
  h.update

theorem Keeps.gnsRefresh (h : Keeps s0 s) : Keeps s0 s.gnsRefresh :=
  (Keeps.ite h.fsetB.pulse h.fsetB).cond.drive.notePri

theorem Keeps.setPps {st} (h : Keeps s0 s) : Keeps s0 (s.setPps st) :=
  h.fset.gnsRefresh

theorem Keeps.gnsPpsWrite {v} (h : Keeps s0 s) : KeepsOk s0 (gnsPpsWrite v s) := by
  unfold Machine.gnsPpsWrite
  dsimp only
  split
  · exact .err
  · next t heq =>
    exact .ok (.ite (h.mergeReg _ heq).setGns.timerStart.setPps (.ite (h.mergeReg _ heq).timerStop.setPps (h.mergeReg _ heq)))

theorem Keeps.gnsUartWrite {v} (h : Keeps s0 s) : KeepsOk s0 (gnsUartWrite v s) := by
  unfold Machine.gnsUartWrite
  dsimp only
  split
  · exact .err
  · next t heq =>
    exact .ok (.ite (h.mergeReg _ heq).timerStart (.ite (h.mergeReg _ heq).timerStop.timerStop.fset.setGns.gnsRefresh (h.mergeReg _ heq)))

theorem Keeps.gnsYield (h : Keeps s0 s) : Keeps s0 s.gnsYield := by
  unfold State.gnsYield
  dsimp only
  split
  · exact .ite h.yieldObs h
  · exact h

theorem Keeps.labelEdge {gps count} (h : Keeps s0 s) : Keeps s0 (s.labelEdge gps count) :=
  have ht := h.setGns.fset.fset.timerStart.gnsRefresh
  .ite ht.gnsYield ht

theorem Keeps.nmeaBad {reason} (h : Keeps s0 s) : Keeps s0 (s.nmeaBad reason) :=
  h.fbump.fset.pulse.pulse

theorem Keeps.labelTime {utc count} (h : Keeps s0 s) : Keeps s0 (s.labelTime utc count) :=
  .ite h.labelEdge <|
  have ht := h.setGns.nmeaBad
  .ite ht.labelEdge ht

theorem Keeps.labelWaiting {t} (h : Keeps s0 s) : Keeps s0 (s.labelWaiting t) := by
  unfold State.labelWaiting
  dsimp only
  split
  · exact h
  · exact .ite h.setGns.labelTime h.setGns.nmeaBad

theorem Keeps.ppsAccept {t} (h : Keeps s0 s) : Keeps s0 (s.ppsAccept t) :=
  h.setGns.fset.timerStart.gnsYield.labelWaiting

theorem Keeps.ppsStep {t} (h : Keeps s0 s) : Keeps s0 (s.ppsStep t) :=
  h.setGns.fset.timerStart.setPps.pulse

theorem Keeps.ppsUnexpected {t} (h : Keeps s0 s) : Keeps s0 (s.ppsUnexpected t) :=
  have hu := h.setGns.fbump.pulse.pulse
  .ite hu.fset.ppsStep hu.fset

theorem Keeps.execPpsEdge {t pulse} (h : Keeps s0 s) : KeepsNext s0 (execPpsEdge t pulse s) :=
  .next (.ite h (.ite h.fset.fset.ppsAccept h.fset.fset.ppsUnexpected))

theorem Keeps.execPpsWindowExpired (h : Keeps s0 s) : KeepsNext s0 (execPpsWindowExpired s) :=
  .next (.ite h h.advanceTo.setGns.fbump.pulse)

theorem Keeps.execPpsTimeout (h : Keeps s0 s) : KeepsNext s0 (execPpsTimeout s) :=
  .next (.ite h.timerStop.setPps h)

theorem Keeps.timeSentence {utc} (h : Keeps s0 s) : Keeps s0 (s.timeSentence utc) := by
  unfold State.timeSentence
  dsimp only
  refine .ite h.setGns ?_
  split
  · exact .ite h.labelTime h.nmeaBad
  · exact h.nmeaBad

theorem Keeps.sentence {x} (h : Keeps s0 s) : Keeps s0 (s.sentence x) := by
  unfold State.sentence
  split
  · exact h
  · exact h.nmeaBad
  · exact h.fsetB.fset.timerStart.gnsRefresh
  · exact h.timeSentence

theorem Keeps.endLine (h : Keeps s0 s) : Keeps s0 s.endLine :=
  h.sentence.setGns

theorem Keeps.execNmeaSentence (h : Keeps s0 s) : KeepsNext s0 (execNmeaSentence s) :=
  .next (.ite h.endLine h)

theorem Keeps.nmeaByte {b} (h : Keeps s0 s) : Keeps s0 (s.nmeaByte b) :=
  have ht := Keeps.ite h.endLine h
  .ite (Keeps.ite ht ht.nmeaBad).setGns (.ite ht ht.setGns)

theorem Keeps.loseByte (h : Keeps s0 s) : Keeps s0 s.loseByte :=
  h.setGns

theorem Keeps.crossed {x} (h : Keeps s0 s) : Keeps s0 (s.crossed x) :=
  (Keeps.ite h.loseByte h).nmeaByte

theorem Keeps.drainCrossing (h : Keeps s0 s) : Keeps s0 s.drainCrossing :=
  have ht := h.setGns.foldl fun _ _ ht => ht.crossed
  .ite ht.loseByte ht

theorem Keeps.dropByte (h : Keeps s0 s) : Keeps s0 s.dropByte :=
  .ite h.drainCrossing.loseByte h.setGns

theorem Keeps.crossByte {b} (h : Keeps s0 s) : Keeps s0 (s.crossByte b) :=
  .ite h.drainCrossing.nmeaByte (.ite h.setGns h.dropByte.fbump.pulse)

theorem Keeps.uartDecide {r} (h : Keeps s0 s) : Keeps s0 (s.uartDecide r) := by
  unfold State.uartDecide
  split
  · exact h.crossByte
  · exact h.dropByte.setGns.fbump.pulse
  · exact h.fbump.pulse

theorem Keeps.execUartCharacter {line} (h : Keeps s0 s) : KeepsNext s0 (execUartCharacter line s) :=
  .next (.ite h.setGns.uartDecide h)

theorem Keeps.execNmeaTimeout (h : Keeps s0 s) : KeepsNext s0 (execNmeaTimeout s) :=
  .next <|
  have ht := Keeps.ite h.timerStop.fset h
  (Keeps.ite ht.timerStop.setGns ht).gnsRefresh

theorem Keeps.execNmeaLabelTimeout (h : Keeps s0 s) : KeepsNext s0 (execNmeaLabelTimeout s) :=
  .next (by split; exacts [h, h.advanceTo.setGns.nmeaBad])

/-! The operations of Machine/Cls. -/

theorem Keeps.setCarrier {k r} (h : Keeps s0 s) : Keeps s0 (s.setCarrier k r) :=
  h.update

theorem Keeps.setClState {k st} (h : Keeps s0 s) : Keeps s0 (s.setClState k st) :=
  h.fset.cond.drive.notePri

theorem Keeps.carrierOff {k} (h : Keeps s0 s) : Keeps s0 (s.carrierOff k) :=
  h.setCarrier.fset.fset.fset.fset.timerStop.timerStop.setClState

theorem Keeps.carriersCut (h : Keeps s0 s) : Keeps s0 s.carriersCut :=
  h.foldl fun _ _ ht => .ite ht.carrierOff ht

theorem Keeps.ccfgWrite {i v} (h : Keeps s0 s) : KeepsOk s0 (ccfgWrite i v s) := by
  unfold Machine.ccfgWrite
  dsimp only
  refine .ite .err ?_
  refine .ite .err ?_
  refine .ite .err ?_
  split
  · exact .err
  · next t heq =>
    exact .ok (.ite (h.mergeReg _ heq).setClState (.ite (h.mergeReg _ heq).carrierOff (h.mergeReg _ heq)))

theorem Keeps.cfreqWrite {i v} (h : Keeps s0 s) : KeepsOk s0 (cfreqWrite i v s) :=
  .ite .err (.ite .err h.mergeReg)

theorem Keeps.execClsEnable {who en} (h : Keeps s0 s) : KeepsNext s0 (execClsEnable who en s) :=
  .next (h.access fun _ ht => ht.ccfgWrite)

theorem Keeps.sib1Start {k} (h : Keeps s0 s) : Keeps s0 (s.sib1Start k) :=
  .ite h.setCarrier.timerStart h

theorem Keeps.keepPattern {k pci} (h : Keeps s0 s) : Keeps s0 (s.keepPattern k pci) :=
  .ite h (.ite h.fset h.setCarrier.fset.fset)

theorem Keeps.enterTrack {k pci index} (h : Keeps s0 s) : Keeps s0 (s.enterTrack k pci index) :=
  h.keepPattern.fset.fset.fset.fbump.setCarrier.setClState.pulse.timerStart.sib1Start

theorem Keeps.execSsbDetection {carrier pci snr pbchOk index} (h : Keeps s0 s) :
    KeepsNext s0 (execSsbDetection carrier pci snr pbchOk index s) :=
  .next (.ite h.enterTrack h)

theorem Keeps.ssbMiss {k} (h : Keeps s0 s) : Keeps s0 (s.ssbMiss k) :=
  .ite h.fbump h.fbump.setCarrier.timerStop.timerStop.setClState.pulse

theorem Keeps.execSsbPosition {carrier hit crcOk index} (h : Keeps s0 s) : KeepsNext s0 (execSsbPosition carrier hit crcOk index s) :=
  .next (.ite h (by split; exacts [h.ssbMiss, .ite h.fbump.ssbMiss (.ite h.ssbMiss h.fset.fset.fbump.yieldObs)]))

theorem Keeps.newPattern {k w1 w2 src} (h : Keeps s0 s) : Keeps s0 (s.newPattern k w1 w2 src) :=
  .ite h.setCarrier.fset.fset h.setCarrier

theorem Keeps.execSib1Decoded {carrier tdd pat1 pat2} (h : Keeps s0 s) : KeepsNext s0 (execSib1Decoded carrier tdd pat1 pat2 s) :=
  .next <|
  .ite h <|
  have ht := h.setCarrier.timerStop
  .ite ht.pulse (.ite (.ite ht.pulse ht) ht.newPattern)

theorem Keeps.execSib1Timeout {carrier} (h : Keeps s0 s) : KeepsNext s0 (execSib1Timeout carrier s) :=
  .next (.ite h.setCarrier.timerStop.pulse h)

theorem Keeps.execSib1PeriodExpired {carrier} (h : Keeps s0 s) : KeepsNext s0 (execSib1PeriodExpired carrier s) :=
  .next (.ite h.timerStart.sib1Start h)

theorem Keeps.patStage {i second v} (h : Keeps s0 s) : KeepsOk s0 (patStage i second v s) :=
  .ite .err (.ok h.setCarrier)

theorem Keeps.patApply {i v} (h : Keeps s0 s) : KeepsOk s0 (patApply i v s) :=
  .ite (.ok h) (.ite .err (.ok (.ite h.newPattern h)))

theorem Keeps.execPatternApply {who} (h : Keeps s0 s) : KeepsNext s0 (execPatternApply who s) :=
  .next (h.access fun _ ht => ht.patApply)

theorem Keeps.patternsAtBoundary (h : Keeps s0 s) : Keeps s0 s.patternsAtBoundary :=
  h.foldl fun _ _ ht => by split; exacts [ht, .ite ht.setCarrier.fset.fset.pulse ht]

theorem Keeps.clPath {p} (h : Keeps s0 s) : Keeps s0 (s.clPath p) :=
  .ite h <|
  .ite h.setPathGrid <|
  have ht := h.update.setPathGrid
  .ite ht.pulse ht

theorem Keeps.cellListener (h : Keeps s0 s) : Keeps s0 s.cellListener :=
  (h.foldl fun _ _ ht => ht.clPath).feedListener

/-! The operations of Machine/Jlk. -/

theorem Keeps.setJlk {g r} (h : Keeps s0 s) : Keeps s0 (s.setJlk g r) :=
  h.update

theorem Keeps.setRx {g st} (h : Keeps s0 s) : Keeps s0 (s.setRx g st) :=
  h.fset

theorem Keeps.setTx {g st} (h : Keeps s0 s) : Keeps s0 (s.setTx g st) :=
  h.fset

theorem Keeps.driveJlk {g} (h : Keeps s0 s) : Keeps s0 (s.driveJlk g) :=
  h.drive

theorem Keeps.txGo {g} (h : Keeps s0 s) : Keeps s0 (s.txGo g) :=
  .ite h.setTx.canLinkBack h

theorem Keeps.txAlarm {g} (h : Keeps s0 s) : Keeps s0 (s.txAlarm g) := by
  unfold State.txAlarm
  exact h.setTx.pulse.inputLost.setJlk.driveJlk.canLinkLoss

theorem Keeps.txAlarmOff {g} (h : Keeps s0 s) : Keeps s0 (s.txAlarmOff g) := by
  unfold State.txAlarmOff
  exact (Keeps.ite h.setTx.txGo h).inputValid.setJlk.driveJlk.canLinkBack

theorem Keeps.alarmRefresh {g} (h : Keeps s0 s) : Keeps s0 (s.alarmRefresh g) :=
  .ite h.txAlarm (.ite h.txAlarmOff (.ite h.setTx h))

theorem Keeps.rxStart {g} (h : Keeps s0 s) : Keeps s0 (s.rxStart g) :=
  have hs := h.timerStop.timerStop
  .ite hs.setRx.fset hs.setRx.fset.setJlk.driveJlk

theorem Keeps.txStart {g} (h : Keeps s0 s) : Keeps s0 (s.txStart g) :=
  (Keeps.ite h.setTx.txGo h.setTx).alarmRefresh

theorem Keeps.pllStops {g} (h : Keeps s0 s) : Keeps s0 (s.pllStops g) :=
  .ite h.fset.fset.setJlk.driveJlk.refreshGroupDomain.refreshReady h

theorem Keeps.restartHalf {stream} (h : Keeps s0 s) : Keeps s0 (s.restartHalf stream) :=
  .ite h.rxStart.pllStops h.txStart.pllStops

theorem Keeps.alarmNamed {g} (h : Keeps s0 s) : Keeps s0 (s.alarmNamed g) :=
  h.setJlk.alarmRefresh

theorem Keeps.jlkCfgWrite {g v} (h : Keeps s0 s) : KeepsOk s0 (jlkCfgWrite g v s) :=
  .ite .err <|
  have ht := Keeps.ite h.setWord h.setWord.rxStart
  have ht' := Keeps.ite ht ht.txStart
  .ok (Keeps.ite ht' ht'.alarmNamed).pllStops

theorem Keeps.execJlkRxEnable {who group} (h : Keeps s0 s) : KeepsNext s0 (execJlkRxEnable who group s) :=
  .next (h.access fun _ ht => ht.jlkCfgWrite)

theorem Keeps.execJlkTxEnable {who group} (h : Keeps s0 s) : KeepsNext s0 (execJlkTxEnable who group s) :=
  .next (h.access fun _ ht => ht.jlkCfgWrite)

theorem Keeps.pllLocked {g} (h : Keeps s0 s) : Keeps s0 (s.pllLocked g) :=
  have hs := h.fset.setJlk.driveJlk
  (Keeps.ite hs.setRx hs).txGo.refreshGroupDomain.refreshReady

theorem Keeps.execLanePllLocked {group} (h : Keeps s0 s) : KeepsNext s0 (execLanePllLocked group s) :=
  .next (.ite h.pllLocked h)

theorem Keeps.waitSysref {g} (h : Keeps s0 s) : Keeps s0 (s.waitSysref g) :=
  h.setRx.fset.timerStart

theorem Keeps.laneSync {g lock} (h : Keeps s0 s) : Keeps s0 (s.laneSync g lock) := by
  unfold State.laneSync
  dsimp only
  split
  · exact .ite h.fset.timerStop.setRx h.fset.timerStop
  · exact h.fset.timerStop.cond.waitSysref
  · exact h.fset.timerStop.setRx.cond

theorem Keeps.execLaneSyncLocked {group lock} (h : Keeps s0 s) : KeepsNext s0 (execLaneSyncLocked group lock s) :=
  .next (.ite h.laneSync h)

theorem Keeps.offPhase {g} (h : Keeps s0 s) : Keeps s0 (s.offPhase g) :=
  have hs := h.fbump.pulse.pulse
  .ite
    (have hs' := Keeps.ite hs.waitSysref hs.fset; .ite hs'.setTx hs')
    hs

theorem Keeps.sysrefAt {off g} (h : Keeps s0 s) : Keeps s0 (s.sysrefAt off g) :=
  .ite h.fset.setJlk.timerStop.inputValid.txGo (.ite h.offPhase h)

theorem Keeps.execSysrefEdge {off} (h : Keeps s0 s) : KeepsNext s0 (execSysrefEdge off s) :=
  .next (h.foldl fun _ _ ht => ht.sysrefAt)

theorem Keeps.execSysrefTimeout {group} (h : Keeps s0 s) : KeepsNext s0 (execSysrefTimeout group s) :=
  .next (.ite h.timerStop.inputLost h)

theorem Keeps.execJlkRun {group} (h : Keeps s0 s) : KeepsNext s0 (execJlkRun group s) :=
  .next (.ite h.advanceTo.setRx.fset.inputValid.setJlk.driveJlk.pulse.canLinkBack h)

theorem Keeps.pllLost {g} (h : Keeps s0 s) : Keeps s0 (s.pllLost g) :=
  have hs := h.setJlk.driveJlk.fset.pulse.setDev
  have hs' := Keeps.ite hs hs.setRx
  (Keeps.ite hs'.setTx hs').refreshGroupDomain.refreshReady

theorem Keeps.rxLost {g pll} (h : Keeps s0 s) : Keeps s0 (s.rxLost g pll) :=
  have hs := h.pulse.inputLost.fbump.fset.timerStop.setJlk.driveJlk.canLinkLoss
  .ite hs.pllLost hs.setRx.timerStart

theorem Keeps.execJlkRxLinkLost {group pll} (h : Keeps s0 s) : KeepsNext s0 (execJlkRxLinkLost group pll s) :=
  .next (.ite h.rxLost (.ite h.pllLost h))

theorem Keeps.crcErrors {g n} (h : Keeps s0 s) : Keeps s0 (s.crcErrors g n) :=
  .ite h <|
  have hs := (h.foldl fun _ _ ht => ht.fbump).setJlk.pulse
  .ite hs.rxLost hs

theorem Keeps.bitErrors {g n} (h : Keeps s0 s) : Keeps s0 (s.bitErrors g n) :=
  .ite h h.fset

theorem Keeps.arrival {g dev} (h : Keeps s0 s) : Keeps s0 (s.arrival g dev) :=
  have hs := Keeps.ite h.fsetI.cond.pulse h.fsetI.cond
  .ite hs.waitSysref hs

theorem Keeps.execJlkMultiblock {group dev crcErrs bitErrs} (h : Keeps s0 s) : KeepsNext s0 (execJlkMultiblock group dev crcErrs bitErrs s) :=
  .next (.ite h.arrival.bitErrors.crcErrors h)

theorem Keeps.execJlkRelockTimeout {group} (h : Keeps s0 s) : KeepsNext s0 (execJlkRelockTimeout group s) :=
  .next (.ite h.timerStop.setRx h)

theorem Keeps.execJlkTxAlarm {group active} (h : Keeps s0 s) : KeepsNext s0 (execJlkTxAlarm group active s) :=
  .next (.ite h h.setJlk.alarmRefresh)

theorem Keeps.jlkTestWrite {g v} (h : Keeps s0 s) : KeepsOk s0 (jlkTestWrite g v s) :=
  .ite .err (.ok h.fset)

theorem Keeps.execJlkPatternWrite {who group pattern} (h : Keeps s0 s) : KeepsNext s0 (execJlkPatternWrite who group pattern s) :=
  .next (h.access fun _ ht => ht.jlkTestWrite)

/-! The operations of Machine/Path. -/

theorem Keeps.refreshPath {p} (h : Keeps s0 s) : Keeps s0 (s.refreshPath p) :=
  h.fsetB.fset

theorem Keeps.placePath {p} (h : Keeps s0 s) : Keeps s0 (s.placePath p) :=
  h.refreshPath.refreshLag

theorem Keeps.windowsInForce {p} (h : Keeps s0 s) : Keeps s0 (s.windowsInForce p) :=
  h.applyWindows.refreshPath

theorem Keeps.execWindowApply {path} (h : Keeps s0 s) : KeepsNext s0 (execWindowApply path s) :=
  .next (.ite h.windowsInForce h)

theorem Keeps.streamIdle {t} (h : Keeps s0 s) : Keeps s0 (s.streamIdle t) :=
  .ite h (Keeps.ite h h.setClamp).update

theorem Keeps.pathPins {p} (h : Keeps s0 s) : Keeps s0 (s.pathPins p) :=
  h.foldl fun _ _ ht => ht.fddPins

theorem Keeps.turnOn {p} (h : Keeps s0 s) : Keeps s0 (s.turnOn p) :=
  (h.fset.setPathRt.setPathGrid.foldl fun _ _ ht => ht.resetHolds).pathPins

theorem Keeps.turnOff {p} (h : Keeps s0 s) : Keeps s0 (s.turnOff p) :=
  (h.fset.foldl fun _ _ ht => ht.streamIdle).pathPins

theorem Keeps.drainPath {p} (h : Keeps s0 s) : Keeps s0 (s.drainPath p) :=
  h.fset.fset.foldl fun _ _ ht => .ite ht.setCtxRt ht

theorem Keeps.setEnable {p en} (h : Keeps s0 s) : Keeps s0 (s.setEnable p en) :=
  .ite (.ite h.fset.setPathRt (.ite h.fset.setPathRt h.fset.setPathRt.pulse)) (.ite (.ite h h.drainPath) h.fsetB.setPathRt)

theorem Keeps.setPathFields {p v} (h : Keeps s0 s) : Keeps s0 (s.setPathFields p v) :=
  have hs := h.fset.fset.fset
  have hs' := Keeps.ite hs.rearmGrid hs
  .ite hs'.placePath hs'.refreshPath

theorem Keeps.pathCfgWrite {p v} (h : Keeps s0 s) : KeepsOk s0 (pathCfgWrite p v s) :=
  .ite .err (.ite .err (.ite .err (.ite .err (.ite .err (.ite .err (.ite .err (.ok (Keeps.ite h.setPathFields h).setEnable)))))))

theorem Keeps.pathAccess {i p v} (h : Keeps s0 s) : Keeps s0 (s.pathAccess i p v) :=
  h.access fun _ ht => ht.pathCfgWrite

theorem Keeps.execPathCfgWrite {who path value} (h : Keeps s0 s) : KeepsNext s0 (execPathCfgWrite who path value s) :=
  .next h.pathAccess

theorem Keeps.execPathEnable {who path} (h : Keeps s0 s) : KeepsNext s0 (execPathEnable who path s) :=
  .next h.pathAccess

theorem Keeps.execPathDisable {who path} (h : Keeps s0 s) : KeepsNext s0 (execPathDisable who path s) :=
  .next h.pathAccess

theorem Keeps.pathOff {p} (h : Keeps s0 s) : Keeps s0 (s.pathOff p) :=
  h.advanceTo.turnOff.setPathRt.fsetB.pulse

theorem Keeps.execPathOff {path} (h : Keeps s0 s) : KeepsNext s0 (execPathOff path s) :=
  .next (.ite h.pathOff h)

theorem Keeps.setWin {p w lo hi} (h : Keeps s0 s) : Keeps s0 (s.setWin p w lo hi) :=
  h.setWord.setWord

theorem Keeps.winHiWrite {i v} (h : Keeps s0 s) : KeepsOk s0 (winHiWrite i v s) :=
  .ite .err (.ite .err (.ite .err (.ite .err (.ite .err (.ite .err (.ok (h.setWin.dropWinStage.foldl fun _ _ ht => ht.deriveApply)))))))

theorem Keeps.execWindowCommit {who hi} (h : Keeps s0 s) : KeepsNext s0 (execWindowCommit who hi s) :=
  .next (h.access fun _ ht => ht.winHiWrite)

/-! The operations of Machine/Ptp. -/

theorem Keeps.setPtp {p} (h : Keeps s0 s) : Keeps s0 (s.setPtp p) :=
  h.update

theorem Keeps.ptpRebase (h : Keeps s0 s) : Keeps s0 s.ptpRebase :=
  h.setPtp

theorem Keeps.ptpStepBy {ns} (h : Keeps s0 s) : Keeps s0 (s.ptpStepBy ns) :=
  h.setPtp

theorem Keeps.setFreq {f} (h : Keeps s0 s) : Keeps s0 (s.setFreq f) :=
  h.ptpRebase.fsetI

theorem Keeps.xtsWrite {v} (h : Keeps s0 s) : KeepsOk s0 (xtsWrite v s) :=
  have hs := Keeps.ite h.fset h
  .ite (.ok hs.update.fset) (.ok hs)

theorem Keeps.execXtsReq {who} (h : Keeps s0 s) : KeepsNext s0 (execXtsReq who s) :=
  .next (h.access fun _ ht => ht.xtsWrite)

theorem Keeps.xtsStore {x} (h : Keeps s0 s) : Keeps s0 (s.xtsStore x) :=
  h.update.fset.fset.fset.fset.fset.fset.fset

theorem Keeps.execXtsCaptureDone (h : Keeps s0 s) : KeepsNext s0 (execXtsCaptureDone s) :=
  .next (by split; exacts [h.xtsStore, h])

theorem Keeps.ptpTimeRead {i} (h : Keeps s0 s) : Keeps s0 (ptpTimeRead i s) :=
  h.update.update.answerRead

theorem Keeps.execPtpTimeRead {who} (h : Keeps s0 s) : KeepsNext s0 (execPtpTimeRead who s) :=
  .next (h.accessRead fun _ ht => ht.ptpTimeRead)

theorem Keeps.devtimeLoRead {i} (h : Keeps s0 s) : Keeps s0 (devtimeLoRead i s) :=
  h.update.answerRead

theorem Keeps.execDevtimeLoRead {who} (h : Keeps s0 s) : KeepsNext s0 (execDevtimeLoRead who s) :=
  .next (h.accessRead fun _ ht => ht.devtimeLoRead)

theorem Keeps.setPort {st} (h : Keeps s0 s) : Keeps s0 (s.setPort st) :=
  h.fset

theorem Keeps.drivePtp (h : Keeps s0 s) : Keeps s0 s.drivePtp :=
  h.drive

theorem Keeps.ptpLock (h : Keeps s0 s) : Keeps s0 s.ptpLock :=
  h.fset.setPort.setPtp.pulse.inputValid.drivePtp.notePri

theorem Keeps.ptpUnlock {side} (h : Keeps s0 s) : Keeps s0 (s.ptpUnlock side) :=
  .ite h.setPtp.setPtp.fset.setPort.pulse.inputLost.drivePtp.notePri h.setPtp

theorem Keeps.ptpServo {offset16} (h : Keeps s0 s) : Keeps s0 (s.ptpServo offset16) :=
  .ite h (.ite h.ptpStepBy h.tookFree.setFreq)

theorem Keeps.ptpSync {offset16} (h : Keeps s0 s) : Keeps s0 (s.ptpSync offset16) :=
  have hs := h.fbump.timerStart.fsetI
  (Keeps.ite (.ite hs.setPtp.ptpUnlock hs.setPtp) (.ite hs.setPtp.ptpLock hs.setPtp)).ptpServo

theorem Keeps.ptpStamps {t1 t2 corr seq} (h : Keeps s0 s) : Keeps s0 (s.ptpStamps t1 t2 corr seq) :=
  h.setPtp.ptpSync

theorem Keeps.ptpMessage {m} (h : Keeps s0 s) : Keeps s0 (s.ptpMessage m) := by
  unfold State.ptpMessage
  split
  · exact
      have hs := Keeps.ite h h.setPtp
      .ite (.ite hs.setPort hs) h
  · exact .ite (.ite h.setPtp h.ptpStamps) h
  · refine .ite ?_ h
    split
    · exact .ite h.ptpStamps h
    · exact h
  · refine .ite ?_ h
    split
    · exact .ite h.fsetI h.pulse
    · exact h
  · exact h
  · exact h

theorem Keeps.execPtpSyncTimeout (h : Keeps s0 s) : KeepsNext s0 (execPtpSyncTimeout s) :=
  .next (.ite h.timerStop.ptpUnlock h)

theorem Keeps.ptpFreqWrite {v} (h : Keeps s0 s) : KeepsOk s0 (ptpFreqWrite v s) :=
  .ite .err (.ite .err (.ok h.setFreq))

theorem Keeps.execPtpFreqWrite {who freq} (h : Keeps s0 s) : KeepsNext s0 (execPtpFreqWrite who freq s) :=
  .next (h.access fun _ ht => ht.ptpFreqWrite)

theorem Keeps.ptpStepWrite {v} (h : Keeps s0 s) : KeepsOk s0 (ptpStepWrite v s) :=
  .ite .err (.ok h.ptpStepBy)

theorem Keeps.execPtpStep {who ns} (h : Keeps s0 s) : KeepsNext s0 (execPtpStep who ns s) :=
  .next (h.access fun _ ht => ht.ptpStepWrite)

theorem Keeps.ptpCfgWrite {v} (h : Keeps s0 s) : KeepsOk s0 (ptpCfgWrite v s) := by
  unfold Machine.ptpCfgWrite
  dsimp only
  split
  · exact .err
  · next t heq =>
    exact .ite (.ok (h.mergeReg _ heq)) (.ok (h.mergeReg _ heq).setPtp.timerStop.fset.setPort.drivePtp.notePri)

/-! The operations of Machine/Fhl. -/

theorem Keeps.setBlockLock {d l b} (h : Keeps s0 s) : Keeps s0 (s.setBlockLock d l b) :=
  h.update

theorem Keeps.driveSides (h : Keeps s0 s) : Keeps s0 s.driveSides :=
  h.foldl fun _ _ ht => ht.drive

theorem Keeps.setFlow {f r} (h : Keeps s0 s) : Keeps s0 (s.setFlow f r) :=
  h.update

theorem Keeps.setFlowSt {f st} (h : Keeps s0 s) : Keeps s0 (s.setFlowSt f st) :=
  h.fset

theorem Keeps.driveFlows (h : Keeps s0 s) : Keeps s0 s.driveFlows :=
  h.drive

theorem Keeps.reanchor {f} (h : Keeps s0 s) : Keeps s0 (s.reanchor f) :=
  h.setFlowSt.setFlow.timerStart

theorem Keeps.shedSide {d} (h : Keeps s0 s) : Keeps s0 (s.shedSide d) :=
  h.foldl fun _ _ ht => .ite ht.setFlowSt (.ite ht ht.setFlowSt.pulse)

theorem Keeps.shed (h : Keeps s0 s) : Keeps s0 s.shed :=
  h.shedSide.shedSide

theorem Keeps.flowRefresh {f} (h : Keeps s0 s) : Keeps s0 (s.flowRefresh f) :=
  .ite (.ite h h.setFlowSt.timerStop) (.ite h (.ite h.reanchor h))

theorem Keeps.flowsRefresh (h : Keeps s0 s) : Keeps s0 s.flowsRefresh :=
  (h.foldl fun _ _ ht => ht.flowRefresh).shed.driveFlows

theorem Keeps.flowWrite {f v} (h : Keeps s0 s) : KeepsOk s0 (flowWrite f v s) :=
  .ite .err (.ite .err (.ite .err (.ok h.setWord.setFlowSt.setFlow.flowsRefresh)))

theorem Keeps.execFhFlowEnable {who flow en} (h : Keeps s0 s) : KeepsNext s0 (execFhFlowEnable who flow en s) :=
  .next (h.access fun _ ht => ht.flowWrite)

theorem Keeps.fibreRefresh (h : Keeps s0 s) : Keeps s0 s.fibreRefresh :=
  h.foldl fun _ _ ht => by split; exacts [.ite ht ht.canLinkLoss, .ite ht.canLinkBack ht, ht]

theorem Keeps.execFhFlowTimeout {flow} (h : Keeps s0 s) : KeepsNext s0 (execFhFlowTimeout flow s) :=
  .next (.ite h.setFlowSt.timerStop.pulse.inputLost.driveFlows.fibreRefresh h)

theorem Keeps.sideChanged {d} (h : Keeps s0 s) : Keeps s0 (s.sideChanged d) :=
  have hs := h.driveSides.shed.fibreRefresh
  .ite hs.ptpUnlock hs

theorem Keeps.laneDown {d l} (h : Keeps s0 s) : Keeps s0 (s.laneDown d l) :=
  have hs := h.fsetBit.pulse
  .ite hs.fset.fset.pulse.inputLost.sideChanged hs.sideChanged

theorem Keeps.execFhLaneUp {side lane} (h : Keeps s0 s) : KeepsNext s0 (execFhLaneUp side lane s) :=
  .next (.ite h.fsetBit.fsetBit.setBlockLock.fset.inputValid.sideChanged h)

theorem Keeps.execFhLaneDown {side lane hiber} (h : Keeps s0 s) : KeepsNext s0 (execFhLaneDown side lane hiber s) :=
  .next <|
  have hs := Keeps.ite h.fsetBit h
  have hs' := Keeps.ite hs hs.setBlockLock
  .ite hs'.laneDown hs'

theorem Keeps.sideWrite {d v} (h : Keeps s0 s) : KeepsOk s0 (sideWrite d v s) :=
  have ht := h.setWord.foldl fun _ _ ht => .ite ht ht.setBlockLock
  .ok ((Keeps.ite ht ht.fset).foldl fun _ _ ht => .ite ht ht.laneDown).refreshClocks.sideChanged

theorem Keeps.relayDrop (h : Keeps s0 s) : Keeps s0 s.relayDrop :=
  h.fbump

theorem Keeps.relay {d lane f a express bad} (h : Keeps s0 s) : Keeps s0 (s.relay d lane f a express bad) :=
  .ite h.relayDrop h.fhSend

theorem Keeps.fhDiscard {d} (h : Keeps s0 s) : Keeps s0 (s.fhDiscard d) :=
  h.fbump.pulse

theorem Keeps.noteValid {f d} (h : Keeps s0 s) : Keeps s0 (s.noteValid f d) :=
  h.setFlow

theorem Keeps.badBlocks {f n} (h : Keeps s0 s) : Keeps s0 (s.badBlocks f n) :=
  .ite h (.ite h.fset.fbump.pulse.reanchor h.fset.setFlow)

theorem Keeps.flowExpire {f at_} (h : Keeps s0 s) : Keeps s0 (s.flowExpire f at_) :=
  h.setFlow.badBlocks

theorem Keeps.flowTake {f i blocks a} (h : Keeps s0 s) : Keeps s0 (s.flowTake f i blocks a) :=
  .ite h.badBlocks h.setFlow

theorem Keeps.flowData {f seq blocks a} (h : Keeps s0 s) : Keeps s0 (s.flowData f seq blocks a) :=
  .ite h.flowExpire (.ite h.flowExpire.setFlow.flowTake (.ite h.flowExpire.setFlow.flowTake h.flowExpire))

theorem Keeps.flowAnchor {f seq blocks a} (h : Keeps s0 s) : Keeps s0 (s.flowAnchor f seq blocks a) :=
  h.setFlow.setFlowSt.pulse.flowTake

theorem Keeps.flowAcquire {f seq blocks a} (h : Keeps s0 s) : Keeps s0 (s.flowAcquire f seq blocks a) := by
  unfold State.flowAcquire
  dsimp only
  split
  · exact (h.setFlow.flowAnchor.foldl fun _ _ ht => ht.flowData).fibreRefresh
  · exact h.setFlow

theorem Keeps.flowFrame {f d seq blocks a} (h : Keeps s0 s) : Keeps s0 (s.flowFrame f d seq blocks a) :=
  .ite h.noteValid <|
  have hs := h.noteValid.timerStart.inputValid
  .ite hs.flowData (.ite hs.setFlowSt.setFlow.driveFlows.flowAcquire (.ite hs.flowAcquire hs))

theorem Keeps.iqFrame {d pc seqId blocks a} (h : Keeps s0 s) : Keeps s0 (s.iqFrame d pc seqId blocks a) := by
  unfold State.iqFrame
  split
  · exact h
  · exact .ite h.fhDiscard (Keeps.ite h.pulse h).flowFrame

theorem Keeps.execFhTxFrame {flow blocks} (h : Keeps s0 s) : KeepsNext s0 (execFhTxFrame flow blocks s) :=
  .next (.ite (h.foldl fun _ _ ht => ht.saturate).setFlow.fhSend h)

theorem Keeps.setAlign {a} (h : Keeps s0 s) : Keeps s0 (s.setAlign a) :=
  h.update

theorem Keeps.alignRefresh (h : Keeps s0 s) : Keeps s0 s.alignRefresh :=
  have hs := h.setAlign.fset.fset.fset.fset.fset
  have hs' := Keeps.ite hs.cond.pulse hs.cond
  .ite hs'.pulse hs'

theorem Keeps.feedTo {k d} (h : Keeps s0 s) : Keeps s0 (s.feedTo k d) :=
  (h.fset.foldl fun _ _ ht => ht.reanchor).pulse.shed.driveFlows.fibreRefresh.alignRefresh

theorem Keeps.execFhFeedSwitch {feed} (h : Keeps s0 s) : KeepsNext s0 (execFhFeedSwitch feed s) :=
  .next (.ite h.feedTo h)

theorem Keeps.execFhFeedReturnTimer {feed} (h : Keeps s0 s) : KeepsNext s0 (execFhFeedReturnTimer feed s) :=
  .next (.ite h.feedTo h)

theorem Keeps.feedWrite {k v} (h : Keeps s0 s) : KeepsOk s0 (feedWrite k v s) :=
  .ite .err (.ite (.ok h.fset.fset.feedTo) (.ok h.fset.fset))

theorem Keeps.execFhPreemptVerify {side ok} (h : Keeps s0 s) : KeepsNext s0 (execFhPreemptVerify side ok s) :=
  .next (.ite h.fsetB.alignRefresh h)

theorem Keeps.hopTake {hd} (h : Keeps s0 s) : Keeps s0 (s.hopTake hd) :=
  h.setAlign.timerStart.fset.alignRefresh

theorem Keeps.hopValue {x} (h : Keeps s0 s) : Keeps s0 (s.hopValue x) := by
  unfold State.hopValue
  refine .ite h.pulse ?_
  split
  · exact h.hopTake
  · exact .ite h.tookFree.hopTake (.ite h.hopTake h.setAlign)

theorem Keeps.owdRequested {d lane id stamp rx} (h : Keeps s0 s) : Keeps s0 (s.owdRequested d lane id stamp rx) :=
  (Keeps.ite h.setAlign h).fhSend

theorem Keeps.owdAnswered {d id stamp} (h : Keeps s0 s) : Keeps s0 (s.owdAnswered d id stamp) := by
  unfold State.owdAnswered
  split
  · exact .ite h.hopValue h
  · exact h

theorem Keeps.owdSend {d} (h : Keeps s0 s) : Keeps s0 (s.owdSend d) :=
  .ite h.setAlign.fhSend h

theorem Keeps.execHopMeasPeriod (h : Keeps s0 s) : KeepsNext s0 (execHopMeasPeriod s) :=
  .next h.owdSend.owdSend.timerStart.setAlign

theorem Keeps.execHopNsTimeout (h : Keeps s0 s) : KeepsNext s0 (execHopNsTimeout s) :=
  .next (.ite h.timerStop.setAlign.alignRefresh h)

theorem Keeps.alignMessage {d version group hop noPreempt reserved accOut target} (h : Keeps s0 s) :
    Keeps s0 (s.alignMessage d version group hop noPreempt reserved accOut target) :=
  .ite h.fhDiscard (.ite h h.setAlign.timerStart.alignRefresh)

theorem Keeps.execAlignPeriod (h : Keeps s0 s) : KeepsNext s0 (execAlignPeriod s) :=
  .next (by dsimp only; split; exacts [h.timerStart.alignRefresh, .ite h.timerStart.alignRefresh.fhSend h.timerStart.alignRefresh])

theorem Keeps.execAlignMessageTimeout (h : Keeps s0 s) : KeepsNext s0 (execAlignMessageTimeout s) :=
  .next (.ite h.timerStop.setAlign.alignRefresh h)

theorem Keeps.alignPath {p} (h : Keeps s0 s) : Keeps s0 (s.alignPath p) :=
  .ite h (.ite h.setDelayNs h.setDelayNs)

theorem Keeps.alignServo {p} (h : Keeps s0 s) : Keeps s0 (s.alignServo p) :=
  .ite
    (have hs := h.alignRefresh; .ite hs.alignPath hs)
    h

theorem Keeps.alignWrite {off v} (h : Keeps s0 s) : KeepsOk s0 (alignWrite off v s) := by
  unfold Machine.alignWrite
  dsimp only
  split
  · exact .err
  · next t heq =>
    exact .ok (Keeps.ite (h.mergeReg _ heq) (h.mergeReg _ heq).setAlign).alignRefresh

theorem Keeps.streamAccess {stream v} (h : Keeps s0 s) : KeepsOk s0 (streamAccess stream v s) := by
  unfold Machine.streamAccess
  dsimp only
  split
  · exact .err
  · next t heq =>
    exact .ok ((Keeps.ite (h.streamWrite _ heq).rateChanged (h.streamWrite _ heq)).restartHalf.flowsRefresh.fibreRefresh.foldl
        fun _ _ ht => .ite (.ite ht.placePath ht.refreshPath) ht).recalSince

theorem Keeps.execStreamConfigWrite {who stream value} (h : Keeps s0 s) : KeepsNext s0 (execStreamConfigWrite who stream value s) :=
  .next (h.access fun _ ht => ht.streamAccess)

/-! The operations of Machine/Frame. -/

theorem Keeps.turnOnAt {p} (h : Keeps s0 s) : Keeps s0 (s.turnOnAt p) :=
  .ite (.ite h.turnOn h.setEnable) h

theorem Keeps.offsetAtBoundary {p} (h : Keeps s0 s) : Keeps s0 (s.offsetAtBoundary p) :=
  .ite h h.refreshLag

theorem Keeps.pathBoundary {p} (h : Keeps s0 s) : Keeps s0 (s.pathBoundary p) :=
  (Keeps.ite h h.windowsInForce).offsetAtBoundary.alignServo.delayAtBoundary.turnOnAt

theorem Keeps.frameBoundary {g} (h : Keeps s0 s) : Keeps s0 (s.frameBoundary g) :=
  (h.passBoundary.foldl fun _ _ ht => ht.pathBoundary).foxBoundary.patternsAtBoundary

theorem Keeps.execFrameBoundary {group} (h : Keeps s0 s) : KeepsNext s0 (execFrameBoundary group s) :=
  .next (.ite h.frameBoundary h)

/-! The operations of Machine/Swap. -/

theorem Keeps.swapRefused {reason} (h : Keeps s0 s) : Keeps s0 (s.swapRefused reason) :=
  h.fset.fset.pulse

theorem Keeps.showPlan {x evicted} (h : Keeps s0 s) : Keeps s0 (s.showPlan x evicted) :=
  h.fset.fset.fset.fset.fset

theorem Keeps.startDrains {drains evicted} (h : Keeps s0 s) : Keeps s0 (s.startDrains drains evicted) :=
  (h.foldl fun _ _ ht => ht.setEnable).foldl fun _ _ ht => .ite ht.setCtxRt ht

theorem Keeps.armed {slot drain at_ g} (h : Keeps s0 s) : Keeps s0 (s.armed slot drain at_ g) :=
  .ite h.showPlan.swapRefused h.showPlan.update.update.setSlot.fset.fset.startDrains

theorem Keeps.arm {drain fallback at_ g} (h : Keeps s0 s) : Keeps s0 (s.arm drain fallback at_ g) := by
  unfold State.arm
  split
  · exact h.swapRefused
  · exact h.armed

theorem Keeps.swapEnds {slot reason} (h : Keeps s0 s) : Keeps s0 (s.swapEnds slot reason) :=
  h.setSlot.swapRefused

theorem Keeps.swapCtrlWrite {v} (h : Keeps s0 s) : KeepsOk s0 (swapCtrlWrite v s) := by
  unfold Machine.swapCtrlWrite
  dsimp only
  refine .ite (.ok h.fset.fset.fset.fset) ?_
  refine .ite .err ?_
  split
  · exact .ite .err (.ite .err (.ok h.fset.fset.fset.fset.swapEnds))
  · exact .ite .err (.ok h.fset.fset.fset.fset.arm)

theorem Keeps.execSwapArm {who drain fallback at_ group} (h : Keeps s0 s) : KeepsNext s0 (execSwapArm who drain fallback at_ group s) :=
  .next (h.access fun _ ht => ht.swapCtrlWrite)

theorem Keeps.execSwapDisarm {who} (h : Keeps s0 s) : KeepsNext s0 (execSwapDisarm who s) :=
  .next (h.access fun _ ht => ht.swapCtrlWrite)

theorem Keeps.execSwapDrainsDone (h : Keeps s0 s) : KeepsNext s0 (execSwapDrainsDone s) :=
  .next (.ite h.update.fset h)

theorem Keeps.execSwapPointOfNoReturn (h : Keeps s0 s) : KeepsNext s0 (execSwapPointOfNoReturn s) :=
  .next (.ite (by split; exacts [h, h.advanceTo.update]) h)

theorem Keeps.rebind {tick} (h : Keeps s0 s) : Keeps s0 (s.rebind tick) :=
  h.foldl fun _ _ ht => ht.bindEntry

theorem Keeps.showImage {slot} (h : Keeps s0 s) : Keeps s0 (s.showImage slot) :=
  (h.foldl fun _ _ ht => ht.fset.fset).fset.fset

theorem Keeps.activate {slot} (h : Keeps s0 s) : Keeps s0 (s.activate slot) :=
  (((Keeps.update (by split; exacts [h.setSlot, h])).drive.setSlot.fset.fset.showImage.foldl fun _ _ ht => ht.rebind).foldl
      fun _ _ ht => ht.placePath).foldl
    fun _ _ ht => ht.canSwap

theorem Keeps.evictCtx {c} (h : Keeps s0 s) : Keeps s0 (s.evictCtx c) := by
  unfold State.evictCtx
  exact (Keeps.ite h.setCtxState h).freeSlot.cmdResult

theorem Keeps.evict {cs} (h : Keeps s0 s) : Keeps s0 (s.evict cs) :=
  have hs := h.foldl fun _ _ ht => ht.evictCtx
  .ite hs hs.pulse

theorem Keeps.movedOn (h : Keeps s0 s) : Keeps s0 s.movedOn :=
  h.foldl fun _ _ ht => .ite ht.fset.turnOn ht

theorem Keeps.tracesCut (h : Keeps s0 s) : Keeps s0 s.tracesCut :=
  h.foldl fun _ _ ht => .ite ht.traceDone ht

theorem Keeps.swapAt {slot} (h : Keeps s0 s) : Keeps s0 (s.swapAt slot) :=
  h.advanceTo.evict.activate.movedOn.tracesCut.carriersCut.fbump.fset.fset.update.fset.pulse

theorem Keeps.execTableEccError {double} (h : Keeps s0 s) : KeepsNext s0 (execTableEccError double s) :=
  .next (.ite h (.ite h.update.pulse.drive h.fbump.pulse))

theorem Keeps.execTableScrub {slot bad} (h : Keeps s0 s) : KeepsNext s0 (execTableScrub slot bad s) :=
  .next (.ite h.refuseSlot h)

/-! The operations of Machine/Gcp. -/

theorem Keeps.hostSeen {p} (h : Keeps s0 s) : Keeps s0 (s.hostSeen p) :=
  have ht := Keeps.ite h.timerStop h.timerStart
  have ht' := (Keeps.ite ht.drive ht).inputValid
  .ite ht'.update ht'

theorem Keeps.replayed {r p} (h : Keeps s0 s) : Keeps s0 (s.replayed r p) := by
  unfold State.replayed
  split
  · exact h.hostSeen.sendOut
  · exact h.fbump.pulse

theorem Keeps.checkPkt {transport source raw} (h : Keeps s0 s) : KeepsFst s0 (s.checkPkt transport source raw) := by
  unfold State.checkPkt
  dsimp only
  refine .ite (.mk h.pulse) ?_
  refine .ite (.mk h) ?_
  refine .ite (.mk h) ?_
  refine .ite (.mk h.fbump.pulse.post) ?_
  split
  · exact .mk h.setReplay.hostSeen
  · exact .mk h.replayed

theorem Keeps.setArrived {k l} (h : Keeps s0 s) : Keeps s0 (s.setArrived k l) :=
  h.update

theorem Keeps.consume {c} (h : Keeps s0 s) : Keeps s0 (s.consume c) :=
  h.fset

theorem Keeps.pktIn {transport source raw} (h : Keeps s0 s) : Keeps s0 (s.pktIn transport source raw) := by
  unfold State.pktIn
  refine .ite h ?_
  split
  · next t heq =>
    exact (h.checkPkt.of_eq heq).setArrived
  · next t heq =>
    exact (h.checkPkt.of_eq heq)

theorem Keeps.setRqSlot {c b} (h : Keeps s0 s) : Keeps s0 (s.setRqSlot c b) :=
  h.update

theorem Keeps.ringIn {c raw} (h : Keeps s0 s) : Keeps s0 (s.ringIn c raw) := by
  unfold State.ringIn
  refine .ite h ?_
  split
  · next t heq =>
    exact (h.setRqSlot.checkPkt.of_eq heq).setArrived
  · next t heq =>
    exact (h.setRqSlot.checkPkt.of_eq heq).consume

theorem Keeps.execPacketReceived {transport source pkt} (h : Keeps s0 s) : KeepsNext s0 (execPacketReceived transport source pkt s) :=
  .next (.ite h.ringIn (.ite (.ite h.pktIn h) (.ite h.pktIn h)))

theorem Keeps.rqProdWrite {c v} (h : Keeps s0 s) : KeepsOk s0 (rqProdWrite c v s) :=
  .ok (.ite h.pulse h.fset)

theorem Keeps.execPcieRqProduce {who cls index} (h : Keeps s0 s) : KeepsNext s0 (execPcieRqProduce who cls index s) :=
  .next (h.access fun _ ht => ht.rqProdWrite)

theorem Keeps.anConsWrite {c v} (h : Keeps s0 s) : KeepsOk s0 (anConsWrite c v s) :=
  .ok (.ite h.pulse h.fset.flushRing)

theorem Keeps.execPcieAnConsume {who cls index} (h : Keeps s0 s) : KeepsNext s0 (execPcieAnConsume who cls index s) :=
  .next (h.access fun _ ht => ht.anConsWrite)

theorem Keeps.emptyRings {c} (h : Keeps s0 s) : Keeps s0 (s.emptyRings c) :=
  ((h.update.foldl fun _ _ ht => ht.freeBuf).foldl fun _ _ ht => ht.freeOf).setQueue.setAnWaiting.setArrived.fset.fset

theorem Keeps.ringWrite {c v} (h : Keeps s0 s) : KeepsOk s0 (ringWrite c v s) :=
  .ok (.ite h.fset.emptyRings h.fset.flushRing)

theorem Keeps.execPcieRingEnable {who cls en} (h : Keeps s0 s) : KeepsNext s0 (execPcieRingEnable who cls en s) :=
  .next (h.access fun _ ht => ht.ringWrite)

theorem Keeps.pcieDown (h : Keeps s0 s) : Keeps s0 s.pcieDown :=
  h.fset.fset.fset.pulse.inputLost

theorem Keeps.execPcieLinkChange {up speed width} (h : Keeps s0 s) : KeepsNext s0 (execPcieLinkChange up speed width s) :=
  .next (.ite h (.ite h.fset.fset.fset.pulse.inputValid.flushRing.flushRing.flushRing h.pcieDown))

theorem Keeps.mgeRange (h : Keeps s0 s) : Keeps s0 s.mgeRange :=
  h.pulse

theorem Keeps.mgeDrop (h : Keeps s0 s) : Keeps s0 s.mgeDrop :=
  h.fbump

theorem Keeps.mgeFrame {f} (h : Keeps s0 s) : Keeps s0 (s.mgeFrame f) := by
  unfold State.mgeFrame
  split
  · exact .ite h.mgeRange (.ite h.update h.mgeDrop)
  · exact .ite h.mgeRange (.ite h.update h.mgeDrop)
  · exact .ite h.mgeRange (.ite h.pktIn h.mgeDrop)
  · exact .ite h.mgeRange h.mgeDrop

theorem Keeps.execMgeFrame {frame} (h : Keeps s0 s) : KeepsNext s0 (execMgeFrame frame s) :=
  .next (.ite h.mgeFrame h)

theorem Keeps.mgeDown (h : Keeps s0 s) : Keeps s0 s.mgeDown :=
  h.fset.timerStart.pulse

theorem Keeps.execMgeLinkChange {up} (h : Keeps s0 s) : KeepsNext s0 (execMgeLinkChange up s) :=
  .next (.ite h (.ite h.fset.timerStop.inputValid.pulse h.mgeDown))

theorem Keeps.execMgeLinkTimeout (h : Keeps s0 s) : KeepsNext s0 (execMgeLinkTimeout s) :=
  .next (.ite h.timerStop.inputLost h)

theorem Keeps.setNoBuf {k n} (h : Keeps s0 s) : Keeps s0 (s.setNoBuf k n) :=
  h.update

theorem Keeps.enqueue {p} (h : Keeps s0 s) : Keeps s0 (s.enqueue p) :=
  h.takeBuf.setNoBuf.setQueue

theorem Keeps.setStaging {transport l} (h : Keeps s0 s) : Keeps s0 (s.setStaging transport l) :=
  h.update

theorem Keeps.flushStaging {transport} (h : Keeps s0 s) : Keeps s0 (s.flushStaging transport) :=
  h.setStaging.foldl fun _ _ ht => ht.sendOut

theorem Keeps.noBuffer {p} (h : Keeps s0 s) : Keeps s0 (s.noBuffer p) :=
  .ite h.fbump.pulse h.setNoBuf.countAnswer.keepAnswer.setStaging

theorem Keeps.allocPcie (h : Keeps s0 s) : Keeps s0 s.allocPcie := by
  unfold State.allocPcie
  split
  · exact h
  · split
    · exact h
    · exact h.setArrived.enqueue.consume

theorem Keeps.allocFrame {transport} (h : Keeps s0 s) : Keeps s0 (s.allocFrame transport) := by
  unfold State.allocFrame
  dsimp only
  split
  · exact h
  · exact .ite h.setArrived.enqueue h.setArrived.noBuffer

theorem Keeps.setFn {f st} (h : Keeps s0 s) : Keeps s0 (s.setFn f st) :=
  h.fset

theorem Keeps.startClass {c} (h : Keeps s0 s) : Keeps s0 (s.startClass c) := by
  unfold State.startClass
  dsimp only
  split
  · exact h
  · split
    · exact h.update
    · split
      · exact h.update.setQueue.setRunning.refused
      · exact h.update.setQueue.setRunning

theorem Keeps.setControlRun {n} (h : Keeps s0 s) : Keeps s0 (s.setControlRun n) :=
  h.update

theorem Keeps.execPacketExecute (h : Keeps s0 s) : KeepsNext s0 (execPacketExecute s) :=
  .next <|
  .ite h <|
  .ite h.startClass <|
  .ite (.ite h.setControlRun.startClass h.setControlRun.startClass) (.ite h.setControlRun.startClass h.setControlRun.startClass)

theorem Keeps.execQueueTimeout {queue} (h : Keeps s0 s) : KeepsNext s0 (execQueueTimeout queue s) :=
  .next (by split; exacts [h, .ite h.setQueue.pulse.answerPkt h])

theorem Keeps.execHostTimeout (h : Keeps s0 s) : KeepsNext s0 (execHostTimeout s) :=
  .next (.ite h.timerStop.inputLost.drive h)

theorem Keeps.hostWrite {v} (h : Keeps s0 s) : KeepsOk s0 (hostWrite v s) :=
  .ok (.ite h.fset.timerStop.drive.inputValid h.fset.timerStart)

theorem Keeps.gcpReset (h : Keeps s0 s) : Keeps s0 s.gcpReset :=
  (h.update.foldl fun _ _ ht => ht.fset.setGridSum).fset.foldl fun _ _ ht => ht.poolMarks

theorem Keeps.serve {q typ} {f : Pkt → State} (h : Keeps s0 s) (hf : ∀ x, Keeps s0 (f x)) : Keeps s0 (s.serve q typ f) := by
  unfold State.serve
  split
  · exact .ite (.ite (hf _) h.refused) h
  · exact h

theorem Keeps.execInfo {queue} (h : Keeps s0 s) : KeepsNext s0 (execInfo queue s) :=
  .next (h.serve fun _ => .ite h.refused h.finish)

theorem Keeps.execTimeRead {queue} (h : Keeps s0 s) : KeepsNext s0 (execTimeRead queue s) :=
  .next (h.serve fun _ => .ite h.refused h.finish)

theorem Keeps.execImageSeg {queue} (h : Keeps s0 s) : KeepsNext s0 (execImageSeg queue s) := by
  refine .next (h.serve fun _ => .ite h.refused (.ite h.refused ?_))
  split
  · exact h
  · split
    · exact h.refused
    · next t heq => exact (h.loadSegment _ heq).served

theorem Keeps.execTapRead {queue} (h : Keeps s0 s) : KeepsNext s0 (execTapRead queue s) :=
  .next (h.serve fun _ => by dsimp only; split; exacts [h.refused, .ite h.refused (.ite h.refused (.ite h.finish h.finish))])

theorem Keeps.writeTaps {b i l} (h : Keeps s0 s) : KeepsFst s0 (s.writeTaps b i l) := by
  induction l generalizing s b i with
  | nil => exact .mk h
  | cons k rest ih =>
    unfold State.writeTaps
    split
    · exact ih h.update
    · exact .mk h

theorem Keeps.execTapWrite {queue} (h : Keeps s0 s) : KeepsNext s0 (execTapWrite queue s) := by
  refine .next (h.serve fun _ => .ite h.refused ?_)
  split
  · exact h.refused
  · exact h
  · split
    · exact h.refused
    · refine .ite h.refused ?_
      dsimp only
      split
      · next t heq => exact (h.writeTaps.of_eq heq).refused
      · next t heq =>
        have ht := h.writeTaps.of_eq heq
        exact .ite ht.refused (.ite ht.refused ht.served)

theorem Keeps.execCtxRead {queue} (h : Keeps s0 s) : KeepsNext s0 (execCtxRead queue s) :=
  .next (h.serve fun _ => by split; exacts [h, .ite h.refused (.ite h.selectCtx.refused h.selectCtx.takeSnapshot.finish)])

theorem Keeps.writeCtxWords {i first b k n} (h : Keeps s0 s) : KeepsFst s0 (s.writeCtxWords i first b k n) := by
  induction n generalizing s b k with
  | zero => exact .mk h
  | succ n ih => exact .ite (.mk h.writeAperture) (ih h.writeAperture)

theorem Keeps.dropStaged {hd} (h : Keeps s0 s) : Keeps s0 (s.dropStaged hd) :=
  h.setWindow

theorem Keeps.execCtxWrite {queue} (h : Keeps s0 s) : KeepsNext s0 (execCtxWrite queue s) := by
  refine .next (h.serve fun _ => ?_)
  dsimp only
  split
  · exact h
  · refine .ite h.refused (.ite h.selectCtx.refused ?_)
    split
    · next t heq => exact (h.selectCtx.takeSnapshot.writeCtxWords.of_eq heq).dropStaged.refused
    · next t heq =>
      exact
        have ht := (h.selectCtx.takeSnapshot.writeCtxWords.of_eq heq).commitWindow
        .ite ht.dropStaged.refused ht.begun

theorem Keeps.admitGrid {q w y} (h : Keeps s0 s) : Keeps s0 (s.admitGrid q w y) :=
  .ite h.finish <|
  have ht := h.setGridSum.begun
  .ite ht.gridEnd (ht.foldl fun _ _ ht => ht.pushGrid)

theorem Keeps.execGridSc {queue} (h : Keeps s0 s) : KeepsNext s0 (execGridSc queue s) :=
  .next (h.serve fun _ => .ite h.refused (.ite h.finish (.ite h.finish h.admitGrid)))

theorem Keeps.execGridWr {queue} (h : Keeps s0 s) : KeepsNext s0 (execGridWr queue s) :=
  .next (h.serve fun _ => .ite h.refused (.ite h.refused h.admitGrid))

/-- A fold with places keeps what every step of it keeps of the state that it carries. -/
theorem Keeps.foldIdx_s {α β : Type} {st : β → State} {f : β → Nat → α → β} (hf : ∀ r k a, Keeps s0 (st r) → Keeps s0 (st (f r k a))) {l : List α} {r : β} {k : Nat}
    (h : Keeps s0 (st r)) : Keeps s0 (st (foldIdx f r k l)) := by
  induction l generalizing r k with
  | nil => exact h
  | cons a rest ih => exact ih (hf r k a h)

theorem Keeps.beamRefuse {entry code} {r : BeamRun} (h : Keeps s0 r.s) : Keeps s0 (r.refuse entry code).s := h

theorem Keeps.beamPort {entry sfn row beam n} {r : BeamRun} (h : Keeps s0 r.s) : Keeps s0 (r.port entry sfn row beam n).s := by
  unfold BeamRun.port
  dsimp only
  split
  · exact h.beamRefuse
  · split
    · exact h.beamRefuse
    · split
      · exact h.beamRefuse
      · split
        · next t heq => exact h.felTimed_queued heq
        · next t heq => exact (h.felTimed_late heq).beamRefuse (r := { r with s := t })
        · exact h

theorem Keeps.beamEntry {i e} {r : BeamRun} (h : Keeps s0 r.s) : Keeps s0 (r.entry i e).s := by
  unfold BeamRun.entry
  dsimp only
  split
  · exact h.beamRefuse
  · exact List.foldlRecOn (motive := fun r : BeamRun => Keeps s0 r.s) _ _ h fun _ hr _ _ => hr.beamPort

theorem Keeps.beamEntries {k l} (h : Keeps s0 s) : Keeps s0 (foldIdx BeamRun.entry { s := s } k l).s :=
  Keeps.foldIdx_s (st := BeamRun.s) (r := { s := s }) (fun _ _ _ hr => hr.beamEntry) h

theorem Keeps.execBeam {queue} (h : Keeps s0 s) : KeepsNext s0 (execBeam queue s) :=
  .next (h.serve fun _ => .ite h.refused (.ite h.refused (.ite h.finish (by
    split
    · exact h.beamEntries.refused
    · exact .ite h.beamEntries.refused h.beamEntries.served))))

theorem Keeps.remotePkt {q p} {f : Fin 16 → State} (h : Keeps s0 s) (hf : ∀ x, Keeps s0 (f x)) : Keeps s0 (s.remotePkt q p f) :=
  .ite h.refused (.ite h.refused (.dite (fun _ => (hf _).served) (fun _ => h.refused)))

theorem Keeps.execRemoteMute {queue} (h : Keeps s0 s) : KeepsNext s0 (execRemoteMute queue s) :=
  .next (h.serve fun _ => .ite h (.ite h.refused (h.remotePkt fun _ => h.foxTrigger)))

theorem Keeps.execRemoteMuteClear {queue} (h : Keeps s0 s) : KeepsNext s0 (execRemoteMuteClear queue s) :=
  .next (h.serve fun _ => .ite (h.remotePkt fun _ => h.remoteClear) h)

theorem Keeps.execFoxClear {queue} (h : Keeps s0 s) : KeepsNext s0 (execFoxClear queue s) := by
  refine .next (h.serve fun _ => ?_)
  dsimp only
  split
  · exact h
  · exact .ite h.refused (.ite h.refused (.ite h.refused (.ite h.foxClear.served h.refused)))

theorem Keeps.execTraceRead {queue} (h : Keeps s0 s) : KeepsNext s0 (execTraceRead queue s) :=
  .next (h.serve fun _ => .ite h.refused (.ite h.refused (.ite h.refused (.ite h.refused h.finish))))

theorem Keeps.execRecRead {queue} (h : Keeps s0 s) : KeepsNext s0 (execRecRead queue s) :=
  .next (h.serve fun _ => .ite h.refused <| .ite h.refused <| .ite h.refused <|
    have ht := h.foldl fun _ _ ht => by split; exacts [ht.nvUncorrectable, ht]
    ht.finish)

/-! The operations of Machine/Cap. -/

theorem Keeps.setCap {n r} (h : Keeps s0 s) : Keeps s0 (s.setCap n r) :=
  h.update

theorem Keeps.capReport {n} (h : Keeps s0 s) : Keeps s0 (s.capReport n) :=
  h.report

theorem Keeps.capFree {n} (h : Keeps s0 s) : Keeps s0 (s.capFree n) :=
  h.fset.fset.setCap

theorem Keeps.capDrained {n} (h : Keeps s0 s) : Keeps s0 (s.capDrained n) :=
  .ite h.capReport.capFree h

theorem Keeps.capEnd {n reason} (h : Keeps s0 s) : Keeps s0 (s.capEnd n reason) :=
  .ite h.fset.fset.setCap.pulse.capDrained h

theorem Keeps.capClose {n} (h : Keeps s0 s) : Keeps s0 (s.capClose n) :=
  .ite h.capFree h.capEnd

theorem Keeps.capRate {n tap qual} (h : Keeps s0 s) : Keeps s0 (s.capRate n tap qual) := by
  unfold State.capRate
  split
  · exact h.fset
  · exact h.fset.tookFree

theorem Keeps.capOpen {n p id} (h : Keeps s0 s) : Keeps s0 (s.capOpen n p id) :=
  h.setCap.fset.fset.fset.fset.fset.fset.fset.fset.fset.fset.capRate

theorem Keeps.execCapOpen {queue slotOk} (h : Keeps s0 s) : KeepsNext s0 (execCapOpen queue slotOk s) := by
  refine .next (h.serve fun _ => ?_)
  dsimp only
  split
  · exact h
  · refine .ite h.refused (.ite h.refused ?_)
    split
    · exact h.refused
    · exact h
    · exact h.capOpen.finish

theorem Keeps.execCapClose {queue} (h : Keeps s0 s) : KeepsNext s0 (execCapClose queue s) :=
  .next (h.serve fun _ => .ite h.refused (by split; exacts [h.refused, h.capClose.served]))

theorem Keeps.execCapRead {queue} (h : Keeps s0 s) : KeepsNext s0 (execCapRead queue s) :=
  .next (h.serve fun _ => .ite h.refused (by split; exacts [h.refused, by split; exacts [.ite h.refused h.finish, h.refused]]))

theorem Keeps.scmdWrite {i v} (h : Keeps s0 s) : KeepsOk s0 (scmdWrite i v s) := by
  unfold Machine.scmdWrite
  split
  · exact .err
  · exact .err
  · exact .err
  · exact .ok (.ite h.capClose h)

theorem Keeps.execCapScmdClose {who} (h : Keeps s0 s) : KeepsNext s0 (execCapScmdClose who s) :=
  .next (h.access fun _ ht => ht.scmdWrite)

theorem Keeps.execCapSessionStart {session} (h : Keeps s0 s) : KeepsNext s0 (execCapSessionStart session s) :=
  .next (.ite h.advanceTo.fset h)

theorem Keeps.capAdvance {n bytes} (h : Keeps s0 s) : Keeps s0 (s.capAdvance n bytes) :=
  have ht := h.fset.fset.setCap
  .ite ht.setCap.pulse ht

theorem Keeps.capDrop {n} (h : Keeps s0 s) : Keeps s0 (s.capDrop n) :=
  h.fbump.setCap.pulse

theorem Keeps.capStore {n first data} (h : Keeps s0 s) : Keeps s0 (s.capStore n first data) :=
  h.setCap

theorem Keeps.execCaptureRecord {session first samples queueFull} (h : Keeps s0 s) :
    KeepsNext s0 (execCaptureRecord session first samples queueFull s) :=
  .next <|
  .ite h <|
  .ite h.capEnd <|
  have ht := Keeps.ite h.capDrop h.capStore
  .ite ht.capAdvance.capEnd ht.capAdvance

theorem Keeps.capCheck (h : Keeps s0 s) : Keeps s0 s.capCheck :=
  h.foldl fun _ _ ht => .ite ht.capEnd ht

theorem Keeps.capLossTick (h : Keeps s0 s) : Keeps s0 s.capLossTick :=
  h.foldl fun _ _ ht => .ite ht (.ite (.ite ht.setCap ht) (.ite ht.setCap ht))

theorem Keeps.execCapDestTimeout {session} (h : Keeps s0 s) : KeepsNext s0 (execCapDestTimeout session s) :=
  .next (by split; exacts [.ite h.capEnd h, h])

theorem Keeps.capReset (h : Keeps s0 s) : Keeps s0 s.capReset :=
  h.foldl fun _ _ ht => .ite ht.setWord ht.pulse.capFree.setWord.fset

theorem Keeps.ownPacket {ident transport source cls typ arg16 payload} (h : Keeps s0 s) :
    Keeps s0 (s.ownPacket ident transport source cls typ arg16 payload) :=
  h.update.takeBuf.sendOut

theorem Keeps.sendReport (h : Keeps s0 s) : Keeps s0 s.sendReport := by
  unfold State.sendReport
  dsimp only
  split
  · exact h
  · split
    · exact h.update.ownPacket
    · exact h.update.fbump.pulse

theorem Keeps.execReport (h : Keeps s0 s) : KeepsNext s0 (execReport s) :=
  .next (.ite h.sendReport h)

theorem Keeps.recordDrop {n r rest} (h : Keeps s0 s) : Keeps s0 (s.recordDrop n r rest) := by
  unfold State.recordDrop
  dsimp only
  split
  · exact h.fbump.pulse.setCap
  · exact h.fbump.pulse.setCap

theorem Keeps.sendRecord {n} (h : Keeps s0 s) : Keeps s0 (s.sendRecord n) := by
  unfold State.sendRecord
  split
  · exact h
  · exact .ite h (Keeps.ite h.setCap.ownPacket h.recordDrop).capDrained

theorem Keeps.execCapData {session} (h : Keeps s0 s) : KeepsNext s0 (execCapData session s) :=
  .next (.ite h.sendRecord h)

theorem Keeps.allocInternal (h : Keeps s0 s) : Keeps s0 s.allocInternal := by
  unfold State.allocInternal
  refine .ite h.sendReport ?_
  split
  · exact h.sendRecord
  · exact h

theorem Keeps.bufGranted {r} (h : Keeps s0 s) : Keeps s0 (s.bufGranted r) :=
  h.update

theorem Keeps.bufServe {r} (h : Keeps s0 s) : Keeps s0 (s.bufServe r) :=
  .ite h.allocPcie (.ite h.allocInternal h.allocFrame)

theorem Keeps.execBufferAllocate {requester busy} (h : Keeps s0 s) : KeepsNext s0 (execBufferAllocate requester busy s) :=
  .next <|
  .ite h <|
  have ht := Keeps.ite h.bufGranted.bufServe h
  .ite ht ht.flushStaging

theorem Keeps.gridCut {q} (h : Keeps s0 s) : Keeps s0 (s.gridCut q) :=
  .ite h.setGridSum.setGridQueue.setGridQueue h

theorem Keeps.fnOff {f} (h : Keeps s0 s) : Keeps s0 (s.fnOff f) :=
  .ite (.ite (h.setFn.foldl fun _ _ ht => ht.gridCut) (.ite (h.setFn.foldl fun _ _ ht => ht.capEnd) h.setFn)) (.ite h.update h)

theorem Keeps.fnOn {f} (h : Keeps s0 s) : Keeps s0 (s.fnOn f) :=
  .ite h.setFn (.ite h.update h)

theorem Keeps.fnEnWrite {v} (h : Keeps s0 s) : KeepsOk s0 (fnEnWrite v s) :=
  .ok (h.fset.foldl fun _ _ ht => .ite ht.fnOn ht.fnOff)

theorem Keeps.execFnDisable {who fn} (h : Keeps s0 s) : KeepsNext s0 (execFnDisable who fn s) :=
  .next (h.access fun _ ht => ht.fnEnWrite)

theorem Keeps.execFnEnable {who fn} (h : Keeps s0 s) : KeepsNext s0 (execFnEnable who fn s) :=
  .next (h.access fun _ ht => ht.fnEnWrite)

theorem Keeps.execFnDrained {fn} (h : Keeps s0 s) : KeepsNext s0 (execFnDrained fn s) :=
  .next (.ite (.ite h.setFn.pulse.update.setFn h.setFn.pulse) h)

theorem Keeps.capSwap {lost} (h : Keeps s0 s) : Keeps s0 (s.capSwap lost) :=
  h.foldl fun _ _ ht => .ite ht.capEnd ht

/-! The operations of Machine/Hka. -/

theorem Keeps.setHka {c r} (h : Keeps s0 s) : Keeps s0 (s.setHka c r) :=
  h.update

theorem Keeps.hkaShow {c} (h : Keeps s0 s) : Keeps s0 (s.hkaShow c) :=
  h.fset.fset

theorem Keeps.hkaShowAll (h : Keeps s0 s) : Keeps s0 s.hkaShowAll :=
  h.hkaShow.hkaShow

theorem Keeps.hkaLoss (h : Keeps s0 s) : Keeps s0 s.hkaLoss :=
  h.cond

theorem Keeps.twinRuns (h : Keeps s0 s) : Keeps s0 s.twinRuns := by
  unfold State.twinRuns
  split
  · exact .ite h.setHka h
  · exact h

theorem Keeps.converts {c} (h : Keeps s0 s) : Keeps s0 (s.converts c) :=
  .ite h.setHka.twinRuns h.setHka

theorem Keeps.scanBegins {c} (h : Keeps s0 s) : Keeps s0 (s.scanBegins c) :=
  (Keeps.ite h.setHka h.setHka.converts).foldl fun _ _ ht => .ite ht.fset ht

theorem Keeps.scanStart {c} (h : Keeps s0 s) : Keeps s0 (s.scanStart c) :=
  .ite h (.ite h.scanBegins.hkaShowAll (.ite h.fbump.pulse h.fset))

theorem Keeps.scanNext {c} (h : Keeps s0 s) : Keeps s0 (s.scanNext c) :=
  .ite h (.ite h.fset.scanBegins (.ite h.scanBegins h))

theorem Keeps.entryAgain {c} (h : Keeps s0 s) : Keeps s0 (s.entryAgain c) :=
  .ite h.twinRuns (.ite h h.converts)

theorem Keeps.hkaAbandon {c} (h : Keeps s0 s) : Keeps s0 (s.hkaAbandon c) :=
  .ite h.setHka.fbump.pulse h

theorem Keeps.urgentNext (h : Keeps s0 s) : Keeps s0 s.urgentNext := by
  unfold State.urgentNext
  dsimp only
  refine .ite h ?_
  split
  · exact h
  · exact .ite h.hkaAbandon.update h

theorem Keeps.hkaResume {c} (h : Keeps s0 s) : Keeps s0 (s.hkaResume c) :=
  (Keeps.ite h.urgentNext h.urgentNext.entryAgain).scanNext.hkaShowAll

theorem Keeps.hkaStart {c} (h : Keeps s0 s) : Keeps s0 (s.hkaStart c) :=
  .ite h.scanStart h

theorem Keeps.calOne {c} (h : Keeps s0 s) : Keeps s0 (s.calOne c) :=
  .ite h <|
  have hs := Keeps.ite h.hkaAbandon.update.fbump.pulse h.hkaAbandon
  (Keeps.ite hs.setHka.timerStart hs.setHka).urgentNext

theorem Keeps.hkaCal {c} (h : Keeps s0 s) : Keeps s0 (s.hkaCal c) :=
  (Keeps.ite h.calOne.calOne h.calOne).hkaShowAll

theorem Keeps.refStart {c} (h : Keeps s0 s) : Keeps s0 (s.refStart c) :=
  have hs := Keeps.ite h.fset.setHka.update h.fset.setHka
  .ite hs.timerStop hs.timerStart

theorem Keeps.hkaOff {c} (h : Keeps s0 s) : Keeps s0 (s.hkaOff c) :=
  (Keeps.ite h.setHka.update h.setHka).fset.fset.timerStop.timerStop.urgentNext

theorem Keeps.hkaCfgApply {c w} (h : Keeps s0 s) : Keeps s0 (s.hkaCfgApply c w) :=
  have hs := Keeps.ite h.setWord.setHka h.setWord.setHka
  have hs' := Keeps.ite hs.hkaOff (.ite hs.refStart hs)
  .ite hs'.hkaOff.hkaShowAll <|
  have hs'' := Keeps.ite (have ht'' := hs'.fset.refStart; .ite ht''.refStart ht'') hs'
  (Keeps.ite (.ite hs'' hs''.timerStart) hs''.timerStop).hkaLoss.hkaShowAll

theorem Keeps.hkaApply {off w} (h : Keeps s0 s) : Keeps s0 (s.hkaApply off w) := by
  unfold State.hkaApply
  dsimp only
  refine .ite h.hkaCfgApply ?_
  split
  · next t heq =>
    exact (h.mergeReg _ heq)
  · exact h

theorem Keeps.hkaCfgWrite {off v} (h : Keeps s0 s) : KeepsOk s0 (hkaCfgWrite off v s) :=
  .ite .err (.ite .err (.ite .err (.ite (.ok h.setHka) (.ok (.ite h.hkaApply.scanNext.hkaShowAll h.hkaApply)))))

theorem Keeps.calEnds {c} (h : Keeps s0 s) : Keeps s0 (s.calEnds c) :=
  (h.setHka.timerStop.foldl fun _ _ ht => ht.hkaApply).hkaResume

theorem Keeps.hkaAbort {c} (h : Keeps s0 s) : Keeps s0 (s.hkaAbort c) :=
  .ite h.fset.calEnds h.hkaAbandon.setHka.scanNext.hkaShowAll

theorem Keeps.hkaCmdWrite {c v} (h : Keeps s0 s) : KeepsOk s0 (hkaCmdWrite c v s) :=
  have hs := Keeps.ite h.hkaAbort h
  have hs' := Keeps.ite hs.hkaCal hs
  .ok (.ite hs'.hkaStart hs')

theorem Keeps.execHkaStart {who conv} (h : Keeps s0 s) : KeepsNext s0 (execHkaStart who conv s) :=
  .next (h.access fun _ ht => ht.hkaCmdWrite)

theorem Keeps.execHkaCal {who conv} (h : Keeps s0 s) : KeepsNext s0 (execHkaCal who conv s) :=
  .next (h.access fun _ ht => ht.hkaCmdWrite)

theorem Keeps.execHkaAbort {who conv} (h : Keeps s0 s) : KeepsNext s0 (execHkaAbort who conv s) :=
  .next (h.access fun _ ht => ht.hkaCmdWrite)

theorem Keeps.hkaUrgWrite {v} (h : Keeps s0 s) : KeepsOk s0 (hkaUrgWrite v s) :=
  .ite .err (.ite (.ok h.fset.fset) (.ite .err (.ok h.fset.fset.update.urgentNext.hkaShowAll)))

theorem Keeps.execHkaUrgentRequest {who ch div} (h : Keeps s0 s) : KeepsNext s0 (execHkaUrgentRequest who ch div s) :=
  .next (h.access fun _ ht => ht.hkaUrgWrite)

theorem Keeps.execHkaScanTimer {conv} (h : Keeps s0 s) : KeepsNext s0 (execHkaScanTimer conv s) :=
  .next (.ite h.timerStart.scanStart h)

theorem Keeps.pwmEvent {k centre} (h : Keeps s0 s) : Keeps s0 (s.pwmEvent k centre) :=
  h.foldl fun _ _ ht => .ite (.ite ht.scanStart (.ite ht.converts.hkaShowAll ht)) ht

theorem Keeps.hkaValue {ch v} (h : Keeps s0 s) : KeepsFst s0 (s.hkaValue ch v) :=
  .mk (.ite h h.saturate)

theorem Keeps.hkaStore {d k c ch code} (h : Keeps s0 s) : Keeps s0 (s.hkaStore d k c ch code) :=
  .ite
    (have hs := h.fset.pulse.setHka; (Keeps.ite hs.fset hs).hkaLoss)
    h.hkaValue.fst.setHka.fset.fset.fset.fset.fsetI.hkaLoss

theorem Keeps.urgentDone {c code} (h : Keeps s0 s) : Keeps s0 (s.urgentDone c code) :=
  (Keeps.ite h.fset.pulse h.hkaValue.fst.fset.fset.fset.fset.fsetI).update.pulse.hkaResume

theorem Keeps.scanAdvance {c} (h : Keeps s0 s) : Keeps s0 (s.scanAdvance c) :=
  .ite (Keeps.ite h.setHka h.setHka.converts).hkaShowAll h.setHka.fset.pulse.scanNext.hkaShowAll

theorem Keeps.execHkaConversionDone {conv code} (h : Keeps s0 s) : KeepsNext s0 (execHkaConversionDone conv code s) :=
  .next (.ite h (.ite h.urgentDone (.ite (by split; exacts [h.setHka.hkaStore.twinRuns.hkaShowAll, h]) (.ite h.hkaStore.scanAdvance h))))

theorem Keeps.execHkaCalDone {conv pass off gain} (h : Keeps s0 s) : KeepsNext s0 (execHkaCalDone conv pass off gain s) :=
  .next (.ite (Keeps.ite h.fset.fset.fset h.fset).pulse.calEnds h)

theorem Keeps.refFallback {c} (h : Keeps s0 s) : Keeps s0 (s.refFallback c) :=
  have hs := h.fset.pulse.refStart
  (Keeps.ite hs.refStart hs).hkaLoss.hkaShowAll

theorem Keeps.vrefOne {mv c} (h : Keeps s0 s) : Keeps s0 (s.vrefOne mv c) :=
  .ite h (.ite (.ite h.setHka h.setHka.timerStart) (.ite h.pulse.refFallback h.setHka.pulse))

theorem Keeps.execVrefextCheck {mv} (h : Keeps s0 s) : KeepsNext s0 (execVrefextCheck mv s) :=
  .next h.vrefOne.vrefOne

theorem Keeps.execRefSettled {conv} (h : Keeps s0 s) : KeepsNext s0 (execRefSettled conv s) :=
  .next <|
  .ite
    (have hs := h.fset.timerStop; (Keeps.ite hs.timerStart hs).hkaResume)
    h

theorem Keeps.hkaCoefWrite {i off v} (h : Keeps s0 s) : KeepsOk s0 (hkaCoefWrite i off v s) := by
  unfold Machine.hkaCoefWrite
  exact .ite (.ok h.setCoefStage) (.ite (.ok h.setWord.setWord.setCoefStage) .err)

theorem Keeps.hkaReset (h : Keeps s0 s) : Keeps s0 s.hkaReset :=
  h.update.foldl fun _ _ ht => (Keeps.ite ht.calEnds ht).fset.fset.fset.setHka

/-! The operations of Machine/Fan. -/

theorem Keeps.setFan {j r} (h : Keeps s0 s) : Keeps s0 (s.setFan j r) :=
  h.update

theorem Keeps.driveFans (h : Keeps s0 s) : Keeps s0 s.driveFans :=
  h.drive

theorem Keeps.fanCheck {j} (h : Keeps s0 s) : Keeps s0 (s.fanCheck j) :=
  .ite (.ite h h.timerStart) h.timerStop.fset.cond.driveFans

theorem Keeps.fanCheckAll (h : Keeps s0 s) : Keeps s0 s.fanCheckAll :=
  h.foldl fun _ _ ht => ht.fanCheck

theorem Keeps.fanStop {j} (h : Keeps s0 s) : Keeps s0 (s.fanStop j) :=
  h.setFan.fset.fset

theorem Keeps.fanCfgWrite {j v} (h : Keeps s0 s) : KeepsOk s0 (fanCfgWrite j v s) := by
  unfold Machine.fanCfgWrite
  dsimp only
  split
  · exact .err
  · next t heq =>
    have ht := h.mergeReg t heq
    exact .ok (Keeps.ite ht.fanStop.timerStart (.ite ht.fanStop.fset.timerStop.inputValid ht)).fanCheck

theorem Keeps.fanSpeed {j} (h : Keeps s0 s) : Keeps s0 (s.fanSpeed j) :=
  .ite h h.fset.fsetI.tookFree

theorem Keeps.fanReverse {j rev} (h : Keeps s0 s) : Keeps s0 (s.fanReverse j rev) :=
  h.fbump.pulse.setFan.fsetB.fset.fset

theorem Keeps.fanEdge {j gap rev} (h : Keeps s0 s) : Keeps s0 (s.fanEdge j gap rev) :=
  have hs := h.timerStart.inputValid
  .ite hs.setFan.fset (.ite hs.fanReverse (Keeps.ite hs.fsetB hs).setFan.fanSpeed)

theorem Keeps.execTachEdge {fan gap dir} (h : Keeps s0 s) : KeepsNext s0 (execTachEdge fan gap dir s) :=
  .next (.ite h (.ite h.fbump.pulse h.fanEdge.fanCheck))

theorem Keeps.execFanStallTimeout {fan} (h : Keeps s0 s) : KeepsNext s0 (execFanStallTimeout fan s) :=
  .next (.ite h.fanStop.timerStop.inputLost.fanCheck h)

theorem Keeps.execFanFailTimeout {fan} (h : Keeps s0 s) : KeepsNext s0 (execFanFailTimeout fan s) :=
  .next (.ite h.fset.cond.driveFans h)

theorem Keeps.setPwm {k r} (h : Keeps s0 s) : Keeps s0 (s.setPwm k r) :=
  h.update

theorem Keeps.drivePwm (h : Keeps s0 s) : Keeps s0 s.drivePwm :=
  h.drive

theorem Keeps.setPwmState {k st} (h : Keeps s0 s) : Keeps s0 (s.setPwmState k st) :=
  h.fset.drivePwm.fanCheckAll

theorem Keeps.softBegin {k} (h : Keeps s0 s) : Keeps s0 (s.softBegin k) :=
  h.setPwm.setPwmState

theorem Keeps.pwmOff {k} (h : Keeps s0 s) : Keeps s0 (s.pwmOff k) :=
  have hs := h.timerStop.timerStop.setPwm
  (Keeps.ite hs.timerStart hs).fset.setPwmState

theorem Keeps.pwmLimit {k at_} (h : Keeps s0 s) : Keeps s0 (s.pwmLimit k at_) :=
  .ite h <|
  have hs := h.setPwm.fbump
  .ite hs.setPwm.pulse.setPwmState.timerStart.timerStop hs

theorem Keeps.pwmSampled {k} (h : Keeps s0 s) : Keeps s0 (s.pwmSampled k) :=
  .ite h.setPwm.pwmLimit h

theorem Keeps.pwmStrobe (h : Keeps s0 s) : Keeps s0 s.pwmStrobe :=
  h.foldl fun _ _ ht => .ite ht.pwmSampled ht

theorem Keeps.pwmClose {k} (h : Keeps s0 s) : Keeps s0 (s.pwmClose k) :=
  .ite h.pwmSampled <|
  .ite h.pwmSampled.setPwm <|
  have hs := h.pwmSampled.setPwm
  .ite hs.setPwmState.timerStart hs

theorem Keeps.pwmOpen {k} (h : Keeps s0 s) : Keeps s0 (s.pwmOpen k) :=
  have hs := (Keeps.ite h h.fbump.pulse).setPwm.fset.fanCheckAll.pwmEvent
  .ite hs hs.pwmEvent

theorem Keeps.execPwmPeriodStart {ch} (h : Keeps s0 s) : KeepsNext s0 (execPwmPeriodStart ch s) :=
  .next (.ite h (.ite (.ite h.pwmClose h.pwmClose.pwmOpen) h))

theorem Keeps.ilimRises {k at_} (h : Keeps s0 s) : Keeps s0 (s.ilimRises k at_) :=
  .ite h (.ite h.setPwm (.ite h.pwmLimit h))

theorem Keeps.ilimFalls {k at_} (h : Keeps s0 s) : Keeps s0 (s.ilimFalls k at_) :=
  (Keeps.ite h.pwmSampled h.setPwm).setPwm.timerStop

theorem Keeps.execIlimAssert {ch level} (h : Keeps s0 s) : KeepsNext s0 (execIlimAssert ch level s) :=
  .next (.ite h.fsetB.ilimFalls (.ite h.fsetB (.ite (.ite h.fsetB h.fsetB.timerStart) h.fsetB.ilimRises)))

theorem Keeps.execIlimOffTimeout {ch} (h : Keeps s0 s) : KeepsNext s0 (execIlimOffTimeout ch s) :=
  .next (.ite h.setPwm.timerStop.pulse h)

theorem Keeps.pwmCfgWrite {k v} (h : Keeps s0 s) : KeepsOk s0 (pwmCfgWrite k v s) := by
  unfold Machine.pwmCfgWrite
  dsimp only
  split
  · exact .err
  · next t heq =>
    exact .ite .err (.ite .err (.ite (.ok (h.mergeReg _ heq).softBegin) (.ite (.ok (h.mergeReg _ heq).pwmOff) (.ok (h.mergeReg _ heq)))))

theorem Keeps.execPwmEnable {who ch} (h : Keeps s0 s) : KeepsNext s0 (execPwmEnable who ch s) :=
  .next (h.access fun _ ht => ht.pwmCfgWrite)

theorem Keeps.execPwmDisable {who ch} (h : Keeps s0 s) : KeepsNext s0 (execPwmDisable who ch s) :=
  .next (h.access fun _ ht => ht.pwmCfgWrite)

theorem Keeps.execPwmHoldExpired {ch} (h : Keeps s0 s) : KeepsNext s0 (execPwmHoldExpired ch s) :=
  .next (.ite (.ite h.timerStop.fset.softBegin h.timerStop.setPwmState.pulse) h)

theorem Keeps.pwmCmdWrite {k v} (h : Keeps s0 s) : KeepsOk s0 (pwmCmdWrite k v s) :=
  .ite (.ok (.ite h.fset.pwmOff.softBegin h.fset.pwmOff)) (.ok h)

theorem Keeps.execPwmClear {who ch} (h : Keeps s0 s) : KeepsNext s0 (execPwmClear who ch s) :=
  .next (h.access fun _ ht => ht.pwmCmdWrite)

theorem Keeps.execPwmRunTimer {ch} (h : Keeps s0 s) : KeepsNext s0 (execPwmRunTimer ch s) :=
  .next (.ite h.fset.timerStop h)

/-! The operations of Machine/FhRx. -/

theorem Keeps.tcCount (h : Keeps s0 s) : Keeps s0 s.tcCount :=
  h.fbump

theorem Keeps.ptpTransit {d m residence} (h : Keeps s0 s) : KeepsFst s0 (s.ptpTransit d m residence) := by
  unfold State.ptpTransit
  split
  · exact .ite (.mk h.setPtp) (.mk h.tcCount)
  · split
    · exact .mk h.tcCount
    · exact .mk h
  · exact .mk h.tcCount
  · exact .mk h

theorem Keeps.ptpAsk {s1 d} (h1 : Keeps s0 s) : Keeps s0 (s.ptpAsk s1 d) := by
  unfold State.ptpAsk
  split
  · exact .ite h1 h1.fhSend
  · exact h1

theorem Keeps.ptpArrives {d lane m a} (h : Keeps s0 s) : Keeps s0 (s.ptpArrives d lane m a) :=
  have ht := Keeps.ite h.ptpMessage.ptpAsk h
  .ite ht.ptpTransit.fst.relay ht.relayDrop

theorem Keeps.chainTake {d src pkt} (h : Keeps s0 s) : Keeps s0 (s.chainTake d src pkt) :=
  h.fbump.pktIn

theorem Keeps.chainPass {d lane dest src hops pkt a} (h : Keeps s0 s) : Keeps s0 (s.chainPass d lane dest src hops pkt a) :=
  .ite h.fbump.pulse h.relay

theorem Keeps.chainArrives {d lane dest src hops reserved pkt a} (h : Keeps s0 s) :
    Keeps s0 (s.chainArrives d lane dest src hops reserved pkt a) :=
  .ite h.fhDiscard (.ite h.chainTake (.ite h.chainTake.chainPass h.chainPass))

theorem Keeps.fhMalformed {d lane type payload f a} (h : Keeps s0 s) : Keeps s0 (s.fhMalformed d lane type payload f a) :=
  .ite (Keeps.ite h.fhDiscard h).relay (.ite h.fhDiscard h.relay)

theorem Keeps.fhFrame {d lane f a} (h : Keeps s0 s) : Keeps s0 (s.fhFrame d lane f a) := by
  unfold State.fhFrame
  split
  · exact h.relay
  · exact h.fbump.relay
  · exact h.fhDiscard
  · exact h.iqFrame.relay
  · exact h.ptpArrives
  · exact h.owdRequested
  · exact h.owdAnswered
  · exact h
  · exact h.alignMessage
  · exact h.chainArrives
  · exact h.fhMalformed

theorem Keeps.fhBad {d lane f a} (h : Keeps s0 s) : Keeps s0 (s.fhBad d lane f a) := by
  unfold State.fhBad
  dsimp only
  split
  · exact .ite h.fbump h.fbump.relay
  · split
    · exact h.fbump.relay
    · exact h.fbump

theorem Keeps.execFhFrameReceived {side lane frame arrival} (h : Keeps s0 s) : KeepsNext s0 (execFhFrameReceived side lane frame arrival s) :=
  .next (.ite h (.ite h.fhFrame h.fhBad))

/-! The operations of Machine/Nv. -/

theorem Keeps.powerFailRecord (h : Keeps s0 s) : Keeps s0 s.powerFailRecord :=
  h.post

theorem Keeps.serdesStop (h : Keeps s0 s) : Keeps s0 s.serdesStop :=
  have ht := (h.foldl fun _ _ ht => .ite ht.rxLost ht.pllLost).foldl fun _ _ ht => ht.foldl fun _ _ ht => ht.setBlockLock.laneDown
  have ht' := Keeps.ite ht.pcieDown ht
  .ite ht'.mgeDown ht'

theorem Keeps.powerFailNow (h : Keeps s0 s) : Keeps s0 s.powerFailNow :=
  .ite h h.fset.pulse.muteAndPads.fset.serdesStop.fset.fset.fset.refreshClocks.drive.drainIntake.powerFailRecord.drainIntake.fset.flushOpen

theorem Keeps.execHoldupVoltageSample {code} (h : Keeps s0 s) : KeepsNext s0 (execHoldupVoltageSample code s) :=
  .next <|
  .ite h.pulse <|
  have hs := h.update.fset.fset.cond
  .ite hs.timerStart.powerFailNow hs.timerStart

theorem Keeps.execPowerFail (h : Keeps s0 s) : KeepsNext s0 (execPowerFail s) :=
  .next h.update.powerFailNow.driveEnergy

theorem Keeps.execPowerFailRecovery (h : Keeps s0 s) : KeepsNext s0 (execPowerFailRecovery s) :=
  .next (.ite h.update.commitOpenIfAdmitted.chipReset h)

theorem Keeps.bootBankCommitted {bank} (h : Keeps s0 s) : Keeps s0 (s.bootBankCommitted bank) :=
  h.update.fset.fset.post.pulse

theorem Keeps.journalEffect {e} (h : Keeps s0 s) : Keeps s0 (s.journalEffect e) := by
  unfold State.journalEffect
  dsimp only
  split
  · exact h.regInForce.post
  · exact h.bootBankCommitted
  · exact h.update
  · exact h.keyCommitted
  · exact h.update
  · exact h.fset
  · exact h

theorem Keeps.entryFailed {e} (h : Keeps s0 s) : Keeps s0 (s.entryFailed e) :=
  .ite h.update.fset (.ite h.update.fset (.ite h.update h))

theorem Keeps.failEffect {j} (h : Keeps s0 s) : Keeps s0 (s.failEffect j) := by
  unfold State.failEffect
  split
  · exact h.journalBody.entryFailed
  · exact h.entryFailed
  · exact h.journalBody
  · exact h.update
  · exact h.update
  · exact h
  · exact h
  · exact h.update
  · exact h.hostDone

theorem Keeps.nvFailed {j} (h : Keeps s0 s) : Keeps s0 (s.nvFailed j) :=
  h.nvEnd.failEffect.pulse.drive.post

theorem Keeps.commitDone {e} (h : Keeps s0 s) : Keeps s0 (s.commitDone e) :=
  h.nvEnd.journalCommit.journalEffect

theorem Keeps.bodyDone {e} (h : Keeps s0 s) : Keeps s0 (s.bodyDone e) :=
  h.journalBody.update

theorem Keeps.logErased (h : Keeps s0 s) : Keeps s0 s.logErased :=
  h.update.setEvr

theorem Keeps.nvPassed {j} (h : Keeps s0 s) : Keeps s0 (s.nvPassed j) := by
  unfold State.nvPassed
  split
  · exact h.bodyDone
  · exact h.commitDone
  · exact h.nvEnd.journalBody
  · exact h.nvEnd.pieceDone
  · exact h.nvEnd.pieceDone
  · exact h.nvEnd.pieceDone
  · exact h.commitSegment
  · split
    · exact h.nvEnd.logErased.clearComplete
    · exact h.nvEnd.logErased
  · exact h.nvEnd.nvProgram.hostDone
  · exact h.nvEnd.nvErase.hostDone

theorem Keeps.nvOpEnds {ok} (h : Keeps s0 s) : Keeps s0 (s.nvOpEnds ok) := by
  unfold State.nvOpEnds
  split
  · exact h
  · exact .ite h.nvPassed (.ite h.update h.nvFailed)

theorem Keeps.wordLost {a} (h : Keeps s0 s) : Keeps s0 (s.wordLost a) :=
  h.update.nvUncorrectable

theorem Keeps.execNvOperationDone {outcome} (h : Keeps s0 s) : KeepsNext s0 (execNvOperationDone outcome s) :=
  .next (by split; exacts [h.nvOpEnds, h.nvOpEnds, h.fbump.pulse, h.wordLost])

theorem Keeps.journalDone {e} (h : Keeps s0 s) : Keeps s0 (s.journalDone e) :=
  h.bodyDone.commitDone

theorem Keeps.journalWork {n} (h : Keeps s0 s) : Keeps s0 (State.journalWork n s) := by
  induction n generalizing s with
  | zero => exact h
  | succ n ih =>
    unfold State.journalWork
    split
    · exact h.journalDone
    · exact h.commitDone
    · have ht (o : Option NvJob) : Keeps s0 (match o with | some j => if j.rank = 0 then s.nvPassed j else s | none => s) := by
        split
        · exact .ite h.nvPassed h
        · exact h
      dsimp only
      split
      · exact ht _
      · exact .ite (ht _).markWaiting (.ite (ih (ht _).nvStart) (ht _))

theorem Keeps.execJournalWrite (h : Keeps s0 s) : KeepsNext s0 (execJournalWrite s) :=
  .next h.journalWork

theorem Keeps.execEvrClearComplete (h : Keeps s0 s) : KeepsNext s0 (execEvrClearComplete s) :=
  .next (by split; exacts [h.nvPassed, h])

theorem Keeps.bootResult {r} (h : Keeps s0 s) : Keeps s0 (s.bootResult r) :=
  h.fset.pulse

theorem Keeps.bootCommit {bank} (h : Keeps s0 s) : Keeps s0 (s.bootCommit bank) :=
  .ite h.update.bootResult h.fset.queueJournal

theorem Keeps.bootRefused {bank fwSig extSig} (h : Keeps s0 s) : Keeps s0 (s.bootRefused bank fwSig extSig) :=
  (Keeps.ite h.pulse h).update.bootResult

theorem Keeps.bootselWrite {id bank fwSig extSig} (h : Keeps s0 s) : KeepsOk s0 (bootselWrite id bank fwSig extSig s) :=
  .ite (have ht := h.update.bootCommit; .ok (.ite ht.journalWork ht)) <|
  .ite (.ok h.update.bootRefused) (.ok h.update.bootCommit)

theorem Keeps.execBootselRequest {who bank fwSig extSig} (h : Keeps s0 s) : KeepsNext s0 (execBootselRequest who bank fwSig extSig s) :=
  .next (h.access fun _ ht => ht.bootselWrite)

theorem Keeps.execEnergyRetest (h : Keeps s0 s) : KeepsNext s0 (execEnergyRetest s) := by
  have ht := h.burnRetest
  refine .next (.ite (.nvDispatch ?_) ?_)
  · split; exacts [ht.lcEnter.goEnds, ht]
  · split; exacts [ht.lcEnter.goEnds, ht]

theorem Keeps.energyBlocked (h : Keeps s0 s) : Keeps s0 s.energyBlocked := by
  unfold State.energyBlocked
  dsimp only
  split
  · exact h
  · exact h.update.fset.pulse.post.driveEnergy

theorem Keeps.lcEnergyEnd (h : Keeps s0 s) : Keeps s0 s.lcEnergyEnd :=
  .ite h.update.fset.fset.timerStop.goAnswered h

theorem Keeps.execFuseBurnDone {outcome} (h : Keeps s0 s) : KeepsNext s0 (execFuseBurnDone outcome s) :=
  .next (by split; exacts [h, .ite h h.fuseEnd.timerStop.goEnds])

/-! The operations of Machine/Sample. -/

theorem Keeps.sumClip {n} (h : Keeps s0 s) : Keeps s0 (s.sumClip n) :=
  h.saturate.fset.pulse

theorem Keeps.noteFloorHit {n} (h : Keeps s0 s) : Keeps s0 (s.noteFloorHit n) :=
  h.update

theorem Keeps.onsetTrigger {n} (h : Keeps s0 s) : Keeps s0 (s.onsetTrigger n) :=
  have hs := h.onsetClamp.foldl fun _ _ ht => ht.cbump
  .ite hs.noteFloorHit.foxCheck hs

theorem Keeps.onsetStep {n pw} (h : Keeps s0 s) : Keeps s0 (s.onsetStep n pw) :=
  .ite h.update.onsetTrigger h.update

theorem Keeps.limiterStep {n bins} (h : Keeps s0 s) : Keeps s0 (s.limiterStep n bins) :=
  .ite h.update.fset.fbump.pulse h.update.fset

theorem Keeps.gainStage {c} (h : Keeps s0 s) : Keeps s0 (s.gainStage c) :=
  h.csetI

theorem Keeps.gainBlock {ns} (h : Keeps s0 s) : Keeps s0 (s.gainBlock ns) :=
  have ht := h.foldl fun _ _ ht => ht.gainStage
  .ite ht.fbump.pulse ht

theorem Keeps.oobStep {n bins} (h : Keeps s0 s) : Keeps s0 (s.oobStep n bins) :=
  .ite h h.update

theorem Keeps.dutyStep {n bins} (h : Keeps s0 s) : Keeps s0 (s.dutyStep n bins) :=
  h.foldl fun _ _ ht => .ite ht.update ht

theorem Keeps.powStep {n pw} (h : Keeps s0 s) : Keeps s0 (s.powStep n pw) :=
  h.setFelPort

theorem Keeps.blockOf {b} (h : Keeps s0 s) : Keeps s0 (s.blockOf b) :=
  .ite h (Keeps.ite h.sumClip h).limiterStep.oobStep.dutyStep.powStep.onsetStep

theorem Keeps.sampleBlock {l} (h : Keeps s0 s) : Keeps s0 (s.sampleBlock l) :=
  (h.gainBlock.foldl fun _ _ ht => ht.blockOf).noteOsc

theorem Keeps.showDuty {n} (h : Keeps s0 s) : Keeps s0 (s.showDuty n) :=
  h.fset.fset

theorem Keeps.dutyCheck (h : Keeps s0 s) : Keeps s0 s.dutyCheck :=
  (h.update.foldl fun _ _ ht => ht.showDuty).cond.foldl fun _ _ ht => ht.foxCheck

/-! The operations of Machine/Thm. -/

theorem Keeps.setBand {b} (h : Keeps s0 s) : Keeps s0 (s.setBand b) :=
  .ite h h.fset.fset.pulse.timerStart

theorem Keeps.toStandby (h : Keeps s0 s) : Keeps s0 s.toStandby :=
  .ite h h.update.fset

theorem Keeps.thermalShutdown (h : Keeps s0 s) : Keeps s0 s.thermalShutdown :=
  ((Keeps.ite h.fsetB h.fsetB.update.muteAndPads).foldl fun _ _ ht => ht.setEnable).flushOpen.toStandby

theorem Keeps.thermalLevels {t} (h : Keeps s0 s) : Keeps s0 (s.thermalLevels t) :=
  have hs := h.fsetB.cond.fsetB.fsetB.cond
  .ite hs.fsetB.cond.thermalShutdown hs.fsetB.cond

theorem Keeps.thermalUpdate (h : Keeps s0 s) : Keeps s0 s.thermalUpdate := by
  unfold State.thermalUpdate
  dsimp only
  split
  · exact h.cond.fsetI
  · exact h.cond.fsetI.fset.setBand.thermalLevels

theorem Keeps.execSensorReading {sensor t} (h : Keeps s0 s) : KeepsNext s0 (execSensorReading sensor t s) :=
  .next (.ite h (.ite h.pulse h.update.fset.fsetI.fsetBit.timerStart.thermalUpdate))

theorem Keeps.execSensorTimeout {sensor} (h : Keeps s0 s) : KeepsNext s0 (execSensorTimeout sensor s) :=
  .next (.ite h.update.fset.fsetBit.thermalUpdate h)

theorem Keeps.execThermalRateUpdate (h : Keeps s0 s) : KeepsNext s0 (execThermalRateUpdate s) :=
  .next (.ite h (.ite h.update.fset h.update.fsetI))

theorem Keeps.execHardTempComparator {sensor on} (h : Keeps s0 s) : KeepsNext s0 (execHardTempComparator sensor on s) :=
  .next h.update.fsetB.cond.drive

theorem Keeps.execEqualiserReadapt (h : Keeps s0 s) : KeepsNext s0 (execEqualiserReadapt s) :=
  .next (.ite h.timerStart h)

theorem Keeps.thmCfgWrite {off v} (h : Keeps s0 s) : KeepsOk s0 (thmCfgWrite off v s) :=
  .ite (.ok (.ite h.setWord h.setWord.thermalLevels)) .err

/-! The operations of Machine/Twb. -/

theorem Keeps.setTwb {n r} (h : Keeps s0 s) : Keeps s0 (s.setTwb n r) :=
  h.update

theorem Keeps.setTwbState {n st} (h : Keeps s0 s) : Keeps s0 (s.setTwbState n st) :=
  h.fset

theorem Keeps.storeRead {n hd data} (h : Keeps s0 s) : Keeps s0 (s.storeRead n hd data) :=
  h.foldl fun _ _ ht => ht.fset

theorem Keeps.twbResult {n hd e attempts} (h : Keeps s0 s) : Keeps s0 (s.twbResult n hd e attempts) :=
  h.fset.fset.fset.fset.fset.fset.storeRead

theorem Keeps.alertResult {n e} (h : Keeps s0 s) : Keeps s0 (s.alertResult n e) :=
  .ite h.fset.fset.pulse (.ite h.fset h)

theorem Keeps.twbFinish {n t e} (h : Keeps s0 s) : Keeps s0 (s.twbFinish n t e) :=
  .pulse (by split; exacts [h.twbResult, h.alertResult])

theorem Keeps.twbEnd {n st t e} (h : Keeps s0 s) : Keeps s0 (s.twbEnd n st t e) :=
  .ite h.setTwbState.setTwb h.setTwbState.setTwb.twbFinish

theorem Keeps.twbEndAll {n result} (h : Keeps s0 s) : Keeps s0 (s.twbEndAll n result) :=
  h.setTwb.foldl fun _ _ ht => ht.twbFinish

theorem Keeps.twbGoWrite {i n} (h : Keeps s0 s) : KeepsOk s0 (twbGoWrite i n s) :=
  .ite .err (.ite .err (.ite (.ok h.twbFinish) (.ite (.ok h.twbFinish) (.ok h.setTwb.fset))))

theorem Keeps.execTwbGo {who bus} (h : Keeps s0 s) : KeepsNext s0 (execTwbGo who bus s) :=
  .next (h.access fun _ ht => ht.twbGoWrite)

theorem Keeps.twbTxnWrite {i n v} (h : Keeps s0 s) : KeepsOk s0 (twbTxnWrite i n v s) :=
  .ite (.ok h.setWord) .err

theorem Keeps.execTwbTransactionStart {bus} (h : Keeps s0 s) : KeepsNext s0 (execTwbTransactionStart bus s) :=
  .next (by dsimp only; split; exacts [.ite h.setTwb.setTwbState h, h])

theorem Keeps.twbEvents {n result} (h : Keeps s0 s) : Keeps s0 (s.twbEvents n result) :=
  .ite h.pulse (.ite h.pulse h)

theorem Keeps.execTwbTransactionEnd {bus reply} (h : Keeps s0 s) : KeepsNext s0 (execTwbTransactionEnd bus reply s) :=
  .next (by split; exacts [h, h.twbEvents.twbEnd])

theorem Keeps.execTwbArbitrationLost {bus at_} (h : Keeps s0 s) : KeepsNext s0 (execTwbArbitrationLost bus at_ s) :=
  .next (by dsimp only; split; exacts [h, (Keeps.ite h.fbump.pulse (.ite h.fbump.pulse h.fbump.twbEvents)).twbEnd])

theorem Keeps.execTwbIdleDetect {bus} (h : Keeps s0 s) : KeepsNext s0 (execTwbIdleDetect bus s) :=
  .next (.ite h.setTwbState h)

theorem Keeps.execTwbTimeout {bus} (h : Keeps s0 s) : KeepsNext s0 (execTwbTimeout bus s) :=
  .next (by dsimp only; split; exacts [h, h.fbump.pulse.drive.drive.twbEnd])

theorem Keeps.execIdleBusHeldLow {bus sda} (h : Keeps s0 s) : KeepsNext s0 (execIdleBusHeldLow bus sda s) :=
  .next (.ite (Keeps.ite h.pulse h).setTwbState h)

theorem Keeps.twbStuck {n b} (h : Keeps s0 s) : Keeps s0 (s.twbStuck n b) :=
  h.cond.cond.drive

theorem Keeps.recoveryFailed {n} (h : Keeps s0 s) : Keeps s0 (s.recoveryFailed n) :=
  h.setTwbState.twbStuck.twbEndAll.setTwb.timerStart

theorem Keeps.execTwbBusRecoveryDone {bus ok} (h : Keeps s0 s) : KeepsNext s0 (execTwbBusRecoveryDone bus ok s) :=
  .next (.ite (.ite h.setTwbState.twbStuck.pulse.setTwb.timerStop h.recoveryFailed) h)

theorem Keeps.execTwbRecoveryRetry {bus} (h : Keeps s0 s) : KeepsNext s0 (execTwbRecoveryRetry bus s) :=
  .next (.ite h.setTwb.timerStop h)

theorem Keeps.execTwbAttention {bus} (h : Keeps s0 s) : KeepsNext s0 (execTwbAttention bus s) :=
  .next (.ite h.setTwb h)

theorem Keeps.twbOff {n} (h : Keeps s0 s) : Keeps s0 (s.twbOff n) :=
  h.twbEndAll.twbStuck.setTwbState.setTwb.timerStop

theorem Keeps.twbOn {n} (h : Keeps s0 s) : Keeps s0 (s.twbOn n) :=
  h.setTwbState

theorem Keeps.twbCfgWrite {n v} (h : Keeps s0 s) : KeepsOk s0 (twbCfgWrite n v s) := by
  unfold Machine.twbCfgWrite
  dsimp only
  refine .ite .err ?_
  refine .ite .err ?_
  split
  · exact .err
  · next t heq =>
    exact .ok (.ite (h.mergeReg _ heq).twbOff (.ite (h.mergeReg _ heq).twbOn (h.mergeReg _ heq)))

theorem Keeps.execTwbDisable {who bus} (h : Keeps s0 s) : KeepsNext s0 (execTwbDisable who bus s) :=
  .next (h.access fun _ ht => ht.twbCfgWrite)

/-! The operations of Machine/Twt. -/

theorem Keeps.setTwt {t} (h : Keeps s0 s) : Keeps s0 (s.setTwt t) :=
  h.update.fset.fset

theorem Keeps.twtPhase {p} (h : Keeps s0 s) : Keeps s0 (s.twtPhase p) :=
  h.update

theorem Keeps.rxPush {w} (h : Keeps s0 s) : Keeps s0 (s.rxPush w) :=
  .ite h.pulse h.setTwt

theorem Keeps.twtEndWrite {stop} (h : Keeps s0 s) : Keeps s0 (s.twtEndWrite stop) := by
  unfold State.twtEndWrite
  dsimp only
  split
  · exact (Keeps.ite h.pulse.pulse h).rxPush.pulse
  · exact h

theorem Keeps.stretchEnd (h : Keeps s0 s) : Keeps s0 s.stretchEnd :=
  h.fset.timerStop

theorem Keeps.busMoves (h : Keeps s0 s) : Keeps s0 s.busMoves :=
  h.sclEdge

theorem Keeps.execTwtAddress {addr read} (h : Keeps s0 s) : KeepsNext s0 (execTwtAddress addr read s) :=
  .next (.ite h.busMoves.twtEndWrite.twtPhase.stretchEnd h.busMoves)

theorem Keeps.execTwtByteReceived {byte} (h : Keeps s0 s) : KeepsNext s0 (execTwtByteReceived byte s) :=
  .next (by dsimp only; split; exacts [h.busMoves.rxPush.twtPhase, h.busMoves])

theorem Keeps.twtSend {b} (h : Keeps s0 s) : Keeps s0 (s.twtSend b) :=
  h.update

theorem Keeps.twtSendNext {bytes} (h : Keeps s0 s) : Keeps s0 (s.twtSendNext bytes) := by
  unfold State.twtSendNext
  split
  · exact h
  · exact h.setTwt.twtSend.twtPhase

theorem Keeps.twtDue {bytes pecNext pastEnd} (h : Keeps s0 s) : Keeps s0 (s.twtDue bytes pecNext pastEnd) :=
  .ite h.twtSend (.ite h.twtSend.twtPhase (.ite h.fset.timerStart h.twtSendNext))

theorem Keeps.execTwtByteRequested (h : Keeps s0 s) : KeepsNext s0 (execTwtByteRequested s) :=
  .next (.ite h.busMoves (by split; exacts [h.busMoves.twtDue, h.busMoves.twtSend.update, h.busMoves]))

theorem Keeps.execTwtStop (h : Keeps s0 s) : KeepsNext s0 (execTwtStop s) :=
  .next h.busMoves.twtEndWrite.twtPhase.stretchEnd

theorem Keeps.execTwtStretchTimeout (h : Keeps s0 s) : KeepsNext s0 (execTwtStretchTimeout s) :=
  .next (.ite (by split; exacts [h.stretchEnd.twtSend.twtPhase.pulse, h]) h)

theorem Keeps.twtStuck {b} (h : Keeps s0 s) : Keeps s0 (s.twtStuck b) :=
  h.fsetB.cond.cond.drive

theorem Keeps.execTwtStuck (h : Keeps s0 s) : KeepsNext s0 (execTwtStuck s) :=
  .next (.ite h.twtPhase.stretchEnd.twtStuck h)

theorem Keeps.execTwtBusReleased (h : Keeps s0 s) : KeepsNext s0 (execTwtBusReleased s) :=
  .next (.ite h.twtStuck h)

theorem Keeps.rxPop {i} (h : Keeps s0 s) : Keeps s0 (s.rxPop i) := by
  unfold State.rxPop
  split
  · exact h.answerRead
  · exact h.setTwt.answerRead

theorem Keeps.execTwtRxPop {who} (h : Keeps s0 s) : KeepsNext s0 (execTwtRxPop who s) :=
  .next (h.accessRead fun _ ht => ht.rxPop)

theorem Keeps.txPush {last byte} (h : Keeps s0 s) : KeepsOk s0 (txPush last byte s) :=
  .ite .err (by
    generalize hv : s.setTwt _ = t
    have ht : Keeps s0 t := hv ▸ h.setTwt
    dsimp only
    split
    · exact .ok ht.stretchEnd.twtSendNext
    · exact .ok ht)

theorem Keeps.execTwtTxPush {who last byte} (h : Keeps s0 s) : KeepsNext s0 (execTwtTxPush who last byte s) :=
  .next (h.access fun _ ht => ht.txPush)

theorem Keeps.twtCall {cut} (h : Keeps s0 s) : Keeps s0 (s.twtCall cut) :=
  .ite h.update.pulse h

theorem Keeps.twtCmdWrite {v cut} (h : Keeps s0 s) : KeepsOk s0 (twtCmdWrite v cut s) :=
  .ite .err <|
  have ht := Keeps.ite h.fset.setTwt h.fset
  .ok (.ite ht.twtCall ht)

theorem Keeps.execTwtAttn {who us cut} (h : Keeps s0 s) : KeepsNext s0 (execTwtAttn who us cut s) :=
  .next (h.access fun _ ht => ht.twtCmdWrite)

theorem Keeps.execTwtFlush {who} (h : Keeps s0 s) : KeepsNext s0 (execTwtFlush who s) :=
  .next (h.access fun _ ht => ht.twtCmdWrite)

theorem Keeps.twtIdle (h : Keeps s0 s) : Keeps s0 s.twtIdle :=
  h.twtPhase.stretchEnd.twtStuck

theorem Keeps.twtCfgWrite {v} (h : Keeps s0 s) : KeepsOk s0 (twtCfgWrite v s) := by
  unfold Machine.twtCfgWrite
  refine .ite .err ?_
  split
  · exact .err
  · next t heq =>
    exact .ok (.ite (h.mergeReg _ heq) (h.mergeReg _ heq).twtIdle)

theorem Keeps.twtReset (h : Keeps s0 s) : Keeps s0 s.twtReset :=
  h.setTwt.twtIdle

theorem Keeps.gpioEvent {n} (h : Keeps s0 s) : Keeps s0 (s.gpioEvent n) :=
  .ite h h.cond

theorem Keeps.gpioEvents (h : Keeps s0 s) : Keeps s0 s.gpioEvents :=
  h.foldl fun _ _ ht => ht.gpioEvent

theorem Keeps.execGpioInputChange {pin level} (h : Keeps s0 s) : KeepsNext s0 (execGpioInputChange pin level s) :=
  .next (.ite (.ite h.fsetBit.gpioEvent h.fsetBit) h)

theorem Keeps.gpioOeWrite {k v} (h : Keeps s0 s) : KeepsOk s0 (gpioOeWrite k v s) :=
  .ite .err (.ok (.ite h.fset h.fset))

theorem Keeps.gpioPolWrite {v} (h : Keeps s0 s) : KeepsOk s0 (gpioPolWrite v s) :=
  .ok h.fset.gpioEvents

/-! The operations of Machine/Rst. -/

theorem Keeps.clearPage {page} (h : Keeps s0 s) : Keeps s0 (s.clearPage page) :=
  h.update.update.update.update.dropCrcPass

theorem Keeps.stopTimers {tms} (h : Keeps s0 s) : Keeps s0 (s.stopTimers tms) :=
  h.update

theorem Keeps.schReset (h : Keeps s0 s) : Keeps s0 s.schReset := by
  unfold State.schReset
  dsimp only
  split
  · exact (h.foldl fun _ _ ht => .ite ht.setSlot.imgClear.setLoader (.ite ht.refuseSlot ht)).update.stopTimers.swapEnds
  · exact (h.foldl fun _ _ ht => .ite ht.setSlot.imgClear.setLoader (.ite ht.refuseSlot ht)).update.stopTimers

theorem Keeps.canClear (h : Keeps s0 s) : Keeps s0 s.canClear :=
  h.selftestStop.update.stopTimers

theorem Keeps.canStart (h : Keeps s0 s) : Keeps s0 s.canStart :=
  h.foldl fun _ _ ht =>
    have hs := ht.beginRefill
    .ite (.ite hs.enChanged hs.enChanged.linkFreeze) hs

theorem Keeps.gridAbort {k} (h : Keeps s0 s) : Keeps s0 (s.gridAbort k) :=
  .ite h (.ite h.setGridSum.refused h.gridEnd)

theorem Keeps.ggrClear (h : Keeps s0 s) : Keeps s0 s.ggrClear :=
  ((h.update.foldl fun _ _ ht => ht.gridAbort).foldl fun _ _ ht => ht.rearmGrid).drive

theorem Keeps.cenClear (h : Keeps s0 s) : Keeps s0 s.cenClear :=
  h.update.drive

theorem Keeps.nprClear (h : Keeps s0 s) : Keeps s0 s.nprClear :=
  h.update.foldl fun _ _ ht => .ite ht ht.setCtxRt

theorem Keeps.limClear (h : Keeps s0 s) : Keeps s0 s.limClear :=
  h.update.drive

theorem Keeps.felClear (h : Keeps s0 s) : Keeps s0 s.felClear :=
  (h.foldl fun _ _ ht => .ite ht.felLinkDown ht).update.stopTimers

theorem Keeps.ftmClear (h : Keeps s0 s) : Keeps s0 s.ftmClear :=
  ((h.foldl fun _ _ ht => .ite ht.askPins ht).foldl fun _ _ ht => .ite ht ht.groupOff).update

theorem Keeps.clsClear (h : Keeps s0 s) : Keeps s0 s.clsClear :=
  h.foldl fun _ _ ht => .ite ht ht.carrierOff

theorem Keeps.fhlClear (h : Keeps s0 s) : Keeps s0 s.fhlClear :=
  h.update.stopTimers

theorem Keeps.ctxwClear (h : Keeps s0 s) : Keeps s0 s.ctxwClear :=
  (h.foldl fun _ _ ht => ht.commitAnswered).update

theorem Keeps.nvaClear (h : Keeps s0 s) : Keeps s0 s.nvaClear :=
  have ht := h.update.update
  (Keeps.ite ht.hostDone ht).drive

theorem Keeps.groupClear {g} (h : Keeps s0 s) : Keeps s0 (s.groupClear g) :=
  have ht := Keeps.ite h.canLinkLoss h
  (Keeps.ite ht.canLinkLoss ht).setJlk.driveJlk

theorem Keeps.blockClear {page} (h : Keeps s0 s) : Keeps s0 (s.blockClear page) :=
  .ite h.update <|
  .ite (h.foldl fun _ _ ht => ht.fbump).update <|
  .ite h.nvaClear <|
  .ite h.update.drive.stopTimers <|
  .ite h.gcpReset.drive.stopTimers <|
  .ite h.gcpReset.update <|
  .ite h.stopTimers <|
  .ite h.capReset.drive <|
  .ite h.fhlClear <|
  .ite h.setGns.drive.stopTimers <|
  .ite h.schReset <|
  .ite h.drive <|
  .ite h.drive.drive <|
  .ite h.ggrClear <|
  .ite h.clsClear <|
  .ite h.cenClear <|
  .ite h.nprClear <|
  .ite h.limClear <|
  .ite h.ftmClear <|
  .ite h.felClear <|
  .ite (h.update.foldl fun _ _ ht => ht.drive) <|
  .ite h.hkaReset.stopTimers <|
  .ite (h.update.foldl fun _ _ ht => ht.pwmOff) <|
  .ite h.update.stopTimers <|
  .ite h.update.stopTimers (.ite h.twbOff (.ite h.twtReset (.ite h.ctxwClear (.ite (h.foldl fun _ _ ht => ht.groupClear) h))))

theorem Keeps.blockCleared {page} (h : Keeps s0 s) : Keeps s0 (s.blockCleared page) :=
  .ite h.canClear <|
  .ite (h.foldl fun _ _ ht => ht.emptyRings) <|
  .ite ((h.foldl fun _ _ ht => ht.factoryGains.refreshGains).foldl fun _ _ ht => (Keeps.ite ht.fset ht).driveMm) <|
  .ite h.driveFans (.ite h.setBand h)

theorem Keeps.ftmStart (h : Keeps s0 s) : Keeps s0 s.ftmStart :=
  h.foldl fun _ _ ht => .ite ht.groupOn ht

theorem Keeps.gnsStart (h : Keeps s0 s) : Keeps s0 s.gnsStart :=
  have ht := Keeps.ite h.timerStart.setPps h
  .ite ht.timerStart ht

theorem Keeps.clsStart (h : Keeps s0 s) : Keeps s0 s.clsStart :=
  h.foldl fun _ _ ht => .ite ht.setClState ht

theorem Keeps.fhlStart (h : Keeps s0 s) : Keeps s0 s.fhlStart :=
  (Keeps.ite h.setPort h).drivePtp.driveSides.flowsRefresh

theorem Keeps.hkaBegin (h : Keeps s0 s) : Keeps s0 s.hkaBegin :=
  ((h.foldl fun _ _ ht => .ite ht.refStart ht).foldl fun _ _ ht => .ite ht.timerStart ht).hkaShowAll

theorem Keeps.pwmStart (h : Keeps s0 s) : Keeps s0 s.pwmStart :=
  h.foldl fun _ _ ht => .ite ht.softBegin ht

theorem Keeps.fanStart (h : Keeps s0 s) : Keeps s0 s.fanStart :=
  h.foldl fun _ _ ht => .ite ht.fanStop.timerStart ht

theorem Keeps.blockEnable {page} (h : Keeps s0 s) : Keeps s0 (s.blockEnable page) :=
  .ite (.ite h.hupStart h) <|
  .ite h.fset.nvShow <|
  .ite h.fhlStart <|
  .ite h.gnsStart <|
  .ite (.ite h h.timerStart) <|
  .ite h.canStart <|
  .ite h.clsStart <|
  .ite h.cond <|
  .ite h.ftmStart <|
  .ite h.hkaBegin <|
  .ite h.pwmStart <|
  .ite h.fanStart <|
  .ite (h.foldl fun _ _ ht => ht.timerStart) (.ite (.ite h.twbOn h) (.ite h.gpioEvents (.ite (h.foldl fun _ _ ht => ht.rxStart.txStart) h)))

theorem Keeps.holdWires {s1 page} (h1 : Keeps s0 s) : Keeps s0 (s.holdWires s1 page) :=
  h1.copyWords.update

theorem Keeps.freeWires {page} (h : Keeps s0 s) : Keeps s0 (s.freeWires page) :=
  h.update.foldl fun _ _ ht => ht.drive

theorem Keeps.blockStop {page} (h : Keeps s0 s) : Keeps s0 (s.blockStop page) :=
  h.release.fset.setCrcErr.blockClear.clearPage.blockCleared.holdWires

theorem Keeps.blockStart {page} (h : Keeps s0 s) : Keeps s0 (s.blockStart page) :=
  .ite h h.release.refreshReady.freeWires.blockEnable

theorem Keeps.blockReset {page} (h : Keeps s0 s) : Keeps s0 (s.blockReset page) :=
  .ite h (.ite h.update (.ite h.update h.blockStop.timerStart))

theorem Keeps.blockRelease {page} (h : Keeps s0 s) : Keeps s0 (s.blockRelease page) :=
  h.timerStop.fset.fbump.blockStart.pulse

theorem Keeps.blockStrobe (h : Keeps s0 s) : Keeps s0 s.blockStrobe :=
  (Keeps.ite h.blockStop.timerStart h).foldl fun _ _ ht => .ite ht.blockRelease ht

theorem Keeps.execPciePerst {low} (h : Keeps s0 s) : KeepsNext s0 (execPciePerst low s) :=
  .next (.ite h (.ite (.ite h.update.blockStop h.update) (.ite h.update.blockStart h.update)))

theorem Keeps.execSwapBoundary {lostCaps} (h : Keeps s0 s) : KeepsNext s0 (execSwapBoundary lostCaps s) := by
  refine .next ?_
  split
  · exact h
  · exact
      have ht := h.swapAt.capSwap.post
      .ite h (.ite ht.blockStop.timerStart ht)

/-! The operations of Machine/Boot. -/

theorem Keeps.execPowerOnReset {low} (h : Keeps s0 s) : KeepsNext s0 (execPowerOnReset low s) :=
  .next (.ite h.update.powerOnReset h.update)

theorem Keeps.execResetPin {low} (h : Keeps s0 s) : KeepsNext s0 (execResetPin low s) :=
  .next (.ite (.ite h h.update.chipReset) h.update)

theorem Keeps.startExtension {bank sigOk} (h : Keeps s0 s) : Keeps s0 (s.startExtension bank sigOk) := by
  unfold State.startExtension
  exact .ite h.update.fset (.ite h.update.update.fset h.update.fset.pulse)

theorem Keeps.fetchesFrom {bank} (h : Keeps s0 s) : Keeps s0 (s.fetchesFrom bank) :=
  .ite h.fset h.fset

theorem Keeps.startFirmware {bank fallback extSig} (h : Keeps s0 s) : Keeps s0 (s.startFirmware bank fallback extSig) := by
  unfold State.startFirmware
  exact h.fset.fsetB.fset.fetchesFrom.startExtension

theorem Keeps.romRecovery (h : Keeps s0 s) : Keeps s0 s.romRecovery :=
  h.update.muteAndPads.fset.blockStart

theorem Keeps.setWd {pair on ms} (h : Keeps s0 s) : Keeps s0 (s.setWd pair on ms) :=
  h.update

theorem Keeps.wdTick (h : Keeps s0 s) : Keeps s0 s.wdTick :=
  h.foldl fun _ _ ht => .ite ht.setWd ht

theorem Keeps.driveWd (h : Keeps s0 s) : Keeps s0 s.driveWd :=
  h.drive

theorem Keeps.wdExpire {pair} (h : Keeps s0 s) : Keeps s0 (s.wdExpire pair) :=
  h.fset.pulse.setWd.driveWd

theorem Keeps.wdKick {pair key} (h : Keeps s0 s) : KeepsOk s0 (wdKick pair key s) :=
  .ite (.ok h) (.ite (.ok h.fset.setWd.driveWd) (.ok h.wdExpire))

theorem Keeps.execWatchdogKick {who pair key} (h : Keeps s0 s) : KeepsNext s0 (execWatchdogKick who pair key s) :=
  .next (h.access fun _ ht => ht.wdKick)

theorem Keeps.execWatchdogExpired {pair} (h : Keeps s0 s) : KeepsNext s0 (execWatchdogExpired pair s) :=
  .next (.ite h.wdExpire h)

theorem Keeps.wdWrite {pair v} (h : Keeps s0 s) : KeepsOk s0 (wdWrite pair v s) := by
  unfold Machine.wdWrite
  dsimp only
  refine .ite .err ?_
  refine .ite .err ?_
  split
  · exact .err
  · next t heq =>
    exact .ok (.ite (h.mergeReg _ heq).setWd (h.mergeReg _ heq))

theorem Keeps.wdSecond (h : Keeps s0 s) : Keeps s0 s.wdSecond :=
  h.update

theorem Keeps.execBootWatchdogExpired (h : Keeps s0 s) : KeepsNext s0 (execBootWatchdogExpired s) :=
  .next (.ite h.chipReset.fset h)

theorem Keeps.aonKick {key} (h : Keeps s0 s) : KeepsOk s0 (aonKick key s) :=
  .ok (.ite h.update h)

theorem Keeps.execAonWatchdogKick {who key} (h : Keeps s0 s) : KeepsNext s0 (execAonWatchdogKick who key s) :=
  .next (h.access fun _ ht => ht.aonKick)

theorem Keeps.execAonWatchdogExpired (h : Keeps s0 s) : KeepsNext s0 (execAonWatchdogExpired s) :=
  .next (.ite h.chipReset h)

theorem Keeps.dropHolder {hd} (h : Keeps s0 s) : Keeps s0 (s.dropHolder hd) :=
  have ht := h.update.update
  .ite ht.update ht.update.setWindow

theorem Keeps.cutEntry (h : Keeps s0 s) : Keeps s0 s.cutEntry := by
  unfold State.cutEntry
  split
  · exact h.update
  · exact h

theorem Keeps.pairReset {pair} (h : Keeps s0 s) : Keeps s0 (s.pairReset pair) :=
  have ht := h.dropHolder.update
  .ite (ht.foldl fun _ _ ht => .ite ht.refuseSlot ht).fetchesFrom.cutEntry.setWd ht.startExtension.setWd

theorem Keeps.rstCmdWrite {v} (h : Keeps s0 s) : KeepsOk s0 (rstCmdWrite v s) :=
  .ite (.ok h) (.ite .err (.ite (.ok h.commitOpenIfAdmitted.chipReset) (.ite (.ok h.pairReset) (.ok h.pairReset))))

theorem Keeps.rstAccess {who v} (h : Keeps s0 s) : Keeps s0 (s.rstAccess who v) :=
  h.accessBy fun _ ht => ht.rstCmdWrite

theorem Keeps.execRstChip {who confirm} (h : Keeps s0 s) : KeepsNext s0 (execRstChip who confirm s) :=
  .next h.rstAccess

theorem Keeps.execRstPairA {who confirm} (h : Keeps s0 s) : KeepsNext s0 (execRstPairA who confirm s) :=
  .next h.rstAccess

theorem Keeps.execRstPairB {who confirm} (h : Keeps s0 s) : KeepsNext s0 (execRstPairB who confirm s) :=
  .next h.rstAccess

theorem Keeps.rstWrite {off v} (h : Keeps s0 s) : KeepsOk s0 (rstWrite off v s) :=
  .ite h.wdWrite (.ite h.wdWrite (.ite h.wdKick (.ite h.wdKick (.ite h.aonKick h.mergeReg))))

theorem Keeps.bootStep {n} (h : Keeps s0 s) : Keeps s0 (s.bootStep n) :=
  h.fset

theorem Keeps.boot2 (h : Keeps s0 s) : Keeps s0 s.boot2 :=
  h.fset.fset.setDev.bootStep

theorem Keeps.lockPlls (h : Keeps s0 s) : Keeps s0 s.lockPlls :=
  (Keeps.ite h h.update.newChallenge).fset.fset.fset.fset.refreshClocks.drive

theorem Keeps.startPages (h : Keeps s0 s) : Keeps s0 s.startPages :=
  (h.foldl fun _ _ ht => ht.release).refreshReady.foldl fun _ _ ht => .ite ht.blockEnable ht

theorem Keeps.boot3 (h : Keeps s0 s) : Keeps s0 s.boot3 :=
  h.lockPlls.startPages.update.bootStep

theorem Keeps.boot4 {v} (h : Keeps s0 s) : Keeps s0 (s.boot4 v) := by
  unfold State.boot4
  dsimp only
  split
  · exact h.romRecovery
  · exact h.startFirmware.setWd.setWd.update.bootStep

theorem Keeps.applyHup (h : Keeps s0 s) : Keeps s0 s.applyHup := by
  unfold State.applyHup
  dsimp only
  split
  · exact h
  · exact (h.foldl fun _ _ ht => ht.setWord).blockEnable

theorem Keeps.boot5 (h : Keeps s0 s) : Keeps s0 s.boot5 :=
  have ht := Keeps.ite h h.applyHup.fset
  .ite ht.fset.bootStep ht

theorem Keeps.boot6 (h : Keeps s0 s) : Keeps s0 s.boot6 :=
  .ite h.bootStep (.ite h.update.bootStep h)

theorem Keeps.bootLifecycle (h : Keeps s0 s) : KeepsSome s0 s.bootLifecycle := by
  unfold State.bootLifecycle
  split
  · exact .some h
  · exact h.eraseKeys.map fun _ ht => ht.update.post

theorem Keeps.boot7 (h : Keeps s0 s) : Keeps s0 s.boot7 := by
  unfold State.boot7
  split
  · exact h
  · next t heq =>
    exact .ite (h.bootLifecycle _ heq).bootStep (.ite (h.bootLifecycle _ heq).logErased.bootStep (h.bootLifecycle _ heq))

theorem Keeps.bootEpoch (h : Keeps s0 s) : KeepsSome s0 s.bootEpoch :=
  .ite (.some h) (h.journalNow.map fun _ ht => ht.update.fset)

theorem Keeps.bootCount (h : Keeps s0 s) : KeepsSome s0 s.bootCount :=
  h.journalNow.map fun _ ht => ht.fset

theorem Keeps.bootCleared (h : Keeps s0 s) : Keeps s0 s.bootCleared := by
  unfold State.bootCleared
  split
  · exact h.clearComplete
  · exact h

theorem Keeps.boot8 (h : Keeps s0 s) : Keeps s0 s.boot8 := by
  unfold State.boot8
  refine .ite h ?_
  split
  · exact h
  · next t heq =>
    split
    · exact (h.bootEpoch _ heq)
    · next t' heq' =>
      exact ((h.bootEpoch _ heq).bootCount _ heq').bootCleared.bootStep

theorem Keeps.boot9 (h : Keeps s0 s) : Keeps s0 s.boot9 :=
  (Keeps.ite h.post h.post.post.fset.fset.fset).bootStep

theorem Keeps.loadRegSet {v} (h : Keeps s0 s) : Keeps s0 (s.loadRegSet v) := by
  unfold State.loadRegSet
  split
  · exact h.regLoad
  · exact h.fset.cond.drive

theorem Keeps.boot10 {v} (h : Keeps s0 s) : Keeps s0 (s.boot10 v) :=
  h.loadRegSet.bootStep

theorem Keeps.loadBootImage {bank v} (h : Keeps s0 s) : Keeps s0 (s.loadBootImage bank v) := by
  unfold State.loadBootImage
  exact
    have ht := h.imgClear.imgStore.fset.fset
    .ite h.refuseSlot (.ite ht.fset.setSlot.pulse ht.fset.refuseSlot)

theorem Keeps.noteImage (h : Keeps s0 s) : Keeps s0 s.noteImage :=
  .ite h h.fset.pulse

theorem Keeps.boot11 {v} (h : Keeps s0 s) : Keeps s0 (s.boot11 v) :=
  h.loadBootImage.noteImage.bootStep

theorem Keeps.activateBoot (h : Keeps s0 s) : Keeps s0 s.activateBoot :=
  .ite h.advanceTo.activate h

theorem Keeps.boot12 (h : Keeps s0 s) : Keeps s0 s.boot12 :=
  h.activateBoot.bootStep

theorem Keeps.boot13 (h : Keeps s0 s) : Keeps s0 s.boot13 :=
  h.blockStart.bootStep

theorem Keeps.healthy (h : Keeps s0 s) : Keeps s0 s.healthy :=
  h.update.setPads.fset

theorem Keeps.boot14 (h : Keeps s0 s) : Keeps s0 s.boot14 :=
  .ite h h.healthy.fset.pulse.fset.update

theorem Keeps.primrose {v} (h : Keeps s0 s) : Keeps s0 (s.primrose v) := by
  unfold State.primrose
  split
  · exact h.bootStep
  · exact h.boot2
  · exact h.boot3
  · exact h.boot4
  · exact h.boot5
  · exact h.boot6
  · exact h.boot7
  · exact h.boot8
  · exact h.boot9
  · exact h.boot10
  · exact h.boot11
  · exact h.boot12
  · exact h.boot13
  · exact h.boot14
  · exact h

theorem Keeps.execPrimroseStep {v} (h : Keeps s0 s) : KeepsNext s0 (execPrimroseStep v s) :=
  .next (.ite h.primrose h)

/-! The operations of Machine/Flt. -/

theorem Keeps.setSevere {src b} (h : Keeps s0 s) : Keeps s0 (s.setSevere src b) :=
  h.fsetBit.fsetB

theorem Keeps.showSevere (h : Keeps s0 s) : Keeps s0 s.showSevere :=
  h.fsetB.fset.update

theorem Keeps.chipResetReaction {src} (h : Keeps s0 s) : Keeps s0 (s.chipResetReaction src) :=
  h.muteAndPads.fset.drainIntake.commitOpenIfAdmitted.fset.fset.fset.chipReset

theorem Keeps.faultInterrupt (h : Keeps s0 s) : Keeps s0 s.faultInterrupt :=
  h.update.raiseMsix

theorem Keeps.react {src rung} (h : Keeps s0 s) : Keeps s0 (s.react src rung) := by
  unfold State.react
  split
  · exact h
  · exact h.faultInterrupt
  · exact h.update
  · exact h.foldl fun _ _ ht => ht.blockReset
  · exact h.chipResetReaction
  · exact .ite h h.safeEntry

theorem Keeps.atRung {src rung} (h : Keeps s0 s) : Keeps s0 (s.atRung src rung) :=
  h.fset.fset.showSevere

theorem Keeps.becomeSevere {src} (h : Keeps s0 s) : Keeps s0 (s.becomeSevere src) :=
  h.setSevere.fset.atRung.pulse.post.react

theorem Keeps.infoIrq {src} (h : Keeps s0 s) : Keeps s0 (s.infoIrq src) :=
  .ite h.update.raiseMsix h

theorem Keeps.countRise {src} (h : Keeps s0 s) : Keeps s0 (s.countRise src) :=
  have ht := Keeps.ite h.update h
  .ite ht.fset.becomeSevere ht.fset.infoIrq

theorem Keeps.faultRise {src forced} (h : Keeps s0 s) : Keeps s0 (s.faultRise src forced) :=
  .ite h (.ite (.ite h.fsetBit h.fsetBit.update) h.fsetBit.update.countRise)

theorem Keeps.hardFault {src} (h : Keeps s0 s) : Keeps s0 (s.hardFault src) :=
  .ite h.drive h

theorem Keeps.takeRise {src} (h : Keeps s0 s) : Keeps s0 (s.takeRise src) :=
  .ite h.hardFault.update.faultRise h.hardFault

theorem Keeps.execFaultWindowExpired {src} (h : Keeps s0 s) : KeepsNext s0 (execFaultWindowExpired src s) :=
  .next (.ite h.fset h)

theorem Keeps.escTick (h : Keeps s0 s) : Keeps s0 s.escTick :=
  h.foldl fun _ _ ht => .ite ht.fset ht

theorem Keeps.escalate {src} (h : Keeps s0 s) : Keeps s0 (s.escalate src) := by
  unfold State.escalate
  refine .ite ?_ ?_
  · split
    · exact h
    · exact h.atRung.pulse.post.react
  · exact h

theorem Keeps.noteDual {src} (h : Keeps s0 s) : Keeps s0 (s.noteDual src) :=
  h.fset.fbump.pulse

theorem Keeps.driveDual (h : Keeps s0 s) : Keeps s0 s.driveDual :=
  h.drive

theorem Keeps.setDual {src b} (h : Keeps s0 s) : Keeps s0 (s.setDual src b) :=
  h.update.noteLevel.driveDual

theorem Keeps.execDualPolarityConfirmed {src stands} (h : Keeps s0 s) : KeepsNext s0 (execDualPolarityConfirmed src stands s) :=
  .next (.ite h (Keeps.ite h.noteDual h).setDual)

theorem Keeps.execCollectorSelfcheckFail (h : Keeps s0 s) : KeepsNext s0 (execCollectorSelfcheckFail s) :=
  .next (.ite h.safeEntry h)

theorem Keeps.applyHeldWord {page off key w} (h : Keeps s0 s) : Keeps s0 (s.applyHeldWord page off key w) := by
  unfold State.applyHeldWord
  split
  · exact h
  · split
    · next t heq =>
      exact (h.mergeReg _ heq)
    · exact h

theorem Keeps.applyHeldConfig {src} (h : Keeps s0 s) : Keeps s0 (s.applyHeldConfig src) :=
  h.applyHeldWord.applyHeldWord.update

theorem Keeps.acknowledge {src} (h : Keeps s0 s) : Keeps s0 (s.acknowledge src) :=
  .ite h.setSevere.fset.fset.applyHeldConfig.showSevere h

theorem Keeps.ackWrite {v} (h : Keeps s0 s) : KeepsOk s0 (ackWrite v s) :=
  .ite .err (.ok (.ite h.acknowledge h))

theorem Keeps.execFaultAck {who src} (h : Keeps s0 s) : KeepsNext s0 (execFaultAck who src s) :=
  .next (h.access fun _ ht => ht.ackWrite)

theorem Keeps.scfgWrite {who v} (h : Keeps s0 s) : KeepsOk s0 (scfgWrite who v s) := by
  unfold Machine.scfgWrite
  dsimp only
  split
  · exact .err
  · next t heq =>
    exact .ok (.ite h.update (h.mergeReg _ heq))

theorem Keeps.sreactWrite {who v} (h : Keeps s0 s) : KeepsOk s0 (sreactWrite who v s) := by
  unfold Machine.sreactWrite
  dsimp only
  refine .ite .err ?_
  split
  · exact .err
  · next t heq =>
    exact .ok (.ite h.update (h.mergeReg _ heq))

theorem Keeps.execFaultConfigWrite {who react value} (h : Keeps s0 s) : KeepsNext s0 (execFaultConfigWrite who react value s) :=
  .next (.ite (h.access fun _ ht => ht.sreactWrite) (h.access fun _ ht => ht.scfgWrite))

theorem Keeps.forceFault {group bits} (h : Keeps s0 s) : KeepsOk s0 (forceFault group bits s) :=
  .ok (h.foldl fun _ _ ht => ht.faultRise)

theorem Keeps.splitFault {src} (h : Keeps s0 s) : Keeps s0 (s.splitFault src) :=
  have ht := Keeps.ite h.noteDual h.noteDual.faultRise
  .ite ht ht.faultRise

theorem Keeps.testWrite {v} (h : Keeps s0 s) : KeepsOk s0 (testWrite v s) :=
  .ite .err (.ok (.ite h.fset.fset.splitFault h.fset.fset))

theorem Keeps.errCtrlWrite {v} (h : Keeps s0 s) : KeepsOk s0 (errCtrlWrite v s) :=
  .ite (.ok h) (.ite (.ok h.healthy) .err)

theorem Keeps.errCtrlAccess {who v} (h : Keeps s0 s) : Keeps s0 (s.errCtrlAccess who v) :=
  h.accessBy fun _ ht => ht.errCtrlWrite

theorem Keeps.execErrHealthyWrite {who} (h : Keeps s0 s) : KeepsNext s0 (execErrHealthyWrite who s) :=
  .next h.errCtrlAccess

theorem Keeps.safeCauseWrite {v} (h : Keeps s0 s) : KeepsOk s0 (safeCauseWrite v s) :=
  .ok (.ite h.fset.fset.fset h)

theorem Keeps.execSafeCauseClear {who} (h : Keeps s0 s) : KeepsNext s0 (execSafeCauseClear who s) :=
  .next (h.access fun _ ht => ht.safeCauseWrite)

theorem Keeps.refreshEventIrq (h : Keeps s0 s) : Keeps s0 s.refreshEventIrq :=
  .ite h.update.raiseMsix h.update

theorem Keeps.fltWrite {who off v} (h : Keeps s0 s) : KeepsOk s0 (fltWrite who off v s) := by
  unfold Machine.fltWrite
  refine .ite h.mergeReg ?_
  refine .ite h.scfgWrite ?_
  refine .ite h.sreactWrite ?_
  refine .ite h.ackWrite ?_
  refine .ite h.safeCauseWrite ?_
  refine .ite h.forceFault ?_
  refine .ite h.testWrite ?_
  split
  · exact .err
  · next t heq =>
    exact .ok (h.mergeReg _ heq).refreshEventIrq

/-! The operations of Machine/Pwr. -/

theorem Keeps.setPwState {st} (h : Keeps s0 s) : Keeps s0 (s.setPwState st) :=
  h.fset.pulse

theorem Keeps.dropRequests (h : Keeps s0 s) : Keeps s0 s.dropRequests :=
  h.update.foldl fun _ _ ht => (ht.foldl fun _ _ ht => ht.freeBuf).setQueue

theorem Keeps.pwrBegin {target drain} (h : Keeps s0 s) : Keeps s0 (s.pwrBegin target drain) :=
  .ite (h.update.fset.foldl fun _ _ ht => .ite ht ht.setEnable) (.ite h.update.fset.dropRequests.flushOpen.update h.update.fset)

theorem Keeps.pwrWrite {v} (h : Keeps s0 s) : KeepsOk s0 (pwrWrite v s) := by
  unfold Machine.pwrWrite
  dsimp only
  refine .ite h.mergeReg ?_
  refine .ite .err ?_
  split
  · exact .err
  · split
    · exact .err
    · next t heq =>
      exact .ok (h.mergeReg _ heq).fset.pwrBegin

theorem Keeps.pwrAccess {who v} (h : Keeps s0 s) : Keeps s0 (s.pwrAccess who v) := by
  unfold State.pwrAccess
  dsimp only
  split
  · exact (h.access fun _ ht => ht.pwrWrite).fset.pulse
  · exact .ite (h.access fun _ ht => ht.pwrWrite).pulse (h.access fun _ ht => ht.pwrWrite)

theorem Keeps.execPowerToActive {who drain keepFh} (h : Keeps s0 s) : KeepsNext s0 (execPowerToActive who drain keepFh s) :=
  .next h.pwrAccess

theorem Keeps.execPowerToLean {who drain keepFh} (h : Keeps s0 s) : KeepsNext s0 (execPowerToLean who drain keepFh s) :=
  .next h.pwrAccess

theorem Keeps.execPowerToStandby {who drain keepFh} (h : Keeps s0 s) : KeepsNext s0 (execPowerToStandby who drain keepFh s) :=
  .next h.pwrAccess

theorem Keeps.execPowerToSnowdrop {who drain keepFh} (h : Keeps s0 s) : KeepsNext s0 (execPowerToSnowdrop who drain keepFh s) :=
  .next h.pwrAccess

theorem Keeps.stopGroup {g} (h : Keeps s0 s) : Keeps s0 (s.stopGroup g) := by
  unfold State.stopGroup
  dsimp only
  split
  · next t heq =>
    exact ((Keeps.ite (Keeps.ite h.canLinkLoss h).canLinkLoss (.ite h.canLinkLoss h)).jlkCfgWrite _ heq)
  · exact .ite (Keeps.ite h.canLinkLoss h).canLinkLoss (.ite h.canLinkLoss h)

theorem Keeps.stopSide {d} (h : Keeps s0 s) : Keeps s0 (s.stopSide d) := by
  unfold State.stopSide
  split
  · next t heq =>
    exact (h.sideWrite _ heq)
  · exact h

theorem Keeps.gateEngine {b} (h : Keeps s0 s) : Keeps s0 (s.gateEngine b) :=
  h.update.refreshClocks

theorem Keeps.freeMute (h : Keeps s0 s) : Keeps s0 s.freeMute :=
  h.update.setPads

theorem Keeps.enterStandby (h : Keeps s0 s) : Keeps s0 s.enterStandby :=
  (((h.update.foldl fun _ _ ht => ht.holdPort).foldl fun _ _ ht => ht.stopGroup).foldl fun _ _ ht => .ite ht ht.stopSide).freeMute.gateEngine.setPwState

theorem Keeps.leaveStandby (h : Keeps s0 s) : Keeps s0 s.leaveStandby :=
  h.update.gateEngine.foldl fun _ _ ht => ht.driveChain

theorem Keeps.snowKept (h : Keeps s0 s) : Keeps s0 s.snowKept :=
  h.update.update.update.update.update.update.update.update.update.update.update

theorem Keeps.stopTraces (h : Keeps s0 s) : Keeps s0 s.stopTraces :=
  h.foldl fun _ _ ht => .ite ht.traceDone ht

theorem Keeps.chainsSleep (h : Keeps s0 s) : Keeps s0 s.chainsSleep :=
  h.update.foldl fun _ _ ht => ht.driveChain

theorem Keeps.enterSnowdrop {cd41} (h : Keeps s0 s) : Keeps s0 (s.enterSnowdrop cd41) :=
  h.stopTraces.trcWrite.capReset.update.setPwState.fset.snowKept.refreshClocks

theorem Keeps.pwrGiveUp {refuse} (h : Keeps s0 s) : Keeps s0 (s.pwrGiveUp refuse) :=
  h.update.fset.fset

theorem Keeps.pwrSleep {cd41} (h : Keeps s0 s) : Keeps s0 (s.pwrSleep cd41) :=
  .ite h <|
  .ite h.flushOpen <|
  have ht := Keeps.ite h h.chainsSleep
  .ite ht.enterSnowdrop ht

theorem Keeps.pwrDone {cd41} (h : Keeps s0 s) : Keeps s0 (s.pwrDone cd41) :=
  .ite h.pwrSleep (.ite (.ite h.fset.enterStandby h) (Keeps.ite h.fset.leaveStandby h.fset).setPwState)

theorem Keeps.execPowerTransitionDone {cd41} (h : Keeps s0 s) : KeepsNext s0 (execPowerTransitionDone cd41 s) :=
  .next (.ite h.pwrDone h)

theorem Keeps.wakeDecided {source} (h : Keeps s0 s) : Keeps s0 (s.wakeDecided source) :=
  h.update.fset

theorem Keeps.wakeCalls {source} (h : Keeps s0 s) : Keeps s0 (s.wakeCalls source) :=
  .ite (.ite h h.wakeDecided) (.ite h.pwrGiveUp.pulse h)

theorem Keeps.setWakePin {i level} (h : Keeps s0 s) : Keeps s0 (s.setWakePin i level) :=
  .ite h.update h.update.update

theorem Keeps.execWakePin {pin level} (h : Keeps s0 s) : KeepsNext s0 (execWakePin pin level s) :=
  .next (.ite h.setWakePin.wakeCalls h.setWakePin)

theorem Keeps.cd41To {n} (h : Keeps s0 s) : Keeps s0 (s.cd41To n) :=
  h.update

theorem Keeps.execWakeTimerExpired (h : Keeps s0 s) : KeepsNext s0 (execWakeTimerExpired s) :=
  .next (.ite h.cd41To.wakeCalls h)

theorem Keeps.execWakePinStuck {pin} (h : Keeps s0 s) : KeepsNext s0 (execWakePinStuck pin s) :=
  .next (.ite (.ite h.timerStop.update.pulse h.timerStop) h)

theorem Keeps.restoreTime {cycles} (h : Keeps s0 s) : Keeps s0 (s.restoreTime cycles) :=
  h.update.update

theorem Keeps.twtHandOver (h : Keeps s0 s) : Keeps s0 s.twtHandOver := by
  unfold State.twtHandOver
  dsimp only
  split
  · exact h.update
  · exact h.update.twtPhase

theorem Keeps.wakeClocks {cycles} (h : Keeps s0 s) : Keeps s0 (s.wakeClocks cycles) :=
  (h.cd41To.restoreTime.fset.lockPlls.startPages.foldl fun _ _ ht => ht.refreshLag).twtHandOver.freeMute

theorem Keeps.wakeContexts (h : Keeps s0 s) : Keeps s0 s.wakeContexts :=
  .ite h h.evict

theorem Keeps.wakeEpoch (h : Keeps s0 s) : Keeps s0 s.wakeEpoch :=
  .ite h.epochMarker h

theorem Keeps.wakeEnd {cycles v} (h : Keeps s0 s) : Keeps s0 (s.wakeEnd cycles v) :=
  have ht := h.trcWrite.loadRegSet.loadBootImage.wakeContexts.activateBoot.blockStart.wakeEpoch.update
  (Keeps.ite ht.timerStart ht).setPwState.pulse

/-- The wake's match is on a long computation, which the kernel would run: the definition is unfolded as a function, before it has its arguments. -/
theorem Keeps.wake {cycles v} (h : Keeps s0 s) : Keeps s0 (s.wake cycles v) := by
  have ht := h.wakeClocks (cycles := cycles)
  have e : State.wake = State.wake := rfl
  conv at e => rhs; delta State.wake
  rw [e]
  beta_reduce
  generalize s.wakeClocks cycles = t at ht ⊢
  extract_lets
  split
  · exact ht.newChallenge.romRecovery
  · exact ht.newChallenge.startFirmware.fset.wakeEnd

theorem Keeps.execWake {cycles v} (h : Keeps s0 s) : KeepsNext s0 (execWake cycles v s) :=
  .next (.ite h.wake h)

theorem Keeps.execTwtWakeMatch {addr read} (h : Keeps s0 s) : KeepsNext s0 (execTwtWakeMatch addr read s) := by
  refine .next ?_
  split
  · exact h
  · exact
      have ht := Keeps.ite h h.update
      .ite ht.wakeCalls ht

theorem Keeps.execTwtWakeTimeout (h : Keeps s0 s) : KeepsNext s0 (execTwtWakeTimeout s) :=
  .next (.ite h.update h)

theorem Keeps.stageTimeout (h : Keeps s0 s) : Keeps s0 s.stageTimeout :=
  .ite h.pwrGiveUp.pulse h

theorem Keeps.execEnergyBlockTimeout (h : Keeps s0 s) : KeepsNext s0 (execEnergyBlockTimeout s) :=
  .next h.energyBlocked.lcEnergyEnd.stageTimeout

/-! The operations of Machine/Strobe. -/

theorem Keeps.toStrobe {n} (h : Keeps s0 s) : Keeps s0 (s.toStrobe n) :=
  h.advanceTo.update

theorem Keeps.execUsStrobe (h : Keeps s0 s) : KeepsNext s0 (execUsStrobe s) :=
  .next (.ite h.toStrobe.blockStrobe.sclStrobe.pwmStrobe h)

theorem Keeps.nextMs (h : Keeps s0 s) : Keeps s0 s.nextMs :=
  h.toStrobe.update

theorem Keeps.checkConfig {upset} (h : Keeps s0 s) : Keeps s0 (s.checkConfig upset) :=
  have ht := h.foldl fun _ _ ht => ht.crcPassStart
  .ite ht.ctxCrcMismatch ht

theorem Keeps.ptpYield (h : Keeps s0 s) : Keeps s0 s.ptpYield :=
  .ite h h.tookFree.yieldObs

theorem Keeps.msWork {upset} (h : Keeps s0 s) : Keeps s0 (s.msWork upset) :=
  have ht := h.checkConfig.wdTick
  have ht' := Keeps.ite ht.escTick ht
  have ht'' := Keeps.ite ht'.capCheck.capLossTick ht'
  have ht''' := Keeps.ite ht''.ptpYield ht''
  have ht'''' := Keeps.ite ht'''.cellListener ht'''
  .ite ht''''.chipReset ht''''

theorem Keeps.execMsStrobe {upset} (h : Keeps s0 s) : KeepsNext s0 (execMsStrobe upset s) :=
  .next (.ite h.nextMs.msWork h)

theorem Keeps.nextSec (h : Keeps s0 s) : Keeps s0 s.nextSec :=
  h.toStrobe.update

theorem Keeps.lockoutTick (h : Keeps s0 s) : Keeps s0 s.lockoutTick :=
  .ite h h.fset

theorem Keeps.secWork (h : Keeps s0 s) : Keeps s0 s.secWork :=
  have ht := h.wdSecond.lockoutTick
  .ite ht.dutyCheck.foxSecond ht

theorem Keeps.execSecondStrobe (h : Keeps s0 s) : KeepsNext s0 (execSecondStrobe s) :=
  .next (.ite h.nextSec.secWork h)

/-! The operations of Machine/RegWrite. -/

theorem Keeps.deriveRise (h : Keeps s0 s) : Keeps s0 s.deriveRise :=
  h.fset

theorem Keeps.reopenPort {n} (h : Keeps s0 s) : Keeps s0 (s.reopenPort n) :=
  h.foldl fun _ _ ht => ht.setCtxRt

theorem Keeps.mgeSwitch (h : Keeps s0 s) : Keeps s0 s.mgeSwitch :=
  .ite h h.fset.timerStart.pulse

theorem Keeps.afterWrite {page off} (h : Keeps s0 s) : Keeps s0 (s.afterWrite page off) :=
  .ite h.driveClockFaults <|
  .ite h.deriveRise <|
  .ite h.reopenPort (.ite h.mgeSwitch (.ite h.refreshReq (.ite h.setGridQueue (.ite h.setEvr (.ite h.trcStop (.ite h.fset.poolMarks h))))))

theorem Keeps.keepGrid {s1 page off} (h1 : Keeps s0 s) : Keeps s0 (s.keepGrid s1 page off) :=
  .ite h1.update h1

theorem Keeps.duplexMode {n} (h : Keeps s0 s) : Keeps s0 (s.duplexMode n) :=
  .ite (.ite h.askPins h) h.fddPins

theorem Keeps.pairsAfter (h : Keeps s0 s) : Keeps s0 s.pairsAfter :=
  (h.foldl fun _ _ ht => .ite ht.setWheelPort ht).foldl fun _ _ ht => ht.refreshReq

theorem Keeps.portsAfter {s1 page off} (h1 : Keeps s0 s) : Keeps s0 (s.portsAfter s1 page off) :=
  .ite (have ht := h1.foldl fun _ _ ht => .ite ht ht.duplexMode; .ite ht.pairsAfter ht) <|
  .ite (h1.foldl fun _ _ ht => .ite ht.refreshGains ht) (.ite h1.recalSince h1)

theorem Keeps.storeWrite {i page off v} (h : Keeps s0 s) : KeepsOk s0 (storeWrite i page off v s) := by
  unfold Machine.storeWrite
  dsimp only
  refine .ite .err ?_
  split
  · exact .err
  · next t heq =>
    exact .ite .err (.ite (.ok (h.mergeReg _ heq).keepGrid.afterWrite.portsAfter) .err)

theorem Keeps.bufWrite {i off v} (h : Keeps s0 s) : KeepsOk s0 (bufWrite i off v s) := by
  unfold Machine.bufWrite
  dsimp only
  refine .ite h.storeWrite ?_
  split
  · exact .err
  · next t heq =>
    exact .ite (.ok (Keeps.ite (h.mergeReg _ heq).fset (h.mergeReg _ heq)).poolMarks) .err

theorem Keeps.regDataWrite {i k v} (h : Keeps s0 s) : KeepsOk s0 (regDataWrite i k v s) :=
  .ite .err (.ok h.update)

theorem Keeps.canWrite {i off v} (h : Keeps s0 s) : KeepsOk s0 (canWrite i off v s) :=
  .ite h.canCtrlWrite <|
  .ite h.canBasicWrite <|
  .ite h.canBasicWrite <|
  .ite h.canBasicWrite <|
  .ite h.canBasicWrite <|
  .ite h.canBasicWrite <|
  .ite h.canBasicWrite <|
  .ite h.canCoefM <|
  .ite h.canCoefS (.ite h.canCoefS (.ite h.canCoefS (.ite h.mapWrite (.ite h.tapReWrite (.ite h.tapImWrite h.storeWrite)))))

theorem Keeps.chnWrite {i off v} (h : Keeps s0 s) : KeepsOk s0 (chnWrite i off v s) :=
  .ite h.winLoWrite (.ite h.winHiWrite (.ite h.streamAccess (.ite h.pathCfgWrite (.ite h.delayWrite (.ite h.delaySmpWrite h.storeWrite)))))

theorem Keeps.schWrite {i off v} (h : Keeps s0 s) : KeepsOk s0 (schWrite i off v s) :=
  .ite h.loadCtrlWrite (.ite h.loadAddrWrite (.ite h.loadDataWrite (.ite h.swapCtrlWrite h.storeWrite)))

theorem Keeps.clsWrite {i off v} (h : Keeps s0 s) : KeepsOk s0 (clsWrite i off v s) :=
  .ite .err (.ite h.ccfgWrite (.ite h.cfreqWrite (.ite h.patStage (.ite h.patStage (.ite h.patApply h.storeWrite)))))

theorem Keeps.limWrite {i off v} (h : Keeps s0 s) : KeepsOk s0 (limWrite i off v s) :=
  .ite h.regDataWrite h.storeWrite

theorem Keeps.felWrite {i off v} (h : Keeps s0 s) : KeepsOk s0 (felWrite i off v s) :=
  .ite h.chainWrite (.ite h.loWrite (.ite h.tunerWrite (.ite h.descStage (.ite h.descCommit h.storeWrite))))

theorem Keeps.fhlWrite {i off v} (h : Keeps s0 s) : KeepsOk s0 (fhlWrite i off v s) :=
  .ite h.sideWrite <|
  .ite h.feedWrite (.ite h.flowWrite (.ite h.alignWrite (.ite h.ptpCfgWrite (.ite h.ptpFreqWrite (.ite h.ptpStepWrite h.storeWrite)))))

theorem Keeps.gcpWrite {i off v} (h : Keeps s0 s) : KeepsOk s0 (gcpWrite i off v s) :=
  .ite h.fnEnWrite (.ite h.hostWrite h.storeWrite)

theorem Keeps.pcieWrite {i off v} (h : Keeps s0 s) : KeepsOk s0 (pcieWrite i off v s) :=
  .ite h.storeWrite (.ite h.ringWrite (.ite h.rqProdWrite (.ite h.anConsWrite (.ok h))))

theorem Keeps.hkaWrite {i off v} (h : Keeps s0 s) : KeepsOk s0 (hkaWrite i off v s) :=
  .ite h.hkaCmdWrite (.ite h.hkaCfgWrite (.ite h.hkaUrgWrite (.ite h.hkaCoefWrite h.storeWrite)))

theorem Keeps.pwmWrite {i off v} (h : Keeps s0 s) : KeepsOk s0 (pwmWrite i off v s) :=
  .ite h.storeWrite (.ite h.pwmCfgWrite (.ite h.pwmCmdWrite h.storeWrite))

theorem Keeps.fanWrite {i off v} (h : Keeps s0 s) : KeepsOk s0 (fanWrite i off v s) :=
  .ite h.fanCfgWrite h.storeWrite

theorem Keeps.twbWrite {i n off v} (h : Keeps s0 s) : KeepsOk s0 (twbWrite i n off v s) :=
  .ite h.twbCfgWrite (.ite h.twbTxnWrite (.ite (.ite h.twbGoWrite (.ok h)) h.storeWrite))

theorem Keeps.twtWrite {i off v} (h : Keeps s0 s) : KeepsOk s0 (twtWrite i off v s) :=
  .ite h.twtCfgWrite (.ite h.txPush (.ite h.twtCmdWrite h.storeWrite))

theorem Keeps.gpioWrite {i off v} (h : Keeps s0 s) : KeepsOk s0 (gpioWrite i off v s) :=
  .ite h.gpioOeWrite (.ite h.gpioPolWrite h.storeWrite)

theorem Keeps.jlkWrite {i page off v} (h : Keeps s0 s) : KeepsOk s0 (jlkWrite i page off v s) :=
  .ite h.jlkCfgWrite (.ite h.jlkTestWrite h.storeWrite)

theorem Keeps.evrWrite {i off v} (h : Keeps s0 s) : KeepsOk s0 (evrWrite i off v s) :=
  .ite (.ite h.evrFlush (.ok h)) (.ite (.ite h.evrClear (.ok h)) h.storeWrite)

theorem Keeps.bootselByWord {i v} (h : Keeps s0 s) : KeepsOk s0 (bootselByWord i v s) :=
  .ite (.ok h) h.tookFree.bootselWrite

theorem Keeps.nvaWrite {i off v} (h : Keeps s0 s) : KeepsOk s0 (nvaWrite i off v s) :=
  .ite h.nvaCmd (.ite h.bootselByWord h.storeWrite)

theorem Keeps.clkWrite {i off v} (h : Keeps s0 s) : KeepsOk s0 (clkWrite i off v s) :=
  .ite h.xtsWrite h.storeWrite

theorem Keeps.gnsWrite {i off v} (h : Keeps s0 s) : KeepsOk s0 (gnsWrite i off v s) :=
  .ite h.gnsUartWrite (.ite h.gnsPpsWrite h.storeWrite)

theorem Keeps.thmWrite {i off v} (h : Keeps s0 s) : KeepsOk s0 (thmWrite i off v s) :=
  .ite h.thmCfgWrite h.storeWrite

theorem Keeps.blockWrite {i page off v} (h : Keeps s0 s) : KeepsOk s0 (blockWrite i page off v s) :=
  .ite h.clkWrite <|
  .ite h.rstWrite <|
  .ite (.ok (.ite h.debugClosed h)) <|
  .ite h.fltWrite <|
  .ite h.evrWrite <|
  .ite h.nvaWrite <|
  .ite h.hupWrite <|
  .ite h.gcpWrite <|
  .ite h.bufWrite <|
  .ite h.pcieWrite <|
  .ite h.scmdWrite <|
  .ite h.fhlWrite <|
  .ite h.gnsWrite <|
  .ite h.schWrite <|
  .ite h.chnWrite <|
  .ite h.canWrite <|
  .ite h.wr2Write <|
  .ite h.clsWrite <|
  .ite h.trcCmdWrite <|
  .ite h.foxCmdWrite <|
  .ite h.limWrite <|
  .ite h.gcfgWrite <|
  .ite h.felWrite <|
  .ite h.hkaWrite <|
  .ite h.pwmWrite (.ite h.fanWrite (.ite h.thmWrite (.ite h.twbWrite (.ite h.twtWrite (.ite h.gpioWrite (.ite h.jlkWrite h.storeWrite))))))

/-! The operations of Machine/RegHead. -/

theorem Keeps.ctrlBits {page v} (h : Keeps s0 s) : Keeps s0 (s.ctrlBits page v) :=
  have ht := Keeps.ite h.fset h
  (Keeps.ite ht.fset ht).fset.fset

theorem Keeps.pageCtrlWrite {page v} (h : Keeps s0 s) : KeepsOk s0 (pageCtrlWrite page v s) :=
  .ite .err (.ite .err (.ok (.ite h.ctrlBits.blockReset h.ctrlBits)))

theorem Keeps.headerWrite {i page off v} (h : Keeps s0 s) : KeepsOk s0 (headerWrite i page off v s) :=
  .ite h.stickyWrite (.ite (.ok h.fset) (.ite h.forceWrite (.ite h.evtCountWrite (.ok h))))

theorem Keeps.headerAccess {i page off v} (h : Keeps s0 s) : Keeps s0 (s.headerAccess i page off v) :=
  .ite (h.access fun _ ht => ht.pageCtrlWrite) <|
  .ite (h.accessBy fun _ ht => ht.unlockWrite) <|
  .ite (h.accessBy fun _ ht => ht.ownerWrite) (.ite h.selftestAccess (h.access fun _ ht => ht.headerWrite))

theorem Keeps.keyAccess {i v} (h : Keeps s0 s) : Keeps s0 (s.keyAccess i v) :=
  .ite h.keyInstall (.ite h.keyErase (.ite (h.accessBy fun _ ht => .ok ht) (h.access fun _ ht => .ok ht)))

theorem Keeps.rootAccess {i v} (h : Keeps s0 s) : Keeps s0 (s.rootAccess i v) :=
  .ite (h.accessBy fun _ ht => ht.rootProgram) (.ite (h.accessBy fun _ ht => ht.rootRevoke) (h.access fun _ ht => .ok ht))

theorem Keeps.secAccess {i off v} (h : Keeps s0 s) : Keeps s0 (s.secAccess i off v) :=
  .ite h.lifecycleGo <|
  .ite (h.accessBy fun _ ht => ht.pcieRoleWrite) <|
  .ite (h.accessBy fun _ ht => ht.storeWrite) <|
  .ite h.wrapWrite <|
  .ite h.keyAccess <|
  .ite (h.accessBy fun _ ht => ht.storeWrite) <|
  .ite h.rootAccess (.ite (h.accessBy fun _ ht => ht.svnAdvance) (h.access fun _ ht => ht.storeWrite))

theorem Keeps.ctxSelAccess {i v} (h : Keeps s0 s) : Keeps s0 (s.ctxSelAccess i v) :=
  .ite (h.accessBy fun _ ht => ht.ctxwCommit).noteRefuse h.selectCtx

theorem Keeps.statWrite {i v} (h : Keeps s0 s) : KeepsOk s0 (statWrite i v s) :=
  .ok (.ite h.setWindow h)

theorem Keeps.ctxwAccess {i off v} (h : Keeps s0 s) : Keeps s0 (s.ctxwAccess i off v) := by
  unfold State.ctxwAccess
  split
  · exact h.access fun _ ht => .ok ht
  · exact .ite (h.accessBy fun _ ht => .ok ht).noteRefuse (.ite h.ctxSelAccess (.ite (h.accessBy fun _ ht => ht.statWrite) h.writeAperture))

theorem Keeps.blockAccess {i page off v} (h : Keeps s0 s) : Keeps s0 (s.blockAccess i page off v) :=
  .ite (h.accessBy fun _ ht => .ok ht) <|
  .ite h.secAccess <|
  .ite h.ctxwAccess <|
  .ite h.pwrAccess <|
  .ite h.rstAccess <|
  .ite (h.accessBy fun _ ht => ht.rstWrite) <|
  .ite h.errCtrlAccess <|
  .ite (h.accessBy fun _ ht => ht.evrWrite) <|
  .ite h.remoteAccess (.ite h.regCmdAccess (.ite (h.accessBy fun _ ht => ht.canWrite) (h.access fun _ ht => ht.blockWrite)))

theorem Keeps.plainWrite {i addr v} (h : Keeps s0 s) : Keeps s0 (s.plainWrite i addr v) :=
  .ite h.headerAccess h.blockAccess

theorem Keeps.wordEffect {armed i page off v} (h : Keeps s0 s) : KeepsOk s0 (wordEffect armed i page off v s) :=
  .ite h.pageCtrlWrite (.ite h.unlockWrite (.ite h.ownerWrite (.ite h.selftestWrite (.ite h.headerWrite (.ite h.blockWrite (.ok h))))))

theorem Keeps.applyOne {hd} (h : Keeps s0 s) : Keeps s0 (s.applyOne hd) := by
  unfold State.applyOne
  split
  · exact h.refuse
  · next t heq =>
    exact (h.wordEffect _ heq).keepOpen.dropCrcPass

theorem Keeps.applyHeld (h : Keeps s0 s) : Keeps s0 s.applyHeld :=
  .ite h (h.update.foldl fun _ _ ht => ht.applyOne)

theorem Keeps.afterTest {s1} (h1 : Keeps s0 s) : Keeps s0 (s.afterTest s1) :=
  .ite h1.applyHeld h1

theorem Keeps.resetInTest {i page v} (h : Keeps s0 s) : Keeps s0 (s.resetInTest i page v) :=
  have ht := h.fset.access fun _ ht => ht.applyHeld.pageCtrlWrite
  .ite ht ht.fset

theorem Keeps.ctrlAccess {i page v} (h : Keeps s0 s) : Keeps s0 (s.ctrlAccess i page v) :=
  .ite h.resetInTest (h.access fun _ ht => ht.pageCtrlWrite)

theorem Keeps.regWrite {i addr v sub} (h : Keeps s0 s) : Keeps s0 (s.regWrite i addr v sub) :=
  .ite (h.accessBy fun _ ht => .ok ht) (.ite h.ctrlAccess h.plainWrite)

/-! The operations of Machine/RegRead. -/

theorem Keeps.ftmLoRead {i off} (h : Keeps s0 s) : Keeps s0 (s.ftmLoRead i off) :=
  h.update.answerRead

theorem Keeps.hkaCoefRead {i off} (h : Keeps s0 s) : Keeps s0 (s.hkaCoefRead i off) := by
  unfold State.hkaCoefRead
  exact .ite h.setCoefShadow.answerRead h.readCoefS

theorem Keeps.ctxwRead {i off} (h : Keeps s0 s) : Keeps s0 (s.ctxwRead i off) := by
  unfold State.ctxwRead
  dsimp only
  split
  · exact h.answerRead
  · exact .ite h.refuseRead.noteRefuse (.ite h.answerRead (.ite h.answerRead h.apertureRead))

theorem Keeps.blockRead {i page off} (h : Keeps s0 s) : Keeps s0 (s.blockRead i page off) :=
  .ite h.ctxwRead <|
  .ite h.answerRead <|
  .ite h.devtimeLoRead <|
  .ite h.canCoefRead <|
  .ite h.readCoefS <|
  .ite h.tapReRead <|
  .ite h.traceRead <|
  .ite h.ftmLoRead <|
  .ite h.ptpTimeRead (.ite h.hkaCoefRead (.ite h.trcRdData (.ite h.answerRead (.ite h.readRecWord (.ite h.rxPop h.answerRead)))))

theorem Keeps.regRead {i addr} (h : Keeps s0 s) : Keeps s0 (s.regRead i addr) := by
  unfold State.regRead
  exact h.accessRead fun _ ht => .ite ht.answerRead (.ite ht.answerRead ht.blockRead)

/-! The operations of Machine/RegBus. -/

theorem Keeps.execRegisterWrite {who addr value sub} (h : Keeps s0 s) : KeepsNext s0 (execRegisterWrite who addr value sub s) :=
  .next h.regWrite

theorem Keeps.execSatClr {who page} (h : Keeps s0 s) : KeepsNext s0 (execSatClr who page s) :=
  .next h.ctrlAccess

theorem Keeps.execCfgLockSet {who page} (h : Keeps s0 s) : KeepsNext s0 (execCfgLockSet who page s) :=
  .next h.ctrlAccess

theorem Keeps.execBlockReset {who page} (h : Keeps s0 s) : KeepsNext s0 (execBlockReset who page s) :=
  .next h.ctrlAccess

theorem Keeps.execCanSelftestEnd {code} (h : Keeps s0 s) : KeepsNext s0 (execCanSelftestEnd code s) :=
  .next (by split; exacts [h, .ite h.selftestStop.applyHeld h])

theorem Keeps.execSampleBlock {streams} (h : Keeps s0 s) : KeepsNext s0 (execSampleBlock streams s) :=
  .next (.ite h.sampleBlock.applyHeld h)

theorem Keeps.execFaultRise {src} (h : Keeps s0 s) : KeepsNext s0 (execFaultRise src s) :=
  .next h.takeRise.afterTest

theorem Keeps.execFaultEscalation {src} (h : Keeps s0 s) : KeepsNext s0 (execFaultEscalation src s) :=
  .next h.escalate.afterTest

theorem Keeps.execFaultForce {who group bits} (h : Keeps s0 s) : KeepsNext s0 (execFaultForce who group bits s) :=
  .next (h.access fun _ ht => ht.forceFault).afterTest

theorem Keeps.execFaultSplit {who cap src} (h : Keeps s0 s) : KeepsNext s0 (execFaultSplit who cap src s) :=
  .next (h.access fun _ ht => ht.testWrite).afterTest

theorem Keeps.regRunRead {i k addr} {r : RegRun} (h : Keeps s0 r.s) : Keeps s0 (r.read i k addr).s := by
  unfold RegRun.read
  split
  · exact h
  · split
    · exact h
    · dsimp only
      split
      · exact h.regRead
      · exact h.regRead

theorem Keeps.regRunWrite {i q k pair} {r : RegRun} (h : Keeps s0 r.s) : Keeps s0 (r.write i q k pair).s := by
  unfold RegRun.write
  split
  · exact h
  · split
    · exact h
    · dsimp only
      split
      · exact h.regWrite
      · exact h.regWrite

theorem Keeps.regRunReads {id k l} (h : Keeps s0 s) : Keeps s0 (foldIdx (RegRun.read id) { s := s } k l).s :=
  Keeps.foldIdx_s (st := RegRun.s) (r := { s := s }) (fun _ _ _ hr => hr.regRunRead) h

theorem Keeps.regRunWrites {id q k l} (h : Keeps s0 s) : Keeps s0 (foldIdx (RegRun.write id q) { s := s } k l).s :=
  Keeps.foldIdx_s (st := RegRun.s) (r := { s := s }) (fun _ _ _ hr => hr.regRunWrite) h

theorem Keeps.regRunFinish {q done asked} {r : RegRun} (h : Keeps s0 r.s) : Keeps s0 (r.finish s q done asked) := by
  unfold RegRun.finish
  split
  · exact h.finish
  · exact .ite h.begun (.ite h.finish h.finish)

theorem Keeps.execRegRead {queue} (h : Keeps s0 s) : KeepsNext s0 (execRegRead queue s) :=
  .next (h.serve fun _ => by
    dsimp only
    split
    · exact h
    · exact .ite h.refused (.ite h.refused h.regRunReads.regRunFinish))

theorem Keeps.execRegWrite {queue} (h : Keeps s0 s) : KeepsNext s0 (execRegWrite queue s) :=
  .next (h.serve fun _ => by
    dsimp only
    split
    · exact h
    · exact .ite h.refused h.regRunWrites.regRunFinish)

/-! The step. -/

/-- Every command keeps the member and the queue that it runs on: it cites its own frame lemma. -/
theorem Keeps.exec {c} (h : Keeps s0 s) : KeepsNext s0 (exec c s) := by
  cases c with
  | registerWrite => exact h.execRegisterWrite
  | stoppedBlockAccessDone => exact h.execStoppedBlockAccessDone
  | devtimeLoRead => exact h.execDevtimeLoRead
  | pllaFirstLock => exact h.execPllaFirstLock
  | usStrobe => exact h.execUsStrobe
  | msStrobe => exact h.execMsStrobe
  | secondStrobe => exact h.execSecondStrobe
  | clockSupervisionWindow => exact h.execClockSupervisionWindow
  | pllLockLoss => exact h.execPllLockLoss
  | xtsReq => exact h.execXtsReq
  | xtsCaptureDone => exact h.execXtsCaptureDone
  | satClr => exact h.execSatClr
  | cfgLockSet => exact h.execCfgLockSet
  | blockReset => exact h.execBlockReset
  | crcPassComplete => exact h.execCrcPassComplete
  | crcStaleTimeout => exact h.execCrcStaleTimeout
  | selftestStart => exact h.execSelftestStart
  | evtStickyClear => exact h.execEvtStickyClear
  | evtForce => exact h.execEvtForce
  | evtCountSnap => exact h.execEvtCountSnap
  | eventRise => exact h.execEventRise
  | expertUnlockArm => exact h.execExpertUnlockArm
  | expertUnlockOpen => exact h.execExpertUnlockOpen
  | expertClose => exact h.execExpertClose
  | expertArmTimeout => exact h.execExpertArmTimeout
  | expertOpenTimeout => exact h.execExpertOpenTimeout
  | ownerWrite => exact h.execOwnerWrite
  | ctxwSelect => exact h.execCtxwSelect
  | ctxwSnapshot => exact h.execCtxwSnapshot
  | ctxwApertureWrite => exact h.execCtxwApertureWrite
  | ctxwApertureRead => exact h.execCtxwApertureRead
  | ctxwCommit => exact h.execCtxwCommit
  | ctxwCommitApply => exact h.execCtxwCommitApply
  | coefMWrite => exact h.execCoefMWrite
  | coefSWrite => exact h.execCoefSWrite
  | coefMRead => exact h.execCoefMRead
  | streamConfigWrite => exact h.execStreamConfigWrite
  | sampleBlock => exact h.execSampleBlock
  | pathCfgWrite => exact h.execPathCfgWrite
  | pathEnable => exact h.execPathEnable
  | pathDisable => exact h.execPathDisable
  | pathOff => exact h.execPathOff
  | winLoWrite => exact h.execWinLoWrite
  | windowCommit => exact h.execWindowCommit
  | windowApply => exact h.execWindowApply
  | delayWrite => exact h.execDelayWrite
  | delaySlewDone => exact h.execDelaySlewDone
  | ctxConfigure => exact h.execCtxConfigure
  | ctxStart => exact h.execCtxStart
  | ctxHold => exact h.execCtxHold
  | ctxResume => exact h.execCtxResume
  | ctxMute => exact h.execCtxMute
  | ctxStop => exact h.execCtxStop
  | ctxRelease => exact h.execCtxRelease
  | ctxOwnerWrite => exact h.execCtxOwnerWrite
  | imageLoadBegin => exact h.execImageLoadBegin
  | imageSlotFillDone => exact h.execImageSlotFillDone
  | imageLoadData => exact h.execImageLoadData
  | imageLoadEnd => exact h.execImageLoadEnd
  | imageLoadAbort => exact h.execImageLoadAbort
  | loadTimeout => exact h.execLoadTimeout
  | verifyDone => exact h.execVerifyDone
  | swapArm => exact h.execSwapArm
  | swapDisarm => exact h.execSwapDisarm
  | swapDrainsDone => exact h.execSwapDrainsDone
  | swapPointOfNoReturn => exact h.execSwapPointOfNoReturn
  | swapBoundary => exact h.execSwapBoundary
  | tableEccError => exact h.execTableEccError
  | tableScrub => exact h.execTableScrub
  | canEnable => exact h.execCanEnable
  | canDisable => exact h.execCanDisable
  | canModeWrite => exact h.execCanModeWrite
  | pauseExpired => exact h.execPauseExpired
  | linkFrozenExit => exact h.execLinkFrozenExit
  | clearTaps => exact h.execClearTaps
  | canBasicWrite => exact h.execCanBasicWrite
  | canMapWrite => exact h.execCanMapWrite
  | tapReWrite => exact h.execTapReWrite
  | tapImWrite => exact h.execTapImWrite
  | tapReRead => exact h.execTapReRead
  | subbandAdapt => exact h.execSubbandAdapt
  | marginUpdate => exact h.execMarginUpdate
  | isoReq => exact h.execIsoReq
  | isoPeriodExpired => exact h.execIsoPeriodExpired
  | isoWindowStart => exact h.execIsoWindowStart
  | isoWindowEnd => exact h.execIsoWindowEnd
  | clampHoldExpired => exact h.execClampHoldExpired
  | clampReleaseDone => exact h.execClampReleaseDone
  | canSelftestEnd => exact h.execCanSelftestEnd
  | contextTick => exact h.execContextTick
  | feAck => exact h.execFeAck
  | supplyCorrTimeout => exact h.execSupplyCorrTimeout
  | traceArm => exact h.execTraceArm
  | traceTrigNow => exact h.execTraceTrigNow
  | traceStop => exact h.execTraceStop
  | traceReadData => exact h.execTraceReadData
  | budgetAllocation => exact h.execBudgetAllocation
  | budgetHoldExpired => exact h.execBudgetHoldExpired
  | gridRowFreeze => exact h.execGridRowFreeze
  | gridRowRead => exact h.execGridRowRead
  | gridRowApply => exact h.execGridRowApply
  | gridEccError => exact h.execGridEccError
  | ggrWrQueue => exact h.execGgrWrQueue
  | symbolRowEnd => exact h.execSymbolRowEnd
  | frameBoundary => exact h.execFrameBoundary
  | boundaryCommit => exact h.execBoundaryCommit
  | tgroupEnable => exact h.execTgroupEnable
  | tgroupDisable => exact h.execTgroupDisable
  | timingObservation => exact h.execTimingObservation
  | flywheelTimeout => exact h.execFlywheelTimeout
  | holdoverTimeout => exact h.execHoldoverTimeout
  | timingSourceLost => exact h.execTimingSourceLost
  | priReturnTimer => exact h.execPriReturnTimer
  | ppsEdge => exact h.execPpsEdge
  | ppsWindowExpired => exact h.execPpsWindowExpired
  | ppsTimeout => exact h.execPpsTimeout
  | uartCharacter => exact h.execUartCharacter
  | nmeaSentence => exact h.execNmeaSentence
  | nmeaTimeout => exact h.execNmeaTimeout
  | clsEnable => exact h.execClsEnable
  | ssbDetection => exact h.execSsbDetection
  | ssbPosition => exact h.execSsbPosition
  | sib1Decoded => exact h.execSib1Decoded
  | sib1Timeout => exact h.execSib1Timeout
  | sib1PeriodExpired => exact h.execSib1PeriodExpired
  | patternApply => exact h.execPatternApply
  | wheelRowPlan => exact h.execWheelRowPlan
  | pinEvent => exact h.execPinEvent
  | prefireRevoke => exact h.execPrefireRevoke
  | regCommit => exact h.execRegCommit
  | regRestage => exact h.execRegRestage
  | oscNegTimeout => exact h.execOscNegTimeout
  | noiseTrigTimeout => exact h.execNoiseTrigTimeout
  | oobTimeout => exact h.execOobTimeout
  | foxgloveTrigger => exact h.execFoxgloveTrigger
  | foxStopped => exact h.execFoxStopped
  | foxBackoffExpired => exact h.execFoxBackoffExpired
  | foxSlotClear => exact h.execFoxSlotClear
  | foxChainsReady => exact h.execFoxChainsReady
  | foxRetryGood => exact h.execFoxRetryGood
  | nprRemoteMute => exact h.execNprRemoteMute
  | nprRemoteClear => exact h.execNprRemoteClear
  | felFrameSlot => exact h.execFelFrameSlot
  | felFrameResponse => exact h.execFelFrameResponse
  | felLinkTimeout => exact h.execFelLinkTimeout
  | felDescCommit => exact h.execFelDescCommit
  | chainTargetWrite => exact h.execChainTargetWrite
  | chainStateReached => exact h.execChainStateReached
  | chainTransitionTimeout => exact h.execChainTransitionTimeout
  | calReqRxiq => exact h.execCalReqRxiq
  | calReqRxgain => exact h.execCalReqRxgain
  | calibrationDone => exact h.execCalibrationDone
  | loWrite => exact h.execLoWrite
  | feClear => exact h.execFeClear
  | autopoll => exact h.execAutopoll
  | detectorTimeout => exact h.execDetectorTimeout
  | moduleTempTimeout => exact h.execModuleTempTimeout
  | mismatchHoldExpired => exact h.execMismatchHoldExpired
  | mismatchGoodTimer => exact h.execMismatchGoodTimer
  | tunerStepTimer => exact h.execTunerStepTimer
  | tunerCodeWrite => exact h.execTunerCodeWrite
  | grantSample => exact h.execGrantSample
  | grantFall => exact h.execGrantFall
  | jlkRxEnable => exact h.execJlkRxEnable
  | jlkTxEnable => exact h.execJlkTxEnable
  | lanePllLocked => exact h.execLanePllLocked
  | laneSyncLocked => exact h.execLaneSyncLocked
  | sysrefEdge => exact h.execSysrefEdge
  | sysrefTimeout => exact h.execSysrefTimeout
  | jlkRun => exact h.execJlkRun
  | jlkMultiblock => exact h.execJlkMultiblock
  | jlkRxLinkLost => exact h.execJlkRxLinkLost
  | jlkRelockTimeout => exact h.execJlkRelockTimeout
  | jlkTxAlarm => exact h.execJlkTxAlarm
  | jlkPatternWrite => exact h.execJlkPatternWrite
  | equaliserReadapt => exact h.execEqualiserReadapt
  | fhLaneUp => exact h.execFhLaneUp
  | fhLaneDown => exact h.execFhLaneDown
  | fhPreemptVerify => exact h.execFhPreemptVerify
  | fhFrameReceived => exact h.execFhFrameReceived
  | fhFlowEnable => exact h.execFhFlowEnable
  | fhFlowTimeout => exact h.execFhFlowTimeout
  | fhFeedSwitch => exact h.execFhFeedSwitch
  | fhFeedReturnTimer => exact h.execFhFeedReturnTimer
  | fhTxFrame => exact h.execFhTxFrame
  | ptpSyncTimeout => exact h.execPtpSyncTimeout
  | ptpFreqWrite => exact h.execPtpFreqWrite
  | ptpStep => exact h.execPtpStep
  | hopMeasPeriod => exact h.execHopMeasPeriod
  | hopNsTimeout => exact h.execHopNsTimeout
  | alignPeriod => exact h.execAlignPeriod
  | alignMessageTimeout => exact h.execAlignMessageTimeout
  | ptpTimeRead => exact h.execPtpTimeRead
  | packetReceived => exact h.execPacketReceived
  | pcieRqProduce => exact h.execPcieRqProduce
  | pcieAnConsume => exact h.execPcieAnConsume
  | pcieRingEnable => exact h.execPcieRingEnable
  | pcieLinkChange => exact h.execPcieLinkChange
  | mgeFrame => exact h.execMgeFrame
  | mgeLinkTimeout => exact h.execMgeLinkTimeout
  | bufferAllocate => exact h.execBufferAllocate
  | packetExecute => exact h.execPacketExecute
  | queueTimeout => exact h.execQueueTimeout
  | hostTimeout => exact h.execHostTimeout
  | info => exact h.execInfo
  | regRead => exact h.execRegRead
  | regWrite => exact h.execRegWrite
  | timeRead => exact h.execTimeRead
  | imageSeg => exact h.execImageSeg
  | tapRead => exact h.execTapRead
  | tapWrite => exact h.execTapWrite
  | ctxRead => exact h.execCtxRead
  | ctxWrite => exact h.execCtxWrite
  | gridSc => exact h.execGridSc
  | gridWr => exact h.execGridWr
  | beam => exact h.execBeam
  | remoteMute => exact h.execRemoteMute
  | remoteMuteClear => exact h.execRemoteMuteClear
  | foxClear => exact h.execFoxClear
  | capOpen => exact h.execCapOpen
  | capClose => exact h.execCapClose
  | capRead => exact h.execCapRead
  | traceRead => exact h.execTraceRead
  | recRead => exact h.execRecRead
  | report => exact h.execReport
  | capData => exact h.execCapData
  | fnDisable => exact h.execFnDisable
  | fnEnable => exact h.execFnEnable
  | fnDrained => exact h.execFnDrained
  | capSessionStart => exact h.execCapSessionStart
  | captureRecord => exact h.execCaptureRecord
  | capScmdClose => exact h.execCapScmdClose
  | capDestTimeout => exact h.execCapDestTimeout
  | faultRise => exact h.execFaultRise
  | dualPolarityConfirmed => exact h.execDualPolarityConfirmed
  | faultWindowExpired => exact h.execFaultWindowExpired
  | faultEscalation => exact h.execFaultEscalation
  | faultAck => exact h.execFaultAck
  | faultForce => exact h.execFaultForce
  | faultSplit => exact h.execFaultSplit
  | faultConfigWrite => exact h.execFaultConfigWrite
  | collectorSelfcheckFail => exact h.execCollectorSelfcheckFail
  | errHealthyWrite => exact h.execErrHealthyWrite
  | safeCauseClear => exact h.execSafeCauseClear
  | recordPost => exact h.execRecordPost
  | recordIntake => exact h.execRecordIntake
  | recorderEpochWrap => exact h.execRecorderEpochWrap
  | segmentCommit => exact h.execSegmentCommit
  | evrFlush => exact h.execEvrFlush
  | evrRdDataRead => exact h.execEvrRdDataRead
  | evrClear => exact h.execEvrClear
  | evrClearComplete => exact h.execEvrClearComplete
  | journalWrite => exact h.execJournalWrite
  | nvOperationStart => exact h.execNvOperationStart
  | nvOperationDone => exact h.execNvOperationDone
  | nvaProgram => exact h.execNvaProgram
  | nvaErase => exact h.execNvaErase
  | nvaAbort => exact h.execNvaAbort
  | bootselRequest => exact h.execBootselRequest
  | holdupVoltageSample => exact h.execHoldupVoltageSample
  | holdupChargeReading => exact h.execHoldupChargeReading
  | holdupVTimeout => exact h.execHoldupVTimeout
  | holdupQTimeout => exact h.execHoldupQTimeout
  | holdupEstimateUpdate => exact h.execHoldupEstimateUpdate
  | holdupDisagreeTimer => exact h.execHoldupDisagreeTimer
  | holdupRebase => exact h.execHoldupRebase
  | energyRetest => exact h.execEnergyRetest
  | energyBlockTimeout => exact h.execEnergyBlockTimeout
  | nvHostEnergyTimeout => exact h.execNvHostEnergyTimeout
  | holdupReadyTimeout => exact h.execHoldupReadyTimeout
  | powerFail => exact h.execPowerFail
  | powerFailRecovery => exact h.execPowerFailRecovery
  | lifecycleGo => exact h.execLifecycleGo
  | fuseBurnDone => exact h.execFuseBurnDone
  | keyInstall => exact h.execKeyInstall
  | keyErase => exact h.execKeyErase
  | pcieRoleWrite => exact h.execPcieRoleWrite
  | rootProgram => exact h.execRootProgram
  | rootRevoke => exact h.execRootRevoke
  | svnAdvance => exact h.execSvnAdvance
  | debugAuth => exact h.execDebugAuth
  | debugChallengeExpired => exact h.execDebugChallengeExpired
  | debugLockoutExpired => exact h.execDebugLockoutExpired
  | debugClose => exact h.execDebugClose
  | debugIdleTimeout => exact h.execDebugIdleTimeout
  | jtagInstruction => exact h.execJtagInstruction
  | powerToActive => exact h.execPowerToActive
  | powerToLean => exact h.execPowerToLean
  | powerToStandby => exact h.execPowerToStandby
  | powerToSnowdrop => exact h.execPowerToSnowdrop
  | powerTransitionDone => exact h.execPowerTransitionDone
  | wakePin => exact h.execWakePin
  | wakeTimerExpired => exact h.execWakeTimerExpired
  | wakePinStuck => exact h.execWakePinStuck
  | wake => exact h.execWake
  | traceWord => exact h.execTraceWord
  | trcRdDataRead => exact h.execTrcRdDataRead
  | hkaStart => exact h.execHkaStart
  | hkaScanTimer => exact h.execHkaScanTimer
  | hkaConversionDone => exact h.execHkaConversionDone
  | hkaUrgentRequest => exact h.execHkaUrgentRequest
  | hkaCal => exact h.execHkaCal
  | hkaCalDone => exact h.execHkaCalDone
  | hkaAbort => exact h.execHkaAbort
  | vrefextCheck => exact h.execVrefextCheck
  | refSettled => exact h.execRefSettled
  | pwmPeriodStart => exact h.execPwmPeriodStart
  | ilimAssert => exact h.execIlimAssert
  | ilimOffTimeout => exact h.execIlimOffTimeout
  | pwmEnable => exact h.execPwmEnable
  | pwmDisable => exact h.execPwmDisable
  | pwmHoldExpired => exact h.execPwmHoldExpired
  | pwmClear => exact h.execPwmClear
  | pwmRunTimer => exact h.execPwmRunTimer
  | tachEdge => exact h.execTachEdge
  | fanStallTimeout => exact h.execFanStallTimeout
  | fanFailTimeout => exact h.execFanFailTimeout
  | sensorReading => exact h.execSensorReading
  | sensorTimeout => exact h.execSensorTimeout
  | thermalRateUpdate => exact h.execThermalRateUpdate
  | hardTempComparator => exact h.execHardTempComparator
  | twbGo => exact h.execTwbGo
  | twbTransactionStart => exact h.execTwbTransactionStart
  | twbTransactionEnd => exact h.execTwbTransactionEnd
  | twbArbitrationLost => exact h.execTwbArbitrationLost
  | twbTimeout => exact h.execTwbTimeout
  | twbBusRecoveryDone => exact h.execTwbBusRecoveryDone
  | twbRecoveryRetry => exact h.execTwbRecoveryRetry
  | twbIdleDetect => exact h.execTwbIdleDetect
  | twbAttention => exact h.execTwbAttention
  | twbDisable => exact h.execTwbDisable
  | twtAddress => exact h.execTwtAddress
  | twtByteReceived => exact h.execTwtByteReceived
  | twtByteRequested => exact h.execTwtByteRequested
  | twtStop => exact h.execTwtStop
  | twtStretchTimeout => exact h.execTwtStretchTimeout
  | twtStuck => exact h.execTwtStuck
  | twtRxPop => exact h.execTwtRxPop
  | twtTxPush => exact h.execTwtTxPush
  | twtAttn => exact h.execTwtAttn
  | twtFlush => exact h.execTwtFlush
  | twtWakeMatch => exact h.execTwtWakeMatch
  | twtWakeTimeout => exact h.execTwtWakeTimeout
  | powerOnReset => exact h.execPowerOnReset
  | resetPin => exact h.execResetPin
  | rstChip => exact h.execRstChip
  | rstPairA => exact h.execRstPairA
  | rstPairB => exact h.execRstPairB
  | primroseStep => exact h.execPrimroseStep
  | watchdogKick => exact h.execWatchdogKick
  | watchdogExpired => exact h.execWatchdogExpired
  | bootWatchdogExpired => exact h.execBootWatchdogExpired
  | aonWatchdogKick => exact h.execAonWatchdogKick
  | aonWatchdogExpired => exact h.execAonWatchdogExpired
  | pciePerst => exact h.execPciePerst
  | gpioInputChange => exact h.execGpioInputChange
  | mgeLinkChange => exact h.execMgeLinkChange
  | nmeaLabelTimeout => exact h.execNmeaLabelTimeout
  | grantHighTimeout => exact h.execGrantHighTimeout
  | idleBusHeldLow => exact h.execIdleBusHeldLow
  | twtBusReleased => exact h.execTwtBusReleased

theorem Keeps.tick (h : Keeps s0 s) : Keeps s0 s.tick :=
  .ite h.update h

/-- A step keeps the member and leaves the queue's rest: a tick does with no command waiting, and otherwise the front command does on the rest. -/
theorem step_keepsNext : KeepsNext { s with pending := s.pending.tail } (step s) := by
  unfold step
  split
  · next hq => exact .next (Keeps.tick ⟨rfl, by simp [hq]⟩)
  · next c rest hq => simpa [hq] using Keeps.refl.exec

/-- Settles O52: every command's operations keep the member and the queue that it runs on, which is the queue's rest. -/
theorem stepsKeepMemberAndQueueRest : Obligations.StepsKeepMemberAndQueueRest := by
  intro s t hstep
  obtain ⟨hmember, hpending⟩ := step_keepsNext t hstep
  exact ⟨hmember, hpending⟩

/-- Settles O47: the two sides are the same by the definition of a step. -/
theorem stepRunsFrontCommand : Obligations.StepRunsFrontCommand := fun _ _ _ => rfl

end Sys2Proof.Machine
end

section
/-!
Rules of the register words: what a field reads after a write of the same field, of another field, and of one bit.
-/
namespace Sys2Proof.Machine

/-! Bit fields of a word. -/

/-- A field lies within a word. -/
def Fld.inWord (f : Fld) : Bool := decide (f.lo ≤ f.hi ∧ f.hi < 32)

theorem fieldSize_pos (hi lo : Nat) : 0 < fieldSize hi lo := Nat.two_pow_pos _

theorem bitsOf_lt (w : Word) (hi lo : Nat) : bitsOf w hi lo < fieldSize hi lo := Nat.mod_lt _ (fieldSize_pos hi lo)

theorem testBit_bitsOf (w : Word) (hi lo j : Nat) : (bitsOf w hi lo).testBit j = (decide (j < hi + 1 - lo) && w.toNat.testBit (lo + j)) := by
  rw [bitsOf, fieldSize, Nat.testBit_mod_two_pow, Nat.testBit_div_two_pow, Nat.add_comm j lo]

/-- The bits of a word after a field was replaced: the field's are the value's, the others stay. -/
theorem testBit_putBits {hi lo : Nat} (hlo : lo ≤ hi) (hhi : hi < 32) (w : Word) (v i : Nat) :
    (putBits w hi lo v).toNat.testBit i = if lo ≤ i ∧ i ≤ hi then v.testBit (i - lo) else w.toNat.testBit i := by
  have hsplit : w.toNat % 2 ^ lo + v % 2 ^ (hi + 1 - lo) * 2 ^ lo + w.toNat / 2 ^ (hi + 1) * 2 ^ (hi + 1) =
      2 ^ lo * (2 ^ (hi + 1 - lo) * (w.toNat / 2 ^ (hi + 1)) + v % 2 ^ (hi + 1 - lo)) + w.toNat % 2 ^ lo := by
    rw [Nat.mul_add, ← Nat.mul_assoc, ← pow_add, Nat.add_sub_cancel' (by omega)]
    ring
  have hhigh : 32 ≤ i → w.toNat.testBit i = false := fun h =>
    Nat.testBit_lt_two_pow (w.isLt.trans_le (Nat.pow_le_pow_right (by decide) h))
  rw [putBits, fieldSize, BitVec.toNat_ofNat, hsplit, Nat.testBit_mod_two_pow, Nat.testBit_two_pow_mul_add _ (Nat.mod_lt _ (Nat.two_pow_pos lo)),
    Nat.testBit_two_pow_mul_add _ (Nat.mod_lt _ (Nat.two_pow_pos _)), Nat.testBit_mod_two_pow, Nat.testBit_mod_two_pow,
    Nat.testBit_div_two_pow]
  rcases Nat.lt_or_ge i lo with hi1 | hi1
  · simp [hi1, show i < 32 by omega, show ¬lo ≤ i by omega]
  · rcases Nat.lt_or_ge hi i with hi2 | hi2
    · rw [show i - lo - (hi + 1 - lo) + (hi + 1) = i by omega]
      rcases Nat.lt_or_ge i 32 with h32 | h32
      · simp [h32, show ¬i < lo by omega, show ¬i - lo < hi + 1 - lo by omega, show ¬i ≤ hi by omega]
      · simp [show ¬i < 32 by omega, show ¬i ≤ hi by omega, hhigh h32]
    · simp [show i < 32 by omega, show ¬i < lo by omega, show i - lo < hi + 1 - lo by omega, hi1, hi2]

theorem bitsOf_putBits_same {hi lo : Nat} (hlo : lo ≤ hi) (hhi : hi < 32) (w : Word) (v : Nat) :
    bitsOf (putBits w hi lo v) hi lo = v % fieldSize hi lo := by
  refine Nat.eq_of_testBit_eq fun j => ?_
  rw [testBit_bitsOf, testBit_putBits hlo hhi, fieldSize, Nat.testBit_mod_two_pow]
  rcases Nat.lt_or_ge j (hi + 1 - lo) with hj | hj
  · simp [hj, show lo + j ≤ hi by omega]
  · simp [show ¬j < hi + 1 - lo by omega]

theorem bitsOf_putBits_disjoint {hi lo hi' lo' : Nat} (hlo : lo ≤ hi) (hhi : hi < 32) (hd : hi < lo' ∨ hi' < lo) (w : Word) (v : Nat) :
    bitsOf (putBits w hi lo v) hi' lo' = bitsOf w hi' lo' := by
  refine Nat.eq_of_testBit_eq fun j => ?_
  rw [testBit_bitsOf, testBit_bitsOf, testBit_putBits hlo hhi]
  rcases Nat.lt_or_ge j (hi' + 1 - lo') with hj | hj
  · rw [if_neg (by omega)]
  · simp [show ¬j < hi' + 1 - lo' by omega]

/-- Clearing one bit leaves the others. -/
theorem testBit_sub_and_two_pow (x n m : Nat) : (x - (x &&& 2 ^ n)).testBit m = if m = n then false else x.testBit m := by
  rw [Nat.and_two_pow]
  cases hbit : x.testBit n
  · by_cases hm : m = n
    · simp [hm, hbit]
    · simp [hm]
  · have hx : x = 2 ^ (n + 1) * (x / 2 ^ (n + 1)) + (x % 2 ^ n + 2 ^ n) := by
      have hdigit : x / 2 ^ n % 2 = 1 := by simpa [Nat.testBit_eq_decide_div_mod_eq] using hbit
      have hmod : x % 2 ^ (n + 1) = x % 2 ^ n + 2 ^ n := by rw [Nat.mod_pow_succ, hdigit, Nat.mul_one]
      rw [← hmod, Nat.div_add_mod]
    have hlow : x % 2 ^ n < 2 ^ n := Nat.mod_lt _ (Nat.two_pow_pos n)
    have hsub : x - true.toNat * 2 ^ n = 2 ^ (n + 1) * (x / 2 ^ (n + 1)) + x % 2 ^ n := by
      rw [Bool.toNat_true]
      omega
    rw [hsub, Nat.testBit_two_pow_mul_add _ (by rw [pow_succ]; omega), Nat.testBit_mod_two_pow]
    rcases Nat.lt_trichotomy m n with hm | rfl | hm
    · simp [hm, show m < n + 1 by omega, show m ≠ n by omega]
    · simp
    · rw [if_neg (by omega), if_neg (by omega), Nat.testBit_div_two_pow, Nat.sub_add_cancel hm]

/-! Register words and their fields. -/

variable (s : State)

theorem State.word_setWord_same (k : Nat) (w : Word) : (s.setWord k w).word k = w := Tbl.get_set_same _ _ _ _

theorem State.word_setWord_ne {k j : Nat} (w : Word) (h : j ≠ k) : (s.setWord k w).word j = s.word j := Tbl.get_set_ne _ _ _ h

variable {s}

/-- A field is read as before where its word is. -/
theorem State.fget_congr {t : State} {f : Fld} {u : Nat} (h : t.word (f.key u) = s.word (f.key u)) : t.fget f u = s.fget f u := by
  unfold State.fget
  rw [h]

/-- Fields read the same in states of the same register words. -/
theorem State.fget_of_regs {t : State} (h : t.regs = s.regs) (f : Fld) (u : Nat) : t.fget f u = s.fget f u := by
  rw [State.fget, State.word, h, State.fget, State.word]

theorem State.fon_of_regs {t : State} (h : t.regs = s.regs) (f : Fld) (u : Nat) : t.fon f u = s.fon f u := by
  rw [State.fon, State.fget_of_regs h, State.fon]

/-- No write of `g`, for whatever unit, changes what `f` reads for any unit: the two lie in one register with no bit in common, or in two registers
that are each at one address. -/
def Fld.apart (f g : Fld) : Bool :=
  g.inWord &&
    (decide (f.base = g.base ∧ f.stride = g.stride ∧ (g.hi < f.lo ∨ f.hi < g.lo)) ||
      decide (f.base % Fld.unitStep ≠ g.base % Fld.unitStep ∧ f.stride % Fld.unitStep = 0 ∧ g.stride % Fld.unitStep = 0))

/-- The address of a register that is at one address is that of its first unit. -/
theorem Fld.key_mod {f : Fld} (h : f.stride % Fld.unitStep = 0) (u : Nat) : f.key u % Fld.unitStep = f.base % Fld.unitStep := by
  rw [Fld.key, Nat.add_mod, Nat.mul_mod, h]
  simp

theorem State.fget_fset_apart {f g : Fld} (h : f.apart g = true) (u u' v : Nat) : (s.fset g u v).fget f u' = s.fget f u' := by
  simp only [Fld.apart, Fld.inWord, Bool.and_eq_true, Bool.or_eq_true, decide_eq_true_eq] at h
  obtain ⟨⟨hlo, hhi⟩, ⟨hbase, hstride, hd⟩ | ⟨hbase, hf, hg⟩⟩ := h
  · by_cases hk : f.key u' = g.key u
    · rw [State.fget, State.fset, hk, State.word_setWord_same, bitsOf_putBits_disjoint hlo hhi (by omega), State.fget, hk]
    · exact State.fget_congr (State.word_setWord_ne _ _ hk)
  · refine State.fget_congr (State.word_setWord_ne _ _ fun hk => hbase ?_)
    rw [← Fld.key_mod hf u', ← Fld.key_mod hg u, hk]

theorem State.fget_fset_same {f : Fld} (hf : f.inWord = true) (u v : Nat) : (s.fset f u v).fget f u = v % fieldSize f.hi f.lo := by
  simp only [Fld.inWord, decide_eq_true_eq] at hf
  rw [State.fget, State.fset, State.word_setWord_same, bitsOf_putBits_same hf.1 hf.2]

theorem State.fget_lt (s : State) (f : Fld) (u : Nat) : s.fget f u < fieldSize f.hi f.lo := bitsOf_lt _ _ _

theorem State.fon_fset_apart {f g : Fld} (h : f.apart g = true) (u u' v : Nat) : (s.fset g u v).fon f u' = s.fon f u' := by
  rw [State.fon, State.fget_fset_apart h, State.fon]

/-- A one-bit field that was set reads as set. -/
theorem State.fon_fset_one {f : Fld} (hf : f.inWord = true) (hbit : f.hi = f.lo) (u : Nat) : (s.fset f u 1).fon f u = true := by
  rw [State.fon, State.fget_fset_same hf, fieldSize, hbit, Nat.add_sub_cancel_left]
  rfl

theorem State.fon_fset_zero {f : Fld} (hf : f.inWord = true) (u : Nat) : (s.fset f u 0).fon f u = false := by
  rw [State.fon, State.fget_fset_same hf]
  simp

theorem State.fon_fsetB {f : Fld} (hf : f.inWord = true) (hbit : f.hi = f.lo) (u : Nat) (b : Bool) : (s.fsetB f u b).fon f u = b := by
  cases b
  · exact State.fon_fset_zero hf u
  · exact State.fon_fset_one hf hbit u

/-- One bit of a field after a bit of it was set or cleared. -/
theorem State.fbit_fsetBit {f : Fld} (hf : f.inWord = true) {n : Nat} (hn : n < f.hi + 1 - f.lo) (u : Nat) (b : Bool) (m : Nat) :
    (s.fsetBit f u n b).fbit f u m = if m = n then b else s.fbit f u m := by
  have hmod : ∀ x, x < fieldSize f.hi f.lo → x % fieldSize f.hi f.lo = x := fun x hx => Nat.mod_eq_of_lt hx
  have hlt := s.fget_lt f u
  rw [State.fbit, State.fsetBit, State.fget_fset_same hf]
  cases b
  · rw [if_neg (by decide), hmod _ (by omega), testBit_sub_and_two_pow, State.fbit]
  · rw [if_pos rfl, hmod _ (Nat.or_lt_two_pow hlt (Nat.pow_lt_pow_right (by decide) hn)), Nat.testBit_or, Nat.testBit_two_pow, State.fbit]
    by_cases h : m = n
    · simp [h]
    · simp [h, Ne.symm h]

end Sys2Proof.Machine
end

section
/-!
Rules of the register bus: what is left of an access that the bus lets through to the register itself.
-/
namespace Sys2Proof.Machine

variable {s : State} {who : Init} {page off : Nat}

/-- TCK edges restart the debug port's idle timer and nothing else. -/
theorem State.portEdge_eq (s : State) (who : Init) : ∃ timers, s.portEdge who = { s with timers := timers } := by
  unfold State.portEdge State.tckEdge
  split
  · split
    · exact ⟨_, rfl⟩
    · exact ⟨s.timers, rfl⟩
  · exact ⟨s.timers, rfl⟩

/-- Disarming an expert lock changes the locks and their timers and nothing else. -/
theorem State.disarm_eq (s : State) (who : Init) (page : Nat) :
    ∃ timers expert, s.disarm who page = { s with timers := timers, expert := expert } := by
  unfold State.disarm
  split
  · exact ⟨_, _, rfl⟩
  · exact ⟨s.timers, s.expert, rfl⟩

/-- The state on which a register's own write works: that before the access, but for timers and expert locks. -/
theorem State.atRegister_eq (s : State) (who : Init) (page : Nat) :
    ∃ timers expert, (s.portEdge who).disarm who page = { s with timers := timers, expert := expert } := by
  obtain ⟨timers, hport⟩ := s.portEdge_eq who
  rw [hport]
  exact State.disarm_eq { s with timers := timers } who page

theorem State.isSome_identOf_of_reaches (h : s.reaches who = true) : (s.identOf who).isSome = true :=
  ((Bool.and_eq_true _ _).mp h).1

/-- A write that the bus lets through ends as the register's own write ends, with the access accepted. -/
theorem State.accessBy_of_admits {adm : State → Option Reason} (h : Admits adm s who page off) {v : Word} {f : State → WRes} {t : State}
    (hf : f ((s.portEdge who).disarm who page) = .ok t) :
    s.accessBy adm who page off v f = ((t.accepted who).keepOpen who page off).dropCrcPass page := by
  obtain ⟨hpresent, hrunning, hrecovery, hreaches, hadm, hlock, hselftest⟩ := h
  have hident := State.isSome_identOf_of_reaches hreaches
  unfold State.accessBy
  dsimp only
  generalize hs' : (s.portEdge who).disarm who page = s' at hf hadm
  obtain ⟨timers, expert, heq⟩ := s.atRegister_eq who page
  rw [hs'] at heq
  have hpresent' : s'.pagePresent page = true := by rw [heq]; exact hpresent
  have hrunning' : s'.running page = true := by rw [heq]; exact hrunning
  have hrecovery' : s'.rst.recovery = false := by rw [heq]; exact hrecovery
  have hreaches' : s'.reaches who = true := by rw [heq]; exact hreaches
  have hident' : (s'.identOf who).isNone = false := by rw [heq]; exact Option.isNone_eq_false_iff.mpr hident
  have hlock' : (s'.fon PAGE_CTRL.CFG_LOCK page && countedAt page off) = false := by rw [heq]; exact hlock
  have hselftest' : s'.fon PAGE_STAT.SELFTEST_ACTIVE page = false := by rw [heq]; exact hselftest
  simp only [hpresent', hrunning', hrecovery', hreaches', hident', hlock', hselftest', hadm, hf, Bool.not_true, Bool.false_and, Bool.or_self,
    Bool.and_false, Bool.false_eq_true, if_false]

/-- What closes an accepted write changes timers, the check pass of the page and the writer's refusal, which it clears, and nothing else. -/
theorem State.closeWrite_eq (t : State) (who : Init) (page off : Nat) : ∃ timers crcPass,
    ((t.accepted who).keepOpen who page off).dropCrcPass page = { t.accepted who with timers := timers, crcPass := crcPass } := by
  unfold State.keepOpen
  split
  · exact ⟨_, _, rfl⟩
  · exact ⟨t.timers, _, rfl⟩

theorem took_accepted (t : State) (who : Init) : Took (t.accepted who) who := by
  rw [Took, State.lastReason]
  exact Tbl.get_set_same (fun _ => 0) t.busRefuse who.holder 0

/-- An admitted write is accepted, and ends as the register's own write ends, but for timers, the check pass of the page and refusals. -/
theorem State.access_of_admitted (h : Admitted s who page off) (v : Word) {f : State → WRes} {t : State}
    (hf : f ((s.portEdge who).disarm who page) = .ok t) : Took (s.access who page off v f) who ∧
    (s.access who page off v f).regs = t.regs ∧ ∃ timers crcPass busRefuse, s.access who page off v f = { t with timers := timers, crcPass := crcPass, busRefuse := busRefuse } := by
  obtain ⟨timers, crcPass, hend⟩ := t.closeWrite_eq who page off
  rw [State.access, State.accessBy_of_admits h hf, hend]
  exact ⟨took_accepted t who, rfl, timers, crcPass, _, rfl⟩

/-- A read that the bus lets through is answered by the register itself. -/
theorem State.accessRead_of_readable (h : Readable s who page) (f : State → State) :
    s.accessRead who page f = f ((s.portEdge who).accepted who) := by
  obtain ⟨hpresent, hrecovery, hident, hadmit⟩ := h
  obtain ⟨timers, heq⟩ := s.portEdge_eq who
  unfold State.accessRead
  dsimp only
  generalize s.portEdge who = s' at heq ⊢
  have hpresent' : s'.pagePresent page = true := by rw [heq]; exact hpresent
  have hrecovery' : (s'.rst.recovery && !romShows page) = false := by
    rw [heq]
    cases hr : s.rst.recovery
    · rfl
    · simp [hrecovery hr]
  have hident' : ((s'.identOf who).isNone && decide (page ≠ pgSYS ∨ who = .debug)) = false := by
    rw [heq]
    rcases hident with hsome | ⟨rfl, hdebug⟩
    · have hnone : (State.identOf { s with timers := timers } who).isNone = false := Option.isNone_eq_false_iff.mpr hsome
      rw [hnone, Bool.false_and]
    · simp [hdebug]
  have hadmit' : s'.admitRead who page = none := by rw [heq]; exact hadmit
  simp only [hpresent', hrecovery', hident', hadmit', Bool.not_true, Bool.false_eq_true, if_false]

end Sys2Proof.Machine
end

section
/-!
Settles O48 and O3: the tick of an empty queue, and the reads and captures of device time and PTP time.
-/
namespace Sys2Proof.Machine

/-- Settles O48: by the two cases of a tick. -/
theorem emptyQueueTicks : Obligations.EmptyQueueTicks := by
  have hstep : ∀ s : State, s.pending = [] → step s = .next s.tick := fun s hq => by rw [step, hq]
  refine ⟨fun s hq hstarted hlock => ?_, fun s hq hstill => ?_⟩
  · rw [hstep s hq, State.tick, hstarted, hlock]
    rfl
  · have hstands : (s.time.started && s.fon CLK_PLL_STAT.PLLA_LOCK 0) = false := by
      rcases hstill with h | h <;> simp [h]
    rw [hstep s hq, State.tick, hstands]
    rfl

/-- A read of CLK_DEVTIME_LO answers the lower word of device time and latches the upper one (R23). -/
theorem devtimeLoRead_spec (who : Init) (s : State) :
    (devtimeLoRead who s).readOf who = BitVec.ofNat 32 (s.dt % 2 ^ 32) ∧
      Tbl.get (fun _ => 0) (devtimeLoRead who s).shadow (0x01044 * 64 + who.holder) = BitVec.ofNat 32 (s.dt / 2 ^ 32) :=
  ⟨Tbl.get_set_same _ _ _ _, Tbl.get_set_same _ _ _ _⟩

/-- A read of FHL_PTP_TIME_NS answers the nanoseconds and latches the lower word of the seconds, whatever it then latches of the upper one (R311). -/
theorem ptpTimeRead_spec (who : Init) (s : State) :
    (ptpTimeRead who s).readOf who = BitVec.ofNat 32 (s.ptpNs % 1000000000) ∧
      Tbl.get (fun _ => 0) (ptpTimeRead who s).shadow (0x10220 * 64 + who.holder) = BitVec.ofNat 32 (s.ptpNs / 1000000000 % 2 ^ 32) :=
  ⟨Tbl.get_set_same _ _ _ _, (Tbl.get_set_ne _ _ _ (by omega)).trans (Tbl.get_set_same _ _ _ _)⟩

/-- A capture that is asked for with none in flight takes both times of the instant (R26). -/
theorem xtsWrite_request {s : State} (h : s.xts = none) :
    xtsWrite 1 s = .ok ({ s with xts := some ⟨s.dt, s.ptpNs / 1000000000, s.ptpNs % 1000000000⟩ }.fset CLK_XTS_CTRL.BUSY 0 1) := by
  have hreq : bitsOf (1 : Word) 0 0 = 1 := by decide
  have hdone : bitsOf (1 : Word) 2 2 ≠ 1 := by decide
  unfold xtsWrite
  rw [if_neg hdone]
  exact if_pos ⟨hreq, by rw [h]; rfl⟩

/-- A completed capture shows its pair with DONE, and none is in flight (R26). -/
theorem xtsStore_spec (s : State) (x : XtsPair) :
    (s.xtsStore x).xts = none ∧ (s.xtsStore x).fon CLK_XTS_CTRL.BUSY 0 = false ∧ (s.xtsStore x).fon CLK_XTS_CTRL.DONE 0 = true ∧
      (s.xtsStore x).fget CLK_XTS_DT_LO.DT_LO 0 = x.dt % 2 ^ 32 ∧ (s.xtsStore x).fget CLK_XTS_SEC_LO.SEC_LO 0 = x.sec % 2 ^ 32 := by
  refine ⟨rfl, ?_, State.fon_fset_one rfl rfl 0, ?_, ?_⟩
  · exact (State.fon_fset_apart rfl ..).trans (State.fon_fset_zero rfl 0)
  · simp (disch := decide) only [State.xtsStore, State.fget_fset_apart, State.fget_fset_same]
    exact Nat.mod_mod _ _
  · simp (disch := decide) only [State.xtsStore, State.fget_fset_apart, State.fget_fset_same]
    exact Nat.mod_mod _ _

/-- Settles O3: the bus lets the access through, and the register's own read or write says the rest. -/
theorem timeReadsLatch : Obligations.TimeReadsLatch := by
  refine ⟨fun who s h => ⟨_, rfl, ?_⟩, fun who s h => ⟨_, rfl, ?_⟩, fun who s h hxts => ⟨_, rfl, ?_⟩, fun s x hxts => ⟨_, rfl, ?_⟩⟩
  · obtain ⟨timers, hport⟩ := s.portEdge_eq who
    rw [State.accessRead_of_readable h, hport]
    exact devtimeLoRead_spec who _
  · obtain ⟨timers, hport⟩ := s.portEdge_eq who
    rw [State.accessRead_of_readable h, hport]
    exact ptpTimeRead_spec who _
  · obtain ⟨timers, expert, hreg⟩ := s.atRegister_eq who pgCLK
    have hxts' : ((s.portEdge who).disarm who pgCLK).xts = none := by rw [hreg]; exact hxts
    obtain ⟨htook, hregs, timers', crcPass, busRefuse, hend⟩ := State.access_of_admitted h 1 (xtsWrite_request hxts')
    refine ⟨htook, ?_, ?_⟩
    · rw [hend, hreg]
      rfl
    · exact (State.fon_of_regs hregs ..).trans (State.fon_fset_one rfl rfl 0)
  · rw [hxts]
    exact xtsStore_spec s x

end Sys2Proof.Machine
end

section
/-!
Time goes on. `Forward s0 t` says that from `s0` to `t` device time does not go back and the strobe counts stand: what every operation but a strobe,
the first lock and a power-on reset does.
-/
namespace Sys2Proof.Machine

variable {s0 s : State}

/-- Device time of `t` is that of `s0` or later, and the strobe counts are those of `s0`. -/
structure Forward (s0 t : State) : Prop where
  dt : s0.dt ≤ t.dt
  started : t.time.started = s0.time.started
  usCount : t.time.usCount = s0.time.usCount
  msCount : t.time.msCount = s0.time.msCount
  sCount : t.time.sCount = s0.time.sCount

/-- A register write that is accepted goes forward. -/
def ForwardOk {ε : Type} (s0 : State) (w : Except ε State) : Prop := ∀ t, w = .ok t → Forward s0 t

/-- An operation that answers a state and a value goes forward. -/
def ForwardFst {α : Type} (s0 : State) (p : State × α) : Prop := Forward s0 p.1

theorem Forward.refl : Forward s s := ⟨le_rfl, rfl, rfl, rfl, rfl⟩

theorem Forward.trans {t : State} (h : Forward s0 s) (ht : Forward s t) : Forward s0 t :=
  ⟨h.dt.trans ht.dt, ht.started.trans h.started, ht.usCount.trans h.usCount, ht.msCount.trans h.msCount, ht.sCount.trans h.sCount⟩

/-- A record update of any other field: time is carried over. -/
theorem Forward.update {member regs ctx timers evtCount evtShadow expert shadow coefStage coefShadow windows heldWrites rdata busRefuse xts clockDev crcPass lostIn
      released gated flt evr nva hup reports sec dbg trc pwr chn sch can cen npr fel ggr ftm gcp fhl hk twb twt rst free pending} (h : Forward s0 s) :
    Forward s0 ⟨member, regs, ctx, timers, s.time, evtCount, evtShadow, expert, shadow, coefStage, coefShadow, windows, heldWrites, rdata,
        busRefuse, xts, clockDev, crcPass, lostIn, released, gated, flt, evr, nva, hup, reports, sec, dbg, trc, pwr, chn, sch,
        can, cen, npr, fel, ggr, ftm, gcp, fhl, hk, twb, twt, rst, free, pending⟩ :=
  ⟨h.dt, h.started, h.usCount, h.msCount, h.sCount⟩

/-! Shapes of an operation's body: branches, loops, outcomes. -/

theorem Forward.ite {c : Prop} [Decidable c] {a b : State} (ha : Forward s0 a) (hb : Forward s0 b) : Forward s0 (if c then a else b) := by
  split
  · exact ha
  · exact hb

theorem Forward.foldl {α : Type} {f : State → α → State} {l : List α} (h : Forward s0 s) (hf : ∀ t x, Forward s0 t → Forward s0 (f t x)) :
    Forward s0 (l.foldl f s) := by
  induction l generalizing s with
  | nil => exact h
  | cons x l ih => exact ih (hf s x h)

theorem ForwardOk.ok {ε : Type} (h : Forward s0 s) : ForwardOk s0 (.ok s : Except ε State) := fun _ e => by cases e; exact h

theorem ForwardOk.err {ε : Type} {r : ε} : ForwardOk s0 (.error r) := fun _ e => by cases e

theorem ForwardOk.ite {ε : Type} {c : Prop} [Decidable c] {a b : Except ε State} (ha : ForwardOk s0 a) (hb : ForwardOk s0 b) : ForwardOk s0 (if c then a else b) := by
  split
  · exact ha
  · exact hb

theorem ForwardFst.mk {α : Type} {a : α} (h : Forward s0 s) : ForwardFst s0 (s, a) := h

theorem ForwardFst.fst {α : Type} {p : State × α} (h : ForwardFst s0 p) : Forward s0 p.1 := h

theorem ForwardFst.ite {α : Type} {c : Prop} [Decidable c] {a b : State × α} (ha : ForwardFst s0 a) (hb : ForwardFst s0 b) :
    ForwardFst s0 (if c then a else b) := by
  split
  · exact ha
  · exact hb

/-! The operations of Machine/Ops. -/

theorem Forward.setWord {k w} (h : Forward s0 s) : Forward s0 (s.setWord k w) :=
  h.update

theorem Forward.fset {f u v} (h : Forward s0 s) : Forward s0 (s.fset f u v) :=
  h.setWord

theorem Forward.fsetI {f u v} (h : Forward s0 s) : Forward s0 (s.fsetI f u v) :=
  h.fset

theorem Forward.fsetB {f u b} (h : Forward s0 s) : Forward s0 (s.fsetB f u b) :=
  h.fset

theorem Forward.fbump {f u} (h : Forward s0 s) : Forward s0 (s.fbump f u) :=
  h.fset

theorem Forward.fsetBit {f u n b} (h : Forward s0 s) : Forward s0 (s.fsetBit f u n b) :=
  h.fset

theorem Forward.setCword {c w v} (h : Forward s0 s) : Forward s0 (s.setCword c w v) :=
  h.update

theorem Forward.cset {f c v} (h : Forward s0 s) : Forward s0 (s.cset f c v) :=
  h.setCword

theorem Forward.cbump {f c} (h : Forward s0 s) : Forward s0 (s.cbump f c) :=
  h.cset

theorem Forward.timerStart {tm u count} (h : Forward s0 s) : Forward s0 (s.timerStart tm u count) :=
  h.update

theorem Forward.timerStop {tm u} (h : Forward s0 s) : Forward s0 (s.timerStop tm u) :=
  h.update

theorem Forward.advanceTo {t} (h : Forward s0 s) : Forward s0 (s.advanceTo t) :=
  .ite { h with dt := h.dt.trans (Nat.le_max_left ..) } h

theorem Forward.tookFree (h : Forward s0 s) : Forward s0 s.tookFree :=
  h.update

theorem Forward.report {kind ident page bit body} (h : Forward s0 s) : Forward s0 (s.report kind ident page bit body) :=
  h.update

theorem Forward.setEvtCount {page n v} (h : Forward s0 s) : Forward s0 (s.setEvtCount page n v) :=
  h.update

theorem Forward.raiseMsix {v} (h : Forward s0 s) : Forward s0 (s.raiseMsix v) :=
  h.update

theorem Forward.forward {page n} (h : Forward s0 s) : Forward s0 (s.forward page n) :=
  .ite h.fsetBit.update.raiseMsix.report h.fsetBit

theorem Forward.riseHere {page n} (h : Forward s0 s) : Forward s0 (s.riseHere page n) :=
  have hs := h.fsetBit.setEvtCount
  .ite hs.forward hs

theorem Forward.trcStop (h : Forward s0 s) : Forward s0 s.trcStop :=
  h.fsetB

theorem Forward.trcEvent {n} (h : Forward s0 s) : Forward s0 (s.trcEvent n) :=
  .ite h h.riseHere

theorem Forward.trcWrite {w} (h : Forward s0 s) : Forward s0 (s.trcWrite w) :=
  .ite h.trcStop.fbump.trcEvent <|
  have ht := (Forward.ite h.fset h).update.fset.trcStop
  .ite ht.trcEvent ht

theorem Forward.rise {page n} (h : Forward s0 s) : Forward s0 (s.rise page n) :=
  .ite h.riseHere.tookFree.trcWrite h.riseHere

theorem Forward.cond {page n b} (h : Forward s0 s) : Forward s0 (s.cond page n b) :=
  .ite h.fsetBit.rise h.fsetBit

theorem Forward.pulse {page n} (h : Forward s0 s) : Forward s0 (s.pulse page n) :=
  .ite h h.rise

theorem Forward.saturate {page} (h : Forward s0 s) : Forward s0 (s.saturate page) :=
  .ite h.fbump.pulse h

theorem Forward.setInputLost {page k b} (h : Forward s0 s) : Forward s0 (s.setInputLost page k b) :=
  h.update.cond

theorem Forward.inputLost {page k} (h : Forward s0 s) : Forward s0 (s.inputLost page k) :=
  h.setInputLost

theorem Forward.inputValid {page k} (h : Forward s0 s) : Forward s0 (s.inputValid page k) :=
  .ite h.setInputLost h

theorem Forward.highMark {page n fill mark hyst} (h : Forward s0 s) : Forward s0 (s.highMark page n fill mark hyst) :=
  .ite h.cond (.ite h.cond h)

theorem Forward.lowMark {page n fill mark hyst} (h : Forward s0 s) : Forward s0 (s.lowMark page n fill mark hyst) :=
  .ite h.cond (.ite h.cond h)

theorem Forward.dropRec (h : Forward s0 s) : Forward s0 s.dropRec :=
  h.update.fbump.pulse

theorem Forward.enqueueRec {r} (h : Forward s0 s) : Forward s0 (s.enqueueRec r) :=
  .ite h.dropRec h.update

theorem Forward.post {code p0 p1 p2} (h : Forward s0 s) : Forward s0 (s.post code p0 p1 p2) :=
  h.enqueueRec

theorem Forward.noteLevel {src was} (h : Forward s0 s) : Forward s0 (s.noteLevel src was) :=
  .ite h.fsetBit.update h.fsetBit

theorem Forward.drive {src b} (h : Forward s0 s) : Forward s0 (s.drive src b) :=
  h.update.noteLevel

theorem Forward.dropCrcPass {page} (h : Forward s0 s) : Forward s0 (s.dropCrcPass page) :=
  h.update

theorem Forward.mergeReg {page off key v} (h : Forward s0 s) : ForwardOk s0 (s.mergeReg page off key v) := by
  unfold State.mergeReg
  dsimp only
  split
  · exact .ok h
  · exact .ite (.ok h.setWord) .err

/-! The operations of Machine/Evr. -/

theorem Forward.nvShow (h : Forward s0 s) : Forward s0 s.nvShow :=
  h.fset

theorem Forward.hostDone {result} (h : Forward s0 s) : Forward s0 (s.hostDone result) :=
  h.fset.fset.nvShow.pulse

theorem Forward.hupStart (h : Forward s0 s) : Forward s0 s.hupStart :=
  h.fset.timerStart.timerStart.timerStart

/-! The operations of Machine/Pads. -/

theorem Forward.setFelPort {n r} (h : Forward s0 s) : Forward s0 (s.setFelPort n r) :=
  h.update.fset.fset

theorem Forward.setPins {n trx pa safe} (h : Forward s0 s) : Forward s0 (s.setPins n trx pa safe) :=
  have ht := h.fsetB.fsetB.fsetB
  .ite ht.fsetB ht.fsetB.setFelPort

theorem Forward.trxEdge {n trx} (h : Forward s0 s) : Forward s0 (s.trxEdge n trx) :=
  .ite h (.ite h.setFelPort.fset h.setFelPort.fset)

/-! The operations of Machine/Time. -/

theorem Forward.setDomainRuns {d b} (h : Forward s0 s) : Forward s0 (s.setDomainRuns d b) :=
  .ite h.fsetBit h.fsetBit

theorem Forward.release {page b} (h : Forward s0 s) : Forward s0 (s.release page b) :=
  h.update

theorem Forward.refreshReady (h : Forward s0 s) : Forward s0 s.refreshReady :=
  h.foldl fun _ _ ht => ht.fsetB

theorem Forward.refreshDomain {d} (h : Forward s0 s) : Forward s0 (s.refreshDomain d) := by
  unfold State.refreshDomain
  split
  · exact h
  · exact h.setDomainRuns

theorem Forward.refreshGroupDomain {g} (h : Forward s0 s) : Forward s0 (s.refreshGroupDomain g) :=
  h.setDomainRuns

theorem Forward.refreshClocks (h : Forward s0 s) : Forward s0 s.refreshClocks :=
  ((h.foldl fun _ _ ht => ht.refreshDomain).foldl fun _ _ ht => ht.refreshGroupDomain).setDomainRuns.refreshReady

theorem Forward.sclQuiet (h : Forward s0 s) : Forward s0 s.sclQuiet :=
  h.setDomainRuns.timerStop

theorem Forward.sclStrobe (h : Forward s0 s) : Forward s0 s.sclStrobe :=
  .ite h.sclQuiet h

/-! The operations of Machine/Bus. -/

theorem Forward.driveConfig {src} (h : Forward s0 s) : Forward s0 (s.driveConfig src) :=
  h.drive

theorem Forward.setCrcErr {page bad} (h : Forward s0 s) : Forward s0 (s.setCrcErr page bad) :=
  h.fsetB.fsetBit.cond.driveConfig

theorem Forward.crcPassStart {page} (h : Forward s0 s) : Forward s0 (s.crcPassStart page) :=
  .ite
    (have hs := Forward.ite h h.timerStart; .ite hs.update hs)
    h

theorem Forward.ctxCrcMismatch (h : Forward s0 s) : Forward s0 s.ctxCrcMismatch :=
  h.setCrcErr

/-! The operations of Machine/Chn. -/

theorem Forward.setPathRt {p r} (h : Forward s0 s) : Forward s0 (s.setPathRt p r) :=
  h.update

theorem Forward.applyWindows {p} (h : Forward s0 s) : Forward s0 (s.applyWindows p) :=
  h.foldl fun _ _ ht => ht.update

theorem Forward.delayTarget {p n} (h : Forward s0 s) : Forward s0 (s.delayTarget p n) :=
  .ite h.setPathRt.fset (.ite h.setPathRt (.ite (.ite h.setPathRt h.setPathRt) h.setPathRt.fset))

theorem Forward.setDelayNs {p ns} (h : Forward s0 s) : Forward s0 (s.setDelayNs p ns) :=
  h.fset.fset.delayTarget

theorem Forward.delayAtBoundary {p quiet} (h : Forward s0 s) : Forward s0 (s.delayAtBoundary p quiet) := by
  unfold State.delayAtBoundary
  dsimp only
  split
  · exact h.setPathRt
  · split
    · exact .ite h.setPathRt.fset.pulse h
    · exact h

/-! The operations of Machine/Reset. -/

theorem Forward.copyWords {from_ keys} (h1 : Forward s0 s) : Forward s0 (s.copyWords from_ keys) :=
  h1.foldl fun _ _ ht => ht.setWord

theorem Forward.bindRole (h : Forward s0 s) : Forward s0 s.bindRole :=
  h.fset.fset.fset

theorem Forward.newChallenge (h : Forward s0 s) : Forward s0 s.newChallenge :=
  (h.foldl fun _ _ ht => ht.setWord.tookFree).timerStart

theorem Forward.chipReset {cause src} (h : Forward s0 s) : Forward s0 (s.chipReset cause src) :=
  have hkept : Forward s0 { s.fromNv false with time := s.time } := h.update
  hkept.update.update.update.update.copyWords.fset.bindRole.fset.fset.refreshClocks.newChallenge

/-! The operations of Machine/Img. -/

theorem Forward.imgClear {slot} (h : Forward s0 s) : Forward s0 (s.imgClear slot) :=
  h.update

theorem Forward.setSlot {slot st} (h : Forward s0 s) : Forward s0 (s.setSlot slot st) :=
  h.fset

theorem Forward.refuseSlot {slot code} (h : Forward s0 s) : Forward s0 (s.refuseSlot slot code) :=
  h.setSlot.fset.pulse

theorem Forward.setLoader {slot i} (h : Forward s0 s) : Forward s0 (s.setLoader slot i) :=
  h.update

/-! The operations of Machine/Can. -/

theorem Forward.setCanRt {n r} (h : Forward s0 s) : Forward s0 (s.setCanRt n r) :=
  h.update

theorem Forward.setCanState {n st} (h : Forward s0 s) : Forward s0 (s.setCanState n st) :=
  h.fset

theorem Forward.beginPause {n} (h : Forward s0 s) : Forward s0 (s.beginPause n) :=
  h.setCanRt.timerStart

theorem Forward.enterCan {n st} (h : Forward s0 s) : Forward s0 (s.enterCan n st) :=
  .ite h.setCanState.beginPause h.setCanState

theorem Forward.isoStop {n} (h : Forward s0 s) : Forward s0 (s.isoStop n) :=
  .ite h.fset.timerStop.enterCan h

theorem Forward.enChanged {n en} (h : Forward s0 s) : Forward s0 (s.enChanged n en) :=
  .ite h.enterCan.timerStart h.isoStop.timerStop.timerStop.setCanRt.setCanState

theorem Forward.linkFreeze {n} (h : Forward s0 s) : Forward s0 (s.linkFreeze n) :=
  .ite h.isoStop.setCanRt.setCanState.timerStop.pulse h.isoStop.timerStop

theorem Forward.linkCheck {n} (h : Forward s0 s) : Forward s0 (s.linkCheck n) :=
  .ite (.ite h.timerStop h.linkFreeze) (.ite h.timerStart h)

theorem Forward.canLinkLoss {stream} (h : Forward s0 s) : Forward s0 (s.canLinkLoss stream) :=
  h.update.foldl fun _ _ ht => .ite ht.linkFreeze ht

theorem Forward.canLinkBack {stream} (h : Forward s0 s) : Forward s0 (s.canLinkBack stream) :=
  h.update.foldl fun _ _ ht => .ite ht.linkCheck ht

theorem Forward.beginRefill {n} (h : Forward s0 s) : Forward s0 (s.beginRefill n) :=
  h.update

theorem Forward.setSelftest {inst result code} (h : Forward s0 s) : Forward s0 (s.setSelftest inst result code) :=
  h.fset.fset

theorem Forward.selftestStop {result code} (h : Forward s0 s) : Forward s0 (s.selftestStop result code) := by
  unfold State.selftestStop
  dsimp only
  split
  · exact h
  · exact .ite h.update.fset.fset.enterCan.timerStop.setSelftest h.update.fset.fset.enterCan.timerStop.setSelftest.linkFreeze

/-! The operations of Machine/Reg. -/

theorem Forward.setFoxRt {k r} (h : Forward s0 s) : Forward s0 (s.setFoxRt k r) :=
  h.update

/-! The operations of Machine/Ctx. -/

theorem Forward.setCtxRt {c r} (h : Forward s0 s) : Forward s0 (s.setCtxRt c r) :=
  h.update

theorem Forward.raiseMute {c cause} (h : Forward s0 s) : Forward s0 (s.raiseMute c cause) :=
  h.setCtxRt

theorem Forward.clearMute {c cause} (h : Forward s0 s) : Forward s0 (s.clearMute c cause) :=
  h.setCtxRt

theorem Forward.resetHolds {c} (h : Forward s0 s) : Forward s0 (s.resetHolds c) :=
  .ite h h.update

/-! The operations of Machine/FhOut. -/

theorem Forward.fhSend {d lane f bad tag} (h : Forward s0 s) : Forward s0 (s.fhSend d lane f bad tag) := by
  unfold State.fhSend
  dsimp only
  split
  · exact h
  · exact h.update

/-! The operations of Machine/Tmg. -/

theorem Forward.setGroupRt {g r} (h : Forward s0 s) : Forward s0 (s.setGroupRt g r) :=
  h.update

theorem Forward.showGroup {g} (h : Forward s0 s) : Forward s0 (s.showGroup g) :=
  have hs := h.fset.fset.fset.fset.fset.fsetI
  .ite hs.fsetB hs.fsetB.fset

theorem Forward.setGroup {g st} (h : Forward s0 s) : Forward s0 (s.setGroup g st) :=
  (Forward.ite h.fset (.ite h.fset.pulse (.ite h.fset.pulse (.ite h.fset.pulse.post h.fset)))).drive

theorem Forward.notePri (h : Forward s0 s) : Forward s0 s.notePri :=
  h.foldl fun _ _ ht => .ite (.ite ht ht.timerStart) ht.timerStop

theorem Forward.adoptSources {g} (h : Forward s0 s) : Forward s0 (s.adoptSources g) :=
  .ite h.setGroupRt h.setGroupRt.fset.timerStop.pulse

theorem Forward.shiftArmed {g delta} (h : Forward s0 s) : Forward s0 (s.shiftArmed g delta) :=
  .ite h (h.foldl fun _ _ ht => .ite ht.update ht)

theorem Forward.groupOn {g} (h : Forward s0 s) : Forward s0 (s.groupOn g) :=
  h.setGroupRt.fset.fset.setGroup.setGroupRt.fset.showGroup.notePri

theorem Forward.groupOff {g} (h : Forward s0 s) : Forward s0 (s.groupOff g) :=
  h.setGroupRt.setGroup.fset.timerStop.timerStop.timerStop.fset.inputValid.shiftArmed.showGroup

theorem Forward.setSeen {key o} (h : Forward s0 s) : Forward s0 (s.setSeen key o) :=
  h.update

theorem Forward.yieldObs {key t index} (h : Forward s0 s) : Forward s0 (s.yieldObs key t index) :=
  h.setSeen

theorem Forward.takeObs {g sec} (h : Forward s0 s) : Forward s0 (s.takeObs g sec) := by
  unfold State.takeObs
  dsimp only
  split
  · exact h.setSeen
  · exact h

theorem Forward.placeStep {g o} (h : Forward s0 s) : Forward s0 (s.placeStep g o) :=
  h.setGroupRt.showGroup

theorem Forward.decideStep {g o} (h : Forward s0 s) : Forward s0 (s.decideStep g o) :=
  .ite h.pulse.post.setGroupRt h.pulse.post.placeStep

theorem Forward.rejectObs {g o} (h : Forward s0 s) : Forward s0 (s.rejectObs g o) :=
  have ht := h.setGroupRt.fbump.pulse
  .ite ht.decideStep ht

theorem Forward.applyCorr {g} (h : Forward s0 s) : Forward s0 (s.applyCorr g) :=
  .ite h.showGroup h.setGroupRt.showGroup

theorem Forward.acceptObs {g e} (h : Forward s0 s) : Forward s0 (s.acceptObs g e) :=
  (Forward.ite h.setGroupRt h.setGroupRt.saturate).fbump.setGroup.timerStart.timerStart.applyCorr

theorem Forward.observe {g o} (h : Forward s0 s) : Forward s0 (s.observe g o) :=
  .ite h.fsetI.rejectObs h.fsetI.acceptObs

/-- A boundary of a clocked group goes forward from its instant. -/
theorem Forward.clockBoundary {g} : Forward (s.advanceTo ((s.groupRt g).bn / one16)) (s.clockBoundary g) := by
  unfold State.clockBoundary
  dsimp only
  have hset {r k m n} : Forward (s.advanceTo ((s.groupRt g).bn / one16))
      (if (s.groupRt g).relabel.isSome then
        (((((s.advanceTo ((s.groupRt g).bn / one16)).setGroupRt g r).setGroup g tgLOCKED).timerStart tmFly g k).timerStart tmHold m n)
      else (s.advanceTo ((s.groupRt g).bn / one16)).setGroupRt g r) :=
    .ite Forward.refl.setGroupRt.setGroup.timerStart.timerStart Forward.refl.setGroupRt
  split
  · exact hset.fset.fset.fset.shiftArmed.showGroup.placeStep
  · exact hset.fset.fset.fset.shiftArmed.showGroup

/-- A boundary goes forward from its instant. -/
theorem Forward.passBoundary {g} : Forward (s.advanceTo (s.nextBoundary g / one16)) (s.passBoundary g) := by
  unfold State.passBoundary
  dsimp only
  split
  · next hclock =>
    rw [State.nextBoundary, if_pos (by simpa using hclock)]
    exact Forward.clockBoundary
  · split
    · exact Forward.refl.fset.setGroupRt.showGroup.placeStep
    · exact Forward.refl.fset.setGroupRt.showGroup

/-! The operations of Machine/Pkt. -/

theorem Forward.setQueue {i l} (h : Forward s0 s) : Forward s0 (s.setQueue i l) :=
  h.update

theorem Forward.setRunning {i p} (h : Forward s0 s) : Forward s0 (s.setRunning i p) :=
  h.update

theorem Forward.poolMarks {i} (h : Forward s0 s) : Forward s0 (s.poolMarks i) :=
  h.highMark.lowMark

theorem Forward.freeBuf {i} (h : Forward s0 s) : Forward s0 (s.freeBuf i) :=
  .ite h h.fset.fset.poolMarks

theorem Forward.setAnWaiting {c l} (h : Forward s0 s) : Forward s0 (s.setAnWaiting c l) :=
  h.update

theorem Forward.tagged {o} (h : Forward s0 s) : ForwardFst s0 (s.tagged o) := by
  unfold State.tagged
  refine .ite (.mk h) ?_
  split
  · exact .mk h
  · exact .mk h.tookFree.tookFree

theorem Forward.emitBytes {o b} (h : Forward s0 s) : Forward s0 (s.emitBytes o b) :=
  h.update

theorem Forward.emit {o} (h : Forward s0 s) : Forward s0 (s.emit o) :=
  have ht := h.tagged.fst.emitBytes
  .ite ht.fhSend ht

theorem Forward.setAnSlot {c slot b} (h : Forward s0 s) : Forward s0 (s.setAnSlot c slot b) :=
  h.update

theorem Forward.toRing {o} (h : Forward s0 s) : Forward s0 (s.toRing o) :=
  h.tagged.fst.emitBytes.setAnSlot.fset.raiseMsix

theorem Forward.freeOf {o} (h : Forward s0 s) : Forward s0 (s.freeOf o) :=
  .ite h.freeBuf h

theorem Forward.sendOut {o} (h : Forward s0 s) : Forward s0 (s.sendOut o) :=
  .ite h.emit.freeOf (.ite h.toRing.freeOf h.setAnWaiting)

theorem Forward.setReplay {k r} (h : Forward s0 s) : Forward s0 (s.setReplay k r) :=
  h.update

theorem Forward.keepAnswer {k o} (h : Forward s0 s) : Forward s0 (s.keepAnswer k o) :=
  .ite h.setReplay h

theorem Forward.countAnswer {v} (h : Forward s0 s) : Forward s0 (s.countAnswer v) := by
  unfold State.countAnswer
  split
  · exact h
  · exact h.fbump.pulse
  · exact h.fbump.pulse

theorem Forward.answerPkt {p v detail retry payload buf} (h : Forward s0 s) : Forward s0 (s.answerPkt p v detail retry payload buf) :=
  (Forward.ite h.countAnswer h.countAnswer.keepAnswer).sendOut

theorem Forward.finish {q v detail retry payload} (h : Forward s0 s) : Forward s0 (s.finish q v detail retry payload) := by
  unfold State.finish
  split
  · exact h
  · exact h.setRunning.answerPkt

theorem Forward.served {q} (h : Forward s0 s) : Forward s0 (s.served q) :=
  h.finish

theorem Forward.refused {q r detail} (h : Forward s0 s) : Forward s0 (s.refused q r detail) :=
  h.finish

theorem Forward.commitAnswered {ident reason} (h : Forward s0 s) : Forward s0 (s.commitAnswered ident reason) :=
  h.foldl fun _ _ ht => by split; exacts [ht, .ite (.ite ht.served ht.refused) ht]

/-! The operations of Machine/Ggr. -/

theorem Forward.setPathGrid {p r} (h : Forward s0 s) : Forward s0 (s.setPathGrid p r) :=
  h.update

theorem Forward.refreshLag {p offset} (h : Forward s0 s) : Forward s0 (s.refreshLag p offset) :=
  h.setPathGrid.fsetI

theorem Forward.rowsArmed {p rows} (h : Forward s0 s) : Forward s0 (s.rowsArmed p rows) :=
  h.update.setPathGrid

theorem Forward.rearmGrid {p} (h : Forward s0 s) : Forward s0 (s.rearmGrid p) :=
  h.update.setPathGrid.rowsArmed

theorem Forward.setGridQueue {w l} (h : Forward s0 s) : Forward s0 (s.setGridQueue w l) :=
  h.update.fset.highMark

theorem Forward.feedListener (h : Forward s0 s) : Forward s0 s.feedListener :=
  .ite h h.update.setGridQueue

theorem Forward.setGridSum {k g} (h : Forward s0 s) : Forward s0 (s.setGridSum k g) :=
  h.update

theorem Forward.gridEnd {k} (h : Forward s0 s) : Forward s0 (s.gridEnd k) :=
  .ite h.setGridSum.finish h.setGridSum.fset.fset.fset.fset.fset

/-! The operations of Machine/Fel. -/

theorem Forward.safePins {n} (h : Forward s0 s) : Forward s0 (s.safePins n) :=
  h.setPins

theorem Forward.askPins {n trx pa} (h : Forward s0 s) : Forward s0 (s.askPins n trx pa) :=
  .ite h.setPins h.setPins.trxEdge

theorem Forward.noteSimplex {n} (h : Forward s0 s) : Forward s0 (s.noteSimplex n) :=
  .ite h h.setFelPort.pulse

theorem Forward.fddPins {n} (h : Forward s0 s) : Forward s0 (s.fddPins n) :=
  .ite h h.noteSimplex.askPins

theorem Forward.driveMm {n} (h : Forward s0 s) : Forward s0 (s.driveMm n) :=
  h.drive

theorem Forward.setMm {n st cap} (h : Forward s0 s) : Forward s0 (s.setMm n st cap) :=
  have ht := h.fset.fsetI.setFelPort
  have ht' := Forward.ite (.ite ht ht.timerStart) ht.timerStop
  have ht'' := Forward.ite ht'.timerStart ht'.timerStop
  have ht''' := Forward.ite ht'' (.ite ht''.pulse (.ite ht''.pulse (.ite ht''.pulse.timerStart (.ite ht''.pulse ht''))))
  .ite
    (have ht'''' := ht'''.driveMm.setPins; .ite ht''''.trxEdge ht'''')
    ht'''.driveMm

theorem Forward.unprove {n} (h : Forward s0 s) : Forward s0 (s.unprove n) :=
  .ite h h.setMm

theorem Forward.markRecal {n} (h : Forward s0 s) : Forward s0 (s.markRecal n) :=
  h.foldl fun _ _ ht => .ite ht.setCtxRt ht

theorem Forward.refreshGains {n} (h : Forward s0 s) : Forward s0 (s.refreshGains n) :=
  .ite h.fsetI.fsetI h.fsetI.fsetI.markRecal

theorem Forward.felPlain {n q} (h : Forward s0 s) : Forward s0 (s.felPlain n q) :=
  h.setFelPort

theorem Forward.sendLo {n} (h : Forward s0 s) : Forward s0 (s.sendLo n) :=
  h.felPlain.felPlain.setFelPort

theorem Forward.startCal {n k} (h : Forward s0 s) : Forward s0 (s.startCal n k) :=
  h.setFelPort.fset

theorem Forward.commandChain {n goal} (h : Forward s0 s) : Forward s0 (s.commandChain n goal) :=
  have ht := h.setFelPort.fset
  have ht' := Forward.ite ht.safePins ht
  .ite ht'.sendLo ht'

theorem Forward.driveChain {n} (h : Forward s0 s) : Forward s0 (s.driveChain n) := by
  unfold State.driveChain
  dsimp only
  refine .ite h ?_
  split
  · exact .ite h h.commandChain
  · split
    · exact .ite h.setFelPort.startCal h
    · exact h

theorem Forward.abortCal {n} (h : Forward s0 s) : Forward s0 (s.abortCal n) :=
  .ite h.setFelPort.fset.fset.pulse h

theorem Forward.abandon {n} (h : Forward s0 s) : Forward s0 (s.abandon n) :=
  h.setFelPort.fset

theorem Forward.holdPort {n} (h : Forward s0 s) : Forward s0 (s.holdPort n) :=
  .driveChain (by split; exacts [.ite h.safePins.abortCal.abandon h.safePins.abortCal, h.safePins.abortCal])

theorem Forward.foxHoldPort {n} (h : Forward s0 s) : Forward s0 (s.foxHoldPort n) :=
  h.fset.holdPort

theorem Forward.foxReleasePort {n} (h : Forward s0 s) : Forward s0 (s.foxReleasePort n) :=
  h.fset.driveChain

theorem Forward.felLinkDown {n} (h : Forward s0 s) : Forward s0 (s.felLinkDown n) :=
  h.fset.pulse.inputLost.drive.abortCal.abandon.setFelPort.safePins.unprove.timerStop

theorem Forward.factoryGains {n} (h : Forward s0 s) : Forward s0 (s.factoryGains n) :=
  h.setFelPort

/-! The operations of Machine/Fox. -/

theorem Forward.foxRefresh (h : Forward s0 s) : Forward s0 s.foxRefresh :=
  h.fset.fset.fset.fset.drive

theorem Forward.setFox {k st} (h : Forward s0 s) : Forward s0 (s.setFox k st) :=
  (Forward.ite h h.fset.timerStop).fset.foxRefresh

theorem Forward.foxLift {k} (h : Forward s0 s) : Forward s0 (s.foxLift k) :=
  h.foldl fun _ _ ht => .ite ht ht.clearMute

theorem Forward.foxFree {k} (h : Forward s0 s) : Forward s0 (s.foxFree k) :=
  h.foldl fun _ _ ht => .ite ht.foxReleasePort.drive ht

theorem Forward.foxWiden {k x} (h : Forward s0 s) : Forward s0 (s.foxWiden k x) :=
  h.setFoxRt.fset.fset

theorem Forward.foxPolicy {k code} (h : Forward s0 s) : Forward s0 (s.foxPolicy k code) :=
  h.setFoxRt.fsetB

theorem Forward.foxStopPorts {k} (h : Forward s0 s) : Forward s0 (s.foxStopPorts k) :=
  h.fset.foldl fun _ _ ht => .ite ht ht.foxHoldPort

theorem Forward.foxMuteCtxs {cs} (h : Forward s0 s) : Forward s0 (s.foxMuteCtxs cs) :=
  h.foldl fun _ _ ht => .ite ht.raiseMute ht

theorem Forward.foxNote {code cs} (h : Forward s0 s) : Forward s0 (s.foxNote code cs) :=
  h.foldl fun _ _ ht => ht.cset.cbump

theorem Forward.foxReport {k} (h : Forward s0 s) : Forward s0 (s.foxReport k) :=
  h.foldl fun _ _ ht => ht.report

theorem Forward.foxStart {k code} (h : Forward s0 s) : Forward s0 (s.foxStart k code) :=
  h.fset.fset.fset.setFoxRt.timerStop.timerStart.setFox.foxStopPorts.foxMuteCtxs.foxNote.pulse.post.foxReport

theorem Forward.foxLatch {k} (h : Forward s0 s) : Forward s0 (s.foxLatch k) :=
  .ite h h.setFox.pulse.post

theorem Forward.foxMerge {k code x} (h : Forward s0 s) : Forward s0 (s.foxMerge k code x) :=
  .ite h.foxWiden.foxStart.pulse <|
  have ht := h.foxWiden.setFoxRt.foxRefresh.foxStopPorts.foxMuteCtxs.foxNote
  (Forward.ite ht ht.timerStop.timerStop.foxLatch).pulse

theorem Forward.foxTrigger {cause} (h : Forward s0 s) : Forward s0 (s.foxTrigger cause) := by
  unfold State.foxTrigger
  dsimp only
  refine .ite h ?_
  split
  · exact h.foxStart
  · split
    · exact h.foxWiden.foxPolicy.foxStart
    · exact h.foxMerge

theorem Forward.foxRestart {x} (h : Forward s0 s) : Forward s0 (s.foxRestart x) := by
  unfold State.foxRestart
  split
  · exact h.update
  · exact h.foldl fun _ _ ht => ht.setCtxRt
  · exact h.update
  · exact h

theorem Forward.foxCheck {cause} (h : Forward s0 s) : Forward s0 (s.foxCheck cause) :=
  .ite h.foxTrigger.foxRestart h

theorem Forward.foxRetry {k} (h : Forward s0 s) : Forward s0 (s.foxRetry k) :=
  h.fset.fset.timerStop.timerStart.setFox.drive.foxFree

theorem Forward.foxClear {k} (h : Forward s0 s) : Forward s0 (s.foxClear k) :=
  .ite (.ite h.foxRetry h.fset) h

theorem Forward.foxLiftPaths {k mask} (h : Forward s0 s) : Forward s0 (s.foxLiftPaths k mask) :=
  h.setFoxRt.foxRefresh.foxLift

theorem Forward.foxBoundary {g} (h : Forward s0 s) : Forward s0 (s.foxBoundary g) :=
  h.foldl fun _ _ ht => .ite ht.foxLiftPaths ht

theorem Forward.foxSecond (h : Forward s0 s) : Forward s0 s.foxSecond :=
  h.foldl fun _ _ ht =>
    have ht := Forward.ite ht.fset ht
    .ite ht.foxClear ht

/-! The operations of Machine/Gns. -/

theorem Forward.setGns {g} (h : Forward s0 s) : Forward s0 (s.setGns g) :=
  h.update

theorem Forward.gnsRefresh (h : Forward s0 s) : Forward s0 s.gnsRefresh :=
  (Forward.ite h.fsetB.pulse h.fsetB).cond.drive.notePri

theorem Forward.setPps {st} (h : Forward s0 s) : Forward s0 (s.setPps st) :=
  h.fset.gnsRefresh

/-! The operations of Machine/Cls. -/

theorem Forward.setCarrier {k r} (h : Forward s0 s) : Forward s0 (s.setCarrier k r) :=
  h.update

theorem Forward.setClState {k st} (h : Forward s0 s) : Forward s0 (s.setClState k st) :=
  h.fset.cond.drive.notePri

theorem Forward.carrierOff {k} (h : Forward s0 s) : Forward s0 (s.carrierOff k) :=
  h.setCarrier.fset.fset.fset.fset.timerStop.timerStop.setClState

theorem Forward.patternsAtBoundary (h : Forward s0 s) : Forward s0 s.patternsAtBoundary :=
  h.foldl fun _ _ ht => by split; exacts [ht, .ite ht.setCarrier.fset.fset.pulse ht]

theorem Forward.clPath {p} (h : Forward s0 s) : Forward s0 (s.clPath p) :=
  .ite h <|
  .ite h.setPathGrid <|
  have ht := h.update.setPathGrid
  .ite ht.pulse ht

theorem Forward.cellListener (h : Forward s0 s) : Forward s0 s.cellListener :=
  (h.foldl fun _ _ ht => ht.clPath).feedListener

/-! The operations of Machine/Jlk. -/

theorem Forward.setJlk {g r} (h : Forward s0 s) : Forward s0 (s.setJlk g r) :=
  h.update

theorem Forward.setRx {g st} (h : Forward s0 s) : Forward s0 (s.setRx g st) :=
  h.fset

theorem Forward.setTx {g st} (h : Forward s0 s) : Forward s0 (s.setTx g st) :=
  h.fset

theorem Forward.driveJlk {g} (h : Forward s0 s) : Forward s0 (s.driveJlk g) :=
  h.drive

theorem Forward.txGo {g} (h : Forward s0 s) : Forward s0 (s.txGo g) :=
  .ite h.setTx.canLinkBack h

theorem Forward.txAlarm {g} (h : Forward s0 s) : Forward s0 (s.txAlarm g) := by
  unfold State.txAlarm
  exact h.setTx.pulse.inputLost.setJlk.driveJlk.canLinkLoss

theorem Forward.txAlarmOff {g} (h : Forward s0 s) : Forward s0 (s.txAlarmOff g) := by
  unfold State.txAlarmOff
  exact (Forward.ite h.setTx.txGo h).inputValid.setJlk.driveJlk.canLinkBack

theorem Forward.alarmRefresh {g} (h : Forward s0 s) : Forward s0 (s.alarmRefresh g) :=
  .ite h.txAlarm (.ite h.txAlarmOff (.ite h.setTx h))

theorem Forward.rxStart {g} (h : Forward s0 s) : Forward s0 (s.rxStart g) :=
  have hs := h.timerStop.timerStop
  .ite hs.setRx.fset hs.setRx.fset.setJlk.driveJlk

theorem Forward.txStart {g} (h : Forward s0 s) : Forward s0 (s.txStart g) :=
  (Forward.ite h.setTx.txGo h.setTx).alarmRefresh

/-! The operations of Machine/Path. -/

theorem Forward.refreshPath {p} (h : Forward s0 s) : Forward s0 (s.refreshPath p) :=
  h.fsetB.fset

theorem Forward.windowsInForce {p} (h : Forward s0 s) : Forward s0 (s.windowsInForce p) :=
  h.applyWindows.refreshPath

theorem Forward.pathPins {p} (h : Forward s0 s) : Forward s0 (s.pathPins p) :=
  h.foldl fun _ _ ht => ht.fddPins

theorem Forward.turnOn {p} (h : Forward s0 s) : Forward s0 (s.turnOn p) :=
  (h.fset.setPathRt.setPathGrid.foldl fun _ _ ht => ht.resetHolds).pathPins

theorem Forward.drainPath {p} (h : Forward s0 s) : Forward s0 (s.drainPath p) :=
  h.fset.fset.foldl fun _ _ ht => .ite ht.setCtxRt ht

theorem Forward.setEnable {p en} (h : Forward s0 s) : Forward s0 (s.setEnable p en) :=
  .ite (.ite h.fset.setPathRt (.ite h.fset.setPathRt h.fset.setPathRt.pulse)) (.ite (.ite h h.drainPath) h.fsetB.setPathRt)

/-! The operations of Machine/Ptp. -/

theorem Forward.setPort {st} (h : Forward s0 s) : Forward s0 (s.setPort st) :=
  h.fset

theorem Forward.drivePtp (h : Forward s0 s) : Forward s0 s.drivePtp :=
  h.drive

/-! The operations of Machine/Fhl. -/

theorem Forward.driveSides (h : Forward s0 s) : Forward s0 s.driveSides :=
  h.foldl fun _ _ ht => ht.drive

theorem Forward.setFlow {f r} (h : Forward s0 s) : Forward s0 (s.setFlow f r) :=
  h.update

theorem Forward.setFlowSt {f st} (h : Forward s0 s) : Forward s0 (s.setFlowSt f st) :=
  h.fset

theorem Forward.driveFlows (h : Forward s0 s) : Forward s0 s.driveFlows :=
  h.drive

theorem Forward.reanchor {f} (h : Forward s0 s) : Forward s0 (s.reanchor f) :=
  h.setFlowSt.setFlow.timerStart

theorem Forward.shedSide {d} (h : Forward s0 s) : Forward s0 (s.shedSide d) :=
  h.foldl fun _ _ ht => .ite ht.setFlowSt (.ite ht ht.setFlowSt.pulse)

theorem Forward.shed (h : Forward s0 s) : Forward s0 s.shed :=
  h.shedSide.shedSide

theorem Forward.flowRefresh {f} (h : Forward s0 s) : Forward s0 (s.flowRefresh f) :=
  .ite (.ite h h.setFlowSt.timerStop) (.ite h (.ite h.reanchor h))

theorem Forward.flowsRefresh (h : Forward s0 s) : Forward s0 s.flowsRefresh :=
  (h.foldl fun _ _ ht => ht.flowRefresh).shed.driveFlows

theorem Forward.setAlign {a} (h : Forward s0 s) : Forward s0 (s.setAlign a) :=
  h.update

theorem Forward.alignRefresh (h : Forward s0 s) : Forward s0 s.alignRefresh :=
  have hs := h.setAlign.fset.fset.fset.fset.fset
  have hs' := Forward.ite hs.cond.pulse hs.cond
  .ite hs'.pulse hs'

theorem Forward.alignPath {p} (h : Forward s0 s) : Forward s0 (s.alignPath p) :=
  .ite h (.ite h.setDelayNs h.setDelayNs)

theorem Forward.alignServo {p} (h : Forward s0 s) : Forward s0 (s.alignServo p) :=
  .ite
    (have hs := h.alignRefresh; .ite hs.alignPath hs)
    h

/-! The operations of Machine/Frame. -/

theorem Forward.turnOnAt {p} (h : Forward s0 s) : Forward s0 (s.turnOnAt p) :=
  .ite (.ite h.turnOn h.setEnable) h

theorem Forward.offsetAtBoundary {p} (h : Forward s0 s) : Forward s0 (s.offsetAtBoundary p) :=
  .ite h h.refreshLag

theorem Forward.pathBoundary {p} (h : Forward s0 s) : Forward s0 (s.pathBoundary p) :=
  (Forward.ite h h.windowsInForce).offsetAtBoundary.alignServo.delayAtBoundary.turnOnAt

/-- What the paths do at a group's boundary goes forward from it. -/
theorem Forward.atBoundary {g} : Forward (s.passBoundary g) (s.frameBoundary g) :=
  (Forward.refl.foldl fun _ _ ht => ht.pathBoundary).foxBoundary.patternsAtBoundary

/-! The operations of Machine/Swap. -/

theorem Forward.swapRefused {reason} (h : Forward s0 s) : Forward s0 (s.swapRefused reason) :=
  h.fset.fset.pulse

theorem Forward.swapEnds {slot reason} (h : Forward s0 s) : Forward s0 (s.swapEnds slot reason) :=
  h.setSlot.swapRefused

/-! The operations of Machine/Gcp. -/

theorem Forward.setArrived {k l} (h : Forward s0 s) : Forward s0 (s.setArrived k l) :=
  h.update

theorem Forward.emptyRings {c} (h : Forward s0 s) : Forward s0 (s.emptyRings c) :=
  ((h.update.foldl fun _ _ ht => ht.freeBuf).foldl fun _ _ ht => ht.freeOf).setQueue.setAnWaiting.setArrived.fset.fset

theorem Forward.gcpReset (h : Forward s0 s) : Forward s0 s.gcpReset :=
  (h.update.foldl fun _ _ ht => ht.fset.setGridSum).fset.foldl fun _ _ ht => ht.poolMarks

/-! The operations of Machine/Cap. -/

theorem Forward.setCap {n r} (h : Forward s0 s) : Forward s0 (s.setCap n r) :=
  h.update

theorem Forward.capReport {n} (h : Forward s0 s) : Forward s0 (s.capReport n) :=
  h.report

theorem Forward.capFree {n} (h : Forward s0 s) : Forward s0 (s.capFree n) :=
  h.fset.fset.setCap

theorem Forward.capDrained {n} (h : Forward s0 s) : Forward s0 (s.capDrained n) :=
  .ite h.capReport.capFree h

theorem Forward.capEnd {n reason} (h : Forward s0 s) : Forward s0 (s.capEnd n reason) :=
  .ite h.fset.fset.setCap.pulse.capDrained h

theorem Forward.capCheck (h : Forward s0 s) : Forward s0 s.capCheck :=
  h.foldl fun _ _ ht => .ite ht.capEnd ht

theorem Forward.capLossTick (h : Forward s0 s) : Forward s0 s.capLossTick :=
  h.foldl fun _ _ ht => .ite ht (.ite (.ite ht.setCap ht) (.ite ht.setCap ht))

theorem Forward.capReset (h : Forward s0 s) : Forward s0 s.capReset :=
  h.foldl fun _ _ ht => .ite ht.setWord ht.pulse.capFree.setWord.fset

/-! The operations of Machine/Hka. -/

theorem Forward.setHka {c r} (h : Forward s0 s) : Forward s0 (s.setHka c r) :=
  h.update

theorem Forward.hkaShow {c} (h : Forward s0 s) : Forward s0 (s.hkaShow c) :=
  h.fset.fset

theorem Forward.hkaShowAll (h : Forward s0 s) : Forward s0 s.hkaShowAll :=
  h.hkaShow.hkaShow

theorem Forward.hkaLoss (h : Forward s0 s) : Forward s0 s.hkaLoss :=
  h.cond

theorem Forward.twinRuns (h : Forward s0 s) : Forward s0 s.twinRuns := by
  unfold State.twinRuns
  split
  · exact .ite h.setHka h
  · exact h

theorem Forward.converts {c} (h : Forward s0 s) : Forward s0 (s.converts c) :=
  .ite h.setHka.twinRuns h.setHka

theorem Forward.scanBegins {c} (h : Forward s0 s) : Forward s0 (s.scanBegins c) :=
  (Forward.ite h.setHka h.setHka.converts).foldl fun _ _ ht => .ite ht.fset ht

theorem Forward.scanNext {c} (h : Forward s0 s) : Forward s0 (s.scanNext c) :=
  .ite h (.ite h.fset.scanBegins (.ite h.scanBegins h))

theorem Forward.entryAgain {c} (h : Forward s0 s) : Forward s0 (s.entryAgain c) :=
  .ite h.twinRuns (.ite h h.converts)

theorem Forward.hkaAbandon {c} (h : Forward s0 s) : Forward s0 (s.hkaAbandon c) :=
  .ite h.setHka.fbump.pulse h

theorem Forward.urgentNext (h : Forward s0 s) : Forward s0 s.urgentNext := by
  unfold State.urgentNext
  dsimp only
  refine .ite h ?_
  split
  · exact h
  · exact .ite h.hkaAbandon.update h

theorem Forward.hkaResume {c} (h : Forward s0 s) : Forward s0 (s.hkaResume c) :=
  (Forward.ite h.urgentNext h.urgentNext.entryAgain).scanNext.hkaShowAll

theorem Forward.refStart {c} (h : Forward s0 s) : Forward s0 (s.refStart c) :=
  have hs := Forward.ite h.fset.setHka.update h.fset.setHka
  .ite hs.timerStop hs.timerStart

theorem Forward.hkaOff {c} (h : Forward s0 s) : Forward s0 (s.hkaOff c) :=
  (Forward.ite h.setHka.update h.setHka).fset.fset.timerStop.timerStop.urgentNext

theorem Forward.hkaCfgApply {c w} (h : Forward s0 s) : Forward s0 (s.hkaCfgApply c w) :=
  have hs := Forward.ite h.setWord.setHka h.setWord.setHka
  have hs' := Forward.ite hs.hkaOff (.ite hs.refStart hs)
  .ite hs'.hkaOff.hkaShowAll <|
  have hs'' := Forward.ite (have ht'' := hs'.fset.refStart; .ite ht''.refStart ht'') hs'
  (Forward.ite (.ite hs'' hs''.timerStart) hs''.timerStop).hkaLoss.hkaShowAll

theorem Forward.hkaApply {off w} (h : Forward s0 s) : Forward s0 (s.hkaApply off w) := by
  unfold State.hkaApply
  dsimp only
  refine .ite h.hkaCfgApply ?_
  split
  · next t heq =>
    exact (h.mergeReg _ heq)
  · exact h

theorem Forward.calEnds {c} (h : Forward s0 s) : Forward s0 (s.calEnds c) :=
  (h.setHka.timerStop.foldl fun _ _ ht => ht.hkaApply).hkaResume

theorem Forward.hkaReset (h : Forward s0 s) : Forward s0 s.hkaReset :=
  h.update.foldl fun _ _ ht => (Forward.ite ht.calEnds ht).fset.fset.fset.setHka

/-! The operations of Machine/Fan. -/

theorem Forward.setFan {j r} (h : Forward s0 s) : Forward s0 (s.setFan j r) :=
  h.update

theorem Forward.driveFans (h : Forward s0 s) : Forward s0 s.driveFans :=
  h.drive

theorem Forward.fanCheck {j} (h : Forward s0 s) : Forward s0 (s.fanCheck j) :=
  .ite (.ite h h.timerStart) h.timerStop.fset.cond.driveFans

theorem Forward.fanCheckAll (h : Forward s0 s) : Forward s0 s.fanCheckAll :=
  h.foldl fun _ _ ht => ht.fanCheck

theorem Forward.fanStop {j} (h : Forward s0 s) : Forward s0 (s.fanStop j) :=
  h.setFan.fset.fset

theorem Forward.setPwm {k r} (h : Forward s0 s) : Forward s0 (s.setPwm k r) :=
  h.update

theorem Forward.drivePwm (h : Forward s0 s) : Forward s0 s.drivePwm :=
  h.drive

theorem Forward.setPwmState {k st} (h : Forward s0 s) : Forward s0 (s.setPwmState k st) :=
  h.fset.drivePwm.fanCheckAll

theorem Forward.softBegin {k} (h : Forward s0 s) : Forward s0 (s.softBegin k) :=
  h.setPwm.setPwmState

theorem Forward.pwmOff {k} (h : Forward s0 s) : Forward s0 (s.pwmOff k) :=
  have hs := h.timerStop.timerStop.setPwm
  (Forward.ite hs.timerStart hs).fset.setPwmState

theorem Forward.pwmLimit {k at_} (h : Forward s0 s) : Forward s0 (s.pwmLimit k at_) :=
  .ite h <|
  have hs := h.setPwm.fbump
  .ite hs.setPwm.pulse.setPwmState.timerStart.timerStop hs

theorem Forward.pwmSampled {k} (h : Forward s0 s) : Forward s0 (s.pwmSampled k) :=
  .ite h.setPwm.pwmLimit h

theorem Forward.pwmStrobe (h : Forward s0 s) : Forward s0 s.pwmStrobe :=
  h.foldl fun _ _ ht => .ite ht.pwmSampled ht

/-! The operations of Machine/Sample. -/

theorem Forward.showDuty {n} (h : Forward s0 s) : Forward s0 (s.showDuty n) :=
  h.fset.fset

theorem Forward.dutyCheck (h : Forward s0 s) : Forward s0 s.dutyCheck :=
  (h.update.foldl fun _ _ ht => ht.showDuty).cond.foldl fun _ _ ht => ht.foxCheck

/-! The operations of Machine/Thm. -/

theorem Forward.setBand {b} (h : Forward s0 s) : Forward s0 (s.setBand b) :=
  .ite h h.fset.fset.pulse.timerStart

/-! The operations of Machine/Twb. -/

theorem Forward.setTwb {n r} (h : Forward s0 s) : Forward s0 (s.setTwb n r) :=
  h.update

theorem Forward.setTwbState {n st} (h : Forward s0 s) : Forward s0 (s.setTwbState n st) :=
  h.fset

theorem Forward.storeRead {n hd data} (h : Forward s0 s) : Forward s0 (s.storeRead n hd data) :=
  h.foldl fun _ _ ht => ht.fset

theorem Forward.twbResult {n hd e attempts} (h : Forward s0 s) : Forward s0 (s.twbResult n hd e attempts) :=
  h.fset.fset.fset.fset.fset.fset.storeRead

theorem Forward.alertResult {n e} (h : Forward s0 s) : Forward s0 (s.alertResult n e) :=
  .ite h.fset.fset.pulse (.ite h.fset h)

theorem Forward.twbFinish {n t e} (h : Forward s0 s) : Forward s0 (s.twbFinish n t e) :=
  .pulse (by split; exacts [h.twbResult, h.alertResult])

theorem Forward.twbEndAll {n result} (h : Forward s0 s) : Forward s0 (s.twbEndAll n result) :=
  h.setTwb.foldl fun _ _ ht => ht.twbFinish

theorem Forward.twbStuck {n b} (h : Forward s0 s) : Forward s0 (s.twbStuck n b) :=
  h.cond.cond.drive

theorem Forward.twbOff {n} (h : Forward s0 s) : Forward s0 (s.twbOff n) :=
  h.twbEndAll.twbStuck.setTwbState.setTwb.timerStop

theorem Forward.twbOn {n} (h : Forward s0 s) : Forward s0 (s.twbOn n) :=
  h.setTwbState

/-! The operations of Machine/Twt. -/

theorem Forward.setTwt {t} (h : Forward s0 s) : Forward s0 (s.setTwt t) :=
  h.update.fset.fset

theorem Forward.twtPhase {p} (h : Forward s0 s) : Forward s0 (s.twtPhase p) :=
  h.update

theorem Forward.stretchEnd (h : Forward s0 s) : Forward s0 s.stretchEnd :=
  h.fset.timerStop

theorem Forward.twtStuck {b} (h : Forward s0 s) : Forward s0 (s.twtStuck b) :=
  h.fsetB.cond.cond.drive

theorem Forward.twtIdle (h : Forward s0 s) : Forward s0 s.twtIdle :=
  h.twtPhase.stretchEnd.twtStuck

theorem Forward.twtReset (h : Forward s0 s) : Forward s0 s.twtReset :=
  h.setTwt.twtIdle

theorem Forward.gpioEvent {n} (h : Forward s0 s) : Forward s0 (s.gpioEvent n) :=
  .ite h h.cond

theorem Forward.gpioEvents (h : Forward s0 s) : Forward s0 s.gpioEvents :=
  h.foldl fun _ _ ht => ht.gpioEvent

/-! The operations of Machine/Rst. -/

theorem Forward.clearPage {page} (h : Forward s0 s) : Forward s0 (s.clearPage page) :=
  h.update.update.update.update.dropCrcPass

theorem Forward.stopTimers {tms} (h : Forward s0 s) : Forward s0 (s.stopTimers tms) :=
  h.update

theorem Forward.schReset (h : Forward s0 s) : Forward s0 s.schReset := by
  unfold State.schReset
  dsimp only
  split
  · exact (h.foldl fun _ _ ht => .ite ht.setSlot.imgClear.setLoader (.ite ht.refuseSlot ht)).update.stopTimers.swapEnds
  · exact (h.foldl fun _ _ ht => .ite ht.setSlot.imgClear.setLoader (.ite ht.refuseSlot ht)).update.stopTimers

theorem Forward.canClear (h : Forward s0 s) : Forward s0 s.canClear :=
  h.selftestStop.update.stopTimers

theorem Forward.canStart (h : Forward s0 s) : Forward s0 s.canStart :=
  h.foldl fun _ _ ht =>
    have hs := ht.beginRefill
    .ite (.ite hs.enChanged hs.enChanged.linkFreeze) hs

theorem Forward.gridAbort {k} (h : Forward s0 s) : Forward s0 (s.gridAbort k) :=
  .ite h (.ite h.setGridSum.refused h.gridEnd)

theorem Forward.ggrClear (h : Forward s0 s) : Forward s0 s.ggrClear :=
  ((h.update.foldl fun _ _ ht => ht.gridAbort).foldl fun _ _ ht => ht.rearmGrid).drive

theorem Forward.cenClear (h : Forward s0 s) : Forward s0 s.cenClear :=
  h.update.drive

theorem Forward.nprClear (h : Forward s0 s) : Forward s0 s.nprClear :=
  h.update.foldl fun _ _ ht => .ite ht ht.setCtxRt

theorem Forward.limClear (h : Forward s0 s) : Forward s0 s.limClear :=
  h.update.drive

theorem Forward.felClear (h : Forward s0 s) : Forward s0 s.felClear :=
  (h.foldl fun _ _ ht => .ite ht.felLinkDown ht).update.stopTimers

theorem Forward.ftmClear (h : Forward s0 s) : Forward s0 s.ftmClear :=
  ((h.foldl fun _ _ ht => .ite ht.askPins ht).foldl fun _ _ ht => .ite ht ht.groupOff).update

theorem Forward.clsClear (h : Forward s0 s) : Forward s0 s.clsClear :=
  h.foldl fun _ _ ht => .ite ht ht.carrierOff

theorem Forward.fhlClear (h : Forward s0 s) : Forward s0 s.fhlClear :=
  h.update.stopTimers

theorem Forward.ctxwClear (h : Forward s0 s) : Forward s0 s.ctxwClear :=
  (h.foldl fun _ _ ht => ht.commitAnswered).update

theorem Forward.nvaClear (h : Forward s0 s) : Forward s0 s.nvaClear :=
  have ht := h.update.update
  (Forward.ite ht.hostDone ht).drive

theorem Forward.groupClear {g} (h : Forward s0 s) : Forward s0 (s.groupClear g) :=
  have ht := Forward.ite h.canLinkLoss h
  (Forward.ite ht.canLinkLoss ht).setJlk.driveJlk

theorem Forward.blockClear {page} (h : Forward s0 s) : Forward s0 (s.blockClear page) :=
  .ite h.update <|
  .ite (h.foldl fun _ _ ht => ht.fbump).update <|
  .ite h.nvaClear <|
  .ite h.update.drive.stopTimers <|
  .ite h.gcpReset.drive.stopTimers <|
  .ite h.gcpReset.update <|
  .ite h.stopTimers <|
  .ite h.capReset.drive <|
  .ite h.fhlClear <|
  .ite h.setGns.drive.stopTimers <|
  .ite h.schReset <|
  .ite h.drive <|
  .ite h.drive.drive <|
  .ite h.ggrClear <|
  .ite h.clsClear <|
  .ite h.cenClear <|
  .ite h.nprClear <|
  .ite h.limClear <|
  .ite h.ftmClear <|
  .ite h.felClear <|
  .ite (h.update.foldl fun _ _ ht => ht.drive) <|
  .ite h.hkaReset.stopTimers <|
  .ite (h.update.foldl fun _ _ ht => ht.pwmOff) <|
  .ite h.update.stopTimers <|
  .ite h.update.stopTimers (.ite h.twbOff (.ite h.twtReset (.ite h.ctxwClear (.ite (h.foldl fun _ _ ht => ht.groupClear) h))))

theorem Forward.blockCleared {page} (h : Forward s0 s) : Forward s0 (s.blockCleared page) :=
  .ite h.canClear <|
  .ite (h.foldl fun _ _ ht => ht.emptyRings) <|
  .ite ((h.foldl fun _ _ ht => ht.factoryGains.refreshGains).foldl fun _ _ ht => (Forward.ite ht.fset ht).driveMm) <|
  .ite h.driveFans (.ite h.setBand h)

theorem Forward.ftmStart (h : Forward s0 s) : Forward s0 s.ftmStart :=
  h.foldl fun _ _ ht => .ite ht.groupOn ht

theorem Forward.gnsStart (h : Forward s0 s) : Forward s0 s.gnsStart :=
  have ht := Forward.ite h.timerStart.setPps h
  .ite ht.timerStart ht

theorem Forward.clsStart (h : Forward s0 s) : Forward s0 s.clsStart :=
  h.foldl fun _ _ ht => .ite ht.setClState ht

theorem Forward.fhlStart (h : Forward s0 s) : Forward s0 s.fhlStart :=
  (Forward.ite h.setPort h).drivePtp.driveSides.flowsRefresh

theorem Forward.hkaBegin (h : Forward s0 s) : Forward s0 s.hkaBegin :=
  ((h.foldl fun _ _ ht => .ite ht.refStart ht).foldl fun _ _ ht => .ite ht.timerStart ht).hkaShowAll

theorem Forward.pwmStart (h : Forward s0 s) : Forward s0 s.pwmStart :=
  h.foldl fun _ _ ht => .ite ht.softBegin ht

theorem Forward.fanStart (h : Forward s0 s) : Forward s0 s.fanStart :=
  h.foldl fun _ _ ht => .ite ht.fanStop.timerStart ht

theorem Forward.blockEnable {page} (h : Forward s0 s) : Forward s0 (s.blockEnable page) :=
  .ite (.ite h.hupStart h) <|
  .ite h.fset.nvShow <|
  .ite h.fhlStart <|
  .ite h.gnsStart <|
  .ite (.ite h h.timerStart) <|
  .ite h.canStart <|
  .ite h.clsStart <|
  .ite h.cond <|
  .ite h.ftmStart <|
  .ite h.hkaBegin <|
  .ite h.pwmStart <|
  .ite h.fanStart <|
  .ite (h.foldl fun _ _ ht => ht.timerStart) (.ite (.ite h.twbOn h) (.ite h.gpioEvents (.ite (h.foldl fun _ _ ht => ht.rxStart.txStart) h)))

theorem Forward.holdWires {s1 page} (h1 : Forward s0 s) : Forward s0 (s.holdWires s1 page) :=
  h1.copyWords.update

theorem Forward.freeWires {page} (h : Forward s0 s) : Forward s0 (s.freeWires page) :=
  h.update.foldl fun _ _ ht => ht.drive

theorem Forward.blockStop {page} (h : Forward s0 s) : Forward s0 (s.blockStop page) :=
  h.release.fset.setCrcErr.blockClear.clearPage.blockCleared.holdWires

theorem Forward.blockStart {page} (h : Forward s0 s) : Forward s0 (s.blockStart page) :=
  .ite h h.release.refreshReady.freeWires.blockEnable

theorem Forward.blockRelease {page} (h : Forward s0 s) : Forward s0 (s.blockRelease page) :=
  h.timerStop.fset.fbump.blockStart.pulse

theorem Forward.blockStrobe (h : Forward s0 s) : Forward s0 s.blockStrobe :=
  (Forward.ite h.blockStop.timerStart h).foldl fun _ _ ht => .ite ht.blockRelease ht

/-! The operations of Machine/Boot. -/

theorem Forward.setWd {pair on ms} (h : Forward s0 s) : Forward s0 (s.setWd pair on ms) :=
  h.update

theorem Forward.wdTick (h : Forward s0 s) : Forward s0 s.wdTick :=
  h.foldl fun _ _ ht => .ite ht.setWd ht

theorem Forward.wdSecond (h : Forward s0 s) : Forward s0 s.wdSecond :=
  h.update

/-! The operations of Machine/Flt. -/

theorem Forward.escTick (h : Forward s0 s) : Forward s0 s.escTick :=
  h.foldl fun _ _ ht => .ite ht.fset ht

/-! The operations of Machine/Strobe. -/

theorem Forward.checkConfig {upset} (h : Forward s0 s) : Forward s0 (s.checkConfig upset) :=
  have ht := h.foldl fun _ _ ht => ht.crcPassStart
  .ite ht.ctxCrcMismatch ht

theorem Forward.ptpYield (h : Forward s0 s) : Forward s0 s.ptpYield :=
  .ite h h.tookFree.yieldObs

theorem Forward.msWork {upset} (h : Forward s0 s) : Forward s0 (s.msWork upset) :=
  have ht := h.checkConfig.wdTick
  have ht' := Forward.ite ht.escTick ht
  have ht'' := Forward.ite ht'.capCheck.capLossTick ht'
  have ht''' := Forward.ite ht''.ptpYield ht''
  have ht'''' := Forward.ite ht'''.cellListener ht'''
  .ite ht''''.chipReset ht''''

theorem Forward.lockoutTick (h : Forward s0 s) : Forward s0 s.lockoutTick :=
  .ite h h.fset

theorem Forward.secWork (h : Forward s0 s) : Forward s0 s.secWork :=
  have ht := h.wdSecond.lockoutTick
  .ite ht.dutyCheck.foxSecond ht

end Sys2Proof.Machine
end

section
/-!
Settles O2 and refutes O53: what the three strobes make of the counts and of device time.
-/
namespace Sys2Proof.Machine

variable {s : State}

/-- The strobes run only while device time does. -/
theorem State.timeRuns_of_strobesRun (h : s.strobesRun = true) : s.timeRuns = true := ((Bool.and_eq_true _ _).mp h).2

/-- Reaching a microsecond strobe brings device time and the microsecond count up to it, and leaves the other counts. -/
theorem State.toStrobe_eq (h : s.strobesRun = true) (n : Nat) :
    s.toStrobe n = { s with time := { s.time with devTime := max s.time.devTime (strobeTick n), usCount := max s.time.usCount n } } := by
  rw [State.toStrobe, State.advanceTo, if_pos (State.timeRuns_of_strobesRun h)]

/-- What the device does at a microsecond strobe goes forward. -/
theorem Forward.usWork (s : State) : Forward s ((s.blockStrobe).sclStrobe).pwmStrobe := Forward.refl.blockStrobe.sclStrobe.pwmStrobe

/-- Settles O2: each strobe first moves its own count and device time, and the device's work at the strobe only goes forward from there. -/
theorem strobesAdvanceTheCounts : Obligations.StrobesAdvanceTheCounts := by
  refine ⟨fun s h => ?_, fun upset s h => ?_, fun s h => ?_⟩
  · have hwork := Forward.usWork (s.toStrobe (s.time.usCount + 1))
    rw [State.toStrobe_eq h] at hwork
    refine ⟨_, congrArg Host.Outcome.next (if_pos h), ?_⟩
    rw [State.toStrobe_eq h]
    exact ⟨hwork.usCount.trans (Nat.max_eq_right (Nat.le_succ _)), (Nat.le_max_right ..).trans hwork.dt, (Nat.le_max_left ..).trans hwork.dt,
      hwork.msCount⟩
  · have hwork := (Forward.refl (s := s.nextMs)).msWork (upset := upset)
    refine ⟨_, congrArg Host.Outcome.next (if_pos h), hwork.msCount, ?_⟩
    rw [hwork.usCount]
    rw [State.nextMs, State.toStrobe_eq h] at hwork ⊢
    exact ⟨Nat.le_max_right .., (Nat.le_max_right ..).trans hwork.dt, (Nat.le_max_left ..).trans hwork.dt⟩
  · have hwork := (Forward.refl (s := s.nextSec)).secWork
    refine ⟨_, congrArg Host.Outcome.next (if_pos h), hwork.sCount, ?_⟩
    rw [hwork.msCount]
    rw [State.nextSec, State.toStrobe_eq h] at hwork ⊢
    exact ⟨Nat.le_max_right .., (Nat.le_max_right ..).trans hwork.dt, (Nat.le_max_left ..).trans hwork.dt⟩

/-- A running device at its 100th microsecond strobe, whose last edge of the target port's SCL came before the first one. -/
def sclEdgeLongPast : State :=
  { time := { started := true, usCount := 100 }, regs := [(CLK_PLL_STAT.PLLA_LOCK.key 0, 1)], timers := [(timerKey tmScl 0, 1)] }

/-- The next microsecond strobe stops CD42 with its timer (R516). -/
theorem usStrobe_stops_scl :
    ((sclEdgeLongPast.toStrobe 101).blockStrobe.sclStrobe.pwmStrobe).timerOn tmScl 0 = false := by decide +kernel

/-- What it does of block resets alone leaves that timer running. -/
theorem blockStrobe_leaves_scl :
    (State.blockStrobe { sclEdgeLongPast with time := { sclEdgeLongPast.time with devTime := strobeTick 101, usCount := 101 } }).timerOn tmScl 0 = true := by
  decide +kernel

/-- Refutes O53: its fourth clause lets a microsecond strobe do nothing but release blocks (`State.blockStrobe`), and leaves out that the strobe also
stops CD42 61 µs after the last edge of SCL (`State.sclStrobe`, R516), as it does on `sclEdgeLongPast`. -/
theorem not_strobesFallOnTheirTicks : ¬ Obligations.StrobesFallOnTheirTicks := by
  rintro ⟨-, -, -, husStrobe, -, -⟩
  have hclaim := husStrobe sclEdgeLongPast (by decide) (Nat.zero_le _)
  have hdoes : exec .usStrobe sclEdgeLongPast = .next ((sclEdgeLongPast.toStrobe 101).blockStrobe.sclStrobe.pwmStrobe) :=
    congrArg Host.Outcome.next (if_pos (by decide))
  have hsame := congrArg (State.timerOn · tmScl 0) (Host.Outcome.next.inj (hdoes.symm.trans hclaim))
  exact absurd (usStrobe_stops_scl.symm.trans (hsame.trans blockStrobe_leaves_scl)) (by decide)

end Sys2Proof.Machine
end

section
/-!
What reporting leaves alone. Events, fault levels, records, reports and trace words touch the registers and the parts of the state that show them;
`Quiet s0 t` says that nothing else differs between `s0` and `t`.
-/
namespace Sys2Proof.Machine

-- One proof after the other: a default argument by a tactic waits until the kernel has checked all that stands before it.
set_option Elab.async false

variable {s0 s : State}

/-- A key of a register that shows a report: in a page's header, a SAT_COUNT, or on the pages of the trace ring, the fault collector and the recorder. -/
def ReportKey (k : Nat) : Prop :=
  k % 0x1000 < 0x40 ∨ k % 0x1000 = 0x400 ∨ (pgTRC ≤ k % Fld.unitStep / 0x1000 ∧ k % Fld.unitStep / 0x1000 ≤ pgEVR)

/-- The state without its registers and without what holds reports. -/
def State.hush (s : State) : State :=
  { s with regs := [], evtCount := [], lostIn := [], flt := {}, evr := {}, reports := [], trc := {}, gcp := {}, free := 0 }

/-- `t` differs from `s0` at most in what shows reports. -/
structure Quiet (s0 t : State) : Prop where
  word : ∀ k, ¬ReportKey k → t.word k = s0.word k
  hush : t.hush = s0.hush

theorem Quiet.refl : Quiet s s := ⟨fun _ _ => rfl, rfl⟩

theorem Quiet.update {evtCount lostIn flt evr reports trc gcp free} (h : Quiet s0 s) :
    Quiet s0 { s with evtCount := evtCount, lostIn := lostIn, flt := flt, evr := evr, reports := reports, trc := trc, gcp := gcp, free := free } :=
  ⟨h.word, h.hush⟩

theorem Quiet.ite {c : Prop} [Decidable c] {a b : State} (ha : Quiet s0 a) (hb : Quiet s0 b) : Quiet s0 (if c then a else b) := by
  split
  · exact ha
  · exact hb

/-! Registers that show reports. -/

theorem Quiet.fset {f : Fld} {u v : Nat} (h : Quiet s0 s) (hk : ReportKey (f.key u)) : Quiet s0 (s.fset f u v) :=
  ⟨fun k hnot => (State.word_setWord_ne s _ (ne_of_mem_of_not_mem (s := {k | ReportKey k}) hk hnot).symm).trans (h.word k hnot), h.hush⟩

/-- A register of a page's header. -/
theorem reportKey_header {f : Fld} (hbase : f.base < 0x40) (hstride : f.stride = 0x1000) (u : Nat) : ReportKey (f.key u) := by
  refine .inl ?_
  rw [Fld.key, hstride]
  omega

/-- A word of a register array on the fault collector's page. -/
theorem reportKey_flt {f : Fld} {u : Nat} (hlo : 0x7000 ≤ f.base) (hhi : f.base < 0x7800) (hstride : f.stride = 4) (hu : u < 16) : ReportKey (f.key u) := by
  refine .inr (.inr ?_)
  rw [Fld.key, hstride, Fld.unitStep, pgTRC, pgEVR]
  omega

/-- A register of the trace ring's page or the recorder's. -/
theorem reportKey_single {f : Fld} (hlo : 0x6000 ≤ f.base) (hhi : f.base < 0x9000) (hstride : f.stride = 0) (u : Nat) : ReportKey (f.key u) := by
  refine .inr (.inr ?_)
  rw [Fld.key, hstride, Fld.unitStep, pgTRC, pgEVR]
  omega

theorem reportKey_satCount (page : Nat) : ReportKey (SAT_COUNT.COUNT.key page) := by
  refine .inr (.inl ?_)
  rw [Fld.key, show SAT_COUNT.COUNT.base = 0x400 from rfl, show SAT_COUNT.COUNT.stride = 0x1000 from rfl]
  omega

theorem Quiet.setHeader {f : Fld} {u v : Nat} (h : Quiet s0 s) (hbase : f.base < 0x40 := by decide) (hstride : f.stride = 0x1000 := by rfl) :
    Quiet s0 (s.fset f u v) := h.fset (reportKey_header hbase hstride u)

theorem Quiet.setSingle {f : Fld} {u v : Nat} (h : Quiet s0 s) (hlo : 0x6000 ≤ f.base := by decide) (hhi : f.base < 0x9000 := by decide)
    (hstride : f.stride = 0 := by rfl) : Quiet s0 (s.fset f u v) := h.fset (reportKey_single hlo hhi hstride u)

theorem Quiet.setFlt {f : Fld} {u v : Nat} (h : Quiet s0 s) (hu : u < 16) (hlo : 0x7000 ≤ f.base := by decide) (hhi : f.base < 0x7800 := by decide)
    (hstride : f.stride = 4 := by rfl) : Quiet s0 (s.fset f u v) := h.fset (reportKey_flt hlo hhi hstride hu)

/-! Page events (R41 to R44, R346) and the trace ring (R415). -/

theorem eventSource_lt {page : Nat} (hp : page < 64) (n : Nat) : eventSource page n < 288 := by
  unfold eventSource
  split <;> omega

theorem Quiet.raiseMsix {v : Nat} (h : Quiet s0 s) : Quiet s0 (s.raiseMsix v) := h.update

theorem Quiet.report {kind ident page bit : Nat} {body : List Nat} (h : Quiet s0 s) : Quiet s0 (s.report kind ident page bit body) := h.update

theorem Quiet.forward {page n : Nat} (h : Quiet s0 s) (hp : page < 64) : Quiet s0 (s.forward page n) := by
  have hsrc := eventSource_lt hp n
  have hpend : Quiet s0 (s.fsetBit FLT_EVT_PEND.PEND (eventSource page n / 32 - 5) (eventSource page n % 32) true) := h.setFlt (by omega)
  unfold State.forward
  exact .ite hpend.update.raiseMsix.report hpend

theorem Quiet.riseHere {page n : Nat} (h : Quiet s0 s) (hp : page < 64 := by decide) : Quiet s0 (s.riseHere page n) :=
  have hcount : Quiet s0 ((s.fsetBit EVT_STICKY.STICKY page n true).setEvtCount page n _) := h.setHeader.update
  .ite (hcount.forward hp) hcount

theorem Quiet.trcStop (h : Quiet s0 s) : Quiet s0 s.trcStop := h.setSingle

theorem Quiet.trcEvent {n : Nat} (h : Quiet s0 s) : Quiet s0 (s.trcEvent n) := .ite h h.riseHere

theorem Quiet.trcWrite {w : TrcWord} (h : Quiet s0 s) : Quiet s0 (s.trcWrite w) :=
  .ite h.trcStop.setSingle.trcEvent <|
  have ht := ((Quiet.ite h.setSingle h).update.setSingle).trcStop
  .ite ht.trcEvent ht

theorem Quiet.rise {page n : Nat} (h : Quiet s0 s) (hp : page < 64 := by decide) : Quiet s0 (s.rise page n) :=
  .ite (h.riseHere hp).update.trcWrite (h.riseHere hp)

theorem Quiet.cond {page n : Nat} {b : Bool} (h : Quiet s0 s) (hp : page < 64 := by decide) : Quiet s0 (s.cond page n b) :=
  .ite (h.setHeader.rise hp) h.setHeader

theorem Quiet.pulse {page n : Nat} (h : Quiet s0 s) (hp : page < 64 := by decide) : Quiet s0 (s.pulse page n) := .ite h (h.rise hp)

theorem Quiet.saturate {page : Nat} (h : Quiet s0 s) (hp : page < 64 := by decide) : Quiet s0 (s.saturate page) :=
  .ite ((h.fset (reportKey_satCount page)).pulse hp) h

/-! External inputs (R31), records (R366) and fault wires (R348). -/

theorem Quiet.setInputLost {page k : Nat} {b : Bool} (h : Quiet s0 s) (hp : page < 64 := by decide) : Quiet s0 (s.setInputLost page k b) :=
  h.update.cond hp

theorem Quiet.inputLost {page k : Nat} (h : Quiet s0 s) (hp : page < 64 := by decide) : Quiet s0 (s.inputLost page k) := h.setInputLost hp

theorem Quiet.inputValid {page k : Nat} (h : Quiet s0 s) (hp : page < 64 := by decide) : Quiet s0 (s.inputValid page k) := .ite (h.setInputLost hp) h

theorem Quiet.dropRec (h : Quiet s0 s) : Quiet s0 s.dropRec := (h.update.setSingle).pulse

theorem Quiet.enqueueRec {r : Rec} (h : Quiet s0 s) : Quiet s0 (s.enqueueRec r) := .ite h.dropRec h.update

theorem Quiet.post {code p0 p1 p2 : Nat} (h : Quiet s0 s) : Quiet s0 (s.post code p0 p1 p2) := h.enqueueRec

theorem Quiet.noteLevel {src : Nat} {was : Bool} (h : Quiet s0 s) (hsrc : src < 512) : Quiet s0 (s.noteLevel src was) :=
  have hlevel : Quiet s0 (s.fsetBit FLT_LEVEL.LEVEL (src / 32) (src % 32) (s.faultLevel src)) := h.setFlt (by omega)
  .ite hlevel.update hlevel

theorem Quiet.drive {src : Nat} {b : Bool} (h : Quiet s0 s) (hsrc : src < 512 := by decide) : Quiet s0 (s.drive src b) := h.update.noteLevel hsrc

/-! What is left as it was. -/

/-- No report shows in the register of a field, at one address. -/
def Fld.unreported (f : Fld) : Bool :=
  decide (f.stride % Fld.unitStep = 0 ∧ 0x40 ≤ f.base % 0x1000 ∧ f.base % 0x1000 ≠ 0x400 ∧
    (f.base % Fld.unitStep / 0x1000 < pgTRC ∨ pgEVR < f.base % Fld.unitStep / 0x1000))

theorem Quiet.fget {t : State} (h : Quiet s0 t) {f : Fld} (hf : f.unreported = true) (u : Nat) : t.fget f u = s0.fget f u := by
  simp only [Fld.unreported, decide_eq_true_eq] at hf
  obtain ⟨hstride, hoff, hsat, hpage⟩ := hf
  have hkey := Fld.key_mod hstride u
  refine State.fget_congr (h.word _ fun hreport => ?_)
  unfold ReportKey at hreport
  unfold Fld.unitStep pgTRC pgEVR at *
  omega

theorem Quiet.timers {t : State} (h : Quiet s0 t) : t.timers = s0.timers := by
  have heq := congrArg State.timers h.hush
  exact heq

theorem Quiet.ftm {t : State} (h : Quiet s0 t) : t.ftm = s0.ftm := by
  have heq := congrArg State.ftm h.hush
  exact heq

theorem Quiet.time {t : State} (h : Quiet s0 t) : t.time = s0.time := by
  have heq := congrArg State.time h.hush
  exact heq

end Sys2Proof.Machine
end

section
/-!
What leaves the clocks and the timing groups alone. `KeepsTiming s0 t` says that the registers of the CLK page and of the timing groups (page FTM below
0x078) read in `t` as in `s0`, and that the groups behind their registers are those of `s0`: what the paths do at a frame boundary, a Foxglove check and
an entry into the safe state do not touch them.
-/
namespace Sys2Proof.Machine

-- One proof after the other: a default argument by a tactic waits until the kernel has checked all that stands before it.
set_option Elab.async false

variable {s0 s : State}

/-- An address of the clock and time registers of page CLK, or of a timing group's registers. -/
def timingAddr (a : Nat) : Bool := decide (0x1040 ≤ a ∧ a < 0x1400 ∨ 0x1A040 ≤ a ∧ a < 0x1A078)

theorem timingAddr_iff {a : Nat} : timingAddr a = true ↔ (0x1040 ≤ a ∧ a < 0x1400 ∨ 0x1A040 ≤ a ∧ a < 0x1A078) := decide_eq_true_iff

/-- `t` has the clock registers, the group registers and the groups of `s0`. -/
structure KeepsTiming (s0 t : State) : Prop where
  word : ∀ k, timingAddr (k % Fld.unitStep) = true → t.word k = s0.word k
  groups : t.ftm.groups = s0.ftm.groups

theorem KeepsTiming.refl : KeepsTiming s s := ⟨fun _ _ => rfl, rfl⟩

/-- A record update of other fields. -/
theorem KeepsTiming.update {ctx timers flt chn cen npr fel ggr fhl reports seen ports carriers gns} (h : KeepsTiming s0 s) :
    KeepsTiming s0 { s with ctx := ctx, timers := timers, flt := flt, chn := chn, cen := cen, npr := npr, fel := fel, ggr := ggr, fhl := fhl,
                            reports := reports, ftm := { s.ftm with seen := seen, ports := ports, carriers := carriers, gns := gns } } :=
  ⟨h.word, h.groups⟩

theorem KeepsTiming.ite {c : Prop} [Decidable c] {a b : State} (ha : KeepsTiming s0 a) (hb : KeepsTiming s0 b) : KeepsTiming s0 (if c then a else b) := by
  split
  · exact ha
  · exact hb

theorem KeepsTiming.foldlMem {α : Type} {f : State → α → State} {l : List α} (h : KeepsTiming s0 s)
    (hf : ∀ t, ∀ x ∈ l, KeepsTiming s0 t → KeepsTiming s0 (f t x)) : KeepsTiming s0 (l.foldl f s) := by
  induction l generalizing s with
  | nil => exact h
  | cons x l ih => exact ih (hf s x List.mem_cons_self h) fun t y hy => hf t y (List.mem_cons_of_mem x hy)

theorem KeepsTiming.foldl {α : Type} {f : State → α → State} {l : List α} (h : KeepsTiming s0 s)
    (hf : ∀ t x, KeepsTiming s0 t → KeepsTiming s0 (f t x)) : KeepsTiming s0 (l.foldl f s) :=
  h.foldlMem fun t x _ => hf t x

theorem KeepsTiming.setWord {k : Nat} {w : Word} (h : KeepsTiming s0 s) (hk : timingAddr (k % Fld.unitStep) = false) : KeepsTiming s0 (s.setWord k w) := by
  refine ⟨fun j hj => ?_, h.groups⟩
  have hne : j ≠ k := by
    rintro rfl
    exact absurd hj (by simp [hk])
  exact (State.word_setWord_ne s w hne).trans (h.word j hj)

/-- A register at one address, which is none of the clock and group registers. -/
def Fld.offTiming (f : Fld) : Bool := decide (f.stride % Fld.unitStep = 0) && !timingAddr (f.base % Fld.unitStep)

/-- A register array of up to 32 units that lies apart from the clock and group registers. -/
def Fld.arrayOffTiming (f : Fld) : Bool :=
  decide (0x1400 ≤ f.base ∧ f.base + 31 * f.stride < 0x1A040 ∨ 0x1A078 ≤ f.base ∧ f.base + 31 * f.stride < Fld.unitStep)

theorem KeepsTiming.fset {f : Fld} {u v : Nat} (h : KeepsTiming s0 s) (hf : f.offTiming = true := by rfl) : KeepsTiming s0 (s.fset f u v) := by
  simp only [Fld.offTiming, Bool.and_eq_true, decide_eq_true_eq, Bool.not_eq_true'] at hf
  exact h.setWord ((Fld.key_mod hf.1 u).symm ▸ hf.2)

theorem KeepsTiming.fsetAt {f : Fld} {u v : Nat} (h : KeepsTiming s0 s) (hu : u < 32) (hf : f.arrayOffTiming = true := by rfl) :
    KeepsTiming s0 (s.fset f u v) := by
  have hspan : f.stride * u ≤ 31 * f.stride := by
    rw [Nat.mul_comm]
    exact Nat.mul_le_mul_right _ (by omega)
  rw [Fld.arrayOffTiming, decide_eq_true_eq] at hf
  refine h.setWord (Bool.eq_false_iff.mpr fun hk => ?_)
  rw [timingAddr_iff, Fld.key] at hk
  unfold Fld.unitStep at *
  omega

/-! Reports. -/

theorem not_reportKey_of_timingAddr {k : Nat} (h : timingAddr (k % Fld.unitStep) = true) : ¬ReportKey k := by
  rw [timingAddr_iff] at h
  unfold ReportKey pgTRC pgEVR
  unfold Fld.unitStep at *
  omega

theorem KeepsTiming.quiet {t : State} (h : KeepsTiming s0 s) (hq : Quiet s t) : KeepsTiming s0 t :=
  ⟨fun k hk => (hq.word k (not_reportKey_of_timingAddr hk)).trans (h.word k hk), (congrArg FtmSt.groups hq.ftm).trans h.groups⟩

theorem KeepsTiming.pulse {page n : Nat} (h : KeepsTiming s0 s) (hp : page < 64 := by decide) : KeepsTiming s0 (s.pulse page n) :=
  h.quiet (Quiet.refl.pulse hp)

theorem KeepsTiming.cond {page n : Nat} {b : Bool} (h : KeepsTiming s0 s) (hp : page < 64 := by decide) : KeepsTiming s0 (s.cond page n b) :=
  h.quiet (Quiet.refl.cond hp)

theorem KeepsTiming.post {code p0 p1 p2 : Nat} (h : KeepsTiming s0 s) : KeepsTiming s0 (s.post code p0 p1 p2) := h.quiet Quiet.refl.post

theorem KeepsTiming.drive {src : Nat} {b : Bool} (h : KeepsTiming s0 s) (hsrc : src < 512 := by decide) : KeepsTiming s0 (s.drive src b) :=
  h.quiet (Quiet.refl.drive hsrc)

/-! Contexts, paths and their delays. -/

theorem KeepsTiming.setCtxRt {c r} (h : KeepsTiming s0 s) : KeepsTiming s0 (s.setCtxRt c r) := h.update

theorem KeepsTiming.raiseMute {c cause} (h : KeepsTiming s0 s) : KeepsTiming s0 (s.raiseMute c cause) := h.setCtxRt

theorem KeepsTiming.clearMute {c cause} (h : KeepsTiming s0 s) : KeepsTiming s0 (s.clearMute c cause) := h.setCtxRt

theorem KeepsTiming.cset {f c v} (h : KeepsTiming s0 s) : KeepsTiming s0 (s.cset f c v) := h.update

theorem KeepsTiming.setPathRt {p r} (h : KeepsTiming s0 s) : KeepsTiming s0 (s.setPathRt p r) := h.update

theorem KeepsTiming.setPathGrid {p r} (h : KeepsTiming s0 s) : KeepsTiming s0 (s.setPathGrid p r) := h.update

theorem KeepsTiming.applyWindows {p} (h : KeepsTiming s0 s) : KeepsTiming s0 (s.applyWindows p) := h.foldl fun _ _ ht => ht.update

theorem KeepsTiming.refreshPath {p} (h : KeepsTiming s0 s) (hp : p < 32) : KeepsTiming s0 (s.refreshPath p) := (h.fsetAt hp).fsetAt hp

theorem KeepsTiming.windowsInForce {p} (h : KeepsTiming s0 s) (hp : p < 32) : KeepsTiming s0 (s.windowsInForce p) := h.applyWindows.refreshPath hp

theorem KeepsTiming.delayTarget {p n} (h : KeepsTiming s0 s) (hp : p < 32) : KeepsTiming s0 (s.delayTarget p n) :=
  .ite (h.setPathRt.fsetAt hp) (.ite h.setPathRt (.ite (.ite h.setPathRt h.setPathRt) (h.setPathRt.fsetAt hp)))

theorem KeepsTiming.setDelayNs {p ns} (h : KeepsTiming s0 s) (hp : p < 32) : KeepsTiming s0 (s.setDelayNs p ns) :=
  ((h.fsetAt hp).fsetAt hp).delayTarget hp

theorem KeepsTiming.delayAtBoundary {p quiet} (h : KeepsTiming s0 s) (hp : p < 32) : KeepsTiming s0 (s.delayAtBoundary p quiet) := by
  unfold State.delayAtBoundary
  dsimp only
  split
  · exact h.setPathRt
  · split
    · exact .ite (h.setPathRt.fsetAt hp).pulse h
    · exact h

theorem KeepsTiming.drainPath {p} (h : KeepsTiming s0 s) (hp : p < 32) : KeepsTiming s0 (s.drainPath p) :=
  ((h.fsetAt hp).fsetAt hp).foldl fun _ _ ht => .ite ht.setCtxRt ht

theorem KeepsTiming.setEnable {p en} (h : KeepsTiming s0 s) (hp : p < 32) : KeepsTiming s0 (s.setEnable p en) :=
  have henable {v} : KeepsTiming s0 (s.fset CHN_PATH_CFG.ENABLE p v) := h.fsetAt hp
  .ite (.ite henable.setPathRt (.ite henable.setPathRt henable.setPathRt.pulse)) (.ite (.ite h (h.drainPath hp)) henable.setPathRt)

theorem KeepsTiming.refreshLag {p offset} (h : KeepsTiming s0 s) (hp : p < 32) : KeepsTiming s0 (s.refreshLag p offset) := h.setPathGrid.fsetAt hp

theorem KeepsTiming.offsetAtBoundary {p} (h : KeepsTiming s0 s) (hp : p < 32) : KeepsTiming s0 (s.offsetAtBoundary p) := .ite h (h.refreshLag hp)

theorem KeepsTiming.resetHolds {c} (h : KeepsTiming s0 s) : KeepsTiming s0 (s.resetHolds c) := .ite h h.update

/-! Fronthaul alignment. -/

theorem KeepsTiming.alignRefresh (h : KeepsTiming s0 s) : KeepsTiming s0 s.alignRefresh :=
  have hshown : KeepsTiming s0 (s.setAlign _) := h.update
  have hcond := hshown.fset.fset.fset.fset.fset.cond
  have hpulse := KeepsTiming.ite hcond.pulse hcond
  .ite hpulse.pulse hpulse

theorem KeepsTiming.alignPath {p} (h : KeepsTiming s0 s) (hp : p < 32) : KeepsTiming s0 (s.alignPath p) :=
  .ite h (.ite (h.setDelayNs hp) (h.setDelayNs hp))

theorem KeepsTiming.alignServo {p} (h : KeepsTiming s0 s) (hp : p < 32) : KeepsTiming s0 (s.alignServo p) :=
  .ite (.ite (h.alignRefresh.alignPath hp) h.alignRefresh) h

/-! Front-end ports. -/

theorem KeepsTiming.setFelPort {n r} (h : KeepsTiming s0 s) : KeepsTiming s0 (s.setFelPort n r) :=
  have hport : KeepsTiming s0 { s with fel := { s.fel with ports := _ } } := h.update
  hport.fset.fset

theorem KeepsTiming.setPins {n trx pa safe} (h : KeepsTiming s0 s) (hn : n < 32) : KeepsTiming s0 (s.setPins n trx pa safe) :=
  have hpins {a b c d} : KeepsTiming s0 ((((s.fsetB FEL_PIN.TRX n a).fsetB FEL_PIN.PA n b).fsetB FEL_PIN.LNA n c).fsetB FTM_PSTAT.TX n d) :=
    h.fset.fset.fset.fsetAt hn
  .ite hpins hpins.setFelPort

theorem KeepsTiming.trxEdge {n trx} (h : KeepsTiming s0 s) : KeepsTiming s0 (s.trxEdge n trx) :=
  .ite h (.ite h.setFelPort.fset h.setFelPort.fset)

theorem KeepsTiming.askPins {n trx pa} (h : KeepsTiming s0 s) (hn : n < 32) : KeepsTiming s0 (s.askPins n trx pa) :=
  .ite (h.setPins hn) (h.setPins hn).trxEdge

theorem KeepsTiming.noteSimplex {n} (h : KeepsTiming s0 s) : KeepsTiming s0 (s.noteSimplex n) := .ite h h.setFelPort.pulse

theorem KeepsTiming.fddPins {n} (h : KeepsTiming s0 s) (hn : n < 32) : KeepsTiming s0 (s.fddPins n) := .ite h (h.noteSimplex.askPins hn)

/-- The streams that a path writes are transmit streams. -/
theorem State.mem_writesOf {p n : Nat} (h : n ∈ s.writesOf p) : n - 32 < 32 := by
  unfold State.writesOf at h
  split at h
  · have hdonor := s.fget_lt CHN_PATH_CFG.DONOR p
    have hsize : fieldSize CHN_PATH_CFG.DONOR.hi CHN_PATH_CFG.DONOR.lo = 32 := rfl
    simp only [List.mem_singleton] at h
    omega
  · simp only [List.mem_map, List.mem_filter, List.mem_range] at h
    obtain ⟨k, ⟨hk, -⟩, rfl⟩ := h
    omega

theorem KeepsTiming.pathPins {p} (h : KeepsTiming s0 s) : KeepsTiming s0 (s.pathPins p) :=
  h.foldlMem fun _ _ hmem ht => ht.fddPins (State.mem_writesOf hmem)

theorem KeepsTiming.turnOn {p} (h : KeepsTiming s0 s) (hp : p < 32) : KeepsTiming s0 (s.turnOn p) :=
  have hon : KeepsTiming s0 (((s.fset CHN_PATH_STAT.STATE p pathON).setPathRt p _).setPathGrid p _) := (h.fsetAt hp).setPathRt.setPathGrid
  (hon.foldl fun _ _ ht => ht.resetHolds).pathPins

theorem KeepsTiming.turnOnAt {p} (h : KeepsTiming s0 s) (hp : p < 32) : KeepsTiming s0 (s.turnOnAt p) :=
  .ite (.ite (h.turnOn hp) (h.setEnable hp)) h

theorem KeepsTiming.pathBoundary {p} (h : KeepsTiming s0 s) (hp : p < 32) : KeepsTiming s0 (s.pathBoundary p) :=
  ((((KeepsTiming.ite h (h.windowsInForce hp)).offsetAtBoundary hp).alignServo hp).delayAtBoundary hp).turnOnAt hp

/-! Chains of the ports, and Foxglove. -/

theorem KeepsTiming.safePins {n} (h : KeepsTiming s0 s) (hn : n < 32) : KeepsTiming s0 (s.safePins n) := h.setPins hn

theorem KeepsTiming.felPlain {n q} (h : KeepsTiming s0 s) : KeepsTiming s0 (s.felPlain n q) := h.setFelPort

theorem KeepsTiming.sendLo {n} (h : KeepsTiming s0 s) : KeepsTiming s0 (s.sendLo n) := h.felPlain.felPlain.setFelPort

theorem KeepsTiming.startCal {n k} (h : KeepsTiming s0 s) : KeepsTiming s0 (s.startCal n k) := h.setFelPort.fset

theorem KeepsTiming.commandChain {n goal} (h : KeepsTiming s0 s) (hn : n < 32) : KeepsTiming s0 (s.commandChain n goal) :=
  have hbusy : KeepsTiming s0 ((s.setFelPort n _).fset FEL_CHAIN.BUSY n 1) := h.setFelPort.fset
  have hsafe := KeepsTiming.ite (hbusy.safePins hn) hbusy
  .ite hsafe.sendLo hsafe

theorem KeepsTiming.driveChain {n} (h : KeepsTiming s0 s) (hn : n < 32) : KeepsTiming s0 (s.driveChain n) := by
  unfold State.driveChain
  dsimp only
  refine .ite h ?_
  split
  · exact .ite h (h.commandChain hn)
  · split
    · exact .ite h.setFelPort.startCal h
    · exact h

theorem KeepsTiming.abortCal {n} (h : KeepsTiming s0 s) : KeepsTiming s0 (s.abortCal n) := .ite h.setFelPort.fset.fset.pulse h

theorem KeepsTiming.abandon {n} (h : KeepsTiming s0 s) : KeepsTiming s0 (s.abandon n) := h.setFelPort.fset

theorem KeepsTiming.holdPort {n} (h : KeepsTiming s0 s) (hn : n < 32) : KeepsTiming s0 (s.holdPort n) :=
  have ht := (h.safePins hn).abortCal
  KeepsTiming.driveChain (by split; exacts [.ite ht.abandon ht, ht]) hn

theorem KeepsTiming.foxHoldPort {n} (h : KeepsTiming s0 s) (hn : n < 32) : KeepsTiming s0 (s.foxHoldPort n) := h.fset.holdPort hn

theorem KeepsTiming.setFoxRt {k r} (h : KeepsTiming s0 s) : KeepsTiming s0 (s.setFoxRt k r) := h.update

theorem KeepsTiming.timerStart {tm u count} (h : KeepsTiming s0 s) : KeepsTiming s0 (s.timerStart tm u count) := h.update

theorem KeepsTiming.timerStop {tm u} (h : KeepsTiming s0 s) : KeepsTiming s0 (s.timerStop tm u) := h.update

theorem KeepsTiming.foxRefresh (h : KeepsTiming s0 s) : KeepsTiming s0 s.foxRefresh := h.fset.fset.fset.fset.drive

theorem KeepsTiming.setFox {k st} (h : KeepsTiming s0 s) : KeepsTiming s0 (s.setFox k st) := (KeepsTiming.ite h h.fset.timerStop).fset.foxRefresh

theorem KeepsTiming.foxLift {k} (h : KeepsTiming s0 s) : KeepsTiming s0 (s.foxLift k) := h.foldl fun _ _ ht => .ite ht ht.clearMute

theorem KeepsTiming.foxLiftPaths {k mask} (h : KeepsTiming s0 s) : KeepsTiming s0 (s.foxLiftPaths k mask) := h.setFoxRt.foxRefresh.foxLift

theorem KeepsTiming.foxBoundary {g} (h : KeepsTiming s0 s) : KeepsTiming s0 (s.foxBoundary g) := h.foldl fun _ _ ht => .ite ht.foxLiftPaths ht

theorem KeepsTiming.foxWiden {k x} (h : KeepsTiming s0 s) : KeepsTiming s0 (s.foxWiden k x) := h.setFoxRt.fset.fset

theorem KeepsTiming.foxPolicy {k code} (h : KeepsTiming s0 s) : KeepsTiming s0 (s.foxPolicy k code) := h.setFoxRt.fset

theorem State.mem_foxPorts {k n : Nat} (h : n ∈ s.foxPorts k) : n < 32 := List.mem_range.mp (List.mem_of_mem_filter h)

theorem KeepsTiming.foxStopPorts {k} (h : KeepsTiming s0 s) : KeepsTiming s0 (s.foxStopPorts k) :=
  h.fset.foldlMem fun _ _ hmem ht => .ite ht (ht.foxHoldPort (State.mem_foxPorts hmem))

theorem KeepsTiming.foxMuteCtxs {cs} (h : KeepsTiming s0 s) : KeepsTiming s0 (s.foxMuteCtxs cs) := h.foldl fun _ _ ht => .ite ht.raiseMute ht

theorem KeepsTiming.foxNote {code cs} (h : KeepsTiming s0 s) : KeepsTiming s0 (s.foxNote code cs) := h.foldl fun _ _ ht => ht.cset.cset

theorem KeepsTiming.foxReport {k} (h : KeepsTiming s0 s) : KeepsTiming s0 (s.foxReport k) := h.foldl fun _ _ ht => ht.update

theorem KeepsTiming.foxStart {k code} (h : KeepsTiming s0 s) : KeepsTiming s0 (s.foxStart k code) :=
  h.fset.fset.fset.setFoxRt.timerStop.timerStart.setFox.foxStopPorts.foxMuteCtxs.foxNote.pulse.post.foxReport

theorem KeepsTiming.foxLatch {k} (h : KeepsTiming s0 s) : KeepsTiming s0 (s.foxLatch k) := .ite h h.setFox.pulse.post

theorem KeepsTiming.foxMerge {k code x} (h : KeepsTiming s0 s) : KeepsTiming s0 (s.foxMerge k code x) :=
  .ite h.foxWiden.foxStart.pulse <|
  have ht := h.foxWiden.setFoxRt.foxRefresh.foxStopPorts.foxMuteCtxs.foxNote
  (KeepsTiming.ite ht ht.timerStop.timerStop.foxLatch).pulse

theorem KeepsTiming.foxTrigger {cause} (h : KeepsTiming s0 s) : KeepsTiming s0 (s.foxTrigger cause) := by
  unfold State.foxTrigger
  dsimp only
  refine .ite h ?_
  split
  · exact h.foxStart
  · split
    · exact h.foxWiden.foxPolicy.foxStart
    · exact h.foxMerge

theorem KeepsTiming.foxRestart {x} (h : KeepsTiming s0 s) : KeepsTiming s0 (s.foxRestart x) := by
  unfold State.foxRestart
  split
  · exact h.update
  · exact h.foldl fun _ _ ht => ht.setCtxRt
  · exact h.update
  · exact h

theorem KeepsTiming.foxCheck {cause} (h : KeepsTiming s0 s) : KeepsTiming s0 (s.foxCheck cause) := .ite h.foxTrigger.foxRestart h

/-! Listener patterns. -/

theorem KeepsTiming.setCarrier {k r} (h : KeepsTiming s0 s) : KeepsTiming s0 (s.setCarrier k r) := h.update

theorem KeepsTiming.patternsAtBoundary (h : KeepsTiming s0 s) : KeepsTiming s0 s.patternsAtBoundary :=
  h.foldl fun _ _ ht => by split; exacts [ht, .ite ht.setCarrier.fset.fset.pulse ht]

/-! The safe state. -/

theorem KeepsTiming.overridePort {n} (h : KeepsTiming s0 s) (hn : n < 32) : KeepsTiming s0 (s.overridePort n) :=
  .ite (h.setPins hn).trxEdge (h.setPins hn)

theorem KeepsTiming.overridePair {k} (h : KeepsTiming s0 s) (hk : k < 32) : KeepsTiming s0 (s.overridePair k) :=
  .ite ((h.fsetAt hk).fsetAt hk).update h

theorem KeepsTiming.muteAndPads (h : KeepsTiming s0 s) : KeepsTiming s0 s.muteAndPads :=
  have hmuted : KeepsTiming s0 { s with flt := _ } := h.update
  (hmuted.foldlMem fun _ _ hmem ht => ht.overridePort (List.mem_range.mp (List.mem_of_mem_filter hmem))).foldlMem
    fun _ _ hmem ht => ht.overridePair ((List.mem_range.mp hmem).trans (by decide))

theorem KeepsTiming.safeEntry {cause src} (h : KeepsTiming s0 s) : KeepsTiming s0 (s.safeEntry cause src) := h.muteAndPads.fset.fset.fset.fset.fset

end Sys2Proof.Machine
end

section
/-!
Rules of the timing groups: for each operation of chapter 8's groups, which fields it sets and what it leaves of the others.
-/
namespace Sys2Proof.Machine

-- One proof after the other: a default argument by a tactic waits until the kernel has checked all that stands before it.
set_option Elab.async false

variable {s s0 t : State} {g : Nat}

/-! Fields of the clock and group registers. -/

/-- A field of the clock registers or of a group's registers. -/
def Fld.timing (f : Fld) : Bool := decide (f.stride % Fld.unitStep = 0) && timingAddr (f.base % Fld.unitStep)

theorem Fld.timingAddr_key {f : Fld} (hf : f.timing = true) (u : Nat) : timingAddr (f.key u % Fld.unitStep) = true := by
  rw [Fld.timing, Bool.and_eq_true, decide_eq_true_eq] at hf
  rw [Fld.key_mod hf.1]
  exact hf.2

theorem KeepsTiming.fget (h : KeepsTiming s0 t) {f : Fld} (hf : f.timing = true) (u : Nat) : t.fget f u = s0.fget f u :=
  State.fget_congr (h.word _ (Fld.timingAddr_key hf u))

theorem KeepsTiming.fon (h : KeepsTiming s0 t) {f : Fld} (hf : f.timing = true) (u : Nat) : t.fon f u = s0.fon f u := by
  rw [State.fon, h.fget hf, State.fon]

theorem KeepsTiming.groupRt (h : KeepsTiming s0 t) (g : Nat) : t.groupRt g = s0.groupRt g := by
  rw [State.groupRt, h.groups, State.groupRt]

/-! Behind the registers. -/

theorem State.groupRt_setGroupRt (s : State) (g : Nat) (r : GroupRt) : (s.setGroupRt g r).groupRt g = r := by
  rw [State.groupRt, State.setGroupRt, Tbl.get_set_same]

theorem State.groupRt_fset (s : State) (f : Fld) (u v k : Nat) : (s.fset f u v).groupRt k = s.groupRt k := (rfl)

theorem State.groupRt_timerStop (s : State) (tm u k : Nat) : (s.timerStop tm u).groupRt k = s.groupRt k := (rfl)

theorem State.fget_timerStop (s : State) (tm u : Nat) (f : Fld) (k : Nat) : (s.timerStop tm u).fget f k = s.fget f k := (rfl)

theorem State.fget_setGroupRt (s : State) (g : Nat) (r : GroupRt) (f : Fld) (k : Nat) : (s.setGroupRt g r).fget f k = s.fget f k := (rfl)

theorem State.timerOn_timerStop (s : State) (tm u : Nat) : (s.timerStop tm u).timerOn tm u = false := by
  rw [State.timerOn, State.timerStop, Tbl.get_set_same]
  rfl

/-- The return timers of the groups follow their sources, and nothing else does. -/
theorem State.notePri_eq (s : State) : ∃ timers, s.notePri = { s with timers := timers } := by
  unfold State.notePri
  generalize List.range 8 = groups
  induction groups generalizing s with
  | nil => exact ⟨s.timers, rfl⟩
  | cons k rest ih =>
    obtain ⟨timers, hk⟩ : ∃ timers, (if decide (s.groupState k ≠ tgNONE) && (s.groupRt k).useSec && s.priValid k then
        if s.timerOn tmPriReturn k then s else s.timerStart tmPriReturn k s.ms else s.timerStop tmPriReturn k) = { s with timers := timers } := by
      split
      · split
        · exact ⟨s.timers, rfl⟩
        · exact ⟨_, rfl⟩
      · exact ⟨_, rfl⟩
    obtain ⟨timers', hrest⟩ := ih { s with timers := timers }
    exact ⟨timers', by rw [List.foldl_cons, hk, hrest]⟩

theorem KeepsTiming.notePri : KeepsTiming s s.notePri := by
  obtain ⟨timers, heq⟩ := s.notePri_eq
  rw [heq]
  exact KeepsTiming.refl.update

/-- A shift of a group's ordinals reaches the grid only (R183). -/
theorem KeepsTiming.shiftArmed {delta : Int} (h : KeepsTiming s0 s) : KeepsTiming s0 (s.shiftArmed g delta) :=
  .ite h (h.foldl fun _ _ ht => .ite ht.update ht)

/-! The registers that show a group (R225). -/

/-- The fields by which a group's boundaries are shown. -/
def groupShown : List Fld :=
  [FTM_GB_LO.DT, FTM_GB_HI.DT, FTM_GN_LO.DT, FTM_GN_HI.DT, FTM_GORD.ORDINAL, FTM_GPER.PERIOD_PPB, FTM_GSTAT.SFN_VALID, FTM_GSTAT.SFN]

/-- A field has no bit in common with any of a list. -/
def Fld.apartAll (f : Fld) (l : List Fld) : Bool := l.all f.apart

/-- Showing a group writes registers only. -/
theorem R.showGroup {T : Nat} (hT : Sub 0x2 T) (h : R T s0 s) : R T s0 (s.showGroup g) :=
  have hs := ((((((h.fset' hT).fset' hT).fset' hT).fset' hT).fset' hT).fsetI' hT).fsetB' hT
  .ite hs (hs.fset' hT)

theorem State.fget_showGroup {f : Fld} (hf : f.apartAll groupShown = true) (u : Nat) : (s.showGroup g).fget f u = s.fget f u := by
  simp only [Fld.apartAll, groupShown, List.all_cons, List.all_nil, Bool.and_true, Bool.and_eq_true] at hf
  obtain ⟨hblo, hbhi, hnlo, hnhi, hord, hper, hvalid, hsfn⟩ := hf
  unfold State.showGroup State.fsetI State.fsetB
  simp only [apply_ite (State.fget · f u), ite_self, State.fget_fset_apart hblo, State.fget_fset_apart hbhi, State.fget_fset_apart hnlo, State.fget_fset_apart hnhi,
    State.fget_fset_apart hord, State.fget_fset_apart hper, State.fget_fset_apart hvalid, State.fget_fset_apart hsfn]

theorem State.fon_showGroup {f : Fld} (hf : f.apartAll groupShown = true) (u : Nat) : (s.showGroup g).fon f u = s.fon f u := by
  rw [State.fon, State.fget_showGroup hf, State.fon]

theorem State.hasClock_fset {f : Fld} (hf : FTM_GSTAT.STATE.apart f = true) (u v g : Nat) : (s.fset f u v).hasClock g = s.hasClock g := by
  rw [State.hasClock, State.groupState, State.fget_fset_apart hf, State.hasClock, State.groupState]

/-- A group with a frame clock shows the ordinal and the SFN that its registers hold. -/
theorem State.showGroup_clocked (h : s.hasClock g = true) :
    (s.showGroup g).fget FTM_GORD.ORDINAL g = s.fget FTM_GORD.ORDINAL g ∧ (s.showGroup g).fget FTM_GSTAT.SFN g = s.fget FTM_GSTAT.SFN g := by
  have hord : s.fget FTM_GORD.ORDINAL g % fieldSize FTM_GORD.ORDINAL.hi FTM_GORD.ORDINAL.lo = s.fget FTM_GORD.ORDINAL g :=
    Nat.mod_eq_of_lt (s.fget_lt _ _)
  unfold State.showGroup State.fsetI State.fsetB State.groupOrd
  dsimp only
  constructor <;> simp (disch := decide) only [State.hasClock_fset, h, if_true, State.fget_fset_apart, State.fget_fset_same, hord]

/-! States of a group (R202). -/

/-- Beside the state itself, an entry into a state only reports. -/
theorem Quiet.setGroup (s : State) (g st : Nat) : Quiet (s.fset FTM_GSTAT.STATE g st) (s.setGroup g st) :=
  have hreports : Quiet (s.fset FTM_GSTAT.STATE g st) _ :=
    .ite .refl (.ite (Quiet.refl.pulse (page := pgFTM) (n := 0)) (.ite (Quiet.refl.pulse (page := pgFTM) (n := 1))
      (.ite (Quiet.refl.pulse (page := pgFTM) (n := 2)).post .refl)))
  hreports.drive

theorem State.fget_setGroup {f : Fld} (hf : f.timing = true) (hstate : f.apart FTM_GSTAT.STATE = true) (st u : Nat) :
    (s.setGroup g st).fget f u = s.fget f u :=
  ((KeepsTiming.refl.quiet (Quiet.setGroup s g st)).fget hf u).trans (State.fget_fset_apart hstate ..)

theorem State.groupState_setGroup {st : Nat} (hst : st < 8) : (s.setGroup g st).groupState g = st :=
  ((KeepsTiming.refl.quiet (Quiet.setGroup s g st)).fget (by decide) g).trans ((State.fget_fset_same (by decide) ..).trans (Nat.mod_eq_of_lt hst))

theorem State.groupRt_setGroup (s : State) (g st k : Nat) : (s.setGroup g st).groupRt k = s.groupRt k :=
  ((KeepsTiming.refl.quiet (Quiet.setGroup s g st)).groupRt k).trans (State.groupRt_fset ..)

/-! Sources (R204, R208, R209). -/

/-- A valid source has one of the three codes. -/
theorem State.code_of_sourceValid {src : Nat × Nat} (h : s.sourceValid src = true) : src.1 < 8 := by
  unfold State.sourceValid at h
  split at h
  · omega
  · split at h
    · omega
    · split at h
      · omega
      · exact absurd h (by decide)

/-- A group that takes a source has it in use and shows it; another source than before also ends the return timer. -/
theorem State.takeSource_spec (s : State) (g : Nat) (sec : Bool) :
    ((s.takeSource g sec).groupRt g).useSec = sec ∧ (s.takeSource g sec).fget FTM_GSTAT.SRC g = (s.groupSource g sec).1 % 8 ∧
      (s.takeSource g sec).groupState g = s.groupState g ∧ ((s.groupRt g).useSec ≠ sec → (s.takeSource g sec).timerOn tmPriReturn g = false) := by
  unfold State.takeSource
  generalize hu : (s.setGroupRt g { s.groupRt g with useSec := sec }).fset FTM_GSTAT.SRC g (s.groupSource g sec).1 = u
  have hrt : (u.groupRt g).useSec = sec := by rw [← hu, State.groupRt_fset, State.groupRt_setGroupRt]
  have hshown : u.fget FTM_GSTAT.SRC g = (s.groupSource g sec).1 % 8 := by
    rw [← hu, State.fget_fset_same (by decide)]
    rfl
  have hstate : u.groupState g = s.groupState g := by
    rw [← hu, State.groupState, State.fget_fset_apart (by decide), State.fget_setGroupRt, State.groupState]
  dsimp only
  split
  · next hsame => exact ⟨hrt, hshown, hstate, fun hne => absurd hsame hne⟩
  · have hq : Quiet (u.timerStop tmPriReturn g) ((u.timerStop tmPriReturn g).pulse pgFTM 5) := Quiet.refl.pulse
    have hk := KeepsTiming.refl.quiet hq
    refine ⟨?_, ?_, ?_, fun _ => ?_⟩
    · rw [hk.groupRt, State.groupRt_timerStop, hrt]
    · rw [hk.fget (by decide), State.fget_timerStop, hshown]
    · rw [State.groupState, hk.fget (by decide), State.fget_timerStop, ← State.groupState, hstate]
    · rw [State.timerOn, hq.timers, ← State.timerOn, State.timerOn_timerStop]

end Sys2Proof.Machine
end

section
/-!
Observations (R204 to R206): what the discipline of a group by an observation sets, and what it leaves alone.
-/
namespace Sys2Proof.Machine

-- One proof after the other: a default argument by a tactic waits until the kernel has checked all that stands before it.
set_option Elab.async false

variable {s s0 t : State} {g : Nat}

/-- A signed field reads as the value that was written, where that is in the field's range. -/
theorem State.fgetI_fsetI {f : Fld} (hf : f.inWord = true) {v : Int} (hlo : -(fieldSize f.hi f.lo : Int) ≤ 2 * v) (hhi : 2 * v < fieldSize f.hi f.lo)
    (u : Nat) : (s.fsetI f u v).fgetI f u = v := by
  have hsize := fieldSize_pos f.hi f.lo
  rw [State.fgetI, State.fsetI, State.fget_fset_same hf, ofSigned, toSigned]
  generalize fieldSize f.hi f.lo = n at *
  rcases lt_or_ge v 0 with hneg | hpos
  · have hmod : v % (n : Int) = v + n := by
      rw [← Int.add_emod_right, Int.emod_eq_of_lt (by omega) (by omega)]
    rw [hmod, Nat.mod_eq_of_lt (by omega), if_neg (by omega)]
    omega
  · rw [Int.emod_eq_of_lt hpos (by omega), Nat.mod_eq_of_lt (by omega), if_pos (by omega)]
    omega

/-- An error as its field shows it is within ±32,767 ns. -/
theorem errField_range (e : Int) : -32767 ≤ errField e ∧ errField e ≤ 32767 := by
  unfold errField clampI
  split
  · omega
  · split <;> omega

/-- The error of an observation is shown as it is, in either of its fields. -/
theorem State.fgetI_errField {f : Fld} (hf : f.inWord = true) (hsize : fieldSize f.hi f.lo = 65536) (e : Int) (u : Nat) :
    (s.fsetI f u (errField e)).fgetI f u = errField e := by
  have hrange := errField_range e
  exact State.fgetI_fsetI hf (by omega) (by omega) u

/-! The frame of a group's discipline. -/

/-- The fields that the discipline of a group sets: its state, its counts and what is shown of its boundaries. -/
def disciplineFields : List Fld := [FTM_GSTAT.STATE, FTM_GCNT.REJECTED, FTM_GCNT.ACCEPTED] ++ groupShown

/-- From `s0` to `t` group `g` may have been disciplined: the other fields of the groups, the sources in force and the observations that wait are
those of `s0`. -/
structure Disciplined (g : Nat) (s0 t : State) : Prop where
  fget : ∀ f u, f.timing = true → f.apartAll disciplineFields = true → t.fget f u = s0.fget f u
  pri : (t.groupRt g).pri = (s0.groupRt g).pri
  sec : (t.groupRt g).sec = (s0.groupRt g).sec
  seen : t.ftm.seen = s0.ftm.seen

theorem Disciplined.refl : Disciplined g s s := ⟨fun _ _ _ _ => rfl, rfl, rfl, rfl⟩

theorem Disciplined.ite {c : Prop} [Decidable c] {a b : State} (ha : Disciplined g s0 a) (hb : Disciplined g s0 b) :
    Disciplined g s0 (if c then a else b) := by
  split
  · exact ha
  · exact hb

theorem Disciplined.quiet (h : Disciplined g s0 s) (hq : Quiet s t) : Disciplined g s0 t where
  fget f u hf ha := ((KeepsTiming.refl.quiet hq).fget hf u).trans (h.fget f u hf ha)
  pri := by rw [(KeepsTiming.refl.quiet hq).groupRt, h.pri]
  sec := by rw [(KeepsTiming.refl.quiet hq).groupRt, h.sec]
  seen := by rw [hq.ftm, h.seen]

theorem Disciplined.fset {f : Fld} {u v : Nat} (h : Disciplined g s0 s) (hf : f ∈ disciplineFields := by decide) : Disciplined g s0 (s.fset f u v) where
  fget f' u' ht ha := (State.fget_fset_apart (List.all_eq_true.mp ha f hf) ..).trans (h.fget f' u' ht ha)
  pri := h.pri
  sec := h.sec
  seen := h.seen

theorem Disciplined.setGroupRt {r : GroupRt} (h : Disciplined g s0 s) (hpri : r.pri = (s.groupRt g).pri := by rfl)
    (hsec : r.sec = (s.groupRt g).sec := by rfl) :
    Disciplined g s0 (s.setGroupRt g r) where
  fget := h.fget
  pri := by rw [State.groupRt_setGroupRt, hpri, h.pri]
  sec := by rw [State.groupRt_setGroupRt, hsec, h.sec]
  seen := h.seen

theorem Disciplined.timerStart {tm u count : Nat} (h : Disciplined g s0 s) : Disciplined g s0 (s.timerStart tm u count) := ⟨h.fget, h.pri, h.sec, h.seen⟩

theorem Disciplined.showGroup (h : Disciplined g s0 s) : Disciplined g s0 (s.showGroup g) := by
  have hftm : (s.showGroup g).ftm = s.ftm := (R.refl.showGroup (T := 0x2) rfl).part .ftm rfl
  have hrt : (s.showGroup g).groupRt g = s.groupRt g := by rw [State.groupRt, hftm, State.groupRt]
  refine ⟨fun f u ht ha => ?_, by rw [hrt, h.pri], by rw [hrt, h.sec], by rw [hftm, h.seen]⟩
  rw [Fld.apartAll, disciplineFields, List.all_append, Bool.and_eq_true] at ha
  exact (State.fget_showGroup ha.2 u).trans (h.fget f u ht (by rw [Fld.apartAll, disciplineFields, List.all_append, Bool.and_eq_true]; exact ha))

theorem Disciplined.setGroup {st : Nat} (h : Disciplined g s0 s) : Disciplined g s0 (s.setGroup g st) := h.fset.quiet (Quiet.setGroup s g st)

theorem Disciplined.placeStep {o : Obs} (h : Disciplined g s0 s) : Disciplined g s0 (s.placeStep g o) := h.setGroupRt.showGroup

theorem Disciplined.decideStep {o : Obs} (h : Disciplined g s0 s) : Disciplined g s0 (s.decideStep g o) :=
  have hposted := h.quiet Quiet.refl.pulse.post
  .ite hposted.setGroupRt hposted.placeStep

theorem Disciplined.rejectObs {o : Obs} (h : Disciplined g s0 s) : Disciplined g s0 (s.rejectObs g o) :=
  have hcounted : Disciplined g s0 ((s.setGroupRt g { s.groupRt g with cand := (o :: (s.groupRt g).cand).take 7 }).fbump FTM_GCNT.REJECTED g) :=
    h.setGroupRt.fset
  have hpulsed := hcounted.quiet (Quiet.refl.pulse (page := pgFTM) (n := 4))
  .ite hpulsed.decideStep hpulsed

theorem Disciplined.applyCorr (h : Disciplined g s0 s) : Disciplined g s0 (s.applyCorr g) := .ite h.showGroup h.setGroupRt.showGroup

theorem Disciplined.acceptObs {e : Int} (h : Disciplined g s0 s) : Disciplined g s0 (s.acceptObs g e) := by
  unfold State.acceptObs
  dsimp only
  refine Disciplined.applyCorr (Disciplined.timerStart (Disciplined.timerStart (Disciplined.setGroup (Disciplined.fset (.ite ?_ ?_)))))
  · exact h.setGroupRt
  · exact h.setGroupRt.quiet (Quiet.refl.saturate (page := pgFTM))

/-- An observation from the source in use shows its error, and from there disciplines the group. -/
theorem Disciplined.observe (s : State) (g : Nat) (o : Obs) :
    Disciplined g (s.fsetI FTM_GERR.LAST_ERR_NS g (errField (s.obsError g o))) (s.observe g o) :=
  .ite Disciplined.refl.rejectObs Disciplined.refl.acceptObs

/-- The sources that the registers name, which the discipline leaves. -/
theorem Disciplined.sourceCfg (h : Disciplined g s0 t) (k : Nat) (sec : Bool) : t.sourceCfg k sec = s0.sourceCfg k sec := by
  unfold State.sourceCfg
  simp (disch := decide) only [h.fget]

end Sys2Proof.Machine
end

section
/-!
Boundaries and commits of the timing groups (R201, R202, R205, R207).
-/
namespace Sys2Proof.Machine

variable {s : State} {g : Nat}

/-! Moving device time forward. -/

theorem State.le_dt_advanceTo (h : s.timeRuns = true) (x : Nat) : x ≤ (s.advanceTo x).dt := by
  rw [State.advanceTo, if_pos h]
  exact Nat.le_max_right ..

theorem State.fget_advanceTo (s : State) (x : Nat) (f : Fld) (u : Nat) : (s.advanceTo x).fget f u = s.fget f u := by
  unfold State.advanceTo
  split <;> rfl

theorem State.dt_fset (s : State) (f : Fld) (u v : Nat) : (s.fset f u v).dt = s.dt := (rfl)

/-! A boundary without a frame clock. -/

/-- A boundary that falls without a frame clock is no longer committed. -/
theorem State.passBoundary_unclocked (hclock : s.hasClock g = false) (hrelabel : (s.groupRt g).relabel = none) :
    (s.passBoundary g).fon FTM_GSTAT.NEXT_COMMITTED g = false := by
  have hcleared : ((s.advanceTo (s.nextBoundary g / one16)).fset FTM_GSTAT.NEXT_COMMITTED g 0).fon FTM_GSTAT.NEXT_COMMITTED g = false :=
    State.fon_fset_zero (by decide) g
  have hframe : Disciplined g ((s.advanceTo (s.nextBoundary g / one16)).fset FTM_GSTAT.NEXT_COMMITTED g 0) (s.passBoundary g) := by
    unfold State.passBoundary
    simp only [hclock, hrelabel, Option.isSome_none, Bool.or_self, Bool.false_eq_true, if_false]
    split
    · exact Disciplined.refl.setGroupRt.showGroup.placeStep
    · exact Disciplined.refl.setGroupRt.showGroup
  rw [State.fon, hframe.fget _ _ (by decide) (by decide), ← State.fon, hcleared]

/-! A boundary of a clocked group. -/

/-- What a boundary of a clocked group sets before it shows the group. -/
def State.boundarySet (s : State) (g : Nat) : State :=
  (((((s.advanceTo ((s.groupRt g).bn / one16)).setGroupRt g
      { s.groupRt g with bc := (s.groupRt g).bn, bn := (((s.groupRt g).bn : Int) + (s.groupRt g).per + (s.groupRt g).corr).toNat, corr := 0, relabel := none
                         frames := if s.groupState g = tgACQUIRING then 0 else (s.groupRt g).frames + 1 }).fset
    FTM_GORD.ORDINAL g ((s.groupOrd g + 1) % 2 ^ 32)).fset FTM_GSTAT.SFN g ((s.groupOrd g + 1) % 2 ^ 32 % 1024)).fset FTM_GSTAT.NEXT_COMMITTED g 0)

/-- A boundary of a clocked group without a step shows the group as it is set, its ordinal being the expected one. -/
theorem State.passBoundary_clocked (hclock : s.hasClock g = true) (hrelabel : (s.groupRt g).relabel = none) (hstep : (s.groupRt g).step = none) :
    s.passBoundary g = (s.boundarySet g).showGroup g := by
  have hshift : ∀ t : State, t.shiftArmed g (ordDiff ((s.groupOrd g + 1) % 2 ^ 32) ((s.groupOrd g + 1) % 2 ^ 32)) = t := fun t =>
    if_pos (by simp [ordDiff])
  unfold State.passBoundary
  rw [if_pos (by simp [hclock])]
  unfold State.clockBoundary State.boundarySet
  simp only [hrelabel, hstep, hshift, Option.isSome_none, Bool.false_eq_true, if_false, decide_eq_true_eq]

theorem State.boundarySet_spec (hclock : s.hasClock g = true) :
    (s.boundarySet g).hasClock g = true ∧ (s.boundarySet g).fon FTM_GSTAT.NEXT_COMMITTED g = false ∧
      (s.boundarySet g).fget FTM_GORD.ORDINAL g = (s.fget FTM_GORD.ORDINAL g + 1) % 2 ^ 32 ∧
      (s.boundarySet g).fget FTM_GSTAT.SFN g = (s.fget FTM_GORD.ORDINAL g + 1) % 2 ^ 32 % 1024 ∧
      ((s.boundarySet g).groupRt g).bc = (s.groupRt g).bn := by
  have hord : s.groupOrd g = s.fget FTM_GORD.ORDINAL g := if_pos hclock
  unfold State.boundarySet
  refine ⟨?_, State.fon_fset_zero (by decide) g, ?_, ?_, ?_⟩
  · simp (disch := decide) only [State.hasClock_fset]
    rw [← hclock, State.hasClock, State.groupState, State.fget_setGroupRt, State.fget_advanceTo, State.hasClock, State.groupState]
  · simp (disch := decide) only [State.fget_fset_apart, State.fget_fset_same, hord]
    exact Nat.mod_mod _ _
  · simp (disch := decide) only [State.fget_fset_apart, State.fget_fset_same, hord]
    exact Nat.mod_mod _ _
  · simp only [State.groupRt_fset, State.groupRt_setGroupRt]

/-- What the paths do at a boundary leaves the group as it was passed. -/
theorem KeepsTiming.atBoundary (s : State) (g : Nat) : KeepsTiming (s.passBoundary g) (s.frameBoundary g) :=
  (KeepsTiming.refl.foldlMem fun _ _ hmem ht => ht.pathBoundary
    (List.mem_range.mp (List.mem_of_mem_filter (List.mem_of_mem_filter hmem)))).foxBoundary.patternsAtBoundary

/-- A boundary goes forward, and not before its instant while device time counts. -/
theorem State.frameBoundary_time (s : State) (g : Nat) :
    s.dt ≤ (s.frameBoundary g).dt ∧ (s.timeRuns = true → s.nextBoundary g / one16 ≤ (s.frameBoundary g).dt) := by
  have hwork : Forward (s.advanceTo (s.nextBoundary g / one16)) (s.frameBoundary g) := Forward.passBoundary.trans Forward.atBoundary
  exact ⟨Forward.refl.advanceTo.dt.trans hwork.dt, fun hruns => (State.le_dt_advanceTo hruns _).trans hwork.dt⟩

theorem frameBoundary_unclocked (hclock : s.hasClock g = false) (hrelabel : (s.groupRt g).relabel = none) :
    (s.frameBoundary g).fon FTM_GSTAT.NEXT_COMMITTED g = false :=
  ((KeepsTiming.atBoundary s g).fon (by decide) g).trans (State.passBoundary_unclocked hclock hrelabel)

theorem frameBoundary_clocked (hclock : s.hasClock g = true) (hrelabel : (s.groupRt g).relabel = none) (hstep : (s.groupRt g).step = none) :
    (s.frameBoundary g).fon FTM_GSTAT.NEXT_COMMITTED g = false ∧
      (s.frameBoundary g).fget FTM_GORD.ORDINAL g = (s.fget FTM_GORD.ORDINAL g + 1) % 2 ^ 32 ∧
      (s.frameBoundary g).fget FTM_GSTAT.SFN g = (s.fget FTM_GORD.ORDINAL g + 1) % 2 ^ 32 % 1024 ∧
      ((s.frameBoundary g).groupRt g).bc = (s.groupRt g).bn := by
  have hpaths := KeepsTiming.atBoundary s g
  obtain ⟨hclock', hnext, hord, hsfn, hbc⟩ := State.boundarySet_spec hclock
  obtain ⟨hshownOrd, hshownSfn⟩ := State.showGroup_clocked hclock'
  have hftm : ((s.boundarySet g).showGroup g).ftm = (s.boundarySet g).ftm := (R.refl.showGroup (T := 0x2) rfl).part .ftm rfl
  rw [hpaths.fon (by decide), hpaths.fget (by decide), hpaths.fget (by decide), hpaths.groupRt, State.passBoundary_clocked hclock hrelabel hstep,
    State.fon_showGroup (by decide), hshownOrd, hshownSfn, State.groupRt, hftm, ← State.groupRt]
  exact ⟨hnext, hord, hsfn, hbc⟩

/-- A commit of a boundary brings device time to its lead (R207). -/
theorem boundaryCommit_spec (s : State) (g : Nat) :
    ((s.advanceTo (s.nextBoundary g / one16 - commitLead)).fset FTM_GSTAT.NEXT_COMMITTED g 1).fon FTM_GSTAT.NEXT_COMMITTED g = true ∧
      s.dt ≤ ((s.advanceTo (s.nextBoundary g / one16 - commitLead)).fset FTM_GSTAT.NEXT_COMMITTED g 1).dt ∧
      (s.timeRuns = true →
        s.nextBoundary g / one16 - commitLead ≤ ((s.advanceTo (s.nextBoundary g / one16 - commitLead)).fset FTM_GSTAT.NEXT_COMMITTED g 1).dt) := by
  rw [State.dt_fset]
  exact ⟨State.fon_fset_one (by decide) (by decide) g, Forward.refl.advanceTo.dt, fun hruns => State.le_dt_advanceTo hruns _⟩

end Sys2Proof.Machine
end

section
/-!
Enabling and disabling a timing group (R202, R203), and the sources in force (R203, R208, R209).
-/
namespace Sys2Proof.Machine

variable {s t : State} {g : Nat} {who : Init}

/-! The fields of a group after its operations. -/

theorem State.fget_notePri {f : Fld} (hf : f.timing = true) (u : Nat) : s.notePri.fget f u = s.fget f u := KeepsTiming.notePri.fget hf u

theorem State.groupRt_notePri (s : State) (g : Nat) : s.notePri.groupRt g = s.groupRt g := KeepsTiming.notePri.groupRt g

theorem State.fget_shiftArmed {f : Fld} (hf : f.timing = true) (delta : Int) (u : Nat) : (s.shiftArmed g delta).fget f u = s.fget f u :=
  (KeepsTiming.refl.shiftArmed (g := g)).fget hf u

theorem State.fget_inputValid {f : Fld} (hf : f.unreported = true) (k u : Nat) : (s.inputValid pgFTM k).fget f u = s.fget f u :=
  (Quiet.refl.inputValid (page := pgFTM)).fget hf u

/-- A group that leaves NONE acquires, with its counts at 0; its configuration stays (R202). -/
theorem State.groupOn_spec (s : State) (g : Nat) : (s.groupOn g).fon FTM_GCFG.EN g = s.fon FTM_GCFG.EN g ∧ (s.groupOn g).groupState g = tgACQUIRING ∧
    (s.groupOn g).fget FTM_GCNT.ACCEPTED g = 0 ∧ (s.groupOn g).fget FTM_GCNT.REJECTED g = 0 := by
  unfold State.groupOn
  dsimp only
  refine ⟨?_, ?_, ?_, ?_⟩
  · simp (disch := decide) only [State.fon, State.fget_notePri, State.fget_showGroup, State.fget_fset_apart, State.fget_setGroupRt, State.fget_setGroup]
  · have hstate := State.groupState_setGroup (s := ((s.setGroupRt g {}).fset FTM_GCNT.ACCEPTED g 0).fset FTM_GCNT.REJECTED g 0) (g := g)
      (st := tgACQUIRING) (by decide)
    rw [State.groupState] at hstate ⊢
    simp (disch := decide) only [State.fget_notePri, State.fget_showGroup, State.fget_fset_apart, State.fget_setGroupRt, hstate]
  · simp (disch := decide) only [State.fget_notePri, State.fget_showGroup, State.fget_fset_apart, State.fget_setGroupRt, State.fget_setGroup,
      State.fget_fset_same, Nat.zero_mod]
  · simp (disch := decide) only [State.fget_notePri, State.fget_showGroup, State.fget_fset_apart, State.fget_setGroupRt, State.fget_setGroup,
      State.fget_fset_same, Nat.zero_mod]

/-- A group that returns to NONE has no source and no committed boundary; its configuration stays (R203). -/
theorem State.groupOff_spec (s : State) (g : Nat) : (s.groupOff g).fon FTM_GCFG.EN g = s.fon FTM_GCFG.EN g ∧ (s.groupOff g).groupState g = tgNONE ∧
    (s.groupOff g).fget FTM_GSTAT.SRC g = 0 ∧ (s.groupOff g).fon FTM_GSTAT.NEXT_COMMITTED g = false := by
  unfold State.groupOff
  dsimp only
  refine ⟨?_, ?_, ?_, ?_⟩
  · simp (disch := decide) only [State.fon, State.fget_showGroup, State.fget_shiftArmed, State.fget_inputValid, State.fget_fset_apart, State.fget_timerStop,
      State.fget_setGroup, State.fget_setGroupRt]
  · have hstate := State.groupState_setGroup (s := s.setGroupRt g {}) (g := g) (st := tgNONE) (by decide)
    rw [State.groupState] at hstate ⊢
    simp (disch := decide) only [State.fget_showGroup, State.fget_shiftArmed, State.fget_inputValid, State.fget_fset_apart, State.fget_timerStop, hstate]
  · simp (disch := decide) only [State.fget_showGroup, State.fget_shiftArmed, State.fget_inputValid, State.fget_fset_apart, State.fget_timerStop,
      State.fget_fset_same, Nat.zero_mod]
  · simp (disch := decide) only [State.fon, State.fget_showGroup, State.fget_shiftArmed, State.fget_inputValid, State.fget_fset_same, Nat.zero_mod,
      Nat.zero_ne_one, decide_false]

/-! The write of FTM_GCFG. -/

/-- The register FTM_GCFG of the table: bits 31 to 12 are RW. -/
def gcfgReg : RegD := { off := 0x044, step := 4, count := 1, sel := .selected, rw := 0xFFFFF000, w1c := 0, wo := 0, counted := true }

theorem regAt_gcfg : regAt pgFTM 0x044 = some gcfgReg := by decide

/-- A write stores EN as it is written. -/
theorem bitsOf_merge_gcfg (old v : Word) : bitsOf (gcfgReg.merge old v) 31 31 = bitsOf v 31 31 := by
  refine Nat.eq_of_testBit_eq fun j => ?_
  rw [testBit_bitsOf, testBit_bitsOf]
  by_cases hj : j = 0
  · subst hj
    have hlow : Nat.testBit 4095 31 = false := by decide
    have hhigh : Nat.testBit 4294963200 31 = true := by decide
    simp [RegD.merge, gcfgReg, hlow, hhigh]
  · simp [hj]

/-- A write of the RW bits of a register that the table lists is kept where its ranges are. -/
theorem State.mergeReg_eq {page off : Nat} {r : RegD} (hr : regAt page off = some r) (s : State) (key : Nat) (v : Word) :
    s.mergeReg page off key v =
      if rangesOk page off (r.merge (s.word key) v) then .ok (s.setWord key (r.merge (s.word key) v)) else .error .outOfRange := by
  unfold State.mergeReg
  rw [hr]

/-- The state after FTM_GCFG of the selected group took EN. -/
def State.gcfgMerged (s : State) (who : Init) (en : Nat) : State :=
  s.setWord (FTM_GCFG.EN.key (s.fget FTM_GSEL.GRP who.holder))
    (gcfgReg.merge (s.word (FTM_GCFG.EN.key (s.fget FTM_GSEL.GRP who.holder))) (s.gcfgEn who en))

theorem State.bitsOf_gcfgEn (s : State) (who : Init) (en : Nat) : bitsOf (s.gcfgEn who en) 31 31 = en % 2 :=
  bitsOf_putBits_same (by decide) (by decide) _ en

theorem State.fon_gcfgMerged (s : State) (who : Init) (en : Nat) :
    (s.gcfgMerged who en).fon FTM_GCFG.EN (s.fget FTM_GSEL.GRP who.holder) = decide (en % 2 = 1) := by
  rw [State.fon, State.fget, State.gcfgMerged, State.word_setWord_same, ← State.bitsOf_gcfgEn s who, ← bitsOf_merge_gcfg]
  rfl

/-- A write of EN alone, with the other fields in their ranges: the group leaves NONE or returns to it where EN changes. -/
theorem gcfgWrite_gcfgEn {u : State} {en : Nat} (hpri : s.fget FTM_GCFG.PRI (s.fget FTM_GSEL.GRP who.holder) ≤ 3)
    (hsec : s.fget FTM_GCFG.SEC (s.fget FTM_GSEL.GRP who.holder) ≤ 3) (hrelock : 2 ≤ s.fget FTM_GCFG.RELOCK_N (s.fget FTM_GSEL.GRP who.holder))
    (hbusy : s.groupBusy (s.fget FTM_GSEL.GRP who.holder) = false ∨ en % 2 = 1)
    (hmerge : s.mergeReg pgFTM 0x044 (FTM_GCFG.EN.key (s.fget FTM_GSEL.GRP who.holder)) (s.gcfgEn who en) = .ok u) :
    gcfgWrite who (s.gcfgEn who en) s = .ok (
      if decide (en % 2 = 1) && !s.fon FTM_GCFG.EN (s.fget FTM_GSEL.GRP who.holder) then
        (s.gcfgMerged who en).groupOn (s.fget FTM_GSEL.GRP who.holder)
      else if !decide (en % 2 = 1) && s.fon FTM_GCFG.EN (s.fget FTM_GSEL.GRP who.holder) then
        (s.gcfgMerged who en).groupOff (s.fget FTM_GSEL.GRP who.holder)
      else s.gcfgMerged who en) := by
  have hranges : rangesOk pgFTM 0x044 (gcfgReg.merge (s.word (FTM_GCFG.EN.key (s.fget FTM_GSEL.GRP who.holder))) (s.gcfgEn who en)) = true := by
    rw [State.mergeReg_eq regAt_gcfg] at hmerge
    by_contra hno
    rw [if_neg hno] at hmerge
    cases hmerge
  have hfields : ∀ {hi lo}, hi < 31 → bitsOf (s.gcfgEn who en) hi lo = bitsOf (s.word (FTM_GCFG.EN.key (s.fget FTM_GSEL.GRP who.holder))) hi lo :=
    fun hhi => bitsOf_putBits_disjoint (by decide) (by decide) (.inr hhi) _ en
  have hkeep : ¬(3 < bitsOf (s.gcfgEn who en) 30 28 ∨ 3 < bitsOf (s.gcfgEn who en) 27 25 ∨ bitsOf (s.gcfgEn who en) 14 12 < 2) := by
    rw [hfields (by decide), hfields (by decide), hfields (by decide)]
    exact fun h => h.elim (fun h => absurd hpri (Nat.not_le.mpr h)) fun h => h.elim (fun h => absurd hsec (Nat.not_le.mpr h)) fun h =>
      absurd hrelock (Nat.not_le.mpr h)
  have hfree : (s.fon FTM_GCFG.EN (s.fget FTM_GSEL.GRP who.holder) && !decide (en % 2 = 1) && s.groupBusy (s.fget FTM_GSEL.GRP who.holder)) = false := by
    rcases hbusy with h | h <;> simp [h]
  unfold gcfgWrite
  dsimp only
  rw [if_neg hkeep, State.bitsOf_gcfgEn, hfree, if_neg Bool.false_ne_true, State.mergeReg_eq regAt_gcfg, if_pos hranges]
  rfl

end Sys2Proof.Machine
end

section
/-!
Settles O17: the commands of the timing groups.
-/
namespace Sys2Proof.Machine

variable {s t : State} {g : Nat} {who : Init} {secondary : Bool}

/-! Writes of FTM_GCFG.EN (R202, R203). -/

/-- What the write of EN of the selected group makes of a state. -/
def State.gcfgWritten (s : State) (who : Init) (en : Nat) : State :=
  if decide (en % 2 = 1) && !s.fon FTM_GCFG.EN (s.fget FTM_GSEL.GRP who.holder) then
    (s.gcfgMerged who en).groupOn (s.fget FTM_GSEL.GRP who.holder)
  else if !decide (en % 2 = 1) && s.fon FTM_GCFG.EN (s.fget FTM_GSEL.GRP who.holder) then
    (s.gcfgMerged who en).groupOff (s.fget FTM_GSEL.GRP who.holder)
  else s.gcfgMerged who en

theorem State.gcfgEn_of_regs (h : t.regs = s.regs) (who : Init) (en : Nat) : t.gcfgEn who en = s.gcfgEn who en := by
  rw [State.gcfgEn, State.fget_of_regs h, State.word, h, State.gcfgEn, State.word]

theorem State.groupBusy_of_regs (h : t.regs = s.regs) (hmember : t.member = s.member) (g : Nat) : t.groupBusy g = s.groupBusy g := by
  unfold State.groupBusy State.pathState State.paths
  simp only [State.fget_of_regs h, hmember]

theorem State.mergeReg_of_regs {u : State} {page off key : Nat} {r : RegD} {v : Word} (hr : regAt page off = some r) (h : t.regs = s.regs)
    (hs : s.mergeReg page off key v = .ok u) : t.mergeReg page off key v = .ok (t.setWord key (r.merge (t.word key) v)) := by
  have hword : t.word key = s.word key := by rw [State.word, h, State.word]
  rw [State.mergeReg_eq hr] at hs ⊢
  rw [hword]
  split at hs
  · next hranges => exact if_pos hranges
  · cases hs

/-- An admitted write of EN ends with the registers as `gcfgWritten` has them, from the same registers. -/
theorem access_gcfgEn {u : State} {en : Nat} (hadm : Admitted s who pgFTM 0x044) (hpri : s.fget FTM_GCFG.PRI (s.fget FTM_GSEL.GRP who.holder) ≤ 3)
    (hsec : s.fget FTM_GCFG.SEC (s.fget FTM_GSEL.GRP who.holder) ≤ 3) (hrelock : 2 ≤ s.fget FTM_GCFG.RELOCK_N (s.fget FTM_GSEL.GRP who.holder))
    (hbusy : s.groupBusy (s.fget FTM_GSEL.GRP who.holder) = false ∨ en % 2 = 1)
    (hmerge : s.mergeReg pgFTM 0x044 (FTM_GCFG.EN.key (s.fget FTM_GSEL.GRP who.holder)) (s.gcfgEn who en) = .ok u) :
    ∃ s' : State, s'.regs = s.regs ∧ Took (s.access who pgFTM 0x044 (s.gcfgEn who en) (gcfgWrite who (s.gcfgEn who en))) who ∧
      (s.access who pgFTM 0x044 (s.gcfgEn who en) (gcfgWrite who (s.gcfgEn who en))).regs = (s'.gcfgWritten who en).regs := by
  obtain ⟨timers, expert, heq⟩ := s.atRegister_eq who pgFTM
  generalize hs' : (s.portEdge who).disarm who pgFTM = s' at heq
  have hregs : s'.regs = s.regs := by rw [heq]
  have hmember : s'.member = s.member := by rw [heq]
  have hwrite : gcfgWrite who (s.gcfgEn who en) s' = .ok (s'.gcfgWritten who en) := by
    rw [← State.fget_of_regs hregs, ← State.gcfgEn_of_regs hregs] at hmerge
    rw [← State.fget_of_regs hregs, ← State.fget_of_regs hregs] at hpri hsec hrelock
    rw [← State.fget_of_regs hregs, ← State.groupBusy_of_regs hregs hmember] at hbusy
    rw [← State.gcfgEn_of_regs hregs]
    exact gcfgWrite_gcfgEn hpri hsec hrelock hbusy (State.mergeReg_of_regs regAt_gcfg hregs hmerge)
  rw [← hs'] at hwrite
  obtain ⟨htook, hend, -⟩ := State.access_of_admitted hadm (s.gcfgEn who en) hwrite
  rw [hs'] at hend
  exact ⟨s', hregs, htook, hend⟩

/-- A group that was disabled acquires once EN is written 1 (R202). -/
theorem State.gcfgWritten_on (h : s.fon FTM_GCFG.EN (s.fget FTM_GSEL.GRP who.holder) = false) :
    s.gcfgWritten who 1 = (s.gcfgMerged who 1).groupOn (s.fget FTM_GSEL.GRP who.holder) := by
  rw [State.gcfgWritten, h]
  exact if_pos (by decide)

/-- A group that was enabled returns to NONE once EN is written 0 (R203). -/
theorem State.gcfgWritten_off (h : s.fon FTM_GCFG.EN (s.fget FTM_GSEL.GRP who.holder) = true) :
    s.gcfgWritten who 0 = (s.gcfgMerged who 0).groupOff (s.fget FTM_GSEL.GRP who.holder) := by
  rw [State.gcfgWritten, h, if_neg (by decide), if_pos (by decide)]

theorem State.gcfgWritten_on_spec (h : s.fon FTM_GCFG.EN (s.fget FTM_GSEL.GRP who.holder) = false) :
    (s.gcfgWritten who 1).fon FTM_GCFG.EN (s.fget FTM_GSEL.GRP who.holder) = true ∧
      (s.gcfgWritten who 1).groupState (s.fget FTM_GSEL.GRP who.holder) = tgACQUIRING ∧
      (s.gcfgWritten who 1).fget FTM_GCNT.ACCEPTED (s.fget FTM_GSEL.GRP who.holder) = 0 ∧
      (s.gcfgWritten who 1).fget FTM_GCNT.REJECTED (s.fget FTM_GSEL.GRP who.holder) = 0 := by
  rw [State.gcfgWritten_on h]
  obtain ⟨hen, hstate, haccepted, hrejected⟩ := (s.gcfgMerged who 1).groupOn_spec (s.fget FTM_GSEL.GRP who.holder)
  exact ⟨hen.trans (s.fon_gcfgMerged who 1), hstate, haccepted, hrejected⟩

theorem State.gcfgWritten_off_spec (h : s.fon FTM_GCFG.EN (s.fget FTM_GSEL.GRP who.holder) = true) :
    (s.gcfgWritten who 0).fon FTM_GCFG.EN (s.fget FTM_GSEL.GRP who.holder) = false ∧
      (s.gcfgWritten who 0).groupState (s.fget FTM_GSEL.GRP who.holder) = tgNONE ∧
      (s.gcfgWritten who 0).fget FTM_GSTAT.SRC (s.fget FTM_GSEL.GRP who.holder) = 0 ∧
      (s.gcfgWritten who 0).fon FTM_GSTAT.NEXT_COMMITTED (s.fget FTM_GSEL.GRP who.holder) = false := by
  rw [State.gcfgWritten_off h]
  obtain ⟨hen, hstate, hsrc, hnext⟩ := (s.gcfgMerged who 0).groupOff_spec (s.fget FTM_GSEL.GRP who.holder)
  exact ⟨hen.trans (s.fon_gcfgMerged who 0), hstate, hsrc, hnext⟩

/-! Observations (R203 to R206). -/

/-- The state from which an observation disciplines its group: the observation taken and the written sources in force. -/
def State.adopted (s : State) (g : Nat) (sec : Bool) : State := ((s.takeObs g sec).adoptSources g).notePri

theorem State.regs_takeObs (s : State) (g : Nat) (sec : Bool) : (s.takeObs g sec).regs = s.regs := by
  unfold State.takeObs
  dsimp only
  split <;> rfl

theorem State.sourceCfg_of_regs (h : t.regs = s.regs) (g : Nat) (sec : Bool) : t.sourceCfg g sec = s.sourceCfg g sec := by
  unfold State.sourceCfg
  simp only [State.fget_of_regs h]

/-- The sources that the registers name come into force, whatever source is then in use (R203, R209). -/
theorem State.adoptSources_cases (s : State) (g : Nat) : ∃ r : GroupRt, r.pri = s.sourceCfg g false ∧ r.sec = s.sourceCfg g true ∧
    (s.adoptSources g = s.setGroupRt g r ∨
      ∃ v, s.adoptSources g = (((s.setGroupRt g r).fset FTM_GSTAT.SRC g v).timerStop tmPriReturn g).pulse pgFTM 5) :=
  ⟨{ s.groupRt g with
      pri := s.sourceCfg g false, sec := s.sourceCfg g true
      useSec := if (s.groupRt g).pri = s.sourceCfg g false then (s.groupRt g).useSec else !s.sourceValid (s.sourceCfg g false) },
    rfl, rfl, (ite_eq_or_eq _ _ _).imp id fun h => ⟨_, h⟩⟩

theorem State.fget_adoptSources {f : Fld} (hf : f.timing = true) (hsrc : f.apart FTM_GSTAT.SRC = true) (s : State) (g u : Nat) :
    (s.adoptSources g).fget f u = s.fget f u := by
  obtain ⟨r, -, -, heq | ⟨v, heq⟩⟩ := s.adoptSources_cases g
  · rw [heq, State.fget_setGroupRt]
  · rw [heq, (KeepsTiming.refl.pulse (page := pgFTM) (n := 5)).fget hf, State.fget_timerStop, State.fget_fset_apart hsrc, State.fget_setGroupRt]

/-- The sources in force are those that the registers name. -/
theorem State.groupRt_adoptSources (s : State) (g : Nat) : ((s.adoptSources g).groupRt g).pri = s.sourceCfg g false ∧
    ((s.adoptSources g).groupRt g).sec = s.sourceCfg g true := by
  obtain ⟨r, hpri, hsec, heq | ⟨v, heq⟩⟩ := s.adoptSources_cases g
  · rw [heq, State.groupRt_setGroupRt]
    exact ⟨hpri, hsec⟩
  · rw [heq, (KeepsTiming.refl.pulse (page := pgFTM) (n := 5)).groupRt, State.groupRt_timerStop, State.groupRt_fset, State.groupRt_setGroupRt]
    exact ⟨hpri, hsec⟩

theorem State.seen_setGroupRt (s : State) (g : Nat) (r : GroupRt) : (s.setGroupRt g r).ftm.seen = s.ftm.seen := (rfl)

theorem State.ftm_fset (s : State) (f : Fld) (u v : Nat) : (s.fset f u v).ftm = s.ftm := (rfl)

theorem State.ftm_timerStop (s : State) (tm u : Nat) : (s.timerStop tm u).ftm = s.ftm := (rfl)

theorem State.seen_adoptSources (s : State) (g : Nat) : (s.adoptSources g).ftm.seen = s.ftm.seen := by
  obtain ⟨r, -, -, heq | ⟨v, heq⟩⟩ := s.adoptSources_cases g
  · rw [heq, State.seen_setGroupRt]
  · rw [heq, (Quiet.refl.pulse (page := pgFTM) (n := 5)).ftm, State.ftm_timerStop, State.ftm_fset, State.seen_setGroupRt]

theorem State.seen_notePri (s : State) : s.notePri.ftm.seen = s.ftm.seen := by
  obtain ⟨timers, heq⟩ := s.notePri_eq
  rw [heq]

theorem State.fget_adopted {f : Fld} (hf : f.timing = true) (hsrc : f.apart FTM_GSTAT.SRC = true) (s : State) (g : Nat) (sec : Bool) (u : Nat) :
    (s.adopted g sec).fget f u = s.fget f u := by
  rw [State.adopted, State.fget_notePri hf, State.fget_adoptSources hf hsrc, State.fget_of_regs (s.regs_takeObs g sec)]

theorem State.fgetI_adopted {f : Fld} (hf : f.timing = true) (hsrc : f.apart FTM_GSTAT.SRC = true) (s : State) (g : Nat) (sec : Bool) (u : Nat) :
    (s.adopted g sec).fgetI f u = s.fgetI f u := by
  rw [State.fgetI, State.fget_adopted hf hsrc, State.fgetI]

theorem State.sourceCfg_adopted (s : State) (g : Nat) (sec : Bool) (k : Nat) (sec' : Bool) : (s.adopted g sec).sourceCfg k sec' = s.sourceCfg k sec' := by
  unfold State.sourceCfg
  simp (disch := decide) only [State.fget_adopted]

theorem State.groupRt_adopted (s : State) (g : Nat) (sec : Bool) : ((s.adopted g sec).groupRt g).pri = s.sourceCfg g false ∧
    ((s.adopted g sec).groupRt g).sec = s.sourceCfg g true := by
  rw [State.adopted, State.groupRt_notePri, ← State.sourceCfg_of_regs (s.regs_takeObs g sec), ← State.sourceCfg_of_regs (s.regs_takeObs g sec)]
  exact State.groupRt_adoptSources ..

/-- An observation that a group has taken does not wait for it any more. -/
theorem State.obsWaits_taken {tk index : Nat} (hwaits : s.obsWaits g secondary tk index = true) (hseen : t.ftm.seen = (s.takeObs g secondary).ftm.seen)
    (hcfg : t.sourceCfg g secondary = s.sourceCfg g secondary) : t.obsWaits g secondary tk index = false := by
  unfold State.obsWaits State.seenObs at *
  rw [hseen, hcfg]
  unfold State.takeObs State.seenObs
  dsimp only
  cases ho : Tbl.get (fun _ => none) s.ftm.seen (sourceKey (s.sourceCfg g secondary)) with
  | none => rw [ho] at hwaits; cases hwaits
  | some o =>
    rw [ho] at hwaits
    have hbit : o.left.testBit (takerBit g secondary) = true := ((Bool.and_eq_true _ _).mp hwaits).2
    have htaken := testBit_sub_and_two_pow o.left (takerBit g secondary) (takerBit g secondary)
    rw [Nat.and_two_pow, hbit, Bool.toNat_true, Nat.one_mul, if_pos rfl] at htaken
    dsimp only [State.setSeen]
    rw [Tbl.get_set_same]
    dsimp only
    rw [htaken, Bool.and_false]

/-- A valid value at an input leaves the error of an observation as it is. -/
theorem State.obsError_inputValid (s : State) (g : Nat) (o : Obs) : (s.inputValid pgFTM g).obsError g o = s.obsError g o := by
  have hq : Quiet s (s.inputValid pgFTM g) := Quiet.refl.inputValid
  have hrt : (s.inputValid pgFTM g).groupRt g = s.groupRt g := (KeepsTiming.refl.quiet hq).groupRt g
  have hdt : (s.inputValid pgFTM g).dt = s.dt := congrArg TimeSt.devTime hq.time
  unfold State.obsError State.groupSfn State.groupB State.groupOrd State.hasClock State.groupState
  rw [hrt, hdt, hq.fget (by decide), hq.fget (by decide), hq.fget (by decide)]

/-- What an observation that has been taken leaves, from whichever source. -/
structure ObsDone (s t : State) (g : Nat) (secondary : Bool) (tk index : Nat) : Prop where
  pri : (t.groupRt g).pri = s.sourceCfg g false
  sec : (t.groupRt g).sec = s.sourceCfg g true
  taken : t.obsWaits g secondary tk index = false
  dt : s.dt ≤ t.dt

theorem State.ftm_fsetI (s : State) (f : Fld) (u : Nat) (v : Int) : (s.fsetI f u v).ftm = s.ftm := (rfl)

/-- The fields that name a group's sources. -/
def sourceFields : List Fld := [FTM_GCFG.PRI, FTM_GCFG.PRI_CARRIER, FTM_GCFG.SEC, FTM_GCFG.SEC_CARRIER]

theorem State.sourceCfg_fsetI {f : Fld} (hf : sourceFields.all (Fld.apart · f) = true) (s : State) (u : Nat) (v : Int) (k : Nat) (sec : Bool) :
    (s.fsetI f u v).sourceCfg k sec = s.sourceCfg k sec := by
  simp only [sourceFields, List.all_cons, List.all_nil, Bool.and_true, Bool.and_eq_true] at hf
  obtain ⟨hpri, hpriCarrier, hsec, hsecCarrier⟩ := hf
  unfold State.sourceCfg State.fsetI
  rw [State.fget_fset_apart hpri, State.fget_fset_apart hpriCarrier, State.fget_fset_apart hsec, State.fget_fset_apart hsecCarrier]

theorem Quiet.sourceCfg (h : Quiet s t) (k : Nat) (sec : Bool) : t.sourceCfg k sec = s.sourceCfg k sec := by
  unfold State.sourceCfg
  rw [h.fget (by decide), h.fget (by decide), h.fget (by decide), h.fget (by decide)]

/-- From the state that took the observation, the display of an error and the discipline leave the sources and the observations as they are. -/
theorem ObsDone.of_adopted {tk index : Nat} {q : State} {f : Fld} {v : Int} (hwaits : s.obsWaits g secondary tk index = true)
    (hq : Quiet (s.adopted g secondary) q) (hf : sourceFields.all (Fld.apart · f) = true) (hd : Disciplined g (q.fsetI f g v) t) (hdt : Forward s t) :
    ObsDone s t g secondary tk index := by
  have hftm : (q.fsetI f g v).ftm = (s.adopted g secondary).ftm := (State.ftm_fsetI ..).trans hq.ftm
  have hrt : (q.fsetI f g v).groupRt g = (s.adopted g secondary).groupRt g := by rw [State.groupRt, hftm, State.groupRt]
  obtain ⟨hpri, hsec⟩ := s.groupRt_adopted g secondary
  refine ⟨?_, ?_, State.obsWaits_taken hwaits ?_ ?_, hdt.dt⟩
  · rw [hd.pri, hrt, hpri]
  · rw [hd.sec, hrt, hsec]
  · rw [hd.seen, hftm, State.adopted, State.seen_notePri, State.seen_adoptSources]
  · rw [hd.sourceCfg, State.sourceCfg_fsetI hf, hq.sourceCfg, State.sourceCfg_adopted]

/-- The observation of a source as its group takes it: with FRAME_OFFSET_NS, and an SFN where a listener yielded it (R204). -/
def State.obsTaken (s : State) (g : Nat) (sec : Bool) (tk index : Nat) : Obs :=
  ⟨(tk : Int) * 65536 + ns16 (s.fgetI FTM_GOFF.FRAME_OFFSET_NS g), if (s.sourceCfg g sec).1 = 1 then index % 1024 else index⟩

/-- An observation that its group takes. -/
theorem timingObservation_taken {tk : BitVec 64} {index : BitVec 48} {group : Fin 8} (hworks : s.works pgFTM = true)
    (hgroup : s.groupState group.val ≠ tgNONE) (hvalid : s.sourceValid (s.sourceCfg group.val secondary) = true)
    (hwaits : s.obsWaits group.val secondary tk.toNat index.toNat = true) :
    exec (.timingObservation group secondary tk index) s = .next (
      if ((s.adopted group.val secondary).groupRt group.val).useSec = secondary then
        ((s.adopted group.val secondary).inputValid pgFTM group.val).observe group.val (s.obsTaken group.val secondary tk.toNat index.toNat)
      else
        (s.adopted group.val secondary).fsetI FTM_GERR.SEC_ERR_NS group.val
          (errField ((s.adopted group.val secondary).obsError group.val (s.obsTaken group.val secondary tk.toNat index.toNat)))) := by
  rw [State.obsTaken, ← s.fgetI_adopted (f := FTM_GOFF.FRAME_OFFSET_NS) (by decide) (by decide) group.val secondary]
  exact congrArg Host.Outcome.next (if_neg (by simp [hworks, hgroup, hvalid, hwaits]))

theorem Forward.adopted (s : State) (g : Nat) (sec : Bool) : Forward s (s.adopted g sec) := Forward.refl.takeObs.adoptSources.notePri

/-- The observation of the source in use shows its error in LAST_ERR_NS and disciplines the group. -/
theorem observe_spec {tk index : Nat} (hwaits : s.obsWaits g secondary tk index = true) (o : Obs) :
    (((s.adopted g secondary).inputValid pgFTM g).observe g o).fgetI FTM_GERR.LAST_ERR_NS g = errField ((s.adopted g secondary).obsError g o) ∧
      ObsDone s (((s.adopted g secondary).inputValid pgFTM g).observe g o) g secondary tk index := by
  have hd := Disciplined.observe ((s.adopted g secondary).inputValid pgFTM g) g o
  rw [State.obsError_inputValid] at hd
  refine ⟨?_, .of_adopted hwaits Quiet.refl.inputValid (by decide) hd (Forward.adopted s g secondary).inputValid.observe⟩
  rw [State.fgetI, hd.fget _ _ (by decide) (by decide), ← State.fgetI, State.fgetI_errField (by decide) (by decide)]

/-- The observation of the other source shows its error in SEC_ERR_NS and disciplines nothing (R209). -/
theorem showSecErr_spec {tk index : Nat} (hwaits : s.obsWaits g secondary tk index = true) (e : Int) :
    ((s.adopted g secondary).fsetI FTM_GERR.SEC_ERR_NS g (errField e)).fgetI FTM_GERR.SEC_ERR_NS g = errField e ∧
      ObsDone s ((s.adopted g secondary).fsetI FTM_GERR.SEC_ERR_NS g (errField e)) g secondary tk index :=
  ⟨State.fgetI_errField (by decide) (by decide) e g, .of_adopted hwaits .refl (by decide) .refl (Forward.adopted s g secondary).fsetI⟩

/-! Lost sources and the return to the primary one (R208, R209). -/

/-- What a lost source in use makes of its group. -/
def State.sourceLost (s : State) (g : Nat) : State :=
  let other := !(s.groupRt g).useSec
  let ok := s.sourceValid (s.groupSource g other)
  let t := if ok || other then (s.inputLost pgFTM g).takeSource g other else s.inputLost pgFTM g
  (if !ok && decide (s.groupState g = tgLOCKED) then t.setGroup g tgFLYWHEEL else t).notePri

theorem timingSourceLost_eq {group : Fin 8} (hgroup : s.groupState group.val ≠ tgNONE) (hlost : s.inUseValid group.val = false) :
    exec (.timingSourceLost group) s = .next (s.sourceLost group.val) := congrArg Host.Outcome.next (if_neg (by simp [hgroup, hlost]))

theorem State.groupSource_inputLost (s : State) (g k : Nat) (sec : Bool) : (s.inputLost pgFTM k).groupSource g sec = s.groupSource g sec := by
  rw [State.groupSource, (KeepsTiming.refl.quiet (Quiet.refl.inputLost (page := pgFTM))).groupRt, State.groupSource]

/-- A lost source gives way to the other one where that is valid. -/
theorem sourceLost_other (hother : s.sourceValid (s.groupSource g (!(s.groupRt g).useSec)) = true) :
    ((s.sourceLost g).groupRt g).useSec = (!(s.groupRt g).useSec) ∧
      (s.sourceLost g).fget FTM_GSTAT.SRC g = (s.groupSource g (!(s.groupRt g).useSec)).1 := by
  have heq : s.sourceLost g = ((s.inputLost pgFTM g).takeSource g (!(s.groupRt g).useSec)).notePri := by
    unfold State.sourceLost
    simp [hother]
  obtain ⟨huse, hsrc, -, -⟩ := (s.inputLost pgFTM g).takeSource_spec g (!(s.groupRt g).useSec)
  rw [heq, State.groupRt_notePri, State.fget_notePri (by decide), hsrc, State.groupSource_inputLost]
  exact ⟨huse, Nat.mod_eq_of_lt (State.code_of_sourceValid hother)⟩

/-- A LOCKED group none of whose sources is valid enters FLYWHEEL with the secondary one in use. -/
theorem sourceLost_none (hstate : s.groupState g = tgLOCKED) (hother : s.sourceValid (s.groupSource g (!(s.groupRt g).useSec)) = false) :
    (s.sourceLost g).groupState g = tgFLYWHEEL ∧ ((s.sourceLost g).groupRt g).useSec = true := by
  have heq : s.sourceLost g = ((if !(s.groupRt g).useSec then (s.inputLost pgFTM g).takeSource g (!(s.groupRt g).useSec)
      else s.inputLost pgFTM g).setGroup g tgFLYWHEEL).notePri := by
    unfold State.sourceLost
    dsimp only
    rw [hother, hstate, Bool.false_or, if_pos (by decide)]
  rw [heq]
  refine ⟨?_, ?_⟩
  · rw [State.groupState, State.fget_notePri (by decide), ← State.groupState, State.groupState_setGroup (by decide)]
  · rw [State.groupRt_notePri, State.groupRt_setGroup]
    cases huse : (s.groupRt g).useSec
    · rw [Bool.not_false, if_pos rfl]
      exact ((s.inputLost pgFTM g).takeSource_spec g true).1
    · rw [if_neg (by decide), (KeepsTiming.refl.quiet (Quiet.refl.inputLost (page := pgFTM))).groupRt, huse]

/-- Settles O17, clause by clause, from what each operation of a timing group sets. -/
theorem timingGroupCommands : Obligations.TimingGroupCommands := by
  refine ⟨?boundary, ?clocked, ?committed, ?commit, ?enable, ?disable, ?observed, ?other, ?unobserved, ?flywheel, ?holdover, ?switch, ?lost, ?returned⟩
  case boundary =>
    intro group s hworks hclock hrelabel
    obtain ⟨hdt, hinstant⟩ := s.frameBoundary_time group.val
    exact ⟨_, congrArg Host.Outcome.next (if_pos hworks), frameBoundary_unclocked hclock hrelabel, hdt, hinstant⟩
  case clocked =>
    intro group s hworks hclock hrelabel hstep
    obtain ⟨hnext, hord, hsfn, hbc⟩ := frameBoundary_clocked hclock hrelabel hstep
    have hinstant := (s.frameBoundary_time group.val).2
    rw [State.nextBoundary, if_pos (.inl hclock)] at hinstant
    exact ⟨_, congrArg Host.Outcome.next (if_pos hworks), hnext, hord, hsfn, hbc, hinstant⟩
  case committed => exact fun group s h => ⟨s, congrArg Host.Outcome.next (if_pos h), rfl⟩
  case commit =>
    intro group s h
    exact ⟨_, congrArg Host.Outcome.next (if_neg (by rw [h]; decide)), boundaryCommit_spec s group.val⟩
  case enable =>
    intro who s u hadm hpri hsec hrelock hen hmerge
    obtain ⟨s', hregs, htook, hend⟩ := access_gcfgEn hadm hpri hsec hrelock (.inr rfl) hmerge
    rw [← State.fon_of_regs hregs, ← State.fget_of_regs hregs] at hen
    have hspec := State.gcfgWritten_on_spec hen
    rw [State.fget_of_regs hregs, ← State.fon_of_regs hend, State.groupState, ← State.fget_of_regs hend, ← State.fget_of_regs hend,
      ← State.fget_of_regs hend] at hspec
    exact ⟨_, rfl, htook, hspec⟩
  case disable =>
    intro who s u hadm hpri hsec hrelock hen hbusy hmerge
    obtain ⟨s', hregs, htook, hend⟩ := access_gcfgEn hadm hpri hsec hrelock (.inl hbusy) hmerge
    rw [← State.fon_of_regs hregs, ← State.fget_of_regs hregs] at hen
    have hspec := State.gcfgWritten_off_spec hen
    rw [State.fget_of_regs hregs, ← State.fon_of_regs hend, State.groupState, ← State.fget_of_regs hend, ← State.fget_of_regs hend,
      ← State.fon_of_regs hend] at hspec
    exact ⟨_, rfl, htook, hspec⟩
  case observed =>
    intro group secondary tk index s hworks hgroup hvalid hwaits huse
    obtain ⟨herr, hdone⟩ := observe_spec hwaits (s.obsTaken group.val secondary tk.toNat index.toNat)
    have htaken := timingObservation_taken hworks hgroup hvalid hwaits
    exact ⟨_, htaken.trans (congrArg Host.Outcome.next (if_pos huse)), herr, hdone.pri, hdone.sec, hdone.taken, hdone.dt⟩
  case other =>
    intro group secondary tk index s hworks hgroup hvalid hwaits huse
    obtain ⟨herr, hdone⟩ := showSecErr_spec hwaits ((s.adopted group.val secondary).obsError group.val (s.obsTaken group.val secondary tk.toNat index.toNat))
    have htaken := timingObservation_taken hworks hgroup hvalid hwaits
    have hnot : ((s.adopted group.val secondary).groupRt group.val).useSec ≠ secondary := fun h => Bool.not_ne_self secondary (huse.symm.trans h)
    exact ⟨_, htaken.trans (congrArg Host.Outcome.next (if_neg hnot)), herr, hdone.pri, hdone.sec, hdone.taken, hdone.dt⟩
  case unobserved =>
    intro group secondary tk index s h
    exact ⟨s, congrArg Host.Outcome.next (if_pos (by simpa [or_assoc] using h)), rfl⟩
  case flywheel =>
    intro group s hstate hdue
    exact ⟨_, congrArg Host.Outcome.next (if_pos (by simp [hstate, hdue])), State.groupState_setGroup (by decide)⟩
  case holdover =>
    intro group s hstate hdue
    refine ⟨_, congrArg Host.Outcome.next (if_pos (by simp [hstate, hdue])), ?_⟩
    rw [State.groupState, KeepsTiming.refl.foxCheck.fget (by decide), ← State.groupState, State.groupState_setGroup (by decide)]
  case switch => exact fun group s hgroup hlost hother => ⟨_, timingSourceLost_eq hgroup hlost, sourceLost_other hother⟩
  case lost =>
    intro group s hstate hlost hother
    exact ⟨_, timingSourceLost_eq (by rw [hstate]; decide) hlost, sourceLost_none hstate hother⟩
  case returned =>
    intro group s huse hvalid hdue
    obtain ⟨htaken, hsrc, -, hstopped⟩ := s.takeSource_spec group.val false
    exact ⟨_, congrArg Host.Outcome.next (if_pos (by simp [huse, hvalid, hdue])), htaken,
      hsrc.trans (Nat.mod_eq_of_lt (State.code_of_sourceValid hvalid)), hstopped (by rw [huse]; decide)⟩

end Sys2Proof.Machine
end

section
/-!
The bits of the clock domains (R16, R20, R516), and what the clock tree does beside them.
-/
namespace Sys2Proof.Machine

variable {s s0 t : State} {d p : Nat}

/-! One bit of a pair of registers is written. -/

theorem State.fbit_fset_apart {f f' : Fld} (h : f'.apart f = true) (u u' v n : Nat) : (s.fset f u v).fbit f' u' n = s.fbit f' u' n := by
  rw [State.fbit, State.fget_fset_apart h, State.fbit]

/-- A bit of RUN0 or RUN1 is written, and no other (R516). -/
theorem State.domainRuns_setDomainRuns (hd : d < 47) (b : Bool) (e : Nat) : (s.setDomainRuns d b).domainRuns e = if e = d then b else s.domainRuns e := by
  unfold State.domainRuns State.setDomainRuns
  by_cases hlow : d < 32
  · by_cases he : e < 32
    · simp only [hlow, he, if_true]
      exact State.fbit_fsetBit (by decide) hlow 0 b e
    · simp only [hlow, he, if_true, if_false, if_neg (show e ≠ d by omega)]
      exact State.fbit_fset_apart (by decide) ..
  · by_cases he : e < 32
    · simp only [hlow, he, if_true, if_false, if_neg (show e ≠ d by omega)]
      exact State.fbit_fset_apart (by decide) ..
    · have hbit : e - 32 = d - 32 ↔ e = d := by omega
      simp only [hlow, he, if_false, ← hbit]
      exact State.fbit_fsetBit (by decide) (show d - 32 < 15 by omega) 0 b (e - 32)

/-- A bit of FAIL0 or FAIL1 is set, and no other changes (R20). -/
theorem State.domainFailed_setDomainFailed (hd : d < 47) (e : Nat) :
    (s.setDomainFailed d).domainFailed e = if e = d then true else s.domainFailed e := by
  unfold State.domainFailed State.setDomainFailed
  by_cases hlow : d < 32
  · by_cases he : e < 32
    · simp only [hlow, he, if_true]
      exact State.fbit_fsetBit (by decide) hlow 0 true e
    · simp only [hlow, he, if_true, if_false, if_neg (show e ≠ d by omega)]
      exact State.fbit_fset_apart (by decide) ..
  · by_cases he : e < 32
    · simp only [hlow, he, if_true, if_false, if_neg (show e ≠ d by omega)]
      exact State.fbit_fset_apart (by decide) ..
    · have hbit : e - 32 = d - 32 ↔ e = d := by omega
      simp only [hlow, he, if_false, ← hbit]
      exact State.fbit_fsetBit (by decide) (show d - 32 < 15 by omega) 0 true (e - 32)

theorem State.domainRuns_fset {f : Fld} (hf : (CLK_DOMAIN_RUN0.RUN.apart f && CLK_DOMAIN_RUN1.RUN.apart f) = true) (u v d : Nat) :
    (s.fset f u v).domainRuns d = s.domainRuns d := by
  obtain ⟨hlow, hhigh⟩ := (Bool.and_eq_true _ _).mp hf
  rw [State.domainRuns, State.fbit_fset_apart hlow, State.fbit_fset_apart hhigh, State.domainRuns]

theorem State.domainFailed_fset {f : Fld} (hf : (CLK_DOMAIN_FAIL0.FAIL.apart f && CLK_DOMAIN_FAIL1.FAIL.apart f) = true) (u v d : Nat) :
    (s.fset f u v).domainFailed d = s.domainFailed d := by
  obtain ⟨hlow, hhigh⟩ := (Bool.and_eq_true _ _).mp hf
  rw [State.domainFailed, State.fbit_fset_apart hlow, State.fbit_fset_apart hhigh, State.domainFailed]

theorem State.domainRuns_setDomainFailed (s : State) (e d : Nat) : (s.setDomainFailed e).domainRuns d = s.domainRuns d := by
  unfold State.setDomainFailed State.fsetBit
  split
  · exact State.domainRuns_fset (by decide) ..
  · exact State.domainRuns_fset (by decide) ..

theorem State.domainFailed_of_regs (h : t.regs = s.regs) (d : Nat) : t.domainFailed d = s.domainFailed d := by
  unfold State.domainFailed State.fbit
  rw [State.fget_of_regs h, State.fget_of_regs h]

theorem State.domainRuns_of_regs (h : t.regs = s.regs) (d : Nat) : t.domainRuns d = s.domainRuns d := by
  unfold State.domainRuns State.fbit
  rw [State.fget_of_regs h, State.fget_of_regs h]

theorem KeepsTiming.domainRuns (h : KeepsTiming s0 t) (d : Nat) : t.domainRuns d = s0.domainRuns d := by
  unfold State.domainRuns State.fbit
  rw [h.fget (by decide), h.fget (by decide)]

theorem KeepsTiming.domainFailed (h : KeepsTiming s0 t) (d : Nat) : t.domainFailed d = s0.domainFailed d := by
  unfold State.domainFailed State.fbit
  rw [h.fget (by decide), h.fget (by decide)]

/-! Failing windows in a row. -/

theorem State.regs_setDev (s : State) (d n : Nat) : (s.setDev d n).regs = s.regs := (rfl)

theorem State.devOf_setDev_same (s : State) (d n : Nat) : (s.setDev d n).devOf d = n := by
  rw [State.devOf, State.setDev, Tbl.get_set_same]

theorem State.devOf_setDev_ne (s : State) (n : Nat) {e : Nat} (h : d ≠ e) : (s.setDev e n).devOf d = s.devOf d := by
  rw [State.devOf, State.setDev, Tbl.get_set_ne _ _ _ h, State.devOf]

theorem State.devOf_fset (s : State) (f : Fld) (u v d : Nat) : (s.fset f u v).devOf d = s.devOf d := (rfl)

theorem State.devOf_setDomainFailed (s : State) (e d : Nat) : (s.setDomainFailed e).devOf d = s.devOf d := by
  unfold State.setDomainFailed State.fsetBit
  split
  · exact State.devOf_fset ..
  · exact State.devOf_fset ..

/-! Work on all domains in turn. -/

/-- What one element's turn establishes in a state that the turns before it have kept ready holds at the end, where every turn keeps it. -/
theorem foldl_reaches {f : State → Nat → State} {Ready Done : State → Prop} {l : List Nat} (hset : ∀ t, Ready t → Done (f t d))
    (hready : ∀ t, ∀ e ∈ l, e ≠ d → Ready t → Ready (f t e)) (hdone : ∀ t, ∀ e ∈ l, Done t → Done (f t e)) (hd : d ∈ l) (h : Ready s) : Done (l.foldl f s) := by
  induction l generalizing s with
  | nil => cases hd
  | cons e rest ih =>
    by_cases he : e = d
    · subst he
      exact List.foldlRecOn rest f (hset s h) fun t ht x hx => hdone t x (List.mem_cons_of_mem _ hx) ht
    · exact ih (fun t x hx => hready t x (List.mem_cons_of_mem _ hx)) (fun t x hx => hdone t x (List.mem_cons_of_mem _ hx))
        ((List.mem_cons.mp hd).resolve_left (Ne.symm he)) (hready s e List.mem_cons_self he h)

/-! The clock tree (R516). -/

/-- A field in which neither a run bit nor a report shows. -/
def Fld.besideRuns (f : Fld) : Bool := f.unreported && f.apart CLK_DOMAIN_RUN0.RUN && f.apart CLK_DOMAIN_RUN1.RUN

/-- From `s0` to `t` run bits and reports may have changed, and nothing else. -/
structure RunsOnly (s0 t : State) : Prop where
  fget : ∀ f u, f.besideRuns = true → t.fget f u = s0.fget f u
  hush : t.hush = s0.hush

theorem RunsOnly.refl : RunsOnly s s := ⟨fun _ _ _ => rfl, rfl⟩

theorem RunsOnly.foldl {α : Type} {f : State → α → State} {l : List α} (h : RunsOnly s0 s) (hf : ∀ t x, RunsOnly s0 t → RunsOnly s0 (f t x)) :
    RunsOnly s0 (l.foldl f s) := List.foldlRecOn l f h fun t ht x _ => hf t x ht

theorem RunsOnly.quiet (h : RunsOnly s0 s) (hq : Quiet s t) : RunsOnly s0 t where
  fget f u hf := (hq.fget (((Bool.and_eq_true _ _).mp ((Bool.and_eq_true _ _).mp hf).1).1) u).trans (h.fget f u hf)
  hush := hq.hush.trans h.hush

theorem State.hush_fset (s : State) (f : Fld) (u v : Nat) : (s.fset f u v).hush = s.hush := (rfl)

theorem RunsOnly.setDomainRuns {b : Bool} (h : RunsOnly s0 s) : RunsOnly s0 (s.setDomainRuns d b) := by
  refine ⟨fun f u hf => ?_, ?_⟩
  · obtain ⟨hrest, hhigh⟩ := (Bool.and_eq_true _ _).mp hf
    obtain ⟨-, hlow⟩ := (Bool.and_eq_true _ _).mp hrest
    rw [← h.fget f u hf]
    unfold State.setDomainRuns State.fsetBit
    split
    · exact State.fget_fset_apart hlow ..
    · exact State.fget_fset_apart hhigh ..
  · rw [← h.hush]
    unfold State.setDomainRuns State.fsetBit
    split
    · exact State.hush_fset ..
    · exact State.hush_fset ..

theorem RunsOnly.refreshDomain (h : RunsOnly s0 s) : RunsOnly s0 (s.refreshDomain d) := by
  unfold State.refreshDomain
  split
  · exact h
  · exact h.setDomainRuns

/-- READY shows in the headers of the pages. -/
theorem Quiet.refreshReady (s : State) : Quiet s s.refreshReady :=
  List.foldlRecOn (List.range 64) _ (motive := Quiet s) .refl fun _ ht _ _ => ht.setHeader

theorem RunsOnly.refreshClocks (h : RunsOnly s0 s) : RunsOnly s0 s.refreshClocks :=
  ((h.foldl fun _ _ ht => ht.refreshDomain).foldl fun _ _ ht => ht.setDomainRuns).setDomainRuns.quiet (Quiet.refreshReady _)

theorem RunsOnly.fon (h : RunsOnly s0 t) {f : Fld} (hf : f.besideRuns = true) (u : Nat) : t.fon f u = s0.fon f u := by
  rw [State.fon, h.fget f u hf, State.fon]

theorem RunsOnly.time (h : RunsOnly s0 t) : t.time = s0.time := by
  have heq := congrArg State.time h.hush
  exact heq

theorem RunsOnly.isGated (h : RunsOnly s0 t) (d : Nat) : t.isGated d = s0.isGated d := by
  have heq := congrArg State.gated h.hush
  exact congrArg (Tbl.get (fun _ => false) · d) heq

theorem RunsOnly.devOf (h : RunsOnly s0 t) (d : Nat) : t.devOf d = s0.devOf d := by
  have heq := congrArg State.clockDev h.hush
  exact congrArg (Tbl.get (fun _ => 0) · d) heq

theorem besideRuns_pllField (p : Nat) : (pllField p).besideRuns = true := by
  unfold pllField
  split <;> decide

/-- A PLL delivers a domain's clock: it is locked, the domain is not gated, and a fronthaul domain has an enabled side (R516). -/
def State.fedBy (s : State) (d p : Nat) : Bool := s.fon (pllField p) 0 && !s.isGated d && (decide (d ≠ 36 ∧ d ≠ 37) || s.fhEnabled)

theorem RunsOnly.fedBy (h : RunsOnly s0 t) (d p : Nat) : t.fedBy d p = s0.fedBy d p := by
  unfold State.fedBy State.fhEnabled
  rw [h.fon (besideRuns_pllField p), h.isGated, h.fon (by decide), h.fon (by decide)]

theorem State.refreshDomain_of_fed (h : pllOf d = some p) (s : State) : s.refreshDomain d = s.setDomainRuns d (s.fedBy d p) := by
  unfold State.refreshDomain
  rw [h]
  rfl

theorem State.domainRuns_refreshDomain_ne {e : Nat} (he : e < 47) (hne : d ≠ e) (s : State) : (s.refreshDomain e).domainRuns d = s.domainRuns d := by
  unfold State.refreshDomain
  split
  · rfl
  · rw [State.domainRuns_setDomainRuns he, if_neg hne]

/-- The domains that a PLL feeds are none of the link groups' and not CD41. -/
theorem of_pllOf (h : pllOf d = some p) : d < 47 ∧ d ≠ 41 ∧ ∀ g < 32, d ≠ 4 + g := by
  unfold pllOf at h
  split_ifs at h <;> exact ⟨by omega, by omega, fun g _ => by omega⟩

/-- The clock of a domain that a PLL feeds is delivered as the PLL, the gates and the fronthaul have it (R516). -/
theorem State.domainRuns_refreshClocks (h : pllOf d = some p) (s : State) : s.refreshClocks.domainRuns d = s.fedBy d p := by
  obtain ⟨hd, hnotCd41, hgroups⟩ := of_pllOf h
  have hdomains : RunsOnly s ((List.range 47).foldl (fun t e => t.refreshDomain e) s) ∧
      ((List.range 47).foldl (fun t e => t.refreshDomain e) s).domainRuns d = s.fedBy d p := by
    refine foldl_reaches (d := d) (Ready := RunsOnly s) (Done := fun t => RunsOnly s t ∧ t.domainRuns d = s.fedBy d p) ?_ ?_ ?_ (List.mem_range.mpr hd) .refl
    · intro t ht
      exact ⟨ht.refreshDomain, by rw [State.refreshDomain_of_fed h, State.domainRuns_setDomainRuns hd, if_pos rfl, ht.fedBy]⟩
    · exact fun t e _ _ ht => ht.refreshDomain
    · rintro t e he ⟨ht, hruns⟩
      refine ⟨ht.refreshDomain, ?_⟩
      by_cases hne : d = e
      · subst hne
        rw [State.refreshDomain_of_fed h, State.domainRuns_setDomainRuns hd, if_pos rfl, ht.fedBy]
      · rw [State.domainRuns_refreshDomain_ne (List.mem_range.mp he) hne, hruns]
  have hlinks : ∀ t : State, ((List.range 32).foldl (fun t g => t.refreshGroupDomain g) t).domainRuns d = t.domainRuns d := by
    refine fun t => List.foldlRecOn (List.range 32) _ (motive := fun u : State => u.domainRuns d = t.domainRuns d) rfl fun u hu g hg => ?_
    have hlt := List.mem_range.mp hg
    rw [State.refreshGroupDomain, State.domainRuns_setDomainRuns (by omega), if_neg (hgroups g hlt), hu]
  unfold State.refreshClocks
  dsimp only
  rw [(KeepsTiming.refl.quiet (Quiet.refreshReady _)).domainRuns, State.domainRuns_setDomainRuns (by decide), if_neg hnotCd41, hlinks, hdomains.2]

end Sys2Proof.Machine
end

section
/-!
Settles O1: the first lock of PLL-A, a supervision window, the loss of a PLL.
-/
namespace Sys2Proof.Machine

variable {s t : State} {d : Nat}

/-! The first lock of PLL-A (R21). -/

/-- Device time starts, and PLL-A shows its lock. -/
def State.firstLock (s : State) : State := { s with time := { started := true } }.fset CLK_PLL_STAT.PLLA_LOCK 0 1

theorem State.firstLock_spec (s : State) : s.firstLock.time = { started := true } ∧ s.firstLock.fon CLK_PLL_STAT.PLLA_LOCK 0 = true ∧
    s.firstLock.isGated 0 = s.isGated 0 := ⟨rfl, State.fon_fset_one (by decide) (by decide) 0, rfl⟩

theorem pllaFirstLock_spec (s : State) : s.firstLock.refreshClocks.time = { started := true } ∧
    s.firstLock.refreshClocks.fon CLK_PLL_STAT.PLLA_LOCK 0 = true ∧ (s.isGated 0 = false → s.firstLock.refreshClocks.domainRuns 0 = true) := by
  obtain ⟨htime, hlock, hgate⟩ := s.firstLock_spec
  have hclocks : RunsOnly s.firstLock s.firstLock.refreshClocks := RunsOnly.refl.refreshClocks
  refine ⟨hclocks.time.trans htime, (hclocks.fon (by decide) 0).trans hlock, fun hopen => ?_⟩
  rw [State.domainRuns_refreshClocks (p := 0) (by decide), State.fedBy, pllField, hlock, hgate, hopen]
  rfl

/-! A supervision window (R20). -/

/-- A domain's turn leaves the state, counts its failing windows, or fails it. -/
theorem State.superviseDomain_cases (s : State) (deviates : Bool) (e : Nat) :
    s.superviseDomain deviates e = s ∨ ∃ n, s.superviseDomain deviates e = s.setDev e n ∨ s.superviseDomain deviates e = (s.setDomainFailed e).setDev e n := by
  unfold State.superviseDomain
  split
  · exact .inl rfl
  · split
    · exact .inr ⟨0, .inr rfl⟩
    · split
      · exact .inr ⟨0, .inl rfl⟩
      · split
        · exact .inr ⟨0, .inl rfl⟩
        · split
          · exact .inr ⟨1, .inl rfl⟩
          · exact .inr ⟨1, .inr rfl⟩

theorem State.domainRuns_superviseDomain (s : State) (deviates : Bool) (e d : Nat) : (s.superviseDomain deviates e).domainRuns d = s.domainRuns d := by
  obtain heq | ⟨n, heq | heq⟩ := s.superviseDomain_cases deviates e
  · rw [heq]
  · rw [heq, State.domainRuns_of_regs (State.regs_setDev ..)]
  · rw [heq, State.domainRuns_of_regs (State.regs_setDev ..), State.domainRuns_setDomainFailed]

theorem State.devOf_superviseDomain_ne {e : Nat} (h : d ≠ e) (s : State) (deviates : Bool) : (s.superviseDomain deviates e).devOf d = s.devOf d := by
  obtain heq | ⟨n, heq | heq⟩ := s.superviseDomain_cases deviates e
  · rw [heq]
  · rw [heq, State.devOf_setDev_ne _ _ h]
  · rw [heq, State.devOf_setDev_ne _ _ h, State.devOf_setDomainFailed]

/-- A domain that has failed stays failed through the turns of the others and its own. -/
theorem State.domainFailed_superviseDomain {e : Nat} (he : e < 47) (h : s.domainFailed d = true) (deviates : Bool) :
    (s.superviseDomain deviates e).domainFailed d = true := by
  obtain heq | ⟨n, heq | heq⟩ := s.superviseDomain_cases deviates e
  · rw [heq, h]
  · rw [heq, State.domainFailed_of_regs (State.regs_setDev ..), h]
  · rw [heq, State.domainFailed_of_regs (State.regs_setDev ..), State.domainFailed_setDomainFailed he, h, ite_self]

/-- The second failing window in a row of a running domain fails it. -/
theorem State.superviseDomain_second (hd : d < 41) (hdev : s.devOf d = 1) (hruns : s.domainRuns d = true) :
    (s.superviseDomain true d).domainFailed d = true := by
  have heq : s.superviseDomain true d = (s.setDomainFailed d).setDev d 1 := by
    unfold State.superviseDomain
    simp [hdev, hruns, show d ≠ 41 by omega, show d ≠ 42 by omega]
  rw [heq, State.domainFailed_of_regs (State.regs_setDev ..), State.domainFailed_setDomainFailed (by omega), if_pos rfl]

/-- The always-on cycles of a window may stop CD42 and no other domain. -/
theorem State.aonWindow_clock (hd : d ≠ 42) (s : State) : s.aonWindow.domainRuns d = s.domainRuns d ∧ s.aonWindow.devOf d = s.devOf d := by
  unfold State.aonWindow
  dsimp only
  split
  · exact ⟨rfl, rfl⟩
  · unfold State.sclQuiet
    constructor
    · exact (State.domainRuns_setDomainRuns (by decide) false d).trans (if_neg hd)
    · exact RunsOnly.refl.setDomainRuns.devOf d

theorem State.domainFailed_superviseRefclk (s : State) (bad : Bool) (d : Nat) : (s.superviseRefclk bad).domainFailed d = s.domainFailed d := by
  unfold State.superviseRefclk
  split
  · rw [State.domainFailed_fset (by decide), State.domainFailed_of_regs (State.regs_setDev ..)]
  · split
    · exact State.domainFailed_of_regs (State.regs_setDev ..) d
    · exact State.domainFailed_fset (by decide) ..

/-- The state at the end of a window before the faults follow it. -/
def State.windowEnd (s : State) (deviates : Nat) (refclkBad aonBad : Bool) : State :=
  (((List.range 47).foldl (fun t d => t.superviseDomain (deviates.testBit d) d) s.aonWindow).superviseRefclk refclkBad).fsetB CLK_PLL_STAT.AON_OK 0 (!aonBad)

theorem State.domainFailed_windowEnd {deviates : Nat} (hd : d < 41) (hdev : s.devOf d = 1) (hruns : s.domainRuns d = true)
    (hbad : deviates.testBit d = true) (refclkBad aonBad : Bool) : (s.windowEnd deviates refclkBad aonBad).domainFailed d = true := by
  obtain ⟨hruns', hdev'⟩ := s.aonWindow_clock (show d ≠ 42 by omega)
  rw [State.windowEnd, State.fsetB, State.domainFailed_fset (by decide), State.domainFailed_superviseRefclk]
  refine foldl_reaches (d := d) (Ready := fun t => t.devOf d = 1 ∧ t.domainRuns d = true) (Done := fun t => t.domainFailed d = true) ?_ ?_ ?_
    (List.mem_range.mpr (by omega)) ⟨hdev'.trans hdev, hruns'.trans hruns⟩
  · rintro t ⟨hdev, hruns⟩
    rw [hbad]
    exact State.superviseDomain_second hd hdev hruns
  · rintro t e - hne ⟨hdev, hruns⟩
    exact ⟨(State.devOf_superviseDomain_ne (Ne.symm hne) ..).trans hdev, (State.domainRuns_superviseDomain ..).trans hruns⟩
  · exact fun t e he h => State.domainFailed_superviseDomain (List.mem_range.mp he) h _

/-- The clock fault sources report only. -/
theorem Quiet.driveClockFaults (s : State) : Quiet s s.driveClockFaults := by
  unfold State.driveClockFaults
  refine List.foldlRecOn (List.range 14) _ (motive := Quiet s) .refl fun t ht k hk => ?_
  have hlt := List.mem_range.mp hk
  exact .ite ht (ht.drive (show 128 + k < 512 by omega))

/-- What a window does after its supervision leaves the clock registers. -/
theorem clockSupervisionWindow_keeps (deviates : BitVec 47) (refclkBad aonBad : Bool) (s : State) :
    ∃ t, exec (.clockSupervisionWindow deviates refclkBad aonBad) s = .next t ∧ KeepsTiming (s.windowEnd deviates.toNat refclkBad aonBad) t := by
  have hfaults : ∀ b, KeepsTiming (s.windowEnd deviates.toNat refclkBad aonBad)
      (((s.windowEnd deviates.toNat refclkBad aonBad).driveClockFaults.drive 140 aonBad).drive 142 b) :=
    fun b => (KeepsTiming.refl.quiet (Quiet.driveClockFaults _)).drive.drive
  exact ⟨_, rfl, .ite (hfaults _).safeEntry (hfaults _)⟩

/-! Loss of a PLL (R20). -/

/-- A PLL has lost its lock, and two failing windows stand against every domain that it feeds. -/
def State.lockLost (s : State) (p : Nat) : State :=
  ((List.range 47).filter fun d => decide (pllOf d = some p)).foldl (fun t d => t.setDev d 2) (s.fset (pllField p) 0 0)

theorem State.regs_foldl_setDev (l : List Nat) (n : Nat) (s : State) : (l.foldl (fun t d => t.setDev d n) s).regs = s.regs :=
  List.foldlRecOn l _ (motive := fun t : State => t.regs = s.regs) rfl fun _ ht _ _ => ht

theorem State.devOf_foldl_setDev {l : List Nat} (hd : d ∈ l) (n : Nat) (s : State) : (l.foldl (fun t d => t.setDev d n) s).devOf d = n := by
  refine foldl_reaches (Ready := fun _ => True) (Done := fun t => t.devOf d = n) (fun t _ => t.devOf_setDev_same d n) (fun _ _ _ _ _ => trivial) ?_ hd trivial
  intro t e _ ht
  by_cases he : d = e
  · rw [he, State.devOf_setDev_same]
  · rw [State.devOf_setDev_ne _ _ he, ht]

theorem inWord_pllField (p : Nat) : (pllField p).inWord = true := by
  unfold pllField
  split <;> decide

theorem State.fon_lockLost (s : State) (p : Nat) : (s.lockLost p).fon (pllField p) 0 = false :=
  (State.fon_of_regs (State.regs_foldl_setDev ..) _ 0).trans (State.fon_fset_zero (inWord_pllField p) 0)

/-- The loss of a PLL stops its domains and leaves them for the next window to fail. -/
theorem pllLockLoss_spec (s : State) (p : Nat) : ((s.lockLost p).refreshClocks.drive 143 true).fon (pllField p) 0 = false ∧
    ∀ d : Fin 47, pllOf d.val = some p → ((s.lockLost p).refreshClocks.drive 143 true).domainRuns d.val = false ∧
      ((s.lockLost p).refreshClocks.drive 143 true).devOf d.val = 2 := by
  have hdrive : Quiet (s.lockLost p).refreshClocks ((s.lockLost p).refreshClocks.drive 143 true) := Quiet.refl.drive
  have hclocks : RunsOnly (s.lockLost p) ((s.lockLost p).refreshClocks.drive 143 true) := RunsOnly.refl.refreshClocks.quiet hdrive
  refine ⟨(hclocks.fon (besideRuns_pllField p) 0).trans (s.fon_lockLost p), fun d hfed => ⟨?_, ?_⟩⟩
  · rw [(KeepsTiming.refl.quiet hdrive).domainRuns, State.domainRuns_refreshClocks hfed, State.fedBy, State.fon_lockLost]
    rfl
  · rw [hclocks.devOf]
    exact State.devOf_foldl_setDev (List.mem_filter.mpr ⟨List.mem_range.mpr d.isLt, decide_eq_true hfed⟩) 2 _

/-- Settles O1: the clock tree follows the lock of a PLL, and a window fails a domain in its own turn. -/
theorem clockEventsComplete : Obligations.ClockEventsComplete := by
  refine ⟨fun s hstarted => ?_, fun deviates refclkBad aonBad s d hdev hruns hbad => ?_, fun pll s hlock => ?_⟩
  · exact ⟨_, congrArg Host.Outcome.next (if_neg (by rw [hstarted]; decide)), pllaFirstLock_spec s⟩
  · obtain ⟨t, hexec, hkeeps⟩ := clockSupervisionWindow_keeps deviates refclkBad aonBad s
    refine ⟨t, hexec, ?_, ?_⟩
    · exact (hkeeps.fon (by decide) 0).trans (State.fon_fsetB (by decide) (by decide) 0 _)
    · exact (hkeeps.domainFailed d).trans (State.domainFailed_windowEnd d.isLt hdev hruns hbad ..)
  · exact ⟨_, congrArg Host.Outcome.next (if_neg (by rw [hlock]; decide)), pllLockLoss_spec s pll.val⟩

end Sys2Proof.Machine
end

section
/-!
More rules of the register bus: a write under any admission, and what is left of one at an offset below the expert registers.
-/
namespace Sys2Proof.Machine

variable {s : State} {who : Init} {page off : Nat} {adm : State → Option Reason}

/-- A write that the bus lets through is accepted, and ends as the register's own write ends, but for timers, the check pass of the page and refusals. -/
theorem State.accessBy_took (h : Admits adm s who page off) (v : Word) {f : State → WRes} {t : State}
    (hf : f ((s.portEdge who).disarm who page) = .ok t) : Took (s.accessBy adm who page off v f) who ∧
    ∃ timers crcPass busRefuse, s.accessBy adm who page off v f = { t with timers := timers, crcPass := crcPass, busRefuse := busRefuse } := by
  obtain ⟨timers, crcPass, hend⟩ := t.closeWrite_eq who page off
  rw [State.accessBy_of_admits h hf, hend]
  exact ⟨took_accepted t who, timers, crcPass, _, rfl⟩

/-- Below the expert registers an accepted write restarts no open period. -/
theorem State.timers_accessBy_basic (h : Admits adm s who page off) (hoff : off < 0x400) (v : Word) {f : State → WRes} {t : State}
    (hf : f ((s.portEdge who).disarm who page) = .ok t) : (s.accessBy adm who page off v f).timers = t.timers := by
  have hkeep : (t.accepted who).keepOpen who page off = t.accepted who := if_neg (by simp [Nat.not_le.mpr hoff])
  rw [State.accessBy_of_admits h hf, hkeep]
  rfl

end Sys2Proof.Machine
end

section
/-!
Settles O6: the expert lock of a page.
-/
namespace Sys2Proof.Machine

variable {s : State} {who : Init} {page : Nat}

@[simp] theorem State.expertSt_setExpertSt (s : State) (page : Nat) (who : Init) (e : ExpertSt) :
    (s.setExpertSt page who e).expertSt page who = e := Tbl.get_set_same _ _ _ _

@[simp] theorem State.expertSt_timerStart (s : State) (tm u count page : Nat) (who : Init) :
    (s.timerStart tm u count).expertSt page who = s.expertSt page who := rfl

@[simp] theorem State.expertSt_timerStop (s : State) (tm u page : Nat) (who : Init) :
    (s.timerStop tm u).expertSt page who = s.expertSt page who := rfl

@[simp] theorem State.timerOn_timerStart (s : State) (tm u count : Nat) : (s.timerStart tm u count).timerOn tm u = true := by
  rw [State.timerOn, State.timerStart, Tbl.get_set_same]
  exact decide_eq_true (Nat.succ_ne_zero count)

/-- A disarmed lock is not armed. -/
theorem State.armed_disarm (s : State) (who : Init) (page : Nat) : ((s.disarm who page).expertSt page who).armed = false := by
  unfold State.disarm
  split
  · simp
  · exact Bool.eq_false_iff.mpr ‹_›

/-- A closed lock is neither armed nor open. -/
theorem State.expertSt_closeExpert (s : State) (who : Init) (page : Nat) : (s.closeExpert who page).expertSt page who = {} := by
  simp [State.closeExpert]

/-- The second word opens a lock that the first has armed in time, for an identity that may open it (R47). -/
theorem unlockOpen_armed {armed : Bool} (harmed : armed = true) (h : s.mayOpen who page = true) : unlockOpen armed who page s =
    .ok ((s.setExpertSt page who { armed := false, opened := true }).timerStart tmExpertOpen (expertUnit page who) s.ms) := by
  rw [unlockOpen, h, harmed]
  rfl

/-- The first word arms the lock and starts its 1 ms (R47). -/
theorem unlockArm_spec {t : State} (h : unlockArm who page s = .ok t) :
    (t.expertSt page who).armed = true ∧ t.timerOn tmExpertArm (expertUnit page who) = true := by
  cases h
  simp

/-- An accepted word of the sequence leaves the lock as its own write left it. -/
theorem State.expertSt_accessBy {adm : State → Option Reason} {off : Nat} (h : Admits adm s who page off) (v : Word) {f : State → WRes} {t : State}
    (hf : f ((s.portEdge who).disarm who page) = .ok t) : (s.accessBy adm who page off v f).expertSt page who = t.expertSt page who := by
  obtain ⟨-, timers, crcPass, busRefuse, hend⟩ := State.accessBy_took h v hf
  rw [hend]
  rfl

/-- Settles O6: each word of the sequence sets the lock of its writer, and each timeout takes back what it times. -/
theorem expertLockArmsOpensCloses : Obligations.ExpertLockArmsOpensCloses := by
  refine ⟨fun who page s h => ⟨_, rfl, ?_⟩, fun who page s h harmed hopen => ⟨_, rfl, ?_⟩, fun who page s h => ⟨_, rfl, ?_⟩,
    fun who page s harmed hdue => ⟨_, rfl, ?_⟩, fun who page s hopened hdue => ⟨_, rfl, ?_⟩⟩
  · have hf : unlockArm who page.val ((s.portEdge who).disarm who page.val) = .ok _ := rfl
    obtain ⟨harmed, hruns⟩ := unlockArm_spec hf
    refine ⟨(State.accessBy_took h 0x5A5A hf).1, ?_, ?_⟩
    · rw [State.expertSt_accessBy h 0x5A5A hf, harmed]
    · rw [← hruns, State.timerOn, State.timers_accessBy_basic h (by decide) 0x5A5A hf, State.timerOn]
  · obtain ⟨timers, expert, hreg⟩ := s.atRegister_eq who page.val
    have hopen' : ((s.portEdge who).disarm who page.val).mayOpen who page.val = true := by rw [hreg]; exact hopen
    have hf := unlockOpen_armed harmed hopen'
    exact ⟨(State.accessBy_took h _ hf).1, (State.expertSt_accessBy h _ hf).trans (by simp)⟩
  · have hf : .ok (((s.portEdge who).disarm who page.val).closeExpert who page.val) = (.ok _ : WRes) := rfl
    exact ⟨(State.accessBy_took h 0 hf).1, (State.expertSt_accessBy h 0 hf).trans (State.expertSt_closeExpert ..)⟩
  · rw [if_pos (by simp [harmed, hdue])]
    exact State.armed_disarm ..
  · rw [if_pos (by simp [hopened, hdue])]
    exact congrArg ExpertSt.opened (State.expertSt_closeExpert ..)

end Sys2Proof.Machine
end

section
/-!
Settles O54: the write of EVT_COUNT, with and without SNAP, and its read.
-/
namespace Sys2Proof.Machine

variable {s t : State} {who : Init} {page sel : Nat}

/-! A field and what is left as it was. -/

/-- A field reads as before a write of a register at another key. -/
theorem State.fget_fset_ne {f g : Fld} {u u' : Nat} (h : f.key u ≠ g.key u') (v : Nat) : (s.fset g u' v).fget f u = s.fget f u :=
  State.fget_congr (State.word_setWord_ne _ _ h)

theorem State.fbit_fset_ne {f g : Fld} {u u' : Nat} (h : f.key u ≠ g.key u') (v n : Nat) : (s.fset g u' v).fbit f u n = s.fbit f u n :=
  congrArg (Nat.testBit · n) (State.fget_fset_ne h v)

/-- The state without its registers. -/
def State.behind (s : State) : State := { s with regs := [] }

/-- A register write leaves what stands behind the registers. -/
theorem State.behind_setWord (s : State) (k : Nat) (w : Word) : (s.setWord k w).behind = s.behind := rfl

theorem State.behind_fset (s : State) (f : Fld) (u v : Nat) : (s.fset f u v).behind = s.behind := State.behind_setWord ..

theorem State.evtCount_fset (s : State) (f : Fld) (u v : Nat) : (s.fset f u v).evtCount = s.evtCount := rfl

theorem State.evtShadow_fset (s : State) (f : Fld) (u v : Nat) : (s.fset f u v).evtShadow = s.evtShadow := rfl

theorem State.evtShadow_setEvtCount (s : State) (page n v : Nat) : (s.setEvtCount page n v).evtShadow = s.evtShadow := rfl

theorem State.fget_setEvtCount (s : State) (page n v : Nat) (f : Fld) (u : Nat) : (s.setEvtCount page n v).fget f u = s.fget f u := rfl

theorem State.evtCount_fsetBit (s : State) (f : Fld) (u n : Nat) (b : Bool) : (s.fsetBit f u n b).evtCount = s.evtCount := rfl

theorem State.fbit_setEvtCount (s : State) (page n v : Nat) (f : Fld) (u m : Nat) : (s.setEvtCount page n v).fbit f u m = s.fbit f u m := rfl

/-! EVT_COUNT (R43). -/

/-- EVT_STICKY and EVT_COUNT.SEL stand at different offsets. -/
theorem sticky_key_ne_sel (p page h : Nat) : EVT_STICKY.STICKY.key p ≠ (evtSelFld page).key h := by
  simp only [Fld.key, EVT_STICKY.STICKY, evtSelFld, Fld.unitStep]
  omega

/-- SEL of an initiator takes a written value. -/
theorem State.fget_sel_fset (s : State) (page h : Nat) (hsel : sel < 32) : (s.fset (evtSelFld page) h sel).fget (evtSelFld page) h = sel :=
  (State.fget_fset_same (f := evtSelFld page) rfl h sel).trans (Nat.mod_eq_of_lt hsel)

/-- A cleared event bit has no count, and every other count is as it was (R42). -/
theorem State.evtCount_clearEvent (s : State) (page n k : Nat) :
    Tbl.get (fun _ => 0) (s.clearEvent page n).evtCount k = if k = 32 * page + n then 0 else Tbl.get (fun _ => 0) s.evtCount k := by
  rw [State.clearEvent, State.setEvtCount, Tbl.get_set, State.evtCount_fsetBit]

/-- A cleared event bit is not sticky, and the page's other bits are as they were (R42). -/
theorem State.sticky_clearEvent (s : State) (page : Nat) {n : Nat} (hn : n < 32) (m : Nat) :
    (s.clearEvent page n).fbit EVT_STICKY.STICKY page m = if m = n then false else s.fbit EVT_STICKY.STICKY page m := by
  rw [State.clearEvent, State.fbit_setEvtCount, State.fbit_fsetBit rfl hn]

theorem State.evtShadow_clearEvent (s : State) (page n : Nat) : (s.clearEvent page n).evtShadow = s.evtShadow := by
  rw [State.clearEvent, State.evtShadow_setEvtCount, State.fsetBit, State.evtShadow_fset]

/-- What a SNAP leaves (R43): the count in the writer's shadow, SEL, and no count and no sticky bit of the selected event. -/
structure Snapped (s t : State) (who : Init) (page n : Nat) : Prop where
  shadow : t.snapOf who page = some (s.evtCountOf page n)
  selected : t.fget (evtSelFld page) who.holder = n
  count : ∀ k, Tbl.get (fun _ => 0) t.evtCount k = if k = 32 * page + n then 0 else Tbl.get (fun _ => 0) s.evtCount k
  sticky : ∀ m, t.fbit EVT_STICKY.STICKY page m = if m = n then false else s.fbit EVT_STICKY.STICKY page m
  others : ∀ k, k ≠ evtShadowKey page who → Tbl.get (fun _ => none) t.evtShadow k = Tbl.get (fun _ => none) s.evtShadow k

theorem State.snapOf_clearEvent (s : State) (page n : Nat) (who : Init) (p : Nat) : (s.clearEvent page n).snapOf who p = s.snapOf who p := by
  rw [State.snapOf, State.evtShadow_clearEvent]

/-- The shadow of an initiator takes a value, or none. -/
def State.setSnap (s : State) (who : Init) (page : Nat) (v : Option Nat) : State :=
  { s with evtShadow := Tbl.set (fun _ => none) s.evtShadow (evtShadowKey page who) v }

theorem State.snapOf_setSnap (s : State) (who : Init) (page : Nat) (v : Option Nat) : (s.setSnap who page v).snapOf who page = v :=
  Tbl.get_set_same _ _ _ _

theorem State.fget_setSnap (s : State) (who : Init) (page : Nat) (v : Option Nat) (f : Fld) (u : Nat) :
    (s.setSnap who page v).fget f u = s.fget f u := rfl

theorem State.fbit_setSnap (s : State) (who : Init) (page : Nat) (v : Option Nat) (f : Fld) (u m : Nat) :
    (s.setSnap who page v).fbit f u m = s.fbit f u m := rfl

theorem State.evtCount_setSnap (s : State) (who : Init) (page : Nat) (v : Option Nat) : (s.setSnap who page v).evtCount = s.evtCount := rfl

/-- A write of EVT_COUNT takes SEL, sets or drops the writer's shadow, and with SNAP clears the event (R43). -/
theorem evtCountWrite_eq (who : Init) (page sel : Nat) (snap : Bool) (s : State) : evtCountWrite who page sel snap s =
    .ok (if snap then ((s.fset (evtSelFld page) who.holder sel).setSnap who page (some (s.evtCountOf page sel))).clearEvent page sel
      else (s.fset (evtSelFld page) who.holder sel).setSnap who page none) := by
  unfold evtCountWrite State.setSnap
  cases snap
  · simp only [Bool.false_eq_true, if_false]
  · simp only [if_true]

/-- An aligned write at a header word other than PAGE_CTRL, EXPERT_UNLOCK, OWNER and SELFTEST is that word's own (R37). -/
theorem State.regWrite_header (s : State) (who : Init) (v : Word) {page off : Nat} (hoff : off ∈ [0x010, 0x014, 0x018, 0x020]) :
    s.regWrite who (page * 0x1000 + off) v false = s.access who page off v (headerWrite who page off v) := by
  have hlt : off < 0x1000 := by
    simp only [List.mem_cons, List.not_mem_nil, or_false] at hoff
    omega
  have hpage : (page * 0x1000 + off) / 0x1000 = page := by omega
  have hlow : (page * 0x1000 + off) % 0x1000 = off := by omega
  simp only [State.regWrite, State.plainWrite, hpage, hlow]
  fin_cases hoff <;> rfl

/-- A read of EVT_COUNT shows SEL and the count that the reader sees (R37, R43). -/
theorem State.readOf_evtCount (h : Readable s who page) :
    (s.regRead who (page * 0x1000 + 0x020)).readOf who = evtCountWord (s.fget (evtSelFld page) who.holder) (s.evtCountSeen who page) := by
  have hpage : (page * 0x1000 + 0x020) / 0x1000 = page := by omega
  have hlow : (page * 0x1000 + 0x020) % 0x1000 / 4 * 4 = 0x020 := by omega
  obtain ⟨timers, hport⟩ := s.portEdge_eq who
  simp only [State.regRead, hpage, hlow]
  rw [State.accessRead_of_readable h, hport]
  exact Tbl.get_set_same _ _ _ _

/-- What a write of EVT_COUNT with SNAP leaves: the count in the writer's shadow, SEL, and no count and no sticky bit of the selected event. -/
theorem evtCountWrite_snap (hsel : sel < 32) (h : evtCountWrite who page sel true s = .ok t) : Snapped s t who page sel := by
  rw [evtCountWrite_eq, if_pos rfl] at h
  cases h
  refine ⟨?_, ?_, fun k => ?_, fun m => ?_, fun k hk => ?_⟩
  · rw [State.snapOf_clearEvent, State.snapOf_setSnap]
  · rw [State.clearEvent, State.fget_setEvtCount, State.fsetBit, State.fget_fset_ne (sticky_key_ne_sel page page who.holder).symm, State.fget_setSnap,
      State.fget_sel_fset s page who.holder hsel]
  · rw [State.evtCount_clearEvent, State.evtCount_setSnap, State.evtCount_fset]
  · rw [State.sticky_clearEvent _ _ hsel, State.fbit_setSnap, State.fbit_fset_ne (sticky_key_ne_sel page page who.holder)]
  · rw [State.evtShadow_clearEvent, State.setSnap, Tbl.get_set_ne _ _ _ hk, State.evtShadow_fset]

/-- What a write of EVT_COUNT without SNAP leaves: no shadow, SEL, and the counts and sticky bits as they were. -/
theorem evtCountWrite_select (hsel : sel < 32) (h : evtCountWrite who page sel false s = .ok t) :
    t.snapOf who page = none ∧ t.fget (evtSelFld page) who.holder = sel ∧ t.evtCount = s.evtCount ∧
      ∀ m, t.fbit EVT_STICKY.STICKY page m = s.fbit EVT_STICKY.STICKY page m := by
  rw [evtCountWrite_eq, if_neg Bool.false_ne_true] at h
  cases h
  refine ⟨State.snapOf_setSnap .., ?_, ?_, fun m => ?_⟩
  · rw [State.fget_setSnap, State.fget_sel_fset s page who.holder hsel]
  · rw [State.evtCount_setSnap, State.evtCount_fset]
  · rw [State.fbit_setSnap, State.fbit_fset_ne (sticky_key_ne_sel page page who.holder)]

/-! Rises on any page leave what shows no report. -/

/-- `t` has what `s0` has behind the registers, but for what holds reports. -/
structure Hushed (s0 t : State) : Prop where
  hush : t.hush = s0.hush

theorem Hushed.refl : Hushed s s := ⟨rfl⟩

theorem Hushed.update {s0 : State} {evtCount lostIn flt evr reports trc gcp free} (h : Hushed s0 s) :
    Hushed s0 { s with evtCount := evtCount, lostIn := lostIn, flt := flt, evr := evr, reports := reports, trc := trc, gcp := gcp, free := free } :=
  ⟨h.hush⟩

theorem Hushed.fset {s0 : State} {f : Fld} {u v : Nat} (h : Hushed s0 s) : Hushed s0 (s.fset f u v) := ⟨h.hush⟩

theorem Hushed.ite {s0 a b : State} {c : Prop} [Decidable c] (ha : Hushed s0 a) (hb : Hushed s0 b) : Hushed s0 (if c then a else b) := by
  split
  · exact ha
  · exact hb

theorem Hushed.raiseMsix {s0 : State} {v : Nat} (h : Hushed s0 s) : Hushed s0 (s.raiseMsix v) := h.update

theorem Hushed.report {s0 : State} {kind ident page bit : Nat} {body : List Nat} (h : Hushed s0 s) : Hushed s0 (s.report kind ident page bit body) :=
  h.update

theorem Hushed.forward {s0 : State} {n : Nat} (h : Hushed s0 s) : Hushed s0 (s.forward page n) :=
  have hpend : Hushed s0 (s.fsetBit FLT_EVT_PEND.PEND (eventSource page n / 32 - 5) (eventSource page n % 32) true) := h.fset
  .ite hpend.update.raiseMsix.report hpend

theorem Hushed.riseHere {s0 : State} {n : Nat} (h : Hushed s0 s) : Hushed s0 (s.riseHere page n) :=
  have hcount : Hushed s0 ((s.fsetBit EVT_STICKY.STICKY page n true).setEvtCount page n _) := h.fset.update
  .ite hcount.forward hcount

theorem Hushed.trcStop {s0 : State} (h : Hushed s0 s) : Hushed s0 s.trcStop := h.fset

theorem Hushed.trcEvent {s0 : State} {n : Nat} (h : Hushed s0 s) : Hushed s0 (s.trcEvent n) := .ite h h.riseHere

theorem Hushed.trcWrite {s0 : State} {w : TrcWord} (h : Hushed s0 s) : Hushed s0 (s.trcWrite w) :=
  .ite h.trcStop.fset.trcEvent <|
  have ht := ((Hushed.ite h.fset h).update.fset).trcStop
  .ite ht.trcEvent ht

theorem Hushed.rise {s0 : State} {n : Nat} (h : Hushed s0 s) : Hushed s0 (s.rise page n) := .ite h.riseHere.update.trcWrite h.riseHere

theorem Hushed.evtShadow {s0 : State} (h : Hushed s0 t) : t.evtShadow = s0.evtShadow := by
  have heq := congrArg State.evtShadow h.hush
  exact heq

/-! The rules of R43. -/

/-- A reader with a shadow sees it, another the live count of its SEL. -/
theorem State.evtCountSeen_of_snap {n : Nat} (h : s.snapOf who page = some n) : s.evtCountSeen who page = n := by
  rw [State.snapOf] at h
  rw [State.evtCountSeen, h]

theorem State.evtCountSeen_of_none (h : s.snapOf who page = none) :
    s.evtCountSeen who page = s.evtCountOf page (s.fget (evtSelFld page) who.holder) := by
  rw [State.snapOf] at h
  rw [State.evtCountSeen, h]

/-- Settles O54: a SNAP moves the count of SEL, reads show the shadow or the live count, and a write of SEL drops the shadow. -/
theorem evtCountSnapTakesTheCount : Obligations.EvtCountSnapTakesTheCount := by
  refine ⟨fun who page sel s h => ⟨_, rfl, ?_⟩, fun who page n s h hsnap => ?_, fun who page s h hsnap => ?_,
    fun s page n => ⟨Hushed.refl.rise.evtShadow, State.evtShadow_clearEvent ..⟩, fun who page v s h hnosnap => ⟨_, rfl, ?_⟩⟩
  · obtain ⟨t, hf⟩ : ∃ t, evtCountWrite who page.val sel.val true ((s.portEdge who).disarm who page.val) = .ok t := ⟨_, evtCountWrite_eq ..⟩
    obtain ⟨htook, timers, crcPass, busRefuse, hend⟩ := State.accessBy_took h (BitVec.ofNat 32 (sel.val * 2 ^ 27 + 2 ^ 26)) hf
    obtain ⟨timers', expert, hreg⟩ := s.atRegister_eq who page.val
    obtain ⟨hshadow, hsel, hcount, hsticky, hothers⟩ := evtCountWrite_snap sel.isLt hf
    rw [hreg] at hshadow hcount hsticky hothers
    refine ⟨htook, ?_⟩
    rw [State.access, hend]
    exact ⟨hshadow, (hcount _).trans (if_pos rfl), (hsticky _).trans (if_pos rfl), hsel, fun k hk => (hcount k).trans (if_neg hk),
      fun m hm => (hsticky m).trans (if_neg hm), hothers⟩
  · rw [State.readOf_evtCount h, State.evtCountSeen_of_snap hsnap]
  · rw [State.readOf_evtCount h, State.evtCountSeen_of_none hsnap]
  · have haddr : (BitVec.ofNat 18 (page.val * 0x1000 + 0x020)).toNat = page.val * 0x1000 + 0x020 := Nat.mod_eq_of_lt (by omega)
    have hwrite : headerWrite who page.val 0x020 v = evtCountWrite who page.val (bitsOf v 31 27) false := by
      rw [← decide_eq_false (p := bitsOf v 26 26 = 1) (by omega)]
      rfl
    rw [haddr, State.regWrite_header s who v (by decide), hwrite]
    obtain ⟨t, hf⟩ : ∃ t, evtCountWrite who page.val (bitsOf v 31 27) false ((s.portEdge who).disarm who page.val) = .ok t :=
      ⟨_, evtCountWrite_eq ..⟩
    obtain ⟨htook, timers, crcPass, busRefuse, hend⟩ := State.accessBy_took h v hf
    obtain ⟨timers', expert, hreg⟩ := s.atRegister_eq who page.val
    obtain ⟨hshadow, hsel, hcount, hsticky⟩ := evtCountWrite_select (bitsOf_lt v 31 27) hf
    rw [hreg] at hcount hsticky
    refine ⟨htook, ?_⟩
    rw [State.access, hend]
    exact ⟨hshadow, hsel, hcount, hsticky⟩

end Sys2Proof.Machine
end

section
/-!
Refutes O4: a forced rise on page TRC can raise the same event twice.
-/
namespace Sys2Proof.Machine

/-- The trace ring runs at D1 with its page events enabled, and its next word is the last one before it wraps. -/
def ringAboutToWrap : State :=
  { regs := [(DBG_STAT.LEVEL.key 0, 0x40000000), (PAGE_STAT.READY.key pgTRC, 1), (TRC_CTRL.EN.key 0, 0x80000008), (TRC_STAT.WR_PTR.key 0, 0xFFF)] }

/-- The bus admits the device's write of EVT_FORCE there. -/
theorem admitted_ringAboutToWrap : Admitted ringAboutToWrap .pairA pgTRC 0x018 := by decide +kernel

/-- The forced rise of event bit 0 of page TRC counts, and so does the wrap of the ring that takes the word of that rise (R42, R415). -/
theorem evtForce_counts_twice :
    (ringAboutToWrap.access .pairA pgTRC 0x018 1 (forceWrite pgTRC 1)).evtCountOf pgTRC 0 = 2 := by decide +kernel

/-- Refutes O4: its second clause lets EVT_FORCE count once, and leaves out that the trace ring takes a word of the forced rise (R415), whose writing
may raise the very event of page TRC, as it does on `ringAboutToWrap`. -/
theorem not_eventBitsLatchAndCount : ¬ Obligations.EventBitsLatchAndCount := by
  rintro ⟨-, hforce, -, -⟩
  obtain ⟨t, hexec, -, -, hcount⟩ := hforce .pairA 6 1 ringAboutToWrap 0 admitted_ringAboutToWrap (by decide)
  cases hexec
  exact absurd (evtForce_counts_twice.symm.trans hcount) (by decide +kernel)

end Sys2Proof.Machine
end

section
/-!
Writes of context words: what one leaves in the context's words, which depends on the context table alone.
-/
namespace Sys2Proof.Machine

variable {s t u : State} {c w : Nat} {v : Word}

/-! The context table after each operation of a word's write. -/

theorem State.cword_congr (h : s.ctx = u.ctx) (c w : Nat) : s.cword c w = u.cword c w := by rw [State.cword, State.cword, h]

theorem State.cget_congr (h : s.ctx = u.ctx) (f : CFld) (c : Nat) : s.cget f c = u.cget f c := by
  rw [State.cget, State.cget, State.cword_congr h]

theorem State.ctxState_congr (h : s.ctx = u.ctx) (c : Nat) : s.ctxState c = u.ctxState c := State.cget_congr h _ c

theorem State.ctx_setCword_congr (h : s.ctx = u.ctx) : (s.setCword c w v).ctx = (u.setCword c w v).ctx := by
  rw [State.setCword, State.setCword, h]

theorem State.ctx_cset_congr (h : s.ctx = u.ctx) (f : CFld) (n : Nat) : (s.cset f c n).ctx = (u.cset f c n).ctx := by
  rw [State.cset, State.cset, State.cword_congr h]
  exact State.ctx_setCword_congr h

theorem State.ctx_setCtxRt (s : State) (c : Nat) (r : CtxRt) : (s.setCtxRt c r).ctx = s.ctx := rfl

theorem State.ctx_ite {p : Prop} [Decidable p] {a b : State} (ha : a.ctx = s.ctx) (hb : b.ctx = s.ctx) : (if p then a else b).ctx = s.ctx := by
  split
  · exact ha
  · exact hb

theorem State.ctx_freeSlot (s : State) (c : Nat) : (s.freeSlot c).ctx = s.ctx := by
  unfold State.freeSlot
  split <;> rfl

theorem State.ctx_resetHolds (s : State) (c : Nat) : (s.resetHolds c).ctx = s.ctx := by
  unfold State.resetHolds
  exact State.ctx_ite rfl rfl

theorem State.ctx_keepGridWord (s : State) (c : Nat) (old : Word) : (s.keepGridWord c old).ctx = s.ctx := State.ctx_setCtxRt ..

theorem State.ctx_holdCmd_congr (h : s.ctx = u.ctx) (cmd : Nat) : (s.holdCmd c cmd).ctx = (u.holdCmd c cmd).ctx := by
  unfold State.holdCmd
  split
  · exact h
  · exact State.ctx_cset_congr h _ _

theorem State.ctx_deriveKi_congr (h : s.ctx = u.ctx) : (s.deriveKi c).ctx = (u.deriveKi c).ctx := by
  unfold State.deriveKi
  simp only [State.cget_congr h]
  exact State.ctx_cset_congr (State.ctx_cset_congr (State.ctx_cset_congr (State.ctx_cset_congr h _ _) _ _) _ _) _ _

theorem State.ctx_deriveTrim_congr (h : s.ctx = u.ctx) : (s.deriveTrim c).ctx = (u.deriveTrim c).ctx := by
  unfold State.deriveTrim
  rw [State.cget_congr h]
  exact State.ctx_cset_congr (State.ctx_cset_congr h _ _) _ _

/-- A rise leaves the context table. -/
theorem Hushed.ctx {s0 : State} (h : Hushed s0 t) : t.ctx = s0.ctx := by
  have heq := congrArg State.ctx h.hush
  exact heq

theorem State.ctx_pulse (s : State) (page n : Nat) : (s.pulse page n).ctx = s.ctx := (Hushed.ite Hushed.refl Hushed.refl.rise).ctx

theorem State.ctx_cmdResult (s : State) (c r : Nat) : (s.cmdResult c r).ctx = (s.cset CTX_CTRL.CMD_RESULT c r).ctx := by
  unfold State.cmdResult
  split
  · exact State.ctx_pulse ..
  · rfl

/-- What a write of a word other than 0, 13 and 15 does besides leaves the context table. -/
theorem State.ctx_ctxWordEffects (old : Word) (h0 : w ≠ 0) (h13 : w ≠ 13) (h15 : w ≠ 15) : (s.ctxWordEffects c w old v).ctx = s.ctx := by
  unfold State.ctxWordEffects
  rw [if_neg h0, if_neg h13, if_neg h15]
  refine State.ctx_ite (State.ctx_setCtxRt ..) (State.ctx_ite (State.ctx_setCtxRt ..) (State.ctx_ite ?_ (State.ctx_ite ?_ rfl)))
  · exact State.ctx_ite (.trans (State.ctx_setCtxRt ..) (State.ctx_ite (State.ctx_setCtxRt ..) rfl)) (State.ctx_ite (State.ctx_setCtxRt ..) rfl)
  · exact State.ctx_ite (State.ctx_ite (State.ctx_resetHolds ..) rfl) (.trans (State.ctx_keepGridWord ..) (State.ctx_ite (State.ctx_resetHolds ..) rfl))

theorem State.ctx_ctxWordEffects_congr (h : s.ctx = u.ctx) (old : Word) : (s.ctxWordEffects c w old v).ctx = (u.ctxWordEffects c w old v).ctx := by
  by_cases h0 : w = 0
  · unfold State.ctxWordEffects
    rw [if_pos h0, if_pos h0]
    refine State.ctx_holdCmd_congr ?_ _
    exact (State.ctx_ite (State.ctx_setCtxRt ..) rfl).trans (h.trans (State.ctx_ite (State.ctx_setCtxRt ..) rfl).symm)
  by_cases h13 : w = 13
  · subst h13
    exact State.ctx_deriveKi_congr h
  by_cases h15 : w = 15
  · subst h15
    exact State.ctx_deriveTrim_congr h
  · rw [State.ctx_ctxWordEffects old h0 h13 h15, State.ctx_ctxWordEffects old h0 h13 h15, h]

/-- The word that a write asks for: its RW bits, and the others as they were. -/
def State.wordAsked (s : State) (c w : Nat) (v : Word) : Word := mergeWord (s.cword c w) v (BitVec.ofNat 32 (ctxRwMask w))

/-- The bits of a word that the state of its context holds fast (R73, R74). -/
def State.wordFixed (s : State) (c w : Nat) : Word :=
  if w = 6 then (if s.ctxState c = ctxFREE then 0 else 0xFFFFFFFF)
  else if s.ctxState c = ctxFREE ∨ s.ctxState c = ctxCONFIGURED then 0 else ctxPlacementMask w

/-- The word that a write stores. -/
def State.wordStored (s : State) (c w : Nat) (v : Word) : Word := mergeWord (s.wordAsked c w v) (s.cword c w) (s.wordFixed c w)

/-- A write's bits that act and are not kept. -/
def actingMask (w : Nat) : Word := if w = 0 then 0xE0000000 else if w = 12 then 0x10000000 else 0

/-- A change of the tick spacing gives the pool entry back. -/
def State.leavePool (s : State) (c w : Nat) (v : Word) : State :=
  if decide (w = 0) && decide (bitsOf (s.cword c w) 19 18 ≠ bitsOf (s.wordStored c w v) 19 18) then s.freeSlot c else s

/-- A write of a word stores it, acts, and records a bit that was held fast. -/
theorem State.ctxWordApply_eq (s : State) (c w : Nat) (v : Word) : s.ctxWordApply c w v =
    if s.wordStored c w v = s.wordAsked c w v then
      ((s.leavePool c w v).setCword c w (s.wordStored c w v)).ctxWordEffects c w (s.cword c w) (mergeWord (s.wordStored c w v) v (actingMask w))
    else (((s.leavePool c w v).setCword c w (s.wordStored c w v)).ctxWordEffects c w (s.cword c w)
      (mergeWord (s.wordStored c w v) v (actingMask w))).cmdResult c 2 := rfl

theorem State.ctx_leavePool (s : State) (c w : Nat) (v : Word) : (s.leavePool c w v).ctx = s.ctx := State.ctx_ite (State.ctx_freeSlot ..) rfl

theorem State.wordAsked_congr (h : s.ctx = u.ctx) (c w : Nat) (v : Word) : s.wordAsked c w v = u.wordAsked c w v := by
  rw [State.wordAsked, State.wordAsked, State.cword_congr h]

theorem State.wordStored_congr (h : s.ctx = u.ctx) (c w : Nat) (v : Word) : s.wordStored c w v = u.wordStored c w v := by
  rw [State.wordStored, State.wordStored, State.wordFixed, State.wordFixed, State.wordAsked_congr h, State.cword_congr h, State.ctxState_congr h]

/-- The table after a word's write depends on the table before it alone. -/
theorem State.ctx_ctxWordApply_congr (h : s.ctx = u.ctx) : (s.ctxWordApply c w v).ctx = (u.ctxWordApply c w v).ctx := by
  have hpool : (s.leavePool c w v).ctx = (u.leavePool c w v).ctx := (State.ctx_leavePool ..).trans (h.trans (State.ctx_leavePool ..).symm)
  have hstore : (((s.leavePool c w v).setCword c w (s.wordStored c w v)).ctxWordEffects c w (s.cword c w)
      (mergeWord (s.wordStored c w v) v (actingMask w))).ctx = (((u.leavePool c w v).setCword c w (u.wordStored c w v)).ctxWordEffects c w
        (u.cword c w) (mergeWord (u.wordStored c w v) v (actingMask w))).ctx := by
    rw [State.wordStored_congr h, State.cword_congr h]
    exact State.ctx_ctxWordEffects_congr (State.ctx_setCword_congr hpool) _
  rw [State.ctxWordApply_eq, State.ctxWordApply_eq, State.wordStored_congr h, State.wordAsked_congr h]
  rw [State.wordStored_congr h] at hstore
  split
  · exact hstore
  · rw [State.ctx_cmdResult, State.ctx_cmdResult]
    exact State.ctx_cset_congr hstore _ _

/-- A write of a word that acts on no other leaves in the table the word that it stores. -/
theorem State.ctx_ctxWordApply_plain (h0 : w ≠ 0) (h13 : w ≠ 13) (h15 : w ≠ 15) (hfree : s.wordStored c w v = s.wordAsked c w v) :
    (s.ctxWordApply c w v).ctx = (s.setCword c w (s.wordStored c w v)).ctx := by
  rw [State.ctxWordApply_eq, if_pos hfree, State.ctx_ctxWordEffects _ h0 h13 h15]
  exact State.ctx_setCword_congr (State.ctx_leavePool ..)

/-! A context word and its fields after a write. -/

@[simp] theorem State.cword_setCword_same (s : State) (c w : Nat) (v : Word) : (s.setCword c w v).cword c w = v := Tbl.get_set_same _ _ _ _

theorem State.cword_setCword_ne {k : Nat} (h : k ≠ w) (s : State) (c : Nat) (v : Word) : (s.setCword c w v).cword c k = s.cword c k :=
  Tbl.get_set_ne _ _ _ (by omega)

theorem getLsbD_mergeWord {i : Nat} (hi : i < 32) (old new mask : Word) :
    (mergeWord old new mask).getLsbD i = if mask.getLsbD i then new.getLsbD i else old.getLsbD i := by
  rw [mergeWord, BitVec.getLsbD_or, BitVec.getLsbD_and, BitVec.getLsbD_and, BitVec.getLsbD_not]
  cases mask.getLsbD i <;> simp [hi]

/-- A word is kept under the mask 0, and replaced under the full one. -/
theorem mergeWord_zero (old new : Word) : mergeWord old new 0 = old := BitVec.eq_of_getLsbD_eq fun i hi => by
  rw [getLsbD_mergeWord hi, if_neg (by simp)]

theorem mergeWord_full (old new : Word) : mergeWord old new 0xFFFFFFFF = new := BitVec.eq_of_getLsbD_eq fun i hi => by
  have hones : (BitVec.allOnes 32).getLsbD i = true := by rw [BitVec.getLsbD_allOnes, decide_eq_true hi]
  exact (getLsbD_mergeWord hi old new (BitVec.allOnes 32)).trans (if_pos hones)

/-- A field that a mask covers is the new word's. -/
theorem bitsOf_mergeWord {mask : Word} {hi lo : Nat} (hcover : ∀ j < hi + 1 - lo, mask.getLsbD (lo + j) = true) (old new : Word) :
    bitsOf (mergeWord old new mask) hi lo = bitsOf new hi lo := by
  refine Nat.eq_of_testBit_eq fun j => ?_
  rw [testBit_bitsOf, testBit_bitsOf]
  by_cases hj : j < hi + 1 - lo
  · rw [BitVec.testBit_toNat, BitVec.testBit_toNat, getLsbD_mergeWord (BitVec.lt_of_getLsbD (hcover j hj)), if_pos (hcover j hj)]
  · simp [hj]

/-- Words 0, 1, 2, 20 and 21 place a context, and word 6 has an owner; no bit of another is held fast. -/
theorem State.wordStored_loose (hw : w ∉ [0, 1, 2, 6, 20, 21]) : s.wordStored c w v = s.wordAsked c w v := by
  simp only [List.mem_cons, List.not_mem_nil, or_false, not_or] at hw
  obtain ⟨h0, h1, h2, h6, h20, h21⟩ := hw
  have hfix : s.wordFixed c w = 0 := by simp [State.wordFixed, ctxPlacementMask, *]
  rw [State.wordStored, hfix, mergeWord_zero]

/-- A word that acts on no other and of which nothing is held fast is written as asked. -/
theorem State.cword_ctxWordApply_loose (hw : w ∉ [0, 1, 2, 6, 13, 15, 20, 21]) (k : Nat) :
    (s.ctxWordApply c w v).cword c k = if k = w then s.wordAsked c w v else s.cword c k := by
  simp only [List.mem_cons, List.not_mem_nil, or_false, not_or] at hw
  have hstored : s.wordStored c w v = s.wordAsked c w v := State.wordStored_loose (by simp [hw])
  rw [State.cword_congr (State.ctx_ctxWordApply_plain (by omega) (by omega) (by omega) hstored), hstored]
  split
  · subst k
    exact State.cword_setCword_same ..
  · exact State.cword_setCword_ne ‹_› ..

/-- In FREE word 6 is written as asked (R73). -/
theorem State.cword_ctxWordApply_owner (hfree : s.ctxState c = ctxFREE) : (s.ctxWordApply c 6 v).cword c 6 = mergeWord (s.cword c 6) v 0x11F := by
  have hfix : s.wordFixed c 6 = 0 := by rw [State.wordFixed, if_pos rfl, if_pos hfree]
  have hstored : s.wordStored c 6 v = s.wordAsked c 6 v := by rw [State.wordStored, hfix, mergeWord_zero]
  rw [State.cword_congr (State.ctx_ctxWordApply_plain (by decide) (by decide) (by decide) hstored), State.cword_setCword_same, hstored]
  rfl

/-- A new owner is shown by the word that a write asks for. -/
theorem State.ownerOf_wordAsked : bitsOf (s.wordAsked c 6 v) 4 0 = bitsOf v 4 0 := bitsOf_mergeWord (by decide) _ _

/-- Outside FREE another owner changes nothing of word 6, and CMD_RESULT says so (R73). -/
theorem State.ctxWordApply_owner_held (hheld : s.ctxState c ≠ ctxFREE) (hother : s.cget CTX_OWNER.OWNER c ≠ bitsOf v 4 0) :
    (s.ctxWordApply c 6 v).cword c 6 = s.cword c 6 ∧ (s.ctxWordApply c 6 v).cget CTX_CTRL.CMD_RESULT c = 2 := by
  have hfix : s.wordFixed c 6 = 0xFFFFFFFF := by rw [State.wordFixed, if_pos rfl, if_neg hheld]
  have hstored : s.wordStored c 6 v = s.cword c 6 := by rw [State.wordStored, hfix, mergeWord_full]
  have hrefused : s.wordStored c 6 v ≠ s.wordAsked c 6 v := fun heq =>
    hother ((congrArg (bitsOf · 4 0) (hstored.symm.trans heq)).trans State.ownerOf_wordAsked)
  have hctx : (s.ctxWordApply c 6 v).ctx = ((s.setCword c 6 (s.cword c 6)).cset CTX_CTRL.CMD_RESULT c 2).ctx := by
    rw [State.ctxWordApply_eq, if_neg hrefused, State.ctx_cmdResult, hstored]
    refine State.ctx_cset_congr ?_ _ _
    rw [State.ctx_ctxWordEffects _ (by decide) (by decide) (by decide)]
    exact State.ctx_setCword_congr (State.ctx_leavePool ..)
  constructor
  · rw [State.cword_congr hctx]
    exact (State.cword_setCword_ne (by decide) ..).trans (State.cword_setCword_same ..)
  · rw [State.cget_congr hctx]
    exact (congrArg (bitsOf · _ _) (State.cword_setCword_same ..)).trans (bitsOf_putBits_same (by decide) (by decide) _ _)

end Sys2Proof.Machine
end

section
/-!
The context table windows: what a write through one leaves in it, in the staging and in the context table.
-/
namespace Sys2Proof.Machine

variable {s t : State} {who : Init} {c w : Nat} {v : Word}

/-! Windows and stages. -/

@[simp] theorem State.window_setWindow (s : State) (h : Nat) (x : Window) : (s.setWindow h x).window h = x := Tbl.get_set_same _ _ _ _

@[simp] theorem State.coefStaged_setCoefStage (s : State) (who : Init) (x : Option (Nat × Word)) : (s.setCoefStage who x).coefStaged who = x :=
  Tbl.get_set_same _ _ _ _

@[simp] theorem State.ctxRt_setCtxRt (s : State) (c : Nat) (r : CtxRt) : (s.setCtxRt c r).ctxRt c = r := Tbl.get_set_same _ _ _ _

theorem State.ctxRt_cset (s : State) (f : CFld) (c v d : Nat) : (s.cset f c v).ctxRt d = s.ctxRt d := rfl

/-- The staging of a window takes other words. -/
def State.setStagedWords (s : State) (h : Nat) (l : List (Nat × Word)) : State := s.setWindow h { s.window h with words := l }

theorem State.window_setStagedWords (s : State) (h : Nat) (l : List (Nat × Word)) : (s.setStagedWords h l).window h = { s.window h with words := l } :=
  State.window_setWindow ..

/-- An accepted access leaves no reason for the window. -/
theorem State.noteRefuse_of_took (h : Took s who) : s.noteRefuse who = s := if_pos h

/-- A refused access leaves its reason in the window (R50). -/
theorem State.noteRefuse_of_refused {r : Nat} (h : s.lastReason who = r) (hr : r ≠ 0) :
    s.noteRefuse who = s.setWindow who.holder { s.window who.holder with lastRefuse := r } := by
  subst h
  exact if_neg hr

/-! Words of a coefficient pair (R54). -/

theorem ctxCoef_some (h : (ctxCoef w).isSome = true) : w ∈ [32, 34, 36, 38] := by
  unfold ctxCoef at h
  split at h <;> simp at h ⊢

theorem coefOfS_some {p : CoefPair} (h : coefOfS w = some p) : w ∈ [33, 35, 37, 39] := by
  unfold coefOfS at h
  split at h
  · have hm := ctxCoef_some (Option.isSome_of_eq_some h)
    simp only [List.mem_cons, List.not_mem_nil, or_false] at hm ⊢
    omega
  · cases h

/-- The words of the coefficient pairs have no check of their own: a pair is checked where its s commits it. -/
theorem State.ctxCheck_coef (s : State) (i : Option Ident) (c : Nat) (v : Word) (hw : w ∈ [32, 33, 34, 35, 36, 37, 38, 39]) :
    s.ctxCheck i c w v = none := by
  fin_cases hw <;> rfl

theorem ctxCoef_none_of_coefOfS {p : CoefPair} (h : coefOfS w = some p) : ctxCoef w = none := by
  have hw := coefOfS_some h
  fin_cases hw <;> rfl

/-- The RW bits of a pair's two words (R54). -/
theorem State.wordAsked_coefM {p : CoefPair} (h : coefOfS w = some p) (s : State) (c : Nat) (v : Word) : s.wordAsked c (w - 1) v = v := by
  have hw := coefOfS_some h
  fin_cases hw <;> exact mergeWord_full ..

theorem State.wordAsked_coefS {p : CoefPair} (h : coefOfS w = some p) (s : State) (c : Nat) (v : Word) :
    s.wordAsked c w v = mergeWord (s.cword c w) v 0x1F := by
  have hw := coefOfS_some h
  fin_cases hw <;> rfl

/-! A write of a context word by value. -/

/-- A mantissa is staged. -/
theorem State.ctxDirect_mantissa (hcoef : (ctxCoef w).isSome = true) (s : State) (who : Init) (c : Nat) (v : Word) :
    s.ctxDirect who c w v = .ok (s.setCoefStage who (some (ctxCoefKey c w, v))) := by
  have hw := ctxCoef_some hcoef
  fin_cases hw <;> rfl

/-- A pair in its range commits with its s. -/
theorem State.ctxDirect_pair {p : CoefPair} (hp : coefOfS w = some p)
    (hok : coefOk p (s.coefM who (ctxCoefKey c (w - 1)) (s.liveWord c (w - 1))).toNat (bitsOf v 4 0) = true) :
    s.ctxDirect who c w v =
      .ok ((s.directWords c [(w - 1, s.coefM who (ctxCoefKey c (w - 1)) (s.liveWord c (w - 1))), (w, v &&& 0x1F)]).setCoefStage who none) := by
  have hcheck : s.ctxCheck (s.identOf who) c w v = none := by
    have hw := coefOfS_some hp
    exact s.ctxCheck_coef _ _ _ (by fin_cases hw <;> decide)
  unfold State.ctxDirect
  rw [hcheck, ctxCoef_none_of_coefOfS hp, hp]
  exact if_pos hok

/-- Any other word is written. -/
theorem State.ctxDirect_word (hm : ctxCoef w = none) (hs : coefOfS w = none) (hcheck : s.ctxCheck (s.identOf who) c w v = none) :
    s.ctxDirect who c w v = .ok (s.directWords c [(w, v)]) := by
  unfold State.ctxDirect
  rw [hcheck, hm, hs]

/-- A word of an identity that may not change it is refused. -/
theorem State.ctxDirect_refused {r : Reason} (hcheck : s.ctxCheck (s.identOf who) c w v = some r) : s.ctxDirect who c w v = .error r := by
  unfold State.ctxDirect
  rw [hcheck]

/-- A held command leaves the words that wait for the tick. -/
theorem State.direct_holdCmd (s : State) (c cmd : Nat) : ((s.holdCmd c cmd).ctxRt c).direct = (s.ctxRt c).direct := by
  unfold State.holdCmd
  split
  · rfl
  · rw [State.ctxRt_cset, State.ctxRt_setCtxRt]

/-- With a tick to come, the words wait for it in their order (R51). -/
theorem State.direct_directWords (htick : s.hasTick c = true) (l : List (Nat × Word)) : ((s.directWords c l).ctxRt c).direct =
    (s.ctxRt c).direct ++ l.map fun e => (e.1, if e.1 = 0 then e.2 &&& 0x1FFFFFFF else e.2) := by
  unfold State.directWords
  rw [if_pos htick]
  refine List.foldlRecOn (motive := fun t : State => (t.ctxRt c).direct = _) l _ ?_ fun t ht e _ => ?_
  · exact congrArg CtxRt.direct (State.ctxRt_setCtxRt ..)
  · split
    · exact (State.direct_holdCmd ..).trans ht
    · exact ht

/-- Words other than 0 that wait for a tick leave the table. -/
theorem State.ctx_directWords_tick (htick : s.hasTick c = true) {l : List (Nat × Word)} (hl : ∀ e ∈ l, e.1 ≠ 0) :
    (s.directWords c l).ctx = s.ctx := by
  unfold State.directWords
  rw [if_pos htick]
  refine List.foldlRecOn (motive := fun t : State => t.ctx = s.ctx) l _ rfl fun t ht e he => ?_
  rw [if_neg (hl e he)]
  exact ht

/-- Without one they apply at once (R51). -/
theorem State.directWords_at_once (htick : s.hasTick c = false) (l : List (Nat × Word)) :
    s.directWords c l = l.foldl (fun t e => t.ctxWordApply c e.1 e.2) s :=
  if_neg (Bool.eq_false_iff.mp htick)

/-- A pair that applies at once is stored by its two words. -/
theorem State.directWords_pair {p : CoefPair} (hp : coefOfS w = some p) (htick : s.hasTick c = false) (m v : Word) :
    (s.directWords c [(w - 1, m), (w, v)]).cword c (w - 1) = m ∧ (s.directWords c [(w - 1, m), (w, v)]).cword c w = mergeWord (s.cword c w) v 0x1F := by
  have hw := coefOfS_some hp
  have hm : w - 1 ∉ [0, 1, 2, 6, 13, 15, 20, 21] := by fin_cases hw <;> decide
  have hs : w ∉ [0, 1, 2, 6, 13, 15, 20, 21] := by fin_cases hw <;> decide
  have hne : w - 1 ≠ w := by fin_cases hw <;> decide
  rw [State.directWords_at_once htick]
  simp only [List.foldl_cons, List.foldl_nil]
  constructor
  · rw [State.cword_ctxWordApply_loose hs, if_neg hne, State.cword_ctxWordApply_loose hm, if_pos rfl, State.wordAsked_coefM hp]
  · rw [State.cword_ctxWordApply_loose hs, if_pos rfl, State.wordAsked_coefS hp, State.cword_ctxWordApply_loose hm, if_neg hne.symm]

/-! A write through an aperture (R51). -/

/-- In direct mode a write reaches the words of the context. -/
theorem apertureWrite_direct (hmode : (s.window who.holder).staged = false) :
    apertureWrite who w v s = s.ctxDirect who (s.window who.holder).ctx w v :=
  if_pos (by rw [hmode]; rfl)

/-- A mantissa waits for its s in both modes. -/
theorem apertureWrite_mantissa (hcoef : (ctxCoef w).isSome = true) (s : State) (who : Init) (v : Word) :
    apertureWrite who w v s = .ok (s.setCoefStage who (some (ctxCoefKey (s.window who.holder).ctx w, v))) := by
  cases hmode : (s.window who.holder).staged
  · rw [apertureWrite_direct hmode, State.ctxDirect_mantissa hcoef]
  · unfold apertureWrite
    have hw := ctxCoef_some hcoef
    dsimp only
    rw [if_neg (by rw [hmode]; decide)]
    fin_cases hw <;> rfl

/-- A pair in its range is staged with its s. -/
theorem apertureWrite_staged_pair {p : CoefPair} (hmode : (s.window who.holder).staged = true) (hp : coefOfS w = some p)
    (hok : coefOk p (s.coefM who (ctxCoefKey (s.window who.holder).ctx (w - 1)) (s.stagedOr (s.window who.holder) (w - 1))).toNat (bitsOf v 4 0) = true) :
    apertureWrite who w v s = .ok ((s.setStagedWords who.holder (stageWord (stageWord (s.window who.holder).words (w - 1)
      (s.coefM who (ctxCoefKey (s.window who.holder).ctx (w - 1)) (s.stagedOr (s.window who.holder) (w - 1)))) w (v &&& 0x1F))).setCoefStage who none) := by
  have hcheck : s.ctxCheck (s.identOf who) (s.window who.holder).ctx w v = none := by
    have hw := coefOfS_some hp
    exact s.ctxCheck_coef _ _ _ (by fin_cases hw <;> decide)
  unfold apertureWrite
  dsimp only
  rw [if_neg (by rw [hmode]; decide), hcheck, ctxCoef_none_of_coefOfS hp, hp]
  exact if_pos hok

/-- Any other word is staged. -/
theorem apertureWrite_staged (hmode : (s.window who.holder).staged = true) (hm : ctxCoef w = none) (hs : coefOfS w = none)
    (hcheck : s.ctxCheck (s.identOf who) (s.window who.holder).ctx w v = none) : apertureWrite who w v s =
      .ok (s.setStagedWords who.holder (stageWord (s.window who.holder).words w v)) := by
  unfold apertureWrite
  dsimp only
  rw [if_neg (by rw [hmode]; decide), hcheck, hm, hs]
  rfl

/-- What a window's holder sees of an accepted access: the register's own write `f`, but for timers, locks, check passes and refusals. -/
theorem State.accessBy_noted {adm : State → Option Reason} {page off : Nat} (h : Admits adm s who page off) (v : Word) {f : State → WRes}
    {P : State → Prop} (hf : ∀ timers expert, ∃ t, f { s with timers := timers, expert := expert } = .ok t ∧ P t) :
    ∃ t timers crcPass busRefuse, P t ∧ (s.accessBy adm who page off v f).noteRefuse who =
        { t with timers := timers, crcPass := crcPass, busRefuse := busRefuse } ∧ Took ((s.accessBy adm who page off v f).noteRefuse who) who := by
  obtain ⟨timers, expert, hreg⟩ := s.atRegister_eq who page
  obtain ⟨t, hok, hP⟩ := hf timers expert
  obtain ⟨htook, timers', crcPass, busRefuse, hend⟩ := State.accessBy_took h v (hreg ▸ hok)
  rw [State.noteRefuse_of_took htook]
  exact ⟨t, timers', crcPass, busRefuse, hP, hend, htook⟩

end Sys2Proof.Machine
end

section
/-!
What reporting leaves of a page's header. `KeepsStatus s0 t` says that the words below EVT_STICKY of every page (identity, PAGE_CTRL and PAGE_STAT) read
in `t` as in `s0`: events, fault wires and trace words do not reach them.
-/
namespace Sys2Proof.Machine

-- One proof after the other: a default argument by a tactic waits until the kernel has checked all that stands before it.
set_option Elab.async false

variable {s0 s t : State} {page n : Nat} {b : Bool}

/-- The words of each page below EVT_STICKY are those of `s0`. -/
structure KeepsStatus (s0 t : State) : Prop where
  word : ∀ k, k % 0x1000 < 0x10 → t.word k = s0.word k

theorem KeepsStatus.refl : KeepsStatus s s := ⟨fun _ _ => rfl⟩

theorem KeepsStatus.update {evtCount lostIn flt evr reports trc gcp free} (h : KeepsStatus s0 s) :
    KeepsStatus s0 { s with evtCount := evtCount, lostIn := lostIn, flt := flt, evr := evr, reports := reports, trc := trc, gcp := gcp, free := free } :=
  ⟨h.word⟩

theorem KeepsStatus.ite {c : Prop} [Decidable c] {a b : State} (ha : KeepsStatus s0 a) (hb : KeepsStatus s0 b) : KeepsStatus s0 (if c then a else b) := by
  split
  · exact ha
  · exact hb

theorem KeepsStatus.fset {f : Fld} {u v : Nat} (h : KeepsStatus s0 s) (hk : 0x10 ≤ f.key u % 0x1000) : KeepsStatus s0 (s.fset f u v) :=
  ⟨fun k hlow => (State.word_setWord_ne s _ (by omega)).trans (h.word k hlow)⟩

/-- A register at one offset of each page that it stands on. -/
theorem KeepsStatus.setAt {f : Fld} {u v : Nat} (h : KeepsStatus s0 s) (hbase : 0x10 ≤ f.base % 0x1000 := by decide)
    (hstride : f.stride % 0x1000 = 0 := by rfl) : KeepsStatus s0 (s.fset f u v) :=
  h.fset (by rw [Fld.key, Nat.add_mod, Nat.mul_mod, hstride]; simpa using hbase)

/-- A word of a register array on the fault collector's page. -/
theorem KeepsStatus.setFlt {f : Fld} {u v : Nat} (h : KeepsStatus s0 s) (hu : u < 16) (hlo : 0x7010 ≤ f.base := by decide)
    (hhi : f.base < 0x7800 := by decide) (hstride : f.stride = 4 := by rfl) : KeepsStatus s0 (s.fset f u v) :=
  h.fset (by rw [Fld.key, hstride]; omega)

theorem KeepsStatus.raiseMsix {v : Nat} (h : KeepsStatus s0 s) : KeepsStatus s0 (s.raiseMsix v) := h.update

theorem KeepsStatus.report {kind ident page bit : Nat} {body : List Nat} (h : KeepsStatus s0 s) : KeepsStatus s0 (s.report kind ident page bit body) :=
  h.update

theorem KeepsStatus.forward (h : KeepsStatus s0 s) (hp : page < 64) : KeepsStatus s0 (s.forward page n) := by
  have hsrc := eventSource_lt hp n
  have hpend : KeepsStatus s0 (s.fsetBit FLT_EVT_PEND.PEND (eventSource page n / 32 - 5) (eventSource page n % 32) true) := h.setFlt (by omega)
  unfold State.forward
  exact .ite hpend.update.raiseMsix.report hpend

theorem KeepsStatus.riseHere (h : KeepsStatus s0 s) (hp : page < 64 := by decide) : KeepsStatus s0 (s.riseHere page n) :=
  have hcount : KeepsStatus s0 ((s.fsetBit EVT_STICKY.STICKY page n true).setEvtCount page n _) := h.setAt.update
  .ite (hcount.forward hp) hcount

theorem KeepsStatus.trcStop (h : KeepsStatus s0 s) : KeepsStatus s0 s.trcStop := h.setAt

theorem KeepsStatus.trcEvent (h : KeepsStatus s0 s) : KeepsStatus s0 (s.trcEvent n) := .ite h h.riseHere

theorem KeepsStatus.trcWrite {w : TrcWord} (h : KeepsStatus s0 s) : KeepsStatus s0 (s.trcWrite w) :=
  .ite h.trcStop.setAt.trcEvent <|
  have ht := ((KeepsStatus.ite h.setAt h).update.setAt).trcStop
  .ite ht.trcEvent ht

theorem KeepsStatus.rise (h : KeepsStatus s0 s) (hp : page < 64 := by decide) : KeepsStatus s0 (s.rise page n) :=
  .ite (h.riseHere hp).update.trcWrite (h.riseHere hp)

theorem KeepsStatus.cond (h : KeepsStatus s0 s) (hp : page < 64 := by decide) : KeepsStatus s0 (s.cond page n b) :=
  .ite (h.setAt.rise hp) h.setAt

theorem KeepsStatus.pulse (h : KeepsStatus s0 s) (hp : page < 64 := by decide) : KeepsStatus s0 (s.pulse page n) := .ite h (h.rise hp)

theorem KeepsStatus.drive {src : Nat} (h : KeepsStatus s0 s) (hsrc : src < 512 := by decide) : KeepsStatus s0 (s.drive src b) := by
  have hlevel (now : Bool) : KeepsStatus s0 (State.fsetBit { s with flt := { s.flt with drive := Tbl.set (fun _ => false) s.flt.drive src b } }
      FLT_LEVEL.LEVEL (src / 32) (src % 32) now) := h.update.setFlt (by omega)
  exact .ite (hlevel _).update (hlevel _)

theorem KeepsStatus.fget (h : KeepsStatus s0 t) {f : Fld} (u : Nat) (hk : f.key u % 0x1000 < 0x10) : t.fget f u = s0.fget f u :=
  State.fget_congr (h.word _ hk)

end Sys2Proof.Machine
end

section
/-!
What answers leave alone. `Stays s0 t` says that each page runs or not in `t` as in `s0`, and that the windows and the context table are those of `s0`.
-/
namespace Sys2Proof.Machine

-- One proof after the other: a default argument by a tactic waits until the kernel has checked all that stands before it.
set_option Elab.async false

variable {s0 s t : State}

/-- No write of the field reaches READY of a page: it stands above the lowest bit of its word, or its step never leads to PAGE_STAT. -/
def Fld.sparesReady (f : Fld) : Bool :=
  f.inWord && decide (0 < f.lo) || decide (f.base % f.stride.gcd 0x1000 ≠ 0xC % f.stride.gcd 0x1000)

theorem State.running_fset {f : Fld} (hf : f.sparesReady = true) (s : State) (u v page : Nat) : (s.fset f u v).running page = s.running page := by
  unfold State.running State.fon
  by_cases hkey : f.key u = PAGE_STAT.READY.key page
  · have hlo : f.inWord = true ∧ 0 < f.lo := by
      simp only [Fld.sparesReady, Bool.or_eq_true, Bool.and_eq_true, decide_eq_true_eq] at hf
      refine hf.resolve_right fun hne => hne ?_
      have hmod := congrArg (· % f.stride.gcd 0x1000) hkey
      have hstride : f.stride * u % f.stride.gcd 0x1000 = 0 := Nat.mod_eq_zero_of_dvd ((Nat.gcd_dvd_left ..).mul_right u)
      have hpage : 0x1000 * page % f.stride.gcd 0x1000 = 0 := Nat.mod_eq_zero_of_dvd ((Nat.gcd_dvd_right ..).mul_right page)
      simpa [Fld.key, Nat.add_mod, hstride, hpage, PAGE_STAT.READY] using hmod
    obtain ⟨hword, hlo⟩ := hlo
    simp only [Fld.inWord, decide_eq_true_eq] at hword
    have hbit : (s.fset f u v).fget PAGE_STAT.READY page = s.fget PAGE_STAT.READY page := by
      simp only [State.fget, State.fset, ← hkey, State.word_setWord_same]
      exact bitsOf_putBits_disjoint hword.1 hword.2 (.inr hlo) _ _
    rw [hbit]
  · rw [State.fget_fset_ne (Ne.symm hkey)]

/-- Each page runs in `t` as in `s0`. -/
structure KeepsReady (s0 t : State) : Prop where
  ready : ∀ page, t.running page = s0.running page

/-- Each page runs in `t` as in `s0`, and the windows and the context table are the same. -/
structure Stays (s0 t : State) : Prop extends KeepsReady s0 t where
  windows : t.windows = s0.windows
  ctx : t.ctx = s0.ctx

theorem Stays.refl : Stays s s := ⟨⟨fun _ => rfl⟩, rfl, rfl⟩

theorem Stays.trans (h : Stays s0 s) (ht : Stays s t) : Stays s0 t :=
  ⟨⟨fun page => (ht.ready page).trans (h.ready page)⟩, ht.windows.trans h.windows, ht.ctx.trans h.ctx⟩

theorem Stays.update {evtCount lostIn flt evr reports trc gcp fhl free} (h : Stays s0 s) :
    Stays s0 { s with evtCount := evtCount, lostIn := lostIn, flt := flt, evr := evr, reports := reports, trc := trc, gcp := gcp, fhl := fhl, free := free } :=
  ⟨⟨h.ready⟩, h.windows, h.ctx⟩

theorem Stays.fset {f : Fld} {u v : Nat} (h : Stays s0 s) (hf : f.sparesReady = true := by decide) : Stays s0 (s.fset f u v) :=
  ⟨⟨fun page => (State.running_fset hf s u v page).trans (h.ready page)⟩, h.windows, h.ctx⟩

theorem Stays.ite {c : Prop} [Decidable c] {a b : State} (ha : Stays s0 a) (hb : Stays s0 b) : Stays s0 (if c then a else b) := by
  split
  · exact ha
  · exact hb

theorem Stays.foldl {α : Type} {l : List α} {f : State → α → State} {a : State} (h : Stays s0 a) (hf : ∀ b e, Stays s0 b → Stays s0 (f b e)) :
    Stays s0 (l.foldl f a) := List.foldlRecOn (motive := Stays s0) l f h fun b hb e _ => hf b e hb

theorem Hushed.windows (h : Hushed s0 t) : t.windows = s0.windows := by
  have heq := congrArg State.windows h.hush
  exact heq

/-- A report leaves all that stays. -/
theorem Stays.reported (h : Stays s0 s) (hk : KeepsStatus s t) (hq : Hushed s t) : Stays s0 t :=
  h.trans ⟨⟨fun page => by rw [State.running, State.running, State.fon, State.fon, hk.fget page (by simp [Fld.key, PAGE_STAT.READY])]⟩, hq.windows, hq.ctx⟩

theorem Hushed.pulse {page n : Nat} (h : Hushed s0 s) : Hushed s0 (s.pulse page n) := .ite h h.rise

theorem Hushed.cond {page n : Nat} {b : Bool} (h : Hushed s0 s) : Hushed s0 (s.cond page n b) := .ite h.fset.rise h.fset

theorem Stays.pulse {page n : Nat} (h : Stays s0 s) (hp : page < 64 := by decide) : Stays s0 (s.pulse page n) :=
  h.reported (KeepsStatus.refl.pulse hp) Hushed.refl.pulse

theorem Stays.cond {page n : Nat} {b : Bool} (h : Stays s0 s) (hp : page < 64 := by decide) : Stays s0 (s.cond page n b) :=
  h.reported (KeepsStatus.refl.cond hp) Hushed.refl.cond

/-! Marks of the pool, transports and answers (R312 to R318). -/

theorem Stays.highMark {page n fill mark hyst : Nat} (h : Stays s0 s) (hp : page < 64 := by decide) : Stays s0 (s.highMark page n fill mark hyst) :=
  .ite (h.cond hp) (.ite (h.cond hp) h)

theorem Stays.lowMark {page n fill mark hyst : Nat} (h : Stays s0 s) (hp : page < 64 := by decide) : Stays s0 (s.lowMark page n fill mark hyst) :=
  .ite (h.cond hp) (.ite (h.cond hp) h)

theorem Stays.poolMarks {q : Nat} (h : Stays s0 s) : Stays s0 (s.poolMarks q) := h.highMark.lowMark

theorem Stays.freeBuf {q : Nat} (h : Stays s0 s) : Stays s0 (s.freeBuf q) := .ite h h.fset.fset.poolMarks

theorem Stays.freeOf {o : OutPkt} (h : Stays s0 s) : Stays s0 (s.freeOf o) := .ite h.freeBuf h

theorem Stays.tookFree (h : Stays s0 s) : Stays s0 s.tookFree := h.update

theorem Stays.tagged {o : OutPkt} (h : Stays s0 s) : Stays s0 (s.tagged o).1 := by
  unfold State.tagged
  split
  · exact h
  · split
    · exact h
    · exact h.tookFree.tookFree

theorem Stays.emitBytes {o : OutPkt} {l : List Nat} (h : Stays s0 s) : Stays s0 (s.emitBytes o l) := h.update

theorem Stays.setAnSlot {q slot : Nat} {l : List Nat} (h : Stays s0 s) : Stays s0 (s.setAnSlot q slot l) := h.update

theorem Stays.raiseMsix {v : Nat} (h : Stays s0 s) : Stays s0 (s.raiseMsix v) := h.update

theorem Stays.toRing {o : OutPkt} (h : Stays s0 s) : Stays s0 (s.toRing o) := h.tagged.emitBytes.setAnSlot.fset.raiseMsix

theorem Stays.fhSend {d lane : Nat} {f : FhFrame} {bad : Bool} {tag : Option (Fin 65536)} (h : Stays s0 s) : Stays s0 (s.fhSend d lane f bad tag) := by
  unfold State.fhSend
  split
  · exact h
  · exact h.update

theorem Stays.emit {o : OutPkt} (h : Stays s0 s) : Stays s0 (s.emit o) := .ite h.tagged.emitBytes.fhSend h.tagged.emitBytes

theorem Stays.setAnWaiting {q : Nat} {l : List OutPkt} (h : Stays s0 s) : Stays s0 (s.setAnWaiting q l) := h.update

theorem Stays.sendOut {o : OutPkt} (h : Stays s0 s) : Stays s0 (s.sendOut o) := .ite h.emit.freeOf (.ite h.toRing.freeOf h.setAnWaiting)

theorem Stays.setReplay {k : Nat} {r : Replay} (h : Stays s0 s) : Stays s0 (s.setReplay k r) := h.update

theorem Stays.keepAnswer {k : Nat} {o : OutPkt} (h : Stays s0 s) : Stays s0 (s.keepAnswer k o) := .ite h.setReplay h

theorem Stays.countAnswer {v : Verdict} (h : Stays s0 s) : Stays s0 (s.countAnswer v) := by
  cases v with
  | served => exact h
  | delayed _ => exact h.fset.pulse
  | refused _ => exact h.fset.pulse

theorem Stays.answerPkt {p : Pkt} {v : Verdict} {detail retry : Nat} {payload : List Nat} {buf : Bool} (h : Stays s0 s) :
    Stays s0 (s.answerPkt p v detail retry payload buf) := (Stays.ite h.countAnswer h.countAnswer.keepAnswer).sendOut

theorem Stays.setRunning {q : Nat} {p : Option Pkt} (h : Stays s0 s) : Stays s0 (s.setRunning q p) := h.update

theorem Stays.finish {q : Nat} {v : Verdict} {detail retry : Nat} {payload : List Nat} (h : Stays s0 s) :
    Stays s0 (s.finish q v detail retry payload) := by
  unfold State.finish
  split
  · exact h
  · exact h.setRunning.answerPkt

theorem Stays.served {q : Nat} (h : Stays s0 s) : Stays s0 (s.served q) := h.finish

theorem Stays.refused {q r detail : Nat} (h : Stays s0 s) : Stays s0 (s.refused q r detail) := h.finish

theorem Stays.commitAnswered {ident reason : Nat} (h : Stays s0 s) : Stays s0 (s.commitAnswered ident reason) := h.foldl fun t q ht => by
  cases t.runningOf q with
  | none => exact ht
  | some p => exact .ite (.ite ht.served ht.refused) ht

end Sys2Proof.Machine
end

section
/-!
Settles O7: the context table windows and the coefficient pairs.
-/
namespace Sys2Proof.Machine

variable {s t : State} {who : Init} {c w : Nat} {v : Word}

/-! Accepted writes through a window. -/

/-- An accepted access through a window ends as the register's own write `f` ends, but for timers, check passes and refusals. -/
theorem State.accessBy_noted_ends {adm : State → Option Reason} {page off : Nat} {P : State → Prop} (h : Admits adm s who page off) (v : Word)
    {f : State → WRes} (hP : ∀ t timers crcPass busRefuse, P t → P { t with timers := timers, crcPass := crcPass, busRefuse := busRefuse })
    (hf : ∀ timers expert, ∃ t, f { s with timers := timers, expert := expert } = .ok t ∧ P t) :
    Took ((s.accessBy adm who page off v f).noteRefuse who) who ∧ P ((s.accessBy adm who page off v f).noteRefuse who) := by
  obtain ⟨t, timers, crcPass, busRefuse, ht, hend, htook⟩ := State.accessBy_noted h v hf
  exact ⟨htook, hend ▸ hP t timers crcPass busRefuse ht⟩

/-- The admission of a write through the window of an initiator. -/
abbrev AdmitsAperture (s : State) (who : Init) (w : Nat) : Prop :=
  Admits (fun u => u.admitWindow who (u.window who.holder).ctx (decide (32 ≤ w))) s who pgCTXW (apertureOff who w)

/-- In direct mode a word is written. -/
theorem apertureWrite_word (hmode : (s.window who.holder).staged = false) (hm : ctxCoef w = none) (hs : coefOfS w = none)
    (hcheck : s.ctxCheck (s.identOf who) (s.window who.holder).ctx w v = none) :
    apertureWrite who w v s = .ok (s.directWords (s.window who.holder).ctx [(w, v)]) :=
  (apertureWrite_direct hmode).trans (State.ctxDirect_word hm hs hcheck)

/-- In direct mode an s word commits its pair. -/
theorem apertureWrite_pair {p : CoefPair} (hmode : (s.window who.holder).staged = false) (hp : coefOfS w = some p) {m : Word}
    (hm : s.coefM who (ctxCoefKey (s.window who.holder).ctx (w - 1)) (s.liveWord (s.window who.holder).ctx (w - 1)) = m)
    (hok : coefOk p m.toNat (bitsOf v 4 0) = true) :
    apertureWrite who w v s = .ok ((s.directWords (s.window who.holder).ctx [(w - 1, m), (w, v &&& 0x1F)]).setCoefStage who none) := by
  subst hm
  exact (apertureWrite_direct hmode).trans (State.ctxDirect_pair hp hok)

/-- A mantissa is staged in both modes (R54). -/
theorem State.writeAperture_mantissa (h : AdmitsAperture s who w) (hcoef : (ctxCoef w).isSome = true) (v : Word) :
    Took (s.writeAperture who w v) who ∧ (s.writeAperture who w v).coefStaged who = some (ctxCoefKey (s.window who.holder).ctx w, v) ∧
      ((s.writeAperture who w v).window who.holder).words = (s.window who.holder).words ∧ (s.writeAperture who w v).ctx = s.ctx :=
  State.accessBy_noted_ends (P := fun t => t.coefStaged who = some (ctxCoefKey (s.window who.holder).ctx w, v) ∧
    (t.window who.holder).words = (s.window who.holder).words ∧ t.ctx = s.ctx) h v (fun _ _ _ _ ht => ht)
    fun _ _ => ⟨_, apertureWrite_mantissa hcoef _ who v, State.coefStaged_setCoefStage .., rfl, rfl⟩

/-- In staged mode a word is staged (R51). -/
theorem State.writeAperture_staged (h : AdmitsAperture s who w) (hmode : (s.window who.holder).staged = true) (hm : ctxCoef w = none)
    (hs : coefOfS w = none) (hcheck : s.ctxCheck (s.identOf who) (s.window who.holder).ctx w v = none) :
    Took (s.writeAperture who w v) who ∧ ((s.writeAperture who w v).window who.holder).words = stageWord (s.window who.holder).words w v ∧
      (s.writeAperture who w v).ctx = s.ctx :=
  State.accessBy_noted_ends (P := fun t => (t.window who.holder).words = stageWord (s.window who.holder).words w v ∧ t.ctx = s.ctx) h v
    (fun _ _ _ _ ht => ht) fun _ _ => ⟨_, apertureWrite_staged hmode hm hs hcheck, congrArg Window.words (State.window_setStagedWords ..), rfl⟩

/-- In staged mode an s word stages its pair (R54). -/
theorem State.writeAperture_staged_pair {p : CoefPair} (h : AdmitsAperture s who w) (hmode : (s.window who.holder).staged = true)
    (hp : coefOfS w = some p)
    (hok : coefOk p (s.coefM who (ctxCoefKey (s.window who.holder).ctx (w - 1)) (s.stagedOr (s.window who.holder) (w - 1))).toNat (bitsOf v 4 0) = true) :
    Took (s.writeAperture who w v) who ∧ (s.writeAperture who w v).window who.holder = { s.window who.holder with
      words := stageWord (stageWord (s.window who.holder).words (w - 1)
                 (s.coefM who (ctxCoefKey (s.window who.holder).ctx (w - 1)) (s.stagedOr (s.window who.holder) (w - 1)))) w (v &&& 0x1F) } ∧
      (s.writeAperture who w v).coefStaged who = none ∧ (s.writeAperture who w v).ctx = s.ctx :=
  State.accessBy_noted_ends (P := fun t => t.window who.holder = { s.window who.holder with
      words := stageWord (stageWord (s.window who.holder).words (w - 1)
                 (s.coefM who (ctxCoefKey (s.window who.holder).ctx (w - 1)) (s.stagedOr (s.window who.holder) (w - 1)))) w (v &&& 0x1F) } ∧
      t.coefStaged who = none ∧ t.ctx = s.ctx) h v
    (fun _ _ _ _ ht => ht) fun _ _ => ⟨_, apertureWrite_staged_pair hmode hp hok, State.window_setStagedWords .., State.coefStaged_setCoefStage .., rfl⟩

/-- In direct mode a word of a context with ticks waits for the next one (R51). -/
theorem State.writeAperture_waits (h : AdmitsAperture s who w) (hmode : (s.window who.holder).staged = false) (hm : ctxCoef w = none)
    (hs : coefOfS w = none) (hcheck : s.ctxCheck (s.identOf who) (s.window who.holder).ctx w v = none)
    (htick : s.hasTick (s.window who.holder).ctx = true) :
    Took (s.writeAperture who w v) who ∧ ((s.writeAperture who w v).ctxRt (s.window who.holder).ctx).direct =
      (s.ctxRt (s.window who.holder).ctx).direct ++ [(w, if w = 0 then v &&& 0x1FFFFFFF else v)] ∧ (w = 0 ∨ (s.writeAperture who w v).ctx = s.ctx) :=
  State.accessBy_noted_ends (P := fun t => (t.ctxRt (s.window who.holder).ctx).direct =
      (s.ctxRt (s.window who.holder).ctx).direct ++ [(w, if w = 0 then v &&& 0x1FFFFFFF else v)] ∧ (w = 0 ∨ t.ctx = s.ctx)) h v
    (fun _ _ _ _ ht => ht) fun timers expert => ⟨_, apertureWrite_word hmode hm hs hcheck,
      State.direct_directWords (s := { s with timers := timers, expert := expert }) htick _, (Nat.eq_zero_or_pos w).imp_right fun hpos =>
        State.ctx_directWords_tick (s := { s with timers := timers, expert := expert }) (l := [(w, v)]) htick (List.forall_mem_singleton.mpr hpos.ne')⟩

/-- In direct mode a word of a context without ticks applies at once (R51). -/
theorem State.writeAperture_applies (h : AdmitsAperture s who w) (hmode : (s.window who.holder).staged = false) (hm : ctxCoef w = none)
    (hs : coefOfS w = none) (hcheck : s.ctxCheck (s.identOf who) (s.window who.holder).ctx w v = none)
    (htick : s.hasTick (s.window who.holder).ctx = false) :
    Took (s.writeAperture who w v) who ∧ (s.writeAperture who w v).ctx = (s.ctxWordApply (s.window who.holder).ctx w v).ctx :=
  State.accessBy_noted_ends (P := fun t => t.ctx = (s.ctxWordApply (s.window who.holder).ctx w v).ctx) h v
    (fun _ _ _ _ ht => ht) fun timers expert => ⟨_, apertureWrite_word hmode hm hs hcheck,
      (congrArg State.ctx (State.directWords_at_once (s := { s with timers := timers, expert := expert }) htick [(w, v)])).trans (State.ctx_ctxWordApply_congr rfl)⟩

/-- In direct mode an s word commits its pair, which waits for a tick where there is one (R51, R54). -/
theorem State.writeAperture_pair {p : CoefPair} (h : AdmitsAperture s who w) (hmode : (s.window who.holder).staged = false) (hp : coefOfS w = some p)
    {m : Word} (hm : s.coefM who (ctxCoefKey (s.window who.holder).ctx (w - 1)) (s.liveWord (s.window who.holder).ctx (w - 1)) = m)
    (hok : coefOk p m.toNat (bitsOf v 4 0) = true) :
    Took (s.writeAperture who w v) who ∧ (s.writeAperture who w v).coefStaged who = none ∧
      (s.hasTick (s.window who.holder).ctx = true → ((s.writeAperture who w v).ctxRt (s.window who.holder).ctx).direct =
        (s.ctxRt (s.window who.holder).ctx).direct ++ [(w - 1, m), (w, v &&& 0x1F)]) ∧
      (s.hasTick (s.window who.holder).ctx = false → (s.writeAperture who w v).cword (s.window who.holder).ctx (w - 1) = m ∧
        (s.writeAperture who w v).cword (s.window who.holder).ctx w = mergeWord (s.cword (s.window who.holder).ctx w) (v &&& 0x1F) 0x1F) := by
  have hplain : ∀ e ∈ [(w - 1, m), (w, v &&& 0x1F)], e.1 ≠ 0 := by
    have hw := coefOfS_some hp
    fin_cases hw <;> simp
  have hmap : [(w - 1, m), (w, v &&& 0x1F)].map (fun e => (e.1, if e.1 = 0 then e.2 &&& 0x1FFFFFFF else e.2)) = [(w - 1, m), (w, v &&& 0x1F)] :=
    (List.map_congr_left fun e he => by rw [if_neg (hplain e he), id]).trans (List.map_id _)
  refine State.accessBy_noted_ends (P := fun t => t.coefStaged who = none ∧
      (s.hasTick (s.window who.holder).ctx = true → (t.ctxRt (s.window who.holder).ctx).direct =
        (s.ctxRt (s.window who.holder).ctx).direct ++ [(w - 1, m), (w, v &&& 0x1F)]) ∧
      (s.hasTick (s.window who.holder).ctx = false → t.cword (s.window who.holder).ctx (w - 1) = m ∧
        t.cword (s.window who.holder).ctx w = mergeWord (s.cword (s.window who.holder).ctx w) (v &&& 0x1F) 0x1F)) h v
    (fun _ _ _ _ ht => ht) fun timers expert => ?_
  refine ⟨_, apertureWrite_pair (s := { s with timers := timers, expert := expert }) hmode hp hm hok, State.coefStaged_setCoefStage .., fun htick => ?_, fun htick => ?_⟩
  · exact (State.direct_directWords (s := { s with timers := timers, expert := expert }) htick _).trans (congrArg _ hmap)
  · exact State.directWords_pair (s := { s with timers := timers, expert := expert }) hp htick _ _

end Sys2Proof.Machine
end

section
/-!
Selections, commits, reads and owners of the context windows (R51, R52, R73), and the coefficient pairs of the canceller (R54).
-/
namespace Sys2Proof.Machine

variable {s t : State} {who : Init} {c w : Nat} {v : Word}

/-! Selection, snapshot and commit (R51, R52). -/

theorem ctxwSelect_ok {mode : Bool} (hidle : (s.window who.holder).pending = false) (hctx : c < s.member.contexts)
    (hadmit : s.admitWindow who c false = none) : ctxwSelect who c mode s =
      .ok (s.setWindow who.holder { s.window who.holder with ctx := c, staged := mode, snap := none, snapWanted := mode, words := [] }) := by
  unfold ctxwSelect
  dsimp only
  rw [if_neg (by simp [hidle]), if_neg (by omega), hadmit]

/-- A selection of an admitted context leaves it, its mode and no staging (R51). -/
theorem State.window_selectCtx (h : Admits (fun u => u.admitLifecycle who) s who pgCTXW (selOff who)) (mode : Bool)
    (hidle : (s.window who.holder).pending = false) (hctx : c < s.member.contexts) (hadmit : s.admitWindow who c false = none) :
    Took (s.selectCtx who c mode) who ∧ (s.selectCtx who c mode).window who.holder =
      { s.window who.holder with ctx := c, staged := mode, snap := none, snapWanted := mode, words := [] } :=
  State.accessBy_noted_ends (P := fun t => t.window who.holder = { s.window who.holder with
      ctx := c, staged := mode, snap := none, snapWanted := mode, words := [] }) h _ (fun _ _ _ _ ht => ht)
    fun _ _ => ⟨_, ctxwSelect_ok hidle hctx hadmit, State.window_setWindow ..⟩

/-- A wanted snapshot is taken. -/
theorem State.window_takeSnapshot {h : Nat} (hwanted : (s.window h).snapWanted = true) : (s.takeSnapshot h).window h =
    { s.window h with snap := some ((List.range 64).map fun k => s.cword (s.window h).ctx k), snapWanted := false } := by
  unfold State.takeSnapshot
  rw [if_pos hwanted]
  exact State.window_setWindow ..

/-- A commit of a window that its initiator may write waits. -/
theorem ctxwCommit_waits (hidle : (s.window who.holder).pending = false) (hmode : (s.window who.holder).staged = true)
    (hadmit : s.admitWindow who (s.window who.holder).ctx false = none) : ctxwCommit who (s.window who.holder).ctx (s.window who.holder).staged s =
      .ok (s.setWindow who.holder { s.window who.holder with pending := true, done := false }) := by
  have hcommit : s.admitCommit who (s.window who.holder).ctx = none := by rw [State.admitCommit, hadmit]
  unfold ctxwCommit State.acceptCommit
  dsimp only
  rw [if_neg (by simp [hidle]), if_neg (by simp [hmode]), hcommit, hadmit]
  rfl

/-- The window of a commit that is discarded for its owner. -/
def Window.discarded (x : Window) : Window := { x with words := [], done := true, lastRefuse := Reason.notOwner.code, lastCtx := x.ctx }

/-- A commit of a domain that has lost the context is discarded (R52). -/
theorem ctxwCommit_discarded (hidle : (s.window who.holder).pending = false) (hmode : (s.window who.holder).staged = true)
    (hlost : s.admitWindow who (s.window who.holder).ctx false = some .notOwner) :
    ctxwCommit who (s.window who.holder).ctx (s.window who.holder).staged s = .ok (s.setWindow who.holder (s.window who.holder).discarded) := by
  have hcommit : s.admitCommit who (s.window who.holder).ctx = none := by rw [State.admitCommit, hlost]
  unfold ctxwCommit State.acceptCommit
  dsimp only
  rw [if_neg (by simp [hidle]), if_neg (by simp [hmode]), hcommit, if_pos hlost]
  rfl

/-- An admitted commit waits for its context, with the staged words as they were. -/
theorem State.window_commitWindow (h : Admits (fun u => u.admitLifecycle who) s who pgCTXW (selOff who))
    (hidle : (s.window who.holder).pending = false) (hmode : (s.window who.holder).staged = true)
    (hadmit : s.admitWindow who (s.window who.holder).ctx false = none) :
    Took (s.commitWindow who) who ∧ (s.commitWindow who).window who.holder = { s.window who.holder with pending := true, done := false } :=
  State.accessBy_noted_ends (P := fun t => t.window who.holder = { s.window who.holder with pending := true, done := false }) h _
    (fun _ _ _ _ ht => ht) fun timers expert => ⟨_, ctxwCommit_waits (s := { s with timers := timers, expert := expert }) hidle hmode hadmit, State.window_setWindow ..⟩

/-- A commit of a domain that has lost the context leaves the context's words. -/
theorem State.commitWindow_lost (h : Admits (fun u => u.admitLifecycle who) s who pgCTXW (selOff who))
    (hidle : (s.window who.holder).pending = false) (hmode : (s.window who.holder).staged = true)
    (hlost : s.admitWindow who (s.window who.holder).ctx false = some .notOwner) :
    (s.commitWindow who).window who.holder = (s.window who.holder).discarded ∧ (s.commitWindow who).ctx = s.ctx :=
  (State.accessBy_noted_ends (f := ctxwCommit who (s.window who.holder).ctx (s.window who.holder).staged)
    (P := fun t => t.window who.holder = (s.window who.holder).discarded ∧ t.ctx = s.ctx) h _ (fun _ _ _ _ ht => ht) fun timers expert =>
      ⟨_, ctxwCommit_discarded (s := { s with timers := timers, expert := expert }) hidle hmode hlost, State.window_setWindow .., rfl⟩).2

/-! The commit applies (R51, R52). -/

/-- The window of a commit that has ended. -/
def Window.committed (x : Window) (reason : Nat) : Window := { x with pending := false, done := true, words := [], lastRefuse := reason, lastCtx := x.ctx }

theorem Stays.window (h : Stays s t) (k : Nat) : t.window k = s.window k := by rw [State.window, State.window, h.windows]

/-- The end of a commit: its window, and the answer of a CTX_WRITE. -/
def State.endCommit (s : State) (h : Nat) (x : Window) (reason : Nat) : State :=
  if 3 ≤ h then (s.setWindow h (x.committed reason)).commitAnswered (h - 3) reason else s.setWindow h (x.committed reason)

theorem State.stays_endCommit (s : State) (h : Nat) (x : Window) (reason : Nat) :
    Stays (s.setWindow h (x.committed reason)) (s.endCommit h x reason) := .ite Stays.refl.commitAnswered .refl

theorem State.window_endCommit (s : State) (h : Nat) (x : Window) (reason : Nat) : (s.endCommit h x reason).window h = x.committed reason :=
  ((s.stays_endCommit ..).window h).trans (State.window_setWindow ..)

theorem State.ctx_endCommit (s : State) (h : Nat) (x : Window) (reason : Nat) : (s.endCommit h x reason).ctx = s.ctx := (s.stays_endCommit ..).ctx

/-- The identity is a domain that does not own the context (R52). -/
def State.lostContext (s : State) (i : Option Ident) (c : Nat) : Bool :=
  match i with
  | some (.domain d) => decide (s.cget CTX_OWNER.OWNER c ≠ d.val)
  | _ => false

theorem State.lostContext_of_owns {i : Option Ident} (hown : ∀ d : Fin 16, i = some (.domain d) → s.cget CTX_OWNER.OWNER c = d.val) :
    s.lostContext i c = false := by
  rcases i with _ | ⟨_ | _ | _ | _ | d⟩
  case some.domain => exact decide_eq_false (not_not_intro (hown d rfl))
  all_goals rfl

/-- A commit applies the staged words, or nothing where its domain has lost the context. -/
theorem State.windowApply_eq (s : State) (h : Nat) (i : Option Ident) : s.windowApply h i =
    (if s.lostContext i (s.window h).ctx then s
     else (s.window h).words.foldl (fun t e => t.ctxWordApply (s.window h).ctx e.1 e.2) s).endCommit h (s.window h)
      (if s.lostContext i (s.window h).ctx then Reason.notOwner.code else 0) := rfl

/-- A commit whose identity holds the context applies the staged words. -/
theorem State.windowApply_held {h : Nat} {i : Option Ident}
    (hown : ∀ d : Fin 16, i = some (.domain d) → s.cget CTX_OWNER.OWNER (s.window h).ctx = d.val) :
    (s.windowApply h i).window h = (s.window h).committed 0 ∧
      (s.windowApply h i).ctx = ((s.window h).words.foldl (fun u e => u.ctxWordApply (s.window h).ctx e.1 e.2) s).ctx := by
  rw [State.windowApply_eq, State.lostContext_of_owns hown]
  exact ⟨State.window_endCommit .., State.ctx_endCommit ..⟩

/-- A commit whose domain has lost the context applies nothing. -/
theorem State.windowApply_lost {h : Nat} {d : Fin 16} (hlost : s.cget CTX_OWNER.OWNER (s.window h).ctx ≠ d.val) :
    (s.windowApply h (some (.domain d))).window h = (s.window h).committed Reason.notOwner.code ∧
      (s.windowApply h (some (.domain d))).ctx = s.ctx := by
  rw [State.windowApply_eq, show s.lostContext (some (.domain d)) (s.window h).ctx = true from decide_eq_true hlost]
  exact ⟨State.window_endCommit .., State.ctx_endCommit ..⟩

theorem State.applyDirect_nil (hnone : (s.ctxRt c).direct = []) : s.applyDirect c = s.setCtxRt c { s.ctxRt c with direct := [] } := by
  rw [State.applyDirect, hnone]
  rfl

/-- With no direct word waiting, what waits to be applied is the window's staging alone. -/
theorem State.window_applyDirect_nil (hnone : (s.ctxRt c).direct = []) (h : Nat) : (s.applyDirect c).window h = s.window h := by
  rw [State.applyDirect_nil hnone]
  rfl

theorem State.ctx_applyDirect_nil (hnone : (s.ctxRt c).direct = []) : (s.applyDirect c).ctx = s.ctx := by
  rw [State.applyDirect_nil hnone]
  rfl

/-! Reads through a window (R51, R52, R54). -/

/-- The selected context belongs to the initiator, where that is a domain. -/
abbrev OwnsSelected (s : State) (who : Init) : Prop :=
  ∀ d : Fin 16, s.identOf who = some (.domain d) → s.cget CTX_OWNER.OWNER (s.window who.holder).ctx = d.val

@[simp] theorem State.readOf_answerRead (s : State) (who : Init) (v : Word) : (s.answerRead who v).readOf who = v := Tbl.get_set_same _ _ _ _

theorem State.coefShadow_setCoefShadow (s : State) (who : Init) (x : Option (Nat × Word)) :
    Tbl.get (fun _ => none) (s.setCoefShadow who x).coefShadow who.holder = x := Tbl.get_set_same _ _ _ _

theorem State.coefShadow_answerRead (s : State) (who : Init) (v : Word) : (s.answerRead who v).coefShadow = s.coefShadow := rfl

/-- The identity holds the context, where it is a domain. -/
def State.holdsContext (s : State) (i : Option Ident) (c : Nat) : Bool :=
  match i with
  | some (.domain d) => decide (s.cget CTX_OWNER.OWNER c = d.val)
  | _ => true

/-- What an aperture read of a held context shows, by the mode. -/
def State.showAperture (s : State) (who : Init) (w : Nat) : State :=
  if (s.window who.holder).staged then
    match (s.window who.holder).snap with
    | some l => s.answerRead who (l.getD w 0)
    | none => (s.refuseRead who pgCTXW .windowBusy).noteRefuse who
  else s.ctxReadWord who (s.window who.holder).ctx w

theorem apertureRead_eq (who : Init) (w : Nat) (s : State) : apertureRead who w s =
    if !s.holdsContext (s.identOf who) (s.window who.holder).ctx then (s.refuseRead who pgCTXW .notOwner).noteRefuse who
    else s.showAperture who w := rfl

theorem State.holdsContext_of_owns (hown : OwnsSelected s who) : s.holdsContext (s.identOf who) (s.window who.holder).ctx = true := by
  unfold OwnsSelected at hown
  revert hown
  rcases s.identOf who with _ | ⟨_ | _ | _ | _ | d⟩ <;> intro hown
  case some.domain => exact decide_eq_true (hown d rfl)
  all_goals rfl

theorem apertureRead_owned (hown : OwnsSelected s who) (w : Nat) : apertureRead who w s = s.showAperture who w := by
  rw [apertureRead_eq, State.holdsContext_of_owns hown]
  rfl

theorem State.showAperture_direct (hmode : (s.window who.holder).staged = false) (w : Nat) :
    s.showAperture who w = s.ctxReadWord who (s.window who.holder).ctx w := by
  unfold State.showAperture
  rw [if_neg (by simp [hmode])]

theorem State.showAperture_staged {l : List Word} (hmode : (s.window who.holder).staged = true) (hsnap : (s.window who.holder).snap = some l) (w : Nat) :
    s.showAperture who w = s.answerRead who (l.getD w 0) := by
  unfold State.showAperture
  rw [if_pos hmode, hsnap]

theorem State.showAperture_unsnapped (hmode : (s.window who.holder).staged = true) (hsnap : (s.window who.holder).snap = none) (w : Nat) :
    s.showAperture who w = (s.refuseRead who pgCTXW .windowBusy).noteRefuse who := by
  unfold State.showAperture
  rw [if_pos hmode, hsnap]

/-- A read of a context word is answered, and takes the reason of an earlier refusal away with it. -/
theorem State.ctxReadWord_live (s : State) (who : Init) (c : Nat) (hs : coefOfS w = none) :
    (s.ctxReadWord who c w).lastReason who = s.lastReason who ∧ (s.ctxReadWord who c w).readOf who = s.liveWord c w ∧
      ((ctxCoef w).isSome = true →
        Tbl.get (fun _ => none) (s.ctxReadWord who c w).coefShadow who.holder = some (ctxCoefKey c w, s.liveWord c (w + 1))) := by
  unfold State.ctxReadWord
  by_cases hm : (ctxCoef w).isSome = true
  · rw [if_pos hm]
    exact ⟨rfl, State.readOf_answerRead .., fun _ => by rw [State.coefShadow_answerRead, State.coefShadow_setCoefShadow]⟩
  · rw [if_neg hm, if_neg (by simp [hs])]
    exact ⟨rfl, State.readOf_answerRead .., fun h => absurd h hm⟩

theorem State.ctxReadWord_coefS (s : State) (who : Init) (c : Nat) (hs : (coefOfS w).isSome = true) :
    s.ctxReadWord who c w = s.readCoefS who (ctxCoefKey c (w - 1)) (s.liveWord c w) := by
  obtain ⟨p, hp⟩ := Option.isSome_iff_exists.mp hs
  unfold State.ctxReadWord
  rw [if_neg (by simp [ctxCoef_none_of_coefOfS hp]), if_pos hs]

/-- A read of an s takes the shadow of its mantissa, once, or the live word (R54). -/
theorem State.readCoefS_shadow {key k : Nat} {live : Word} (hshadow : Tbl.get (fun _ => none) s.coefShadow who.holder = some (k, v)) :
    (s.readCoefS who key live).lastReason who = s.lastReason who ∧ (s.readCoefS who key live).readOf who = (if k = key then v else live) ∧
      Tbl.get (fun _ => none) (s.readCoefS who key live).coefShadow who.holder = (if k = key then none else some (k, v)) := by
  unfold State.readCoefS
  rw [hshadow]
  by_cases hk : k = key
  · simp only [if_pos hk]
    exact ⟨rfl, State.readOf_answerRead .., State.coefShadow_setCoefShadow ..⟩
  · simp only [if_neg hk]
    exact ⟨rfl, State.readOf_answerRead .., hshadow⟩

theorem State.readCoefS_live {key : Nat} {live : Word} (hshadow : Tbl.get (fun _ => none) s.coefShadow who.holder = none) :
    (s.readCoefS who key live).lastReason who = s.lastReason who ∧ (s.readCoefS who key live).readOf who = live := by
  unfold State.readCoefS
  rw [hshadow]
  exact ⟨rfl, State.readOf_answerRead ..⟩

/-- An admitted read of an aperture whose context the initiator holds shows it, on a state that differs in timers and in the reason of the access. -/
theorem State.readAperture_eq (h : Readable s who pgCTXW) (hown : OwnsSelected s who) (w : Nat) : ∃ timers busRefuse,
    s.accessRead who pgCTXW (apertureRead who w) = State.showAperture { s with timers := timers, busRefuse := busRefuse } who w ∧
      Took { s with timers := timers, busRefuse := busRefuse } who := by
  obtain ⟨timers, hport⟩ := s.portEdge_eq who
  have hend := State.accessRead_of_readable h (apertureRead who w)
  have htook := took_accepted (s.portEdge who) who
  rw [hport] at hend htook
  exact ⟨timers, _, hend.trans (apertureRead_owned (s := State.accepted { s with timers := timers } who) hown w), htook⟩

end Sys2Proof.Machine
end

section
/-!
Refused accesses: what the bus records of one, and what it leaves.
-/
namespace Sys2Proof.Machine

variable {s t : State} {who : Init} {page off : Nat} {r : Reason}

theorem Hushed.busRefuse {s0 : State} (h : Hushed s0 t) : t.busRefuse = s0.busRefuse := by
  have heq := congrArg State.busRefuse h.hush
  exact heq

/-- A refusal shows in reports and in the reason of its initiator (R49). -/
theorem State.hushed_refuse (s : State) (who : Init) (page : Nat) (r : Reason) :
    Hushed { s with busRefuse := Tbl.set (fun _ => 0) s.busRefuse who.holder r.code } (s.refuse who page r) := by
  unfold State.refuse
  exact Hushed.refl.fset.fset.pulse

theorem State.lastReason_refuse (s : State) (who : Init) (page : Nat) (r : Reason) : (s.refuse who page r).lastReason who = r.code := by
  rw [State.lastReason, (s.hushed_refuse who page r).busRefuse]
  exact Tbl.get_set_same _ _ _ _

theorem State.ctx_refuse (s : State) (who : Init) (page : Nat) (r : Reason) : (s.refuse who page r).ctx = s.ctx := (s.hushed_refuse who page r).ctx

theorem State.lastReason_setWindow (s : State) (h : Nat) (x : Window) (who : Init) : (s.setWindow h x).lastReason who = s.lastReason who := rfl

theorem State.ctx_setWindow (s : State) (h : Nat) (x : Window) : (s.setWindow h x).ctx = s.ctx := rfl

/-- The tests of the bus hold on the state on which the register's own write works. -/
theorem State.admits_atRegister {adm : State → Option Reason} {u : State} (hu : (s.portEdge who).disarm who page = u) (h : Admits adm s who page off) :
    u.pagePresent page = true ∧ u.running page = true ∧ u.rst.recovery = false ∧ u.reaches who = true ∧ (u.identOf who).isNone = false ∧
      adm u = none ∧ (u.fon PAGE_CTRL.CFG_LOCK page && countedAt page off) = false ∧ u.fon PAGE_STAT.SELFTEST_ACTIVE page = false := by
  obtain ⟨hpresent, hrunning, hrecovery, hreaches, hadm, hlock, hselftest⟩ := h
  obtain ⟨timers, expert, heq⟩ := s.atRegister_eq who page
  rw [hu] at hadm heq
  refine ⟨?_, ?_, ?_, ?_, ?_, hadm, ?_, ?_⟩ <;> rw [heq]
  · exact hpresent
  · exact hrunning
  · exact hrecovery
  · exact hreaches
  · exact Option.isNone_eq_false_iff.mpr (State.isSome_identOf_of_reaches hreaches)
  · exact hlock
  · exact hselftest

/-- A write that the register itself refuses is refused on its page. -/
theorem State.accessBy_refused {adm : State → Option Reason} (h : Admits adm s who page off) {v : Word} {f : State → WRes}
    (hf : f ((s.portEdge who).disarm who page) = .error r) :
    s.accessBy adm who page off v f = ((s.portEdge who).disarm who page).refuse who page r := by
  unfold State.accessBy
  dsimp only
  generalize hu : (s.portEdge who).disarm who page = u at hf
  obtain ⟨hpresent, hrunning, hrecovery, hreaches, hident, hadm, hlock, hselftest⟩ := State.admits_atRegister hu h
  simp [hpresent, hrunning, hrecovery, hreaches, hident, hadm, hlock, hselftest, hf]

end Sys2Proof.Machine
end

section
/-!
Settles O7: the context table windows and the coefficient pairs, each command from the rules above.
-/
namespace Sys2Proof.Machine

variable {s t : State} {who : Init} {c w page off : Nat} {v : Word}

/-! Owners of a context (R73). -/

/-- The word that names an owner and its privilege. -/
def ownerWord (owner : Fin 32) (priv : Bool) : Word := BitVec.ofNat 32 ((if priv then 256 else 0) + owner.val)

theorem bitsOf_ownerWord_owner (owner : Fin 32) (priv : Bool) : bitsOf (ownerWord owner priv) 4 0 = owner.val := by
  revert owner priv
  decide

theorem bitsOf_ownerWord_priv (owner : Fin 32) (priv : Bool) : bitsOf (ownerWord owner priv) 8 8 = if priv then 1 else 0 := by
  revert owner priv
  decide

/-- The write of word 6 of a context. -/
def State.writeOwner (s : State) (who : Init) (c : Nat) (v : Word) : State :=
  (s.accessBy (fun u => if c < u.member.contexts then u.admitWindow who c false else some .unitAbsent) who pgCTXW (apertureOff who 6) v
    (fun u => u.ctxDirect who c 6 v)).noteRefuse who

/-- A context that the member has is admitted by its window alone. -/
theorem admits_owner (h : Admits (fun u => u.admitWindow who c false) s who pgCTXW off) (hc : c < s.member.contexts) :
    Admits (fun u => if c < u.member.contexts then u.admitWindow who c false else some .unitAbsent) s who pgCTXW off := by
  obtain ⟨hpresent, hrunning, hrecovery, hreaches, hadm, hrest⟩ := h
  obtain ⟨timers, expert, heq⟩ := s.atRegister_eq who pgCTXW
  refine ⟨hpresent, hrunning, hrecovery, hreaches, ?_, hrest⟩
  rw [heq] at hadm ⊢
  exact (if_pos hc).trans hadm

/-- The integrator and the manufacturer may write an owner that exists. -/
theorem State.ctxCheck_owner (hwho : s.identOf who = some .integrator ∨ s.identOf who = some .manufacturer)
    (hv : bitsOf v 4 0 ≤ 0x10 ∨ bitsOf v 4 0 = 0x1F) : s.ctxCheck (s.identOf who) c 6 v = none := by
  have howner : s.ownerWordCheck (s.identOf who) c v = none := if_pos hwho
  rw [State.ctxCheck, if_pos rfl, howner]
  exact if_pos (decide_eq_true hv)

/-- Nobody else may change word 6. -/
theorem State.ctxCheck_owner_refused (hint : s.identOf who ≠ some .integrator) (hman : s.identOf who ≠ some .manufacturer)
    (hother : s.cget CTX_OWNER.OWNER c ≠ bitsOf v 4 0 ∨ s.cget CTX_OWNER.EXPERT_PRIV c ≠ bitsOf v 8 8) :
    s.ctxCheck (s.identOf who) c 6 v = some .notOwner := by
  have howner : s.ownerWordCheck (s.identOf who) c v = some .notOwner := by
    unfold State.ownerWordCheck
    rw [if_neg (by simp [hint, hman]), if_neg fun hsame => hother.elim (· hsame.2.symm) (· hsame.1.symm)]
  rw [State.ctxCheck, if_pos rfl, howner]

/-- A context without ticks takes word 6 at once. -/
theorem State.ctx_writeOwner (h : Admits (fun u => u.admitWindow who c false) s who pgCTXW (apertureOff who 6)) (hc : c < s.member.contexts)
    (hwho : s.identOf who = some .integrator ∨ s.identOf who = some .manufacturer) (hv : bitsOf v 4 0 ≤ 0x10 ∨ bitsOf v 4 0 = 0x1F)
    (htick : s.hasTick c = false) : Took (s.writeOwner who c v) who ∧ (s.writeOwner who c v).ctx = (s.ctxWordApply c 6 v).ctx :=
  State.accessBy_noted_ends (P := fun t => t.ctx = (s.ctxWordApply c 6 v).ctx) (admits_owner h hc) v (fun _ _ _ _ ht => ht)
    fun timers expert => ⟨_, State.ctxDirect_word (s := { s with timers := timers, expert := expert }) rfl rfl (State.ctxCheck_owner hwho hv),
      (congrArg State.ctx (State.directWords_at_once (s := { s with timers := timers, expert := expert }) htick [(6, v)])).trans
        (State.ctx_ctxWordApply_congr rfl)⟩

/-- A FREE context has no ticks. -/
theorem State.hasTick_of_free (hfree : s.ctxState c = ctxFREE) : s.hasTick c = false := by
  rw [State.hasTick, decide_eq_false (by simp [hfree]), Bool.false_and]

/-- A refused change of an owner is recorded, and the table keeps its words. -/
theorem State.writeOwner_refused (h : Admits (fun u => u.admitWindow who c false) s who pgCTXW (apertureOff who 6)) (hc : c < s.member.contexts)
    (hcheck : s.ctxCheck (s.identOf who) c 6 v = some .notOwner) :
    (s.writeOwner who c v).lastReason who = Reason.notOwner.code ∧ (s.writeOwner who c v).ctx = s.ctx := by
  obtain ⟨timers, expert, hreg⟩ := s.atRegister_eq who pgCTXW
  have hf : State.ctxDirect { s with timers := timers, expert := expert } who c 6 v = .error .notOwner := State.ctxDirect_refused hcheck
  rw [← hreg] at hf
  have hreason := State.lastReason_refuse ((s.portEdge who).disarm who pgCTXW) who pgCTXW .notOwner
  rw [State.writeOwner, State.accessBy_refused (admits_owner h hc) hf, State.noteRefuse_of_refused hreason (by decide)]
  rw [State.lastReason_setWindow, State.ctx_setWindow, State.ctx_refuse, hreg]
  exact ⟨hreg ▸ hreason, rfl⟩

/-! Coefficient pairs of the canceller (R54). -/

/-- A write that the bus lets through ends as the register's own write `f` ends, but for timers, check passes and refusals. -/
theorem State.accessBy_ends {adm : State → Option Reason} {P : State → Prop} (h : Admits adm s who page off) (v : Word) {f : State → WRes}
    (hP : ∀ t timers crcPass busRefuse, P t → P { t with timers := timers, crcPass := crcPass, busRefuse := busRefuse })
    (hf : ∀ timers expert, ∃ t, f { s with timers := timers, expert := expert } = .ok t ∧ P t) :
    Took (s.accessBy adm who page off v f) who ∧ P (s.accessBy adm who page off v f) := by
  obtain ⟨timers, expert, hreg⟩ := s.atRegister_eq who page
  obtain ⟨t, hok, ht⟩ := hf timers expert
  obtain ⟨htook, timers', crcPass, busRefuse, hend⟩ := State.accessBy_took h v (hreg ▸ hok)
  exact ⟨htook, hend ▸ hP t timers' crcPass busRefuse ht⟩

theorem State.access_ends {P : State → Prop} (h : Admitted s who page off) (v : Word) {f : State → WRes}
    (hP : ∀ t timers crcPass busRefuse, P t → P { t with timers := timers, crcPass := crcPass, busRefuse := busRefuse })
    (hf : ∀ timers expert, ∃ t, f { s with timers := timers, expert := expert } = .ok t ∧ P t) :
    Took (s.access who page off v f) who ∧ P (s.access who page off v f) := State.accessBy_ends h v hP hf

/-- A mantissa of the canceller is staged, and its register keeps its value. -/
theorem State.access_canCoefM (h : Admitted s who pgCAN off) (hpresent : s.member.present (s.canSel who) = true) (v : Word) :
    Took (s.access who pgCAN off v (canCoefM who off v)) who ∧
      (s.access who pgCAN off v (canCoefM who off v)).coefStaged who = some (canKey off (s.canSel who), v) ∧
      (s.access who pgCAN off v (canCoefM who off v)).word (canKey off (s.canSel who)) = s.word (canKey off (s.canSel who)) :=
  State.access_ends (P := fun t => t.coefStaged who = some (canKey off (s.canSel who), v) ∧
      t.word (canKey off (s.canSel who)) = s.word (canKey off (s.canSel who))) h v (fun _ _ _ _ ht => ht)
    fun _ _ => ⟨_, if_neg (ne_true_of_eq_false (congrArg (!·) hpresent)), State.coefStaged_setCoefStage .., rfl⟩

/-- An s of the canceller commits its pair. -/
theorem State.access_canCoefS {p : CoefPair} {k : Nat} {m : Word} (h : Admitted s who pgCAN off) (hpresent : s.member.present (s.canSel who) = true)
    (hk : canKey (canCoefOff p) (s.canSel who) = k) (hm : s.coefM who k (s.word k) = m) (hok : coefOk p m.toNat (bitsOf v 4 0) = true) :
    Took (s.access who pgCAN off v (canCoefS who p v)) who ∧ (s.access who pgCAN off v (canCoefS who p v)).word (k + 4) = v &&& 0x1F ∧
      (s.access who pgCAN off v (canCoefS who p v)).word k = m ∧ (s.access who pgCAN off v (canCoefS who p v)).coefStaged who = none := by
  subst hk hm
  refine State.access_ends (P := fun t => t.word (canKey (canCoefOff p) (s.canSel who) + 4) = v &&& 0x1F ∧
      t.word (canKey (canCoefOff p) (s.canSel who)) = s.coefM who (canKey (canCoefOff p) (s.canSel who)) (s.word (canKey (canCoefOff p) (s.canSel who))) ∧
      t.coefStaged who = none) h v (fun _ _ _ _ ht => ht)
    fun _ _ => ⟨_, (if_neg (ne_true_of_eq_false (congrArg (!·) hpresent))).trans (if_pos hok), State.word_setWord_same .., ?_,
      State.coefStaged_setCoefStage ..⟩
  exact (State.word_setWord_ne _ _ (Nat.lt_add_of_pos_right (by decide)).ne).trans (State.word_setWord_same ..)

/-- A read of a mantissa of the canceller answers it and latches its s. -/
theorem canCoefRead_latches (who : Init) (off : Nat) (s : State) : (canCoefRead who off s).lastReason who = s.lastReason who ∧
    (canCoefRead who off s).readOf who = s.word (canKey off (s.canSel who)) ∧
    Tbl.get (fun _ => none) (canCoefRead who off s).coefShadow who.holder = some (canKey off (s.canSel who), s.word (canKey off (s.canSel who) + 4)) := by
  unfold canCoefRead
  exact ⟨rfl, State.readOf_answerRead .., by rw [State.coefShadow_answerRead, State.coefShadow_setCoefShadow]⟩

theorem State.accessRead_canCoef (h : Readable s who pgCAN) (off : Nat) : Took (s.accessRead who pgCAN (canCoefRead who off)) who ∧
    (s.accessRead who pgCAN (canCoefRead who off)).readOf who = s.word (canKey off (s.canSel who)) ∧
    Tbl.get (fun _ => none) (s.accessRead who pgCAN (canCoefRead who off)).coefShadow who.holder =
      some (canKey off (s.canSel who), s.word (canKey off (s.canSel who) + 4)) := by
  obtain ⟨timers, hport⟩ := s.portEdge_eq who
  rw [State.accessRead_of_readable h, hport]
  obtain ⟨hreason, hread⟩ := canCoefRead_latches who off (State.accepted { s with timers := timers } who)
  exact ⟨hreason.trans (took_accepted ..), hread⟩

end Sys2Proof.Machine
end

section
/-!
Settles O7: each command of a window and of a coefficient pair, from the rules above.
-/
namespace Sys2Proof.Machine

variable {s t : State} {who : Init} {c w : Nat} {v : Word}

/-- The command of a window's read, on a selected context that the initiator holds. -/
theorem State.readAperture_direct (h : Readable s who pgCTXW) (hown : OwnsSelected s who) (hmode : (s.window who.holder).staged = false)
    (hs : coefOfS w = none) : Took (s.accessRead who pgCTXW (apertureRead who w)) who ∧
    (s.accessRead who pgCTXW (apertureRead who w)).readOf who = s.liveWord (s.window who.holder).ctx w ∧
    ((ctxCoef w).isSome = true → Tbl.get (fun _ => none) (s.accessRead who pgCTXW (apertureRead who w)).coefShadow who.holder =
      some (ctxCoefKey (s.window who.holder).ctx w, s.liveWord (s.window who.holder).ctx (w + 1))) := by
  obtain ⟨timers, busRefuse, hend, htook⟩ := State.readAperture_eq h hown w
  obtain ⟨hreason, hread⟩ := State.ctxReadWord_live { s with timers := timers, busRefuse := busRefuse } who (s.window who.holder).ctx hs
  rw [hend, State.showAperture_direct (s := { s with timers := timers, busRefuse := busRefuse }) hmode]
  exact ⟨hreason.trans htook, hread⟩

/-- A read of an s in direct mode goes by the shadow. -/
theorem State.readAperture_coefS (h : Readable s who pgCTXW) (hown : OwnsSelected s who) (hmode : (s.window who.holder).staged = false)
    (hs : (coefOfS w).isSome = true) : ∃ timers busRefuse, Took { s with timers := timers, busRefuse := busRefuse } who ∧
    s.accessRead who pgCTXW (apertureRead who w) = State.readCoefS { s with timers := timers, busRefuse := busRefuse } who
      (ctxCoefKey (s.window who.holder).ctx (w - 1)) (s.liveWord (s.window who.holder).ctx w) := by
  obtain ⟨timers, busRefuse, hend, htook⟩ := State.readAperture_eq h hown w
  refine ⟨timers, busRefuse, htook, hend.trans ?_⟩
  rw [State.showAperture_direct (s := { s with timers := timers, busRefuse := busRefuse }) hmode, State.ctxReadWord_coefS _ _ _ hs]
  rfl

theorem State.lastReason_answerRead (s : State) (who : Init) (v : Word) (i : Init) : (s.answerRead who v).lastReason i = s.lastReason i := rfl

theorem State.lastReason_refuseRead (s : State) (who : Init) (page : Nat) (r : Reason) : (s.refuseRead who page r).lastReason who = r.code := by
  rw [State.refuseRead, State.lastReason_answerRead, State.lastReason_refuse]

theorem State.readOf_refuseRead (s : State) (who : Init) (page : Nat) (r : Reason) : (s.refuseRead who page r).readOf who = 0 :=
  State.readOf_answerRead ..

/-- A read before the snapshot is refused as busy (R51). -/
theorem State.readAperture_unsnapped (h : Readable s who pgCTXW) (hown : OwnsSelected s who) (hmode : (s.window who.holder).staged = true)
    (hsnap : (s.window who.holder).snap = none) : ∃ u : State, u.lastReason who = Reason.windowBusy.code ∧ u.readOf who = 0 ∧
    s.accessRead who pgCTXW (apertureRead who w) =
      u.setWindow who.holder { u.window who.holder with lastRefuse := Reason.windowBusy.code } := by
  obtain ⟨timers, busRefuse, hend, -⟩ := State.readAperture_eq h hown w
  rw [State.showAperture_unsnapped (s := { s with timers := timers, busRefuse := busRefuse }) hmode hsnap] at hend
  have hreason := State.lastReason_refuseRead { s with timers := timers, busRefuse := busRefuse } who pgCTXW .windowBusy
  exact ⟨_, hreason, State.readOf_refuseRead .., hend.trans (State.noteRefuse_of_refused hreason (by decide))⟩

/-- A commit without direct words before it applies the staged words of a context that is still held. -/
theorem State.commitApply_held (hnone : (s.ctxRt (s.window who.holder).ctx).direct = []) (hown : OwnsSelected s who) :
    ((s.applyDirect (s.window who.holder).ctx).windowApply who.holder (s.identOf who)).window who.holder = (s.window who.holder).committed 0 ∧
      ((s.applyDirect (s.window who.holder).ctx).windowApply who.holder (s.identOf who)).ctx =
        ((s.window who.holder).words.foldl (fun u e => u.ctxWordApply (s.window who.holder).ctx e.1 e.2) (s.applyDirect (s.window who.holder).ctx)).ctx := by
  have hsame := State.window_applyDirect_nil hnone who.holder
  have howned : ∀ d : Fin 16, s.identOf who = some (.domain d) →
      (s.applyDirect (s.window who.holder).ctx).cget CTX_OWNER.OWNER ((s.applyDirect (s.window who.holder).ctx).window who.holder).ctx = d.val :=
    fun d hd => by rw [hsame, State.cget_congr (State.ctx_applyDirect_nil hnone), hown d hd]
  have hheld := State.windowApply_held howned
  rwa [hsame] at hheld

/-- And it applies nothing to a context that its domain has lost. -/
theorem State.commitApply_lost {d : Fin 16} (hd : s.identOf who = some (.domain d))
    (hlost : s.cget CTX_OWNER.OWNER (s.window who.holder).ctx ≠ d.val) (hnone : (s.ctxRt (s.window who.holder).ctx).direct = []) :
    ((s.applyDirect (s.window who.holder).ctx).windowApply who.holder (s.identOf who)).window who.holder =
      (s.window who.holder).committed Reason.notOwner.code ∧
      ((s.applyDirect (s.window who.holder).ctx).windowApply who.holder (s.identOf who)).ctx = s.ctx := by
  have hsame := State.window_applyDirect_nil hnone who.holder
  have hstill : (s.applyDirect (s.window who.holder).ctx).cget CTX_OWNER.OWNER ((s.applyDirect (s.window who.holder).ctx).window who.holder).ctx ≠
      d.val := by rwa [hsame, State.cget_congr (State.ctx_applyDirect_nil hnone)]
  obtain ⟨hwindow, hctx⟩ := State.windowApply_lost hstill
  rw [hsame] at hwindow
  rw [hd]
  exact ⟨hwindow, hctx.trans (State.ctx_applyDirect_nil hnone)⟩

theorem State.stagedOr_congr (h : t.ctx = s.ctx) (x : Window) (w : Nat) : t.stagedOr x w = s.stagedOr x w := by
  unfold State.stagedOr
  rw [State.cword_congr h]

/-- A staged word is found under its number, and another as before. -/
theorem State.stagedOr_stageWord (s : State) (x : Window) (l : List (Nat × Word)) (w k : Nat) (v : Word) :
    s.stagedOr { x with words := stageWord l w v } k = if k = w then v else s.stagedOr { x with words := l } k := by
  have hfind : (stageWord l w v).find? (fun e => decide (e.1 = k)) = if k = w then some (w, v) else l.find? fun e => decide (e.1 = k) := by
    rw [stageWord, List.find?_append]
    by_cases hk : k = w
    · subst k
      have hnone : (l.filter fun e => decide (e.1 ≠ w)).find? (fun e => decide (e.1 = w)) = none := List.find?_eq_none.mpr fun e he => by
        simpa using (List.mem_filter.mp he).2
      rw [hnone, if_pos rfl, Option.none_or, List.find?_singleton, if_pos (by simp)]
    · have hsame : (l.filter fun e => decide (e.1 ≠ w)).find? (fun e => decide (e.1 = k)) = l.find? fun e => decide (e.1 = k) := by
        rw [List.find?_filter]
        refine congrArg (List.find? · l) (funext fun e => ?_)
        by_cases he : e.1 = k <;> simp [he, hk]
      rw [hsame, if_neg hk, List.find?_singleton, if_neg (by simpa using Ne.symm hk), Option.or_none]
  unfold State.stagedOr
  rw [hfind]
  by_cases hk : k = w <;> simp [hk]

/-- Settles O7: what each command of a window and of a coefficient pair leaves. -/
theorem contextWindowsSelectStageCommit : Obligations.ContextWindowsSelectStageCommit := by
  refine ⟨?select, ?snapshot, ?stage, ?mantissa, ?stagePair, ?waits, ?applies, ?directPair, ?readLive, ?readSByShadow, ?readSLive, ?readSnap, ?readUnsnapped,
    ?commit, ?commitLost, ?apply, ?applyLost, ?ownerFree, ?ownerHeld, ?ownerRefused, ?canMantissa, ?ctxMantissa, ?canPair, ?ctxPair, ?canRead, ?ctxRead⟩
  case select =>
    intro who ctx mode s h hidle hctx hadmit
    obtain ⟨htook, hwindow⟩ := State.window_selectCtx h mode hidle hctx hadmit
    exact ⟨_, rfl, htook, by rw [hwindow], by rw [hwindow], by rw [hwindow], by rw [hwindow], by rw [hwindow]⟩
  case snapshot =>
    intro who s hwanted
    have hwindow := State.window_takeSnapshot hwanted
    exact ⟨_, rfl, by rw [hwindow], by rw [hwindow]⟩
  case stage =>
    exact fun who word value s h hmode hm hs hcheck => ⟨_, rfl, State.writeAperture_staged h hmode hm hs hcheck⟩
  case mantissa =>
    exact fun who word value s h hcoef => ⟨_, rfl, State.writeAperture_mantissa h hcoef value⟩
  case stagePair =>
    intro who word value s p h hmode hp hok
    obtain ⟨htook, hwindow, hrest⟩ := State.writeAperture_staged_pair h hmode hp hok
    exact ⟨_, rfl, htook, by rw [hwindow], hrest⟩
  case waits =>
    exact fun who word value s h hmode hm hs hcheck htick => ⟨_, rfl, State.writeAperture_waits h hmode hm hs hcheck htick⟩
  case applies =>
    intro who word value s h hmode hm hs hcheck htick
    obtain ⟨htook, hctx⟩ := State.writeAperture_applies h hmode hm hs hcheck htick
    obtain ⟨timers, expert, hdisarm⟩ := s.disarm_eq who pgCTXW
    refine ⟨_, rfl, htook, hctx.trans (State.ctx_ctxWordApply_congr (by rw [hdisarm])), fun h3 => ?_⟩
    rw [State.cword_congr hctx, h3, State.cword_ctxWordApply_loose (by decide), if_pos rfl]
    exact mergeWord_full ..
  case directPair =>
    exact fun who word value s p h hmode hp hok => ⟨_, rfl, State.writeAperture_pair h hmode hp rfl hok⟩
  case readLive =>
    exact fun who word s h hown hmode hs => ⟨_, rfl, State.readAperture_direct h hown hmode hs⟩
  case readSByShadow =>
    intro who word s k v h hown hmode hs hshadow
    obtain ⟨timers, busRefuse, htook, hend⟩ := State.readAperture_coefS h hown hmode hs
    obtain ⟨hreason, hread⟩ := State.readCoefS_shadow (s := { s with timers := timers, busRefuse := busRefuse })
      (key := ctxCoefKey (s.window who.holder).ctx (word.val - 1)) (live := s.liveWord (s.window who.holder).ctx word.val) hshadow
    refine ⟨_, rfl, ?_⟩
    rw [hend]
    exact ⟨hreason.trans htook, hread⟩
  case readSLive =>
    intro who word s h hown hmode hs hshadow
    obtain ⟨timers, busRefuse, htook, hend⟩ := State.readAperture_coefS h hown hmode hs
    obtain ⟨hreason, hread⟩ := State.readCoefS_live (s := { s with timers := timers, busRefuse := busRefuse })
      (key := ctxCoefKey (s.window who.holder).ctx (word.val - 1)) (live := s.liveWord (s.window who.holder).ctx word.val) hshadow
    refine ⟨_, rfl, ?_⟩
    rw [hend]
    exact ⟨hreason.trans htook, hread⟩
  case readSnap =>
    intro who word s l h hown hmode hsnap
    obtain ⟨timers, busRefuse, hend, htook⟩ := State.readAperture_eq h hown word.val
    rw [State.showAperture_staged (s := { s with timers := timers, busRefuse := busRefuse }) hmode hsnap] at hend
    refine ⟨_, rfl, ?_⟩
    rw [hend]
    exact ⟨htook, State.readOf_answerRead ..⟩
  case readUnsnapped =>
    intro who word s h hown hmode hsnap
    obtain ⟨u, hreason, hread, hend⟩ := State.readAperture_unsnapped h hown hmode hsnap
    refine ⟨_, rfl, ?_⟩
    rw [hend]
    exact ⟨hreason, hread, by rw [State.window_setWindow]⟩
  case commit =>
    intro who s h hidle hmode hadmit
    obtain ⟨htook, hwindow⟩ := State.window_commitWindow h hidle hmode hadmit
    exact ⟨_, rfl, htook, by rw [hwindow], by rw [hwindow], by rw [hwindow]⟩
  case commitLost =>
    intro who s h hidle hmode hlost
    obtain ⟨hwindow, hctx⟩ := State.commitWindow_lost h hidle hmode hlost
    refine ⟨_, rfl, ?_⟩
    rw [hwindow]
    exact ⟨hidle, rfl, rfl, rfl, hctx⟩
  case apply =>
    intro who s hpending hnone hown
    obtain ⟨hwindow, hctx⟩ := State.commitApply_held hnone hown
    refine ⟨_, congrArg Host.Outcome.next (if_pos hpending), ?_⟩
    rw [hwindow]
    exact ⟨rfl, rfl, rfl, rfl, rfl, hctx⟩
  case applyLost =>
    intro who s d hpending hd hlost hnone
    obtain ⟨hwindow, hctx⟩ := State.commitApply_lost hd hlost hnone
    refine ⟨_, congrArg Host.Outcome.next (if_pos hpending), ?_⟩
    rw [hwindow]
    exact ⟨rfl, rfl, rfl, rfl, hctx⟩
  case ownerFree =>
    intro who ctx owner priv s h hc hwho howner hfree
    obtain ⟨htook, hctx⟩ := State.ctx_writeOwner (v := ownerWord owner priv) h hc hwho (by rwa [bitsOf_ownerWord_owner]) (State.hasTick_of_free hfree)
    have hword := (State.cword_congr hctx ctx.val 6).trans (State.cword_ctxWordApply_owner hfree)
    refine ⟨_, rfl, htook, ?_, ?_⟩
    · exact (congrArg (bitsOf · 4 0) hword).trans ((bitsOf_mergeWord (by decide) _ _).trans (bitsOf_ownerWord_owner owner priv))
    · exact (congrArg (bitsOf · 8 8) hword).trans ((bitsOf_mergeWord (by decide) _ _).trans (bitsOf_ownerWord_priv owner priv))
  case ownerHeld =>
    intro who ctx owner priv s h hc hwho howner hheld htick hother
    obtain ⟨htook, hctx⟩ := State.ctx_writeOwner (v := ownerWord owner priv) h hc hwho (by rwa [bitsOf_ownerWord_owner]) htick
    obtain ⟨hword, hresult⟩ := State.ctxWordApply_owner_held (v := ownerWord owner priv) hheld (by rwa [bitsOf_ownerWord_owner])
    exact ⟨_, rfl, htook, (State.cword_congr hctx _ _).trans hword, (State.cget_congr hctx _ _).trans hresult⟩
  case ownerRefused =>
    intro who ctx owner priv s h hc hint hman hother
    exact ⟨_, rfl, State.writeOwner_refused (v := ownerWord owner priv) h hc
      (State.ctxCheck_owner_refused hint hman (by rwa [bitsOf_ownerWord_owner, bitsOf_ownerWord_priv]))⟩
  case canMantissa =>
    rintro who pair value s (rfl | rfl | rfl) h hpresent <;> exact ⟨_, rfl, State.access_canCoefM h hpresent value⟩
  case ctxMantissa =>
    rintro who _ value s k rfl h
    have hadmits : AdmitsAperture s who (32 + 2 * k.val) := by rwa [AdmitsAperture, decide_eq_true (Nat.le_add_right 32 _)]
    obtain ⟨htook, hstage, -, hctx⟩ := State.writeAperture_mantissa hadmits (by fin_cases k <;> rfl) value
    exact ⟨_, rfl, htook, hstage, hctx⟩
  case canPair =>
    rintro who pair value s (rfl | rfl | rfl) h hpresent hok <;> exact ⟨_, rfl, State.access_canCoefS h hpresent rfl rfl hok⟩
  case ctxPair =>
    rintro who _ value s k rfl h hmode hok
    have hadmits : AdmitsAperture s who (33 + 2 * k.val) := by rwa [AdmitsAperture, decide_eq_true (by omega)]
    have hm : 33 + 2 * k.val - 1 = 32 + 2 * k.val := by omega
    obtain ⟨htook, hwindow, hstage, hctx⟩ := State.writeAperture_staged_pair (p := .ctx k) hadmits hmode
      (by fin_cases k <;> rfl) (by rwa [hm])
    refine ⟨_, rfl, htook, hstage, ?_⟩
    rw [hm] at hwindow
    rw [State.stagedOr_congr hctx, State.stagedOr_congr hctx, hwindow]
    constructor
    · rw [State.stagedOr_stageWord, if_pos rfl]
    · rw [State.stagedOr_stageWord, if_neg (by omega), State.stagedOr_stageWord, if_pos rfl]
  case canRead =>
    rintro who pair s (rfl | rfl | rfl) h <;> exact ⟨_, rfl, State.accessRead_canCoef h _⟩
  case ctxRead =>
    rintro who _ s k rfl h hown hmode
    obtain ⟨htook, hread, hshadow⟩ := State.readAperture_direct (w := 32 + 2 * k.val) h hown hmode (by fin_cases k <;> rfl)
    exact ⟨_, rfl, htook, hread, by rw [hshadow (by fin_cases k <;> rfl), show 32 + 2 * k.val + 1 = 33 + 2 * k.val by omega]⟩

end Sys2Proof.Machine
end

section
/-!
What leaves the streams and the band windows alone. `KeepsChn s0 t` says that the words of CHN_STREAM and of the windows read in `t` as in `s0`, and that
what the channeliser holds behind its registers is that of `s0`: cancellers, links, flows and path delays follow a stream's configuration and do not
change it.
-/
namespace Sys2Proof.Machine

-- One proof after the other: a default argument by a tactic waits until the kernel has checked all that stands before it.
set_option Elab.async false

variable {s0 s t : State}

/-- The words of the band windows and of the streams, at the address of their first unit. -/
def chnSetting (k : Nat) : Bool := decide (0x13044 ≤ k ∧ k < 0x1304C ∨ 0x13100 ≤ k ∧ k < 0x13200)

structure KeepsChn (s0 t : State) : Prop where
  word : ∀ k, chnSetting (k % Fld.unitStep) = true → t.word k = s0.word k
  chn : t.chn = s0.chn

theorem KeepsChn.refl : KeepsChn s s := ⟨fun _ _ => rfl, rfl⟩

/-- A record update of other fields. -/
theorem KeepsChn.update {timers can cen fhl ggr} (h : KeepsChn s0 s) :
    KeepsChn s0 { s with timers := timers, can := can, cen := cen, fhl := fhl, ggr := ggr } := ⟨h.word, h.chn⟩

theorem KeepsChn.ite {c : Prop} [Decidable c] {a b : State} (ha : KeepsChn s0 a) (hb : KeepsChn s0 b) : KeepsChn s0 (if c then a else b) := by
  split
  · exact ha
  · exact hb

theorem KeepsChn.foldlMem {α : Type} {f : State → α → State} {l : List α} (h : KeepsChn s0 s)
    (hf : ∀ t, ∀ x ∈ l, KeepsChn s0 t → KeepsChn s0 (f t x)) : KeepsChn s0 (l.foldl f s) :=
  List.foldlRecOn (motive := KeepsChn s0) l f h fun t ht x hx => hf t x hx ht

theorem KeepsChn.foldl {α : Type} {f : State → α → State} {l : List α} (h : KeepsChn s0 s) (hf : ∀ t x, KeepsChn s0 t → KeepsChn s0 (f t x)) :
    KeepsChn s0 (l.foldl f s) := h.foldlMem fun t x _ => hf t x

theorem KeepsChn.setWord {k : Nat} {w : Word} (h : KeepsChn s0 s) (hk : chnSetting (k % Fld.unitStep) = false) : KeepsChn s0 (s.setWord k w) :=
  ⟨fun j hj => (State.word_setWord_ne s w fun heq => by simp [← heq, hj] at hk).trans (h.word j hj), h.chn⟩

/-- A register at one address, which is none of the streams' and windows'. -/
def Fld.offChn (f : Fld) : Bool := decide (f.stride % Fld.unitStep = 0) && !chnSetting (f.base % Fld.unitStep)

theorem KeepsChn.fset {f : Fld} {u v : Nat} (h : KeepsChn s0 s) (hf : f.offChn = true := by rfl) : KeepsChn s0 (s.fset f u v) := by
  simp only [Fld.offChn, Bool.and_eq_true, decide_eq_true_eq, Bool.not_eq_true'] at hf
  exact h.setWord ((Fld.key_mod hf.1 u).symm ▸ hf.2)

/-- A register array of up to 32 units that lies apart from the streams and windows. -/
def Fld.arrayOffChn (f : Fld) : Bool :=
  decide (f.base + 31 * f.stride < 0x13044 ∨ 0x13200 ≤ f.base ∧ f.base + 31 * f.stride < Fld.unitStep)

theorem KeepsChn.fsetAt {f : Fld} {u v : Nat} (h : KeepsChn s0 s) (hu : u < 32) (hf : f.arrayOffChn = true := by rfl) : KeepsChn s0 (s.fset f u v) := by
  have hspan : f.stride * u ≤ 31 * f.stride := by
    rw [Nat.mul_comm]
    exact Nat.mul_le_mul_right _ (by omega)
  rw [Fld.arrayOffChn, decide_eq_true_eq] at hf
  refine h.setWord (decide_eq_false fun hk => ?_)
  rw [Fld.key] at hk
  unfold Fld.unitStep at *
  omega

/-! Reports. -/

theorem Quiet.chn (h : Quiet s0 t) : t.chn = s0.chn := by
  have heq := congrArg State.chn h.hush
  exact heq

theorem KeepsChn.quiet (h : KeepsChn s0 s) (hq : Quiet s t) : KeepsChn s0 t := by
  refine ⟨fun k hk => (hq.word k fun hreport => ?_).trans (h.word k hk), hq.chn.trans h.chn⟩
  simp only [chnSetting, decide_eq_true_eq] at hk
  unfold ReportKey pgTRC pgEVR at hreport
  unfold Fld.unitStep at *
  omega

theorem KeepsChn.pulse {page n : Nat} (h : KeepsChn s0 s) (hp : page < 64 := by decide) : KeepsChn s0 (s.pulse page n) := h.quiet (Quiet.refl.pulse hp)

theorem KeepsChn.inputLost {page k : Nat} (h : KeepsChn s0 s) (hp : page < 64) : KeepsChn s0 (s.inputLost page k) := h.quiet (Quiet.refl.inputLost hp)

theorem KeepsChn.inputValid {page k : Nat} (h : KeepsChn s0 s) (hp : page < 64) : KeepsChn s0 (s.inputValid page k) := h.quiet (Quiet.refl.inputValid hp)

theorem KeepsChn.drive {src : Nat} {b : Bool} (h : KeepsChn s0 s) (hsrc : src < 512 := by decide) : KeepsChn s0 (s.drive src b) :=
  h.quiet (Quiet.refl.drive hsrc)

/-! Cancellers: coefficients, map, states (R117 to R127). -/

theorem KeepsChn.timerStart {tm u n : Nat} (h : KeepsChn s0 s) : KeepsChn s0 (s.timerStart tm u n) := h.update

theorem KeepsChn.timerStop {tm u : Nat} (h : KeepsChn s0 s) : KeepsChn s0 (s.timerStop tm u) := h.update

theorem KeepsChn.setCanRt {n : Nat} {r : CanRt} (h : KeepsChn s0 s) : KeepsChn s0 (s.setCanRt n r) := h.update

theorem KeepsChn.deriveMu {n l : Nat} (h : KeepsChn s0 s) : KeepsChn s0 (s.deriveMu n l) := h.fset.fset

theorem KeepsChn.rateChanged {n : Nat} (h : KeepsChn s0 s) : KeepsChn s0 (s.rateChanged n) := h.deriveMu.fset.fset

theorem KeepsChn.zeroTaps {u keep : Nat} (h : KeepsChn s0 s) : KeepsChn s0 (s.zeroTaps u keep) := h.update

theorem KeepsChn.placeCluster {n k r c : Nat} {en : Bool} {start len : Nat} (h : KeepsChn s0 s) : KeepsChn s0 (s.placeCluster n k r c en start len) :=
  h.zeroTaps.fset.fset.fset

theorem KeepsChn.deriveApply {n : Nat} (h : KeepsChn s0 s) : KeepsChn s0 (s.deriveApply n) := by
  refine KeepsChn.pulse (KeepsChn.setCanRt (KeepsChn.deriveMu (KeepsChn.fset (KeepsChn.fset
    (h.foldl fun t k ht => ht.foldl fun t r ht => ht.foldl fun t c ht => ?_)))))
  split
  · exact .ite ht.placeCluster ht.placeCluster
  · exact ht.placeCluster

theorem KeepsChn.setCanState {n st : Nat} (h : KeepsChn s0 s) : KeepsChn s0 (s.setCanState n st) := h.fset

theorem KeepsChn.beginPause {n : Nat} (h : KeepsChn s0 s) : KeepsChn s0 (s.beginPause n) := h.setCanRt.timerStart

theorem KeepsChn.enterCan {n st : Nat} (h : KeepsChn s0 s) : KeepsChn s0 (s.enterCan n st) := .ite h.setCanState.beginPause h.setCanState

theorem KeepsChn.isoStop {n : Nat} (h : KeepsChn s0 s) : KeepsChn s0 (s.isoStop n) := .ite h.fset.timerStop.enterCan h

theorem KeepsChn.linkFreeze {n : Nat} (h : KeepsChn s0 s) : KeepsChn s0 (s.linkFreeze n) :=
  .ite h.isoStop.setCanRt.setCanState.timerStop.pulse h.isoStop.timerStop

theorem KeepsChn.canLinkLoss {stream : Nat} (h : KeepsChn s0 s) : KeepsChn s0 (s.canLinkLoss stream) :=
  KeepsChn.foldl h.update fun _ _ ht => .ite ht.linkFreeze ht

theorem KeepsChn.linkCheck {n : Nat} (h : KeepsChn s0 s) : KeepsChn s0 (s.linkCheck n) :=
  .ite (.ite h.timerStop h.linkFreeze) (.ite h.timerStart h)

theorem KeepsChn.canLinkBack {stream : Nat} (h : KeepsChn s0 s) : KeepsChn s0 (s.canLinkBack stream) :=
  KeepsChn.foldl h.update fun _ _ ht => .ite ht.linkCheck ht

/-! Fronthaul flows and fibre links (R296 to R306). -/

theorem KeepsChn.setFlowSt {f st : Nat} (h : KeepsChn s0 s) (hf : f < 32) : KeepsChn s0 (s.setFlowSt f st) := h.fsetAt hf

theorem KeepsChn.shedSide {d : Nat} (h : KeepsChn s0 s) : KeepsChn s0 (s.shedSide d) := h.foldlMem fun t f hf ht => by
  have hlt : f < 32 := Nat.lt_trans (List.mem_range.mp (List.mem_filter.mp hf).1) (by decide)
  exact .ite (ht.setFlowSt hlt) (.ite ht (ht.setFlowSt hlt).pulse)

theorem KeepsChn.reanchor {f : Nat} (h : KeepsChn s0 s) (hf : f < 32) : KeepsChn s0 (s.reanchor f) := (h.setFlowSt hf).update.timerStart

theorem KeepsChn.flowRefresh {f : Nat} (h : KeepsChn s0 s) (hf : f < 32) : KeepsChn s0 (s.flowRefresh f) :=
  .ite (.ite h (h.setFlowSt hf).timerStop) (.ite h (.ite (h.reanchor hf) h))

theorem KeepsChn.flowsRefresh (h : KeepsChn s0 s) : KeepsChn s0 s.flowsRefresh :=
  KeepsChn.drive (KeepsChn.shedSide (KeepsChn.shedSide
    (h.foldlMem fun _ _ hf ht => ht.flowRefresh (Nat.lt_trans (List.mem_range.mp hf) (by decide)))))

theorem KeepsChn.fibreRefresh (h : KeepsChn s0 s) : KeepsChn s0 s.fibreRefresh := h.foldl fun t n ht => by
  cases t.fibreLost n with
  | none => exact ht
  | some lost =>
    cases lost with
    | false => exact .ite ht.canLinkBack ht
    | true => exact .ite ht ht.canLinkLoss

/-! Link groups and power domains (R289 to R292). -/

/-- READY of every page is kept apart from a page's own registers. -/
theorem KeepsChn.refreshReady (h : KeepsChn s0 s) : KeepsChn s0 s.refreshReady := h.foldlMem fun t p hp ht => by
  refine KeepsChn.setWord ht (decide_eq_false fun hk => ?_)
  simp only [Fld.key, PAGE_STAT.READY] at hk
  unfold Fld.unitStep at hk
  omega

theorem KeepsChn.setDomainRuns {d : Nat} {b : Bool} (h : KeepsChn s0 s) : KeepsChn s0 (s.setDomainRuns d b) := .ite h.fset h.fset

theorem KeepsChn.setJlk {g : Nat} {r : JlkRt} (h : KeepsChn s0 s) : KeepsChn s0 (s.setJlk g r) := h.update

theorem KeepsChn.driveJlk {g : Nat} (h : KeepsChn s0 s) (hg : g < 32) : KeepsChn s0 (s.driveJlk g) := h.drive (by omega)

theorem KeepsChn.pllStops {g : Nat} (h : KeepsChn s0 s) (hg : g < 32) : KeepsChn s0 (s.pllStops g) :=
  .ite (((KeepsChn.setJlk h.fset.fset).driveJlk hg).setDomainRuns.refreshReady) h

theorem KeepsChn.setRx {g st : Nat} (h : KeepsChn s0 s) : KeepsChn s0 (s.setRx g st) := h.fset

theorem KeepsChn.setTx {g st : Nat} (h : KeepsChn s0 s) : KeepsChn s0 (s.setTx g st) := h.fset

theorem KeepsChn.rxStart {g : Nat} (h : KeepsChn s0 s) (hg : g < 32) : KeepsChn s0 (s.rxStart g) :=
  .ite h.timerStop.timerStop.setRx.fset ((KeepsChn.setJlk h.timerStop.timerStop.setRx.fset).driveJlk hg)

theorem jlkPage_lt {g : Nat} (hg : g < 32) : jlkPage g < 64 := by
  unfold jlkPage pgJLK
  omega

theorem KeepsChn.txAlarm {g : Nat} (h : KeepsChn s0 s) (hg : g < 32) : KeepsChn s0 (s.txAlarm g) := by
  have hlost : KeepsChn s0 (((s.setTx g txALARM).pulse (jlkPage g) (jlkBit g 2)).inputLost (jlkPage g) (jlkInput g 2)) :=
    (h.setTx.pulse (jlkPage_lt hg)).inputLost (jlkPage_lt hg)
  unfold State.txAlarm
  exact (hlost.setJlk.driveJlk hg).canLinkLoss

theorem KeepsChn.txGo {g : Nat} (h : KeepsChn s0 s) : KeepsChn s0 (s.txGo g) := .ite h.setTx.canLinkBack h

theorem KeepsChn.txAlarmOff {g : Nat} (h : KeepsChn s0 s) (hg : g < 32) : KeepsChn s0 (s.txAlarmOff g) := by
  have hvalid : KeepsChn s0 ((if s.txSt g = txALARM then (s.setTx g txSTARTING).txGo g else s).inputValid (jlkPage g) (jlkInput g 2)) :=
    (KeepsChn.ite h.setTx.txGo h).inputValid (jlkPage_lt hg)
  unfold State.txAlarmOff
  exact (hvalid.setJlk.driveJlk hg).canLinkBack

theorem KeepsChn.alarmRefresh {g : Nat} (h : KeepsChn s0 s) (hg : g < 32) : KeepsChn s0 (s.alarmRefresh g) :=
  .ite (h.txAlarm hg) (.ite (h.txAlarmOff hg) (.ite h.setTx h))

theorem KeepsChn.txStart {g : Nat} (h : KeepsChn s0 s) (hg : g < 32) : KeepsChn s0 (s.txStart g) :=
  (KeepsChn.ite h.setTx.txGo h.setTx).alarmRefresh hg

theorem KeepsChn.restartHalf {stream : Nat} (h : KeepsChn s0 s) (hs : stream < 64) : KeepsChn s0 (s.restartHalf stream) := by
  unfold State.restartHalf
  split
  next hrx => exact (h.rxStart hrx).pllStops hrx
  next => exact (h.txStart (by omega)).pllStops (by omega)

/-! Paths and contexts (R60, R171). -/

theorem KeepsChn.refreshPath {p : Nat} (h : KeepsChn s0 s) (hp : p < 32) : KeepsChn s0 (s.refreshPath p) :=
  KeepsChn.fsetAt (KeepsChn.fsetAt h hp) hp

theorem KeepsChn.placePath {p : Nat} (h : KeepsChn s0 s) (hp : p < 32) : KeepsChn s0 (s.placePath p) :=
  KeepsChn.fsetAt (h.refreshPath hp).update hp

theorem KeepsChn.markRecal {n : Nat} (h : KeepsChn s0 s) : KeepsChn s0 (s.markRecal n) := h.foldl fun _ _ ht => .ite ht.update ht

theorem KeepsChn.recalSince {u : State} (h : KeepsChn s0 s) : KeepsChn s0 (s.recalSince u) := h.foldl fun _ _ ht => .ite ht ht.markRecal

end Sys2Proof.Machine
end

section
/-!
Settles O9: writes of stream configurations and band windows, and the windows' coming into force.
-/
namespace Sys2Proof.Machine

variable {s t u : State} {who : Init} {v lo hi w : Word} {stream p n : Nat}

/-! Stream configurations (R35, R59). -/

/-- A stream out of use takes a configuration that the checks of its register let through. -/
theorem streamWrite_ok (hpresent : s.member.present stream = true) (hfree : s.streamInUse stream = false) (hrate : bitsOf v 31 29 ≤ 4)
    (hlink : bitsOf v 28 27 = 0 ∨ stream % 32 < 16)
    (hmerge : (regAt pgCHN (0x100 + 4 * stream)).map (fun r => r.merge (s.word (0x13100 + 4 * stream)) v) = some w)
    (hranges : rangesOk pgCHN (0x100 + 4 * stream) w = true) : streamWrite stream v s = .ok (s.setWord (0x13100 + 4 * stream) w) := by
  obtain ⟨r, hr, rfl⟩ := Option.map_eq_some_iff.mp hmerge
  unfold streamWrite
  rw [if_neg (by simp [hpresent]), if_neg (by simp [hfree]), if_neg (by omega), if_neg (by omega), State.mergeReg_eq hr, if_pos hranges]

/-- What a stream's configuration brings about leaves the streams and windows as they were written. -/
theorem streamAccess_ends (hs : stream < 64) (hwrite : streamWrite stream v s = .ok u) : ∃ t, streamAccess stream v s = .ok t ∧ KeepsChn u t := by
  unfold streamAccess
  rw [hwrite]
  refine ⟨_, rfl, KeepsChn.recalSince (KeepsChn.foldlMem (KeepsChn.fibreRefresh (KeepsChn.flowsRefresh (KeepsChn.restartHalf
    (.ite KeepsChn.refl.rateChanged .refl) hs))) fun t p hp ht => ?_)⟩
  have hlt : p < 32 := List.mem_range.mp (List.mem_filter.mp hp).1
  exact .ite (.ite (ht.placePath hlt) (ht.refreshPath hlt)) ht

/-- The word of a stream is one of those that stay. -/
theorem chnSetting_stream (hs : stream < 64) : chnSetting ((0x13100 + 4 * stream) % Fld.unitStep) = true := by
  unfold chnSetting Fld.unitStep
  exact decide_eq_true (by omega)

/-! Band windows (R63, R64). -/

@[simp] theorem State.winStageOf_setWinStage (s : State) (who : Init) (x : Option (Nat × Word)) : (s.setWinStage who x).winStageOf who = x :=
  Tbl.get_set_same _ _ _ _

theorem winLoWrite_ok (hpresent : s.member.present (s.fget CHN_WSEL.PATH who.holder) = true) (hedge : bitsOf v 30 29 ≠ 3) :
    winLoWrite who v s = .ok (s.setWinStage who (some (s.winSel who, v &&& 0xE0FFFFFF))) := by
  unfold winLoWrite
  rw [if_neg (by simp [hpresent]), if_neg hedge]

/-- A commit drops the writer's stage of that window. -/
theorem State.winStageOf_dropWinStage (s : State) (who : Init) (n : Nat) :
    (s.dropWinStage who n).winStageOf who = if (s.winStageOf who).map Prod.fst = some n then none else s.winStageOf who := by
  unfold State.dropWinStage
  cases hstage : s.winStageOf who with
  | none => simp [hstage]
  | some e =>
    by_cases hn : e.1 = n
    · simp [hn]
    · simp [hn, hstage]

theorem State.regs_dropWinStage (s : State) (who : Init) (n : Nat) : (s.dropWinStage who n).regs = s.regs := by
  unfold State.dropWinStage
  split
  · split <;> rfl
  · rfl

/-- Timers and expert locks are no part of a window's stage. -/
theorem State.dropWinStage_update (s : State) (who : Init) (n : Nat) (timers : List (Nat × Nat)) (expert : List (Nat × ExpertSt)) :
    State.dropWinStage { s with timers := timers, expert := expert } who n = { s.dropWinStage who n with timers := timers, expert := expert } := by
  have hstage : State.winStageOf { s with timers := timers, expert := expert } who = s.winStageOf who := rfl
  unfold State.dropWinStage
  rw [hstage]
  split
  · split <;> rfl
  · rfl

/-- The window that a writer of WIN_HI commits. -/
def State.commitWin (s : State) (who : Init) (hi : Word) : State :=
  (s.setWin (s.fget CHN_WSEL.PATH who.holder) (s.fget CHN_WSEL.WIN who.holder) (s.winLoFor who) hi).dropWinStage who (s.winSel who)

/-- The checks of a window that is committed (R63, R64). -/
structure WinAccepted (s : State) (who : Init) (hi : Word) : Prop where
  present : s.member.present (s.fget CHN_WSEL.PATH who.holder) = true
  free : s.winBusy (s.fget CHN_WSEL.PATH who.holder) (s.fget CHN_WSEL.WIN who.holder) = false
  wide : (Win.ofWords (s.winLoFor who) hi).low + 5000 ≤ (Win.ofWords (s.winLoFor who) hi).high
  inside : s.inOccupied (s.fget CHN_WSEL.PATH who.holder) (Win.ofWords (s.winLoFor who) hi) = true
  apart : ((Win.ofWords (s.winLoFor who) hi).en &&
    s.winOverlaps (s.fget CHN_WSEL.PATH who.holder) (s.fget CHN_WSEL.WIN who.holder) (Win.ofWords (s.winLoFor who) hi)) = false
  edge : (s.pathFlag (s.fget CHN_WSEL.PATH who.holder) 6 && decide ((Win.ofWords (s.winLoFor who) hi).edge < 2)) = false
  derived : (s.commitWin who hi).winBreaksCan (s.fget CHN_WSEL.PATH who.holder) = false

/-! What a derivation fits does not depend on timers and expert locks. -/

section
variable (s : State) (timers : List (Nat × Nat)) (expert : List (Nat × ExpertSt)) (n : Nat)

theorem State.fitLen_update (l : Nat) : State.fitLen { s with timers := timers, expert := expert } n l = s.fitLen n l := by
  induction l with
  | zero => rfl
  | succ l ih =>
    rw [State.fitLen, State.fitLen, ih]
    rfl

theorem State.deriveFails_update : State.deriveFails { s with timers := timers, expert := expert } n = s.deriveFails n := by
  rw [State.deriveFails, State.deriveFails, State.deriveLen, State.deriveLen, State.fitLen_update]
  rfl

theorem State.winBreaksCan_update (p : Nat) : State.winBreaksCan { s with timers := timers, expert := expert } p = s.winBreaksCan p := by
  unfold State.winBreaksCan
  simp only [State.deriveFails_update]
  rfl

end

/-- The checks do not look at timers and expert locks. -/
theorem WinAccepted.update (h : WinAccepted s who hi) (timers : List (Nat × Nat)) (expert : List (Nat × ExpertSt)) :
    WinAccepted { s with timers := timers, expert := expert } who hi := by
  refine ⟨h.present, h.free, h.wide, h.inside, h.apart, h.edge, ?_⟩
  have hcommit : State.commitWin { s with timers := timers, expert := expert } who hi =
      { s.commitWin who hi with timers := timers, expert := expert } :=
    State.dropWinStage_update (s.setWin (s.fget CHN_WSEL.PATH who.holder) (s.fget CHN_WSEL.WIN who.holder) (s.winLoFor who) hi) who _ timers expert
  rw [hcommit]
  exact (State.winBreaksCan_update ..).trans h.derived

/-- An accepted window is stored, and the cancellers of its path are derived again. -/
theorem winHiWrite_ends (h : WinAccepted s who hi) : ∃ t, winHiWrite who hi s = .ok t ∧ KeepsChn (s.commitWin who hi) t := by
  have hnarrow : ¬((Win.ofWords (s.winLoFor who) hi).high < (Win.ofWords (s.winLoFor who) hi).low + 5000 ∨
      (!s.inOccupied (s.fget CHN_WSEL.PATH who.holder) (Win.ofWords (s.winLoFor who) hi)) = true) := by
    have := h.wide
    rw [h.inside]
    simp only [Bool.not_true, Bool.false_eq_true, or_false]
    omega
  refine ⟨((s.commitWin who hi).instancesOf (s.fget CHN_WSEL.PATH who.holder)).foldl (fun t n => t.deriveApply n) (s.commitWin who hi), ?_,
    KeepsChn.refl.foldl fun t n ht => ht.deriveApply⟩
  unfold winHiWrite
  dsimp only
  rw [if_neg (by simp [h.present]), if_neg (by simp [h.free]), if_neg hnarrow, if_neg (ne_true_of_eq_false h.apart),
    if_neg (ne_true_of_eq_false h.edge)]
  exact if_neg (ne_true_of_eq_false h.derived)

/-- The words of a committed window are those of its writer. -/
theorem State.winOf_commitWin (s : State) (who : Init) (hi : Word) :
    (s.commitWin who hi).winOf (s.fget CHN_WSEL.PATH who.holder) (s.fget CHN_WSEL.WIN who.holder) = Win.ofWords (s.winLoFor who) hi := by
  have hhigh : bitsOf (hi &&& 0x00FFFFFF) 23 0 = bitsOf hi 23 0 := by
    have hmerge := bitsOf_mergeWord (mask := 0x00FFFFFF) (hi := 23) (lo := 0) (by decide) 0 hi
    rwa [show mergeWord 0 hi 0x00FFFFFF = hi &&& 0x00FFFFFF by simp [mergeWord]] at hmerge
  have hne (k : Nat) : CHN_WIN_LO.EN.key k ≠ CHN_WIN_HI.F_HIGH_KHZ.key k := by
    simp only [Fld.key, CHN_WIN_LO.EN, CHN_WIN_HI.F_HIGH_KHZ]
    omega
  have hword (k : Nat) : (s.commitWin who hi).word k =
      (s.setWin (s.fget CHN_WSEL.PATH who.holder) (s.fget CHN_WSEL.WIN who.holder) (s.winLoFor who) hi).word k :=
    by
    rw [State.word, State.word, State.commitWin, State.regs_dropWinStage]
  rw [State.winOf, hword, hword, State.setWin, State.word_setWord_ne _ _ (hne _), State.word_setWord_same, State.word_setWord_same]
  simp only [Win.ofWords, hhigh]

theorem KeepsChn.winOf (h : KeepsChn u t) (p n : Nat) : t.winOf p n = u.winOf p n := by
  have hlo : t.word (CHN_WIN_LO.EN.key (winUnit p n)) = u.word _ :=
    h.word _ (by rw [Fld.key_mod (f := CHN_WIN_LO.EN) rfl]; rfl)
  have hhi : t.word (CHN_WIN_HI.F_HIGH_KHZ.key (winUnit p n)) = u.word _ :=
    h.word _ (by rw [Fld.key_mod (f := CHN_WIN_HI.F_HIGH_KHZ) rfl]; rfl)
  rw [State.winOf, State.winOf, hlo, hhi]

/-! Windows in force (R64). -/

/-- One window of a path comes into force. -/
def State.applyWindow (s : State) (p n : Nat) : State :=
  { s with chn := { s.chn with winApplied := Tbl.set (fun _ => (0, 0)) s.chn.winApplied (winUnit p n)
                                 (s.word (CHN_WIN_LO.EN.key (winUnit p n)), s.word (CHN_WIN_HI.F_HIGH_KHZ.key (winUnit p n))) } }

/-- The words of the window in force at a number. -/
def State.wordsInForce (s : State) (p n : Nat) : Word × Word := Tbl.get (fun _ => (0, 0)) s.chn.winApplied (winUnit p n)

theorem State.word_applyWindow (s : State) (p n k : Nat) : (s.applyWindow p n).word k = s.word k := rfl

theorem State.wordsInForce_applyWindow (s : State) (p n j : Nat) : (s.applyWindow p n).wordsInForce p j =
    if j = n then (s.word (CHN_WIN_LO.EN.key (winUnit p n)), s.word (CHN_WIN_HI.F_HIGH_KHZ.key (winUnit p n))) else s.wordsInForce p j := by
  refine (Tbl.get_set ..).trans ?_
  simp only [winUnit, Nat.add_left_cancel_iff]
  rfl

/-- The first windows of a path come into force as committed, each under its number. -/
theorem State.wordsInForce_foldl (s : State) (p m : Nat) : (∀ k, ((List.range m).foldl (fun t n => t.applyWindow p n) s).word k = s.word k) ∧
    ∀ j < m, ((List.range m).foldl (fun t n => t.applyWindow p n) s).wordsInForce p j =
      (s.word (CHN_WIN_LO.EN.key (winUnit p j)), s.word (CHN_WIN_HI.F_HIGH_KHZ.key (winUnit p j))) := by
  induction m with
  | zero => exact ⟨fun _ => rfl, fun j hj => absurd hj (Nat.not_lt_zero j)⟩
  | succ m ih =>
    obtain ⟨hword, hforce⟩ := ih
    rw [List.range_succ, List.foldl_append, List.foldl_cons, List.foldl_nil]
    refine ⟨fun k => (State.word_applyWindow ..).trans (hword k), fun j hj => ?_⟩
    rw [State.wordsInForce_applyWindow, hword, hword]
    by_cases hm : j = m
    · rw [if_pos hm, hm]
    · rw [if_neg hm, hforce j (by omega)]

/-- The windows that come into force are those committed. -/
theorem State.winInForce_windowsInForce (s : State) {p n : Nat} (hp : p < 32) (hn : n < 12) : (s.windowsInForce p).winInForce p n = s.winOf p n := by
  have hkeep : (s.windowsInForce p).chn = (s.applyWindows p).chn := (KeepsChn.refl.refreshPath hp).chn
  have hforce : Tbl.get (fun _ => (0, 0)) (s.applyWindows p).chn.winApplied (winUnit p n) = _ := (s.wordsInForce_foldl p 12).2 n hn
  rw [State.winInForce, hkeep, hforce]
  rfl

/-- Settles O9: what a write of a stream or a window leaves, and the windows that come into force. -/
theorem streamsAndWindowsComplete : Obligations.StreamsAndWindowsComplete := by
  refine ⟨fun who stream value s w h hpresent hfree hrate hlink hmerge hranges => ⟨_, rfl, ?_⟩,
    fun who value s h hpresent hedge => ⟨_, rfl, ?_⟩, fun who hi s h hpresent hfree hwide hinside hapart hedge hderived => ⟨_, rfl, ?_⟩,
    fun path s n hpresent hoff => ⟨_, congrArg Host.Outcome.next (if_pos (by simp [hpresent, hoff])), ?_⟩,
    fun path s hon => ⟨_, congrArg Host.Outcome.next (if_neg (by simp [hon])), rfl⟩⟩
  · refine State.access_ends (P := fun t => t.word (0x13100 + 4 * stream.val) = w) h value (fun _ _ _ _ ht => ht) fun timers expert => ?_
    obtain ⟨t, hend, hkeep⟩ := streamAccess_ends stream.isLt
      (streamWrite_ok (s := { s with timers := timers, expert := expert }) hpresent hfree hrate hlink hmerge hranges)
    exact ⟨t, hend, (hkeep.word _ (chnSetting_stream stream.isLt)).trans (State.word_setWord_same ..)⟩
  · exact State.access_ends (P := fun t => t.winStageOf who = some (s.winSel who, value &&& 0xE0FFFFFF)) h value (fun _ _ _ _ ht => ht)
      fun timers expert => ⟨_, winLoWrite_ok hpresent hedge, State.winStageOf_setWinStage ..⟩
  · have haccepted : WinAccepted s who hi := ⟨hpresent, hfree, hwide, hinside, hapart, hedge, hderived⟩
    refine State.access_ends (P := fun t => t.winOf (s.fget CHN_WSEL.PATH who.holder) (s.fget CHN_WSEL.WIN who.holder) = Win.ofWords (s.winLoFor who) hi ∧
      t.winStageOf who = if (s.winStageOf who).map Prod.fst = some (s.winSel who) then none else s.winStageOf who) h hi (fun _ _ _ _ ht => ht)
      fun timers expert => ?_
    obtain ⟨t, hend, hkeep⟩ := winHiWrite_ends (haccepted.update timers expert)
    refine ⟨t, hend, (hkeep.winOf _ _).trans (State.winOf_commitWin ..), ?_⟩
    rw [State.winStageOf, hkeep.chn]
    exact State.winStageOf_dropWinStage ..
  · exact s.winInForce_windowsInForce path.isLt n.isLt

end Sys2Proof.Machine
end

section
/-!
What the end of a block reset leaves of the pages' READY. `KeepsReady s0 t` says that each page runs or not in `t` as in `s0`: what a block shows
after its registers are cleared stands in other registers.
-/
namespace Sys2Proof.Machine

-- One proof after the other: a default argument by a tactic waits until the kernel has checked all that stands before it.
set_option Elab.async false

variable {s0 s t : State}

theorem KeepsReady.refl : KeepsReady s s := ⟨fun _ => rfl⟩

theorem KeepsReady.trans (h : KeepsReady s0 s) (ht : KeepsReady s t) : KeepsReady s0 t := ⟨fun page => (ht.ready page).trans (h.ready page)⟩

/-- A record update of other fields. -/
theorem KeepsReady.update {timers flt can cen fel gcp rst} (h : KeepsReady s0 s) :
    KeepsReady s0 { s with timers := timers, flt := flt, can := can, cen := cen, fel := fel, gcp := gcp, rst := rst } := ⟨h.ready⟩

theorem KeepsReady.ite {c : Prop} [Decidable c] {a b : State} (ha : KeepsReady s0 a) (hb : KeepsReady s0 b) : KeepsReady s0 (if c then a else b) := by
  split
  · exact ha
  · exact hb

theorem KeepsReady.foldlMem {α : Type} {f : State → α → State} {l : List α} (h : KeepsReady s0 s)
    (hf : ∀ t, ∀ x ∈ l, KeepsReady s0 t → KeepsReady s0 (f t x)) : KeepsReady s0 (l.foldl f s) :=
  List.foldlRecOn (motive := KeepsReady s0) l f h fun t ht x hx => hf t x hx ht

theorem KeepsReady.foldl {α : Type} {f : State → α → State} {l : List α} (h : KeepsReady s0 s) (hf : ∀ t x, KeepsReady s0 t → KeepsReady s0 (f t x)) :
    KeepsReady s0 (l.foldl f s) := h.foldlMem fun t x _ => hf t x

theorem KeepsReady.fset {f : Fld} {u v : Nat} (h : KeepsReady s0 s) (hf : f.sparesReady = true := by decide) : KeepsReady s0 (s.fset f u v) :=
  ⟨fun page => (State.running_fset hf s u v page).trans (h.ready page)⟩

/-- A word that is no PAGE_STAT. -/
theorem KeepsReady.setWord {k : Nat} {w : Word} (h : KeepsReady s0 s) (hk : k % 0x1000 ≠ 0xC) : KeepsReady s0 (s.setWord k w) := by
  refine ⟨fun page => .trans ?_ (h.ready page)⟩
  have hne : PAGE_STAT.READY.key page ≠ k := by
    simp only [Fld.key, PAGE_STAT.READY]
    omega
  rw [State.running, State.running, State.fon, State.fon, State.fget_congr (State.word_setWord_ne s w hne)]

/-! Reports and answers. -/

theorem KeepsStatus.ready (h : KeepsStatus s t) : KeepsReady s t :=
  ⟨fun page => by rw [State.running, State.running, State.fon, State.fon, h.fget page (by simp [Fld.key, PAGE_STAT.READY])]⟩

theorem KeepsReady.pulse {page n : Nat} (h : KeepsReady s0 s) (hp : page < 64 := by decide) : KeepsReady s0 (s.pulse page n) :=
  h.trans (KeepsStatus.refl.pulse hp).ready

theorem KeepsReady.drive {src : Nat} {b : Bool} (h : KeepsReady s0 s) (hsrc : src < 512 := by decide) : KeepsReady s0 (s.drive src b) :=
  h.trans (KeepsStatus.refl.drive hsrc).ready

theorem KeepsReady.freeBuf {q : Nat} (h : KeepsReady s0 s) : KeepsReady s0 (s.freeBuf q) := h.trans Stays.refl.freeBuf.toKeepsReady

theorem KeepsReady.freeOf {o : OutPkt} (h : KeepsReady s0 s) : KeepsReady s0 (s.freeOf o) := h.trans Stays.refl.freeOf.toKeepsReady

theorem KeepsReady.setAnWaiting {q : Nat} {l : List OutPkt} (h : KeepsReady s0 s) : KeepsReady s0 (s.setAnWaiting q l) := h.update

theorem KeepsReady.timerStart {tm u count} (h : KeepsReady s0 s) : KeepsReady s0 (s.timerStart tm u count) := h.update

theorem KeepsReady.timerStop {tm u} (h : KeepsReady s0 s) : KeepsReady s0 (s.timerStop tm u) := h.update

theorem KeepsReady.setFelPort {n r} (h : KeepsReady s0 s) : KeepsReady s0 (s.setFelPort n r) := h.update.fset.fset

theorem KeepsReady.setCanRt {n r} (h : KeepsReady s0 s) : KeepsReady s0 (s.setCanRt n r) := h.update

theorem KeepsReady.setCanState {n st} (h : KeepsReady s0 s) : KeepsReady s0 (s.setCanState n st) := h.fset

theorem KeepsReady.beginPause {n} (h : KeepsReady s0 s) : KeepsReady s0 (s.beginPause n) := h.setCanRt.timerStart

theorem KeepsReady.enterCan {n st} (h : KeepsReady s0 s) : KeepsReady s0 (s.enterCan n st) := .ite h.setCanState.beginPause h.setCanState

theorem KeepsReady.isoStop {n} (h : KeepsReady s0 s) : KeepsReady s0 (s.isoStop n) := .ite h.fset.timerStop.enterCan h

theorem KeepsReady.linkFreeze {n} (h : KeepsReady s0 s) : KeepsReady s0 (s.linkFreeze n) :=
  .ite h.isoStop.setCanRt.setCanState.timerStop.pulse h.isoStop.timerStop

theorem KeepsReady.setSelftest {inst result code} (h : KeepsReady s0 s) : KeepsReady s0 (s.setSelftest inst result code) := h.fset.fset

theorem KeepsReady.selftestStop {result code} (h : KeepsReady s0 s) : KeepsReady s0 (s.selftestStop result code) := by
  unfold State.selftestStop
  dsimp only
  split
  · exact h
  · exact .ite h.update.fset.fset.enterCan.timerStop.setSelftest h.update.fset.fset.enterCan.timerStop.setSelftest.linkFreeze

theorem KeepsReady.setCtxRt {c r} (h : KeepsReady s0 s) : KeepsReady s0 (s.setCtxRt c r) := h.update

theorem KeepsReady.setQueue {i l} (h : KeepsReady s0 s) : KeepsReady s0 (s.setQueue i l) := h.update

theorem KeepsReady.driveMm {n} (h : KeepsReady s0 s) (hn : n < 32) : KeepsReady s0 (s.driveMm n) := h.drive (by omega)

theorem KeepsReady.markRecal {n} (h : KeepsReady s0 s) : KeepsReady s0 (s.markRecal n) := h.foldl fun _ _ ht => .ite ht.setCtxRt ht

theorem KeepsReady.refreshGains {n} (h : KeepsReady s0 s) : KeepsReady s0 (s.refreshGains n) := .ite h.fset.fset h.fset.fset.markRecal

theorem KeepsReady.factoryGains {n} (h : KeepsReady s0 s) : KeepsReady s0 (s.factoryGains n) := h.setFelPort

theorem KeepsReady.setArrived {k l} (h : KeepsReady s0 s) : KeepsReady s0 (s.setArrived k l) := h.update

theorem KeepsReady.emptyRings {c} (h : KeepsReady s0 s) : KeepsReady s0 (s.emptyRings c) :=
  ((h.update.foldl fun _ _ ht => ht.freeBuf).foldl fun _ _ ht => ht.freeOf).setQueue.setAnWaiting.setArrived.fset.fset

theorem KeepsReady.driveFans (h : KeepsReady s0 s) : KeepsReady s0 s.driveFans := h.drive

theorem KeepsReady.setBand {b} (h : KeepsReady s0 s) : KeepsReady s0 (s.setBand b) := .ite h h.fset.fset.pulse.timerStart

theorem KeepsReady.stopTimers {tms} (h : KeepsReady s0 s) : KeepsReady s0 (s.stopTimers tms) := h.update

theorem KeepsReady.canClear (h : KeepsReady s0 s) : KeepsReady s0 s.canClear := h.selftestStop.update.stopTimers

end Sys2Proof.Machine
end

section
/-!
What the commands of PAGE_CTRL write (R38, R39), and what a block reset drops (R479).
-/
namespace Sys2Proof.Machine

variable {s t : State} {who : Init} {page : Nat} {bits : Word}

/-! PAGE_CTRL (R38, R39). -/

theorem bitsOf_bit (w : Word) (i : Nat) : bitsOf w i i = (w.getLsbD i).toNat := by
  rw [bitsOf, fieldSize, Nat.add_sub_cancel_left, ← BitVec.testBit_toNat, Nat.testBit_eq_decide_div_mod_eq]
  rcases Nat.mod_two_eq_zero_or_one (w.toNat / 2 ^ i) with h | h <;> simp [h]

/-- A command word of PAGE_CTRL holds ENABLE and CRC_CHECK_EN as they are. -/
theorem State.getLsbD_ctrlWord (s : State) (page : Nat) (bits : Word) (i : Nat) :
    (s.ctrlWord page bits).getLsbD i = ((s.word (PAGE_CTRL.ENABLE.key page)).getLsbD i && (5 : Word).getLsbD i || bits.getLsbD i) := by
  rw [State.ctrlWord, BitVec.getLsbD_or, BitVec.getLsbD_and]

theorem State.changesCtrl_ctrlWord (h0 : bits.getLsbD 0 = false) (h2 : bits.getLsbD 2 = false) : s.changesCtrl page (s.ctrlWord page bits) = false := by
  have hen : bitsOf (s.ctrlWord page bits) 0 0 = s.fget PAGE_CTRL.ENABLE page := by
    rw [bitsOf_bit, State.getLsbD_ctrlWord, h0, State.fget, show PAGE_CTRL.ENABLE.hi = 0 from rfl, show PAGE_CTRL.ENABLE.lo = 0 from rfl, bitsOf_bit,
      show (5 : Word).getLsbD 0 = true from rfl, Bool.and_true, Bool.or_false]
  have hcrc : bitsOf (s.ctrlWord page bits) 2 2 = s.fget PAGE_CTRL.CRC_CHECK_EN page := by
    rw [bitsOf_bit, State.getLsbD_ctrlWord, h2, State.fget, show PAGE_CTRL.CRC_CHECK_EN.hi = 2 from rfl, show PAGE_CTRL.CRC_CHECK_EN.lo = 2 from rfl,
      bitsOf_bit, show (5 : Word).getLsbD 2 = true from rfl, Bool.and_true, Bool.or_false]
    rfl
  exact decide_eq_false (by simp [hen, hcrc])

/-- Its command bits are those asked for. -/
theorem State.bitsOf_ctrlWord {i : Nat} (hi : (5 : Word).getLsbD i = false) (s : State) (page : Nat) (bits : Word) :
    bitsOf (s.ctrlWord page bits) i i = (bits.getLsbD i).toNat := by
  rw [bitsOf_bit, State.getLsbD_ctrlWord, hi, Bool.and_false, Bool.false_or]

/-- A command word that resets nothing sets its bits. -/
theorem pageCtrlWrite_bits (h0 : bits.getLsbD 0 = false) (h1 : bits.getLsbD 1 = false) (h2 : bits.getLsbD 2 = false) (page : Nat) (s : State) :
    pageCtrlWrite page (s.ctrlWord page bits) s = .ok (s.ctrlBits page (s.ctrlWord page bits)) := by
  have hreset : bitsOf (s.ctrlWord page bits) 1 1 = 0 := by rw [State.bitsOf_ctrlWord (by decide), h1, Bool.toNat_false]
  unfold pageCtrlWrite
  rw [State.changesCtrl_ctrlWord h0 h2, hreset]
  simp

/-- BLOCK_RESET of a page that has one resets the block. -/
theorem pageCtrlWrite_reset (hpage : noBlockReset page = false) (s : State) :
    pageCtrlWrite page (s.ctrlWord page 2) s = .ok ((s.ctrlBits page (s.ctrlWord page 2)).blockReset page) := by
  have hreset : bitsOf (s.ctrlWord page 2) 1 1 = 1 := State.bitsOf_ctrlWord (by decide) ..
  unfold pageCtrlWrite
  rw [State.changesCtrl_ctrlWord (by decide) (by decide), hreset, hpage]
  simp

/-- A register of another offset, both at one offset of each page, is read as before. -/
theorem State.fget_fset_offset {f g : Fld} (h : f.base % 0x1000 ≠ g.base % 0x1000) (hf : f.stride % 0x1000 = 0) (hg : g.stride % 0x1000 = 0) (s : State)
    (u u' v : Nat) : (s.fset g u v).fget f u' = s.fget f u' := by
  refine State.fget_fset_ne (fun heq => h ?_) v
  have hmod := congrArg (· % 0x1000) heq
  simpa [Fld.key, Nat.add_mod, Nat.mul_mod, hf, hg] using hmod

/-- SAT_CLR clears the count and leaves the lock. -/
theorem State.ctrlBits_satClr (s : State) (page : Nat) : (s.ctrlBits page (s.ctrlWord page 0x10)).fget SAT_COUNT.COUNT page = 0 ∧
    (s.ctrlBits page (s.ctrlWord page 0x10)).fget PAGE_CTRL.CFG_LOCK page = s.fget PAGE_CTRL.CFG_LOCK page := by
  have hsat : bitsOf (s.ctrlWord page 0x10) 4 4 = 1 := State.bitsOf_ctrlWord (by decide) ..
  have hlock : bitsOf (s.ctrlWord page 0x10) 3 3 = 0 := State.bitsOf_ctrlWord (by decide) ..
  unfold State.ctrlBits
  rw [if_pos hsat]
  dsimp only
  rw [if_neg (by rw [hlock]; decide)]
  constructor
  · rw [State.fget_fset_offset (by decide) rfl rfl, State.fget_fset_offset (by decide) rfl rfl, State.fget_fset_same rfl]
    rfl
  · rw [State.fget_fset_apart rfl, State.fget_fset_apart rfl, State.fget_fset_offset (by decide) rfl rfl]

/-- CFG_LOCK is set and leaves the count. -/
theorem State.ctrlBits_cfgLock (s : State) (page : Nat) : (s.ctrlBits page (s.ctrlWord page 0x8)).fon PAGE_CTRL.CFG_LOCK page = true ∧
    (s.ctrlBits page (s.ctrlWord page 0x8)).fget SAT_COUNT.COUNT page = s.fget SAT_COUNT.COUNT page := by
  have hsat : bitsOf (s.ctrlWord page 0x8) 4 4 = 0 := State.bitsOf_ctrlWord (by decide) ..
  have hlock : bitsOf (s.ctrlWord page 0x8) 3 3 = 1 := State.bitsOf_ctrlWord (by decide) ..
  unfold State.ctrlBits
  rw [if_neg (by rw [hsat]; decide)]
  dsimp only
  rw [if_pos hlock]
  constructor
  · rw [State.fon_fset_apart rfl, State.fon_fset_apart rfl, State.fon_fset_one rfl rfl]
  · rw [State.fget_fset_offset (by decide) rfl rfl, State.fget_fset_offset (by decide) rfl rfl, State.fget_fset_offset (by decide) rfl rfl]

/-- Outside a self-test a write of PAGE_CTRL is an access like any other. -/
theorem State.ctrlAccess_admitted (h : Admitted s who page 0x008) (v : Word) :
    s.ctrlAccess who page v = s.access who page 0x008 v (pageCtrlWrite page v) := by
  obtain ⟨-, -, -, -, -, -, hselftest⟩ := h
  unfold State.ctrlAccess
  rw [hselftest]
  rfl

/-! Block resets (R479, R480). -/

theorem Tbl.get_filterMap_dropped {α : Type} {d : Nat → α} {f : Nat × α → Option (Nat × α)} {k : Nat} (hkey : ∀ e e', f e = some e' → e'.1 = e.1)
    (hdrop : ∀ v, f (k, v) = none) (l : List (Nat × α)) : Tbl.get d (l.filterMap f) k = d k := by
  induction l with
  | nil => rfl
  | cons e l ih =>
    cases he : f e with
    | none => rwa [List.filterMap_cons_none he]
    | some e' =>
      have hne : e'.1 ≠ k := fun heq => by
        have hsame : e = (k, e.2) := Prod.ext ((hkey e e' he).symm.trans heq) rfl
        rw [hsame, hdrop] at he
        cases he
      rw [List.filterMap_cons_some he, Tbl.get, if_neg hne, ih]

theorem clearedEntry_key {e e' : Nat × Word} (h : clearedEntry page e = some e') : e'.1 = e.1 := by
  unfold clearedEntry at h
  split at h
  · cases h
    rfl
  · split at h
    · cases h
    · cases h
      rfl

/-- No page keeps a word of its header whole. -/
theorem keepsWhole_header {off : Nat} (hoff : off < 0x40) (page : Nat) : keepsWhole page off = false := by
  have hcap : capStatOff = 0x48 := rfl
  unfold keepsWhole
  rw [hcap]
  iterate 10 rw [decide_eq_false (by omega)]
  simp only [ite_self]

/-- A block reset drops PAGE_STAT. -/
theorem clearedEntry_pageStat (hp : page < 64) (w : Word) : clearedEntry page (PAGE_STAT.READY.key page, w) = none := by
  have hkey : PAGE_STAT.READY.key page % Fld.unitStep = 0x1000 * page + 0xC := by
    simp only [Fld.key, PAGE_STAT.READY, Fld.unitStep]
    omega
  have hoff : (0x1000 * page + 0xC) % 0x1000 = 0xC := by omega
  have hpage : pageOfKey (PAGE_STAT.READY.key page) = page := by
    unfold pageOfKey
    simp only [hkey, hoff]
    rw [if_neg (by omega)]
    omega
  have hreset : resetWord page (PAGE_STAT.READY.key page) w = regReset (PAGE_STAT.READY.key page) := by
    have hhka : hkaStat page 0xC = false := decide_eq_false fun h => absurd h.2 (by decide)
    have hsch : schControl page 0xC = false := decide_eq_false fun h => absurd h.2 (by decide)
    unfold resetWord keptWord
    simp only [hkey, hoff, hhka, hsch]
    rfl
  unfold clearedEntry
  rw [hreset, if_neg (by simp [hpage, hkey, hoff, keepsWhole_header]), if_pos rfl]

/-- A cleared page does not run. -/
theorem State.running_clearPage (s : State) (hp : page < 64) : (s.clearPage page).running page = false := by
  have hword : (s.clearPage page).word (PAGE_STAT.READY.key page) = regReset (PAGE_STAT.READY.key page) :=
    Tbl.get_filterMap_dropped (fun _ _ => clearedEntry_key) (clearedEntry_pageStat hp) s.regs
  have hheader : (PAGE_STAT.READY.key page) % 0x1000 = 0xC := by
    simp only [Fld.key, PAGE_STAT.READY]
    omega
  have hzero : regReset (PAGE_STAT.READY.key page) = 0 := by
    unfold regReset
    simp only [hheader]
    rfl
  rw [State.running, State.fon, State.fget, hword, hzero]
  rfl

end Sys2Proof.Machine
end

section
/-!
Settles O5: block resets, stopped blocks, self-tests, configuration checks, and from them each header write.
-/
namespace Sys2Proof.Machine

variable {s t : State} {who : Init} {page : Nat} {bits : Word}

/-! Block resets. -/

/-- A block shows its state after a reset in registers other than PAGE_STAT. -/
theorem KeepsReady.blockCleared {s0 : State} (h : KeepsReady s0 s) : KeepsReady s0 (s.blockCleared page) := by
  have hgains (l : List Nat) : KeepsReady s0 (l.foldl (fun t n => (t.factoryGains n).refreshGains n) s) :=
    h.foldl fun _ _ ht => ht.factoryGains.refreshGains
  exact .ite h.canClear <| .ite (h.foldl fun _ _ ht => ht.emptyRings) <|
    .ite ((hgains _).foldlMem fun t n hn ht => (KeepsReady.ite ht.fset ht).driveMm (List.mem_range.mp hn)) <|
    .ite h.driveFans <| .ite h.setBand h

/-- The wires of the fault controller stand on its own page. -/
theorem KeepsReady.holdWires {s0 : State} (h : KeepsReady s0 t) : KeepsReady s0 (t.holdWires s page) := by
  have hwords : KeepsReady s0 (t.copyWords s ((List.range 5).map fun k => FLT_LEVEL.LEVEL.key k)) := h.foldlMem fun u k hk hu => by
    obtain ⟨n, hn, rfl⟩ := List.mem_map.mp hk
    have hlt := List.mem_range.mp hn
    refine hu.setWord ?_
    simp only [Fld.key, FLT_LEVEL.LEVEL]
    omega
  exact hwords.update

/-- A block reset ends with its page stopped (R479). -/
theorem State.running_blockReset (s : State) (hp : page < 64) (hsch : page ≠ pgSCH) (hnva : page ≠ pgNVA) : (s.blockReset page).running page = false := by
  have hstop : (s.blockStop page).running page = false := by
    unfold State.blockStop
    exact ((KeepsReady.refl.blockCleared (page := page)).holdWires.ready page).trans (State.running_clearPage _ hp)
  unfold State.blockReset
  rw [decide_eq_false hsch, decide_eq_false hnva, Bool.false_and, Bool.false_and, if_neg Bool.false_ne_true, if_neg Bool.false_ne_true]
  split
  · rename_i h
    exact (Bool.not_eq_true' _).mp h
  · exact hstop

/-! Accesses of a stopped block. -/

theorem State.fget_answerRead (s : State) (who : Init) (w : Word) (f : Fld) (u : Nat) : (s.answerRead who w).fget f u = s.fget f u := rfl

/-- A refusal on a page that does not run shows on SYS. -/
theorem State.lastRefuse_notRunning (s : State) (who : Init) (page : Nat) :
    (s.refuse who page .notRunning).fget PAGE_STAT.LAST_REFUSE pgSYS = Reason.notRunning.code := by
  unfold State.refuse
  rw [if_pos rfl, (KeepsStatus.refl.pulse (by decide)).fget pgSYS (by decide), State.fget_fset_apart rfl, State.fget_fset_same rfl]
  rfl

/-! Self-tests (R40). -/

theorem State.canState_fset {f : Fld} (hf : CAN_STAT.STATE.apart f = true) (s : State) (u v n : Nat) : (s.fset f u v).canState n = s.canState n :=
  State.fget_fset_apart hf ..

theorem State.canState_timerStart (s : State) (tm u count n : Nat) : (s.timerStart tm u count).canState n = s.canState n := rfl

/-- A test that starts shows itself, and its canceller is in SELFTEST. -/
theorem State.testStart_shows (s : State) (n : Nat) : (s.testStart n).fon SELFTEST.BUSY pgCAN = true ∧
    (s.testStart n).fon PAGE_STAT.SELFTEST_ACTIVE pgCAN = true ∧ (s.testStart n).canState n = canSELFTEST := by
  unfold State.testStart
  dsimp only
  refine ⟨?_, State.fon_fset_one rfl rfl _, ?_⟩
  · rw [State.fon, State.fget_fset_offset (by decide) rfl rfl]
    exact State.fon_fset_one rfl rfl _
  · rw [State.canState, State.fget_fset_offset (by decide) rfl rfl, State.fget_fset_offset (by decide) rfl rfl, ← State.canState,
      State.canState_timerStart, State.canState_fset rfl]
    exact State.fget_fset_same rfl ..

theorem selftestWrite_starts (hpresent : s.member.present (s.canSel who) = true) (hmay : s.testRefused (s.canSel who) = false) :
    selftestWrite who pgCAN 0x80000000 s = .ok (s.testStart (s.canSel who)) := by
  unfold selftestWrite
  dsimp only
  rw [if_neg (by decide), hpresent, hmay]
  rfl

/-! Configuration checks (R55). -/

theorem Hushed.drive {s0 : State} {src : Nat} {b : Bool} (h : Hushed s0 s) : Hushed s0 (s.drive src b) := by
  have hlevel (now : Bool) : Hushed s0 (State.fsetBit { s with flt := { s.flt with drive := Tbl.set (fun _ => false) s.flt.drive src b } }
      FLT_LEVEL.LEVEL (src / 32) (src % 32) now) := h.update.fset
  exact .ite (hlevel _).update (hlevel _)

theorem Hushed.setCrcErr {s0 : State} {bad : Bool} (h : Hushed s0 s) : Hushed s0 (s.setCrcErr page bad) := h.fset.fset.cond.drive

theorem Hushed.crcRunning {s0 : State} (h : Hushed s0 t) : t.crcRunning page = s0.crcRunning page := by
  have heq := congrArg State.crcPass h.hush
  exact congrArg (fun l => Tbl.get (fun _ => false) l page) heq

theorem State.crcRunning_fset (s : State) (f : Fld) (u v page : Nat) : (s.fset f u v).crcRunning page = s.crcRunning page := rfl

theorem State.crcRunning_timerStart (s : State) (tm u count page : Nat) : (s.timerStart tm u count).crcRunning page = s.crcRunning page := rfl

theorem State.crcRunning_dropCrcPass (s : State) (page : Nat) : (s.dropCrcPass page).crcRunning page = false := by
  unfold State.crcRunning
  exact Tbl.get_set_same (fun _ => false) s.crcPass page false

theorem State.fget_timerStart (s : State) (tm u count : Nat) (f : Fld) (v : Nat) : (s.timerStart tm u count).fget f v = s.fget f v := rfl

theorem configSource_lt (page : Nat) : configSource page < 512 := by
  unfold configSource
  repeat' split
  all_goals decide

/-- Of a page's header a verdict changes CRC_ERR alone. -/
theorem KeepsStatus.setCrcErr (s : State) (hp : page < 64) (bad : Bool) : KeepsStatus (s.fsetB PAGE_STAT.CRC_ERR page bad) (s.setCrcErr page bad) := by
  unfold State.setCrcErr
  dsimp only
  refine (KeepsStatus.cond ?_ hp).drive (configSource_lt page)
  split
  · exact KeepsStatus.refl.setAt
  · exact KeepsStatus.refl.setAt

/-- A verdict shows in CRC_ERR and leaves CRC_STALE and the running checks. -/
theorem State.setCrcErr_shows (s : State) (hp : page < 64) (bad : Bool) : (s.setCrcErr page bad).crcRunning page = s.crcRunning page ∧
    (s.setCrcErr page bad).fget PAGE_STAT.CRC_STALE page = s.fget PAGE_STAT.CRC_STALE page ∧ (s.setCrcErr page bad).fon PAGE_STAT.CRC_ERR page = bad := by
  have hkeeps := KeepsStatus.setCrcErr s hp bad
  refine ⟨Hushed.refl.setCrcErr.crcRunning, ?_, ?_⟩
  · rw [hkeeps.fget page (by simp [Fld.key, PAGE_STAT.CRC_STALE]), State.fsetB, State.fget_fset_apart rfl]
  · rw [State.fon, hkeeps.fget page (by simp [Fld.key, PAGE_STAT.CRC_ERR]), ← State.fon, State.fon_fsetB rfl rfl]

/-- A command of PAGE_CTRL that resets nothing ends as its bits say, read from the registers. -/
theorem State.ctrlAccess_ends {P : State → Prop} (h : Admitted s who page 0x008) (h0 : bits.getLsbD 0 = false) (h1 : bits.getLsbD 1 = false)
    (h2 : bits.getLsbD 2 = false) (hP : ∀ t timers crcPass busRefuse, P t → P { t with timers := timers, crcPass := crcPass, busRefuse := busRefuse })
    (hbits : ∀ timers expert, P (State.ctrlBits { s with timers := timers, expert := expert } page
      (State.ctrlWord { s with timers := timers, expert := expert } page bits))) :
    Took (s.ctrlAccess who page (s.ctrlWord page bits)) who ∧ P (s.ctrlAccess who page (s.ctrlWord page bits)) := by
  rw [State.ctrlAccess_admitted h]
  exact State.access_ends h _ hP fun timers expert =>
    ⟨_, pageCtrlWrite_bits h0 h1 h2 page { s with timers := timers, expert := expert }, hbits timers expert⟩

/-- Settles O5: each header command by the write that it is, after the tests of the bus. -/
theorem pageHeaderWritesComplete : Obligations.PageHeaderWritesComplete := by
  refine ⟨?enable, ?stopped, ?satClr, ?cfgLock, ?reset, ?owner, ?selftest, ?check, ?stale⟩
  case enable =>
    rintro who addr value sub s rfl haddr h
    refine ⟨_, rfl, ?_⟩
    rw [haddr, show 0x14014 = pgCAN * 0x1000 + 0x014 from rfl, State.regWrite_header s who value (by decide)]
    refine State.access_ends (P := fun t => t.fget EVT_ENABLE.ENABLE pgCAN = value.toNat) h value (fun _ _ _ _ ht => ht) fun timers expert =>
      ⟨_, rfl, ?_⟩
    exact (State.fget_fset_same rfl ..).trans (Nat.mod_eq_of_lt value.isLt)
  case stopped =>
    intro who page write s hpresent hstopped
    refine ⟨_, rfl, ?_⟩
    rw [hpresent, hstopped, if_pos (show (true && !false) = true from rfl)]
    dsimp only
    generalize (if write then s.disarm who page.val else s) = u
    have hreason := State.lastReason_refuse u who page.val .notRunning
    have hshown := State.lastRefuse_notRunning u who page.val
    generalize u.refuse who page.val .notRunning = t at hreason hshown
    cases write
    · rw [if_neg Bool.false_ne_true, State.lastReason_answerRead, State.fget_answerRead]
      exact ⟨hreason, hshown, fun _ => State.readOf_answerRead ..⟩
    · rw [if_pos rfl]
      exact ⟨hreason, hshown, fun h => absurd h.symm Bool.false_ne_true⟩
  case satClr =>
    intro who page s h
    exact ⟨_, rfl, State.ctrlAccess_ends (P := fun t => t.fget SAT_COUNT.COUNT page.val = 0 ∧ t.fget PAGE_CTRL.CFG_LOCK page.val =
      s.fget PAGE_CTRL.CFG_LOCK page.val) h (by decide) (by decide) (by decide) (fun _ _ _ _ ht => ht) fun _ _ => State.ctrlBits_satClr ..⟩
  case cfgLock =>
    intro who page s h
    exact ⟨_, rfl, State.ctrlAccess_ends (P := fun t => t.fon PAGE_CTRL.CFG_LOCK page.val = true ∧ t.fget SAT_COUNT.COUNT page.val =
      s.fget SAT_COUNT.COUNT page.val) h (by decide) (by decide) (by decide) (fun _ _ _ _ ht => ht) fun _ _ => State.ctrlBits_cfgLock ..⟩
  case reset =>
    intro who page s h hreset hsch hnva
    refine ⟨_, rfl, ?_⟩
    rw [State.ctrlAccess_admitted h]
    exact State.access_ends (P := fun t => t.running page.val = false) h _ (fun _ _ _ _ ht => ht) fun timers expert =>
      ⟨_, pageCtrlWrite_reset hreset { s with timers := timers, expert := expert }, State.running_blockReset _ page.isLt hsch hnva⟩
  case owner =>
    intro who page id s h
    exact ⟨_, rfl, State.accessBy_ends (P := fun t => t.fget OWNER.ID page.val = s.fget OWNER.ID page.val) h _ (fun _ _ _ _ ht => ht)
      fun _ _ => ⟨_, rfl, rfl⟩⟩
  case selftest =>
    rintro who ⟨page, hlt⟩ s h rfl hidle hpresent hmay
    refine ⟨_, rfl, ?_⟩
    unfold State.selftestAccess
    rw [hidle, Bool.false_and, Bool.false_and, if_neg Bool.false_ne_true]
    exact State.access_ends (P := fun t => t.fon SELFTEST.BUSY pgCAN = true ∧ t.fon PAGE_STAT.SELFTEST_ACTIVE pgCAN = true ∧
      t.canState (s.canSel who) = canSELFTEST) h _ (fun _ _ _ _ ht => ht) fun timers expert =>
      ⟨_, selftestWrite_starts (s := { s with timers := timers, expert := expert }) hpresent hmay, State.testStart_shows ..⟩
  case check =>
    intro page good s hrunning
    refine ⟨_, rfl, ?_⟩
    rw [if_pos hrunning]
    dsimp only
    obtain ⟨hpass, hstale, herr⟩ := State.setCrcErr_shows
      (((s.dropCrcPass page.val).fset PAGE_STAT.CRC_STALE page.val 0).timerStart tmCrc page.val (s.dropCrcPass page.val).ms) page.isLt (!good)
    rw [State.crcRunning_timerStart, State.crcRunning_fset, State.crcRunning_dropCrcPass] at hpass
    rw [State.fget_timerStart, State.fget_fset_same rfl, Nat.zero_mod] at hstale
    exact ⟨hpass, hstale, herr⟩
  case stale =>
    intro page s hdue
    refine ⟨_, rfl, ?_⟩
    rw [if_pos hdue]
    exact State.fon_fset_one rfl rfl _

end Sys2Proof.Machine
end

section
/-!
Refutes O8: an ENABLE of a path without a place raises no event whose level stands already.
-/
namespace Sys2Proof.Machine

/-- Page CHN runs, the level of its event CMD_REJECTED stands with the sticky bit clear, and no image is active: no path has a place. -/
def rejectionStands : State := { regs := [(PAGE_STAT.READY.key pgCHN, 1), (EVT_LEVEL.LEVEL.key pgCHN, 1)] }

/-- The bus admits the device's write of CHN_PATH_CFG0 there. -/
theorem admitted_rejectionStands : Admitted rejectionStands .pairA pgCHN 0x200 := by decide +kernel

/-- ENABLE := 1 of path 0 is rejected there without a rise of CMD_REJECTED: a level that stands does not rise (R42, R80). -/
theorem pathEnable_sets_no_sticky :
    (rejectionStands.pathAccess .pairA 0 (putBits (rejectionStands.pathCfgWord 0) 31 31 1)).fbit EVT_STICKY.STICKY pgCHN 0 = false := by decide +kernel

/-- Refutes O8: its eighth clause lets every rejected ENABLE leave CMD_REJECTED sticky, and leaves out that the event rises only from a level of 0 (R42),
so that on `rejectionStands`, where the level stands, the sticky bit stays clear. -/
theorem not_pathsAndDelaysComplete : ¬ Obligations.PathsAndDelaysComplete := by
  rintro ⟨-, -, -, -, -, -, -, hunplaced, -⟩
  obtain ⟨t, hexec, -, -, -, hsticky, -⟩ := hunplaced .pairA 0 rejectionStands admitted_rejectionStands (by decide) (by decide) (by decide +kernel)
    (by decide +kernel) (by decide +kernel) (by decide +kernel) (by decide +kernel) (by decide +kernel) (by decide +kernel) (by decide +kernel)
  cases hexec
  exact absurd (pathEnable_sets_no_sticky.symm.trans hsticky) (by decide)

end Sys2Proof.Machine
end

section
/-!
Fields of a context, and what stands behind it: what one reads after a write of the same field and of another, and after the operations that a
context's commands are made of.
-/
namespace Sys2Proof.Machine

-- One proof after the other: a default argument by a tactic waits until the kernel has checked all that stands before it.
set_option Elab.async false

variable {s0 s t : State} {c st w : Nat} {f : CFld}

/-- A field lies within a word. -/
def CFld.inWord (f : CFld) : Bool := decide (f.lo ≤ f.hi ∧ f.hi < 32)

/-- No write of `g` changes what `f` reads: the two lie in different words, or in one word with no bit in common. -/
def CFld.apart (f g : CFld) : Bool := g.inWord && decide (f.word ≠ g.word ∨ g.hi < f.lo ∨ f.hi < g.lo)

theorem State.cget_cset_same (hf : f.inWord = true) (s : State) (c v : Nat) : (s.cset f c v).cget f c = v % fieldSize f.hi f.lo := by
  simp only [CFld.inWord, decide_eq_true_eq] at hf
  rw [State.cget, State.cset, State.cword_setCword_same, bitsOf_putBits_same hf.1 hf.2]

theorem State.cget_cset_apart {g : CFld} (h : f.apart g = true) (s : State) (c v : Nat) : (s.cset g c v).cget f c = s.cget f c := by
  simp only [CFld.apart, CFld.inWord, Bool.and_eq_true, decide_eq_true_eq] at h
  obtain ⟨⟨hlo, hhi⟩, hd⟩ := h
  rw [State.cget, State.cset]
  by_cases hw : f.word = g.word
  · rw [hw, State.cword_setCword_same, bitsOf_putBits_disjoint hlo hhi (by omega), State.cget, hw]
  · rw [State.cword_setCword_ne hw, State.cget]

theorem State.cmd_setCtxRt (s : State) (c : Nat) (r : CtxRt) : ((s.setCtxRt c r).ctxRt c).cmd = r.cmd := by rw [State.ctxRt_setCtxRt]

theorem State.slot_setCtxRt (s : State) (c : Nat) (r : CtxRt) : ((s.setCtxRt c r).ctxRt c).slot = r.slot := by rw [State.ctxRt_setCtxRt]

/-- Context `c` reads the same in a field of `t` as in `s0`, and holds the same command and the same entry of a tick pool. -/
structure KeepsField (f : CFld) (c : Nat) (s0 t : State) : Prop where
  field : t.cget f c = s0.cget f c
  cmd : (t.ctxRt c).cmd = (s0.ctxRt c).cmd
  slot : (t.ctxRt c).slot = (s0.ctxRt c).slot

theorem KeepsField.refl : KeepsField f c s s := ⟨rfl, rfl, rfl⟩

theorem KeepsField.ite {p : Prop} [Decidable p] {a b : State} (ha : KeepsField f c s0 a) (hb : KeepsField f c s0 b) :
    KeepsField f c s0 (if p then a else b) := by
  split
  · exact ha
  · exact hb

theorem KeepsField.fset {g : Fld} {u v : Nat} (h : KeepsField f c s0 s) : KeepsField f c s0 (s.fset g u v) := ⟨h.field, h.cmd, h.slot⟩

theorem KeepsField.cset {g : CFld} {v : Nat} (h : KeepsField f c s0 s) (hg : f.apart g = true := by rfl) : KeepsField f c s0 (s.cset g c v) :=
  ⟨(State.cget_cset_apart hg s c v).trans h.field, h.cmd, h.slot⟩

theorem KeepsField.csetI {g : CFld} {v : Int} (h : KeepsField f c s0 s) (hg : f.apart g = true) : KeepsField f c s0 (s.csetI g c v) := h.cset hg

theorem KeepsField.setCword {v : Word} (h : KeepsField f c s0 s) (hw : f.word ≠ w := by decide) : KeepsField f c s0 (s.setCword c w v) :=
  ⟨(congrArg (bitsOf · f.hi f.lo) (State.cword_setCword_ne hw s c v)).trans h.field, h.cmd, h.slot⟩

/-- What stands behind the context changes in other parts. -/
theorem KeepsField.setCtxRt {r : CtxRt} (h : KeepsField f c s0 s) (hcmd : r.cmd = (s0.ctxRt c).cmd) (hslot : r.slot = (s0.ctxRt c).slot) :
    KeepsField f c s0 (s.setCtxRt c r) :=
  ⟨h.field, (State.cmd_setCtxRt ..).trans hcmd, (State.slot_setCtxRt ..).trans hslot⟩

/-! A context enters a state (R71, R76, R78, R146). -/

/-- Entering a state writes, beside the state and the mute causes, fields that are apart from both. -/
def CFld.outlasts (f : CFld) : Bool :=
  f.apart CTX_STATUS.TRANSITIONS && f.apart CTX_STATE_TIME.DT && f.apart CTX_MEAS_GAIN.MEAS_GAIN && f.apart CW47.NOISE_MEAS

/-- Entering a state changes what a field shows as the write of STATE does, where the field is apart from what is written beside it, and the state
does not drop the mute causes or the field is apart from them. -/
theorem KeepsField.setCtxState (hf : f.outlasts = true)
    (hmutes : (st ≠ ctxCONFIGURED ∧ st ≠ ctxFREE) ∨ (f.apart CTX_STATUS.MUTE_SET && f.apart CTX_STATUS.MUTE_CAUSE) = true) :
    KeepsField f c (s.cset CTX_CTRL.STATE c st) (s.setCtxState c st) := by
  simp only [CFld.outlasts, Bool.and_eq_true] at hf hmutes
  obtain ⟨⟨⟨htransitions, htime⟩, hgain⟩, hnoise⟩ := hf
  have henter : KeepsField f c (s.cset CTX_CTRL.STATE c st) ((((s.cset CTX_CTRL.STATE c st).cbump CTX_STATUS.TRANSITIONS c).cset CTX_STATE_TIME.DT c
      (s.dt % 2 ^ 32)).countRunning (s.ctxState c) st) := ((KeepsField.refl.cset htransitions).cset htime).fset
  unfold State.setCtxState
  dsimp only
  split
  · refine .ite (.csetI (.setCtxRt (henter.csetI hgain) ?_ ?_) hnoise) (.setCtxRt (henter.csetI hgain) ?_ ?_)
    exacts [henter.cmd, henter.slot, henter.cmd, henter.slot]
  · split
    next hdrops =>
      obtain ⟨hset, hcause⟩ := hmutes.resolve_left fun h => by omega
      exact ((henter.cset hset).cset hcause).setCtxRt henter.cmd henter.slot
    next => exact henter

theorem State.setCtxState_keepsState (s : State) : KeepsField CTX_CTRL.STATE c (s.cset CTX_CTRL.STATE c st) (s.setCtxState c st) :=
  .setCtxState rfl (.inr rfl)

theorem State.ctxState_setCtxState (s : State) (c : Nat) (hst : st < 8) : (s.setCtxState c st).ctxState c = st := by
  rw [State.ctxState, s.setCtxState_keepsState.field, State.cget_cset_same rfl]
  exact Nat.mod_eq_of_lt hst

theorem State.cmd_setCtxState (s : State) (c st : Nat) : ((s.setCtxState c st).ctxRt c).cmd = (s.ctxRt c).cmd :=
  s.setCtxState_keepsState.cmd.trans (congrArg CtxRt.cmd (State.ctxRt_cset ..))

theorem State.slot_setCtxState (s : State) (c st : Nat) : ((s.setCtxState c st).ctxRt c).slot = (s.ctxRt c).slot :=
  s.setCtxState_keepsState.slot.trans (congrArg CtxRt.slot (State.ctxRt_cset ..))

/-- Only CONFIGURED and FREE drop the mute causes (R78). -/
theorem State.muteSet_setCtxState (s : State) (c : Nat) (hst : st ≠ ctxCONFIGURED ∧ st ≠ ctxFREE) : (s.setCtxState c st).muteSet c = s.muteSet c :=
  (KeepsField.setCtxState (f := CTX_STATUS.MUTE_SET) rfl (.inl hst)).field.trans (State.cget_cset_apart rfl ..)

/-! Mute causes (R78). -/

theorem KeepsField.setMutes {set : Nat} (h : KeepsField CTX_CTRL.STATE c s0 s) : KeepsField CTX_CTRL.STATE c s0 (s.setMutes c set) := h.cset.cset

theorem State.muteSet_setMutes (s : State) (c set : Nat) : (s.setMutes c set).muteSet c = set % 32 :=
  (State.cget_cset_apart rfl ..).trans (State.cget_cset_same rfl s c set)

theorem State.mutedFor_iff (s : State) (c : Nat) : s.mutedFor c 1 = true ↔ s.muteSet c % 2 = 1 := by
  simp [State.mutedFor, Nat.testBit_zero]

/-- A soft start leads to RAMPING (R158). -/
theorem State.softStart_ends (s : State) (c : Nat) : (s.softStart c).ctxState c = ctxRAMPING ∧ ((s.softStart c).ctxRt c).cmd = (s.ctxRt c).cmd ∧
    (s.softStart c).muteSet c = s.muteSet c := by
  unfold State.softStart
  dsimp only
  split
  next hramping => exact ⟨hramping, State.cmd_setCtxRt .., rfl⟩
  next =>
    refine ⟨State.ctxState_setCtxState _ c (by decide), ?_, State.muteSet_setCtxState _ c (by decide)⟩
    rw [State.cmd_setCtxState, State.ctxRt_setCtxRt]

end Sys2Proof.Machine
end

section
/-!
Settles O10: the seven context commands, each from what the operations above leave.
-/
namespace Sys2Proof.Machine

-- One proof after the other: a default argument by a tactic waits until the kernel has checked all that stands before it.
set_option Elab.async false

variable {s0 s t : State} {c st r tick cmd : Nat} {f : CFld}

/-! What ends a command (R74). -/

theorem Hushed.cen (h : Hushed s t) : t.cen = s.cen := by
  have heq := congrArg State.cen h.hush
  exact heq

theorem State.ctxRt_cmdResult (s : State) (c r d : Nat) : (s.cmdResult c r).ctxRt d = s.ctxRt d := by
  unfold State.cmdResult
  split
  · rw [State.ctxRt, Hushed.refl.pulse.cen]
    exact State.ctxRt_cset ..
  · exact State.ctxRt_cset ..

theorem KeepsField.cmdResult (h : KeepsField f c s0 s) (hf : f.apart CTX_CTRL.CMD_RESULT = true := by rfl) : KeepsField f c s0 (s.cmdResult c r) :=
  ⟨(State.cget_congr (State.ctx_cmdResult ..) f c).trans (h.cset hf).field, (congrArg CtxRt.cmd (State.ctxRt_cmdResult ..)).trans h.cmd,
    (congrArg CtxRt.slot (State.ctxRt_cmdResult ..)).trans h.slot⟩

theorem State.ctxState_cmdResult (s : State) (c r : Nat) : (s.cmdResult c r).ctxState c = s.ctxState c :=
  (KeepsField.refl (f := CTX_CTRL.STATE)).cmdResult.field

theorem State.muteSet_cmdResult (s : State) (c r : Nat) : (s.cmdResult c r).muteSet c = s.muteSet c :=
  (KeepsField.refl (f := CTX_STATUS.MUTE_SET)).cmdResult.field

theorem State.mutedFor_cmdResult (s : State) (c r cause : Nat) : (s.cmdResult c r).mutedFor c cause = s.mutedFor c cause := by
  rw [State.mutedFor, State.muteSet_cmdResult, State.mutedFor]

theorem State.result_cmdResult (s : State) (c : Nat) (hr : r < 16) : (s.cmdResult c r).cget CTX_CTRL.CMD_RESULT c = r := by
  rw [State.cget_congr (State.ctx_cmdResult ..), State.cget_cset_same rfl]
  exact Nat.mod_eq_of_lt hr

/-- A command of context `c` has ended: the state that it leads to, its result, and none held. -/
abbrev Ended (t : State) (c st r : Nat) : Prop := t.ctxState c = st ∧ t.cget CTX_CTRL.CMD_RESULT c = r ∧ (t.ctxRt c).cmd = 0

theorem ended_cmdResult (hst : s.ctxState c = st) (hcmd : (s.ctxRt c).cmd = 0) (hr : r < 16) : Ended (s.cmdResult c r) c st r :=
  ⟨(State.ctxState_cmdResult ..).trans hst, State.result_cmdResult s c hr, (congrArg CtxRt.cmd (State.ctxRt_cmdResult ..)).trans hcmd⟩

/-- The command that a context holds is taken. -/
def State.takeCmd (s : State) (c : Nat) : State := s.setCtxRt c { s.ctxRt c with cmd := 0 }

theorem State.cmd_takeCmd (s : State) (c : Nat) : ((s.takeCmd c).ctxRt c).cmd = 0 := State.cmd_setCtxRt ..

theorem State.ctxState_setCtxRt (s : State) (c : Nat) (r : CtxRt) (d : Nat) : (s.setCtxRt c r).ctxState d = s.ctxState d := rfl

theorem State.ctxState_takeCmd (s : State) (c : Nat) : (s.takeCmd c).ctxState c = s.ctxState c := rfl

theorem State.actIfHeld_of_held (hc : c < s.member.contexts) (hheld : (s.ctxRt c).cmd = cmd) : s.actIfHeld c cmd = s.ctxCommand c cmd :=
  if_pos ⟨hc, hheld⟩

/-! What each command comes to (R75, R76). -/

section
variable (s : State) (c : Nat)

theorem State.ctxCommand_hold : s.ctxCommand c cmdHOLD =
    if s.ctxState c = ctxRAMPING ∨ s.ctxState c = ctxACTIVE then ((s.takeCmd c).setCtxState c ctxHELD).cmdResult c 0
    else (s.takeCmd c).cmdResult c 2 := by
  simp only [State.ctxCommand, cmdCONFIGURE, cmdSTART, cmdHOLD, Nat.reduceEqDiff, if_false, if_true]
  rfl

theorem State.ctxCommand_resume : s.ctxCommand c cmdRESUME =
    if s.ctxState c = ctxHELD then ((s.takeCmd c).softStart c).cmdResult c 0
    else if s.ctxState c = ctxMUTED ∧ s.mutedFor c 1 = true then ((s.takeCmd c).muteRemove c 1).cmdResult c 0
    else (s.takeCmd c).cmdResult c 2 := by
  simp only [State.ctxCommand, cmdCONFIGURE, cmdSTART, cmdHOLD, cmdRESUME, Nat.reduceEqDiff, if_false, if_true]
  rfl

theorem State.ctxCommand_mute : s.ctxCommand c cmdMUTE =
    if ctxRuns (s.ctxState c) = true ∨ s.ctxState c = ctxMUTED then ((s.takeCmd c).muteAdd c 1).cmdResult c 0
    else (s.takeCmd c).cmdResult c 2 := by
  simp only [State.ctxCommand, cmdCONFIGURE, cmdSTART, cmdHOLD, cmdRESUME, cmdMUTE, Nat.reduceEqDiff, if_false, if_true]
  rfl

theorem State.ctxCommand_stop : s.ctxCommand c cmdSTOP =
    if ctxRuns (s.ctxState c) = true ∨ s.ctxState c = ctxMUTED then ((s.takeCmd c).drain c).cmdResult c 0
    else (s.takeCmd c).cmdResult c 2 := by
  simp only [State.ctxCommand, cmdCONFIGURE, cmdSTART, cmdHOLD, cmdRESUME, cmdMUTE, cmdSTOP, Nat.reduceEqDiff, if_false, if_true]
  rfl

theorem State.ctxCommand_release : s.ctxCommand c cmdRELEASE =
    if s.ctxState c = ctxCONFIGURED then (s.takeCmd c).released_ c else (s.takeCmd c).cmdResult c 2 := by
  simp only [State.ctxCommand, cmdCONFIGURE, cmdSTART, cmdHOLD, cmdRESUME, cmdMUTE, cmdSTOP, cmdRELEASE, Nat.reduceEqDiff, if_false]
  rfl

end

/-- CONFIGURE in a state that admits it, its checks passed. -/
theorem State.ctxCommand_configure (hst : s.ctxState c = ctxFREE ∨ s.ctxState c = ctxCONFIGURED) (hok : (s.takeCmd c).checkContext c = .ok t) :
    s.ctxCommand c cmdCONFIGURE = t.configured c := by
  rw [State.takeCmd] at hok
  unfold State.ctxCommand
  rw [if_pos rfl, if_pos hst, hok]

theorem State.ctxCommand_configure_refused (hfree : s.ctxState c ≠ ctxFREE) (hconf : s.ctxState c ≠ ctxCONFIGURED) :
    s.ctxCommand c cmdCONFIGURE = (s.takeCmd c).cmdResult c 2 := by
  unfold State.ctxCommand
  rw [if_pos rfl, if_neg (not_or.mpr ⟨hfree, hconf⟩), State.takeCmd]

/-- START of a configured context of a path that is ON, its checks passed. -/
theorem State.ctxCommand_start (hst : s.ctxState c = ctxCONFIGURED) (hon : s.pathState (s.ctxPath c) = pathON)
    (hok : (s.takeCmd c).checkContext c = .ok t) : s.ctxCommand c cmdSTART = t.started c := by
  rw [State.takeCmd] at hok
  unfold State.ctxCommand
  rw [if_neg (by decide), if_pos rfl, if_neg (not_not.mpr hst)]
  exact (if_neg (not_not.mpr hon)).trans (by rw [hok])

theorem State.ctxCommand_start_refused (hst : s.ctxState c ≠ ctxCONFIGURED) : s.ctxCommand c cmdSTART = (s.takeCmd c).cmdResult c 2 := by
  unfold State.ctxCommand
  rw [if_neg (by decide), if_pos rfl, if_pos hst, State.takeCmd]

/-- A command that comes to nothing but a result of 2 leaves the context's state. -/
theorem State.actIfHeld_refused (hc : c < s.member.contexts) (hheld : (s.ctxRt c).cmd = cmd)
    (hrefused : s.ctxCommand c cmd = (s.takeCmd c).cmdResult c 2) : Ended (s.actIfHeld c cmd) c (s.ctxState c) 2 := by
  rw [State.actIfHeld_of_held hc hheld, hrefused]
  exact ended_cmdResult (s.ctxState_takeCmd c) (s.cmd_takeCmd c) (by decide)

/-! The checks of CONFIGURE and START (R75, R92). -/

/-- `t` is `s` with a tick pool's register, the entry of context `c` and the free values changed: the registers above page SCH, the context words and
the protection slots are those of `s`, and the context's command too. -/
structure Reserved (c : Nat) (s t : State) : Prop where
  word : ∀ k, 0x13000 ≤ k → t.word k = s.word k
  ctx : t.ctx = s.ctx
  npr : t.npr = s.npr
  cmd : (t.ctxRt c).cmd = (s.ctxRt c).cmd

theorem poolFreeKey_lt (tick : Nat) : (poolFreeFld tick).key 0 < 0x13000 := by
  unfold poolFreeFld
  split <;> decide

theorem State.reserveSlot_reserves (h : s.reserveSlot c tick = some t) : Reserved c s t := by
  unfold State.reserveSlot at h
  dsimp only at h
  split at h
  · cases h
  · split at h
    · cases h
    · cases h
      have hpool := poolFreeKey_lt tick
      exact ⟨fun k hk => State.word_setWord_ne _ _ (by omega), rfl, rfl, State.cmd_setCtxRt ..⟩

/-- Checks that pass do at most reserve a tick pool's entry. -/
theorem State.checkContext_reserves (h : s.checkContext c = .ok t) : Reserved c s t := by
  unfold State.checkContext at h
  dsimp only at h
  iterate 5
    split at h
    · cases h
  split at h
  · cases h
    exact ⟨fun _ _ => rfl, rfl, rfl, rfl⟩
  · split at h
    · cases h
    next hslot =>
      cases h
      exact State.reserveSlot_reserves hslot

theorem Reserved.fget (h : Reserved c s t) {f : Fld} (hf : 0x13000 ≤ f.base) : t.fget f = s.fget f :=
  funext fun _ => State.fget_congr (h.word _ (hf.trans (Nat.le_add_right ..)))

theorem Reserved.cget (h : Reserved c s t) : t.cget = s.cget := funext fun f => funext fun d => State.cget_congr h.ctx f d

theorem Reserved.foxHolds (h : Reserved c s t) : t.foxHolds = s.foxHolds := by
  unfold State.foxHolds State.foxHoldsPath State.fbit State.writesOf State.fbit State.foxRt State.ctxPath
  rw [h.fget (f := NPR_FOX_PATHS.PATHS) (by decide), h.fget (f := NPR_FOX_STREAMS.STREAMS) (by decide),
    h.fget (f := CHN_PATH_CFG.DONOR) (by decide), h.fget (f := CHN_PATH_CFG.SVC_MASK) (by decide), h.cget, h.npr]

theorem Reserved.foxBusyOn (h : Reserved c s t) : t.foxBusyOn c = s.foxBusyOn c := by
  unfold State.foxBusyOn State.foxState
  rw [h.fget (f := NPR_FOX_STAT.STATE) (by decide), h.foxHolds]

theorem Reserved.coverNow (h : Reserved c s t) : t.coverNow c = s.coverNow c := by
  unfold State.coverNow State.fon State.entryOf State.ctxPath
  rw [h.fget (f := LIM_REG_STAT.VALID) (by decide), h.cget, h.npr]

theorem exists_ok_of_toOption {ε α : Type} {x : Except ε α} (h : x.toOption.isSome = true) : ∃ a, x = .ok a := by
  cases x with
  | error => cases h
  | ok a => exact ⟨a, rfl⟩

/-! CONFIGURE and START (R76, R78, R161, R167, R178). -/

theorem KeepsField.resetHolds (h : KeepsField f c s0 s) : KeepsField f c s0 (s.resetHolds c) := .ite h ⟨h.field, h.cmd, h.slot⟩

theorem KeepsField.deriveLoops (h : KeepsField CTX_CTRL.STATE c s0 s) : KeepsField CTX_CTRL.STATE c s0 (s.deriveLoops c) :=
  h.cset.cset.cset.cset.cset.cset

theorem KeepsField.configStrips (h : KeepsField CTX_CTRL.STATE c s0 s) : KeepsField CTX_CTRL.STATE c s0 (s.configStrips c) :=
  .ite h.cset.cset.resetHolds h.cset.cset

/-- A configured context is CONFIGURED, and its derivations leave that. -/
theorem State.configured_ends (hcmd : (s.ctxRt c).cmd = 0) : Ended (s.configured c) c ctxCONFIGURED 0 := by
  unfold State.configured
  dsimp only
  generalize ht : (if s.ctxState c = ctxCONFIGURED then s else s.setCtxState c ctxCONFIGURED) = t
  have hstart : t.ctxState c = ctxCONFIGURED ∧ (t.ctxRt c).cmd = 0 := by
    rw [← ht]
    split
    · exact ⟨‹_›, hcmd⟩
    · exact ⟨s.ctxState_setCtxState c (by decide), (s.cmd_setCtxState ..).trans hcmd⟩
  have hderived := (KeepsField.refl (c := c) (s := t)).deriveLoops.configStrips
  have hkeep {r : CtxRt} (hcmd : r.cmd = (t.ctxRt c).cmd) (hslot : r.slot = (t.ctxRt c).slot) :
      KeepsField CTX_CTRL.STATE c t (((((((((t.deriveLoops c).configStrips c).setCtxRt c r).cset CW40.I1 c 0).cset CW40.I2 c 0).cset
        CTX_STATUS.TRANSITIONS c 0).cset CW51.CLAMPS c 0).cset CTX_FOX.SHUTDOWNS c 0).cset CTX_BUDGET_STAT.REFUSALS c 0) :=
    (hderived.setCtxRt hcmd hslot).cset.cset.cset.cset.cset.cset
  have hall := hkeep (r := { t.ctxRt c with i1 := 0, i2 := 0 }) rfl rfl
  exact ended_cmdResult (hall.field.trans hstart.1) (hall.cmd.trans hstart.2) (by decide)

/-- A started context is MUTED where a slot holds it or no entry covers it, and else RAMPING. -/
theorem State.started_ends (hcmd : (s.ctxRt c).cmd = 0) :
    Ended (s.started c) c (if s.foxBusyOn c = true ∨ s.coverNow c = none then ctxMUTED else ctxRAMPING) 0 := by
  have hset : (if s.foxBusyOn c = true then 2 else 0) + (if (s.coverNow c).isNone = true then 16 else 0) = 0 ↔
      ¬(s.foxBusyOn c = true ∨ s.coverNow c = none) := by
    cases s.foxBusyOn c <;> cases s.coverNow c <;> simp
  unfold State.started
  dsimp only
  generalize hu : (((s.setCover c (s.coverNow c)).setCtxRt c _).cset CW40.I1 c 0).cset CW40.I2 c 0 = u
  have hkeep : (u.ctxRt c).cmd = 0 := by
    rw [← hu, State.ctxRt_cset, State.ctxRt_cset, State.cmd_setCtxRt]
    exact hcmd
  by_cases hcause : s.foxBusyOn c = true ∨ s.coverNow c = none
  · rw [if_pos hcause, if_neg (mt hset.mp (not_not.mpr hcause))]
    have hmuted {set : Nat} := (KeepsField.refl (c := c) (s := u.setCtxState c ctxMUTED)).setMutes (set := set)
    exact ended_cmdResult (hmuted.field.trans (u.ctxState_setCtxState c (by decide))) (hmuted.cmd.trans ((u.cmd_setCtxState ..).trans hkeep))
      (by decide)
  · rw [if_neg hcause, if_pos (hset.mpr hcause)]
    obtain ⟨hramping, hcmd', -⟩ := u.softStart_ends c
    exact ended_cmdResult hramping (hcmd'.trans hkeep) (by decide)

/-! MUTE and RESUME (R76, R78). -/

/-- A mute of cause 1 of a running or muted context leaves it MUTED, with the cause. -/
theorem State.muteAdd_ends (hst : ctxRuns (s.ctxState c) = true ∨ s.ctxState c = ctxMUTED) :
    (s.muteAdd c 1).ctxState c = ctxMUTED ∧ (s.muteAdd c 1).mutedFor c 1 = true := by
  have htakes : takesMute (s.ctxState c) = true := by
    rcases hst with hruns | hmuted
    · rw [takesMute, hruns, Bool.true_or]
    · rw [hmuted]
      decide
  have hset : ((s.setMutes c (s.muteSet c ||| 2 ^ (1 - 1))).muteSet c) % 2 = 1 := by
    rw [State.muteSet_setMutes, Nat.mod_mod_of_dvd _ (by decide)]
    exact Nat.or_mod_two_eq_one.mpr (.inr rfl)
  unfold State.muteAdd
  rw [if_pos htakes]
  dsimp only
  split
  next hruns =>
    refine ⟨State.ctxState_setCtxState _ c (by decide), (State.mutedFor_iff ..).mpr ?_⟩
    rw [State.muteSet_setCtxState _ c (by decide)]
    exact hset
  next hstill =>
    exact ⟨(KeepsField.refl (s := s)).setMutes.field.trans (hst.resolve_left hstill), (State.mutedFor_iff ..).mpr hset⟩

/-- A held MUTE of a running or muted context. -/
theorem State.actIfHeld_mute (hc : c < s.member.contexts) (hheld : (s.ctxRt c).cmd = cmdMUTE)
    (hst : ctxRuns (s.ctxState c) = true ∨ s.ctxState c = ctxMUTED) : (s.actIfHeld c cmdMUTE).ctxState c = ctxMUTED ∧
      (s.actIfHeld c cmdMUTE).mutedFor c 1 = true ∧ (s.actIfHeld c cmdMUTE).cget CTX_CTRL.CMD_RESULT c = 0 := by
  rw [State.actIfHeld_of_held hc hheld, State.ctxCommand_mute, if_pos hst]
  obtain ⟨hmuted, hcause⟩ := State.muteAdd_ends (s := s.takeCmd c) hst
  exact ⟨(State.ctxState_cmdResult ..).trans hmuted, (State.mutedFor_cmdResult ..).trans hcause, State.result_cmdResult _ _ (by decide)⟩

/-- The end of cause 1 leaves a MUTED context without the cause: RAMPING, where it was the last one. -/
theorem State.muteRemove_ends (hst : s.ctxState c = ctxMUTED) (hcause : s.mutedFor c 1 = true) : (s.muteRemove c 1).mutedFor c 1 = false ∧
    (s.muteRemove c 1).ctxState c = if s.muteSet c = 1 then ctxRAMPING else ctxMUTED := by
  have hodd := (State.mutedFor_iff ..).mp hcause
  have hgone : (s.setMutes c (s.muteSet c - 2 ^ (1 - 1))).muteSet c % 2 ≠ 1 := by
    rw [State.muteSet_setMutes]
    omega
  unfold State.muteRemove
  rw [if_pos hcause]
  dsimp only
  by_cases hlast : s.muteSet c = 1
  · rw [if_pos ⟨hst, hlast⟩, if_pos hlast]
    obtain ⟨hramping, -, hmutes⟩ := (s.setMutes c (s.muteSet c - 2 ^ (1 - 1))).softStart_ends c
    refine ⟨Bool.eq_false_iff.mpr (mt (State.mutedFor_iff ..).mp ?_), hramping⟩
    rw [hmutes]
    exact hgone
  · rw [if_neg fun h => hlast h.2, if_neg hlast]
    exact ⟨Bool.eq_false_iff.mpr (mt (State.mutedFor_iff ..).mp hgone), (KeepsField.refl (s := s)).setMutes.field.trans hst⟩

/-! STOP and RELEASE (R76, R79). -/

theorem State.drain_ends (s : State) (c : Nat) : (s.drain c).ctxState c = ctxDRAINING ∧ ((s.drain c).ctxRt c).drainStart = s.dt := by
  unfold State.drain
  dsimp only
  rw [State.ctxState_setCtxRt, State.ctxRt_setCtxRt]
  exact ⟨s.ctxState_setCtxState c (by decide), rfl⟩

theorem State.slot_freeSlot (s : State) (c : Nat) : ((s.freeSlot c).ctxRt c).slot = none := by
  unfold State.freeSlot
  split
  next hnone => exact hnone
  next => exact State.slot_setCtxRt ..

/-- RELEASE frees the entry of the tick pool, enters FREE and resets words 8 to 10. -/
theorem State.released_eq (s : State) (c : Nat) : s.released_ c = (((((s.freeSlot c).setCtxState c ctxFREE).setCword c 8 (ctxReset 8)).setCword c 9
    (ctxReset 9)).setCword c 10 (ctxReset 10)).cmdResult c 0 := rfl

theorem State.released_ends (s : State) (c : Nat) : (s.released_ c).ctxState c = ctxFREE ∧ ((s.released_ c).ctxRt c).slot = none ∧
    (s.released_ c).cword c 9 = ctxReset 9 ∧ (s.released_ c).cget CTX_CTRL.CMD_RESULT c = 0 := by
  have hfree := (s.freeSlot c).ctxState_setCtxState c (st := ctxFREE) (by decide)
  have hslot := ((s.freeSlot c).slot_setCtxState c ctxFREE).trans (s.slot_freeSlot c)
  generalize hu : (s.freeSlot c).setCtxState c ctxFREE = u at hfree hslot
  have hkeep : KeepsField CTX_CTRL.STATE c u (((u.setCword c 8 (ctxReset 8)).setCword c 9 (ctxReset 9)).setCword c 10 (ctxReset 10)) :=
    KeepsField.refl.setCword.setCword.setCword
  rw [State.released_eq, hu]
  refine ⟨(State.ctxState_cmdResult ..).trans (hkeep.field.trans hfree), ?_, ?_, State.result_cmdResult _ c (by decide)⟩
  · rw [State.ctxRt_cmdResult, hkeep.slot, hslot]
  · rw [State.cword_congr (State.ctx_cmdResult ..), State.cset, State.cword_setCword_ne (by decide), State.cword_setCword_ne (by decide),
      State.cword_setCword_same]

/-- Settles O10: each held command, where its state admits it and where it does not. -/
theorem contextCommandsComplete : Obligations.ContextCommandsComplete := by
  refine ⟨fun ctx s hc hheld hst hok => ⟨_, rfl, ?configure⟩, fun ctx s hc hheld hst hon hok => ⟨_, rfl, ?start⟩,
    fun ctx s hc hheld hst => ⟨_, rfl, ?hold⟩, fun ctx s hc hheld hst => ⟨_, rfl, ?resumeHeld⟩,
    fun ctx s hc hheld hst => ⟨_, rfl, State.actIfHeld_mute hc hheld (.inl hst)⟩,
    fun ctx s hc hheld hst => ⟨_, rfl, ?stop⟩, fun ctx s hc hheld hst => ⟨_, rfl, ?release⟩,
    fun ctx s hc hheld hst hcause => ⟨_, rfl, ?resumeMuted⟩, fun ctx s hc hheld hst => ⟨_, rfl, State.actIfHeld_mute hc hheld (.inr hst)⟩,
    fun ctx s hc hheld hfree hconf => ⟨_, rfl, State.actIfHeld_refused hc hheld (State.ctxCommand_configure_refused hfree hconf)⟩,
    fun ctx s hc hheld hst => ⟨_, rfl, State.actIfHeld_refused hc hheld (State.ctxCommand_start_refused hst)⟩,
    fun ctx s hc hheld hramping hactive => ⟨_, rfl, State.actIfHeld_refused hc hheld ?holdRefused⟩,
    fun ctx s hc hheld hnot hcause => ⟨_, rfl, State.actIfHeld_refused hc hheld ?resumeRefused⟩,
    fun ctx s hc hheld hruns hmuted => ⟨_, rfl, State.actIfHeld_refused hc hheld ?muteRefused⟩,
    fun ctx s hc hheld hruns hmuted => ⟨_, rfl, State.actIfHeld_refused hc hheld ?stopRefused⟩,
    fun ctx s hc hheld hst => ⟨_, rfl, State.actIfHeld_refused hc hheld ?releaseRefused⟩⟩
  case configure =>
    obtain ⟨t, ht⟩ := exists_ok_of_toOption hok
    rw [State.actIfHeld_of_held hc hheld, State.ctxCommand_configure hst ht]
    exact State.configured_ends ((State.checkContext_reserves ht).cmd.trans (s.cmd_takeCmd _))
  case start =>
    obtain ⟨t, ht⟩ := exists_ok_of_toOption hok
    have hreserved := State.checkContext_reserves ht
    rw [State.actIfHeld_of_held hc hheld, State.ctxCommand_start hst hon ht]
    have hended := State.started_ends (hreserved.cmd.trans (s.cmd_takeCmd _))
    rwa [hreserved.foxBusyOn, hreserved.coverNow] at hended
  case hold =>
    rw [State.actIfHeld_of_held hc hheld, State.ctxCommand_hold, if_pos hst]
    exact ended_cmdResult (State.ctxState_setCtxState _ _ (by decide)) ((State.cmd_setCtxState ..).trans (s.cmd_takeCmd _)) (by decide)
  case resumeHeld =>
    rw [State.actIfHeld_of_held hc hheld, State.ctxCommand_resume, if_pos hst]
    obtain ⟨hramping, hcmd, -⟩ := (s.takeCmd ctx).softStart_ends ctx
    exact ended_cmdResult hramping (hcmd.trans (s.cmd_takeCmd _)) (by decide)
  case stop =>
    rw [State.actIfHeld_of_held hc hheld, State.ctxCommand_stop, if_pos hst]
    obtain ⟨hdraining, hstart⟩ := (s.takeCmd ctx).drain_ends ctx
    rw [State.ctxRt_cmdResult]
    exact ⟨(State.ctxState_cmdResult ..).trans hdraining, hstart, State.result_cmdResult _ _ (by decide)⟩
  case release =>
    rw [State.actIfHeld_of_held hc hheld, State.ctxCommand_release, if_pos hst]
    exact (s.takeCmd ctx).released_ends ctx
  case resumeMuted =>
    rw [State.actIfHeld_of_held hc hheld, State.ctxCommand_resume, if_neg (by rw [hst]; decide), if_pos ⟨hst, hcause⟩]
    obtain ⟨hgone, hstate⟩ := State.muteRemove_ends (s := s.takeCmd ctx) hst hcause
    exact ⟨(State.mutedFor_cmdResult ..).trans hgone, (State.ctxState_cmdResult ..).trans hstate, State.result_cmdResult _ _ (by decide)⟩
  case holdRefused => rw [State.ctxCommand_hold, if_neg (not_or.mpr ⟨hramping, hactive⟩)]
  case resumeRefused =>
    have hnone : ¬(s.ctxState ctx = ctxMUTED ∧ s.mutedFor ctx 1 = true) := fun h => by simp [h] at hcause
    rw [State.ctxCommand_resume, if_neg hnot, if_neg hnone]
  case muteRefused => rw [State.ctxCommand_mute, if_neg (by simp [hruns, hmuted])]
  case stopRefused => rw [State.ctxCommand_stop, if_neg (by simp [hruns, hmuted])]
  case releaseRefused => rw [State.ctxCommand_release, if_neg hst]

end Sys2Proof.Machine
end

section
/-!
Rules of the schedule slots: their states, their bytes, and what the load commands write (R85, R93, R96, R99).
-/
namespace Sys2Proof.Machine

variable {s s0 t : State} {slot a n st k u v : Nat} {d : List Nat} {f g : Fld}

/-! What an event leaves alone. -/

theorem State.fget_pulse (hf : f.unreported = true) (s : State) (n u : Nat) : (s.pulse pgSCH n).fget f u = s.fget f u := Quiet.refl.pulse.fget hf u

theorem Hushed.sch (h : Hushed s t) : t.sch = s.sch := by
  have heq := congrArg State.sch h.hush
  exact heq

theorem State.sch_pulse (s : State) (page n : Nat) : (s.pulse page n).sch = s.sch := Hushed.refl.pulse.sch

theorem State.sch_fset (s : State) (f : Fld) (u v : Nat) : (s.fset f u v).sch = s.sch := rfl

theorem State.word_fset_ne (h : k ≠ f.key u) (s : State) (v : Nat) : (s.fset f u v).word k = s.word k := State.word_setWord_ne s _ h

/-! The state of a slot (R99). -/

/-- What holds of the fields of both slots holds of those of any. -/
theorem slotFields_all {P : Fld → Fld → Fld → Fld → Prop}
    (hA : P SCH_SLOTA_STAT.STATE SCH_SLOTA_STAT.RESULT SCH_SLOTA_STAT.GEN SCH_SLOTA_BUILD.BUILD_ID)
    (hB : P SCH_SLOTB_STAT.STATE SCH_SLOTB_STAT.RESULT SCH_SLOTB_STAT.GEN SCH_SLOTB_BUILD.BUILD_ID) (slot : Nat) :
    P (slotStateFld slot) (slotResultFld slot) (slotGenFld slot) (slotBuildFld slot) := by
  unfold slotStateFld slotResultFld slotGenFld slotBuildFld
  split
  · exact hA
  · exact hB

/-- No write of the field changes the state of a slot. -/
def Fld.sparesSlots (g : Fld) : Bool := SCH_SLOTA_STAT.STATE.apart g && SCH_SLOTB_STAT.STATE.apart g

theorem State.slotState_fset (hg : g.sparesSlots = true) (s : State) (u v k : Nat) : (s.fset g u v).slotState k = s.slotState k := by
  obtain ⟨hA, hB⟩ := (Bool.and_eq_true _ _).mp hg
  exact State.fget_fset_apart (slotFields_all (P := fun a _ _ _ => a.apart g = true) hA hB k) ..

theorem sparesSlots_result (slot : Nat) : (slotResultFld slot).sparesSlots = true :=
  slotFields_all (P := fun _ b _ _ => b.sparesSlots = true) rfl rfl slot

theorem sparesSlots_gen (slot : Nat) : (slotGenFld slot).sparesSlots = true := slotFields_all (P := fun _ _ c _ => c.sparesSlots = true) rfl rfl slot

theorem sparesSlots_build (slot : Nat) : (slotBuildFld slot).sparesSlots = true := slotFields_all (P := fun _ _ _ e => e.sparesSlots = true) rfl rfl slot

theorem State.slotState_setSlot (s : State) (slot : Nat) (hst : st < 16) : (s.setSlot slot st).slotState slot = st := by
  have hfield : (slotStateFld slot).inWord = true ∧ fieldSize (slotStateFld slot).hi (slotStateFld slot).lo = 16 :=
    slotFields_all (P := fun a _ _ _ => a.inWord = true ∧ fieldSize a.hi a.lo = 16) ⟨rfl, rfl⟩ ⟨rfl, rfl⟩ slot
  exact (State.fget_fset_same hfield.1 ..).trans (Nat.mod_eq_of_lt (hfield.2 ▸ hst))

theorem State.slotState_setSlot_ne (s : State) (hk : k < 2) (hslot : slot < 2) (h : k ≠ slot) (st : Nat) :
    (s.setSlot slot st).slotState k = s.slotState k := by
  obtain ⟨rfl, rfl⟩ | ⟨rfl, rfl⟩ : k = 0 ∧ slot = 1 ∨ k = 1 ∧ slot = 0 := by omega
  · exact State.fget_fset_apart rfl ..
  · exact State.fget_fset_apart rfl ..

theorem State.slotState_pulse (s : State) (n k : Nat) : (s.pulse pgSCH n).slotState k = s.slotState k :=
  State.fget_pulse (slotFields_all (P := fun a _ _ _ => a.unreported = true) rfl rfl k) ..

/-- A refused slot shows its code, and the other fields of its status as they were. -/
theorem State.refuseSlot_shows (s : State) (slot : Nat) {code : Nat} (hcode : code < 256) : (s.refuseSlot slot code).slotState slot = slotREFUSED ∧
    (s.refuseSlot slot code).fget (slotResultFld slot) 0 = code ∧ (s.refuseSlot slot code).fget (slotGenFld slot) 0 = s.fget (slotGenFld slot) 0 := by
  have hresult : (slotResultFld slot).inWord = true ∧ (slotResultFld slot).unreported = true ∧
      fieldSize (slotResultFld slot).hi (slotResultFld slot).lo = 256 :=
    slotFields_all (P := fun _ b _ _ => b.inWord = true ∧ b.unreported = true ∧ fieldSize b.hi b.lo = 256) ⟨rfl, rfl, rfl⟩ ⟨rfl, rfl, rfl⟩ slot
  have hgen : (slotGenFld slot).unreported = true ∧ (slotGenFld slot).apart (slotResultFld slot) = true ∧
      (slotGenFld slot).apart (slotStateFld slot) = true :=
    slotFields_all (P := fun a b c _ => c.unreported = true ∧ c.apart b = true ∧ c.apart a = true) ⟨rfl, rfl, rfl⟩ ⟨rfl, rfl, rfl⟩ slot
  obtain ⟨hword, hquiet, hsize⟩ := hresult
  unfold State.refuseSlot
  refine ⟨?_, ?_, ?_⟩
  · rw [State.slotState_pulse, State.slotState_fset (sparesSlots_result slot), State.slotState_setSlot _ _ (by decide)]
  · rw [State.fget_pulse hquiet, State.fget_fset_same hword, hsize, Nat.mod_eq_of_lt hcode]
  · rw [State.fget_pulse hgen.1, State.fget_fset_apart hgen.2.1, State.setSlot, State.fget_fset_apart hgen.2.2]

/-! The bytes of a slot (R85). -/

theorem State.imgByte_lt (s : State) (slot a : Nat) : s.imgByte slot a < 256 := BitVec.isLt _

theorem State.imgBE_lt (s : State) (slot a : Nat) : ∀ n, s.imgBE slot a n < 256 ^ n
  | 0 => Nat.one_pos
  | n + 1 => by
    have hhigh := s.imgBE_lt slot a n
    have hlow := s.imgByte_lt slot (a + n)
    rw [State.imgBE, pow_succ]
    omega

/-- Consecutive bytes written into a table, from place `m` on. -/
theorem Tbl.get_foldl_bytes (key : Nat → Nat) (hkey : Function.Injective key) (d : List Nat) (m k : Nat) (b : List (Nat × Byte)) :
    Tbl.get (fun _ => 0) ((d.zipIdx m).foldl (fun t e => Tbl.set (fun _ => (0 : Byte)) t (key e.2) (BitVec.ofNat 8 e.1)) b) (key k) =
      if m ≤ k ∧ k < m + d.length then BitVec.ofNat 8 (d.getD (k - m) 0) else Tbl.get (fun _ => 0) b (key k) := by
  induction d generalizing m b with
  | nil => rw [List.zipIdx_nil, List.foldl_nil, if_neg (by simp)]
  | cons x d ih =>
    rw [List.zipIdx_cons, List.foldl_cons, ih, List.length_cons]
    by_cases hk : k = m
    · rw [if_neg (by omega), if_pos (by omega), hk, Tbl.get_set_same, Nat.sub_self, List.getD_cons_zero]
    · rw [Tbl.get_set_ne _ _ _ (hkey.ne hk)]
      by_cases hin : m + 1 ≤ k ∧ k < m + 1 + d.length
      · rw [if_pos hin, if_pos (by omega), show k - m = k - (m + 1) + 1 by omega, List.getD_cons_succ]
      · rw [if_neg hin, if_neg (by omega)]

/-- Stored bytes are read back. -/
theorem State.imgByte_imgStore (s : State) (slot a : Nat) (hk : k < d.length) : (s.imgStore slot a d).imgByte slot (a + k) = d.getD k 0 % 256 := by
  have hinj : Function.Injective fun i => imgKey slot (a + i) := fun i j h => by
    simp only [imgKey] at h
    omega
  rw [State.imgByte, State.imgStore]
  exact congrArg BitVec.toNat ((Tbl.get_foldl_bytes (fun i => imgKey slot (a + i)) hinj d 0 k s.sch.img).trans (if_pos ⟨Nat.zero_le _, by omega⟩))

theorem Tbl.get_filter_dropped {α : Type} {d : Nat → α} {p : Nat × α → Bool} {k : Nat} (hdrop : ∀ v, p (k, v) = false) (l : List (Nat × α)) :
    Tbl.get d (l.filter p) k = d k := by
  induction l with
  | nil => rfl
  | cons e l ih =>
    cases he : p e with
    | false => rwa [List.filter_cons_of_neg (by simp [he])]
    | true =>
      have hne : e.1 ≠ k := by
        rintro rfl
        exact absurd (hdrop e.2) (by simp [he])
      rw [List.filter_cons_of_pos he, Tbl.get, if_neg hne, ih]

/-- A filled slot reads as zeros. -/
theorem State.imgByte_imgClear (s : State) (slot : Nat) (ha : a < slotBytes) : (s.imgClear slot).imgByte slot a = 0 := by
  have hslot : imgKey slot a / slotBytes = slot := by
    unfold imgKey slotBytes at *
    omega
  exact congrArg BitVec.toNat (Tbl.get_filter_dropped (fun _ => by simp [hslot]) s.sch.img)

/-! The load bitmap (R93). -/

/-- `t` differs from `s` in SCH_LOAD_MAP and timers at most, as far as registers and slots go. -/
structure MapOnly (s t : State) : Prop where
  word : ∀ k, k < 0x12070 ∨ 0x12090 ≤ k → t.word k = s.word k
  sch : t.sch = s.sch

theorem MapOnly.refl : MapOnly s s := ⟨fun _ _ => rfl, rfl⟩

theorem loadMap_key_ne (hu : u < 8) (hk : k < 0x12070 ∨ 0x12090 ≤ k) : k ≠ SCH_LOAD_MAP.MAP.key u := by
  have hbase : SCH_LOAD_MAP.MAP.base = 0x12070 := rfl
  have hstride : SCH_LOAD_MAP.MAP.stride = 4 := rfl
  rw [Fld.key, hbase, hstride]
  omega

theorem MapOnly.setMap (h : MapOnly s0 s) (hu : u < 8) (v : Nat) : MapOnly s0 (s.fset SCH_LOAD_MAP.MAP u v) where
  word k hk := (State.word_fset_ne (loadMap_key_ne hu hk) s v).trans (h.word k hk)
  sch := (State.sch_fset ..).trans h.sch

theorem MapOnly.foldlMem {α : Type} {f : State → α → State} {l : List α} (h : MapOnly s0 s)
    (hf : ∀ t, ∀ x ∈ l, MapOnly s0 t → MapOnly s0 (f t x)) : MapOnly s0 (l.foldl f s) :=
  List.foldlRecOn (motive := MapOnly s0) l f h fun t ht x hx => hf t x hx ht

/-- A field of a register that the bitmap is not. -/
theorem MapOnly.fget (h : MapOnly s t) (hf : f.key u < 0x12070 ∨ 0x12090 ≤ f.key u) : t.fget f u = s.fget f u := State.fget_congr (h.word _ hf)

theorem MapOnly.slotState (h : MapOnly s t) (k : Nat) : t.slotState k = s.slotState k :=
  h.fget (slotFields_all (P := fun a _ _ _ => a.key 0 < 0x12070 ∨ 0x12090 ≤ a.key 0) (by decide) (by decide) k)

/-- Load bytes are stored and their blocks marked. -/
theorem State.mapOnly_loadStore (s : State) (slot a : Nat) (d : List Nat) : MapOnly (s.imgStore slot a d) (s.loadStore slot a d) := by
  have hmarked : MapOnly (s.imgStore slot a d) ((List.range (d.length / 1024 + 2)).foldl (fun s j =>
      if d.isEmpty || decide (a + d.length ≤ (a / 1024 + j) * 1024) || decide (256 ≤ a / 1024 + j) then s
      else s.fsetBit SCH_LOAD_MAP.MAP ((a / 1024 + j) / 32) ((a / 1024 + j) % 32) true) (s.imgStore slot a d)) :=
    MapOnly.refl.foldlMem fun t j _ ht => by
      split
      · exact ht
      next hmark =>
        simp only [Bool.or_eq_true, decide_eq_true_eq, not_or, not_le] at hmark
        exact ht.setMap (by omega) _
  exact ⟨hmarked.word, hmarked.sch⟩

end Sys2Proof.Machine
end

section
/-!
Settles O11: the load commands, the end of a fill, the timeout and the verification of a schedule slot.
-/
namespace Sys2Proof.Machine

variable {s s0 t : State} {who : Init} {slot a n k len cmd : Nat} {d : List Nat} {op : LoadOp} {others : List Nat} {sigOk recountOk : Bool}

/-! The operations of a load (R93). -/

theorem State.slotState_timerStop (s : State) (tm u k : Nat) : (s.timerStop tm u).slotState k = s.slotState k := rfl

theorem State.slotState_timerStart (s : State) (tm u c k : Nat) : (s.timerStart tm u c).slotState k = s.slotState k := rfl

theorem State.sch_timerStart (s : State) (tm u c : Nat) : (s.timerStart tm u c).sch = s.sch := rfl

theorem State.fon_timerStart (s : State) (tm u c : Nat) (f : Fld) (k : Nat) : (s.timerStart tm u c).fon f k = s.fon f k := rfl

theorem State.endLen_timerStop (s : State) (tm u k : Nat) : (s.timerStop tm u).endLen k = s.endLen k := rfl

theorem State.loadOp_held (h : s.sch.filling.contains slot = true) (op : LoadOp) : s.loadOp slot op =
    State.timerStart { s with sch := { s.sch with heldLoads := s.sch.heldLoads ++ [(slot, op)] } } tmLoad slot s.sec_ := if_pos h

theorem State.loadOp_bytes (h : s.sch.filling.contains slot = false) (a : Nat) (d : List Nat) : s.loadOp slot (.bytes a d) = s.loadStore slot a d :=
  if_neg (by rw [h]; decide)

theorem State.loadOp_finish (h : s.sch.filling.contains slot = false) (n : Nat) : s.loadOp slot (.finish n) = s.loadFinish slot n :=
  if_neg (by rw [h]; decide)

theorem State.loadOp_abort (h : s.sch.filling.contains slot = false) : s.loadOp slot .abort = s.loadAbort slot := if_neg (by rw [h]; decide)

theorem State.slotState_loadAbort (s : State) (slot : Nat) : (s.loadAbort slot).slotState slot = slotEMPTY := State.slotState_setSlot s slot (by decide)

theorem State.endLen_setEndLen (s : State) (slot len : Nat) : (s.setEndLen slot len).endLen slot = len := by
  unfold State.setEndLen State.endLen
  by_cases h : slot = 0
  · simp only [if_pos h]
  · simp only [if_neg h]

theorem State.endLen_setSlot (s : State) (slot st k : Nat) : (s.setSlot slot st).endLen k = s.endLen k := by
  rw [State.setSlot, State.endLen, State.sch_fset, State.endLen]

/-- No state of a slot lies in the field. -/
def Fld.besideSlots (f : Fld) : Bool := f.apart SCH_SLOTA_STAT.STATE && f.apart SCH_SLOTB_STAT.STATE

theorem State.fget_setSlot {f : Fld} (hf : f.besideSlots = true) (s : State) (slot st u : Nat) : (s.setSlot slot st).fget f u = s.fget f u := by
  obtain ⟨hA, hB⟩ := (Bool.and_eq_true _ _).mp hf
  exact State.fget_fset_apart (slotFields_all (P := fun a _ _ _ => f.apart a = true) hA hB slot) ..

theorem State.fget_setEndLen (s : State) (slot len : Nat) (f : Fld) (u : Nat) : (s.setEndLen slot len).fget f u = s.fget f u := by
  unfold State.setEndLen
  split <;> rfl

theorem State.fget_loadFinish {f : Fld} (hf : f.besideSlots = true) (s : State) (slot len u : Nat) : (s.loadFinish slot len).fget f u = s.fget f u := by
  rw [State.loadFinish, State.fget_timerStop, State.fget_setSlot hf, State.fget_setEndLen]

theorem State.loadFinish_shows (s : State) (slot len : Nat) : (s.loadFinish slot len).slotState slot = slotVERIFYING ∧
    (s.loadFinish slot len).endLen slot = len := by
  rw [State.loadFinish, State.slotState_timerStop, State.endLen_timerStop, State.endLen_setSlot, State.endLen_setEndLen]
  exact ⟨State.slotState_setSlot _ slot (by decide), rfl⟩

/-- Load bytes are read back, and leave the state of each slot. -/
theorem State.loadStore_shows (s : State) (slot a : Nat) (d : List Nat) : (∀ k < d.length, (s.loadStore slot a d).imgByte slot (a + k) = d.getD k 0 % 256) ∧
    (∀ j, (s.loadStore slot a d).slotState j = s.slotState j) := by
  have hmap := s.mapOnly_loadStore slot a d
  refine ⟨fun k hk => ?_, fun j => hmap.slotState j⟩
  rw [State.imgByte, hmap.sch]
  exact s.imgByte_imgStore slot a hk

/-! The end of a fill (R93). -/

/-- `t` has the fills, the held load writes and BUSY of `s`. -/
structure KeepsFill (s t : State) : Prop where
  filling : t.sch.filling = s.sch.filling
  heldLoads : t.sch.heldLoads = s.sch.heldLoads
  busy : t.word (PAGE_STAT.BUSY.key pgSCH) = s.word (PAGE_STAT.BUSY.key pgSCH)

theorem KeepsFill.setSlot (h : KeepsFill s0 s) (slot st : Nat) : KeepsFill s0 (s.setSlot slot st) where
  filling := h.filling
  heldLoads := h.heldLoads
  busy := by
    have hkey : PAGE_STAT.BUSY.key pgSCH ≠ (slotStateFld slot).key 0 :=
      slotFields_all (P := fun a _ _ _ => PAGE_STAT.BUSY.key pgSCH ≠ a.key 0) (by decide) (by decide) slot
    exact (State.word_fset_ne hkey s st).trans h.busy

theorem KeepsFill.timer (h : KeepsFill s0 s) (timers : List (Nat × Nat)) : KeepsFill s0 { s with timers := timers } := ⟨h.filling, h.heldLoads, h.busy⟩

/-- A load write acts on what is not filled and leaves the fills alone. -/
theorem KeepsFill.loadOp (h : KeepsFill s0 s) (hslot : s0.sch.filling.contains slot = false) (op : LoadOp) : KeepsFill s0 (s.loadOp slot op) := by
  have hfree : s.sch.filling.contains slot = false := h.filling ▸ hslot
  cases op with
  | bytes a d =>
    rw [State.loadOp_bytes hfree]
    have hmap := s.mapOnly_loadStore slot a d
    exact ⟨(congrArg SchSt.filling hmap.sch).trans h.filling, (congrArg SchSt.heldLoads hmap.sch).trans h.heldLoads,
      (hmap.word _ (.inl (by decide))).trans h.busy⟩
  | finish n =>
    rw [State.loadOp_finish hfree]
    have hlen : KeepsFill s0 (s.setEndLen slot n) := by
      unfold State.setEndLen
      split
      · exact ⟨h.filling, h.heldLoads, h.busy⟩
      · exact ⟨h.filling, h.heldLoads, h.busy⟩
    exact (hlen.setSlot slot slotVERIFYING).timer _
  | abort =>
    rw [State.loadOp_abort hfree]
    exact (h.setSlot slot slotEMPTY).timer _

/-- The end of a fill before the writes that waited for it act. -/
def State.fillDone (s : State) (slot : Nat) (others : List Nat) : State :=
  State.fsetB { s with sch := { s.sch with filling := others, heldLoads := s.sch.heldLoads.filter fun e => decide (e.1 ≠ slot) } }
    PAGE_STAT.BUSY pgSCH (!others.isEmpty)

/-- The writes that wait for the fill of a slot. -/
def State.waiting (s : State) (slot : Nat) : List (Nat × LoadOp) := s.sch.heldLoads.filter fun e => decide (e.1 = slot)

theorem State.fillEnds_eq (s : State) (slot : Nat) (others : List Nat) : s.fillEnds slot others =
    (s.waiting slot).foldl (fun t e => if t.slotState slot = slotLOADING then t.loadOp slot e.2 else t) (s.fillDone slot others) := rfl

theorem execImageSlotFillDone_fills (h : s.sch.filling = slot :: others) : execImageSlotFillDone s = .next (s.fillEnds slot others) := by
  unfold execImageSlotFillDone
  rw [h]

theorem State.slotState_fillDone (s : State) (slot : Nat) (others : List Nat) (k : Nat) : (s.fillDone slot others).slotState k = s.slotState k := by
  have hkey : (slotStateFld k).key 0 ≠ PAGE_STAT.BUSY.key pgSCH :=
    slotFields_all (P := fun a _ _ _ => a.key 0 ≠ PAGE_STAT.BUSY.key pgSCH) (by decide) (by decide) k
  exact State.fget_fset_ne hkey _

/-- What the end of a fill shows, whatever writes waited for it. -/
theorem State.fillEnds_shows (hothers : others.contains slot = false) (s : State) : (s.fillEnds slot others).sch.filling = others ∧
    (s.fillEnds slot others).fon PAGE_STAT.BUSY pgSCH = !others.isEmpty ∧
    (s.fillEnds slot others).sch.heldLoads = s.sch.heldLoads.filter fun e => decide (e.1 ≠ slot) := by
  have hkeeps : KeepsFill (s.fillDone slot others) (s.fillEnds slot others) := by
    rw [State.fillEnds_eq]
    refine List.foldlRecOn (motive := KeepsFill (s.fillDone slot others)) _ _ ⟨rfl, rfl, rfl⟩ fun t ht e _ => ?_
    split
    · exact ht.loadOp hothers e.2
    · exact ht
  refine ⟨hkeeps.filling, ?_, hkeeps.heldLoads⟩
  rw [State.fon, State.fget_congr hkeeps.busy]
  exact State.fon_fsetB rfl rfl ..

/-- The one write that waited for the fill of a slot acts when it ends. -/
theorem State.fillEnds_single (hloading : s.slotState slot = slotLOADING) (hheld : s.sch.heldLoads = [(slot, op)]) (others : List Nat) :
    s.fillEnds slot others = (s.fillDone slot others).loadOp slot op := by
  have hmine : s.waiting slot = [(slot, op)] := by
    rw [State.waiting, hheld]
    simp
  rw [State.fillEnds_eq, hmine, List.foldl_cons, List.foldl_nil, if_pos ((s.slotState_fillDone ..).trans hloading)]

/-! Writes of SCH_LOAD_CTRL and SCH_LOAD_DATA (R93). -/

/-- A word of SCH_LOAD_CTRL. -/
def loadCtrlWord (cmd slot len : Nat) : Word := BitVec.ofNat 32 (cmd * 2 ^ 30 + slot * 2 ^ 29 + len)

theorem bitsOf_loadCtrlWord (hcmd : cmd < 4) (hslot : slot < 2) (hlen : len < 2 ^ 19) : bitsOf (loadCtrlWord cmd slot len) 31 30 = cmd ∧
    bitsOf (loadCtrlWord cmd slot len) 29 29 = slot ∧ bitsOf (loadCtrlWord cmd slot len) 18 0 = len := by
  simp only [bitsOf, fieldSize, loadCtrlWord, BitVec.toNat_ofNat]
  omega

/-- SLOT and LENGTH as a write of SCH_LOAD_CTRL sets them. -/
def State.loadAsked (s : State) (slot len : Nat) : State := (s.fset SCH_LOAD_CTRL.SLOT 0 slot).fset SCH_LOAD_CTRL.LENGTH 0 len

theorem State.slotState_loadAsked (s : State) (slot len k : Nat) : (s.loadAsked slot len).slotState k = s.slotState k := by
  rw [State.loadAsked, State.slotState_fset rfl, State.slotState_fset rfl]

theorem State.sch_loadAsked (s : State) (slot len : Nat) : (s.loadAsked slot len).sch = s.sch := (State.sch_fset ..).trans (State.sch_fset ..)

theorem State.identOf_loadAsked (s : State) (slot len : Nat) (who : Init) : (s.loadAsked slot len).identOf who = s.identOf who := by
  have hbeside {f : Fld} (hslot : f.apart SCH_LOAD_CTRL.SLOT = true) (hlen : f.apart SCH_LOAD_CTRL.LENGTH = true) (u : Nat) :
      (s.loadAsked slot len).fget f u = s.fget f u := (State.fget_fset_apart hlen ..).trans (State.fget_fset_apart hslot ..)
  cases who with
  | pcie => simp only [State.identOf, hbeside (f := SEC_LC.PCIE_ROLE) rfl rfl]
  | debug => simp only [State.identOf, hbeside (f := DBG_STAT.LEVEL) rfl rfl, hbeside (f := DBG_STAT.SIGNER) rfl rfl]
  | _ => simp only [State.identOf]

theorem loadCtrlWrite_begin (hslot : slot < 2) (who : Init) (s : State) :
    loadCtrlWrite who (loadCtrlWord 1 slot 0) s = loadBegin who slot (s.loadAsked slot 0) := by
  obtain ⟨hcmd, hat, hlen⟩ := bitsOf_loadCtrlWord (cmd := 1) (by decide) hslot (len := 0) (by decide)
  simp only [loadCtrlWrite, hcmd, hat, hlen, if_neg (Nat.not_lt_zero slotBytes), State.loadAsked]

/-- The loader's write to a slot that is loading passes the checks of a load write. -/
theorem State.loadCheck_loader (hloading : s.slotState slot = slotLOADING) (hloader : s.loaderOf slot = s.identOf who) (k : WRes) :
    s.loadCheck who slot k = k := by
  rw [State.loadCheck, if_neg (not_not.mpr hloading), if_neg (not_not.mpr hloader)]

theorem loadCtrlWrite_end (hslot : slot < 2) (hlen : len ≤ slotBytes) (hloading : s.slotState slot = slotLOADING)
    (hloader : s.loaderOf slot = s.identOf who) :
    loadCtrlWrite who (loadCtrlWord 2 slot len) s = .ok ((s.loadAsked slot len).loadOp slot (.finish len)) := by
  obtain ⟨hcmd, hat, hbits⟩ := bitsOf_loadCtrlWord (cmd := 2) (by decide) hslot (hlen.trans_lt (by decide))
  simp only [loadCtrlWrite, hcmd, hat, hbits, if_neg (Nat.not_lt.mpr hlen), State.loadCheck_loader hloading hloader, State.loadAsked]

theorem loadCtrlWrite_abort (hslot : slot < 2) (hloading : s.slotState slot = slotLOADING) (hloader : s.loaderOf slot = s.identOf who) :
    loadCtrlWrite who (loadCtrlWord 3 slot 0) s = .ok ((s.loadAsked slot 0).loadOp slot .abort) := by
  obtain ⟨hcmd, hat, hlen⟩ := bitsOf_loadCtrlWord (cmd := 3) (by decide) hslot (len := 0) (by decide)
  simp only [loadCtrlWrite, hcmd, hat, hlen, if_neg (Nat.not_lt_zero slotBytes), State.loadCheck_loader hloading hloader, State.loadAsked]

theorem execImageLoadBegin_eq (who : Init) (slot : Fin 2) (s : State) : execImageLoadBegin who slot s =
    .next (s.access who pgSCH 0x060 (loadCtrlWord 1 slot.val 0) (loadCtrlWrite who (loadCtrlWord 1 slot.val 0))) := by
  rw [loadCtrlWord, Nat.one_mul, Nat.add_zero]
  unfold execImageLoadBegin
  rfl

theorem execImageLoadEnd_eq (who : Init) (slot : Fin 2) (length : BitVec 19) (s : State) : execImageLoadEnd who slot length s =
    .next (s.access who pgSCH 0x060 (loadCtrlWord 2 slot.val length.toNat) (loadCtrlWrite who (loadCtrlWord 2 slot.val length.toNat))) := by
  rw [loadCtrlWord, show 2 * 2 ^ 30 = 2 ^ 31 from rfl]
  unfold execImageLoadEnd
  rfl

theorem execImageLoadAbort_eq (who : Init) (slot : Fin 2) (s : State) : execImageLoadAbort who slot s =
    .next (s.access who pgSCH 0x060 (loadCtrlWord 3 slot.val 0) (loadCtrlWrite who (loadCtrlWord 3 slot.val 0))) := by
  rw [loadCtrlWord, Nat.add_zero]
  unfold execImageLoadAbort
  rfl

/-! BEGIN (R93). -/

/-- A slot whose status and bitmap are cleared for its loader. -/
def State.loadBegun (s : State) (who : Init) (slot : Nat) : State :=
  (List.range 8).foldl (fun t k => t.fset SCH_LOAD_MAP.MAP k 0)
    ((((((s.imgClear slot).setSlot slot slotLOADING).setLoader slot (s.identOf who)).fset (slotResultFld slot) 0 0).fset (slotGenFld slot) 0 0).fset
      (slotBuildFld slot) 0 0)

/-- The fill of a slot with zeros begins. -/
def State.fillBegins (s : State) (slot : Nat) : State :=
  State.fset { s with sch := { s.sch with filling := s.sch.filling ++ [slot] } } PAGE_STAT.BUSY pgSCH 1

theorem loadBegin_ok
    (h : s.slotState slot = slotEMPTY ∨ s.slotState slot = slotVERIFIED ∨ s.slotState slot = slotREFUSED ∨ s.slotState slot = slotFORMER) :
    loadBegin who slot s = .ok (((s.loadBegun who slot).fillBegins slot).timerStart tmLoad slot
      (State.sec_ { s.loadBegun who slot with sch := { (s.loadBegun who slot).sch with filling := (s.loadBegun who slot).sch.filling ++ [slot] } })) := by
  have hmay : [slotEMPTY, slotVERIFIED, slotREFUSED, slotFORMER].contains (s.slotState slot) = true := by
    rcases h with h | h | h | h <;> rw [h] <;> decide
  unfold loadBegin
  rw [if_pos hmay]
  rfl

theorem State.sch_fillBegins (s : State) (slot : Nat) : (s.fillBegins slot).sch = { s.sch with filling := s.sch.filling ++ [slot] } :=
  State.sch_fset ..

theorem State.slotState_fillBegins (s : State) (slot k : Nat) : (s.fillBegins slot).slotState k = s.slotState k := by
  have hkey : (slotStateFld k).key 0 ≠ PAGE_STAT.BUSY.key pgSCH :=
    slotFields_all (P := fun a _ _ _ => a.key 0 ≠ PAGE_STAT.BUSY.key pgSCH) (by decide) (by decide) k
  exact State.fget_fset_ne hkey 1

/-- A slot that is begun is its writer's and loading; its bytes are those of the cleared slot. -/
theorem State.loadBegun_shows (s : State) (who : Init) (slot : Nat) : (s.loadBegun who slot).slotState slot = slotLOADING ∧
    (s.loadBegun who slot).sch = ((s.imgClear slot).setLoader slot (s.identOf who)).sch := by
  unfold State.loadBegun
  generalize hu : ((s.imgClear slot).setSlot slot slotLOADING).setLoader slot (s.identOf who) = u
  have hmap : MapOnly (((u.fset (slotResultFld slot) 0 0).fset (slotGenFld slot) 0 0).fset (slotBuildFld slot) 0 0) _ :=
    MapOnly.refl.foldlMem (l := List.range 8) fun t k hk ht => ht.setMap (List.mem_range.mp hk) 0
  constructor
  · rw [hmap.slotState, State.slotState_fset (sparesSlots_build slot), State.slotState_fset (sparesSlots_gen slot),
      State.slotState_fset (sparesSlots_result slot), ← hu]
    exact State.slotState_setSlot (s.imgClear slot) slot (by decide)
  · rw [hmap.sch, State.sch_fset, State.sch_fset, State.sch_fset, ← hu]
    rfl

/-- BEGIN takes a slot that is neither loading, verifying, armed nor active. -/
theorem loadBegin_shows
    (h : s.slotState slot = slotEMPTY ∨ s.slotState slot = slotVERIFIED ∨ s.slotState slot = slotREFUSED ∨ s.slotState slot = slotFORMER) :
    ∃ t, loadBegin who slot s = .ok t ∧ t.slotState slot = slotLOADING ∧ t.loaderOf slot = s.identOf who ∧
      t.sch.filling = s.sch.filling ++ [slot] ∧ t.fon PAGE_STAT.BUSY pgSCH = true ∧ ∀ a < slotBytes, t.imgByte slot a = 0 := by
  obtain ⟨hstate, hsch⟩ := s.loadBegun_shows who slot
  have hfill := (s.loadBegun who slot).sch_fillBegins slot
  rw [hsch] at hfill
  refine ⟨_, loadBegin_ok h, ?_, ?_, ?_, ?_, ?_⟩
  · rw [State.slotState_timerStart, State.slotState_fillBegins, hstate]
  · rw [State.loaderOf, State.sch_timerStart, hfill]
    exact Tbl.get_set_same _ _ _ _
  · rw [State.sch_timerStart, hfill]
    rfl
  · rw [State.fon_timerStart]
    exact State.fon_fset_one rfl rfl _
  · intro a ha
    rw [State.imgByte, State.sch_timerStart, hfill]
    exact s.imgByte_imgClear slot ha

/-! Verification (R96). -/

theorem State.verifyCode_lt (s : State) (slot len : Nat) (sigOk recountOk : Bool) : s.verifyCode slot len sigOk recountOk < 256 := by
  have hite {c : Prop} [Decidable c] {a b : Nat} (ha : a < 256) (hb : b < 256) : (if c then a else b) < 256 := by split <;> assumption
  unfold State.verifyCode
  iterate 14 refine hite (by decide) ?_
  decide

/-! The commands at the register (R93). -/

/-- A command that is an admitted write ends as the register's own write `f` ends, but for timers, check passes and refusals. -/
theorem State.next_access_ends {o : Host.Outcome State Fault Refusal} {page off : Nat} {v : Word} {f : State → WRes} {P : State → Prop}
    (ho : o = .next (s.access who page off v f)) (h : Admitted s who page off)
    (hP : ∀ t timers crcPass busRefuse, P t → P { t with timers := timers, crcPass := crcPass, busRefuse := busRefuse })
    (hf : ∀ timers expert, ∃ t, f { s with timers := timers, expert := expert } = .ok t ∧ P t) : ∃ t, o = .next t ∧ Took t who ∧ P t :=
  ⟨_, ho, State.access_ends h v hP hf⟩

theorem loadCtrlWrite_begins (hslot : slot < 2)
    (h : s.slotState slot = slotEMPTY ∨ s.slotState slot = slotVERIFIED ∨ s.slotState slot = slotREFUSED ∨ s.slotState slot = slotFORMER) :
    ∃ t, loadCtrlWrite who (loadCtrlWord 1 slot 0) s = .ok t ∧ t.slotState slot = slotLOADING ∧ t.loaderOf slot = s.identOf who ∧
      t.sch.filling = s.sch.filling ++ [slot] ∧ t.fon PAGE_STAT.BUSY pgSCH = true ∧ ∀ a : Fin 16, t.imgByte slot a.val = 0 := by
  rw [← s.slotState_loadAsked slot 0] at h
  obtain ⟨t, hok, hstate, hloader, hfilling, hbusy, hzero⟩ := loadBegin_shows (who := who) h
  rw [State.identOf_loadAsked] at hloader
  rw [State.sch_loadAsked] at hfilling
  exact ⟨t, (loadCtrlWrite_begin hslot who s).trans hok, hstate, hloader, hfilling, hbusy, fun a => hzero a.val (a.isLt.trans (by decide))⟩

/-- An END of the loader whose slot is not filled acts at once. -/
theorem loadCtrlWrite_ends (hslot : slot < 2) (hlen : len ≤ slotBytes) (hloading : s.slotState slot = slotLOADING)
    (hloader : s.loaderOf slot = s.identOf who) (hfree : s.sch.filling.contains slot = false) :
    ∃ t, loadCtrlWrite who (loadCtrlWord 2 slot len) s = .ok t ∧ t.slotState slot = slotVERIFYING ∧ t.fget SCH_LOAD_CTRL.LENGTH 0 = len ∧
      t.endLen slot = len := by
  have hasked : (s.loadAsked slot len).sch.filling.contains slot = false := by rwa [State.sch_loadAsked]
  obtain ⟨hstate, hend⟩ := (s.loadAsked slot len).loadFinish_shows slot len
  refine ⟨_, loadCtrlWrite_end hslot hlen hloading hloader, ?_⟩
  rw [State.loadOp_finish hasked, State.fget_loadFinish rfl]
  exact ⟨hstate, (State.fget_fset_same rfl ..).trans (Nat.mod_eq_of_lt (hlen.trans_lt (by decide))), hend⟩

/-- An ABORT of the loader whose slot is not filled acts at once. -/
theorem loadCtrlWrite_aborts (hslot : slot < 2) (hloading : s.slotState slot = slotLOADING) (hloader : s.loaderOf slot = s.identOf who)
    (hfree : s.sch.filling.contains slot = false) :
    ∃ t, loadCtrlWrite who (loadCtrlWord 3 slot 0) s = .ok t ∧ t.slotState slot = slotEMPTY := by
  have hasked : (s.loadAsked slot 0).sch.filling.contains slot = false := by rwa [State.sch_loadAsked]
  refine ⟨_, loadCtrlWrite_abort hslot hloading hloader, ?_⟩
  rw [State.loadOp_abort hasked, State.slotState_loadAbort]

/-- A load write to a slot that is filled waits, and leaves the registers, the bytes and the state of each slot. -/
theorem State.loadOp_waits (h : s.sch.filling.contains slot = true) (op : LoadOp) :
    (s.loadOp slot op).sch = { s.sch with heldLoads := s.sch.heldLoads ++ [(slot, op)] } ∧ (s.loadOp slot op).regs = s.regs := by
  rw [State.loadOp_held h]
  exact ⟨rfl, rfl⟩

theorem State.loadAsked_loadOp_waits (hloading : s.slotState slot = slotLOADING) (hfill : s.sch.filling.contains slot = true) (len : Nat) (op : LoadOp) :
    ((s.loadAsked slot len).loadOp slot op).slotState slot = slotLOADING ∧
      ((s.loadAsked slot len).loadOp slot op).sch.heldLoads = s.sch.heldLoads ++ [(slot, op)] := by
  obtain ⟨hsch, hregs⟩ := State.loadOp_waits (s := s.loadAsked slot len) (by rwa [State.sch_loadAsked]) op
  rw [hsch, State.slotState, State.fget_of_regs hregs, State.sch_loadAsked]
  exact ⟨(s.slotState_loadAsked ..).trans hloading, rfl⟩

theorem loadCtrlWrite_endWaits (hslot : slot < 2) (hlen : len ≤ slotBytes) (hloading : s.slotState slot = slotLOADING)
    (hloader : s.loaderOf slot = s.identOf who) (hfill : s.sch.filling.contains slot = true) :
    ∃ t, loadCtrlWrite who (loadCtrlWord 2 slot len) s = .ok t ∧ t.slotState slot = slotLOADING ∧
      t.sch.heldLoads = s.sch.heldLoads ++ [(slot, .finish len)] :=
  ⟨_, loadCtrlWrite_end hslot hlen hloading hloader, State.loadAsked_loadOp_waits hloading hfill ..⟩

theorem loadCtrlWrite_abortWaits (hslot : slot < 2) (hloading : s.slotState slot = slotLOADING) (hloader : s.loaderOf slot = s.identOf who)
    (hfill : s.sch.filling.contains slot = true) :
    ∃ t, loadCtrlWrite who (loadCtrlWord 3 slot 0) s = .ok t ∧ t.slotState slot = slotLOADING ∧
      t.sch.heldLoads = s.sch.heldLoads ++ [(slot, .abort)] :=
  ⟨_, loadCtrlWrite_abort hslot hloading hloader, State.loadAsked_loadOp_waits hloading hfill ..⟩

theorem loadDataWrite_eq (hloading : s.slotState (s.fget SCH_LOAD_CTRL.SLOT 0) = slotLOADING)
    (hloader : s.loaderOf (s.fget SCH_LOAD_CTRL.SLOT 0) = s.identOf who) (data : Word) : loadDataWrite who data s =
      .ok ((s.loadOp (s.fget SCH_LOAD_CTRL.SLOT 0) (.bytes (s.fget SCH_LOAD_ADDR.ADDR 0) (beBytes 4 data.toNat))).fset SCH_LOAD_ADDR.ADDR 0
        (s.fget SCH_LOAD_ADDR.ADDR 0 + 4)) := State.loadCheck_loader hloading hloader _

theorem State.fget_loadAddr (s : State) (v : Nat) : (s.fset SCH_LOAD_ADDR.ADDR 0 v).fget SCH_LOAD_ADDR.ADDR 0 = v % 2 ^ 18 := State.fget_fset_same rfl ..

theorem length_beBytes (v : Nat) : ∀ n, (beBytes n v).length = n
  | 0 => rfl
  | n + 1 => congrArg (· + 1) (length_beBytes v n)

theorem beBytes_lt (v : Nat) : ∀ n, ∀ b ∈ beBytes n v, b < 256
  | n + 1, _, .head _ => Nat.mod_lt _ (by decide)
  | n + 1, b, .tail _ hb => beBytes_lt v n b hb

/-- A word of the loader to a slot that is not filled reaches its bytes. -/
theorem loadDataWrite_stores (k : Fin 4) (hloading : s.slotState (s.fget SCH_LOAD_CTRL.SLOT 0) = slotLOADING)
    (hloader : s.loaderOf (s.fget SCH_LOAD_CTRL.SLOT 0) = s.identOf who)
    (hfree : s.sch.filling.contains (s.fget SCH_LOAD_CTRL.SLOT 0) = false) (data : Word) : ∃ t, loadDataWrite who data s = .ok t ∧
      t.imgByte (s.fget SCH_LOAD_CTRL.SLOT 0) (s.fget SCH_LOAD_ADDR.ADDR 0 + k.val) = (beBytes 4 data.toNat).getD k.val 0 ∧
      t.fget SCH_LOAD_ADDR.ADDR 0 = (s.fget SCH_LOAD_ADDR.ADDR 0 + 4) % 2 ^ 18 := by
  have hk : k.val < (beBytes 4 data.toNat).length := (length_beBytes ..).symm ▸ k.isLt
  have hbyte : (beBytes 4 data.toNat).getD k.val 0 < 256 := by
    rw [List.getD_eq_getElem _ _ hk]
    exact beBytes_lt _ _ _ (List.getElem_mem hk)
  refine ⟨_, loadDataWrite_eq hloading hloader data, ?_, State.fget_loadAddr ..⟩
  rw [State.imgByte, State.sch_fset, State.loadOp_bytes hfree]
  exact ((s.loadStore_shows ..).1 k.val hk).trans (Nat.mod_eq_of_lt hbyte)

/-- A word of the loader to a slot that is filled waits. -/
theorem loadDataWrite_waits (hloading : s.slotState (s.fget SCH_LOAD_CTRL.SLOT 0) = slotLOADING)
    (hloader : s.loaderOf (s.fget SCH_LOAD_CTRL.SLOT 0) = s.identOf who)
    (hfill : s.sch.filling.contains (s.fget SCH_LOAD_CTRL.SLOT 0) = true) (data : Word) : ∃ t, loadDataWrite who data s = .ok t ∧
      t.sch.heldLoads = s.sch.heldLoads ++ [(s.fget SCH_LOAD_CTRL.SLOT 0, .bytes (s.fget SCH_LOAD_ADDR.ADDR 0) (beBytes 4 data.toNat))] ∧
      t.sch.img = s.sch.img ∧ t.fget SCH_LOAD_ADDR.ADDR 0 = (s.fget SCH_LOAD_ADDR.ADDR 0 + 4) % 2 ^ 18 := by
  refine ⟨_, loadDataWrite_eq hloading hloader data, ?_, ?_, State.fget_loadAddr ..⟩
  · rw [State.sch_fset, (State.loadOp_waits hfill _).1]
  · rw [State.sch_fset, (State.loadOp_waits hfill _).1]

/-! The timeout of a load, and the end of a verification (R93, R96). -/

theorem State.timerOn_pulse (s : State) (n tm u : Nat) : (s.pulse pgSCH n).timerOn tm u = s.timerOn tm u := by
  rw [State.timerOn, Quiet.refl.pulse.timers, State.timerOn]

theorem execLoadTimeout_due {slot : Fin 2} (hloading : s.slotState slot.val = slotLOADING) (hdue : s.timerDue tmLoad slot.val s.sec_ 10 = true) :
    execLoadTimeout slot s = .next (((s.setSlot slot.val slotEMPTY).timerStop tmLoad slot.val).pulse pgSCH 7) :=
  congrArg _ (if_pos (by rw [hloading, hdue]; rfl))

/-- GEN and BUILD_ID as a verification shows them. -/
def State.showHeader (s : State) (slot : Nat) : State :=
  (s.fset (slotGenFld slot) 0 (s.imgBE slot 0x0C 2)).fset (slotBuildFld slot) 0 (s.imgBE slot 0x14 4)

theorem execVerifyDone_verifying {slot : Fin 2} (h : s.slotState slot.val = slotVERIFYING) (sigOk recountOk : Bool) :
    execVerifyDone slot sigOk recountOk s = .next (if s.verifyCode slot.val (s.endLen slot.val) sigOk recountOk = 0 then
      ((s.showHeader slot.val).setSlot slot.val slotVERIFIED).pulse pgSCH 0
    else (s.showHeader slot.val).refuseSlot slot.val (s.verifyCode slot.val (s.endLen slot.val) sigOk recountOk)) :=
  congrArg _ (if_neg (not_not.mpr h))

theorem State.gen_showHeader (s : State) (slot : Nat) : (s.showHeader slot).fget (slotGenFld slot) 0 = s.imgBE slot 0x0C 2 := by
  have hgen : (slotGenFld slot).inWord = true ∧ (slotGenFld slot).apart (slotBuildFld slot) = true ∧
      fieldSize (slotGenFld slot).hi (slotGenFld slot).lo = 256 ^ 2 :=
    slotFields_all (P := fun _ _ c e => c.inWord = true ∧ c.apart e = true ∧ fieldSize c.hi c.lo = 256 ^ 2) ⟨rfl, rfl, rfl⟩ ⟨rfl, rfl, rfl⟩ slot
  obtain ⟨hword, hbuild, hsize⟩ := hgen
  rw [State.showHeader, State.fget_fset_apart hbuild, State.fget_fset_same hword, hsize, Nat.mod_eq_of_lt (s.imgBE_lt slot 0x0C 2)]

/-- A slot that passes is VERIFIED and shows the header's generation. -/
theorem State.verified_shows (s : State) (slot n : Nat) : (((s.showHeader slot).setSlot slot slotVERIFIED).pulse pgSCH n).slotState slot = slotVERIFIED ∧
    (((s.showHeader slot).setSlot slot slotVERIFIED).pulse pgSCH n).fget (slotGenFld slot) 0 = s.imgBE slot 0x0C 2 := by
  have hgen : (slotGenFld slot).unreported = true ∧ (slotGenFld slot).apart (slotStateFld slot) = true :=
    slotFields_all (P := fun a _ c _ => c.unreported = true ∧ c.apart a = true) ⟨rfl, rfl⟩ ⟨rfl, rfl⟩ slot
  rw [State.slotState_pulse, State.fget_pulse hgen.1, State.slotState_setSlot _ _ (by decide), State.setSlot, State.fget_fset_apart hgen.2,
    State.gen_showHeader]
  exact ⟨rfl, rfl⟩

/-- Settles O11: each command from the rules above. -/
theorem imageLoadsComplete : Obligations.ImageLoadsComplete := by
  refine ⟨fun who slot s hadm hst => State.next_access_ends (execImageLoadBegin_eq who slot s) hadm (fun _ _ _ _ h => h) fun _ _ =>
      loadCtrlWrite_begins slot.isLt hst,
    fun s slot others hfill hothers _ => ⟨_, execImageSlotFillDone_fills hfill, State.fillEnds_shows hothers s⟩,
    fun s slot others a d k hfill hothers hst hheld _ hd _ => ⟨_, execImageSlotFillDone_fills hfill, ?bytes⟩,
    fun s slot others n hfill hothers hst hheld _ => ⟨_, execImageSlotFillDone_fills hfill, ?finish⟩,
    fun s slot others hfill hothers hst hheld _ => ⟨_, execImageSlotFillDone_fills hfill, ?abort⟩,
    fun who data s k hadm hst hloader hfree => State.next_access_ends rfl hadm (fun _ _ _ _ h => h) fun timers expert =>
      loadDataWrite_stores (s := { s with timers := timers, expert := expert }) k hst hloader hfree data,
    fun who slot length s hadm hst hloader hfree hlen => State.next_access_ends (execImageLoadEnd_eq who slot length s) hadm (fun _ _ _ _ h => h)
      fun _ _ => loadCtrlWrite_ends slot.isLt hlen hst hloader hfree,
    fun who slot s hadm hst hloader hfree => State.next_access_ends (execImageLoadAbort_eq who slot s) hadm (fun _ _ _ _ h => h) fun _ _ =>
      loadCtrlWrite_aborts slot.isLt hst hloader hfree,
    fun slot s hst hdue => ⟨_, execLoadTimeout_due hst hdue, ?timeout⟩,
    fun slot sigOk recountOk s hst => ⟨_, execVerifyDone_verifying hst sigOk recountOk, ?verify⟩,
    fun who data s hadm hst hloader hfill => State.next_access_ends rfl hadm (fun _ _ _ _ h => h) fun timers expert =>
      loadDataWrite_waits (s := { s with timers := timers, expert := expert }) hst hloader hfill data,
    fun who slot length s hadm hst hloader hfill hlen => State.next_access_ends (execImageLoadEnd_eq who slot length s) hadm (fun _ _ _ _ h => h)
      fun _ _ => loadCtrlWrite_endWaits slot.isLt hlen hst hloader hfill,
    fun who slot s hadm hst hloader hfill => State.next_access_ends (execImageLoadAbort_eq who slot s) hadm (fun _ _ _ _ h => h) fun _ _ =>
      loadCtrlWrite_abortWaits slot.isLt hst hloader hfill⟩
  case bytes =>
    obtain ⟨hfilling, hbusy, -⟩ := State.fillEnds_shows hothers s
    obtain ⟨hbyte, hstate⟩ := (s.fillDone slot others).loadStore_shows slot a d
    refine ⟨hfilling, hbusy, ?_⟩
    rw [State.fillEnds_single hst hheld, State.loadOp_bytes hothers]
    exact ⟨hbyte k.val (hd.symm ▸ k.isLt), (hstate slot).trans ((s.slotState_fillDone ..).trans hst)⟩
  case finish =>
    obtain ⟨hfilling, hbusy, -⟩ := State.fillEnds_shows hothers s
    refine ⟨hfilling, hbusy, ?_⟩
    rw [State.fillEnds_single hst hheld, State.loadOp_finish hothers]
    exact State.loadFinish_shows ..
  case abort =>
    obtain ⟨hfilling, hbusy, -⟩ := State.fillEnds_shows hothers s
    refine ⟨hfilling, hbusy, ?_⟩
    rw [State.fillEnds_single hst hheld, State.loadOp_abort hothers]
    exact State.slotState_loadAbort ..
  case timeout =>
    rw [State.slotState_pulse, State.timerOn_pulse, State.slotState_timerStop, State.timerOn_timerStop]
    exact ⟨State.slotState_setSlot _ _ (by decide), rfl⟩
  case verify =>
    by_cases hcode : s.verifyCode slot.val (s.endLen slot.val) sigOk recountOk = 0
    · obtain ⟨hstate, hgen⟩ := s.verified_shows slot.val 0
      rw [if_pos hcode, if_pos hcode]
      exact ⟨hstate, hgen, fun hne => absurd hcode hne⟩
    · obtain ⟨hstate, hresult, hgen⟩ := (s.showHeader slot.val).refuseSlot_shows slot.val (s.verifyCode_lt slot.val (s.endLen slot.val) sigOk recountOk)
      rw [if_neg hcode, if_neg hcode]
      exact ⟨hstate, hgen.trans (s.gen_showHeader slot.val), fun _ => hresult⟩

end Sys2Proof.Machine
end

section
/-!
What leaves the schedule slots and the swap alone. `KeepsSwap s0 t` says that the registers of the slots and of the swap (page SCH up to the pools) read in
`t` as in `s0`, and that what stands behind them is that of `s0`: contexts, paths, cancellers, traces, listeners and captures follow an image and do not
change it.
-/
namespace Sys2Proof.Machine

-- One proof after the other: a default argument by a tactic waits until the kernel has checked all that stands before it.
set_option Elab.async false

variable {s0 s t : State}

/-- An address of the slots' status or of the swap's status and plan. -/
def swapAddr (a : Nat) : Bool := decide (0x12040 ≤ a ∧ a < 0x12060 ∨ 0x12098 ≤ a ∧ a < 0x120C0)

/-- `t` has the registers of slots and swap of `s0`, and what stands behind them. -/
structure KeepsSwap (s0 t : State) : Prop where
  word : ∀ k, swapAddr (k % Fld.unitStep) = true → t.word k = s0.word k
  sch : t.sch = s0.sch

theorem KeepsSwap.refl : KeepsSwap s s := ⟨fun _ _ => rfl, rfl⟩

/-- A record update of other fields. -/
theorem KeepsSwap.update {ctx timers time released flt chn can cen fel ggr ftm gcp rst reports free} (h : KeepsSwap s0 s) :
    KeepsSwap s0 { s with ctx := ctx, timers := timers, time := time, released := released, flt := flt, chn := chn, can := can, cen := cen, fel := fel,
                          ggr := ggr, ftm := ftm, gcp := gcp, rst := rst, reports := reports, free := free } := ⟨h.word, h.sch⟩

theorem KeepsSwap.ite {c : Prop} [Decidable c] {a b : State} (ha : KeepsSwap s0 a) (hb : KeepsSwap s0 b) : KeepsSwap s0 (if c then a else b) := by
  split
  · exact ha
  · exact hb

theorem KeepsSwap.foldlMem {α : Type} {f : State → α → State} {l : List α} (h : KeepsSwap s0 s)
    (hf : ∀ t, ∀ x ∈ l, KeepsSwap s0 t → KeepsSwap s0 (f t x)) : KeepsSwap s0 (l.foldl f s) :=
  List.foldlRecOn (motive := KeepsSwap s0) l f h fun t ht x hx => hf t x hx ht

theorem KeepsSwap.foldl {α : Type} {f : State → α → State} {l : List α} (h : KeepsSwap s0 s) (hf : ∀ t x, KeepsSwap s0 t → KeepsSwap s0 (f t x)) :
    KeepsSwap s0 (l.foldl f s) := h.foldlMem fun t x _ => hf t x

theorem KeepsSwap.setWord {k : Nat} {w : Word} (h : KeepsSwap s0 s) (hk : swapAddr (k % Fld.unitStep) = false) : KeepsSwap s0 (s.setWord k w) :=
  ⟨fun j hj => (State.word_setWord_ne s w fun heq => by simp [← heq, hj] at hk).trans (h.word j hj), h.sch⟩

/-- A register at one address, which is none of the slots' and the swap's. -/
def Fld.offSwap (f : Fld) : Bool := decide (f.stride % Fld.unitStep = 0) && !swapAddr (f.base % Fld.unitStep)

theorem KeepsSwap.fset {f : Fld} {u v : Nat} (h : KeepsSwap s0 s) (hf : f.offSwap = true := by rfl) : KeepsSwap s0 (s.fset f u v) := by
  simp only [Fld.offSwap, Bool.and_eq_true, decide_eq_true_eq, Bool.not_eq_true'] at hf
  exact h.setWord ((Fld.key_mod hf.1 u).symm ▸ hf.2)

/-- A register array of up to 32 units that lies past those of the swap. -/
def Fld.pastSwap (f : Fld) : Bool := decide (0x120C0 ≤ f.base ∧ f.base + 31 * f.stride < Fld.unitStep)

theorem KeepsSwap.fsetAt {f : Fld} {u v : Nat} (h : KeepsSwap s0 s) (hu : u < 32) (hf : f.pastSwap = true := by rfl) : KeepsSwap s0 (s.fset f u v) := by
  have hspan : f.stride * u ≤ 31 * f.stride := by
    rw [Nat.mul_comm]
    exact Nat.mul_le_mul_right _ (by omega)
  rw [Fld.pastSwap, decide_eq_true_eq] at hf
  refine h.setWord (decide_eq_false fun hk => ?_)
  rw [Fld.key] at hk
  unfold Fld.unitStep at *
  omega

/-- A field of the slots or the swap. -/
theorem KeepsSwap.fget (h : KeepsSwap s t) {f : Fld} {u : Nat} (hf : swapAddr (f.key u % Fld.unitStep) = true) : t.fget f u = s.fget f u :=
  State.fget_congr (h.word _ hf)

theorem KeepsSwap.slotState (h : KeepsSwap s t) (k : Nat) : t.slotState k = s.slotState k :=
  h.fget (slotFields_all (P := fun a _ _ _ => swapAddr (a.key 0 % Fld.unitStep) = true) (by decide) (by decide) k)

/-! Reports and time. -/

theorem KeepsSwap.quiet (h : KeepsSwap s0 s) (hq : Quiet s t) : KeepsSwap s0 t := by
  refine ⟨fun k hk => (hq.word k fun hreport => ?_).trans (h.word k hk), (Hushed.mk hq.hush).sch.trans h.sch⟩
  simp only [swapAddr, decide_eq_true_eq] at hk
  unfold ReportKey pgTRC pgEVR at hreport
  unfold Fld.unitStep at *
  omega

theorem KeepsSwap.pulse {page n : Nat} (h : KeepsSwap s0 s) (hp : page < 64 := by decide) : KeepsSwap s0 (s.pulse page n) := h.quiet (Quiet.refl.pulse hp)

theorem KeepsSwap.cond {page n : Nat} {b : Bool} (h : KeepsSwap s0 s) (hp : page < 64 := by decide) : KeepsSwap s0 (s.cond page n b) :=
  h.quiet (Quiet.refl.cond hp)

theorem KeepsSwap.drive {src : Nat} {b : Bool} (h : KeepsSwap s0 s) (hsrc : src < 512 := by decide) : KeepsSwap s0 (s.drive src b) :=
  h.quiet (Quiet.refl.drive hsrc)

theorem KeepsSwap.post {code p0 p1 p2 : Nat} (h : KeepsSwap s0 s) : KeepsSwap s0 (s.post code p0 p1 p2) := h.quiet Quiet.refl.post

theorem KeepsSwap.timerStop {tm u : Nat} (h : KeepsSwap s0 s) : KeepsSwap s0 (s.timerStop tm u) := h.update

theorem KeepsSwap.advanceTo {x : Nat} (h : KeepsSwap s0 s) : KeepsSwap s0 (s.advanceTo x) := .ite h.update h

/-! Contexts and their entries (R75, R92, R102). -/

theorem KeepsSwap.setCtxRt {c : Nat} {r : CtxRt} (h : KeepsSwap s0 s) : KeepsSwap s0 (s.setCtxRt c r) := h.update

theorem KeepsSwap.cset {f : CFld} {c v : Nat} (h : KeepsSwap s0 s) : KeepsSwap s0 (s.cset f c v) := h.update

theorem KeepsSwap.csetI {f : CFld} {c : Nat} {v : Int} (h : KeepsSwap s0 s) : KeepsSwap s0 (s.csetI f c v) := h.cset

theorem KeepsSwap.setCtxState {c st : Nat} (h : KeepsSwap s0 s) : KeepsSwap s0 (s.setCtxState c st) :=
  have ht : KeepsSwap s0 ((((s.cset CTX_CTRL.STATE c st).cbump CTX_STATUS.TRANSITIONS c).cset CTX_STATE_TIME.DT c _).countRunning _ _) :=
    h.cset.cset.cset.fset
  .ite (.ite ht.csetI.setCtxRt.csetI ht.csetI.setCtxRt) (.ite ht.cset.cset.setCtxRt ht)

theorem offSwap_poolFree (tick : Nat) : (poolFreeFld tick).offSwap = true := by
  unfold poolFreeFld
  split <;> rfl

theorem offSwap_poolTotal (tick : Nat) : (poolTotalFld tick).offSwap = true := by
  unfold poolTotalFld
  split <;> rfl

theorem KeepsSwap.freeSlot {c : Nat} (h : KeepsSwap s0 s) : KeepsSwap s0 (s.freeSlot c) := by
  unfold State.freeSlot
  split
  · exact h
  · exact h.setCtxRt.fset (offSwap_poolFree _)

theorem KeepsSwap.cmdResult {c r : Nat} (h : KeepsSwap s0 s) : KeepsSwap s0 (s.cmdResult c r) := .ite h.cset.pulse h.cset

theorem KeepsSwap.evictCtx {c : Nat} (h : KeepsSwap s0 s) : KeepsSwap s0 (s.evictCtx c) := by
  unfold State.evictCtx
  exact (KeepsSwap.ite h.setCtxState h).freeSlot.cmdResult

theorem KeepsSwap.evict {cs : List Nat} (h : KeepsSwap s0 s) : KeepsSwap s0 (s.evict cs) :=
  have ht : KeepsSwap s0 (cs.foldl State.evictCtx s) := h.foldl fun _ _ ht => ht.evictCtx
  .ite ht ht.pulse

theorem KeepsSwap.bindEntry {c tick e : Nat} (h : KeepsSwap s0 s) : KeepsSwap s0 (s.bindEntry c tick e) := h.setCtxRt.update

theorem KeepsSwap.rebind {tick : Nat} (h : KeepsSwap s0 s) : KeepsSwap s0 (s.rebind tick) := h.foldl fun _ _ ht => ht.bindEntry

theorem KeepsSwap.showImage {slot : Nat} (h : KeepsSwap s0 s) : KeepsSwap s0 (s.showImage slot) :=
  KeepsSwap.fset (KeepsSwap.fset (h.foldl fun _ _ ht => (ht.fset (offSwap_poolTotal _)).fset (offSwap_poolFree _)))

/-! Paths and their ports (R80, R81, R263). -/

theorem State.mem_paths {p : Nat} (h : p ∈ s.paths) : p < 32 := List.mem_range.mp (List.mem_of_mem_filter h)

theorem KeepsSwap.setPathRt {p : Nat} {r : PathRt} (h : KeepsSwap s0 s) : KeepsSwap s0 (s.setPathRt p r) := h.update

theorem KeepsSwap.setPathGrid {p : Nat} {r : PathGrid} (h : KeepsSwap s0 s) : KeepsSwap s0 (s.setPathGrid p r) := h.update

theorem KeepsSwap.drainPath {p : Nat} (h : KeepsSwap s0 s) (hp : p < 32) : KeepsSwap s0 (s.drainPath p) :=
  ((h.fsetAt hp).fsetAt hp).foldl fun _ _ ht => .ite ht.setCtxRt ht

theorem KeepsSwap.setEnable {p : Nat} {en : Bool} (h : KeepsSwap s0 s) (hp : p < 32) : KeepsSwap s0 (s.setEnable p en) :=
  have henable {v} : KeepsSwap s0 (s.fset CHN_PATH_CFG.ENABLE p v) := h.fsetAt hp
  .ite (.ite henable.setPathRt (.ite henable.setPathRt henable.setPathRt.pulse)) (.ite (.ite h (h.drainPath hp)) henable.setPathRt)

theorem KeepsSwap.startDrains {drains evicted : List Nat} (h : KeepsSwap s0 s) (hp : ∀ p ∈ drains, p < 32) : KeepsSwap s0 (s.startDrains drains evicted) :=
  (h.foldlMem fun _ p hmem ht => ht.setEnable (hp p hmem)).foldl fun _ _ ht => .ite ht.setCtxRt ht

theorem KeepsSwap.placePath {p : Nat} (h : KeepsSwap s0 s) (hp : p < 32) : KeepsSwap s0 (s.placePath p) :=
  have ht : KeepsSwap s0 (s.refreshPath p) := KeepsSwap.fsetAt (KeepsSwap.fsetAt h hp) hp
  KeepsSwap.fsetAt ht.setPathGrid hp

theorem KeepsSwap.setFelPort {n : Nat} {r : FelPort} (h : KeepsSwap s0 s) : KeepsSwap s0 (s.setFelPort n r) :=
  have hport : KeepsSwap s0 { s with fel := { s.fel with ports := _ } } := h.update
  hport.fset.fset

theorem KeepsSwap.setPins {n : Nat} {trx pa safe : Bool} (h : KeepsSwap s0 s) (hn : n < 32) : KeepsSwap s0 (s.setPins n trx pa safe) :=
  have hpins {a b c d} : KeepsSwap s0 ((((s.fsetB FEL_PIN.TRX n a).fsetB FEL_PIN.PA n b).fsetB FEL_PIN.LNA n c).fsetB FTM_PSTAT.TX n d) :=
    h.fset.fset.fset.fsetAt hn
  .ite hpins hpins.setFelPort

theorem KeepsSwap.trxEdge {n : Nat} {trx : Bool} (h : KeepsSwap s0 s) : KeepsSwap s0 (s.trxEdge n trx) :=
  .ite h (.ite h.setFelPort.fset h.setFelPort.fset)

theorem KeepsSwap.askPins {n : Nat} {trx pa : Bool} (h : KeepsSwap s0 s) (hn : n < 32) : KeepsSwap s0 (s.askPins n trx pa) :=
  .ite (h.setPins hn) (h.setPins hn).trxEdge

theorem KeepsSwap.noteSimplex {n : Nat} (h : KeepsSwap s0 s) : KeepsSwap s0 (s.noteSimplex n) := .ite h h.setFelPort.pulse

theorem KeepsSwap.fddPins {n : Nat} (h : KeepsSwap s0 s) (hn : n < 32) : KeepsSwap s0 (s.fddPins n) := .ite h (h.noteSimplex.askPins hn)

theorem KeepsSwap.resetHolds {c : Nat} (h : KeepsSwap s0 s) : KeepsSwap s0 (s.resetHolds c) := .ite h h.update

theorem KeepsSwap.turnOn {p : Nat} (h : KeepsSwap s0 s) (hp : p < 32) : KeepsSwap s0 (s.turnOn p) :=
  have hon : KeepsSwap s0 (((s.fset CHN_PATH_STAT.STATE p pathON).setPathRt p _).setPathGrid p _) := (h.fsetAt hp).setPathRt.setPathGrid
  (hon.foldl fun _ _ ht => ht.resetHolds).foldlMem fun _ _ hmem ht => ht.fddPins (State.mem_writesOf hmem)

theorem KeepsSwap.movedOn (h : KeepsSwap s0 s) : KeepsSwap s0 s.movedOn :=
  h.foldlMem fun _ _ hmem ht => .ite ((ht.fsetAt (State.mem_paths hmem)).turnOn (State.mem_paths hmem)) ht

/-! Cancellers (R136). -/

theorem KeepsSwap.zeroTaps {u keep : Nat} (h : KeepsSwap s0 s) : KeepsSwap s0 (s.zeroTaps u keep) := h.update

theorem KeepsSwap.placeCluster {n k r c : Nat} {en : Bool} {start len : Nat} (h : KeepsSwap s0 s) : KeepsSwap s0 (s.placeCluster n k r c en start len) :=
  h.zeroTaps.fset.fset.fset

theorem KeepsSwap.deriveApply {n : Nat} (h : KeepsSwap s0 s) : KeepsSwap s0 (s.deriveApply n) := by
  have hclusters := h.foldl (l := List.range 64) (f := fun t k => (List.range 4).foldl (fun t r => (List.range 3).foldl (fun t c =>
      match (s.clustersOf n r).find? fun e => decide (e.1 = c) with
      | some e => if (s.activeSbs n).contains k && (s.enabledRefs n).contains r && decide (0 < s.deriveLen n) then
          t.placeCluster n k r c true e.2 (s.deriveLen n) else t.placeCluster n k r c false 0 0
      | none => t.placeCluster n k r c false 0 0) t) t) fun t k ht => ht.foldl fun t r ht => ht.foldl fun t c ht => by
    split
    · exact .ite ht.placeCluster ht.placeCluster
    · exact ht.placeCluster
  exact KeepsSwap.pulse (KeepsSwap.update (KeepsSwap.fset (KeepsSwap.fset hclusters.fset.fset)))

theorem KeepsSwap.deriveLeak {n : Nat} (h : KeepsSwap s0 s) : KeepsSwap s0 (s.deriveLeak n) := h.fset.fset

theorem KeepsSwap.cutMap {n : Nat} (h : KeepsSwap s0 s) : KeepsSwap s0 (s.cutMap n) :=
  KeepsSwap.pulse (h.foldl fun _ _ ht => .ite ht.zeroTaps.fset ht)

theorem KeepsSwap.canSwap {n : Nat} {reduced : Bool} (h : KeepsSwap s0 s) : KeepsSwap s0 (s.canSwap n reduced) :=
  have ht : KeepsSwap s0 (s.fsetB CAN_STAT.REDUCED n (s.canReduced n)) := h.fset
  have hwiped : KeepsSwap s0 ((s.fsetB CAN_STAT.REDUCED n (s.canReduced n)).wipeCan n) := ht.update
  .ite hwiped.deriveApply.deriveLeak (.ite ht (.ite ht.deriveApply ht.cutMap))

/-! Traces, listeners and captures (R108). -/

theorem KeepsSwap.traceDone {ch : Nat} (h : KeepsSwap s0 s) : KeepsSwap s0 (s.traceDone ch) := .ite h h.fset.pulse

theorem KeepsSwap.tracesCut (h : KeepsSwap s0 s) : KeepsSwap s0 s.tracesCut := h.foldl fun _ _ ht => .ite ht.traceDone ht

theorem KeepsSwap.notePri (h : KeepsSwap s0 s) : KeepsSwap s0 s.notePri := by
  obtain ⟨timers, heq⟩ := s.notePri_eq
  rw [heq]
  exact h.update

theorem KeepsSwap.setClState {k st : Nat} (h : KeepsSwap s0 s) : KeepsSwap s0 (s.setClState k st) := h.fset.cond.drive.notePri

theorem KeepsSwap.carrierOff {k : Nat} (h : KeepsSwap s0 s) : KeepsSwap s0 (s.carrierOff k) :=
  have ht : KeepsSwap s0 (s.setCarrier k { stage1 := (s.carrier k).stage1, stage2 := (s.carrier k).stage2 }) := h.update
  ht.fset.fset.fset.fset.timerStop.timerStop.setClState

theorem KeepsSwap.carriersCut (h : KeepsSwap s0 s) : KeepsSwap s0 s.carriersCut := h.foldl fun _ _ ht => .ite ht.carrierOff ht

theorem KeepsSwap.setCap {n : Nat} {r : CapSession} (h : KeepsSwap s0 s) : KeepsSwap s0 (s.setCap n r) := h.update

theorem KeepsSwap.capFree {n : Nat} (h : KeepsSwap s0 s) : KeepsSwap s0 (s.capFree n) := h.fset.fset.setCap

theorem KeepsSwap.capReport {n : Nat} (h : KeepsSwap s0 s) : KeepsSwap s0 (s.capReport n) := h.update

theorem KeepsSwap.capEnd {n reason : Nat} (h : KeepsSwap s0 s) : KeepsSwap s0 (s.capEnd n reason) :=
  have ht := h.fset.fset.setCap.pulse
  .ite (.ite ht.capReport.capFree ht) h

theorem KeepsSwap.capSwap {lost : Nat} (h : KeepsSwap s0 s) : KeepsSwap s0 (s.capSwap lost) := h.foldl fun _ _ ht => .ite ht.capEnd ht

end Sys2Proof.Machine
end

section
/-!
Arming and disarming a swap (R99 to R102, R109, R111): a command word writes SCH_SWAP_CTRL, which no plan reads; what an armed or refused swap then shows.
-/
namespace Sys2Proof.Machine

variable {s t : State} {who : Init} {k r : Nat} {drain fallback at_ : Bool} {group slot g : Nat} {ord : Option Nat}

/-! SCH_SWAP_CTRL is no part of the plan. -/

/-- `t` differs from `s` in SCH_SWAP_CTRL at most, as far as a plan can tell. -/
structure CtrlOnly (s t : State) : Prop extends Hushed s t where
  word : ∀ k, k ≠ 0x12090 → t.word k = s.word k

/-- What reads neither registers nor reports is the same. -/
theorem Hushed.blind {α : Type} {F : State → α} (h : Hushed s t) (hF : ∀ u, F u.hush = F u) : F t = F s :=
  ((hF t).symm.trans (congrArg F h.hush)).trans (hF s)

/-- A field past SCH_SWAP_CTRL. -/
theorem CtrlOnly.fget {f : Fld} {u : Nat} (h : CtrlOnly s t) (hf : 0x12090 < f.base) : t.fget f u = s.fget f u :=
  State.fget_congr (h.word _ (Nat.ne_of_gt (hf.trans_le (Nat.le_add_right ..))))

theorem CtrlOnly.slotState (h : CtrlOnly s t) (k : Nat) : t.slotState k = s.slotState k :=
  State.fget_congr (h.word _ (slotFields_all (P := fun a _ _ _ => a.key 0 ≠ 0x12090) (by decide) (by decide) k))

theorem CtrlOnly.sch (h : CtrlOnly s t) : t.sch = s.sch := h.blind (F := State.sch) fun _ => rfl

theorem CtrlOnly.dt (h : CtrlOnly s t) : t.dt = s.dt := h.blind (F := State.dt) fun _ => rfl

theorem CtrlOnly.armTarget (h : CtrlOnly s t) : t.armTarget = s.armTarget := by
  unfold State.armTarget
  rw [h.sch, h.slotState]

theorem CtrlOnly.vGeneration (h : CtrlOnly s t) : t.vGeneration slot = s.vGeneration slot := h.blind (F := (State.vGeneration · slot)) fun _ => rfl

theorem CtrlOnly.groupOrd (h : CtrlOnly s t) : t.groupOrd g = s.groupOrd g := by
  unfold State.groupOrd State.hasClock State.groupState
  rw [h.fget (by decide), h.fget (by decide), h.dt]

theorem CtrlOnly.armRefused (h : CtrlOnly s t) : t.armRefused slot fallback ord g = s.armRefused slot fallback ord g := by
  simp only [State.armRefused, h.slotState, h.vGeneration, h.groupOrd]

theorem CtrlOnly.readsOf (h : CtrlOnly s t) (p : Nat) : t.readsOf p = s.readsOf p := by
  simp only [State.readsOf, State.fbit, h.fget (f := CHN_PATH_CFG.SVC_MASK) (by decide), h.fget (f := CHN_PATH_CFG.DONOR) (by decide)]

theorem CtrlOnly.pathKept (h : CtrlOnly s t) (slot p : Nat) : t.pathKept slot p = s.pathKept slot p := by
  have hpath (a : Nat) : t.pathBytes a p = s.pathBytes a p := h.blind (F := (State.pathBytes · a p)) fun _ => rfl
  have hcan (a n : Nat) : t.canBytes a n = s.canBytes a n := h.blind (F := (State.canBytes · a n)) fun _ => rfl
  have hmember : t.member = s.member := h.blind (F := State.member) fun _ => rfl
  simp only [State.pathKept, h.sch, hmember, hpath, hcan, h.readsOf]

theorem CtrlOnly.planOf (h : CtrlOnly s t) (slot : Nat) : t.planOf slot = s.planOf slot := by
  have hpaths : t.paths = s.paths := h.blind (F := State.paths) fun _ => rfl
  have hnow (p : Nat) : t.placedNow p = s.placedNow p := h.blind (F := (State.placedNow · p)) fun _ => rfl
  have hin (p : Nat) : t.placedIn slot p = s.placedIn slot p := h.blind (F := (State.placedIn · slot p)) fun _ => rfl
  simp only [State.planOf, hpaths, hnow, hin, h.pathKept]

theorem CtrlOnly.planDrains (h : CtrlOnly s t) (x : Plan) : t.planDrains x = s.planDrains x := by
  have hstate (p : Nat) : t.pathState p = s.pathState p := h.fget (by decide)
  simp only [State.planDrains, hstate]

theorem CtrlOnly.evictions (h : CtrlOnly s t) (slot : Nat) : t.evictions slot = s.evictions slot := h.blind (F := (State.evictions · slot)) fun _ => rfl

theorem Hushed.strictFails (h : Hushed s t) (drains evicted : List Nat) : t.strictFails drains evicted = s.strictFails drains evicted :=
  h.blind (F := (State.strictFails · drains evicted)) fun _ => rfl

theorem CtrlOnly.refl : CtrlOnly s s := ⟨Hushed.refl, fun _ _ => rfl⟩

theorem CtrlOnly.fset {s0 : State} {f : Fld} {v : Nat} (h : CtrlOnly s0 s) (hf : f.key 0 = 0x12090) : CtrlOnly s0 (s.fset f 0 v) :=
  ⟨h.toHushed.fset, fun k hk => (State.word_fset_ne (hf ▸ hk) s v).trans (h.word k hk)⟩

/-- The fields of SCH_SWAP_CTRL as a command word sets them. -/
def State.putSwap (s : State) (v : Word) : State :=
  (((s.fset SCH_SWAP_CTRL.MODE 0 (bitsOf v 29 29)).fset SCH_SWAP_CTRL.FALLBACK 0 (bitsOf v 28 28)).fset SCH_SWAP_CTRL.AT 0 (bitsOf v 27 27)).fset
    SCH_SWAP_CTRL.TGROUP 0 (bitsOf v 26 24)

theorem State.ctrlOnly_putSwap (s : State) (v : Word) : CtrlOnly s (s.putSwap v) := (((CtrlOnly.refl.fset rfl).fset rfl).fset rfl).fset rfl

/-! The command words. -/

/-- A word of SCH_SWAP_CTRL that arms. -/
def swapArmWord (drain fallback at_ : Bool) (group : Nat) : Word :=
  BitVec.ofNat 32 (2 ^ 30 + drain.toNat * 2 ^ 29 + fallback.toNat * 2 ^ 28 + at_.toNat * 2 ^ 27 + group * 2 ^ 24)

theorem execSwapArm_eq (who : Init) (drain fallback at_ : Bool) (group : Fin 8) (s : State) : execSwapArm who drain fallback at_ group s =
    .next (s.access who pgSCH 0x090 (swapArmWord drain fallback at_ group.val) (swapCtrlWrite (swapArmWord drain fallback at_ group.val))) := by
  have hflag (b : Bool) (n : Nat) : (if b = true then n else 0) = b.toNat * n := by cases b <;> simp
  simp only [execSwapArm, swapArmWord, hflag]

theorem bitsOf_swapArmWord (drain fallback at_ : Bool) (hgroup : group < 8) : bitsOf (swapArmWord drain fallback at_ group) 31 30 = 1 ∧
    bitsOf (swapArmWord drain fallback at_ group) 29 29 = drain.toNat ∧ bitsOf (swapArmWord drain fallback at_ group) 28 28 = fallback.toNat ∧
    bitsOf (swapArmWord drain fallback at_ group) 27 27 = at_.toNat ∧ bitsOf (swapArmWord drain fallback at_ group) 26 24 = group := by
  have hdrain := drain.toNat_lt
  have hfallback := fallback.toNat_lt
  have hat := at_.toNat_lt
  simp only [bitsOf, fieldSize, swapArmWord, BitVec.toNat_ofNat]
  omega

/-- With no slot armed, a word that arms sets its fields and tries the swap. -/
theorem swapCtrlWrite_arm (hgroup : group < 8) (h : s.armedSlot = none) : swapCtrlWrite (swapArmWord drain fallback at_ group) s =
    .ok ((s.putSwap (swapArmWord drain fallback at_ group)).arm drain fallback (if at_ then some (s.fget SCH_SWAP_AT.ORDINAL 0) else none) group) := by
  obtain ⟨hcmd, hdrain, hfallback, hat, hg⟩ := bitsOf_swapArmWord drain fallback at_ hgroup
  simp only [swapCtrlWrite, State.putSwap, h, hcmd, hdrain, hfallback, hat, hg, Bool.toNat_eq_one, Bool.decide_eq_true]
  rfl

/-- A DISARM before the point of no return ends the swap with reason 5. -/
theorem swapCtrlWrite_disarm {v : Word} (hcmd : bitsOf v 31 30 = 2) (harmed : s.armedSlot = some k) (hstaged : s.sch.staged = false) :
    swapCtrlWrite v s = .ok ((s.putSwap v).swapEnds k 5) := by
  simp only [swapCtrlWrite, State.putSwap, harmed, hstaged, hcmd]
  rfl

/-! What a refused swap shows. -/

theorem State.swapState_fset (s : State) {st : Nat} (hst : st < 16) : (s.fset SCH_SWAP_STAT.STATE 0 st).swapState = st :=
  (State.fget_fset_same rfl ..).trans (Nat.mod_eq_of_lt hst)

/-- A refused swap shows its reason, and leaves the slots. -/
theorem State.swapRefused_shows (s : State) (hr : r < 16) : (s.swapRefused r).swapState = swREFUSED ∧ (s.swapRefused r).fget SCH_SWAP_STAT.REASON 0 = r ∧
    ∀ k, (s.swapRefused r).slotState k = s.slotState k := by
  unfold State.swapRefused
  refine ⟨?_, ?_, fun k => ?_⟩
  · rw [State.swapState, State.fget_pulse rfl, State.fget_fset_apart rfl]
    exact s.swapState_fset (by decide)
  · rw [State.fget_pulse rfl, State.fget_fset_same rfl]
    exact Nat.mod_eq_of_lt hr
  · rw [State.slotState_pulse, State.slotState_fset rfl, State.slotState_fset rfl]

theorem State.armedSlot_congr (h : ∀ k, t.slotState k = s.slotState k) : t.armedSlot = s.armedSlot := by
  unfold State.armedSlot
  simp only [h]

/-- The reasons of a refused arming fit their field. -/
theorem State.armRefused_lt (h : s.armRefused slot fallback ord g = some r) : r < 16 := by
  unfold State.armRefused at h
  dsimp only at h
  split at h
  · cases h
    decide
  split at h
  · cases h
    decide
  split at h
  · cases h
    decide
  split at h
  · cases h
  split at h
  · cases h
  · cases h
    decide

theorem swapCtrlWrite_refused (hgroup : group < 8) (harmed : s.armedSlot = none)
    (href : s.armRefused s.armTarget fallback (if at_ then some (s.fget SCH_SWAP_AT.ORDINAL 0) else none) group = some r) :
    ∃ t, swapCtrlWrite (swapArmWord drain fallback at_ group) s = .ok t ∧ t.slotState s.armTarget = s.slotState s.armTarget ∧ t.swapState = swREFUSED ∧
      t.fget SCH_SWAP_STAT.REASON 0 = r := by
  have hput := s.ctrlOnly_putSwap (swapArmWord drain fallback at_ group)
  obtain ⟨hstate, hreason, hslots⟩ := (s.putSwap (swapArmWord drain fallback at_ group)).swapRefused_shows (State.armRefused_lt href)
  refine ⟨_, swapCtrlWrite_arm hgroup harmed, ?_⟩
  rw [State.arm, hput.armTarget, hput.armRefused, href]
  exact ⟨(hslots _).trans (hput.slotState _), hstate, hreason⟩

/-! What an armed swap shows. -/

/-- The plan for a slot is shown. -/
def State.planShown (s : State) (slot : Nat) : State := s.showPlan (s.planOf slot) (s.evictions slot)

theorem State.slotState_planShown (s : State) (slot k : Nat) : (s.planShown slot).slotState k = s.slotState k := by
  unfold State.planShown State.showPlan
  iterate 5 rw [State.slotState_fset rfl]

theorem State.hushed_planShown (s : State) (slot : Nat) : Hushed s (s.planShown slot) := Hushed.refl.fset.fset.fset.fset.fset

/-- What an arming keeps of its start. -/
def State.armMarks (s : State) (slot : Nat) (ord : Option Nat) (g : Nat) (evicted drains : List Nat) : State :=
  let s := { s with sch := { s.sch with armedFrom := s.slotState slot, armDt := s.dt, drainsDone := s.dt, armGroup := g, armOrd := ord } }
  { s with sch := { s.sch with staged := false, evicted := evicted, drained := maskOf drains } }

/-- The slot is ARMED and the swap DRAINING. -/
def State.armSlot (s : State) (slot : Nat) : State :=
  ((s.setSlot slot slotARMED).fset SCH_SWAP_STAT.STATE 0 swDRAINING).fset SCH_SWAP_STAT.REASON 0 0

/-- A slot armed with its plan, before the drains start. -/
def State.armedAt (s : State) (slot : Nat) (ord : Option Nat) (g : Nat) : State :=
  ((s.planShown slot).armMarks slot ord g (s.evictions slot) (s.planDrains (s.planOf slot))).armSlot slot

/-- A strict ARM whose plan drains or evicts is refused with reason 3; any other starts the drains. -/
theorem State.armed_eq (s : State) (slot : Nat) (drain : Bool) (ord : Option Nat) (g : Nat) : s.armed slot drain ord g =
    if (!drain && s.strictFails (s.planDrains (s.planOf slot)) (s.evictions slot)) = true then (s.planShown slot).swapRefused 3
    else (s.armedAt slot ord g).startDrains (s.planDrains (s.planOf slot)) (s.evictions slot) := by
  rw [← (s.hushed_planShown slot).strictFails]
  rfl

theorem State.armSlot_shows (s : State) (slot : Nat) : (s.armSlot slot).slotState slot = slotARMED ∧ (s.armSlot slot).swapState = swDRAINING ∧
    (s.armSlot slot).sch = s.sch := by
  unfold State.armSlot
  refine ⟨?_, ?_, ?_⟩
  · rw [State.slotState_fset rfl, State.slotState_fset rfl, State.slotState_setSlot _ _ (by decide)]
  · rw [State.swapState, State.fget_fset_apart rfl]
    exact State.swapState_fset _ (by decide)
  · rw [State.sch_fset, State.sch_fset, State.setSlot, State.sch_fset]

/-- The plan drains paths of the member. -/
theorem State.planDrains_lt (s : State) (slot : Nat) : ∀ p ∈ s.planDrains (s.planOf slot), p < 32 := by
  intro p hp
  obtain hmoved | hremoved := List.mem_append.mp (List.mem_of_mem_filter hp)
  · exact State.mem_paths (List.mem_of_mem_filter (List.mem_of_mem_filter hmoved))
  · exact State.mem_paths (List.mem_of_mem_filter hremoved)

/-- An arming whose drains may begin. -/
theorem State.armed_shows (h : (drain || !s.strictFails (s.planDrains (s.planOf slot)) (s.evictions slot)) = true) (ord : Option Nat) (g : Nat) :
    (s.armed slot drain ord g).slotState slot = slotARMED ∧ (s.armed slot drain ord g).swapState = swDRAINING ∧
      (s.armed slot drain ord g).sch.armDt = s.dt ∧ (s.armed slot drain ord g).sch.armedFrom = s.slotState slot ∧
      (s.armed slot drain ord g).sch.staged = false := by
  have hdrains := (KeepsSwap.refl (s := s.armedAt slot ord g)).startDrains (evicted := s.evictions slot) (s.planDrains_lt slot)
  obtain ⟨hstate, hswap, hsch⟩ := State.armSlot_shows ((s.planShown slot).armMarks slot ord g (s.evictions slot) (s.planDrains (s.planOf slot))) slot
  have hgo : ¬(!drain && s.strictFails (s.planDrains (s.planOf slot)) (s.evictions slot)) = true := by
    intro hfail
    simp only [Bool.and_eq_true, Bool.not_eq_true'] at hfail
    rw [hfail.1, hfail.2] at h
    exact absurd h (by decide)
  rw [State.armed_eq, if_neg hgo, hdrains.slotState, State.swapState, hdrains.fget (by decide), hdrains.sch, State.armedAt, hsch]
  exact ⟨hstate, hswap, (s.hushed_planShown slot).blind (F := State.dt) fun _ => rfl, s.slotState_planShown .., rfl⟩

theorem swapCtrlWrite_arms (hgroup : group < 8) (harmed : s.armedSlot = none)
    (hdrain : (drain || !s.strictFails (s.planDrains (s.planOf s.armTarget)) (s.evictions s.armTarget)) = true)
    (href : s.armRefused s.armTarget fallback (if at_ then some (s.fget SCH_SWAP_AT.ORDINAL 0) else none) group = none) :
    ∃ t, swapCtrlWrite (swapArmWord drain fallback at_ group) s = .ok t ∧ t.slotState s.armTarget = slotARMED ∧ t.swapState = swDRAINING ∧
      t.sch.armDt = s.dt ∧ t.sch.armedFrom = s.slotState s.armTarget ∧ t.sch.staged = false := by
  have hput := s.ctrlOnly_putSwap (swapArmWord drain fallback at_ group)
  refine ⟨_, swapCtrlWrite_arm hgroup harmed, ?_⟩
  rw [State.arm, hput.armTarget, hput.armRefused, href, ← hput.dt, ← hput.slotState]
  refine State.armed_shows ?_ ..
  rwa [hput.planOf, hput.planDrains, hput.evictions, hput.strictFails]

theorem swapCtrlWrite_strict (hgroup : group < 8) (harmed : s.armedSlot = none)
    (hstrict : s.strictFails (s.planDrains (s.planOf s.armTarget)) (s.evictions s.armTarget) = true)
    (href : s.armRefused s.armTarget fallback (if at_ then some (s.fget SCH_SWAP_AT.ORDINAL 0) else none) group = none) :
    ∃ t, swapCtrlWrite (swapArmWord false fallback at_ group) s = .ok t ∧ t.slotState s.armTarget = s.slotState s.armTarget ∧
      t.swapState = swREFUSED ∧ t.fget SCH_SWAP_STAT.REASON 0 = 3 ∧ t.armedSlot = none := by
  have hput := s.ctrlOnly_putSwap (swapArmWord false fallback at_ group)
  refine ⟨_, swapCtrlWrite_arm hgroup harmed, ?_⟩
  rw [← hput.planOf, ← hput.planDrains, ← hput.evictions, ← hput.strictFails] at hstrict
  rw [State.arm, hput.armTarget, hput.armRefused, href]
  generalize s.putSwap (swapArmWord false fallback at_ group) = u at hput hstrict ⊢
  dsimp only
  rw [State.armed_eq, hstrict, if_pos (by decide)]
  obtain ⟨hstate, hreason, hslots⟩ := (u.planShown s.armTarget).swapRefused_shows (r := 3) (by decide)
  have hkeeps (k : Nat) := (hslots k).trans ((u.slotState_planShown ..).trans (hput.slotState k))
  exact ⟨hkeeps _, hstate, hreason, (State.armedSlot_congr hkeeps).trans harmed⟩

/-! DISARM (R109). -/

theorem State.swapEnds_shows (hr : r < 16) (hfrom : s.sch.armedFrom < 16) : (s.swapEnds slot r).slotState slot = s.sch.armedFrom ∧
    (s.swapEnds slot r).swapState = swREFUSED ∧ (s.swapEnds slot r).fget SCH_SWAP_STAT.REASON 0 = r := by
  obtain ⟨hstate, hreason, hslots⟩ := (s.setSlot slot s.sch.armedFrom).swapRefused_shows hr
  rw [State.swapEnds]
  exact ⟨(hslots slot).trans (State.slotState_setSlot _ _ hfrom), hstate, hreason⟩

theorem swapCtrlWrite_disarms {v : Word} (hcmd : bitsOf v 31 30 = 2) (harmed : s.armedSlot = some k) (hstaged : s.sch.staged = false)
    (hfrom : s.sch.armedFrom < 8) : ∃ t, swapCtrlWrite v s = .ok t ∧ t.slotState k = s.sch.armedFrom ∧ t.swapState = swREFUSED ∧
      t.fget SCH_SWAP_STAT.REASON 0 = 5 := by
  have hsch := (s.ctrlOnly_putSwap v).sch
  refine ⟨_, swapCtrlWrite_disarm hcmd harmed hstaged, ?_⟩
  rw [← hsch] at hfrom ⊢
  exact State.swapEnds_shows (by decide) (hfrom.trans (by decide))

end Sys2Proof.Machine
end

section
/-!
An armed swap up to its boundary, and at it (R103 to R110): the slot that becomes active, and what its block shows of it after a reset that waited.
-/
namespace Sys2Proof.Machine

variable {s s0 t : State} {j k n r slot src st f : Nat} {b : Bool}

/-! Drains and the point of no return (R103). -/

theorem execSwapDrainsDone_ended (hswap : s.swapState = swDRAINING) (harmed : s.armedSlot.isSome = true) (hended : s.drainsEnded = true) :
    execSwapDrainsDone s = .next (State.fset { s with sch := { s.sch with drainsDone := s.dt } } SCH_SWAP_STAT.STATE 0 swWAITING) :=
  congrArg _ (if_pos (by rw [hswap, harmed, hended]; rfl))

/-- The boundary is fixed, at the frame `f`. -/
def State.fixBoundary (s : State) (f : Nat) : State := { s with sch := { s.sch with staged := true, boundary := periodAt f } }

theorem execSwapPointOfNoReturn_fixed (hswap : s.swapState = swWAITING) (harmed : s.armedSlot.isSome = true) (hstaged : s.sch.staged = false)
    (hframe : s.swapFrame = some f) : execSwapPointOfNoReturn s = .next ((s.advanceTo (periodAt f - ticksOfUs 2)).fixBoundary f) := by
  unfold execSwapPointOfNoReturn
  rw [hswap, harmed, hstaged, hframe]
  rfl

/-! Table errors (R110). -/

theorem State.driven_drive (s : State) (src : Nat) (b : Bool) : (s.drive src b).driven src = b := by
  unfold State.drive State.noteLevel
  dsimp only
  split
  · exact Tbl.get_set_same ..
  · exact Tbl.get_set_same ..

theorem State.sch_drive (s : State) (src : Nat) (b : Bool) : (s.drive src b).sch = s.sch := Hushed.refl.drive.sch

/-! The slot that an image is active from. -/

/-- The image of slot `k` is active. -/
structure ActiveIn (k : Nat) (s : State) : Prop where
  active : s.sch.active = some k
  state : s.slotState k = slotACTIVE

theorem ActiveIn.keepsSwap (h : ActiveIn k s) (ht : KeepsSwap s t) : ActiveIn k t :=
  ⟨(congrArg SchSt.active ht.sch).trans h.active, (ht.slotState k).trans h.state⟩

/-- A write that is no slot's state. -/
theorem ActiveIn.fset {f : Fld} {u v : Nat} (h : ActiveIn k s) (hf : f.sparesSlots = true := by rfl) : ActiveIn k (s.fset f u v) :=
  ⟨(congrArg SchSt.active (State.sch_fset ..)).trans h.active, (State.slotState_fset hf ..).trans h.state⟩

theorem ActiveIn.pulse (h : ActiveIn k s) : ActiveIn k (s.pulse pgSCH n) := h.keepsSwap KeepsSwap.refl.pulse

/-- The other slot takes a state. -/
theorem ActiveIn.setSlot (h : ActiveIn k s) (hk : k < 2) (hj : j < 2) (hne : k ≠ j) : ActiveIn k (s.setSlot j st) :=
  ⟨(congrArg SchSt.active (State.sch_fset ..)).trans h.active, (State.slotState_setSlot_ne s hk hj hne st).trans h.state⟩

theorem State.armedSlot_some (h : s.armedSlot = some k) : k < 2 ∧ s.slotState k = slotARMED := by
  have hmem := List.mem_of_find?_eq_some h
  have harmed := List.find?_some h
  simp only [List.mem_cons, List.not_mem_nil, or_false] at hmem
  exact ⟨by omega, of_decide_eq_true harmed⟩

/-! At the boundary (R103, R104). -/

/-- The old active slot is FORMER, the new one ACTIVE, and shown. -/
def State.handOver (s : State) (slot : Nat) : State :=
  let s := match s.sch.active with | some a => s.setSlot a slotFORMER | none => s
  let s := { s with sch := { s.sch with active := some slot, tableBad := false } }.drive 96 false
  let s := (s.setSlot slot slotACTIVE).fset SCH_ACTIVE.GEN 0 (s.fget (slotGenFld slot) 0)
  s.fset SCH_ACTIVE.SLOT 0 slot

theorem State.sch_handOver (s : State) (slot : Nat) : (s.handOver slot).sch = { s.sch with active := some slot, tableBad := false } := by
  have hformer : (match s.sch.active with | some a => s.setSlot a slotFORMER | none => s).sch = s.sch := by
    split
    · exact State.sch_fset ..
    · rfl
  unfold State.handOver
  generalize (match s.sch.active with | some a => s.setSlot a slotFORMER | none => s) = u at hformer ⊢
  rw [State.sch_fset, State.sch_fset, State.setSlot, State.sch_fset, State.sch_drive, hformer]

theorem State.handOver_shows (s : State) (hslot : slot < 2) : ActiveIn slot (s.handOver slot) ∧ (s.handOver slot).fget SCH_ACTIVE.SLOT 0 = slot := by
  refine ⟨⟨congrArg SchSt.active (s.sch_handOver slot), ?_⟩, (State.fget_fset_same rfl ..).trans (Nat.mod_eq_of_lt hslot)⟩
  unfold State.handOver
  rw [State.slotState_fset rfl, State.slotState_fset rfl, State.slotState_setSlot _ _ (by decide)]

theorem State.activate_eq (s : State) (slot : Nat) : s.activate slot =
    ((Machine.unitsOf s.member).map fun n => (n, s.canReduced n)).foldl (fun t x => t.canSwap x.1 x.2)
      (((List.range 4).foldl (fun t tick => t.rebind tick) ((s.handOver slot).showImage slot)).paths.foldl (fun t p => t.placePath p)
        ((List.range 4).foldl (fun t tick => t.rebind tick) ((s.handOver slot).showImage slot))) := rfl

/-- What follows an image that became active leaves the slots alone. -/
theorem State.keepsSwap_activate (s : State) (slot : Nat) : KeepsSwap (s.handOver slot) (s.activate slot) := by
  have hbound : KeepsSwap (s.handOver slot) ((List.range 4).foldl (fun t tick => t.rebind tick) ((s.handOver slot).showImage slot)) :=
    KeepsSwap.refl.showImage.foldl fun _ _ ht => ht.rebind
  rw [State.activate_eq]
  exact (hbound.foldlMem fun _ _ hp ht => ht.placePath (State.mem_paths hp)).foldl fun _ _ ht => ht.canSwap

/-- The swap is counted, with the time of its boundary. -/
def State.countSwap (s : State) : State :=
  let s := s.fbump SCH_ACTIVE.SWAPS 0
  (s.fset SCH_SWAP_DT_LO.DT 0 (s.sch.boundary % 2 ^ 32)).fset SCH_SWAP_DT_HI.DT 0 (s.sch.boundary / 2 ^ 32)

/-- The swap is DONE. -/
def State.closeSwap (s : State) : State :=
  let s := { s with sch := { s.sch with staged := false, evicted := [], drained := 0 } }
  (s.fset SCH_SWAP_STAT.STATE 0 swDONE).pulse pgSCH 2

theorem State.swapAt_eq (s : State) (slot : Nat) : s.swapAt slot =
    ((((s.advanceTo s.sch.boundary).evict ((s.advanceTo s.sch.boundary).evictedAt slot)).activate slot).movedOn.tracesCut.carriersCut).countSwap.closeSwap :=
  rfl

/-- `t` follows `s0` with the image of slot `k` active, the swap done, and a reset still waiting where one waited. -/
structure Swapped (k : Nat) (s0 t : State) : Prop extends ActiveIn k t where
  swap : t.swapState = swDONE
  staged : t.sch.staged = false
  shown : t.fget SCH_ACTIVE.SLOT 0 = k
  resetHeld : t.sch.resetHeld = s0.sch.resetHeld

theorem Swapped.keepsSwap (h : Swapped k s0 s) (ht : KeepsSwap s t) : Swapped k s0 t where
  toActiveIn := h.toActiveIn.keepsSwap ht
  swap := (ht.fget (by decide)).trans h.swap
  staged := (congrArg SchSt.staged ht.sch).trans h.staged
  shown := (ht.fget (by decide)).trans h.shown
  resetHeld := (congrArg SchSt.resetHeld ht.sch).trans h.resetHeld

theorem State.sch_countSwap (s : State) : s.countSwap.sch = s.sch := by
  rw [State.countSwap, State.sch_fset, State.sch_fset, State.fbump, State.sch_fset]

theorem State.sch_closeSwap (s : State) : s.closeSwap.sch = { s.sch with staged := false, evicted := [], drained := 0 } := by
  rw [State.closeSwap, State.sch_pulse, State.sch_fset]

theorem State.swapState_closeSwap (s : State) : s.closeSwap.swapState = swDONE := by
  rw [State.closeSwap, State.swapState, State.fget_pulse rfl]
  exact State.swapState_fset _ (by decide)

theorem State.shown_countSwap (s : State) : s.countSwap.fget SCH_ACTIVE.SLOT 0 = s.fget SCH_ACTIVE.SLOT 0 := by
  rw [State.countSwap, State.fget_fset_apart rfl, State.fget_fset_apart rfl, State.fbump, State.fget_fset_apart rfl]

theorem State.shown_closeSwap (s : State) : s.closeSwap.fget SCH_ACTIVE.SLOT 0 = s.fget SCH_ACTIVE.SLOT 0 := by
  rw [State.closeSwap, State.fget_pulse rfl, State.fget_fset_apart rfl]
  rfl

theorem ActiveIn.countSwap (h : ActiveIn k s) : ActiveIn k s.countSwap := h.fset.fset.fset

theorem ActiveIn.closeSwap (h : ActiveIn k s) : ActiveIn k s.closeSwap :=
  have hclosed : ActiveIn k { s with sch := { s.sch with staged := false, evicted := [], drained := 0 } } := ⟨h.active, h.state⟩
  hclosed.fset.pulse

theorem State.swapAt_swapped (s : State) (hslot : slot < 2) : Swapped slot s (s.swapAt slot) := by
  have hevicted : KeepsSwap s ((s.advanceTo s.sch.boundary).evict ((s.advanceTo s.sch.boundary).evictedAt slot)) := KeepsSwap.refl.advanceTo.evict
  rw [State.swapAt_eq]
  generalize (s.advanceTo s.sch.boundary).evict ((s.advanceTo s.sch.boundary).evictedAt slot) = u at hevicted ⊢
  obtain ⟨hactive, hshown⟩ := u.handOver_shows hslot
  have hafter : KeepsSwap (u.handOver slot) (u.activate slot).movedOn.tracesCut.carriersCut := (u.keepsSwap_activate slot).movedOn.tracesCut.carriersCut
  have hsch := hafter.sch.trans (u.sch_handOver slot)
  exact {
    toActiveIn := (hactive.keepsSwap hafter).countSwap.closeSwap
    swap := State.swapState_closeSwap _
    staged := congrArg SchSt.staged (State.sch_closeSwap _)
    shown := (State.shown_closeSwap _).trans ((State.shown_countSwap _).trans ((hafter.fget (by decide)).trans hshown))
    resetHeld := by rw [State.sch_closeSwap, State.sch_countSwap, hsch, hevicted.sch] }

/-- What stands at the boundary before a reset that waited. -/
def State.boundaryAt (s : State) (slot lost : Nat) : State :=
  ((s.swapAt slot).capSwap lost).post 0x0008 (((s.swapAt slot).capSwap lost).fget SCH_ACTIVE.GEN 0) slot (s.evictedAt slot).length

theorem State.boundaryAt_swapped (s : State) (hslot : slot < 2) (lost : Nat) : Swapped slot s (s.boundaryAt slot lost) :=
  (s.swapAt_swapped hslot).keepsSwap KeepsSwap.refl.capSwap.post

theorem execSwapBoundary_staged (harmed : s.armedSlot = some k) (hstaged : s.sch.staged = true) (lost : BitVec 16) : execSwapBoundary lost s =
    .next (if (s.boundaryAt k lost.toNat).sch.resetHeld then
      ((s.boundaryAt k lost.toNat).blockStop pgSCH).timerStart tmBlock pgSCH (s.boundaryAt k lost.toNat).us else s.boundaryAt k lost.toNat) := by
  unfold execSwapBoundary
  rw [harmed, hstaged]
  rfl

end Sys2Proof.Machine
end

section
/-!
Settles O12: the block reset that waited for a swap's boundary (R109), and from the rules above each command and step of a swap.
-/
namespace Sys2Proof.Machine

variable {s s0 t : State} {j k n r slot : Nat}

/-! The reset of the SCH block (R109, R479). -/

/-- A load of the other slot is dropped. -/
theorem ActiveIn.refuseSlot {code : Nat} (h : ActiveIn k s) (hk : k < 2) (hj : j < 2) (hne : k ≠ j) : ActiveIn k (s.refuseSlot j code) :=
  ((h.setSlot hk hj hne).fset (sparesSlots_result j)).pulse

theorem ActiveIn.swapEnds (h : ActiveIn k s) (hk : k < 2) (hj : j < 2) (hne : k ≠ j) : ActiveIn k (s.swapEnds j r) :=
  ((h.setSlot hk hj hne).fset.fset).pulse

/-- A slot in another state than ACTIVE is not the active one. -/
theorem ActiveIn.ne_of_state (h : ActiveIn k s) {st : Nat} (hj : s.slotState j = st) (hst : slotACTIVE ≠ st) : k ≠ j := by
  rintro rfl
  exact hst (h.state.symm.trans hj)

/-- Loads in progress end. -/
def State.dropLoad (s : State) (k : Nat) : State :=
  if s.slotState k = slotLOADING then ((s.setSlot k slotEMPTY).imgClear k).setLoader k none
  else if s.slotState k = slotVERIFYING then s.refuseSlot k 0x0F
  else s

/-- No load runs or waits. -/
def State.clearLoads (s : State) : State :=
  let s := { s with sch := { s.sch with filling := [], heldLoads := [], resetHeld := false } }
  s.stopTimers [tmLoad]

theorem State.schReset_eq (s : State) : s.schReset =
    match (([0, 1].foldl State.dropLoad s).clearLoads).armedSlot with
    | some k => (([0, 1].foldl State.dropLoad s).clearLoads).swapEnds k 6
    | none => ([0, 1].foldl State.dropLoad s).clearLoads := rfl

theorem ActiveIn.dropLoad (h : ActiveIn k s) (hk : k < 2) (hj : j < 2) : ActiveIn k (s.dropLoad j) := by
  unfold State.dropLoad
  split
  next hloading =>
    have hempty := h.setSlot (st := slotEMPTY) hk hj (h.ne_of_state hloading (by decide))
    exact ⟨hempty.active, hempty.state⟩
  split
  next hverifying => exact h.refuseSlot hk hj (h.ne_of_state hverifying (by decide))
  · exact h

theorem ActiveIn.schReset (h : ActiveIn k s) (hk : k < 2) : ActiveIn k s.schReset ∧ s.schReset.sch.resetHeld = false := by
  have hdropped : ActiveIn k ([0, 1].foldl State.dropLoad s) := (h.dropLoad hk (by decide)).dropLoad hk (by decide)
  have hcleared : ActiveIn k ([0, 1].foldl State.dropLoad s).clearLoads := ⟨hdropped.active, hdropped.state⟩
  have hheld : ([0, 1].foldl State.dropLoad s).clearLoads.sch.resetHeld = false := rfl
  rw [State.schReset_eq]
  generalize ([0, 1].foldl State.dropLoad s).clearLoads = u at hcleared hheld ⊢
  split
  next j harmed =>
    obtain ⟨hj, hstate⟩ := State.armedSlot_some harmed
    refine ⟨hcleared.swapEnds hk hj (hcleared.ne_of_state hstate (by decide)), ?_⟩
    rw [State.swapEnds, State.swapRefused, State.sch_pulse, State.sch_fset, State.sch_fset, State.setSlot, State.sch_fset, hheld]
  · exact ⟨hcleared, hheld⟩

/-! What a block reset of SCH keeps of the swap. -/

theorem Tbl.get_filterMap_kept {α : Type} {d : Nat → α} {f : Nat × α → Option (Nat × α)} {k : Nat} (hkey : ∀ e e', f e = some e' → e'.1 = e.1)
    (hkept : ∀ v, f (k, v) = some (k, v)) (l : List (Nat × α)) : Tbl.get d (l.filterMap f) k = Tbl.get d l k := by
  induction l with
  | nil => rfl
  | cons e l ih =>
    obtain ⟨a, v⟩ := e
    by_cases ha : a = k
    · rw [ha, List.filterMap_cons_some (hkept v), Tbl.get, Tbl.get, if_pos rfl, if_pos rfl]
    · rw [Tbl.get, if_neg ha]
      cases he : f (a, v) with
      | none => rwa [List.filterMap_cons_none he]
      | some e' => rwa [List.filterMap_cons_some he, Tbl.get, if_neg ((hkey _ _ he).symm ▸ ha)]

theorem clearedEntry_swap {a : Nat} (ha : swapAddr (a % Fld.unitStep) = true) (w : Word) : clearedEntry pgSCH (a, w) = some (a, w) := by
  have hwhole : keepsWhole pgSCH (a % Fld.unitStep % 0x1000) = true := by
    rw [keepsWhole, if_pos rfl]
    simp only [swapAddr, decide_eq_true_eq] at ha ⊢
    omega
  unfold clearedEntry
  exact if_pos (.inr hwhole)

theorem KeepsSwap.clearPage (h : KeepsSwap s0 s) : KeepsSwap s0 (s.clearPage pgSCH) where
  word a ha := (Tbl.get_filterMap_kept (fun _ _ => clearedEntry_key) (clearedEntry_swap ha) s.regs).trans (h.word a ha)
  sch := h.sch

theorem KeepsSwap.setCrcErr {b : Bool} (h : KeepsSwap s0 s) : KeepsSwap s0 (s.setCrcErr pgSCH b) :=
  have hcrc : KeepsSwap s0 (s.fsetB PAGE_STAT.CRC_ERR pgSCH b) := h.setWord (by decide)
  hcrc.fset.cond.drive

theorem KeepsSwap.holdWires {page : Nat} (h : KeepsSwap s0 t) : KeepsSwap s0 (t.holdWires s page) := by
  have hwords : KeepsSwap s0 (t.copyWords s ((List.range 5).map fun k => FLT_LEVEL.LEVEL.key k)) := h.foldlMem fun u a ha hu => by
    obtain ⟨n, hn, rfl⟩ := List.mem_map.mp ha
    have hlt := List.mem_range.mp hn
    refine hu.setWord (decide_eq_false fun hswap => ?_)
    simp only [Fld.key, FLT_LEVEL.LEVEL, Fld.unitStep] at hswap
    omega
  exact hwords.update

theorem State.blockClear_sch (s : State) : s.blockClear pgSCH = s.schReset := rfl

theorem State.blockCleared_sch (s : State) : s.blockCleared pgSCH = s := rfl

/-- The block is stopped, and its registers cleared, around `schReset`. -/
theorem State.blockStop_sch (s : State) : s.blockStop pgSCH =
    (((((s.release pgSCH false).fset PAGE_STAT.READY pgSCH 0).setCrcErr pgSCH false).schReset).clearPage pgSCH).holdWires s pgSCH := by
  rw [State.blockStop, State.blockClear_sch, State.blockCleared_sch]

/-- A reset of the block that holds the active image stops the block and keeps the image. -/
theorem State.blockStop_active (h : ActiveIn k s) (hk : k < 2) : ActiveIn k (s.blockStop pgSCH) ∧ (s.blockStop pgSCH).running pgSCH = false ∧
    (s.blockStop pgSCH).sch.resetHeld = false := by
  have hstopped : KeepsSwap s (((s.release pgSCH false).fset PAGE_STAT.READY pgSCH 0).setCrcErr pgSCH false) :=
    (KeepsSwap.setWord KeepsSwap.refl.update (by decide)).setCrcErr
  obtain ⟨hactive, hheld⟩ := (h.keepsSwap hstopped).schReset hk
  rw [State.blockStop_sch]
  generalize State.schReset _ = u at hactive hheld ⊢
  have hkeeps : KeepsSwap u ((u.clearPage pgSCH).holdWires s pgSCH) := KeepsSwap.refl.clearPage.holdWires
  exact ⟨hactive.keepsSwap hkeeps, (KeepsReady.refl.holdWires.ready pgSCH).trans (State.running_clearPage u (by decide)),
    (congrArg SchSt.resetHeld hkeeps.sch).trans hheld⟩

/-! The commands and steps of a swap. -/

theorem execSwapDisarm_eq (who : Init) (s : State) : execSwapDisarm who s = .next (s.access who pgSCH 0x090
    (putBits (s.word (SCH_SWAP_CTRL.MODE.key 0)) 31 30 2) (swapCtrlWrite (putBits (s.word (SCH_SWAP_CTRL.MODE.key 0)) 31 30 2))) := rfl

/-- A single error is counted. -/
theorem State.tableCorrected (s : State) (n : Nat) : ((s.fbump SCH_TABLE_ECC.CORR 0).pulse pgSCH n).fget SCH_TABLE_ECC.CORR 0 =
      min (s.fget SCH_TABLE_ECC.CORR 0 + 1) (fieldSize SCH_TABLE_ECC.CORR.hi SCH_TABLE_ECC.CORR.lo - 1) ∧
    ((s.fbump SCH_TABLE_ECC.CORR 0).pulse pgSCH n).sch = s.sch := by
  have hmax : min (s.fget SCH_TABLE_ECC.CORR 0 + 1) (fieldSize SCH_TABLE_ECC.CORR.hi SCH_TABLE_ECC.CORR.lo - 1) <
      fieldSize SCH_TABLE_ECC.CORR.hi SCH_TABLE_ECC.CORR.lo := (Nat.min_le_right ..).trans_lt (by decide)
  rw [State.fget_pulse rfl, State.sch_pulse, State.fbump, State.fget_fset_same rfl, Nat.mod_eq_of_lt hmax, State.sch_fset]
  exact ⟨rfl, rfl⟩

theorem execTableEccError_active (h : s.sch.active.isSome = true) (double : Bool) : execTableEccError double s =
    .next (if double then (State.pulse { s with sch := { s.sch with tableBad := true } } pgSCH 6).drive 96 true
      else (s.fbump SCH_TABLE_ECC.CORR 0).pulse pgSCH 5) := by
  obtain ⟨a, ha⟩ := Option.isSome_iff_exists.mp h
  exact congrArg _ (if_neg (by rw [ha]; exact Bool.false_ne_true))

theorem execTableScrub_bad {slot : Fin 2} (h : s.slotState slot.val = slotVERIFIED ∨ s.slotState slot.val = slotFORMER) :
    execTableScrub slot true s = .next (s.refuseSlot slot.val 0x0E) := congrArg _ (if_pos (decide_eq_true h))

theorem execTableScrub_passes {slot : Fin 2} {bad : Bool}
    (h : bad = false ∨ (s.slotState slot.val ≠ slotVERIFIED ∧ s.slotState slot.val ≠ slotFORMER)) : execTableScrub slot bad s = .next s := by
  refine congrArg _ (if_neg fun hbad => ?_)
  obtain ⟨hb, hstate⟩ := (Bool.and_eq_true _ _).mp hbad
  obtain hgood | ⟨hverified, hformer⟩ := h
  · exact absurd (hb.symm.trans hgood) (by decide)
  · exact (of_decide_eq_true hstate).elim hverified hformer

/-- Settles O12: each command and step from the rules above. -/
theorem swapsComplete : Obligations.SwapsComplete := by
  refine ⟨fun who drain fallback at_ group s hadm harmed hdrain href => State.next_access_ends (execSwapArm_eq who drain fallback at_ group s) hadm
      (fun _ _ _ _ h => h) fun timers expert =>
        swapCtrlWrite_arms (s := { s with timers := timers, expert := expert }) group.isLt harmed hdrain href,
    fun who s k hadm harmed hstaged hfrom => State.next_access_ends (execSwapDisarm_eq who s) hadm (fun _ _ _ _ h => h) fun timers expert =>
      swapCtrlWrite_disarms (s := { s with timers := timers, expert := expert }) (bitsOf_putBits_same (by decide) (by decide) _ 2) harmed hstaged hfrom,
    fun s hswap harmed hended => ⟨_, execSwapDrainsDone_ended hswap harmed hended, State.swapState_fset _ (by decide),
      congrArg SchSt.drainsDone (State.sch_fset ..)⟩,
    fun s f hswap harmed hstaged hframe => ⟨_, execSwapPointOfNoReturn_fixed hswap harmed hstaged hframe, rfl, rfl,
      fun hruns => State.le_dt_advanceTo hruns _⟩,
    fun lostCaps s k harmed hstaged hheld => ⟨_, execSwapBoundary_staged harmed hstaged lostCaps, ?boundary⟩,
    fun double s hactive => ⟨_, execTableEccError_active hactive double, ?double, ?single⟩,
    fun slot bad s hbad hstate => ⟨_, hbad ▸ execTableScrub_bad hstate, ?scrub⟩,
    fun who drain fallback at_ group s hadm harmed hdrain hstrict href => State.next_access_ends (execSwapArm_eq who drain fallback at_ group s) hadm
      (fun _ _ _ _ h => h) fun timers expert => hdrain ▸
        swapCtrlWrite_strict (s := { s with timers := timers, expert := expert }) group.isLt harmed hstrict href,
    fun who drain fallback at_ group s r hadm harmed href => State.next_access_ends (execSwapArm_eq who drain fallback at_ group s) hadm
      (fun _ _ _ _ h => h) fun timers expert => swapCtrlWrite_refused (s := { s with timers := timers, expert := expert }) group.isLt harmed href,
    fun lostCaps s k harmed hstaged hheld => ⟨_, execSwapBoundary_staged harmed hstaged lostCaps, ?reset⟩,
    fun double s hactive => ⟨s, congrArg _ (if_pos (by rw [hactive]; rfl)), rfl⟩,
    fun slot bad s h => ⟨s, execTableScrub_passes h, rfl⟩⟩
  case boundary =>
    have hswapped := s.boundaryAt_swapped (State.armedSlot_some harmed).1 lostCaps.toNat
    rw [if_neg (by rw [hswapped.resetHeld, hheld]; decide)]
    exact ⟨hswapped.active, hswapped.state, hswapped.swap, hswapped.staged, hswapped.shown⟩
  case double =>
    rintro rfl
    rw [if_pos rfl, State.driven_drive, State.sch_drive, State.sch_pulse]
    exact ⟨rfl, rfl⟩
  case single =>
    rintro rfl
    obtain ⟨hcount, hsch⟩ := s.tableCorrected 5
    rw [if_neg (by decide), hsch]
    exact ⟨hcount, rfl⟩
  case scrub =>
    obtain ⟨hrefused, hcode, -⟩ := s.refuseSlot_shows slot.val (code := 0x0E) (by decide)
    exact ⟨hrefused, hcode⟩
  case reset =>
    obtain ⟨hk, -⟩ := State.armedSlot_some harmed
    have hswapped := s.boundaryAt_swapped hk lostCaps.toNat
    obtain ⟨hactive, hrunning, hresetHeld⟩ := State.blockStop_active hswapped.toActiveIn hk
    rw [if_pos (hswapped.resetHeld.trans hheld), State.sch_timerStart, State.slotState_timerStart, State.running, State.fon_timerStart]
    exact ⟨hactive.active, hactive.state, hrunning, hresetHeld⟩

end Sys2Proof.Machine
end

section
/-!
O14 fails: a subband sample that updates its taps takes not only the values of its rounding. A tap that adapts to full scale saturates, SATURATION of page
CAN rises (R13, R122), and a trace ring that runs takes a word of it, under the next free value (R415).
-/
namespace Sys2Proof.Machine

/-- SYS runs with the trace ring enabled; canceller 0 updates in RUN, its one tap of subband 0 at full scale. -/
def tapAtFullScale : State :=
  { regs := [(CLK_DOMAIN_RUN0.RUN.key 0, 1), (DBG_STAT.LEVEL.key 0, 0x40000000), (PAGE_STAT.READY.key pgTRC, 1), (TRC_CTRL.EN.key 0, 0x80000008),
             (PAGE_STAT.READY.key pgCAN, 1), ((CAN_REF.EN 0).key 0, 0x80200000), (CAN_STAT.STATE.key 0, 0x10000000), (CAN_MU_M.M.key 0, 0x40000000),
             (CAN_MU_S.S.key 0, 30), (CAN_LEAK_M.M.key 0, 0), (CAN_MAP.EN.key 0, 0x80000001)]
    can := { taps := [(0, ⟨2 ^ 19 - 1, 0⟩)], gm := [(0, ⟨1024, 0⟩)], pu := [(0, 1024)] } }

theorem canSample_tapAtFullScale : tapAtFullScale.canSample 0 0 = true := by decide +kernel

theorem length_tapsOf_tapAtFullScale : (tapAtFullScale.tapsOf 0 0).length = 1 := by decide +kernel

/-- The one tap takes the eight values of its rounding, and the word of the trace ring the ninth. -/
theorem free_adapt_tapAtFullScale : ((tapAtFullScale.adapt 0 0 (45, 0) [⟨(32, 0), 0⟩]).mapParity false).free = 9 := by decide +kernel

/-- Refutes O14: a tap that saturates takes one free value more, for the trace word of SATURATION. -/
theorem not_cancellerTimersAndSamples : ¬ Obligations.CancellerTimersAndSamples := by
  rintro ⟨-, -, -, -, -, -, hsample, -⟩
  obtain ⟨t, hexec, hfree, -⟩ := hsample 0 0 (45, 0) [⟨(32, 0), 0⟩] false tapAtFullScale canSample_tapAtFullScale
  cases hexec
  have htaken := (congrArg State.free (if_pos canSample_tapAtFullScale)).symm.trans hfree
  rw [show (0 : Fin 32).val = 0 from rfl, show (0 : Fin 64).val = 0 from rfl, length_tapsOf_tapAtFullScale] at htaken
  exact absurd (free_adapt_tapAtFullScale.symm.trans htaken) (by decide)

end Sys2Proof.Machine
end

section
/-!
What the operations of the canceller leave alone. `Spares fs s0 t` says that a register apart from those of `fs` reads in `t` as in `s0`, if it shows no
report, and that the links are lost or up as in `s0`: a derivation of the map spares all but `mapFields`, a change of state all but `stateFields`.
-/
namespace Sys2Proof.Machine

-- One proof after the other: a default argument by a tactic waits until the kernel has checked all that stands before it.
set_option Elab.async false

variable {s0 s t : State} {fs : List Fld} {n : Nat}

structure Spares (fs : List Fld) (s0 t : State) : Prop where
  fget : ∀ f, f.apartAll fs = true → f.unreported = true → ∀ u, t.fget f u = s0.fget f u
  linkLost : t.can.linkLost = s0.can.linkLost

/-- The fields that a derivation of a map writes (R118, R121). -/
def mapFields : List Fld :=
  [CAN_MAP.EN, CAN_MAP.START, CAN_MAP.LEN, CAN_STAT.TAPS_PER_CLUSTER, CAN_STAT.ACTIVE_SB, CAN_MU_M.M, CAN_MU_S.S]

/-- The fields that a change of state writes (R123, R126). -/
def stateFields : List Fld := [CAN_STAT.STATE, CAN_STAT.ISO_BUSY]

theorem Spares.refl : Spares fs s s := ⟨fun _ _ _ _ => rfl, rfl⟩

theorem Spares.trans (h : Spares fs s0 s) (ht : Spares fs s t) : Spares fs s0 t :=
  ⟨fun f ha hu u => (ht.fget f ha hu u).trans (h.fget f ha hu u), ht.linkLost.trans h.linkLost⟩

theorem Spares.ite {c : Prop} [Decidable c] {a b : State} (ha : Spares fs s0 a) (hb : Spares fs s0 b) : Spares fs s0 (if c then a else b) := by
  split
  · exact ha
  · exact hb

theorem Spares.fset {g : Fld} {u v : Nat} (h : Spares fs s0 s) (hg : g ∈ fs := by decide) : Spares fs s0 (s.fset g u v) :=
  ⟨fun f ha hu k => (State.fget_fset_apart (List.all_eq_true.mp ha g hg) ..).trans (h.fget f ha hu k), h.linkLost⟩

/-- An update of the timers and of what the canceller holds beside its links. -/
theorem Spares.update {timers rt taps gm isoAcc raw} (h : Spares fs s0 s) :
    Spares fs s0 { s with timers := timers
                          can := { s.can with rt := rt, taps := taps, gm := gm, isoAcc := isoAcc, raw := raw } } := ⟨h.fget, h.linkLost⟩

theorem Hushed.can (h : Hushed s t) : t.can = s.can := by
  have heq := congrArg State.can h.hush
  exact heq

theorem Quiet.can (h : Quiet s t) : t.can = s.can := (Hushed.mk h.hush).can

theorem Spares.pulse {page k : Nat} (h : Spares fs s0 s) (hp : page < 64 := by decide) : Spares fs s0 (s.pulse page k) :=
  have hq : Quiet s (s.pulse page k) := Quiet.refl.pulse hp
  ⟨fun f ha hu u => (hq.fget hu u).trans (h.fget f ha hu u), hq.can ▸ h.linkLost⟩

theorem Spares.fon (h : Spares fs s t) {f : Fld} (ha : f.apartAll fs = true) (hu : f.unreported = true) (u : Nat) : t.fon f u = s.fon f u := by
  rw [State.fon, h.fget f ha hu, State.fon]

/-- Every link of a canceller is up as it was, where the references' registers are spared. -/
theorem Spares.canLinksUp (h : Spares fs s t) (hen : ∀ r : Fin 4, (CAN_REF.EN r).apartAll fs = true := by decide)
    (hstream : ∀ r : Fin 4, (CAN_REF.STREAM r).apartAll fs = true := by decide) (n : Nat) : t.canLinksUp n = s.canLinksUp n := by
  have hunreported : ∀ r : Fin 4, (CAN_REF.EN r).unreported = true ∧ (CAN_REF.STREAM r).unreported = true := by decide
  have hrefs : t.enabledRefs n = s.enabledRefs n := List.filter_congr fun r hr =>
    h.fon (hen ⟨r, List.mem_range.mp hr⟩) (hunreported ⟨r, List.mem_range.mp hr⟩).1 n
  have hall : ((s.enabledRefs n).all fun r => !t.isLinkLost (t.fget (CAN_REF.STREAM r) n)) =
      (s.enabledRefs n).all fun r => !s.isLinkLost (s.fget (CAN_REF.STREAM r) n) := by
    rw [Bool.eq_iff_iff, List.all_eq_true, List.all_eq_true]
    refine forall₂_congr fun r hr => ?_
    have hlt : r < 4 := List.mem_range.mp (List.mem_of_mem_filter hr)
    rw [h.fget _ (hstream ⟨r, hlt⟩) (hunreported ⟨r, hlt⟩).2, State.isLinkLost, h.linkLost, State.isLinkLost]
  rw [State.canLinksUp, hrefs, hall, State.isLinkLost, h.linkLost, ← State.isLinkLost, State.canLinksUp]

/-! Derivations (R118, R119, R121). -/

/-- A derivation places clusters one after the other, shows what it found and derives mu. -/
theorem State.deriveApply_places (s : State) (n : Nat) : ∃ t l act,
    (∀ P : State → Prop, P s → (∀ u k r c en start len, P u → P (u.placeCluster n k r c en start len)) → P t) ∧
    s.deriveApply n = ((((t.fset CAN_STAT.TAPS_PER_CLUSTER n l).fset CAN_STAT.ACTIVE_SB n act).deriveMu n l).setCanRt n
      { (((t.fset CAN_STAT.TAPS_PER_CLUSTER n l).fset CAN_STAT.ACTIVE_SB n act).deriveMu n l).canRt n with derived := true }).pulse pgCAN 5 := by
  refine ⟨_, _, _, fun P h hplace => ?_, rfl⟩
  refine List.foldlRecOn _ _ h fun t ht k _ => List.foldlRecOn _ _ ht fun t ht r _ => List.foldlRecOn _ _ ht fun t ht c _ => ?_
  split
  · split
    · exact hplace _ _ _ _ _ _ _ ht
    · exact hplace _ _ _ _ _ _ _ ht
  · exact hplace _ _ _ _ _ _ _ ht

theorem Spares.placeCluster {k r c : Nat} {en : Bool} {start len : Nat} (h : Spares mapFields s0 s) :
    Spares mapFields s0 (s.placeCluster n k r c en start len) :=
  have hzeroed {u keep} : Spares mapFields s0 (s.zeroTaps u keep) := h.update
  hzeroed.fset.fset.fset

theorem Spares.deriveApply (h : Spares mapFields s0 s) : Spares mapFields s0 (s.deriveApply n) := by
  obtain ⟨t, l, act, hplaced, heq⟩ := s.deriveApply_places n
  have hmap : Spares mapFields s0 t := hplaced _ h fun _ _ _ _ _ _ _ hu => hu.placeCluster
  have hmu : Spares mapFields s0 (((t.fset CAN_STAT.TAPS_PER_CLUSTER n l).fset CAN_STAT.ACTIVE_SB n act).deriveMu n l) := hmap.fset.fset.fset.fset
  rw [heq]
  exact Spares.pulse hmu.update

@[simp] theorem State.canRt_setCanRt (s : State) (n : Nat) (r : CanRt) : (s.setCanRt n r).canRt n = r := Tbl.get_set_same _ _ _ _

theorem State.canRt_of_can (h : t.can = s.can) (n : Nat) : t.canRt n = s.canRt n := by rw [State.canRt, h, State.canRt]

theorem State.can_fset (s : State) (f : Fld) (u v : Nat) : (s.fset f u v).can = s.can := rfl

theorem State.canRt_fset (s : State) (f : Fld) (u v n : Nat) : (s.fset f u v).canRt n = s.canRt n := State.canRt_of_can (State.can_fset ..) n

theorem State.can_deriveMu (s : State) (m l : Nat) : (s.deriveMu m l).can = s.can := by
  rw [State.deriveMu, State.can_fset, State.can_fset]

theorem State.canRt_placeCluster (s : State) (m k r c : Nat) (en : Bool) (start len n : Nat) :
    (s.placeCluster m k r c en start len).canRt n = s.canRt n := by
  unfold State.placeCluster State.fsetB
  simp only [State.canRt_fset]
  rfl

/-- Behind its registers a canceller remembers that its map is derived. -/
theorem State.canRt_deriveApply (s : State) (n : Nat) : (s.deriveApply n).canRt n = { s.canRt n with derived := true } := by
  obtain ⟨t, l, act, hplaced, heq⟩ := s.deriveApply_places n
  have hrt : t.canRt n = s.canRt n := hplaced (fun u => u.canRt n = s.canRt n) rfl fun _ _ _ _ _ _ _ hu => (State.canRt_placeCluster ..).trans hu
  rw [heq, State.canRt_of_can Hushed.refl.pulse.can, State.canRt_setCanRt, State.canRt_of_can (State.can_deriveMu ..), State.canRt_fset, State.canRt_fset, hrt]

/-! Changes of state (R123, R126, R127). -/

theorem Spares.setCanState {st : Nat} (h : Spares stateFields s0 s) : Spares stateFields s0 (s.setCanState n st) := h.fset

theorem Spares.setCanRt {r : CanRt} (h : Spares fs s0 s) : Spares fs s0 (s.setCanRt n r) := h.update

theorem Spares.timerStart {tm u count : Nat} (h : Spares fs s0 s) : Spares fs s0 (s.timerStart tm u count) := h.update

theorem Spares.timerStop {tm u : Nat} (h : Spares fs s0 s) : Spares fs s0 (s.timerStop tm u) := h.update

theorem Spares.enterCan {st : Nat} (h : Spares stateFields s0 s) : Spares stateFields s0 (s.enterCan n st) :=
  .ite h.setCanState.setCanRt.timerStart h.setCanState

theorem Spares.noteMode {old mode : Nat} (h : Spares fs s0 s) : Spares fs s0 (s.noteMode n old mode) := .ite h.timerStop.setCanRt h.timerStop

theorem Spares.modeChanged {mode : Nat} (h : Spares stateFields s0 s) : Spares stateFields s0 (s.modeChanged n mode) :=
  .ite h.setCanRt (.ite h.setCanRt h.enterCan)

theorem Spares.isoStop (h : Spares stateFields s0 s) : Spares stateFields s0 (s.isoStop n) := .ite h.fset.timerStop.enterCan h

theorem Spares.linkFreeze (h : Spares stateFields s0 s) : Spares stateFields s0 (s.linkFreeze n) :=
  .ite h.isoStop.setCanRt.setCanState.timerStop.pulse h.isoStop.timerStop

theorem Spares.linkCheck (h : Spares stateFields s0 s) : Spares stateFields s0 (s.linkCheck n) :=
  .ite (.ite h.timerStop h.linkFreeze) (.ite h.timerStart h)

end Sys2Proof.Machine
end

section
/-!
States of a canceller (R123, R126, R127): what each operation makes of them.
-/
namespace Sys2Proof.Machine

variable {s t : State} {n : Nat}

/-! Behind the registers. -/

theorem State.can_timerStart (s : State) (tm u count : Nat) : (s.timerStart tm u count).can = s.can := rfl

theorem State.can_timerStop (s : State) (tm u : Nat) : (s.timerStop tm u).can = s.can := rfl

theorem State.can_setCanState (s : State) (n st : Nat) : (s.setCanState n st).can = s.can := State.can_fset ..

theorem State.taps_setCanRt (s : State) (n : Nat) (r : CanRt) : (s.setCanRt n r).can.taps = s.can.taps := rfl

theorem State.can_beginPause_taps (s : State) (n : Nat) : (s.beginPause n).can.taps = s.can.taps := by
  rw [State.beginPause, State.can_timerStart, State.taps_setCanRt]

/-! Entering a state. -/

theorem State.fon_timerStop (s : State) (tm u : Nat) (f : Fld) (k : Nat) : (s.timerStop tm u).fon f k = s.fon f k := rfl

theorem State.canState_timerStop (s : State) (tm u m : Nat) : (s.timerStop tm u).canState m = s.canState m := rfl

theorem State.canState_setCanState (s : State) (n st : Nat) : (s.setCanState n st).canState n = st % 16 := State.fget_fset_same rfl ..

theorem State.fon_setCanState {f : Fld} (hf : f.apart CAN_STAT.STATE = true) (s : State) (n st u : Nat) : (s.setCanState n st).fon f u = s.fon f u :=
  State.fon_fset_apart hf ..

/-- A pause that begins writes no register. -/
theorem State.regs_beginPause (s : State) (n : Nat) : (s.beginPause n).regs = s.regs := rfl

theorem State.regs_enterCan (s : State) (n st : Nat) : (s.enterCan n st).regs = (s.setCanState n st).regs := by
  unfold State.enterCan
  dsimp only
  split
  · exact State.regs_beginPause ..
  · rfl

theorem State.canState_enterCan (s : State) (n st : Nat) : (s.enterCan n st).canState n = st % 16 := by
  rw [State.canState, State.fget_of_regs (State.regs_enterCan s n st)]
  exact State.canState_setCanState ..

theorem State.fon_enterCan {f : Fld} (hf : f.apart CAN_STAT.STATE = true) (s : State) (n st u : Nat) : (s.enterCan n st).fon f u = s.fon f u :=
  (State.fon_of_regs (State.regs_enterCan s n st) f u).trans (State.fon_setCanState hf ..)

/-- The state of a MODE is one of RUN, PROBE, PAUSED and FROZEN. -/
theorem modeState_range {mode : Nat} (h : mode < 4) : canOFF < modeState mode ∧ modeState mode < canLINKFROZEN ∧ modeState mode % 16 = modeState mode := by
  unfold modeState canOFF canLINKFROZEN
  omega

/-! Isolation windows (R126, R127). -/

theorem State.isoStop_idle (h : s.fon CAN_STAT.ISO_BUSY n = false) : s.isoStop n = s := if_neg (ne_true_of_eq_false h)

theorem State.fon_busy_isoStop (s : State) (n : Nat) : (s.isoStop n).fon CAN_STAT.ISO_BUSY n = false := by
  cases hbusy : s.fon CAN_STAT.ISO_BUSY n with
  | false => rwa [State.isoStop_idle hbusy]
  | true =>
    rw [State.isoStop, if_pos hbusy, State.fon_enterCan rfl, State.fon_timerStop, State.fon_fset_zero rfl]

/-- The end of a window gives back the state before it. -/
theorem State.canState_isoStop (h : s.fon CAN_STAT.ISO_BUSY n = true) : (s.isoStop n).canState n = (s.canRt n).preIso % 16 := by
  rw [State.isoStop, if_pos h, State.canState_enterCan]

/-- A window that starts shows itself in PROBE, and remembers the state before it. -/
theorem State.isoStart_shows (s : State) (n : Nat) : (s.isoStart n).fon CAN_STAT.ISO_BUSY n = true ∧ (s.isoStart n).canState n = canPROBE ∧
    ((s.isoStart n).canRt n).preIso = s.canState n ∧ ((s.isoStart n).canRt n).isoHeld = false := by
  have hrt : (s.isoStart n).canRt n = { (s.isoFresh n).canRt n with preIso := s.canState n, isoModeWritten := false, isoHeld := false } := by
    unfold State.isoStart
    rw [State.canRt_of_can (State.can_timerStart ..), State.canRt_of_can (State.can_timerStart ..), State.canRt_of_can (State.can_setCanState ..),
      State.canRt_fset, State.canRt_setCanRt]
    rfl
  refine ⟨?_, ?_, by rw [hrt], by rw [hrt]⟩
  · rw [State.isoStart, State.fon_timerStart, State.fon_timerStart, State.fon_setCanState rfl, State.fon_fset_one rfl rfl]
  · rw [State.isoStart, State.canState_timerStart, State.canState_timerStart, State.canState_setCanState]
    rfl

theorem State.isoReady_iff : s.isoReady n = true ↔ s.fon CAN_STAT.ISO_BUSY n = false ∧ s.canState n ≠ canOFF ∧ s.canState n ≠ canSELFTEST := by
  rw [State.isoReady, Bool.and_eq_true, Bool.not_eq_true', decide_eq_true_eq]

/-- A request starts its window at once where one may begin. -/
theorem State.isoRequest_starts (h : s.isoReady n = true) : s.isoRequest n = s.isoStart n := by
  rw [State.isoRequest, if_neg (State.isoReady_iff.mp h).2.1, if_pos h]

/-- It is held where none may. -/
theorem State.isoRequest_held (hoff : s.canState n ≠ canOFF) (h : s.isoReady n = false) :
    s.isoRequest n = s.setCanRt n { s.canRt n with isoHeld := true } := by
  rw [State.isoRequest, if_neg hoff, if_neg (ne_true_of_eq_false h)]

/-- A request either starts a window or leaves the registers. -/
theorem State.isoRequest_cases (s : State) (n : Nat) : (s.isoRequest n).fon CAN_STAT.ISO_BUSY n = true ∨ (s.isoRequest n).regs = s.regs := by
  by_cases hoff : s.canState n = canOFF
  · rw [State.isoRequest, if_pos hoff]
    exact .inr rfl
  · cases hready : s.isoReady n with
    | true => exact .inl (State.isoRequest_starts hready ▸ (s.isoStart_shows n).1)
    | false => exact .inr (State.isoRequest_held hoff hready ▸ rfl)

/-! Links (R123). -/

theorem State.linkFrozen_iff : s.linkFrozen n = true ↔
    s.canState n = canLINKFROZEN ∨ (s.fon CAN_STAT.ISO_BUSY n = true ∧ (s.canRt n).preIso = canLINKFROZEN) := by
  rw [State.linkFrozen, Bool.or_eq_true, Bool.and_eq_true, decide_eq_true_eq, decide_eq_true_eq]

/-- Links that are all up, or a canceller that is frozen already: a look at the links changes timers alone. -/
theorem State.linkCheck_timers (h : s.canLinksUp n = true ∨ s.linkFrozen n = true) : ∃ timers, s.linkCheck n = { s with timers := timers } := by
  unfold State.linkCheck
  split
  next hdown => exact ⟨_, if_pos (h.resolve_left fun hup => by simp [hup] at hdown)⟩
  next =>
    split
    · exact ⟨_, rfl⟩
    · exact ⟨s.timers, rfl⟩

theorem State.canState_linkCheck (h : s.canLinksUp n = true ∨ s.linkFrozen n = true) : (s.linkCheck n).canState n = s.canState n := by
  obtain ⟨timers, htimers⟩ := State.linkCheck_timers h
  exact htimers ▸ rfl

theorem State.canRt_linkCheck (h : s.canLinksUp n = true ∨ s.linkFrozen n = true) : (s.linkCheck n).canRt n = s.canRt n := by
  obtain ⟨timers, htimers⟩ := State.linkCheck_timers h
  exact State.canRt_of_can (congrArg State.can htimers) n

/-- A lost link freezes a canceller in one of the states of a MODE. -/
theorem State.linkCheck_freezes (hdown : s.canLinksUp n = false) (hidle : s.fon CAN_STAT.ISO_BUSY n = false)
    (hstate : canOFF < s.canState n ∧ s.canState n < canLINKFROZEN) : s.linkCheck n =
      (((s.setCanRt n { s.canRt n with preLink := s.canState n }).setCanState n canLINKFROZEN).timerStop tmLinkUp n).pulse pgCAN 4 := by
  have hfree : ¬s.linkFrozen n = true := by
    rw [State.linkFrozen_iff, hidle]
    rintro (h | ⟨h, -⟩)
    · omega
    · cases h
  rw [State.linkCheck, if_pos (by simp [hdown]), if_neg hfree, State.linkFreeze, State.isoStop_idle hidle]
  exact if_pos hstate

/-- A canceller that is OFF changes nothing but the timer of its links. -/
theorem State.linkCheck_off (hoff : s.canState n = canOFF) (hidle : s.fon CAN_STAT.ISO_BUSY n = false) :
    s.linkCheck n = s ∨ s.linkCheck n = s.timerStop tmLinkUp n := by
  have hfree : s.linkFrozen n = false := by
    rw [State.linkFrozen, hoff, hidle]
    rfl
  rw [State.linkCheck, hfree, State.linkFreeze, State.isoStop_idle hidle]
  split
  · rw [if_neg (by decide)]
    exact .inr (if_neg fun h => by simp [hoff] at h)
  · exact .inl (if_neg (by simp))

theorem State.taps_enterCan (s : State) (n st : Nat) : (s.enterCan n st).can.taps = s.can.taps := by
  unfold State.enterCan
  dsimp only
  split
  · rw [State.can_beginPause_taps, State.can_setCanState]
  · rw [State.can_setCanState]

theorem State.taps_isoStop (s : State) (n : Nat) : (s.isoStop n).can.taps = s.can.taps := by
  unfold State.isoStop
  split
  · rw [State.taps_enterCan, State.can_timerStop, State.can_fset]
  · rfl

theorem State.taps_linkFreeze (s : State) (n : Nat) : (s.linkFreeze n).can.taps = s.can.taps := by
  unfold State.linkFreeze
  dsimp only
  split
  · rw [Hushed.refl.pulse.can, State.can_timerStop, State.can_setCanState, State.taps_setCanRt, State.taps_isoStop]
  · rw [State.can_timerStop, State.taps_isoStop]

/-- A look at the links leaves the taps. -/
theorem State.taps_linkCheck (s : State) (n : Nat) : (s.linkCheck n).can.taps = s.can.taps := by
  unfold State.linkCheck
  repeat' split
  · rw [State.can_timerStop]
  · exact State.taps_linkFreeze ..
  · rw [State.can_timerStart]
  · rfl

/-! EN and MODE (R123). -/

/-- A change of MODE takes the canceller to the mode's state, where it is neither frozen nor in a window. -/
theorem State.modeChanged_enters {mode : Nat} (hfree : s.linkFrozen n = false) (hidle : s.fon CAN_STAT.ISO_BUSY n = false) :
    s.modeChanged n mode = s.enterCan n (modeState mode) := by
  rw [State.modeChanged, if_neg (ne_true_of_eq_false hfree), if_neg (ne_true_of_eq_false hidle)]

theorem State.modeChanged_frozen {mode : Nat} (h : s.linkFrozen n = true) :
    s.modeChanged n mode = s.setCanRt n { s.canRt n with preLink := modeState mode } := if_pos h

theorem State.modeChanged_window {mode : Nat} (hfree : s.linkFrozen n = false) (hbusy : s.fon CAN_STAT.ISO_BUSY n = true) :
    s.modeChanged n mode = s.setCanRt n { s.canRt n with preIso := modeState mode, isoModeWritten := true } := by
  rw [State.modeChanged, if_neg (ne_true_of_eq_false hfree), if_pos hbusy]

/-- The timer of another number runs on. -/
theorem State.timerOn_timerStop_ne {tm tm' : Nat} (h : tm' ≠ tm) (s : State) (u : Nat) : (s.timerStop tm u).timerOn tm' u = s.timerOn tm' u := by
  have hne : timerKey tm' u ≠ timerKey tm u := by
    unfold timerKey
    omega
  rw [State.timerOn, State.timerStop, Tbl.get_set_ne _ _ _ hne, State.timerOn]

theorem State.timerOn_of_timers (h : t.timers = s.timers) (tm u : Nat) : t.timerOn tm u = s.timerOn tm u := by
  rw [State.timerOn, h, State.timerOn]

theorem State.timers_fset (s : State) (f : Fld) (u v : Nat) : (s.fset f u v).timers = s.timers := rfl

theorem State.timerOn_setCanState (s : State) (m st tm u : Nat) : (s.setCanState m st).timerOn tm u = s.timerOn tm u :=
  State.timerOn_of_timers (State.timers_fset ..) tm u

theorem State.timerOn_setCanRt (s : State) (m : Nat) (r : CanRt) (tm u : Nat) : (s.setCanRt m r).timerOn tm u = s.timerOn tm u :=
  State.timerOn_of_timers rfl tm u

theorem State.fon_setCanRt (s : State) (m : Nat) (r : CanRt) (f : Fld) (u : Nat) : (s.setCanRt m r).fon f u = s.fon f u := rfl

/-- A disabled canceller is OFF, without a window or a pause. -/
theorem State.enChanged_off (s : State) (n : Nat) : (s.enChanged n false).canState n = canOFF ∧
    (s.enChanged n false).fon CAN_STAT.ISO_BUSY n = false ∧ (s.enChanged n false).timerOn tmPause n = false ∧
    Spares stateFields s (s.enChanged n false) := by
  rw [State.enChanged, if_neg Bool.false_ne_true]
  dsimp only
  refine ⟨State.canState_setCanState .., ?_, ?_, Spares.refl.isoStop.timerStop.timerStop.setCanRt.setCanState⟩
  · rw [State.fon_setCanState rfl, State.fon_setCanRt, State.fon_timerStop, State.fon_timerStop, State.fon_busy_isoStop]
  · rw [State.timerOn_setCanState, State.timerOn_setCanRt, State.timerOn_timerStop_ne (by decide), State.timerOn_timerStop]

/-- A note of the mode leaves registers, and of what stands behind the canceller all but the mode before a pause. -/
theorem State.noteMode_eq (s : State) (n old mode : Nat) : (s.noteMode n old mode).regs = s.regs ∧
    ((s.noteMode n old mode).canRt n).preIso = (s.canRt n).preIso := by
  unfold State.noteMode
  dsimp only
  split
  · exact ⟨rfl, by rw [State.canRt_setCanRt, State.canRt_of_can (State.can_timerStop ..)]⟩
  · exact ⟨rfl, by rw [State.canRt_of_can (State.can_timerStop ..)]⟩

theorem State.linkFrozen_congr (hregs : t.regs = s.regs) (hrt : (t.canRt n).preIso = (s.canRt n).preIso) : t.linkFrozen n = s.linkFrozen n := by
  rw [State.linkFrozen, State.canState, State.fget_of_regs hregs, State.fon_of_regs hregs, hrt, ← State.canState, State.linkFrozen]

theorem State.linkFrozen_setCanRt {r : CanRt} (h : r.preIso = (s.canRt n).preIso) : (s.setCanRt n r).linkFrozen n = s.linkFrozen n :=
  State.linkFrozen_congr rfl (by rw [State.canRt_setCanRt, h])

end Sys2Proof.Machine
end

section
/-!
What a derivation of a map reads (R118): band windows, streams, paths, references and cluster delays, the member and the image.
-/
namespace Sys2Proof.Machine

variable {s t u : State} {n : Nat}

/-- `t` has what a derivation reads of `s`: the registers of page CHN from the band windows on, those of page CAN up to the cluster delays, the member
and the image slots. -/
structure MapBasis (s t : State) : Prop where
  word : ∀ k, 0x13044 ≤ k % Fld.unitStep → k % Fld.unitStep < 0x14068 → t.word k = s.word k
  member : t.member = s.member
  sch : t.sch = s.sch

theorem MapBasis.fget (h : MapBasis s t) {f : Fld} {u : Nat} (hlo : 0x13044 ≤ f.key u % Fld.unitStep) (hhi : f.key u % Fld.unitStep < 0x14068) :
    t.fget f u = s.fget f u := State.fget_congr (h.word _ hlo hhi)

/-- A field of one of a canceller's references, or of the delays of its clusters. -/
theorem MapBasis.fget_ref (h : MapBasis s t) {f : Fld} (hstride : f.stride = Fld.unitStep) (hlo : 0x14048 ≤ f.base) (hhi : f.base < 0x14068) :
    t.fget f n = s.fget f n := by
  have hkey : f.key n % Fld.unitStep = f.base := by
    rw [Fld.key, hstride, Nat.add_mul_mod_self_left]
    exact Nat.mod_eq_of_lt (by unfold Fld.unitStep; omega)
  exact h.fget (by omega) (by omega)

theorem MapBasis.canReduced (h : MapBasis s t) (n : Nat) : t.canReduced n = s.canReduced n := by
  have himage (u : State) : u.canReduced n = State.canReduced { member := u.member, sch := u.sch } n := rfl
  rw [himage, h.member, h.sch, ← himage]

theorem MapBasis.canTaps (h : MapBasis s t) (n : Nat) : t.canTaps n = s.canTaps n := by
  have himage (u : State) : u.canTaps n = State.canTaps { member := u.member, sch := u.sch } n := rfl
  rw [himage, h.member, h.sch, ← himage]

theorem MapBasis.subbands (h : MapBasis s t) (n : Nat) : t.subbands n = s.subbands n := by
  rw [State.subbands, h.canReduced, State.subbands]

theorem MapBasis.stream (h : MapBasis s t) (hn : n < 32) {f : Fld} (hbase : f.base = 0x13100) (hstride : f.stride = 4) : t.fget f n = s.fget f n :=
  h.fget (by rw [Fld.key, hbase, hstride]; unfold Fld.unitStep; omega) (by rw [Fld.key, hbase, hstride]; unfold Fld.unitStep; omega)

theorem MapBasis.canRate (h : MapBasis s t) (hn : n < 32) : t.canRate n = s.canRate n := by
  rw [State.canRate, h.stream hn rfl rfl, State.canRate]

theorem MapBasis.sbOverlaps (h : MapBasis s t) (hn : n < 32) (k low high : Nat) : t.sbOverlaps n k low high = s.sbOverlaps n k low high := by
  have hedges : t.sbEdges n k = s.sbEdges n k := by
    rw [State.sbEdges, h.subbands, h.canRate hn, h.stream hn (f := CHN_STREAM.FC_KHZ) rfl rfl, State.sbEdges]
  rw [State.sbOverlaps, hedges, State.sbOverlaps]

theorem MapBasis.path (h : MapBasis s t) {p : Nat} (hp : p < 32) {f : Fld} (hbase : f.base = 0x13200) (hstride : f.stride = 16) :
    t.fget f p = s.fget f p :=
  h.fget (by rw [Fld.key, hbase, hstride]; unfold Fld.unitStep; omega) (by rw [Fld.key, hbase, hstride]; unfold Fld.unitStep; omega)

theorem MapBasis.readsOf (h : MapBasis s t) {p : Nat} (hp : p < 32) : t.readsOf p = s.readsOf p := by
  simp only [State.readsOf, State.fbit, h.path hp (f := CHN_PATH_CFG.SVC_MASK) rfl rfl, h.path hp (f := CHN_PATH_CFG.DONOR) rfl rfl]

theorem MapBasis.pathsReading (h : MapBasis s t) (n : Nat) : t.pathsReading n = s.pathsReading n := by
  have hpaths : t.paths = s.paths := by rw [State.paths, h.member, State.paths]
  rw [State.pathsReading, hpaths, State.pathsReading]
  exact List.filter_congr fun p hp => by rw [h.readsOf (State.mem_paths hp)]

theorem MapBasis.winsOf (h : MapBasis s t) (p : Nat) : t.winsOf p = s.winsOf p := by
  have hwin (w : Nat) : t.winOf p w = s.winOf p w := by
    have hlo : t.word (CHN_WIN_LO.EN.key (winUnit p w)) = s.word _ :=
      h.word _ (by rw [Fld.key_mod (f := CHN_WIN_LO.EN) rfl]; decide) (by rw [Fld.key_mod (f := CHN_WIN_LO.EN) rfl]; decide)
    have hhi : t.word (CHN_WIN_HI.F_HIGH_KHZ.key (winUnit p w)) = s.word _ :=
      h.word _ (by rw [Fld.key_mod (f := CHN_WIN_HI.F_HIGH_KHZ) rfl]; decide) (by rw [Fld.key_mod (f := CHN_WIN_HI.F_HIGH_KHZ) rfl]; decide)
    rw [State.winOf, hlo, hhi, State.winOf]
  rw [State.winsOf, State.winsOf, funext hwin]

theorem MapBasis.activeSbs (h : MapBasis s t) (hn : n < 32) : t.activeSbs n = s.activeSbs n := by
  have hactive (k : Nat) : t.sbActive n k = s.sbActive n k := by
    simp only [State.sbActive, h.subbands, h.pathsReading, h.winsOf, h.sbOverlaps hn]
  rw [State.activeSbs, h.subbands, funext hactive, State.activeSbs]

theorem MapBasis.enabledRefs (h : MapBasis s t) (n : Nat) : t.enabledRefs n = s.enabledRefs n := List.filter_congr fun r hr => by
  have hlt : r < 4 := List.mem_range.mp hr
  rw [State.fon, h.fget_ref rfl (by simp [CAN_REF.EN]) (by simp [CAN_REF.EN]; omega), State.fon]

theorem MapBasis.clustersOf (h : MapBasis s t) (hn : n < 32) {r : Nat} (hr : r < 4) : t.clustersOf n r = s.clustersOf n r := by
  have h1 : t.fget (CAN_CLU.CL1_DELAY_NS r) n = s.fget (CAN_CLU.CL1_DELAY_NS r) n :=
    h.fget_ref rfl (by simp [CAN_CLU.CL1_DELAY_NS]; omega) (by simp [CAN_CLU.CL1_DELAY_NS]; omega)
  have h2 : t.fget (CAN_CLU.CL2_DELAY_NS r) n = s.fget (CAN_CLU.CL2_DELAY_NS r) n :=
    h.fget_ref rfl (by simp [CAN_CLU.CL2_DELAY_NS]; omega) (by simp [CAN_CLU.CL2_DELAY_NS]; omega)
  simp only [State.clustersOf, State.clusterStart, State.sbDecim, h.canReduced, h.canRate hn, h1, h2]

theorem MapBasis.map_refs {α : Type} (h : MapBasis s t) (hn : n < 32) (g : List (Nat × Nat) → α) :
    (t.enabledRefs n).map (fun r => g (t.clustersOf n r)) = (s.enabledRefs n).map fun r => g (s.clustersOf n r) := by
  rw [h.enabledRefs]
  exact List.map_congr_left fun r hr => by rw [h.clustersOf hn (List.mem_range.mp (List.mem_of_mem_filter hr))]

theorem MapBasis.fitLen (h : MapBasis s t) (hn : n < 32) (l : Nat) : t.fitLen n l = s.fitLen n l := by
  have hfits (l : Nat) : t.histFits n l = s.histFits n l := by
    rw [State.histFits, State.histFits, h.map_refs hn fun cs => (cs.map fun c => c.2 + l).foldl max 0, State.histDepth, State.histDepth, h.canReduced]
  induction l with
  | zero => rfl
  | succ l ih => rw [State.fitLen, hfits, ih, State.fitLen]

/-- Whether a derivation fails is read from its basis. -/
theorem MapBasis.deriveFails (h : MapBasis s t) (hn : n < 32) : t.deriveFails n = s.deriveFails n := by
  have hpairs : t.pairCount n = s.pairCount n := congrArg List.sum (h.map_refs hn List.length)
  have hlen : t.deriveLen n = s.deriveLen n := by
    rw [State.deriveLen, hpairs, h.activeSbs hn, h.canTaps, State.deriveLen]
    simp only [h.fitLen hn]
  rw [State.deriveFails, hlen, hpairs, State.deriveFails]

/-- The canceller's state behind its registers is no part of it, and neither are timers and expert locks. -/
theorem MapBasis.update {can timers expert} : MapBasis s { s with can := can, timers := timers, expert := expert } := ⟨fun _ _ _ => rfl, rfl, rfl⟩

/-- A register of the expert part of page CAN is no part of it. -/
theorem MapBasis.fset {f : Fld} {k v : Nat} (h : MapBasis s t) (hf : 0x14068 ≤ f.key k % Fld.unitStep) : MapBasis s (t.fset f k v) :=
  ⟨fun j hlo hhi => (State.word_fset_ne (fun heq => by rw [heq] at hhi; omega) t v).trans (h.word j hlo hhi), h.member, h.sch⟩

theorem MapBasis.deriveLeak (n : Nat) : MapBasis s (s.deriveLeak n) :=
  have hself : MapBasis s s := MapBasis.update
  (hself.fset (by rw [Fld.key_mod (f := CAN_LEAK_M.M) rfl]; decide)).fset (by rw [Fld.key_mod (f := CAN_LEAK_S.S) rfl]; decide)

end Sys2Proof.Machine
end

section
/-!
What a write of CAN_CTRL makes of its canceller (R123, R127, R137): the map is derived, the fields are stored, then the canceller moves to its state, the
links are looked at, and a request is served.
-/
namespace Sys2Proof.Machine

variable {s t : State} {n : Nat} {who : Init} {v w : Word}

/-! The stages of the write. -/

/-- The map derived, EN, MODE and PAUSE_MS stored, the taps zeroed where the word asks for it. -/
def State.ctrlStored (s : State) (n : Nat) (v : Word) : State :=
  let t := (((s.deriveApply n).fsetB CAN_CTRL.EN n (decide (bitsOf v 31 31 = 1))).fset CAN_CTRL.MODE n (bitsOf v 30 29)).fset
    CAN_CTRL.PAUSE_MS n (bitsOf v 15 0)
  if bitsOf v 26 26 = 1 then t.clearTaps n else t

/-- Then the canceller follows EN and MODE. -/
def State.ctrlMoved (s : State) (n : Nat) (v : Word) : State :=
  let old := s.fget CAN_CTRL.MODE n
  let en := decide (bitsOf v 31 31 = 1)
  let mode := bitsOf v 30 29
  let t := if mode = old then s.ctrlStored n v else (s.ctrlStored n v).noteMode n old mode
  if en ≠ s.fon CAN_CTRL.EN n then t.enChanged n en else if en && decide (mode ≠ old) then t.modeChanged n mode else t

/-- Then its links are looked at, and a window is asked for where the word does. -/
def State.ctrlEnd (s : State) (n : Nat) (v : Word) : State :=
  let t := (s.ctrlMoved n v).linkCheck n
  if bitsOf v 27 27 = 1 then t.isoRequest n else t

theorem canCtrlWrite_ok (hpresent : s.member.present (s.canSel who) = true) (hpause : bitsOf v 15 0 ≠ 0)
    (hclear : bitsOf v 26 26 = 1 → s.canState (s.canSel who) = canFROZEN) (hfits : s.deriveFails (s.canSel who) = false) :
    canCtrlWrite who v s = .ok (s.ctrlEnd (s.canSel who) v) := by
  unfold canCtrlWrite
  dsimp only
  rw [if_neg (by simp [hpresent]), if_neg hpause, if_neg fun h => h.2 (hclear h.1), if_neg (ne_true_of_eq_false hfits)]
  rfl

/-- CLEAR_TAPS is refused outside FROZEN. -/
theorem canCtrlWrite_locked (hpresent : s.member.present (s.canSel who) = true) (hpause : bitsOf v 15 0 ≠ 0) (hclear : bitsOf v 26 26 = 1)
    (hstate : s.canState (s.canSel who) ≠ canFROZEN) : canCtrlWrite who v s = .error .configLocked := by
  unfold canCtrlWrite
  dsimp only
  rw [if_neg (by simp [hpresent]), if_neg hpause, if_pos ⟨hclear, hstate⟩]

/-! The fields that a word asks for. -/

/-- The fields of the word `v`, PAUSE_MS as in `w`. -/
structure Asks (w v : Word) (en : Bool) (mode : Nat) (clear request : Bool) : Prop where
  en : decide (bitsOf v 31 31 = 1) = en
  mode : bitsOf v 30 29 = mode
  clear : decide (bitsOf v 26 26 = 1) = clear
  request : decide (bitsOf v 27 27 = 1) = request
  pause : bitsOf v 15 0 = bitsOf w 15 0

/-- No command stands in a word whose bits 27 and 26 are 0. -/
theorem bitsOf_commands (h : bitsOf w 27 26 = 0) : bitsOf w 27 27 = 0 ∧ bitsOf w 26 26 = 0 := by
  simp only [bitsOf, fieldSize] at h ⊢
  omega

theorem asks_en (h : bitsOf w 27 26 = 0) (b : Bool) :
    Asks w (putBits w 31 31 (if b then 1 else 0)) b (bitsOf w 30 29) false false := by
  obtain ⟨hrequest, hclear⟩ := bitsOf_commands h
  constructor
  · rw [bitsOf_putBits_same (by decide) (by decide)]
    cases b <;> rfl
  · rw [bitsOf_putBits_disjoint (by decide) (by decide) (by decide)]
  · rw [bitsOf_putBits_disjoint (by decide) (by decide) (by decide), hclear]
    rfl
  · rw [bitsOf_putBits_disjoint (by decide) (by decide) (by decide), hrequest]
    rfl
  · rw [bitsOf_putBits_disjoint (by decide) (by decide) (by decide)]

theorem asks_mode (h : bitsOf w 27 26 = 0) (mode : Fin 4) :
    Asks w (putBits w 30 29 mode.val) (decide (bitsOf w 31 31 = 1)) mode.val false false := by
  obtain ⟨hrequest, hclear⟩ := bitsOf_commands h
  constructor
  · rw [bitsOf_putBits_disjoint (by decide) (by decide) (by decide)]
  · rw [bitsOf_putBits_same (by decide) (by decide)]
    exact Nat.mod_eq_of_lt mode.isLt
  · rw [bitsOf_putBits_disjoint (by decide) (by decide) (by decide), hclear]
    rfl
  · rw [bitsOf_putBits_disjoint (by decide) (by decide) (by decide), hrequest]
    rfl
  · rw [bitsOf_putBits_disjoint (by decide) (by decide) (by decide)]

theorem asks_clear {b : Bool} (h : decide (bitsOf w 27 27 = 1) = b) :
    Asks w (putBits w 26 26 1) (decide (bitsOf w 31 31 = 1)) (bitsOf w 30 29) true b := by
  constructor
  · rw [bitsOf_putBits_disjoint (by decide) (by decide) (by decide)]
  · rw [bitsOf_putBits_disjoint (by decide) (by decide) (by decide)]
  · rw [bitsOf_putBits_same (by decide) (by decide)]
    rfl
  · rw [bitsOf_putBits_disjoint (by decide) (by decide) (by decide), h]
  · rw [bitsOf_putBits_disjoint (by decide) (by decide) (by decide)]

theorem asks_request (h : bitsOf w 26 26 = 0) : Asks w (putBits w 27 27 1) (decide (bitsOf w 31 31 = 1)) (bitsOf w 30 29) false true := by
  constructor
  · rw [bitsOf_putBits_disjoint (by decide) (by decide) (by decide)]
  · rw [bitsOf_putBits_disjoint (by decide) (by decide) (by decide)]
  · rw [bitsOf_putBits_disjoint (by decide) (by decide) (by decide), h]
    rfl
  · rw [bitsOf_putBits_same (by decide) (by decide)]
    rfl
  · rw [bitsOf_putBits_disjoint (by decide) (by decide) (by decide)]

/-! What is stored. -/

/-- `t` holds EN and MODE of the word `v`, and the canceller is as in `s`, its map derived. -/
structure CtrlStored (s : State) (n : Nat) (v : Word) (t : State) : Prop where
  en : t.fon CAN_CTRL.EN n = decide (bitsOf v 31 31 = 1)
  mode : t.fget CAN_CTRL.MODE n = bitsOf v 30 29
  state : t.canState n = s.canState n
  busy : t.fon CAN_STAT.ISO_BUSY n = s.fon CAN_STAT.ISO_BUSY n
  rt : t.canRt n = { s.canRt n with derived := true }
  links : t.canLinksUp n = s.canLinksUp n

/-- Zeroing taps writes no register and leaves the canceller. -/
theorem CtrlStored.clearTaps (h : CtrlStored s n v t) : CtrlStored s n v (t.clearTaps n) := ⟨h.en, h.mode, h.state, h.busy, h.rt, h.links⟩

theorem State.ctrlStored_holds (s : State) (n : Nat) (v : Word) : CtrlStored s n v (s.ctrlStored n v) := by
  have hmap : Spares mapFields s (s.deriveApply n) := Spares.refl.deriveApply
  have hstored (b : Bool) (m p : Nat) : Spares [CAN_CTRL.EN, CAN_CTRL.MODE, CAN_CTRL.PAUSE_MS] (s.deriveApply n)
      ((((s.deriveApply n).fsetB CAN_CTRL.EN n b).fset CAN_CTRL.MODE n m).fset CAN_CTRL.PAUSE_MS n p) := Spares.refl.fset.fset.fset
  have hfields : CtrlStored s n v ((((s.deriveApply n).fsetB CAN_CTRL.EN n (decide (bitsOf v 31 31 = 1))).fset CAN_CTRL.MODE n (bitsOf v 30 29)).fset
      CAN_CTRL.PAUSE_MS n (bitsOf v 15 0)) := by
    constructor
    · rw [State.fon_fset_apart rfl, State.fon_fset_apart rfl, State.fon_fsetB rfl rfl]
    · rw [State.fget_fset_apart rfl, State.fget_fset_same rfl]
      exact Nat.mod_eq_of_lt (bitsOf_lt v 30 29)
    · exact ((hstored ..).fget CAN_STAT.STATE rfl rfl n).trans (hmap.fget CAN_STAT.STATE rfl rfl n)
    · exact ((hstored ..).fon rfl rfl n).trans (hmap.fon rfl rfl n)
    · rw [State.canRt_fset, State.canRt_fset, State.fsetB, State.canRt_fset, State.canRt_deriveApply]
    · rw [(hstored ..).canLinksUp, hmap.canLinksUp]
  unfold State.ctrlStored
  dsimp only
  split
  · exact hfields.clearTaps
  · exact hfields

theorem CtrlStored.linkFrozen (h : CtrlStored s n v t) : t.linkFrozen n = s.linkFrozen n := by
  rw [State.linkFrozen, h.state, h.busy, h.rt, State.linkFrozen]

/-! How the canceller moves. -/

theorem Spares.ctrlMoved (s : State) (n : Nat) (v : Word) : Spares stateFields (s.ctrlStored n v) (s.ctrlMoved n v) := by
  have hnoted : Spares stateFields (s.ctrlStored n v) (if bitsOf v 30 29 = s.fget CAN_CTRL.MODE n then s.ctrlStored n v else
    (s.ctrlStored n v).noteMode n (s.fget CAN_CTRL.MODE n) (bitsOf v 30 29)) := .ite .refl Spares.refl.noteMode
  have hoff {x : State} : Spares stateFields x (x.enChanged n false) := (x.enChanged_off n).2.2.2
  unfold State.ctrlMoved
  dsimp only
  refine .ite ?_ (.ite hnoted.modeChanged hnoted)
  cases decide (bitsOf v 31 31 = 1) with
  | true => exact hnoted.enterCan.timerStart
  | false => exact hnoted.trans hoff

/-- A word that keeps EN and MODE leaves the canceller where it is. -/
theorem State.ctrlMoved_stays (hen : decide (bitsOf v 31 31 = 1) = s.fon CAN_CTRL.EN n) (hmode : bitsOf v 30 29 = s.fget CAN_CTRL.MODE n) :
    s.ctrlMoved n v = s.ctrlStored n v := by
  unfold State.ctrlMoved
  dsimp only
  rw [if_neg (by simp [hen]), if_pos hmode, if_neg (by simp [hmode])]

/-- One that changes EN alone enables or disables it. -/
theorem State.ctrlMoved_en {b : Bool} (hb : decide (bitsOf v 31 31 = 1) = b) (hen : b ≠ s.fon CAN_CTRL.EN n)
    (hmode : bitsOf v 30 29 = s.fget CAN_CTRL.MODE n) : s.ctrlMoved n v = (s.ctrlStored n v).enChanged n b := by
  unfold State.ctrlMoved
  dsimp only
  rw [hb, if_pos hen, if_pos hmode]

/-- One that changes MODE of an enabled canceller alone changes its mode. -/
theorem State.ctrlMoved_mode {mode : Nat} (hb : decide (bitsOf v 31 31 = 1) = true) (hen : s.fon CAN_CTRL.EN n = true) (hmode : bitsOf v 30 29 = mode)
    (hnew : mode ≠ s.fget CAN_CTRL.MODE n) :
    s.ctrlMoved n v = ((s.ctrlStored n v).noteMode n (s.fget CAN_CTRL.MODE n) mode).modeChanged n mode := by
  unfold State.ctrlMoved
  dsimp only
  rw [hmode, hb, hen, if_neg (by simp), if_neg hnew, if_pos (by simp [hnew])]

/-! Where it ends. -/

theorem State.ctrlEnd_checked (h : decide (bitsOf v 27 27 = 1) = false) : s.ctrlEnd n v = (s.ctrlMoved n v).linkCheck n :=
  if_neg (of_decide_eq_false h)

theorem State.ctrlEnd_requested (h : decide (bitsOf v 27 27 = 1) = true) : s.ctrlEnd n v = ((s.ctrlMoved n v).linkCheck n).isoRequest n :=
  if_pos (of_decide_eq_true h)

/-- EN and MODE as the word has them, after the links were looked at; the links are up as before. -/
theorem State.ctrlMoved_shows (s : State) (n : Nat) (v : Word) : ((s.ctrlMoved n v).linkCheck n).fon CAN_CTRL.EN n = decide (bitsOf v 31 31 = 1) ∧
    ((s.ctrlMoved n v).linkCheck n).fget CAN_CTRL.MODE n = bitsOf v 30 29 ∧ (s.ctrlMoved n v).canLinksUp n = s.canLinksUp n := by
  have hmoved := Spares.ctrlMoved s n v
  have hheld := s.ctrlStored_holds n v
  exact ⟨(hmoved.linkCheck.fon rfl rfl n).trans hheld.en, (hmoved.linkCheck.fget CAN_CTRL.MODE rfl rfl n).trans hheld.mode,
    (hmoved.canLinksUp (by decide) (by decide) n).trans hheld.links⟩

/-- EN := 1 takes the state of the mode where the links are up, and changes no state where EN was 1. -/
theorem State.ctrlEnd_enable (h : Asks w v true (s.fget CAN_CTRL.MODE n) false false) (hup : s.canLinksUp n = true) :
    (s.ctrlEnd n v).fon CAN_CTRL.EN n = true ∧ (s.ctrlEnd n v).fget CAN_CTRL.MODE n = s.fget CAN_CTRL.MODE n ∧
      (s.fon CAN_CTRL.EN n = false → (s.ctrlEnd n v).canState n = modeState (s.fget CAN_CTRL.MODE n)) ∧
      (s.fon CAN_CTRL.EN n = true → (s.ctrlEnd n v).canState n = s.canState n) := by
  obtain ⟨hen, hmode, hlinks⟩ := s.ctrlMoved_shows n v
  have hheld := s.ctrlStored_holds n v
  rw [State.ctrlEnd_checked h.request, State.canState_linkCheck (.inl (hlinks.trans hup))]
  refine ⟨hen.trans h.en, hmode.trans h.mode, fun hwas => ?_, fun hwas => ?_⟩
  · rw [State.ctrlMoved_en h.en (by simp [hwas]) h.mode, State.enChanged, if_pos rfl, State.canState_timerStart, State.canState_enterCan, hheld.mode, h.mode]
    exact (modeState_range (State.fget_lt s CAN_CTRL.MODE n)).2.2
  · rw [State.ctrlMoved_stays (h.en.trans hwas.symm) h.mode, hheld.state]

/-- EN := 1 with a lost link freezes the canceller, which will return to the mode's state. -/
theorem State.ctrlEnd_enable_lost (h : Asks w v true (s.fget CAN_CTRL.MODE n) false false) (hdown : s.canLinksUp n = false)
    (hwas : s.fon CAN_CTRL.EN n = false) (hidle : s.fon CAN_STAT.ISO_BUSY n = false) :
    (s.ctrlEnd n v).fon CAN_CTRL.EN n = true ∧ (s.ctrlEnd n v).canState n = canLINKFROZEN ∧
      ((s.ctrlEnd n v).canRt n).preLink = modeState (s.fget CAN_CTRL.MODE n) := by
  obtain ⟨hen, -, hlinks⟩ := s.ctrlMoved_shows n v
  have hheld := s.ctrlStored_holds n v
  obtain ⟨hlo, hhi, hsame⟩ := modeState_range (State.fget_lt s CAN_CTRL.MODE n)
  have hmoved := State.ctrlMoved_en h.en (s := s) (n := n) (by simp [hwas]) h.mode
  have hstate : (s.ctrlMoved n v).canState n = modeState (s.fget CAN_CTRL.MODE n) := by
    rw [hmoved, State.enChanged, if_pos rfl, State.canState_timerStart, State.canState_enterCan, hheld.mode, h.mode, hsame]
  have hidle' : (s.ctrlMoved n v).fon CAN_STAT.ISO_BUSY n = false := by
    rw [hmoved, State.enChanged, if_pos rfl, State.fon_timerStart, State.fon_enterCan rfl, hheld.busy, hidle]
  have hfreeze := State.linkCheck_freezes (hlinks.trans hdown) hidle' (by rw [hstate]; exact ⟨hlo, hhi⟩)
  rw [State.ctrlEnd_checked h.request]
  refine ⟨hen.trans h.en, ?_, ?_⟩
  · rw [hfreeze, State.canState, Quiet.refl.pulse.fget rfl, ← State.canState, State.canState_timerStop, State.canState_setCanState]
    rfl
  · rw [hfreeze, State.canRt_of_can Hushed.refl.pulse.can, State.canRt_of_can (State.can_timerStop ..), State.canRt_of_can (State.can_setCanState ..),
      State.canRt_setCanRt, hstate]

/-- EN := 0 takes the canceller to OFF, whatever its links. -/
theorem State.ctrlEnd_disable (h : Asks w v false (s.fget CAN_CTRL.MODE n) false false) (hwas : s.fon CAN_CTRL.EN n = true) :
    (s.ctrlEnd n v).fon CAN_CTRL.EN n = false ∧ (s.ctrlEnd n v).canState n = canOFF ∧ (s.ctrlEnd n v).fon CAN_STAT.ISO_BUSY n = false ∧
      (s.ctrlEnd n v).timerOn tmPause n = false := by
  obtain ⟨hen, -, -⟩ := s.ctrlMoved_shows n v
  have hmoved := State.ctrlMoved_en h.en (s := s) (n := n) (by simp [hwas]) h.mode
  obtain ⟨hoff, hidle, hpause, -⟩ := (s.ctrlStored n v).enChanged_off n
  rw [← hmoved] at hoff hidle hpause
  rw [State.ctrlEnd_checked h.request]
  refine ⟨hen.trans h.en, ?_⟩
  rcases State.linkCheck_off hoff hidle with heq | heq
  · rw [heq]
    exact ⟨hoff, hidle, hpause⟩
  · rw [heq]
    exact ⟨hoff, hidle, (State.timerOn_timerStop_ne (by decide) ..).trans hpause⟩

/-- A new MODE is stored and EN kept; an enabled canceller takes it up at once, or remembers it in LINK_FROZEN and in a window. -/
theorem State.ctrlEnd_mode {mode : Nat} (hlt : mode < 4) (h : Asks w v (s.fon CAN_CTRL.EN n) mode false false) :
    (s.ctrlEnd n v).fget CAN_CTRL.MODE n = mode ∧ (s.ctrlEnd n v).fon CAN_CTRL.EN n = s.fon CAN_CTRL.EN n ∧
      (s.fon CAN_CTRL.EN n = true → mode ≠ s.fget CAN_CTRL.MODE n → s.fon CAN_STAT.ISO_BUSY n = false → s.canState n ≠ canLINKFROZEN →
        s.canLinksUp n = true → (s.ctrlEnd n v).canState n = modeState mode) ∧
      (s.fon CAN_CTRL.EN n = true → mode ≠ s.fget CAN_CTRL.MODE n → s.linkFrozen n = true → ((s.ctrlEnd n v).canRt n).preLink = modeState mode) ∧
      (s.fon CAN_CTRL.EN n = true → mode ≠ s.fget CAN_CTRL.MODE n → s.fon CAN_STAT.ISO_BUSY n = true → s.linkFrozen n = false →
        s.canLinksUp n = true → ((s.ctrlEnd n v).canRt n).preIso = modeState mode) := by
  obtain ⟨hen, hmode, hlinks⟩ := s.ctrlMoved_shows n v
  have hheld := s.ctrlStored_holds n v
  obtain ⟨hnoteregs, hnotert⟩ := (s.ctrlStored n v).noteMode_eq n (s.fget CAN_CTRL.MODE n) mode
  have hfrozen := (State.linkFrozen_congr hnoteregs hnotert).trans hheld.linkFrozen
  have hbusy := (State.fon_of_regs hnoteregs CAN_STAT.ISO_BUSY n).trans hheld.busy
  rw [State.ctrlEnd_checked h.request]
  refine ⟨hmode.trans h.mode, hen.trans h.en, fun hon hnew hidle hstate hup => ?_, fun hon hnew hlinkfrozen => ?_, fun hon hnew hwindow hfree hup => ?_⟩
  · have hfree : s.linkFrozen n = false := Bool.eq_false_iff.mpr fun hf => (State.linkFrozen_iff.mp hf).elim hstate fun hw => by simp [hidle] at hw
    rw [State.canState_linkCheck (.inl (hlinks.trans hup)), State.ctrlMoved_mode (h.en.trans hon) hon h.mode hnew,
      State.modeChanged_enters (hfrozen.trans hfree) (hbusy.trans hidle), State.canState_enterCan]
    exact (modeState_range hlt).2.2
  · have hmoved := State.ctrlMoved_mode (h.en.trans hon) hon h.mode hnew
    rw [State.modeChanged_frozen (hfrozen.trans hlinkfrozen)] at hmoved
    have hstill : (s.ctrlMoved n v).linkFrozen n = true := by
      rw [hmoved, State.linkFrozen_setCanRt (by rfl), hfrozen, hlinkfrozen]
    rw [State.canRt_linkCheck (.inr hstill), hmoved, State.canRt_setCanRt]
  · rw [State.canRt_linkCheck (.inl (hlinks.trans hup)), State.ctrlMoved_mode (h.en.trans hon) hon h.mode hnew,
      State.modeChanged_window (hfrozen.trans hfree) (hbusy.trans hwindow), State.canRt_setCanRt]

/-- CLEAR_TAPS leaves no tap of the canceller, and its state where the links are up. -/
theorem State.ctrlEnd_clear (h : Asks w v (s.fon CAN_CTRL.EN n) (s.fget CAN_CTRL.MODE n) true false) :
    (∀ e ∈ (s.ctrlEnd n v).can.taps, e.1 / 65536 ≠ n) ∧ (s.canLinksUp n = true → (s.ctrlEnd n v).canState n = s.canState n) := by
  have hmoved := State.ctrlMoved_stays h.en h.mode
  have hheld := s.ctrlStored_holds n v
  rw [State.ctrlEnd_checked h.request, State.taps_linkCheck, hmoved]
  refine ⟨?_, fun hup => ?_⟩
  · rw [State.ctrlStored, if_pos (of_decide_eq_true h.clear)]
    exact fun e he => of_decide_eq_true (List.mem_filter.mp he).2
  · rw [State.canState_linkCheck (.inl (hheld.links.trans hup)), hheld.state]

/-- ISO_REQ asks for a window on the canceller as it stands. -/
theorem State.ctrlEnd_request (h : Asks w v (s.fon CAN_CTRL.EN n) (s.fget CAN_CTRL.MODE n) false true) (hup : s.canLinksUp n = true) :
    ∃ t, s.ctrlEnd n v = t.isoRequest n ∧ CtrlStored s n v t := by
  have hheld := s.ctrlStored_holds n v
  obtain ⟨timers, htimers⟩ := State.linkCheck_timers (.inl (hheld.links.trans hup))
  rw [State.ctrlEnd_requested h.request, State.ctrlMoved_stays h.en h.mode, htimers]
  exact ⟨_, rfl, hheld.en, hheld.mode, hheld.state, hheld.busy, hheld.rt, hheld.links⟩

theorem CtrlStored.isoReady (h : CtrlStored s n v t) : t.isoReady n = s.isoReady n := by
  rw [State.isoReady, h.state, h.busy, State.isoReady]

/-- The window begins at once where one may. -/
theorem State.ctrlEnd_starts (h : Asks w v (s.fon CAN_CTRL.EN n) (s.fget CAN_CTRL.MODE n) false true) (hup : s.canLinksUp n = true)
    (hready : s.isoReady n = true) : (s.ctrlEnd n v).fon CAN_STAT.ISO_BUSY n = true ∧ (s.ctrlEnd n v).canState n = canPROBE ∧
      ((s.ctrlEnd n v).canRt n).preIso = s.canState n ∧ ((s.ctrlEnd n v).canRt n).isoHeld = false := by
  obtain ⟨t, hend, hheld⟩ := State.ctrlEnd_request h hup
  rw [hend, State.isoRequest_starts (hheld.isoReady.trans hready), ← hheld.state]
  exact t.isoStart_shows n

/-- It is held where none may. -/
theorem State.ctrlEnd_holds (h : Asks w v (s.fon CAN_CTRL.EN n) (s.fget CAN_CTRL.MODE n) false true) (hup : s.canLinksUp n = true)
    (hready : s.isoReady n = false) (hon : s.canState n ≠ canOFF) :
    ((s.ctrlEnd n v).canRt n).isoHeld = true ∧ (s.ctrlEnd n v).canState n = s.canState n := by
  obtain ⟨t, hend, hheld⟩ := State.ctrlEnd_request h hup
  rw [hend, State.isoRequest_held (hheld.state ▸ hon) (hheld.isoReady.trans hready), State.canRt_setCanRt]
  exact ⟨rfl, hheld.state⟩

end Sys2Proof.Machine
end

section
/-!
Settles O13, the writes of CAN_CTRL on the register bus.
-/
namespace Sys2Proof.Machine

variable {s : State} {who : Init} {page off : Nat} {v : Word} {en clear request : Bool} {mode : Nat}

/-- Below the expert registers an accepted write ends as the register's own write ends, but for the check pass of the page and refusals. -/
theorem State.access_basic_ends {f : State → WRes} {P : State → Prop} (h : Admitted s who page off) (hoff : off < 0x400)
    (hP : ∀ t crcPass busRefuse, P t → P { t with crcPass := crcPass, busRefuse := busRefuse })
    (hf : ∀ timers expert, ∃ t, f { s with timers := timers, expert := expert } = .ok t ∧ P t) :
    Took (s.access who page off v f) who ∧ P (s.access who page off v f) := by
  obtain ⟨timers, expert, heq⟩ := s.atRegister_eq who page
  obtain ⟨t, hok, ht⟩ := hf timers expert
  rw [← heq] at hok
  obtain ⟨htook, timers', crcPass, busRefuse, hend⟩ := State.accessBy_took h v hok
  have htimers := State.timers_accessBy_basic h hoff v hok
  rw [hend] at htimers
  obtain rfl : timers' = t.timers := htimers
  refine ⟨htook, ?_⟩
  rw [State.access, hend]
  exact hP t crcPass busRefuse ht

/-- A write of CAN_CTRL whose map can be derived, PAUSE_MS kept, CLEAR_TAPS set at most in FROZEN. -/
theorem State.next_ctrl_ends {o : Host.Outcome State Fault Refusal} {P : State → Prop}
    (ho : o = .next (s.access who pgCAN 0x044 v (canCtrlWrite who v))) (h : Admitted s who pgCAN 0x044)
    (hpresent : s.member.present (s.canSel who) = true) (hpause : s.fget CAN_CTRL.PAUSE_MS (s.canSel who) ≠ 0)
    (hfits : s.deriveFails (s.canSel who) = false) (hasks : Asks (s.canCtrlWord who) v en mode clear request)
    (hclear : clear = true → s.canState (s.canSel who) = canFROZEN)
    (hP : ∀ t crcPass busRefuse, P t → P { t with crcPass := crcPass, busRefuse := busRefuse })
    (hend : ∀ timers expert, P (State.ctrlEnd { s with timers := timers, expert := expert } (s.canSel who) v)) :
    ∃ t, o = .next t ∧ Took t who ∧ P t := by
  refine ⟨_, ho, State.access_basic_ends h (by decide) hP fun timers expert => ⟨_, ?_, hend timers expert⟩⟩
  refine canCtrlWrite_ok (s := { s with timers := timers, expert := expert }) hpresent ?_ (fun hset => ?_) ((s.deriveFails_update timers expert _).trans hfits)
  · exact fun hzero => hpause (hasks.pause.symm.trans hzero)
  · exact hclear (hasks.clear.symm.trans (decide_eq_true hset))

/-- CLEAR_TAPS outside FROZEN is refused, and the canceller stays as it is. -/
theorem State.access_clear_locked (h : Admitted s who pgCAN 0x044) (hpresent : s.member.present (s.canSel who) = true)
    (hpause : s.fget CAN_CTRL.PAUSE_MS (s.canSel who) ≠ 0) (hasks : Asks (s.canCtrlWord who) v en mode true request)
    (hstate : s.canState (s.canSel who) ≠ canFROZEN) : (s.access who pgCAN 0x044 v (canCtrlWrite who v)).lastReason who = Reason.configLocked.code ∧
      (s.access who pgCAN 0x044 v (canCtrlWrite who v)).can = s.can := by
  obtain ⟨timers, expert, heq⟩ := s.atRegister_eq who pgCAN
  have hlocked : canCtrlWrite who v ((s.portEdge who).disarm who pgCAN) = .error .configLocked := by
    rw [heq]
    exact canCtrlWrite_locked (s := { s with timers := timers, expert := expert }) hpresent (fun hzero => hpause (hasks.pause.symm.trans hzero))
      (of_decide_eq_true hasks.clear) hstate
  rw [State.access, State.accessBy_refused h hlocked]
  refine ⟨State.lastReason_refuse .., ?_⟩
  rw [(State.hushed_refuse ..).can, heq]

section
variable (h : Admitted s who pgCAN 0x044) (hpresent : s.member.present (s.canSel who) = true) (hpause : s.fget CAN_CTRL.PAUSE_MS (s.canSel who) ≠ 0)
  (hfits : s.deriveFails (s.canSel who) = false)
include h hpresent hpause hfits

theorem execCanEnable_ends (hquiet : bitsOf (s.canCtrlWord who) 27 26 = 0) (hup : s.canLinksUp (s.canSel who) = true) :
    ∃ t, execCanEnable who s = .next t ∧ Took t who ∧ t.fon CAN_CTRL.EN (s.canSel who) = true ∧
      t.fget CAN_CTRL.MODE (s.canSel who) = s.fget CAN_CTRL.MODE (s.canSel who) ∧
      (s.fon CAN_CTRL.EN (s.canSel who) = false → t.canState (s.canSel who) = modeState (s.fget CAN_CTRL.MODE (s.canSel who))) ∧
      (s.fon CAN_CTRL.EN (s.canSel who) = true → t.canState (s.canSel who) = s.canState (s.canSel who)) :=
  have hasks := asks_en hquiet true
  State.next_ctrl_ends rfl h hpresent hpause hfits hasks (fun hc => absurd hc (by decide)) (fun _ _ _ ht => ht)
    fun timers expert => State.ctrlEnd_enable (s := { s with timers := timers, expert := expert }) hasks hup

theorem execCanEnable_lost (hquiet : bitsOf (s.canCtrlWord who) 27 26 = 0) (hdown : s.canLinksUp (s.canSel who) = false)
    (hwas : s.fon CAN_CTRL.EN (s.canSel who) = false) (hidle : s.fon CAN_STAT.ISO_BUSY (s.canSel who) = false) :
    ∃ t, execCanEnable who s = .next t ∧ Took t who ∧ t.fon CAN_CTRL.EN (s.canSel who) = true ∧ t.canState (s.canSel who) = canLINKFROZEN ∧
      (t.canRt (s.canSel who)).preLink = modeState (s.fget CAN_CTRL.MODE (s.canSel who)) :=
  have hasks := asks_en hquiet true
  State.next_ctrl_ends rfl h hpresent hpause hfits hasks (fun hc => absurd hc (by decide)) (fun _ _ _ ht => ht)
    fun timers expert => State.ctrlEnd_enable_lost (s := { s with timers := timers, expert := expert }) hasks hdown hwas hidle

theorem execCanDisable_ends (hquiet : bitsOf (s.canCtrlWord who) 27 26 = 0) (hwas : s.fon CAN_CTRL.EN (s.canSel who) = true) :
    ∃ t, execCanDisable who s = .next t ∧ Took t who ∧ t.fon CAN_CTRL.EN (s.canSel who) = false ∧ t.canState (s.canSel who) = canOFF ∧
      t.fon CAN_STAT.ISO_BUSY (s.canSel who) = false ∧ t.timerOn tmPause (s.canSel who) = false :=
  have hasks := asks_en hquiet false
  State.next_ctrl_ends rfl h hpresent hpause hfits hasks (fun hc => absurd hc (by decide)) (fun _ _ _ ht => ht)
    fun timers expert => State.ctrlEnd_disable (s := { s with timers := timers, expert := expert }) hasks hwas

theorem execCanModeWrite_ends (hquiet : bitsOf (s.canCtrlWord who) 27 26 = 0) (mode : Fin 4) :
    ∃ t, execCanModeWrite who mode s = .next t ∧ Took t who ∧ t.fget CAN_CTRL.MODE (s.canSel who) = mode.val ∧
      t.fon CAN_CTRL.EN (s.canSel who) = s.fon CAN_CTRL.EN (s.canSel who) ∧
      (s.fon CAN_CTRL.EN (s.canSel who) = true → mode.val ≠ s.fget CAN_CTRL.MODE (s.canSel who) → s.fon CAN_STAT.ISO_BUSY (s.canSel who) = false →
        s.canState (s.canSel who) ≠ canLINKFROZEN → s.canLinksUp (s.canSel who) = true → t.canState (s.canSel who) = modeState mode.val) ∧
      (s.fon CAN_CTRL.EN (s.canSel who) = true → mode.val ≠ s.fget CAN_CTRL.MODE (s.canSel who) → s.linkFrozen (s.canSel who) = true →
        (t.canRt (s.canSel who)).preLink = modeState mode.val) ∧
      (s.fon CAN_CTRL.EN (s.canSel who) = true → mode.val ≠ s.fget CAN_CTRL.MODE (s.canSel who) → s.fon CAN_STAT.ISO_BUSY (s.canSel who) = true →
        s.linkFrozen (s.canSel who) = false → s.canLinksUp (s.canSel who) = true → (t.canRt (s.canSel who)).preIso = modeState mode.val) :=
  have hasks := asks_mode hquiet mode
  State.next_ctrl_ends rfl h hpresent hpause hfits hasks (fun hc => absurd hc (by decide)) (fun _ _ _ ht => ht)
    fun timers expert => State.ctrlEnd_mode (s := { s with timers := timers, expert := expert }) mode.isLt hasks

theorem execClearTaps_ends (hstate : s.canState (s.canSel who) = canFROZEN) (hquiet : bitsOf (s.canCtrlWord who) 27 27 = 0) :
    ∃ t, execClearTaps who s = .next t ∧ Took t who ∧ (∀ e ∈ t.can.taps, e.1 / 65536 ≠ s.canSel who) ∧
      (s.canLinksUp (s.canSel who) = true → t.canState (s.canSel who) = s.canState (s.canSel who)) :=
  have hasks := asks_clear (decide_eq_false (by rw [hquiet]; decide))
  State.next_ctrl_ends rfl h hpresent hpause hfits hasks (fun _ => hstate) (fun _ _ _ ht => ht)
    fun timers expert => State.ctrlEnd_clear (s := { s with timers := timers, expert := expert }) hasks

theorem execIsoReq_starts (hquiet : bitsOf (s.canCtrlWord who) 26 26 = 0) (hready : s.isoReady (s.canSel who) = true)
    (hup : s.canLinksUp (s.canSel who) = true) :
    ∃ t, execIsoReq who s = .next t ∧ Took t who ∧ t.fon CAN_STAT.ISO_BUSY (s.canSel who) = true ∧ t.canState (s.canSel who) = canPROBE ∧
      (t.canRt (s.canSel who)).preIso = s.canState (s.canSel who) ∧ (t.canRt (s.canSel who)).isoHeld = false :=
  have hasks := asks_request hquiet
  State.next_ctrl_ends rfl h hpresent hpause hfits hasks (fun hc => absurd hc (by decide)) (fun _ _ _ ht => ht)
    fun timers expert => State.ctrlEnd_starts (s := { s with timers := timers, expert := expert }) hasks hup hready

theorem execIsoReq_held (hquiet : bitsOf (s.canCtrlWord who) 26 26 = 0) (hready : s.isoReady (s.canSel who) = false)
    (hon : s.canState (s.canSel who) ≠ canOFF) (hup : s.canLinksUp (s.canSel who) = true) :
    ∃ t, execIsoReq who s = .next t ∧ Took t who ∧ (t.canRt (s.canSel who)).isoHeld = true ∧
      t.canState (s.canSel who) = s.canState (s.canSel who) :=
  have hasks := asks_request hquiet
  State.next_ctrl_ends rfl h hpresent hpause hfits hasks (fun hc => absurd hc (by decide)) (fun _ _ _ ht => ht)
    fun timers expert => State.ctrlEnd_holds (s := { s with timers := timers, expert := expert }) hasks hup hready hon

end

end Sys2Proof.Machine
end

section
/-!
Settles O13, the writes of the basic registers of a canceller (R119).
-/
namespace Sys2Proof.Machine

variable {s u w : State} {who : Init} {reg : CanReg} {v : Word} {n page off key : Nat}

/-! A merge of a register. -/

/-- A merge writes one register word. -/
theorem State.mergeReg_words (h : s.mergeReg page off key v = .ok u) : ∃ regs, u = { s with regs := regs } ∧ ∀ j ≠ key, u.word j = s.word j := by
  unfold State.mergeReg at h
  split at h
  · cases h
    exact ⟨_, rfl, fun _ _ => rfl⟩
  · dsimp only at h
    split at h
    · cases h
      exact ⟨_, rfl, fun _ hj => State.word_setWord_ne _ _ hj⟩
    · cases h

theorem State.mergeReg_update (timers : List (Nat × Nat)) (expert : List (Nat × ExpertSt)) (h : s.mergeReg page off key v = .ok u) :
    State.mergeReg { s with timers := timers, expert := expert } page off key v = .ok { u with timers := timers, expert := expert } := by
  unfold State.mergeReg at h ⊢
  split at h
  · cases h
    rfl
  · dsimp only at h ⊢
    split at h
    next hranges =>
      cases h
      exact if_pos hranges
    next => cases h

/-! A basic register as a field of one word. -/

/-- The whole word of a basic register. -/
def canRegFld (reg : CanReg) : Fld := ⟨0x14000 + canRegOff reg, Fld.unitStep, 31, 0⟩

theorem word_eq_of_bitsOf {a b : Word} (h : bitsOf a 31 0 = bitsOf b 31 0) : a = b := by
  simp only [bitsOf, fieldSize, Nat.reduceAdd, Nat.sub_zero, Nat.pow_zero, Nat.div_one] at h
  exact BitVec.eq_of_toNat_eq (by rwa [Nat.mod_eq_of_lt a.isLt, Nat.mod_eq_of_lt b.isLt] at h)

/-- It stands apart from all that a derivation and a change of state write, and shows no report. -/
theorem canRegFld_apart (reg : CanReg) : (canRegFld reg).apartAll mapFields = true ∧ (canRegFld reg).apartAll stateFields = true ∧
    (canRegFld reg).apartAll [CAN_LEAK_M.M, CAN_LEAK_S.S] = true ∧ (canRegFld reg).unreported = true := by
  cases reg with
  | ref r => revert r; decide
  | clu r => revert r; decide
  | adapt => decide
  | probe => decide
  | marginCfg => decide
  | isoAssumed => decide

theorem Spares.canReg {fs : List Fld} (h : Spares fs s u) (ha : (canRegFld reg).apartAll fs = true) (n : Nat) :
    u.word (canKey (canRegOff reg) n) = s.word (canKey (canRegOff reg) n) :=
  word_eq_of_bitsOf (h.fget (canRegFld reg) ha (canRegFld_apart reg).2.2.2 n)

/-- The state of a canceller stands in another word. -/
theorem canState_key_ne (reg : CanReg) (n : Nat) : CAN_STAT.STATE.key n ≠ canKey (canRegOff reg) n := by
  have hoff : canRegOff reg < 0x078 := by
    cases reg with
    | ref r => simp only [canRegOff]; omega
    | clu r => simp only [canRegOff]; omega
    | adapt => decide
    | probe => decide
    | marginCfg => decide
    | isoAssumed => decide
  simp only [Fld.key, CAN_STAT.STATE, canKey]
  omega

/-! The write. -/

/-- What a merged write of a basic register does before the map is derived anew: a changed reference is zeroed, lambda follows CAN_ADAPT. -/
def State.basicPrepared (s u : State) (n : Nat) (reg : CanReg) : State :=
  match reg with
  | .ref r =>
    if s.fon (CAN_REF.EN r.val) n = u.fon (CAN_REF.EN r.val) n ∧ s.fget (CAN_REF.STREAM r.val) n = u.fget (CAN_REF.STREAM r.val) n then u
    else u.zeroRef n r.val
  | .adapt => u.deriveLeak n
  | _ => u

theorem State.basicPrepared_cases (s u : State) (n : Nat) (reg : CanReg) :
    s.basicPrepared u n reg = u ∨ (∃ r, s.basicPrepared u n reg = u.zeroRef n r) ∨ s.basicPrepared u n reg = u.deriveLeak n := by
  cases reg with
  | ref r =>
    rw [State.basicPrepared]
    split
    · exact .inl rfl
    · exact .inr (.inl ⟨r.val, rfl⟩)
  | adapt => exact .inr (.inr rfl)
  | clu r => exact .inl rfl
  | probe => exact .inl rfl
  | marginCfg => exact .inl rfl
  | isoAssumed => exact .inl rfl

theorem State.mapBasis_basicPrepared (s u : State) (n : Nat) (reg : CanReg) : MapBasis u (s.basicPrepared u n reg) := by
  obtain heq | ⟨r, heq⟩ | heq := s.basicPrepared_cases u n reg
  · exact heq.symm ▸ (MapBasis.update : MapBasis u u)
  · exact heq.symm ▸ ⟨fun _ _ _ => rfl, rfl, rfl⟩
  · exact heq.symm ▸ MapBasis.deriveLeak n

theorem State.spares_basicPrepared (s u : State) (n : Nat) (reg : CanReg) : Spares [CAN_LEAK_M.M, CAN_LEAK_S.S] u (s.basicPrepared u n reg) := by
  obtain heq | ⟨r, heq⟩ | heq := s.basicPrepared_cases u n reg
  · exact heq.symm ▸ Spares.refl
  · exact heq.symm ▸ ⟨fun _ _ _ _ => rfl, rfl⟩
  · exact heq.symm ▸ Spares.refl.fset.fset

theorem canBasicWrite_ok (hpresent : s.member.present (s.canSel who) = true) (hrange : canRangeOk reg v = true)
    (hmerge : s.mergeReg pgCAN (canRegOff reg) (canKey (canRegOff reg) (s.canSel who)) v = .ok u) (hfits : u.deriveFails (s.canSel who) = false) :
    canBasicWrite who reg v s = .ok (((s.basicPrepared u (s.canSel who) reg).deriveApply (s.canSel who)).linkCheck (s.canSel who)) := by
  have hsel : s.canSel who < 32 := State.fget_lt s CAN_ISEL.INST who.holder
  have hderived : (s.basicPrepared u (s.canSel who) reg).canDerived (s.canSel who) = .ok ((s.basicPrepared u (s.canSel who) reg).deriveApply (s.canSel who)) :=
    if_neg (ne_true_of_eq_false (((s.mapBasis_basicPrepared u _ reg).deriveFails hsel).trans hfits))
  unfold canBasicWrite
  dsimp only
  rw [if_neg (by simp [hpresent]), if_neg (by simp [hrange]), hmerge]
  dsimp only
  split
  next r hr => cases hr.symm.trans hderived
  next t ht => exact congrArg (fun t : State => Except.ok (t.linkCheck (s.canSel who))) (Except.ok.inj (ht.symm.trans hderived))

/-- A derivation and a look at the links keep the register, and the state where the links are up. -/
theorem State.derived_shows (h : Spares [CAN_LEAK_M.M, CAN_LEAK_S.S] u w) (reg : CanReg) (n : Nat) :
    ((w.deriveApply n).linkCheck n).word (canKey (canRegOff reg) n) = u.word (canKey (canRegOff reg) n) ∧
      (u.canLinksUp n = true → ((w.deriveApply n).linkCheck n).canState n = u.canState n) := by
  obtain ⟨hmap, hstate, hleak, -⟩ := canRegFld_apart reg
  have hderived : Spares mapFields w (w.deriveApply n) := Spares.refl.deriveApply
  have hchecked : Spares stateFields (w.deriveApply n) ((w.deriveApply n).linkCheck n) := Spares.refl.linkCheck
  refine ⟨(hchecked.canReg hstate n).trans ((hderived.canReg hmap n).trans (h.canReg hleak n)), fun hup => ?_⟩
  rw [State.canState_linkCheck (.inl (by rw [hderived.canLinksUp, h.canLinksUp, hup])), State.canState, hderived.fget CAN_STAT.STATE rfl rfl,
    h.fget CAN_STAT.STATE rfl rfl, ← State.canState]

theorem execCanBasicWrite_ends (h : Admitted s who pgCAN (canRegOff reg)) (hpresent : s.member.present (s.canSel who) = true)
    (hrange : canRangeOk reg v = true) (hmerge : s.mergeReg pgCAN (canRegOff reg) (canKey (canRegOff reg) (s.canSel who)) v = .ok u)
    (hfits : u.deriveFails (s.canSel who) = false) :
    ∃ t, execCanBasicWrite who reg v s = .next t ∧ Took t who ∧
      t.word (canKey (canRegOff reg) (s.canSel who)) = u.word (canKey (canRegOff reg) (s.canSel who)) ∧
      (u.canLinksUp (s.canSel who) = true → t.canState (s.canSel who) = s.canState (s.canSel who)) := by
  obtain ⟨-, -, hwords⟩ := State.mergeReg_words hmerge
  have hkept : u.canState (s.canSel who) = s.canState (s.canSel who) := State.fget_congr (hwords _ (canState_key_ne reg _))
  refine State.next_access_ends rfl h (fun _ _ _ _ ht => ht) fun timers expert => ?_
  have hok := canBasicWrite_ok (s := { s with timers := timers, expert := expert }) hpresent hrange
    (State.mergeReg_update timers expert hmerge) ((u.deriveFails_update timers expert _).trans hfits)
  obtain ⟨hword, hstate⟩ := State.derived_shows (State.spares_basicPrepared ..) reg (s.canSel who)
  exact ⟨_, hok, hword, fun hup => (hstate hup).trans hkept⟩

end Sys2Proof.Machine
end

section
/-!
Settles O13: isolation windows begin and end (R126, R127), and the writes of the parts before this one.
-/
namespace Sys2Proof.Machine

variable {s0 s t : State} {n k r : Nat} {e : IsoEntry}

/-! What a window changes nothing of: the stored isolation and the fault sources. -/

structure IsoKept (s t : State) : Prop where
  iso : t.can.iso = s.can.iso
  flt : t.flt = s.flt

theorem IsoKept.refl : IsoKept s s := ⟨rfl, rfl⟩

theorem IsoKept.ite {c : Prop} [Decidable c] {a b : State} (ha : IsoKept s0 a) (hb : IsoKept s0 b) : IsoKept s0 (if c then a else b) := by
  split
  · exact ha
  · exact hb

theorem IsoKept.fset {f : Fld} {u v : Nat} (h : IsoKept s0 s) : IsoKept s0 (s.fset f u v) := ⟨h.iso, h.flt⟩

theorem IsoKept.setCanState {st : Nat} (h : IsoKept s0 s) : IsoKept s0 (s.setCanState n st) := h.fset

theorem IsoKept.setCanRt {x : CanRt} (h : IsoKept s0 s) : IsoKept s0 (s.setCanRt n x) := ⟨h.iso, h.flt⟩

theorem IsoKept.timerStart {tm u count : Nat} (h : IsoKept s0 s) : IsoKept s0 (s.timerStart tm u count) := ⟨h.iso, h.flt⟩

theorem IsoKept.timerStop {tm u : Nat} (h : IsoKept s0 s) : IsoKept s0 (s.timerStop tm u) := ⟨h.iso, h.flt⟩

theorem IsoKept.enterCan {st : Nat} (h : IsoKept s0 s) : IsoKept s0 (s.enterCan n st) := .ite h.setCanState.setCanRt.timerStart h.setCanState

theorem IsoKept.isoStop (h : IsoKept s0 s) : IsoKept s0 (s.isoStop n) := .ite h.fset.timerStop.enterCan h

theorem IsoKept.isoStart (h : IsoKept s0 s) : IsoKept s0 (s.isoStart n) :=
  have hfresh : IsoKept s0 (s.isoFresh n) := ⟨h.iso, h.flt⟩
  hfresh.setCanRt.fset.setCanState.timerStart.timerStart

theorem IsoKept.isoRequest (h : IsoKept s0 s) : IsoKept s0 (s.isoRequest n) := .ite h (.ite h.isoStart h.setCanRt)

theorem IsoKept.driven (h : IsoKept s t) (src : Nat) : t.driven src = s.driven src := by
  rw [State.driven, h.flt, State.driven]

/-! What a window stores. -/

/-- The state with the results of a window stored. -/
def State.isoStored (s : State) (n : Nat) : State := (s.isoCovered n).foldl (fun t x => t.isoStore n x.1 x.2) s

theorem State.isoStore_eq (s : State) (n k r : Nat) : ∃ iso, s.isoStore n k r = { s with can := { s.can with iso := iso } } := by
  unfold State.isoStore
  split
  · exact ⟨s.can.iso, rfl⟩
  · dsimp only
    split
    · exact ⟨_, rfl⟩
    · exact ⟨s.can.iso, rfl⟩

/-- The results of a window change the stored isolation alone. -/
theorem State.isoStored_eq (s : State) (n : Nat) : ∃ iso, s.isoStored n = { s with can := { s.can with iso := iso } } := by
  unfold State.isoStored
  refine List.foldlRecOn (motive := fun t : State => ∃ iso, t = { s with can := { s.can with iso := iso } }) _ _ ⟨s.can.iso, rfl⟩ fun t ht x _ => ?_
  obtain ⟨iso, rfl⟩ := ht
  exact State.isoStore_eq ..

/-- Then the events of the window rise. -/
theorem State.isoFinish_eq (s : State) (n : Nat) : ∃ empty bound : Bool, s.isoFinish n =
    if bound then (if empty then s.isoStored n else (s.isoStored n).pulse pgCAN 0).pulse pgCAN 6
    else if empty then s.isoStored n else (s.isoStored n).pulse pgCAN 0 := ⟨_, _, rfl⟩

theorem State.quiet_isoFinish (s : State) (n : Nat) : Quiet (s.isoStored n) (s.isoFinish n) := by
  obtain ⟨empty, bound, heq⟩ := s.isoFinish_eq n
  have hfirst : Quiet (s.isoStored n) (if empty then s.isoStored n else (s.isoStored n).pulse pgCAN 0) := .ite .refl Quiet.refl.pulse
  rw [heq]
  exact .ite hfirst.pulse hfirst

theorem State.quiet_mapParity (s : State) (bad : Bool) : Quiet s (s.mapParity bad) := .ite Quiet.refl.drive .refl

theorem Quiet.trans (h : Quiet s0 s) (ht : Quiet s t) : Quiet s0 t :=
  ⟨fun k hk => (ht.word k hk).trans (h.word k hk), ht.hush.trans h.hush⟩

theorem State.can_isoFinish (s : State) (n : Nat) : (s.isoFinish n).can = (s.isoStored n).can := (s.quiet_isoFinish n).can

/-- The canceller before its window ends, its results stored: the window runs, and behind its registers it is as before. -/
theorem State.isoFinish_leaves (s : State) (n : Nat) (bad : Bool) : ((s.isoFinish n).mapParity bad).fon CAN_STAT.ISO_BUSY n = s.fon CAN_STAT.ISO_BUSY n ∧
    ((s.isoFinish n).mapParity bad).canRt n = s.canRt n ∧ ((s.isoFinish n).mapParity bad).can.iso = (s.isoFinish n).can.iso := by
  have hquiet := (s.quiet_isoFinish n).trans ((s.isoFinish n).quiet_mapParity bad)
  obtain ⟨iso, hstored⟩ := s.isoStored_eq n
  refine ⟨?_, ?_, ?_⟩
  · rw [State.fon, hquiet.fget rfl, hstored]
    rfl
  · rw [State.canRt_of_can hquiet.can, hstored]
    rfl
  · rw [hquiet.can, State.can_isoFinish]

theorem State.isoOf_of_some (h : Tbl.get (fun _ => none) s.can.iso (rkKey n k r) = some e) : s.isoOf n k r = e := by
  unfold State.isoOf
  rw [h]

/-- An entry that is not assumed is read from the stored isolation alone. -/
theorem State.isoOf_kept (h : t.can.iso = s.can.iso) (hsrc : (s.isoOf n k r).src ≠ 2) : t.isoOf n k r = s.isoOf n k r := by
  cases hentry : Tbl.get (fun _ => none) s.can.iso (rkKey n k r) with
  | some e => rw [State.isoOf_of_some hentry, State.isoOf_of_some (h ▸ hentry)]
  | none => exact absurd (by unfold State.isoOf; rw [hentry]) hsrc

theorem State.isoStore_takes (he : s.isoResult n k r = some e) (h : e.src = 0 ∨ (s.isoOf n k r).iso < e.iso ∨ (s.isoOf n k r).src = 2) :
    Tbl.get (fun _ => none) (s.isoStore n k r).can.iso (rkKey n k r) = some e := by
  unfold State.isoStore
  rw [he]
  dsimp only
  rw [if_pos h, Tbl.get_set_same]

theorem State.isoStore_keeps (he : s.isoResult n k r = some e) (h : ¬(e.src = 0 ∨ (s.isoOf n k r).iso < e.iso ∨ (s.isoOf n k r).src = 2)) :
    s.isoStore n k r = s := by
  unfold State.isoStore
  rw [he]
  exact if_neg h

/-! The commands. -/

theorem execIsoWindowStart_shows {inst : Fin 32} (hheld : (s.canRt inst.val).isoHeld = true) (hready : s.isoReady inst.val = true) :
    ∃ t, execIsoWindowStart inst s = .next t ∧ t.fon CAN_STAT.ISO_BUSY inst.val = true ∧ t.canState inst.val = canPROBE ∧
      (t.canRt inst.val).isoHeld = false := by
  obtain ⟨hbusy, hstate, -, hserved⟩ := s.isoStart_shows inst.val
  exact ⟨_, congrArg Host.Outcome.next (if_pos (by rw [hheld, hready]; rfl)), hbusy, hstate, hserved⟩

theorem execIsoPeriodExpired_shows {inst : Fin 32} (hperiod : 0 < s.fget CAN_PROBE.ISO_PERIOD_S inst.val)
    (hdue : s.timerDue tmIsoPeriod inst.val s.sec_ (s.fget CAN_PROBE.ISO_PERIOD_S inst.val) = true) (hready : s.isoReady inst.val = true) :
    ∃ t, execIsoPeriodExpired inst s = .next t ∧ t.fon CAN_STAT.ISO_BUSY inst.val = true ∧ t.canState inst.val = canPROBE := by
  have hready' : (s.timerStart tmIsoPeriod inst.val s.sec_).isoReady inst.val = true := hready
  refine ⟨_, congrArg Host.Outcome.next (if_pos (by rw [hdue, decide_eq_true hperiod]; rfl)), ?_⟩
  rw [State.isoRequest_starts hready']
  obtain ⟨hbusy, hstate, -, -⟩ := (s.timerStart tmIsoPeriod inst.val s.sec_).isoStart_shows inst.val
  exact ⟨hbusy, hstate⟩

/-- A window that ends gives back the state before it, unless the next one follows at once, and stores what it measured. -/
theorem execIsoWindowEnd_shows {inst : Fin 32} (bad : Bool) (hbusy : s.fon CAN_STAT.ISO_BUSY inst.val = true)
    (hdue : s.timerDue tmIso inst.val s.ms (s.fget CAN_PROBE.ISO_WIN_MS inst.val) = true) :
    ∃ t, execIsoWindowEnd inst bad s = .next t ∧
      (t.fon CAN_STAT.ISO_BUSY inst.val = false → t.canState inst.val = (s.canRt inst.val).preIso % 16) ∧
      (bad = true → t.driven 98 = true) ∧ t.can.iso = (s.isoFinish inst.val).can.iso := by
  obtain ⟨hwindow, hrt, hiso⟩ := s.isoFinish_leaves inst.val bad
  have hstopped := State.canState_isoStop (hwindow.trans hbusy)
  rw [hrt] at hstopped
  have hkept : IsoKept ((s.isoFinish inst.val).mapParity bad) (((s.isoFinish inst.val).mapParity bad).isoStop inst.val) := IsoKept.refl.isoStop
  have hdriven : bad = true → ((s.isoFinish inst.val).mapParity bad).driven 98 = true := fun hbad => by
    rw [State.mapParity, if_pos hbad, State.driven_drive]
  refine ⟨_, congrArg Host.Outcome.next (if_pos (by rw [hbusy, hdue]; rfl)), ?_⟩
  dsimp only
  split
  · have hagain := hkept.isoRequest (n := inst.val)
    refine ⟨fun hidle => ?_, fun hbad => (hagain.driven 98).trans (hdriven hbad), hagain.iso.trans hiso⟩
    obtain hnext | hregs := State.isoRequest_cases (((s.isoFinish inst.val).mapParity bad).isoStop inst.val) inst.val
    · exact absurd (hnext.symm.trans hidle) (by decide)
    · rw [State.canState, State.fget_of_regs hregs, ← State.canState, hstopped]
  · exact ⟨fun _ => hstopped, fun hbad => (hkept.driven 98).trans (hdriven hbad), hkept.iso.trans hiso⟩

/-- Settles O13: each write of the register bus and each end of a window from the rules above. -/
theorem cancellerControlWrites : Obligations.CancellerControlWrites := by
  refine ⟨fun who s h hp hpause hfits hquiet hup => execCanEnable_ends h hp hpause hfits hquiet hup,
    fun who s h hp hpause hfits hquiet hwas => execCanDisable_ends h hp hpause hfits hquiet hwas,
    fun who mode s h hp hpause hfits hquiet => execCanModeWrite_ends h hp hpause hfits hquiet mode,
    fun who s h hp hpause hfits hstate hquiet => hstate ▸ execClearTaps_ends h hp hpause hfits hstate hquiet,
    fun who s h hp hpause hfits hquiet hready hup => execIsoReq_starts h hp hpause hfits hquiet hready hup,
    fun who reg v s u h hp hrange hmerge hfits => execCanBasicWrite_ends h hp hrange hmerge hfits,
    fun inst s hheld hready => execIsoWindowStart_shows hheld hready,
    fun inst s hperiod hdue hready => execIsoPeriodExpired_shows hperiod hdue hready,
    fun inst bad s hbusy hdue => execIsoWindowEnd_shows bad hbusy hdue,
    fun inst bad s k r e hbusy hdue hcovered he => ?stores,
    fun who s h hp hpause hfits hquiet hdown hwas hidle => execCanEnable_lost h hp hpause hfits hquiet hdown hwas hidle,
    fun who s h hp hpause hfits hquiet hready hon hup => execIsoReq_held h hp hpause hfits hquiet hready hon hup,
    fun who s h hp hpause hstate => ⟨_, rfl, ?locked⟩⟩
  case stores =>
    obtain ⟨t, hexec, -, -, hiso⟩ := execIsoWindowEnd_shows bad hbusy hdue
    rw [State.can_isoFinish, State.isoStored, hcovered] at hiso
    refine ⟨t, hexec, fun hsrc => ?_, fun _ hless => ?_, fun hsrc hge hold => ?_⟩
    · exact State.isoOf_of_some (hiso ▸ State.isoStore_takes he (.inl hsrc))
    · exact State.isoOf_of_some (hiso ▸ State.isoStore_takes he (.inr (.inl hless)))
    · refine State.isoOf_kept (hiso.trans (congrArg (fun u => u.can.iso) (State.isoStore_keeps he ?_))) hold
      rintro (h | h | h)
      · omega
      · omega
      · exact hold h
  case locked => exact State.access_clear_locked h hp hpause (asks_clear rfl) hstate

end Sys2Proof.Machine
end
